-- ==== Sys2Proof/Word.lean ====
section
/-! DEFINITION. The words of the stack: the widths the manual uses for registers, addresses and units, and their plainest arithmetic. -/

namespace Sys2Proof

/-- One byte. -/
abbrev Byte := BitVec 8
/-- One 32-bit management register (R10, R466). -/
abbrev Word := BitVec 32
/-- One 64-byte block of data (R226), byte j in bits [8j+7:8j]. -/
abbrev Block := BitVec 512
/-- A temperature: 11-bit two's complement in 0.25 °C units (R363). -/
abbrev Temp := BitVec 11

/-- Port number p, 0 to 15. -/
abbrev PortId := Fin 16
/-- Lane number l within a port, 0 to 3 (lane n = 4p + l). -/
abbrev LaneId := Fin 4
/-- Channel number n, 0 to 15. -/
abbrev ChanId := Fin 16
/-- Glove pair number, 0 to 7 (R15). -/
abbrev PairId := Fin 8
/-- Pseudo-channel number q = 2c + pc, 0 to 31 (R220). -/
abbrev PcId := Fin 32
/-- Layer index k − 1 of layer Lk, 0 to 17. -/
abbrev LayerId := Fin 18
/-- Logical rank r, 0 to 15 (R219). -/
abbrev RankId := Fin 16
/-- Bank number within a slice, 0 to 15. -/
abbrev BankId := Fin 16
/-- Row number within a bank, 0 to 16,383. -/
abbrev RowId := Fin 16384
/-- Block number within a row, 0 to 15 (R226). -/
abbrev BlockId := Fin 16
/-- Fault source number, 0 to 255 (R411). -/
abbrev SrcId := Fin 256
/-- A partner's tag, 0 to 1,023. -/
abbrev TagId := BitVec 10

/-- Increment that stays at the top value: the manual's "saturating" counters. -/
def satInc {w : Nat} (x : BitVec w) : BitVec w := if x = BitVec.allOnes w then x else x + 1

/-- Saturating addition of a count. -/
def satAdd {w : Nat} (x : BitVec w) (n : Nat) : BitVec w :=
  BitVec.ofNat w (min (x.toNat + n) (2 ^ w - 1))

/-- A count as a register field that saturates at the field's top value. -/
def satOf (w n : Nat) : BitVec w := BitVec.ofNat w (min n (2 ^ w - 1))

/-- One bit as a one-bit field. -/
def bit (b : Bool) : BitVec 1 := if b then 1 else 0

/-- The value of a two's complement temperature in 0.25 °C units. -/
def Temp.val (t : Temp) : Int := t.toInt

/-- A temperature in whole degrees as a value in 0.25 °C units. -/
def degC (n : Int) : Int := 4 * n

end Sys2Proof
end

