-- ==== Sys2Proof/Syntax.lean ====
section
/-! DEFINITION. The commands of the block: one constructor of Instr for each row of spec/opcode_table.json, and the types of their operands. What an operand carries is what the environment supplies at that event (log 2). -/

namespace Sys2Proof

/-- A two-wire view (R464, R465): the whole stack, or the partition of one port. -/
inductive View where
  | whole
  | port (p : PortId)
deriving DecidableEq, Repr

/-- A slice: one layer's part of one pseudo-channel (chapter 10). -/
structure SliceRef where
  q : PcId
  k : LayerId
deriving DecidableEq, Repr

/-- A sensor of R363. -/
inductive SensorId where
  | layerA (k : LayerId)
  | layerB (k : LayerId)
  | base (s : Fin 16)
deriving DecidableEq, Repr

/-- One conversion: the sensor and its reading, or none for a failed conversion (R365). -/
structure SensorReading where
  sensor : SensorId
  value : Option Temp
deriving DecidableEq, Repr

/-- A cell of a row (position 0 to 9,727 along the wordline, R295) that the physics changed since the row was last
open, and the value it now reads. -/
structure CellChange where
  cell : Fin 9728
  value : Bool
deriving DecidableEq, Repr

/-- One row of the OTP, its 64 bits as read at both margins (R128, R131). -/
structure OtpRow where
  row : Fin 512
  normal : BitVec 64
  strict : BitVec 64
deriving DecidableEq, Repr

/-- What is fixed in the base die and not given by the manual (log 15): the column of check bits of each data bit in the extended
Hamming code of the OTP rows (R129), and the vendor key (R112). -/
structure DieRom where
  code : List (BitVec 8)
  vendorKey : BitVec 544
deriving DecidableEq, Repr

/-- What the IDENT and TRIM segments hold, where their encoding is not given by the manual (log 15). -/
structure Identity where
  /-- 128-bit device identifier. -/
  deviceId : BitVec 128
  /-- CAP_PART code: 1 CML1618, 2 CML1617, 3 CML1616N, 4 CML0809. -/
  part : BitVec 8
  /-- CAP_LAYER_FITTED. -/
  fitted : BitVec 18
  /-- The liner layers, in ascending layer order. -/
  liners : List LayerId
  /-- The rank map: layer of slice (q, r) is entry 16q + r. -/
  rankMap : List LayerId
  /-- DIE_REV. -/
  dieRev : BitVec 4
  /-- The 68-byte identity public key as 17 words. -/
  pubKey : List Word
  /-- The impedance codes of the OTP trims (R409). -/
  zqTx : BitVec 6
  zqRx : BitVec 6
deriving DecidableEq, Repr

/-- What BOOT step 4 reads from the fuses (R131): every row, the LEAF counter's and the control fields' among them. Rows that are not
listed are blank. -/
structure OtpReadout where
  rows : List OtpRow
  rom : DieRom
  ident : Identity
deriving DecidableEq, Repr

/-- A directory entry of an image body (chapter 04). -/
structure DirEntry where
  typ : BitVec 16
  inst : BitVec 8
  version : BitVec 8
  offset : Word
  length : Word
  reserved : Word
deriving DecidableEq, Repr

/-- A section as it lies in the body: its directory entry and its words (little-endian, R110). -/
structure ImageSection where
  dir : DirEntry
  words : List Word
deriving DecidableEq, Repr

/-- One image copy as the NVM controller reads it (R111). -/
structure ImageCopy where
  magic : Word
  format : BitVec 16
  headerLen : BitVec 16
  sequence : Word
  bodyLen : Word
  part : BitVec 8
  signer : BitVec 8
  sectionCount : BitVec 16
  /-- Reserved header bytes 0x14 to 0x1F and 0x84 to 0xFF. -/
  reserved : BitVec 1088
  bodyDigest : BitVec 256
  signerKey : BitVec 544
  /-- The 2,820 bytes of the signature at copy offset 0x0100. -/
  signature : List Byte
  /-- The body's words from copy offset 0x1000. -/
  body : List Word
deriving DecidableEq, Repr

/-- One signature that the hash engine finds to verify: public key, message, signature. The XMSS algorithm is named and not given by the
manual, so which triples verify comes with the reads (log 3). -/
structure SigCheck where
  key : BitVec 544
  message : List Byte
  signature : List Byte
deriving DecidableEq, Repr

/-- What BOOT step 5 finds in the flash: a copy, or none where its read failed or no SFDP device was found (cause 0x9). -/
structure NvmRead where
  copyA : Option ImageCopy
  copyB : Option ImageCopy
  /-- Quad mode is enabled in the device (R107). -/
  quadOk : Bool
  /-- FACTORY_EN as sampled at the start of step 5 (R91). -/
  factoryEn : Bool
  /-- The signatures that verify. -/
  verified : List SigCheck
deriving DecidableEq, Repr

/-- A journal record as it lies in the flash (R149). -/
structure JournalRecord where
  sector : Fin 2048
  /-- Offset in the sector, a multiple of 16. -/
  offset : BitVec 12
  commit : Byte
  kind : Byte
  inst : Byte
  seq : Word
  boot : Word
  payload : List Byte
  /-- CHECK as it lies in the flash, little-endian. -/
  check : BitVec 64
deriving DecidableEq, Repr

/-- What lies in the journal region at BOOT step 6 (R88, R149): every record, committed or not, in ascending address order. -/
structure JournalRead where
  records : List JournalRecord
  /-- The head sector holds programmed bytes behind its records that have not even a record's form (R153). -/
  torn : Bool
deriving DecidableEq, Repr

/-- A measurement of ZQ_EXT in milliohms and the codes the calibration asks for (R409). -/
structure ZqMeas where
  milliohm : Nat
  tx : BitVec 6
  rx : BitVec 6
deriving DecidableEq, Repr

/-- The entropy source at a key draw: its output and whether it passed the health tests (R225). -/
structure KeyDraw where
  raw : List Byte
  healthy : Bool
deriving DecidableEq, Repr

/-- A field entry of a layer's antifuse array as read at both margins (R147): entry word in [31:0], commit byte in [39:32], lock bit
[40]. -/
structure AfRead where
  layer : LayerId
  place : Fin 256
  normal : BitVec 41
  strict : BitVec 41
deriving DecidableEq, Repr

/-- A spare row that a layer's manufacture map has in use (R147, R340): bank, failed row, spare index. -/
structure MadeSpare where
  bank : BankId
  row : BitVec 14
  index : Fin 32
deriving DecidableEq, Repr

/-- Layer initialisation at BOOT step 8 (R92, R223, R364). -/
structure LayerInitRead where
  key : KeyDraw
  /-- Layers that fail initialisation. -/
  failed : List LayerId
  readings : List SensorReading
  /-- VREF_EXT measured, in 0.5 mV units. -/
  vref : BitVec 12
  /-- Manufacture bins other than B0: slice, bank, subarray, bin (R318). -/
  bins : List (SliceRef × BankId × Fin 32 × BitVec 2)
  /-- The manufacture spare-row map (R147). -/
  map : List (SliceRef × MadeSpare) := []
  /-- Field entries that do not read as they were burnt (R147). -/
  fuses : List AfRead := []
deriving DecidableEq, Repr

/-- Which TSV a lane isolation names (R337). -/
structure TsvRef where
  group : BitVec 2
  lane : BitVec 6
  /-- Lowest layer at which the fault was seen. -/
  layer : LayerId
deriving DecidableEq, Repr

/-- TSV training at BOOT step 10 (R94, R95). -/
structure TrainRead where
  /-- Pseudo-channels whose read-back check of restored settings failed. -/
  checkFailed : List PcId
  /-- Pseudo-channels that fail full training, with the TSV found. -/
  failed : List (PcId × TsvRef)
  /-- Of those, the pseudo-channels that still fail after steering. -/
  stillFailed : List PcId
deriving DecidableEq, Repr

/-- What a near-end loop of a port finds (R176, R177): whether it passes, and the bit errors of the checker, by lane. -/
structure LoopResult where
  pass : Bool
  errors : List Nat
deriving DecidableEq, Repr

/-- A parallel loop that software asks for (R177): the lanes it names, and the bit errors of the checker, by lane. -/
structure LoopRun where
  lanes : BitVec 4
  errors : List Nat
deriving DecidableEq, Repr

/-- What is read of a liner slice that comes into use (R147, R318): manufacture bins other than B0, the spare rows of manufacture, and
the antifuse entries of its layer. -/
structure LinerRead where
  bins : List (BankId × Fin 32 × BitVec 2)
  map : List MadeSpare
  fuses : List AfRead
deriving DecidableEq, Repr

/-- What the receiver of a lane delivers in SYMLOCK (R167, R168): bits in order of arrival, enough for four consecutive alignment blocks
at any boundary, and when the first of them arrived, in UI of two bits on a clock that the lanes of the port share. -/
structure LaneFound where
  lane : LaneId
  stream : BitVec 3210
  arrival : Nat
deriving DecidableEq, Repr

/-- A request header (R183) without its opcode, which the command gives. -/
structure ReqHeader where
  tag : BitVec 10
  label : BitVec 6
  deadline : BitVec 8
  block : BitVec 34
  length : BitVec 3
  flags : BitVec 6
  reserved : BitVec 8
  hcheck : BitVec 16
deriving DecidableEq, Repr

/-- A DATA slot of write data (R185). -/
structure DataSlot where
  dir : Bool
  part : Bool
  tag : BitVec 10
  status : BitVec 4
  mask : BitVec 64
  reserved : BitVec 14
  data : Block
deriving DecidableEq, Repr

/-- What a port receives (R170 to R172, R174): the symbols that the lanes delivered, by lane of the port, for one transmission of
codewords; or what the FEC decoder hands over: a flit of 1,280 bits with the corrected symbols per lane, or an uncorrectable codeword
with the number of flits it carried; or, in compatibility mode, what stood at the place of an alignment marker, by lane. `seqLost` says
whether a SEQ flit was among what cannot be corrected. -/
inductive RxCodeword where
  | lanes (symbols : List (List (BitVec 10))) (seqLost : Bool)
  | flit (bits : BitVec 1280) (corrected : List Nat)
  | uncorrectable (flits : Nat) (seqLost : Bool)
  | marker (blocks : List (BitVec 640))
deriving DecidableEq, Repr

/-- An AUDIT message of the partner (R186, R203). -/
structure AuditMsg where
  id : BitVec 16
  sent0 : BitVec 16
  sent1 : BitVec 16
  sent2 : BitVec 16
  ret0 : BitVec 16
  ret1 : BitVec 16
  ret2 : BitVec 16
  tagOpen : BitVec 16
  tagClose : BitVec 16
deriving DecidableEq, Repr

/-- A width message (R186): WIDTH as in PORT_LINK_STATUS, LANES and SWITCH_SEQ. -/
structure WidthMsg where
  width : BitVec 2
  lanes : BitVec 4
  switchSeq : BitVec 12
deriving DecidableEq, Repr

/-- How a read burst crossed the TSVs (R283, R284): clean, clean after one resend, or failing again with the
transfer-flagged bytes. -/
inductive BurstXfer where
  | clean
  | retried
  | failed (bytes : BitVec 64)
deriving DecidableEq, Repr

/-- One calibration micro-step (R286): whether its item shows a usable eye, and the setting it applies. -/
structure CalStep where
  eye : Bool
  setting : BitVec 12
deriving DecidableEq, Repr

/-- Which row a REFPB refreshes (R325): a row of the schedule, or the physical neighbour of an aggressor row. -/
inductive RefKind where
  | normal
  | lower
  | upper
deriving DecidableEq, Repr

/-- The command whose parity a slice reports (R267, R283): the column command or the ACT of the oldest burst in flight, the
REFPB of a bank, or an engine command (CAL, PAUSE, power-down, self-refresh, MRW). -/
inductive CmdRef where
  | column
  | row
  | refresh (k : LayerId) (b : BankId)
  | engine
deriving DecidableEq, Repr

/-- The physics of one row burn (R143, R144): VPP_FUSE in millivolts and the number of pulses after which the verify
passes, if within four. -/
structure BurnTry where
  vppMilliVolt : Nat
  pulses : Option (Fin 4)
deriving DecidableEq, Repr

/-- How a journal write ended (R151, R157). -/
inductive WriteOutcome where
  | committed
  | failed
deriving DecidableEq, Repr

/-- What an event of a detector names (R422, R427). -/
structure EventDetail where
  port : Option PortId := none
  tag : BitVec 10 := 0
  channel : Option ChanId := none
  pc : Bool := false
  layer : Option LayerId := none
  bank : Option BankId := none
  row : BitVec 14 := 0
  block : BitVec 4 := 0
  cause : BitVec 8 := 0
  temp : Temp := 0
deriving DecidableEq, Repr

/-- What the AON self-check finds to disagree (R430). -/
inductive AonItem where
  | graveCopy (i : Fin 3)
  | wake
  | maddr
  | retention
deriving DecidableEq, Repr

/-- A partition's end in a BIST slot (R489, R490). -/
structure PartEnd where
  part : Fin 20
  signature : BitVec 64
  durationUs : BitVec 16
deriving DecidableEq, Repr

/-- Blocks of the gating index and the handshake (R392, R408). -/
abbrev GateId := Fin 41

/-- The commands of the block, in the order of spec/opcode_table.json. -/
inductive Instr where
  | pwrgoodHigh (maddr : BitVec 3)
  | pwrgoodLow
  | resetNHigh
  | vcoreOkHigh
  | vcoreOkLow
  | vcoreRaiseTimeout
  | fastRcStable
  | otpShadowLoad (r : OtpReadout)
  | imageSelection (n : NvmRead)
  | journalScan (j : JournalRead)
  | pllLock (zq : ZqMeas)
  | pllLockTimeout (refclkAbsent : Bool)
  | layerInit (r : LayerInitRead)
  | keyDrawFallback (raw : List Byte)
  | thermalGate (t : List SensorReading)
  | tsvTraining (r : TrainRead)
  | lockstepMismatch
  | supervisorRestartDone
  | supervisorRestartOverrun
  | engineWatchdogExpiry (n : ChanId)
  | controllerCheckerFault (n : ChanId)
  | takeoverOverlapEnd (g : PairId)
  | clockLoss (pllOnly : Bool)
  | refclkWaitTimeout
  | portPllLockLoss (p : PortId)
  | receiverDetectPulse (p : PortId) (term : BitVec 4)
  | trainComplete (p : PortId)
  | trainTimeout (p : PortId) (trained : BitVec 4)
  | bitlockAcquired (p : PortId) (locked polInv : BitVec 4)
  | bitlockTimeout (p : PortId)
  | symlockComplete (p : PortId) (found : List LaneFound)
  | symlockTimeout (p : PortId) (found : List LaneFound)
  | capxMessage (p : PortId) (msg : BitVec 128)
  | capxTimeout (p : PortId)
  | backoffEnd (p : PortId)
  | laneFailure (p : PortId) (lanes : BitVec 4)
  | widthChangeTimeout (p : PortId)
  | nearEndLoopResult (p : PortId) (result : LoopResult)
  | partnerRetrain (p : PortId)
  | hushMarker (p : PortId)
  | farEndLoopEnd (p : PortId)
  | flitReceived (p : PortId) (rx : RxCodeword)
  | retryReqResend (p : PortId)
  | rd64 (p : PortId) (h : ReqHeader)
  | rd128 (p : PortId) (h : ReqHeader)
  | wr64 (p : PortId) (h : ReqHeader)
  | wrm64 (p : PortId) (h : ReqHeader)
  | fill (p : PortId) (h : ReqHeader)
  | writeData (p : PortId) (d : DataSlot)
  | mread (p : PortId) (h : ReqHeader)
  | mattest (p : PortId) (h : ReqHeader) (nonce : BitVec 256)
  | init (p : PortId) (g0 g1 g2 tags : BitVec 16)
  | initResend (p : PortId)
  | initTimeout (p : PortId)
  | retryReq (p : PortId) (next ack : BitVec 12)
  | replayTimeout (p : PortId)
  | credit (p : PortId) (r0 r1 r2 : BitVec 16)
  | creditReturnDue (p : PortId)
  | responseSend (p : PortId)
  | vc1CreditStall (p : PortId)
  | audit (p : PortId) (m : AuditMsg)
  | auditTimeout (p : PortId)
  | resyncAck (p : PortId) (next : BitVec 12) (g0 g1 g2 : BitVec 16)
  | resyncResend (p : PortId)
  | widthChange (p : PortId) (m : WidthMsg)
  | widthAck (p : PortId) (m : WidthMsg)
  | doze (p : PortId) (rung : Byte)
  | budgetWindowBoundary (p : PortId)
  | gauntletReexamine (p : PortId)
  | deadlineExpiry (p : PortId) (tag : BitVec 10)
  | deadlineCreditEarn (q : PcId) (r : RankId) (b : BankId)
  | grantAudit (q : PcId)
  | reservePeriodAudit (q : PcId)
  | activationIssue (q : PcId) (changes : List CellChange)
  | pause (q : PcId) (k : LayerId) (b : BankId)
  | readBurstReturn (q : PcId) (x : BurstXfer)
  | chkResult (q : PcId)
  | writeErrorReport (q : PcId)
  | commandParityReport (q : PcId) (c : CmdRef)
  | writeDrainComplete (q : PcId)
  | rowCloseTimeout (q : PcId) (k : LayerId) (b : BankId)
  | slicePowerDown (q : PcId) (k : LayerId)
  | calMicroStep (q : PcId) (r : CalStep)
  | refreshIssue (q : PcId) (k : LayerId) (b : BankId) (row : RowId) (kind : RefKind)
  | refreshComplete (q : PcId) (k : LayerId) (b : BankId) (changes : List CellChange)
  | rfmRequestReport (q : PcId) (k : LayerId)
  | hatboxRead (n : ChanId) (unreadable : List SliceRef)
  | hatboxEntryService (n : ChanId)
  | selfRefreshSensorRead (k : LayerId) (a b : Option Temp)
  | spareRowAssign (n : ChanId)
  | tsvSteering (q : PcId) (found : Option TsvRef)
  | bankMapOut
  | rankRetirement
  | layerRetirement
  | linerIntoUse (q : PcId) (read : LinerRead)
  | rowCopy (q : PcId)
  | arraySetDone
  | layerAntifuseBurn (t : BurnTry) (layerTemp : Temp)
  | fieldFrameBurn (t : BurnTry)
  | burnResume
  | shadowParityError (row : Fin 480) (retentionBad : Bool)
  | journalRecordWrite (o : WriteOutcome)
  | wearAccrual
  | wearLedgerDue
  | thermalSample (t : List SensorReading)
  | tripRecordTimeout
  | modelUpdate
  | sensorCalibration (vref : BitVec 12)
  | zqCalibration (zq : ZqMeas)
  | aonClockDiscipline (ppm : BitVec 16)
  | portIdleDescent (p : PortId)
  | portActivityExit (p : PortId)
  | retainIdleExpiry
  | entryComplete
  | entryDelayLimit (b : GateId)
  | entryRetry
  | dwellP3Expiry
  | dwellP4Expiry
  | wakeNLow
  | portActivityWake (p : PortId)
  | ladderTimerWake
  | thermalWake (k : LayerId)
  | faultWake (src : Option SrcId)
  | twoWireWake
  | wakeExitComplete (key : KeyDraw) (t : List SensorReading)
  | housekeepingDone
  | wakeCauseHandled
  | crossbarParityError (p : PortId) (tag : BitVec 10) (second : Bool)
  | faultRegistration (src : SrcId) (d : EventDetail)
  | faultWindowExpiry (src : SrcId)
  | aonSelfCheck (bad : List AonItem)
  | collectorSweep (bad : List (SrcId × BitVec 3))
  | traversalBuilt (authOk : Bool)
  | reportSigned (t : BurnTry)
  | allowanceGain
  | shdnReqNLow
  | bistSlotEnd (ends : List PartEnd)
  | shutdownDeadline
  | mbAddressByte (addr : BitVec 7) (read : Bool)
  | mbRegisterAddress (a : BitVec 24)
  | registerWrite (data : Word) (pec : Byte)
  | readClear
  | pmcCycleLoRead (set : Fin 32)
  | mbTransferEnd (insideByte sending : Bool) (start : Bool)
  | longOpEnd
  | longOpBound
  | attentionRequest (sdaHigh : Bool)
  | attentionSclFall (afterTenMicros won accepted : Bool)
  | attentionUnserved
  | sclTimeout
  | sdaReleaseTimeout
  | moveToRetain
  | returnToService
  | descendNow
  | retrain (p : PortId)
  | down (p : PortId) (level : Bool)
  | nearEndSerialLoop (p : PortId) (prbs31 : Bool) (lanes : BitVec 4) (errors : List Nat)
  | nearEndParallelLoop (p : PortId) (prbs31 : Bool) (run : LoopRun)
  | farEndLoop (p : PortId) (prbs31 : Bool) (lanes : BitVec 4)
  | fenceLift (p : PortId)
  | portFence (p : PortId)
  | fltForce (src : SrcId)
  | fltClear (src : SrcId)
  | pmcClear (set : Fin 32)
  | recalibrationGo (n : ChanId) (pc : Bool) (layer : BitVec 5)
  | predictorReset (n : ChanId)
  | xlate
  | repCmdMapOut (channel : ChanId) (pc : Bool) (layer : BitVec 5) (bank : BankId)
  | repCmdRetireRank (channel : ChanId) (layer : BitVec 5)
  | repCmdRetireLayer (layer : BitVec 5)
  | otpBurn (t : BurnTry)
  | applyOverride
  | clearOverrides
  | journalFlush
  | journalRead
  | attReportRequest
  | bistShutdownGo
  | bistPartitionGo (mask : BitVec 20)
  | trstNLow
  | bypass
  | idcode
  | samplePreload
  | extest
  | clamp
  | highz
  | extestPulse
  | extestTrain
  | dieSelect (layers : BitVec 18)
  | dieAccess (data : List (LayerId × Word))
  | resetNLow
  | schedulerTick
deriving DecidableEq, Repr

end Sys2Proof
end

