-- ==== Sys2Proof/Config.lean ====
section
/-! DEFINITION. What an implementation fixes and the manual does not: the uninterpreted functions of the model (opaque, no value of them can be proved), and the constants of the base die. -/

namespace Sys2Proof.Config

/-- The temperatures the RC network of R366 gives when it is advanced by one 10 µs step: for node `i` of layer index `k`
(16 column nodes), from the counts of the last step by slice and kind of work, the nodes before, the lower and the upper
boundary. The energies, resistances and capacitances lie in the TRIM segment and are not given by the manual (log 12). -/
opaque thermalNode (k i : Nat) (work : List (Nat × Nat)) (nodes : List Int) (lower upper : List Int) : Int

/-- The model's power of layer index `k` over the last 10 ms, in mW, from the counts of each of its steps, used by the
neighbour bound of R369 (log 12). -/
opaque layerPower (k : Nat) (work : List (List (Nat × Nat))) : Nat

/-- The model's node at the site of base-die sensor `s` (R366, R371; log 12). -/
opaque baseNode (s : Nat) (work : List (Nat × Nat)) (nodes : List Int) (lower upper : List Int) : Int

/-- The model's value at sensor site A (`false`) or B (`true`) of layer index `k`, from the layer's 16 nodes
(R366: sites above channel columns 5 and 10; how a site's value follows from the nodes is not given; log 12). -/
opaque siteValue (k : Nat) (b : Bool) (nodes : List Int) : Int

/-- Byte `i` of the XMSS-SHAKE_20_256 signature of leaf `leaf` over a body (R455): the secret seeds are not in the
manual (R447), so the signature is uninterpreted (log 13). -/
opaque xmssSignature (leaf : Nat) (body : List (BitVec 8)) (i : Nat) : BitVec 8

/-- Node `j` (32 bytes, one number) of the authentication path of leaf `leaf` (R448; log 13). -/
opaque xmssAuth (leaf j : Nat) : BitVec 256

/-- The vendor-only production-test controls of block 0x0F other than BIST_FAC_STATUS (R495): what a read of offset
`off` returns in FACTORY is not given; `n` is the count of free values drawn so far (log 14). -/
opaque factoryRead (off n : Nat) : BitVec 32

/-- ROLE in the capability messages that port `p` of the stack sends: R169 names the codes and not the stack's own
(log 17). -/
opaque ownRole (p : Nat) : BitVec 2

/-- Bytes that a read carries where the manual does not say what they hold: bytes that failed on the TSVs as received
(R284), and the data of a read whose command failed three times; `n` is the count of free values drawn so far (log 18). -/
opaque strayBlock (n : Nat) : BitVec 512

/-- The setting of receiver `i` that a full training or a recalibration of slice (q, k) finds, where no command gives it;
`n` is the count of free values drawn so far (log 19). -/
opaque trainedSetting (q k i n : Nat) : BitVec 12

/-- The row, by its place in subarray `sub`, on the lower (`false`) or upper (`true`) side of the wordline that serves row
`row` of bank `b` of slice (q, k); none at the subarray's edge: the order of wordlines is internal to a layer (R325;
log 20). -/
opaque neighbour (q k b sub row : Nat) (upper : Bool) : Option (Fin 512)

/-- Block `b` of the gating index has its clocks stopped, where its enable lets them stop: R408 permits gating and does not
say when it is done; `n` is the count of free values drawn so far (log 21). -/
opaque gated (b n : Nat) : Bool

/-- How a burn asked for by a written word goes: VPP_FUSE in millivolts, and the pulses until the verify passes (R143, R144), where
no command carries them; `n` is the count of free values drawn so far (log 68). -/
opaque burnVpp (n : Nat) : Nat
opaque burnPulses (n : Nat) : Option (Fin 4)

/-- The bit errors that the checker of lane `l` counts in a near-end loop of port `p` (R177), where no command carries them; `n` is
the count of free values drawn so far (log 68). -/
opaque loopErrors (p l n : Nat) : Nat

/-- ENGINE_ABI, a ROM constant of every part (R497, ENGINE_ABI table of 21). -/
def engineAbi : BitVec 32 := 0x00010000

/-- Unit-interval constants of the IDCODE of R493: part field [27:12], manufacturer field [11:1]. -/
def idcodePart : BitVec 16 := 0xC161
/-- The manufacturer field [11:1] of IDCODE (R493). -/
def idcodeMaker : BitVec 11 := 0x5A3

end Sys2Proof.Config
end

