-- ==== Sys2Proof/Machine/Keccak.lean ====
section
/-! DEFINITION. SHAKE256 (FIPS 202), which the manual names for every digest (R111, R149, R225, R289, R455), and the CRCs of flits, headers and capability messages (R169, R180, R183). -/

namespace Sys2Proof.Machine

/-! ## SHAKE256

The manual names SHAKE256 for the body of an image, for keys, segments, records and reports. The 1,600 bits are one number here, lane
(x, y) at bits [64(x + 5y) + 63 : 64(x + 5y)], five planes of 320 bits, so a step works on all lanes at once. -/

/-- Bytes, least significant first, as one number. -/
def natOfBytes : List (BitVec 8) → Nat
  | [] => 0
  | b :: t => b.toNat + 256 * natOfBytes t

/-- A plane repeated in all five planes. -/
def planes (v : Nat) : Nat := v * (1 + 2 ^ 320 + 2 ^ 640 + 2 ^ 960 + 2 ^ 1280)

/-- A lane repeated in the five lanes of a plane. -/
def everyLane (v : Nat) : Nat := v * (1 + 2 ^ 64 + 2 ^ 128 + 2 ^ 192 + 2 ^ 256)

/-- A lane rotated upward by n bits. -/
def rotLane (v n : Nat) : Nat := (v <<< n) % 2 ^ 64 + v >>> (64 - n)

/-- Theta: each lane takes the column parity before it and the one after it, the latter rotated by one bit. -/
def theta (a : Nat) : Nat :=
  let c := (a ^^^ a >>> 320 ^^^ a >>> 640 ^^^ a >>> 960 ^^^ a >>> 1280) % 2 ^ 320
  let before := (c <<< 64) % 2 ^ 320 + c >>> 256
  let after := c >>> 64 + (c <<< 256) % 2 ^ 320
  let turned := ((after &&& everyLane (2 ^ 63 - 1)) <<< 1) + (after >>> 63 &&& everyLane 1)
  a ^^^ planes (before ^^^ turned)

/-- Rho and pi in one walk over the 24 lanes beside (0, 0): the lane met at the t-th place is rotated by (t + 1)(t + 2)/2 and stands
at the place that the walk reaches next. -/
def rhoPi (a : Nat) : Nat → Nat → Nat → Nat
  | 0, _, _ => a % 2 ^ 64
  | n + 1, x, y =>
    let t := 23 - n
    let v := rotLane (a >>> (64 * (x + 5 * y)) % 2 ^ 64) ((t + 1) * (t + 2) / 2 % 64)
    let y' := (2 * x + 3 * y) % 5
    rhoPi a n y y' + v <<< (64 * (y + 5 * y'))

/-- Every lane replaced by the next one of its plane. -/
def nextLane (a : Nat) : Nat :=
  (a >>> 64 &&& planes (2 ^ 256 - 1)) + ((a &&& planes (2 ^ 64 - 1)) <<< 256)

/-- Chi: a lane changes where the next one is 0 and the one after it is 1. -/
def chi (a : Nat) : Nat := a ^^^ ((2 ^ 1600 - 1 ^^^ nextLane a) &&& nextLane (nextLane a))

/-- A constant of iota from its code: bit j of the code stands at bit 2^j − 1. -/
def iotaWord (c : Nat) : Nat := (List.range 7).foldl (fun v j => v + (c >>> j % 2) <<< (2 ^ j - 1)) 0

/-- The codes of the 24 rounds. -/
def iotaCodes : List Nat :=
  [1, 26, 94, 112, 31, 33, 121, 85, 14, 12, 53, 38, 63, 79, 93, 83, 82, 72, 22, 102, 121, 88, 33, 116]

/-- The permutation of 1,600 bits. -/
def permute1600 (a : Nat) : Nat := iotaCodes.foldl (fun a c => chi (rhoPi (theta a) 24 1 0) ^^^ iotaWord c) a

/-- A message absorbed: whole blocks of 136 bytes, then the rest with the suffix of SHAKE and the last bit of the block. -/
def absorb : Nat → Nat → List (BitVec 8) → Nat
  | 0, a, l => permute1600 (a ^^^ (natOfBytes l + (0x1F <<< (8 * l.length)) ^^^ 0x80 <<< 1080))
  | n + 1, a, l => absorb n (permute1600 (a ^^^ natOfBytes (l.take 136))) (l.drop 136)

/-- SHAKE256 with a 256-bit output, byte 0 in bits [7:0]. -/
def shake256 (l : List (BitVec 8)) : BitVec 256 := BitVec.ofNat 256 (absorb (l.length / 136) 0 l)

/-! ## CRCs -/

/-- CRC-16, polynomial 0x1021, over bits most significant first in each byte (R169, R183). -/
def crc16Bits : Nat → BitVec 16 → BitVec 8 → BitVec 16
  | 0, c, _ => c
  | n + 1, c, b =>
    let fb := c.msb != b.msb
    crc16Bits n (if fb then (c <<< 1) ^^^ 0x1021 else c <<< 1) (b <<< 1)

/-- CRC-16 of bytes, initial value 0xFFFF. -/
def crc16 (l : List (BitVec 8)) : BitVec 16 := l.foldl (crc16Bits 8) 0xFFFF

/-- CRC-32 with reflected input and output, one byte (R180). -/
def crc32Bits : Nat → BitVec 32 → BitVec 8 → BitVec 32
  | 0, c, _ => c
  | n + 1, c, b =>
    let fb := c.getLsbD 0 != b.getLsbD 0
    crc32Bits n (if fb then (c >>> 1) ^^^ 0xEDB88320 else c >>> 1) (b >>> 1)

/-- CRC-32 of the IEEE 802.3 frame check sequence (R180). -/
def crc32 (l : List (BitVec 8)) : BitVec 32 := l.foldl (crc32Bits 8) 0xFFFFFFFF ^^^ 0xFFFFFFFF

end Sys2Proof.Machine
end

