-- ==== Sys2Proof/Machine/Tab.lean ====
section
/-! DEFINITION. Sparse tables: lists of key and value in one canonical form (keys strictly rising, no entry equal to what an unlisted key reads as), used for indexed state and for memory. -/

namespace Sys2Proof.Machine

/-- The value at key `k`; an unlisted key reads as `d`. -/
def tabGet {α : Type} (d : α) : List (Nat × α) → Nat → α
  | [], _ => d
  | (j, a) :: t, k => if j = k then a else tabGet d t k

/-- The table without key `k`. -/
def tabErase {α : Type} : List (Nat × α) → Nat → List (Nat × α)
  | [], _ => []
  | (j, a) :: t, k => if j = k then tabErase t k else (j, a) :: tabErase t k

/-- The table with a new entry before the first higher key. -/
def tabPut {α : Type} : List (Nat × α) → Nat → α → List (Nat × α)
  | [], k, a => [(k, a)]
  | (j, b) :: t, k, a => if k < j then (k, a) :: (j, b) :: t else (j, b) :: tabPut t k a

/-- The table with key `k` set to `a`; the value an unlisted key reads as removes the entry. -/
def tabSet {α : Type} [DecidableEq α] (d : α) (t : List (Nat × α)) (k : Nat) (a : α) : List (Nat × α) :=
  if a = d then tabErase t k else tabPut (tabErase t k) k a

/-- The canonical form: strictly rising keys, each above `lo`, no entry equal to its default. -/
def tabWfFrom {α : Type} [DecidableEq α] (d : Nat → α) : List (Nat × α) → Bool
  | [] => true
  | (k, a) :: t => decide (a ≠ d k) && t.all (fun e => decide (k < e.1)) && tabWfFrom d t

end Sys2Proof.Machine
end

