-- ==== Sys2Proof/Machine/State.lean ====
section
/-! DEFINITION. The state of the stack as plain data, the reasons a step can stop, and the state before power-up. Each field's comment names the rule that gives it. A default written after a field is its value while PWRGOOD is low and at the release of the AON, which is the reset value; registers the manual calls OTP or image read 0 until they are loaded (R497). -/

namespace Sys2Proof.Machine

/-- Why a step can stop with a fault. Nothing in the manual makes a command stop the block, so no meaning raises one. -/
inductive Fault where
  /-- A memory cell number outside the stack (R13): raised by no command, kept so that the type is not empty. Safe: no
  command reaches it. -/
  | noCell
deriving DecidableEq, Repr

/-- Why a step can refuse a command. -/
inductive Refusal where
  /-- The command has no meaning in the model yet. Raised by the arms of exec; safe: the machine stops. -/
  | notModelled (mnemonic : String)
deriving DecidableEq, Repr

/-- The six operating modes (R32). -/
inductive Mode where
  | boot | service | retain | hold | trip | factory
deriving DecidableEq, Repr

/-- Port link states (R164). -/
inductive Link where
  | off | detect | train | bitlock | symlock | capx | active | loop
deriving DecidableEq, Repr

/-- Opcodes of R184; any other code that a header carries. -/
inductive Op where
  | rd64 | rd128 | wr64 | wrm64 | fill | mread | mattest
  | other (code : Nat)
deriving DecidableEq, Repr

/-- Classes of service (R230 and the classes table). -/
inductive Cls where
  | g | p | b
deriving DecidableEq, Repr

/-- Response statuses (R185). -/
inductive Status where
  | ok | okCorrected | poison | windowFault | deadlineExpired | fenced | busy | unsupported | aborted
deriving DecidableEq, Repr

/-- CTRL messages the stack sends (R186). -/
inductive Msg where
  | init (g0 g1 g2 tags : Nat)
  | resyncReq (next reason : Nat)
  | resyncDone (next g0 g1 g2 : Nat)
  | retryReq (next : Nat)
  | widthChange (width lanes switchSeq : Nat)
  | widthAck (width lanes switchSeq : Nat)
  | credit (r0 r1 r2 : Nat)
  | audit (id s0 s1 s2 r0 r1 r2 tagOpen tagClose : Nat)
  | mgmtResp (tag : Nat) (status : Status) (last : Bool) (segment : Nat) (data : List Byte)
  | notice (source cls timeUs window : Nat)
deriving DecidableEq, Repr

/-- A slot of a flit the stack sends (R182, R183, R185): completion headers by opcode, tag and status. -/
inductive Slot where
  | completions (l : List (Nat × Nat × Status))
  | data (tag part : Nat) (status : Status) (block : Block)
  | ctrl (m : Msg)
  | idle
deriving DecidableEq, Repr

/-- What waits to be sent: its slot, the tag it closes and whether a bound applies to it (R176, R191). -/
structure OutItem where
  slot : Slot
  /-- The tag this slot closes (R191), if it is a final slot. -/
  closes : Option Nat := none
  /-- The time by which it must leave (R233); none where no bound applies. -/
  bound : Option Nat := none
  /-- Time the partner had withheld from the port when the request was latched, ns (R9, R237). -/
  base : Nat := 0
deriving DecidableEq, Repr

/-- What a port sends, oldest first: flits sent together and their codewords as they stand on the lanes of the port (R170, R171); a
capability message and its codewords (R169), noted as its content changes; alignment blocks, by lane: hush markers and wake preambles
(R385). -/
inductive WireItem where
  | flits (l : List (BitVec 1280)) (lanes : List (List (BitVec 10)))
  | capx (m : BitVec 128) (lanes : List (List (BitVec 10)))
  | blocks (lanes : List (List (BitVec 640)))
deriving DecidableEq, Repr

/-- What stands in a port's receive buffers (R188, R189): a header, a write-data slot or a message. `slotEnd` marks the
last item of its slot, with which the slot's credit becomes due. -/
inductive RxItem where
  | header (vc : Nat) (bits : BitVec 96) (slotEnd : Bool)
  | data (d : DataSlot)
  | msg (code : Nat) (payload : BitVec 608)
deriving DecidableEq, Repr

/-- Progress of a request (R191, R192, R31). -/
inductive Phase where
  /-- A write that waits for its DATA slot. -/
  | waitData
  /-- Passed to the gauntlet and not yet accepted. -/
  | waiting
  /-- Accepted. -/
  | latched
  /-- Its response is queued; the tag is open until the final slot leaves. -/
  | answered
  /-- A management request that waits its turn (R209). -/
  | mgmt
deriving DecidableEq, Repr

/-- An open request of a port (R191): what the header carried and how far the stack has brought it. -/
structure Req where
  tag : Nat
  op : Op
  label : Nat := 0
  /-- DEADLINE in 4 ns units, 0 none (R183). -/
  deadline : Nat := 0
  /-- Arrival (R235), ns. -/
  arrival : Nat := 0
  /-- BLOCK of the header (R183). -/
  block : Nat := 0
  len : Nat := 0
  noCorr : Bool := false
  /-- Device block address: device address / 64 (R216). -/
  dev : Nat := 0
  /-- MASK and data of its DATA slot (R192). -/
  mask : BitVec 64 := 0
  data : Block := 0
  phase : Phase := .waiting
  /-- Its DATA slot has arrived (R192). -/
  gotData : Bool := false
  /-- It has been held before (R438: a hold counts once). -/
  heldOnce : Bool := false
  /-- The class it is served in (R231, R263). -/
  cls : Cls := .b
  latchedAt : Nat := 0
  /-- What its bound gains because it arrived at a port at P2 or P3, ns (R237). -/
  exit : Nat := 0
  /-- The time its bound ends (R233). -/
  bound : Nat := 0
  /-- Time the partner had withheld from the port at the latch, ns (R9, R237). -/
  base : Nat := 0
  /-- Blocks or segments still to complete. -/
  todo : Nat := 0
  /-- Order of acceptance in the whole stack. -/
  serial : Nat := 0
  /-- PART 1 of an RD128, ready before PART 0 (R184). -/
  part1 : Option (Status × Block) := none
  nonce : BitVec 256 := 0
  /-- Its last examination: the changes counted then, and the tick (R250). -/
  looked : Option (Nat × Nat) := none
deriving DecidableEq, Repr

/-- A window of a port (R118, R501). -/
structure Window where
  valid : Bool := false
  rw : Bool := false
  localBase : Nat := 0
  tractBase : Nat := 0
  count : Nat := 0
deriving DecidableEq, Repr

/-- A contract of a port (R118, R265). -/
structure Contract where
  /-- 0 none, 1 G, 2 P, 3 B. -/
  cls : BitVec 2 := 0
  shedRank : BitVec 4 := 0
  pTarget : BitVec 8 := 0
  hatband : BitVec 8 := 0
  budget : Word := 0
deriving DecidableEq, Repr

/-- The per-lane registers of a port (R178). -/
structure Lane where
  slip : BitVec 4 := 0
  found : Bool := false
  polInv : Bool := false
  laneId : BitVec 2 := 0
  skew : BitVec 8 := 0
  prbsErr : Word := 0
  fecCorr : Word := 0
  /-- Symbols corrected on the lane in the last 1 ms: when and how many, newest first (R175). -/
  lately : List (Nat × Nat) := []
  /-- Alignment markers missed in a row (R174). -/
  missed : Nat := 0
deriving DecidableEq, Repr

/-- An AUDIT that the stack has sent and the partner has not answered (R203): its AUDIT_ID and when it was sent. -/
structure AuditOpen where
  id : BitVec 16
  sentAt : Nat
deriving DecidableEq, Repr

/-- Counts at a sequence point (R203): three counts by VC, and tags. -/
structure AuditPoint where
  v0 : BitVec 16 := 0
  v1 : BitVec 16 := 0
  v2 : BitVec 16 := 0
  tags : BitVec 16 := 0
deriving DecidableEq, Repr

/-- A SEQ flit in the replay buffer (R196, R199). -/
structure SentFlit where
  seq : Nat
  slots : List Slot
  /-- CREDIT field: VC and count, or none (R180). -/
  credit : Option (Nat × Nat)
  sentAt : Nat
  /-- Credits returned by VC and final slots sent, up to and with this flit (R203). -/
  point : AuditPoint := {}
deriving DecidableEq, Repr

/-- The PORT section of a port as its registers hold it (R501, R265). -/
structure PortCfg where
  /-- PORT_CFG.ENABLE (R501). -/
  enable : Bool := false
  /-- PORT_CFG.WIDTH_MAX (R501). -/
  widthMax : BitVec 2 := 0
  /-- PORT_CFG.FEC (R501). -/
  fecCfg : BitVec 2 := 0
  /-- PORT_CFG.RL1_COMPAT (R501). -/
  rl1Compat : Bool := false
  /-- PORT_CFG.FLOOR (R501, R383). -/
  floor : BitVec 2 := 0
  /-- PORT_CFG.ATTEST_PERIOD, s (R501, R210). -/
  attestPeriod : BitVec 8 := 0
  /-- PORT_HOLDOFF.FENCE_HOLDOFF, ms (R501, R213). -/
  holdoff : BitVec 16 := 0
  /-- PORT_WIN_A, PORT_WIN_B, by window (R501). -/
  windows : List (Nat × Window) := []
  /-- GNT_PORT_CFG.WINDOW_LEN, µs (R265). -/
  windowLen : BitVec 7 := 0
  /-- GNT_CONTRACT_A, GNT_CONTRACT_B, by label (R265). -/
  contracts : List (Nat × Contract) := []
deriving DecidableEq, Repr

/-- Link bring-up of a port (R164 to R178). -/
structure PortLnk where
  /-- A port-group partition failed at BIST: absent from capability exchange until the next boot (R89). -/
  bistOut : Bool := false
  /-- PORT_LINK_STATUS.STATE (R164, R178). -/
  link : Link := .off
  /-- PORT_LINK_STATUS.WIDTH (R178). -/
  width : BitVec 2 := 0
  /-- PORT_LINK_STATUS.FEC (R178). -/
  fec : BitVec 2 := 0
  /-- PORT_LINK_STATUS.RL1: the mode of the attempt or the session (R174, R178). -/
  rl1 : Bool := false
  /-- PORT_LINK_STATUS.LANES_ACTIVE (R178), in the lane numbers of the alignment blocks (R163). -/
  lanesActive : BitVec 4 := 0
  /-- Lanes that transmitted and received codewords are striped over; they follow lanesActive at a SWITCH_SEQ (R175, R208). -/
  txLanes : BitVec 4 := 0
  rxLanes : BitVec 4 := 0
  /-- Lanes still to be taken, and the SEQ flit, of the stack and of the partner, with which they are taken (R208). -/
  txNext : Option (BitVec 4 × BitVec 12) := none
  rxNext : Option (BitVec 4 × BitVec 12) := none
  /-- The width that a retrain started by the stack does not exceed (R176). -/
  widthCap : Option Nat := none
  /-- The retrain under way is caused by the partner's side (R9, R176, R200). -/
  theirs : Bool := false
  /-- The marker count of the last alignment marker received (R174). -/
  rxMarker : BitVec 10 := 0
  /-- PORT_LINK_STATUS.LANES_LOCKED (R178). -/
  lanesLocked : BitVec 4 := 0
  /-- Lanes that hold bit lock (R164). -/
  lanesBit : BitVec 4 := 0
  /-- Lanes that completed TRAIN (R166). -/
  lanesTrained : BitVec 4 := 0
  /-- Lanes present: a termination on two consecutive pulses (R164). -/
  lanesPresent : BitVec 4 := 0
  /-- Lanes that showed a termination on the last pulse (R164). -/
  lastTerm : BitVec 4 := 0
  /-- PORT_LINK_STATUS.CAUSE (R178). -/
  cause : BitVec 4 := 0
  /-- PORT_LINK_STATUS.ROLE (R178). -/
  role : BitVec 3 := 0
  /-- PORT_LINK_STATUS.BACKOFF (R165). -/
  backoff : Bool := false
  /-- Consecutive failed attempts (R165). -/
  fails : Nat := 0
  /-- Start of the current link state, ns (R164 timers). -/
  since : Nat := 0
  /-- PORT_LINK_CTRL.DOWN (R178). -/
  down : Bool := false
  /-- PORT_LINK_COUNT.FAILED (R178). -/
  cFailed : BitVec 12 := 0
  /-- PORT_LINK_COUNT.RETRAINS (R178). -/
  cRetrains : BitVec 8 := 0
  /-- PORT_LINK_COUNT.DEGRADES (R178). -/
  cDegrades : BitVec 6 := 0
  /-- PORT_LINK_COUNT.LATE (R176, R178). -/
  cLate : BitVec 6 := 0
  /-- PORT_ALIGN_CTRL.MANUAL (R178). -/
  manual : BitVec 4 := 0
  /-- PORT_BIT_SLIP, PORT_PRBS_ERR, PORT_LANE_FEC, by lane (R178). -/
  lanes : List (Nat × Lane) := []
  /-- PORT_LOOP.MODE (R177, R178). -/
  loopMode : BitVec 2 := 0
  /-- PORT_LOOP.PATTERN (R178). -/
  loopPattern : Bool := false
  /-- PORT_LOOP.LANES (R178). -/
  loopLanes : BitVec 4 := 0
  /-- PORT_FEC_UNCORR (R178). -/
  fecUncorr : Word := 0
  /-- The last capability message, how many identical ones in a row, and whether each echoed the stack's own (R169). -/
  capLast : BitVec 128 := 0
  capCount : Nat := 0
  /-- A retrain under way keeps its session (R206): 0 none, else the REASON cause of PORT_LINK_STATUS. -/
  retraining : Bool := false
  /-- The partner started the retrain (R213). -/
  partnerStarted : Bool := false
  /-- A width change announced and not yet answered: width, lanes, from the last announcement (R175, R208). -/
  widthReq : Option (BitVec 2 × BitVec 4) := none
  /-- When it was announced (R176). -/
  widthAt : Nat := 0
  /-- The bring-up was started by the management controller and not by the partner (R213). -/
  mgmtStart : Bool := false
  /-- A management retrain waits for the degrade in progress (R176). -/
  retrainNext : Bool := false
  /-- Lanes under the background near-end loop after a degrade (R176). -/
  loopTest : BitVec 4 := 0
  /-- The port PLL is judged stable (R403). -/
  pll : Bool := false
deriving DecidableEq, Repr

/-- Session, sequence, replay, credits and books of a port (R188 to R208). -/
structure PortTx where
  /-- A session is open (R206). -/
  session : Bool := false
  /-- PORT_SESSION.SESSIONS (R214). -/
  sessions : BitVec 16 := 0
  /-- INIT sent and received in this session (R188). -/
  initSent : Bool := false
  initRcvd : Bool := false
  /-- When INIT, RETRY_REQ and the message of a resynchronisation were last sent (R188, R198, R205). -/
  initAt : Nat := 0
  retryAt : Nat := 0
  resyncAt : Nat := 0
  /-- Time the partner has withheld credits, acknowledgements or the link, ns, and since when it does so now (R9, R190, R197, R200,
  R205). -/
  withheld : Nat := 0
  withheldFrom : Option Nat := none
  /-- Since when, or since which counted event, a response has waited for VC1 credit (R211). -/
  dryFrom : Option Nat := none
  /-- PORT_REPLAY.NEXT_SEQ (R196, R214). -/
  nextSeq : BitVec 12 := 0
  /-- The next sequence expected from the partner (R198). -/
  expect : BitVec 12 := 0
  /-- ACK_SEQ the stack sends: the last in-order SEQ flit, 0xFFF before any (R180, R197). -/
  ackOut : BitVec 12 := 0xFFF
  /-- SEQ flits discarded until the expected one arrives (R198). -/
  discarding : Bool := false
  /-- The replay buffer of 256 flits (R196), oldest first. -/
  replay : List SentFlit := []
  /-- The partner's last RETRY_REQ: sequence and time (R198). -/
  lastRetry : Option (BitVec 12 × Nat) := none
  /-- Consecutive replay timer expiries without an advance (R200). -/
  expiries : Nat := 0
  /-- PORT_REPLAY_COUNT.REPLAYS (R214). -/
  cReplays : BitVec 16 := 0
  /-- PORT_REPLAY_COUNT.RETRY_SENT (R214). -/
  cRetrySent : BitVec 16 := 0
  /-- Ingress credits of VC0, VC1, VC2 the partner may still spend: P_v + F_v of R201. -/
  peer0 : Nat := 0
  peer1 : Nat := 0
  peer2 : Nat := 0
  /-- The receive buffers B_v of R201, in arrival order. -/
  rx : List RxItem := []
  /-- Credits due to the partner and not yet returned, by VC (R189). -/
  due0 : Nat := 0
  due1 : Nat := 0
  due2 : Nat := 0
  /-- PORT_CREDIT_OUT: egress credits held, H_1 and H_2 (R214), and the grants they never exceed (R211 cause 9). -/
  held1 : Nat := 0
  held2 : Nat := 0
  grant1 : Nat := 0
  grant2 : Nat := 0
deriving DecidableEq, Repr

/-- Audits and resynchronisation of a port (R203 to R205). -/
structure PortAud where
  /-- AUDIT counts of R203, modulo 2^16: slots sent, credits received, slots received, credits returned, by VC. -/
  sent1 : BitVec 16 := 0
  sent2 : BitVec 16 := 0
  retRcvd1 : BitVec 16 := 0
  retRcvd2 : BitVec 16 := 0
  rcvd0 : BitVec 16 := 0
  rcvd1 : BitVec 16 := 0
  rcvd2 : BitVec 16 := 0
  ret0 : BitVec 16 := 0
  ret1 : BitVec 16 := 0
  ret2 : BitVec 16 := 0
  /-- Request headers received and final response slots sent (R203). -/
  tagOpenCnt : BitVec 16 := 0
  tagCloseCnt : BitVec 16 := 0
  auditId : BitVec 16 := 0
  /-- AUDITs not answered yet, oldest first. -/
  auditOpen : List AuditOpen := []
  /-- At the flit that carried the partner's last AUDIT: slots and headers received before it, and atAck by its ACK_SEQ. -/
  snap : Option (AuditPoint × AuditPoint) := none
  /-- Credits returned and final slots sent, up to the last flit acknowledged. -/
  atAck : AuditPoint := {}
  /-- An SEQ flit passed since the last AUDIT, AUDIT exchanges left out (R387). -/
  seqSinceAudit : Bool := false
  /-- A resynchronisation under way: REASON and resends (R205; PORT_SESSION.RESYNC_BUSY). -/
  resync : Option (Nat × Nat) := none
  /-- PORT_SESSION.AUDIT_FAILS (R214). -/
  auditFails : BitVec 8 := 0
deriving DecidableEq, Repr

/-- The gauntlet of a port (R238 to R265). -/
structure PortGnt where
  /-- Start of the budget window, ns (R238); none before SERVICE entry. -/
  windowStart : Option Nat := none
  /-- SPENT by label in the window (R241). -/
  spent : List (Nat × Nat) := []
  /-- The Throttle scaling applies in this window (R253), with the percentages of P and B labels it took. -/
  throttled : Bool := false
  scaleP : Nat := 100
  scaleB : Nat := 100
  /-- Pseudo-channel share used, by q (R244). -/
  pcUsed : List (Nat × Nat) := []
  /-- Bank share used, by bank key (R244). -/
  bankUsed : List (Nat × Nat) := []
  /-- A port shrink is in force, with the limit it gives in blocks per µs (R260, R264). -/
  shrink : Option Nat := none
  /-- GNT_HOLD_A, GNT_HOLD_B (R265). -/
  holdBudget : BitVec 16 := 0
  holdCal : BitVec 16 := 0
  holdOrder : BitVec 16 := 0
  holdShed : BitVec 16 := 0
  /-- GNT_EXPIRED (R265). -/
  expired : Word := 0
  /-- GNT_NOCONTRACT (R265). -/
  noContract : BitVec 16 := 0
  oversize : BitVec 16 := 0
  /-- The last tick with a decision, and the decisions made in it (R250). -/
  decided : Nat × Nat := (0, 0)
deriving DecidableEq, Repr

/-- One port: configuration, link, transactions, gauntlet, rung (R164, R201, R230, R382). -/
structure Port where
  cfg : PortCfg := {}
  lnk : PortLnk := {}
  tx : PortTx := {}
  aud : PortAud := {}
  gnt : PortGnt := {}
  /-- Open requests, in order of arrival (R191). -/
  reqs : List Req := []
  /-- Tags answered FENCED whose write data is still to come and is discarded in silence (R255). -/
  mute : List Nat := []
  /-- Responses and messages waiting to be sent, oldest first. -/
  outq : List OutItem := []
  /-- Everything sent, oldest first (the model's own trace of the wire). -/
  wire : List WireItem := []
  /-- The last four FAULT_NOTICE payloads sent (R209 page 0x0051), oldest first: source, class, time, window. -/
  lastNotices : List (Nat × Nat × Nat × Nat) := []
  /-- PORT_FENCE.FENCED and the time of the fence (R212, R213). -/
  fenced : Bool := false
  fencedAt : Nat := 0
  /-- PORT_PROTO_CAUSE (R214). -/
  protoLast : BitVec 4 := 0
  protoCount : BitVec 16 := 0
  /-- PORT_POISON_READ (R316). -/
  poisonNever : BitVec 16 := 0
  poisonData : BitVec 16 := 0
  /-- PWR_PORT.RUNG (R410). -/
  rung : BitVec 2 := 3
  /-- PWR_PORT.DOZE (R384, R410). -/
  doze : BitVec 2 := 0
  /-- PWR_PORT.TX_HUSH, RX_HUSH (R410). -/
  txHush : Bool := false
  rxHush : Bool := false
  /-- Start of idleness, ns (R382). -/
  idleSince : Nat := 0
  /-- ATT_PORT.REPORTS and the time the last report was signed (R461, R457). -/
  attReports : BitVec 16 := 0
  attLast : Option Nat := none
deriving DecidableEq, Repr

/-- A latched write of one block (R277): acceptance number, tick of the latch, port, enabled bytes and data. -/
structure QWrite where
  serial : Nat
  at_ : Nat
  port : Nat
  mask : BitVec 64
  data : Block
deriving DecidableEq, Repr

/-- A write-queue entry: one block, with the writes merged into it, oldest first (R277). -/
structure WqEntry where
  rank : Nat
  bank : Nat
  row : Nat
  block : Nat
  writes : List QWrite
  /-- It waits for a retry of its burst (R283). -/
  retry : Bool := false
  /-- A drain burst of this entry is on the bus. -/
  busy : Bool := false
deriving DecidableEq, Repr

/-- A stored row: 16 blocks with their check bits, and the cuff word (R293, R294). -/
structure Row where
  blocks : List (Block × BitVec 64)
  cuff : Block
deriving DecidableEq, Repr

/-- A burst on the data bus or in the correction stage (R270, R301). -/
structure Burst where
  write : Bool
  /-- It waits for its CHK (R301). -/
  chk : Bool := false
  port : Nat
  tag : Nat
  /-- Number of acceptance of its request. -/
  serial : Nat := 0
  part : Nat := 0
  rank : Nat
  layer : Nat
  bank : Nat
  row : Nat
  block : Nat
  /-- Data as read, or as written. -/
  data : Block := 0
  /-- Bytes flagged by stored parity (R294), or enabled bytes of a write. -/
  flags : BitVec 64 := 0
  /-- Transfer-flagged bytes (R284). -/
  xfer : BitVec 64 := 0
  /-- The block is in the never-written state (R300). -/
  never : Bool := false
  /-- Correction, unresolved bits and row-path use of the CHK (R302), taken from the row latch. -/
  corr : Block := 0
  unres : BitVec 64 := 0
  rowPath : Bool := false
  noCorr : Bool := false
  start : Nat := 0
  /-- Parity errors reported of its command (R283, R284). -/
  cmdErrors : Nat := 0
  /-- The ACT that it follows: its tick, and the parity errors reported of it (R283, R284). -/
  act : Nat := 0
  actErrors : Nat := 0
  /-- It holds a G slot (R271, R283). -/
  g : Bool := false
  /-- Acceptance numbers of the queued writes that a write burst carries (R277, R278). -/
  serials : List Nat := []
deriving DecidableEq, Repr

/-- An accepted piece of work of a pseudo-channel: one activation for one or two blocks of one row (R249, R250). -/
structure Grant where
  port : Nat
  tag : Nat
  op : Op
  cls : Cls
  rank : Nat
  bank : Nat
  row : Nat
  block : Nat
  /-- Reserved activation start, ns; none for P and B work without a reservation. -/
  start : Option Nat := none
  /-- A queued write of the same block is promoted within the activation (R279). -/
  promoted : Bool := false
  latchedAt : Nat := 0
  /-- The time by which it must complete (R233). -/
  bound : Nat := 0
  serial : Nat := 0
  noCorr : Bool := false
  /-- P_TARGET and HATBAND of its label (R252), and its arrival. -/
  pTarget : Nat := 0
  hatband : Nat := 0
  arrival : Nat := 0
  /-- Ticks from one data-bus slot to the next in the calendar it was latched against (R290). -/
  step : Nat := 1
  /-- A write whose blocks entered the write queue at the latch (R246, R277). -/
  queued : Bool := false
  /-- Parts of a waiting read that a younger write has overtaken in the array, as they stood before it (R218, R277). -/
  early : List (Nat × Burst) := []
deriving DecidableEq, Repr

/-- A steered TSV (R337, REP_TSV_STEER). -/
structure Steer where
  group : BitVec 2 := 0
  lane : BitVec 6 := 0
  layer : BitVec 5 := 0
  burnt : Bool := false
  /-- The spare itself has failed (R338). -/
  failed : Bool := false
deriving DecidableEq, Repr

/-- States of a copy lane (R348). -/
inductive MigState where
  | idle | prepare | copy | switch | split
deriving DecidableEq, Repr

/-- A migration unit: one slice (bank none) or one bank of a slice (R345). Where source and destination are the same layer
nothing is copied: the liner slice stands in without the contents (R356). -/
structure MigUnit where
  rank : Nat := 0
  bank : Option Nat := none
  src : Nat := 0
  dst : Nat := 0
  /-- Rows below a mark that an abandoned migration had moved, and the layer that holds them (R350). -/
  moved : List (Nat × Nat) := []
deriving DecidableEq, Repr

/-- A row refresh in progress in a bank (R281). -/
structure RefRun where
  row : Nat
  kind : RefKind
  protect : Bool
  start : Nat
  /-- Parity errors reported of the command (R283, R284). -/
  errors : Nat := 0
deriving DecidableEq, Repr

/-- The copy lane and the repair reserve of a pseudo-channel (R345 to R354). -/
structure PcMig where
  /-- Copy lane: REP_MIG_STATUS, REP_MIG_MARK (R345, R348). -/
  mig : MigState := .idle
  unit : MigUnit := {}
  mark : Nat := 0
  /-- Migrations queued behind, oldest first (R345). -/
  migQueue : List MigUnit := []
  /-- S_cal, S_hbx, S_mig and the activations used in the current 8 µs period, and those the last one ended with (R354). -/
  useCal : Nat := 0
  useHbx : Nat := 0
  useMig : Nat := 0
  useActs : List (Nat × Nat) := []
  lastCal : BitVec 9 := 0
  lastHbx : BitVec 9 := 0
  lastMig : BitVec 9 := 0
  /-- REP_RESERVE.AUDIT_FAIL (R362). -/
  auditFail : Bool := false
deriving DecidableEq, Repr

/-- Refresh and activation counting of a pseudo-channel (R281, R319, R323). -/
structure PcRef where
  /-- Refreshes in progress by bank key (R281). -/
  refRun : List (Nat × RefRun) := []
  /-- Pauses in succession by row key (R282). -/
  pauses : List (Nat × Nat) := []
  /-- By row key (R319, R320): four times the completion of the last whole REFPB, plus the shortest base interval (its
  code) that has applied since. -/
  refDone : List (Nat × Nat) := []
  /-- Activation counts by row key (R323). -/
  actCount : List (Nat × Nat) := []
  /-- Neighbour refreshes owed: bank key, row, and which neighbour (R325). -/
  rfmDue : List (Nat × Nat × RefKind) := []
deriving DecidableEq, Repr

/-- One pseudo-channel q = 2c + pc (R266). -/
structure Pc where
  mg : PcMig := {}
  rf : PcRef := {}
  /-- The pseudo-channel is excluded (R95; CH_STATUS.PC_EXCLUDED). -/
  excluded : Bool := false
  /-- Write queue (R277), in order of entry. -/
  wq : List WqEntry := []
  /-- Grants latched and not yet issued (R249). -/
  grants : List Grant := []
  /-- Bursts issued and not yet finished. -/
  bursts : List Burst := []
  /-- Bank key and start of the G activations that may still count (R242). -/
  gStarts : List (Nat × Nat) := []
  /-- Slots of booked bursts on the data bus (R242, R271), with G or not. -/
  slots : List (Nat × Bool) := []
  /-- Activation in progress of a bank: bank key, the time the bank is free (R243). -/
  bankFree : List (Nat × Nat) := []
  /-- Open rows by bank key: row and time opened (R275). -/
  openRows : List (Nat × Nat × Nat) := []
  /-- The row latches of a bank by bank key, newest first (R268): the row and its copy, or none where a REFPB filled it. -/
  latches : List (Nat × List (Option (Nat × Row))) := []
  /-- Ticks taken on the column bus, and on the row bus with the layer that an ACT opens (R266, R267, R269). -/
  cols : List Nat := []
  rows : List (Nat × Option Nat) := []
  /-- Close predictors by bank key (R274). -/
  pred : List (Nat × Nat) := []
  /-- The row of the last access by bank key (R274). -/
  lastRow : List (Nat × Nat) := []
  /-- The last P or B activation of a bank, by 2 · calendar key, plus 1 for B (R242). -/
  lastFloor : List (Nat × Nat) := []
  /-- Deadline credits by bank key, counted as spent from 4 (R248). -/
  spentCredit : List (Nat × Nat) := []
  /-- When a bank last earned a deadline credit (R248). -/
  creditAt : List (Nat × Nat) := []
  /-- Grants latched and issued since the last audit (R249). -/
  granted : Nat := 0
  issued : Nat := 0
  /-- CH_PC_STATUS.CAL_BUSY, CAL_LAYER: the slice under recalibration and its next item (R286). -/
  cal : Option (Nat × Nat) := none
  /-- Slices queued for recalibration (R287). -/
  calQueue : List Nat := []
  /-- A recalibration forced by CH_CAL_CTRL (R292), counted as due. -/
  calForced : List Nat := []
  /-- Start of the last calibration micro-step (R242, R286). -/
  calLast : Option Nat := none
  /-- Parity errors reported of the engine's last command (R283, R284). -/
  engErrors : Nat := 0
  /-- Lane isolation runs (R285, R337). -/
  isolating : Bool := false
  /-- REP_TSV_STEER by spare (R337). -/
  steer : List (Nat × Steer) := []
  /-- REP_SPARE_STAT.SPARED (R362). -/
  spared : BitVec 16 := 0
  /-- Time of the last training record of a recalibration (R289). -/
  trainedAt : Option Nat := none
deriving DecidableEq, Repr

/-- A hatbox entry (R308). `cols` are the columns of the overwritten bytes of KIND 0x6, which the layer keeps (R310). -/
structure HatEntry where
  kind : BitVec 3
  src : Bool := false
  bank : Nat
  row : Nat
  block : Nat := 0
  count : Nat := 0
  ret : Bool := false
  ovf : Bool := false
  cols : BitVec 64 := 0
deriving DecidableEq, Repr

/-- A spare row in use (R340). -/
structure SpareRow where
  bank : Nat
  index : Nat
  row : Nat
deriving DecidableEq, Repr

/-- One slice: layer Lk's part of pseudo-channel q (R266). -/
structure Slice where
  /-- The array is refreshed and accessible: a service slice, or a liner slice put into use (R41, R327). -/
  inUse : Bool := false
  /-- Start of refresh, from which first due times spread (R319). -/
  refStart : Nat := 0
  selfRefresh : Bool := false
  /-- Start of its self-refresh (SRE). -/
  sreAt : Nat := 0
  /-- The walk of its last self-refresh as the engine read it at SRX (R328): the time, the position, the base interval's code. -/
  walk : Option (Nat × Nat × Nat) := none
  /-- Power-down (R273) and the time of the last command. -/
  powerDown : Bool := false
  lastCmd : Nat := 0
  /-- The time of its last PDE (R269, tPD). -/
  pdAt : Nat := 0
  /-- The array set of R313 still runs. -/
  arraySet : Bool := false
  /-- Hatbox entries in posting order (R308). -/
  hatbox : List HatEntry := []
  /-- A finding was dropped: OVF goes into the next entry (R308). -/
  hatDropped : Bool := false
  /-- KIND 0x4 requests kept pending (R324): bank, row. -/
  hatPending : List (Nat × Nat) := []
  /-- Successive hatbox reads that failed (R356). -/
  unread : Nat := 0
  /-- CH_CAL_TEMP: temperature of the last calibration (R292). -/
  calTemp : Option Temp := none
  /-- A temperature restored from the training store, from which the trigger of R287 measures. -/
  restTemp : Option Temp := none
  /-- Receiver settings SET[k][i] (R289), by i. -/
  settings : List (Nat × BitVec 12) := []
  /-- Manufacture bins, by bank × 32 + subarray (R318). -/
  binsMan : List (Nat × BitVec 2) := []
  /-- Field bins in force, by bank × 32 + subarray, coded 1 + bin; 0 none (R318, R322). -/
  binsField : List (Nat × Nat) := []
  /-- Spare rows in use (R340). -/
  spares : List SpareRow := []
  /-- CH_REF_LAYER.CATCH_UP (R320). -/
  catchUp : Bool := false
  /-- The shortest base interval (its code) that has applied since refresh of the slice began (R320). -/
  firstBase : Nat := 0
  /-- CH_REF_LAYER.PROMOTED (R334). -/
  promoted : BitVec 8 := 0
deriving DecidableEq, Repr

/-- A finding on the promotion list of a channel (R321). -/
structure Finding where
  q : Nat
  k : Nat
  bank : Nat
  sub : Nat
  at_ : Nat
deriving DecidableEq, Repr

/-- A hatbox entry that an engine has taken and not yet served (R310, R330). -/
structure Taken where
  q : Nat
  k : Nat
  e : HatEntry
  /-- It waits at P3 (R330). -/
  waiting : Bool := false
  /-- A spare row must be assigned before the entry is served (R339). -/
  spare : Bool := false
deriving DecidableEq, Repr

/-- One channel n (R267, R292, R316, R334). -/
structure Channel where
  /-- CH_STATUS.GLOVE (R292). -/
  glove : BitVec 2 := 0
  /-- CH_STATUS.OVERLAP (R290). -/
  overlap : Bool := false
  /-- CH_PRED_CTRL.CLOSE_ALWAYS (R292). -/
  closeAlways : Bool := false
  /-- CH_RETRY (R292). -/
  rtRead : BitVec 8 := 0
  rtWrite : BitVec 8 := 0
  rtColumn : BitVec 8 := 0
  rtRow : BitVec 8 := 0
  /-- CH_RETRY_FAIL (R292). -/
  rfBeat : BitVec 8 := 0
  rfCommand : BitVec 8 := 0
  rfThird : BitVec 8 := 0
  /-- CH_REFRESH_PAUSE (R292). -/
  paused : BitVec 16 := 0
  protected_ : BitVec 16 := 0
  /-- CH_PD_COUNT (R292). -/
  pdCount : Word := 0
  /-- CH_CORR (R316). -/
  corrReads : BitVec 16 := 0
  corrRow : BitVec 16 := 0
  /-- CH_UNCORR (R316). -/
  poisoned : BitVec 16 := 0
  sealed_ : BitVec 16 := 0
  /-- CH_HATBOX (R316). -/
  hatTaken : BitVec 16 := 0
  hatOvf : BitVec 8 := 0
  hatCuff : BitVec 8 := 0
  /-- CH_LAST_UE, packed; bit 0 VALID (R316). -/
  lastUe : Word := 0
  /-- CH_RFM (R334). -/
  rfmReq : BitVec 16 := 0
  rfmDef : BitVec 16 := 0
  /-- CH_REF_MARGIN.MIN_SLACK (R334). -/
  minSlack : BitVec 16 := 0xFFFF
  /-- CH_BIN_SEL: PC, BANK, LAYER (R334). -/
  binSel : BitVec 10 := 0
  /-- First findings of R321, oldest first, at most 64. -/
  findings : List Finding := []
  /-- Entries taken and not yet served, oldest first (R310). -/
  taken : List Taken := []
deriving DecidableEq, Repr

/-- One memory layer Lk. -/
structure Layer where
  /-- THM_LAYER.POWERED: its array is powered (R41, R379). -/
  powered : Bool := false
  /-- Base interval: 0 64 ms, 1 32 ms, 2 16 ms, 3 8 ms (R317; CH_REF_LAYER.BASE). -/
  base : Nat := 0
  /-- Temperature in use, 0.25 °C (R368). -/
  temp : Int := 0
  basis : BitVec 2 := 0
  /-- Level: 0 none, 1 Warning, 2 Throttle, 3 Trip (R374). -/
  level : Nat := 0
  /-- Last readings of sensors A and B after R364, and failed conversions in a row (R365). -/
  sensA : Option Int := none
  sensB : Option Int := none
  failA : Nat := 0
  failB : Nat := 0
  /-- THM_LAYER.SUSPECT_A, SUSPECT_B (R371). -/
  suspectA : Bool := false
  suspectB : Bool := false
  /-- Since when the divergences of R371 have held at every sample: A from the model, B from the model, A from B. -/
  divA : Option Nat := none
  divB : Option Nat := none
  divAB : Option Nat := none
  /-- The 16 column nodes of the model, by column (R366). -/
  nodes : List (Nat × Int) := []
  /-- Retired (R355), dead (R356). -/
  retired : Bool := false
  dead : Bool := false
  /-- Weighted time H in units of 2⁻³² s (R158). -/
  wear : Nat := 0
  /-- Highest base-interval band its self-refresh selected at P4 (R399). -/
  band : Nat := 0
deriving DecidableEq, Repr

/-- One base-die sensor (R363). -/
structure BaseSensor where
  reading : Option Int := none
  fail : Nat := 0
  suspect : Bool := false
  div : Option Nat := none
  /-- The model node at its site (R366). -/
  node : Int := 0
deriving DecidableEq, Repr

/-- One fault source (R413, R415, R434). -/
structure Source where
  cls : BitVec 3 := 0
  /-- FLT_SRC_CFG as loaded or written: N, T, initial CLASS, REACT (R434). -/
  n : BitVec 8 := 0
  t : BitVec 5 := 0
  initCls : BitVec 3 := 0
  react : BitVec 9 := 0
  count : Nat := 0
  windowOpen : Bool := false
  start : Nat := 0
  pending : Bool := false
  escalated : Bool := false
  forced : Bool := false
  total : Word := 0
  escalations : BitVec 8 := 0
  /-- The tick in which its last event was registered (R414). -/
  last : Option Nat := none
deriving DecidableEq, Repr

/-- A counter set (R435, R443). -/
structure CounterSet where
  enable : Bool := true
  freeze : Bool := false
  freezeOnOvf : Bool := false
  cycle : BitVec 64 := 0
  /-- CYCLE_HI as latched by a read of PMC_CYCLE_LO (R441). -/
  hiLatch : Word := 0
  ovf : BitVec 9 := 0
  cnt : List (Nat × Word) := []
  /-- PMC_SEL: EVENT [7:0], THRESHOLD [15:8]. -/
  sel : List (Nat × BitVec 16) := []
deriving DecidableEq, Repr

/-- The copy in use, as attestation names it (R455). -/
structure ImageInfo where
  sequence : Word
  signer : BitVec 8
  headerDigest : BitVec 256
  codeDigest : BitVec 256
  /-- The engine program held in the retention memory, and its entry offset (R114, R126). -/
  code : List Word := []
  entry : Word := 0
deriving DecidableEq, Repr

/-- A level-3 to level-5 repair the supervisor has been asked for (R335). -/
inductive RepairReq where
  | bank (q k b : Nat) (readable : Bool)
  | rank (n k : Nat) (readable : Bool)
  | layer (k : Nat) (readable : Bool)
deriving DecidableEq, Repr

/-- An entry of the repair log (R138). -/
structure RepairEntry where
  kind : BitVec 4
  channel : BitVec 4 := 0
  pc : Bool := false
  layer : BitVec 5 := 0
  bank : BitVec 4 := 0
  detail : BitVec 10 := 0
deriving DecidableEq, Repr

/-- A logical rank's slice in the rank map (R220). -/
structure RankEnt where
  layer : Nat := 0
  /-- 0 manufacture layer, 1 liner substituted, 2 migrating, 3 retired with no liner. -/
  state : Nat := 0
deriving DecidableEq, Repr

/-- A bank's place (REP_BANK_MAP). -/
inductive BankEnt where
  | own
  | mapped (layer : Nat)
  | retired
deriving DecidableEq, Repr

/-- What a field entry of a layer's antifuse array says (R147). -/
structure AfEntry where
  layer : Nat
  q : Nat
  bank : Nat
  /-- KIND 0x1: failed row and spare index; KIND 0x2: subarray and bin. -/
  spare : Bool
  x : Nat
  y : Nat
deriving DecidableEq, Repr

/-- State of a field frame (R136). -/
inductive FrameState where
  | free | validOpen | valid | torn | closed
deriving DecidableEq, Repr

/-- A record waiting for the SPI bus (R155). -/
structure JQueued where
  prio : Nat
  kind : Byte
  inst : Byte := 0xFF
  payload : List Byte
deriving DecidableEq, Repr

/-- What a restart of the supervisor holds back (R24, R25). -/
inductive SupAction where
  /-- A repair reaction (R420). -/
  | repair (r : RepairReq)
  /-- A register action that commits during the restart, with the view it came from. -/
  | command (c : Instr) (view : View)
deriving DecidableEq, Repr

/-- A ladder entry in its handshake (R392): the target rung, 6 for RETAIN, and its start. -/
structure Entry where
  target : Nat
  start : Nat
deriving DecidableEq, Repr

/-- A wake under way (R398): rung left, code, the next step, and whether it leads to SERVICE. -/
structure WakeRun where
  from_ : Nat
  code : Nat
  service : Bool
  step : Nat
deriving DecidableEq, Repr

/-- What a partition's test gave (R491, R496). -/
structure PartResult where
  status : BitVec 3 := 0
  fromJournal : Bool := false
  duration : BitVec 16 := 0
  sig : BitVec 64 := 0
deriving DecidableEq, Repr

/-- TAP instructions (R493). -/
inductive TapInstr where
  | bypass | idcode | samplePreload | extest | clamp | highz | extestPulse | extestTrain | dieSelect | dieAccess
deriving DecidableEq, Repr

/-- A transfer on the two-wire bus (R466, R467). -/
structure Transfer where
  addr : BitVec 7
  view : View
  read : Bool
  /-- The rest of the transfer is ignored (R468, R469, R475). -/
  ignore : Bool := false
  /-- MB_CFG.PEC as it was at the START (R471). -/
  pec : Bool := false
deriving DecidableEq, Repr

/-- BOOT registers and the supervisor's place in start-up (R77, R104). -/
structure BootState where
  /-- BOOT_PROGRESS.STEP. -/
  step : Nat := 0
  resetHeld : Bool := false
  vcoreWait : Bool := false
  thermalWait : Bool := false
  partnerWait : Bool := false
  fallback : Bool := false
  /-- Supervisor mismatches in this power cycle (R100). -/
  mismatches : Nat := 0
  /-- BOOT_RESULT.IMAGE_SEL and the cause codes. -/
  imageSel : BitVec 2 := 0
  causeA : BitVec 4 := 0xF
  causeB : BitVec 4 := 0xF
  training : BitVec 2 := 0
  factoryReq : Bool := false
  tokenOk : Bool := false
  bistMissing : Bool := false
  otpMarginal : BitVec 8 := 0
  otpRedirected : BitVec 8 := 0
  /-- BOOT_TIME once frozen (R104). -/
  frozen : Option Nat := none
  /-- Step 5, step 6 have completed (R103). -/
  step5 : Bool := false
  step6 : Bool := false
  /-- The repeated steps of a budget-check fallback run (R96). -/
  rerun : Bool := false
  /-- The NOTE for quad mode has been raised in this boot (R107). -/
  quadNoted : Bool := false
  /-- What step 8 found, while its key draw has not passed the health tests (R223, R225). -/
  initRead : Option LayerInitRead := none
deriving DecidableEq, Repr

/-- The supervisor pair (R22 to R25). -/
structure SupState where
  /-- MODE_STATUS.SUP_RESTARTING. -/
  restarting : Bool := false
  queue : List SupAction := []
  /-- The pair runs (R77 step 3). -/
  running : Bool := false
  /-- Start of the restart (R22, R412). -/
  since : Nat := 0
deriving DecidableEq, Repr

/-- The signals of R52; those of several balls that take one state together are one signal. -/
inductive Signal where
  | laneTx | laneRx | refclk | spiSck | spiCsN | spiIo | scl | sda | maddr | alertN | thermtripN | resetN | pwrgood | shdnReqN
  | shdnDone | wakeN | vid | vcoreOk | factoryEn | tck | tms | tdi | trstN | tdo
deriving DecidableEq, Repr

/-- What stands at a signal (R55): high impedance, or released with an open drain; high impedance with the internal pull-up; a level;
active, as the unit behind it drives it; electrical idle; a code. -/
inductive Drive where
  | highZ | pulledUp | low | high | active | idle
  | code (v : BitVec 5)
deriving DecidableEq, Repr

/-- Pins (R52, R55): the levels of the inputs as acted on, and what the outputs hold; what stands at each signal is State.drive. -/
structure Pins where
  /-- MADDR as sampled (R58). -/
  maddr : BitVec 3 := 0
  resetN : Bool := true
  vcoreOk : Bool := false
  wakeN : Bool := true
  shdnReqN : Bool := true
  trstN : Bool := false
  /-- FACTORY_EN as sampled (R91). -/
  factoryEn : Bool := false
  /-- THERMTRIP_N driven low (R56). -/
  thermtrip : Bool := false
  /-- SHDN_DONE high (R487). -/
  shdnDone : Bool := false
  /-- VID[4:0]; none is high impedance (R55, R57). -/
  vid : Option (BitVec 5) := none
deriving DecidableEq, Repr

/-- The fault collector and the grave latch (R411 to R434). -/
structure FltState where
  sources : List (Nat × Source) := []
  /-- The loaded table is in force (R413). -/
  loaded : Bool := false
  /-- Ring of 128 records of four words (R427), by ring index. -/
  log : List (Nat × Word × Word × Word × Word) := []
  next : Nat := 0
  wrapped : Bool := false
  nextSeq : BitVec 16 := 0
  /-- FLT_LOG_ACK.SEQ. -/
  ack : BitVec 16 := 0
  /-- FLT_ALERT. -/
  alert : BitVec 5 := 0
  /-- The three copies of the grave latch (R424), FLT_GRAVE.SOURCE and FORCED. -/
  grave0 : Bool := false
  grave1 : Bool := false
  grave2 : Bool := false
  graveSrc : BitVec 8 := 0
  graveForced : Bool := false
  /-- Successive self-checks that found the same fault (R430): item number and count. -/
  checks : List (Nat × Nat) := []
  /-- Events held by the AON at P4 and P5, oldest first: source and AON time, at most 8; and how many were displaced (R431). -/
  held : List (Nat × Nat) := []
  heldLost : Nat := 0
  /-- When HOLD was entered and from which mode: a trip of the same tick still leads to TRIP (R35). -/
  holdAt : Option (Nat × Mode) := none
deriving DecidableEq, Repr

/-- Temperature sensing and trips (R363 to R379). -/
structure ThmState where
  baseTemp : Int := 0
  baseLevel : Nat := 0
  sensors : List (Nat × BaseSensor) := []
  modelSuspect : Bool := false
  /-- Layers that met the first condition of R371 with agreeing sensors, and since when (R372). -/
  modelDiv : List (Nat × Nat) := []
  /-- Divergence tests run from this time on (R367). -/
  testFrom : Option Nat := none
  vrefBad : Bool := false
  vref : BitVec 12 := 0
  lastRound : Option Nat := none
  alert : BitVec 6 := 0
  /-- THM_CFG. -/
  calDelta : BitVec 4 := 5
  throttleP : BitVec 7 := 0x32
  throttleB : BitVec 7 := 0x19
  alertWarn : Bool := true
  /-- THM_TRIP. -/
  tripValid : Bool := false
  tripSrc : BitVec 6 := 0
  tripTemp : Temp := 0
  tripCommitted : Bool := false
  /-- A trip sequence waits for its record (R376), and when it began. -/
  tripWait : Bool := false
  tripAt : Nat := 0
  /-- ACT, burst, REFPB, CHK and RDROW counts since the last model step, by slice (R366). -/
  work : List (Nat × Nat) := []
  /-- The counts of the model's steps of the last 10 ms, newest first (R369). -/
  history : List (List (Nat × Nat)) := []
deriving DecidableEq, Repr

/-- The ladder timers as their registers held them before a write (R410). -/
structure LadderTimers where
  retainIdle : Word
  dwell3 : Word
  dwell4 : Word
  rankPd : BitVec 16
  idle1 : BitVec 16
  idle2 : BitVec 16
  idle3 : BitVec 16
  deepest : BitVec 3
deriving DecidableEq, Repr

/-- The power ladder and clocks (R380 to R410). -/
structure PwrState where
  rung : Nat := 0
  refclk : Bool := false
  corePll : Bool := false
  fastRc : Bool := true
  entry : Option Entry := none
  entryTarget : BitVec 3 := 0
  retainPending : Bool := false
  pendIdle : Bool := false
  skipDwells : Bool := false
  wakeLast : BitVec 3 := 0
  wakeSeen : BitVec 6 := 0
  fromRung : BitVec 3 := 0
  wakes : BitVec 16 := 0
  hsRung : BitVec 3 := 0
  hsResult : BitVec 3 := 0
  hsBlock : BitVec 6 := 0
  refusals : BitVec 16 := 0
  aonDev : BitVec 16 := 0
  freeRun : Bool := true
  refclkLost : Bool := false
  zqTx : BitVec 6 := 0
  zqRx : BitVec 6 := 0
  zqBad : Bool := false
  zqAt : Option Nat := none
  retainIdle : Word := 0
  deepest : BitVec 3 := 3
  rankPd : BitVec 16 := 0x03E8
  dwell3 : Word := 0
  dwell4 : Word := 0
  ladderTimer : Word := 0
  keep : BitVec 16 := 0
  idle1 : BitVec 16 := 0x00C8
  idle2 : BitVec 16 := 0x0064
  idle3 : BitVec 16 := 0x0064
  /-- PWR_GATE enables, by block. -/
  gate : List (Nat × BitVec 3) := []
  /-- Start of the dwell or idle timer in force (R389, R390), ns. -/
  dwellFrom : Nat := 0
  /-- The stack's last entry to SERVICE (R390) and to P4 or P5 (R395). -/
  serviceAt : Nat := 0
  restAt : Nat := 0
  /-- An abandoned entry to P2 or P3 that may be tried again, and when it was abandoned (R393). -/
  retry : Option (Nat × Nat) := none
  /-- A raise of VDD_CORE waits for VCORE_OK (R405), and when it began (R407). -/
  raising : Bool := false
  raiseAt : Nat := 0
  /-- A lowering of VDD_CORE is in progress (R405). -/
  lowering : Bool := false
  wake : Option WakeRun := none
  /-- The cause a wake to RETAIN must have handled (R399): its code, 0 none. -/
  cause : Nat := 0
  /-- Last layer that signalled Warning (R40). -/
  wakeLayer : Nat := 0
  /-- Earlier values of the timers, newest first, each with the time of the write that replaced it: a timer that runs keeps
  the value it started with (R410). A write during a supervisor restart takes effect at its end and has no time until then (R23). -/
  past : List (Option Nat × LadderTimers) := []
deriving DecidableEq, Repr

/-- OTP block (R128 to R148, R159). -/
structure OtpState where
  /-- All 512 rows, the bits of each that read 1 at either margin (R128; kept without power). -/
  rows : List (Nat × BitVec 64) := []
  /-- The code of the rows' check bits and the vendor key (R112, R129; kept without power). -/
  rom : DieRom := { code := [], vendorKey := 0 }
  /-- Control fields as read at step 4 and burnt since, by k: 0 to 15 redirection, 16 to 63 lock (R130). -/
  fields : List (Nat × BitVec 16) := []
  /-- What IDENT and TRIM resolved to (R82). -/
  ident : Option Identity := none
  shadow : List (Nat × BitVec 56) := []
  /-- The copy in the configuration retention memory (R140). -/
  retShadow : List (Nat × BitVec 56) := []
  overridden : List Nat := []
  /-- What the rows resolved to at BOOT step 4, which a cleared override returns to (R142). -/
  resolved : List (Nat × BitVec 56) := []
  frames : List (Nat × FrameState) := []
  /-- OTP_FAIL: row and cause. -/
  fails : List (Nat × Nat) := []
  /-- The header row of the BIST_EXP segment in force and its number of data rows (R137); none where there is none. -/
  bistExp : Option (Nat × Nat) := none
  ownerSlot : Option Nat := none
  ownerDigest : BitVec 256 := 0
  sparesUsed : List Nat := []
  /-- Words of IDENT, TRIM and BIST_EXP copied to a spare row in this power cycle (R133). -/
  copied : List Nat := []
  burnRow : BitVec 9 := 0
  burnField : Bool := false
  burnIdx : BitVec 6 := 0
  burnLo : Word := 0
  burnHi : BitVec 24 := 0
  burnCode : BitVec 4 := 0
  burnPulses : BitVec 3 := 0
  ovrRow : BitVec 9 := 0
  ovrLo : Word := 0
  ovrHi : BitVec 24 := 0
  burnHeld : Bool := false
  /-- Frame under burn: frame number, rows still to burn (row and value), entries it carries (R145). -/
  job : Option (Nat × List (Nat × BitVec 56)) := none
  jobEntries : List RepairEntry := []
  /-- The field entries of the layers' antifuse arrays as blown, place i of layer index k at 256 k + i: entry word, commit byte, lock
  bit (R147; kept without power). -/
  antifuse : List (Nat × BitVec 41) := []
  /-- Entries that wait for their burn (R322, R342). -/
  afQueue : List AfEntry := []
  /-- The entry under burn: its place and the bits of the burns still to come (R147). -/
  afJob : Option (Nat × AfEntry × List (BitVec 41)) := none
  /-- The burn waits until the layer reads below 82 °C (R147). -/
  afHeld : Bool := false
deriving DecidableEq, Repr

/-- Journals (R149 to R160) and the wear ledger (R158). -/
structure JnlState where
  /-- The write that was under way when a management read was asked for: the only one that goes before it (R155). -/
  underWay : Option JQueued := none
  /-- Records in the region (kept without power), in order of writing. -/
  records : List JournalRecord := []
  queue : List JQueued := []
  sector : Nat := 0
  offset : Nat := 0
  seq : Word := 0
  dropped : BitVec 16 := 0
  suspended : Bool := false
  erasing : Bool := false
  fullScan : Bool := false
  failCount : Nat := 0
  readAddr : BitVec 17 := 0
  readBuf : List Byte := []
  bootCount : Word := 0
  /-- Weighted time of the base die (R158), in 2⁻³² s. -/
  baseWear : Nat := 0
deriving DecidableEq, Repr

/-- A report asked for (R456 to R458): the port, or none for the management controller, its tag, the nonce, when it arrived. -/
structure AttReq where
  port : Option Nat
  tag : Nat
  nonce : BitVec 256
  at_ : Nat
deriving DecidableEq, Repr

/-- Attestation unit (R447 to R461). -/
structure AttState where
  ready : Bool := false
  exhausted : Bool := false
  burnWait : Bool := false
  rebuild : Bool := false
  journalAhead : Bool := false
  allowance : Nat := 16
  /-- SERVICE entry, or the last gain since then (R453). -/
  gainAt : Nat := 0
  next : Nat := 0
  reports : BitVec 16 := 0
  nonce : BitVec 256 := 0
  result : BitVec 3 := 0
  report : List Byte := []
  /-- Reports asked for, in the order in which they are signed (R457). -/
  queue : List AttReq := []
  /-- RESUME_LEAF and AUTH of the newest record (R448); none without one. -/
  resume : Option Nat := none
  lastLeaf : Option Nat := none
deriving DecidableEq, Repr

/-- Self-test and shut-down (R486 to R496). -/
structure BistState where
  running : Bool := false
  shutDown : Bool := false
  trigger : BitVec 3 := 0
  slot : Nat := 0
  refused : Bool := false
  excluded : BitVec 20 := 0
  missing : Bool := false
  parts : List (Nat × PartResult) := []
  /-- Partitions still to test. -/
  todo : List Nat := []
  startedAt : Nat := 0
  /-- Partitions of the running or last self-test, and the µs its ended slots have taken (R489, R491). -/
  tested : BitVec 20 := 0
  spent : Nat := 0
  /-- The step of R487, 0 none, and when the shut-down was acted on. -/
  phase : Nat := 0
  shutAt : Nat := 0
  tapRefused : BitVec 16 := 0
deriving DecidableEq, Repr

/-- The two-wire target (R462 to R485). -/
structure MbState where
  maskMode : Bool := false
  pec : Bool := false
  attention : Bool := true
  maskBase : BitVec 7 := 0
  maskBits : BitVec 7 := 0
  /-- MB_VIEW, by index of the address in the mask set. -/
  views : List (Nat × Byte) := []
  status : BitVec 6 := 0
  timeouts : BitVec 8 := 0
  pecErrors : BitVec 8 := 0
  aborts : BitVec 8 := 0
  attnServed : BitVec 8 := 0
  longOp : BitVec 3 := 0
  longOutcome : BitVec 2 := 0
  longDuration : BitVec 27 := 0
  /-- The long operation that runs: its code and start (R474). -/
  busy : Option (Nat × Nat) := none
  transfer : Option Transfer := none
  /-- The pointer of each address (R467). -/
  pointers : List (Nat × Nat) := []
  attnPending : Bool := false
  /-- The target holds SDA low for an attention request (R477), since when, and the earliest next one (R477, R479). -/
  attnPull : Bool := false
  attnAt : Nat := 0
  attnAfter : Nat := 0
  /-- The target ignores the bus until SCL and SDA are high and a START (R480). -/
  deaf : Bool := false
  /-- MB_CFG.ATTENTION as it was at the last START, where a change takes effect (R471). -/
  attnNow : Bool := true
  /-- The CRC over the bytes of the transfer so far (R469); none after a register whose write came as a command of its own (log 79). -/
  crc : Option Byte := some 0
  /-- The register last returned by a read, and the PEC byte sent behind it while PEC is 1. -/
  rdata : Word := 0
  rpec : Option Byte := none
deriving DecidableEq, Repr

/-- Repair bookkeeping (R335 to R362). -/
structure RepState where
  layerPolicy : Bool := false
  burnRepairs : Bool := false
  result : BitVec 3 := 0
  confirm : Bool := false
  lossSlices : BitVec 8 := 0
  lossBanks : BitVec 8 := 0
  lossPcs : BitVec 6 := 0
  lostAccess : Word := 0
  layersRetired : BitVec 5 := 0
  /-- REP_LAYER_FAULT, packed. -/
  layerFault : BitVec 24 := 0
  /-- Repairs the supervisor has decided and not begun, oldest first. -/
  todo : List RepairReq := []
  /-- In-field repairs not burnt into fuses (R151). -/
  log : List RepairEntry := []
  /-- Repairs that BURN_REPAIRS sends to the fuses. -/
  burnQueue : List RepairEntry := []
  rankMap : List (Nat × RankEnt) := []
  bankMap : List (Nat × BankEnt) := []
  /-- REP_XLATE registers (R227). -/
  xInLo : Word := 0
  xInHi : BitVec 14 := 0
  xPhys : Word := 0
  xDevLo : Word := 0
  xDevHi : BitVec 19 := 0
  xDone : Bool := false
  xResult : BitVec 3 := 0
  /-- The interleave key (R223, R224), its generation and FALLBACK. -/
  key : BitVec 128 := 0
  keyGen : BitVec 16 := 0
  keyFallback : Bool := false
  /-- A draw has not passed its health tests yet (R225), and when it started. -/
  keyPending : Bool := false
  keyAt : Nat := 0
deriving DecidableEq, Repr

/-- Gauntlet state that is not a port's (R257 to R265). -/
structure GntState where
  policy : Bool := false
  check : Word := 0
  rejected : Word := 0
  lastCause : BitVec 3 := 0
  /-- Next number of acceptance. -/
  serial : Nat := 0
  /-- Changes so far that may let a held request through (R250). -/
  changes : Nat := 0
deriving DecidableEq, Repr

/-- The test access port (R493, R494). -/
structure TapState where
  /-- The instruction in effect: BYPASS where a FACTORY instruction was refused (R493). -/
  ir : TapInstr := .idcode
  /-- The boundary-scan register as last sampled: what stood at each ball that it covers (R493). -/
  boundary : List (Signal × Drive) := []
  /-- Layers in the IEEE 1838 chain (R494). -/
  die : BitVec 18 := 0
  /-- Wrapper registers of the layers, by layer (R494). -/
  wrapper : List (Nat × Word) := []
deriving DecidableEq, Repr

/-- The stack. -/
structure State where
  /-- Commands that wait, first in first out (the model's queue). -/
  pending : List Instr := []
  /-- Nanoseconds since PWRGOOD was acted on (R427, R436). -/
  now : Nat := 0
  /-- Free values drawn so far (the model's own counter). -/
  choice : Nat := 0
  /-- PWRGOOD as acted on (R72, R78). -/
  pwrgood : Bool := false
  /-- MODE_STATUS.MODE (R38). -/
  mode : Mode := .boot
  /-- MODE_STATUS.HOLD_CAUSE (R38). -/
  holdCause : BitVec 8 := 0
  /-- MODE_STATUS.GLOVE_TAKEOVER (R38). -/
  takeover : BitVec 8 := 0
  pins : Pins := {}
  boot : BootState := {}
  sup : SupState := {}
  flt : FltState := {}
  thm : ThmState := {}
  pwr : PwrState := {}
  otp : OtpState := {}
  jnl : JnlState := {}
  att : AttState := {}
  bist : BistState := {}
  mb : MbState := {}
  rep : RepState := {}
  gnt : GntState := {}
  tap : TapState := {}
  /-- The copy in use (R28, R455). -/
  image : Option ImageInfo := none
  ports : List (Nat × Port) := []
  chans : List (Nat × Channel) := []
  pcs : List (Nat × Pc) := []
  slices : List (Nat × Slice) := []
  layers : List (Nat × Layer) := []
  pmc : List (Nat × CounterSet) := []
  /-- Stored rows of the layers, one entry per byte (R293). -/
  mem : List Host.Cell := []
deriving DecidableEq, Repr

/-- Before power-up: PWRGOOD low, everything at its reset value, nothing stored (R78, R497). -/
def State.reset : State := {}

end Sys2Proof.Machine
end

