-- ==== Sys2Proof/Machine/Ops.lean ====
section
/-! DEFINITION. Named operations over the state: accessors of its tables, what the capability registers say, packing of fields, performance counts, journal queueing. -/

namespace Sys2Proof.Machine

/-! ## Accessors -/

/-- Port `p`. -/
def State.port (s : State) (p : Nat) : Port := tabGet {} s.ports p
/-- Channel `n`. -/
def State.chan (s : State) (n : Nat) : Channel := tabGet {} s.chans n
/-- Pseudo-channel `q`. -/
def State.pc (s : State) (q : Nat) : Pc := tabGet {} s.pcs q
/-- Slice of layer index `k` in pseudo-channel `q`. -/
def State.slice (s : State) (q k : Nat) : Slice := tabGet {} s.slices (q * 18 + k)
/-- Layer index `k`. -/
def State.layer (s : State) (k : Nat) : Layer := tabGet {} s.layers k
/-- Counter set `i` (R435). -/
def State.cset (s : State) (i : Nat) : CounterSet := tabGet {} s.pmc i

/-- Port `p` changed by `f`. -/
def State.updPort (s : State) (p : Nat) (f : Port → Port) : State :=
  { s with ports := tabSet {} s.ports p (f (s.port p)) }
/-- Time the partner has withheld from a port up to now, ns (R9, R237). -/
def Port.heldBy (p : Port) (now : Nat) : Nat := p.tx.withheld + (match p.tx.withheldFrom with | some t => now - t | none => 0)
/-- A lane of a port. -/
def Port.lane (p : Port) (l : Nat) : Lane := tabGet {} p.lnk.lanes l
/-- A lane changed. -/
def Port.updLane (p : Port) (l : Nat) (f : Lane → Lane) : Port :=
  { p with lnk.lanes := tabSet {} p.lnk.lanes l (f (p.lane l)) }
/-- Channel `n` changed by `f`. -/
def State.updChan (s : State) (n : Nat) (f : Channel → Channel) : State :=
  { s with chans := tabSet {} s.chans n (f (s.chan n)) }
/-- Pseudo-channel `q` changed by `f`. -/
def State.updPc (s : State) (q : Nat) (f : Pc → Pc) : State :=
  { s with pcs := tabSet {} s.pcs q (f (s.pc q)) }
/-- Slice (`q`, `k`) changed by `f`. -/
def State.updSlice (s : State) (q k : Nat) (f : Slice → Slice) : State :=
  { s with slices := tabSet {} s.slices (q * 18 + k) (f (s.slice q k)) }
/-- Layer `k` changed by `f`. -/
def State.updLayer (s : State) (k : Nat) (f : Layer → Layer) : State :=
  { s with layers := tabSet {} s.layers k (f (s.layer k)) }
/-- Counter set `i` changed by `f`. -/
def State.updCset (s : State) (i : Nat) (f : CounterSet → CounterSet) : State :=
  { s with pmc := tabSet {} s.pmc i (f (s.cset i)) }

/-- The state after `f` has been run for each of 0 to n − 1, in ascending order. -/
def forN (n : Nat) (f : Nat → State → State) (s : State) : State := (List.range n).foldl (fun t i => f i t) s

/-- The state after `f` has been run for each element, in order. -/
def forL {α : Type} (l : List α) (f : α → State → State) (s : State) : State := l.foldl (fun t a => f a t) s

/-! ## Fields -/

/-- A Bool as a number. -/
def b2n (b : Bool) : Nat := if b then 1 else 0

/-- Fields from bit 0 upward, each a value and a width. -/
def pack : List (Nat × Nat) → Nat
  | [] => 0
  | (v, w) :: t => v % 2 ^ w + 2 ^ w * pack t

/-- A register word from its fields. -/
def packW (l : List (Nat × Nat)) : Word := BitVec.ofNat 32 (pack l)

/-- Bits [hi:lo] of a number. -/
def bitsOf (v hi lo : Nat) : Nat := v / 2 ^ lo % 2 ^ (hi + 1 - lo)

/-- A number as `n` bytes, least significant first (R110). -/
def leBytes : Nat → Nat → List Byte
  | 0, _ => []
  | n + 1, v => BitVec.ofNat 8 v :: leBytes n (v / 256)

/-- Bytes, least significant first, as a number. -/
def ofLe : List Byte → Nat
  | [] => 0
  | b :: t => b.toNat + 256 * ofLe t

/-- A temperature in 0.25 °C units as its 11-bit field (R363). -/
def tempField (t : Int) : Nat := (BitVec.ofInt 11 t).toNat

/-- Bits at 1 in the first `n` places. -/
def popBelow (n : Nat) (v : Nat) : Nat := ((List.range n).filter (fun i => v.testBit i)).length

/-- Round up. -/
def ceilDiv (a b : Nat) : Nat := (a + b - 1) / b

/-! ## The part as built (R3) -/

/-- CAP_PART; 0 before the shadow load (R1). -/
def State.part (s : State) : Nat := match s.otp.ident with | some i => i.part.toNat | none => 0
/-- CAP_SERVICE_LAYERS. -/
def State.serviceLayers (s : State) : Nat :=
  match s.otp.ident with | some i => if i.part.toNat = 4 then 8 else 16 | none => 0
/-- CAP_LINER_LAYERS. -/
def State.linerLayers (s : State) : Nat :=
  match s.part with | 1 => 2 | 2 => 1 | 4 => 1 | _ => 0
/-- CAP_PORTS. -/
def State.capPorts (s : State) : Nat := match s.part with | 0 => 0 | 4 => 8 | _ => 16
/-- CAP_PORT_PRESENT bit; before the shadow load every port counts as present, as nothing reports it absent. -/
def State.portPresent (s : State) (p : Nat) : Bool := s.part != 4 || p < 8
/-- CAP_MIGRATION. -/
def State.capMigration (s : State) : Bool := s.part != 3
/-- CAP_MB_MASK. -/
def State.capMask (s : State) : Bool := s.part != 4
/-- CAP_REPAIR_FIXED. -/
def State.repairFixed (s : State) : Bool := s.part == 3
/-- CAP_PROG_COUNTERS. -/
def State.progCounters (s : State) : Nat := if s.part = 4 then 4 else 8
/-- CAP_DEV_ADDR_BITS. -/
def State.devBits (s : State) : Nat := if s.part = 4 then 36 else 37
/-- CAP_LAYER_FITTED bit k; before the shadow load no layer is reported. -/
def State.fitted (s : State) (k : Nat) : Bool :=
  match s.otp.ident with | some i => i.fitted.getLsbD k | none => false
/-- The liner layers in ascending order (REP_LINER). -/
def State.liners (s : State) : List Nat :=
  match s.otp.ident with | some i => i.liners.map (·.val) | none => []
/-- Layer policy in force is refuse to start (R357, R8). -/
def State.refuse (s : State) : Bool := s.rep.layerPolicy || s.repairFixed
/-- The port is present, enabled by the image and not left out by BIST (R89, R117). -/
def State.portUp (s : State) (p : Nat) : Bool :=
  s.portPresent p && (s.port p).cfg.enable && !(s.port p).lnk.bistOut

/-- The slice (q, r) in the rank map (R220). -/
def State.rank (s : State) (q r : Nat) : RankEnt := tabGet {} s.rep.rankMap (16 * q + r)
/-- Bank b of slice (q, r) (REP_BANK_MAP). -/
def State.bankEnt (s : State) (q r b : Nat) : BankEnt := tabGet .own s.rep.bankMap ((16 * q + r) * 16 + b)

def State.setRank (s : State) (q r : Nat) (e : RankEnt) : State :=
  { s with rep.rankMap := tabSet {} s.rep.rankMap (16 * q + r) e }
def State.setBank (s : State) (q r b : Nat) (e : BankEnt) : State :=
  { s with rep.bankMap := tabSet .own s.rep.bankMap ((16 * q + r) * 16 + b) e }

/-- The logical rank whose slice of q lies on layer k (R220), lowest first; a retired slice lies there too. -/
def State.rankOn (s : State) (q k : Nat) : Option Nat :=
  (List.range s.serviceLayers).find? (fun r => decide ((s.rank q r).layer = k))

/-- No controller serves channel n: both members of its glove pair have failed (R20). -/
def State.noController (s : State) (n : Nat) : Bool := decide ((s.chan n).glove = 3)

/-- Engines and controllers run: from BOOT step 8, in SERVICE and in RETAIN at P3, until a shut-down tests them (R39, R487). -/
def State.channelsRun (s : State) : Bool :=
  s.pwrgood && decide (s.pwr.rung ≤ 3) && decide (s.bist.phase < 4) && (decide (s.mode = .service) || decide (s.mode = .retain)
    || (decide (s.mode = .boot) && decide (8 ≤ s.boot.step)))

/-! ## Performance counters (R436 to R439) -/

/-- A set counts (R436). -/
def CounterSet.counts (c : CounterSet) : Bool := c.enable && !c.freeze

/-- Counter `k` of a set advanced by `n` (R439). -/
def CounterSet.add (c : CounterSet) (k n : Nat) : CounterSet :=
  let v := (tabGet 0 c.cnt k).toNat + n
  let c := { c with cnt := tabSet 0 c.cnt k (BitVec.ofNat 32 v) }
  if v < 2 ^ 32 then c
  else { c with ovf := c.ovf ||| BitVec.ofNat 9 (2 ^ (k + 1)), freeze := c.freeze || c.freezeOnOvf }

/-- EVENT of counter k. -/
def CounterSet.event (c : CounterSet) (k : Nat) : Nat := (tabGet 0 c.sel k).toNat % 256
/-- THRESHOLD of counter k. -/
def CounterSet.threshold (c : CounterSet) (k : Nat) : Nat := (tabGet 0 c.sel k).toNat / 256

/-- `n` occurrences of event `code` in one set (R436, R438). -/
def CounterSet.occur (c : CounterSet) (code n : Nat) : CounterSet :=
  if c.counts then (List.range 8).foldl (fun c k => if c.event k = code then c.add k n else c) c else c

/-- `n` occurrences of event `code` at set `i`; a set without selections is left alone. -/
def pmcCount (i code n : Nat) (s : State) : State :=
  if (s.cset i).sel = [] then s else s.updCset i (·.occur code n)

/-! ## Journal queue (R155, R428) -/

/-- A record of the two kept places: thermal trip or grave fault (R155). -/
def JQueued.kept (j : JQueued) : Bool := j.prio == 1 || j.prio == 2

/-- The first element that meets `f`, taken out. -/
def dropFirst {α : Type} (f : α → Bool) : List α → List α
  | [] => []
  | a :: t => if f a then t else a :: dropFirst f t

/-- A record queued for the SPI bus (R155): when the places it may take are full, the lowest-priority record among
those and the new one is dropped, the oldest of equals first. -/
def queueRecord (j : JQueued) (s : State) : State :=
  if s.jnl.suspended then s
  else
    let ordinary := s.jnl.queue.filter (fun x => !x.kept)
    let full := decide (16 ≤ s.jnl.queue.length) || (!j.kept && decide (14 ≤ ordinary.length))
    if !full then { s with jnl.queue := s.jnl.queue ++ [j] }
    else
      let pool := if j.kept then s.jnl.queue else ordinary
      let worst := pool.foldl (fun w x => max w x.prio) j.prio
      let hit : JQueued → Bool := fun x => decide (x.prio = worst) && (j.kept || !x.kept)
      let q := if s.jnl.queue.any hit then dropFirst hit s.jnl.queue ++ [j] else s.jnl.queue
      { s with jnl.queue := q, jnl.dropped := satInc s.jnl.dropped }

/-! ## The self-test's result record (R491) -/

/-- A partition of BIST_PART (R496). -/
def State.part_ (s : State) (i : Nat) : PartResult := tabGet {} s.bist.parts i

/-- STATUS of partition i in the record: a partition outside the test was not run. -/
def State.recordStatus (s : State) (i : Nat) : Nat :=
  if s.bist.tested.getLsbD i then (s.part_ i).status.toNat else if (s.part_ i).status = 4 then 4 else 0

/-- The result record queued at priority 4 (R155, R487 step 5, R491). -/
def queueResult (s : State) : State :=
  let mask : Nat → Nat := fun c => (List.range 20).foldl (fun m i => m + (if s.recordStatus i = c then 2 ^ i else 0)) 0
  let bytes : List Byte :=
    [BitVec.ofNat 8 s.bist.trigger.toNat, 20, 0, 0] ++ leBytes 4 ((s.now - s.bist.startedAt) / 1000)
      ++ leBytes 4 (mask 2) ++ leBytes 4 (mask 4)
      ++ (List.range 20).flatMap (fun i =>
        let x := s.part_ i
        let ran := s.bist.tested.getLsbD i && x.status != 0
        [BitVec.ofNat 8 (s.recordStatus i), 0, 0, 0] ++ leBytes 4 (if ran then x.duration.toNat else 0)
          ++ leBytes 8 (if ran then x.sig.toNat else 0))
  queueRecord { prio := 4, kind := 3, payload := bytes } s

/-- The two partitions under test: of the slot in progress, or the next two of a chosen set (R486, R489). -/
def State.underTest (s : State) : List Nat :=
  if s.bist.trigger = 4 then s.bist.todo.take 2 else s.bist.todo.filter (fun i => decide (i / 2 = s.bist.slot))

/-- A running self-test stopped by HOLD (R488): the partitions under test take STATUS 0x5, and the record is written. -/
def stopTest (s : State) : State :=
  if s.bist.running then
    let parts := s.underTest.foldl (fun t i => tabSet {} t i { tabGet {} t i with status := 5 }) s.bist.parts
    queueResult { s with bist.running := false, bist.todo := [], bist.parts := parts }
  else s

/-! ## Ladder timers (R410) -/

/-- The timers as their registers hold them. -/
def PwrState.timers (w : PwrState) : LadderTimers :=
  { retainIdle := w.retainIdle, dwell3 := w.dwell3, dwell4 := w.dwell4, rankPd := w.rankPd, idle1 := w.idle1, idle2 := w.idle2, idle3 := w.idle3,
    deepest := w.deepest }
/-- The timers as a timer that started at time t took them: a change takes effect the next time it starts. -/
def PwrState.timersAt (w : PwrState) (t : Nat) : LadderTimers :=
  match (w.past.filter (fun e => e.1.all (fun u => decide (t < u)))).getLast? with
  | some e => e.2
  | none => w.timers
/-- RETAIN_DEEPEST in force: while a supervisor restart holds a write back, what stood before it (R23). -/
def PwrState.deepestNow (w : PwrState) : Nat :=
  match (w.past.filter (fun e => e.1.isNone)).getLast? with
  | some e => e.2.deepest.toNat
  | none => w.deepest.toNat
/-- The writes that a restart held back take effect (R23, R25). -/
def PwrState.release (w : PwrState) (now : Nat) : PwrState := { w with past := w.past.map (fun e => (some (e.1.getD now), e.2)) }

/-! ## Time -/

/-- Time is at least `t`. -/
def State.atLeast (s : State) (t : Nat) : State := { s with now := max s.now t }

/-- Whole microseconds and milliseconds since PWRGOOD was acted on. -/
def State.us (s : State) : Nat := s.now / 1000
def State.ms (s : State) : Nat := s.now / 1000000

end Sys2Proof.Machine
end

