-- ==== Sys2Proof/Machine/Wire.lean ====
section
/-! DEFINITION. What a port puts on its lanes: alignment blocks (R167), slots and flits bit by bit (R179 to R186), the encoders of the LL-FEC and KP4 codes (R170, R171) and the striping of codewords over the lanes. Symbols are numbers below 1,024, a codeword is the list of its symbols in the order of R170 and R171. -/

namespace Sys2Proof.Machine

/-! ## Alignment blocks (R167) -/

/-- The symbols of the alignment block with this count on lane l: symbols 0 to 3, the identifier of the lane, the block count, then
0x155 and 0x2AA in turn. -/
def alignmentSymbols (l count : Nat) : List Nat :=
  [0x3F0, 0x00F, 0x3F0, 0x00F, 0b1010 * 64 + l % 4, count % 1024] ++ (List.range 58).map (fun i => if i % 2 = 0 then 0x155 else 0x2AA)

/-- Ten-bit symbols in the order sent, as one number. -/
def ofSymbols (l : List Nat) : Nat := l.foldr (fun c acc => c % 1024 + 1024 * acc) 0

/-- The alignment block as bits in the order sent. -/
def alignmentBlock (l count : Nat) : BitVec 640 := BitVec.ofNat 640 (ofSymbols (alignmentSymbols l count))

/-- Symbol i of a stream from its bit o. -/
def symbolAt (x o i : Nat) : Nat := x / 2 ^ (o + 10 * i) % 1024

/-- The lane number and the block count of an alignment block at bit o of a stream, where its symbols 0 to 4 match. -/
def blockHead (x o : Nat) : Option (Nat × Nat) :=
  if symbolAt x o 0 = 0x3F0 ∧ symbolAt x o 1 = 0x00F ∧ symbolAt x o 2 = 0x3F0 ∧ symbolAt x o 3 = 0x00F
      ∧ symbolAt x o 4 / 4 = 0b10100000 then some (symbolAt x o 4 % 4, symbolAt x o 5)
  else none

/-! ## GF(2^10) with x^10 + x^3 + 1 (R170) -/

/-- One reduction of a polynomial over GF(2) by x^10 = x^3 + 1; two bring a product of two elements below degree 10. -/
def gfReduce (a : Nat) : Nat := a % 1024 ^^^ a / 1024 ^^^ a / 1024 * 8

/-- The product of two elements. -/
def gfMul (a b : Nat) : Nat :=
  gfReduce (gfReduce ((List.range 10).foldl (fun acc i => acc ^^^ a * 2 ^ i * (b / 2 ^ i % 2)) 0))

/-- α^n. -/
def gfAlpha (n : Nat) : Nat := (List.range (n % 1023)).foldl (fun a _ => gfReduce (2 * a)) 1

/-- The inverse of an element other than 0: its power 1,022. -/
def gfInv (a : Nat) : Nat :=
  ((List.range 9).foldl (fun (acc : Nat × Nat) _ => (gfMul acc.1 acc.1, gfMul acc.2 (gfMul acc.1 acc.1))) (a, 1)).2

/-- Value at x of the polynomial with these coefficients, the highest degree first. -/
def gfEval (l : List Nat) (x : Nat) : Nat := l.foldl (fun acc c => gfMul acc x ^^^ c) 0

/-! ## Encoder -/

/-- The generator polynomial with roots α^0 to α^(n - 1), the highest degree first (R170). -/
def rsGenerator (n : Nat) : List Nat :=
  (List.range n).foldl (fun g i =>
    let a := gfAlpha i
    List.zipWith (fun x y => x ^^^ gfMul a y) (g ++ [0]) (0 :: g)) [1]

/-- The n parity symbols of a message, which follow it (R170): the remainder of its division by the generator, the first symbol of
the message taken as its highest degree (log 64). -/
def rsParity (n : Nat) (msg : List Nat) : List Nat :=
  let g := (rsGenerator n).drop 1
  msg.foldl (fun r m =>
    let f := m ^^^ r.headD 0
    List.zipWith (fun x y => x ^^^ gfMul f y) (r.drop 1 ++ [0]) g) (List.replicate n 0)

/-! ## Slots (R182, R183, R185, R186) -/

/-- OPCODE of R184. -/
def Op.code : Op → Nat
  | .rd64 => 1 | .rd128 => 2 | .wr64 => 3 | .wrm64 => 4 | .fill => 5 | .mread => 0x10 | .mattest => 0x11 | .other c => c

/-- STATUS of R185. -/
def Status.code : Status → Nat
  | .ok => 0 | .okCorrected => 1 | .poison => 2 | .windowFault => 3 | .deadlineExpired => 4 | .fenced => 5 | .busy => 6
  | .unsupported => 7 | .aborted => 8

/-- HCHECK of a header's bits [79:0] (R183). -/
def headerCheck (bits : Nat) : BitVec 16 := crc16 (leBytes 10 bits)

/-- A completion header (R184). -/
def completionBits (op tag : Nat) (st : Status) : Nat :=
  let b := pack [(op, 5), (tag, 10), (st.code, 4)]
  b + (headerCheck b).toNat * 2 ^ 80

/-- Code and payload fields of a message the stack sends (R186). -/
def Msg.fields : Msg → Nat × List (Nat × Nat)
  | .init g0 g1 g2 tags => (0x01, [(g0, 16), (g1, 16), (g2, 16), (tags, 16)])
  | .resyncReq next reason => (0x02, [(next % 4096, 16), (reason, 8)])
  | .resyncDone next g0 g1 g2 => (0x04, [(next % 4096, 16), (g0, 16), (g1, 16), (g2, 16)])
  | .retryReq next => (0x05, [(next % 4096, 16)])
  | .widthChange width lanes switchSeq => (0x06, [(width, 2), (0, 2), (lanes, 4), (switchSeq % 4096, 16)])
  | .widthAck width lanes switchSeq => (0x07, [(width, 2), (0, 2), (lanes, 4), (switchSeq % 4096, 16)])
  | .credit r0 r1 r2 => (0x10, [(r0, 16), (r1, 16), (r2, 16)])
  | .audit id s0 s1 s2 r0 r1 r2 tagOpen tagClose =>
    (0x11, [(id, 16), (s0, 16), (s1, 16), (s2, 16), (r0, 16), (r1, 16), (r2, 16), (tagOpen, 16), (tagClose, 16)])
  | .mgmtResp tag status last segment data =>
    (0x13, [(tag, 10), (status.code, 4), (b2n last, 1), (0, 1), (segment, 8), (ofLe data, 512)])
  | .notice source cls timeUs window => (0x14, [(source, 8), (cls % 8, 8), (timeUs, 32), (window, 8)])

/-- The 76 bytes of a slot, byte 0 lowest. -/
def Slot.bits : Slot → BitVec 608
  | .completions l => BitVec.ofNat 608 (pack ([(1, 2), (l.length, 3), (0, 27)] ++ l.map (fun e => (completionBits e.1 e.2.1 e.2.2, 96))))
  | .data tag part status block =>
    BitVec.ofNat 608 (pack [(0, 2), (1, 1), (part, 1), (tag, 10), (status.code, 4), (0, 64), (0, 14), (block.toNat, 512)])
  | .ctrl m => BitVec.ofNat 608 (pack ([(2, 2), (m.fields.1, 6)] ++ m.fields.2))
  | .idle => 3

/-! ## Flits (R179 to R181) -/

/-- A flit from its type, SEQ, ACK_SEQ, CREDIT field and slots, with its CRC-32. -/
def buildFlit (typ seq ack credit : Nat) (a b : Slot) : BitVec 1280 :=
  let body := pack [(typ, 2), (seq, 12), (ack, 12), (credit, 6), (a.bits.toNat, 608), (b.bits.toNat, 608)]
  BitVec.ofNat 1280 (body + (crc32 (leBytes 156 body)).toNat * 2 ^ 1248)

/-- The CREDIT field of a return of n slot credits of VC v, or of none. -/
def creditField : Option (Nat × Nat) → Nat
  | some (v, n) => pack [(n - 1, 4), (v, 2)]
  | none => 0x30

/-- A SEQ flit as it leaves now: its SEQ, slots and CREDIT kept, its ACK_SEQ and CRC afresh (R197, R199). -/
def Port.seqFlit (p : Port) (f : SentFlit) : BitVec 1280 :=
  buildFlit 0 f.seq p.tx.ackOut.toNat (creditField f.credit) (f.slots.getD 0 .idle) (f.slots.getD 1 .idle)

/-- An IDLE flit: it names the sequence of the next SEQ flit. -/
def Port.idleFlit (p : Port) : BitVec 1280 := buildFlit 1 p.tx.nextSeq.toNat p.tx.ackOut.toNat 0x30 .idle .idle

/-- A LINK flit. -/
def Port.linkFlit (p : Port) (m : Msg) : BitVec 1280 := buildFlit 2 0 p.tx.ackOut.toNat 0x30 (.ctrl m) .idle

/-! ## Codewords on the lanes (R170, R171, R174) -/

/-- The 128 symbols of a flit, the first bits first (R167, R170, R179; log 64). -/
def flitSymbols (f : BitVec 1280) : List Nat := (List.range 128).map (fun i => f.toNat / 2 ^ (10 * i) % 1024)

/-- The LL-FEC codeword of a flit (R170). -/
def llCodeword (f : BitVec 1280) : List Nat := flitSymbols f ++ rsParity 8 (flitSymbols f)

/-- The KP4 codeword of four flits (R171): symbols 512 and 513 are 0. -/
def kp4Codeword (l : List (BitVec 1280)) : List Nat :=
  let msg := l.flatMap flitSymbols ++ [0, 0]
  msg ++ rsParity 30 msg

/-- Whether the codewords of the port are those of KP4. -/
def Port.kp4 (p : Port) : Bool := !p.lnk.rl1 && decide (p.lnk.fec = 2)

/-- The lanes of a mask, from the lowest up (R169). -/
def lanesOf (m : BitVec 4) : List Nat := (List.range 4).filter (fun l => m.getLsbD l)

/-- The codewords that a port sends on its lanes at a time: a pair in LL-FEC, one otherwise (R170, R171, R174). -/
def Port.codewords (p : Port) : Nat := if p.kp4 ∨ p.lnk.rl1 then 1 else 2

/-- The symbols of a codeword (R170, R171). -/
def Port.codeLength (p : Port) : Nat := if p.kp4 then 544 else 136

/-- The flits of a codeword (R170, R171). -/
def Port.flitsPerWord (p : Port) : Nat := if p.kp4 then 4 else 1

/-- The place of symbol i of codeword c among w lanes (R170, R171, R174): the lane's place among those in use, and the position on it. -/
def Port.symbolPlace (p : Port) (w c i : Nat) : Nat × Nat := (i % w, p.codewords * (i / w) + c)

/-- Codewords striped over the lanes of a mask, by lane of the port. -/
def stripe (m : BitVec 4) (words : List (List Nat)) : List (List (BitVec 10)) :=
  (List.range 4).map (fun l =>
    match (lanesOf m).findIdx? (· == l) with
    | some j => ((List.range (words.headD []).length).filter (fun i => i % (lanesOf m).length == j)).flatMap (fun i =>
        words.map (fun w => BitVec.ofNat 10 (w.getD i 0)))
    | none => [])

/-- Pieces of n elements. -/
def pieces {α : Type} (n : Nat) (l : List α) : List (List α) := (List.range (l.length / n)).map (fun i => (l.drop (n * i)).take n)

/-- The codewords of one transmission. -/
def Port.encode (p : Port) (l : List (BitVec 1280)) : List (List Nat) := if p.kp4 then [kp4Codeword l] else l.map llCodeword

/-- Flits sent: IDLE flits fill the last transmission (R170, log 72), which leaves with the others encoded and striped. -/
def Port.transmit (p : Port) (l : List (BitVec 1280)) : Port :=
  let n := p.codewords * p.flitsPerWord
  let all := l ++ List.replicate ((n - l.length % n) % n) p.idleFlit
  { p with wire := p.wire ++ (pieces n all).map (fun g => .flits g (stripe p.lnk.txLanes (p.encode g))) }

/-- Alignment blocks with counts from `first` on every lane that transmits (R167, R385). -/
def Port.sendBlocks (p : Port) (first n : Nat) : Port :=
  { p with wire := p.wire ++ [.blocks ((List.range 4).map (fun l =>
      if p.lnk.txLanes.getLsbD l then (List.range n).map (fun i => alignmentBlock l (first + i)) else []))] }

end Sys2Proof.Machine
end

