-- ==== Sys2Proof/Machine/Faults.lean ====
section
/-! DEFINITION. The fault collector (chapter 16): default table, events, escalation, raises, reactions, the log, notices, the grave latch and entry to HOLD; and what a loss of contents and a glove takeover do. -/

namespace Sys2Proof.Machine

/-! ## Sources -/

/-- REACT bits 16 to 24 by name (R419). -/
def rLog : Nat := 1
def rAlert : Nat := 2
def rNotice : Nat := 4
def rFence : Nat := 8
def rBank : Nat := 16
def rRank : Nat := 32
def rGlove : Nat := 64
def rSup : Nat := 128
def rHold : Nat := 256

/-- A fault table entry: N, T code, class, REACT. -/
def mkSource (n t c r : Nat) : Source :=
  { cls := BitVec.ofNat 3 c, n := BitVec.ofNat 8 n, t := BitVec.ofNat 5 t, initCls := BitVec.ofNat 3 c,
    react := BitVec.ofNat 9 r }

/-- A source that never counts (R412). -/
def reservedSource (n : Nat) : Bool :=
  n == 12 || n == 13 || n == 15 || (224 ≤ n && n ≤ 227) || (234 ≤ n && n ≤ 243) || 247 ≤ n

/-- The default table (R426). -/
def srcDefault (n : Nat) : Source :=
  let la := rLog + rAlert
  let lan := rLog + rAlert + rNotice
  if reservedSource n then mkSource 0 0 0 0
  else if n = 0 then mkSource 2 22 2 la
  else if n = 1 then mkSource 3 16 1 la
  else if n = 2 ∨ n = 14 then mkSource 1 0 4 lan
  else if n = 3 ∨ n = 5 ∨ n = 8 ∨ n = 11 then mkSource 1 0 2 la
  else if n = 4 then mkSource 1 0 0 rLog
  else if n = 6 then mkSource 4 22 0 rLog
  else if n = 10 then mkSource 16 22 0 rLog
  else if n = 7 then mkSource 8 22 1 la
  else if n = 9 then mkSource 2 22 2 la
  else if n < 80 then
    match (n - 16) % 4 with
    | 0 => mkSource 64 10 0 rLog
    | 1 => mkSource 16 10 0 (lan + rFence)
    | 2 => mkSource 4 10 1 la
    | _ => mkSource 8 10 0 rLog
  else if n < 176 then
    match (n - 80) % 6 with
    | 0 => mkSource 255 22 1 rLog
    | 1 => mkSource 4 26 2 (lan + rBank)
    | 2 => mkSource 8 22 1 rLog
    | 3 => mkSource 8 22 1 rLog
    | _ => mkSource 1 0 2 lan
  else if n < 212 then
    if n % 2 = 0 then mkSource 255 26 1 rLog else mkSource 1 0 2 lan
  else if n = 212 ∨ n = 215 then mkSource 1 0 0 rLog
  else if n = 213 ∨ n = 216 then mkSource 1 0 2 (rLog + rNotice)
  else if n = 214 ∨ n = 217 then mkSource 1 0 3 lan
  else if n = 218 ∨ n = 219 ∨ n = 220 then mkSource 1 0 2 la
  else if n = 221 then mkSource 4 22 0 rLog
  else if n = 222 then mkSource 1 0 4 la
  else if n = 223 then mkSource 16 22 0 rLog
  else if n = 228 ∨ n = 229 then mkSource 8 26 0 rLog
  else if n = 231 then mkSource 1 0 0 la
  else if n = 244 then mkSource 16 22 0 rLog
  else mkSource 1 0 0 rLog

/-- The class that R421 fixes. -/
def fixedClass (n : Nat) : Option Nat :=
  if n = 2 ∨ n = 14 ∨ n = 222 then some 4 else if n = 214 ∨ n = 217 then some 3 else none

/-- The REACT bits that R421 fixes: the fence of a port's protocol-violation source. -/
def fixedReact (n : Nat) : Nat := if 16 ≤ n ∧ n < 80 ∧ n % 4 = 1 then rFence else 0

/-- Sources of an absent unit (R5, R411): absent ports, layers that are not fitted. -/
def State.srcAbsent (s : State) (n : Nat) : Bool :=
  (16 ≤ n && n < 80 && !s.portPresent ((n - 16) / 4)) ||
  (176 ≤ n && n < 212 && s.otp.ident.isSome && !s.fitted ((n - 176) / 2))

/-- Source n. -/
def State.src (s : State) (n : Nat) : Source := tabGet (srcDefault n) s.flt.sources n
/-- Source n changed by f. -/
def State.updSrc (s : State) (n : Nat) (f : Source → Source) : State :=
  { s with flt.sources := tabSet (srcDefault n) s.flt.sources n (f (s.src n)) }

/-- The current class, a fixed class included (R413, R421); 7 is ABSENT, the class of a source of an absent unit (R5). -/
def State.srcClass (s : State) (n : Nat) : Nat :=
  if s.srcAbsent n then 7 else match fixedClass n with | some c => c | none => (s.src n).cls.toNat
/-- The REACT bits in force. -/
def State.srcReact (s : State) (n : Nat) : Nat := (s.src n).react.toNat ||| fixedReact n

/-- Window length T of a code, ns (R119). -/
def windowNs (code : Nat) : Nat := if code = 26 then 86400000000000 else 2 ^ code * 1000000

/-! ## Alerts, log, notices -/

/-- An attention request falls due (R423). -/
def attend (s : State) : State := if s.mb.attnNow then { s with mb.attnPending := true } else s

/-- Bits of FLT_ALERT set (R423, R434). -/
def setAlert (m : BitVec 5) (s : State) : State :=
  if s.flt.alert ||| m = s.flt.alert then s
  else attend { s with flt.alert := s.flt.alert ||| m }

/-- DETAIL of an escalation or a raise (R427). -/
def detailOf (src : Nat) (d : EventDetail) : Nat :=
  if 16 ≤ src ∧ src < 80 then pack [(d.cause.toNat, 4)]
  else if 80 ≤ src ∧ src < 212 then
    pack [(d.port.elim 0 (·.val), 4), (d.tag.toNat, 10), (b2n d.port.isSome, 1), (d.channel.elim 0 (·.val), 4),
      (b2n d.pc, 1), (d.layer.elim 0 (·.val), 5), (d.bank.elim 0 (·.val), 4), (d.row.toNat, 14), (d.block.toNat, 4)]
  else if 212 ≤ src ∧ src < 224 then pack [(d.cause.toNat, 8), (d.temp.toNat, 11)]
  else 0

/-- A fault-log record (R427), queued as a journal record (R428). -/
def logRecord (src cls : Nat) (forced reacted : Bool) (record : Nat) (detail : Nat) (s : State) : State :=
  let w0 := packW [(src, 8), (cls, 3), (b2n forced, 1), (b2n reacted, 1), (record, 3), (s.flt.nextSeq.toNat, 16)]
  let w1 := BitVec.ofNat 32 s.us
  let w2 := BitVec.ofNat 32 detail
  let w3 := BitVec.ofNat 32 (detail / 2 ^ 32)
  let oldSeq := (tabGet (0, 0, 0, 0) s.flt.log s.flt.next).1.toNat / 65536
  let lost := s.flt.wrapped && decide (0 < (oldSeq + 65536 - s.flt.ack.toNat) % 65536)
    && decide ((oldSeq + 65536 - s.flt.ack.toNat) % 65536 < 32768)
  let s := { s with
    flt.log := tabSet (0, 0, 0, 0) s.flt.log s.flt.next (w0, w1, w2, w3)
    flt.next := (s.flt.next + 1) % 128
    flt.wrapped := (s.flt.wrapped || decide (s.flt.next = 127))
    flt.nextSeq := s.flt.nextSeq + 1 }
  let s := if lost then setAlert 4 s else s
  let bytes := leBytes 4 w0.toNat ++ leBytes 4 w1.toNat ++ leBytes 4 w2.toNat ++ leBytes 4 w3.toNat
  queueRecord { prio := if cls = 4 then 2 else 8, kind := 1, payload := bytes } s

/-- A window reaches logical rank r (R219): one of its tracts lies in the rank. -/
def Window.reaches (w : Window) (r : Nat) : Bool :=
  w.valid && decide (w.tractBase < 128 * (r + 1)) && decide (128 * r < w.tractBase + w.count)

/-- Window w of a port. -/
def Port.window (p : Port) (w : Nat) : Window := tabGet {} p.cfg.windows w

/-- The lowest-numbered valid window of a port that reaches rank r. -/
def Port.windowTo (p : Port) (r : Nat) : Option Nat := (List.range 16).find? (fun w => (p.window w).reaches r)

/-- A notice that waits for VC2 credit. -/
def OutItem.isNotice (o : OutItem) : Bool :=
  match o.slot with | .ctrl (.notice _ _ _ _) => true | _ => false

/-- A FAULT_NOTICE queued at port p, which is ACTIVE; a fifth displaces the oldest (R422). -/
def sendNotice (p src cls win : Nat) (s : State) : State :=
  if (s.port p).lnk.link = .active then
    let t := (s.now - s.pwr.serviceAt) / 1000 % 2 ^ 32
    let four := decide (4 ≤ ((s.port p).outq.filter OutItem.isNotice).length)
    let s := s.updPort p (fun x => { x with
      outq := (if four then dropFirst OutItem.isNotice x.outq else x.outq) ++ [{ slot := .ctrl (.notice src cls t win) }] })
    if four then setAlert 8 s else s
  else s

/-- Notices to the ports whose windows reach rank r. -/
def noticeRank (src cls r : Nat) (s : State) : State :=
  forN 16 (fun p s => match (s.port p).windowTo r with | some w => sendNotice p src cls w s | none => s) s

/-- The ranks held on layer k in any pseudo-channel. -/
def State.ranksOn (s : State) (k : Nat) : List Nat :=
  (List.range s.serviceLayers).filter (fun r => (List.range 32).any (fun q => decide ((s.rank q r).layer = k)))

/-- The FAULT_NOTICE reaction by the table of affected ports (R422). -/
def notices (src : Nat) (d : EventDetail) (s : State) : State :=
  let cls := s.srcClass src
  if 16 ≤ src ∧ src < 80 then sendNotice ((src - 16) / 4) src cls 0xFF s
  else if 80 ≤ src ∧ src < 176 then
    match d.layer.bind (fun k => s.rankOn (2 * ((src - 80) / 6) + b2n d.pc) k.val) with
    | some r => noticeRank src cls r s
    | none => forN 16 (fun p s =>
        if (List.range 16).any (fun w => ((s.port p).window w).valid) then sendNotice p src cls 0xFF s else s) s
  else if 176 ≤ src ∧ src < 212 then
    let ranks := s.ranksOn ((src - 176) / 2)
    forN 16 (fun p s => match ranks.find? (fun r => ((s.port p).windowTo r).isSome) with
      | some r => sendNotice p src cls (((s.port p).windowTo r).getD 0xFF) s
      | none => s) s
  else forN 16 (fun p s => sendNotice p src cls 0xFF s) s

/-! ## Requests answered, ports taken down -/

/-- A request is held: passed or waiting for its data, and not accepted (R255). -/
def Req.held (r : Req) : Bool := decide (r.phase = .waiting) || decide (r.phase = .waitData)

/-- The completion header of a request (R184). -/
def completion (r : Req) (st : Status) : OutItem :=
  { slot := .completions [(r.op.code, r.tag, st)], closes := some r.tag }

/-- The request with this tag changed by f. -/
def Port.updReq (p : Port) (tag : Nat) (f : Req → Req) : Port :=
  { p with reqs := p.reqs.map (fun r => if r.tag = tag then f r else r) }

/-- A request answered without effect (R185). -/
def Port.answer (p : Port) (r : Req) (st : Status) : Port :=
  { p.updReq r.tag (fun r => { r with phase := .answered }) with outq := p.outq ++ [completion r st] }

/-- A port fenced (R212): held requests are answered FENCED, and data still to come is discarded in silence (R255). -/
def fencePort (p : Nat) (s : State) : State :=
  s.updPort p (fun x =>
    let held := x.reqs.filter Req.held
    let x := held.foldl (fun x r => x.answer r .fenced) x
    { x with fenced := true, fencedAt := s.now,
             mute := x.mute ++ (held.filter (fun r => decide (r.phase = .waitData))).map (·.tag) })

/-- A session ends (R207): responses, held requests and the replay buffer go; accepted work completes inside. -/
def Port.endSession (p : Port) : Port :=
  { p with
    reqs := [], outq := [], mute := [], doze := 0
    tx := { p.tx with session := false, initSent := false, initRcvd := false, replay := [], rx := [], discarding := false,
                      lastRetry := none, expiries := 0, due0 := 0, due1 := 0, due2 := 0, withheld := 0, withheldFrom := none,
                      dryFrom := none }
    aud := { p.aud with auditOpen := [], snap := none, resync := none } }

/-- A port taken to OFF (R178, R37). -/
def Port.toOff (p : Port) : Port :=
  { p.endSession with
    rung := 3, txHush := false, rxHush := false
    lnk := { p.lnk with link := .off, width := 0, fec := 0, rl1 := false, lanesActive := 0, lanesLocked := 0, lanesBit := 0,
                        lanesTrained := 0, lanesPresent := 0, lastTerm := 0, backoff := false, fails := 0, retraining := false,
                        partnerStarted := false, widthReq := none, retrainNext := false, capCount := 0, loopTest := 0,
                        txLanes := 0, rxLanes := 0, txNext := none, rxNext := none, widthCap := none, theirs := false } }

/-- The queued final slot of a tag, if there is one, reports a completed request: OK or OK_CORRECTED. -/
def Port.queuedOk (p : Port) (tag : Nat) : Bool :=
  match p.outq.find? (fun o => o.closes = some tag) with
  | some o => match o.slot with
    | .completions ((_, _, st) :: _) => decide (st = .ok) || decide (st = .okCorrected)
    | .data _ _ st _ => decide (st = .ok) || decide (st = .okCorrected)
    | _ => true
  | none => true

/-- The completion headers of the accepted requests of a port: OK where the request has completed, else ABORTED (R9, R36). -/
def Port.lastAnswers (p : Port) : List (Nat × Nat × Status) :=
  (p.reqs.filter (fun r => decide (0 < r.serial))).map (fun r =>
    (r.op.code, r.tag, if r.phase ≠ .latched ∧ p.queuedOk r.tag then .ok else .aborted))

/-- SEQ flits that hold these slots, numbered on from the next sequence. -/
def Port.lastFlits (p : Port) (slots : List Slot) : List (BitVec 1280) :=
  (List.range ((slots.length + 1) / 2)).map (fun i =>
    p.seqFlit { seq := (p.tx.nextSeq + BitVec.ofNat 12 i).toNat, slots := (slots.drop (2 * i)).take 2, credit := none, sentAt := 0 })

/-- Every accepted request of a port answered as its link goes down, whatever credits are held (R9, R36; log 73). -/
def Port.answerAll (p : Port) : Port :=
  let l := p.lastAnswers
  let slots := (List.range ((l.length + 5) / 6)).map (fun i => Slot.completions ((l.drop (6 * i)).take 6))
  if p.lnk.link = .active ∧ p.tx.session then p.transmit (p.lastFlits slots) else p

/-- The controllers stop: nothing in flight, nothing refreshed, contents lost (R37, R376). -/
def stopMemory (s : State) : State :=
  let s := forN 32 (fun q s => if s.pc q = {} then s else s.updPc q (fun x =>
    { x with grants := [], granted := 0, issued := 0, bursts := [], wq := [], slots := [], cols := [], rows := [], gStarts := [],
             openRows := [], latches := [], bankFree := [],
             rf := { x.rf with refRun := [], rfmDue := [] } })) s
  { s with mem := [], slices := s.slices.map (fun e => (e.1, { e.2 with inUse := false, selfRefresh := false })) }

/-- Every accepted request answered and every link down (R36, R37). -/
def linksDown (s : State) : State :=
  forN 16 (fun p s => if s.port p = {} then s else s.updPort p (fun x => x.answerAll.toOff)) s

/-- The layer arrays off: what R37 and R377 keep powered names none of them. -/
def layersOff (s : State) : State :=
  { s with layers := s.layers.map (fun e => (e.1, { e.2 with powered := false })) }

/-- HOLD entered with a cause (R36 to R38); the first cause detected stays. TRIP is not left (R29). -/
def enterHold (cause : Nat) (s : State) : State :=
  if s.mode = .trip ∨ s.mode = .hold then s
  else
    let s := stopTest (layersOff (stopMemory (linksDown s)))
    { s with mode := .hold
             flt.holdAt := some (s.now, s.mode)
             holdCause := if s.holdCause = 0 then BitVec.ofNat 8 cause else s.holdCause
             pins.vid := some 0x10
             boot.frozen := some (s.boot.frozen.getD s.us)
             pwr := { s.pwr with entry := none, retainPending := false, wake := none, raising := false, lowering := true }
             bist.phase := 0 }

/-- Majority of the three copies (R424). -/
def State.grave (s : State) : Bool :=
  (s.flt.grave0 && s.flt.grave1) || (s.flt.grave0 && s.flt.grave2) || (s.flt.grave1 && s.flt.grave2)

/-- The grave-fault latch set (R424, R29): source, alert, notices of CLASS 4, HOLD; in BOOT the cause is 0x01 (R101). -/
def setGrave (src : Nat) (forced : Bool) (cause : Nat) (s : State) : State :=
  let s := if s.grave then s
    else { s with flt.grave0 := true, flt.grave1 := true, flt.grave2 := true,
                  flt.graveSrc := BitVec.ofNat 8 src, flt.graveForced := forced }
  let s := setAlert 2 s
  let t := (s.now - s.pwr.serviceAt) / 1000 % 2 ^ 32
  let s := forN 16 (fun p s => if (s.port p).lnk.link = .active
    then s.updPort p (fun x => { x.transmit (x.lastFlits [.ctrl (.notice src 4 t 0xFF)]) with tx.nextSeq := x.tx.nextSeq + 1 }) else s) s
  enterHold (if s.mode = .boot then 1 else cause) s

/-- The latch set where no escalation or raise of this event has written its fault-log record yet (R424): the record is written here, as
a raise (log 78). -/
def latchGrave (src : Nat) (d : EventDetail) (forced : Bool) (cause : Nat) (s : State) : State :=
  setGrave src forced cause (if s.grave then s else logRecord src 4 forced false 1 (detailOf src d) s)

/-- HOLD_CAUSE of a grave fault where no rule names another (R424, R42). -/
def graveCause (src : Nat) : Nat := if src = 14 ∨ src = 222 then 3 else 1

/-! ## Reactions, escalation, raises -/

/-- A restart of the supervisor pair (R22), unless one is in progress. -/
def supRestart (s : State) : State := if s.sup.restarting then s else { s with sup.restarting := true, sup.since := s.now }

/-- A repair given to the supervisor, or held back during a restart (R24, R420). -/
def askRepair (r : RepairReq) (s : State) : State :=
  if s.sup.restarting then { s with sup.queue := s.sup.queue ++ [.repair r] }
  else { s with rep.todo := s.rep.todo ++ [r] }

/-- The repairs of REACT bits 20 and 21 (R336). -/
def repairReactions (src : Nat) (d : EventDetail) (s : State) : State :=
  let re := s.srcReact src
  let s := if re.testBit 4 ∧ 80 ≤ src ∧ src < 212 then
      match d.channel, d.layer, d.bank with
      | some n, some k, some b => askRepair (.bank (2 * n.val + b2n d.pc) k.val b.val true) s
      | _, _, _ => s
    else s
  if re.testBit 5 then
    if 80 ≤ src ∧ src < 176 then
      match d.layer with
      | some k => askRepair (.rank ((src - 80) / 6) k.val true) s
      | none => s
    else if 176 ≤ src ∧ src < 212 then askRepair (.layer ((src - 176) / 2) true) s
    else s
  else s

/-- The reactions of a source in REACT bit order (R419, R420), but for glove takeover and HOLD. -/
def reactions (src : Nat) (d : EventDetail) (forced : Bool) (record : Nat) (s : State) : State :=
  let re := s.srcReact src
  let cls := s.srcClass src
  let s := if re.testBit 0 ∨ 2 ≤ cls then logRecord src cls forced (re != 0) record (detailOf src d) s else s
  let s := if re.testBit 1 then setAlert 1 s else s
  let s := if re.testBit 2 then notices src d s else s
  let s := if re.testBit 3 ∧ 16 ≤ src ∧ src < 80 then fencePort ((src - 16) / 4) s else s
  let s := repairReactions src d s
  if re.testBit 7 then supRestart s else s

/-- The HOLD reaction: a raise of GRAVE on the same source (R419, R416). -/
def holdReaction (src : Nat) (d : EventDetail) (forced : Bool) (s : State) : State :=
  if (s.srcReact src).testBit 8 ∧ s.srcClass src ≠ 4 then
    let s := s.updSrc src (fun x => { x with cls := 4, windowOpen := false, count := 0, escalated := true })
    setGrave src forced (graveCause src) (logRecord src 4 forced true 1 (detailOf src d) s)
  else s

/-- Whether a source can count at all (R5, R412). -/
def State.counts (s : State) (src : Nat) : Bool := !reservedSource src && !s.srcAbsent src

/-- Counting of one event (R415): the source after it, and whether it escalates. -/
def Source.count1 (x : Source) (now : Nat) : Source × Bool :=
  let isOpen := x.windowOpen && decide (now ≤ x.start + windowNs x.t.toNat)
  let c := (if isOpen then x.count else 0) + 1
  let start := if isOpen then x.start else now
  if c = x.n.toNat then ({ x with windowOpen := false, count := 0, start := start }, true)
  else ({ x with windowOpen := true, count := c, start := start }, false)

/-- An escalation but for the takeover reaction (R415). -/
def escalate (src : Nat) (d : EventDetail) (forced : Bool) (s : State) : State :=
  let c := s.srcClass src
  let s := s.updSrc src (fun x => { x with
    cls := if c < 3 ∧ fixedClass src = none then x.cls + 1 else x.cls
    escalated := true, escalations := satInc x.escalations })
  let s := reactions src d forced 0 s
  if c = 4 then setGrave src forced (graveCause src) s else holdReaction src d forced s

/-- One event registered and counted; the Bool says whether the source escalated (R414, R415): a further event of the tick counts in
FLT_SRC_TOTAL only. A forced event is one of the next tick, and on a source at GRAVE it sets the latch (R425). -/
def registerEvent (src : Nat) (d : EventDetail) (forced : Bool) (s : State) : State × Bool :=
  if !s.counts src then (s, false)
  else
    let t := if forced then s.now + 1 else s.now
    if (s.src src).last = some t then (s.updSrc src (fun x => { x with total := satInc x.total }), false)
    else
    let r := (s.src src).count1 t
    let s := s.updSrc src (fun _ =>
      { r.1 with total := satInc r.1.total, pending := true, forced := r.1.forced || forced, last := some t })
    let s := if src = 0 ∨ src = 9 then setAlert 16 s else s
    if r.2 then (escalate src d forced s, true)
    else if forced ∧ s.srcClass src = 4 then (latchGrave src d true (graveCause src) s, false)
    else (s, false)

/-- A raise of class c on a source for an event already registered (R416). -/
def raiseOnly (src c : Nat) (d : EventDetail) (cause : Nat) (s : State) : State :=
  let old := s.srcClass src
  if c ≤ old then (if c = 4 then latchGrave src d false cause s else s)
  else
    let s := s.updSrc src (fun x => { x with
      cls := if fixedClass src = none then BitVec.ofNat 3 c else x.cls
      windowOpen := false, count := 0, escalated := true })
    let s := reactions src d false 1 s
    if c = 4 then setGrave src false cause s else holdReaction src d false s

/-- The shrink of a port or a pair has begun: GNT_SHED.LAST_CAUSE (R260). -/
def shrinkCause (c : Nat) (s : State) : State := { s with gnt.lastCause := BitVec.ofNat 3 c }

/-! ## Loss of contents (R358) and glove takeover (R16, R17, R20) -/

/-- DETAIL of a loss record (R427). -/
def lossDetail (unit n : Nat) (pc : Bool) (k b r rows : Nat) : Nat :=
  pack [(unit, 2), (n, 4), (b2n pc, 1), (k, 5), (b, 4), (r, 4), (min rows 0x7FFFFF, 23)]

/-- Rows of a pseudo-channel that held service ranks (R427, UNIT 0x3). -/
def State.pcRows (s : State) : Nat := s.serviceLayers * 16 * 16384

/-- The minimum service set but for a linked partner and the elements that raise on their own (R42); a loss of the core PLL's
lock counts as a loss of the clock (R403). -/
def State.minimumSet (s : State) : Bool :=
  s.sup.running && s.otp.ident.isSome && s.image.isSome && s.pwr.refclk && s.pwr.corePll
  && (List.range 16).any (fun p => s.portUp p && (s.port p).lnk.pll)
  && !(s.bist.excluded.getLsbD 16)
  && (List.range 32).any (fun q => !(s.pc q).excluded && !s.noController (q / 2) &&
      (List.range s.serviceLayers).any (fun r => decide ((s.rank q r).state ≠ 3)))

/-- The set is checked in SERVICE, and in RETAIN at P3 (R42), where its loss raises GRAVE on source 14 with one event of it; at
BOOT step 12 its loss enters HOLD with cause 0x03 (R99). -/
def checkMinimum (s : State) : State :=
  if s.minimumSet then s
  else if s.mode = .boot ∧ s.boot.step = 12 then enterHold 3 s
  else if s.mode = .service ∨ (s.mode = .retain ∧ s.pwr.rung ≤ 3) then
    latchGrave 14 {} false 3 (registerEvent 14 {} false s).1
  else s

/-- The work of a pseudo-channel whose contents are lost ends (R20, R95): queued writes, drains, refreshes, migrations. Reads in
flight and grants stay and are answered as lost storage. -/
def stopPc (q : Nat) (s : State) : State :=
  let s := s.updPc q (fun x => { x with
    wq := [], bursts := x.bursts.filter (fun y => !y.write), openRows := [], rf := { x.rf with refRun := [], rfmDue := [] }
    cal := none, calQueue := [], calForced := [], isolating := false
    mg := { x.mg with mig := .idle, unit := {}, mark := 0, migQueue := [] } })
  forN 16 (fun r s => if (s.rank q r).state = 2 then
    s.setRank q r { s.rank q r with state := if s.liners.contains (s.rank q r).layer then 1 else 0 } else s) s

/-- A pair with no member left (R20): one loss record for each pseudo-channel, one event on the data-uncorrectable
source of each channel, REP_LOSS, notices. -/
def pairLoss (i : Nat) (s : State) : State :=
  let a := 2 * i
  let b := 2 * i + 1
  let s := (s.updChan a (fun c => { c with glove := 3, overlap := false })).updChan b (fun c => { c with glove := 3, overlap := false })
  let s := forL [2 * a, 2 * a + 1, 2 * b, 2 * b + 1] stopPc s
  let s := forL [(a, 2 * a, false), (a, 2 * a + 1, true), (b, 2 * b, false), (b, 2 * b + 1, true)] (fun x s =>
    logRecord (81 + 6 * x.1) (s.srcClass (81 + 6 * x.1)) false false 3 (lossDetail 3 x.1 x.2.2 0 0 0 s.pcRows) s) s
  let s := (registerEvent (81 + 6 * a) { channel := some (Fin.ofNat 16 a) } false s).1
  let s := (registerEvent (81 + 6 * b) { channel := some (Fin.ofNat 16 b) } false s).1
  let s := { s with rep.lossPcs := satAdd s.rep.lossPcs 4 }
  let s := forN 16 (fun p s => if (List.range 16).any (fun w => ((s.port p).window w).valid)
    then sendNotice p (81 + 6 * a) (s.srcClass (81 + 6 * a)) 0xFF s else s) s
  checkMinimum s

/-- Glove takeover with channel n as the failed member, for an event already registered on `src` (R16, R17, R260);
the pair loss of R20 where the mate has failed before. -/
def takeover (n src : Nat) (s : State) : State :=
  let m := if n % 2 = 0 then n + 1 else n - 1
  if (s.chan n).glove = 1 ∨ (s.chan n).glove = 3 then s
  else if (s.chan m).glove = 1 then pairLoss (n / 2) s
  else
    let s := (s.updChan n (fun c => { c with glove := 1, overlap := true })).updChan m (fun c => { c with glove := 2, overlap := true })
    let s := shrinkCause 1 { s with takeover := s.takeover ||| BitVec.ofNat 8 (2 ^ (n / 2)) }
    raiseOnly src 2 { channel := some (Fin.ofNat 16 n) } 1 s

/-- A KIND 0x5 entry handed to the supervisor (R336, R356): REP_LAYER_FAULT, and the repair its SCOPE asks for. -/
def layerEntry (k : Nat) (d : EventDetail) (s : State) : State :=
  match d.channel with
  | none => s
  | some n =>
    let row := d.row.toNat
    let readable := row.testBit 11
    let s := { s with rep.layerFault := BitVec.ofNat 24 (pack [(k, 5), (bitsOf row 13 12, 2), (b2n readable, 1),
      (row % 2048, 11), (n.val, 4), (1, 1)]) }
    match bitsOf row 13 12 with
    | 0 => askRepair (.bank (2 * n.val + b2n d.pc) k (d.bank.elim 0 (·.val)) readable) s
    | 1 => askRepair (.rank n.val k readable) s
    | 2 => askRepair (.layer k readable) s
    | _ => s

/-- Per-event actions that R421 gives and that are not taken by the detector's own rule: a restart for source 1, a
takeover for 84 + 6n and 85 + 6n, lane isolation for 82 + 6n and 83 + 6n, the entry handed over for 177 + 2(k − 1). -/
def perEvent (src : Nat) (d : EventDetail) (s : State) : State :=
  if src = 1 then supRestart s
  else if 80 ≤ src ∧ src < 176 then
    let n := (src - 80) / 6
    match (src - 80) % 6 with
    | 2 | 3 => s.updPc (2 * n + b2n d.pc) (fun x => { x with isolating := true })
    | 4 | 5 => takeover n src s
    | _ => s
  else if 176 ≤ src ∧ src < 212 ∧ src % 2 = 1 then layerEntry ((src - 177) / 2) d s
  else s

/-- The takeover reaction, REACT bit 22 (R419). -/
def gloveReaction (src : Nat) (s : State) : State :=
  if (s.srcReact src).testBit 6 ∧ 80 ≤ src ∧ src < 176 then
    let n := (src - 80) / 6
    let m := if n % 2 = 0 then n + 1 else n - 1
    if (s.chan m).glove = 0 then takeover n src s else s
  else s

/-- At P4 and P5 the collector is off and the AON holds up to 8 events (R431). -/
def State.collectorOff (s : State) : Bool := decide (4 ≤ s.pwr.rung) && !s.bist.running

/-- One detected event of a source (R414 to R421). -/
def fault (src : Nat) (d : EventDetail) (s : State) : State :=
  if s.collectorOff then
    if s.counts src then
      if 8 ≤ s.flt.held.length then { s with flt.held := s.flt.held.drop 1 ++ [(src, s.now)], flt.heldLost := s.flt.heldLost + 1 }
      else { s with flt.held := s.flt.held ++ [(src, s.now)] }
    else s
  else
    let r := registerEvent src d false s
    let s := if r.2 then gloveReaction src r.1 else r.1
    if s.counts src then perEvent src d s else s

/-- Several events of one source in one tick: one is registered, the rest count in FLT_SRC_TOTAL only (R414). -/
def faultMany (src n : Nat) (d : EventDetail) (s : State) : State :=
  if n = 0 then s
  else (fault src d s).updSrc src (fun x => { x with total := satAdd x.total (n - 1) })

/-- A raise of class c by a rule (R416): one event, and the class if it is above the source's. -/
def raiseFault (src c : Nat) (d : EventDetail) (cause : Nat) (s : State) : State :=
  if !s.counts src then s
  else if s.srcClass src < c then
    let s := s.updSrc src (fun x => { x with total := satInc x.total, pending := true, last := some s.now })
    let s := raiseOnly src c d cause s
    let s := gloveReaction src s
    perEvent src d s
  else
    let s := fault src d s
    if c = 4 then latchGrave src d false cause s else s

end Sys2Proof.Machine
end

