-- ==== Sys2Proof/Machine/Image.lean ====
section
/-! DEFINITION. The configuration image (chapter 04): the checks of R84, R110 to R122 on a copy, and the load of its settings into the registers (R87, R124, R126). -/

namespace Sys2Proof

/-! ## Access to a section -/

/-- Word i of a section (R110). -/
def ImageSection.word (s : ImageSection) (i : Nat) : Nat := (s.words.getD i 0).toNat
/-- The byte at offset o of a section. -/
def ImageSection.byte (s : ImageSection) (o : Nat) : Nat := s.word (o / 4) / 256 ^ (o % 4) % 256
/-- The 16-bit field at an even offset of a section. -/
def ImageSection.half (s : ImageSection) (o : Nat) : Nat := s.byte o + 256 * s.byte (o + 1)
/-- Words i to j − 1 of a section are all 0. -/
def ImageSection.zeroWords (s : ImageSection) (i j : Nat) : Bool := (List.range (j - i)).all (fun d => s.word (i + d) == 0)
/-- TYPE of a section. -/
def ImageSection.typ (s : ImageSection) : Nat := s.dir.typ.toNat
/-- A section of an owner-private type (R114). -/
def ImageSection.ownerPrivate (s : ImageSection) : Bool := decide (0x8000 ≤ s.typ)
/-- Bytes a to b − 1 of a section. -/
def ImageSection.bytes (s : ImageSection) (a b : Nat) : List Byte := (List.range (b - a)).map (fun i => BitVec.ofNat 8 (s.byte (a + i)))

/-- Word i of the body; behind what was read the flash is erased. -/
def ImageCopy.bodyWord (c : ImageCopy) (i : Nat) : Word := c.body.getD i 0xFFFFFFFF

/-- Directory entry i (chapter 04). -/
def ImageCopy.entry (c : ImageCopy) (i : Nat) : DirEntry :=
  let w := c.bodyWord (4 * i)
  { typ := w.extractLsb' 0 16, inst := w.extractLsb' 16 8, version := w.extractLsb' 24 8, offset := c.bodyWord (4 * i + 1),
    length := c.bodyWord (4 * i + 2), reserved := c.bodyWord (4 * i + 3) }

/-- The sections that the directory's SECTION_COUNT entries name, each with its words. -/
def ImageCopy.sections (c : ImageCopy) : List ImageSection :=
  (List.range c.sectionCount.toNat).map (fun i =>
    let e := c.entry i
    { dir := e, words := (c.body.drop (e.offset.toNat / 4)).take (e.length.toNat / 4) })

/-- The first section of a type. -/
def ImageCopy.sec (c : ImageCopy) (t : Nat) : Option ImageSection := c.sections.find? (fun s => decide (s.typ = t))
/-- The PORT section of port p. -/
def ImageCopy.portSec (c : ImageCopy) (p : Nat) : Option ImageSection :=
  c.sections.find? (fun s => decide (s.typ = 2) && decide (s.dir.inst.toNat = p))

/-- A section that lies in the body, clear of the directory. -/
def ImageCopy.inside (c : ImageCopy) (s : ImageSection) : Bool :=
  decide (s.dir.offset.toNat + s.dir.length.toNat ≤ c.bodyLen.toNat)
    && decide (16 * c.sections.length ≤ s.dir.offset.toNat)

/-- Windows of a PORT section (R118). -/
def ImageSection.window (s : ImageSection) (w : Nat) : Machine.Window :=
  let i := 4 + 4 * w
  { valid := (s.word i).testBit 0, rw := (s.word i).testBit 1, localBase := s.word (i + 1), tractBase := s.word (i + 2),
    count := s.word (i + 3) }

end Sys2Proof

namespace Sys2Proof.Machine

/-! ## Header and directory -/

/-- A well-formed header (R84, R111). -/
def headerOk (c : ImageCopy) : Bool :=
  c.magic == 0x494C4D43 && c.format == 1 && c.headerLen == 0x100
    && decide (c.bodyLen.toNat % 16 = 0) && decide (16 ≤ c.bodyLen.toNat) && decide (c.bodyLen.toNat ≤ 0x3FF000)
    && (c.signer == 1 || c.signer == 2)
    && decide (1 ≤ c.sectionCount.toNat) && decide (c.sectionCount.toNat ≤ 64) && c.reserved == 0

/-- LENGTH of a type by the table of R114; none for an owner-private type. -/
def sectionLength (s : ImageSection) : Option Nat :=
  match s.typ with
  | 1 => some 16 | 2 => some 0x310 | 3 => some 16 | 4 => some 32 | 5 => some 0x400 | 6 => some 32 | 7 => some 16
  | 8 => some (0xB50 + s.word 1) | 9 => some 0x200 | 0x11 => some 0xB30 | _ => none

/-- The types of R114 but for the owner-private ones. -/
def knownType (t : Nat) : Bool := (1 ≤ t && t ≤ 9) || t == 0x11

/-- A directory entry whose own fields are allowed (R114, R115): of the defects of R115 the only ones, beside the directory's extent,
that make the directory malformed before CODE_SIG is checked (R122; log 16). -/
def dirEntryOk (s : ImageSection) : Bool :=
  s.dir.reserved == 0 && decide (s.dir.offset.toNat % 16 = 0) && decide (s.dir.length.toNat % 16 = 0)
    && (s.ownerPrivate || (knownType s.typ && s.dir.version == 1
      && (if s.typ = 2 then decide (s.dir.inst.toNat < 16) else s.dir.inst == 0xFF)))

/-- Two sections overlap: each begins before the other ends. A zero-length owner-private section that lies inside another
overlaps it, though the two share no byte (log 16). -/
def overlaps (a b : ImageSection) : Bool :=
  decide (a.dir.offset.toNat < b.dir.offset.toNat + b.dir.length.toNat)
    && decide (b.dir.offset.toNat < a.dir.offset.toNat + a.dir.length.toNat)

/-- The directory itself: within BODY_LEN, every entry's fields allowed (R84, R115; log 16). -/
def directoryOk (c : ImageCopy) : Bool :=
  decide (16 * c.sections.length ≤ c.bodyLen.toNat) && c.sections.all dirEntryOk

/-- The MICROCODE section that the directory locates: the first entry of that type whose section lies within BODY_LEN (R84). -/
def microcodeOf (c : ImageCopy) : Option ImageSection :=
  c.sections.find? (fun s => decide (s.typ = 8) && decide (s.dir.offset.toNat + s.dir.length.toNat ≤ c.bodyLen.toNat))
/-- A MICROCODE entry locates a section within BODY_LEN (R84, R122). With several such entries it is enough that one does, and CODE_SIG
is checked of the first that does; the copy is malformed in any case, since a (TYPE, INSTANCE) pair or an INSTANCE other than 0xFF is
then wrong (R115; log 16). -/
def microcodeLocated (c : ImageCopy) : Bool := (microcodeOf c).isSome

/-- A pair of a type that is not owner-private occurs twice. -/
def duplicateIn : List ImageSection → Bool
  | [] => false
  | s :: t => (!s.ownerPrivate && t.any (fun u => decide (u.typ = s.typ) && decide (u.dir.inst = s.dir.inst))) || duplicateIn t

/-- Two sections overlap. -/
def overlapIn : List ImageSection → Bool
  | [] => false
  | s :: t => t.any (overlaps s) || overlapIn t

/-- Layout of the sections (R115): lengths, places, pairs, required sections, the limit of retained sections. -/
def layoutOk (c : ImageCopy) : Bool :=
  c.sections.all c.inside && !overlapIn c.sections && !duplicateIn c.sections
    && c.sections.all (fun s => s.ownerPrivate || sectionLength s == some s.dir.length.toNat)
    && (c.sec 1).isSome && (c.sec 2).isSome && (c.sec 8).isSome
    && decide ((c.sections.filter (fun s => decide (s.typ ≤ 9))).foldl (fun n s => n + s.dir.length.toNat) 0 ≤ 192 * 1024)

/-! ## Fields of the sections -/

/-- A window entry is allowed (R118). -/
def windowOk (s : ImageSection) (w : Nat) : Bool :=
  let i := 4 + 4 * w
  let x := s.window w
  if x.valid then
    decide (s.word i < 4) && decide (x.localBase < 16384) && decide (x.tractBase < 2048) && decide (1 ≤ x.count)
      && decide (x.count ≤ 2048) && decide (x.localBase + x.count ≤ 16384) && decide (x.tractBase + x.count ≤ 2048)
  else s.zeroWords i (i + 4)

/-- Two valid windows overlap in port-local space (R118). -/
def windowsClash (a b : Window) : Bool :=
  a.valid && b.valid && decide (a.localBase < b.localBase + b.count) && decide (b.localBase < a.localBase + a.count)

/-- A contract entry is allowed (R118, R119). -/
def contractOk (s : ImageSection) (k : Nat) : Bool :=
  let a := s.word (0x44 + 2 * k)
  let b := s.word (0x45 + 2 * k)
  let pt := bitsOf a 15 8
  let hb := bitsOf a 23 16
  if a % 4 = 0 then a == 0 && b == 0
  else bitsOf a 7 6 == 0 && bitsOf a 31 24 == 0 && decide (1 ≤ b)
    && (if a % 4 = 2 then decide (1 ≤ pt) && decide (pt ≤ 250) && decide (1 ≤ hb) else pt == 0 && hb == 0)

/-- A PORT section (R117 to R119). -/
def portSectionOk (s : ImageSection) : Bool :=
  let b := s.byte 0
  bitsOf b 2 1 != 3 && bitsOf b 4 3 != 3 && bitsOf b 7 6 == 0
    && decide (1 ≤ s.byte 1) && decide (s.byte 1 ≤ 64) && decide (s.byte 2 ≤ 3)
    && s.half 6 == 0 && s.zeroWords 2 4
    && (List.range 16).all (windowOk s)
    && (List.range 16).all (fun i => (List.range i).all (fun j => !windowsClash (s.window i) (s.window j)))
    && (List.range 64).all (contractOk s)

/-- A FAULT entry's fields are allowed (the table of chapter 04). The stack ignores the CLASS of a source whose class it fixes (R120),
but a value that the table does not allow makes the copy malformed there too (log 16). -/
def faultEntryOk (v : Nat) : Bool :=
  decide (1 ≤ v % 256) && decide (bitsOf v 12 8 ≤ 26) && decide (bitsOf v 15 13 ≤ 4) && bitsOf v 31 25 == 0

/-- The addresses of a mask set, in ascending order (R121). -/
def maskSet (base bits : Nat) : List Nat := (List.range 128).filter (fun a => decide (a &&& (127 - bits) = base &&& (127 - bits)))

/-- The MGMT section (R121), with MADDR as sampled. -/
def mgmtOk (s : ImageSection) (maddr : Nat) : Bool :=
  let base := s.byte 1
  let bits := s.byte 2
  let set := maskSet base bits
  bitsOf (s.byte 0) 7 3 == 0 && s.byte 3 == 0 && s.zeroWords 5 8
    && (if (s.byte 0).testBit 0 then
        decide (base < 128) && decide (bits < 128) && decide (popBelow 7 bits ≤ 4) && decide (base &&& bits = 0)
          && set.all (fun a => decide (8 ≤ a) && decide (a ≤ 0x77) && decide (a ≠ 0x58 + maddr))
          && (List.range 16).all (fun k =>
            if k < set.length then decide (s.byte (4 + k) ≤ 15) || s.byte (4 + k) == 0xFF else s.byte (4 + k) == 0)
      else (List.range 19).all (fun i => s.byte (1 + i) == 0))

/-- A port code and a channel code of R438; 0x00 is off. -/
def portEvent (e : Nat) : Bool := decide (e ≤ 0x11) || (decide (0x20 ≤ e) && decide (e ≤ 0x23))
def channelEvent (e : Nat) : Bool :=
  e == 0 || (decide (0x40 ≤ e) && decide (e ≤ 0x4B)) || (decide (0x60 ≤ e) && decide (e ≤ 0x63))
/-- An occurrence event (R437, R438). -/
def occurrence (e : Nat) : Bool := (decide (1 ≤ e) && decide (e ≤ 0x11)) || (decide (0x40 ≤ e) && decide (e ≤ 0x4B))

/-- The COUNTERS section. -/
def countersOk (s : ImageSection) : Bool :=
  (List.range 32).all (fun i => (List.range 8).all (fun k =>
    let e := s.byte (16 * i + 2 * k)
    let t := s.byte (16 * i + 2 * k + 1)
    (if i < 16 then portEvent e else channelEvent e) && !(occurrence e && t != 0)))

/-- The LADDER section. -/
def ladderOk (s : ImageSection) : Bool :=
  decide (16 ≤ s.half 4) && decide (3 ≤ s.byte 6) && decide (s.byte 6 ≤ 5) && s.byte 7 == 0
    && decide (20 ≤ s.half 0x16) && decide (1 ≤ s.half 0x18) && decide (1 ≤ s.half 0x1A) && s.word 7 == 0
    && !(s.byte 6 == 4 && s.half 0x14 == 0)

/-- The MICROCODE section but for its signature (R122). -/
def microcodeOk (s : ImageSection) : Bool :=
  decide (s.words.getD 0 0 = Config.engineAbi) && decide (s.word 1 % 16 = 0) && decide (16 ≤ s.word 1)
    && decide (s.word 1 ≤ 128 * 1024) && decide (s.word 2 % 4 = 0) && decide (s.word 2 < s.word 1) && s.word 3 == 0
    && s.zeroWords 12 16
    && decide (shake256 (s.bytes 0xB50 (0xB50 + s.word 1)) = BitVec.ofNat 256 (natOfBytes (s.bytes 0x10 0x30)))

/-- A section's fields are allowed (R115); owner-private sections are not read. -/
def sectionOk (s : State) (x : ImageSection) : Bool :=
  match x.typ with
  | 1 => decide (x.word 0 ≤ 1) && x.zeroWords 1 4
  | 2 => portSectionOk x
  | 3 => decide (2 ≤ x.byte 0) && decide (x.byte 0 ≤ 15) && decide (x.byte 1 ≤ 100) && decide (x.byte 2 ≤ 100)
      && decide (x.byte 3 ≤ 1) && x.zeroWords 1 4
  | 4 => ladderOk x
  | 5 => (List.range 256).all (fun n =>
      if reservedSource n then x.word n == 0 else (s.srcAbsent n && x.word n == 0) || faultEntryOk (x.word n))
  | 6 => mgmtOk x s.pins.maddr.toNat
  | 7 => decide (x.byte 0 ≤ 1) && decide (x.byte 1 ≤ 1) && x.half 2 == 0 && x.zeroWords 1 4
  | 8 => microcodeOk x
  | 9 => countersOk x
  | 0x11 => x.zeroWords 4 8
  | _ => true

/-- A section names a unit that CAP0 to CAP3 report absent (R116, cause 0x7). -/
def namesAbsent (s : State) (x : ImageSection) : Bool :=
  match x.typ with
  | 2 => !s.portPresent x.dir.inst.toNat ||
      (List.range 16).any (fun w => (x.window w).valid && decide (2 ^ (s.devBits - 26) < (x.window w).tractBase + (x.window w).count))
  | 4 => decide (2 ^ s.serviceLayers ≤ x.half 0x14)
  | 5 => (List.range 256).any (fun n => s.srcAbsent n && x.word n != 0)
  | 6 => (x.byte 0).testBit 0 && (!s.capMask || (List.range 16).any (fun k => decide (x.byte (4 + k) ≤ 15)
      && decide (k < (maskSet (x.byte 1) (x.byte 2)).length) && !s.portPresent (x.byte (4 + k))))
  | 9 => (List.range 16).any (fun i => !s.portPresent i && !x.zeroWords (4 * i) (4 * i + 4)) ||
      (decide (s.progCounters = 4) && (List.range 32).any (fun i => !x.zeroWords (4 * i + 2) (4 * i + 4)))
  | _ => false

/-- The 256 header bytes of a copy (R111). -/
def headerBytes (c : ImageCopy) : List Byte :=
  leBytes 4 c.magic.toNat ++ leBytes 2 c.format.toNat ++ leBytes 2 c.headerLen.toNat ++ leBytes 4 c.sequence.toNat
    ++ leBytes 4 c.bodyLen.toNat ++ [c.part, c.signer] ++ leBytes 2 c.sectionCount.toNat ++ leBytes 12 c.reserved.toNat
    ++ leBytes 32 c.bodyDigest.toNat ++ leBytes 68 c.signerKey.toNat ++ leBytes 124 (c.reserved.toNat / 2 ^ 96)

/-- BODY_DIGEST is the digest of the body's BODY_LEN bytes (R111). -/
def bodyDigestOk (c : ImageCopy) : Bool :=
  decide (shake256 ((List.range (c.bodyLen.toNat / 4)).flatMap (fun i => leBytes 4 (c.bodyWord i).toNat)) = c.bodyDigest)

/-- A signature verifies under a key: it is among those that the hash engine found to (log 3). -/
def verifies (v : List SigCheck) (key : BitVec 544) (message signature : List Byte) : Bool :=
  v.contains { key := key, message := message, signature := signature }

/-- The signature of the header verifies under SIGNER_KEY (R112). -/
def headerSigned (v : List SigCheck) (c : ImageCopy) : Bool := verifies v c.signerKey (headerBytes c) c.signature

/-- CODE_SIG verifies under the vendor key (R122). -/
def codeSigned (v : List SigCheck) (s : State) (x : ImageSection) : Bool :=
  verifies v s.otp.rom.vendorKey (x.bytes 0 0x40) (x.bytes 0x40 0xB44)

/-- The cause code of a copy with a well-formed header (R84): 0 where every check passes. -/
def copyCause (v : List SigCheck) (s : State) (c : ImageCopy) : Nat :=
  if !bodyDigestOk c then 3
  else if c.signer = 1 ∧ !(decide (c.signerKey = s.otp.rom.vendorKey) && headerSigned v c) then 4
  else if c.signer ≠ 1 ∧ !(s.otp.ownerSlot.isSome && headerSigned v c
      && decide (shake256 (leBytes 68 c.signerKey.toNat) = s.otp.ownerDigest)) then 5
  else if !(directoryOk c && microcodeLocated c) then 6
  else if !((microcodeOf c).all (codeSigned v s)) then 4
  else if !(layoutOk c && c.sections.all (sectionOk s)) then 6
  else if (c.part ≠ 0 ∧ c.part.toNat ≠ s.part) ∨ c.sections.any (namesAbsent s) then 7
  else 0

/-! ## Loading (R87, R124, R126) -/

/-- What attestation names of the copy in use (R455), and its engine program in the retention memory (R114, R126). -/
def imageInfo (c : ImageCopy) : ImageInfo :=
  let i : ImageInfo := { sequence := c.sequence, signer := c.signer, headerDigest := shake256 (headerBytes c), codeDigest := 0 }
  match c.sec 8 with
  | some x => { i with codeDigest := BitVec.ofNat 256 (natOfBytes (x.bytes 0x10 0x30)), entry := BitVec.ofNat 32 (x.word 2),
                       code := (x.words.drop (0xB50 / 4)).take (x.word 1 / 4) }
  | none => i

/-- The settings of a PORT section. -/
def portCfg (x : ImageSection) : PortCfg :=
  let b := x.byte 0
  { enable := b.testBit 0, widthMax := BitVec.ofNat 2 (b / 2), fecCfg := BitVec.ofNat 2 (b / 8), rl1Compat := b.testBit 5,
    floor := BitVec.ofNat 2 (x.byte 2), attestPeriod := BitVec.ofNat 8 (x.byte 3), holdoff := BitVec.ofNat 16 (x.half 4),
    windowLen := BitVec.ofNat 7 (x.byte 1),
    windows := (List.range 16).foldl (fun t w => tabSet {} t w (x.window w)) [],
    contracts := (List.range 64).foldl (fun t k =>
      let a := x.word (0x44 + 2 * k)
      tabSet {} t k { cls := BitVec.ofNat 2 a, shedRank := BitVec.ofNat 4 (a / 4), pTarget := BitVec.ofNat 8 (a / 256),
                      hatband := BitVec.ofNat 8 (a / 65536), budget := BitVec.ofNat 32 (x.word (0x45 + 2 * k)) }) [] }

/-- A source takes its loaded entry (R413, R120): its class moves to the loaded one unless an escalation or a raise has
already taken it higher. -/
def Source.take (x y : Source) : Source :=
  { x with n := y.n, t := y.t, initCls := y.initCls, react := y.react,
           cls := if x.initCls.toNat < x.cls.toNat ∧ y.initCls.toNat < x.cls.toNat then x.cls else y.initCls }

/-- The entry of source n: from the FAULT section, or from the default table. -/
def faultEntry (x : Option ImageSection) (n : Nat) : Source :=
  match x with
  | none => srcDefault n
  | some x =>
    let v := x.word n
    { n := BitVec.ofNat 8 v, t := BitVec.ofNat 5 (v / 256), initCls := BitVec.ofNat 3 (v / 8192), react := BitVec.ofNat 9 (v / 65536) }

/-- Every source takes its loaded entry. -/
def loadFaults (x : Option ImageSection) (s : State) : State :=
  let s := forN 256 (fun n s => s.updSrc n (fun y => y.take (faultEntry x n))) s
  { s with flt.loaded := true }

/-- THERMAL settings (R124). -/
def loadThermal (x : Option ImageSection) (t : ThmState) : ThmState :=
  match x with
  | none => { t with calDelta := 5, throttleP := 50, throttleB := 25, alertWarn := true }
  | some x => { t with calDelta := BitVec.ofNat 4 (x.byte 0), throttleP := BitVec.ofNat 7 (x.byte 1),
                       throttleB := BitVec.ofNat 7 (x.byte 2), alertWarn := (x.byte 3).testBit 0 }

/-- LADDER settings (R124). -/
def loadLadder (x : Option ImageSection) (t : PwrState) : PwrState :=
  match x with
  | none => { t with retainIdle := 0, rankPd := 1000, deepest := 3, dwell3 := 0, dwell4 := 0, ladderTimer := 0, keep := 0,
                     idle1 := 200, idle2 := 100, idle3 := 100 }
  | some x => { t with retainIdle := BitVec.ofNat 32 (x.word 0), rankPd := BitVec.ofNat 16 (x.half 4),
                       deepest := BitVec.ofNat 3 (x.byte 6), dwell3 := BitVec.ofNat 32 (x.word 2),
                       dwell4 := BitVec.ofNat 32 (x.word 3), ladderTimer := BitVec.ofNat 32 (x.word 4),
                       keep := BitVec.ofNat 16 (x.half 0x14), idle1 := BitVec.ofNat 16 (x.half 0x16),
                       idle2 := BitVec.ofNat 16 (x.half 0x18), idle3 := BitVec.ofNat 16 (x.half 0x1A) }

/-- MGMT settings (R124). -/
def loadMgmt (x : Option ImageSection) (t : MbState) : MbState :=
  match x with
  | none => { t with maskMode := false, pec := false, attention := true, maskBase := 0, maskBits := 0, views := [] }
  | some x => { t with maskMode := (x.byte 0).testBit 0, pec := (x.byte 0).testBit 1, attention := (x.byte 0).testBit 2,
                       maskBase := BitVec.ofNat 7 (x.byte 1), maskBits := BitVec.ofNat 7 (x.byte 2),
                       views := (List.range 16).foldl (fun v k => tabSet 0 v k (BitVec.ofNat 8 (x.byte (4 + k)))) [] }

/-- COUNTERS selections of set i (R124: every counter off without the section). -/
def loadSel (x : Option ImageSection) (i : Nat) : List (Nat × BitVec 16) :=
  match x with
  | none => []
  | some x => (List.range 8).foldl (fun v k => tabSet 0 v k (BitVec.ofNat 16 (x.half (16 * i + 2 * k)))) []

/-- The selected copy loaded into the retention memory and into every register that the image defines (R87). -/
def loadImage (c : ImageCopy) (s : State) : State :=
  let s := forN 16 (fun p s => s.updPort p (fun x => { x with cfg := match c.portSec p with | some y => portCfg y | none => {} })) s
  let s := loadFaults (c.sec 5) s
  let s := forN 32 (fun i s => s.updCset i (fun x => { x with sel := loadSel (c.sec 9) i })) s
  { s with
    image := some (imageInfo c)
    gnt.policy := (match c.sec 1 with | some x => decide (x.byte 0 = 1) | none => false)
    thm := loadThermal (c.sec 3) s.thm
    pwr := loadLadder (c.sec 4) s.pwr
    mb := loadMgmt (c.sec 6) s.mb
    rep.layerPolicy := (match c.sec 7 with | some x => decide (x.byte 0 = 1) | none => false)
    rep.burnRepairs := (match c.sec 7 with | some x => decide (x.byte 1 = 1) | none => false) }

end Sys2Proof.Machine
end

