-- ==== Sys2Proof/Machine/Flags.lean ====
section
/-! DEFINITION. The codes of stored rows (chapter 11): parity flags, never-written state, column syndrome, the column and row paths, writes and seals with their cuff maintenance; and memory access by row. -/

namespace Sys2Proof.Machine

/-! ## Addresses of stored bytes (R293) -/

/-- Bytes of a stored row. -/
def rowBytes : Nat := 1216
/-- Number of a row of the stack: pseudo-channel, layer index, bank, row. -/
def rowKey (q k b r : Nat) : Nat := ((q * 18 + k) * 16 + b) * 16384 + r
/-- Number of a bank of a slice within its pseudo-channel: layer index, bank. -/
def bankKey (k b : Nat) : Nat := k * 16 + b
/-- Number of a row within its pseudo-channel. -/
def pcRowKey (k b r : Nat) : Nat := (k * 16 + b) * 16384 + r

/-- What an unlisted byte reads as: the never-written state with a zero cuff word, which the array set leaves (R313). -/
def memDefault (a : Nat) : Byte := if 1024 ≤ a % rowBytes ∧ a % rowBytes < 1152 then 0xFF else 0x00

/-- The stored byte at an address. -/
def State.readByte (s : State) (a : Nat) : Byte := tabGet (memDefault a) s.mem a
/-- The stored byte at an address set. -/
def State.writeByte (s : State) (a : Nat) (v : Byte) : State := { s with mem := tabSet (memDefault a) s.mem a v }

/-- `n` stored bytes from `a`, least significant first. -/
def State.readBytes (s : State) : Nat → Nat → Nat
  | 0, _ => 0
  | n + 1, a => (s.readByte a).toNat + 256 * s.readBytes n (a + 1)

/-- `n` bytes of `v`, least significant first, stored from `a`. -/
def State.writeBytes (s : State) : Nat → Nat → Nat → State
  | 0, _, _ => s
  | n + 1, a, v => (s.writeByte a (BitVec.ofNat 8 v)).writeBytes n (a + 1) (v / 256)

/-- The canonical form of the memory. -/
def memoryWf (m : List Host.Cell) : Bool := tabWfFrom memDefault m

/-! ## Stored rows -/

/-- The stored row with this number. -/
def State.readRow (s : State) (key : Nat) : Row :=
  { blocks := (List.range 16).map (fun b =>
      (BitVec.ofNat 512 (s.readBytes 64 (key * rowBytes + 64 * b)),
       BitVec.ofNat 64 (s.readBytes 8 (key * rowBytes + 1024 + 8 * b))))
    cuff := BitVec.ofNat 512 (s.readBytes 64 (key * rowBytes + 1152)) }

/-- Block b of a row stored with its check bits. -/
def State.storeBlock (s : State) (key b : Nat) (d : Block) (c : BitVec 64) : State :=
  (s.writeBytes 64 (key * rowBytes + 64 * b) d.toNat).writeBytes 8 (key * rowBytes + 1024 + 8 * b) c.toNat

/-- The cuff word of a row stored. -/
def State.storeCuff (s : State) (key : Nat) (c : Block) : State := s.writeBytes 64 (key * rowBytes + 1152) c.toNat

/-- A whole row stored. -/
def State.storeRow (s : State) (key : Nat) (r : Row) : State :=
  (forN 16 (fun b s => let x := r.blocks.getD b (0, 0); s.storeBlock key b x.1 x.2) s).storeCuff key r.cuff

/-- Byte j of a block. -/
def byteOf (d : Block) (j : Nat) : Byte := d.extractLsb' (8 * j) 8

/-- Parity of a byte: the XOR of its bits (R294). -/
def parity (b : Byte) : Bool := (popBelow 8 b.toNat) % 2 == 1

/-- A 64-bit vector from its bits. -/
def bits64 (f : Nat → Bool) : BitVec 64 := BitVec.ofNat 64 ((List.range 64).foldl (fun v j => v + (if f j then 2 ^ j else 0)) 0)
/-- A block from its bytes. -/
def blockOf (f : Nat → Byte) : Block := BitVec.ofNat 512 ((List.range 64).foldl (fun v j => v + (f j).toNat * 256 ^ j) 0)

/-- Fresh parity of a block (R298). -/
def freshParity (d : Block) : BitVec 64 := bits64 (fun j => parity (byteOf d j))

/-- The flagged bytes of a block (R294). -/
def flagsOf (x : Block × BitVec 64) : BitVec 64 := bits64 (fun j => parity (byteOf x.1 j) != x.2.getLsbD j)

/-- The never-written state: at least 56 flagged bytes (R300). -/
def neverWritten (x : Block × BitVec 64) : Bool := decide (56 ≤ popBelow 64 (flagsOf x).toNat)

/-- Block b of a row. -/
def Row.block (r : Row) (b : Nat) : Block × BitVec 64 := r.blocks.getD b (0, 0)

/-- Blocks of a row that are not in the never-written state (R302). -/
def Row.live (r : Row) : List Nat := (List.range 16).filter (fun b => !neverWritten (r.block b))

/-- The column syndrome S[j], never-written blocks left out (R294, R302). -/
def Row.syndrome (r : Row) (j : Nat) : Byte :=
  r.live.foldl (fun v b => v ^^^ byteOf (r.block b).1 j) (byteOf r.cuff j)

/-- Blocks, not never-written, whose byte j is flagged. -/
def Row.flaggedIn (r : Row) (j : Nat) : List Nat :=
  r.live.filter (fun b => (flagsOf (r.block b)).getLsbD j)

/-! ## Column path and row path (R302) -/

/-- The discharged value of data bit i of block b (R297). -/
def discharged (b i : Nat) : Bool := decide ((b + i) % 2 = 1)

/-- Bit i of byte v of block b reads its discharged value. -/
def readsDischarged (b i : Nat) (v : Byte) : Bool := v.getLsbD i == discharged b i

/-- A candidate of the row path: total weight, number of assignments of that weight, and their patterns (of one of them). -/
structure Cand where
  weight : Nat
  ways : Nat
  pats : List Nat
deriving DecidableEq, Repr

/-- The lighter of two candidates; equal weights add their ways. -/
def Cand.join : Option Cand → Option Cand → Option Cand
  | none, y => y
  | x, none => x
  | some x, some y =>
    if x.weight < y.weight then some x else if y.weight < x.weight then some y
    else some { x with ways := x.ways + y.ways }

/-- Pattern lists with bit i set in the bytes of subset t. -/
def addBit (i t : Nat) (pats : List Nat) : List Nat :=
  (List.range pats.length).map (fun k => pats.getD k 0 + (if t.testBit k then 2 ^ i else 0))

/-- One bit position of the row path: for every parity vector the best candidates after bit i is placed on a subset of
the bytes that read its discharged value, of the parity that the syndrome asks for. -/
def rowPathBit (n : Nat) (syn : Byte) (bytes : List (Nat × Byte)) (i : Nat) (tab : List (Option Cand)) : List (Option Cand) :=
  let subsets := (List.range (2 ^ n)).filter (fun t =>
    (popBelow n t % 2 == b2n (syn.getLsbD i)) &&
    (List.range n).all (fun k => !t.testBit k || readsDischarged (bytes.getD k (0, 0)).1 i (bytes.getD k (0, 0)).2))
  (List.range (2 ^ n)).map (fun p =>
    subsets.foldl (fun best t =>
      Cand.join best ((tab.getD (p ^^^ t) none).map (fun c =>
        { weight := c.weight + popBelow n t, ways := c.ways, pats := addBit i t c.pats }))) none)

/-- The unique assignment of least weight: every pattern of odd weight, their XOR the syndrome, each bit on a cell that
reads its discharged value. -/
def rowPath (syn : Byte) (bytes : List (Nat × Byte)) : Option (List Nat) :=
  let n := bytes.length
  let start := some { weight := 0, ways := 1, pats := List.replicate n 0 } :: List.replicate (2 ^ n - 1) none
  let tab := (List.range 8).foldl (fun t i => rowPathBit n syn bytes i t) start
  match tab.getD (2 ^ n - 1) none with
  | some c => if c.ways = 1 then some c.pats else none
  | none => none

/-- The result for the flagged bytes of one column: each flagged block with its error pattern, or none where it is
unresolved (R302); the Bool says that the row path was used. -/
def columnResult (r : Row) (j : Nat) : List (Nat × Option Byte) × Bool :=
  let fl := r.flaggedIn j
  let syn := r.syndrome j
  match fl with
  | [] => ([], false)
  | [b] => ([(b, if syn = 0 ∨ parity syn then some syn else none)], false)
  | _ =>
    if 4 < fl.length then (fl.map (fun b => (b, none)), false)
    else
      match rowPath syn (fl.map (fun b => (b, byteOf (r.block b).1 j))) with
      | some pats => ((List.range fl.length).map (fun i => (fl.getD i 0, some (BitVec.ofNat 8 (pats.getD i 0)))), true)
      | none => (fl.map (fun b => (b, none)), true)

/-- E, U and row-path use for block b: what a CHK of the block answers (R302). -/
def checkSegment (r : Row) (b : Nat) : Block × BitVec 64 × Bool :=
  let fl := flagsOf (r.block b)
  let res : Nat → Option (Option Byte × Bool) := fun j =>
    if fl.getLsbD j then
      let c := columnResult r j
      (c.1.find? (fun x => decide (x.1 = b))).map (fun x => (x.2, c.2))
    else none
  let tab := (List.range 64).map res
  (blockOf (fun j => match tab.getD j none with | some (some e, _) => e | _ => 0),
   bits64 (fun j => match tab.getD j none with | some (none, _) => true | _ => false),
   tab.any (fun x => match x with | some (some _, true) => true | _ => false))

/-! ## Writes and seals (R298 to R300, R312) -/

/-- The old value of byte j of block b for the cuff delta, and whether it could not be resolved (R299, R300). -/
def oldByte (r : Row) (b j : Nat) : Byte × Bool :=
  let x := r.block b
  if neverWritten x then (0, false)
  else
    let v := byteOf x.1 j
    if (flagsOf x).getLsbD j then
      match (columnResult r j).1.find? (fun y => decide (y.1 = b)) with
      | some (_, some e) => (v ^^^ e, false)
      | _ => (v, true)
    else (v, false)

/-- A write of the enabled bytes of block b (R298 to R300): the block with its check bits, the cuff word, and the
columns whose old value could not be resolved. -/
def writeRow (r : Row) (b : Nat) (mask : BitVec 64) (d : Block) : (Block × BitVec 64) × Block × BitVec 64 :=
  let x := r.block b
  let never := neverWritten x
  let olds := (List.range 64).map (oldByte r b)
  let new := blockOf (fun j => if mask.getLsbD j then byteOf d j else if never then 0 else byteOf x.1 j)
  let chk := bits64 (fun j => if mask.getLsbD j then parity (byteOf d j) else if never then false else x.2.getLsbD j)
  let cuff := blockOf (fun j =>
    if mask.getLsbD j then byteOf r.cuff j ^^^ (olds.getD j (0, false)).1 ^^^ byteOf d j else byteOf r.cuff j)
  ((new, chk), cuff, bits64 (fun j => mask.getLsbD j && (olds.getD j (0, false)).2))

/-- A block sealed (R312): stored never-written, the cuff word following. -/
def sealRow (r : Row) (b : Nat) : (Block × BitVec 64) × Block × BitVec 64 :=
  let olds := (List.range 64).map (oldByte r b)
  ((0, BitVec.allOnes 64), blockOf (fun j => byteOf r.cuff j ^^^ (olds.getD j (0, false)).1),
   bits64 (fun j => (olds.getD j (0, false)).2))

/-- Block b of a row replaced, with the cuff word. -/
def State.putBlock (s : State) (key b : Nat) (x : (Block × BitVec 64) × Block × BitVec 64) : State :=
  (s.storeBlock key b x.1.1 x.1.2).storeCuff key x.2.1

/-- One write of one block into a row: the state, and the columns of an unresolved overwrite (R299). -/
def State.writeBlock (s : State) (key b : Nat) (mask : BitVec 64) (d : Block) : State × BitVec 64 :=
  if mask = 0 then (s, 0)
  else
    let x := writeRow (s.readRow key) b mask d
    (s.putBlock key b x, x.2.2)

/-! ## The refresh check (R307) -/

/-- What the check of a whole row finds. -/
structure RowFinding where
  kind : Nat
  block : Nat
  count : Nat
  ret : Bool
  cuff : Block
deriving DecidableEq, Repr

/-- An error bit of a resolved byte reads its charged value (R308, RET): data bits of the pattern, or the parity cell
where the pattern is zero. -/
def chargedError (b : Nat) (v : Byte) (chk : Bool) (e : Byte) : Bool :=
  if e = 0 then chk != decide (b % 2 = 1)
  else (List.range 8).any (fun i => e.getLsbD i && !readsDischarged b i v)

/-- The flagged bytes of a row: column, block, pattern or none. -/
def Row.errors (r : Row) : List (Nat × Nat × Option Byte) :=
  (List.range 64).flatMap (fun j => (columnResult r j).1.map (fun x => (j, x.1, x.2)))

/-- The finding over a list of flagged bytes: KIND 0x1 or 0x2 (R307, R308). -/
def Row.finding (r : Row) (errs : List (Nat × Nat × Option Byte)) : RowFinding :=
  let unresolved := errs.any (fun e => e.2.2 = none)
  let charged := errs.any (fun e => match e.2.2 with
    | some p => chargedError e.2.1 (byteOf (r.block e.2.1).1 e.1) ((r.block e.2.1).2.getLsbD e.1) p
    | none => false)
  { kind := if unresolved then 2 else 1, block := errs.foldl (fun m e => min m e.2.1) 15,
    count := min errs.length 15, ret := !charged, cuff := r.cuff }

/-- The refresh check of a row (R307): none where all is well; KIND 0x3 carries the repaired cuff word. -/
def Row.check (r : Row) : Option RowFinding :=
  let errs := r.errors
  if errs ≠ [] then some (r.finding errs)
  else
    let syn := blockOf (fun j => r.syndrome j)
    if syn = 0 then none
    else some { kind := 3, block := 0, count := 0, ret := false, cuff := r.cuff ^^^ syn }

/-! ## Cells changed by physics (R295, R297) -/

/-- Group g of R295: a data bit, a parity bit or a cuff bit: (block or 16 for the cuff, bit or 8 for parity). -/
def cellGroup (g : Nat) : Nat × Nat :=
  if g < 72 then (g / 9, g % 9)
  else if g < 76 then (16, g - 72)
  else if g < 148 then (8 + (g - 76) / 9, (g - 76) % 9)
  else (16, 4 + (g - 148))

/-- The stored byte and bit of a cell of a row (R293, R295). -/
def cellAddr (key : Nat) (cell : Nat) : Nat × Nat :=
  let g := cell / 64
  let j := (cell % 64 + 4 * g) % 64
  let x := cellGroup g
  if x.1 = 16 then (key * rowBytes + 1152 + j, x.2)
  else if x.2 = 8 then (key * rowBytes + 1024 + 8 * x.1 + j / 8, j % 8)
  else (key * rowBytes + 64 * x.1 + j, x.2)

/-- One cell set to the value it now reads. -/
def State.setCell (s : State) (key : Nat) (c : CellChange) : State :=
  let a := cellAddr key c.cell.val
  let v := (s.readByte a.1).toNat
  let v' := if c.value then v ||| 2 ^ a.2 else v - (if v.testBit a.2 then 2 ^ a.2 else 0)
  s.writeByte a.1 (BitVec.ofNat 8 v')

/-- The cells that the physics changed since the row was last open. -/
def State.setCells (s : State) (key : Nat) (l : List CellChange) : State := l.foldl (fun s c => s.setCell key c) s

end Sys2Proof.Machine
end

