-- ==== Sys2Proof/Machine/Operands.lean ====
section
/-! DEFINITION. Operand forms: request headers, slots, messages and flits (chapter 07), the window check and the two-step translation of an address (chapter 08), and where a segment is held now. -/

namespace Sys2Proof.Machine

/-! ## Request headers (R183, R184) -/

/-- The opcode of a code, if the table has it. -/
def opOfCode : Nat → Option Op
  | 1 => some .rd64 | 2 => some .rd128 | 3 => some .wr64 | 4 => some .wrm64 | 5 => some .fill
  | 0x10 => some .mread | 0x11 => some .mattest | _ => none

/-- It carries write data (R184). -/
def Op.writes : Op → Bool
  | .wr64 | .wrm64 | .fill => true
  | _ => false

/-- It reads memory. -/
def Op.reads : Op → Bool
  | .rd64 | .rd128 => true
  | _ => false

/-- It is served on the management channel (R209). -/
def Op.mgmt : Op → Bool
  | .mread | .mattest => true
  | _ => false

/-- Bits [79:0] of a header with this OPCODE (R183). -/
def headerBits (op : Nat) (h : ReqHeader) : Nat :=
  pack [(op, 5), (h.tag.toNat, 10), (h.label.toNat, 6), (h.deadline.toNat, 8), (h.block.toNat, 34), (h.length.toNat, 3),
    (h.flags.toNat, 6), (h.reserved.toNat, 8)]

/-- HCHECK of a header holds (R191). -/
def hcheckOk (op : Nat) (h : ReqHeader) : Bool := headerCheck (headerBits op h) == h.hcheck

/-- A management request answered in one message without segments behind it (R209). -/
def mgmtItem (tag : Nat) (st : Status) (data : List Byte) : OutItem :=
  { slot := .ctrl (.mgmtResp tag st true 0 data), closes := some tag }

/-- A management request of a port answered in one message. -/
def answerMgmt (p tag : Nat) (st : Status) (data : List Byte) (s : State) : State :=
  s.updPort p (fun x => { x.updReq tag (fun r => { r with phase := .answered }) with outq := x.outq ++ [mgmtItem tag st data] })

/-- OPCODE of a 96-bit header. -/
def headerOp (b : BitVec 96) : Nat := b.toNat % 32

/-- The fields of a 96-bit header. -/
def headerOf (b : BitVec 96) : ReqHeader :=
  { tag := b.extractLsb' 5 10, label := b.extractLsb' 15 6, deadline := b.extractLsb' 21 8, block := b.extractLsb' 29 34,
    length := b.extractLsb' 63 3, flags := b.extractLsb' 66 6, reserved := b.extractLsb' 72 8, hcheck := b.extractLsb' 80 16 }

/-- LENGTH allowed for an opcode (R184). -/
def lengthOk (op : Op) (l : Nat) : Bool :=
  match op with
  | .rd128 => l == 1
  | .fill => decide (l ≤ 6)
  | _ => l == 0

/-- OPCODE, LENGTH, alignment and FLAGS are allowed (R184, R191). -/
def headerAllowed (op : Op) (h : ReqHeader) : Bool :=
  opOfCode op.code == some op && lengthOk op h.length.toNat && decide (h.block.toNat % 2 ^ h.length.toNat = 0) && decide (h.flags.toNat < 2)

/-! ## Slots (R182 to R186) -/

/-- Slot i of a flit (R179). -/
def flitSlot (f : BitVec 1280) (i : Nat) : BitVec 608 := f.extractLsb' (32 + 608 * i) 608

/-- A write-data slot (R185). -/
def dataSlotOf (x : BitVec 608) : DataSlot :=
  { dir := x.getLsbD 2, part := x.getLsbD 3, tag := x.extractLsb' 4 10, status := x.extractLsb' 14 4,
    mask := x.extractLsb' 18 64, reserved := x.extractLsb' 82 14, data := x.extractLsb' 96 512 }

/-- COUNT of a REQ slot (R183). -/
def reqCount (x : BitVec 608) : Nat := bitsOf x.toNat 4 2

/-- Header i of a REQ slot. -/
def reqHeader (x : BitVec 608) (i : Nat) : BitVec 96 := x.extractLsb' (32 + 96 * i) 96

/-- A REQ slot without a COUNT or reserved-bit fault (R183, R211 cause 1). -/
def reqSlotOk (x : BitVec 608) : Bool :=
  let n := reqCount x
  decide (1 ≤ n) && decide (n ≤ 6) && decide (bitsOf x.toNat 31 5 = 0) && decide (x.toNat / 2 ^ (32 + 96 * n) = 0)
    && (List.range n).all (fun i => (headerOf (reqHeader x i)).reserved == 0)

/-- A DATA slot without a reserved-bit fault: from the partner, DIR 0, PART 0, STATUS 0 and reserved 0 (R185). -/
def dataSlotOk (d : DataSlot) : Bool := !d.dir && !d.part && d.status == 0 && d.reserved == 0

/-- The message code of a CTRL slot (R186). -/
def ctrlCode (x : BitVec 608) : Nat := bitsOf x.toNat 7 2

/-- Payload byte i of a CTRL slot (byte 0 is the code's byte). -/
def slotByte (x : BitVec 608) (i : Nat) : Nat := bitsOf x.toNat (8 * i + 7) (8 * i)

/-- The 16-bit field at slot byte i. -/
def slotHalf (x : BitVec 608) (i : Nat) : Nat := slotByte x i + 256 * slotByte x (i + 1)

/-- How many payload bytes a message defines (R186). -/
def ctrlLength : Nat → Nat
  | 0x01 => 8 | 0x03 => 8 | 0x05 => 2 | 0x06 => 3 | 0x07 => 3 | 0x10 => 6 | 0x11 => 18 | 0x12 => 44 | 0x15 => 1 | _ => 0

/-- How many payload bytes of a CTRL slot carry something: of a MGMT_REQ other than a MATTEST the header alone. -/
def payloadLength (x : BitVec 608) : Nat :=
  if ctrlCode x = 0x12 ∧ bitsOf x.toNat 12 8 ≠ 0x11 then 12 else ctrlLength (ctrlCode x)

/-- The payload bits beyond those a message defines, and the reserved bits of a request header, are 0 (R183, R186, R211). -/
def ctrlPadOk (x : BitVec 608) : Bool :=
  decide (x.toNat / 2 ^ (8 * (1 + payloadLength x)) = 0)
    && (ctrlCode x != 0x12 || bitsOf x.toNat (8 + 79) (8 + 72) == 0)

/-- A message that a partner may send in a LINK flit. -/
def linkFromPartner (c : Nat) : Bool := c == 0x01 || c == 0x03 || c == 0x05 || c == 0x06 || c == 0x07
/-- A message that a partner may send in a SEQ flit. -/
def vc2FromPartner (c : Nat) : Bool := c == 0x10 || c == 0x11 || c == 0x12 || c == 0x15

/-- An IDLE slot is 0x03 followed by zeros (R182). -/
def idleSlot : BitVec 608 := 3

/-- The AUDIT message of a CTRL slot (R186). -/
def auditOf (x : BitVec 608) : AuditMsg :=
  let h := fun i => BitVec.ofNat 16 (slotHalf x i)
  { id := h 1, sent0 := h 3, sent1 := h 5, sent2 := h 7, ret0 := h 9, ret1 := h 11, ret2 := h 13, tagOpen := h 15, tagClose := h 17 }

/-- The request header of a MGMT_REQ: payload bytes 1 to 12 (R186). -/
def mgmtHeader (x : BitVec 608) : BitVec 96 := x.extractLsb' 8 96
/-- NONCE of a MGMT_REQ: payload bytes 13 to 44. -/
def mgmtNonce (x : BitVec 608) : BitVec 256 := x.extractLsb' 104 256

/-! ## Windows (R215, R216) -/

/-- The window of a port that covers a port-local tract (R215). -/
def Port.windowOf (p : Port) (tract : Nat) : Option Nat :=
  (List.range 16).find? (fun w => (p.window w).valid && decide ((p.window w).localBase ≤ tract)
    && decide (tract < (p.window w).localBase + (p.window w).count))

/-- Device block address (device address / 64) of a port-local block through window w (R216). -/
def Port.devBlock (p : Port) (w block : Nat) : Nat :=
  ((p.window w).tractBase + block / 2 ^ 20 - (p.window w).localBase) * 2 ^ 20 + block % 2 ^ 20

/-- The window check of a request's first block (R215): the device block address, or none. -/
def Port.translate (p : Port) (block : Nat) (write : Bool) : Option Nat :=
  match p.windowOf (block / 2 ^ 20) with
  | some w => if write && !(p.window w).rw then none else some (p.devBlock w block)
  | none => none

/-! ## The keyed permutation (R222) -/

/-- mix of R222. -/
def mix (v : Nat) (k : BitVec 32) (w : Nat) : Nat :=
  let t := BitVec.ofNat 16 v ^^^ k.extractLsb' 0 16
  let t := t * 0x9E37
  let t := t ^^^ (t >>> 7)
  let t := t + k.extractLsb' 16 16
  t.toNat % 2 ^ w

/-- Round key i. -/
def roundKey (key : BitVec 128) (i : Nat) : BitVec 32 := key.extractLsb' (32 * i) 32

/-- The four-round permutation of a 23-bit segment index. -/
def permute (key : BitVec 128) (seg : Nat) : Nat :=
  let l := bitsOf seg 22 11
  let r := bitsOf seg 10 0
  let l := l ^^^ mix r (roundKey key 0) 12
  let r := r ^^^ mix l (roundKey key 1) 11
  let l := l ^^^ mix r (roundKey key 2) 12
  let r := r ^^^ mix l (roundKey key 3) 11
  l * 2048 + r

/-- Its inverse: the rounds in reverse order. -/
def unpermute (key : BitVec 128) (y : Nat) : Nat :=
  let l := bitsOf y 22 11
  let r := bitsOf y 10 0
  let r := r ^^^ mix l (roundKey key 3) 11
  let l := l ^^^ mix r (roundKey key 2) 12
  let r := r ^^^ mix l (roundKey key 1) 11
  let l := l ^^^ mix r (roundKey key 0) 12
  l * 2048 + r

/-- A segment of the stack: pseudo-channel, bank and row of a logical rank, and the block within the row. -/
structure Seg where
  rank : Nat
  q : Nat
  bank : Nat
  row : Nat
  block : Nat
deriving DecidableEq, Repr

/-- Rank of a device block (R219). -/
def devRank (dev : Nat) : Nat := bitsOf dev 30 27

/-- The physical segment of a device block (R219, R222, R226). -/
def segOf (key : BitVec 128) (dev : Nat) : Seg :=
  let y := permute key (bitsOf dev 26 4)
  { rank := devRank dev, q := bitsOf y 22 18, bank := bitsOf y 17 14, row := bitsOf y 13 0, block := dev % 16 }

/-- The device block of a segment. -/
def devOf (key : BitVec 128) (g : Seg) : Nat :=
  g.rank * 2 ^ 27 + unpermute key (g.q * 2 ^ 18 + g.bank * 2 ^ 14 + g.row) * 16 + g.block

/-! ## Where a segment is held now (R220, R344, R345) -/

/-- Copy index of a row (R345). -/
def copyIndex (bank row : Nat) : Nat := row * 16 + bank

/-- The migration of a pseudo-channel directs a row (R345): in COPY, SWITCH and SPLIT, by the watermark; in a PREPARE that
follows an abandoned migration too (R350). -/
def PcMig.directs (m : PcMig) (r b : Nat) : Bool :=
  ((decide (m.mig = .prepare) && decide (m.unit.moved ≠ [])) || decide (m.mig = .copy) || decide (m.mig = .switch) || decide (m.mig = .split))
    && decide (m.unit.rank = r) && (m.unit.bank.isNone || decide (m.unit.bank = some b))

/-- The layer of a row under a migration (R345, R350). -/
def PcMig.layerOf (m : PcMig) (b row : Nat) : Nat :=
  let x := copyIndex b row
  if x < m.mark then m.unit.dst
  else match m.unit.moved.find? (fun e => decide (x < e.1)) with
    | some e => e.2
    | none => m.unit.src

/-- The layer index that holds a row of slice (q, r) now; none where no cells are behind it (R359, second line). -/
def State.layerAt (s : State) (q r b row : Nat) : Option Nat :=
  match s.bankEnt q r b with
  | .mapped l => some l
  | .retired => none
  | .own =>
    if (s.rank q r).state = 3 then none
    else if (s.pc q).mg.directs r b then some ((s.pc q).mg.layerOf b row)
    else some (s.rank q r).layer

/-- The row of layer k is served by a spare (R340). -/
def State.spareAt (s : State) (q k b row : Nat) : Option SpareRow :=
  (s.slice q k).spares.find? (fun x => decide (x.bank = b) && decide (x.row = row))

end Sys2Proof.Machine
end

