-- ==== Sys2Proof/Machine/Gauntlet.lean ====
section
/-! DEFINITION. The gauntlet (chapter 09): rates, limits and shares, effective budgets and shedding, the search for an activation start in the calendar, the decision of R250 and the latch. Rates are held in blocks per microsecond times `scaleL`, so that no division is rounded (R259, R262). -/

namespace Sys2Proof.Machine

/-! ## Rates and limits (R244, R257, R258) -/

/-- The least common multiple of 1 to 64: every WINDOW_LEN divides it. -/
def scaleL : Nat := 1182266884102822267511361600

/-- Contract of a label. -/
def Port.contract (p : Port) (l : Nat) : Contract := tabGet {} p.cfg.contracts l

/-- Labels that have a contract of class G. -/
def Port.gLabels (p : Port) : List Nat := (List.range 64).filter (fun l => decide ((p.contract l).cls = 1))

/-- G_p: the sum of BUDGET over the G labels that meet f. -/
def Port.gSumIf (p : Port) (f : Nat → Bool) : Nat :=
  ((p.gLabels.filter f).map (fun l => (p.contract l).budget.toNat)).sum

/-- G_p. -/
def Port.gSum (p : Port) : Nat := p.gSumIf (fun _ => true)

/-- A sum of budgets as a scaled rate. -/
def Port.rateOf (p : Port) (n : Nat) : Nat :=
  if p.cfg.windowLen = 0 then 0 else n * (scaleL / p.cfg.windowLen.toNat)

/-- R_p, scaled. -/
def Port.rate (p : Port) : Nat := p.rateOf p.gSum

/-- Ports that are present and enabled. -/
def State.enabledPorts (s : State) : List Nat :=
  (List.range 16).filter (fun p => s.portPresent p && (s.port p).cfg.enable)

/-- The sum of R_p over all enabled ports, scaled. -/
def State.totalRate (s : State) : Nat := (s.enabledPorts.map (fun p => (s.port p).rate)).sum

/-- S_r: the sum of R_p over the ports that reach rank r, scaled. -/
def State.rankRate (s : State) (r : Nat) : Nat :=
  ((List.range 16).map (fun p => if ((s.port p).windowTo r).isSome then (s.port p).rate else 0)).sum

/-- The port limit for a width code of PORT_LINK_STATUS (0x1 x1, 0x2 x2, 0x3 x4) in native or compatibility mode (R257, R260). -/
def portLimit (width : Nat) (rl1 : Bool) : Nat :=
  match width, rl1 with
  | 3, false => 527 | 2, false => 263 | 1, false => 131
  | 3, true => 263 | 2, true => 131 | 1, true => 65
  | _, _ => 0

/-- WIDTH_MAX (0x0 x1, 0x1 x2, 0x2 x4) as a width code. -/
def Port.widthMax (p : Port) : Nat := p.cfg.widthMax.toNat + 1

/-- The limit at the current width and mode; the figure for WIDTH_MAX while no width is agreed. -/
def Port.limitNow (p : Port) : Nat :=
  if p.lnk.width = 0 then portLimit p.widthMax false else portLimit p.lnk.width.toNat p.lnk.rl1

/-- G bound, post-acceptance allowance and egress allowance of the link mode (tables of R232 and R233). -/
def Port.modeFigures (p : Port) : Nat × Nat × Nat :=
  if p.lnk.rl1 then (if p.lnk.width = 1 then (320, 215, 65) else (290, 200, 50))
  else if p.lnk.fec = 2 then (360, 235, 85)
  else if p.lnk.width = 1 then (270, 190, 40) else (250, 180, 30)

/-- A_acc. -/
def Port.allowance (p : Port) : Nat := p.modeFigures.2.1
/-- E. -/
def Port.egress (p : Port) : Nat := p.modeFigures.2.2

/-! ## Shrink and shedding (R260 to R264) -/

/-- Pseudo-channel q is shrunk: a glove takeover holds in its pair, until the next power cycle (R17, R260, R264). -/
def State.pcShrunk (s : State) (q : Nat) : Bool :=
  decide ((s.chan (q / 2)).glove ≠ 0)

/-- The shrunk capacity of 300 blocks per µs no longer covers the demand (R260). -/
def State.pcShort (s : State) : Bool := decide (2400 * scaleL < s.totalRate)

/-- The demand of a port exceeds its shrunk limit (R260). -/
def Port.short (p : Port) : Bool :=
  match p.gnt.shrink with | some lim => decide (lim * scaleL < p.rate) | none => false

/-- The lowest SHED_RANK value at which the demand left meets f; 16 where none does (R263). -/
def shedBelow (f : Nat → Bool) : Nat := ((List.range 16).find? f).getD 16

/-- Labels below this SHED_RANK are shed in the shrunk pseudo-channels under label priority. -/
def State.shedPc (s : State) : Nat :=
  if s.gnt.policy ∧ s.pcShort ∧ (List.range 32).any s.pcShrunk then
    shedBelow (fun t => decide ((s.enabledPorts.map (fun p =>
      (s.port p).rateOf ((s.port p).gSumIf (fun l => decide (t ≤ ((s.port p).contract l).shedRank.toNat))))).sum ≤ 2400 * scaleL))
  else 0

/-- Labels below this SHED_RANK are shed at the port under label priority. -/
def State.shedPort (s : State) (p : Nat) : Nat :=
  let x := s.port p
  if s.gnt.policy ∧ x.short then
    shedBelow (fun t => decide (x.rateOf (x.gSumIf (fun l => decide (t ≤ (x.contract l).shedRank.toNat)))
      ≤ (x.gnt.shrink.getD 0) * scaleL))
  else 0

/-- A label of port p is shed for requests to pseudo-channel q (R263). -/
def State.shedAt (s : State) (p l q : Nat) : Bool :=
  let t := ((s.port p).contract l).shedRank.toNat
  decide (t < s.shedPort p) || (s.pcShrunk q && decide (t < s.shedPc))

/-! ## Budgets and shares -/

/-- The effective budget of a label (R240, R253, R262). -/
def State.effBudget (s : State) (p l : Nat) : Nat :=
  let x := s.port p
  let c := x.contract l
  let b := c.budget.toNat
  match c.cls.toNat with
  | 1 => if !s.gnt.policy && x.short then max 1 (b * ((x.gnt.shrink.getD 0) * scaleL) / x.rate) else b
  | 2 => if x.gnt.throttled then (if x.gnt.scaleP = 0 then 0 else max 1 (b * x.gnt.scaleP / 100)) else b
  | 3 => if x.gnt.throttled then (if x.gnt.scaleB = 0 then 0 else max 1 (b * x.gnt.scaleB / 100)) else b
  | _ => 0

/-- SPENT of a label (R241). -/
def Port.spentOf (p : Port) (l : Nat) : Nat := tabGet 0 p.gnt.spent l

/-- LEFT of a label: the effective budget less what is spent, never below 0 (R241, R503); 0 before the first window. -/
def State.left (s : State) (p l : Nat) : Nat :=
  if (s.port p).gnt.windowStart.isNone then 0 else s.effBudget p l - (s.port p).spentOf l

/-- The pseudo-channel share of port p in q (R244, R262). -/
def State.pcShare (s : State) (p q : Nat) : Nat :=
  let base := ceilDiv (s.port p).gSum 8
  if s.pcShrunk q ∧ s.pcShort ∧ !s.gnt.policy then max 1 (base * (2400 * scaleL) / s.totalRate) else base

/-- The bank share of port p in each bank of rank r (R244). -/
def State.bankShare (s : State) (p r : Nat) : Nat :=
  let x := s.port p
  if (x.windowTo r).isNone then 0
  else max 1 (x.cfg.windowLen.toNat * 600 * x.rate / (44 * s.rankRate r))

/-- Key of a calendar bank within its pseudo-channel, and within the stack. -/
def calKey (rank bank : Nat) : Nat := rank * 16 + bank
def shareKey (q rank bank : Nat) : Nat := q * 256 + calKey rank bank

/-- Pseudo-channel share left. -/
def State.pcLeft (s : State) (p q : Nat) : Nat := s.pcShare p q - tabGet 0 (s.port p).gnt.pcUsed q
/-- Bank share left. -/
def State.bankLeft (s : State) (p : Nat) (g : Seg) : Nat :=
  s.bankShare p g.rank - tabGet 0 (s.port p).gnt.bankUsed (shareKey g.q g.rank g.bank)

/-! ## The calendar (R242, R243, R271) -/

/-- Column commands of one activation, writes marked, as offsets from the ACT (R270): the promoted writes first; `step`
ticks lie between data-bus slots (R290). -/
def columnOffsets (read : Bool) (blocks promoted step : Nat) : List (Bool × Nat) :=
  if read then
    let at_ := if promoted = 0 then 14 else 18
    (List.range promoted).map (fun i => (true, 14 + step * i)) ++ (List.range blocks).map (fun i => (false, at_ + step * i))
  else [(true, 14)]

/-- From a column command to its burst: CWL of a write, CL of a read (R269). -/
def busDelay (write : Bool) : Nat := if write then 2 else 14

/-- Data-bus slots of column commands. -/
def slotsOf (l : List (Bool × Nat)) : List Nat := l.map (fun c => c.2 + busDelay c.1)

/-- A search for a start: the work, its bank, its row and its column commands. -/
structure Want where
  q : Nat
  rank : Nat
  bank : Nat
  row : Nat
  /-- Column commands as offsets from the ACT. -/
  cols : List (Bool × Nat)
  /-- It takes from the G pool. -/
  g : Bool
  /-- It reserves its start ahead (G work, and P and B work against a deadline). -/
  booked : Bool := false
  /-- It is served from its open row without ACT, its first column command at the start itself (R275). -/
  hit : Bool := false
deriving DecidableEq, Repr

/-- Column commands of a piece of work that starts at t. -/
def Want.colsAt (w : Want) (t : Nat) : List (Bool × Nat) := w.cols.map (fun c => (c.1, if w.hit then t + c.2 - 14 else t + c.2))

/-- How long a piece of work keeps its bank from the next ACT (R269): tRC; without ACT, from the column command over tRTP, or
over the write and tWR, and tRP. -/
def Want.span (w : Want) : Nat := if !w.hit then 44 else if w.cols.any (·.1) then 25 else 16

/-- G activation starts of a bank that are on record. -/
def Pc.gOf (x : Pc) (key : Nat) : List Nat := (x.gStarts.filter (fun e => decide (e.1 = key))).map (·.2)
/-- Booked activation starts of a bank. -/
def Pc.booked (x : Pc) (key : Nat) : List Nat :=
  x.grants.filterMap (fun g => if calKey g.rank g.bank = key then g.start else none)

/-- No interval of 1,024 that contains one of `new` holds more than `n` of `old ++ new` (R242). -/
def poolOk (n : Nat) (old new : List Nat) : Bool :=
  let l := old ++ new
  new.all (fun s => l.all (fun t =>
    decide (s < t) || decide (t + 1024 ≤ s) || decide ((l.filter (fun u => decide (t ≤ u) && decide (u < t + 1024))).length ≤ n)))

/-- At most 3 of the slots in any 4 consecutive ones, slots lying `step` ticks apart (R271, R290). -/
def slotsOk (step : Nat) (old new : List Nat) : Bool :=
  let l := (old ++ new).map (· / step)
  new.all (fun s => (List.range 4).all (fun d =>
    decide ((l.filter (fun u => decide (s / step ≤ u + d) && decide (u + d < s / step + 4))).length ≤ 3)))

/-- No chain of three back-to-back G activations, and 2 ns after a pair (R271). -/
def chainOk (starts : List Nat) (s : Nat) : Bool :=
  let l := s :: starts
  l.all (fun a => !l.contains (a + 44) || (!l.contains (a + 88) && !l.contains (a + 89)))

/-- A data-bus slot is free: at half rate one burst per 2 ns (R290). -/
def Pc.slotFree (x : Pc) (half : Bool) (t : Nat) : Bool :=
  x.slots.all (fun e => if half then decide (e.1 / 2 ≠ t / 2) else decide (e.1 ≠ t))

/-- A row-bus slot is free in a tick for a command of layer k: two commands a tick, and one ACT of a slice (R266, R269). -/
def Pc.rowFree (x : Pc) (k : Option Nat) (t : Nat) : Bool :=
  decide ((x.rows.filter (fun e => decide (e.1 = t))).length < 2) && !x.rows.any (fun e => decide (e.1 = t) && e.2.isSome && decide (e.2 = k))

/-- The open row of a bank of slice (q, k) at time t, with the time it was opened (R275): closed 1 µs after it was opened,
and 14 ns before the bank's next booked start where that was booked in time. -/
def State.openRow (s : State) (q k b t : Nat) : Option (Nat × Nat) :=
  let x := s.pc q
  match x.openRows.find? (fun e => decide (e.1 = bankKey k b)) with
  | none => none
  | some (_, row, at_) =>
    let closed := x.grants.any (fun g => decide (g.bank = b) && decide (s.layerAt q g.rank g.bank g.row = some k)
      && g.start.any (fun u => decide (u ≤ t + 14) && decide (g.latchedAt + 14 ≤ u)))
    if closed ∨ at_ + 1000 ≤ t then none else some (row, at_)

/-- The bank's open row is the row of the work. -/
def State.hitAt (s : State) (w : Want) (t : Nat) : Bool :=
  match s.layerAt w.q w.rank w.bank w.row with
  | some k => (s.openRow w.q k w.bank t).any (fun e => decide (e.1 = w.row))
  | none => false

/-- When a slice takes its next command: tPD and tXP after a power-down (R269, R273). -/
def State.sliceReady (s : State) (q k : Nat) : Nat :=
  if (s.slice q k).powerDown then max s.now ((s.slice q k).pdAt + 10) + 6 else s.now

/-- The earliest start that the state of the bank and of its slice allows (R243, R269, R273, R275, R281, R282). A refresh in
progress is paused for G work alone. An open row is used by work that reserves nothing (tRCD, tWTR). -/
def State.bankReady (s : State) (w : Want) : Nat :=
  let x := s.pc w.q
  let free := max s.now (tabGet 0 x.bankFree (calKey w.rank w.bank))
  match s.layerAt w.q w.rank w.bank w.row with
  | none => free
  | some k =>
    let t := match s.openRow w.q k w.bank s.now with
      | some (row, at_) =>
        if w.hit then
          x.bursts.foldl (fun t b => if b.write ∧ b.bank = w.bank ∧ b.layer = k then max t (b.start + 2) else t) (max s.now (at_ + 14))
        else if row = w.row then free
        else max free (s.now + 14)
      | none => free
    let t := match x.rf.refRun.find? (fun e => decide (e.1 = bankKey k w.bank)) with
      | some (_, r) => if w.g ∧ !r.protect then max t (min (r.start + 44) (s.now + 11)) else max t (r.start + 44)
      | none => t
    max t (s.sliceReady w.q k)

/-- The start is free in the calendar and on the buses. -/
def State.startOk (s : State) (w : Want) (ready t : Nat) : Bool :=
  let x := s.pc w.q
  let key := calKey w.rank w.bank
  let half := s.pcShrunk w.q
  let layer := s.layerAt w.q w.rank w.bank w.row
  let cols := w.colsAt t
  let slots := slotsOf cols
  let gs := (x.slots.filter (·.2)).map (·.1)
  decide (ready ≤ t) && !layer.any (fun k => (s.slice w.q k).arraySet) && (w.booked || decide (s.hitAt w t = w.hit))
    && (x.booked key).all (fun b => decide (b + 44 ≤ t) || decide (t + w.span ≤ b))
    && slots.all (x.slotFree half) && cols.all (fun c => !x.cols.contains c.2) && (w.hit || x.rowFree layer t)
    && (!w.g || (poolOk 14 (x.gOf key) [t] && poolOk (if half then 307 else 614) gs slots && slotsOk (if half then 2 else 1) gs slots
      && chainOk (x.gOf key) t))

/-- The earliest start within `n` ticks of now for work served in one way. -/
def State.searchAs (s : State) (w : Want) (n : Nat) : Option Nat :=
  let ready := s.bankReady w
  (List.range n).findSome? (fun d => if s.startOk w ready (s.now + d) then some (s.now + d) else none)

/-- The earliest start within `n` ticks of now: work without a reservation may be served from its open row (R275). -/
def State.search (s : State) (w : Want) (n : Nat) : Option Nat :=
  if w.booked then s.searchAs w n
  else if s.hitAt w s.now then (s.searchAs { w with hit := true } n).or (s.searchAs w n)
  else s.searchAs w n

/-- Bus slots taken by column commands, and by the ACT of layer k where there is one (R242, R267). -/
def Pc.book (x : Pc) (g : Bool) (cols : List (Bool × Nat)) (act : Option (Nat × Option Nat)) : Pc :=
  { x with slots := x.slots ++ (slotsOf cols).map (fun t => (t, g)), cols := x.cols ++ cols.map (·.2), rows := x.rows ++ act.toList }

/-! ## Requests -/

/-- Blocks of a request (R183). -/
def Req.blocks (r : Req) : Nat := 2 ^ r.len
/-- Charge (R231). -/
def Req.charge (r : Req) : Nat := 2 ^ r.len

/-- The segments of a request, each with its number of blocks: one, or one for each KiB of a FILL (R226, R231). -/
def State.segsOf (s : State) (r : Req) : List (Seg × Nat) :=
  (List.range (max 1 (r.blocks / 16))).map (fun i => (segOf s.rep.key (r.dev + 16 * i), min r.blocks 16))

/-- Two requests share a block, by device address (R194, R217). -/
def Req.shares (a b : Req) : Bool := decide (a.dev < b.dev + b.blocks) && decide (b.dev < a.dev + a.blocks)

/-- A request that has been accepted (serial numbers start at 1). -/
def Req.accepted (r : Req) : Bool := decide (0 < r.serial)

/-- Accepted, incomplete work of a class that targets a bank, a FILL by its segments (R245): the grants that wait, also those
of an ended session (R207), and the open requests whose grants have been issued. -/
def State.floorCount (s : State) (c : Cls) (q key : Nat) : Nat :=
  let l := (s.pc q).grants.filter (fun g => decide (g.cls = c) && decide (calKey g.rank g.bank = key))
  l.length + ((List.range 16).map (fun p => ((s.port p).reqs.map (fun r =>
    if r.accepted ∧ r.cls = c then
      ((s.segsOf r).filter (fun g => decide (g.1.q = q) && decide (calKey g.1.rank g.1.bank = key))).length
        - (l.filter (fun g => decide (g.serial = r.serial))).length
    else 0)).sum)).sum

/-- Why a request is held. -/
inductive Hold where
  | mode | budget | order | pcShare | bankShare | slot
deriving DecidableEq, Repr

/-- A write entry covers a block. -/
def WqEntry.covers (e : WqEntry) (g : Seg) (b : Nat) : Bool :=
  decide (e.rank = g.rank) && decide (e.bank = g.bank) && decide (e.row = g.row) && decide (e.block = b)

/-- Blocks of a read that a queued write also covers (R279). -/
def Pc.hazards (x : Pc) (g : Seg) (n : Nat) : Nat :=
  ((List.range n).filter (fun i => x.wq.any (fun e => e.covers g (g.block + i)))).length

/-- A hold counted once per request, with its cause (R265, R438). -/
def holdReq (p tag : Nat) (why : Hold) (s : State) : State :=
  if ((s.port p).reqs.find? (fun r => decide (r.tag = tag))).any (·.heldOnce) then s
  else
    let s := s.updPort p (fun x =>
      let x := x.updReq tag (fun r => { r with heldOnce := true })
      match why with
      | .mode => x
      | .budget => { x with gnt.holdBudget := satInc x.gnt.holdBudget }
      | .order => { x with gnt.holdOrder := satInc x.gnt.holdOrder }
      | _ => { x with gnt.holdCal := satInc x.gnt.holdCal })
    let s := pmcCount p 0x07 1 s
    match why with
    | .mode => s
    | .budget => pmcCount p 0x08 1 s
    | .pcShare => pmcCount p 0x09 1 s
    | .bankShare => pmcCount p 0x0A 1 s
    | .slot => pmcCount p 0x0B 1 s
    | .order => pmcCount p 0x0C 1 s

/-- A request answered by the gauntlet without effect. -/
def refuseReq (p : Nat) (r : Req) (st : Status) (s : State) : State := s.updPort p (fun x => x.answer r st)

/-- What the decision of R250 finds. -/
inductive Verdict where
  | noContract
  | oversize
  | hold (why : Hold)
  | latch (cls : Cls) (shed : Bool) (starts : List (Option Nat)) (bound promoted : Nat)
deriving DecidableEq, Repr

/-- The class a contract names. -/
def clsOf (c : BitVec 2) : Cls := if c = 1 then .g else if c = 2 then .p else .b

/-- Bound of a request that latches now in class c (R233, R237, R248). -/
def State.boundOf (s : State) (p : Nat) (r : Req) (c : Cls) : Nat :=
  match c with
  | .g => s.now + (s.port p).allowance + r.exit
  | .p => if r.deadline = 0 then s.now + 2000 else r.arrival + 4 * r.deadline
  | .b => s.now + 50000

/-- The order rule of R251: an earlier open request of the port that shares a block lets this one pass only once it is
latched with a bound no later than this one's. Requests answered without effect are outside (R194). -/
def orderOk (reqs : List Req) (r : Req) (bound : Nat) : Bool :=
  (reqs.takeWhile (fun e => decide (e.tag ≠ r.tag))).all (fun e =>
    e.op.mgmt || !e.shares r || (decide (e.phase = .answered) && !e.accepted) || (e.accepted && decide (e.bound ≤ bound)))

/-- Write-queue entries for every block (R246). -/
def State.queueOk (s : State) (segs : List (Seg × Nat)) (c : Cls) : Bool :=
  segs.all (fun g =>
    let n := ((segs.filter (fun h => decide (h.1.q = g.1.q))).map (·.2)).sum
    let used := (s.pc g.1.q).wq.length
    if c = .g then decide (used + n ≤ 64) else decide (used + n ≤ 49))

/-! ## The write queue (R277) -/

/-- The order in which writes enter the queue: by tick, the lower-numbered port first, then by acceptance (R218, R277). -/
def QWrite.before (a b : QWrite) : Bool :=
  decide (a.at_ < b.at_) || (decide (a.at_ = b.at_) && (decide (a.port < b.port) || (decide (a.port = b.port) && decide (a.serial < b.serial))))

/-- A latched write merged into the entry of its block, or entered as a new entry (R277). -/
def Pc.enqueue (x : Pc) (g : Seg) (block : Nat) (w : QWrite) : Pc :=
  if x.wq.any (fun y => y.covers g block) then
    { x with wq := x.wq.map (fun y => if y.covers g block then
        { y with writes := y.writes.takeWhile (fun v => !w.before v) ++ w :: y.writes.dropWhile (fun v => !w.before v) } else y) }
  else { x with wq := x.wq ++ [{ rank := g.rank, bank := g.bank, row := g.row, block := block, writes := [w] }] }

/-- No cells or no controller stand behind a segment (R95, R359): a request to it is answered without DRAM commands. -/
def State.lostAt (s : State) (g : Seg) : Bool :=
  (s.pc g.q).excluded || s.noController (g.q / 2) || (s.layerAt g.q g.rank g.bank g.row).isNone

/-! ## One segment at the latch -/

/-- One segment of a latched request: its grant, its reservation, its write-queue entries. -/
def latchSeg (p : Nat) (r : Req) (cls : Cls) (start : Option Nat) (bound promoted serial : Nat) (h : Seg × Nat)
    (s : State) : State :=
  let g := h.1
  let key := calKey g.rank g.bank
  let c := (s.port p).contract r.label
  let step := if s.pcShrunk g.q then 2 else 1
  let lost := s.lostAt g
  let gr : Grant :=
    { port := p, tag := r.tag, op := r.op, cls := cls, rank := g.rank, bank := g.bank, row := g.row, block := g.block,
      start := start, promoted := decide (0 < promoted), latchedAt := s.now, bound := bound, serial := serial,
      noCorr := r.noCorr, pTarget := c.pTarget.toNat, hatband := if cls = .b then 0 else c.hatband.toNat, arrival := r.arrival,
      step := step, queued := r.op.writes && !lost }
  let layer := s.layerAt g.q g.rank g.bank g.row
  s.updPc g.q (fun x =>
    let x := { x with grants := x.grants ++ [gr], granted := x.granted + 1 }
    let x := match start with
      | some t => { x.book (decide (cls = .g)) ((columnOffsets r.op.reads r.blocks promoted step).map (fun o => (o.1, t + o.2))) (some (t, layer)) with
          gStarts := if cls = .g then x.gStarts ++ [(key, t)] else x.gStarts
          spentCredit := if cls = .g then x.spentCredit else tabSet 0 x.spentCredit key (tabGet 0 x.spentCredit key + 1) }
      | none => x
    if gr.queued then
      (List.range h.2).foldl (fun x i =>
        x.enqueue g (g.block + i) { serial := serial, at_ := s.now, port := p, mask := r.mask, data := r.data }) x
    else x)

/-- The search of one segment. -/
def State.segWant (s : State) (r : Req) (cls : Cls) (promoted : Nat) (g : Seg) : Want :=
  { q := g.q, rank := g.rank, bank := g.bank, row := g.row, g := decide (cls = .g), booked := true
    cols := columnOffsets r.op.reads r.blocks promoted (if s.pcShrunk g.q then 2 else 1) }

/-- The read's data, or the write's end, of a request with a deadline meets it (R248, R250). -/
def Port.meets (x : Port) (r : Req) (promoted t : Nat) : Bool :=
  decide (t + (if promoted = 0 then 36 else 40) + 24 + 10 + x.egress ≤ r.arrival + 4 * r.deadline)

/-- Deadline reservations of the segments of a request, each with a credit of its bank and seen by the next (R248). -/
def deadlineStarts (p : Nat) (r : Req) (cls : Cls) (promoted : Nat) : List (Seg × Nat) → State → Option (List (Option Nat))
  | [], _ => some []
  | h :: rest, s =>
    match s.search (s.segWant r cls promoted h.1) 1024 with
    | none => none
    | some t =>
      if !(s.port p).meets r promoted t ∨ 4 ≤ tabGet 0 (s.pc h.1.q).spentCredit (calKey h.1.rank h.1.bank) then none
      else (deadlineStarts p r cls promoted rest (latchSeg p r cls (some t) 0 promoted 0 h s)).map (some t :: ·)

/-- The procedure of R250 for one request. -/
def decide250 (p : Nat) (r : Req) (s : State) : Verdict :=
  let x := s.port p
  let c := x.contract r.label
  let segs := s.segsOf r
  let g := (segs.head?.getD ({ rank := 0, q := 0, bank := 0, row := 0, block := 0 }, 1)).1
  let shed := segs.any (fun h => s.shedAt p r.label h.1.q) && decide (c.cls ≠ 3) && decide (r.op ≠ .fill)
  let cls : Cls := if r.op = .fill ∨ shed then .b else clsOf c.cls
  let bound := s.boundOf p r cls
  let eff := s.effBudget p r.label
  let lone := decide (eff < r.charge) && decide (0 < eff) && decide (x.spentOf r.label = 0) && x.gnt.windowStart.isSome
  let hz := if r.op.reads then (s.pc g.q).hazards g r.blocks else 0
  if c.cls = 0 then .noContract
  else if c.budget.toNat < r.charge then .oversize
  else if s.mode ≠ .service ∨ s.bist.shutDown then .hold .mode
  else if !orderOk x.reqs r bound then .hold .order
  else if s.left p r.label < r.charge ∧ !lone then .hold .budget
  else if cls = .g then
    match s.search (s.segWant r cls hz g) 67 with
    | none => .hold .slot
    | some t =>
      if r.deadline ≠ 0 ∧ !x.meets r hz t then .hold .slot
      else if s.pcLeft p g.q < r.charge then .hold .pcShare
      else if s.bankLeft p g = 0 then .hold .bankShare
      else if r.op.writes ∧ !s.queueOk segs cls then .hold .slot
      else .latch cls shed [some t] bound hz
  else if r.deadline ≠ 0 then
    match deadlineStarts p r cls hz segs s with
    | none => .hold .slot
    | some starts =>
      if r.op.writes ∧ !s.queueOk segs cls then .hold .slot
      else .latch cls shed starts bound hz
  else if segs.any (fun h => decide ((if cls = .p then 4 else 22) ≤ s.floorCount cls h.1.q (calKey h.1.rank h.1.bank))) then
    .hold .slot
  else if r.op.writes ∧ !s.queueOk segs cls then .hold .slot
  else .latch cls shed (segs.map (fun _ => none)) bound hz

/-! ## The latch -/

/-- Something changed that may let a held request through (R250): a window boundary, a grant issued or completed, a
write-queue entry freed, a credit earned, a request accepted or complete. -/
def touch (s : State) : State := { s with gnt.changes := s.gnt.changes + 1 }

/-- The latch of R250: calendar, shares, budget; a write's completion is queued (R193). -/
def latchReq (p : Nat) (r : Req) (cls : Cls) (shed : Bool) (starts : List (Option Nat)) (bound promoted : Nat) (s : State) : State :=
  let serial := s.gnt.serial + 1
  let segs := s.segsOf r
  let lost := (segs.filter (fun h => s.lostAt h.1)).length
  let s := touch { s with gnt.serial := serial }
  let s := forL (segs.zip starts) (fun h => latchSeg p r cls h.2 bound promoted serial h.1) s
  let s := s.updPort p (fun x =>
    let x := { x with gnt.spent := tabSet 0 x.gnt.spent r.label (x.spentOf r.label + r.charge) }
    let x := if cls = .g then
        segs.foldl (fun x h => { x with
          gnt.pcUsed := tabSet 0 x.gnt.pcUsed h.1.q (tabGet 0 x.gnt.pcUsed h.1.q + r.charge)
          gnt.bankUsed :=
            let k := shareKey h.1.q h.1.rank h.1.bank
            tabSet 0 x.gnt.bankUsed k (tabGet 0 x.gnt.bankUsed k + 1) }) x
      else x
    let x := if shed then { x with gnt.holdShed := satInc x.gnt.holdShed } else x
    let x := x.updReq r.tag (fun e => { e with
      phase := .latched, cls := cls, latchedAt := s.now, bound := bound, base := x.heldBy s.now, serial := serial,
      todo := if r.op.writes then lost else r.blocks })
    if r.op.writes ∧ lost = 0 then
      { x.updReq r.tag (fun e => { e with phase := .answered }) with
        outq := x.outq ++ [{ completion r .ok with bound := some bound, base := x.heldBy s.now }] }
    else x)
  let s := pmcCount p (match cls with | .g => 0x04 | .p => 0x05 | .b => 0x06) 1 s
  if cls = .g then forL segs (fun h s => pmcCount (16 + h.1.q / 2) 0x4B 1 s) s else s

/-- One decision; the Bool says that the request is no longer held. A held request keeps when it was looked at. -/
def examine (p tag : Nat) (s : State) : State × Bool :=
  match (s.port p).reqs.find? (fun r => decide (r.tag = tag) && decide (r.phase = .waiting)) with
  | none => (s, false)
  | some r =>
    match decide250 p r s with
    | .noContract => (refuseReq p r .unsupported (s.updPort p (fun x => { x with gnt.noContract := satInc x.gnt.noContract })), true)
    | .oversize => (refuseReq p r .unsupported (s.updPort p (fun x => { x with gnt.oversize := satInc x.gnt.oversize })), true)
    | .hold why =>
      (holdReq p tag why (s.updPort p (fun x => x.updReq tag (fun r => { r with looked := some (s.gnt.changes, s.now) }))), false)
    | .latch cls shed starts bound promoted => (latchReq p r cls shed starts bound promoted s, true)

/-- A request that the gauntlet may examine: not looked at before, or a condition may have changed since, or 64 ns have
passed (R250). -/
def Req.candidate (r : Req) (changes now : Nat) : Bool :=
  decide (r.phase = .waiting) && match r.looked with
    | none => true
    | some (c, t) => decide (c ≠ changes) || decide (t + 64 ≤ now)

/-- Decisions that port p may still make in this tick: 4 less those made (R250). -/
def State.decisionsLeft (s : State) (p : Nat) : Nat :=
  let d := (s.port p).gnt.decided
  if d.1 = s.now then 4 - d.2 else 4

/-- The gauntlet of port p in this tick: its oldest candidates by arrival examined, up to the decisions left (R250). -/
def reexamine (p : Nat) (s : State) : State :=
  let l := ((s.port p).reqs.filter (fun r => r.candidate s.gnt.changes s.now)).insertionSort (fun a b => a.arrival ≤ b.arrival)
  let tags := (l.take (s.decisionsLeft p)).map (·.tag)
  let s := s.updPort p (fun x => { x with gnt.decided := (s.now, 4 - s.decisionsLeft p + tags.length) })
  forL tags (fun tag s => (examine p tag s).1) s

/-- GAUNTLET_REEXAMINE (R250). -/
def execGauntletReexamine (p : PortId) (s : State) : Host.Outcome State Fault Refusal := .next (reexamine p.val s)

/-- DEADLINE_EXPIRY (R254): in the tick in which the deadline falls the grant is evaluated first; a request still held in
the tick after it is answered DEADLINE_EXPIRED. -/
def execDeadlineExpiry (p : PortId) (tag : BitVec 10) (s : State) : Host.Outcome State Fault Refusal :=
  match (s.port p.val).reqs.find? (fun r => decide (r.tag = tag.toNat) && decide (r.phase = .waiting) && decide (r.deadline ≠ 0)) with
  | none => .next s
  | some r =>
    let e := examine p.val tag.toNat (s.atLeast (r.arrival + 4 * r.deadline))
    if e.2 then .next e.1
    else
      let s := e.1.atLeast (r.arrival + 4 * r.deadline + 1)
      let s := s.updPort p.val (fun x => { x.answer r .deadlineExpired with
        gnt.expired := satInc x.gnt.expired })
      .next (pmcCount p.val 0x0D 1 s)

/-- DEADLINE_CREDIT_EARN (R248): 320 ns after the bank's last one. -/
def execDeadlineCreditEarn (q : PcId) (r : RankId) (b : BankId) (s : State) : Host.Outcome State Fault Refusal :=
  let k := calKey r.val b.val
  let s := s.atLeast (tabGet 0 (s.pc q.val).creditAt k + 320)
  .next (touch (s.updPc q.val (fun x =>
    { x with spentCredit := tabSet 0 x.spentCredit k (tabGet 0 x.spentCredit k - 1), creditAt := tabSet 0 x.creditAt k s.now })))

/-- GRANT_AUDIT (R249): grants latched equal grants issued plus grants pending. -/
def execGrantAudit (q : PcId) (s : State) : Host.Outcome State Fault Refusal :=
  let x := s.pc q.val
  .next (if x.granted = x.issued + x.grants.length then s
    else fault (84 + 6 * (q.val / 2)) { channel := some (Fin.ofNat 16 (q.val / 2)), pc := q.val % 2 = 1 } s)

/-- RESERVE_PERIOD_AUDIT (R354): the period's use is kept for REP_RESERVE and the book is rebuilt; a line beyond its
resource fails the audit. -/
def execReservePeriodAudit (q : PcId) (s : State) : Host.Outcome State Fault Refusal :=
  let m := (s.pc q.val).mg
  let limit := if s.pcShrunk q.val then 160 else 320
  let bad := decide (limit < m.useCal + m.useHbx + m.useMig) || m.useActs.any (fun e => decide (7 < e.2))
  let s := s.updPc q.val (fun x => { x with mg := { x.mg with
    lastCal := satOf 9 m.useCal, lastHbx := satOf 9 m.useHbx, lastMig := satOf 9 m.useMig,
    useCal := 0, useHbx := 0, useMig := 0, useActs := [], auditFail := x.mg.auditFail || bad } })
  .next (if bad then fault (84 + 6 * (q.val / 2)) { channel := some (Fin.ofNat 16 (q.val / 2)), pc := q.val % 2 = 1 } s else s)

end Sys2Proof.Machine
end

