-- ==== Sys2Proof/Machine/Modes.lean ====
section
/-! DEFINITION. Shared operations of modes and rungs (chapters 15 and 20): the stack's rung, handshake entries and their ends, wakes, entry to SERVICE and RETAIN, the shut-down and the self-test; power of layers and what is lost with it. -/

namespace Sys2Proof.Machine

/-! ## Slices and contents -/

/-- Contents of the slices chosen by f (slice number q · 18 + k) put into the never-written state (R313). -/
def eraseSlices (f : Nat → Bool) (s : State) : State :=
  { s with mem := s.mem.filter (fun c => !f (c.1 / (rowBytes * 262144))) }

/-- Every slice in use changed by f, with its pseudo-channel and layer. -/
def mapSlices (f : Nat → Nat → Slice → Slice) (s : State) : State :=
  { s with slices := s.slices.map (fun e => (e.1, if e.2.inUse then f (e.1 / 18) (e.1 % 18) e.2 else e.2)) }

/-- Liner bank map-outs and substitutions that lie on slice (q, k): the ranks they belong to. -/
def State.ranksAt (s : State) (q k : Nat) : List Nat :=
  (List.range s.serviceLayers).filter (fun r =>
    decide ((s.rank q r).layer = k) || (List.range 16).any (fun b => decide (s.bankEnt q r b = .mapped k)))

/-- Slice (q, k) holds a keep rank (R331). -/
def State.kept (s : State) (q k : Nat) : Bool := (s.ranksAt q k).any (fun r => s.pwr.keep.getLsbD r)

/-- A layer that holds a slice of a keep rank. -/
def State.layerKept (s : State) (k : Nat) : Bool := (List.range 32).any (fun q => s.kept q k)

/-! ## Port rungs (R381 to R389) -/

/-- The rung a port counts as: P3 where it is not ACTIVE (R382). -/
def Port.rungNow (p : Port) : Nat := if p.lnk.link = .active then p.rung.toNat else 3

/-- The numerically lowest rung held by any enabled port (R389); P3 with none. -/
def State.lowestRung (s : State) : Nat :=
  (List.range 16).foldl (fun m p => if s.portUp p then min m (s.port p).rungNow else m) 3

/-- The lowest rung the port may descend to: its FLOOR with a G contract, a DOZE permitting more (R383, R384). -/
def Port.deepest (p : Port) : Nat :=
  if p.gLabels = [] then 3 else max p.cfg.floor.toNat p.doze.toNat

/-- A port is idle (R382). -/
def Port.idle (p : Port) : Bool :=
  p.reqs.isEmpty && p.tx.replay.isEmpty && p.outq.isEmpty && decide (p.tx.due0 + p.tx.due1 + p.tx.due2 = 0)

/-! ## Entries (R392, R393) -/

/-- A migration keeps the stack from P3, RETAIN and below (R349). -/
def State.migrating (s : State) : Bool :=
  (List.range 32).any (fun q => decide ((s.pc q).mg.mig = .prepare) || decide ((s.pc q).mg.mig = .copy) || decide ((s.pc q).mg.mig = .switch))

/-- The block that refuses an entry (R392): 6 migration engine, 1 thermal unit. -/
def State.refuser (s : State) (target : Nat) : Option Nat :=
  if 3 ≤ target ∧ s.migrating then some 6
  else if (target = 4 ∨ target = 5) ∧ (0 < s.thm.baseLevel ∨
      (List.range 18).any (fun k => s.layerKept k && decide (0 < (s.layer k).level))) then some 1
  else none

/-- The controller of channel n delays: writes queued, accepted work incomplete, a catch-up (R392). -/
def State.controllerBusy (s : State) (n : Nat) : Bool :=
  [2 * n, 2 * n + 1].any (fun q => !(s.pc q).wq.isEmpty || !(s.pc q).grants.isEmpty || !(s.pc q).bursts.isEmpty ||
    (List.range 18).any (fun k => (s.slice q k).catchUp))

/-- The engine of channel n delays: a recalibration, for P4 and P5 rewrites or seals that wait. -/
def State.engineBusy (s : State) (n target : Nat) : Bool :=
  [2 * n, 2 * n + 1].any (fun q => (s.pc q).cal.isSome) || ((target = 4 || target = 5) && !(s.chan n).taken.isEmpty)

/-- The lowest-numbered block that delays an entry (R392). -/
def State.delayer (s : State) (target : Nat) : Option Nat :=
  if (target = 4 ∨ target = 5) ∧ (!s.jnl.queue.isEmpty ∨ s.otp.job.isSome ∨ s.otp.afJob.isSome ∨ !s.att.queue.isEmpty) then some 0
  else match (List.range 16).find? (fun n => s.controllerBusy n || s.engineBusy n target) with
    | some n => some (24 + n)
    | none => if target = 5 ∧ s.bist.running then some 40 else none

/-- The delay limit of an entry, ns (R393). -/
def entryLimit (target : Nat) : Nat :=
  match target with | 2 => 100 | 3 => 1000000 | 6 => 1000000 | 4 => 50000000 | _ => 500000000

/-- An entry abandoned: result and block (R393); its timer restarts, or its retry is due. -/
def abandonEntry (result block : Nat) (s : State) : State :=
  match s.pwr.entry with
  | none => s
  | some e =>
    let s := { s with
      pwr.entry := none
      pwr.entryTarget := 0
      pwr.hsRung := BitVec.ofNat 3 e.target
      pwr.hsResult := BitVec.ofNat 3 result
      pwr.hsBlock := BitVec.ofNat 6 block
      pwr.refusals := satInc s.pwr.refusals
      pwr.retry := if e.target = 2 ∨ e.target = 3 then some (e.target, s.now) else s.pwr.retry
      pwr.dwellFrom := if e.target = 2 ∨ e.target = 3 then s.pwr.dwellFrom else s.now }
    if e.target = 5 then
      let s := { s with bist.running := false, bist.todo := [] }
      if s.pwr.rung = 4 then
        { s with pins.vid := some 0x08, pwr.raising := false, pwr.lowering := true, sup.running := false } else s
    else s

/-- Partitions that CAP0 to CAP3 mark absent (R489). -/
def State.partAbsent (s : State) (i : Nat) : Bool := decide (i = 18) && decide (s.part = 4)

/-- The self-test begins: partitions in ascending order, two at a time (R489). -/
def startSelfTest (trigger : Nat) (parts : List Nat) (s : State) : State :=
  let run := parts.filter (fun i => !s.partAbsent i)
  let res := parts.foldl (fun t i => tabSet {} t i { status := if s.partAbsent i then 4 else 0 }) s.bist.parts
  { s with bist := { s.bist with running := !run.isEmpty, trigger := BitVec.ofNat 3 trigger, slot := 0, todo := run,
                                 parts := res, startedAt := s.now, spent := 0,
                                 tested := BitVec.ofNat 20 ((List.range 20).foldl (fun m i => m + (if parts.contains i then 2 ^ i else 0)) 0) } }

/-- An entry asked of every block (R392): refused at once, or in progress. -/
def startEntry (target : Nat) (s : State) : State :=
  if s.pwr.entry.isSome then s
  else
    let s := { s with pwr.entry := some { target := target, start := s.now }, pwr.entryTarget := BitVec.ofNat 3 target,
                      pwr.retry := none }
    match s.refuser target with
    | some b => abandonEntry 2 b s
    | none =>
      if target = 5 then
        let s := if s.pwr.rung = 4 then
            { s with pins.vid := some 0x18, pwr.raising := true, pwr.raiseAt := s.now, pwr.lowering := false, sup.running := true } else s
        startSelfTest 3 (List.range 20) s
      else s

/-- The interval of a row whose base interval has this code and whose subarray is in this bin, ns (R317, R318). -/
def intervalNs (code bin : Nat) : Nat := 64000000 / 2 ^ code * 2 ^ bin

/-- SRE to every slice in use that is not in self-refresh (R328). -/
def enterSelfRefresh (s : State) : State :=
  mapSlices (fun _ _ x => { x with selfRefresh := true, powerDown := false, sreAt := if x.selfRefresh then x.sreAt else s.now }) s

/-- SRX to every slice in self-refresh (R328): its cyclic walk in row order gives every row's due time from here on. -/
def leaveSelfRefresh (s : State) : State :=
  let s := forN 32 (fun q s => if (s.pc q).rf.refDone = [] then s
    else s.updPc q (fun x => { x with rf.refDone := x.rf.refDone.filter (fun e => !(s.slice q (e.1 / 262144)).selfRefresh) })) s
  mapSlices (fun _ k x => if x.selfRefresh then
    let c := (s.layer k).base
    { x with selfRefresh := false, walk := some (s.now, 16384 * (s.now - x.sreAt) / intervalNs c 0 % 16384, c) } else x) s

/-- The stack leaves its rung for a lower one: slices leave self-refresh and power-down (R389). -/
def leaveTo (m : Nat) (s : State) : State :=
  let s := { s with pwr.rung := m }
  let s := if m < 3 then leaveSelfRefresh s else s
  if m < 2 then mapSlices (fun _ _ x => { x with powerDown := false, lastCmd := s.now }) s else s

/-- In SERVICE the stack's rung follows the ports (R389). -/
def settleRung (s : State) : State :=
  if s.mode ≠ .service ∨ s.bist.shutDown then s
  else
    let m := s.lowestRung
    let s := match s.pwr.entry with
      | some e => if e.target ≤ 3 ∧ m < e.target then abandonEntry 4 0 s else s
      | none => s
    let s := { s with pwr.retry := s.pwr.retry.filter (fun t => decide (t.1 ≤ m)) }
    if m < s.pwr.rung then leaveTo m s
    else if m = s.pwr.rung then s
    else if m = 1 then { s with pwr.rung := 1 }
    else if s.pwr.retry.any (fun t => decide (t.1 = m)) then s
    else startEntry m s

/-- A port leaves its rung at activity (R381, R382, R385): the wake preamble of its hush, idleness afresh, entries
aborted (R388), a pending move of RETAIN_IDLE withdrawn (R390). -/
def portActive (p : Nat) (s : State) : State :=
  let x := s.port p
  let s := s.updPort p (fun x => { x with
    rung := if x.lnk.link = .active then 0 else x.rung
    wire := if x.txHush then (x.sendBlocks 0 (if x.rung = 3 then 128 else 16)).wire else x.wire
    txHush := false, idleSince := s.now })
  let s := if s.pwr.retainPending ∧ s.pwr.pendIdle then { s with pwr.retainPending := false, pwr.pendIdle := false } else s
  let s := if x.lnk.link = .active then
      (match s.pwr.entry with
        | some e => if e.target = 6 ∨ e.target ≤ 3 then abandonEntry 4 0 s else s
        | none => s)
    else s
  settleRung s

/-- A request arrives at port p (R34, R381): the port is at P0, and a move to RETAIN in progress is abandoned. -/
def requestArrives (p : Nat) (s : State) : State :=
  let s := if (s.port p).rung = 0 then s else portActive p s
  match s.pwr.entry with
  | some e => if e.target = 6 then abandonEntry 4 0 s else s
  | none => s

/-! ## The wear ledger (R158) -/

/-- Weighted time, in units of 2⁻³² s, as HOURS of the ledger: sixteenths of an hour. -/
def wearHours (h : Nat) : Nat := h / (225 * 2 ^ 32)
/-- Life consumed in per mille of 219,150 h. -/
def perMille (h : Nat) : Nat := 1000 * h / (219150 * 3600 * 2 ^ 32)

/-- The wear ledger record, base die first (R155, R158). -/
def ledgerRecord (s : State) : JQueued :=
  let e : Nat → List Byte := fun h => leBytes 4 (wearHours h) ++ leBytes 2 (perMille h) ++ [0, 0]
  { prio := 7, kind := 6,
    payload := leBytes 4 s.jnl.bootCount.toNat ++ leBytes 2 60 ++ [0, 0] ++ e s.jnl.baseWear
      ++ (List.range 18).flatMap (fun k => e (s.layer k).wear) }

/-! ## The attestation unit at SERVICE entry (R449, R451, R454) -/

/-- LEAF counter value (R139): one plus the index of the highest pair of rows 102 to 133 of which a bit reads 1 at either margin. -/
def State.leafCount (s : State) : Nat :=
  s.otp.rows.foldl (fun m e => if 102 ≤ e.1 ∧ e.1 < 134 ∧ e.2 ≠ 0 then max m (32 * (e.1 - 102) + Nat.log2 e.2.toNat / 2 + 1) else m) 0

/-- The next leaf after a power cycle (R449): the first of a block that neither the LEAF counter nor the newest record has
reached. The traversal state for it is still to be built (R451). -/
def attStart (s : State) : State :=
  let c := s.leafCount
  let l := match s.att.lastLeaf with | some x => x / 1024 + 1 | none => 0
  let b := min 1024 (max c l)
  let s := { s with att := { s.att with next := 1024 * b, gainAt := s.now, ready := false, exhausted := decide (b = 1024),
                                        rebuild := s.att.resume.isNone, journalAhead := decide (c < l) } }
  let s := if c < l then fault 233 {} s else s
  if b = 1024 then raiseFault 233 2 {} 1 s else s

/-! ## SERVICE, RETAIN -/

/-- SERVICE entered from BOOT, and from no other mode (R32, R35, R238, R440): budget windows start, counters read 0, BOOT_TIME
stops. -/
def serviceEntry (s : State) : State :=
  if s.mode ≠ .boot then s else
  let s := forN 16 (fun p s => if s.portPresent p then s.updPort p (fun x => { x with
    gnt := { x.gnt with windowStart := some s.now, spent := [], pcUsed := [], bankUsed := [] } }) else s) s
  let s := forN 32 (fun i s => s.updCset i (fun c => { c with cycle := 0, hiLatch := 0, ovf := 0, cnt := [] })) s
  let s := { s with mode := .service, pwr.serviceAt := s.now, boot.frozen := some (s.boot.frozen.getD s.us) }
  settleRung (attStart (queueRecord (ledgerRecord s) s))

/-- RETAIN entered from SERVICE, the stack standing at P3 (R32, R390). -/
def retainEntry (s : State) : State :=
  if s.mode ≠ .service then s else
  let skip := s.pwr.skipDwells
  let s := { s with mode := .retain, pwr.retainPending := false, pwr.pendIdle := false, pwr.dwellFrom := s.now,
                    pwr.rung := 3 }
  let d := s.pwr.deepestNow
  if skip ∧ 3 < d ∧ !(d = 4 && s.pwr.keep == 0) then startEntry d s else { s with pwr.skipDwells := false }

/-- The move to RETAIN: at once through the handshake at P3, else pending (R390). -/
def moveRetain (idle skip : Bool) (s : State) : State :=
  if s.mode ≠ .service ∨ s.bist.shutDown then s
  else
    let s := { s with pwr.skipDwells := skip || (s.pwr.skipDwells && (s.pwr.retainPending || s.pwr.entry.any (fun e => decide (e.target = 6)))) }
    if s.pwr.rung = 3 then startEntry 6 s
    else { s with pwr.retainPending := true, pwr.pendIdle := idle }

/-- RETAIN is left for SERVICE at P3 (R32, R389, R390). -/
def backToService (s : State) : State :=
  if s.mode ≠ .retain then s else
  let s := (match s.pwr.entry with | some _ => abandonEntry 4 0 s | none => s)
  let s := { s with mode := .service, pwr.serviceAt := s.now, pwr.cause := 0, pwr.skipDwells := false }
  settleRung (queueRecord (ledgerRecord s) s)

/-! ## Shut-down (R487) -/

/-- No accepted request is incomplete. -/
def State.drained (s : State) : Bool :=
  (List.range 16).all (fun p => (s.port p).reqs.all (fun r => !r.accepted))

/-- Steps 2 and 3 of R487: every port to OFF, no migration begins any more, a wear ledger record. -/
def portsOff (s : State) : State :=
  let s := forN 16 (fun p s => if s.port p = {} then s else s.updPort p (·.toOff)) s
  let s := forN 32 (fun q s => if s.pc q = {} then s else s.updPc q (fun x => { x with mg.migQueue := [] })) s
  queueRecord (ledgerRecord s) s

/-- A shut-down moves on as far as it can: ports to OFF, journal flushed, contents lost and self-test started. -/
def shutdownAdvance (s : State) : State :=
  let s := if s.bist.shutDown ∧ s.bist.phase = 2 ∧ (s.drained ∨ s.bist.shutAt + 60000 ≤ s.now) then
      { portsOff s with bist.phase := 3 }
    else s
  if s.bist.shutDown ∧ s.bist.phase = 3 ∧ s.jnl.queue = [] then
    startSelfTest s.bist.trigger.toNat (List.range 20) { stopMemory s with bist.phase := 4 }
  else s

/-- A shut-down of trigger 1 or 2 where the mode and rung allow it (R486). A P5 entry under way is abandoned; its
running self-test serves the shut-down. -/
def startShutdown (trigger : Nat) (s : State) : State :=
  if s.bist.shutDown then (if trigger = 1 ∧ s.bist.phase = 2 ∧ s.bist.shutAt = s.now then { s with bist.trigger := 1 } else s)
  else
    let tests := s.bist
    let testing := tests.running && s.pwr.entry.any (fun e => decide (e.target = 5))
    let s := (match s.pwr.entry with | some _ => abandonEntry 4 0 s | none => s)
    let s := { s with bist.shutDown := true, bist.trigger := BitVec.ofNat 3 trigger, bist.shutAt := s.now, pwr.retainPending := false }
    if testing then { stopMemory (portsOff s) with bist.running := true, bist.todo := tests.todo, bist.phase := 4 }
    else shutdownAdvance { s with bist.phase := 2 }

/-- The mode and rung in which triggers 1 and 2 act (R486). -/
def State.shutdownAllowed (s : State) : Bool :=
  decide (s.mode = .service) || (decide (s.mode = .retain) && decide (s.pwr.rung = 3)) || decide (s.mode = .factory)

/-- SHDN_REQ_N held low is acted on once the mode and rung allow (R486). -/
def pinShutdown (s : State) : State :=
  if !s.pins.shdnReqN ∧ s.shutdownAllowed ∧ !s.bist.shutDown then startShutdown 1 s else s

/-- The islands off, SHDN_DONE high (R487 step 6). -/
def shutdownDone (s : State) : State :=
  { s with bist.phase := 6, bist.running := false, pins.shdnDone := true
           layers := s.layers.map (fun e => (e.1, { e.2 with powered := false })) }

end Sys2Proof.Machine
end

