-- ==== Sys2Proof/Machine/Channel.lean ====
section
/-! DEFINITION. The channel controller (chapter 10) and the correction of a read (chapter 11): activations and their bursts, write drains, retries, row closing, power-down, eye calibration. -/

namespace Sys2Proof.Machine

/-! ## Small operations -/

/-- Channel of a pseudo-channel, and the sources of the channel (R411). -/
def chanOf (q : Nat) : Nat := q / 2
def srcCorr (n : Nat) : Nat := 80 + 6 * n
def srcUncorr (n : Nat) : Nat := 81 + 6 * n
def srcTsv (n : Nat) : Nat := 82 + 6 * n
def srcParity (n : Nat) : Nat := 83 + 6 * n
def srcChecker (n : Nat) : Nat := 84 + 6 * n
def srcWatchdog (n : Nat) : Nat := 85 + 6 * n
def srcLatent (k : Nat) : Nat := 176 + 2 * k
def srcLayer (k : Nat) : Nat := 177 + 2 * k

/-- What an event of pseudo-channel q names. -/
def pcDetail (q : Nat) : EventDetail := { channel := some (Fin.ofNat 16 (chanOf q)), pc := decide (q % 2 = 1) }

/-- What an event of a row names. -/
def rowDetail (q k b row : Nat) : EventDetail :=
  { pcDetail q with layer := some (Fin.ofNat 18 k), bank := some (Fin.ofNat 16 b), row := BitVec.ofNat 14 row }

/-- Kinds of work that the thermal model counts (R366). -/
inductive Work where
  | act | burst | refpb | chk | rdrow
deriving DecidableEq, Repr

/-- Number of a kind of work. -/
def Work.code : Work → Nat
  | .act => 0 | .burst => 1 | .refpb => 2 | .chk => 3 | .rdrow => 4

/-- Work of slice (q, k) counted for the thermal model (R366). -/
def addWork (q k : Nat) (w : Work) (n : Nat) (s : State) : State :=
  let i := (q * 18 + k) * 8 + w.code
  { s with thm.work := tabSet 0 s.thm.work i (tabGet 0 s.thm.work i + n) }

/-- Performance events of the channel of q. -/
def chanEvent (q code n : Nat) (s : State) : State := pmcCount (16 + chanOf q) code n s

/-! ## Map words (R220, REP_BANK_MAP, R337) -/

/-- REP_RANK_MAP[q][j]: a migrating slice shows its destination. -/
def State.rankMapWord (s : State) (q j : Nat) : Word :=
  let shown : Nat → Nat := fun r => if (s.rank q r).state = 2 then (s.pc q).mg.unit.dst else (s.rank q r).layer
  packW ((List.range 4).flatMap (fun i =>
    if 4 * j + i < s.serviceLayers then [(shown (4 * j + i), 5), ((s.rank q (4 * j + i)).state, 3)] else [(0, 8)]))

/-- REP_BANK_MAP[q][r]. -/
def State.bankMapWord (s : State) (q r : Nat) : Word :=
  let mapped := fun b => match s.bankEnt q r b with | .mapped _ => 1 | _ => 0
  let second := fun b => match s.bankEnt q r b with
    | .mapped l => b2n (decide (s.liners.getD 1 99 = l)) | .retired => 1 | .own => 0
  packW ((List.range 16).map (fun b => (mapped b, 1)) ++ (List.range 16).map (fun b => (second b, 1)))

/-- A spare TSV of q in use. -/
def State.steer (s : State) (q i : Nat) : Option Steer := ((s.pc q).steer.find? (fun e => decide (e.1 = i))).map (·.2)

/-- REP_TSV_STEER[q][i]; a spare that has failed is not in use (R338). -/
def State.steerWord (s : State) (q i : Nat) : Word :=
  match (s.steer q i).filter (fun t => !t.failed) with
  | some t => packW [(1, 1), (t.group.toNat, 2), (t.lane.toNat, 6), (t.layer.toNat, 5), (b2n t.burnt, 1)]
  | none => 0

/-- MAP_CHECK of q (R289). -/
def State.mapCheck (s : State) (q : Nat) : Nat :=
  let words := (List.range 4).map (s.rankMapWord q) ++ (List.range 16).map (s.bankMapWord q) ++ (List.range 4).map (s.steerWord q)
  (shake256 (words.flatMap (fun w => leBytes 4 w.toNat))).toNat % 2 ^ 64

/-- DEVICE_ID. -/
def State.deviceId (s : State) : Nat := match s.otp.ident with | some i => i.deviceId.toNat | none => 0

/-- The training store record of q (R289). -/
def State.trainingRecord (s : State) (q : Nat) : JQueued :=
  { prio := 6, kind := 5, inst := BitVec.ofNat 8 q,
    payload := leBytes 8 s.deviceId ++ leBytes 8 (s.mapCheck q) ++ (List.range 18).flatMap (fun k =>
      match (s.slice q k).calTemp.or (s.slice q k).restTemp with
      | some t => leBytes 2 (t.toNat + 2048) ++ [0, 0]
          ++ (List.range 90).flatMap (fun i => leBytes 2 (tabGet 0 (s.slice q k).settings i).toNat)
      | none => leBytes 184 0) }

/-! ## The hatbox (R308, R324) -/

/-- An entry posted by the layer. -/
def Slice.post (x : Slice) (e : HatEntry) : Slice × Bool :=
  if x.hatbox.length < 16 then ({ x with hatbox := x.hatbox ++ [{ e with ovf := x.hatDropped }], hatDropped := false }, false)
  else if e.kind = 4 then
    let hit : HatEntry → Bool := fun y => decide (y.kind = 1) || decide (y.kind = 3)
    match x.hatbox.reverse.find? hit with
    | some _ => ({ x with hatbox := (dropFirst hit x.hatbox.reverse).reverse ++ [{ e with ovf := true }] }, false)
    | none => ({ x with hatPending := x.hatPending ++ [(e.bank, e.row)] }, true)
  else ({ x with hatDropped := true }, false)

/-- A finding posted to the hatbox of slice (q, k). -/
def postHat (q k : Nat) (e : HatEntry) (s : State) : State :=
  let r := (s.slice q k).post e
  let s := s.updSlice q k (fun _ => r.1)
  if r.2 then s.updChan (chanOf q) (fun c => { c with rfmDef := satInc c.rfmDef }) else s

/-- An unresolved overwrite of a row posted (R299, R308): its lowest block with a flagged byte, its flagged bytes. -/
def postOverwrite (q k b row : Nat) (cols : BitVec 64) (s : State) : State :=
  if cols = 0 then s
  else
    let errs := (s.readRow (rowKey q k b row)).errors
    postHat q k { kind := 6, src := true, bank := b, row := row,
                  block := if errs = [] then 0 else errs.foldl (fun m e => min m e.2.1) 15, count := min 15 errs.length, cols := cols } s

/-! ## Requests and their responses -/

/-- A response item of a port with its bound. -/
def pushOut (p : Nat) (o : OutItem) (s : State) : State := s.updPort p (fun x => { x with outq := x.outq ++ [o] })

/-- One block of a read is ready (R184, R193): PART 1 waits for PART 0. -/
def deliver (p tag serial part : Nat) (st : Status) (d : Block) (s : State) : State :=
  match (s.port p).reqs.find? (fun r => decide (r.tag = tag) && decide (r.serial = serial)) with
  | none => s
  | some r =>
    let s := pmcCount p (match st with | .okCorrected => 0x10 | .poison => 0x11 | _ => 0) (if st = .ok then 0 else 1) s
    let item : Nat → Status → Block → Bool → OutItem := fun i st d last =>
      { slot := .data tag i st d, closes := if last then some tag else none, bound := if last then some r.bound else none,
        base := r.base }
    if part = 1 ∧ r.todo = 2 then s.updPort p (fun x => x.updReq tag (fun e => { e with part1 := some (st, d) }))
    else
      let single := decide (r.op = .rd64)
      let s := pushOut p (item part st d (single || part = 1)) s
      match (if part = 0 then r.part1 else none) with
      | some (st1, d1) =>
        (pushOut p (item 1 st1 d1 true) s).updPort p (fun x => x.updReq tag (fun e =>
          { e with todo := 0, phase := .answered, part1 := none }))
      | none => s.updPort p (fun x => x.updReq tag (fun e =>
          { e with todo := e.todo - 1, phase := if e.todo ≤ 1 then .answered else e.phase }))

/-- The queued writes of one acceptance number leave the entries that meet f. -/
def Pc.dropWrites (x : Pc) (serial : Nat) (f : WqEntry → Bool) : Pc :=
  { x with wq := (x.wq.map (fun e => if f e then { e with writes := e.writes.filter (fun w => decide (w.serial ≠ serial)) } else e)).filter (fun e => !e.writes.isEmpty) }

/-- One answer for lost storage counts in REP_LOST_ACCESS, but not for an excluded pseudo-channel (R20, R95, R359). -/
def countLost (q : Nat) (s : State) : State :=
  if (s.pc q).excluded then s else { s with rep.lostAccess := satInc s.rep.lostAccess }

/-- A request to lost storage answered at its slot without DRAM commands (R20, R95, R359). A write whose storage was lost
after its latch has had its answer (R193): its bytes are dropped. -/
def answerLost (g : Grant) (q : Nat) (s : State) : State :=
  if g.op.reads then
    let n := if g.op = .rd128 then 2 else 1
    forN n (fun i s => deliver g.port g.tag g.serial i .poison 0 s) (countLost q s)
  else if g.queued then s.updPc q (·.dropWrites g.serial (fun e => decide (e.rank = g.rank) && decide (e.bank = g.bank) && decide (e.row = g.row)))
  else
    let s := countLost q s
    match (s.port g.port).reqs.find? (fun r => decide (r.tag = g.tag) && decide (r.serial = g.serial)) with
    | none => s
    | some r =>
      if r.todo ≤ 1 then
        s.updPort g.port (fun x => { x.updReq g.tag (fun e => { e with todo := 0, phase := .answered }) with
          outq := x.outq ++ [{ completion r .poison with bound := some r.bound, base := r.base }] })
      else s.updPort g.port (fun x => x.updReq g.tag (fun e => { e with todo := e.todo - 1 }))

/-! ## An activation (R268, R270, R274, R277 to R280, R323) -/

/-- The bank of slice (q, k) takes no ACT before t (R269), by every rank that it serves. -/
def bankBusy (q k b t : Nat) (s : State) : State :=
  let keys := (s.ranksAt q k).map (fun r => calKey r b)
  s.updPc q (fun x => { x with bankFree := keys.foldl (fun l key => tabSet 0 l key (max t (tabGet 0 l key))) x.bankFree })

/-- A REFPB in progress stopped (R281): its row counts as not refreshed, the bank is precharged within tPAUSE. -/
def pauseRefresh (q k b : Nat) (s : State) : State :=
  let key := bankKey k b
  match (s.pc q).rf.refRun.find? (fun e => decide (e.1 = key)) with
  | some (_, r) =>
    if r.protect then s
    else
      let rk := pcRowKey k b r.row
      let s := s.updPc q (fun x => { x with
        rf.refRun := tabErase x.rf.refRun key, rf.pauses := tabSet 0 x.rf.pauses rk (tabGet 0 x.rf.pauses rk + 1) })
      bankBusy q k b (s.now + 10) (chanEvent q 0x45 1 (s.updChan (chanOf q) (fun c => { c with paused := satInc c.paused })))
  | none => s

/-- An ACT of a row (R268, R323, R324): the row copied into a latch, count, request at 2,560. -/
def activate (q k b row : Nat) (s : State) : State :=
  let key := bankKey k b
  let rk := pcRowKey k b row
  let n := tabGet 0 (s.pc q).rf.actCount rk + 1
  let copy := s.readRow (rowKey q k b row)
  let s := s.updPc q (fun x => { x with
    latches := tabSet [] x.latches key (some (row, copy) :: (tabGet [] x.latches key).take 1)
    rf.actCount := tabSet 0 x.rf.actCount rk (if n = 2560 then 0 else n) })
  let s := s.updSlice q k (fun x => { x with powerDown := false, lastCmd := s.now })
  let s := if n = 2560 then postHat q k { kind := 4, bank := b, row := row } s else s
  chanEvent q 0x40 1 (addWork q k .act 1 s)

/-- The close predictor at an access (R274), and the row left open or closed; a row that was open keeps the time it was
opened (R275). -/
def predict (q k b row : Nat) (opened : Nat) (s : State) : State :=
  let key := bankKey k b
  let always := (s.chan (chanOf q)).closeAlways
  s.updPc q (fun x =>
    let c := tabGet 1 x.pred key
    let c := match x.lastRow.find? (fun e => decide (e.1 = key)) with
      | some (_, r) => if r = row then min 3 (c + 1) else c - 1
      | none => c
    { x with
      pred := tabSet 1 x.pred key c
      lastRow := tabPut (tabErase x.lastRow key) key row
      openRows := if 2 ≤ c ∧ !always then tabPut (tabErase x.openRows key) key (row, opened) else tabErase x.openRows key })

/-- Queued writes of a block, oldest first. -/
def Pc.queued (x : Pc) (rank b row block : Nat) : List QWrite :=
  (x.wq.filter (fun e => decide (e.rank = rank) && decide (e.bank = b) && decide (e.row = row) && decide (e.block = block))).flatMap (·.writes)

/-- The bytes of queued writes over a block (R277, R279, R280): data and the replaced bytes. -/
def overlay (l : List QWrite) (d : Block) : Block × BitVec 64 :=
  l.foldl (fun a e => (blockOf (fun j => if e.mask.getLsbD j then byteOf e.data j else byteOf a.1 j), a.2 ||| e.mask)) (d, 0)

/-- The entry of the block that a burst writes. -/
def WqEntry.under (e : WqEntry) (b : Burst) : Bool :=
  decide (e.rank = b.rank) && decide (e.bank = b.bank) && decide (e.row = b.row) && decide (e.block = b.block)

/-- The queue entry that a burst drains. -/
def WqEntry.drainedBy (e : WqEntry) (b : Burst) : Bool := e.busy && e.under b

/-- The queue still holds a write of a grant that no burst on the bus carries. -/
def Pc.waitsFor (x : Pc) (g : Grant) : Bool :=
  x.wq.any (fun e => decide (e.rank = g.rank) && decide (e.bank = g.bank) && decide (e.row = g.row) && e.writes.any (fun w =>
    decide (w.serial = g.serial) && !x.bursts.any (fun b => b.write && e.drainedBy b && b.serials.contains w.serial)))

/-- The reservation of a write grant leaves the calendar. -/
def Pc.unbook (x : Pc) (g : Grant) : Pc :=
  match g.start with
  | none => x
  | some t =>
    let cols := (columnOffsets false 1 0 g.step).map (fun o => (o.1, t + o.2))
    { x with
      slots := (slotsOf cols).foldl (fun l u => dropFirst (fun e => decide (e.1 = u)) l) x.slots
      cols := cols.foldl (fun l c => dropFirst (fun e => decide (e = c.2)) l) x.cols
      rows := dropFirst (fun e => decide (e.1 = t) && e.2.isSome) x.rows
      gStarts := dropFirst (fun e => decide (e = (calKey g.rank g.bank, t))) x.gStarts }

/-- Write grants whose blocks all drain in other activations are done: their slots return to leftover (R249, R278). -/
def Pc.release (x : Pc) : Pc :=
  let idle : Grant → Bool := fun g => g.queued && !x.waitsFor g
  let l := x.grants.filter idle
  { l.foldl Pc.unbook x with grants := x.grants.filter (fun g => !idle g), issued := x.issued + l.length }

/-- The writes of a queue entry that meet `f` go on the bus in one burst (R270, R278, R279). -/
def startDrain (q k : Nat) (e : WqEntry) (f : QWrite → Bool) (g : Bool) (act start : Nat) (s : State) : State :=
  let l := e.writes.filter f
  let o := overlay l 0
  let b : Burst := { write := true, port := 0, tag := 0, rank := e.rank, layer := k, bank := e.bank, row := e.row, block := e.block,
                     data := o.1, flags := o.2, start := start, act := act, g := g, serials := l.map (·.serial) }
  let s := s.updPc q (fun x => { x with
    wq := x.wq.map (fun y => if y = e then { y with busy := true } else y), bursts := x.bursts ++ [b] })
  chanEvent q 0x42 1 (addWork q k .burst 1 s)

/-- A read burst as it will reach the correction stage: the stored block with the bytes of the queued writes accepted before
the read over it (R218, R277), its flags, and what a CHK from the row latch would answer (R268). -/
def readBurst (q k : Nat) (g : Grant) (part act start : Nat) (s : State) : Burst :=
  let row := s.readRow (rowKey q k g.bank g.row)
  let latch := ((tabGet [] (s.pc q).latches (bankKey k g.bank)).findSome? (fun e => e.filter (fun l => decide (l.1 = g.row)))).map (·.2)
  let b := g.block + part
  let x := row.block b
  let older := ((s.pc q).queued g.rank g.bank g.row b).filter (fun w => decide (w.serial < g.serial))
  let o := overlay older x.1
  let never := neverWritten x
  let flags := if never ∧ o.2 ≠ 0 then 0 else flagsOf x &&& ~~~ o.2
  let chk := if flags = 0 ∨ never then ((0 : Block), (0 : BitVec 64), false) else checkSegment (latch.getD row) b
  { write := false, port := g.port, tag := g.tag, serial := g.serial, part := part, rank := g.rank, layer := k, bank := g.bank,
    row := g.row, block := b, data := if never ∧ o.2 ≠ 0 then (overlay older 0).1 else o.1,
    flags := flags, never := never && decide (o.2 = 0), corr := chk.1, unres := chk.2.1, rowPath := chk.2.2,
    noCorr := g.noCorr, start := start, act := act, g := decide (g.cls = .g) }

/-- The column commands of an access on layer k (R270, R279), the row opened at `act` and the first column command at `c`.
A read promotes the queued writes accepted before it; a write drains its blocks with what was merged into them. -/
def columns (q k : Nat) (g : Grant) (act c : Nat) (s : State) : State :=
  let booked := g.start.isSome
  let step := if booked then g.step else if s.pcShrunk q then 2 else 1
  let isG := decide (g.cls = .g)
  let sent : List (Bool × Nat) → State → State := fun l s =>
    let s := if booked then s else s.updPc q (fun x => x.book false (l.map (fun o => (o.1, c + o.2 - 14))) none)
    s.updSlice q k (fun x => { x with lastCmd := l.foldl (fun m o => max m (c + o.2 - 14)) x.lastCmd })
  if g.op.reads then
    let n := if g.op = .rd128 then 2 else 1
    let older : QWrite → Bool := fun w => decide (w.serial < g.serial)
    let hz := (s.pc q).wq.filter (fun e => decide (e.rank = g.rank) && decide (e.bank = g.bank) && decide (e.row = g.row)
      && decide (g.block ≤ e.block) && decide (e.block < g.block + n) && !e.busy && e.writes.any older)
    let late := if booked then g.promoted else !hz.isEmpty
    let reads := (List.range n).map (fun i =>
      let t := c + (if late then 18 else 14) + step * i
      match g.early.find? (fun e => decide (e.1 = i)) with
      | some (_, b) => { b with start := t, act := act }
      | none => readBurst q k g i act t s)
    let s := (hz.zipIdx).foldl (fun s e => startDrain q k e.1 older isG act (c + 2 + step * e.2) s) s
    let s := sent (columnOffsets true n (if late then max 1 hz.length else 0) step) s
    let s := s.updPc q (fun x => { x with bursts := x.bursts ++ reads }.release)
    let s := if hz = [] then s else chanEvent q 0x47 hz.length s
    chanEvent q 0x41 n (addWork q k .burst n s)
  else
    let es := (s.pc q).wq.filter (fun e => decide (e.rank = g.rank) && decide (e.bank = g.bank) && decide (e.row = g.row)
      && !e.busy && (decide (e.block = g.block) || (decide (g.op = .fill) && e.writes.any (fun w => decide (w.serial = g.serial)))))
    let s := es.foldl (fun s e => startDrain q k e (fun _ => true) isG act (c + 2) s) s
    (if es = [] then s else sent (columnOffsets false 1 0 step) s).updPc q (·.release)

/-- An access to a row at time t. Work without a reservation that finds the row open is served without ACT, its first column
command at t (R275); a G access, or one with a reservation, sends it at t + 14 in any case (R270, R276). The bank is free for
the next ACT after tRC, or after the column command with tRTP or tWR and tRP (R269). -/
def access (q k : Nat) (g : Grant) (t : Nat) (changes : List CellChange) (s : State) : State :=
  let s := s.atLeast t
  let s := if g.cls = .g then pauseRefresh q k g.bank s else s
  match (s.openRow q k g.bank t).filter (fun e => decide (e.1 = g.row)) with
  | some (_, at_) =>
    let c := if g.start.isSome then t + 14 else t
    let free := if g.start.isSome then t + 44 else if g.op.reads then t + 16 else t + 25
    let s := (chanEvent q 0x43 1 s).updPc q (fun x => { x with
      bankFree := tabSet 0 x.bankFree (calKey g.rank g.bank) (max free (tabGet 0 x.bankFree (calKey g.rank g.bank))) })
    columns q k g at_ c (predict q k g.bank g.row at_ s)
  | none =>
    let s := s.updPc q (fun x => { (if g.start.isSome then x else x.book false [] (some (t, some k))) with
      bankFree := tabSet 0 x.bankFree (calKey g.rank g.bank) (t + 44) })
    let s := activate q k g.bank g.row (s.setCells (rowKey q k g.bank g.row) changes)
    columns q k g t (t + 14) (predict q k g.bank g.row t s)

/-- Calendar entries that no interval of R242 can contain any more, and bus slots of the past, are forgotten. -/
def Pc.prune (x : Pc) (now : Nat) : Pc :=
  { x with gStarts := x.gStarts.filter (fun e => decide (now < e.2 + 1100)), slots := x.slots.filter (fun e => decide (now < e.1 + 1100))
           cols := x.cols.filter (fun t => decide (now ≤ t)), rows := x.rows.filter (fun e => decide (now ≤ e.1)) }

/-- A grant issued at time t (R249, R270). -/
def issueGrant (q : Nat) (g : Grant) (t : Nat) (changes : List CellChange) (s : State) : State :=
  let t := max t s.now
  let key := calKey g.rank g.bank
  let s := touch ((s.atLeast t).updPc q (fun x => { x with
    grants := dropFirst (fun y => decide (y = g)) x.grants, issued := x.issued + 1
    lastFloor := match g.cls with
      | .g => x.lastFloor
      | .p => tabSet 0 x.lastFloor (2 * key) t
      | .b => tabSet 0 x.lastFloor (2 * key + 1) t }))
  if (s.pc q).excluded || s.noController (chanOf q) then answerLost g q s
  else match s.layerAt q g.rank g.bank g.row with
    | none => answerLost g q s
    | some k => (access q k g t changes s).updPc q (·.prune s.now)

/-- Hatband level of a waiting grant (R252), with h = T · HATBAND / 256 not rounded. -/
def Grant.level (g : Grant) (now : Nat) : Nat :=
  if g.cls = .b then 0
  else
    let t := 256 * (g.pTarget * 8)
    let h := g.pTarget * 8 * g.hatband
    let a := 256 * (now - g.arrival)
    if a < h then 0 else if t ≤ a then 15 else 1 + 14 * (a - h) / (t - h)

/-- The first element of least value. -/
def leastBy {α : Type} (f : α → Nat) : List α → Option α
  | [] => none
  | a :: t => match leastBy f t with
    | none => some a
    | some b => if f a ≤ f b then some a else some b

/-- The first element that is least by f, and among those by g. -/
def leastBy2 {α : Type} (f g : α → Nat) (l : List α) : Option α :=
  match leastBy f l with
  | some m => leastBy g (l.filter (fun x => decide (f x = f m)))
  | none => none

/-- The floor of a waiting grant's bank and class is due (R242). -/
def Pc.floorDue (x : Pc) (now : Nat) (g : Grant) : Bool :=
  let key := calKey g.rank g.bank
  match g.cls with
  | .p => decide (tabGet 0 x.lastFloor (2 * key) + 440 ≤ now)
  | _ => decide (tabGet 0 x.lastFloor (2 * key + 1) + 2200 ≤ now)

/-- The search of a waiting grant for a start. -/
def State.wantOf (s : State) (q : Nat) (g : Grant) : Want :=
  let step := if s.pcShrunk q then 2 else 1
  let n := if g.op = .rd128 then 2 else 1
  let hz := if g.op.reads then
      ((List.range n).filter (fun i => (s.pc q).wq.any (fun e => decide (e.rank = g.rank) && decide (e.bank = g.bank) && decide (e.row = g.row)
        && decide (e.block = g.block + i) && !e.busy && e.writes.any (fun w => decide (w.serial < g.serial))))).length
    else 0
  { q := q, rank := g.rank, bank := g.bank, row := g.row, g := false, cols := columnOffsets g.op.reads n hz step }

/-- An entry that no burst carries and no waiting grant will drain (R278), or that awaits its retry (R283). -/
def Pc.owed (x : Pc) (e : WqEntry) : Bool :=
  !e.busy && (e.retry || e.writes.all (fun w => !x.grants.any (fun g => g.queued && decide (g.serial = w.serial))))

/-- The drain of such an entry as a piece of work of its own. -/
def WqEntry.work (e : WqEntry) : Grant :=
  { port := 0, tag := 0, op := .wrm64, cls := .b, rank := e.rank, bank := e.bank, row := e.row, block := e.block }

/-- A piece of work of the controller, with its start. -/
inductive NextWork where
  | grant (g : Grant) (t : Nat)
  | retry (e : WqEntry) (t : Nat)
  | none
deriving DecidableEq, Repr

/-- The start of a piece of work. -/
def NextWork.time : NextWork → Nat
  | .grant _ t => t
  | .retry _ t => t
  | .none => 0

/-- The choice of the controller (R247, R252, R272): G work whose start has come, write retries, the P floor, the B floor,
then leftover, reservations against a deadline first; with nothing for this tick, what can start first. -/
def State.nextWork (s : State) (q : Nat) : NextWork :=
  let x := s.pc q
  let due : Bool → Option Grant := fun g =>
    leastBy2 (fun y => y.start.getD 0) (·.serial) (x.grants.filter (fun y => decide (y.cls = .g) == g && y.start.any (fun t => decide (t ≤ s.now))))
  let lost : Grant → Bool := fun g => s.lostAt { rank := g.rank, q := q, bank := g.bank, row := g.row, block := 0 }
  let canNow : Grant → Bool := fun g => decide (s.search (s.wantOf q g) 1 = some s.now) || lost g
  let ready := x.grants.filter (fun g => g.start.isNone && canNow g)
  let floor : Cls → Option Grant := fun c =>
    leastBy (·.serial) (ready.filter (fun g => decide (g.cls = c) && x.floorDue s.now g))
  let retries := x.wq.filter x.owed
  match due true with
  | some g => .grant g s.now
  | none =>
    match retries.find? (fun e => canNow e.work) with
    | some e => .retry e s.now
    | none =>
      match ((floor .p).or (floor .b)).or (due false) with
      | some g => .grant g s.now
      | none =>
        match leastBy2 (fun g => 2 * (15 - g.level s.now) + (if g.cls = .p then 0 else 1)) (·.arrival) ready with
        | some g => .grant g s.now
        | none =>
          (leastBy NextWork.time (x.grants.filterMap (fun g =>
              (g.start.or (s.search (s.wantOf q g) 1024)).map (NextWork.grant g))
            ++ retries.filterMap (fun e => (s.search (s.wantOf q e.work) 1024).map (NextWork.retry e)))).getD .none

/-- ACTIVATION_ISSUE (R270, R272, R278, R283). `changes` are cells of the row that the physics changed since it was last
open. -/
def execActivationIssue (q : PcId) (changes : List CellChange) (s : State) : Host.Outcome State Fault Refusal :=
  match s.nextWork q.val with
  | .none => .next s
  | .grant g t => .next (shutdownAdvance (issueGrant q.val g t changes s))
  | .retry e t =>
    match s.layerAt q.val e.rank e.bank e.row with
    | none => .next (s.updPc q.val (fun x => { x with wq := dropFirst (fun y => decide (y = e)) x.wq }))
    | some k =>
      let s := s.updPc q.val (fun x => { x with mg := { x.mg with useHbx := x.mg.useHbx + 1 } })
      .next ((access q.val k e.work t changes (chanEvent q.val 0x4A 1 s)).updPc q.val (·.prune s.now))

/-- A G activation of a bank of slice (q, k) is booked with a start that meets f (R281). -/
def State.gAhead (s : State) (q k b : Nat) (f : Nat → Bool) : Bool :=
  (s.pc q).grants.any (fun g => decide (g.cls = .g) && decide (g.bank = b)
    && decide (s.layerAt q g.rank g.bank g.row = some k) && g.start.any f)

/-- PAUSE (R281): only ahead of a booked G activation of the bank that starts before the REFPB ends, and at least 10 ns
before it. -/
def execPause (q : PcId) (k : LayerId) (b : BankId) (s : State) : Host.Outcome State Fault Refusal :=
  match (s.pc q.val).rf.refRun.find? (fun e => decide (e.1 = bankKey k.val b.val)) with
  | some (_, r) =>
    .next (if s.gAhead q.val k.val b.val (fun t => decide (s.now + 10 ≤ t) && decide (t < r.start + 44)) then
      pauseRefresh q.val k.val b.val s else s)
  | none => .next s

/-! ## The end of a read (R283, R284, R301 to R305) -/

/-- The first element that meets f, with the rest. -/
def takeFirst {α : Type} (f : α → Bool) (l : List α) : Option (α × List α) :=
  match l.find? f with
  | some a => some (a, dropFirst f l)
  | none => none

/-- A fault-log record of a block (RECORD 0x2, R427). -/
def blockRecord (src : Nat) (d : EventDetail) (s : State) : State :=
  logRecord src (s.srcClass src) false false 2 (detailOf src d) s

/-- CH_LAST_UE (R316). -/
def lastUe (q k b row block : Nat) (s : State) : State :=
  s.updChan (chanOf q) (fun c => { c with lastUe := packW [(1, 1), (q % 2, 1), (k, 5), (b, 4), (row, 14), (block, 4)] })

/-- The data-bus slot at time t, if a burst other than G holds it, freed: that burst moves to the next free slot (R272, R283). -/
def Pc.clearSlot (x : Pc) (t : Nat) : Pc :=
  if x.slots.contains (t, false) then
    let u := ((List.range 64).find? (fun d => x.slots.all (fun e => decide (e.1 ≠ t + 1 + d)))).elim (t + 64) (fun d => t + 1 + d)
    { x with slots := dropFirst (fun e => decide (e = (t, false))) x.slots ++ [(u, false)]
             bursts := x.bursts.map (fun b => if b.start = t ∧ !b.g then { b with start := u } else b) }
  else x

/-- A burst sent again no earlier than t (R283): it takes the next slot that holds no G burst and displaces any other. -/
def Pc.resend (x : Pc) (b : Burst) (t : Nat) : Pc × Burst :=
  let u := ((List.range 64).find? (fun d => !x.slots.contains (t + d, true))).elim t (fun d => t + d)
  let x := x.clearSlot u
  ({ x with slots := dropFirst (fun e => decide (e = (b.start, b.g))) x.slots ++ [(u, b.g)] }, { b with start := u })

/-- A read burst whose first transfer failed is sent again behind its slot (R283): the burst as it stands then. -/
def readResent (q : Nat) (x : BurstXfer) (b : Burst) (s : State) : State × Burst :=
  match x with
  | .clean => (s, b)
  | _ =>
    let r := (s.pc q).resend b (b.start + 5)
    (chanEvent q 0x48 1 (s.updPc q (fun _ => r.1)), r.2)

/-- The transfer of a read in the counters of its channel (R283, R284). -/
def countTransfer (q : Nat) (x : BurstXfer) (s : State) : State :=
  let n := chanOf q
  match x with
  | .clean => s
  | .retried => s.updChan n (fun c => { c with rtRead := satInc c.rtRead })
  | .failed _ => fault (srcTsv n) (pcDetail q) (s.updChan n (fun c => { c with rfBeat := satInc c.rfBeat }))

/-- The bytes of a read burst that its transfer lost: those that older queued writes replace are none of them (R280, R284). -/
def State.lostBytes (q : Nat) (x : BurstXfer) (b : Burst) (s : State) : BitVec 64 :=
  let held := (s.pc q).wq.filter (fun e => e.under b && e.retry && !e.busy)
  let replaced := (overlay ((held.flatMap (·.writes)).filter (fun w => decide (w.serial < b.serial))) 0).2
  match x with | .failed m => m &&& ~~~ replaced | _ => 0

/-- A read burst landed with these bytes lost: its response is queued, or the CHK follows (R284, R303, R304). -/
def readLanded (q : Nat) (b : Burst) (xfer : BitVec 64) (s : State) : State :=
  let stray := Config.strayBlock s.choice
  let data := if xfer = 0 then b.data else blockOf (fun j => if xfer.getLsbD j then byteOf stray j else byteOf b.data j)
  let s := if xfer = 0 then s else { s with choice := s.choice + 1 }
  if b.never then
    deliver b.port b.tag b.serial b.part .poison 0 (s.updPort b.port (fun p => { p with poisonNever := satInc p.poisonNever }))
  else if b.flags &&& ~~~ xfer = 0 then
    deliver b.port b.tag b.serial b.part (if xfer = 0 then .ok else .poison) data s
  else
    -- the CHK: its burst takes the next slot with no G burst from two ticks on (R304)
    let s := s.updPc q (fun y =>
      let c := y.resend { b with chk := true, xfer := xfer, data := data } (b.start + 10)
      { c.1 with bursts := c.1.bursts ++ [c.2] })
    chanEvent q 0x46 1 (addWork q b.layer .chk 1 s)

/-- READ_BURST_RETURN (R20, R280, R283, R284, R301, R314): the oldest read burst reaches the correction stage, 8 ns after its
start; a burst in error was sent again by RETX. A byte that a queued write reported in error replaces needs nothing of the
transfer. -/
def execReadBurstReturn (q : PcId) (x : BurstXfer) (s : State) : Host.Outcome State Fault Refusal :=
  match takeFirst (fun b => !b.write && !b.chk) (s.pc q.val).bursts with
  | none => .next s
  | some (b, rest) =>
    let s := s.updPc q.val (fun y => { y with bursts := rest })
    if s.noController (chanOf q.val) then .next (deliver b.port b.tag b.serial b.part .poison 0 (countLost q.val s))
    else
      let r := readResent q.val x b s
      let s := countTransfer q.val x (r.1.atLeast (r.2.start + 8))
      .next (readLanded q.val r.2 (s.lostBytes q.val x r.2) s)

/-- CHK_RESULT (R303, R305). -/
def execChkResult (q : PcId) (s : State) : Host.Outcome State Fault Refusal :=
  match takeFirst (fun b => !b.write && b.chk) (s.pc q.val).bursts with
  | none => .next s
  | some (b, rest) =>
    let n := chanOf q.val
    let s := (s.atLeast (b.start + 8)).updPc q.val (fun y => { y with bursts := rest })
    if s.noController n then .next (deliver b.port b.tag b.serial b.part .poison 0 (countLost q.val s)) else
    let live := b.flags &&& ~~~ b.xfer
    let bad := live &&& b.unres
    let fixed := live &&& ~~~ b.unres
    let data := blockOf (fun j => if fixed.getLsbD j then byteOf b.data j ^^^ byteOf b.corr j else byteOf b.data j)
    let poison := decide (bad ≠ 0) || decide (b.xfer ≠ 0)
    let d : EventDetail := { rowDetail q.val b.layer b.bank b.row with
      port := some (Fin.ofNat 16 b.port), tag := BitVec.ofNat 10 b.tag, block := BitVec.ofNat 4 b.block }
    let row := s.readRow (rowKey q.val b.layer b.bank b.row)
    let f := row.finding row.errors
    let s := postHat q.val b.layer { kind := if bad = 0 then 1 else 2, src := true, bank := b.bank, row := b.row,
                                     block := f.block, count := f.count, ret := f.ret } s
    let s := if bad ≠ 0 then
        let s := s.updPort b.port (fun p => { p with poisonData := satInc p.poisonData })
        let s := lastUe q.val b.layer b.bank b.row b.block (s.updChan n (fun c => { c with poisoned := satInc c.poisoned }))
        fault (srcUncorr n) d (blockRecord (srcUncorr n) d s)
      else if poison then s
      else
        let s := s.updChan n (fun c => { c with corrReads := satInc c.corrReads,
                                                corrRow := if b.rowPath then satInc c.corrRow else c.corrRow })
        fault (srcCorr n) d (if b.noCorr then pmcCount b.port 0x10 1 s else s)
    .next (deliver b.port b.tag b.serial b.part
      (if poison then .poison else if b.noCorr then .ok else .okCorrected) data s)

/-! ## The end of a write (R278, R283, R284) -/

/-- Write bursts of one drain: those that start with the oldest one (one WRREP writes several blocks, R267). -/
def Pc.drainOf (x : Pc) : List Burst :=
  match x.bursts.find? (·.write) with
  | some b => x.bursts.filter (fun y => y.write && decide (y.start = b.start) && decide (y.row = b.row) && decide (y.bank = b.bank))
  | none => []

/-- Waiting reads accepted before some of the writes that a burst carries keep the block as it stands (R218, R277). -/
def keepEarly (q : Nat) (b : Burst) (s : State) : State :=
  let newest := b.serials.foldl max 0
  let keep : Grant → Grant := fun g =>
    let part := b.block - g.block
    if g.op.reads ∧ g.serial < newest ∧ g.rank = b.rank ∧ g.bank = b.bank ∧ g.row = b.row ∧ g.block ≤ b.block
        ∧ part < (if g.op = .rd128 then 2 else 1) ∧ g.early.all (fun e => decide (e.1 ≠ part)) then
      { g with early := g.early ++ [(part, readBurst q b.layer g part 0 0 s)] } else g
  s.updPc q (fun x => { x with grants := x.grants.map keep })

/-- A write burst has ended: the writes it carried leave the queue, an entry left empty with them. -/
def Pc.drained (x : Pc) (b : Burst) : Pc :=
  { x with
    bursts := dropFirst (fun y => decide (y = b)) x.bursts
    wq := (x.wq.map (fun e => if e.drainedBy b then
      { e with busy := false, retry := false, writes := e.writes.filter (fun w => !b.serials.contains w.serial) } else e)).filter
        (fun e => !e.writes.isEmpty) }

/-- A write burst was discarded: its entry stays queued and awaits its retry (R280, R283, R284). -/
def Pc.discarded (x : Pc) (b : Burst) : Pc :=
  { x with bursts := dropFirst (fun y => decide (y = b)) x.bursts
           wq := x.wq.map (fun e => if e.drainedBy b then { e with busy := false, retry := true } else e) }

/-- WRITE_DRAIN_COMPLETE (R278, R298 to R300): the burst's bytes are stored, its writes leave the queue. -/
def execWriteDrainComplete (q : PcId) (s : State) : Host.Outcome State Fault Refusal :=
  let l := (s.pc q.val).drainOf
  let n := chanOf q.val
  .next (shutdownAdvance (touch (forL l (fun b s =>
    let s := s.atLeast (b.start + 4)
    let again := (s.pc q.val).wq.any (fun e => e.drainedBy b && e.retry)
    let s := (keepEarly q.val b s).updPc q.val (·.drained b)
    let s := if again then chanEvent q.val 0x48 1 (s.updChan n (fun c => { c with rtWrite := satInc c.rtWrite })) else s
    let r := s.writeBlock (rowKey q.val b.layer b.bank b.row) b.block b.flags b.data
    postOverwrite q.val b.layer b.bank b.row r.2 r.1) s)))

/-- WRITE_ERROR_REPORT (R283, R284): the slice discards the burst; the entry waits for its retry. -/
def execWriteErrorReport (q : PcId) (s : State) : Host.Outcome State Fault Refusal :=
  let l := (s.pc q.val).drainOf
  if l = [] then .next s
  else
    let n := chanOf q.val
    let again := l.any (fun b => (s.pc q.val).wq.any (fun e => e.drainedBy b && e.retry))
    let s := forL l (fun b s => (s.atLeast (b.start + 4)).updPc q.val (·.discarded b)) s
    if again then
      let s := chanEvent q.val 0x48 1 (s.updChan n (fun c => { c with rfBeat := satInc c.rfBeat }))
      .next (fault (srcTsv n) (pcDetail q.val) s)
    else .next s

/-! ## Command parity (R283, R284) -/

/-- A command ignored for its parity, issued again: counted by its bus. -/
def reissue (n : Nat) (column : Bool) (s : State) : State :=
  pmcCount (16 + n) 0x48 1 (s.updChan n (fun c => if column then { c with rtColumn := satInc c.rtColumn } else { c with rtRow := satInc c.rtRow }))

/-- What every command that failed `before` times already does at one more report: counted in CH_RETRY, at the second failure
also as a command that failed twice, with one event; at the third as a third failure, and not issued again. -/
def parityReport (q : Nat) (column : Bool) (before : Nat) (s : State) : State :=
  let n := chanOf q
  match before with
  | 0 => reissue n column s
  | 1 => fault (srcParity n) (pcDetail q) (reissue n column (s.updChan n (fun c => { c with rfCommand := satInc c.rfCommand })))
  | _ => s.updChan n (fun c => { c with rfThird := satInc c.rfThird })

/-- A burst whose command failed a third time: a read is answered POISON with bytes the spec leaves open, a write stays
queued (R284). -/
def dropBurst (q : Nat) (b : Burst) (s : State) : State :=
  let s := s.updPc q (·.discarded b)
  if b.write then s
  else deliver b.port b.tag b.serial b.part .poison (Config.strayBlock s.choice) { s with choice := s.choice + 1 }

/-- A burst one tick later, in the next slot without a G burst. -/
def laterBurst (q : Nat) (b : Burst) (s : State) : State :=
  s.updPc q (fun x =>
    let r := x.resend b (b.start + 1)
    { r.1 with bursts := r.1.bursts.map (fun y => if y = b then r.2 else y) })

/-- COMMAND_PARITY_REPORT (R283, R284): the command is issued again, up to a third time. A column command moves its burst; an
ACT moves its bank and every burst of its activation, and at the third failure ends them all; a REFPB that failed three times
leaves its row unrefreshed. -/
def execCommandParityReport (q : PcId) (c : CmdRef) (s : State) : Host.Outcome State Fault Refusal :=
  match c with
  | .column =>
    match (s.pc q.val).bursts with
    | [] => .next (parityReport q.val true 0 s)
    | b :: _ =>
      let s := parityReport q.val true b.cmdErrors s
      if 2 ≤ b.cmdErrors then .next (dropBurst q.val b s)
      else
        let b' := { b with cmdErrors := b.cmdErrors + 1 }
        .next (laterBurst q.val b' (s.updPc q.val (fun x => { x with bursts := x.bursts.map (fun y => if y = b then b' else y) })))
  | .row =>
    match (s.pc q.val).bursts with
    | [] => .next (parityReport q.val false 0 s)
    | b :: _ =>
      let same : Burst → Bool := fun y => decide (y.rank = b.rank) && decide (y.bank = b.bank) && decide (y.row = b.row) && decide (y.act = b.act)
      let s := parityReport q.val false b.actErrors s
      if 2 ≤ b.actErrors then .next (forL ((s.pc q.val).bursts.filter same) (dropBurst q.val) s)
      else
        let key := calKey b.rank b.bank
        let s := s.updPc q.val (fun x => { x with
          bankFree := tabSet 0 x.bankFree key (tabGet 0 x.bankFree key + 1)
          bursts := x.bursts.map (fun y => if same y then { y with actErrors := y.actErrors + 1 } else y) })
        .next (forL ((s.pc q.val).bursts.filter same) (laterBurst q.val) s)
  | .refresh k b =>
    let key := bankKey k.val b.val
    match (s.pc q.val).rf.refRun.find? (fun e => decide (e.1 = key)) with
    | none => .next (parityReport q.val false 0 s)
    | some (_, r) =>
      .next ((parityReport q.val false r.errors s).updPc q.val (fun x =>
        let rest := tabErase x.rf.refRun key
        { x with rf.refRun := if 2 ≤ r.errors then rest else tabPut rest key { r with start := r.start + 1, errors := r.errors + 1 } }))
  | .engine =>
    let e := (s.pc q.val).engErrors
    .next ((parityReport q.val false e s).updPc q.val (fun x => { x with engErrors := if 2 ≤ e then 0 else e + 1 }))

/-! ## Rows, power-down -/

/-- ROW_CLOSE_TIMEOUT (R275). -/
def execRowCloseTimeout (q : PcId) (k : LayerId) (b : BankId) (s : State) : Host.Outcome State Fault Refusal :=
  let key := bankKey k.val b.val
  match (s.pc q.val).openRows.find? (fun e => decide (e.1 = key)) with
  | some (_, _, at_) =>
    .next ((s.atLeast (at_ + 1000)).updPc q.val (fun x => { x with openRows := tabErase x.openRows key }))
  | none => .next s

/-- SLICE_POWER_DOWN (R273). -/
def execSlicePowerDown (q : PcId) (k : LayerId) (s : State) : Host.Outcome State Fault Refusal :=
  let x := s.slice q.val k.val
  let y := s.pc q.val
  let t := max s.now (x.lastCmd + (s.pwr.timersAt x.lastCmd).rankPd.toNat)
  let isOpen := (List.range 16).any (fun b => (s.openRow q.val k.val b t).isSome)
  let soon := y.grants.any (fun g => decide (s.layerAt q.val g.rank g.bank g.row = some k.val)
    && g.start.any (fun u => decide (u < t + 16)))
  if x.inUse ∧ !x.powerDown ∧ !x.selfRefresh ∧ !isOpen ∧ !soon then
    .next (((s.atLeast t).updSlice q.val k.val (fun x => { x with powerDown := true, pdAt := t })).updChan (chanOf q.val)
      (fun c => { c with pdCount := satInc c.pdCount }))
  else .next s

/-! ## Eye calibration (R286, R287, R289) -/

/-- Receivers of an item of a recalibration (R286, R289). -/
def receivers (item : Nat) : List Nat :=
  if item < 64 then [item]
  else if item < 72 then [item, item + 8]
  else if item < 76 then [item + 9]
  else match item with
    | 76 => [85, 80] | 77 => [86, 87] | 78 => [88] | _ => [89]

/-- How far a slice's temperature has moved since its last calibration, 0.25 °C. -/
def State.calMove (s : State) (q k : Nat) : Nat :=
  match (match (s.slice q k).restTemp with | some t => some t | none => (s.slice q k).calTemp) with
  | some t => ((s.layer k).temp - t.val).natAbs
  | none => 0

/-- The slices of q that are due by temperature join the queue (R287). -/
def calDue (q : Nat) (s : State) : State :=
  let due := (List.range 18).filter (fun k => (s.slice q k).inUse && decide (4 * s.thm.calDelta.toNat < s.calMove q k)
    && decide ((s.pc q).cal.map (·.1) ≠ some k) && !(s.pc q).calQueue.contains k)
  if due = [] then s else s.updPc q (fun x => { x with calQueue := x.calQueue ++ due })

/-- The next recalibration of q starts if none runs: the largest change first, the lower layer of equals (R287). -/
def calNext (q : Nat) (s : State) : State :=
  let x := s.pc q
  if x.cal.isSome then s
  else match leastBy (fun k => 1048576 * (4096 - min 4095 (s.calMove q k)) + k) x.calQueue with
    | none => s
    | some k =>
      let t : Temp := BitVec.ofInt 11 (s.layer k).temp
      (s.updPc q (fun x => { x with cal := some (k, 0), calQueue := x.calQueue.filter (fun j => decide (j ≠ k)),
                                    calForced := x.calForced.filter (fun j => decide (j ≠ k)) })).updSlice q k
        (fun y => { y with calTemp := some t, restTemp := none })

/-- The start of the next micro-step: 800 ns after the last one, in the next window of 8 slots that no G burst has booked
(R242, R247, R286). -/
def State.calStart (s : State) (q : Nat) : Nat :=
  let x := s.pc q
  let t := max s.now (match x.calLast with | some u => u + 800 | none => 0)
  let gs := (x.slots.filter (·.2)).map (·.1)
  ((List.range 2048).find? (fun d => gs.all (fun u => decide (u < t + d) || decide (t + d + 8 ≤ u)))).elim (t + 2048) (fun d => t + d)

/-- CAL_MICRO_STEP (R39, R242, R247, R286, R287, R289). -/
def execCalMicroStep (q : PcId) (r : CalStep) (s : State) : Host.Outcome State Fault Refusal :=
  if !s.channelsRun ∨ (s.pc q.val).excluded ∨ s.noController (chanOf q.val) then .next s else
  let s := calNext q.val s
  match (s.pc q.val).cal with
  | none => .next s
  | some (k, i) =>
    let n := chanOf q.val
    let t := s.calStart q.val
    let s := (s.atLeast t).updPc q.val (fun x =>
      let x := (List.range 8).foldl (fun x d => x.clearSlot (t + d)) x
      { x with slots := x.slots ++ (List.range 8).map (fun d => (t + d, false)), rows := x.rows ++ [(t, none)]
               calLast := some t, engErrors := 0 })
    let s := s.updSlice q.val k (fun x => { x with
      settings := (receivers i).foldl (fun t j => tabSet 0 t j r.setting) x.settings, powerDown := false, lastCmd := s.now })
    let s := chanEvent q.val 0x49 1 s
    let s := if r.eye then s else fault (srcTsv n) (pcDetail q.val) s
    if i < 79 then .next (s.updPc q.val (fun x => { x with cal := some (k, i + 1) }))
    else
      let s := s.updPc q.val (fun x => { x with cal := none })
      let due := match (s.pc q.val).trainedAt with | some t => decide (t + 600000000000 ≤ s.now) | none => true
      let s := if due then queueRecord (s.trainingRecord q.val) (s.updPc q.val (fun x => { x with trainedAt := some s.now })) else s
      .next (calNext q.val (calDue q.val s))

/-- CH_CAL_CTRL.GO (R292): a powered, fitted layer is queued as if due. -/
def doRecal (q k : Nat) (s : State) : State :=
  if k < 18 ∧ s.fitted k ∧ (s.layer k).powered ∧ (s.slice q k).inUse then
    calNext q (s.updPc q (fun x => if x.calQueue.contains k then x
      else { x with calQueue := x.calQueue ++ [k], calForced := x.calForced ++ [k] }))
  else s

/-- CH_PRED_CTRL.RESET (R292): every predictor counter of the channel is 1. -/
def doPredReset (n : Nat) (s : State) : State :=
  (s.updPc (2 * n) (fun x => { x with pred := [] })).updPc (2 * n + 1) (fun x => { x with pred := [] })

end Sys2Proof.Machine
end

