-- ==== Sys2Proof/Machine/Refresh.lean ====
section
/-! DEFINITION. Refresh, retention and row-activation management (chapter 12), and the hatboxes with their service (chapter 11). -/

namespace Sys2Proof.Machine

/-! ## Intervals (R317 to R320) -/

/-- The base interval after one sample (R317): a step of at most one. -/
def nextBase (code : Nat) (t : Int) : Nat :=
  match code with
  | 0 => if degC 43 ≤ t then 1 else 0
  | 1 => if degC 83 ≤ t then 2 else if t < degC 40 then 0 else 1
  | 2 => if degC 93 ≤ t then 3 else if t < degC 80 then 1 else 2
  | _ => if t < degC 90 then 2 else 3

/-- The first base interval, by the rising thresholds (R317). -/
def firstBaseOf (t : Int) : Nat := if degC 93 ≤ t then 3 else if degC 83 ≤ t then 2 else if degC 43 ≤ t then 1 else 0

/-- The bin in force of a subarray (R318): the faster of the manufacture bin and the field entries. -/
def Slice.bin (x : Slice) (b sub : Nat) : Nat :=
  let m := (tabGet 0 x.binsMan (b * 32 + sub)).toNat
  let f := tabGet 0 x.binsField (b * 32 + sub)
  if f = 0 then m else min m (f - 1)

/-- The bin of a row, that of its spare's subarray included (R341). -/
def State.rowBin (s : State) (q k b row : Nat) : Nat :=
  let x := s.slice q k
  match s.spareAt q k b row with
  | some sp => min (x.bin b (row / 512)) (x.bin b sp.index)
  | none => x.bin b (row / 512)

/-- The due time of a row (R319, R320, R328): its last whole REFPB plus its interval; before the first one after a
self-refresh, one walk period after the walk passed it; before the first one of all, spread over the first interval in row
order. -/
def State.rowDue (s : State) (q k b row : Nat) : Nat :=
  let v := tabGet 0 (s.pc q).rf.refDone (pcRowKey k b row)
  let bin := s.rowBin q k b row
  if v ≠ 0 then v / 4 + intervalNs (v % 4) bin
  else match (s.slice q k).walk with
    | some (t, w, c) => t + intervalNs (max c (s.slice q k).firstBase) 0 * (16384 - (w + 16384 - row) % 16384) / 16384
    | none => (s.slice q k).refStart + intervalNs (s.slice q k).firstBase bin * (row + 1) / 16384

/-- A bank of slice (q, k) is refreshed: not the mapped-out or retired bank of its own rank (R344). -/
def State.bankRefreshed (s : State) (q k b : Nat) : Bool :=
  match s.rankOn q k with
  | some r => decide (s.bankEnt q r b = .own)
  | none => true

/-- The rows of a bank among which its earliest due one is (R319): those refreshed since, those served by a spare, and of each
subarray the first one not yet refreshed, in row order and beyond the walk of the last self-refresh. -/
def State.frontRows (s : State) (q k b : Nat) : List Nat :=
  let x := s.pc q
  let fresh : Nat → Option Nat := fun from_ => (List.range 512).findSome? (fun i =>
    let r := from_ + i
    if r / 512 = from_ / 512 ∧ tabGet 0 x.rf.refDone (pcRowKey k b r) = 0 then some r else none)
  (x.rf.refDone.filter (fun e => decide (e.1 / 16384 = 16 * k + b))).map (fun e => e.1 % 16384)
  ++ ((s.slice q k).spares.filter (fun sp => decide (sp.bank = b))).map (·.row)
  ++ (List.range 32).filterMap (fun sub => fresh (512 * sub))
  ++ (match (s.slice q k).walk with | some (_, w, _) => (fresh (w + 1)).toList | none => [])

/-- A row of slice (q, k) is overdue (R320). -/
def State.overdue (s : State) (q k : Nat) : Bool :=
  (List.range 16).any (fun b => s.bankRefreshed q k b && (s.frontRows q k b).any (fun r => decide (s.rowDue q k b r < s.now)))

/-- No row of the bank is due before this one (R319). -/
def State.earliestDue (s : State) (q k b row : Nat) : Bool :=
  (s.frontRows q k b).all (fun r => decide (s.rowDue q k b row ≤ s.rowDue q k b r))

/-- CATCH_UP of a slice set where a row is overdue (R320). -/
def markCatchUp (q k : Nat) (s : State) : State :=
  if (s.slice q k).inUse ∧ s.overdue q k then s.updSlice q k (fun x => { x with catchUp := true }) else s

/-- A base interval taken by layer k (R317, R320): shorter ones bind at once, longer ones from each row's next REFPB. -/
def setBase (k code : Nat) (s : State) : State :=
  let shorter := decide ((s.layer k).base < code)
  let s := s.updLayer k (fun x => { x with base := code })
  if shorter then
    forN 32 (fun q s =>
      if (s.slice q k).inUse then
        let s := s.updPc q (fun x => { x with rf.refDone := x.rf.refDone.map (fun e =>
          if e.1 / 262144 = k then (e.1, e.2 / 4 * 4 + max (e.2 % 4) code) else e) })
        markCatchUp q k (s.updSlice q k (fun x => { x with firstBase := max x.firstBase code }))
      else s) s
  else s

/-- Refresh of slice (q, k) begins with every row fresh (R313, R319): no row has a last REFPB, counts are 0 (R323). -/
def beginRefresh (q k : Nat) (s : State) : State :=
  let other : (Nat × Nat) → Bool := fun e => decide (e.1 / 262144 ≠ k)
  let s := s.updPc q (fun x => { x with rf := { x.rf with
    refDone := x.rf.refDone.filter other, actCount := x.rf.actCount.filter other, pauses := x.rf.pauses.filter other } })
  s.updSlice q k (fun x => { x with
    inUse := true, refStart := s.now, firstBase := (s.layer k).base, catchUp := false, selfRefresh := false, walk := none,
    powerDown := false, lastCmd := s.now, hatbox := [], hatDropped := false, hatPending := [], unread := 0 })

/-- The array set of slice (q, k) (R313): contents never written, refresh begun, the flag until ARRAY_SET_DONE. -/
def arraySet (q k : Nat) (s : State) : State :=
  (beginRefresh q k (eraseSlices (fun i => decide (i = q * 18 + k)) s)).updSlice q k (fun x => { x with arraySet := true })

/-! ## REFPB (R281, R282, R307, R319, R325) -/

/-- The first time from t on at which no booked start of the bank overlaps an activation cycle (R247, R281). -/
def freeFrom : Nat → List Nat → Nat → Nat
  | 0, _, t => t
  | n + 1, l, t =>
    match l.find? (fun b => decide (b < t + 44) && decide (t < b + 44)) with
    | some b => freeFrom n l (b + 44)
    | none => t

/-- When the engine's next command to a bank of slice (q, k) can start: the bank free and precharged, no REFPB in progress,
the slice out of power-down (R269, R273), no booked activation in the way (R247), a row-bus slot free (R272). -/
def State.refreshStart (s : State) (q k b : Nat) : Nat :=
  let x := s.pc q
  let ready := (s.ranksAt q k).foldl (fun t r => max t (tabGet 0 x.bankFree (calKey r b))) (s.sliceReady q k)
  let ready := if (s.openRow q k b s.now).isSome then max ready (s.now + 14) else ready
  let ready := match x.rf.refRun.find? (fun e => decide (e.1 = bankKey k b)) with | some (_, r) => max ready (r.start + 44) | none => ready
  let booked := x.grants.filterMap (fun g =>
    if g.bank = b ∧ s.layerAt q g.rank g.bank g.row = some k then g.start else none)
  let t := freeFrom (booked.length + 1) booked ready
  ((List.range 64).find? (fun d => x.rowFree none (t + d))).elim t (fun d => t + d)

/-- Slice (q, k) is refreshed: by itself in self-refresh, else by its engine while that runs (R20, R39, R95, R329). -/
def State.refreshes (s : State) (q k : Nat) : Bool :=
  (s.slice q k).inUse && ((s.slice q k).selfRefresh || (s.channelsRun && !(s.pc q).excluded && !s.noController (chanOf q)))

/-- REFRESH_ISSUE (R273, R281, R282, R319, R325). Neighbour refreshes owed to a bank go ahead of its other REFPBs, and of
those the earliest due row goes first. A REFPB of a row paused twice, or for a refresh-management request, is protected and
counts so. -/
def execRefreshIssue (q : PcId) (k : LayerId) (b : BankId) (row : RowId) (kind : RefKind) (s : State) :
    Host.Outcome State Fault Refusal :=
  let x := s.pc q.val
  let key := bankKey k.val b.val
  let owed := x.rf.rfmDue.find? (fun e => decide (e.1 = key))
  let fits : Bool := match kind with
    | .normal => owed.isNone && ((s.slice q.val k.val).selfRefresh || s.earliestDue q.val k.val b.val row.val)
    | _ => decide (owed = some (key, row.val, kind))
  if s.refreshes q.val k.val ∧ s.bankRefreshed q.val k.val b.val ∧ x.rf.refRun.all (fun e => decide (e.1 ≠ key)) ∧ fits then
    let t := s.refreshStart q.val k.val b.val
    let protect := decide (kind ≠ .normal) || decide (2 ≤ tabGet 0 x.rf.pauses (pcRowKey k.val b.val row.val))
    let s := (s.atLeast t).updPc q.val (fun x => { x with
      rf := { x.rf with
        refRun := tabPut x.rf.refRun key { row := row.val, kind := kind, protect := protect, start := t }
        rfmDue := if kind = .normal then x.rf.rfmDue else dropFirst (fun e => decide (e = (key, row.val, kind))) x.rf.rfmDue }
      openRows := tabErase x.openRows key
      rows := x.rows ++ [(t, none)]
      latches := tabSet [] x.latches key (none :: (tabGet [] x.latches key).take 1) })
    let s := s.updSlice q.val k.val (fun x => { x with powerDown := false, lastCmd := t })
    .next (if protect then s.updChan (chanOf q.val) (fun c => { c with protected_ := satInc c.protected_ }) else s)
  else .next s

/-- The row that a neighbour refresh opens (R325, R341): none at an edge. -/
def State.neighbourRow (s : State) (q k b row : Nat) (upper : Bool) : Option Nat :=
  let sub := match s.spareAt q k b row with | some sp => sp.index | none => row / 512
  (Config.neighbour q k b sub row upper).map (fun i => 512 * sub + i.val)

/-- The check of a refreshed row (R307): the cuff word repaired, or a finding posted with SRC 0. -/
def refreshCheck (q k b row : Nat) (s : State) : State :=
  let key := rowKey q k b row
  match (s.readRow key).check with
  | none => s
  | some f =>
    let s := if f.kind = 3 then s.storeCuff key f.cuff else s
    postHat q k { kind := BitVec.ofNat 3 f.kind, bank := b, row := row, block := f.block, count := f.count, ret := f.ret } s

/-- A whole REFPB of a row of the schedule (R319): lateness, margin, the next due time. -/
def refreshed (q k b row : Nat) (s : State) : State :=
  let n := chanOf q
  let due := s.rowDue q k b row
  let late := decide (due < s.now)
  let s := s.updPc q (fun x => { x with rf := { x.rf with
    refDone := tabSet 0 x.rf.refDone (pcRowKey k b row) (4 * s.now + (s.layer k).base)
    pauses := tabErase x.rf.pauses (pcRowKey k b row) } })
  let s := if (s.slice q k).catchUp ∧ !s.overdue q k then s.updSlice q k (fun x => { x with catchUp := false }) else s
  if (s.slice q k).selfRefresh then s
  else
    let s := s.updChan n (fun c => { c with
      minSlack := if late then 0 else satOf 16 (min c.minSlack.toNat ((due - s.now) / 1000)) })
    if late then fault (srcWatchdog n) (rowDetail q k b row) s else s

/-- REFRESH_COMPLETE (R281, R307, R319, R325). A REFPB with a booked G activation of its bank ahead of its end has been
paused. -/
def execRefreshComplete (q : PcId) (k : LayerId) (b : BankId) (changes : List CellChange) (s : State) :
    Host.Outcome State Fault Refusal :=
  let key := bankKey k.val b.val
  match (s.pc q.val).rf.refRun.find? (fun e => decide (e.1 = key)) with
  | none => .next s
  | some (_, r) =>
    if !r.protect ∧ s.gAhead q.val k.val b.val (fun t => decide (t < r.start + 44)) then .next (pauseRefresh q.val k.val b.val s) else
    let n := chanOf q.val
    let s := (s.atLeast (r.start + 44)).updPc q.val (fun x => { x with rf.refRun := tabErase x.rf.refRun key })
    let row := match r.kind with
      | .normal => some r.row
      | .lower => s.neighbourRow q.val k.val b.val r.row false
      | .upper => s.neighbourRow q.val k.val b.val r.row true
    let s := if r.kind = .upper then s.updChan n (fun c => { c with rfmReq := satInc c.rfmReq }) else s
    match row with
    | none => .next s
    | some row =>
      let s := refreshCheck q.val k.val b.val row (s.setCells (rowKey q.val k.val b.val row) changes)
      let s := if (s.slice q.val k.val).selfRefresh then s
        else chanEvent q.val 0x44 1 (addWork q.val k.val .refpb 1 s)
      .next (if r.kind = .normal then refreshed q.val k.val b.val row s else s)

/-! ## Taking hatbox entries (R308 to R310, R321, R324, R325, R330, R339, R356) -/

/-- What an event of a hatbox entry names. -/
def entryDetail (q k : Nat) (e : HatEntry) : EventDetail :=
  { rowDetail q k e.bank e.row with block := BitVec.ofNat 4 e.block }

/-- The event that an entry counts (R310): on the latent source of the layer, on data uncorrectable with a record, or on
the layer-internal source. KIND 0x6 counts with its seals. -/
def countEntry (q k : Nat) (e : HatEntry) (s : State) : State :=
  let d := entryDetail q k e
  match e.kind.toNat with
  | 1 => if e.src then s else fault (srcLatent k) d s
  | 2 =>
    if e.src then s
    else fault (srcUncorr (chanOf q)) d (blockRecord (srcUncorr (chanOf q)) d (lastUe q k e.bank e.row e.block s))
  | 3 => fault (srcLatent k) d s
  | 5 => fault (srcLayer k) d s
  | _ => s

/-- A subarray promoted to the next faster bin (R321, R322). -/
def promote (q k b sub : Nat) (s : State) : State :=
  let bin := (s.slice q k).bin b sub
  let s := s.updSlice q k (fun x => { x with
    binsField := tabSet 0 x.binsField (b * 32 + sub) bin, promoted := satInc x.promoted })
  let burn : AfEntry := { layer := k, q := q, bank := b, spare := false, x := sub, y := bin - 1 }
  let s := { s with otp.afQueue := s.otp.afQueue ++ [burn] }
  let s := s.updChan (chanOf q) (fun c => { c with findings := c.findings.filter (fun f =>
    !(decide (f.q = q) && decide (f.k = k) && decide (f.bank = b) && decide (f.sub = sub))) })
  markCatchUp q k s

/-- R321 and R339 at a taken entry: the state, and whether a spare row must be assigned before the entry is served. -/
def judgeEntry (q k : Nat) (e : HatEntry) (s : State) : State × Bool :=
  if e.src ∨ (e.kind ≠ 1 ∧ e.kind ≠ 2) then (s, false)
  else if !e.ret then (s, true)
  else
    let n := chanOf q
    let sub := e.row / 512
    let s := s.updChan n (fun c => { c with findings := c.findings.filter (fun f => decide (s.now < f.at_ + 86400000000000)) })
    let before := (s.chan n).findings.any (fun f => decide (f.q = q) && decide (f.k = k) && decide (f.bank = e.bank) && decide (f.sub = sub))
    if e.kind = 2 ∨ before then
      if (s.slice q k).bin e.bank sub = 0 then (s, true) else (promote q k e.bank sub s, false)
    else
      (s.updChan n (fun c => { c with
        findings := c.findings.drop (c.findings.length - 63) ++ [{ q := q, k := k, bank := e.bank, sub := sub, at_ := s.now }] }),
       false)

/-- One entry taken by the engine. At P3 it waits, already counted; the engine keeps up to 256 rows (R330). -/
def takeEntry (q k : Nat) (e : HatEntry) (s : State) : State :=
  let n := chanOf q
  let s := s.updChan n (fun c => { c with
    hatTaken := satInc c.hatTaken
    hatOvf := if e.ovf then satInc c.hatOvf else c.hatOvf
    hatCuff := if e.kind = 3 then satInc c.hatCuff else c.hatCuff })
  if e.kind = 4 then
    let key := bankKey k e.bank
    s.updPc q (fun x => { x with rf.rfmDue := x.rf.rfmDue ++ [(key, e.row, .lower), (key, e.row, .upper)] })
  else
    let rest := decide (3 ≤ s.pwr.rung)
    let j := judgeEntry q k e s
    let s := if rest then countEntry q k e j.1 else j.1
    if rest ∧ 256 ≤ ((s.chan n).taken.filter (·.waiting)).length then s
    else s.updChan n (fun c => { c with taken := c.taken ++ [{ q := q, k := k, e := e, waiting := rest, spare := j.2 }] })

/-- HBX of slice (q, k) (R308): its entries taken in order, its hatbox empty, a pending request posted after it (R324). -/
def hbx (q k : Nat) (s : State) : State :=
  let l := (s.slice q k).hatbox
  let s := s.updSlice q k (fun x => { x with
    hatbox := (x.hatPending.take 16).map (fun e => ({ kind := 4, bank := e.1, row := e.2 } : HatEntry)), hatPending := x.hatPending.drop 16,
    unread := 0 })
  let s := s.updPc q (fun x => { x with mg.useHbx := x.mg.useHbx + 1 })
  forL l (takeEntry q k) (chanEvent q 0x4A 1 s)

/-- Slices of q that are in use. -/
def State.slicesOf (s : State) (q : Nat) : List Nat := (List.range 18).filter (fun k => (s.slice q k).inUse)

/-- A hatbox read that failed after retry while another slice of q was read (R356): at the third in succession the slice is
unreadable; with slices of a second channel the layer is dead. -/
def unreadable (q k : Nat) (s : State) : State :=
  let s := s.updSlice q k (fun x => { x with unread := x.unread + 1 })
  if (s.slice q k).unread = 3 then
    let chans := (List.range 16).filter (fun n => decide (3 ≤ (s.slice (2 * n) k).unread) || decide (3 ≤ (s.slice (2 * n + 1) k).unread))
    if 2 ≤ chans.length then askRepair (.layer k false) (s.updLayer k (fun x => { x with dead := true }))
    else askRepair (.rank (chanOf q) k false) s
  else s

/-- The hatboxes of pseudo-channel q read (R309). -/
def readHatboxes (q : Nat) (bad : List Nat) (s : State) : State :=
  let l := s.slicesOf q
  let good := l.filter (fun k => !bad.contains k)
  forL l (fun k s => if good.contains k then hbx q k s else if good = [] then s else unreadable q k s) s

/-- HATBOX_READ (R309, R356). -/
def execHatboxRead (n : ChanId) (unreadable : List SliceRef) (s : State) : Host.Outcome State Fault Refusal :=
  let bad : Nat → List Nat := fun q => (unreadable.filter (fun r => decide (r.q.val = q))).map (·.k.val)
  .next (if s.channelsRun ∧ !s.noController n.val then
    readHatboxes (2 * n.val + 1) (bad (2 * n.val + 1)) (readHatboxes (2 * n.val) (bad (2 * n.val)) s) else s)

/-- RFM_REQUEST_REPORT (R325): the engine reads the slice's hatbox. -/
def execRfmRequestReport (q : PcId) (k : LayerId) (s : State) : Host.Outcome State Fault Refusal :=
  .next (if (s.slice q.val k.val).inUse ∧ s.channelsRun ∧ !s.noController (chanOf q.val) then hbx q.val k.val s else s)

/-! ## Service of an entry (R310 to R312) -/

/-- Bytes of a block that write-queue entries enable (R311). -/
def State.queuedMask (s : State) (q k b row block : Nat) : BitVec 64 :=
  ((s.pc q).wq.filter (fun e => decide (e.bank = b) && decide (e.row = row) && decide (e.block = block)
    && decide (s.layerAt q e.rank e.bank e.row = some k))).foldl (fun m e => e.writes.foldl (fun m w => m ||| w.mask) m) 0

/-- One block of a row rewritten at the bytes that resolve (R310, R311). -/
def rewriteBlock (q k : Nat) (e : HatEntry) (blk : Nat) (s : State) : State :=
  let key := rowKey q k e.bank e.row
  let row := s.readRow key
  let free := ~~~ s.queuedMask q k e.bank e.row blk
  let fixes := row.errors.filterMap (fun x => if x.2.1 = blk ∧ free.getLsbD x.1 then x.2.2.map (fun p => (x.1, p)) else none)
  if fixes = [] then s
  else
    let mask := bits64 (fun j => fixes.any (fun f => decide (f.1 = j)))
    let d := (row.block blk).1
    let data := blockOf (fun j => match fixes.find? (fun f => decide (f.1 = j)) with
      | some f => byteOf d j ^^^ f.2
      | none => 0)
    chanEvent q 0x42 1 (addWork q k .burst 1 (s.writeBlock key blk mask data).1)

/-- Blocks of a row with a flagged byte in the columns given that no queued write enables: all of them, or only those whose
byte does not resolve. -/
def State.badBlocks (s : State) (q k : Nat) (e : HatEntry) (cols : BitVec 64) (all : Bool) : List Nat :=
  let errs := (s.readRow (rowKey q k e.bank e.row)).errors
  (List.range 16).filter (fun blk =>
    let free := ~~~ s.queuedMask q k e.bank e.row blk
    errs.any (fun x => decide (x.2.1 = blk) && cols.getLsbD x.1 && free.getLsbD x.1 && (all || x.2.2.isNone)))

/-- One block sealed (R312); an old byte that does not resolve is an unresolved overwrite (R299). -/
def sealBlock (q k : Nat) (e : HatEntry) (blk : Nat) (s : State) : State :=
  let key := rowKey q k e.bank e.row
  let x := sealRow (s.readRow key) blk
  let s := postOverwrite q k e.bank e.row x.2.2 (s.putBlock key blk x)
  let s := s.updChan (chanOf q) (fun c => { c with sealed_ := satInc c.sealed_ })
  chanEvent q 0x42 1 (addWork q k .burst 1 s)

/-- An activation of a row in the repair reserve (R242, R353): at the bank's next free start, closed again with it. -/
def reserveRow (q k b row : Nat) (s : State) : State :=
  let t := s.refreshStart q k b
  let s := bankBusy q k b (t + 44) (activate q k b row (s.atLeast t))
  s.updPc q (fun x => { x with openRows := tabErase x.openRows (bankKey k b), rows := x.rows ++ [(t, some k)] })

/-- The repair-reserve activation of an entry's row, with the read and the CHK of each block (R310, R311). -/
def reserveAct (q k : Nat) (e : HatEntry) (blocks : Nat) (s : State) : State :=
  let key := bankKey k e.bank
  let s := (reserveRow q k e.bank e.row s).updPc q (fun x => { x with
    mg := { x.mg with useHbx := x.mg.useHbx + 3 * blocks, useActs := tabSet 0 x.mg.useActs key (tabGet 0 x.mg.useActs key + 1) } })
  let s := addWork q k .burst blocks (addWork q k .chk blocks s)
  chanEvent q 0x4A (3 * blocks) (chanEvent q 0x46 blocks (chanEvent q 0x41 blocks s))

/-- An entry served (R310). -/
def serveEntry (t : Taken) (s : State) : State :=
  let q := t.q
  let k := t.k
  let e := t.e
  let s := if t.waiting then s else countEntry q k e s
  -- a slice given up meanwhile has no rows to serve
  if !(s.slice q k).inUse then s else
  let touched := fun (s : State) => (s.readRow (rowKey q k e.bank e.row)).errors.map (fun x => x.2.1)
  match e.kind.toNat with
  | 1 =>
    let l := (List.range 16).filter (fun b => (touched s).contains b)
    forL l (rewriteBlock q k e) (reserveAct q k e l.length s)
  | 2 =>
    let l := (List.range 16).filter (fun b => (touched s).contains b)
    let s := forL l (rewriteBlock q k e) (reserveAct q k e l.length s)
    forL (s.badBlocks q k e (BitVec.allOnes 64) false) (sealBlock q k e) s
  | 6 =>
    let l := s.badBlocks q k e e.cols true
    let s := reserveAct q k e l.length s
    forL l (fun blk s =>
      let d := entryDetail q k { e with block := blk }
      fault (srcUncorr (chanOf q)) d (blockRecord (srcUncorr (chanOf q)) d (sealBlock q k e blk s))) s
  | _ => s

/-- Rewrites and seals may be made (R330): at P2 or above, and at P3 ahead of an entry to P4 or P5 and after a fault wake. -/
def State.servesRows (s : State) : Bool :=
  decide (s.pwr.rung < 3) || decide (s.pwr.cause ≠ 0) || s.pwr.entry.any (fun e => decide (e.target = 4) || decide (e.target = 5))

/-- HATBOX_ENTRY_SERVICE (R310, R330, R339): the oldest taken entry; one that waits for its spare row is passed over. -/
def execHatboxEntryService (n : ChanId) (s : State) : Host.Outcome State Fault Refusal :=
  if !s.channelsRun ∨ s.noController n.val ∨ !s.servesRows then .next s else
  match takeFirst (fun t => !t.spare) (s.chan n.val).taken with
  | none => .next s
  | some (t, rest) => .next (serveEntry t (s.updChan n.val (fun c => { c with taken := rest })))

/-! ## Self-refresh (R329) -/

/-- SELF_REFRESH_SENSOR_READ (R329): a layer in self-refresh selects its base interval; both sensors suspect give 8 ms. -/
def execSelfRefreshSensorRead (k : LayerId) (a b : Option Temp) (s : State) : Host.Outcome State Fault Refusal :=
  if (List.range 32).any (fun q => (s.slice q k.val).selfRefresh) then
    let x := s.layer k.val
    let va := if x.suspectA then none else a.map Temp.val
    let vb := if x.suspectB then none else b.map Temp.val
    let code := if x.suspectA ∧ x.suspectB then 3
      else match va, vb with
        | some u, some v => nextBase x.base (max u v)
        | some u, none => nextBase x.base u
        | none, some v => nextBase x.base v
        | none, none => x.base
    .next ((setBase k.val code s).updLayer k.val (fun y => { y with band := max y.band code }))
  else .next s

/-- ARRAY_SET_DONE (R313): the array sets of one group of up to 4 layers, lowest first, are complete. -/
def execArraySetDone (s : State) : Host.Outcome State Fault Refusal :=
  let group := ((List.range 18).filter (fun k => (List.range 32).any (fun q => (s.slice q k).arraySet))).take 4
  .next { s with slices := s.slices.map (fun e => (e.1, if group.contains (e.1 % 18) then { e.2 with arraySet := false } else e.2)) }

end Sys2Proof.Machine
end

