-- ==== Sys2Proof/Machine/Repair.lean ====
section
/-! DEFINITION. Repair, liners and migration (chapter 13): steering, spare rows, bank map-outs, retirements, the copy lanes, losses. -/

namespace Sys2Proof.Machine

/-! ## The repair log (R138, R151, R361) -/

/-- A repair entry in the encoding of R138. -/
def RepairEntry.code (e : RepairEntry) : Nat :=
  pack [(e.detail.toNat, 10), (e.bank.toNat, 4), (e.layer.toNat, 5), (b2n e.pc, 1), (e.channel.toNat, 4), (e.kind.toNat, 4)]

/-- The entry of a code (R138). -/
def repairEntryOf (v : Nat) : RepairEntry :=
  { kind := BitVec.ofNat 4 (bitsOf v 27 24), channel := BitVec.ofNat 4 (bitsOf v 23 20), pc := v.testBit 19,
    layer := BitVec.ofNat 5 (bitsOf v 18 14), bank := BitVec.ofNat 4 (bitsOf v 13 10), detail := BitVec.ofNat 10 v }

/-- A repair entry of pseudo-channel q. -/
def repairEntry (kind q k b detail : Nat) : RepairEntry :=
  { kind := BitVec.ofNat 4 kind, channel := BitVec.ofNat 4 (chanOf q), pc := decide (q % 2 = 1), layer := BitVec.ofNat 5 k,
    bank := BitVec.ofNat 4 b, detail := BitVec.ofNat 10 detail }

/-- The repair log record (R151). -/
def State.repairLog (s : State) : JQueued :=
  { prio := 5, kind := 7, payload := leBytes 4 s.rep.log.length ++ s.rep.log.flatMap (fun e => leBytes 4 e.code) }

/-- A repair added to the log, and kept for the fuses where BURN_REPAIRS asks for it (R361). -/
def logRepair (e : RepairEntry) (burnNow : Bool) (s : State) : State :=
  let s := { s with rep.log := if s.rep.log.contains e then s.rep.log else s.rep.log ++ [e] }
  if burnNow ∧ s.rep.burnRepairs then { s with rep.burnQueue := s.rep.burnQueue ++ [e] } else s

/-- The repair log record queued. -/
def writeLog (s : State) : State := queueRecord s.repairLog s

/-! ## Losses (R358) -/

/-- A unit whose contents are lost: 1 a bank, 2 a slice. -/
structure Loss where
  unit : Nat
  q : Nat
  k : Nat
  bank : Nat := 0
  rank : Nat
  rows : Nat
deriving DecidableEq, Repr

/-- One occurrence of a loss reported on the layer-internal source of layer k (R358). -/
def reportLoss (k : Nat) (l : List Loss) (s : State) : State :=
  if l = [] then s
  else
    let src := srcLayer k
    let s := forL l (fun x s => logRecord src (s.srcClass src) false false 3
      (lossDetail x.unit (chanOf x.q) (decide (x.q % 2 = 1)) x.k x.bank x.rank x.rows) s) s
    let s := fault src { layer := some (Fin.ofNat 18 k) } s
    let s := { s with
      rep.lossSlices := satAdd s.rep.lossSlices (l.filter (fun x => decide (x.unit = 2))).length
      rep.lossBanks := satAdd s.rep.lossBanks (l.filter (fun x => decide (x.unit = 1))).length }
    let s := forN 16 (fun p s => match l.find? (fun x => ((s.port p).windowTo x.rank).isSome) with
      | some x => sendNotice p src (s.srcClass src) (((s.port p).windowTo x.rank).getD 0xFF) s
      | none => s) s
    checkMinimum s

/-- A pseudo-channel excluded (R95, R338, R358). -/
def excludePc (q : Nat) (s : State) : State :=
  let src := srcTsv (chanOf q)
  let rows := s.pcRows
  let s := stopPc q (s.updPc q (fun x => { x with excluded := true }))
  let s := logRecord src (s.srcClass src) false false 3 (lossDetail 3 (chanOf q) (decide (q % 2 = 1)) 0 0 0 rows) s
  let s := { s with rep.lossPcs := satAdd s.rep.lossPcs 1 }
  let s := forN 16 (fun p s => if (List.range 16).any (fun w => ((s.port p).window w).valid)
    then sendNotice p src (s.srcClass src) 0xFF s else s) s
  eraseSlices (fun i => decide (i / 18 = q)) s

/-! ## Steering (R337, R338) -/

/-- The lowest spare TSV not yet in use. -/
def State.freeTsv (s : State) (q : Nat) : Option Nat := (List.range 4).find? (fun i => (s.steer q i).isNone)

/-- A TSV found failing: its spare has failed where it is steered already; it takes the next free spare, or the
pseudo-channel is excluded (R338). The Bool says whether a spare was found. -/
def steerTsv (q : Nat) (t : TsvRef) (s : State) : State × Bool :=
  let hit : Steer → Bool := fun x => decide (x.group = t.group) && decide (x.lane = t.lane) && !x.failed
  let s := s.updPc q (fun x => { x with steer := x.steer.map (fun e => (e.1, if hit e.2 then { e.2 with failed := true } else e.2)) })
  match s.freeTsv q with
  | none => (s, false)
  | some i =>
    let st : Steer := { group := t.group, lane := t.lane, layer := BitVec.ofNat 5 t.layer.val }
    let s := s.updPc q (fun x => { x with steer := tabPut x.steer i st })
    let e := repairEntry 1 q t.layer.val 0 (pack [(i, 2), (t.group.toNat, 2), (t.lane.toNat, 6)])
    (writeLog (logRepair e true s), true)

/-- TSV_STEERING (R285, R337, R338): lane isolation ends; a fifth spare excludes the pseudo-channel, counted once on the
channel's TSV-lane source. -/
def execTsvSteering (q : PcId) (found : Option TsvRef) (s : State) : Host.Outcome State Fault Refusal :=
  if (s.pc q.val).isolating ∧ !(s.pc q.val).excluded then
    let s := s.updPc q.val (fun x => { x with isolating := false, mg := { x.mg with useCal := x.mg.useCal + 1 } })
    match found with
    | none => .next s
    | some t =>
      let r := steerTsv q.val t s
      if r.2 then .next r.1
      else
        let s := fault (srcTsv (chanOf q.val)) (pcDetail q.val) (excludePc q.val r.1)
        .next (checkMinimum (s.updPc q.val (fun x => { x with isolating := false })))
  else .next s

/-! ## Spare rows (R339 to R342) -/

/-- The lowest free spare of a bank. -/
def Slice.freeSpare (x : Slice) (b : Nat) : Option Nat :=
  (List.range 32).find? (fun i => x.spares.all (fun sp => decide (sp.bank ≠ b) || decide (sp.index ≠ i)))

/-- SPARE_ROW_ASSIGN (R330, R339, R340): the oldest taken entry that waits for a spare row; a bank with none left is mapped out
(R342). The row keeps its stored bytes. -/
def execSpareRowAssign (n : ChanId) (s : State) : Host.Outcome State Fault Refusal :=
  if !s.channelsRun ∨ s.noController n.val ∨ !s.servesRows then .next s else
  match (s.chan n.val).taken.find? (·.spare) with
  | none => .next s
  | some t =>
    let e := t.e
    let s := s.updChan n.val (fun c => { c with taken :=
      (c.taken.takeWhile (fun y => !y.spare)) ++ ({ t with spare := false } :: (c.taken.dropWhile (fun y => !y.spare)).drop 1) })
    match (s.slice t.q t.k).freeSpare e.bank with
    | none => .next (askRepair (.bank t.q t.k e.bank true) s)
    | some i =>
      let key := bankKey t.k e.bank
      let s := (reserveRow t.q t.k e.bank e.row s).updPc t.q (fun x => { x with
        spared := satInc x.spared
        rf := { x.rf with actCount := tabErase x.rf.actCount (pcRowKey t.k e.bank e.row) }
        mg := { x.mg with useActs := tabSet 0 x.mg.useActs key (tabGet 0 x.mg.useActs key + 1) } })
      let s := s.updSlice t.q t.k (fun x => { x with spares := { bank := e.bank, index := i, row := e.row } :: x.spares })
      let burn : AfEntry := { layer := t.k, q := t.q, bank := e.bank, spare := true, x := e.row, y := i }
      .next { s with otp.afQueue := s.otp.afQueue ++ [burn] }

/-! ## Liner slices (R343) -/

/-- Migrations of q that run or wait. -/
def State.units (s : State) (q : Nat) : List MigUnit :=
  (if (s.pc q).mg.mig = .idle then [] else [(s.pc q).mg.unit]) ++ (s.pc q).mg.migQueue

/-- A liner slice stands in for a slice, or is to. -/
def State.linerSubst (s : State) (q l : Nat) : Bool :=
  (List.range s.serviceLayers).any (fun r => decide ((s.rank q r).layer = l) && decide ((s.rank q r).state ≠ 3))
    || (s.units q).any (fun u => u.bank.isNone && decide (u.dst = l))

/-- The banks a liner slice holds or is to hold: rank and bank. -/
def State.linerBanks (s : State) (q l : Nat) : List (Nat × Nat) :=
  (List.range s.serviceLayers).flatMap (fun r => ((List.range 16).filter (fun b => decide (s.bankEnt q r b = .mapped l))).map (fun b => (r, b)))
    ++ (s.units q).filterMap (fun u => u.bank.bind (fun b => if u.dst = l then some (u.rank, b) else none))

/-- The liner slice of q for a bank (some) or the rest (none) of slice (q, r), the layers in `bad` left out. -/
def State.linerFor (s : State) (q r : Nat) (bank : Option Nat) (bad : List Nat) : Option Nat :=
  if !s.capMigration then none
  else
    let ok := s.liners.filter (fun l => !bad.contains l && !(s.layer l).retired && !(s.layer l).dead && !s.linerSubst q l &&
      (match bank with
        | some b => (s.linerBanks q l).all (fun x => decide (x.2 ≠ b))
        | none => (s.linerBanks q l).all (fun x => decide (x.1 = r))))
    leastBy (fun l => (if (s.linerBanks q l).any (fun x => decide (x.1 = r)) then 0 else 2000)
      + (if (s.layer l).powered then 0 else 1000) + l) ok

/-- A layer without a slice in use powers off (R41). -/
def powerOffIdle (k : Nat) (s : State) : State :=
  if (List.range 32).any (fun q => (s.slice q k).inUse) then s else s.updLayer k (fun x => { x with powered := false })

/-- Slice (q, k) stops refresh if nothing lives on it any more (R348). -/
def releaseSlice (q k : Nat) (s : State) : State :=
  let held := (List.range s.serviceLayers).any (fun r => decide ((s.rank q r).layer = k) && decide ((s.rank q r).state ≠ 3))
    || s.linerSubst q k || !(s.linerBanks q k).isEmpty
  if held then s
  else powerOffIdle k (s.updSlice q k (fun x => { x with inUse := false, selfRefresh := false, hatbox := [], hatPending := [] }))

/-! ## Layer antifuse reads (R147, R148) -/

/-- The entry that the bits of a place of layer index k hold: with commit byte 0x5A and a KIND of R147; none otherwise. -/
def afEntry (k : Nat) (w : BitVec 41) : Option AfEntry :=
  let n := w.toNat
  let kind := bitsOf n 31 28
  if bitsOf n 39 32 = 0x5A ∧ (kind = 1 ∨ kind = 2) then
    some { layer := k, q := 2 * bitsOf n 27 24 + bitsOf n 23 23, bank := bitsOf n 22 19, spare := decide (kind = 1)
           x := if kind = 1 then bitsOf n 18 5 else bitsOf n 18 14, y := if kind = 1 then bitsOf n 4 0 else bitsOf n 13 12 }
  else none

/-- How an entry reads (R131, R147). -/
inductive AfSound where
  | clear | marginal | fails
deriving DecidableEq, Repr

/-- An entry as read at both margins (R147: the first two lines of R131): what it holds, and how it reads. A blank place and one that was
closed without its commit byte hold nothing and do not fail. -/
def afResolve (k : Nat) (normal strict : BitVec 41) : Option AfEntry × AfSound :=
  match afEntry k normal, afEntry k strict with
  | some a, some b => if a = b then (some a, .clear) else (none, .fails)
  | some a, none => (some a, .marginal)
  | none, some b => (some b, .marginal)
  | none, none => (none, if normal ||| strict = 0 ∨ (normal ||| strict).getLsbD 40 then .clear else .fails)

/-- The places of layer index k as read: as burnt, but for those that the command says read otherwise. -/
def State.afReads (s : State) (fuses : List AfRead) (k : Nat) : List (Option AfEntry × AfSound) :=
  ((s.otp.antifuse.filter (fun e => decide (e.1 / 256 = k) && !fuses.any (fun x => decide (x.layer.val = k) && decide (256 * k + x.place.val = e.1)))).map
      (fun e => afResolve k e.2 e.2))
    ++ (fuses.filter (fun x => decide (x.layer.val = k))).map (fun x => afResolve k x.normal x.strict)

/-- The entries of layer index k in force. -/
def State.afValid (s : State) (fuses : List AfRead) (k : Nat) : List AfEntry := (s.afReads fuses k).filterMap (·.1)

/-- Each entry of layer index k that fails counts on the layer's layer-internal source (R147), each marginal one on the OTP source (R131). -/
def countAf (fuses : List AfRead) (k : Nat) (s : State) : State :=
  let n : AfSound → Nat := fun x => ((s.afReads fuses k).filter (fun e => decide (e.2 = x))).length
  faultMany 228 (n .marginal) {} (faultMany (srcLayer k) (n .fails) { layer := some (Fin.ofNat 18 k) } s)

/-- A layer's array applied to slice (q, k) (R147, R148): the manufacture bins and spare rows, and the field entries in force; two that
name one spare index of a bank are both ignored; the fastest bin counts. -/
def applyAntifuse (l : List AfEntry) (q k : Nat) (s : State) : State :=
  let mine := l.filter (fun e => decide (e.q = q))
  let sp := mine.filter (·.spare)
  let once := sp.filter (fun (e : AfEntry) => decide ((sp.filter (fun (f : AfEntry) => decide (f.bank = e.bank) && decide (f.y = e.y))).length = 1))
  s.updSlice q k (fun x =>
    { x with
      spares := x.spares ++ once.filterMap (fun e =>
        if x.spares.any (fun y => decide (y.bank = e.bank) && decide (y.index = e.y)) then none
        else some { bank := e.bank, index := e.y, row := e.x })
      binsField := (mine.filter (fun e => !e.spare)).foldl (fun t e =>
        let old := tabGet 0 t (e.bank * 32 + e.x)
        tabSet 0 t (e.bank * 32 + e.x) (if old = 0 then e.y + 1 else min old (e.y + 1))) x.binsField })

/-- A recalibration without queue (R288): the temperature and settings of slice (q, k). -/
def calibrated (q k : Nat) (s : State) : State :=
  let n := s.choice
  { s.updSlice q k (fun x => { x with
      calTemp := some (BitVec.ofInt 11 (s.layer k).temp), restTemp := none
      settings := (List.range 90).foldl (fun t i => tabSet 0 t i (Config.trainedSetting q k i n)) x.settings }) with
    choice := n + 1 }

/-- A row that the manufacture map has on a spare row. -/
def madeSpare (x : MadeSpare) : SpareRow := { bank := x.bank.val, index := x.index.val, row := x.row.toNat }

/-- A liner slice put into use (R327): powered, bins read, array set, refreshed, recalibrated. -/
def intoUse (q k : Nat) (bins : List (Nat × BitVec 2)) (map : List MadeSpare) (fuses : List AfRead) (s : State) : State :=
  if (s.slice q k).inUse then s
  else
    let s := if (s.layer k).powered then s
      else s.updLayer k (fun x => { x with powered := true, base := firstBaseOf x.temp })
    let l := s.afValid fuses k
    let s := (countAf fuses k s).updSlice q k (fun x => { x with
      binsMan := bins.foldl (fun t e => tabSet 0 t e.1 e.2) [], spares := map.map madeSpare })
    let s := (arraySet q k (applyAntifuse l q k s)).updSlice q k (fun x => { x with arraySet := false })
    calibrated q k s

/-! ## Copy lanes (R345 to R351) -/

/-- The place a unit is copied from is still where it lives. -/
def State.unitValid (s : State) (q : Nat) (u : MigUnit) : Bool :=
  match u.bank with
  | some b => decide (s.bankEnt q u.rank b = .mapped u.src)
      || (decide (s.bankEnt q u.rank b = .own) && decide ((s.rank q u.rank).layer = u.src) && decide ((s.rank q u.rank).state ≠ 3))
  | none => decide ((s.rank q u.rank).layer = u.src) && decide ((s.rank q u.rank).state ≠ 3)

/-- The log entry of a unit (R335). -/
def MigUnit.entry (u : MigUnit) (q : Nat) : RepairEntry :=
  match u.bank with
  | some b => repairEntry 2 q u.src b 0
  | none => repairEntry 3 q u.src 0 u.dst

/-- The head of an idle lane's queue enters PREPARE (R348); a unit that has moved meanwhile is passed over. -/
def startLane (q : Nat) (s : State) : State :=
  if (s.pc q).mg.mig ≠ .idle then s
  else
    match (s.pc q).mg.migQueue.dropWhile (fun u => !s.unitValid q u) with
    | [] => s.updPc q (fun x => { x with mg := { x.mg with migQueue := [] } })
    | u :: rest =>
      let s := s.updPc q (fun x => { x with mg := { x.mg with
        mig := .prepare, unit := u, mark := u.bank.getD 0, migQueue := rest } })
      if u.src = u.dst then s else logRepair (u.entry q) false s

/-- A migration put into a lane's queue. -/
def addUnit (q : Nat) (u : MigUnit) (s : State) : State :=
  startLane q (s.updPc q (fun x => { x with mg := { x.mg with migQueue := x.mg.migQueue ++ [u] } }))

/-- The supervisor commits a finished unit (R348 SWITCH): rank map or bank map; the lane goes to IDLE and on. -/
def commitUnit (q : Nat) (s : State) : State :=
  if (s.pc q).mg.mig ≠ .switch ∨ s.sup.restarting then s
  else
    let u := (s.pc q).mg.unit
    let s := match u.bank with
      | some b => s.setBank q u.rank b (.mapped u.dst)
      | none =>
        let s := s.setRank q u.rank { layer := u.dst, state := 1 }
        forN 16 (fun b (s : State) => if s.bankEnt q u.rank b = BankEnt.mapped u.dst then s.setBank q u.rank b .own else s) s
    let s := s.updPc q (fun x => { x with mg := { x.mg with mig := .idle, unit := {}, mark := 0 } })
    let s := if s.rep.burnRepairs ∧ u.src ≠ u.dst then { s with rep.burnQueue := s.rep.burnQueue ++ [u.entry q] } else s
    let s := forL (u.src :: u.moved.map (·.2)) (releaseSlice q) s
    let n := s.rep.log.length
    let s := startLane q s
    if s.rep.log.length = n then s else writeLog s

/-- LINER_INTO_USE (R327, R343, R348): PREPARE ends; COPY begins, or a unit that copies nothing commits. -/
def execLinerIntoUse (q : PcId) (read : LinerRead) (s : State) : Host.Outcome State Fault Refusal :=
  let m := (s.pc q.val).mg
  if m.mig = .prepare ∧ !s.sup.restarting ∧ (s.mode = .service ∨ s.mode = .retain) then
    let s := intoUse q.val m.unit.dst (read.bins.map (fun e => (e.1.val * 32 + e.2.1.val, e.2.2))) read.map read.fuses s
    if m.unit.src = m.unit.dst then
      .next (commitUnit q.val ((s.updPc q.val (fun x => { x with mg := { x.mg with mig := .switch } })).updSlice q.val m.unit.dst
        (fun x => { x with arraySet := false })))
    else
      let s := s.updPc q.val (fun x => { x with mg := { x.mg with mig := .copy } })
      .next (if m.unit.bank.isNone then s.setRank q.val m.unit.rank { s.rank q.val m.unit.rank with state := 2 } else s)
  else .next s

/-- The row as it is copied (R346 step 4): the raw cuff word, and every byte corrected that is the only flagged byte of its
column with one bit, or none, of syndrome. -/
def copiedRow (r : Row) : Row :=
  let fix : Nat → Nat → Option Byte := fun b j =>
    if (flagsOf (r.block b)).getLsbD j ∧ r.flaggedIn j = [b] then
      let v := r.syndrome j
      if v = 0 ∨ popBelow 8 v.toNat = 1 then some v else none
    else none
  { r with blocks := (List.range 16).map (fun b =>
      let x := r.block b
      if neverWritten x then x
      else
        let f := (List.range 64).map (fix b)
        (blockOf (fun j => match f.getD j none with | some v => byteOf x.1 j ^^^ v | none => byteOf x.1 j),
         bits64 (fun j => match f.getD j none with
           | some v => parity (byteOf x.1 j ^^^ v)
           | none => x.2.getLsbD j))) }

/-- The next copy index of a unit after w, banks that live elsewhere passed over. -/
def State.nextMark (s : State) (q : Nat) (u : MigUnit) (w : Nat) : Nat :=
  match u.bank with
  | some _ => w + 16
  | none => ((List.range 16).find? (fun d => decide (s.bankEnt q u.rank ((w + 1 + d) % 16) = .own))).elim 262144 (fun d => w + 1 + d)

/-- ROW_COPY (R346, R347): the row at the watermark is copied and the watermark advances; past the last row the lane enters
SWITCH, and the supervisor commits unless it restarts. -/
def execRowCopy (q : PcId) (s : State) : Host.Outcome State Fault Refusal :=
  let m := (s.pc q.val).mg
  if m.mig = .copy ∧ !(s.pc q.val).excluded ∧ !s.noController (chanOf q.val) ∧ s.bist.phase < 3 ∧ (s.mode = .service ∨ s.mode = .retain) then
    let u := m.unit
    let w := m.mark
    let b := w % 16
    let row := w / 16
    let skip := u.bank.isNone && decide (s.bankEnt q.val u.rank b ≠ .own)
    let src := match u.moved.find? (fun e => decide (w < e.1)) with | some e => e.2 | none => u.src
    let s := if skip then s
      else
        let s := s.storeRow (rowKey q.val u.dst b row) (copiedRow (s.readRow (rowKey q.val src b row)))
        let s := reserveRow q.val src b row s
        let s := addWork q.val u.dst .act 3 (addWork q.val u.dst .burst 17 (addWork q.val src .rdrow 1 (addWork q.val src .chk 1 s)))
        let ks := bankKey src b
        let kd := bankKey u.dst b
        let s := s.updPc q.val (fun x =>
          let a := tabSet 0 x.mg.useActs ks (tabGet 0 x.mg.useActs ks + 1)
          { x with mg := { x.mg with useMig := x.mg.useMig + 34, useActs := tabSet 0 a kd (tabGet 0 a kd + 3) } })
        chanEvent q.val 0x4A 34 (chanEvent q.val 0x40 3 s)
    let w' := s.nextMark q.val u w
    let s := s.updPc q.val (fun x => { x with mg := { x.mg with mark := min w' 262144, mig := if 262144 ≤ w' then .switch else .copy } })
    .next (commitUnit q.val s)
  else .next s

/-- Rows of a bank with a copy index of at least w. -/
def rowsFrom (w b : Nat) : Nat := 16384 - min 16384 (ceilDiv (w - b) 16)

/-- A unit stands in without contents: the map changes at once, accesses wait for the liner slice (R356). -/
def standIn (q r : Nat) (bank : Option Nat) (k l : Nat) (s : State) : State :=
  let s := match bank with
    | some b => s.setBank q r b (.mapped l)
    | none => s.setRank q r { layer := l, state := 1 }
  let s := s.updSlice q l (fun x => if x.inUse then x else { x with arraySet := true })
  let s := logRepair (MigUnit.entry { rank := r, bank := bank, src := k, dst := l } q) true s
  addUnit q { rank := r, bank := bank, src := l, dst := l } (releaseSlice q k s)

/-- The source of the lane's unit has become unreadable (R351): rows not copied are lost; the lane goes to SWITCH. -/
def abortSource (q : Nat) (s : State) : State × List Loss :=
  let m := (s.pc q).mg
  let u := m.unit
  let banks : List Nat := match u.bank with
    | some b => [b]
    | none => (List.range 16).filter (fun b => decide (s.bankEnt q u.rank b = .own))
  let loss : Loss := { unit := if u.bank.isSome then 1 else 2, q := q, k := u.src, bank := u.bank.getD 0, rank := u.rank,
                       rows := (banks.map (rowsFrom m.mark)).sum }
  if m.mig = .copy then
    (commitUnit q (s.updPc q (fun x => { x with mg := { x.mg with mig := .switch, mark := 262144 } })), [loss])
  else
    let s := s.updPc q (fun x => { x with mg := { x.mg with mig := .idle, unit := {}, mark := 0 } })
    (standIn q u.rank u.bank u.src u.dst s, [loss])

/-- The destination of the lane's unit must itself be repaired (R350): a new migration from where the rows live, or SPLIT
with DEGR on the layer-internal source of the destination layer. -/
def abandonDst (q : Nat) (s : State) : State :=
  let m := (s.pc q).mg
  let u := m.unit
  let idle := s.updPc q (fun x => { x with mg := { x.mg with mig := .idle } })
  match idle.linerFor q u.rank u.bank [u.dst] with
  | some l =>
    let u' := { u with dst := l, moved := if m.mig = .copy then (m.mark, u.dst) :: u.moved else u.moved }
    let s := s.updPc q (fun x => { x with mg := { x.mg with mig := .prepare, unit := u', mark := u.bank.getD 0 } })
    writeLog (logRepair (u'.entry q) false s)
  | none =>
    let s := s.updPc q (fun x => { x with mg := { x.mg with mig := .split } })
    raiseFault (srcLayer u.dst) 2 { layer := some (Fin.ofNat 18 u.dst) } 1 s

/-! ## Repairs of levels 3 to 5 (R335, R336, R344, R355 to R360) -/

/-- The lane of q copies from layer k, or into layer k. -/
def State.copyingFrom (s : State) (q k : Nat) : Bool :=
  (decide ((s.pc q).mg.mig = .prepare) || decide ((s.pc q).mg.mig = .copy)) && decide ((s.pc q).mg.unit.src = k)
    && decide ((s.pc q).mg.unit.dst ≠ k)
def State.copyingTo (s : State) (q k : Nat) : Bool :=
  (decide ((s.pc q).mg.mig = .prepare) || decide ((s.pc q).mg.mig = .copy)) && decide ((s.pc q).mg.unit.dst = k)
    && decide ((s.pc q).mg.unit.src ≠ k)

/-- The rank whose bank b lives on layer k in q. -/
def State.bankOwner (s : State) (q k b : Nat) : Option Nat :=
  (List.range s.serviceLayers).find? (fun r => decide (s.bankEnt q r b = .mapped k)
    || (decide (s.bankEnt q r b = .own) && decide ((s.rank q r).layer = k) && decide ((s.rank q r).state ≠ 3)))

/-- One bank on layer k moved to a liner bank, or retired in place (R344, R360). -/
def moveBank (q k b r : Nat) (readable : Bool) (s : State) : State × List Loss :=
  if (s.units q).any (fun u => decide (u.src = k) && decide (u.dst ≠ k) && decide (u.bank = some b)) then
    if !readable ∧ s.copyingFrom q k ∧ (s.pc q).mg.unit.bank = some b then abortSource q s else (s, [])
  else
    let loss : Loss := { unit := 1, q := q, k := k, bank := b, rank := r, rows := 16384 }
    match s.linerFor q r (some b) [k] with
    | some l =>
      if readable then (addUnit q { rank := r, bank := some b, src := k, dst := l } s, [])
      else (standIn q r (some b) k l s, [loss])
    | none => (releaseSlice q k (logRepair (repairEntry 2 q k b 0) true (s.setBank q r b .retired)), [loss])

/-- The slice of rank r on layer k in q substituted, or given STATE 0x3 (R355, R356, R360). -/
def retireSlice (q k r : Nat) (readable : Bool) (s : State) : State × List Loss :=
  if (s.units q).any (fun u => decide (u.src = k) && decide (u.dst ≠ k) && u.bank.isNone) then
    if !readable ∧ s.copyingFrom q k ∧ (s.pc q).mg.unit.bank.isNone then abortSource q s else (s, [])
  else
    let a := if !readable ∧ s.copyingFrom q k then abortSource q s else (s, [])
    let s := a.1
    let rows := 16384 * ((List.range 16).filter (fun b => decide (s.bankEnt q r b = .own))).length
    let loss : Loss := { unit := 2, q := q, k := k, rank := r, rows := rows }
    match s.linerFor q r none [k] with
    | some l =>
      if readable then (addUnit q { rank := r, src := k, dst := l } s, a.2)
      else (standIn q r none k l s, a.2 ++ [loss])
    | none =>
      let e : RepairEntry := { repairEntry 4 q k 0 0 with pc := false }
      (releaseSlice q k (logRepair e true (s.setRank q r { s.rank q r with state := 3 })), a.2 ++ [loss])

/-- Everything of pseudo-channel q on layer k moved away: its slices, the banks mapped there, the lane that copies there. -/
def clearLayerIn (k : Nat) (readable : Bool) (q : Nat) (a : State × List Loss) : State × List Loss :=
  let s := if a.1.copyingTo q k then abandonDst q a.1 else a.1
  let a := (List.range s.serviceLayers).foldl (fun (a : State × List Loss) r =>
    if (a.1.rank q r).layer = k ∧ (a.1.rank q r).state ≠ 3 then
      let x := retireSlice q k r readable a.1
      (x.1, a.2 ++ x.2)
    else a) (s, a.2)
  (List.range s.serviceLayers).foldl (fun (a : State × List Loss) r =>
    (List.range 16).foldl (fun (a : State × List Loss) b =>
      if a.1.bankEnt q r b = .mapped k then
        let x := moveBank q k b r readable a.1
        (x.1, a.2 ++ x.2)
      else a) a) a

/-- A layer retired or dead (R355 to R357). -/
def retireLayer (k : Nat) (readable : Bool) (s : State) : State :=
  if (s.layer k).retired then s
  else if s.refuse then
    if s.mode = .boot then enterHold 5 s else raiseFault (srcLayer k) 4 { layer := some (Fin.ofNat 18 k) } 5 s
  else
    let s := s.updLayer k (fun x => { x with retired := true, dead := x.dead || !readable })
    let s := { s with rep.layersRetired := satInc s.rep.layersRetired }
    let s := logRepair { kind := 5, layer := BitVec.ofNat 5 k } true s
    let a := (List.range 32).foldl (fun a q => clearLayerIn k readable q a) (s, [])
    reportLoss k a.2 (writeLog a.1)

/-- State of field frame f (R136). -/
def State.frame (s : State) (f : Nat) : FrameState := tabGet .free s.otp.frames f

/-- The entries of the valid REPAIR frames (R137, R138). -/
def State.frameEntries (s : State) : List RepairEntry :=
  ((List.range 41).filter (fun f => decide (s.frame f = .valid) || decide (s.frame f = .validOpen))).flatMap (fun f =>
    let h := (tabGet 0 s.otp.resolved (136 + 8 * f)).toNat
    if bitsOf h 7 0 = 0x10 then
      (List.range (min 6 (bitsOf h 23 16))).flatMap (fun i =>
        let v := (tabGet 0 s.otp.resolved (137 + 8 * f + i)).toNat
        ([bitsOf v 27 0, bitsOf v 55 28].filter (fun e => decide (e ≠ 0))).map repairEntryOf)
    else [])

/-- The channels in which ranks of layer k have been retired (R335 level 5). -/
def State.retiredChannels (s : State) (k : Nat) : List Nat :=
  (List.range 16).filter (fun n => (s.frameEntries ++ s.rep.log).any (fun e => (decide (e.kind = 3) || decide (e.kind = 4))
    && decide (e.layer.toNat = k) && decide (e.channel.toNat = n)))

/-- The rank of channel n on layer k retired; in a fourth channel the layer is (R335). -/
def retireRank (n k : Nat) (readable : Bool) (s : State) : State :=
  let here : Nat → Bool := fun q => s.copyingTo q k || (List.range s.serviceLayers).any (fun r =>
    (decide ((s.rank q r).layer = k) && decide ((s.rank q r).state ≠ 3)) || (List.range 16).any (fun b => decide (s.bankEnt q r b = .mapped k)))
  if !(here (2 * n) || here (2 * n + 1)) then s
  else if 3 ≤ ((s.retiredChannels k).filter (fun m => decide (m ≠ n))).length then retireLayer k readable s
  else
    let a := clearLayerIn k readable (2 * n + 1) (clearLayerIn k readable (2 * n) (s, []))
    reportLoss k a.2 (writeLog a.1)

/-- A bank of slice (q, k) mapped out; the fourth of a slice, those under way counted, retires the rank (R335). -/
def mapOutBank (q k b : Nat) (readable : Bool) (s : State) : State :=
  if s.copyingTo q k ∧ (s.pc q).mg.unit.bank.all (fun c => decide (c = b)) then abandonDst q s
  else
    match s.bankOwner q k b with
    | none => s
    | some r =>
      let out : Nat → Bool := fun c => decide (s.bankEnt q r c ≠ .own)
        || (s.units q).any (fun u => decide (u.rank = r) && decide (u.src = k) && decide (u.bank = some c))
      if (s.rank q r).layer = k ∧ !out b ∧ 3 ≤ ((List.range 16).filter out).length then
        retireRank (chanOf q) k readable s
      else
        let a := moveBank q k b r readable s
        reportLoss k a.2 (writeLog a.1)

/-- The oldest repair that the supervisor has decided, taken out where it is of the kind asked for: repairs run in the order in
which their faults were recorded (R24). -/
def takeRepair (f : RepairReq → Bool) (s : State) : Option (RepairReq × State) :=
  if s.sup.restarting then none
  else match s.rep.todo with
    | r :: t => if f r then some (r, { s with rep.todo := t }) else none
    | [] => none

/-- BANK_MAP_OUT (R335, R344). -/
def execBankMapOut (s : State) : Host.Outcome State Fault Refusal :=
  match takeRepair (fun r => match r with | .bank _ _ _ _ => true | _ => false) s with
  | some (.bank q k b readable, s) => .next (mapOutBank q k b readable s)
  | _ => .next s

/-- RANK_RETIREMENT (R335, R355). -/
def execRankRetirement (s : State) : Host.Outcome State Fault Refusal :=
  match takeRepair (fun r => match r with | .rank _ _ _ => true | _ => false) s with
  | some (.rank n k readable, s) => .next (retireRank n k readable s)
  | _ => .next s

/-- LAYER_RETIREMENT (R335, R355 to R357). -/
def execLayerRetirement (s : State) : Host.Outcome State Fault Refusal :=
  match takeRepair (fun r => match r with | .layer _ _ => true | _ => false) s with
  | some (.layer k readable, s) => .next (retireLayer k readable s)
  | _ => .next s

end Sys2Proof.Machine
end

