-- ==== Sys2Proof/Machine/Thermal.lean ====
section
/-! DEFINITION. Temperature sensing, the thermal model, levels and trips (chapter 14), and the accrual of wear (R158). -/

namespace Sys2Proof.Machine

/-! ## The model's values (R366 to R369) -/

/-- The 16 column nodes of a layer. -/
def State.nodeList (s : State) (k : Nat) : List Int := (List.range 16).map (fun i => tabGet 0 (s.layer k).nodes i)
/-- The model hotspot of a layer. -/
def State.hotspot (s : State) (k : Nat) : Int := (s.nodeList k).foldl max (tabGet 0 (s.layer k).nodes 0)
/-- Channel column of the hotspot, the lowest of equals. -/
def State.hotColumn (s : State) (k : Nat) : Nat :=
  ((List.range 16).find? (fun i => decide (tabGet 0 (s.layer k).nodes i = s.hotspot k))).getD 0

/-- A base-die sensor. -/
def State.baseSensor (s : State) (i : Nat) : BaseSensor := tabGet {} s.thm.sensors i
/-- The highest reading among the working base-die sensors with number below n. -/
def State.baseHigh (s : State) (n : Nat) : Option Int :=
  (List.range n).foldl (fun m i =>
    if (s.baseSensor i).suspect then m
    else match m, (s.baseSensor i).reading with
      | none, r => r
      | m, none => m
      | some a, some b => some (max a b)) none

/-- The crown: the topmost fitted layer (R12). -/
def State.crown (s : State) : Nat := ((List.range 18).reverse.find? s.fitted).getD 0

/-- The neighbour bound of a layer (R369), in 0.25 °C; none where no neighbour counts. -/
def State.neighbourBound (s : State) (k : Nat) : Option Int :=
  let below := if k = 0 then s.baseHigh 8 else if (s.layer (k - 1)).powered ∧ s.fitted (k - 1) then some (s.layer (k - 1)).temp else none
  let above := if k ≠ s.crown ∧ s.fitted (k + 1) ∧ (s.layer (k + 1)).powered then some (s.layer (k + 1)).temp else none
  let high := match below, above with | some a, some b => some (max a b) | some a, none => some a | none, b => b
  high.map (fun t => t + ((Config.layerPower k s.thm.history * 8 / 1000 : Nat) : Int))

/-- Temperature in use and BASIS of a layer (R368); of two equal readings sensor A's site gives the gradient. -/
def State.tempInUse (s : State) (k : Nat) : Int × Nat :=
  let x := s.layer k
  let a := if x.suspectA then none else x.sensA
  let b := if x.suspectB then none else x.sensB
  let best : Option (Int × Bool) := match a, b with
    | some u, some v => some (if u < v then (v, true) else (u, false))
    | some u, none => some (u, false)
    | none, some v => some (v, true)
    | none, none => none
  match best, s.thm.modelSuspect with
  | some (t, site), false => (t + max 0 (s.hotspot k - Config.siteValue k site (s.nodeList k)), 0)
  | none, false =>
    match s.neighbourBound k with
    | some n => if n ≤ s.hotspot k then (s.hotspot k, 1) else (n, 2)
    | none => (s.hotspot k, 1)
  | some (t, _), true => (t, 3)
  | none, true => (x.temp, 3)

/-- Every layer node set to the higher of the layer's two readings; divergence tests from 50 ms on (R367). -/
def setModel (s : State) : State :=
  let s := forN 18 (fun k s =>
    let x := s.layer k
    match x.sensA, x.sensB with
    | none, none => s
    | a, b =>
      let t := match a, b with | some u, some v => max u v | some u, none => u | _, some v => v | _, _ => 0
      s.updLayer k (fun x => { x with
        nodes := (List.range 16).foldl (fun l i => tabSet 0 l i t) x.nodes, divA := none, divB := none, divAB := none })) s
  { s with thm.testFrom := some (s.now + 50000000), thm.modelDiv := [] }

/-! ## Alerts and trips (R375 to R379) -/

/-- Bits of THM_ALERT set: each new one is an attention request (R423). -/
def setThmAlert (m : BitVec 6) (s : State) : State :=
  if s.thm.alert ||| m = s.thm.alert then s else attend { s with thm.alert := s.thm.alert ||| m }

/-- MODE_STATUS.MODE. -/
def Mode.code : Mode → Nat
  | .boot => 0 | .service => 1 | .retain => 2 | .hold => 3 | .trip => 4 | .factory => 5

/-- SUSPECT of the trip record. -/
def State.suspects (s : State) : Nat :=
  pack ((List.range 18).flatMap (fun k => [(b2n (s.layer k).suspectA, 1), (b2n (s.layer k).suspectB, 1)])
    ++ (List.range 16).map (fun i => (b2n (s.baseSensor i).suspect, 1)) ++ [(b2n s.thm.modelSuspect, 1)])

/-- The trip record (R377). -/
def State.tripRecord (s : State) (src basis : Nat) (t : Int) : JQueued :=
  { prio := 1, kind := 2,
    payload := [BitVec.ofNat 8 src, BitVec.ofNat 8 basis] ++ leBytes 2 (tempField t) ++ leBytes 4 s.ms
      ++ (List.range 18).flatMap (fun k => leBytes 2 (if (s.layer k).powered then tempField (s.layer k).temp else 0))
      ++ leBytes 2 (tempField s.thm.baseTemp) ++ [BitVec.ofNat 8 s.mode.code, BitVec.ofNat 8 s.pwr.rung]
      ++ leBytes 8 s.suspects ++ leBytes 8 0 }

/-- What THM_TRIP shows of the trip record. -/
def noteTrip (src : Nat) (t : Int) (s : State) : State :=
  { s with thm.tripValid := true, thm.tripSrc := BitVec.ofNat 6 src, thm.tripTemp := BitVec.ofInt 11 t }

/-- Steps 1 to 3 of the trip sequence (R376). -/
def tripBegin (src basis : Nat) (t : Int) (s : State) : State :=
  let s := noteTrip src t (queueRecord (s.tripRecord src basis t) s)
  { s with mode := .trip, thm.tripWait := true, thm.tripAt := s.now,
           pwr := { s.pwr with entry := none, retainPending := false, wake := none },
           bist.phase := 0, bist.running := false, pins.vid := some 0x18,
           boot.frozen := some (s.boot.frozen.getD s.us) }

/-- Steps 2 and 3: answers, links down, contents lost. -/
def tripDown (s : State) : State :=
  if s.mode = .trip then
    layersOff (stopMemory (linksDown s))
  else s

/-- THERMTRIP_N low, the supervisor island off (R376 steps 5 and 6). -/
def tripPin (s : State) : State :=
  { s with thm.tripWait := false, pins.thermtrip := true, sup.running := false }

/-- TRIP_RECORD_TIMEOUT (R376). -/
def execTripRecordTimeout (s : State) : Host.Outcome State Fault Refusal :=
  .next (if s.thm.tripWait then tripPin (s.atLeast (s.thm.tripAt + 100000000)) else s)

/-! ## Levels (R374) -/

/-- The level after a sample: entered at or above, left below less 3 °C; Trip stays. -/
def nextLevel (warn throttle trip : Int) (cur : Nat) (t : Int) : Nat :=
  let up := if degC trip ≤ t then 3 else if degC throttle ≤ t then 2 else if degC warn ≤ t then 1 else 0
  let down := if degC (throttle - 3) ≤ t then 2 else if degC (warn - 3) ≤ t then 1 else 0
  if 3 ≤ cur then 3 else if cur < up then up else min cur down

/-! ## One sample (R365, R368, R370 to R374) -/

/-- What a sample finds; a place is a layer index, or 0x20 for the base die, with the temperature in use. -/
structure Found where
  conv : Nat := 0
  layerMarks : List (Nat × Int) := []
  baseMarks : List (Nat × Int) := []
  model : Bool := false
  warn : List (Nat × Int) := []
  throttle : List (Nat × Int) := []
  trip : List (Nat × Int × Nat) := []
  baseLevels : List Nat := []
  lost : List Nat := []
deriving DecidableEq, Repr

/-- Layer sensor A or B marked suspect, if it is not yet. -/
def markLayer (k : Nat) (b : Bool) (a : State × Found) : State × Found :=
  let x := a.1.layer k
  if (if b then x.suspectB else x.suspectA) then a
  else
    (a.1.updLayer k (fun x => if b then { x with suspectB := true, divB := none, divAB := none }
        else { x with suspectA := true, divA := none, divAB := none }),
     { a.2 with layerMarks := a.2.layerMarks ++ [(k, ((if b then x.sensB else x.sensA).getD x.temp))] })

/-- A base-die sensor marked suspect. -/
def markBase (i : Nat) (a : State × Found) : State × Found :=
  let x := a.1.baseSensor i
  if x.suspect then a
  else
    ({ a.1 with thm.sensors := tabSet {} a.1.thm.sensors i { x with suspect := true, div := none } },
     { a.2 with baseMarks := a.2.baseMarks ++ [(0x20, x.reading.getD 0)] })

/-- One reading taken (R364, R365). -/
def takeReading (a : State × Found) (r : SensorReading) : State × Found :=
  let s := a.1
  let off : Int := if s.thm.vrefBad then 8 else 0
  match r.sensor, r.value with
  | .layerA k, some v =>
    if (s.layer k.val).powered then (s.updLayer k.val (fun x => { x with sensA := some (v.val + off), failA := 0 }), a.2) else a
  | .layerB k, some v =>
    if (s.layer k.val).powered then (s.updLayer k.val (fun x => { x with sensB := some (v.val + off), failB := 0 }), a.2) else a
  | .base i, some v =>
    ({ s with thm.sensors := tabSet {} s.thm.sensors i.val { s.baseSensor i.val with reading := some (v.val + off), fail := 0 } }, a.2)
  | .layerA k, none => if !(s.layer k.val).powered then a else
    let a := (s.updLayer k.val (fun x => { x with failA := x.failA + 1 }), { a.2 with conv := a.2.conv + 1 })
    if 3 ≤ (a.1.layer k.val).failA then markLayer k.val false a else a
  | .layerB k, none => if !(s.layer k.val).powered then a else
    let a := (s.updLayer k.val (fun x => { x with failB := x.failB + 1 }), { a.2 with conv := a.2.conv + 1 })
    if 3 ≤ (a.1.layer k.val).failB then markLayer k.val true a else a
  | .base i, none =>
    let x := s.baseSensor i.val
    let a : State × Found := ({ s with thm.sensors := tabSet {} s.thm.sensors i.val { x with fail := x.fail + 1 } },
      { a.2 with conv := a.2.conv + 1 })
    if 3 ≤ (a.1.baseSensor i.val).fail then markBase i.val a else a

/-- More than 6 °C apart. -/
def apart (a b : Int) : Bool := decide (24 < (a - b).natAbs)

/-- Since when a divergence has held. -/
def since (yes : Bool) (old : Option Nat) (now : Nat) : Option Nat := if yes then some (old.getD now) else none

/-- A divergence has held for 50 ms. -/
def held50 (x : Option Nat) (now : Nat) : Bool := x.any (fun t => decide (t + 50000000 ≤ now))

/-- The divergence tests of a layer brought up to this sample (R371). -/
def diverge (k : Nat) (s : State) : State :=
  let x := s.layer k
  let run := s.thm.testFrom.any (fun t => decide (t ≤ s.now))
  let site : Bool → Int := fun b => Config.siteValue k b (s.nodeList k)
  let far : Option Int → Bool → Bool → Bool := fun r susp b =>
    run && !susp && !s.thm.modelSuspect && (match r with | some v => apart v (site b) | none => false)
  let both := run && !x.suspectA && !x.suspectB && (match x.sensA, x.sensB with | some u, some v => apart u v | _, _ => false)
  s.updLayer k (fun x => { x with
    divA := since (far x.sensA x.suspectA false) x.divA s.now, divB := since (far x.sensB x.suspectB true) x.divB s.now,
    divAB := since both x.divAB s.now })

/-- The second condition of R371 for a layer: the sensor that is marked. -/
def markPair (k : Nat) (a : State × Found) : State × Found :=
  let s := a.1
  let x := s.layer k
  if held50 x.divAB s.now then
    let u := x.sensA.getD 0
    let v := x.sensB.getD 0
    let du := (u - Config.siteValue k false (s.nodeList k)).natAbs
    let dv := (v - Config.siteValue k true (s.nodeList k)).natAbs
    if s.thm.modelSuspect ∨ du = dv then markLayer k (decide (v < u)) a else markLayer k (decide (du < dv)) a
  else a

/-- The first condition for the layers of this sample, with R372: three layers whose sensors agree make the model suspect,
and none of the sensors that meet the condition is marked. -/
def judgeModel (ks : List Nat) (a : State × Found) : State × Found :=
  let s := a.1
  let meets := ks.filter (fun k => held50 (s.layer k).divA s.now || held50 (s.layer k).divB s.now)
  let agree := meets.filter (fun k => !(s.layer k).suspectA && !(s.layer k).suspectB &&
    (match (s.layer k).sensA, (s.layer k).sensB with | some u, some v => decide ((u - v).natAbs ≤ 12) | _, _ => false))
  let old := s.thm.modelDiv.filter (fun e => decide (s.now ≤ e.2 + 50000000) && !agree.contains e.1)
  let all := old ++ agree.map (fun k => (k, s.now))
  let s := { s with thm.modelDiv := all }
  if 3 ≤ all.length ∧ !s.thm.modelSuspect then
    let s := { s with thm.modelSuspect := true, thm.modelDiv := [],
                      layers := s.layers.map (fun e => (e.1, { e.2 with divA := none, divB := none })) }
    (s, { a.2 with model := true })
  else
    meets.foldl (fun a k =>
      let x := a.1.layer k
      let a := if held50 x.divA a.1.now then markLayer k false a else a
      if held50 x.divB a.1.now then markLayer k true a else a) (s, a.2)

/-- The base-die sensors of this sample against the model nodes at their sites (R371). -/
def judgeBase (is : List Nat) (a : State × Found) : State × Found :=
  is.foldl (fun a i =>
    let s := a.1
    let x := s.baseSensor i
    let run := s.thm.testFrom.any (fun t => decide (t ≤ s.now))
    let far := run && !x.suspect && !s.thm.modelSuspect && (match x.reading with | some v => apart v x.node | none => false)
    let d := since far x.div s.now
    let a := ({ s with thm.sensors := tabSet {} s.thm.sensors i { x with div := d } }, a.2)
    if held50 d s.now then markBase i a else a) a

/-- Temperature in use, base interval and level of a layer (R317, R368, R374). -/
def judgeLayer (k : Nat) (a : State × Found) : State × Found :=
  let s := a.1
  let cur := (s.layer k).level
  let t := s.tempInUse k
  let lvl := nextLevel 85 95 105 cur t.1
  let s := s.updLayer k (fun x => { x with temp := t.1, basis := BitVec.ofNat 2 t.2, level := lvl })
  let selfRefresh := (List.range 32).any (fun q => (s.slice q k).selfRefresh)
  let s := if selfRefresh then s else setBase k (nextBase (s.layer k).base t.1) s
  let f := a.2
  let f := if cur < 1 ∧ 1 ≤ lvl then { f with warn := f.warn ++ [(k, t.1)] } else f
  let f := if cur < 2 ∧ 2 ≤ lvl then { f with throttle := f.throttle ++ [(k, t.1)] } else f
  let f := if cur < 3 ∧ 3 ≤ lvl then { f with trip := f.trip ++ [(k, t.1, t.2)] } else f
  (s, f)

/-- The powered layers that have lost thermal coverage: no working sensor and a suspect model (R373). -/
def State.uncovered (s : State) : List Nat :=
  if s.thm.modelSuspect then
    (List.range 18).filter (fun k => (s.layer k).powered && (s.layer k).suspectA && (s.layer k).suspectB)
  else []

/-- Temperature in use and level of the base die (R368, R374). -/
def judgeBaseLevel (a : State × Found) : State × Found :=
  let s := a.1
  let cur := s.thm.baseLevel
  let t := (s.baseHigh 16).getD s.thm.baseTemp
  let lvl := nextLevel 95 105 115 cur t
  ({ s with thm.baseTemp := t, thm.baseLevel := lvl, otp.burnHeld := s.otp.burnHeld || (decide (1 ≤ lvl) && s.otp.job.isSome) },
   { a.2 with baseLevels := (List.range 4).filter (fun l => decide (cur < l) && decide (l ≤ lvl)) })

/-- Events of one source in one sample (R414), with the detail of the first (R427). -/
def thermalEvents (src : Nat) (l : List (Nat × Int)) (s : State) : State :=
  match l with
  | [] => s
  | (c, t) :: _ => faultMany src l.length { cause := BitVec.ofNat 8 c, temp := BitVec.ofInt 11 t } s

/-- Markings: a raise of DEGR on a source, further ones of the sample counted (R371, R414, R416). -/
def markEvents (src : Nat) (l : List (Nat × Int)) (s : State) : State :=
  match l with
  | [] => s
  | (c, t) :: r => (raiseFault src 2 { cause := BitVec.ofNat 8 c, temp := BitVec.ofInt 11 t } 1 s).updSrc src
      (fun x => { x with total := satAdd x.total r.length })

/-- The trips that a sample found: layers first, then the base die. -/
def Found.trips (f : Found) (base : Int) : List (Nat × Int × Nat) :=
  f.trip ++ (if f.baseLevels.contains 3 then [(0x20, base, 4)] else [])

/-- The first trip found is recorded; outside BOOT the trip sequence begins with it (R35, R93, R376). -/
def tripFirst (f : Found) (s : State) : State :=
  match f.trips s.thm.baseTemp with
  | [] => s
  | (src, t, basis) :: _ =>
    if s.mode = .boot then noteTrip src t (queueRecord (s.tripRecord src basis t) s) else tripBegin src basis t s

/-- The events of a trip source: in BOOT the first one is a GRAVE fault (R93). -/
def tripEvents (boot : Bool) (src : Nat) (l : List (Nat × Int)) (s : State) : State :=
  match l with
  | [] => s
  | (c, t) :: _ => if boot then raiseFault src 4 { cause := BitVec.ofNat 8 c, temp := BitVec.ofInt 11 t } 1 s else thermalEvents src l s

/-- The loss of thermal coverage (R373). -/
def coverageLost (l : List Nat) (s : State) : State :=
  match l with
  | [] => s
  | k :: _ => raiseFault 222 4 { cause := BitVec.ofNat 8 k, temp := BitVec.ofInt 11 (s.layer k).temp } 3 s

/-- What follows a sample's trips, sources in ascending order (R420). -/
def actRest (f : Found) (base : Int) (boot : Bool) (s : State) : State :=
  let bl : Nat → List (Nat × Int) := fun l => if f.baseLevels.contains l then [(0x20, base)] else []
  let m := (if f.warn ≠ [] ∨ f.baseLevels.contains 1 then 1 else 0) + (if f.throttle ≠ [] ∨ f.baseLevels.contains 2 then 2 else 0)
    + (if f.layerMarks ≠ [] ∨ f.baseMarks ≠ [] then 4 else 0) + (if f.model then 8 else 0) + (if f.conv = 0 then 0 else 32)
  let s := forN 6 (fun i s => if m.testBit i then setThmAlert (BitVec.ofNat 6 (2 ^ i)) s else s) s
  let s := thermalEvents 213 f.throttle (thermalEvents 212 f.warn s)
  let s := tripEvents boot 214 (f.trip.map (fun x => (x.1, x.2.1))) s
  let s := tripEvents boot 217 (bl 3) (thermalEvents 216 (bl 2) (thermalEvents 215 (bl 1) s))
  let s := markEvents 219 f.baseMarks (markEvents 218 f.layerMarks s)
  let s := if f.model then markEvents 220 [(0, 0)] s else s
  tripDown (faultMany 223 f.conv {} (coverageLost f.lost s))

/-- The effects of what a sample found, a trip first (R35). -/
def actOn (f : Found) (s : State) : State := actRest f s.thm.baseTemp (decide (s.mode = .boot)) (tripFirst f s)

/-- The thermal unit runs: on the supervisor island, not in HOLD or TRIP (R37, R39, R377). -/
def State.thermalRuns (s : State) : Bool :=
  decide (s.mode ≠ .hold) && decide (s.mode ≠ .trip) && decide (s.pwr.rung ≤ 3)
    && (decide (s.mode ≠ .boot) || decide (8 ≤ s.boot.step))

/-- The readings of one sample taken and judged (R370). -/
def sample (t : List SensorReading) (s : State) : State :=
  let ks := (List.range 18).filter (fun k => (s.layer k).powered && t.any (fun r =>
    match r.sensor with | .layerA j => decide (j.val = k) | .layerB j => decide (j.val = k) | .base _ => false))
  let is := (List.range 16).filter (fun i => t.any (fun r => match r.sensor with | .base j => decide (j.val = i) | _ => false))
  let a := t.foldl takeReading (s, {})
  let a := judgeBase is (if is = [] then a else judgeBaseLevel a)
  let a := (forL ks diverge a.1, a.2)
  let a := ks.foldl (fun a k => markPair k a) a
  let a := judgeModel ks a
  let a := ks.foldl (fun a k => judgeLayer k a) a
  let s := actOn { a.2 with lost := a.1.uncovered } a.1
  if s.mode = .service ∨ s.mode = .retain then forN 32 (fun q s => if s.pc q = {} then s else calDue q s) s else s

/-- HOLD was entered in this tick, from SERVICE, RETAIN or FACTORY: the mode it was entered from (R35). -/
def State.heldNow (s : State) : Option Mode :=
  match s.flt.holdAt with
  | some (t, m) => if s.mode = .hold ∧ t = s.now ∧ m ≠ .boot then some m else none
  | none => none

/-- A trip that arrives in the tick in which a GRAVE fault has entered HOLD (R35): TRIP instead; the latch stays set, and the trip
record goes before the grave record by its priority. -/
def tripOver (f : Found) (s : State) : State :=
  match s.heldNow with
  | some m => if f.trips s.thm.baseTemp = [] then s else actOn f { s with mode := m, holdCause := 0, flt.holdAt := none }
  | none => s

/-- The trip levels that a sample's readings of sensors in use reach (R374), where the layers have just been switched off. -/
def State.lateTrips (s : State) (t : List SensorReading) : Found :=
  let off : Int := if s.thm.vrefBad then 8 else 0
  let hot : Option Temp → Int → Bool := fun v lim => v.any (fun v => decide (degC lim ≤ v.val + off))
  { trip := t.filterMap (fun r => match r.sensor with
      | .layerA k => if !(s.layer k.val).suspectA && hot r.value 105 then some (k.val, (r.value.getD 0).val + off, 0) else none
      | .layerB k => if !(s.layer k.val).suspectB && hot r.value 105 then some (k.val, (r.value.getD 0).val + off, 0) else none
      | .base _ => none)
    baseLevels := if t.any (fun r => match r.sensor with
      | .base i => !(s.baseSensor i.val).suspect && hot r.value 115
      | _ => false) then [3] else [] }

/-- THERMAL_SAMPLE (R35, R364, R365, R368, R370 to R376). -/
def execThermalSample (t : List SensorReading) (s : State) : Host.Outcome State Fault Refusal :=
  .next (if s.thermalRuns then sample t s else tripOver (s.lateTrips t) s)

/-- MODEL_UPDATE (R366). -/
def execModelUpdate (s : State) : Host.Outcome State Fault Refusal :=
  if s.thermalRuns then
    let nodes := (List.range 18).flatMap s.nodeList
    let lower := (List.range 16).map (fun i => ((s.baseSensor i).reading).getD 0)
    let upper := lower.drop 8
    let w := s.thm.work
    let s := forN 18 (fun k s => if s.fitted k then s.updLayer k (fun x => { x with
      nodes := (List.range 16).foldl (fun l i => tabSet 0 l i (Config.thermalNode k i w nodes lower upper)) x.nodes }) else s) s
    let s := forN 16 (fun i s => { s with thm.sensors := tabSet {} s.thm.sensors i { s.baseSensor i with
      node := Config.baseNode i w nodes lower upper } }) s
    .next { s with thm.work := [], thm.history := w :: s.thm.history.take 999 }
  else .next s

/-- A calibration round (R364): VREF_EXT within 1.000 V ± 1 %, or the round is skipped. -/
def sensorRound (vref : BitVec 12) (s : State) : State :=
  let s := { s with thm.vref := vref }
  if 1980 ≤ vref.toNat ∧ vref.toNat ≤ 2020 then { s with thm.vrefBad := false, thm.lastRound := some s.now }
  else fault 221 {} (setThmAlert 16 { s with thm.vrefBad := true })

/-- SENSOR_CALIBRATION (R364). -/
def execSensorCalibration (vref : BitVec 12) (s : State) : Host.Outcome State Fault Refusal :=
  .next (if s.thermalRuns then sensorRound vref s else s)

/-! ## Wear (R158) -/

/-- The least integer root bound: 2^(32 + q/40) rounded down, by bisection of its fortieth power. -/
def rateBits : Nat → Nat → Nat → Nat
  | 0, _, lo => lo
  | n + 1, target, lo =>
    let mid := lo + 2 ^ n
    if mid ^ 40 ≤ target then rateBits n target mid else rateBits n target lo

/-- Weighted seconds per second at a temperature, in units of 2⁻³² s: 2^(32 + (T − 85 °C) / 10 °C), rounded down. -/
def wearRate (t : Int) : Nat :=
  let e : Int := 32 * 40 + (t - degC 85)
  if e < 0 then 0 else rateBits 64 (2 ^ e.toNat) 0

/-- Weighted time added to layer k, and to the base die, for n seconds at a temperature. -/
def chargeLayer (k n : Nat) (t : Int) (s : State) : State := s.updLayer k (fun x => { x with wear := x.wear + n * wearRate t })
def chargeBase (n : Nat) (t : Int) (s : State) : State := { s with jnl.baseWear := s.jnl.baseWear + n * wearRate t }

/-- Entries of the ledger at 900 per mille or above. -/
def State.wornOut (s : State) : Nat :=
  b2n (decide (900 ≤ perMille s.jnl.baseWear)) + ((List.range 18).filter (fun k => decide (900 ≤ perMille (s.layer k).wear))).length

/-- A charge that takes an entry to 900 per mille raises DEGR on source 232 (R158). -/
def chargeAll (f : State → State) (s : State) : State :=
  let s' := f s
  if s.wornOut < s'.wornOut then raiseFault 232 2 {} 1 s' else s'

/-- WEAR_ACCRUAL (R158): one second for every powered layer, and for the base die while VDD_CORE is on. -/
def execWearAccrual (s : State) : Host.Outcome State Fault Refusal :=
  if s.pwrgood ∧ s.pwr.rung ≤ 3 ∧ s.boot.step6 ∧ s.mode ≠ .trip then
    .next (chargeAll (fun s => chargeBase 1 s.thm.baseTemp
      (forN 18 (fun k s => if (s.layer k).powered then chargeLayer k 1 (s.layer k).temp s else s) s)) s)
  else .next s

/-- WEAR_LEDGER_DUE (R158). -/
def execWearLedgerDue (s : State) : Host.Outcome State Fault Refusal :=
  .next (if s.mode = .service ∨ (s.mode = .retain ∧ s.pwr.rung = 3) then queueRecord (ledgerRecord s) s else s)

end Sys2Proof.Machine
end

