-- ==== Sys2Proof/Machine/Journal.lean ====
section
/-! DEFINITION. The journal region (R149 to R157): records as bytes, checkpoints, sector entry, the write of the head record, a management read. -/

namespace Sys2Proof.Machine

/-- A record exists (R150). -/
def exists_ (r : JournalRecord) : Bool := decide (r.commit = 0x3C)

/-- Bytes a record takes, its padding to 16 included (R149). -/
def recordSize (payload : Nat) : Nat := (payload + 24 + 15) / 16 * 16

/-- Bytes 0x01 to 0x0F + LENGTH of a record (R149). -/
def recordBody (r : JournalRecord) : List Byte :=
  [r.kind, r.inst, 1] ++ leBytes 2 r.payload.length ++ [0, 0] ++ leBytes 4 r.seq.toNat ++ leBytes 4 r.boot.toNat ++ r.payload

/-- What CHECK must be (R149): the first 64 bits of SHAKE256 over the record's body. -/
def recordCheck (r : JournalRecord) : BitVec 64 := (shake256 (recordBody r)).extractLsb' 0 64

/-- CHECK of a record matches (R149, R150). -/
def checkOk (r : JournalRecord) : Bool := decide (r.check = recordCheck r)

/-- Region offset of a record. -/
def recordAt (r : JournalRecord) : Nat := r.sector.val * 4096 + r.offset.toNat

/-- The newest existing record that meets f, by SEQ. -/
def newestOf (l : List JournalRecord) (f : JournalRecord → Bool) : Option JournalRecord :=
  (l.filter (fun r => exists_ r && f r)).foldl (fun m r => match m with
    | none => some r
    | some x => if x.seq.toNat < r.seq.toNat then some r else some x) none

/-- A fault record whose class was GRAVE (R152). -/
def graveRecord (r : JournalRecord) : Bool := decide (r.kind = 1) && decide (ofLe (r.payload.take 4) / 256 % 8 = 4)

/-- The selections a checkpoint lists (R152): kinds 3 to 7 by instance, the newest trip, the newest grave fault record. -/
def checkpointSel : List (JournalRecord → Bool) :=
  [3, 4].map (fun k => fun r => decide (r.kind = BitVec.ofNat 8 k))
    ++ (List.range 32).map (fun q => fun r => decide (r.kind = 5) && decide (r.inst = BitVec.ofNat 8 q))
    ++ [6, 7, 2].map (fun k => fun r => decide (r.kind = BitVec.ofNat 8 k)) ++ [graveRecord]

/-- A checkpoint payload (R152). -/
def checkpoint (l : List JournalRecord) : List Byte :=
  checkpointSel.flatMap (fun f => match newestOf l f with
    | some r => [r.kind, r.inst, 0, 0] ++ leBytes 3 (recordAt r) ++ [0] ++ leBytes 4 r.seq.toNat
    | none => [])

/-- The records that must survive the erase of their sector (R154): the newest of their (KIND, INSTANCE), of fault records too, the newest
trip and the newest grave fault record. -/
def keptRecords (l : List JournalRecord) (sector : Nat) : List JournalRecord :=
  ((checkpointSel ++ [fun (r : JournalRecord) => decide (r.kind = 1)]).filterMap (newestOf l)).dedup.filter (fun r => decide (r.sector.val = sector))

/-- The records that a checkpoint names (R152): by region offset and SEQ. -/
def namedBy (l : List JournalRecord) (c : JournalRecord) : List JournalRecord :=
  let entry : Nat → Nat × Nat := fun i => (ofLe ((c.payload.drop (12 * i + 4)).take 3), ofLe ((c.payload.drop (12 * i + 8)).take 4))
  l.filter (fun r => exists_ r && (List.range (c.payload.length / 12)).any (fun i => decide (entry i = (recordAt r, r.seq.toNat))))

/-- The checkpoint of a sector: the existing record at its start (R152). -/
def checkpointAt (l : List JournalRecord) (sector : Nat) : Option JournalRecord :=
  l.find? (fun r => exists_ r && decide (r.sector.val = sector) && decide (r.offset = 0) && decide (r.kind = 8))

/-- The head sector (R152): the one whose checkpoint has the highest SEQ. -/
def headSector (l : List JournalRecord) : Option Nat :=
  (newestOf l (fun r => decide (r.offset = 0) && decide (r.kind = 8))).map (·.sector.val)

/-- The checkpoint that the scan uses: the head's, or that of one of the four sectors before it; with the number of sectors gone back. -/
def usableCheckpoint (l : List JournalRecord) : Option (Nat × JournalRecord) :=
  (headSector l).bind (fun h => (List.range 5).findSome? (fun d =>
    ((checkpointAt l ((h + 2048 - d) % 2048)).filter checkOk).map (fun c => (d, c))))

/-- The records that step 6 reads (R152): those that the checkpoint names and those of the sectors walked; without a usable checkpoint,
all of the region. -/
def scanned (l : List JournalRecord) : List JournalRecord :=
  match usableCheckpoint l with
  | some (d, c) =>
    let walked : JournalRecord → Bool := fun r => (List.range (d + 1)).any (fun i => decide ((c.sector.val + i) % 2048 = r.sector.val))
    namedBy (l.filter (fun r => !walked r)) c ++ l.filter walked
  | none => l

/-- The sector in which the write pointer stands: the head sector, or without a checkpoint that of the newest record. -/
def pointerSector (l : List JournalRecord) : Option Nat :=
  match headSector l with | some h => some h | none => (newestOf l (fun _ => true)).map (·.sector.val)

/-- A record programmed at the write pointer, committed or not. -/
def putRecord (kind inst : Byte) (payload : List Byte) (commit : Byte) (s : State) : State :=
  let j := s.jnl
  let r : JournalRecord :=
    { sector := Fin.ofNat 2048 j.sector, offset := BitVec.ofNat 12 j.offset, commit := commit, kind := kind, inst := inst,
      seq := j.seq + 1, boot := j.bootCount, payload := payload, check := 0 }
  { s with jnl := { j with records := j.records ++ [{ r with check := recordCheck r }], seq := if commit = 0x3C then j.seq + 1 else j.seq,
                           offset := j.offset + recordSize payload.length } }

/-- A record written and committed at the write pointer (R151, R154): at the start of a sector its checkpoint goes first, and
the second sector ahead is erased once its newest records are copied forward; a record that does not fit opens the next sector. -/
def appendRecord : Nat → Byte → Byte → List Byte → State → State
  | 0, _, _, _, s => s
  | n + 1, kind, inst, payload, s =>
    let s := if s.jnl.offset = 0 then
        let s := putRecord 8 0xFF (checkpoint s.jnl.records) 0x3C s
        let victim := (s.jnl.sector + 2) % 2048
        let s := (keptRecords s.jnl.records victim).foldl (fun s r => appendRecord n r.kind r.inst r.payload s) s
        { s with jnl.records := s.jnl.records.filter (fun r => decide (r.sector.val ≠ victim)) }
      else s
    if s.jnl.offset + recordSize payload.length ≤ 4096 then putRecord kind inst payload 0x3C s
    else appendRecord n kind inst payload { s with jnl.sector := (s.jnl.sector + 1) % 2048, jnl.offset := 0 }

/-- The head of the queue: the lowest priority number, the oldest of equals (R155). -/
def State.journalHead (s : State) : Option JQueued := leastBy (fun j => j.prio) s.jnl.queue

/-- What a committed record brings with it: the trip record's (R376), a self-test's result in a shut-down (R487 step 6). -/
def committed (j : JQueued) (s : State) : State :=
  if j.kind = 2 then
    let s := { s with thm.tripCommitted := true }
    if s.thm.tripWait then tripPin s else s
  else if j.kind = 3 ∧ s.bist.shutDown ∧ s.bist.phase = 5 then shutdownDone s
  else s

/-- The NVM controller can write: on the powered supervisor island, from the end of BOOT step 6, no restart in progress but for a
trip (R23, R24, R39, R90). -/
def State.journalRuns (s : State) : Bool :=
  s.boot.step6 && s.sup.running && (!s.sup.restarting || decide (s.mode = .trip))

/-- The record whose write may end now (R155): the head of the queue; while a management read waits, only the write that was under way
when it was asked for. -/
def State.writable (s : State) : Option JQueued :=
  match s.mb.busy with
  | some (4, _) => s.jnl.underWay.filter s.jnl.queue.contains
  | _ => s.journalHead

/-- JOURNAL_RECORD_WRITE (R151, R153 to R157): the write of a record has ended, with the sector entry that it may have brought. Its
checkpoint and its erase have ended too, so ERASING is 0 then; after a failure the pointer enters the next sector at once, and ERASING is 1
until the next write ends or fails (R154, R160; log 71). -/
def execJournalRecordWrite (o : WriteOutcome) (s : State) : Host.Outcome State Fault Refusal :=
  if !s.journalRuns then .next s
  else
    match s.writable with
    | none => .next s
    | some j =>
      let s := { s with jnl.erasing := false, jnl.underWay := none }
      match o with
      | .committed =>
        let s := { s with jnl.queue := dropFirst (fun x => decide (x = j)) s.jnl.queue, jnl.failCount := 0 }
        .next (shutdownAdvance (committed j (appendRecord 4 j.kind j.inst j.payload s)))
      | .failed =>
        let s := if s.jnl.offset + recordSize j.payload.length ≤ 4096 then putRecord j.kind j.inst j.payload 0xFF s else s
        let s := { s with jnl.sector := (s.jnl.sector + 1) % 2048, jnl.offset := 0, jnl.failCount := s.jnl.failCount + 1 }
        let s := fault 229 {} s
        if s.jnl.failCount = 8 then
          .next (shutdownAdvance (raiseFault 229 2 {} 1 { s with jnl.suspended := true, jnl.queue := [] }))
        else .next { s with jnl.erasing := true }

/-! ## Bytes of the region (R149, R160) -/

/-- A record's bytes with CHECK. -/
def recordBytes (r : JournalRecord) : List Byte := r.commit :: recordBody r ++ leBytes 8 r.check.toNat

/-- Byte a of the journal region; unprogrammed bytes read 0xFF. -/
def State.journalByte (s : State) (a : Nat) : Byte :=
  match s.jnl.records.find? (fun r => decide (recordAt r ≤ a) && decide (a < recordAt r + 24 + r.payload.length)) with
  | some r => (recordBytes r).getD (a - recordAt r) 0xFF
  | none => 0xFF

/-- 64 bytes of the region read into JNL_READ_BUF (R160). -/
def readJournal (s : State) : State :=
  let a := s.jnl.readAddr.toNat * 64
  { s with jnl.readBuf := (List.range 64).map (fun i => s.journalByte (a + i)) }

end Sys2Proof.Machine
end

