-- ==== Sys2Proof/Machine/Otp.lean ====
section
/-! DEFINITION. The OTP block (R128 to R148): fuses, burns by the supervisor and by management, shadows and overrides. -/

namespace Sys2Proof.Machine

/-! ## Fuses -/

/-- The 64 bits of a row that read 1 at either margin. -/
def State.fuseRow (s : State) (r : Nat) : BitVec 64 := tabGet 0 s.otp.rows r
/-- A control field: 0 to 15 redirection, 16 to 63 lock (R130). -/
def State.fuseField (s : State) (k : Nat) : BitVec 16 := tabGet 0 s.otp.fields k
/-- A control field reads blank at both margins (R130, R143). -/
def State.fieldBlank (s : State) (k : Nat) : Bool := (s.fuseRow (496 + k / 4)).extractLsb' (16 * (k % 4)) 16 == 0

/-- The check bits of 56 data bits (R129): the sum of the columns of the bits that are 1. -/
def checkBits (code : List (BitVec 8)) (d : BitVec 56) : BitVec 8 :=
  (code.zipIdx.filter (fun e => d.getLsbD e.2)).foldl (fun c e => c ^^^ e.1) 0

/-- The syndrome of a row's 64 bits (R129). -/
def syndrome (code : List (BitVec 8)) (w : BitVec 64) : BitVec 8 := checkBits code (w.extractLsb' 0 56) ^^^ w.extractLsb' 56 8

/-- A row read passes (R129): its syndrome is zero. -/
def readPasses (code : List (BitVec 8)) (w : BitVec 64) : Bool := w == 0 || syndrome code w == 0

/-- The 64 bits that a burn of data bits blows (R129): in the LEAF counter, which has no check bits (R139), the data alone. -/
def rowBits (code : List (BitVec 8)) (row : Nat) (d : BitVec 56) : BitVec 64 :=
  if 102 ≤ row ∧ row < 134 then d.zeroExtend 64 else checkBits code d ++ d

/-- Shadow of row n (R140). -/
def State.shadow (s : State) (n : Nat) : BitVec 56 := tabGet 0 s.otp.shadow n

/-- What the shadow of a LEAF row shows (R140): the row's bits [55:0] that read 1 at either margin. The row has no data bits and check
bits of its own, so its last four pairs are not shown (log 69). -/
def leafShadow (s : State) (row : Nat) : BitVec 56 := (s.fuseRow row).extractLsb' 0 56

/-- Bits of a row blown. -/
def blowRow (row : Nat) (v : BitVec 64) (s : State) : State := { s with otp.rows := tabSet 0 s.otp.rows row (s.fuseRow row ||| v) }

/-- A shadow and its retention copy overridden (R142). -/
def override (row : Nat) (v : BitVec 56) (s : State) : State :=
  { s with otp.shadow := tabSet 0 s.otp.shadow row v, otp.retShadow := tabSet 0 s.otp.retShadow row v,
           otp.overridden := if s.otp.overridden.contains row then s.otp.overridden else s.otp.overridden ++ [row] }

/-- A control field's 16 bits for a payload (R130): the check is the number of zero bits. -/
def fieldBits (payload : BitVec 10) : BitVec 16 :=
  BitVec.ofNat 16 (payload.toNat + 1024 * (10 - popBelow 10 payload.toNat))

/-- A control field that is not blank has a valid check (R130). -/
def fieldOk (f : BitVec 16) : Bool := decide (f = fieldBits (f.extractLsb' 0 10))

/-- The locked payload (R134). -/
def lockedField : BitVec 16 := fieldBits 0x2D5

/-- Spare rows not in use: blank, and with a blank redirection field. -/
def State.freeSpares (s : State) : List Nat :=
  (List.range 16).filter (fun k => decide (s.fuseRow (480 + k) = 0) && s.fieldBlank k && !s.otp.sparesUsed.contains k)

/-! ## When a burn may start (R63, R143) -/

/-- VPP_FUSE passes its check. -/
def vppOk (t : BurnTry) : Bool := decide (2400 ≤ t.vppMilliVolt) && decide (t.vppMilliVolt ≤ 2600)

/-- Every base-die sensor reads below a temperature in °C (R143, R146). A sensor that has no reading does not stand in the way (log 69). -/
def State.baseBelow (s : State) (t : Int) : Bool :=
  (List.range 16).all (fun i => match (s.baseSensor i).reading with | some v => decide (v < degC t) | none => true)

/-- A supervisor burn may start now: in SERVICE, with VPP_FUSE and temperature in range, no restart in progress. -/
def State.supBurn (s : State) (t : BurnTry) : Bool :=
  decide (s.mode = .service) && !s.sup.restarting && vppOk t && s.baseBelow 95

/-! ## Layer antifuse (R147, R148) -/

/-- The entry word of R147. -/
def AfEntry.word (e : AfEntry) : Nat :=
  pack [(if e.spare then e.y else 0, 5), (if e.spare then e.x else e.y * 128 + e.x * 512, 14), (e.bank, 4), (e.q % 2, 1), (e.q / 2, 4),
    (if e.spare then 1 else 2, 4)]

/-- The bits of an entry's three burns, in the order of R147: entry word, commit byte 0x5A, lock bit. -/
def AfEntry.burns (e : AfEntry) : List (BitVec 41) :=
  [BitVec.ofNat 41 e.word, BitVec.ofNat 41 (0x5A * 2 ^ 32), BitVec.ofNat 41 (2 ^ 40)]

/-- The bits of place i of layer index k that are blown. -/
def State.afPlace (s : State) (key : Nat) : BitVec 41 := tabGet 0 s.otp.antifuse key

/-- The valid entries of a layer as blown. -/
def State.afEntries (s : State) (k : Nat) : List AfEntry :=
  (s.otp.antifuse.filter (fun e => decide (e.1 / 256 = k))).filterMap (fun e => afEntry k e.2)

/-- A place whose commit byte is blown or not, and whose lock bit is blank: valid and open, or torn (R136). -/
def State.afOpen (s : State) : Option Nat :=
  (s.otp.antifuse.find? (fun e => decide (e.2 ≠ 0) && !e.2.getLsbD 40)).map (·.1)

/-- The lowest blank place of a layer's array. -/
def State.afFree (s : State) (k : Nat) : Option Nat := ((List.range 256).map (256 * k + ·)).find? (fun i => decide (s.afPlace i = 0))

/-- The next burn of a layer's array: of the entry under burn, the lock of a place left open or torn, or of the oldest entry that waits.
An entry whose spare index a valid entry already uses is never burnt, nor one for which no place is blank (R148): it leaves the queue. -/
def State.nextAf (s : State) : Option (Nat × AfEntry × List (BitVec 41)) :=
  match s.otp.afJob, s.afOpen, s.otp.afQueue with
  | some j, _, _ => some j
  | none, some i, _ => some (i, { layer := i / 256, q := 0, bank := 0, spare := false, x := 0, y := 0 }, [BitVec.ofNat 41 (2 ^ 40)])
  | none, none, e :: _ =>
    let used := e.spare && (s.afEntries e.layer).any (fun x => x.spare && decide (x.q = e.q) && decide (x.bank = e.bank) && decide (x.y = e.y))
    match (if used then none else s.afFree e.layer) with
    | some i => some (i, e, e.burns)
    | none => none
  | none, none, [] => none

/-- A layer antifuse burn may start at a layer temperature (R143, R147): below 85 °C, or below 82 °C where that test has paused it. -/
def State.afMay (s : State) (t : BurnTry) (layerTemp : Temp) : Bool :=
  decide (s.mode = .service) && !s.sup.restarting && vppOk t && decide (layerTemp.val < degC (if s.otp.afHeld then 82 else 85))

/-- One burn of an entry: its bits blown; after the last the entry leaves the queue. A burn that fails all its pulses abandons the place,
which stays torn, and raises DEGR; the entry goes back to wait for another place (R144, R147; log 70). -/
def afStep (t : BurnTry) (key : Nat) (e : AfEntry) (l : List (BitVec 41)) (s : State) : State :=
  match l, t.pulses with
  | [], _ => { s with otp.afJob := none }
  | v :: rest, some _ =>
    let s := { s with otp.antifuse := tabSet 0 s.otp.antifuse key (s.afPlace key ||| v),
                      otp.afQueue := s.otp.afQueue.filter (fun x => decide (x ≠ e)) }
    { s with otp.afJob := if rest = [] then none else some (key, e, rest) }
  | v :: rest, none =>
    let s := { s with otp.afJob := none, otp.afQueue := if rest = [] ∨ s.otp.afQueue.contains e then s.otp.afQueue else s.otp.afQueue ++ [e],
                      otp.antifuse := tabSet 0 s.otp.antifuse key (s.afPlace key ||| (if rest = [] then 0 else v)) }
    raiseFault 228 2 {} 1 s

/-- LAYER_ANTIFUSE_BURN (R147, R148, R322, R342): one burn, of an entry word, its commit byte or its lock bit. -/
def execLayerAntifuseBurn (t : BurnTry) (layerTemp : Temp) (s : State) : Host.Outcome State Fault Refusal :=
  match s.nextAf with
  | none => .next { s with otp.afQueue := s.otp.afQueue.drop 1 }
  | some (key, e, l) =>
    if s.afMay t layerTemp then .next (afStep t key e l { s with otp.afHeld := false })
    else .next { s with otp.afHeld := s.otp.afHeld || (s.otp.afJob.isSome && decide (degC 85 ≤ layerTemp.val)) }

/-! ## Frames (R136, R145, R146) -/

/-- A key of a burn job: a row, or 512 + k for control field k. -/
def fieldKey (k : Nat) : Nat := 512 + k

/-- Two entries to a data row (R138). -/
def packEntries : List RepairEntry → List (BitVec 56)
  | [] => []
  | [a] => [BitVec.ofNat 56 a.code]
  | a :: b :: t => BitVec.ofNat 56 (a.code + 2 ^ 28 * b.code) :: packEntries t

/-- SEGCHECK over a header and data rows (R133). -/
def segCheck (l : List (BitVec 56)) : Nat := (shake256 (l.flatMap (fun r => leBytes 7 r.toNat))).toNat % 2 ^ 40

/-- The rows of a REPAIR frame in the order of R145: data rows, header, commit row, lock field. -/
def frameRows (f : Nat) (l : List RepairEntry) : List (Nat × BitVec 56) :=
  let base := 136 + 8 * f
  let data := packEntries l
  let header : BitVec 56 := BitVec.ofNat 56 (0x10 + 256 * (7 + f) + 65536 * data.length)
  let commit : BitVec 56 := BitVec.ofNat 56 (segCheck (header :: data) + 2 ^ 40 * 0xA55A)
  (data.zipIdx.map (fun e => (base + 1 + e.2, e.1))) ++ [(base, header), (base + 7, commit),
    (fieldKey (16 + 7 + f), BitVec.ofNat 56 lockedField.toNat)]

/-- The redirection field in force for data row r: the highest valid one that names it (R132). -/
def State.redirection (s : State) (r : Nat) : Option Nat :=
  (List.range 16).reverse.find? (fun k =>
    let f := s.fuseField k
    decide (f ≠ 0) && fieldOk f && f.getLsbD 9 && decide (f.toNat % 512 = r))

/-- A marginal word that is to be copied (R133): of IDENT, TRIM or BIST_EXP, not copied yet, and read from no redirection that is
sound: either none names the row, or the row was resolved by a marginal spare row. -/
def State.toCopy (s : State) (row : Nat) : Bool :=
  decide (row < 74) && s.otp.fails.contains (row, 1) && !s.otp.copied.contains row
    && ((s.redirection row).isNone || s.otp.fails.contains (row, 2))

/-- The copy of a marginal word of IDENT, TRIM or BIST_EXP to the lowest free spare row, then its redirection field (R133): a
job that belongs to no frame, numbered 41. Where a redirection names the row already, only a higher field takes its place (R132). -/
def State.copyJob (s : State) : Option (Nat × List (Nat × BitVec 56) × List RepairEntry) :=
  match (List.range 74).find? s.toCopy with
  | none => none
  | some row =>
    match s.freeSpares.find? (fun k => match s.redirection row with | some j => decide (j < k) | none => true) with
    | some k => some (41, [(480 + k, tabGet 0 s.otp.resolved row),
        (fieldKey k, BitVec.ofNat 56 (fieldBits (BitVec.ofNat 10 (512 + row))).toNat)], [])
    | none => none

/-- The next frame job, if any: the lock of a frame that is open or torn, else a new frame for the repairs that wait. -/
def State.frameJob (s : State) : Option (Nat × List (Nat × BitVec 56) × List RepairEntry) :=
  match (List.range 41).find? (fun f => decide (s.frame f = .validOpen) || decide (s.frame f = .torn)) with
  | some f => some (f, [(fieldKey (23 + f), BitVec.ofNat 56 lockedField.toNat)], [])
  | none =>
    if s.rep.burnQueue = [] then none
    else match (List.range 41).find? (fun f => decide (s.frame f = .free)) with
      | some f => some (f, frameRows f (s.rep.burnQueue.take 12), s.rep.burnQueue.take 12)
      | none => none

/-- The supervisor's next burn: marginal words first (R133), then the field frames. -/
def State.nextJob (s : State) : Option (Nat × List (Nat × BitVec 56) × List RepairEntry) :=
  match s.copyJob with | some j => some j | none => s.frameJob

/-- A row or control field blown, a row with its check bits (R129, R130). -/
def blow (key : Nat) (v : BitVec 56) (s : State) : State :=
  if key < 512 then blowRow key (rowBits s.otp.rom.code key v) s
  else
    let k := key - 512
    let s := blowRow (496 + k / 4) (BitVec.ofNat 64 (v.toNat % 2 ^ 16 * 2 ^ (16 * (k % 4)))) s
    { s with otp.fields := tabSet 0 s.otp.fields k (s.fuseField k ||| v.extractLsb' 0 16) }

/-- The target of a burn reads blank at both margins (R143). -/
def State.keyBlank (s : State) (key : Nat) : Bool := if key < 512 then s.fuseRow key == 0 else s.fieldBlank (key - 512)

/-- The row that a redirection field's bits send to its spare row. -/
def namedRow (v : BitVec 56) : Nat := v.toNat % 512

/-- The data row of a frame that a verified burn leaves readable: the row itself, or the one that the redirection field now sends to its
spare row (R132). -/
def servedRow (key : Nat) (v : BitVec 56) : Nat := if 512 ≤ key ∧ key < 528 then namedRow v else key

/-- What the end of a job's step makes of its frame: the commit row, in its place or in a spare row, makes it valid; the lock field
closes it (R136). -/
def frameStep (f key : Nat) (v : BitVec 56) (s : State) : State :=
  if servedRow key v = 136 + 8 * f + 7 then { s with otp.frames := tabSet .free s.otp.frames f .validOpen }
  else if key = fieldKey (23 + f) then
    { s with otp.frames := tabSet .free s.otp.frames f (if s.frame f = .validOpen then .valid else .closed) }
  else s

/-- The burnt entries leave the repair log and the queue; steering is shown as burnt (R145, REP_TSV_STEER). -/
def burntEntries (l : List RepairEntry) (s : State) : State :=
  let s := { s with rep.log := s.rep.log.filter (fun e => !l.contains e), rep.burnQueue := s.rep.burnQueue.filter (fun e => !l.contains e) }
  forL (l.filter (fun e => decide (e.kind = 1))) (fun e s =>
    let q := 2 * e.channel.toNat + b2n e.pc
    let i := e.detail.toNat % 4
    s.updPc q (fun x => { x with steer := x.steer.map (fun y => if y.1 = i then (y.1, { y.2 with burnt := true }) else y) })) s

/-- The supervisor overrides the shadow of a REPAIR frame's row with what it has burnt (R142): of the row itself, or of the row that a
redirection field sends to the spare row that carries its value. -/
def showBurnt (key : Nat) (v : BitVec 56) (s : State) : State :=
  let row := servedRow key v
  if 136 ≤ row ∧ row < 464 then override row (if key < 512 then v else (s.fuseRow (480 + (key - 512))).extractLsb' 0 56) s else s

/-- The head step of a job failed all its pulses (R144): the same value goes into the lowest free spare row, then that
spare's redirection field; without one the segment is abandoned, and a segment whose commit row has not been burnt stays torn. R144 speaks
of rows: a redirection field that fails abandons the segment too, and a lock field that fails ends the job without DEGR, its frame
counting as locked (R134), which leaves the entries in the repair log (log 43). -/
def burnFailed (f : Nat) (rest : List (Nat × BitVec 56)) (key : Nat) (v : BitVec 56) (s : State) : State :=
  let target := if key < 480 then some (key, rest)
    else if key < 496 then (match rest with | (_, w) :: t => some (w.toNat % 512, t) | [] => none)
    else none
  match target, s.freeSpares with
  | some (row, t), k :: _ =>
    { s with otp.sparesUsed := s.otp.sparesUsed ++ [k]
             otp.job := some (f, (480 + k, v) :: (fieldKey k, BitVec.ofNat 56 (fieldBits (BitVec.ofNat 10 (512 + row))).toNat) :: t) }
  | _, _ =>
    if key = fieldKey (23 + f) then
      -- a damaged lock counts as locked (R134)
      { frameStep f key v s with otp.job := none, otp.jobEntries := [] }
    else raiseFault 228 2 {} 1 { s with otp.job := none, otp.jobEntries := [] }

/-- One step of a job. A target that does not read blank at both margins is not burnt (R143): the job waits. -/
def burnStep (t : BurnTry) (s : State) : State :=
  match s.otp.job with
  | some (f, (key, v) :: rest) =>
    if !s.keyBlank key then s
    else match t.pulses with
    | none => burnFailed f rest key v s
    | some _ =>
      let s := showBurnt key v (frameStep f key v (blow key v s))
      if rest = [] then
        let l := s.otp.jobEntries
        let s := if f = 41 then { s with otp.copied := s.otp.copied ++ [namedRow v] } else s
        burntEntries l { s with otp.job := none, otp.jobEntries := [] }
      else { s with otp.job := some (f, rest) }
  | _ => { s with otp.job := none }

/-- FIELD_FRAME_BURN (R133, R136, R143 to R145): one row of the frame, in the order of R145, or of a marginal word's copy. -/
def execFieldFrameBurn (t : BurnTry) (s : State) : Host.Outcome State Fault Refusal :=
  if !s.supBurn t ∨ s.otp.burnHeld then .next s
  else
    match s.otp.job with
    | some _ => .next (burnStep t s)
    | none =>
      match s.nextJob with
      | none => .next s
      | some (f, rows, l) =>
        let s := { s with otp.job := some (f, rows), otp.jobEntries := l,
                          otp.sparesUsed := if f = 41 then s.otp.sparesUsed ++ (rows.take 1).map (fun e => e.1 - 480) else s.otp.sparesUsed }
        let s := if l = [] then s else { s with otp.frames := tabSet .free s.otp.frames f .torn }
        .next (burnStep t s)

/-- BURN_RESUME (R146). -/
def execBurnResume (s : State) : Host.Outcome State Fault Refusal :=
  .next (if s.otp.burnHeld ∧ s.baseBelow 92 then { s with otp.burnHeld := false } else s)

/-! ## Shadows (R141, R142) -/

/-- SHADOW_PARITY_ERROR (R141): restored from the retention copy; where that fails too, IDENT and TRIM words raise GRAVE, other
words read 0 and raise DEGR. -/
def execShadowParityError (row : Fin 480) (retentionBad : Bool) (s : State) : Host.Outcome State Fault Refusal :=
  if !retentionBad then
    .next (fault 228 {} { s with otp.shadow := tabSet 0 s.otp.shadow row.val (tabGet 0 s.otp.retShadow row.val) })
  else
    let s := fault 8 {} s
    if row.val < 48 then .next (raiseFault 228 4 {} 1 s)
    else .next (raiseFault 228 2 {} 1 { s with otp.shadow := tabSet 0 s.otp.shadow row.val 0 })

/-- OTP_OVR_CMD ACTION 0x1 (R142), in FACTORY. -/
def doOverride (s : State) : State :=
  let r := s.otp.ovrRow.toNat
  if s.mode = .factory ∧ r < 480 then override r (BitVec.ofNat 56 (s.otp.ovrLo.toNat + 2 ^ 32 * s.otp.ovrHi.toNat)) s else s

/-- OTP_OVR_CMD ACTION 0x2 (R142), in FACTORY: every overridden shadow takes its value before any override again. -/
def doClearOverrides (s : State) : State :=
  if s.mode = .factory then
    let back := fun (l : List (Nat × BitVec 56)) => s.otp.overridden.foldl (fun l r => tabSet 0 l r (tabGet 0 s.otp.resolved r)) l
    { s with otp.shadow := back s.otp.shadow, otp.retShadow := back s.otp.retShadow, otp.overridden := [] }
  else s

/-! ## A management burn (R143, R144, OTP_BURN_RESULT) -/

/-- The lock slot of a row that lies in a segment (R128). -/
def lockSlot (row : Nat) : Option Nat :=
  if row < 16 then some 0 else if row < 48 then some 1 else if row < 74 then some 2
  else if row < 102 then some (3 + (row - 74) / 7)
  else if 136 ≤ row ∧ row < 464 then some (7 + (row - 136) / 8) else none

/-- The row is the commit row of its segment. -/
def isCommitRow (row : Nat) : Bool :=
  row == 15 || row == 47 || row == 73 || row == 80 || row == 87 || row == 94 || row == 101
    || (decide (136 ≤ row) && decide (row < 464) && decide ((row - 136) % 8 = 7))

/-- What a management burn asks for: its key and the bits it blows. -/
def State.burnTarget (s : State) : Nat × BitVec 56 :=
  if s.otp.burnField then
    (fieldKey s.otp.burnIdx.toNat, BitVec.ofNat 56 (fieldBits (s.otp.burnLo.extractLsb' 0 10)).toNat)
  else (s.otp.burnRow.toNat, BitVec.ofNat 56 (s.otp.burnLo.toNat + 2 ^ 32 * s.otp.burnHi.toNat))

/-- The bits that must be blank: the whole target, or in the LEAF counter the pairs that the burn blows (R143). -/
def State.targetBlank (s : State) (key : Nat) (v : BitVec 56) : Bool :=
  if 102 ≤ key ∧ key < 134 then
    let w := s.fuseRow key
    (List.range 28).all (fun i => !((v.getLsbD (2 * i) || v.getLsbD (2 * i + 1)) && (w.getLsbD (2 * i) || w.getLsbD (2 * i + 1))))
  else s.keyBlank key

/-- OTP_BURN_CMD.GO (R143, R144, R135): the result code, and the bits blown where it is done. ROW 496 to 511 with FIELD 0 names no row
that may be burnt, and nothing happens (log 69). -/
def doBurn (t : BurnTry) (s : State) : State :=
  let k := s.burnTarget
  let set : Nat → Nat → State → State := fun c n s => { s with otp.burnCode := BitVec.ofNat 4 c, otp.burnPulses := BitVec.ofNat 3 n }
  let locked := !s.otp.burnField && isCommitRow k.1 && (match lockSlot k.1 with
    | some j => !s.fieldBlank (16 + j)
    | none => false)
  if !s.otp.burnField && decide (496 ≤ s.otp.burnRow.toNat) then s
  else if s.mode ≠ .factory then set 7 0 s
  else if !vppOk t then set 2 0 s
  else if !s.baseBelow 95 then set 3 0 s
  else if locked then set 6 0 s
  else if !s.targetBlank k.1 k.2 then set 4 0 s
  else match t.pulses with
    | none => set 5 4 s
    | some n => blow k.1 k.2 (set 1 (n.val + 1) s)

end Sys2Proof.Machine
end

