-- ==== Sys2Proof/Machine/Attest.lean ====
section
/-! DEFINITION. Attestation (R447 to R461): the report, its signing, block entry, the allowance. -/

namespace Sys2Proof.Machine

/-! ## What a report carries -/

/-- Sources at a class, as FLT_SUMMARY shows them (R434). -/
def State.sourcesAt (s : State) (c : Nat) : Nat := ((List.range 256).filter (fun n => decide (s.srcClass n = c))).length

/-- FLT_SUMMARY (R434). -/
def State.fltSummary (s : State) : Word :=
  packW [(min 255 (s.sourcesAt 1), 8), (min 255 (s.sourcesAt 2), 8), (min 255 (s.sourcesAt 3), 8), (b2n s.grave, 1)]

/-- REP_LOSS (R362). -/
def State.repLoss (s : State) : Word :=
  packW [(s.rep.lossSlices.toNat, 8), (s.rep.lossBanks.toNat, 8), (s.rep.lossPcs.toNat, 6)]

/-- PER_MILLE of JNL_WEAR[k] (R160): the base die, then the layers; 0 for one that is not fitted. -/
def State.wearPerMille (s : State) (k : Nat) : Nat :=
  min 65535 (if k = 0 then perMille s.jnl.baseWear else if s.fitted (k - 1) then perMille (s.layer (k - 1)).wear else 0)

/-- SHAKE256 of the resolved data of rows 0 to 101. -/
def State.otpDigest (s : State) : BitVec 256 :=
  shake256 ((List.range 102).flatMap (fun r => leBytes 7 (s.shadow r).toNat))

/-- The 68-byte identity public key. -/
def State.pubKey (s : State) : List Byte :=
  match s.otp.ident with | some i => i.pubKey.flatMap (fun w => leBytes 4 w.toNat) | none => List.replicate 68 0

/-- The 192-byte report body (R455). -/
def State.reportBody (s : State) (requester : Nat) (nonce : BitVec 256) (leaf : Nat) : List Byte :=
  let id := match s.otp.ident with | some i => i.deviceId.toNat | none => 0
  let im := s.image.getD { sequence := 0, signer := 0, headerDigest := 0, codeDigest := 0 }
  leBytes 4 0x54524C43 ++ leBytes 2 1 ++ [BitVec.ofNat 8 requester, BitVec.ofNat 8 s.mode.code] ++ leBytes 16 id
    ++ leBytes 4 leaf ++ leBytes 4 s.jnl.bootCount.toNat ++ leBytes 32 nonce.toNat ++ leBytes 32 im.headerDigest.toNat
    ++ leBytes 32 im.codeDigest.toNat ++ leBytes 32 s.otpDigest.toNat ++ leBytes 4 im.sequence.toNat
    ++ [BitVec.ofNat 8 s.boot.imageSel.toNat, im.signer, BitVec.ofNat 8 (s.otp.ownerSlot.getD 0xFF), 0]
    ++ leBytes 4 s.fltSummary.toNat ++ leBytes 4 s.repLoss.toNat
    ++ leBytes 2 ((List.range 19).foldl (fun m k => max m (s.wearPerMille k)) 0) ++ List.replicate 14 0

/-- The 3,080-byte report (R455): body, signature with its four index bytes first, public key. -/
def State.report (s : State) (requester : Nat) (nonce : BitVec 256) (leaf : Nat) : List Byte :=
  let body := s.reportBody requester nonce leaf
  body ++ (leBytes 4 leaf).reverse ++ (List.range 2816).map (fun i => Config.xmssSignature leaf body (i + 4)) ++ s.pubKey

/-- The leaf-index record after a leaf has signed (R448). -/
def leafRecord (leaf : Nat) : JQueued :=
  let resume := 1024 * (leaf / 1024 + 1)
  { prio := 3, kind := 4,
    payload := leBytes 4 leaf ++ leBytes 4 resume ++ (List.range 20).flatMap (fun j => leBytes 32 (Config.xmssAuth resume j).toNat) }

/-! ## Answers -/

/-- Segment k of a report (R456). -/
def segmentOf (report : List Byte) (k : Nat) : List Byte :=
  let d := (report.drop (64 * k)).take 64
  d ++ List.replicate (64 - d.length) 0

/-- A report sent to a port in 49 segments (R456). -/
def sendReport (p tag : Nat) (report : List Byte) (s : State) : State :=
  let seg : Nat → OutItem := fun k =>
    { slot := .ctrl (.mgmtResp tag .ok (decide (k = 48)) k (segmentOf report k)), closes := if k = 48 then some tag else none }
  s.updPort p (fun x => { x.updReq tag (fun r => { r with phase := .answered }) with
    outq := x.outq ++ (List.range 49).map seg, attReports := satInc x.attReports, attLast := some s.now })

/-- The order of two requests of one tick (R457): lower ports first, the management controller last. -/
def AttReq.after (a b : AttReq) : Bool := decide (a.at_ = b.at_) && decide (b.port.getD 16 < a.port.getD 16)

/-- A report asked for, in order of arrival (R457). -/
def askReport (r : AttReq) (s : State) : State :=
  { s with att.queue := s.att.queue.takeWhile (fun a => !a.after r) ++ r :: s.att.queue.dropWhile (fun a => !a.after r) }

/-- A request of the unit's queue answered without a report: the status for a port, the RESULT for the management controller. -/
def refuseReport (r : AttReq) (st : Status) (result : Nat) (s : State) : State :=
  match r.port with
  | some p => answerMgmt p r.tag st [] s
  | none => { s with att.result := BitVec.ofNat 3 result }

/-! ## The commands -/

/-- The attestation unit works: in SERVICE and in RETAIN at P3, in a shut-down until the self-test starts, and not during a
supervisor restart (R23, R458, R487). -/
def State.attRuns (s : State) : Bool :=
  !s.sup.restarting &&
  (decide (s.mode = .service) || (decide (s.mode = .retain) && decide (s.pwr.rung ≤ 3))) && decide (s.bist.phase < 4)

/-- TRAVERSAL_BUILT (R451): the state built from AUTH where the check of AUTH passes; else the tree is rebuilt. -/
def execTraversalBuilt (authOk : Bool) (s : State) : Host.Outcome State Fault Refusal :=
  if s.att.ready ∨ s.att.exhausted ∨ !s.attRuns then .next s
  else if s.att.rebuild ∨ authOk then .next { s with att.ready := true, att.rebuild := false }
  else .next { s with att.rebuild := true }

/-- ALLOWANCE_GAIN (R453): 1,800 s after SERVICE entry or the last gain. -/
def execAllowanceGain (s : State) : Host.Outcome State Fault Refusal :=
  if s.mode = .service ∨ s.mode = .retain then
    let s := s.atLeast (s.att.gainAt + 1800000000000)
    .next { s with att := { s.att with allowance := min 64 (s.att.allowance + 1), gainAt := s.now } }
  else .next s

/-- The request still waits: a port's is gone once its session has ended (R207). -/
def State.stillAsked (s : State) (r : AttReq) : Bool :=
  match r.port with
  | none => true
  | some p => (s.port p).reqs.any (fun x => decide (x.tag = r.tag) && decide (x.op = .mattest) && decide (x.phase = .mgmt)
      && decide (x.nonce = r.nonce))

/-- Block b entered after its pair has been burnt and verified (R139, R142, R448, R454): both bits of the pair are blown, and the
supervisor overrides the shadow of its row. -/
def enterBlock (b : Nat) (s : State) : State :=
  let row := 102 + b / 32
  let s := blowRow row (BitVec.ofNat 64 (3 * 4 ^ (b % 32))) s
  let s := { override row (leafShadow s row) s with att.burnWait := false }
  if 1008 ≤ b then fault 233 {} s else s

/-- The next leaf signs (R448, R453 to R455): the index advances, the record is queued, the report goes out. -/
def signReport (r : AttReq) (s : State) : State :=
  let leaf := s.att.next
  let last := decide (leaf + 1 = 1048576)
  let report := s.report (r.port.getD 0xFF) r.nonce leaf
  let s := { s with att := { s.att with next := leaf + 1, allowance := s.att.allowance - 1, reports := satInc s.att.reports,
                                        exhausted := last } }
  let s := queueRecord (leafRecord leaf) s
  let s := match r.port with
    | some p => sendReport p r.tag report s
    | none => { s with att.result := 1, att.report := report }
  if last then raiseFault 233 2 {} 1 s else s

/-- REPORT_SIGNED (R448, R452 to R457): the oldest request of the unit. Where a block must be entered, its pair is burnt first;
a burn that is not permitted leaves the report unsigned, and one that fails is followed by the next pair's. -/
def execReportSigned (t : BurnTry) (s : State) : Host.Outcome State Fault Refusal :=
  match s.att.queue with
  | [] => .next s
  | r :: rest =>
    let done := { s with att.queue := rest }
    if !s.stillAsked r then .next done
    else if !s.attRuns then .next (refuseReport r .aborted 7 done)
    else if s.att.exhausted then .next (refuseReport r .unsupported 5 done)
    else if !s.att.ready then .next (refuseReport r .busy 2 done)
    else if s.att.allowance = 0 then .next (refuseReport r .busy 3 done)
    else if s.leafCount ≤ s.att.next / 1024 then
      if !s.supBurn t then .next (refuseReport r .busy 4 { done with att.burnWait := true })
      else match t.pulses with
        | some _ => .next (signReport r (enterBlock (s.att.next / 1024) done))
        | none =>
          let n := s.att.next / 1024 + 1
          if n = 1024 then
            .next (raiseFault 233 2 {} 1 (fault 233 {} (refuseReport r .unsupported 5
              { done with att.next := 1048576, att.exhausted := true })))
          else .next (fault 233 {} { s with att.next := 1024 * n })
    else .next (signReport r done)

end Sys2Proof.Machine
end

