-- ==== Sys2Proof/Machine/Bist.lean ====
section
/-! DEFINITION. Self-test and shut-down (R486 to R492). -/

namespace Sys2Proof.Machine

/-- The expected signature of partition i (R490): bits [64i + 63 : 64i] of the data rows of the BIST_EXP segment in force (R137);
none where no segment is valid (R133), or where those rows, at most six in a field frame, do not reach so far. -/
def State.expected (s : State) (i : Nat) : Option (BitVec 64) :=
  match s.otp.bistExp with
  | some (row, n) =>
    if 64 * (i + 1) ≤ 56 * n then
      some (BitVec.ofNat 64 ((List.range n).foldl (fun v r => v + (s.shadow (row + 1 + r)).toNat * 2 ^ (56 * r)) 0 / 2 ^ (64 * i)))
    else none
  | none => none

/-- STATUS of a partition that has ended (R490). -/
def State.verdict (s : State) (e : PartEnd) : BitVec 3 :=
  match s.expected e.part.val with
  | none => 3
  | some x => if e.signature = x then 1 else 2

/-- The self-test is complete: its record is queued, and a shut-down waits for the write (R487 step 5). -/
def endTest (s : State) : State :=
  let s := queueResult { s with bist.running := false }
  if s.bist.shutDown ∧ s.bist.phase = 4 then { s with bist.phase := 5 } else s

/-- BIST_SLOT_END (R489, R490): both partitions of the slot have ended. -/
def execBistSlotEnd (ends : List PartEnd) (s : State) : Host.Outcome State Fault Refusal :=
  let now := s.underTest
  if s.bist.running ∧ !s.pwr.raising ∧ now ≠ [] ∧ now.all (fun i => ends.any (fun e => decide (e.part.val = i))) then
    let got := ends.filter (fun e => now.contains e.part.val)
    let bad := (got.filter (fun e => decide (1 < (s.verdict e).toNat))).length
    let parts := got.foldl (fun t e => tabSet {} t e.part.val
      { status := s.verdict e, duration := e.durationUs, sig := e.signature }) s.bist.parts
    let took := got.foldl (fun m e => max m e.durationUs.toNat) 0
    let rest := s.bist.todo.filter (fun i => !now.contains i)
    let s := { s with bist := { s.bist with parts := parts, todo := rest, spent := s.bist.spent + took,
                                            slot := if rest = [] then s.bist.slot else s.bist.slot + 1 } }
    let s := faultMany 245 bad {} (s.atLeast (s.bist.startedAt + 1000 * s.bist.spent))
    .next (if rest = [] ∧ s.bist.running then endTest s else s)
  else .next s

/-- SHDN_REQ_N_LOW (R486): level-sensitive; acted on where mode and rung allow. -/
def execShdnReqNLow (s : State) : Host.Outcome State Fault Refusal :=
  .next (pinShutdown { s with pins.shdnReqN := false })

/-- SHUTDOWN_DEADLINE (R487): at 598 ms step 6 takes place although the record has not been committed. -/
def execShutdownDeadline (s : State) : Host.Outcome State Fault Refusal :=
  if s.bist.shutDown ∧ 2 ≤ s.bist.phase ∧ s.bist.phase < 6 then
    .next (shutdownDone (s.atLeast (s.bist.shutAt + 598000000)))
  else .next s

/-- BIST_CMD.GO (R486): a shut-down for MASK 0, the chosen partitions in HOLD and FACTORY; else refused, its long operation
ended at once. -/
def doBist (mask : BitVec 20) (s : State) : State :=
  let refuse : State → State := fun s => { s with bist.refused := true, mb.busy := none, mb.longOp := 5, mb.longOutcome := 1, mb.longDuration := 0 }
  if s.bist.shutDown then refuse s
  else if mask = 0 then
    if s.shutdownAllowed then startShutdown 2 { s with mb.busy := some (5, s.now) } else refuse s
  else if !s.bist.running ∧ (s.mode = .hold ∨ s.mode = .factory) then
    let parts := (List.range 20).filter (fun i => mask.getLsbD i)
    let s := startSelfTest 4 parts { s with mb.busy := some (5, s.now) }
    if s.bist.todo = [] then endTest s else s
  else refuse s

/-! ## What BOOT and a wake from P5 do with the results (R89, R492) -/

/-- A partition failed at the last self-test. -/
def State.partFailed (s : State) (i : Nat) : Bool := decide ((s.part_ i).status = 2)

/-- An essential partition failed. -/
def State.essentialFailed (s : State) : Bool := s.partFailed 16 || s.partFailed 19

/-- Failed redundant partitions excluded: takeovers of glove pairs, ports left out (R89, R492). -/
def excludeFailed (s : State) : State :=
  let new := (List.range 20).filter (fun i => s.partFailed i && !s.bist.excluded.getLsbD i)
  let s := { s with bist.excluded := new.foldl (fun m i => m ||| BitVec.ofNat 20 (2 ^ i)) s.bist.excluded }
  let s := forL (new.filter (fun i => decide (i < 16))) (fun n s => raiseFault (84 + 6 * n) 2 { channel := some (Fin.ofNat 16 n) } 1 s) s
  forL (new.filter (fun i => i == 17 || i == 18)) (fun i s =>
    let s := forN 8 (fun j s => s.updPort (8 * (i - 17) + j) (fun x => { x with lnk.bistOut := true })) s
    raiseFault 245 2 {} 1 s) s

end Sys2Proof.Machine
end

