-- ==== Sys2Proof/Machine/Fec.lean ====
section
/-! DEFINITION. What a port takes from its lanes: the bounded-distance decoder of the LL-FEC and KP4 codes (R170 to R172, R174), the lanes in the order of the partner's lane numbers (R163), and the search for a lane's symbol boundary with the deskew of the lanes (R168). -/

namespace Sys2Proof.Machine

/-! ## Decoder -/

/-- The syndromes: the received word at α^0 to α^(n - 1). -/
def rsSyndromes (n : Nat) (word : List Nat) : List Nat := (List.range n).map (fun j => gfEval word (gfAlpha j))

/-- The sum of two polynomials, the lowest degree first. -/
def polyAdd : List Nat → List Nat → List Nat
  | [], b => b
  | a, [] => a
  | x :: a, y :: b => (x ^^^ y) :: polyAdd a b

/-- One round of the Berlekamp–Massey algorithm. -/
structure Massey where
  loc : List Nat := [1]
  prev : List Nat := [1]
  len : Nat := 0
  gap : Nat := 1
  last : Nat := 1
deriving DecidableEq, Repr

/-- The round for syndrome i. -/
def masseyRound (syn : List Nat) (m : Massey) (i : Nat) : Massey :=
  let d := (List.range (m.len + 1)).foldl (fun acc j => acc ^^^ gfMul (m.loc.getD j 0) (syn.getD (i - j) 0)) 0
  if d = 0 then { m with gap := m.gap + 1 }
  else
    let k := gfMul d (gfInv m.last)
    let loc := polyAdd m.loc (List.replicate m.gap 0 ++ m.prev.map (gfMul k))
    if 2 * m.len ≤ i then { loc := loc, prev := m.loc, len := i + 1 - m.len, gap := 1, last := d }
    else { m with loc := loc, gap := m.gap + 1 }

/-- The error locator polynomial, the lowest degree first, and its length. -/
def errorLocator (syn : List Nat) : Massey := (List.range syn.length).foldl (masseyRound syn) {}

/-- The value of the error at the place whose locator is x, by Forney's formula. -/
def errorValue (syn loc : List Nat) (x : Nat) : Nat :=
  let i := gfInv x
  let omega := (List.range syn.length).map (fun n =>
    (List.range (n + 1)).foldl (fun acc j => acc ^^^ gfMul (loc.getD j 0) (syn.getD (n - j) 0)) 0)
  let slope := (List.range loc.length).map (fun j => if j % 2 = 0 then loc.getD (j + 1) 0 else 0)
  gfMul x (gfMul (gfEval omega.reverse i) (gfInv (gfEval slope.reverse i)))

/-- The codeword within t symbols of a received word and the places that differ from it, if there is one (R170, R171). -/
def rsDecode (t : Nat) (word : List Nat) : Option (List Nat × List Nat) :=
  let syn := rsSyndromes (2 * t) word
  if syn.all (· == 0) then some (word, [])
  else
    let m := errorLocator syn
    let places := (List.range word.length).filter (fun i =>
      gfEval m.loc.reverse (gfAlpha (1023 - (word.length - 1 - i) % 1023)) == 0)
    let fixed := (word.zipIdx).map (fun (c, i) =>
      if places.contains i then c ^^^ errorValue syn m.loc (gfAlpha (word.length - 1 - i)) else c)
    if m.len ≤ t ∧ places.length = m.len ∧ (rsSyndromes (2 * t) fixed).all (· == 0) then some (fixed, places) else none

/-! ## Codewords of a port -/

/-- The flit of 128 symbols. -/
def symbolsFlit (l : List Nat) : BitVec 1280 := BitVec.ofNat 1280 (ofSymbols l)

/-- The receiver that gets the partner's lane j (R163): the lane of the port on which that number was found, else lane j itself. -/
def Port.receiver (p : Port) (j : Nat) : Nat :=
  ((List.range 4).find? (fun l => p.lnk.lanesLocked.getLsbD l && decide ((p.lane l).laneId.toNat = j))).getD j

/-- The partner's lane number on receiver l, while it is locked. -/
def Port.laneOf (p : Port) (l : Nat) : Option Nat := (List.range 4).find? (fun j => decide (p.receiver j = l))

/-- The receivers in use, in the order of the partner's lanes. -/
def Port.receivers (p : Port) : List Nat := (lanesOf p.lnk.rxLanes).map p.receiver

/-- Codeword c as the receivers delivered it. -/
def Port.gather (p : Port) (lanes : List (List (BitVec 10))) (c : Nat) : List Nat :=
  let r := p.receivers
  (List.range p.codeLength).map (fun i =>
    let a := p.symbolPlace r.length c i
    ((lanes.getD (r.getD a.1 4) []).getD a.2 0).toNat)

/-- The flits of a codeword and, by lane of the port, how many of its symbols were corrected; none where it cannot be corrected
(R172). -/
def Port.decodeWord (p : Port) (word : List Nat) : Option (List (BitVec 1280) × List Nat) :=
  let rs := p.receivers
  (rsDecode (if p.kp4 then 15 else 4) word).map (fun r =>
    ((List.range p.flitsPerWord).map (fun k => symbolsFlit ((r.1.drop (128 * k)).take 128)),
      (List.range 4).map (fun l => (r.2.filter (fun i => rs.getD (i % rs.length) 4 == l)).length)))

/-! ## The symbol boundary (R168) -/

/-- A boundary as found on a lane: position, the partner's lane number, and the arrival of its block 0 in UI. -/
structure Boundary where
  lane : Nat
  slip : Nat
  id : Nat
  zero : Int
deriving DecidableEq, Repr

/-- The position accepts: symbols 0 to 4 of four consecutive blocks match, from the first place in the stream at which they do. -/
def boundaryAt (f : LaneFound) (slip : Nat) : Option Boundary :=
  let x := f.stream.toNat
  (List.range 64).findSome? (fun b =>
    let o := slip + 10 * b
    match blockHead x o with
    | some (l, n) =>
      if [1, 2, 3].all (fun i => (blockHead x (o + 640 * i)).any (fun h => h.1 == l)) then
        some { lane := f.lane.val, slip := slip, id := l, zero := (f.arrival + o / 2 : Nat) - 320 * (n : Int) }
      else none
    | none => none)

/-- The search of a bit-locked lane: the ten positions in turn, or under manual control the one that is set. -/
def Port.boundary (p : Port) (f : LaneFound) : Option Boundary :=
  if !p.lnk.lanesBit.getLsbD f.lane.val then none
  else if p.lnk.manual.getLsbD f.lane.val then boundaryAt f (p.lane f.lane.val).slip.toNat
  else (List.range 10).findSome? (boundaryAt f)

/-- The UI by which lane a runs ahead of lane b, the block count taken modulo 1,024. -/
def aheadBy (a b : Boundary) : Int := (b.zero - a.zero + 163840) % 327680 - 163840

/-- The lanes that R168 accepts, each with its delay: the latest lane sets the reference, and a lane more than 200 UI ahead of it is left
out. -/
def Port.deskew (p : Port) (found : List LaneFound) : List (Boundary × Nat) :=
  let l := found.filterMap p.boundary
  match l with
  | [] => []
  | a :: t =>
    let last := t.foldl (fun m b => if 0 < aheadBy m b then b else m) a
    l.filterMap (fun b => if aheadBy b last ≤ 200 then some (b, (aheadBy b last).toNat) else none)

end Sys2Proof.Machine
end

