-- ==== Sys2Proof/Machine/Link.lean ====
section
/-! DEFINITION. Bring-up of a port (chapter 06): the stages and their failures, capability exchange, sessions begun and kept, lane failure and width degrade, retrains, loops; and the port's own descent on the ladder (chapter 15). -/

namespace Sys2Proof.Machine

/-- The four sources of port p (R411). -/
def srcLink (p : Nat) : Nat := 16 + 4 * p
def srcProto (p : Nat) : Nat := 17 + 4 * p
def srcBook (p : Nat) : Nat := 18 + 4 * p
def srcStall (p : Nat) : Nat := 19 + 4 * p

/-- An event of a port with its cause (R427). -/
def portDetail (p cause : Nat) : EventDetail := { port := some (Fin.ofNat 16 p), cause := BitVec.ofNat 8 cause }

/-- Bring-up may run: from BOOT step 12, in SERVICE, and in RETAIN at P3 (R39, R102). -/
def State.portsRun (s : State) : Bool :=
  !s.bist.shutDown && (decide (s.mode = .service) || (decide (s.mode = .boot) && decide (s.boot.step = 12))
    || (decide (s.mode = .retain) && decide (s.pwr.rung ≤ 3)))

/-- A waiting item that needs VC1 credit. -/
def OutItem.onVc1 (o : OutItem) : Bool := match o.slot with | .completions _ | .data _ _ _ _ => true | _ => false

/-- A completion or read data waits for lack of VC1 credit (R190). -/
def Port.dry (p : Port) : Bool :=
  decide (p.lnk.link = .active) && p.tx.session && p.tx.initRcvd && decide (p.tx.held1 = 0) && p.outq.any OutItem.onVc1

/-- The partner withholds now (R9): VC1 credits (R190), acknowledgements of a full replay buffer beyond 400 ns (R197), the answer to a
RESYNC_REQ (R205), or the link in a retrain caused by its side (R176, R200). -/
def Port.holdsBack (p : Port) (now : Nat) : Bool :=
  p.dry || (decide (p.lnk.link = .active) && p.aud.resync.isSome)
    || (decide (256 ≤ p.tx.replay.length) && p.tx.replay.head?.any (fun f => decide (f.sentAt + 400 ≤ now)))
    || (p.lnk.retraining && (p.lnk.theirs || p.lnk.partnerStarted))

/-- The time withheld kept up to date (R9, R237), and since when a response waits for VC1 credit (R211). -/
def noteHeld (p : Nat) (s : State) : State :=
  s.updPort p (fun x =>
    let d := if x.dry then some (x.tx.dryFrom.getD s.now) else none
    match x.tx.withheldFrom, x.holdsBack s.now with
    | none, true => { x with tx := { x.tx with withheldFrom := some s.now, dryFrom := d } }
    | some t, false => { x with tx := { x.tx with withheld := x.tx.withheld + (s.now - t), withheldFrom := none, dryFrom := d } }
    | _, _ => { x with tx := { x.tx with dryFrom := d } })

/-- The link state of a port changed, its timer started. -/
def setLink (p : Nat) (l : Link) (s : State) : State :=
  s.updPort p (fun x => { x with lnk := { x.lnk with link := l, since := s.now } })

/-- A failed attempt (R165, R174): the wait begins, a session that was kept ends, the mode of the next attempt is set. -/
def attemptFailed (p : Nat) (s : State) : State :=
  let s := s.updPort p (fun x =>
    let y := if x.tx.session then x.endSession else x
    { y with rung := 3, lnk := { y.lnk with
        link := .detect, backoff := true, since := s.now, fails := y.lnk.fails + 1, cFailed := satInc y.lnk.cFailed,
        cause := 6, rl1 := if x.tx.session then false else y.cfg.rl1Compat && !y.lnk.rl1,
        lanesBit := 0, lanesTrained := 0, lanesLocked := 0, lanesPresent := 0, lastTerm := 0, lanesActive := 0,
        width := 0, fec := 0, retraining := false, partnerStarted := false, widthReq := none, retrainNext := false,
        txLanes := 0, rxLanes := 0, txNext := none, rxNext := none, widthCap := none, theirs := false } })
  settleRung (fault (srcLink p) (portDetail p 6) s)

/-- A retrain from ACTIVE (R176, R206): the session is kept. One that the stack starts of itself widens nothing (R176); `theirs` says
that it is caused by the partner's side (R200). -/
def startRetrain (p cause : Nat) (partner theirs : Bool) (s : State) : State :=
  noteHeld p (settleRung (s.updPort p (fun x => { x with
    rung := 3, txHush := false, rxHush := false, aud.resync := none
    lnk := { x.lnk with link := .train, since := s.now, retraining := true, cRetrains := satInc x.lnk.cRetrains,
                        cause := BitVec.ofNat 4 cause, partnerStarted := partner, theirs := theirs, widthReq := none, retrainNext := false,
                        widthCap := if partner ∨ cause = 2 then none else some x.lnk.width.toNat,
                        txLanes := 0, rxLanes := 0, txNext := none, rxNext := none,
                        lanesTrained := 0, lanesBit := 0, lanesLocked := 0, lanesActive := 0, capCount := 0 } })))

/-- A port fence lifted (R213). -/
def liftFence (p : Nat) (s : State) : State := s.updPort p (fun x => { x with fenced := false })

/-- A bring-up or retrain that the partner starts lifts a fence whose hold-off has passed (R213). -/
def partnerLift (p : Nat) (s : State) : State :=
  let x := s.port p
  if x.fenced ∧ x.cfg.holdoff ≠ 0 ∧ x.fencedAt + x.cfg.holdoff.toNat * 1000000 ≤ s.now then liftFence p s else s

/-! ## Capability messages (R169) -/

/-- The lanes a width uses out of the lanes given: x4 all, x2 the pair 0 and 1 or else 2 and 3, x1 the lowest. -/
def lanesFor (w : Nat) (l : BitVec 4) : Option (BitVec 4) :=
  match w with
  | 3 => if l = 15 then some 15 else none
  | 2 => if l &&& 3 = 3 then some 3 else if l &&& 12 = 12 then some 12 else none
  | 1 => ((List.range 4).find? (fun i => l.getLsbD i)).map (fun i => BitVec.ofNat 4 (2 ^ i))
  | _ => none

/-- The lanes found, by the partner's lane numbers (R163): LANES_UP. -/
def Port.lanesUp (p : Port) : BitVec 4 :=
  (List.range 4).foldl (fun m l => if p.lnk.lanesLocked.getLsbD l then m ||| BitVec.ofNat 4 (2 ^ (p.lane l).laneId.toNat) else m) 0

/-- Widths offered: every width up to WIDTH_MAX, and in a retrain that the stack started up to the width it had (R176), that could be
formed from the lanes; bit w − 1 for width code w. -/
def Port.widthMask (p : Port) (l : BitVec 4) : Nat :=
  (List.range 3).foldl (fun m i => m + (if i + 1 ≤ p.widthMax ∧ p.lnk.widthCap.all (fun w => decide (i + 1 ≤ w)) ∧ (lanesFor (i + 1) l).isSome then 2 ^ i else 0)) 0

/-- FEC modes offered: bit 0 LL-FEC, bit 1 KP4; never KP4 in compatibility mode. -/
def Port.fecMask (p : Port) : Nat :=
  if p.lnk.rl1 then 1 else match p.cfg.fecCfg.toNat with | 0 => 1 | 1 => 2 | _ => 3

/-- Byte i of a capability message. -/
def capByte (m : BitVec 128) (i : Nat) : Byte := m.extractLsb' (8 * i) 8

/-- LANES_UP and the other fields of a received message. -/
def capVersion (m : BitVec 128) : Nat := bitsOf m.toNat 3 0
def capLanes (m : BitVec 128) : BitVec 4 := m.extractLsb' 4 4
def capWidths (m : BitVec 128) : Nat := bitsOf m.toNat 10 8
def capFec (m : BitVec 128) : Nat := bitsOf m.toNat 12 11
def capFar (m : BitVec 128) : Bool := m.getLsbD 13
def capRole (m : BitVec 128) : Nat := bitsOf m.toNat 15 14
def capEcho (m : BitVec 128) : Nat := bitsOf m.toNat 111 96
def capCheckOk (m : BitVec 128) : Bool :=
  decide ((crc16 ((List.range 14).map (capByte m))).toNat = bitsOf m.toNat 127 112)

/-- Bytes 0 and 1 of the message the port sends, after it has received `last` (0 for none). -/
def Port.capHead (p : Port) (id : Nat) (last : BitVec 128) : Nat :=
  let lanes := if last = 0 then p.lanesUp else p.lanesUp &&& capLanes last
  pack [(if p.lnk.rl1 then 1 else 2, 4), (p.lanesUp.toNat, 4), (p.widthMask lanes, 3), (p.fecMask, 2), (0, 1),
    ((Config.ownRole id).toNat, 2)]

/-- The message the port sends (R169). -/
def State.capMessage (s : State) (p : Nat) (last : BitVec 128) : BitVec 128 :=
  let x := s.port p
  let id := match s.otp.ident with | some i => i.deviceId.toNat % 2 ^ 64 | none => 0
  let v := pack [(x.capHead p last, 16), (p, 16), (id, 64), (last.toNat % 65536, 16)]
  BitVec.ofNat 128 (v + (crc16 (leBytes 14 v)).toNat * 2 ^ 112)

/-- The width, lanes and FEC mode that two messages settle, if any. -/
def Port.agree (p : Port) (m : BitVec 128) : Option (Nat × BitVec 4 × Nat) :=
  let common := p.lanesUp &&& capLanes m
  let both := p.widthMask common
  let f := (if p.fecMask % 2 = 1 ∧ capFec m % 2 = 1 then some 1
    else if 2 ≤ p.fecMask ∧ 2 ≤ capFec m then some 2 else none : Option Nat)
  match [3, 2, 1].find? (fun w => both.testBit (w - 1) && (capWidths m).testBit (w - 1)), f with
  | some w, some f => (lanesFor w common).map (fun l => (w, l, f))
  | _, _ => none

/-- The flit that carries a capability message: its 16 bytes first, zeros behind them (log 72). -/
def capFlit (m : BitVec 128) : BitVec 1280 := m.setWidth 1280

/-- The codewords of a capability message as they stand on the lanes (R169): in LL-FEC, the message in each codeword, striped at the
widest width that the lanes found allow. -/
def Port.capLanesOut (p : Port) (m : BitVec 128) : List (List (BitVec 10)) :=
  stripe (([3, 2, 1].findSome? (fun w => lanesFor w p.lanesUp)).getD 0)
    (List.replicate (if p.lnk.rl1 then 1 else 2) (llCodeword (capFlit m)))

/-- The capability message that the port repeats from now on (R169). -/
def sendCap (p : Nat) (last : BitVec 128) (s : State) : State :=
  let m := s.capMessage p last
  s.updPort p (fun x => { x with wire := x.wire ++ [.capx m (x.capLanesOut m)] })

/-- What a port sends without end in its state (R164, R165). -/
inductive Sends where
  /-- Electrical idle. -/
  | idle
  /-- A receiver-detect pulse every 1 ms on each lane. -/
  | pulses
  /-- Training frames to the PMD control function, on the lanes present. -/
  | training (lanes : BitVec 4)
  /-- Alignment blocks with rising block count, on the trained lanes. -/
  | alignment (lanes : BitVec 4)
  /-- A capability message, by lane. -/
  | capability (m : BitVec 128) (lanes : List (List (BitVec 10)))
  /-- Flits without gaps on these lanes; IDLE flits where nothing else waits. -/
  | flits (idle : BitVec 1280) (lanes : BitVec 4)
  /-- What each lane receives, on the same lane. -/
  | loop
deriving DecidableEq, Repr

/-- What port p sends in its state (R164). -/
def State.sends (s : State) (p : Nat) : Sends :=
  let x := s.port p
  match x.lnk.link with
  | .off => .idle
  | .detect => if x.lnk.backoff then .idle else .pulses
  | .train => .training x.lnk.lanesPresent
  | .bitlock | .symlock => .alignment x.lnk.lanesTrained
  | .capx => let m := s.capMessage p x.lnk.capLast; .capability m (x.capLanesOut m)
  | .active => if x.txHush then .idle else .flits x.idleFlit x.lnk.txLanes
  | .loop => .loop

/-- What stands at lane l of a port that sends alignment blocks, `n` blocks after the first one (R167). -/
def Sends.blockOn (x : Sends) (l n : Nat) : Option (BitVec 640) :=
  match x with
  | .alignment m => if m.getLsbD l then some (alignmentBlock l n) else none
  | _ => none

/-- The count of the next alignment marker that a port in compatibility mode sends (R174): on each lane a marker of 640 bits follows
every 16,384 codewords of 1,360 bits over the lanes, at 56 Gb/s. -/
def State.markerCount (s : State) (p : Nat) : Nat :=
  let x := s.port p
  let w := (lanesOf x.lnk.txLanes).length
  7 * w * (s.now - x.lnk.since) / (16384 * 170 + 80 * w) % 1023

/-- The alignment marker due next on lane l (R174). -/
def State.marker (s : State) (p l : Nat) : BitVec 640 := alignmentBlock l (s.markerCount p)

/-! ## ACTIVE (R188, R206, R260) -/

/-- A message sent in a LINK flit (R181). -/
def sendLink (p : Nat) (m : Msg) (s : State) : State := s.updPort p (fun x => x.transmit [x.linkFlit m])

/-- INIT of the stack (R188). -/
def initMsg : Msg := .init 64 128 8 1024

/-- A resynchronisation starts (R205 step 1): SEQ flits stop, RESYNC_REQ goes out. -/
def startResync (p reason : Nat) (s : State) : State :=
  let s := s.updPort p (fun x => { x with aud.resync := some (reason, 0), aud.auditOpen := [], tx.resyncAt := s.now })
  noteHeld p (sendLink p (.resyncReq (s.port p).tx.expect.toNat reason) s)

/-- A shrink of the port's admission where it runs below WIDTH_MAX or in compatibility mode (R260). `raised` says that the
source has registered an event for it. -/
def portShrink (p : Nat) (raised : Bool) (s : State) : State :=
  let x := s.port p
  if x.lnk.width.toNat < x.widthMax ∨ x.lnk.rl1 then
    let cause := if x.lnk.width.toNat < x.widthMax then 2 else 3
    let s := shrinkCause cause (s.updPort p (fun y => { y with gnt.shrink := some y.limitNow }))
    if raised then raiseOnly (srcLink p) 2 (portDetail p x.lnk.cause.toNat) 1 s
    else raiseFault (srcLink p) 2 (portDetail p x.lnk.cause.toNat) 1 s
  else s

/-- A session begins (R206, R188). -/
def beginSession (p : Nat) (s : State) : State :=
  let s := s.updPort p (fun x =>
    let y := x.endSession
    { y with
      tx := { y.tx with session := true, sessions := y.tx.sessions + 1, initSent := true, initAt := s.now, nextSeq := 0, expect := 0,
                        ackOut := 0xFFF, peer0 := 64, peer1 := 128, peer2 := 8, held1 := 0, held2 := 0, grant1 := 0, grant2 := 0 }
      aud := { auditFails := y.aud.auditFails } })
  sendLink p initMsg s

/-- The port becomes ACTIVE with a settled width, lanes and FEC mode. -/
def goActive (p w : Nat) (lanes : BitVec 4) (f role : Nat) (s : State) : State :=
  let kept := (s.port p).tx.session && (s.port p).lnk.retraining
  let s := s.updPort p (fun x => { x with
    rung := 0, idleSince := s.now, txHush := false, rxHush := false
    lnk := { x.lnk with link := .active, since := s.now, width := BitVec.ofNat 2 w, fec := BitVec.ofNat 2 f,
                        lanesActive := lanes, txLanes := lanes, rxLanes := lanes, txNext := none, rxNext := none, widthCap := none,
                        role := BitVec.ofNat 3 role, fails := 0, retraining := false, theirs := false,
                        mgmtStart := false } })
  let s := forN 4 (fun l s => if s.port p |>.lnk.lanesLocked.getLsbD l then
    s.updPort p (·.updLane l (fun y => { y with lately := [], missed := 0 })) else s) s
  let s := noteHeld p (if kept then startResync p 1 s else beginSession p s)
  let s := portShrink p false s
  let s := settleRung s
  if s.mode = .boot ∧ s.boot.step = 12 ∧ s.minimumSet then
    pinShutdown (serviceEntry { s with boot.partnerWait := false })
  else s

/-! ## Commands: the stages -/

/-- RECEIVER_DETECT_PULSE (R164). A port in OFF that is enabled with DOWN 0 enters DETECT with its first pulse. -/
def execReceiverDetectPulse (p : PortId) (term : BitVec 4) (s : State) : Host.Outcome State Fault Refusal :=
  let x := s.port p.val
  let first := decide (x.lnk.link = .off) && s.portUp p.val && !x.lnk.down && s.portsRun
  if first then
    .next (s.updPort p.val (fun x => { x with lnk := { x.lnk with link := .detect, since := s.now, lastTerm := term } }))
  else if x.lnk.link = .detect ∧ !x.lnk.backoff then
    let both := term &&& x.lnk.lastTerm
    if both ≠ 0 then
      let s := s.updPort p.val (fun x => { x with lnk := { x.lnk with
        link := .train, since := s.now, lanesPresent := both, lastTerm := 0, partnerStarted := !x.lnk.mgmtStart } })
      .next (if x.lnk.mgmtStart then s else partnerLift p.val s)
    else .next (s.updPort p.val (fun x => { x with lnk := { x.lnk with
      lastTerm := term, cause := if term = 0 ∧ x.lnk.lastTerm = 0 then 7 else x.lnk.cause } }))
  else .next s

/-- TRAIN_COMPLETE (R164): every present lane reports training complete. -/
def execTrainComplete (p : PortId) (s : State) : Host.Outcome State Fault Refusal :=
  if (s.port p.val).lnk.link = .train then
    .next (s.updPort p.val (fun x => { x with lnk := { x.lnk with
      link := .bitlock, since := s.now, lanesTrained := x.lnk.lanesPresent } }))
  else .next s

/-- TRAIN_TIMEOUT (R165, R166). -/
def execTrainTimeout (p : PortId) (trained : BitVec 4) (s : State) : Host.Outcome State Fault Refusal :=
  let x := s.port p.val
  if x.lnk.link = .train then
    let s := s.atLeast (x.lnk.since + 25000000)
    let t := trained &&& x.lnk.lanesPresent
    if t = 0 then .next (attemptFailed p.val s)
    else .next (s.updPort p.val (fun x => { x with lnk := { x.lnk with link := .bitlock, since := s.now, lanesTrained := t } }))
  else .next s

/-- BITLOCK_ACQUIRED (R163, R164). -/
def execBitlockAcquired (p : PortId) (locked polInv : BitVec 4) (s : State) : Host.Outcome State Fault Refusal :=
  let x := s.port p.val
  let l := locked &&& x.lnk.lanesTrained
  if x.lnk.link = .bitlock ∧ l ≠ 0 then
    let s := s.updPort p.val (fun x => { x with lnk := { x.lnk with link := .symlock, since := s.now, lanesBit := l } })
    .next (forN 4 (fun i s => if l.getLsbD i
      then s.updPort p.val (·.updLane i (fun y => { y with polInv := polInv.getLsbD i, found := false })) else s) s)
  else .next s

/-- BITLOCK_TIMEOUT (R165). -/
def execBitlockTimeout (p : PortId) (s : State) : Host.Outcome State Fault Refusal :=
  let x := s.port p.val
  if x.lnk.link = .bitlock then .next (attemptFailed p.val (s.atLeast (x.lnk.since + 2000000))) else .next s

/-- SYMLOCK ends with the lanes whose boundary was found, deskewed (R168): CAPX begins, or the attempt fails with none. -/
def endSymlock (p : Nat) (found : List LaneFound) (s : State) : State :=
  let ok := (s.port p).deskew found
  if ok = [] then attemptFailed p s
  else
    let s := forL ok (fun f s => s.updPort p (·.updLane f.1.lane (fun y =>
      { y with slip := BitVec.ofNat 4 f.1.slip, found := true, laneId := BitVec.ofNat 2 f.1.id, skew := BitVec.ofNat 8 f.2 }))) s
    let up := ok.foldl (fun m f => m ||| BitVec.ofNat 4 (2 ^ f.1.lane)) 0
    sendCap p 0 (s.updPort p (fun x => { x with lnk := { x.lnk with
      link := .capx, since := s.now, lanesLocked := up, capLast := 0, capCount := 0 } }))

/-- SYMLOCK_COMPLETE (R164, R168): every bit-locked lane has found its boundary. -/
def execSymlockComplete (p : PortId) (found : List LaneFound) (s : State) : Host.Outcome State Fault Refusal :=
  let x := s.port p.val
  let l := found.filterMap x.boundary
  if x.lnk.link = .symlock ∧ (List.range 4).all (fun i => !x.lnk.lanesBit.getLsbD i || l.any (fun f => decide (f.lane = i)))
  then .next (endSymlock p.val found s) else .next s

/-- SYMLOCK_TIMEOUT (R165). -/
def execSymlockTimeout (p : PortId) (found : List LaneFound) (s : State) : Host.Outcome State Fault Refusal :=
  let x := s.port p.val
  if x.lnk.link = .symlock then .next (endSymlock p.val found (s.atLeast (x.lnk.since + 1000000))) else .next s

/-- CAPX_MESSAGE (R169): three identical messages that echo the stack's own settle the link, or fail the attempt. -/
def execCapxMessage (p : PortId) (msg : BitVec 128) (s : State) : Host.Outcome State Fault Refusal :=
  let x := s.port p.val
  if x.lnk.link = .capx ∧ capCheckOk msg then
    let echo := decide (capEcho msg = x.capHead p.val x.lnk.capLast)
    let n := if msg = x.lnk.capLast ∧ echo then x.lnk.capCount + 1 else if echo then 1 else 0
    let s := s.updPort p.val (fun x => { x with lnk := { x.lnk with capLast := msg, capCount := n } })
    let s := sendCap p.val msg s
    if n < 3 then .next s
    else if capVersion msg ≠ (if x.lnk.rl1 then 1 else 2) then .next (attemptFailed p.val s)
    else if capFar msg ∨ x.lnk.loopMode = 3 then
      .next (setLink p.val .loop (s.updPort p.val (fun x => { x with lnk := { x.lnk with role := BitVec.ofNat 3 (capRole msg) } })))
    else match x.agree msg with
      | some (w, lanes, f) => .next (goActive p.val w lanes f (capRole msg) s)
      | none => .next (attemptFailed p.val s)
  else .next s

/-- CAPX_TIMEOUT (R165). -/
def execCapxTimeout (p : PortId) (s : State) : Host.Outcome State Fault Refusal :=
  let x := s.port p.val
  if x.lnk.link = .capx then .next (attemptFailed p.val (s.atLeast (x.lnk.since + 2000000))) else .next s

/-- BACKOFF_END (R165): 10 ms times the number of consecutive failures, capped at 16. -/
def execBackoffEnd (p : PortId) (s : State) : Host.Outcome State Fault Refusal :=
  let x := s.port p.val
  if x.lnk.link = .detect ∧ x.lnk.backoff then
    let s := s.atLeast (x.lnk.since + 10000000 * min x.lnk.fails 16)
    .next (s.updPort p.val (fun x => { x with lnk := { x.lnk with backoff := false, since := s.now, lastTerm := 0 } }))
  else .next s

/-! ## Lane failure and width (R175, R176, R208) -/

/-- The width and lanes left after a lane failure (R175). -/
def degradeTo (width : Nat) (lanes failed : BitVec 4) : Option (Nat × BitVec 4) :=
  let left := lanes &&& ~~~ failed
  if width = 3 ∧ left &&& 3 = 3 then some (2, 3)
  else if width = 3 ∧ left &&& 12 = 12 then some (2, 12)
  else (lanesFor 1 left).map (fun l => (1, l))

/-- A new width agreed: the removed lanes go under the background loop, the shrink follows (R176, R260). -/
def applyWidth (p w : Nat) (lanes : BitVec 4) (s : State) : State :=
  let s := s.updPort p (fun x => { x with lnk := { x.lnk with
    loopTest := x.lnk.lanesActive &&& ~~~ lanes, width := BitVec.ofNat 2 w, lanesActive := lanes, widthReq := none } })
  let s := portShrink p true s
  if (s.port p).lnk.retrainNext then startRetrain p 2 false false s else s

/-- The sequence at which the partner changes its lanes: at once where every flit before it has come (R208). -/
def Port.rxSwitch (p : Port) (lanes : BitVec 4) (n : BitVec 12) : Port :=
  if n = p.tx.expect ∨ 2048 ≤ (n - p.tx.expect).toNat then { p with lnk := { p.lnk with rxLanes := lanes, rxNext := none } }
  else { p with lnk := { p.lnk with rxNext := some (lanes, n) } }

/-- The width and lanes that a further failure starts from: those announced, else those in force (R175). -/
def Port.widthNow (p : Port) : Nat × BitVec 4 :=
  match p.lnk.widthReq with | some (w, l) => (w.toNat, l) | none => (p.lnk.width.toNat, p.lnk.lanesActive)

/-- Lanes of a port fail in ACTIVE (R175, R176): a width change is announced with the next SEQ flit as SWITCH_SEQ; with no survivor the
port retrains. -/
def failLanes (p : Nat) (lanes : BitVec 4) (s : State) : State :=
  let x := s.port p
  if x.lnk.link = .active ∧ lanes &&& x.widthNow.2 ≠ 0 then
    let s := s.updPort p (fun x => { x with lnk := { x.lnk with cause := 4 } })
    let s := fault (srcLink p) (portDetail p 4) s
    if (s.port p).lnk.link ≠ .active then s
    else match degradeTo x.widthNow.1 x.widthNow.2 lanes with
    | some (w, l) =>
      let s := sendLink p (.widthChange w l.toNat (s.port p).tx.nextSeq.toNat) s
      s.updPort p (fun x => { x with lnk := { x.lnk with
        widthReq := some (BitVec.ofNat 2 w, l), widthAt := if x.lnk.widthReq.isSome then x.lnk.widthAt else s.now,
        txNext := some (l, x.tx.nextSeq), cDegrades := satInc x.lnk.cDegrades } })
    | none => startRetrain p 4 false false s
  else s

/-- The partner's lane numbers of receivers of a port (R163). -/
def Port.laneNumbers (p : Port) (l : BitVec 4) : BitVec 4 :=
  (List.range 4).foldl (fun m j => if l.getLsbD (p.receiver j) then m ||| BitVec.ofNat 4 (2 ^ j) else m) 0

/-- LANE_FAILURE (R175): receivers lose symbol lock. -/
def execLaneFailure (p : PortId) (lanes : BitVec 4) (s : State) : Host.Outcome State Fault Refusal :=
  .next (failLanes p.val ((s.port p.val).laneNumbers lanes) s)

/-- WIDTH_CHANGE (R208): the partner's change is answered and taken, if it names a narrower width on lanes that have not failed here. -/
def execWidthChange (p : PortId) (m : WidthMsg) (s : State) : Host.Outcome State Fault Refusal :=
  let x := s.port p.val
  let bound := x.widthNow.1 + b2n x.lnk.widthReq.isSome
  if x.lnk.link = .active ∧ m.width ≠ 0 ∧ m.width.toNat < bound ∧ m.lanes &&& x.widthNow.2 = m.lanes
      ∧ popBelow 4 m.lanes.toNat = 2 ^ (m.width.toNat - 1) then
    let s := s.updPort p.val (fun x => { x with lnk := { x.lnk with cause := 4, cDegrades := satInc x.lnk.cDegrades } })
    let s := fault (srcLink p.val) (portDetail p.val 4) s
    if (s.port p.val).lnk.link ≠ .active then .next s
    else
      let s := sendLink p.val (.widthAck m.width.toNat m.lanes.toNat x.tx.nextSeq.toNat) s
      let s := s.updPort p.val (fun x => ({ x with lnk := { x.lnk with txNext := some (m.lanes, x.tx.nextSeq) } }).rxSwitch m.lanes m.switchSeq)
      .next (applyWidth p.val m.width.toNat m.lanes s)
  else .next s

/-- WIDTH_ACK (R208): the change that the stack announced is agreed; the partner's SWITCH_SEQ says from which flit on its lanes change. -/
def execWidthAck (p : PortId) (m : WidthMsg) (s : State) : Host.Outcome State Fault Refusal :=
  let x := s.port p.val
  match x.lnk.widthReq with
  | some (w, l) =>
    if x.lnk.link = .active ∧ m.width = w ∧ m.lanes = l then
      .next (applyWidth p.val w.toNat l (s.updPort p.val (·.rxSwitch l m.switchSeq)))
    else .next s
  | none => .next s

/-- Bit errors of a near-end loop counted in PORT_PRBS_ERR of its lanes (R177). -/
def countPrbs (p : Nat) (lanes : BitVec 4) (errors : List Nat) (s : State) : State :=
  forN 4 (fun l s => if lanes.getLsbD l then
    s.updPort p (·.updLane l (fun y => { y with prbsErr := satAdd y.prbsErr (errors.getD l 0) })) else s) s

/-- WIDTH_CHANGE_TIMEOUT (R176). -/
def execWidthChangeTimeout (p : PortId) (s : State) : Host.Outcome State Fault Refusal :=
  let x := s.port p.val
  if x.lnk.link = .active ∧ x.lnk.widthReq.isSome then
    .next (startRetrain p.val 4 false false (s.atLeast (x.lnk.widthAt + 4000)))
  else .next s

/-- NEAR_END_LOOP_RESULT (R176, R177): the checker's bit errors count, and the side of the fault is settled; a stack fault raises
DEGR. -/
def execNearEndLoopResult (p : PortId) (result : LoopResult) (s : State) : Host.Outcome State Fault Refusal :=
  let x := s.port p.val
  if x.lnk.loopTest = 0 then .next s
  else
    let s := countPrbs p.val x.lnk.loopTest result.errors s
    let s := noteHeld p.val (s.updPort p.val (fun x => { x with lnk := { x.lnk with
      loopTest := 0, cause := if result.pass then 3 else 5, theirs := x.lnk.theirs || (result.pass && x.lnk.retraining) } }))
    .next (if result.pass then s else raiseFault (srcLink p.val) 2 (portDetail p.val 5) 1 s)

/-- PARTNER_RETRAIN (R176, R206, R213). -/
def execPartnerRetrain (p : PortId) (s : State) : Host.Outcome State Fault Refusal :=
  if (s.port p.val).lnk.link = .active then .next (startRetrain p.val 1 true true (partnerLift p.val s)) else .next s

/-- PORT_PLL_LOCK_LOSS (R42, R403): every lane of the port fails, and R176 applies; a port without its PLL is no element of the
minimum service set until PLL_LOCK. -/
def execPortPllLockLoss (p : PortId) (s : State) : Host.Outcome State Fault Refusal :=
  if !s.portPresent p.val ∨ !(s.port p.val).lnk.pll then .next s
  else
    let s := s.updPort p.val (fun x => { x with lnk := { x.lnk with pll := false } })
    .next (checkMinimum (match (s.port p.val).lnk.link with
      | .active =>
        let s := s.updPort p.val (fun x => { x with lnk := { x.lnk with cause := 4 } })
        let s := fault (srcLink p.val) (portDetail p.val 4) s
        if (s.port p.val).lnk.link = .active then startRetrain p.val 4 false false s else s
      | .train | .bitlock | .symlock | .capx => attemptFailed p.val s
      | _ => s))

/-- HUSH_MARKER (R385): in ACTIVE the partner is hushed. -/
def execHushMarker (p : PortId) (s : State) : Host.Outcome State Fault Refusal :=
  if (s.port p.val).lnk.link = .active then .next (s.updPort p.val (fun x => { x with rxHush := true })) else .next s

/-- FAR_END_LOOP_END (R177). -/
def execFarEndLoopEnd (p : PortId) (s : State) : Host.Outcome State Fault Refusal :=
  if (s.port p.val).lnk.link = .loop then .next (s.updPort p.val (·.toOff)) else .next s

/-! ## Register actions on a port -/

/-- PORT_LINK_CTRL.RETRAIN (R178). -/
def doRetrain (p : Nat) (s : State) : State :=
  let x := s.port p
  match x.lnk.link with
  | .active => if x.lnk.widthReq.isSome then s.updPort p (fun x => { x with lnk := { x.lnk with retrainNext := true } })
    else startRetrain p 2 false false s
  | .train | .bitlock | .symlock | .capx =>
    s.updPort p (fun x => { x with lnk := { x.lnk with
      link := .train, since := s.now, cause := 2, widthCap := none, lanesTrained := 0, lanesBit := 0, lanesLocked := 0, capCount := 0 } })
  | _ => s

/-- PORT_LINK_CTRL.DOWN (R178). -/
def doDown (p : Nat) (level : Bool) (s : State) : State :=
  let x := s.port p
  if level then settleRung (s.updPort p (fun x => let y := x.toOff; { y with lnk.down := true }))
  else if x.lnk.down then
    s.updPort p (fun x => { x with lnk := { x.lnk with
      down := false, mgmtStart := true, since := s.now,
      link := if x.lnk.link = .off ∧ s.portUp p ∧ s.portsRun then .detect else x.lnk.link } })
  else s

/-- PORT_LOOP written (R177, R178): a near-end loop only in OFF, the far-end loop for the next CAPX. -/
def doLoop (p mode : Nat) (prbs31 : Bool) (lanes : BitVec 4) (errors : List Nat) (s : State) : State :=
  if mode = 3 ∨ (s.port p).lnk.link = .off then
    let s := s.updPort p (fun x => { x with lnk := { x.lnk with
      loopMode := BitVec.ofNat 2 mode, loopPattern := prbs31, loopLanes := lanes } })
    if mode = 3 then s else countPrbs p lanes errors s
  else s

/-! ## The port's own rung -/

/-- PORT_IDLE_DESCENT (R382, R383, R385). -/
def execPortIdleDescent (p : PortId) (s : State) : Host.Outcome State Fault Refusal :=
  let x := s.port p.val
  let n := x.rung.toNat + 1
  if x.lnk.link = .active ∧ x.idle ∧ n ≤ x.deepest ∧ n ≤ 3 then
    let w := s.pwr.timersAt x.idleSince
    let wait := match n with
      | 1 => w.idle1.toNat | 2 => w.idle2.toNat * 1000 | _ => w.idle3.toNat * 1000000
    let s := s.atLeast (x.idleSince + wait)
    .next (settleRung (s.updPort p.val (fun x => { x with
      rung := BitVec.ofNat 2 n
      wire := if 2 ≤ n ∧ !x.txHush then (x.sendBlocks 0x3FF 1).wire else x.wire
      txHush := decide (2 ≤ n) })))
  else .next s

/-! ## Wakes (R395, R396) -/

/-- A wake source arrives: SEEN always; LAST, FROM_RUNG and WAKES when it starts the wake. -/
def recordWake (code : Nat) (starts : Bool) (s : State) : State :=
  let s := { s with pwr.wakeSeen := s.pwr.wakeSeen ||| BitVec.ofNat 6 (2 ^ (code - 1)) }
  if starts then { s with pwr.wakeLast := BitVec.ofNat 3 code, pwr.fromRung := BitVec.ofNat 3 s.pwr.rung,
                          pwr.wakes := s.pwr.wakes + 1 } else s

/-- A wake at P4 or P5 starts the exit sequence (R398 step 1). -/
def startExit (code : Nat) (service : Bool) (s : State) : State :=
  { recordWake code true s with
    pins.vid := some 0x18
    pwr := { (recordWake code true s).pwr with raising := true, raiseAt := s.now, lowering := false, wake := some { from_ := s.pwr.rung, code := code, service := service, step := 1 } } }

/-- A wake event with this code that leads to SERVICE or to RETAIN at P3 (R394 to R396). -/
def wakeEvent (code : Nat) (service : Bool) (s : State) : State :=
  if s.mode ≠ .retain ∨ s.bist.shutDown then s
  else if s.pwr.wake.isSome then recordWake code false s
  else if s.pwr.rung = 3 then
    let s := recordWake code true s
    if service then backToService s
    else (match s.pwr.entry with | some _ => abandonEntry 4 0 s | none => s)
  else
    -- an entry from P4 to P5 before its commit point is abandoned, and the exit is counted from P4 (R391, R394)
    let s := (match s.pwr.entry with | some _ => abandonEntry 4 0 s | none => s)
    startExit code service s

/-- PORT_ACTIVITY_EXIT (R381, R388): the port returns to P0; at P3 in RETAIN it is a wake towards SERVICE (R395). -/
def execPortActivityExit (p : PortId) (s : State) : Host.Outcome State Fault Refusal :=
  let x := s.port p.val
  if x.lnk.link = .active ∧ x.rung ≠ 0 then
    let s := portActive p.val s
    .next (if s.mode = .retain then wakeEvent 1 true s else s)
  else .next s

end Sys2Proof.Machine
end

