-- ==== Sys2Proof/Machine/Flits.lean ====
section
/-! DEFINITION. The link protocol of a port (chapter 07): flits received and sent, credits, acknowledgement and replay, sessions, audits and resynchronisation, request headers and write data, budget windows (chapter 09). -/

namespace Sys2Proof.Machine

/-- A protocol violation (R211). -/
def violation (p cause : Nat) (s : State) : State :=
  let s := s.updPort p (fun x => { x with protoLast := BitVec.ofNat 4 cause, protoCount := satInc x.protoCount })
  fault (srcProto p) (portDetail p cause) s

/-- The port carries SEQ flits (R188). -/
def Port.inSession (p : Port) : Bool := decide (p.lnk.link = .active) && p.tx.session && p.tx.initSent && p.tx.initRcvd

/-! ## Acknowledgement and replay (R196 to R200) -/

/-- The oldest unacknowledged sequence (R214). -/
def Port.oldest (p : Port) : BitVec 12 := match p.tx.replay with | f :: _ => BitVec.ofNat 12 f.seq | [] => p.tx.nextSeq

/-- ACK_SEQ processed (R197). -/
def processAck (p : Nat) (ack : BitVec 12) (s : State) : State :=
  let x := s.port p
  let d := (ack - x.oldest).toNat
  let u := x.tx.replay.length
  if d < u then
    noteHeld p (s.updPort p (fun x => { x with
      tx.replay := x.tx.replay.drop (d + 1)
      tx.expiries := 0
      aud.atAck := (match x.tx.replay[d]? with | some f => f.point | none => x.aud.atAck) }))
  else if 2048 ≤ d then s
  else violation p 8 s

/-- Every unacknowledged SEQ flit from a sequence is sent again in order, its ACK_SEQ and CRC afresh (R199, R200). -/
def replayFrom (p : Nat) (from_ : BitVec 12) (s : State) : State :=
  let s := s.updPort p (fun x => { x.transmit ((x.tx.replay.drop (from_ - x.oldest).toNat).map x.seqFlit) with
    tx.cReplays := satInc x.tx.cReplays
    tx.replay := x.tx.replay.map (fun f =>
      if (BitVec.ofNat 12 f.seq - x.oldest).toNat < (from_ - x.oldest).toNat then f else { f with sentAt := s.now }) })
  pmcCount p 0x0E 1 s

/-- A SEQ flit is lost: one RETRY_REQ names the expected sequence (R198). -/
def lostFlit (p : Nat) (s : State) : State :=
  if !(s.port p).inSession ∨ (s.port p).tx.discarding then s
  else
    let s := s.updPort p (fun x => { x with tx.discarding := true, tx.retryAt := s.now, tx.cRetrySent := satInc x.tx.cRetrySent })
    sendLink p (.retryReq (s.port p).tx.expect.toNat) s

/-! ## Credits (R187 to R190, R201) -/

/-- An egress credit return of n on VC v; what exceeds the grant is ignored (R211 cause 9). -/
def creditReturn (p v n : Nat) (s : State) : State :=
  let x := s.port p
  if n = 0 then s
  else
    let room := match v with
      | 1 => x.tx.grant1 - x.tx.held1 | 2 => x.tx.grant2 - x.tx.held2 | _ => 0
    let k := min n room
    let s := s.updPort p (fun x => match v with
      | 1 => { x with tx.held1 := x.tx.held1 + k, aud.retRcvd1 := x.aud.retRcvd1 + BitVec.ofNat 16 k }
      | 2 => { x with tx.held2 := x.tx.held2 + k, aud.retRcvd2 := x.aud.retRcvd2 + BitVec.ofNat 16 k }
      | _ => x)
    let s := noteHeld p s
    if k < n then violation p 9 s else s

/-- An ingress credit falls due (R189). -/
def Port.due (p : Port) (v : Nat) : Port :=
  match v with
  | 0 => { p with tx.due0 := p.tx.due0 + 1 }
  | 1 => { p with tx.due1 := p.tx.due1 + 1 }
  | _ => { p with tx.due2 := p.tx.due2 + 1 }

/-- Ingress credits the partner may still spend on VC v. -/
def Port.peer (p : Port) (v : Nat) : Nat := match v with | 0 => p.tx.peer0 | 1 => p.tx.peer1 | _ => p.tx.peer2

/-- Credits of VC v due to the partner. -/
def Port.dueOf (p : Port) (v : Nat) : Nat := match v with | 0 => p.tx.due0 | 1 => p.tx.due1 | _ => p.tx.due2

/-- n due credits of VC v returned in a SEQ flit. -/
def Port.giveBack (p : Port) (v n : Nat) : Port :=
  match v with
  | 0 => { p with tx.due0 := p.tx.due0 - n, tx.peer0 := p.tx.peer0 + n, aud.ret0 := p.aud.ret0 + BitVec.ofNat 16 n }
  | 1 => { p with tx.due1 := p.tx.due1 - n, tx.peer1 := p.tx.peer1 + n, aud.ret1 := p.aud.ret1 + BitVec.ofNat 16 n }
  | _ => { p with tx.due2 := p.tx.due2 - n, tx.peer2 := p.tx.peer2 + n, aud.ret2 := p.aud.ret2 + BitVec.ofNat 16 n }

/-! ## Slots received -/

/-- VC of a slot type (R187). -/
def slotVc (typ : Nat) : Nat := match typ with | 0 => 1 | 1 => 0 | _ => 2

/-- What a good slot puts into the receive buffer; none where the slot is at fault (R211 cause 1). -/
def slotItems (x : BitVec 608) : Option (List RxItem) :=
  match bitsOf x.toNat 1 0 with
  | 0 => let d := dataSlotOf x; if dataSlotOk d then some [.data d] else none
  | 1 =>
    if reqSlotOk x then
      some ((List.range (reqCount x)).map (fun i => .header 0 (reqHeader x i) (decide (i + 1 = reqCount x))))
    else none
  | 2 => if vc2FromPartner (ctrlCode x) && ctrlPadOk x then some [.msg (ctrlCode x) x] else none
  | _ => if x = idleSlot then some [] else none

/-- Request headers in a slot, for the count of R203. -/
def slotHeaders (x : BitVec 608) : Nat :=
  match bitsOf x.toNat 1 0 with
  | 1 => if reqCount x ≤ 6 then reqCount x else 0
  | 2 => if ctrlCode x = 0x12 then 1 else 0
  | _ => 0

/-- One slot of an accepted SEQ flit. -/
def receiveSlot (p : Nat) (x : BitVec 608) (s : State) : State :=
  let typ := bitsOf x.toNat 1 0
  let items := slotItems x
  if typ = 3 then (if items.isSome then s else violation p 1 s)
  else
    let v := slotVc typ
    if (s.port p).peer v = 0 then
      fault (srcBook p) (portDetail p 3) (violation p 3 s)
    else
      let s := s.updPort p (fun y =>
        let y := (match v with
          | 0 => { y with tx.peer0 := y.tx.peer0 - 1, aud.rcvd0 := y.aud.rcvd0 + 1 }
          | 1 => { y with tx.peer1 := y.tx.peer1 - 1, aud.rcvd1 := y.aud.rcvd1 + 1 }
          | _ => { y with tx.peer2 := y.tx.peer2 - 1, aud.rcvd2 := y.aud.rcvd2 + 1 })
        { y with aud.tagOpenCnt := y.aud.tagOpenCnt + BitVec.ofNat 16 (slotHeaders x) })
      match items with
      | some l => s.updPort p (fun y => { y with tx.rx := y.tx.rx ++ l })
      | none => violation p 1 (s.updPort p (fun y => y.due v))

/-! ## Headers that no command carries (R184, R191) -/

/-- The same header bits. -/
def RxItem.isHeader (b : BitVec 96) : RxItem → Bool
  | .header _ h _ => decide (h = b)
  | _ => false

/-- A request header. -/
def RxItem.anyHeader : RxItem → Bool
  | .header _ _ _ => true
  | _ => false

/-- A CTRL message of this code. -/
def RxItem.isMsg (c : Nat) : RxItem → Bool
  | .msg d _ => decide (c = d)
  | _ => false

/-- The oldest header in the receive buffer leaves it; the last one of its slot makes the slot's credit due (R189). -/
def Port.dropHeader (x : Port) : Port :=
  match x.tx.rx.find? RxItem.anyHeader with
  | some (.header v _ last) =>
    let x := { x with tx.rx := dropFirst RxItem.anyHeader x.tx.rx }
    if last then x.due v else x
  | _ => x

/-- A CTRL message leaves the receive buffer (R189). -/
def takeMsg (p c : Nat) (s : State) : State :=
  if (s.port p).tx.rx.any (RxItem.isMsg c) then
    s.updPort p (fun x => { x with tx.rx := dropFirst (RxItem.isMsg c) x.tx.rx }.due 2)
  else s

/-- A new open request (R191). -/
def newReq (op : Op) (h : ReqHeader) (now : Nat) : Req :=
  { tag := h.tag.toNat, op := op, label := h.label.toNat, deadline := h.deadline.toNat, arrival := now,
    block := h.block.toNat, len := h.length.toNat, noCorr := h.flags.getLsbD 0 }

/-- The checks of R191 before the opcode's own: HCHECK, an open tag; the tag opened where both hold. -/
def openTag (p : Nat) (op : Op) (h : ReqHeader) (r : Req) (next : State → State) (s : State) : State :=
  let s := requestArrives p s
  if !hcheckOk op.code h then violation p 2 s
  else if (s.port p).reqs.any (fun e => decide (e.tag = h.tag.toNat)) then violation p 4 s
  else next (s.updPort p (fun x => { x with reqs := x.reqs ++ [r] }))

/-- A REQ slot's header whose OPCODE R184 does not give to REQ slots: FENCED or UNSUPPORTED (R191). -/
def answerOther (p : Nat) (b : BitVec 96) (s : State) : State :=
  let op := Op.other (headerOp b)
  let r := newReq op (headerOf b) s.now
  openTag p op (headerOf b) r (fun s => s.updPort p (fun x =>
    x.answer r (if x.fenced ∧ headerOp b ≠ Op.mread.code then .fenced else .unsupported))) s

/-- A MGMT_REQ whose OPCODE is neither MREAD's nor MATTEST's (R184, R191, R210). -/
def answerOtherMgmt (p : Nat) (b : BitVec 96) (s : State) : State :=
  let op := Op.other (headerOp b)
  let t := (headerOf b).tag.toNat
  openTag p op (headerOf b) { newReq op (headerOf b) s.now with phase := .mgmt } (fun s =>
    answerMgmt p t (if (s.port p).fenced then .fenced
      else if s.att.queue.any (fun e => decide (e.port = some p)) then .busy else .unsupported) [] s) s

/-- The OPCODE is one that R184 gives to REQ slots. -/
def reqOpcode (b : BitVec 96) : Bool := decide (1 ≤ headerOp b) && decide (headerOp b ≤ 5)

/-- Headers at the front of the receive buffer that are no command of their own are taken and answered, in order (R184, R191). -/
def serveOthers (p : Nat) (s : State) : State :=
  (List.range (s.port p).tx.rx.length).foldl (fun s _ =>
    let s := match (s.port p).tx.rx.find? RxItem.anyHeader with
      | some (.header _ b _) => if reqOpcode b then s else answerOther p b (s.updPort p (·.dropHeader))
      | _ => s
    match (s.port p).tx.rx.find? (RxItem.isMsg 0x12) with
    | some (.msg _ x) =>
      let b := mgmtHeader x
      if headerOp b = 0x10 ∨ headerOp b = 0x11 then s else answerOtherMgmt p b (takeMsg p 0x12 s)
    | _ => s) s

/-- A slot that carries an AUDIT. -/
def carriesAudit (x : BitVec 608) : Bool := decide (bitsOf x.toNat 1 0 = 2) && decide (ctrlCode x = 0x11)

/-- An accepted SEQ flit (R189 to R191, R197); the lanes of a width change that begins with the next one are taken (R208). -/
def acceptSeq (p : Nat) (f : BitVec 1280) (s : State) : State :=
  let w := f.toNat % 2 ^ 32
  let s := pmcCount p 0x01 1 s
  let s := s.updPort p (fun x => { x with
    tx.expect := x.tx.expect + 1, tx.ackOut := x.tx.expect, tx.discarding := false, aud.seqSinceAudit := true
    aud.snap := if carriesAudit (flitSlot f 0) ∨ carriesAudit (flitSlot f 1) then
        some ({ v0 := x.aud.rcvd0, v1 := x.aud.rcvd1, v2 := x.aud.rcvd2, tags := x.aud.tagOpenCnt }, x.aud.atAck) else x.aud.snap
    lnk := if x.lnk.rxNext.any (fun e => decide (e.2 = x.tx.expect + 1)) then
        { x.lnk with rxLanes := (x.lnk.rxNext.getD (0, 0)).1, rxNext := none } else x.lnk })
  let s := if bitsOf w 31 30 = 3 then s else creditReturn p (bitsOf w 31 30) (bitsOf w 29 26 + 1) s
  serveOthers p (receiveSlot p (flitSlot f 1) (receiveSlot p (flitSlot f 0) s))

/-- A flit with a good CRC (R180, R181, R198). -/
def goodFlit (p : Nat) (f : BitVec 1280) (s : State) : State :=
  let w := f.toNat % 2 ^ 32
  let seq := BitVec.ofNat 12 (w / 4)
  let ack := BitVec.ofNat 12 (w / 2 ^ 14)
  let noCredit := decide (w / 2 ^ 26 = 0x30)
  let ahead := seq - (s.port p).tx.expect
  match w % 4 with
  | 0 =>
    if !(s.port p).inSession then s
    else
      let s := processAck p ack s
      if ahead = 0 then acceptSeq p f s
      else if ahead.toNat < 2048 then lostFlit p s
      else s
  | 1 =>
    let s := if (s.port p).inSession then processAck p ack s else s
    let s := if (s.port p).inSession ∧ ahead ≠ 0 ∧ ahead.toNat < 2048 then lostFlit p s else s
    if noCredit ∧ flitSlot f 0 = idleSlot ∧ flitSlot f 1 = idleSlot then s else violation p 1 s
  | 2 =>
    let s := if (s.port p).inSession then processAck p ack s else s
    let x := flitSlot f 0
    if noCredit ∧ seq = 0 ∧ bitsOf x.toNat 1 0 = 2 ∧ linkFromPartner (ctrlCode x) ∧ ctrlPadOk x ∧ flitSlot f 1 = idleSlot then s
    else violation p 1 s
  | _ => violation p 1 s

/-- The CRC of a flit (R180). -/
def flitCrcOk (f : BitVec 1280) : Bool :=
  decide ((crc32 (leBytes 156 (f.toNat % 2 ^ 1248))).toNat = f.toNat / 2 ^ 1248)

/-- A lane with n more symbols corrected now: those of the last 1 ms are kept (R175). -/
def Lane.correct (y : Lane) (now n : Nat) : Lane :=
  { y with fecCorr := satAdd y.fecCorr n, lately := (now, n) :: y.lately.filter (fun e => decide (now < e.1 + 1000000)) }

/-- Corrected symbols count by lane in PORT_LANE_FEC (R172). -/
def countCorrected (p : Nat) (corrected : List Nat) (s : State) : State :=
  forN 4 (fun l s => if corrected.getD l 0 = 0 then s
    else s.updPort p (·.updLane l (fun y => y.correct s.now (corrected.getD l 0)))) s

/-- More than 1,024 symbols of the lane were corrected within 1 ms (R175). -/
def Lane.noisy (y : Lane) : Bool := decide (1024 < (y.lately.map (·.2)).sum)

/-- Lanes in use with too many corrections, or two alignment markers missed in a row, have failed (R174, R175). -/
def failNoisy (p : Nat) (s : State) : State :=
  let x := s.port p
  let bad := (lanesOf x.lnk.rxLanes).filter (fun j => (x.lane (x.receiver j)).noisy || decide (2 ≤ (x.lane (x.receiver j)).missed))
  if bad = [] then s
  else
    let s := forL bad (fun j s => s.updPort p (·.updLane (x.receiver j) (fun y => { y with lately := [], missed := 0 }))) s
    failLanes p (bad.foldl (fun m j => m ||| BitVec.ofNat 4 (2 ^ j)) 0) s

/-- Alignment markers as they stood on the receivers (R174): the count is read, and a lane that misses two in a row has failed. -/
def takeMarker (p : Nat) (blocks : List (BitVec 640)) (s : State) : State :=
  let x := s.port p
  let got : Nat → Option Nat := fun j =>
    match blockHead (blocks.getD (x.receiver j) 0).toNat 0 with | some (l, n) => if l = j then some n else none | none => none
  let js := lanesOf x.lnk.rxLanes
  let s := forL js (fun j s => s.updPort p (·.updLane (x.receiver j) (fun y =>
    { y with missed := if (got j).isSome then 0 else y.missed + 1 }))) s
  let s := match js.findSome? got with
    | some n => s.updPort p (fun x => { x with lnk := { x.lnk with rxMarker := BitVec.ofNat 10 n } })
    | none => s
  failNoisy p s

/-- A flit with a good CRC on a port below P0, unless it is an IDLE flit, brings the port back to P0 (R388). -/
def takeFlit (p : Nat) (f : BitVec 1280) (s : State) : State :=
  let s := if f.toNat % 4 ≠ 1 ∧ (s.port p).rung ≠ 0 then portActive p s else s
  goodFlit p f s

/-- What one decoded codeword gives: its flits in order while the port is ACTIVE, a lost one where its CRC fails, and all of them
lost where it cannot be corrected (R172, R180, R198). The losses count once for the transmission. -/
def takeWord (p : Nat) (seqLost : Bool) (r : Option (List (BitVec 1280) × List Nat)) (s : State) : State :=
  match r with
  | some (flits, corrected) =>
    forL flits (fun f s => if (s.port p).lnk.link ≠ .active then s else if flitCrcOk f then takeFlit p f s else lostFlit p s)
      (countCorrected p corrected s)
  | none =>
    let s := s.updPort p (fun x => { x with lnk := { x.lnk with fecUncorr := satInc x.lnk.fecUncorr } })
    if seqLost then lostFlit p s else s

/-- The flits lost in a transmission of codewords. -/
def lostIn (n : Nat) (l : List (Option (List (BitVec 1280) × List Nat))) : Nat :=
  (l.map (fun r => match r with | some (flits, _) => (flits.filter (fun f => !flitCrcOk f)).length | none => n)).sum

/-- The lanes of a width change under way are taken where a transmission decodes on them and not on those before (R208, log 74): its
SWITCH_SEQ has gone by though the flit before it was lost. -/
def Port.findSwitch (p : Port) (lanes : List (List (BitVec 10))) : Port :=
  match p.lnk.rxNext with
  | some (l, _) =>
    let y := { p with lnk := { p.lnk with rxLanes := l, rxNext := none } }
    if (p.decodeWord (p.gather lanes 0)).isNone ∧ (y.decodeWord (y.gather lanes 0)).isSome then y else p
  | none => p

/-- FLIT_RECEIVED (R172, R174, R180, R198, R388). A LINK flit's message takes effect with its own command. -/
def execFlitReceived (p : PortId) (rx : RxCodeword) (s : State) : Host.Outcome State Fault Refusal :=
  if (s.port p.val).lnk.link ≠ .active then .next s
  else
    let s := s.updPort p.val (fun x => { x with rxHush := false })
    match rx with
    | .uncorrectable n seqLost =>
      let s := s.updPort p.val (fun x => { x with lnk := { x.lnk with fecUncorr := satInc x.lnk.fecUncorr } })
      let s := faultMany (srcLink p.val) n (portDetail p.val (s.port p.val).lnk.cause.toNat) s
      .next (if seqLost then lostFlit p.val s else s)
    | .flit f corrected =>
      let s := countCorrected p.val corrected s
      .next (failNoisy p.val (if flitCrcOk f then takeFlit p.val f s
        else lostFlit p.val (fault (srcLink p.val) (portDetail p.val (s.port p.val).lnk.cause.toNat) s)))
    | .marker blocks => .next (if (s.port p.val).lnk.rl1 then takeMarker p.val blocks s else s)
    | .lanes symbols seqLost =>
      let s := s.updPort p.val (·.findSwitch symbols)
      let x := s.port p.val
      let words := (List.range x.codewords).map (fun c => x.decodeWord (x.gather symbols c))
      let s := forL words (takeWord p.val seqLost) s
      .next (failNoisy p.val
        (faultMany (srcLink p.val) (lostIn x.flitsPerWord words) (portDetail p.val (s.port p.val).lnk.cause.toNat) s))

/-- RETRY_REQ_RESEND (R198): 1 µs after the last one. -/
def execRetryReqResend (p : PortId) (s : State) : Host.Outcome State Fault Refusal :=
  if (s.port p.val).inSession ∧ (s.port p.val).tx.discarding then
    let s := s.atLeast ((s.port p.val).tx.retryAt + 1000)
    let s := s.updPort p.val (fun x => { x with tx.cRetrySent := satInc x.tx.cRetrySent, tx.retryAt := s.now })
    .next (sendLink p.val (.retryReq (s.port p.val).tx.expect.toNat) s)
  else .next s

/-! ## Request headers (R191, R209) -/

/-- A request passed to the gauntlet, which examines its oldest candidates in the same tick (R191, R250). -/
def toGauntlet (p tag : Nat) (s : State) : State :=
  let s := s.updPort p (fun x => x.updReq tag (fun r => { r with phase := .waiting, arrival := s.now }))
  reexamine p (pmcCount p 0x03 1 s)

/-- The header may be taken: none like it waits in the receive buffer, or it is the oldest header there (R191). -/
def Port.inTurn (x : Port) (b : BitVec 96) : Bool :=
  !x.tx.rx.any (RxItem.isHeader b) || (x.tx.rx.find? RxItem.anyHeader).any (RxItem.isHeader b)

/-- A request header on VC0 (R191): headers are taken in the order in which they came. -/
def receiveRequest (p : Nat) (op : Op) (h : ReqHeader) (s : State) : State :=
  let b := BitVec.ofNat 96 (headerBits op.code h + h.hcheck.toNat * 2 ^ 80)
  if !(s.port p).inSession ∨ !(s.port p).inTurn b then s
  else
    let s := if (s.port p).tx.rx.any (RxItem.isHeader b) then s.updPort p (·.dropHeader) else s
    let extra := match (s.port p).rung.toNat with | 2 => 180 | 3 => 1980 | _ => 0
    let r := { newReq op h s.now with exit := extra }
    serveOthers p (openTag p op h r (fun s =>
      if (s.port p).fenced then
        s.updPort p (fun x => { x.answer r .fenced with mute := if op.writes then x.mute ++ [r.tag] else x.mute })
      else if !headerAllowed op h then s.updPort p (fun x => x.answer r .unsupported)
      else match (s.port p).translate h.block.toNat op.writes with
        | none => violation p 6 (s.updPort p (fun x => x.answer r .windowFault))
        | some d =>
          let s := s.updPort p (fun x => x.updReq r.tag (fun r => { r with dev := d, phase := .waitData }))
          if op.writes then s else toGauntlet p r.tag s) s)

/-- RD64 (R184, R191). -/
def execRd64 (p : PortId) (h : ReqHeader) (s : State) : Host.Outcome State Fault Refusal := .next (receiveRequest p.val .rd64 h s)
/-- RD128 (R184, R191). -/
def execRd128 (p : PortId) (h : ReqHeader) (s : State) : Host.Outcome State Fault Refusal := .next (receiveRequest p.val .rd128 h s)
/-- WR64 (R184, R191, R192). -/
def execWr64 (p : PortId) (h : ReqHeader) (s : State) : Host.Outcome State Fault Refusal := .next (receiveRequest p.val .wr64 h s)
/-- WRM64 (R184, R191, R192). -/
def execWrm64 (p : PortId) (h : ReqHeader) (s : State) : Host.Outcome State Fault Refusal := .next (receiveRequest p.val .wrm64 h s)
/-- FILL (R184, R191, R192, R232). -/
def execFill (p : PortId) (h : ReqHeader) (s : State) : Host.Outcome State Fault Refusal := .next (receiveRequest p.val .fill h s)

/-- The DATA slot is the item. -/
def RxItem.isData (d : DataSlot) : RxItem → Bool
  | .data e => decide (e = d)
  | _ => false

/-- WRITE_DATA (R192, R255). -/
def execWriteData (p : PortId) (d : DataSlot) (s : State) : Host.Outcome State Fault Refusal :=
  if !(s.port p.val).inSession then .next s
  else
    let s := if (s.port p.val).tx.rx.any (RxItem.isData d) then
        s.updPort p.val (fun x => { x with tx.rx := dropFirst (RxItem.isData d) x.tx.rx }.due 1)
      else s
    let tag := d.tag.toNat
    if !dataSlotOk d then .next (violation p.val 1 s)
    else if (s.port p.val).mute.contains tag then
      .next (s.updPort p.val (fun x => { x with mute := dropFirst (fun t => decide (t = tag)) x.mute }))
    else match (s.port p.val).reqs.find? (fun r => decide (r.tag = tag) && r.op.writes && !r.gotData) with
      | none => .next (violation p.val 5 s)
      | some r =>
        let s := s.updPort p.val (fun x => x.updReq tag (fun r => { r with gotData := true, mask := d.mask, data := d.data }))
        if r.phase ≠ .waitData then .next s
        else if r.op ≠ .wrm64 ∧ d.mask ≠ BitVec.allOnes 64 then .next (s.updPort p.val (fun x => x.answer r .unsupported))
        else .next (toGauntlet p.val tag s)

/-! ## Flits sent -/

/-- VC of a slot that the stack sends. -/
def Slot.vc : Slot → Nat
  | .ctrl _ => 2
  | .idle => 3
  | _ => 1

/-- A completion slot with room for another header. -/
def Slot.join : Slot → Slot → Option Slot
  | .completions a, .completions b => if a.length + b.length ≤ 6 then some (.completions (a ++ b)) else none
  | _, _ => none

/-- An AUDIT takes its counts when its flit is built (R203). -/
def Port.fill (p : Port) : Slot → Slot
  | .ctrl (.audit id _ _ _ _ _ _ _ _) => .ctrl (.audit id 0 p.aud.sent1.toNat p.aud.sent2.toNat 0 p.aud.retRcvd1.toNat
      p.aud.retRcvd2.toNat p.aud.tagOpenCnt.toNat p.aud.tagCloseCnt.toNat)
  | x => x

/-- What one SEQ flit takes from the waiting items: the flit's slots, the items taken, the items left, credits left. -/
structure Pick where
  slots : List Slot := []
  taken : List OutItem := []
  left : List OutItem := []
  h1 : Nat
  h2 : Nat
  stop1 : Bool := false
  /-- Tags whose final slot lies before the items still to be offered. -/
  closed : List Nat := []

/-- The request that an item answers. -/
def OutItem.tag (o : OutItem) : Option Nat :=
  match o.slot with
  | .completions ((_, t, _) :: _) => some t
  | .data t _ _ _ => some t
  | _ => none

/-- An item waits while an earlier accepted request of the port that shares a block with its request has not been answered before it
(R194). -/
def Port.waitsOrder (x : Port) (closed : List Nat) (o : OutItem) : Bool :=
  match o.tag.bind (fun t => x.reqs.find? (fun r => decide (r.tag = t))) with
  | some r => r.accepted && (x.reqs.takeWhile (fun e => decide (e.tag ≠ r.tag))).any (fun e =>
      e.accepted && !e.op.mgmt && e.shares r && !closed.contains e.tag)
  | none => false

/-- One waiting item offered to the flit. -/
def Pick.offer (x : Port) (k : Pick) (o : OutItem) : Pick :=
  if x.waitsOrder k.closed o then { k with left := k.left ++ [o] } else
  let k := { k with closed := match o.closes with | some t => t :: k.closed | none => k.closed }
  let join := match k.slots.reverse with | x :: t => (Slot.join x o.slot).map (fun y => (t.reverse ++ [y])) | [] => none
  match join with
  | some l => if k.stop1 then { k with left := k.left ++ [o] } else { k with slots := l, taken := k.taken ++ [o] }
  | none =>
    if o.slot.vc = 2 then
      if k.slots.length < 2 ∧ 0 < k.h2 then
        { k with slots := k.slots ++ [o.slot], taken := k.taken ++ [o], h2 := k.h2 - 1 }
      else { k with left := k.left ++ [o] }
    else if k.slots.length < 2 ∧ 0 < k.h1 ∧ !k.stop1 then
      { k with slots := k.slots ++ [o.slot], taken := k.taken ++ [o], h1 := k.h1 - 1 }
    else { k with left := k.left ++ [o], stop1 := true }

/-- A SEQ flit sent (R189, R196), at the width that begins with it (R208): the CREDIT field takes the credits of the one VC that has some due; several VCs wait for
a CREDIT message. `closes` final slots are in it. -/
def sendSeq (p : Nat) (slots : List Slot) (closes : Nat) (s : State) : State :=
  let x := s.port p
  let vcs := [0, 1, 2].filter (fun v => decide (0 < x.dueOf v))
  let credit := match vcs with | [v] => some (v, min 16 (x.dueOf v)) | _ => none
  let s := s.updPort p (fun x =>
    let x := match credit with | some (v, n) => x.giveBack v n | none => x
    let n1 := (slots.filter (fun y => decide (y.vc = 1))).length
    let n2 := (slots.filter (fun y => decide (y.vc = 2))).length
    let f : SentFlit := { seq := x.tx.nextSeq.toNat, slots := slots.map x.fill, credit := credit, sentAt := s.now,
                          point := { v0 := x.aud.ret0, v1 := x.aud.ret1, v2 := x.aud.ret2, tags := x.aud.tagCloseCnt + BitVec.ofNat 16 closes } }
    let x := if x.lnk.txNext.any (fun e => decide (e.2 = x.tx.nextSeq)) then
        { x with lnk := { x.lnk with txLanes := (x.lnk.txNext.getD (0, 0)).1, txNext := none } } else x
    let x := { x with tx.nextSeq := x.tx.nextSeq + 1, tx.replay := x.tx.replay ++ [f] }.transmit [x.seqFlit f]
    { x with
      aud.sent1 := x.aud.sent1 + BitVec.ofNat 16 n1, aud.sent2 := x.aud.sent2 + BitVec.ofNat 16 n2
      aud.seqSinceAudit := true })
  pmcCount p 0x02 1 s

/-- A SEQ flit may be sent (R190, R196, R205). -/
def Port.maySend (p : Port) : Bool := p.inSession && p.aud.resync.isNone && decide (p.tx.replay.length < 256)

/-- Items that have been put into a flit: tags close, notices and audits are noted, and responses that leave beyond their bound, the time
that the partner withheld left out, are counted (R9, R176, R191, R205, R237). -/
def sentItems (p : Nat) (l : List OutItem) (s : State) : State :=
  forL l (fun o s =>
    let s := match o.closes with
      | some tag => touch (s.updPort p (fun x => { x with
          reqs := x.reqs.filter (fun r => decide (r.tag ≠ tag)), aud.tagCloseCnt := x.aud.tagCloseCnt + 1 }))
      | none => s
    let s := if o.bound.any (fun b => decide (b + ((s.port p).heldBy s.now - o.base) < s.now)) then
        s.updPort p (fun x => { x with lnk := { x.lnk with cLate := satInc x.lnk.cLate } }) else s
    match o.slot with
    | .ctrl (.notice a b c d) => s.updPort p (fun x =>
        let l := x.lastNotices ++ [(a, b, c, d)]
        { x with lastNotices := l.drop (l.length - 4) })
    | .ctrl (.audit id _ _ _ _ _ _ _ _) => s.updPort p (fun x => { x with
        aud.auditOpen := x.aud.auditOpen ++ [{ id := BitVec.ofNat 16 id, sentAt := s.now }], aud.seqSinceAudit := false })
    | _ => s) s

/-- The waiting items leave in order, as far as one flit, the order of R194 and the credits held allow (R190, R191, R194). -/
def sendResponses (p : Nat) (s : State) : State :=
  let x := s.port p
  if x.maySend ∧ x.outq ≠ [] then
    let k := x.outq.foldl (Pick.offer x) { h1 := x.tx.held1, h2 := x.tx.held2 }
    if k.taken = [] then noteHeld p s
    else
      let s := if x.rung = 0 then s else portActive p s
      let s := sendSeq p (k.slots ++ List.replicate (2 - k.slots.length) .idle) (k.taken.filter (·.closes.isSome)).length s
      let s := s.updPort p (fun x => { x with outq := k.left, tx.held1 := k.h1, tx.held2 := k.h2 })
      let s := sentItems p k.taken s
      let s := s.updPort p (fun x => if x.idle then { x with idleSince := s.now } else x)
      shutdownAdvance (noteHeld p s)
  else noteHeld p s

/-- CREDIT_RETURN_DUE (R189): a SEQ flit of IDLE slots returns the credits of one VC; with several VCs due it carries a
CREDIT message. -/
def execCreditReturnDue (p : PortId) (s : State) : Host.Outcome State Fault Refusal :=
  let x := s.port p.val
  let vcs := [0, 1, 2].filter (fun v => decide (0 < x.dueOf v))
  if !x.maySend ∨ vcs = [] then .next s
  else match vcs with
    | [_] => .next (sendSeq p.val [.idle, .idle] 0 s)
    | _ =>
      if x.tx.held2 = 0 then
        -- without VC2 credit the CREDIT field returns what the lowest VC has due
        let v := vcs.headD 0
        let keep := x.tx
        let s := s.updPort p.val (fun y => { y with
          tx.due0 := if v = 0 then y.tx.due0 else 0, tx.due1 := if v = 1 then y.tx.due1 else 0, tx.due2 := 0 })
        let s := sendSeq p.val [.idle, .idle] 0 s
        .next (s.updPort p.val (fun y => { y with
          tx.due0 := if v = 0 then y.tx.due0 else keep.due0, tx.due1 := if v = 1 then y.tx.due1 else keep.due1
          tx.due2 := keep.due2 }))
      else
        let m := Msg.credit x.tx.due0 x.tx.due1 x.tx.due2
        let s := s.updPort p.val (fun y =>
          { ((y.giveBack 0 y.tx.due0).giveBack 1 y.tx.due1).giveBack 2 y.tx.due2 with tx.held2 := y.tx.held2 - 1 })
        .next (sendSeq p.val [.ctrl m, .idle] 0 s)

/-- CREDIT (R190). -/
def execCredit (p : PortId) (r0 r1 r2 : BitVec 16) (s : State) : Host.Outcome State Fault Refusal :=
  if (s.port p.val).inSession then
    .next (creditReturn p.val 2 r2.toNat (creditReturn p.val 1 r1.toNat (creditReturn p.val 0 r0.toNat (takeMsg p.val 0x10 s))))
  else .next s

/-- VC1_CREDIT_STALL (R211): a response has waited 100 µs for VC1 credit, since it began to wait or since the last such event. -/
def execVc1CreditStall (p : PortId) (s : State) : Host.Outcome State Fault Refusal :=
  let x := s.port p.val
  if x.inSession ∧ x.dry then
    let s := s.atLeast (x.tx.dryFrom.getD s.now + 100000)
    .next (fault (srcStall p.val) (portDetail p.val 2) (s.updPort p.val (fun x => { x with tx := { x.tx with dryFrom := some s.now } })))
  else .next s

/-! ## INIT, RETRY_REQ, the replay timer -/

/-- INIT (R188): TAGS carries no rule for the partner's value. -/
def execInit (p : PortId) (g0 g1 g2 _tags : BitVec 16) (s : State) : Host.Outcome State Fault Refusal :=
  let x := s.port p.val
  if x.lnk.link = .active ∧ x.tx.session ∧ !x.tx.initRcvd ∧ x.aud.resync.isNone then
    if g0 = 0 ∧ 16 ≤ g1.toNat ∧ 4 ≤ g2.toNat then
      .next (noteHeld p.val <| s.updPort p.val (fun x => { x with
        tx := { x.tx with initRcvd := true, grant1 := g1.toNat, grant2 := g2.toNat, held1 := g1.toNat, held2 := g2.toNat } }))
    else .next (attemptFailed p.val s)
  else .next s

/-- INIT_RESEND (R188): 1 µs after the last INIT. -/
def execInitResend (p : PortId) (s : State) : Host.Outcome State Fault Refusal :=
  let x := s.port p.val
  if x.lnk.link = .active ∧ x.tx.session ∧ !x.tx.initRcvd then
    let s := s.atLeast (x.tx.initAt + 1000)
    .next (sendLink p.val initMsg (s.updPort p.val (fun x => { x with tx := { x.tx with initAt := s.now } })))
  else .next s

/-- INIT_TIMEOUT (R188): 2 ms after ACTIVE. -/
def execInitTimeout (p : PortId) (s : State) : Host.Outcome State Fault Refusal :=
  let x := s.port p.val
  if x.lnk.link = .active ∧ x.tx.session ∧ !x.tx.initRcvd then
    .next (attemptFailed p.val (s.atLeast (x.lnk.since + 2000000)))
  else .next s

/-- RETRY_REQ (R198, R199). -/
def execRetryReq (p : PortId) (next ack : BitVec 12) (s : State) : Host.Outcome State Fault Refusal :=
  if !(s.port p.val).inSession then .next s
  else
    let s := processAck p.val ack s
    let x := s.port p.val
    let again := match x.tx.lastRetry with | some (n, t) => decide (n = next) && decide (s.now < t + 1000) | none => false
    let s := s.updPort p.val (fun x => { x with tx.lastRetry := some (next, s.now) })
    if again || decide (x.tx.replay.length ≤ (next - x.oldest).toNat) then .next (violation p.val 7 s)
    else .next (replayFrom p.val next s)

/-- REPLAY_TIMEOUT (R200). -/
def execReplayTimeout (p : PortId) (s : State) : Host.Outcome State Fault Refusal :=
  let x := s.port p.val
  match x.tx.replay with
  | f :: _ =>
    if x.inSession then
      let s := s.atLeast (f.sentAt + 1000)
      if 7 ≤ x.tx.expiries then
        let s := s.updPort p.val (fun x => { x with tx.expiries := 0 })
        let s := fault (srcStall p.val) (portDetail p.val 1) s
        .next (if (s.port p.val).lnk.link = .active then startRetrain p.val 6 false true s else s)
      else
        let s := s.updPort p.val (fun x => { x with tx.expiries := x.tx.expiries + 1 })
        .next (replayFrom p.val (s.port p.val).oldest s)
    else .next s
  | [] => .next s

/-! ## Audits and resynchronisation (R203 to R205) -/

/-- An AUDIT queued (R203). -/
def queueAudit (p : Nat) (s : State) : State :=
  s.updPort p (fun x => { x with
    aud.auditId := x.aud.auditId + 1
    outq := x.outq ++ [{ slot := .ctrl (.audit x.aud.auditId.toNat 0 0 0 0 0 0 0 0) }] })

/-- The partner's counts equal the stack's at the same sequence points (R203). -/
def Port.auditMatches (p : Port) (m : AuditMsg) : Bool :=
  let a := p.aud
  let (r, t) := a.snap.getD ({ v0 := a.rcvd0, v1 := a.rcvd1, v2 := a.rcvd2, tags := a.tagOpenCnt }, a.atAck)
  m.sent0 == r.v0 && m.sent1 == r.v1 && m.sent2 == r.v2 && m.tagOpen == r.tags
    && m.ret0 == t.v0 && m.ret1 == t.v1 && m.ret2 == t.v2 && m.tagClose == t.tags

/-- A failed audit (R204): one event on book imbalance and a resynchronisation. -/
def auditFailed (p cause reason : Nat) (s : State) : State :=
  let s := s.updPort p (fun x => { x with aud.auditFails := satInc x.aud.auditFails })
  let s := fault (srcBook p) (portDetail p cause) s
  if (s.port p).lnk.link = .active then startResync p reason s else s

/-- AUDIT (R203, R204). -/
def execAudit (p : PortId) (m : AuditMsg) (s : State) : Host.Outcome State Fault Refusal :=
  if !(s.port p.val).inSession then .next s
  else
    let s := takeMsg p.val 0x11 s
    let x := s.port p.val
    if x.aud.auditOpen.any (fun a => decide (a.id = m.id)) then
      let s := s.updPort p.val (fun x => { x with
        aud.auditOpen := x.aud.auditOpen.filter (fun a => decide (a.id ≠ m.id)), aud.snap := none })
      .next (if x.auditMatches m then s else auditFailed p.val 1 2 s)
    else .next s

/-- AUDIT_TIMEOUT (R204): no reply to the oldest AUDIT within 4 µs. -/
def execAuditTimeout (p : PortId) (s : State) : Host.Outcome State Fault Refusal :=
  let x := s.port p.val
  match x.aud.auditOpen with
  | a :: t =>
    if x.inSession then
      let s := (s.atLeast (a.sentAt + 4000)).updPort p.val (fun x => { x with aud.auditOpen := t })
      .next (auditFailed p.val 2 3 s)
    else .next s
  | [] => .next s

/-- Slots of VC v in the receive buffer: B_v (R201). -/
def Port.buffered (p : Port) (v : Nat) : Nat :=
  (p.tx.rx.filter (fun i => match i with
    | .header w _ last => last && decide (w = v)
    | .data _ => decide (v = 1)
    | .msg _ _ => decide (v = 2))).length

/-- Counts from a base point on (R203). -/
def AuditPoint.from_ (a b : AuditPoint) : AuditPoint := { v0 := a.v0 - b.v0, v1 := a.v1 - b.v1, v2 := a.v2 - b.v2, tags := a.tags - b.tags }

/-- The books after a resynchronisation in which the partner named the unacknowledged flits from the d-th on (R203, R205): the counts
restart at 0, and what is replayed counts from there. -/
def Port.restartBooks (x : Port) (d : Nat) : Port :=
  let b := if d = 0 then x.aud.atAck else (x.tx.replay[d - 1]?.map (·.point)).getD x.aud.atAck
  let l := (x.tx.replay.drop d).map (fun f => { f with point := f.point.from_ b })
  let e := (l.getLast?.map (·.point)).getD {}
  let n : Nat → BitVec 16 := fun v => BitVec.ofNat 16 ((l.map (fun f => (f.slots.filter (fun y => decide (y.vc = v))).length)).sum)
  { x with tx.replay := l
           aud := { auditFails := x.aud.auditFails, auditId := x.aud.auditId, ret0 := e.v0, ret1 := e.v1, ret2 := e.v2,
                    tagCloseCnt := e.tags, sent1 := n 1, sent2 := n 2 } }

/-- RESYNC_ACK (R205 steps 3 and 4): the stack sends nothing on VC 0, so its allowance there is not kept. -/
def execResyncAck (p : PortId) (next : BitVec 12) (_g0 g1 g2 : BitVec 16) (s : State) : Host.Outcome State Fault Refusal :=
  let x := s.port p.val
  if x.lnk.link = .active ∧ x.tx.session ∧ x.aud.resync.isSome then
    let d := (next - x.oldest).toNat
    let b0 := 64 - x.buffered 0
    let b1 := 128 - x.buffered 1
    let b2 := 8 - x.buffered 2
    let s := s.updPort p.val (fun x =>
      let x := x.restartBooks (if d ≤ x.tx.replay.length then d else 0)
      { x with
      tx := { x.tx with
        held1 := g1.toNat, grant1 := g1.toNat, held2 := g2.toNat, grant2 := g2.toNat
        peer0 := b0, peer1 := b1, peer2 := b2, due0 := 0, due1 := 0, due2 := 0, discarding := false, initRcvd := true } })
    let s := noteHeld p.val (sendLink p.val (.resyncDone x.tx.expect.toNat b0 b1 b2) s)
    let s := if (s.port p.val).tx.replay = [] then s else replayFrom p.val (s.port p.val).oldest s
    .next (queueAudit p.val s)
  else .next s

/-- RESYNC_RESEND (R205), 1 µs after the last message: after 16 resends without an answer the port enters TRAIN. -/
def execResyncResend (p : PortId) (s : State) : Host.Outcome State Fault Refusal :=
  let x := s.port p.val
  match x.aud.resync with
  | some (reason, n) =>
    if x.lnk.link ≠ .active then .next s
    else if n < 16 then
      let s := s.atLeast (x.tx.resyncAt + 1000)
      let s := s.updPort p.val (fun x => { x with aud.resync := some (reason, n + 1), tx.resyncAt := s.now })
      .next (sendLink p.val (.resyncReq x.tx.expect.toNat reason) s)
    else
      let s := fault (srcStall p.val) (portDetail p.val 3) (s.atLeast (x.tx.resyncAt + 1000))
      .next (if (s.port p.val).lnk.link = .active then startRetrain p.val 6 false true s else s)
  | none => .next s

/-! ## DOZE and the window boundary -/

/-- DOZE (R384). -/
def execDoze (p : PortId) (rung : Byte) (s : State) : Host.Outcome State Fault Refusal :=
  if !(s.port p.val).inSession then .next s
  else
    let s := takeMsg p.val 0x15 s
    if rung = 2 ∨ rung = 3 then .next (s.updPort p.val (fun x => { x with doze := BitVec.ofNat 2 rung.toNat }))
    else if rung = 0 then
      let s := s.updPort p.val (fun x => { x with doze := 0 })
      let x := s.port p.val
      if x.deepest < x.rung.toNat then
        let s := s.updPort p.val (fun x => { x with
          wire := if x.txHush ∧ x.deepest < 2 then (x.sendBlocks 0 (if x.rung = 3 then 128 else 16)).wire else x.wire
          txHush := x.txHush && decide (2 ≤ x.deepest), rung := BitVec.ofNat 2 x.deepest })
        .next (settleRung s)
      else .next s
    else .next (violation p.val 1 s)

/-- A layer or the base die is at or above Throttle (R253, R374). -/
def State.throttling (s : State) : Bool :=
  decide (2 ≤ s.thm.baseLevel) || (List.range 18).any (fun k => decide (2 ≤ (s.layer k).level))

/-- The label book and the share books of a port add up (R241, R244): what is spent and left makes the budget or share, or
what is spent where that is more (R503; after a request of R240 latched in a window of its own, log 75). -/
def State.booksOk (s : State) (p : Nat) : Bool :=
  let g := (s.port p).gnt
  g.spent.all (fun e => decide (e.2 + s.left p e.1 = max (s.effBudget p e.1) e.2))
  && g.pcUsed.all (fun e => decide (e.2 + s.pcLeft p e.1 = max (s.pcShare p e.1) e.2))
  && g.bankUsed.all (fun e =>
    let seg : Seg := { rank := e.1 / 16 % 16, q := e.1 / 256, bank := e.1 % 16, row := 0, block := 0 }
    decide (e.2 + s.bankLeft p seg = max (s.bankShare p seg.rank) e.2))

/-- The audit of the books at a window boundary, before the refill (R241). -/
def auditBooks (p : Nat) (s : State) : State :=
  if s.booksOk p then s
  else
    let s := fault (srcBook p) (portDetail p 1) s
    if (s.port p).lnk.link = .active then startResync p 2 s else s

/-- BUDGET_WINDOW_BOUNDARY (R203, R238, R241, R244, R253, R264, R387). -/
def execBudgetWindowBoundary (p : PortId) (s : State) : Host.Outcome State Fault Refusal :=
  let x := s.port p.val
  match x.gnt.windowStart with
  | none => .next s
  | some t =>
    let s := touch (auditBooks p.val (s.atLeast (t + x.cfg.windowLen.toNat * 1000)))
    let hot := s.throttling
    let s := s.updPort p.val (fun x => { x with gnt := { x.gnt with
      windowStart := some s.now, spent := [], pcUsed := [], bankUsed := [], throttled := hot,
      scaleP := if hot then s.thm.throttleP.toNat else 100, scaleB := if hot then s.thm.throttleB.toNat else 100,
      shrink := if x.lnk.link = .active ∧ x.widthMax ≤ x.lnk.width.toNat ∧ !x.lnk.rl1 then none else x.gnt.shrink } })
    let x := s.port p.val
    if x.inSession ∧ x.aud.resync.isNone ∧ (x.rung.toNat < 2 ∨ x.aud.seqSinceAudit) then .next (queueAudit p.val s)
    else .next s

end Sys2Proof.Machine
end

