-- ==== Sys2Proof/Machine/Power.lean ====
section
/-! DEFINITION. The power ladder (chapter 15): idle timers, entries and their ends, wakes and the exit from P4 and P5, housekeeping; calibration against the board references, clocks and core voltage. -/

namespace Sys2Proof.Machine

/-! ## SERVICE to RETAIN (R389, R390) -/

/-- Every enabled port is idle; a port that is not ACTIVE is. -/
def State.portsIdle (s : State) : Bool :=
  (List.range 16).all (fun p => !s.portUp p || decide ((s.port p).lnk.link ≠ .active) || (s.port p).idle)

/-- The later of the last start of idleness, the last entry to SERVICE and a restart of the timer (R390, R393). -/
def State.idleFrom (s : State) : Nat :=
  (List.range 16).foldl (fun m p => if s.portUp p ∧ (s.port p).lnk.link = .active then max m (s.port p).idleSince else m)
    (max s.pwr.serviceAt s.pwr.dwellFrom)

/-- RETAIN_IDLE as the timer that runs took it (R410). -/
def State.retainWait (s : State) : Word := (s.pwr.timersAt s.idleFrom).retainIdle

/-- RETAIN_IDLE_EXPIRY (R390). -/
def execRetainIdleExpiry (s : State) : Host.Outcome State Fault Refusal :=
  if s.mode = .service ∧ s.retainWait ≠ 0 ∧ s.portsIdle ∧ !s.pwr.retainPending ∧ !s.bist.shutDown then
    .next (moveRetain true false (s.atLeast (s.idleFrom + s.retainWait.toNat * 1000000)))
  else .next s

/-- PWR_CMD ACTION 0x1 (R390). -/
def doMoveToRetain (s : State) : State := moveRetain false false s

/-- PWR_CMD ACTION 0x2 (R390, R395): a pending move withdrawn in SERVICE, the return to SERVICE from P3. -/
def doReturnToService (s : State) : State :=
  if s.mode = .service then
    let s := { s with pwr.retainPending := false, pwr.pendIdle := false, pwr.skipDwells := false }
    match s.pwr.entry with
    | some e => if e.target = 6 then abandonEntry 4 0 s else s
    | none => s
  else wakeEvent 2 true s

/-- PWR_CMD ACTION 0x3 (R390): down to RETAIN_DEEPEST, dwells skipped. -/
def doDescendNow (s : State) : State :=
  if s.mode = .service then moveRetain false true s
  else if s.mode = .retain ∧ s.pwr.entry.isNone ∧ s.pwr.wake.isNone ∧ s.pwr.cause = 0 ∧ !s.bist.shutDown then
    let d := s.pwr.deepestNow
    if s.pwr.rung = 3 ∧ 3 < d ∧ !(d = 4 && s.pwr.keep == 0) then startEntry d s
    else if s.pwr.rung = 4 ∧ d = 5 then startEntry 5 s
    else s
  else s

/-! ## Entries (R389 to R394) -/

/-- Upper limit of a base-interval band in °C, by its code (R399). -/
def bandLimit (code : Nat) : Int := match code with | 0 => 45 | 1 => 85 | 2 => 95 | _ => 105

/-- Wear of the time at P4 or P5 (R399): kept layers at the upper limit of their band, the base die at its last temperature. -/
def chargeRest (s : State) : State :=
  let n := (s.now - s.pwr.restAt) / 1000000000
  chargeAll (fun s => chargeBase n s.thm.baseTemp
    (if s.pwr.rung = 4 then forN 18 (fun k s => if s.layerKept k then chargeLayer k n (degC (bandLimit (s.layer k).band)) s else s) s else s)) s

/-- The islands off at P4 or P5 (R39, R380, R390): sessions end, contents of slices that are not kept are lost. -/
def enterRest (target : Nat) (s : State) : State :=
  let s := if s.pwr.rung = 4 then chargeRest s else s
  let keep : Nat → Nat → Bool := fun q k => decide (target = 4) && s.kept q k
  let live : Nat → Bool := fun k => decide (target = 4) && s.layerKept k
  let s := forN 16 (fun p s => if s.port p = {} then s else s.updPort p (fun x => let y := x.toOff; { y with lnk.pll := false })) s
  let s := eraseSlices (fun i => !keep (i / 18) (i % 18)) s
  let s := mapSlices (fun q k x => { x with selfRefresh := keep q k, powerDown := false }) s
  let s := forN 18 (fun k s => if (s.layer k).powered then
    s.updLayer k (fun x => { x with powered := live k, band := x.base }) else s) s
  { s with
    pins.vid := some 0x08
    sup.running := false
    pwr := { s.pwr with rung := target, restAt := s.now, dwellFrom := s.now, raising := false, lowering := true,
                        corePll := false, fastRc := false, skipDwells := false } }

/-- An entry completes (R392): the stack takes the rung, or RETAIN. -/
def completeEntry (target : Nat) (s : State) : State :=
  let s := { s with pwr := { s.pwr with entry := none, entryTarget := 0, hsRung := BitVec.ofNat 3 target, hsResult := 1, hsBlock := 0 } }
  match target with
  | 2 =>
    let s := forN 32 (fun q s => if s.pc q = {} then s else
      let n := ((List.range 18).filter (fun k => (s.slice q k).inUse && !(s.slice q k).powerDown && !(s.slice q k).selfRefresh)).length
      (s.updPc q (fun x => { x with openRows := [] })).updChan (chanOf q) (fun c => { c with pdCount := satAdd c.pdCount n })) s
    mapSlices (fun _ _ x => { x with powerDown := true, pdAt := s.now }) { s with pwr.rung := 2 }
  | 3 =>
    let s := forN 32 (fun q s => if s.pc q = {} then s else s.updPc q (fun x => { x with openRows := [] })) s
    let s := enterSelfRefresh { s with pwr.rung := 3 }
    if s.pwr.retainPending then retainEntry s else s
  | 6 => retainEntry s
  | _ => enterRest target s

/-- ENTRY_COMPLETE (R392): every block grants. A block that would refuse by now still refuses; one that delays keeps it open. -/
def execEntryComplete (s : State) : Host.Outcome State Fault Refusal :=
  match s.pwr.entry with
  | none => .next s
  | some e =>
    match s.refuser e.target with
    | some b => .next (abandonEntry 2 b s)
    | none =>
      if (s.delayer e.target).isSome ∨ s.pwr.raising then .next s else .next (pinShutdown (completeEntry e.target s))

/-- ENTRY_DELAY_LIMIT (R393). -/
def execEntryDelayLimit (b : GateId) (s : State) : Host.Outcome State Fault Refusal :=
  match s.pwr.entry with
  | none => .next s
  | some e => .next (abandonEntry 3 b.val (s.atLeast (e.start + entryLimit e.target)))

/-- ENTRY_RETRY (R393): ten times the delay limit after the abandonment, where the ports still stand at or below the rung. -/
def execEntryRetry (s : State) : Host.Outcome State Fault Refusal :=
  match s.pwr.retry with
  | none => .next s
  | some (t, from_) => .next (settleRung { s.atLeast (from_ + 10 * entryLimit t) with pwr.retry := none })

/-- The dwell timers run: RETAIN, no entry, no wake, no cause outstanding. -/
def State.dwelling (s : State) : Bool :=
  decide (s.mode = .retain) && s.pwr.entry.isNone && s.pwr.wake.isNone && decide (s.pwr.cause = 0) && !s.bist.shutDown

/-- DWELL_P3_EXPIRY (R389). -/
def execDwellP3Expiry (s : State) : Host.Outcome State Fault Refusal :=
  let d := s.pwr.deepestNow
  let w := s.pwr.timersAt s.pwr.dwellFrom
  if s.dwelling ∧ s.pwr.rung = 3 ∧ 4 ≤ d then
    if s.pwr.keep ≠ 0 then .next (startEntry 4 (s.atLeast (s.pwr.dwellFrom + w.dwell3.toNat * 1000000)))
    else if d = 5 then
      .next (startEntry 5 (s.atLeast (s.pwr.dwellFrom + (w.dwell3.toNat + w.dwell4.toNat) * 1000000)))
    else .next s
  else .next s

/-- DWELL_P4_EXPIRY (R389, R391). -/
def execDwellP4Expiry (s : State) : Host.Outcome State Fault Refusal :=
  if s.dwelling ∧ s.pwr.rung = 4 ∧ s.pwr.deepestNow = 5 then
    .next (startEntry 5 (s.atLeast (s.pwr.dwellFrom + (s.pwr.timersAt s.pwr.dwellFrom).dwell4.toNat * 1000000)))
  else .next s

/-! ## Wake sources (R395 to R397) -/

/-- WAKE_N_LOW (R395). -/
def execWakeNLow (s : State) : Host.Outcome State Fault Refusal :=
  .next (wakeEvent 3 true { s with pins.wakeN := false })

/-- PORT_ACTIVITY_WAKE (R395): a signal on a receiver of an enabled port. -/
def execPortActivityWake (p : PortId) (s : State) : Host.Outcome State Fault Refusal :=
  if s.portUp p.val ∧ s.mode = .retain then
    let s := if s.pwr.rung = 3 ∧ (s.port p.val).lnk.link = .active then portActive p.val s else s
    .next (wakeEvent 1 true s)
  else .next s

/-- LADDER_TIMER_WAKE (R395). -/
def execLadderTimerWake (s : State) : Host.Outcome State Fault Refusal :=
  if 4 ≤ s.pwr.rung ∧ s.pwr.ladderTimer ≠ 0 then
    .next (wakeEvent 4 false (s.atLeast (s.pwr.restAt + s.pwr.ladderTimer.toNat * 1000000000)))
  else .next s

/-- THERMAL_WAKE (R40, R395): a kept layer at Warning at P4. -/
def execThermalWake (k : LayerId) (s : State) : Host.Outcome State Fault Refusal :=
  if s.pwr.rung = 4 ∧ s.layerKept k.val then .next (wakeEvent 5 false { s with pwr.wakeLayer := k.val }) else .next s

/-- FAULT_WAKE (R331, R395, R431): a hatbox entry in a kept layer (no source), or an event of an AON source, which the AON
holds. -/
def execFaultWake (src : Option SrcId) (s : State) : Host.Outcome State Fault Refusal :=
  if 4 ≤ s.pwr.rung ∧ s.mode = .retain then
    match src with
    | some n => .next (wakeEvent 6 false (fault n.val {} s))
    | none => .next (if s.pwr.rung = 4 then wakeEvent 6 false s else s)
  else .next s

/-- A START addressed to the stack at P4 or P5 (R397, R474): the wake is a long operation. -/
def twoWireWake (s : State) : State :=
  if 4 ≤ s.pwr.rung ∧ s.mode = .retain ∧ s.mb.busy.isNone then
    wakeEvent 2 false { s with mb.busy := some (6, s.now), mb.transfer := none }
  else s

/-- TWO_WIRE_WAKE (R397). -/
def execTwoWireWake (s : State) : Host.Outcome State Fault Refusal := .next (twoWireWake s)

/-! ## The exit from P4 and P5 (R398, R399) -/

/-- The interleave key drawn (R223, R225): from output that passed the health tests, or after 10 ms the fallback. -/
def drawKey (raw : List Byte) (fallback : Bool) (s : State) : State :=
  let id := match s.otp.ident with | some i => i.deviceId.toNat | none => 0
  let input := if fallback then raw ++ leBytes 4 s.jnl.bootCount.toNat ++ leBytes 16 id else raw
  { s with rep.key := BitVec.ofNat 128 (shake256 input).toNat, rep.keyGen := s.rep.keyGen + 1, rep.keyFallback := fallback,
           rep.keyPending := false }

/-- Every layer with a slice in use powered again; slices that were not kept pass through the array set; all in self-refresh
(R398). -/
def powerLayers (from_ : Nat) (s : State) : State :=
  let used : Nat → Bool := fun k => (List.range 32).any (fun q => (s.slice q k).inUse)
  let s := forN 18 (fun k s => if used k then s.updLayer k (fun x => { x with powered := true }) else s) s
  let s := forL (s.slices.map (·.1)) (fun i s =>
    if (s.slice (i / 18) (i % 18)).inUse ∧ !(from_ = 4 ∧ s.kept (i / 18) (i % 18)) then arraySet (i / 18) (i % 18) s else s) s
  let s := enterSelfRefresh s
  forL (s.slices.map (·.1)) (fun i s => if (s.slice (i / 18) (i % 18)).inUse then calibrated (i / 18) (i % 18) s else s) s

/-- The events that the AON held, registered in order of arrival, and one of source 9 for each that was displaced (R431). They arrived in
different ticks, so each is registered. -/
def registerHeld (s : State) : State :=
  forL (s.flt.held.map (·.1) ++ List.replicate s.flt.heldLost 9) (fun n s => fault n {} (s.updSrc n (fun x => { x with last := none })))
    { s with flt.held := [], flt.heldLost := 0 }

/-- The stack stands at P3 after an exit (R42, R395, R398, R399). -/
def standAtP3 (w : WakeRun) (t : List SensorReading) (s : State) : State :=
  let s := chargeRest s
  let s := powerLayers w.from_ s
  let s := { s with pwr := { s.pwr with rung := 3, wake := none, dwellFrom := s.now, cause := if w.code = 2 then 0 else w.code } }
  let s := if w.from_ = 5 then excludeFailed { s with otp.shadow := s.otp.retShadow } else s
  let s := setModel (sample t s)
  let s := registerHeld s
  if w.from_ = 5 ∧ s.essentialFailed then enterHold 4 s
  else
    let s := if w.code = 4 then queueRecord (ledgerRecord s) s else s
    let s := if w.service ∧ s.mode = .retain then backToService s else s
    pinShutdown (checkMinimum s)

/-- WAKE_EXIT_COMPLETE (R398): the clocks are back; from P5 a new key is drawn, and a draw that has not passed its health
tests holds the exit. -/
def execWakeExitComplete (key : KeyDraw) (t : List SensorReading) (s : State) : Host.Outcome State Fault Refusal :=
  match s.pwr.wake with
  | none => .next s
  | some w =>
    if s.pwr.raising ∨ !s.sup.running ∨ !s.pwr.corePll then .next s
    else if w.from_ = 5 ∧ w.step < 6 then
      if key.healthy then .next (standAtP3 w t (drawKey key.raw false s))
      else .next { s with rep.keyPending := true, rep.keyAt := if s.rep.keyPending then s.rep.keyAt else s.now }
    else .next (standAtP3 w t s)

/-- HOUSEKEEPING_DONE (R399): the hatboxes are read and the journal queue is empty; back to the rung left, without a dwell. -/
def execHousekeepingDone (s : State) : Host.Outcome State Fault Refusal :=
  if s.mode = .retain ∧ s.pwr.rung = 3 ∧ s.pwr.cause = 4 ∧ s.pwr.entry.isNone ∧ s.jnl.queue = [] then
    let s := forN 32 (fun q s => readHatboxes q [] s) s
    .next (startEntry s.pwr.fromRung.toNat { s with pwr.cause := 0 })
  else .next s

/-- The cause of a thermal or a fault wake is handled (R399). -/
def State.causeHandled (s : State) : Bool :=
  match s.pwr.cause with
  | 5 => decide (s.thm.baseLevel = 0) && (List.range 18).all (fun k => !s.layerKept k || decide ((s.layer k).level = 0))
  | 6 => s.flt.held.isEmpty && s.slices.all (fun e => !e.2.inUse || e.2.hatbox.isEmpty)
      && (List.range 16).all (fun n => (s.chan n).taken.isEmpty)
  | _ => false

/-- WAKE_CAUSE_HANDLED (R399): the dwell timers restart. -/
def execWakeCauseHandled (s : State) : Host.Outcome State Fault Refusal :=
  .next (if s.mode = .retain ∧ s.pwr.rung = 3 ∧ s.causeHandled then { s with pwr.cause := 0, pwr.dwellFrom := s.now } else s)

/-! ## Calibration and clocks (R400, R401, R409) -/

/-- A code moved by at most one step towards another. -/
def oneStep (cur want : BitVec 6) : BitVec 6 := if cur < want then cur + 1 else if want < cur then cur - 1 else cur

/-- A calibration against ZQ_EXT (R409): codes within 228 Ω to 252 Ω, else the last good ones, ZQ_BAD and an event of source 6. -/
def zqRound (zq : ZqMeas) (stepped : Bool) (s : State) : State :=
  if 228000 ≤ zq.milliohm ∧ zq.milliohm ≤ 252000 then
    { s with pwr := { s.pwr with
        zqTx := if stepped then oneStep s.pwr.zqTx zq.tx else zq.tx
        zqRx := if stepped then oneStep s.pwr.zqRx zq.rx else zq.rx
        zqBad := false, zqAt := some s.now } }
  else fault 6 {} { s with pwr.zqBad := true }

/-- ZQ_CALIBRATION (R409): every 1 s at P0 to P2, after the first of BOOT step 7. -/
def execZqCalibration (zq : ZqMeas) (s : State) : Host.Outcome State Fault Refusal :=
  .next (if s.pwr.rung ≤ 2 ∧ (s.mode = .service ∨ s.mode = .factory ∨ (s.mode = .boot ∧ 8 ≤ s.boot.step)) then zqRound zq true s else s)

/-- AON_CLOCK_DISCIPLINE (R400): REFCLK is present; a step larger than 0.5 % counts on source 4 (R412). -/
def execAonClockDiscipline (ppm : BitVec 16) (s : State) : Host.Outcome State Fault Refusal :=
  if s.pwrgood then
    let s := { s with pwr.aonDev := ppm, pwr.freeRun := false, pwr.refclk := true }
    .next (if 5000 < ppm.toInt.natAbs then fault 4 {} s else s)
  else .next s

/-- CLOCK_LOSS (R401, R403): REFCLK lost, or only the core PLL's lock. -/
def execClockLoss (pllOnly : Bool) (s : State) : Host.Outcome State Fault Refusal :=
  if !s.pwrgood then .next s
  else
    let s := if pllOnly then s else { s with pwr.refclk := false, pwr.freeRun := true }
    if 4 ≤ s.pwr.rung then .next (if pllOnly then s else { s with pwr.refclkLost := true, pwr.corePll := false })
    else .next (checkMinimum (fault 3 {} { s with pwr.corePll := false, pwr.fastRc := true }))

/-- REFCLK_WAIT_TIMEOUT (R401): a wake has waited 10 ms for REFCLK. -/
def execRefclkWaitTimeout (s : State) : Host.Outcome State Fault Refusal :=
  match s.pwr.wake with
  | none => .next s
  | some _ => if s.pwr.refclk ∨ s.pwr.corePll then .next s
      else .next (raiseFault 3 4 {} 1 { s.atLeast (s.pwr.raiseAt + 10000000) with pwr.rung := 3 })

/-! ## VCORE_OK (R405, R407) -/

/-- Core clocks run: from BOOT step 4 on, outside TRIP; at P4 and P5 only while an exit or a self-test has raised the level (R391, R398). -/
def State.coreClocks (s : State) : Bool :=
  s.pwrgood && decide (s.mode ≠ .trip) && (decide (s.pwr.rung ≤ 3) || s.sup.running || s.pwr.wake.isSome) && (decide (s.mode ≠ .boot) || decide (4 ≤ s.boot.step))

/-- VCORE_OK_LOW (R405, R407). -/
def execVcoreOkLow (s : State) : Host.Outcome State Fault Refusal :=
  let s := { s with pins.vcoreOk := false }
  .next (if s.coreClocks ∧ !s.pwr.raising ∧ !s.pwr.lowering then raiseFault 5 4 {} 1 { s with pwr.rung := min 3 s.pwr.rung } else s)

/-- VCORE_RAISE_TIMEOUT (R407): not high 50 µs after a raise. -/
def execVcoreRaiseTimeout (s : State) : Host.Outcome State Fault Refusal :=
  if s.pwr.raising then
    .next (raiseFault 5 4 {} 1 { s.atLeast (s.pwr.raiseAt + 50000) with pwr.rung := min 3 s.pwr.rung })
  else .next s

end Sys2Proof.Machine
end

