-- ==== Sys2Proof/Machine/Boot.lean ====
section
/-! DEFINITION. Power-up and BOOT (chapter 03): PWRGOOD, RESET_N and VCORE_OK, the shadow load, image selection, the journal scan, clocks, layer initialisation, the thermal gate, training, the budget check. -/

namespace Sys2Proof.Machine

/-! ## Pins (R72, R77 to R81) -/

/-- PWRGOOD_HIGH (R77): the AON leaves reset, MADDR is sampled, BOOT starts at step 1. -/
def execPwrgoodHigh (maddr : BitVec 3) (s : State) : Host.Outcome State Fault Refusal :=
  if s.pwrgood then .next s
  else .next { s with pwrgood := true, now := 0, boot.step := 1, boot.resetHeld := !s.pins.resetN, pins.maddr := maddr,
                      pins.vid := if s.pins.resetN then none else some 0x18 }

/-- PWRGOOD_LOW (R78): everything is reset but what the fuses and the flash keep, and the levels of the input pins. -/
def execPwrgoodLow (s : State) : Host.Outcome State Fault Refusal :=
  .next { pending := s.pending, choice := s.choice
          pins := { resetN := s.pins.resetN, vcoreOk := s.pins.vcoreOk, wakeN := s.pins.wakeN }
          otp := { rows := s.otp.rows, rom := s.otp.rom, antifuse := s.otp.antifuse }
          jnl := { records := s.jnl.records } }

/-- BOOT stands at step n and the supervisor is not in a restart. -/
def State.atStep (s : State) (n : Nat) : Bool := decide (s.mode = .boot) && decide (s.boot.step = n) && !s.sup.restarting

/-- RESET_N is sampled: from step 1 until step 4 starts (R79). -/
def State.sampling (s : State) : Bool := decide (s.mode = .boot) && decide (1 ≤ s.boot.step) && decide (s.boot.step ≤ 3)

/-- RESET_N_HIGH (R79): where the supervisor runs already, step 4 starts. -/
def execResetNHigh (s : State) : Host.Outcome State Fault Refusal :=
  let s := { s with pins.resetN := true }
  .next (if s.sampling then
    { s with boot.resetHeld := false, boot.step := if s.boot.step = 3 ∧ s.sup.running then 4 else s.boot.step } else s)

/-- RESET_N_LOW (R79): while it holds BOOT, VID stands at 0x18 (R55). -/
def execResetNLow (s : State) : Host.Outcome State Fault Refusal :=
  let s := { s with pins.resetN := false }
  .next (if s.sampling then { s with boot.resetHeld := true, pins.vid := some 0x18 } else s)

/-- VCORE_OK_HIGH (R81, R405). -/
def execVcoreOkHigh (s : State) : Host.Outcome State Fault Refusal :=
  .next { s with pins.vcoreOk := true, boot.vcoreWait := false, pwr.raising := false, pwr.lowering := false }

/-- FAST_RC_STABLE (R77 step 3, R81, R398, R402): the supervisor runs on the fast RC once VCORE_OK is high. -/
def execFastRcStable (s : State) : Host.Outcome State Fault Refusal :=
  if s.sampling ∧ !s.sup.running then
    let s := { s with boot.step := 3, pins.vid := some 0x18 }
    if s.pins.vcoreOk then
      .next { s with sup.running := true, pwr.fastRc := true, boot.vcoreWait := false,
                     boot.step := if s.boot.resetHeld then 3 else 4 }
    else .next { s with boot.vcoreWait := true }
  else if s.pwr.wake.isSome ∧ !s.pwr.raising then .next { s with sup.running := true, pwr.fastRc := true }
  else .next s

/-! ## The shadow load (R82, R129 to R140) -/

/-- A row as read. -/
def readRow (r : OtpReadout) (n : Nat) : OtpRow :=
  (r.rows.find? (fun x => decide (x.row.val = n))).getD { row := Fin.ofNat 512 n, normal := 0, strict := 0 }

/-- The first two lines of R131: the value, and whether it is marginal. -/
def readLine (r : OtpReadout) (x : OtpRow) : Option (BitVec 56 × Bool) :=
  let n := x.normal.extractLsb' 0 56
  let t := x.strict.extractLsb' 0 56
  match readPasses r.rom.code x.normal, readPasses r.rom.code x.strict with
  | true, true => if x.normal = x.strict then some (n, false) else none
  | true, false => some (n, true)
  | false, true => some (t, true)
  | false, false => none

/-- Control field k as read (R130). R131 resolves data rows only: where the margins differ, the reading with a valid check is taken, at
normal margin first, and else every bit that reads 1 at either, so that a field is blank only if it reads blank at both (log 69). -/
def readField (r : OtpReadout) (k : Nat) : BitVec 16 :=
  let x := readRow r (496 + k / 4)
  let n := x.normal.extractLsb' (16 * (k % 4)) 16
  let t := x.strict.extractLsb' (16 * (k % 4)) 16
  if fieldOk n then n else if fieldOk t then t else n ||| t

/-- The spare row a data row is redirected to: the highest valid field that names it (R132). -/
def redirectOf (r : OtpReadout) (n : Nat) : Option Nat :=
  (List.range 16).reverse.find? (fun k =>
    let f := readField r k
    decide (f ≠ 0) && fieldOk f && f.getLsbD 9 && decide (f.toNat % 512 = n))

/-- A data row resolved (R131): its value, and the causes of OTP_FAIL that it gives. -/
def resolveRow (r : OtpReadout) (n : Nat) : Option (BitVec 56) × List Nat :=
  match readLine r (readRow r n) with
  | some (v, m) => (some v, if m then [1] else [])
  | none =>
    match (redirectOf r n).bind (fun k => readLine r (readRow r (480 + k))) with
    | some (v, m) => (some v, if m then [2, 1] else [2])
    | none => (none, [3])

/-- A data row outside the LEAF counter. -/
def isDataRow (n : Nat) : Bool := decide (n < 102) || decide (134 ≤ n)

/-- The header and data rows resolve, COMMIT is 0xA55A and SEGCHECK matches (R134). -/
def contentOk (r : OtpReadout) (rows : List Nat) (commit : Nat) : Bool :=
  match (resolveRow r commit).1 with
  | some v => decide (v.toNat / 2 ^ 40 = 0xA55A) && rows.all (fun n => (resolveRow r n).1.isSome)
      && decide (segCheck (rows.map (fun n => (resolveRow r n).1.getD 0)) = v.toNat % 2 ^ 40)
  | none => false

/-- Lock field j: blank, locked, or damaged, which counts as locked (R134). -/
def lockBlank (r : OtpReadout) (j : Nat) : Bool := decide (readField r (16 + j) = 0)
def lockDamaged (r : OtpReadout) (j : Nat) : Bool := !lockBlank r j && decide (readField r (16 + j) ≠ lockedField)

/-- First row and number of rows of the segment with lock slot j. -/
def segmentAt (j : Nat) : Nat × Nat :=
  if j = 0 then (0, 16) else if j = 1 then (16, 32) else if j = 2 then (48, 26)
  else if j < 7 then (74 + 7 * (j - 3), 7) else (136 + 8 * (j - 7), 8)

/-- Rows of the header and data rows of a segment; in a field frame as many data rows as its header says. -/
def segmentRows (r : OtpReadout) (j : Nat) : List Nat :=
  let a := segmentAt j
  if j < 7 then (List.range (a.2 - 1)).map (a.1 + ·)
  else
    let n := match (resolveRow r a.1).1 with | some v => bitsOf v.toNat 23 16 | none => 0
    (List.range (min 6 n + 1)).map (a.1 + ·)

/-- The content of a segment is complete. -/
def segmentContent (r : OtpReadout) (j : Nat) : Bool :=
  contentOk r (segmentRows r j) ((segmentAt j).1 + (segmentAt j).2 - 1)

/-- A segment is valid (R134). -/
def segmentValid (r : OtpReadout) (j : Nat) : Bool := segmentContent r j && !lockDamaged r j

/-- State of field frame f (R136). A row is blank where all its bits read 0 at both margins (R129), so the rows of a free frame may be
burnt (R143). A frame with blank header and data rows, a commit row that is neither blank nor valid and a blank lock has no line in the
table; it counts as torn (log 69). -/
def frameOf (r : OtpReadout) (f : Nat) : FrameState :=
  let j := 7 + f
  let blank : Nat → Bool := fun n => (readRow r n).normal == 0 && (readRow r n).strict == 0
  if segmentContent r j ∧ lockBlank r j then .validOpen
  else if segmentValid r j then .valid
  else if !lockBlank r j then .closed
  else if (List.range 8).all (fun i => blank (136 + 8 * f + i)) then .free
  else .torn

/-- TYPE and ORIGIN of field frame f. -/
def frameType (r : OtpReadout) (f : Nat) : Nat × Nat :=
  match (resolveRow r (136 + 8 * f)).1 with | some v => (bitsOf v.toNat 7 0, bitsOf v.toNat 15 8) | none => (0, 0)

/-- Field frames in force. -/
def validFrames (r : OtpReadout) : List Nat :=
  (List.range 41).filter (fun f => decide (frameOf r f = .valid) || decide (frameOf r f = .validOpen))

/-- The segment in force for a fixed slot (R137): the fixed segment where it is valid, else the valid field frame of its TYPE whose ORIGIN
names the slot; its header row and its number of data rows. -/
def fixedSegment (r : OtpReadout) (slot typ : Nat) : Option (Nat × Nat) :=
  if segmentValid r slot then some ((segmentAt slot).1, (segmentAt slot).2 - 2)
  else ((validFrames r).find? (fun f => decide (frameType r f = (typ, slot)))).map (fun f => (136 + 8 * f, (segmentRows r (7 + f)).length - 1))
/-- A segment is in force for a fixed slot. -/
def fixedValid (r : OtpReadout) (slot typ : Nat) : Bool := (fixedSegment r slot typ).isSome

/-- The OWNER segment in force: its slot and first row (R137). -/
def ownerOf (r : OtpReadout) : Option (Nat × Nat) :=
  [6, 5, 4, 3].findSome? (fun j =>
    if segmentValid r j then some (j, (segmentAt j).1)
    else ((validFrames r).find? (fun f => decide (frameType r f = (4, j)))).map (fun f => (j, 136 + 8 * f)))

/-- What step 4 finds, as OTP_FAIL lists it, by row: a frame that is closed although its commit row is valid has a damaged lock field, and
is listed with that alone. -/
def otpFails (r : OtpReadout) : List (Nat × Nat) :=
  (List.range 480).flatMap (fun n =>
    (if isDataRow n then (resolveRow r n).2.map (fun c => (n, c)) else [])
      ++ (if 136 ≤ n ∧ n < 464 ∧ (n - 136) % 8 = 7 ∧ frameOf r ((n - 136) / 8) = .closed
          ∧ !segmentContent r (7 + (n - 136) / 8) then [(n, 4)] else []))
    ++ (List.range 16).filterMap (fun k =>
      if readField r k = 0 ∨ fieldOk (readField r k) then none else some (496 + k / 4, 5))
    ++ (List.range 48).filterMap (fun j => if lockDamaged r j then some (500 + j / 4, 6) else none)

/-- The rank map of IDENT (R220). -/
def rankMapOf (i : Identity) : List (Nat × RankEnt) :=
  i.rankMap.zipIdx.filterMap (fun e =>
    if e.2 % 16 < (if i.part.toNat = 4 then 8 else 16) ∧ e.1.val ≠ 0 then some (e.2, { layer := e.1.val, state := 0 }) else none)

/-- The OTP block after the read (R131 to R140). -/
def loadOtp (r : OtpReadout) (o : OtpState) : OtpState :=
  let blown : Nat → BitVec 64 := fun n => (readRow r n).normal ||| (readRow r n).strict
  let value : Nat → BitVec 56 := fun n => if isDataRow n then (resolveRow r n).1.getD 0 else (blown n).extractLsb' 0 56
  let table := (List.range 480).filterMap (fun n => if value n = 0 then none else some (n, value n))
  let ok := fixedValid r 0 1 && fixedValid r 1 2
  let owner := ownerOf r
  { o with
    rows := (List.range 512).filterMap (fun n => if blown n = 0 then none else some (n, blown n))
    rom := r.rom
    fields := (List.range 64).filterMap (fun k => if readField r k = 0 then none else some (k, readField r k))
    ident := if ok then some r.ident else none
    shadow := table, retShadow := table, resolved := table, overridden := []
    frames := (List.range 41).filterMap (fun f => if frameOf r f = .free then none else some (f, frameOf r f))
    fails := otpFails r
    bistExp := fixedSegment r 2 3
    ownerSlot := owner.map (·.1)
    ownerDigest := match owner with
      | some (_, row) => BitVec.ofNat 256 ((List.range 5).foldl (fun v i => v + (value (row + 1 + i)).toNat * 2 ^ (56 * i)) 0)
      | none => 0
    sparesUsed := (List.range 16).filter (fun k => readField r k ≠ 0 && !fieldOk (readField r k)), copied := [] }

/-- OTP_SHADOW_LOAD (R82, R131 to R140): BOOT step 4. Every event but a frame closed without commit counts on source 228. -/
def execOtpShadowLoad (r : OtpReadout) (s : State) : Host.Outcome State Fault Refusal :=
  if s.atStep 4 ∧ s.sup.running then
    let o := loadOtp r s.otp
    let n : Nat → Nat := fun c => (o.fails.filter (fun e => decide (e.2 = c))).length
    let s := { s with
      otp := o
      boot.otpMarginal := satOf 8 (n 1)
      boot.otpRedirected := satOf 8 (n 2) }
    let s := forL (o.fails.filter (fun e => decide (e.2 ≠ 4))) (fun _ s => fault 228 {} s) s
    if s.mode ≠ .boot then .next s
    else match o.ident with
      | none => .next (enterHold 6 s)
      | some i => .next { s with rep.rankMap := rankMapOf i, pwr.zqTx := i.zqTx, pwr.zqRx := i.zqRx, boot.step := 5 }
  else .next s

/-! ## Image selection (R83 to R87, R91, R96) -/

/-- A cause code recorded: copy A (false) or B (true). -/
def setCause (b : Bool) (c : Nat) (s : State) : State :=
  if b then { s with boot.causeB := BitVec.ofNat 4 c } else { s with boot.causeA := BitVec.ofNat 4 c }

/-- Copies examined in order until one passes (R84). -/
def examineCopies (v : List SigCheck) : List (Bool × ImageCopy) → State → State × Option (Bool × ImageCopy)
  | [], s => (s, none)
  | (b, c) :: t, s =>
    let cause := copyCause v s c
    let s := setCause b cause s
    if cause = 0 then (s, some (b, c)) else examineCopies v t s

/-- The causes that the header alone gives: 0x9 for a copy that could not be read, 0x2 for a bad header (R84). -/
def headerCauses (l : List (Bool × Option ImageCopy)) (s : State) : State × List (Bool × ImageCopy) :=
  l.foldl (fun (a : State × List (Bool × ImageCopy)) x =>
    match x.2 with
    | none => (setCause x.1 9 a.1, a.2)
    | some c => if headerOk c then (a.1, a.2 ++ [(x.1, c)]) else (setCause x.1 2 a.1, a.2)) (s, [])

/-- The order of R84: the higher claimed sequence first, A before B where they are equal. -/
def orderCopies : List (Bool × ImageCopy) → List (Bool × ImageCopy)
  | [a, b] => if a.2.sequence.toNat < b.2.sequence.toNat then [b, a] else [a, b]
  | l => l

/-- Both claim one sequence (R85). -/
def sameSequence : List (Bool × ImageCopy) → Bool
  | [a, b] => decide (a.2.sequence = b.2.sequence)
  | _ => false

/-- The token of a copy names this stack and verifies under the vendor key (R91). -/
def tokenValid (v : List SigCheck) (c : ImageCopy) (s : State) : Bool :=
  match c.sec 0x11 with
  | some x => verifies v s.otp.rom.vendorKey (x.bytes 0 0x20) (x.bytes 0x20 0xB24) && decide ((List.range 4).foldl (fun v i => v + x.word i * 2 ^ (32 * i)) 0 = s.deviceId)
  | none => false

/-- IMAGE_SELECTION (R84 to R87, R91, R107, R125): BOOT step 5. The repeated step of a fallback examines the other copy only. -/
def execImageSelection (n : NvmRead) (s : State) : Host.Outcome State Fault Refusal :=
  if s.atStep 5 then
    let again := s.boot.rerun
    let s := if again then s else { s with boot.causeA := 0xF, boot.causeB := 0xF, pins.factoryEn := n.factoryEn }
    let s := if again ∨ n.quadOk ∨ s.boot.quadNoted then s else fault 229 {} { s with boot.quadNoted := true }
    let h := headerCauses (if again then (if s.boot.imageSel = 1 then [(true, n.copyB)] else [(false, n.copyA)])
      else [(false, n.copyA), (true, n.copyB)]) s
    let s := if sameSequence h.2 then fault 230 {} h.1 else h.1
    let e := examineCopies n.verified (orderCopies h.2) s
    let s := e.1
    if s.mode ≠ .boot then .next s
    else match e.2 with
      | none => .next (enterHold 2 s)
      | some (b, c) =>
        let s := if sameSequence h.2 ∧ !b then setCause true 1 s else s
        let s := { loadImage c s with boot.imageSel := if b then 2 else 1, boot.step5 := true }
        if again then .next { s with boot.step := 8 }
        else
          let ok := n.factoryEn && tokenValid n.verified c s
          let s := { s with boot.factoryReq := n.factoryEn, boot.tokenOk := ok, boot.step := 6 }
          .next (if n.factoryEn ∧ !ok then fault 231 {} s else s)
  else .next s

/-! ## The journal scan (R88, R150, R152, R153) -/

/-- The newest valid record of a kind. -/
def newestValid (l : List JournalRecord) (kind : Nat) : Option JournalRecord :=
  newestOf l (fun r => decide (r.kind.toNat = kind) && checkOk r)

/-- n bytes of a payload from offset o, as a number. -/
def payloadNat (r : JournalRecord) (o n : Nat) : Nat := ofLe ((r.payload.drop o).take n)

/-- The write pointer (R152, R153): behind the last record of the head sector; at the start of the next sector where the sector is full,
or the walk met a record that does not exist or other programmed bytes. -/
def writePointer (j : JournalRead) : Nat × Nat :=
  match pointerSector j.records with
  | none => if j.torn then (1, 0) else (0, 0)
  | some h =>
    let here := j.records.filter (fun r => decide (r.sector.val = h))
    let at_ := here.foldl (fun m r => max m (r.offset.toNat + recordSize r.payload.length)) 0
    if j.torn ∨ 4096 ≤ at_ ∨ here.any (fun r => !exists_ r) then ((h + 1) % 2048, 0) else (h, at_)

/-- The BIST result taken (R89, R491): a record with a STATUS 0x3 counts as absent. -/
def takeBist (r : Option JournalRecord) (s : State) : State :=
  let status : JournalRecord → Nat → Nat := fun x i => payloadNat x (16 + 16 * i) 1
  let use := match r with | some x => (List.range 20).all (fun i => decide (status x i ≠ 3)) | none => false
  match r, use with
  | some x, true =>
    { s with bist.parts := (List.range 20).map (fun i =>
        (i, { status := BitVec.ofNat 3 (status x i), fromJournal := true, duration := BitVec.ofNat 16 (payloadNat x (20 + 16 * i) 4),
              sig := BitVec.ofNat 64 (payloadNat x (24 + 16 * i) 8) })) }
  | _, _ => fault 245 {} { s with boot.bistMissing := true, bist.missing := true }

/-- The wear ledger taken, and the hour at weight 4 charged to every layer (R88, R158). -/
def takeWear (r : Option JournalRecord) (s : State) : State :=
  let units : Nat → Nat := fun k => match r with | some x => payloadNat x (8 + 8 * k) 4 * (225 * 2 ^ 32) | none => 0
  let s := { s with jnl.bootCount := BitVec.ofNat 32 ((match r with | some x => payloadNat x 0 4 | none => 0) + 1), jnl.baseWear := units 0 }
  let s := forN 18 (fun k s => s.updLayer k (fun x => { x with wear := units (k + 1) })) s
  let s := chargeAll (fun s => forN 18 (fun k s =>
    if s.fitted k then s.updLayer k (fun x => { x with wear := x.wear + 4 * 3600 * 2 ^ 32 }) else s) s) s
  if r.isNone then raiseFault 232 2 {} 1 s else s

/-- The entries of the repair log (R151). -/
def takeRepairs (r : Option JournalRecord) : List RepairEntry :=
  match r with
  | some x => (List.range (min (payloadNat x 0 4) 1017)).map (fun i => repairEntryOf (payloadNat x (4 + 4 * i) 4))
  | none => []

/-- The log record in which a fault record or a thermal trip record of the journal is shown (R88, R427): a fault record as it was
written; a trip record as its source, CLASS 0x3, its time and the DETAIL of R427, with SEQ 0 (log 67). -/
def shownRecord (x : JournalRecord) : Word × Word × Word × Word :=
  if x.kind = 2 then
    let src := if payloadNat x 0 1 = 0x20 then 217 else 214
    (packW [(src, 8), (3, 3)], BitVec.ofNat 32 (1000 * payloadNat x 4 4), packW [(payloadNat x 0 1, 8), (payloadNat x 2 2, 11)], 0)
  else
    let w : Nat → Word := fun i => BitVec.ofNat 32 (payloadNat x (4 * i) 4)
    (w 0, w 1, w 2, w 3)

/-- A record of an earlier power cycle shown in the fault log (R88). -/
def showRecord (x : JournalRecord) (s : State) : State :=
  { s with flt.log := tabSet (0, 0, 0, 0) s.flt.log s.flt.next (shownRecord x)
           flt.next := (s.flt.next + 1) % 128
           flt.wrapped := s.flt.wrapped || decide (s.flt.next = 127) }

/-- The newest thermal trip record and the newest fault record, the older first (R88). -/
def takeFaultRecords (trip flt : Option JournalRecord) (s : State) : State :=
  match trip, flt with
  | some a, some b => if a.seq.toNat < b.seq.toNat then showRecord b (showRecord a s) else showRecord a (showRecord b s)
  | some a, none => showRecord a s
  | none, some b => showRecord b s
  | none, none => s

/-- JOURNAL_SCAN (R88, R89, R152): BOOT step 6. -/
def execJournalScan (j : JournalRead) (s : State) : Host.Outcome State Fault Refusal :=
  if s.atStep 6 then
    let l := scanned j.records
    let full := (usableCheckpoint j.records).isNone
    let p := writePointer j
    let leaf := newestValid l 4
    let s := { s with
      jnl := { s.jnl with records := j.records, sector := p.1, offset := p.2, fullScan := full
                          seq := match newestOf l (fun _ => true) with | some r => r.seq | none => 0 }
      att.lastLeaf := leaf.map (fun r => payloadNat r 0 4)
      att.resume := leaf.map (fun r => payloadNat r 4 4)
      rep.log := takeRepairs (newestValid l 7)
      boot.step6 := true }
    let s := if full then fault 229 {} s else s
    let s := forL (l.filter (fun r => exists_ r && !checkOk r)) (fun _ s => fault 229 {} s) s
    let s := takeFaultRecords (newestValid l 2) (newestValid l 1) s
    let s := takeBist (newestValid l 3) (takeWear (newestValid l 6) s)
    if s.mode ≠ .boot then .next s
    else if s.essentialFailed then .next (enterHold 4 s)
    else .next { s with boot.step := 7 }
  else .next s

/-! ## Clocks (R77 step 7, R91, R99, R398, R403) -/

/-- Core and port PLLs lock from REFCLK; their outputs are judged stable. -/
def clocksUp (s : State) : State :=
  forN 16 (fun p s => if s.portPresent p then s.updPort p (fun x => { x with lnk := { x.lnk with pll := true } }) else s)
    { s with pwr := { s.pwr with refclk := true, corePll := true, fastRc := false } }

/-- PLL_LOCK (R77 step 7, R91, R403, R409). -/
def execPllLock (zq : ZqMeas) (s : State) : Host.Outcome State Fault Refusal :=
  if s.atStep 7 then
    let s := zqRound zq false (clocksUp s)
    if s.mode ≠ .boot then .next s
    else if s.boot.factoryReq ∧ s.boot.tokenOk then
      .next (pinShutdown { s with mode := .factory, boot.frozen := some s.us })
    else .next { s with boot.step := 8 }
  else if s.pwr.wake.isSome then
    .next (if s.pwr.raising ∨ !s.sup.running then s else zqRound zq false (clocksUp s))
  else if (s.mode = .service ∨ s.mode = .retain ∨ s.mode = .factory ∨ s.mode = .boot) ∧ s.pwr.rung ≤ 3 ∧ s.sup.running
      ∧ (s.mode ≠ .boot ∨ 8 ≤ s.boot.step) then
    .next (clocksUp s)
  else .next s

/-- PLL_LOCK_TIMEOUT (R99): HOLD with cause 0x03; an absent REFCLK counts on the clock-loss source. -/
def execPllLockTimeout (refclkAbsent : Bool) (s : State) : Host.Outcome State Fault Refusal :=
  if s.atStep 7 then
    .next (enterHold 3 (if refclkAbsent then fault 3 {} { s with pwr.refclk := false } else s))
  else .next s

/-! ## Layer initialisation (R92, R137, R220, R223, R361) -/

/-- A slice without contents substituted, or given STATE 0x3 (R92, R343, R360); `want` is the liner layer that its entry names. -/
def substituteBoot (q r k : Nat) (want : Option Nat) (s : State) : State :=
  let fits : Nat → Bool := fun l => s.liners.contains l && !(s.layer l).retired && !s.linerSubst q l
    && (s.linerBanks q l).all (fun x => decide (x.1 = r)) && decide (l ≠ k)
  let l := match want with | some l => if s.capMigration && fits l then some l else s.linerFor q r none [k] | none => s.linerFor q r none [k]
  match l with
  | some l =>
    let s := s.setRank q r { layer := l, state := 1 }
    forN 16 (fun b (s : State) => if s.bankEnt q r b = BankEnt.mapped l then s.setBank q r b .own else s) s
  | none => s.setRank q r { s.rank q r with state := 3 }

/-- Everything of layer k substituted or given STATE 0x3, in ascending pseudo-channel and rank. -/
def clearLayerBoot (k : Nat) (s : State) : State :=
  forN 32 (fun q s => forN 16 (fun r s =>
    if r < s.serviceLayers ∧ (s.rank q r).layer = k ∧ (s.rank q r).state ≠ 3 then substituteBoot q r k none s else s) s) s

/-- A repair entry applied at step 8, copying nothing (R138, R220, R361). -/
def applyEntry (burnt : Bool) (e : RepairEntry) (s : State) : State :=
  let q := 2 * e.channel.toNat + b2n e.pc
  let k := e.layer.toNat
  let live : Nat → Option Nat := fun q => (List.range s.serviceLayers).find? (fun r =>
    decide ((s.rank q r).layer = k) && decide ((s.rank q r).state ≠ 3))
  match e.kind.toNat with
  | 1 =>
    let d := e.detail.toNat
    if (s.steer q (d % 4)).isSome then s
    else
      -- an earlier spare of the same TSV has failed (R338)
      let s := s.updPc q (fun x => { x with steer := x.steer.map (fun y =>
        (y.1, if y.2.group = BitVec.ofNat 2 (d / 4) ∧ y.2.lane = BitVec.ofNat 6 (d / 16) then { y.2 with failed := true } else y.2)) })
      let t : Steer := { group := BitVec.ofNat 2 (d / 4), lane := BitVec.ofNat 6 (d / 16), layer := e.layer, burnt := burnt }
      s.updPc q (fun x => { x with steer := tabPut x.steer (d % 4) t })
  | 2 =>
    match s.bankOwner q k e.bank.toNat with
    | none => s
    | some r => s.setBank q r e.bank.toNat (match s.linerFor q r (some e.bank.toNat) [k] with | some l => .mapped l | none => .retired)
  | 3 => match live q with | some r => substituteBoot q r k (some (e.detail.toNat % 32)) s | none => s
  | 4 => forN 2 (fun i s =>
      match (List.range s.serviceLayers).find? (fun r => decide ((s.rank (2 * e.channel.toNat + i) r).layer = k)
        && decide ((s.rank (2 * e.channel.toNat + i) r).state ≠ 3)) with
      | some r => s.setRank (2 * e.channel.toNat + i) r { s.rank (2 * e.channel.toNat + i) r with state := 3 }
      | none => s) s
  | 5 => if k < 18 then clearLayerBoot k (s.updLayer k (fun x => { x with retired := true })) else s
  | _ => s

/-- The rank map of IDENT with the repairs of the frames and the log applied (R92, R220). -/
def applyRepairs (s : State) : State :=
  let fused := s.frameEntries
  let logged := s.rep.log.filter (fun e => !fused.contains e)
  let s := { s with
    rep.log := logged
    rep.burnQueue := if s.rep.burnRepairs then logged else []
    rep.rankMap := match s.otp.ident with | some i => rankMapOf i | none => []
    rep.bankMap := [] }
  let all := fused.map (fun e => (true, e)) ++ logged.map (fun e => (false, e))
  let early := all.filter (fun e => decide (e.2.kind.toNat < 4))
  let late := all.filter (fun e => decide (4 ≤ e.2.kind.toNat))
  let s := forL (early ++ late) (fun e s => applyEntry e.1 e.2 s) s
  { s with rep.layersRetired := satOf 5 ((List.range 18).filter (fun k => (s.layer k).retired)).length }

/-- Something lives on slice (q, k). -/
def State.sliceUsed (s : State) (q k : Nat) : Bool :=
  (List.range s.serviceLayers).any (fun r => (decide ((s.rank q r).layer = k) && decide ((s.rank q r).state ≠ 3))
    || (List.range 16).any (fun b => decide (s.bankEnt q r b = .mapped k)))

/-- A layer that failed initialisation is mapped out (R92): retired, its slices substituted or given STATE 0x3, the repairs
logged, DEGR on its layer-internal source. -/
def failLayer (k : Nat) (s : State) : State :=
  let before := s
  let s := clearLayerBoot k (s.updLayer k (fun x => { x with retired := true }))
  let s := if (before.layer k).retired then s else { s with rep.layersRetired := satInc s.rep.layersRetired }
  let s := logRepair { kind := 5, layer := BitVec.ofNat 5 k } true s
  let s := forN 32 (fun q s => forN 16 (fun r s =>
    if r < s.serviceLayers ∧ (before.rank q r).layer = k ∧ (before.rank q r).state ≠ 3 then
      if (s.rank q r).state = 3 then logRepair { repairEntry 4 q k 0 0 with pc := false } true s
      else logRepair (repairEntry 3 q k 0 (s.rank q r).layer) true s
    else s) s) s
  writeLog (raiseFault (srcLayer k) 2 { layer := some (Fin.ofNat 18 k) } 1 s)

/-- The first readings of BOOT, and a trip level reached (R93, R364). -/
def bootReadings (t : List SensorReading) (s : State) : State :=
  let a := t.foldl takeReading (s, {})
  let hot : Nat → Int := fun k =>
    match (a.1.layer k).sensA, (a.1.layer k).sensB with
    | some u, some v => max u v | some u, none => u | none, some v => v | none, none => (a.1.layer k).temp
  let got := (List.range 18).filter (fun k => (s.layer k).powered && t.any (fun r =>
    match r.sensor with | .layerA j => decide (j.val = k) | .layerB j => decide (j.val = k) | .base _ => false))
  let s := forL got (fun k s => s.updLayer k (fun x => { x with temp := hot k })) a.1
  let s := { s with thm.baseTemp := (s.baseHigh 16).getD s.thm.baseTemp }
  let trips := got.filter (fun k => (s.layer k).powered && decide (degC 105 ≤ (s.layer k).temp))
  let base := (List.range 16).any (fun i => (s.baseSensor i).reading.any (fun v => decide (degC 115 ≤ v)))
  let f : Found := { a.2 with trip := trips.map (fun k => (k, (s.layer k).temp, 0)), baseLevels := if base then [3] else [] }
  actOn f s

/-- A slice in use initialised (R92, R147, R313): bins and spare rows applied, array set, refresh running. -/
def initSlice (r : LayerInitRead) (q k : Nat) (s : State) : State :=
  let mine := r.bins.filter (fun e => decide (e.1.q.val = q) && decide (e.1.k.val = k))
  let s := s.updSlice q k (fun x => { x with
    spares := (r.map.filter (fun e => decide (e.1.q.val = q) && decide (e.1.k.val = k))).map (fun e => madeSpare e.2), binsField := []
    binsMan := mine.foldl (fun t e => tabSet 0 t (e.2.1.val * 32 + e.2.2.1.val) e.2.2.2) [] })
  (arraySet q k (applyAntifuse (s.afValid r.fuses k) q k s)).updSlice q k (fun x => { x with arraySet := false })

/-- Step 8 from the key on (R92, R93, R364): the layers that hold something are powered and read, their slices initialised, and
refresh starts; step 9 follows, step 10 on the repeated steps of a fallback (R96). -/
def finishLayers (r : LayerInitRead) (s : State) : State :=
  let used : Nat → Nat → Bool := fun q k => s.sliceUsed q k
  let s := forN 18 (fun k s => s.updLayer k (fun x => { x with powered := (List.range 32).any (fun q => used q k) })) s
  let s := sensorRound r.vref s
  let s := if s.mode = .boot then bootReadings r.readings s else s
  if s.mode ≠ .boot then s
  else
    let s := forN 18 (fun k s => if (s.layer k).powered then s.updLayer k (fun x => { x with base := firstBaseOf x.temp }) else s) s
    let s := forN 18 (fun k s => if (s.layer k).powered then countAf r.fuses k s else s) s
    let s := forN 32 (fun q s => forN 18 (fun k s =>
      if used q k then initSlice r q k s else s.updSlice q k (fun x => { x with inUse := false })) s) s
    { s with boot.initRead := none, boot.step := if s.boot.rerun then 10 else 9 }

/-- LAYER_INIT (R92, R220, R223, R225, R364): BOOT step 8. A key draw that has not passed its health tests holds the step before
refresh starts; the command with a draw that has passed them within the 10 ms goes on. -/
def execLayerInit (r : LayerInitRead) (s : State) : Host.Outcome State Fault Refusal :=
  if !s.atStep 8 then .next s
  else if s.rep.keyPending then
    .next (if r.key.healthy then finishLayers r (drawKey r.key.raw false s) else s)
  else
    let s := applyRepairs (excludeFailed s)
    let bad := (r.failed.map (·.val)).filter (fun k => (List.range 32).any (fun q => s.sliceUsed q k))
    if s.mode ≠ .boot then .next s
    else if bad ≠ [] ∧ s.refuse then .next (enterHold 5 s)
    else
      let s := forL bad failLayer s
      if s.mode ≠ .boot then .next s
      else if r.key.healthy then .next (finishLayers r (drawKey r.key.raw false s))
      else .next { s with rep.keyPending := true, rep.keyAt := s.now, boot.initRead := some r }

/-- KEY_DRAW_FALLBACK (R225): 10 ms after the draw started, the fallback key, and DEGR on the security source; what waited for the
key goes on. -/
def execKeyDrawFallback (raw : List Byte) (s : State) : Host.Outcome State Fault Refusal :=
  if s.rep.keyPending ∧ !s.sup.restarting then
    let s := raiseFault 231 2 {} 1 (drawKey raw true (s.atLeast (s.rep.keyAt + 10000000)))
    .next (match s.boot.initRead with
      | some r => if s.mode = .boot ∧ s.boot.step = 8 then finishLayers r s else s
      | none => { s with pwr.wake := s.pwr.wake.map (fun w => { w with step := 6 }) })
  else .next s

/-! ## The thermal gate (R93, R367) -/

/-- THERMAL_GATE (R93): every 125 µs while any sensor stands at or above its Warning level less the hysteresis. -/
def execThermalGate (t : List SensorReading) (s : State) : Host.Outcome State Fault Refusal :=
  if s.atStep 9 then
    let s := bootReadings t s
    let hot : Option Int → Int → Bool := fun x lim => x.any (fun v => decide (degC lim ≤ v))
    let wait := (List.range 18).any (fun k => (s.layer k).powered && (hot (s.layer k).sensA 82 || hot (s.layer k).sensB 82))
      || (List.range 16).any (fun i => hot (s.baseSensor i).reading 92)
    if s.mode ≠ .boot then .next s
    else if wait then .next { s with boot.thermalWait := true }
    else .next { setModel s with boot.thermalWait := false, boot.step := 10 }
  else .next s

/-! ## Training (R94, R95, R288, R289) and the budget check (R96, R257 to R259) -/

/-- The newest valid training record of q, where it matches the device and the maps (R289 stages 1 and 2). -/
def State.storedTraining (s : State) (q : Nat) : Option JournalRecord :=
  match newestOf s.jnl.records (fun r => decide (r.kind = 5) && decide (r.inst.toNat = q) && checkOk r) with
  | some r => if payloadNat r 0 8 = s.deviceId % 2 ^ 64 ∧ payloadNat r 8 8 = s.mapCheck q then some r else none
  | none => none

/-- The settings and temperatures of a record applied to every slice with VALID 1 (R289 stage 3). -/
def restoreTraining (q : Nat) (r : JournalRecord) (s : State) : State :=
  forN 18 (fun k s =>
    let o := 16 + 184 * k
    let h := payloadNat r o 2
    if h.testBit 11 then
      s.updSlice q k (fun x => { x with
        restTemp := some (BitVec.ofNat 11 h), calTemp := none
        settings := (List.range 90).foldl (fun t i => tabSet 0 t i (BitVec.ofNat 12 (payloadNat r (o + 4 + 2 * i) 2))) x.settings })
    else s) s

/-- Slices of q in use that hold no training are trained (R288). -/
def trainRest (q : Nat) (s : State) : State :=
  forL (s.slicesOf q) (fun k s =>
    if (s.slice q k).calTemp.isNone && (s.slice q k).restTemp.isNone then calibrated q k s else s) s

/-- Full training of q, recorded (R289). -/
def fullTraining (q : Nat) (s : State) : State :=
  let s := forL (s.slicesOf q) (fun k s => calibrated q k s) s
  queueRecord (s.trainingRecord q) (s.updPc q (fun x => { x with trainedAt := some s.now }))

/-- A pseudo-channel that fails full training (R95): steered; excluded where it still fails or has no spare left, with DEGR on
the TSV-lane source. -/
def failTraining (q : Nat) (t : TsvRef) (still : Bool) (s : State) : State :=
  let r := steerTsv q t s
  if r.2 ∧ !still then fullTraining q r.1
  else
    let s := r.1.updPc q (fun x => { x with excluded := true })
    let s := { s with rep.lossPcs := satAdd s.rep.lossPcs 1 }
    let s := raiseFault (srcTsv (chanOf q)) 2 (pcDetail q) 1 s
    s.updPc q (fun x => { x with isolating := false })

/-- Step 10 for pseudo-channel q; the Bool says that it was restored. -/
def trainPc (r : TrainRead) (q : Nat) (s : State) : State × Bool :=
  match (if r.checkFailed.any (fun x => decide (x.val = q)) then none else s.storedTraining q) with
  | some j => (trainRest q (restoreTraining q j s), true)
  | none =>
    match r.failed.find? (fun x => decide (x.1.val = q)) with
    | some (_, t) => (failTraining q t (r.stillFailed.any (fun x => decide (x.val = q))) s, false)
    | none => (fullTraining q s, false)

/-- The whole of step 10. -/
def trainAll (r : TrainRead) (s : State) : State :=
  let a := (List.range 32).foldl (fun (a : State × Nat) q =>
    if (a.1.pc q).excluded then a
    else
      let x := trainPc r q a.1
      (x.1, a.2 + b2n x.2)) (s, 0)
  let n := ((List.range 32).filter (fun q => !(s.pc q).excluded)).length
  { a.1 with boot.training := if a.2 = n then 1 else if a.2 = 0 then 2 else 3 }

/-- The contract budget check (R257 to R259): GNT_CHECK. -/
def State.budgetCheck (s : State) : Word :=
  let bad : Nat → Bool := fun p => s.enabledPorts.contains p && decide (portLimit (s.port p).widthMax false * scaleL < (s.port p).rate)
  let load := ceilDiv s.totalRate (8 * scaleL)
  let pcFail := decide (600 * 8 * scaleL < s.totalRate)
  let portFail := (List.range 16).any bad
  packW ([(1, 1), (b2n (!pcFail && !portFail), 1), (b2n pcFail, 1)] ++ (List.range 16).map (fun p => (b2n (bad p), 1))
    ++ [(min load 8191, 13)])

/-- Step 12 begins (R98, R99): bring-up of every enabled port; HOLD where the minimum service set is not met otherwise. PARTNER_WAIT
is set where the wait begins, so HOLD entered at once freezes it at 0 (log 65). A port that is active already, its link having stood
through a supervisor restart (R23, R100), brings SERVICE at once. -/
def bringUp (s : State) : State :=
  let s := { s with boot.step := 12, boot.rerun := false }
  if !s.minimumSet then enterHold 3 s
  else
    let s := forN 16 (fun p s =>
      let x := s.port p
      if s.portUp p ∧ x.lnk.link = .off ∧ !x.lnk.down then
        s.updPort p (fun x => { x with lnk := { x.lnk with link := .detect, since := s.now } })
      else s) s
    if (List.range 16).any (fun p => decide ((s.port p).lnk.link = .active)) then pinShutdown (serviceEntry s)
    else { s with boot.partnerWait := true }

/-- Step 11 (R96, R259): the copy in use passes, or the other copy is tried once, or HOLD. FALLBACK is set where the other copy has
cause 0xF or 0x1, and so step 5 is repeated; where it has neither, no fallback occurs and the bit stays 0 (log 66). -/
def checkBudget (s : State) : State :=
  let g := s.budgetCheck
  let s := { s with gnt.check := g, boot.step := 11 }
  if g.getLsbD 1 then bringUp s
  else
    let b := decide (s.boot.imageSel = 2)
    let other := if b then s.boot.causeA else s.boot.causeB
    let s := setCause b 8 { s with gnt.rejected := g }
    if !s.boot.rerun ∧ (other = 0xF ∨ other = 1) then { s with boot.fallback := true, boot.rerun := true, boot.step := 5 }
    else enterHold 2 s

/-- TSV_TRAINING (R94, R95), and with it the budget check of step 11 and the start of step 12. On the step 10 of a fallback the
training just done stands. -/
def execTsvTraining (r : TrainRead) (s : State) : Host.Outcome State Fault Refusal :=
  if s.atStep 10 then
    let s := if s.boot.rerun then forN 32 trainRest s else trainAll r s
    .next (if s.mode = .boot then checkBudget s else s)
  else .next s

end Sys2Proof.Machine
end

