-- ==== Sys2Proof/Machine/FaultCmds.lean ====
section
/-! DEFINITION. Fault detectors as commands (chapters 01, 10 and 16): the supervisor pair, glove members, the crossbar, the collector and the always-on domain. -/

namespace Sys2Proof.Machine

/-! ## The supervisor pair (R22, R24, R100, R412) -/

/-- A mismatch of the pair (R22, R100): one event on source 1 and a restart; the third of BOOT raises GRAVE instead. -/
def lockstep (s : State) : State :=
  if !s.sup.running ∨ s.sup.restarting then s
  else if s.mode = .boot then
    let s := { s with boot.mismatches := s.boot.mismatches + 1 }
    if 3 ≤ s.boot.mismatches then { raiseFault 1 4 {} 1 s with sup.restarting := false } else fault 1 {} s
  else fault 1 {} s

/-- LOCKSTEP_MISMATCH (R22, R100). -/
def execLockstepMismatch (s : State) : Host.Outcome State Fault Refusal := .next (lockstep s)

/-- SUPERVISOR_RESTART_OVERRUN (R412): 2 ms after the start of the restart. -/
def execSupervisorRestartOverrun (s : State) : Host.Outcome State Fault Refusal :=
  .next (if s.sup.restarting then fault 2 {} (s.atLeast (s.sup.since + 2000000)) else s)

/-! ## Glove members (R16, R290) -/

/-- ENGINE_WATCHDOG_EXPIRY (R16). -/
def execEngineWatchdogExpiry (n : ChanId) (s : State) : Host.Outcome State Fault Refusal :=
  .next (if s.channelsRun then fault (srcWatchdog n.val) { channel := some n } s else s)

/-- CONTROLLER_CHECKER_FAULT (R16, R290). -/
def execControllerCheckerFault (n : ChanId) (s : State) : Host.Outcome State Fault Refusal :=
  .next (if s.channelsRun then fault (srcChecker n.val) { channel := some n } s else s)

/-- TAKEOVER_OVERLAP_END (R290): the calendar horizon has passed. -/
def execTakeoverOverlapEnd (i : PairId) (s : State) : Host.Outcome State Fault Refusal :=
  .next ((s.updChan (2 * i.val) (fun c => { c with overlap := false })).updChan (2 * i.val + 1) (fun c => { c with overlap := false }))

/-! ## The crossbar (R432) -/

/-- The work of an accepted request leaves the pseudo-channels: what is granted, on the bus, or queued for it. -/
def dropWork (p tag serial : Nat) (s : State) : State :=
  forN 32 (fun q s => if s.pc q = {} then s else s.updPc q (fun x =>
    let mine : Grant → Bool := fun g => decide (g.port = p) && decide (g.tag = tag) && decide (g.serial = serial)
    { x with
      grants := x.grants.filter (fun g => !mine g)
      granted := x.granted - (x.grants.filter mine).length
      bursts := x.bursts.filter (fun b => (b.write || decide (b.serial ≠ serial)) && decide (b.serials ≠ [serial])) }.dropWrites serial (fun _ => true))) s

/-- The completion of a tag in a waiting slot says POISON. -/
def poisonItem (tag : Nat) (o : OutItem) : OutItem :=
  match o.slot with
  | .completions l => { o with slot := .completions (l.map (fun e => if e.2.1 = tag then (e.1, e.2.1, .poison) else e)) }
  | _ => o

/-- A transfer of an accepted request failed twice (R432): source 7 counts, the request is answered POISON, a write is not
performed. -/
def crossbarFail (p tag : Nat) (s : State) : State :=
  match (s.port p).reqs.find? (fun r => decide (r.tag = tag) && r.accepted && !r.op.mgmt) with
  | none => s
  | some r =>
    let s := fault 7 { port := some (Fin.ofNat 16 p) } s
    let s := dropWork p tag r.serial s
    if r.op.writes then
      if r.phase = .latched then
        s.updPort p (fun x => { x.updReq tag (fun e => { e with todo := 0, phase := .answered }) with
          outq := x.outq ++ [{ completion r .poison with bound := some r.bound, base := r.base }] })
      else s.updPort p (fun x => { x with outq := x.outq.map (poisonItem tag) })
    else
      let s := if r.phase = .latched ∧ r.todo = r.blocks then deliver p tag r.serial 0 .poison 0 s else s
      if r.op = .rd128 ∧ r.phase = .latched ∧ r.part1.isNone then deliver p tag r.serial 1 .poison 0 s else s

/-- CROSSBAR_PARITY_ERROR (R432): a first failure is sent again; a second one of the same transfer is answered. -/
def execCrossbarParityError (p : PortId) (tag : BitVec 10) (second : Bool) (s : State) : Host.Outcome State Fault Refusal :=
  .next (if second then crossbarFail p.val tag.toNat s else s)

/-! ## Registered events (R414 to R421) -/

/-- FAULT_REGISTRATION (R414 to R421): a detector's event. A trip source's event brings the trip sequence, source 1's the
restart. -/
def execFaultRegistration (src : SrcId) (d : EventDetail) (s : State) : Host.Outcome State Fault Refusal :=
  if src.val = 1 then .next (lockstep s)
  else if src.val = 214 then
    .next (let f : Found := { trip := [(d.cause.toNat, d.temp.val, 0)] }
      if s.thermalRuns then actOn f s else tripOver f s)
  else if src.val = 217 then
    .next (let f : Found := { baseLevels := [3] }
      if s.thermalRuns then actOn f { s with thm.baseTemp := d.temp.val, thm.baseLevel := 3 } else tripOver f s)
  else if s.pwrgood then .next (fault src.val d s)
  else .next s

/-- FAULT_WINDOW_EXPIRY (R415): a window closes once its length has passed without the Nth event. -/
def execFaultWindowExpiry (src : SrcId) (s : State) : Host.Outcome State Fault Refusal :=
  let x := s.src src.val
  .next (if x.windowOpen ∧ !s.collectorOff then
    (s.atLeast (x.start + windowNs x.t.toNat + 1)).updSrc src.val (fun x => { x with windowOpen := false, count := 0 }) else s)

/-! ## Self-checks (R430) -/

/-- Number of an item of the AON self-check. -/
def aonCode : AonItem → Nat
  | .graveCopy i => i.val | .wake => 3 | .maddr => 4 | .retention => 5

/-- AON_SELF_CHECK (R430): what differs is rewritten and counts on source 0; the same fault at three successive checks raises
GRAVE on it. -/
def execAonSelfCheck (bad : List AonItem) (s : State) : Host.Outcome State Fault Refusal :=
  if s.sup.running ∧ !s.sup.restarting ∧ s.pwr.rung ≤ 3 ∧ s.mode ≠ .trip then
    let found := (List.range 6).filter (fun i => bad.any (fun b => decide (aonCode b = i)))
    let old := s.flt.checks
    let checks := found.map (fun i => (i, tabGet 0 old i + 1))
    let s := { s with flt.grave0 := s.grave, flt.grave1 := s.grave, flt.grave2 := s.grave, flt.checks := checks }
    let s := faultMany 0 found.length {} s
    .next (if checks.any (fun e => decide (3 ≤ e.2)) then raiseOnly 0 4 {} 1 s else s)
  else .next s

/-- COLLECTOR_SWEEP (R430): where a source's two classes disagree (the operand gives what the other copy reads) or its parity
fails, the higher class stays, the window closes and source 9 counts. -/
def execCollectorSweep (bad : List (SrcId × BitVec 3)) (s : State) : Host.Outcome State Fault Refusal :=
  if s.pwrgood ∧ !s.collectorOff ∧ s.mode ≠ .trip then
    let bad := bad.filter (fun b => s.counts b.1.val)
    let s' := forL bad (fun b s => s.updSrc b.1.val (fun x => { x with
      cls := if x.cls < b.2 ∧ b.2.toNat ≤ 4 then b.2 else x.cls, windowOpen := false, count := 0 })) s
    .next (faultMany 9 bad.length {} s')
  else .next s

end Sys2Proof.Machine
end

