-- ==== Sys2Proof/Machine/Regs.lean ====
section
/-! DEFINITION. The management register map read: the word of every register (chapters 00 to 21), the registers of absent units (R4, R502), and what a mode or a view lets a reader see (R37, R103, R377, R465). -/

namespace Sys2Proof.Machine

/-! ## Codes -/

/-- PORT_LINK_STATUS.STATE (R164). -/
def Link.code : Link → Nat
  | .off => 0 | .detect => 1 | .train => 2 | .bitlock => 3 | .symlock => 4 | .capx => 5 | .active => 6 | .loop => 7

/-- State codes of R348. -/
def MigState.code : MigState → Nat
  | .idle => 0 | .prepare => 1 | .copy => 2 | .switch => 3 | .split => 4

/-- PWR_STATUS.VID_LEVEL: 0.80 V, 0.70 V, 0.60 V. -/
def vidLevel : Option (BitVec 5) → Nat
  | some 0x10 => 1 | some 0x08 => 2 | _ => 0

/-! ## Finding a register -/

/-- The value of a register of an array of n at a base and a stride, where the offset names one. -/
def regAt (off base stride n : Nat) (f : Nat → Nat) : Option Nat :=
  if base ≤ off ∧ (off - base) % stride = 0 ∧ (off - base) / stride < n then some (f ((off - base) / stride)) else none

/-- The register that the offset names; 0 where it names none (R498). -/
def regPick : List (Option Nat) → Nat
  | [] => 0
  | some v :: _ => v
  | none :: t => regPick t

/-- Set s of block 0x04 is present, and counter k of a set (R502). -/
def State.setPresent (s : State) (i : Nat) : Bool := decide (16 ≤ i) || s.portPresent i
def State.counterPresent (s : State) (k : Nat) : Bool := s.part != 4 || decide (k < 4)

/-- Nanoseconds left until a time, in units, rounded up. -/
def State.leftOf (s : State) (t unit : Nat) : Nat := ceilDiv (t - s.now) unit

/-! ## Blocks 0x00 to 0x03 -/

/-- Block 0x00 (R1, R38, R104, R497). -/
def State.block00 (s : State) (off : Nat) : Nat :=
  let known := s.otp.ident.isSome
  let hide := decide (s.holdCause = 6)
  regPick [
    regAt off 0 4 4 (fun k => if hide then 0 else s.deviceId / 2 ^ (32 * k)),
    regAt off 0x10 4 1 (fun _ => pack [(s.part, 8), (s.serviceLayers, 5), (s.linerLayers, 3), (s.capPorts, 5), (if known then 16 else 0, 5)]),
    regAt off 0x14 4 1 (fun _ => if !known then 0 else (if s.part = 4 then 0xFF else 0xFFFF) + 0xFFFF0000),
    regAt off 0x18 4 1 (fun _ => if !known then 0 else
      pack [(b2n s.capMigration, 1), (b2n s.capMask, 1), (b2n s.repairFixed, 1), (s.progCounters, 4), (s.devBits, 6), (1, 1), (1, 1)]),
    regAt off 0x1C 4 1 (fun _ => match s.otp.ident with | some i => i.fitted.toNat | none => 0),
    regAt off 0x20 4 1 (fun _ => pack [(s.mode.code, 3), (b2n s.sup.restarting, 1), (0, 4), (s.holdCause.toNat, 8), (s.takeover.toNat, 8)]),
    regAt off 0x24 4 1 (fun _ => pack [(s.boot.step, 4), (b2n s.boot.resetHeld, 1), (b2n s.boot.vcoreWait, 1), (b2n s.boot.thermalWait, 1),
      (b2n s.boot.partnerWait, 1), (b2n s.boot.fallback, 1), (min 2 s.boot.mismatches, 2)]),
    regAt off 0x28 4 1 (fun _ => pack [(s.boot.imageSel.toNat, 2), (s.boot.causeA.toNat, 4), (s.boot.causeB.toNat, 4), (s.boot.training.toNat, 2),
      (b2n s.boot.factoryReq, 1), (b2n s.boot.tokenOk, 1), (b2n s.boot.bistMissing, 1), (0, 1), (s.boot.otpMarginal.toNat, 8),
      (s.boot.otpRedirected.toNat, 8)]),
    regAt off 0x2C 4 1 (fun _ => s.boot.frozen.getD (if s.pwrgood then s.us else 0)),
    regAt off 0x30 4 1 (fun _ => match s.otp.ident with | some i => if hide then 0 else i.dieRev.toNat | none => 0),
    regAt off 0x34 4 1 (fun _ => if hide then 0 else Config.engineAbi.toNat)]

/-- The enable of PWR_GATE that governs the rung now (R408). -/
def State.gateRegime (s : State) : Nat := if s.pwr.rung = 0 then 0 else if s.pwr.rung ≤ 2 then 1 else 2

/-- PWR_GATE[b]: an enable at 0 keeps the block clocked; at 1 the manual leaves open when its clocks stop (log 21). -/
def State.gateWord (s : State) (b : Nat) : Nat :=
  let e := (tabGet 7 s.pwr.gate b)
  pack [(e.toNat, 3), (b2n (e.getLsbD s.gateRegime && Config.gated b s.choice), 1)]

/-- A gating block of an absent port (R502). -/
def State.gateAbsent (s : State) (b : Nat) : Bool := decide (8 ≤ b) && decide (b < 24) && !s.portPresent (b - 8)

/-- Block 0x01 (R410). -/
def State.block01 (s : State) (off : Nat) : Nat :=
  let w := s.pwr
  regPick [
    regAt off 0 4 1 (fun _ => pack [(w.rung, 3), (vidLevel s.pins.vid, 2), (b2n s.pins.vcoreOk, 1), (b2n w.refclk, 1), (b2n w.corePll, 1),
      (b2n w.fastRc, 1), (b2n w.entry.isSome, 1), (w.entryTarget.toNat, 3), (b2n w.retainPending, 1),
      (b2n (w.skipDwells && w.retainPending), 1)]),
    regAt off 4 4 1 (fun _ => pack [(w.wakeLast.toNat, 3), (w.wakeSeen.toNat, 6), (w.fromRung.toNat, 3), (0, 4), (w.wakes.toNat, 16)]),
    regAt off 0xC 4 1 (fun _ => pack [(w.hsRung.toNat, 3), (w.hsResult.toNat, 3), (w.hsBlock.toNat, 6), (0, 4), (w.refusals.toNat, 16)]),
    regAt off 0x10 4 1 (fun _ => pack [(w.aonDev.toNat, 16), (b2n w.freeRun, 1), (b2n w.refclkLost, 1)]),
    regAt off 0x14 4 1 (fun _ => pack [(w.zqTx.toNat, 6), (w.zqRx.toNat, 6), (b2n w.zqBad, 1),
      (match w.zqAt with | some t => min 65535 ((s.now - t) / 1000000) | none => 0, 16)]),
    regAt off 0x20 4 1 (fun _ => w.retainIdle.toNat),
    regAt off 0x24 4 1 (fun _ => pack [(w.deepest.toNat, 16), (w.rankPd.toNat, 16)]),
    regAt off 0x28 4 1 (fun _ => w.dwell3.toNat),
    regAt off 0x2C 4 1 (fun _ => w.dwell4.toNat),
    regAt off 0x30 4 1 (fun _ => w.ladderTimer.toNat),
    regAt off 0x34 4 1 (fun _ => w.keep.toNat),
    regAt off 0x38 4 1 (fun _ => pack [(w.idle1.toNat, 16), (w.idle2.toNat, 16)]),
    regAt off 0x3C 4 1 (fun _ => w.idle3.toNat),
    regAt off 0x100 4 16 (fun p => if s.portPresent p then
      let x := s.port p
      pack [(x.rung.toNat, 2), (x.cfg.floor.toNat, 2), (x.doze.toNat, 2), (b2n x.txHush, 1), (b2n x.rxHush, 1)] else 0),
    regAt off 0x200 4 41 (fun b => if s.gateAbsent b then 0 else s.gateWord b)]

/-- A layer is sampled every 125 µs; the base die is (R370). -/
def State.layerFast (s : State) (k : Nat) : Bool := (s.layer k).powered && decide (degC 90 ≤ (s.layer k).temp)
def State.baseFast (s : State) : Bool := decide (degC 100 ≤ s.thm.baseTemp)

/-- Powered layer with the highest temperature in use, the lowest of equals. -/
def State.hotLayer (s : State) : Nat :=
  (((List.range 18).filter (fun k => (s.layer k).powered)).foldl (fun (m : Option Nat) k => match m with
    | none => some k
    | some j => if (s.layer j).temp < (s.layer k).temp then some k else some j) none).getD 0

/-- Block 0x02 (chapter 14). -/
def State.block02 (s : State) (off : Nat) : Nat :=
  let t := s.thm
  regPick [
    regAt off 0 4 1 (fun _ => pack [((List.range 18).foldl (fun m k => max m (s.layer k).level) 0, 2), (t.baseLevel, 2), (s.hotLayer, 5),
      (b2n (s.baseFast || (List.range 18).any s.layerFast), 1), (b2n ((List.range 16).any (fun p => (s.port p).gnt.throttled)), 1),
      (b2n t.modelSuspect, 1), (b2n t.vrefBad, 1)]),
    regAt off 4 4 1 (fun _ => t.alert.toNat),
    regAt off 8 4 1 (fun _ => pack [(t.calDelta.toNat, 4), (t.throttleP.toNat, 7), (t.throttleB.toNat, 7), (b2n t.alertWarn, 1)]),
    regAt off 0xC 4 1 (fun _ => tempField t.baseTemp),
    regAt off 0x10 4 1 (fun _ => pack [(t.vref.toNat, 12), (b2n t.vrefBad, 1),
      (match t.lastRound with | some r => min 65535 ((s.now - r) / 1000000000) | none => 0, 16)]),
    regAt off 0x20 4 1 (fun _ => pack [(b2n t.tripValid, 1), (t.tripSrc.toNat, 6), (0, 1), (t.tripTemp.toNat, 11), (b2n t.tripCommitted, 1)]),
    regAt off 0x100 4 18 (fun k => if s.fitted k then
      let x := s.layer k
      pack [(tempField x.temp, 11), (x.level, 2), (x.basis.toNat, 2), (b2n x.suspectA, 1), (b2n x.suspectB, 1), (b2n (s.layerFast k), 1),
        (b2n x.powered, 1)] else 0),
    regAt off 0x180 4 18 (fun k => if s.fitted k then
      pack [(tempField ((s.layer k).sensA.getD 0), 16), (tempField ((s.layer k).sensB.getD 0), 16)] else 0),
    regAt off 0x200 4 18 (fun k => if s.fitted k then
      pack [(tempField (s.hotspot k), 11), (s.hotColumn k, 5), (tempField ((s.neighbourBound k).getD 0), 16)] else 0),
    regAt off 0x300 4 16 (fun i => pack [(tempField ((s.baseSensor i).reading.getD 0), 11), (b2n (s.baseSensor i).suspect, 1)])]

/-- The window of a source is open now (R415). -/
def State.srcOpen (s : State) (n : Nat) : Bool :=
  (s.src n).windowOpen && decide (s.now ≤ (s.src n).start + windowNs (s.src n).t.toNat)

/-- FLT_SRC_STATUS, FLT_SRC_CFG, FLT_SRC_TOTAL, FLT_SRC_CTRL of source n (R434). -/
def State.srcWord (s : State) (n w : Nat) : Nat :=
  let x := s.src n
  if s.srcAbsent n then (if w = 0 then 7 else 0)
  else match w with
    | 0 => pack [(s.srcClass n, 3), (if s.srcOpen n then x.count else 0, 8), (b2n (s.srcOpen n), 1), (b2n x.pending, 1),
        (b2n x.escalated, 1), (b2n x.forced, 1)]
    | 1 => pack [(x.n.toNat, 8), (x.t.toNat, 5), ((fixedClass n).getD x.initCls.toNat, 3), (s.srcReact n, 9)]
    | 2 => x.total.toNat
    | _ => pack [(0, 8), (x.escalations.toNat, 8),
        (if s.srcOpen n then min 65535 (s.leftOf (x.start + windowNs x.t.toNat) 1000000) else 0, 16)]

/-- Block 0x03 (R427, R434). -/
def State.block03 (s : State) (off : Nat) : Nat :=
  regPick [
    regAt off 0 4 1024 (fun i => s.srcWord (i / 4) (i % 4)),
    regAt off 0x1000 4 1 (fun _ => pack [(s.flt.next, 7), (b2n s.flt.wrapped, 1), (s.flt.nextSeq.toNat, 16)]),
    regAt off 0x1004 4 1 (fun _ => s.flt.ack.toNat),
    regAt off 0x1100 4 512 (fun i =>
      let r := tabGet (0, 0, 0, 0) s.flt.log (i / 4)
      (match i % 4 with | 0 => r.1 | 1 => r.2.1 | 2 => r.2.2.1 | _ => r.2.2.2).toNat),
    regAt off 0x2000 4 1 (fun _ => s.flt.alert.toNat),
    regAt off 0x2004 4 1 (fun _ => s.fltSummary.toNat),
    regAt off 0x2008 4 1 (fun _ => pack [(b2n s.grave, 1), (s.flt.graveSrc.toNat, 8), (b2n s.flt.graveForced, 1)])]

/-! ## Blocks 0x04 to 0x07 -/

/-- Set i of block 0x04, CYCLE_HI given: as latched for the two-wire target, live for MREAD (R441 to R443). -/
def State.setWord (s : State) (i off hi : Nat) : Nat :=
  let c := s.cset i
  if !s.setPresent i then 0
  else regPick [
    regAt off 0 4 1 (fun _ => pack [(b2n c.enable, 1), (b2n c.freeze, 1), (b2n c.freezeOnOvf, 1)]),
    regAt off 0x40 4 1 (fun _ => c.cycle.toNat),
    regAt off 0x44 4 1 (fun _ => hi),
    regAt off 0x48 4 1 (fun _ => if s.part = 4 then c.ovf.toNat % 32 else c.ovf.toNat),
    regAt off 0x50 4 8 (fun k => if s.counterPresent k then (tabGet 0 c.cnt k).toNat else 0),
    regAt off 0x80 4 8 (fun k => if s.counterPresent k then (tabGet 0 c.sel k).toNat else 0)]

/-- Block 0x04. -/
def State.block04 (s : State) (off : Nat) : Nat :=
  if off < 0x8000 then s.setWord (off / 0x400) (off % 0x400) (s.cset (off / 0x400)).hiLatch.toNat else 0

/-- Slots in the receive buffer of VC v (R201, R214). -/
def Port.rxSlots (p : Port) (v : Nat) : Nat :=
  (p.tx.rx.filter (fun i => match i with
    | .header c _ last => last && decide (c = v)
    | .data _ => decide (v = 1)
    | .msg _ _ => decide (v = 2))).length

/-- Open tags not yet accepted (PORT_TAGS.HELD): requests that still wait for the gauntlet (DEDUCED, log 22). -/
def Port.heldCount (p : Port) : Nat := (p.reqs.filter Req.held).length

/-- Port p of block 0x05 (R178, R214, R316, R501). -/
def State.portWord (s : State) (p off : Nat) : Nat :=
  let x := s.port p
  let l := x.lnk
  if !s.portPresent p then 0
  else regPick [
    regAt off 0 4 1 (fun _ => pack [(l.link.code, 3), (l.width.toNat, 2), (l.fec.toNat, 2), (b2n l.rl1, 1), (l.lanesActive.toNat, 4),
      (l.lanesLocked.toNat, 4), (b2n (decide (l.link = .active) && decide (l.width.toNat < x.widthMax)), 1), (l.cause.toNat, 4),
      (l.role.toNat, 3), (b2n l.backoff, 1)]),
    regAt off 4 4 1 (fun _ => pack [(0, 1), (b2n l.down, 1)]),
    regAt off 8 4 1 (fun _ => pack [(l.cFailed.toNat, 12), (l.cRetrains.toNat, 8), (l.cDegrades.toNat, 6), (l.cLate.toNat, 6)]),
    regAt off 0xC 4 1 (fun _ => l.manual.toNat),
    regAt off 0x10 4 4 (fun i =>
      let y := x.lane i
      pack [(y.slip.toNat, 4), (b2n y.found, 1), (b2n y.polInv, 1), (y.laneId.toNat, 2), (y.skew.toNat, 8)]),
    regAt off 0x20 4 1 (fun _ => pack [(l.loopMode.toNat, 2), (b2n l.loopPattern, 1), (0, 1), (l.loopLanes.toNat, 4)]),
    regAt off 0x30 4 4 (fun i => (x.lane i).prbsErr.toNat),
    regAt off 0x40 4 4 (fun i => (x.lane i).fecCorr.toNat),
    regAt off 0x50 4 1 (fun _ => l.fecUncorr.toNat),
    regAt off 0x60 4 1 (fun _ => pack [(x.rxSlots 0, 8), (x.rxSlots 1, 8), (x.rxSlots 2, 4)]),
    regAt off 0x64 4 1 (fun _ => pack [(x.tx.held1, 16), (x.tx.held2, 16)]),
    regAt off 0x68 4 1 (fun _ => pack [(x.reqs.length, 11), (x.heldCount, 11)]),
    regAt off 0x6C 4 1 (fun _ => pack [(x.tx.nextSeq.toNat, 12), (x.oldest.toNat, 12)]),
    regAt off 0x70 4 1 (fun _ => pack [(x.tx.cReplays.toNat, 16), (x.tx.cRetrySent.toNat, 16)]),
    regAt off 0x74 4 1 (fun _ => pack [(b2n x.fenced, 1), (0, 15),
      (if x.fenced then s.leftOf (x.fencedAt + x.cfg.holdoff.toNat * 1000000) 1000000 else 0, 16)]),
    regAt off 0x78 4 1 (fun _ => pack [(x.protoLast.toNat, 4), (0, 12), (x.protoCount.toNat, 16)]),
    regAt off 0x7C 4 1 (fun _ => pack [(x.tx.sessions.toNat, 16), (b2n x.aud.resync.isSome, 1), (0, 7), (x.aud.auditFails.toNat, 8)]),
    regAt off 0x80 4 1 (fun _ => pack [(x.poisonNever.toNat, 16), (x.poisonData.toNat, 16)]),
    regAt off 0x90 4 1 (fun _ => pack [(b2n x.cfg.enable, 1), (x.cfg.widthMax.toNat, 2), (x.cfg.fecCfg.toNat, 2), (b2n x.cfg.rl1Compat, 1),
      (0, 2), (x.cfg.floor.toNat, 2), (0, 6), (x.cfg.attestPeriod.toNat, 8)]),
    regAt off 0x94 4 1 (fun _ => x.cfg.holdoff.toNat),
    regAt off 0x100 8 16 (fun w =>
      let y := x.window w
      pack [(b2n y.valid, 1), (b2n y.rw, 1), (y.localBase, 14), (y.tractBase, 11)]),
    regAt off 0x104 8 16 (fun w => pack [((x.window w).count, 12)])]

/-- Block 0x05. -/
def State.block05 (s : State) (off : Nat) : Nat := s.portWord (off / 0x1000) (off % 0x1000)

/-- Slice of the bank that CH_BIN_SEL of channel n selects: pseudo-channel, layer, bank, and VALID (R334). -/
def State.binSlice (s : State) (n : Nat) : Nat × Nat × Nat × Bool :=
  let v := (s.chan n).binSel.toNat
  let q := 2 * n + v % 2
  let k := bitsOf v 9 5
  (q, k, bitsOf v 4 1, s.fitted k && (s.layer k).powered && (!s.liners.contains k || (s.slice q k).inUse))

/-- Bins of subarrays 16 h to 16 h + 15 of the selected bank. -/
def State.binWord (s : State) (n h : Nat) : Nat :=
  let x := s.binSlice n
  if x.2.2.2 then pack ((List.range 16).map (fun i => ((s.slice x.1 x.2.1).bin x.2.2.1 (16 * h + i), 2))) else 0

/-- CH_REF_LAYER[n][k] (R334). -/
def State.refLayerWord (s : State) (n k : Nat) : Nat :=
  let a := s.slice (2 * n) k
  let b := s.slice (2 * n + 1) k
  let wait := s.otp.afQueue.any (fun e => !e.spare && decide (e.layer = k) && decide (e.q / 2 = n))
  if s.fitted k then
    pack [((s.layer k).base, 2), (b2n (a.catchUp || b.catchUp), 1), (b2n ((a.inUse && a.selfRefresh) || (b.inUse && b.selfRefresh)), 1),
      (b2n (a.inUse || b.inUse), 1), (0, 11), (min 255 (a.promoted.toNat + b.promoted.toNat), 8), (b2n wait, 1)]
  else 0

/-- Channel n of block 0x06 (R292, R316, R334). -/
def State.chanWord (s : State) (n off : Nat) : Nat :=
  let c := s.chan n
  regPick [
    regAt off 0 4 1 (fun _ => pack [(c.glove.toNat, 2), (b2n c.overlap, 1), (b2n (s.pc (2 * n)).excluded, 1), (b2n (s.pc (2 * n + 1)).excluded, 1)]),
    regAt off 4 4 2 (fun i =>
      let x := s.pc (2 * n + i)
      pack [(x.wq.length, 7), ((x.wq.filter (·.retry)).length, 7), (b2n x.cal.isSome, 1), (match x.cal with | some y => y.1 | none => 0, 5),
        (x.calQueue.length, 5)]),
    regAt off 0x14 4 1 (fun _ => b2n c.closeAlways),
    regAt off 0x20 4 1 (fun _ => pack [(c.rtRead.toNat, 8), (c.rtWrite.toNat, 8), (c.rtColumn.toNat, 8), (c.rtRow.toNat, 8)]),
    regAt off 0x24 4 1 (fun _ => pack [(c.rfBeat.toNat, 8), (c.rfCommand.toNat, 8), (c.rfThird.toNat, 8)]),
    regAt off 0x28 4 1 (fun _ => pack [(c.paused.toNat, 16), (c.protected_.toNat, 16)]),
    regAt off 0x2C 4 1 (fun _ => c.pdCount.toNat),
    regAt off 0x30 4 1 (fun _ => pack [(c.corrReads.toNat, 16), (c.corrRow.toNat, 16)]),
    regAt off 0x34 4 1 (fun _ => pack [(c.poisoned.toNat, 16), (c.sealed_.toNat, 16)]),
    regAt off 0x38 4 1 (fun _ => pack [(c.hatTaken.toNat, 16), (c.hatOvf.toNat, 8), (c.hatCuff.toNat, 8)]),
    regAt off 0x3C 4 1 (fun _ => c.lastUe.toNat),
    regAt off 0x40 4 1 (fun _ => pack [(c.rfmReq.toNat, 16), (c.rfmDef.toNat, 16)]),
    regAt off 0x44 4 1 (fun _ => c.minSlack.toNat),
    regAt off 0x50 4 1 (fun _ => pack [(c.binSel.toNat, 10), (b2n (s.binSlice n).2.2.2, 1)]),
    regAt off 0x54 4 2 (s.binWord n),
    regAt off 0x100 4 18 (fun k => match (s.slice (2 * n) k).calTemp with | some t => t.toNat + 2048 | none => 0),
    regAt off 0x180 4 18 (fun k => match (s.slice (2 * n + 1) k).calTemp with | some t => t.toNat + 2048 | none => 0),
    regAt off 0x200 4 18 (s.refLayerWord n)]

/-- Block 0x06. -/
def State.block06 (s : State) (off : Nat) : Nat := s.chanWord (off / 0x1000) (off % 0x1000)

/-- Proportional factor of the shrunk pseudo-channels, in 1/256 (R262). -/
def State.pcFactor (s : State) : Nat :=
  if (List.range 32).any s.pcShrunk && s.pcShort && !s.gnt.policy then 256 * (2400 * scaleL) / s.totalRate else 256

/-- Proportional factor of a port, in 1/256 (R262). -/
def State.portFactor (s : State) (p : Nat) : Nat :=
  if (s.port p).short && !s.gnt.policy then 256 * (((s.port p).gnt.shrink.getD 0) * scaleL) / (s.port p).rate else 256

/-- The highest shed limit under label priority, over ports and pseudo-channels (R263). -/
def State.shedTop (s : State) : Nat := (List.range 16).foldl (fun m p => max m (s.shedPort p)) s.shedPc

/-- Some shedding applies (R260). -/
def State.shedding (s : State) : Bool :=
  (s.pcShort && (List.range 32).any s.pcShrunk) || (List.range 16).any (fun p => s.portUp p && (s.port p).short)

/-- GNT_SHED (R265). -/
def State.shedWord (s : State) : Nat :=
  pack [(b2n s.shedding, 1), (s.gnt.lastCause.toNat, 3), (s.pcFactor, 9), (s.shedTop, 4), (b2n (decide (s.shedTop = 16)), 1)]

/-- A label of a port is shed somewhere. -/
def State.labelShed (s : State) (p l : Nat) : Bool :=
  decide (((s.port p).contract l).cls ≠ 0) && (List.range 32).any (fun q => s.shedAt p l q)

/-- Block 0x07 (R265). -/
def State.block07 (s : State) (off : Nat) : Nat :=
  let on : Nat → Nat → Nat := fun p v => if s.portPresent p then v else 0
  regPick [
    regAt off 0 4 1 (fun _ => s.gnt.check.toNat),
    regAt off 4 4 1 (fun _ => s.gnt.rejected.toNat),
    regAt off 8 4 1 (fun _ => b2n s.gnt.policy),
    regAt off 0xC 4 1 (fun _ => s.shedWord),
    regAt off 0x10 4 1 (fun _ => pack ((List.range 32).map (fun q => (b2n (s.pcShrunk q), 1)))),
    regAt off 0x100 4 16 (fun p => on p (s.port p).cfg.windowLen.toNat),
    regAt off 0x140 4 16 (fun p => on p (pack [(min 1023 (ceilDiv (s.port p).rate scaleL), 10),
      (portLimit (s.port p).lnk.width.toNat (s.port p).lnk.rl1, 10), (s.portFactor p, 9)])),
    regAt off 0x200 4 64 (fun i =>
      let g := (s.port (i / 4)).gnt
      on (i / 4) (match i % 4 with
        | 0 => pack [(g.holdBudget.toNat, 16), (g.holdCal.toNat, 16)]
        | 1 => pack [(g.holdOrder.toNat, 16), (g.holdShed.toNat, 16)]
        | 2 => g.expired.toNat
        | _ => pack [(g.noContract.toNat, 16), (g.oversize.toNat, 16)])),
    regAt off 0x300 4 32 (fun i => on (i / 2) (pack ((List.range 32).map (fun k => (b2n (s.labelShed (i / 2) (32 * (i % 2) + k)), 1))))),
    regAt off 0x1000 4 1024 (fun i => on (i / 64) (s.left (i / 64) (i % 64))),
    regAt off 0x2000 8 1024 (fun i =>
      let c := (s.port (i / 64)).contract (i % 64)
      on (i / 64) (pack [(c.cls.toNat, 2), (c.shedRank.toNat, 4), (0, 2), (c.pTarget.toNat, 8), (c.hatband.toNat, 8)])),
    regAt off 0x2004 8 1024 (fun i => on (i / 64) ((s.port (i / 64)).contract (i % 64)).budget.toNat)]

/-! ## Blocks 0x08 to 0x0F -/

/-- A burn runs (OTP_STATUS.BURN_BUSY). -/
def State.burnBusy (s : State) : Bool := s.otp.job.isSome || decide (s.mb.busy.map (·.1) = some 1)

/-- Block 0x08 (chapter 05). -/
def State.block08 (s : State) (off : Nat) : Nat :=
  let o := s.otp
  let read := decide (4 < s.boot.step) || o.ident.isSome || decide (s.mode = .hold)
  regPick [
    regAt off 0 4 1 (fun _ => if !read then 0 else
      pack [(s.freeSpares.length, 5), (((List.range 41).filter (fun f => decide (s.frame f = .free))).length, 6), (b2n s.burnBusy, 1),
        (b2n o.burnHeld, 1), (b2n (!o.overridden.isEmpty), 1)]),
    regAt off 0x10 4 16 (fun k => let e := o.fails.getD k (0, 0); pack [(e.1, 9), (e.2, 3)]),
    regAt off 0x100 4 1 (fun _ => pack [(o.burnRow.toNat, 15), (b2n o.burnField, 1), (o.burnIdx.toNat, 6)]),
    regAt off 0x104 4 1 (fun _ => o.burnLo.toNat),
    regAt off 0x108 4 1 (fun _ => o.burnHi.toNat),
    regAt off 0x110 4 1 (fun _ => pack [(o.burnCode.toNat, 4), (o.burnPulses.toNat, 3)]),
    regAt off 0x120 4 1 (fun _ => o.ovrRow.toNat),
    regAt off 0x124 4 1 (fun _ => o.ovrLo.toNat),
    regAt off 0x128 4 1 (fun _ => o.ovrHi.toNat),
    regAt off 0x1000 8 480 (fun n => (s.shadow n).toNat),
    regAt off 0x1004 8 480 (fun n => (s.shadow n).toNat / 2 ^ 32)]

/-- Four bytes of a list as a word. -/
def wordOf (l : List Byte) (k : Nat) : Nat := ofLe ((l.drop (4 * k)).take 4)

/-- Block 0x09 (R160). -/
def State.block09 (s : State) (off : Nat) : Nat :=
  let j := s.jnl
  regPick [
    regAt off 0 4 1 (fun _ => pack [(j.sector, 11), (j.queue.length, 5), (b2n j.suspended, 1), (b2n j.erasing, 1), (b2n j.fullScan, 1), (0, 5),
      (min 255 j.failCount, 8)]),
    regAt off 4 4 1 (fun _ => j.seq.toNat),
    regAt off 8 4 1 (fun _ => j.dropped.toNat),
    regAt off 0x10 4 1 (fun _ => j.readAddr.toNat * 64),
    regAt off 0x40 4 16 (wordOf j.readBuf),
    regAt off 0x100 4 19 s.wearPerMille]

/-- Block 0x0A (R461). -/
def State.block0A (s : State) (off : Nat) : Nat :=
  let a := s.att
  regPick [
    regAt off 0 4 1 (fun _ => pack [(b2n a.ready, 1), (b2n a.exhausted, 1), (b2n a.burnWait, 1), (b2n (!a.queue.isEmpty), 1), (b2n a.rebuild, 1),
      (b2n a.journalAhead, 1), (a.allowance, 7)]),
    regAt off 4 4 1 (fun _ => a.next),
    regAt off 8 4 1 (fun _ => pack [(if s.otp.ident.isSome then 1024 - s.leafCount else 0, 11), (a.reports.toNat, 16)]),
    regAt off 0x100 4 17 (wordOf s.pubKey),
    regAt off 0x200 4 16 (fun p => if s.portPresent p then
      let x := s.port p
      pack [(x.attReports.toNat, 16),
        (match x.attLast with | some t => s.leftOf (t + x.cfg.attestPeriod.toNat * 1000000000) 1000000000 | none => 0, 16)] else 0),
    regAt off 0x300 4 8 (fun k => a.nonce.toNat / 2 ^ (32 * k)),
    regAt off 0x324 4 1 (fun _ => a.result.toNat),
    regAt off 0x1000 4 770 (fun k => if a.result = 1 then wordOf a.report k else 0)]

/-- Block 0x0B (R496). -/
def State.block0B (s : State) (off : Nat) : Nat :=
  let b := s.bist
  let st : Nat → Nat := fun i => if s.partAbsent i then 4 else (s.part_ i).status.toNat
  regPick [
    regAt off 0 4 1 (fun _ => pack [(b2n b.running, 1), (b2n b.shutDown, 1), (b.trigger.toNat, 3), (b.slot, 4), (b2n b.refused, 1)]),
    regAt off 8 4 1 (fun _ => pack [(b.excluded.toNat, 20), (b2n b.missing, 1)]),
    regAt off 0x100 4 20 (fun i => pack [(st i, 3), (b2n (s.part_ i).fromJournal, 1), ((s.part_ i).duration.toNat, 16)]),
    regAt off 0x200 8 20 (fun i => (s.part_ i).sig.toNat),
    regAt off 0x204 8 20 (fun i => (s.part_ i).sig.toNat / 2 ^ 32)]

/-- VIEW of address k of the mask set. -/
def State.viewByte (s : State) (k : Nat) : Nat := (tabGet 0 s.mb.views k).toNat

/-- Block 0x0C (R485). -/
def State.block0C (s : State) (off : Nat) : Nat :=
  let m := s.mb
  regPick [
    regAt off 0 4 1 (fun _ => pack [(0x58 + s.pins.maddr.toNat, 7), (b2n m.maskMode, 1), (b2n m.pec, 1), (b2n m.attention, 1), (0, 6),
      (m.maskBase.toNat, 8), (m.maskBits.toNat, 8)]),
    regAt off 4 4 4 (fun j => if s.capMask then pack ((List.range 4).map (fun i => (s.viewByte (4 * j + i), 8))) else 0),
    regAt off 0x20 4 1 (fun _ => pack [(m.status.toNat, 6), (b2n m.attnPending, 1)]),
    regAt off 0x24 4 1 (fun _ => pack [(m.timeouts.toNat, 8), (m.pecErrors.toNat, 8), (m.aborts.toNat, 8), (m.attnServed.toNat, 8)]),
    regAt off 0x28 4 1 (fun _ => pack [(m.longOp.toNat, 3), (m.longOutcome.toNat, 2), (m.longDuration.toNat, 27)])]

/-- Free spare rows in a bank of slice (q, k). -/
def State.freeRows (s : State) (q k b : Nat) : Nat :=
  ((List.range 32).filter (fun i => !(s.slice q k).spares.any (fun y => decide (y.bank = b) && decide (y.index = i)))).length

/-- REP_SPARE_STAT[q] (R344, R362): the spare rows of a bank that lives elsewhere are not counted. -/
def State.spareStat (s : State) (q : Nat) : Nat :=
  let least := (List.range 18).foldl (fun m k => if (s.slice q k).inUse then
    (List.range 16).foldl (fun m b => if s.bankRefreshed q k b then min m (s.freeRows q k b) else m) m else m) 32
  pack [((s.pc q).spared.toNat, 16), (least, 6), (b2n (s.otp.afQueue.any (fun e => e.spare && decide (e.q = q))), 1)]

/-- REP_LINER[i] (R362). -/
def State.linerWord (s : State) (i : Nat) : Nat :=
  match s.liners[i]? with
  | none => 0
  | some l =>
    let n : (Nat → Bool) → Nat := fun f => ((List.range 32).filter f).length
    pack [(1, 1), (l, 5), (b2n (s.layer l).powered, 1), (n (fun q => s.linerSubst q l), 6),
      (n (fun q => !s.linerSubst q l && !(s.linerBanks q l).isEmpty), 6)]

/-- REP_MIG_STATUS[q], REP_MIG_MARK[q] (R348, R502). -/
def State.migWord (s : State) (q i : Nat) : Nat :=
  let m := (s.pc q).mg
  if !s.capMigration then 0
  else if i = 0 then
    pack [(m.mig.code, 3), (b2n m.unit.bank.isSome, 1), (m.unit.bank.getD 0, 4), (m.unit.src, 5), (m.unit.dst, 5), (m.unit.rank, 4)]
  else m.mark

/-- REP_STATUS (R362, R502). -/
def State.repStatus (s : State) : Nat :=
  let busy := ((List.range 32).filter (fun q => decide ((s.pc q).mg.mig ≠ .idle))).length
  let queued := ((List.range 32).map (fun q => (s.pc q).mg.migQueue.length)).sum
  pack [(if s.capMigration then busy else 0, 6), (if s.capMigration then queued else 0, 7), (s.rep.layersRetired.toNat, 5), (b2n s.refuse, 1),
    (b2n ((List.range 32).any (fun q => decide ((s.pc q).mg.mig = .split))), 1)]

/-- Block 0x0D (R220, R225, R227, R362, R497). -/
def State.block0D (s : State) (off : Nat) : Nat :=
  let r := s.rep
  regPick [
    regAt off 0 4 1 (fun _ => s.repStatus),
    regAt off 8 4 1 (fun _ => pack [(r.result.toNat, 3), (b2n r.confirm, 1)]),
    regAt off 0xC 4 1 (fun _ => pack [(b2n r.layerPolicy, 1), (b2n r.burnRepairs, 1)]),
    regAt off 0x100 4 128 (fun i => (s.steerWord (i / 4) (i % 4)).toNat),
    regAt off 0x300 4 32 s.spareStat,
    regAt off 0x800 4 128 (fun i => (s.rankMapWord (i / 4) (i % 4)).toNat),
    regAt off 0xA00 4 64 (fun i => s.migWord (i / 2) (i % 2)),
    regAt off 0xB00 4 32 (fun q =>
      let m := (s.pc q).mg
      pack [(m.lastCal.toNat, 9), (m.lastHbx.toNat, 9), (m.lastMig.toNat, 9), (0, 4), (b2n m.auditFail, 1)]),
    regAt off 0xC00 4 1 (fun _ => s.repLoss.toNat),
    regAt off 0xC04 4 1 (fun _ => r.lostAccess.toNat),
    regAt off 0xC10 4 2 s.linerWord,
    regAt off 0xC20 4 1 (fun _ => r.layerFault.toNat),
    regAt off 0xF00 4 1 (fun _ => r.xInLo.toNat),
    regAt off 0xF04 4 1 (fun _ => r.xInHi.toNat),
    regAt off 0xF10 4 1 (fun _ => r.xPhys.toNat),
    regAt off 0xF14 4 1 (fun _ => r.xDevLo.toNat),
    regAt off 0xF18 4 1 (fun _ => r.xDevHi.toNat),
    regAt off 0xF1C 4 1 (fun _ => pack [(b2n r.xDone, 1), (r.xResult.toNat, 3)]),
    regAt off 0xF20 4 1 (fun _ => pack [(r.keyGen.toNat, 16), (b2n r.keyFallback, 1)]),
    regAt off 0x1000 4 512 (fun i => (s.bankMapWord (i / 16) (i % 16)).toNat)]

/-- Block 0x0F in FACTORY (R495, R496): BIST_FAC_STATUS, and vendor controls whose contents are not given (log 14). -/
def State.block0F (s : State) (off : Nat) : Nat :=
  if off = 0 then pack [(1, 1), (1, 1), (0, 14), (s.bist.tapRefused.toNat, 16)] else (Config.factoryRead off s.choice).toNat

/-- The word of the register at a 24-bit address, whoever may read it. -/
def State.regWord (s : State) (a : Nat) : Word :=
  let off := a % 0x10000
  BitVec.ofNat 32 (match a / 0x10000 with
    | 0x00 => s.block00 off | 0x01 => s.block01 off | 0x02 => s.block02 off | 0x03 => s.block03 off | 0x04 => s.block04 off
    | 0x05 => s.block05 off | 0x06 => s.block06 off | 0x07 => s.block07 off | 0x08 => s.block08 off | 0x09 => s.block09 off
    | 0x0A => s.block0A off | 0x0B => s.block0B off | 0x0C => s.block0C off | 0x0D => s.block0D off | 0x0F => s.block0F off
    | _ => 0)

/-! ## Who may read and write -/

/-- An address lies in n bytes from a base. -/
def within (a base n : Nat) : Bool := decide (base ≤ a) && decide (a < base + n)

/-- A view of port p reads a register (R465). -/
def portReads (p a : Nat) : Bool :=
  within a 0 0x10000 || a == 0x010100 + 4 * p || within a (0x030000 + 16 * (16 + 4 * p)) 64 || within a (0x040000 + 0x400 * p) 0x400
    || within a (0x050000 + 0x1000 * p) 0x1000 || a == 0x070000 || a == 0x070008 || a == 0x07000C || a == 0x070100 + 4 * p
    || a == 0x070140 + 4 * p || within a (0x070200 + 16 * p) 16 || within a (0x070300 + 8 * p) 8 || within a (0x071000 + 0x100 * p) 0x100
    || within a (0x072000 + 0x200 * p) 0x200 || a == 0x0A0000 || a == 0x0A0200 + 4 * p || a == 0x0A0324 || a == 0x0D0F1C || a == 0x0D0008

/-- A view of port p writes a register with the write's own effect (R465). -/
def portWrites (p a : Nat) : Bool :=
  let o := a - (0x050000 + 0x1000 * p)
  within a (0x040000 + 0x400 * p) 0x400
    || (within a (0x050000 + 0x1000 * p) 0x1000 && (o == 4 || o == 0xC || within o 0x10 16 || o == 0x20))

/-- A view reads a register; a view writes one. -/
def viewReads (v : View) (a : Nat) : Bool := match v with | .whole => true | .port p => portReads p.val a
def viewWrites (v : View) (a : Nat) : Bool := match v with | .whole => true | .port p => portWrites p.val a

/-- The blocks that HOLD serves (R37). -/
def holdServes (a : Nat) : Bool := [0x00, 0x01, 0x03, 0x08, 0x09, 0x0A, 0x0B, 0x0C].contains (a / 0x10000)

/-- The mode lets a register be read (R37, R103, R377, R495). -/
def State.modeReads (s : State) (a : Nat) : Bool :=
  let b := a / 0x10000
  (match s.mode with
    | .trip => a == 0x000020 || a == 0x020000 || a == 0x020020
    | .hold => holdServes a || a == 0x020020
    | .boot => within a 0x20 16 || (s.otp.ident.isSome && (b == 0 || b == 3 || b == 8)) || (s.boot.step5 && b != 9) || s.boot.step6
    | _ => true) && (b != 0x0F || decide (s.mode = .factory))

/-- The mode lets a register be written: RW and RWL registers of BOOT after step 5, everything after step 6 (R37, R103, R377). -/
def State.modeWrites (s : State) (a : Nat) : Bool :=
  let b := a / 0x10000
  (match s.mode with
    | .trip => false
    | .hold => holdServes a
    | .boot => s.boot.step6 || (s.boot.step5 && b != 9)
    | _ => true) && (b != 0x0F || decide (s.mode = .factory))

/-- Writes with an action, RW1C bits included, are accepted (R103). -/
def State.actsNow (s : State) (a : Nat) : Bool := s.modeWrites a && (decide (s.mode ≠ .boot) || s.boot.step6)

/-- RWL fields take a written value (R10). -/
def State.lockOpen (s : State) : Bool := decide (s.mode = .boot) || decide (s.mode = .factory)

/-- What the target returns for a register in a view. -/
def State.readReg (s : State) (v : View) (a : Nat) : Word := if s.modeReads a && viewReads v a then s.regWord a else 0

/-! ## Pins that follow from registers -/

/-- The thermal unit asks for ALERT_N (R93, R379). -/
def State.thermalAsks (s : State) : Bool :=
  s.boot.thermalWait || (if s.thm.alertWarn then decide (s.thm.alert ≠ 0) else decide (s.thm.alert &&& 0x3E ≠ 0))

/-- ALERT_N is driven low (R423). -/
def State.alertLow (s : State) : Bool := s.pwrgood && !(decide (s.mode = .boot) && s.boot.resetHeld) && (decide (s.flt.alert ≠ 0) || s.thermalAsks)

end Sys2Proof.Machine
end

