-- ==== Sys2Proof/Machine/Pmc.lean ====
section
/-! DEFINITION. Performance counters by time (R436, R437): the scheduler tick, occupancy events and wraps; and what else the model lets a tick carry on. -/

namespace Sys2Proof.Machine

/-- The occupancy that an event code of set i counts in a tick; none for an occurrence (R438). -/
def State.occupancy (s : State) (i code : Nat) : Option Nat :=
  let x := s.port i
  let y := fun j => s.pc (2 * (i - 16) + j)
  let gOf : Pc → Nat := fun p => (p.grants.filter (fun g => decide (g.cls = .g))).length
  if i < 16 then
    match code with
    | 0x20 => some x.heldCount
    | 0x21 => some (x.reqs.filter (fun r => r.held && decide ((x.contract r.label).cls = 1))).length
    | 0x22 => some x.reqs.length
    | 0x23 => some x.tx.replay.length
    | _ => none
  else
    match code with
    | 0x60 => some (y 0).wq.length
    | 0x61 => some (y 1).wq.length
    | 0x62 => some (gOf (y 0))
    | 0x63 => some (gOf (y 1))
    | _ => none

/-- A response of the port waits for VC1 credit (event 0x0F). -/
def Port.waitsVc1 (p : Port) : Bool :=
  p.inSession && decide (p.tx.held1 = 0) && p.outq.any (fun o => decide (o.slot.vc = 1))

/-- What counter k of set i adds in this tick (R436, R437). -/
def State.tickAdd (s : State) (i k : Nat) : Nat :=
  let c := s.cset i
  match s.occupancy i (c.event k) with
  | some n => if c.threshold k = 255 then n else b2n (decide (c.threshold k < n))
  | none => b2n (decide (i < 16) && decide (c.event k = 0x0F) && (s.port i).waitsVc1)

/-- The cycle counter advanced by 1: a wrap sets bit 0 of PMC_OVF, and FREEZE where FREEZE_ON_OVF asks for it (R439). -/
def CounterSet.advance (c : CounterSet) : CounterSet :=
  let c' := { c with cycle := c.cycle + 1 }
  if c'.cycle = 0 then { c' with ovf := c'.ovf ||| 1, freeze := c'.freeze || c'.freezeOnOvf } else c'

/-- One tick of set i (R436): every counter takes its events of the tick, a freeze takes hold from the next. -/
def tickSet (i : Nat) (s : State) : State :=
  if (s.cset i).counts && s.setPresent i then
    let adds := (List.range 8).map (fun k => (k, s.tickAdd i k))
    s.updCset i (fun c => (adds.filter (fun a => decide (0 < a.2))).foldl (fun c a => c.add a.1 a.2) c.advance)
  else s

/-- Counting has started and the scheduler runs: in SERVICE, and in RETAIN at P3 (R436, R440). -/
def State.ticking (s : State) : Bool := decide (s.mode = .service) || (decide (s.mode = .retain) && decide (s.pwr.rung ≤ 3))

/-- BOOT's first steps, which no event of their own ends (R77): step 1 leads to 2, step 2 to 3, which raises VDD_CORE. -/
def bootTick (s : State) : State :=
  if s.mode = .boot ∧ s.boot.step = 1 then { s with boot.step := 2 }
  else if s.mode = .boot ∧ s.boot.step = 2 then { s with boot.step := 3, pins.vid := some 0x18, boot.vcoreWait := !s.pins.vcoreOk }
  else s

/-- SCHEDULER_TICK (R436): one nanosecond. -/
def execSchedulerTick (s : State) : Host.Outcome State Fault Refusal :=
  if !s.pwrgood then .next s
  else
    let s := bootTick { s with now := s.now + 1 }
    .next (shutdownAdvance (if s.ticking then forN 32 tickSet s else s))

/-- A set cleared (R443): every counter and PMC_OVF 0. -/
def clearSet (i : Nat) (s : State) : State :=
  if s.setPresent i then s.updCset i (fun c => { c with cycle := 0, hiLatch := 0, ovf := 0, cnt := [] }) else s

end Sys2Proof.Machine
end

