-- ==== Sys2Proof/Machine/RegWrite.lean ====
section
/-! DEFINITION. What a register access changes (R10, R470): RC fields cleared and the latch of PMC_CYCLE_LO by a read, RW, RWL and RW1C fields by a write. Writes with an action are in Actions.lean. -/

namespace Sys2Proof.Machine

/-- An address is element i of an array of n registers. -/
def indexIn (a base stride n : Nat) : Option Nat :=
  if base ≤ a ∧ (a - base) % stride = 0 ∧ (a - base) / stride < n then some ((a - base) / stride) else none

/-! ## Reads (R10, R441, R470) -/

/-- RC fields of port p at an offset cleared. -/
def Port.clearRc (p : Port) (off : Nat) : Port :=
  match off with
  | 0x08 => { p with lnk := { p.lnk with cFailed := 0, cRetrains := 0, cDegrades := 0, cLate := 0 } }
  | 0x50 => { p with lnk := { p.lnk with fecUncorr := 0 } }
  | 0x70 => { p with tx := { p.tx with cReplays := 0, cRetrySent := 0 } }
  | 0x78 => { p with protoCount := 0 }
  | 0x7C => { p with aud := { p.aud with auditFails := 0 } }
  | 0x80 => { p with poisonNever := 0, poisonData := 0 }
  | _ =>
    match indexIn off 0x30 4 4, indexIn off 0x40 4 4 with
    | some l, _ => p.updLane l (fun y => { y with prbsErr := 0 })
    | _, some l => p.updLane l (fun y => { y with fecCorr := 0 })
    | _, _ => p

/-- RC fields of a channel at an offset cleared. -/
def Channel.clearRc (c : Channel) (off : Nat) : Channel :=
  match off with
  | 0x20 => { c with rtRead := 0, rtWrite := 0, rtColumn := 0, rtRow := 0 }
  | 0x24 => { c with rfBeat := 0, rfCommand := 0, rfThird := 0 }
  | 0x28 => { c with paused := 0, protected_ := 0 }
  | 0x2C => { c with pdCount := 0 }
  | 0x30 => { c with corrReads := 0, corrRow := 0 }
  | 0x34 => { c with poisoned := 0, sealed_ := 0 }
  | 0x38 => { c with hatTaken := 0, hatOvf := 0, hatCuff := 0 }
  | 0x40 => { c with rfmReq := 0, rfmDef := 0 }
  | _ => c

/-- RC fields of the gauntlet counters of a port cleared. -/
def PortGnt.clearRc (g : PortGnt) (i : Nat) : PortGnt :=
  match i with
  | 0 => { g with holdBudget := 0, holdCal := 0 }
  | 1 => { g with holdOrder := 0, holdShed := 0 }
  | 2 => { g with expired := 0 }
  | _ => { g with noContract := 0, oversize := 0 }

/-- The RC fields of the register at an address cleared. -/
def State.clearRc (s : State) (a : Nat) : State :=
  let off := a % 0x10000
  match a / 0x10000 with
  | 0x01 => if off = 0xC then { s with pwr.refusals := 0 } else s
  | 0x03 => match indexIn off 8 16 256 with | some n => if s.srcAbsent n then s else s.updSrc n (fun x => { x with total := 0 }) | none => s
  | 0x05 => s.updPort (off / 0x1000) (·.clearRc (off % 0x1000))
  | 0x06 => s.updChan (off / 0x1000) (·.clearRc (off % 0x1000))
  | 0x07 => match indexIn off 0x200 4 64 with
    | some i => s.updPort (i / 4) (fun x => { x with gnt := x.gnt.clearRc (i % 4) })
    | none => s
  | 0x09 => if off = 8 then { s with jnl.dropped := 0 } else s
  | 0x0C => if off = 0x24 then { s with mb := { s.mb with timeouts := 0, pecErrors := 0, aborts := 0, attnServed := 0 } } else s
  | 0x0D => if off = 0xC04 then { s with rep.lostAccess := 0 } else s
  | _ => s

/-- The register is PMC_CYCLE_LO of a set. -/
def cycleLoSet (a : Nat) : Option Nat := indexIn a 0x040040 0x400 32

/-- A value of the register is free: block 0x0F and PWR_GATE (log 14, log 21). -/
def drawsChoice (a : Nat) : Bool := within a 0x0F0004 0xFFFC || within a 0x010200 164

/-- A register read whole in a view: what is returned, and the state after its last byte. -/
def State.readAt (s : State) (v : View) (a : Nat) : State × Word :=
  let w := s.readReg v a
  if s.modeReads a && viewReads v a then
    let t := match cycleLoSet a with
      | some i => if s.setPresent i then s.updCset i (fun c => { c with hiLatch := c.cycle.extractLsb' 32 32 }) else s
      | none => s.clearRc a
    ({ t with choice := if drawsChoice a then t.choice + 1 else t.choice }, w)
  else (s, w)

/-! ## Writes (R10) -/

/-- RW1C: the ones of a mask cleared. -/
def clearOnes {w : Nat} (x : BitVec w) (v : Nat) : BitVec w := x &&& ~~~ (BitVec.ofNat w v)

/-- Block 0x01 (R410). -/
def writeBlock01 (off v : Nat) (act lock : Bool) (s : State) : State :=
  let w := s.pwr
  let past := (if s.sup.restarting then none else some s.now, w.timers) :: w.past
  match off with
  | 0x04 => if act then { s with pwr.wakeSeen := clearOnes w.wakeSeen (bitsOf v 8 3) } else s
  | 0x10 => if act && v.testBit 17 then { s with pwr.refclkLost := false } else s
  | 0x20 => { s with pwr.past := past, pwr.retainIdle := BitVec.ofNat 32 v }
  | 0x24 =>
    let d := min 5 (max 3 (v % 8))
    { s with pwr.past := past, pwr.rankPd := BitVec.ofNat 16 (max 16 (bitsOf v 31 16))
             pwr.deepest := if d = 4 ∧ w.keep = 0 then w.deepest else BitVec.ofNat 3 d }
  | 0x28 => { s with pwr.past := past, pwr.dwell3 := BitVec.ofNat 32 v }
  | 0x2C => { s with pwr.past := past, pwr.dwell4 := BitVec.ofNat 32 v }
  | 0x30 => { s with pwr.ladderTimer := BitVec.ofNat 32 v }
  | 0x34 => if lock then { s with pwr.keep := BitVec.ofNat 16 v } else s
  | 0x38 => { s with pwr.past := past, pwr.idle1 := BitVec.ofNat 16 (max 20 (bitsOf v 15 0)), pwr.idle2 := BitVec.ofNat 16 (max 1 (bitsOf v 31 16)) }
  | 0x3C => { s with pwr.past := past, pwr.idle3 := BitVec.ofNat 16 (max 1 (bitsOf v 15 0)) }
  | _ => match indexIn off 0x200 4 41 with
    | some b => if s.gateAbsent b then s else { s with pwr.gate := tabSet 7 w.gate b (BitVec.ofNat 3 v) }
    | none => s

/-- Block 0x02: THM_ALERT and THM_CFG with its limits. -/
def writeBlock02 (off v : Nat) (act : Bool) (s : State) : State :=
  match off with
  | 0x04 => if act then { s with thm.alert := clearOnes s.thm.alert v } else s
  | 0x08 => { s with thm := { s.thm with
      calDelta := BitVec.ofNat 4 (max 2 (v % 16)), throttleP := BitVec.ofNat 7 (min 100 (bitsOf v 10 4)),
      throttleB := BitVec.ofNat 7 (min 100 (bitsOf v 17 11)), alertWarn := v.testBit 18 } }
  | _ => s

/-- Block 0x03: the RW1C bits of a source, its entry (R413, R434), the acknowledged record, FLT_ALERT. -/
def writeBlock03 (off v : Nat) (act lock : Bool) (s : State) : State :=
  if off = 0x1004 then { s with flt.ack := BitVec.ofNat 16 v }
  else if off = 0x2000 then (if act then { s with flt.alert := clearOnes s.flt.alert v } else s)
  else if off < 0x1000 then
    let n := off / 16
    if s.srcAbsent n || reservedSource n then s
    else match off % 16 with
      | 0 => if act then s.updSrc n (fun x => { x with
          pending := x.pending && !v.testBit 12, escalated := x.escalated && !v.testBit 13, forced := x.forced && !v.testBit 14 }) else s
      | 4 => if lock ∧ v % 256 ≠ 0 ∧ bitsOf v 12 8 ≤ 26 ∧ bitsOf v 15 13 ≤ 4 then
          s.updSrc n (fun x => { x with n := BitVec.ofNat 8 v, t := BitVec.ofNat 5 (v / 256), initCls := BitVec.ofNat 3 (v / 8192),
                                         react := BitVec.ofNat 9 (v / 65536) }) else s
      | _ => s
  else s

/-- A selection as a set takes it (R437, R438). -/
def selWord (i v : Nat) : BitVec 16 :=
  let e := v % 256
  if (if i < 16 then portEvent e else channelEvent e) then
    BitVec.ofNat 16 (if occurrence e then e else v % 65536)
  else BitVec.ofNat 16 (v % 65536 - e)

/-- Block 0x04 (R439, R443). -/
def writeBlock04 (off v : Nat) (act : Bool) (s : State) : State :=
  let i := off / 0x400
  if 32 ≤ i ∨ !s.setPresent i then s
  else match off % 0x400 with
    | 0 => s.updCset i (fun c => { c with enable := v.testBit 0, freeze := v.testBit 1, freezeOnOvf := v.testBit 2 })
    | 0x40 => s.updCset i (fun c => { c with cycle := BitVec.ofNat 64 (c.cycle.toNat / 2 ^ 32 * 2 ^ 32 + v) })
    | 0x44 => s.updCset i (fun c => { c with cycle := BitVec.ofNat 64 (v * 2 ^ 32 + c.cycle.toNat % 2 ^ 32), hiLatch := BitVec.ofNat 32 v })
    | 0x48 => if act then s.updCset i (fun c => { c with ovf := clearOnes c.ovf v }) else s
    | o => match indexIn o 0x50 4 8, indexIn o 0x80 4 8 with
      | some k, _ => if s.counterPresent k then s.updCset i (fun c => { c with cnt := tabSet 0 c.cnt k (BitVec.ofNat 32 v) }) else s
      | _, some k => if s.counterPresent k then s.updCset i (fun c => { c with sel := tabSet 0 c.sel k (selWord i v) }) else s
      | _, _ => s

/-- A window register of port p written (R501). -/
def Port.writeWindow (p : Port) (w v : Nat) (second : Bool) : Port :=
  let x := p.window w
  let y := if second then { x with count := v % 4096 }
    else { x with valid := v.testBit 0, rw := v.testBit 1, localBase := bitsOf v 15 2, tractBase := bitsOf v 26 16 }
  { p with cfg := { p.cfg with windows := tabSet {} p.cfg.windows w y } }

/-- Block 0x05 (R178, R501): PORT_LOOP takes MODE 0x0 here, in OFF only (R177). -/
def writePort (p off v : Nat) (lock : Bool) (s : State) : State :=
  if !s.portPresent p then s
  else match off with
    | 0x0C => s.updPort p (fun x => { x with lnk := { x.lnk with manual := BitVec.ofNat 4 v } })
    | 0x20 => if v % 4 = 0 ∧ (s.port p).lnk.link = .off then s.updPort p (fun x => { x with lnk := { x.lnk with
        loopMode := 0, loopPattern := v.testBit 2, loopLanes := BitVec.ofNat 4 (v / 16) } }) else s
    | 0x90 => if lock then s.updPort p (fun x => { x with cfg := { x.cfg with
        enable := v.testBit 0, widthMax := BitVec.ofNat 2 (v / 2), fecCfg := BitVec.ofNat 2 (v / 8), rl1Compat := v.testBit 5,
        floor := BitVec.ofNat 2 (v / 256), attestPeriod := BitVec.ofNat 8 (v / 65536) } }) else s
    | 0x94 => if lock then s.updPort p (fun x => { x with cfg := { x.cfg with holdoff := BitVec.ofNat 16 v } }) else s
    | _ =>
      match indexIn off 0x10 4 4, indexIn off 0x100 8 16, indexIn off 0x104 8 16 with
      | some l, _, _ => if (s.port p).lnk.manual.getLsbD l ∧ v % 16 < 10 then
          s.updPort p (·.updLane l (fun y => { y with slip := BitVec.ofNat 4 v })) else s
      | _, some w, _ => if lock then s.updPort p (·.writeWindow w v false) else s
      | _, _, some w => if lock then s.updPort p (·.writeWindow w v true) else s
      | _, _, _ => s

/-- Block 0x06 (R292, R334). -/
def writeChan (n off v : Nat) (s : State) : State :=
  match off with
  | 0x14 => s.updChan n (fun c => { c with closeAlways := v.testBit 0 })
  | 0x50 => s.updChan n (fun c => { c with binSel := BitVec.ofNat 10 v })
  | _ => s

/-- A contract of port p changed. -/
def Port.updContract (p : Port) (l : Nat) (f : Contract → Contract) : Port :=
  { p with cfg := { p.cfg with contracts := tabSet {} p.cfg.contracts l (f (p.contract l)) } }

/-- Block 0x07 (R265): every register is RWL or RO. -/
def writeBlock07 (off v : Nat) (s : State) : State :=
  let on : Nat → (Port → Port) → State := fun p f => if s.portPresent p then s.updPort p f else s
  if off = 8 then { s with gnt.policy := v.testBit 0 }
  else match indexIn off 0x100 4 16, indexIn off 0x2000 8 1024, indexIn off 0x2004 8 1024 with
    | some p, _, _ => on p (fun x => { x with cfg := { x.cfg with windowLen := BitVec.ofNat 7 (min 64 (max 1 (v % 128))) } })
    | _, some i, _ => on (i / 64) (·.updContract (i % 64) (fun c => { c with
        cls := BitVec.ofNat 2 v, shedRank := BitVec.ofNat 4 (v / 4), pTarget := BitVec.ofNat 8 (v / 256), hatband := BitVec.ofNat 8 (v / 65536) }))
    | _, _, some i => on (i / 64) (·.updContract (i % 64) (fun c => { c with budget := BitVec.ofNat 32 v }))
    | _, _, _ => s

/-- Block 0x08: the input registers of burns and overrides. -/
def writeBlock08 (off v : Nat) (s : State) : State :=
  match off with
  | 0x100 => { s with otp.burnRow := BitVec.ofNat 9 v, otp.burnField := v.testBit 15, otp.burnIdx := BitVec.ofNat 6 (v / 65536) }
  | 0x104 => { s with otp.burnLo := BitVec.ofNat 32 v }
  | 0x108 => { s with otp.burnHi := BitVec.ofNat 24 v }
  | 0x120 => { s with otp.ovrRow := BitVec.ofNat 9 v }
  | 0x124 => { s with otp.ovrLo := BitVec.ofNat 32 v }
  | 0x128 => { s with otp.ovrHi := BitVec.ofNat 24 v }
  | _ => s

/-- MB_CFG and MB_VIEW as a write would leave them. -/
def MbState.written (m : MbState) (off v : Nat) (mask : Bool) : MbState :=
  if off = 0 then
    let m := { m with pec := v.testBit 8, attention := v.testBit 9 }
    if mask then { m with maskMode := v.testBit 7, maskBase := BitVec.ofNat 7 (v / 65536), maskBits := BitVec.ofNat 7 (v / 2 ^ 24) } else m
  else if mask then
    { m with views := (List.range 4).foldl (fun t i => tabSet 0 t (off - 4 + i) (BitVec.ofNat 8 (v / 256 ^ i))) m.views }
  else m

/-- The mask set and views of R121 and R471 hold: at most 4 bits vary, none of them set in the base, no address equal to the
pin-set address or outside 0x08 to 0x77, and every view written names the whole stack or a present port. The limits of R121 on
the set bind while MASK_MODE is 1. -/
def State.maskOk (s : State) (m : MbState) (views : List Nat) : Bool :=
  decide (popBelow 7 m.maskBits.toNat ≤ 4) && decide (m.maskBase &&& m.maskBits = 0)
    && (!m.maskMode || (maskSet m.maskBase.toNat m.maskBits.toNat).all (fun a =>
      decide (8 ≤ a) && decide (a ≤ 0x77) && decide (a ≠ 0x58 + s.pins.maddr.toNat)))
    && views.all (fun v => v == 0xFF || (decide (v ≤ 15) && s.portPresent v))

/-- Block 0x0C (R471, R485): a write of MB_CFG or MB_VIEW that would break a rule is ignored whole. -/
def writeBlock0C (off v : Nat) (act lock : Bool) (s : State) : State :=
  if off = 0x20 then (if act then { s with mb.status := clearOnes s.mb.status v } else s)
  else if lock ∧ off % 4 = 0 ∧ off ≤ 0x10 then
    let m := s.mb.written off v s.capMask
    let views := if off = 0 ∨ !s.capMask then [] else (List.range 4).map (fun i => v / 256 ^ i % 256)
    if s.maskOk m views then { s with mb := m } else s
  else s

/-- Block 0x0D (R227, R362). -/
def writeBlock0D (off v : Nat) (act lock : Bool) (s : State) : State :=
  match off with
  | 0x08 => { s with rep.confirm := v.testBit 3 }
  | 0x0C => if lock then { s with rep.layerPolicy := v.testBit 0, rep.burnRepairs := v.testBit 1 } else s
  | 0xF00 => { s with rep.xInLo := BitVec.ofNat 32 v }
  | 0xF04 => { s with rep.xInHi := BitVec.ofNat 14 v }
  | _ => match indexIn off 0xB00 4 32 with
    | some q => if act && v.testBit 31 then s.updPc q (fun x => { x with mg := { x.mg with auditFail := false } }) else s
    | none => s

/-- A register written in a view (R10, R37, R103, R465): its RW, RWL and RW1C fields. -/
def State.writeReg (s : State) (view : View) (a : Nat) (d : Word) : State :=
  let off := a % 0x10000
  let v := d.toNat
  let act := s.actsNow a
  let lock := s.lockOpen
  if !(s.modeWrites a && viewWrites view a) then s
  else match a / 0x10000 with
    | 0x01 => writeBlock01 off v act lock s
    | 0x02 => writeBlock02 off v act s
    | 0x03 => writeBlock03 off v act lock s
    | 0x04 => writeBlock04 off v act s
    | 0x05 => writePort (off / 0x1000) (off % 0x1000) v lock s
    | 0x06 => writeChan (off / 0x1000) (off % 0x1000) v s
    | 0x07 => if lock then writeBlock07 off v s else s
    | 0x08 => writeBlock08 off v s
    | 0x09 => if off = 0x10 then { s with jnl.readAddr := BitVec.ofNat 17 (v / 64) } else s
    | 0x0A => match indexIn off 0x300 4 8 with
      | some k => { s with att.nonce := BitVec.ofNat 256 (s.att.nonce.toNat - (s.att.nonce.toNat / 2 ^ (32 * k) % 2 ^ 32) * 2 ^ (32 * k)
          + v * 2 ^ (32 * k)) }
      | none => s
    | 0x0B => if off = 0 ∧ act ∧ v.testBit 9 then { s with bist.refused := false } else s
    | 0x0C => writeBlock0C off v act lock s
    | 0x0D => writeBlock0D off v act lock s
    | _ => s

end Sys2Proof.Machine
end

