-- ==== Sys2Proof/Machine/Actions.lean ====
section
/-! DEFINITION. Register writes that trigger an action (R10, type WO, and PORT_LINK_CTRL.DOWN and PORT_LOOP): one command each, committed in the view of the transfer in progress. -/

namespace Sys2Proof.Machine

/-! ## REP_CMD (R335, R357, R360, R362) -/

/-- The layer that held rank r of q at manufacture (R220). -/
def State.builtLayer (s : State) (q r : Nat) : Option Nat :=
  (s.otp.ident.bind (fun i => i.rankMap[16 * q + r]?)).map (·.val)

/-- A service slice of q was built on layer k. -/
def State.builtOn (s : State) (q k : Nat) : Bool := (List.range s.serviceLayers).any (fun r => decide (s.builtLayer q r = some k))

/-- Slice (q, k) holds a rank that is not lost. -/
def State.liveOn (s : State) (q k : Nat) : Bool :=
  match s.rankOn q k with | some r => decide ((s.rank q r).state ≠ 3) | none => false

/-- Slice (q, k) is being migrated away as a whole. -/
def State.leaving (s : State) (q k : Nat) : Bool := (s.units q).any (fun u => u.bank.isNone && decide (u.src = k))

/-- Pseudo-channels in which a retirement of slice (q, k) loses the contents (R360). -/
def State.losesSlice (s : State) (bad : List Nat) (k q : Nat) : Bool :=
  s.liveOn q k && (match s.rankOn q k with | some r => (s.linerFor q r none bad).isNone | none => false)

/-- The pseudo-channels in `qs` lose their slice on layer k: no rank of the minimum service set is left (R42). -/
def State.belowMinimum (s : State) (qs : List Nat) (bad : List Nat) (k : Nat) : Bool :=
  !(List.range 32).any (fun q => !(s.pc q).excluded && !s.noController (q / 2) &&
    (List.range s.serviceLayers).any (fun r => decide ((s.rank q r).state ≠ 3) &&
      !(qs.contains q && decide (s.rankOn q k = some r) && s.losesSlice bad k q)))

/-- RESULT of a bank map-out command (log 30). -/
def State.mapOutResult (s : State) (q k b : Nat) : Nat :=
  if !s.fitted k ∨ (!s.builtOn q k ∧ !s.liveOn q k) then 3
  else match s.rankOn q k with
    | none => 2
    | some r =>
      if !s.liveOn q k ∨ s.leaving q k ∨ s.bankEnt q r b ≠ .own ∨ s.rep.todo.contains (.bank q k b true)
          ∨ (s.units q).any (fun u => decide (u.bank = some b) && decide (u.src = k)) then 2
      else if (s.linerFor q r (some b) []).isNone ∧ !s.rep.confirm then 6
      else 1

/-- RESULT of a rank retirement command. -/
def State.retireRankResult (s : State) (n k : Nat) : Nat :=
  let qs := [2 * n, 2 * n + 1]
  if !s.fitted k ∨ qs.all (fun q => !s.builtOn q k && !s.liveOn q k) then 3
  else if qs.all (fun q => !s.liveOn q k || s.leaving q k) ∨ s.rep.todo.contains (.rank n k true) then 2
  else if s.belowMinimum qs [] k then 4
  else if qs.any (s.losesSlice [] k) ∧ !s.rep.confirm then 6
  else 1

/-- RESULT of a layer retirement command. -/
def State.retireLayerResult (s : State) (k : Nat) : Nat :=
  let qs := List.range 32
  if !s.fitted k ∨ qs.all (fun q => !s.builtOn q k && !s.liveOn q k) then 3
  else if (s.layer k).retired ∨ (s.layer k).dead ∨ s.rep.todo.contains (.layer k true) then 2
  else if s.refuse then (if s.rep.confirm then 1 else 7)
  else if s.belowMinimum qs [k] k then 4
  else if qs.any (s.losesSlice [k] k) ∧ !s.rep.confirm then 6
  else 1

/-- REP_CMD with its RESULT (R362): a port view gets 0x5; CONFIRM is cleared whatever the RESULT. -/
def repCmd (v : View) (result : State → Nat) (r : RepairReq) (s : State) : State :=
  let c := match v with | .whole => result s | .port _ => 5
  let s := { s with rep.result := BitVec.ofNat 3 c, rep.confirm := false }
  if c = 1 then askRepair r s else s

/-! ## REP_XLATE (R227, R228) -/

/-- Outputs cleared, DONE set with a RESULT. -/
def xlateDone (c : Nat) (s : State) : State :=
  { s with rep := { s.rep with xPhys := 0, xDevLo := 0, xDevHi := 0, xDone := true, xResult := BitVec.ofNat 3 c } }

/-- The layer that a segment lies on now: where it is lost, the layer of its slice in REP_RANK_MAP. -/
def State.layerShown (s : State) (g : Seg) : Nat := (s.layerAt g.q g.rank g.bank g.row).getD (s.rank g.q g.rank).layer

/-- A translation with RESULT 0x0: a segment, its device address, the window used. -/
def xlateOut (g : Seg) (dev win : Nat) (s : State) : State :=
  let k := s.layerShown g
  let e := s.bankEnt g.q g.rank g.bank
  let mapped := match e with | .mapped _ => true | _ => false
  { xlateDone 0 s with
    rep := { (xlateDone 0 s).rep with
      xPhys := packW [(g.q / 2, 4), (g.q % 2, 1), (g.bank, 4), (g.row, 14), (g.block, 4), (k, 5)]
      xDevLo := BitVec.ofNat 32 dev
      xDevHi := BitVec.ofNat 19 (pack [(dev / 2 ^ 32, 5), (g.rank, 4), (win, 4), (b2n mapped, 1),
        (b2n (s.spareAt g.q k g.bank g.row).isSome, 1), ((s.rank g.q g.rank).state, 3), (b2n (decide (e = .retired)), 1)]) } }

/-- Device address to physical segment. -/
def xlateDevice (dev win : Nat) (s : State) : State :=
  if 2 ^ s.devBits ≤ dev then xlateDone 2 s else xlateOut (segOf s.rep.key (dev / 64)) dev win s

/-- REP_XLATE_CMD.GO (R227, R228). -/
def doXlate (v : View) (s : State) : State :=
  let hi := s.rep.xInHi.toNat
  let addr := s.rep.xInLo.toNat + 2 ^ 32 * (hi % 256)
  match v with
  | .port _ => xlateDone 5 s
  | .whole =>
    match bitsOf hi 13 12 with
    | 0 => xlateDevice addr 0 s
    | 1 =>
      let p := bitsOf hi 11 8
      if !s.portPresent p ∨ !(s.port p).cfg.enable then xlateDone 3 s
      else match (s.port p).windowOf (addr / 2 ^ 26) with
        | none => xlateDone 1 s
        | some w => xlateDevice (64 * (s.port p).devBlock w (addr / 64) + addr % 64) w s
    | 2 =>
      let x := s.rep.xInLo.toNat
      let q := x % 32 % 16 * 2 + bitsOf x 4 4
      let b := bitsOf x 8 5
      let row := bitsOf x 22 9
      let k := bitsOf x 31 27
      if !s.fitted k then xlateDone 6 s
      else match (List.range s.serviceLayers).find? (fun r =>
          decide (s.layerShown { rank := r, q := q, bank := b, row := row, block := 0 } = k)) with
        | none => xlateDone 4 s
        | some r =>
          let g : Seg := { rank := r, q := q, bank := b, row := row, block := bitsOf x 26 23 }
          xlateOut g (64 * devOf s.rep.key g) 0 s
    | _ => xlateDone 7 s

/-! ## The fault collector (R418, R425) -/

/-- FLT_SRC_CTRL.FORCE (R425): registered as a detected event, without the per-event actions. -/
def doForce (n : Nat) (s : State) : State :=
  let r := registerEvent n {} true s
  if r.2 then gloveReaction n r.1 else r.1

/-- FLT_SRC_CTRL.CLEAR (R418). -/
def doClear (n : Nat) (s : State) : State :=
  if s.srcClass n = 4 ∨ (fixedClass n).isSome ∨ s.srcAbsent n then s
  else s.updSrc n (fun x => { x with cls := x.initCls, windowOpen := false, count := 0 })

/-! ## Reports, journal (R458, R474) -/

/-- A long operation begins (R474). -/
def beginOp (op : Nat) (s : State) : State := { s with mb.busy := some (op, s.now) }

/-- A long operation that ends where it begins. -/
def instantOp (op : Nat) (s : State) : State := { s with mb.busy := none, mb.longOp := BitVec.ofNat 3 op, mb.longOutcome := 1, mb.longDuration := 0 }

/-- ATT_CMD.GO (R453, R454, R458): a refusing RESULT, or the report is asked for. -/
def doReport (v : View) (s : State) : State :=
  let say : Nat → State := fun c => instantOp 2 { s with att.result := BitVec.ofNat 3 c, att.report := [] }
  match v with
  | .port _ => say 6
  | .whole =>
    if !s.attRuns then say 7
    else if s.att.exhausted then say 5
    else if !s.att.ready then say 2
    else if s.att.allowance = 0 then say 3
    else beginOp 2 (askReport { port := none, tag := 0, nonce := s.att.nonce, at_ := s.now } { s with att.result := 0, att.report := [] })

/-! ## The commands as writes -/

/-- The register that the write of a command goes to. -/
def actionAddr : Instr → Nat
  | .moveToRetain | .returnToService | .descendNow => 0x010008
  | .retrain p | .down p _ => 0x050004 + 0x1000 * p.val
  | .nearEndSerialLoop p _ _ _ | .nearEndParallelLoop p _ _ | .farEndLoop p _ _ => 0x050020 + 0x1000 * p.val
  | .fenceLift p | .portFence p => 0x050074 + 0x1000 * p.val
  | .fltForce n | .fltClear n => 0x03000C + 16 * n.val
  | .pmcClear i => 0x040000 + 0x400 * i.val
  | .recalibrationGo n _ _ => 0x060010 + 0x1000 * n.val
  | .predictorReset n => 0x060014 + 0x1000 * n.val
  | .xlate => 0x0D0F0C
  | .repCmdMapOut _ _ _ _ | .repCmdRetireRank _ _ | .repCmdRetireLayer _ => 0x0D0004
  | .otpBurn _ => 0x08010C
  | .applyOverride | .clearOverrides => 0x08012C
  | .journalFlush => 0x09000C
  | .journalRead => 0x090014
  | .attReportRequest => 0x0A0320
  | .bistShutdownGo | .bistPartitionGo _ => 0x0B0004
  | _ => 0xFFFFFC

/-- The effect of the write of a command in a view. -/
def actionEffect (c : Instr) (v : View) (s : State) : State :=
  match c with
  | .moveToRetain => doMoveToRetain s
  | .returnToService => if s.mode = .service ∨ s.mode = .retain then doReturnToService s else s
  | .descendNow => doDescendNow s
  | .retrain p => if s.portPresent p.val then doRetrain p.val s else s
  | .down p l => if s.portPresent p.val then doDown p.val l s else s
  | .nearEndSerialLoop p b l e => if s.portPresent p.val then doLoop p.val 1 b l e s else s
  | .nearEndParallelLoop p b run => if s.portPresent p.val then doLoop p.val 2 b run.lanes run.errors s else s
  | .farEndLoop p b l => if s.portPresent p.val then doLoop p.val 3 b l [] s else s
  | .fenceLift p => if s.portPresent p.val then liftFence p.val s else s
  | .portFence p => if s.portPresent p.val then fencePort p.val s else s
  | .fltForce n => doForce n.val s
  | .fltClear n => doClear n.val s
  | .pmcClear i => clearSet i.val s
  | .recalibrationGo n pc k => doRecal (2 * n.val + b2n pc) k.toNat s
  | .predictorReset n => doPredReset n.val s
  | .xlate => doXlate v s
  | .repCmdMapOut n pc k b =>
    let q := 2 * n.val + b2n pc
    repCmd v (fun s => s.mapOutResult q k.toNat b.val) (.bank q k.toNat b.val true) s
  | .repCmdRetireRank n k => repCmd v (fun s => s.retireRankResult n.val k.toNat) (.rank n.val k.toNat true) s
  | .repCmdRetireLayer k => repCmd v (fun s => s.retireLayerResult k.toNat) (.layer k.toNat true) s
  | .otpBurn t => beginOp 1 (doBurn t s)
  | .applyOverride => doOverride s
  | .clearOverrides => doClearOverrides s
  | .journalFlush => beginOp 3 s
  | .journalRead => beginOp 4 { s with jnl.underWay := s.journalHead }
  | .attReportRequest => doReport v s
  | .bistShutdownGo => doBist 0 s
  | .bistPartitionGo m => doBist m s
  | _ => s

/-- The long operation that a command starts (R474); 0 none. -/
def longOpOf : Instr → Nat
  | .otpBurn _ => 1 | .attReportRequest => 2 | .journalFlush => 3 | .journalRead => 4
  | .bistShutdownGo | .bistPartitionGo _ => 5
  | _ => 0

/-- The action needs the supervisor (R25). -/
def needsSup : Instr → Bool
  | .moveToRetain | .returnToService | .descendNow | .otpBurn _ | .applyOverride | .clearOverrides | .journalFlush | .journalRead
  | .attReportRequest | .bistShutdownGo | .bistPartitionGo _ | .repCmdMapOut _ _ _ _ | .repCmdRetireRank _ _ | .repCmdRetireLayer _ => true
  | _ => false

/-- A port view's write is answered by a RESULT and not ignored (R465). -/
def answersPort : Instr → Bool
  | .attReportRequest | .xlate | .repCmdMapOut _ _ _ _ | .repCmdRetireRank _ _ | .repCmdRetireLayer _ => true
  | _ => false

/-- The target takes part in transfers (R464, R475, R480, R484): from BOOT step 2, no long operation, not reset, not at P4 or P5. -/
def State.listens (s : State) : Bool :=
  s.pwrgood && (decide (s.mode ≠ .boot) || decide (2 ≤ s.boot.step)) && s.mb.busy.isNone && !s.mb.deaf
    && !(decide (s.mode = .retain) && decide (4 ≤ s.pwr.rung))

/-- The view of the transfer in progress; the whole stack where none is modelled. -/
def State.currentView (s : State) : View := match s.mb.transfer with | some t => t.view | none => .whole

/-- A transfer that is still followed. -/
def State.following (s : State) : Bool := !s.mb.transfer.any (·.ignore)

/-- The pointer of the transfer's address set (R467). -/
def setPointer (a : Nat) (s : State) : State :=
  match s.mb.transfer with
  | some t => { s with mb.pointers := tabSet 0 s.mb.pointers t.addr.toNat (a % 2 ^ 24) }
  | none => s

/-- After a long operation has started, the rest of the transfer is not followed (R475). -/
def closeTransfer (s : State) : State :=
  if s.mb.busy.isSome then { s with mb.transfer := s.mb.transfer.map (fun t => { t with ignore := true }) } else s

/-- The field written is of type RW and not WO: DOWN and PORT_LOOP, writable from the end of BOOT step 5 (R103). -/
def storesField : Instr → Bool
  | .down _ _ | .nearEndSerialLoop _ _ _ _ | .nearEndParallelLoop _ _ _ | .farEndLoop _ _ _ => true
  | _ => false

/-- The mode accepts the write of a command (R37, R103, R377). -/
def State.accepts (s : State) (c : Instr) : Bool :=
  if storesField c then s.modeWrites (actionAddr c) else s.actsNow (actionAddr c)

/-- A write with an action, committed in a view (R25): in a mode and a view that accept it, at once or after a supervisor restart. -/
def carryOut (c : Instr) (v : View) (s : State) : State :=
  if s.accepts c && (viewWrites v (actionAddr c) || answersPort c) then
    if needsSup c && s.sup.restarting then
      let s := if longOpOf c = 0 then s else beginOp (longOpOf c) s
      closeTransfer { s with sup.queue := s.sup.queue ++ [.command c v] }
    else closeTransfer (actionEffect c v s)
  else s

/-- The write of a command commits (R25, R470), in the view of the transfer in progress. -/
def commit (c : Instr) (s : State) : State :=
  if s.listens && s.following then carryOut c s.currentView (setPointer (actionAddr c + 4) { s with mb.crc := none }) else s

/-! ## A word written to a register of an action (R10, R470) -/

/-- What a word written asks for at a register that has commands of its own: WO fields, DOWN and PORT_LOOP.MODE (R10, R178, R213, R227,
R292, R362, R390, R410, R418, R425, R443, R458, R486). How a burn goes and what a loop counts are free values (log 68). -/
def writtenActions (a v n : Nat) : List Instr :=
  let on : Bool → Instr → List Instr := fun b c => if b then [c] else []
  let chan := Fin.ofNat 16 (bitsOf v 5 2)
  match a with
  | 0x010008 => on (v % 4 == 1) .moveToRetain ++ on (v % 4 == 2) .returnToService ++ on (v % 4 == 3) .descendNow
  | 0x08010C => on (v.testBit 0) (.otpBurn { vppMilliVolt := Config.burnVpp n, pulses := Config.burnPulses n })
  | 0x08012C => on (v % 4 == 1) .applyOverride ++ on (v % 4 == 2) .clearOverrides
  | 0x09000C => on (v.testBit 0) .journalFlush
  | 0x090014 => on (v.testBit 0) .journalRead
  | 0x0A0320 => on (v.testBit 0) .attReportRequest
  | 0x0B0004 => on (v.testBit 0) (if bitsOf v 20 1 = 0 then .bistShutdownGo else .bistPartitionGo (BitVec.ofNat 20 (v / 2)))
  | 0x0D0004 => on (v % 4 == 1) (.repCmdMapOut chan (v.testBit 6) (BitVec.ofNat 5 (v / 128)) (Fin.ofNat 16 (bitsOf v 15 12)))
      ++ on (v % 4 == 2) (.repCmdRetireRank chan (BitVec.ofNat 5 (v / 128)))
      ++ on (v % 4 == 3) (.repCmdRetireLayer (BitVec.ofNat 5 (v / 128)))
  | 0x0D0F0C => on (v.testBit 0) .xlate
  | _ =>
    let p := Fin.ofNat 16 (a / 0x1000)
    let lanes := BitVec.ofNat 4 (v / 16)
    if a / 0x10000 = 5 then
      match a % 0x1000 with
      | 0x004 => on (v.testBit 0) (.retrain p) ++ [.down p (v.testBit 1)]
      | 0x020 =>
        let errors := (List.range 4).map (fun l => Config.loopErrors p.val l n)
        on (v % 4 == 1) (.nearEndSerialLoop p (v.testBit 2) lanes errors) ++ on (v % 4 == 2) (.nearEndParallelLoop p (v.testBit 2) ⟨lanes, errors⟩)
          ++ on (v % 4 == 3) (.farEndLoop p (v.testBit 2) lanes)
      | 0x074 => on (v.testBit 1) (.fenceLift p) ++ on (v.testBit 2) (.portFence p)
      | _ => []
    else if a / 0x10000 = 6 then
      match a % 0x1000 with
      | 0x010 => on (v.testBit 0) (.recalibrationGo p (v.testBit 1) (BitVec.ofNat 5 (v / 4)))
      | 0x014 => on (v.testBit 1) (.predictorReset p)
      | _ => []
    else match indexIn a 0x03000C 16 256, indexIn a 0x040000 0x400 32 with
      | some k, _ => on (v.testBit 1) (.fltClear (Fin.ofNat 256 k)) ++ on (v.testBit 0) (.fltForce (Fin.ofNat 256 k))
      | _, some i => on (v.testBit 3) (.pmcClear (Fin.ofNat 32 i))
      | _, _ => []

/-- A command whose course rests on a free value when a written word asks for it. -/
def drawsAction : Instr → Bool
  | .otpBurn _ | .nearEndSerialLoop _ _ _ _ | .nearEndParallelLoop _ _ _ => true
  | _ => false

/-- What a word written to the register at an address asks for, carried out in a view. -/
def writeActions (v : View) (a : Nat) (d : Word) (s : State) : State :=
  let l := writtenActions a d.toNat s.choice
  forL l (carryOut · v ·) (if l.any drawsAction then { s with choice := s.choice + 1 } else s)

/-- MOVE_TO_RETAIN (R390). -/
def execMoveToRetain (s : State) : Host.Outcome State Fault Refusal := .next (commit .moveToRetain s)
/-- RETURN_TO_SERVICE (R390, R395). -/
def execReturnToService (s : State) : Host.Outcome State Fault Refusal := .next (commit .returnToService s)
/-- DESCEND_NOW (R390). -/
def execDescendNow (s : State) : Host.Outcome State Fault Refusal := .next (commit .descendNow s)
/-- RETRAIN (R178). -/
def execRetrain (p : PortId) (s : State) : Host.Outcome State Fault Refusal := .next (commit (.retrain p) s)
/-- DOWN (R178). -/
def execDown (p : PortId) (level : Bool) (s : State) : Host.Outcome State Fault Refusal := .next (commit (.down p level) s)
/-- NEAR_END_SERIAL_LOOP (R177): the checker's bit errors of the test count in PORT_PRBS_ERR. -/
def execNearEndSerialLoop (p : PortId) (prbs31 : Bool) (lanes : BitVec 4) (errors : List Nat) (s : State) : Host.Outcome State Fault Refusal :=
  .next (commit (.nearEndSerialLoop p prbs31 lanes errors) s)
/-- NEAR_END_PARALLEL_LOOP (R177): the checker's bit errors of the test count in PORT_PRBS_ERR. -/
def execNearEndParallelLoop (p : PortId) (prbs31 : Bool) (run : LoopRun) (s : State) : Host.Outcome State Fault Refusal :=
  .next (commit (.nearEndParallelLoop p prbs31 run) s)
/-- FAR_END_LOOP (R177). -/
def execFarEndLoop (p : PortId) (prbs31 : Bool) (lanes : BitVec 4) (s : State) : Host.Outcome State Fault Refusal :=
  .next (commit (.farEndLoop p prbs31 lanes) s)
/-- FENCE_LIFT (R213). -/
def execFenceLift (p : PortId) (s : State) : Host.Outcome State Fault Refusal := .next (commit (.fenceLift p) s)
/-- PORT_FENCE (R213). -/
def execPortFence (p : PortId) (s : State) : Host.Outcome State Fault Refusal := .next (commit (.portFence p) s)
/-- FLT_FORCE (R425). -/
def execFltForce (src : SrcId) (s : State) : Host.Outcome State Fault Refusal := .next (commit (.fltForce src) s)
/-- FLT_CLEAR (R418). -/
def execFltClear (src : SrcId) (s : State) : Host.Outcome State Fault Refusal := .next (commit (.fltClear src) s)
/-- PMC_CLEAR (R443). -/
def execPmcClear (set : Fin 32) (s : State) : Host.Outcome State Fault Refusal := .next (commit (.pmcClear set) s)
/-- RECALIBRATION_GO (R287, R292). -/
def execRecalibrationGo (n : ChanId) (pc : Bool) (layer : BitVec 5) (s : State) : Host.Outcome State Fault Refusal :=
  .next (commit (.recalibrationGo n pc layer) s)
/-- PREDICTOR_RESET (R292). -/
def execPredictorReset (n : ChanId) (s : State) : Host.Outcome State Fault Refusal := .next (commit (.predictorReset n) s)
/-- XLATE (R227, R228). -/
def execXlate (s : State) : Host.Outcome State Fault Refusal := .next (commit .xlate s)
/-- REP_CMD_MAP_OUT (R335, R362). -/
def execRepCmdMapOut (channel : ChanId) (pc : Bool) (layer : BitVec 5) (bank : BankId) (s : State) : Host.Outcome State Fault Refusal :=
  .next (commit (.repCmdMapOut channel pc layer bank) s)
/-- REP_CMD_RETIRE_RANK (R335, R362). -/
def execRepCmdRetireRank (channel : ChanId) (layer : BitVec 5) (s : State) : Host.Outcome State Fault Refusal :=
  .next (commit (.repCmdRetireRank channel layer) s)
/-- REP_CMD_RETIRE_LAYER (R335, R357, R362). -/
def execRepCmdRetireLayer (layer : BitVec 5) (s : State) : Host.Outcome State Fault Refusal := .next (commit (.repCmdRetireLayer layer) s)
/-- OTP_BURN (R143, R144). -/
def execOtpBurn (t : BurnTry) (s : State) : Host.Outcome State Fault Refusal := .next (commit (.otpBurn t) s)
/-- APPLY_OVERRIDE (R142). -/
def execApplyOverride (s : State) : Host.Outcome State Fault Refusal := .next (commit .applyOverride s)
/-- CLEAR_OVERRIDES (R142). -/
def execClearOverrides (s : State) : Host.Outcome State Fault Refusal := .next (commit .clearOverrides s)
/-- JOURNAL_FLUSH (R474): the queue is written by the records' own commands. -/
def execJournalFlush (s : State) : Host.Outcome State Fault Refusal := .next (commit .journalFlush s)
/-- JOURNAL_READ (R160, R474): the bytes are taken where the operation ends. -/
def execJournalRead (s : State) : Host.Outcome State Fault Refusal := .next (commit .journalRead s)
/-- ATT_REPORT_REQUEST (R458). -/
def execAttReportRequest (s : State) : Host.Outcome State Fault Refusal := .next (commit .attReportRequest s)
/-- BIST_SHUTDOWN_GO (R486). -/
def execBistShutdownGo (s : State) : Host.Outcome State Fault Refusal := .next (commit .bistShutdownGo s)
/-- BIST_PARTITION_GO (R486). -/
def execBistPartitionGo (mask : BitVec 20) (s : State) : Host.Outcome State Fault Refusal := .next (commit (.bistPartitionGo mask) s)

end Sys2Proof.Machine
end

