-- ==== Sys2Proof/Machine/Mgmt.lean ====
section
/-! DEFINITION. The two-wire target (chapter 19): addresses, pointers, register transfers, long operations, attention requests, hang-ups; and the end of a supervisor restart, which carries out what the restart held back. -/

namespace Sys2Proof.Machine

/-! ## Addresses (R464, R471, R473, R475) -/

/-- The target answers: from BOOT step 2 until PWRGOOD falls (R484). -/
def State.targetUp (s : State) : Bool := s.pwrgood && (decide (s.mode ≠ .boot) || decide (2 ≤ s.boot.step))

/-- The mask set is answered: MASK_MODE on a part that has it, from the end of BOOT step 5 (R103, R464). -/
def State.maskUp (s : State) : Bool := s.mb.maskMode && s.capMask && s.boot.step5

/-- A view byte as a view (R464). -/
def viewOf (v : Nat) : Option View :=
  if v = 0xFF then some .whole else if h : v < 16 then some (.port ⟨v, h⟩) else none

/-- The view that an address has; none where the target does not answer it. -/
def State.viewAt (s : State) (a : Nat) : Option View :=
  if a = 0x58 + s.pins.maddr.toNat then some .whole
  else if s.maskUp then
    let set := maskSet s.mb.maskBase.toNat s.mb.maskBits.toNat
    if set.contains a then viewOf (s.viewByte (set.findIdx (· = a))) else none
  else none

/-- CRC-8 with polynomial x^8 + x^2 + x + 1 carried on over one byte (R462, R469). -/
def crc8 (c b : Byte) : Byte := (List.range 8).foldl (fun c _ => if c.msb then (c <<< 1) ^^^ 7 else c <<< 1) (c ^^^ b)

/-- The CRC of the transfer carried on over bytes. -/
def passBytes (l : List Byte) (s : State) : State := { s with mb.crc := s.mb.crc.map (fun c => l.foldl crc8 c) }

/-- An address byte of the stack: a START at P4 or P5 starts the wake (R397), else the transfer begins with its view. -/
def addressByte (addr : BitVec 7) (read : Bool) (s : State) : State :=
  if !s.targetUp then s
  else
    let s := { s with mb.deaf := false, mb.transfer := none, mb.attnNow := s.mb.attention }
    let idle := { s with mb.crc := some 0 }
    if s.mb.busy.isSome then idle
    else match s.viewAt addr.toNat with
      | none => idle
      | some v =>
        if s.mode = .retain ∧ 4 ≤ s.pwr.rung then twoWireWake idle
        else
          let s := passBytes [BitVec.ofNat 8 (2 * addr.toNat + b2n read)] s
          { s with mb.transfer := some { addr := addr, view := v, read := read, pec := s.mb.pec } }

/-- MB_ADDRESS_BYTE (R464, R473). -/
def execMbAddressByte (addr : BitVec 7) (read : Bool) (s : State) : Host.Outcome State Fault Refusal := .next (addressByte addr read s)

/-! ## Registers (R467 to R470) -/

/-- The transfer in progress, while it is followed. -/
def State.liveTransfer (s : State) : Option Transfer := if s.listens then s.mb.transfer.filter (fun t => !t.ignore) else none

/-- The rest of the transfer is ignored. -/
def ignoreRest (s : State) : State := { s with mb.transfer := s.mb.transfer.map (fun t => { t with ignore := true }) }

/-- The pointer of an address. -/
def State.pointer (s : State) (addr : BitVec 7) : Nat := tabGet 0 s.mb.pointers addr.toNat

/-- The third register-address byte (R467, R468). -/
def registerAddress (a : Nat) (s : State) : State :=
  match s.liveTransfer with
  | some t => if t.read then s
    else if a % 4 = 0 then setPointer a (passBytes (leBytes 3 a).reverse s) else ignoreRest s
  | none => s

/-- MB_REGISTER_ADDRESS (R467, R468). -/
def execMbRegisterAddress (a : BitVec 24) (s : State) : Host.Outcome State Fault Refusal := .next (registerAddress a.toNat s)

/-- The PEC byte that belongs behind a register with this word (R469); none where the CRC is not known. -/
def State.pecAfter (s : State) (d : Word) : Option Byte := s.mb.crc.map (fun c => (leBytes 4 d.toNat).foldl crc8 c)

/-- A mismatch of a write's PEC (R469). -/
def pecMismatch (s : State) : State :=
  fault 244 {} (ignoreRest { s with mb.status := s.mb.status ||| 8, mb.pecErrors := satInc s.mb.pecErrors })

/-- The last byte of a written register, or its PEC byte, is acknowledged or refused (R469, R470): its fields take the word, and what
its WO fields ask for is carried out (R10). -/
def registerWrite (data : Word) (pec : Byte) (s : State) : State :=
  match s.liveTransfer with
  | some t =>
    if t.read then s
    else if t.pec ∧ (s.pecAfter data).any (· ≠ pec) then pecMismatch s
    else
      let a := s.pointer t.addr
      let s := passBytes (leBytes 4 data.toNat ++ if t.pec then [pec] else []) s
      writeActions t.view a data (setPointer (a + 4) (s.writeReg t.view a data))
  | none => s

/-- REGISTER_WRITE (R470). -/
def execRegisterWrite (data : Word) (pec : Byte) (s : State) : Host.Outcome State Fault Refusal := .next (registerWrite data pec s)

/-- A register read to its last byte in a view, with its PEC byte while PEC is 1 (R469). -/
def readOut (v : View) (a : Nat) (s : State) : State :=
  let r := s.readAt v a
  let pec := if s.mb.transfer.any (·.pec) then s.pecAfter r.2 else none
  passBytes (leBytes 4 r.2.toNat ++ pec.toList) (setPointer (a + 4) { r.1 with mb.rdata := r.2, mb.rpec := pec })

/-- READ_CLEAR (R470): the register at the pointer. -/
def execReadClear (s : State) : Host.Outcome State Fault Refusal :=
  .next (match s.liveTransfer with
    | some t => if t.read then readOut t.view (s.pointer t.addr) s else s
    | none => s)

/-- PMC_CYCLE_LO_READ (R441): in the view of the transfer in progress. -/
def execPmcCycleLoRead (set : Fin 32) (s : State) : Host.Outcome State Fault Refusal :=
  .next (if s.listens && s.following then readOut s.currentView (0x040040 + 0x400 * set.val) s else s)

/-! ## The end of a transfer (R399, R471, R482) -/

/-- A START, repeated START or STOP ends the transfer: ABORTED inside a byte, BUS_CLEAR while the target sends; at P3 after a
two-wire wake DWELL_P3 restarts from a STOP. A repeated START carries the CRC on (R469), a STOP does not. -/
def transferEnd (insideByte sending start : Bool) (s : State) : State :=
  match s.mb.transfer with
  | none => if start then s else { s with mb.crc := some 0 }
  | some _ =>
    let s := { s with mb.transfer := none, mb.crc := if start then s.mb.crc else some 0 }
    let s := if insideByte then { s with mb.status := s.mb.status ||| 16, mb.aborts := satInc s.mb.aborts } else s
    let s := if sending then fault 244 {} { s with mb.status := s.mb.status ||| 4 } else s
    if !start ∧ s.mode = .retain ∧ s.pwr.rung = 3 ∧ s.pwr.wakeLast = 2 then { s with pwr.dwellFrom := s.now } else s

/-- MB_TRANSFER_END (R471, R482). -/
def execMbTransferEnd (insideByte sending : Bool) (start : Bool) (s : State) : Host.Outcome State Fault Refusal :=
  .next (transferEnd insideByte sending start s)

/-! ## Long operations (R474 to R476) -/

/-- A command waits for the end of a supervisor restart. -/
def State.queuedCommand (s : State) : Bool :=
  s.sup.queue.any (fun a => match a with | .command c _ => longOpOf c != 0 | .repair _ => false)

/-- The long operation with this code has come to its end. -/
def State.opDone (s : State) (op : Nat) : Bool :=
  !s.queuedCommand && (match op with
    | 1 => true
    | 2 => s.att.queue.all (fun e => e.port.isSome)
    | 3 => s.jnl.queue.isEmpty
    | 4 => !s.sup.restarting
    | 5 => !s.bist.running && (s.jnl.queue.all (fun j => decide (j.kind ≠ 3)) || decide (s.bist.phase = 6))
    | _ => decide (s.mode ≠ .retain) || (decide (s.pwr.rung ≤ 3) && s.pwr.wake.isNone))

/-- MB_LONG takes the operation, how it ended and its length in µs, and the bus is answered again. -/
def recordOp (op start outcome : Nat) (s : State) : State :=
  { s with mb := { s.mb with busy := none, longOp := BitVec.ofNat 3 op, longOutcome := BitVec.ofNat 2 outcome,
                             longDuration := satOf 27 ((s.now - start) / 1000) } }

/-- LONG_OP_END (R474, R475). -/
def execLongOpEnd (s : State) : Host.Outcome State Fault Refusal :=
  .next (match s.mb.busy with
    | some (op, start) => if s.opDone op then recordOp op start 1 (if op = 4 then readJournal s else s) else s
    | none => s)

/-- A journal flush or read that waits for the end of a restart and was released at its bound is not carried out later. -/
def dropOp (op : Nat) (s : State) : State :=
  { s with sup.queue := s.sup.queue.filter (fun a => match a with | .command c _ => longOpOf c != op | .repair _ => true) }

/-- LONG_OP_BOUND (R476): a journal flush or a journal read releases the bus at 40 ms. -/
def execLongOpBound (s : State) : Host.Outcome State Fault Refusal :=
  .next (match s.mb.busy with
    | some (op, start) => if op = 3 ∨ op = 4 then recordOp op start 2 (dropOp op (s.atLeast (start + 40000000))) else s
    | none => s)

/-! ## Attention requests (R477 to R479) -/

/-- The target may pull SDA for a request: one is pending, no transfer and no long operation is in progress, and the time to
the next request has passed. -/
def State.mayAttend (s : State) : Bool :=
  s.targetUp && s.mb.attnNow && s.mb.attnPending && s.mb.busy.isNone && s.mb.transfer.isNone && !s.mb.attnPull
    && decide (s.mb.attnAfter ≤ s.now)

/-- ATTENTION_REQUEST (R477, R478): SDA that is low already is a START. -/
def execAttentionRequest (sdaHigh : Bool) (s : State) : Host.Outcome State Fault Refusal :=
  .next (if s.mayAttend ∧ sdaHigh then { s with mb.attnPull := true, mb.attnAt := s.now } else s)

/-- ATTENTION_SCL_FALL (R477, R478): SCL that falls before 10 µs is a controller's START; else the request is served where it
wins and is accepted, sent again at the next idle where it lost, and 1 ms later where it is not accepted. -/
def execAttentionSclFall (afterTenMicros won accepted : Bool) (s : State) : Host.Outcome State Fault Refusal :=
  if !s.mb.attnPull then .next s
  else
    let s := { s with mb.attnPull := false }
    .next (if !afterTenMicros ∨ !won then s
      else if accepted then { s with mb.attnPending := false, mb.attnServed := satInc s.mb.attnServed }
      else { s with mb.attnAfter := s.now + 1000000 })

/-- ATTENTION_UNSERVED (R479). -/
def execAttentionUnserved (s : State) : Host.Outcome State Fault Refusal :=
  if s.mb.attnPull then
    let s := s.atLeast (s.mb.attnAt + 100000)
    .next { s with mb := { s.mb with attnPull := false, status := s.mb.status ||| 32, attnAfter := s.now + 10000000 } }
  else .next s

/-! ## Hang-ups (R480, R481) -/

/-- The target resets and ignores the bus until a START, with a bit of MB_STATUS and one event on source 244. -/
def hangUp (flag : BitVec 6) (s : State) : State :=
  if s.targetUp then
    fault 244 {} { s with mb := { s.mb with status := s.mb.status ||| flag, timeouts := satInc s.mb.timeouts, transfer := none,
                                            attnPull := false, deaf := true, crc := some 0 } }
  else s

/-- SCL_TIMEOUT (R480). -/
def execSclTimeout (s : State) : Host.Outcome State Fault Refusal := .next (hangUp 1 s)

/-- SDA_RELEASE_TIMEOUT (R481). -/
def execSdaReleaseTimeout (s : State) : Host.Outcome State Fault Refusal := .next (hangUp 2 s)

/-! ## The end of a supervisor restart (R22, R24, R25, R100) -/

/-- A long operation that goes on counts from its commit (R474). -/
def keepStart (old : Option (Nat × Nat)) (s : State) : State :=
  match old, s.mb.busy with
  | some (a, t), some (b, _) => if a = b then { s with mb.busy := some (a, t) } else s
  | _, _ => s

/-- One action that a restart held back. -/
def runHeld (a : SupAction) (s : State) : State :=
  match a with
  | .repair r => { s with rep.todo := s.rep.todo ++ [r] }
  | .command c v => closeTransfer (keepStart s.mb.busy (actionEffect c v s))

/-- The supervisor runs again: in BOOT from step 4, else with what fell due during the restart, in order. -/
def restartDone (s : State) : State :=
  if !s.sup.restarting then s
  else
    let held := s.sup.queue
    let s := { s with sup.restarting := false, sup.queue := [], pwr := s.pwr.release s.now }
    let s := if s.mode = .boot then
      { s with boot := { s.boot with step := if s.boot.resetHeld then 3 else 4, partnerWait := false, thermalWait := false,
                                     rerun := false, initRead := none }, rep.keyPending := false }
      else s
    let s := forL held runHeld s
    forN 32 (fun q s => if s.pc q = {} then s else commitUnit q s) s

/-- SUPERVISOR_RESTART_DONE (R22, R24, R25, R100). -/
def execSupervisorRestartDone (s : State) : Host.Outcome State Fault Refusal := .next (restartDone s)

end Sys2Proof.Machine
end

