-- ==== Sys2Proof/Machine/MgmtReq.lean ====
section
/-! DEFINITION. Management requests of a partner (R209, R210, R456): MREAD pages, MATTEST, their order, and the sending of responses. -/

namespace Sys2Proof.Machine

/-! ## MREAD pages (R209, R442) -/

/-- Words as bytes, least significant first. -/
def wordBytes (l : List Nat) : List Byte := l.flatMap (leBytes 4)

/-- Sixteen bytes of page 0x0051 for one notice: payload bytes 1 to 7, then 0 (R186). -/
def noticeBytes (n : Nat × Nat × Nat × Nat) : List Byte :=
  [BitVec.ofNat 8 n.1, BitVec.ofNat 8 (n.2.1 % 8)] ++ leBytes 4 n.2.2.1 ++ [BitVec.ofNat 8 n.2.2.2] ++ List.replicate 9 0

/-- The 64 bytes of a page of port p; none where the page is not in the table. Nothing is cleared by it. -/
def State.mreadPage (s : State) (p page : Nat) : Option (List Byte) :=
  let words : (Nat → Nat) → List Byte := fun f => wordBytes ((List.range 16).map f)
  if page < 0x40 then some (words (fun i => s.portWord p (64 * page + 4 * i)))
  else if page < 0x50 then
    some (words (fun i => s.setWord p (64 * (page - 0x40) + 4 * i) ((s.cset p).cycle.toNat / 2 ^ 32)))
  else if page = 0x50 then some (words (fun i => s.srcWord (16 + 4 * p + i / 4) (i % 4)))
  else if page = 0x51 then
    let l := (s.port p).lastNotices
    some (List.replicate (64 - 16 * l.length) 0 ++ l.flatMap noticeBytes)
  else none

/-! ## One at a time, in order of arrival (R209, R456) -/

/-- A message of a management response that waits to be sent. -/
def OutItem.isMgmt (o : OutItem) : Bool :=
  match o.slot with | .ctrl (.mgmtResp _ _ _ _ _) => true | _ => false

/-- The attestation unit holds a request of the port (R210). -/
def State.signing (s : State) (p : Nat) : Bool := s.att.queue.any (fun e => decide (e.port = some p))

/-- One management request served: an MREAD is answered, a MATTEST goes to the attestation unit. -/
def serveOne (p : Nat) (r : Req) (s : State) : State :=
  if r.op = .mattest then askReport { port := some p, tag := r.tag, nonce := r.nonce, at_ := r.arrival } s
  else match (if r.block < 65536 then s.mreadPage p r.block else none) with
    | some d => answerMgmt p r.tag .ok d s
    | none => answerMgmt p r.tag .unsupported [] s

/-- The oldest waiting management request is served, unless segments of an earlier one are unsent or the port's MATTEST is
with the attestation unit. -/
def serveMgmt (p : Nat) (s : State) : State :=
  let x := s.port p
  if x.outq.any OutItem.isMgmt || s.signing p then s
  else match x.reqs.find? (fun r => decide (r.phase = .mgmt)) with
    | some r => serveOne p r s
    | none => s

/-- LABEL, DEADLINE, LENGTH and FLAGS of a management request are allowed (R184, R209). -/
def mgmtAllowed (op : Op) (h : ReqHeader) : Bool := headerAllowed op h && decide (h.label = 0) && decide (h.deadline = 0)

/-- A MATTEST of the port within ATTEST_PERIOD of its last report (R210, R457). -/
def State.tooSoon (s : State) (p : Nat) : Bool :=
  (s.port p).attLast.any (fun t => decide (s.now < t + (s.port p).cfg.attestPeriod.toNat * 1000000000))

/-- A MGMT_REQ with this header. -/
def RxItem.isMgmtReq (b : BitVec 96) : RxItem → Bool
  | .msg c x => decide (c = 0x12) && decide (mgmtHeader x = b)
  | _ => false

/-- A MGMT_REQ (R191, R209, R210), taken in the order in which they came. -/
def receiveMgmt (p : Nat) (op : Op) (h : ReqHeader) (nonce : BitVec 256) (s : State) : State :=
  let b := BitVec.ofNat 96 (headerBits op.code h + h.hcheck.toNat * 2 ^ 80)
  let rx := (s.port p).tx.rx
  let here := rx.any (RxItem.isMgmtReq b)
  if !(s.port p).inSession ∨ (here ∧ !(rx.find? (RxItem.isMsg 0x12)).any (RxItem.isMgmtReq b)) then s
  else
    let s := if here then takeMsg p 0x12 s else s
    let t := h.tag.toNat
    let att := decide (op = .mattest)
    serveOthers p (openTag p op h { newReq op h s.now with phase := .mgmt, nonce := nonce } (fun s =>
      if (s.port p).fenced ∧ att then answerMgmt p t .fenced [] s
      else if !mgmtAllowed op h then answerMgmt p t .unsupported [] s
      else if s.signing p then answerMgmt p t .busy [] s
      else if att ∧ (s.port p).cfg.attestPeriod = 0 then answerMgmt p t .unsupported [] s
      else if att ∧ (s.tooSoon p || s.sup.restarting) then answerMgmt p t .busy [] s
      else serveMgmt p s) s)

/-- MREAD (R209). -/
def execMread (p : PortId) (h : ReqHeader) (s : State) : Host.Outcome State Fault Refusal := .next (receiveMgmt p.val .mread h 0 s)

/-- MATTEST (R209, R210, R456). -/
def execMattest (p : PortId) (h : ReqHeader) (nonce : BitVec 256) (s : State) : Host.Outcome State Fault Refusal :=
  .next (receiveMgmt p.val .mattest h nonce s)

/-- RESPONSE_SEND (R190, R191, R194): what waits leaves in a SEQ flit, and a management request behind it is served. -/
def execResponseSend (p : PortId) (s : State) : Host.Outcome State Fault Refusal := .next (serveMgmt p.val (sendResponses p.val s))

end Sys2Proof.Machine
end

