-- ==== Sys2Proof/Machine/TapPort.lean ====
section
/-! DEFINITION. The test access port (R493, R494): TRST_N, the instructions, the boundary-scan register, the chain of the memory layers. -/

namespace Sys2Proof.Machine

/-- IDCODE (R493): die revision, part, manufacturer, 1. -/
def State.idcodeWord (s : State) : Word :=
  let rev := match s.otp.ident with | some i => i.dieRev.toNat | none => 0
  packW [(1, 1), (Config.idcodeMaker.toNat, 11), (Config.idcodePart.toNat, 16), (rev, 4)]

/-- The register between TDI and TDO that an instruction selects: the identification register for IDCODE. -/
def State.identShown (s : State) : Option Word := if s.tap.ir = .idcode then some s.idcodeWord else none

/-! ## The signals (R52, R55) -/

/-- Every signal of R52, in its order. -/
def Signal.all : List Signal :=
  [.laneTx, .laneRx, .refclk, .spiSck, .spiCsN, .spiIo, .scl, .sda, .maddr, .alertN, .thermtripN, .resetN, .pwrgood, .shdnReqN,
   .shdnDone, .wakeN, .vid, .vcoreOk, .factoryEn, .tck, .tms, .tdi, .trstN, .tdo]

/-- Directions (R52): the stack drives the signal. -/
def Signal.isOut : Signal → Bool
  | .laneTx | .spiSck | .spiCsN | .spiIo | .scl | .sda | .alertN | .thermtripN | .shdnDone | .vid | .tdo => true
  | _ => false

/-- Internal pulls (R52): up, down or none. -/
def Signal.pull : Signal → Option Bool
  | .spiCsN | .spiIo | .resetN | .shdnReqN | .wakeN | .tms | .tdi => some true
  | .maddr | .pwrgood | .vcoreOk | .factoryEn | .tck | .trstN => some false
  | _ => none

/-- A level as driven. -/
def driven (b : Bool) : Drive := if b then .high else .low

/-- The rows of R55 for the SPI pins: before step 5 of a BOOT that RESET_N holds the board may use the bus (R80); with no transfer of
the stack modelled, they stand as between transfers. -/
def State.spiDrive (s : State) (p : Signal) : Drive :=
  if !s.pwrgood ∨ s.boot.resetHeld ∧ s.mode = .boot then (if p = .spiSck then .highZ else .pulledUp)
  else match p with
    | .spiSck => .low
    | .spiCsN => .high
    | _ => if 4 ≤ s.pwr.rung ∧ s.mode = .retain then .pulledUp else .active

/-- What the stack drives on each signal (R55, R56, R423, R477, R487). -/
def State.drive (s : State) (p : Signal) : Drive :=
  match p with
  | .laneTx =>
    if !s.pwrgood then .highZ
    else if (List.range 16).any (fun i => decide ((s.port i).lnk.link ≠ .off)) then .active else .idle
  | .spiSck | .spiCsN | .spiIo => s.spiDrive p
  | .scl => if !s.pwrgood then .highZ else if s.mb.busy.isSome ∧ s.mb.transfer.isSome then .low else .active
  | .sda => if !s.pwrgood then .highZ else if s.mb.attnPull then .low else .active
  | .alertN => if s.alertLow then .low else .highZ
  | .thermtripN => if s.pwrgood ∧ s.pins.thermtrip then .low else .highZ
  | .shdnDone => if !s.pwrgood then .highZ else driven s.pins.shdnDone
  | .vid => if !s.pwrgood then .highZ else match s.pins.vid with | some v => .code v | none => .highZ
  | .tdo => if s.pwrgood ∧ s.pins.trstN then .active else .highZ
  | .pwrgood => driven s.pwrgood
  | .resetN => driven s.pins.resetN
  | .shdnReqN => driven s.pins.shdnReqN
  | .wakeN => driven s.pins.wakeN
  | .vcoreOk => driven s.pins.vcoreOk
  | .factoryEn => driven s.pins.factoryEn
  | .maddr => .code (s.pins.maddr.setWidth 5)
  | .refclk => if s.pwr.refclk then .active else .highZ
  | .trstN => driven s.pins.trstN
  | .tck => driven false
  | .tms | .tdi => driven true
  | .laneRx => .highZ

/-- The balls that the boundary-scan register covers (R493): every signal but the lanes; the lanes too under the two instructions of
IEEE 1149.6. -/
def State.scanned (s : State) (p : Signal) : Bool :=
  (p ≠ .laneTx && p ≠ .laneRx) || decide (s.tap.ir = .extestPulse) || decide (s.tap.ir = .extestTrain)

/-- What the boundary-scan register holds for a signal: what it last sampled. -/
def State.boundaryCell (s : State) (p : Signal) : Drive :=
  match s.tap.boundary.find? (fun e => decide (e.1 = p)) with | some e => e.2 | none => s.drive p

/-- The output balls (R493): under EXTEST, CLAMP and the IEEE 1149.6 instructions the register drives the balls it covers; under
HIGHZ they are in high impedance. -/
def State.outputBall (s : State) (p : Signal) : Drive :=
  match s.tap.ir with
  | .extest | .clamp | .extestPulse | .extestTrain => if p.isOut && s.scanned p then s.boundaryCell p else s.drive p
  | .highz => if p.isOut && s.scanned p then .highZ else s.drive p
  | _ => s.drive p

/-- An instruction of every mode takes effect; TRST_N is high while instructions are loaded. -/
def tapSelect (i : TapInstr) (s : State) : State :=
  if s.pwrgood then { s with pins.trstN := true, tap.ir := i } else s

/-- An instruction marked FACTORY: outside FACTORY the bypass register and one event on source 246. -/
def tapFactory (i : TapInstr) (f : State → State) (s : State) : State :=
  if !s.pwrgood then s
  else if s.mode = .factory then f (tapSelect i s)
  else fault 246 {} { tapSelect .bypass s with bist.tapRefused := satInc s.bist.tapRefused }

/-- TRST_N_LOW (R493). -/
def execTrstNLow (s : State) : Host.Outcome State Fault Refusal := .next { s with pins.trstN := false, tap.ir := .idcode }

/-- BYPASS (R493). -/
def execBypass (s : State) : Host.Outcome State Fault Refusal := .next (tapSelect .bypass s)

/-- IDCODE (R493). -/
def execIdcode (s : State) : Host.Outcome State Fault Refusal := .next (tapSelect .idcode s)

/-- The boundary-scan register takes the balls that it covers. -/
def sampleBalls (s : State) : State :=
  { s with tap.boundary := (Signal.all.filter s.scanned).map (fun p => (p, s.drive p)) }

/-- SAMPLE_PRELOAD (R493). -/
def execSamplePreload (s : State) : Host.Outcome State Fault Refusal := .next (tapFactory .samplePreload sampleBalls s)

/-- EXTEST (R493). -/
def execExtest (s : State) : Host.Outcome State Fault Refusal := .next (tapFactory .extest id s)

/-- CLAMP (R493). -/
def execClamp (s : State) : Host.Outcome State Fault Refusal := .next (tapFactory .clamp id s)

/-- HIGHZ (R493). -/
def execHighz (s : State) : Host.Outcome State Fault Refusal := .next (tapFactory .highz id s)

/-- EXTEST_PULSE (R493). -/
def execExtestPulse (s : State) : Host.Outcome State Fault Refusal := .next (tapFactory .extestPulse id s)

/-- EXTEST_TRAIN (R493). -/
def execExtestTrain (s : State) : Host.Outcome State Fault Refusal := .next (tapFactory .extestTrain id s)

/-- DIE_SELECT (R494). -/
def execDieSelect (layers : BitVec 18) (s : State) : Host.Outcome State Fault Refusal :=
  .next (tapFactory .dieSelect (fun (s : State) => { s with tap.die := layers }) s)

/-- The wrapper registers of the included layers take what is shifted in. -/
def shiftWrappers (data : List (LayerId × Word)) (s : State) : State :=
  { s with tap.wrapper := data.foldl (fun t e =>
      if s.tap.die.getLsbD e.1.val ∧ s.fitted e.1.val then tabSet 0 t e.1.val e.2 else t) s.tap.wrapper }

/-- DIE_ACCESS (R494). -/
def execDieAccess (data : List (LayerId × Word)) (s : State) : Host.Outcome State Fault Refusal :=
  .next (tapFactory .dieAccess (shiftWrappers data) s)

end Sys2Proof.Machine
end

