-- ==== Sys2Proof/Machine/Dispatch.lean ====
section
/-! DEFINITION. The dispatch of commands to their meanings, one arm for each row of the opcode table. -/

namespace Sys2Proof.Machine

/-- The effect of a command on everything but the queue. -/
def exec (i : Instr) (s : State) : Host.Outcome State Fault Refusal :=
  match i with
  | .pwrgoodHigh maddr => Sys2Proof.Machine.execPwrgoodHigh maddr s
  | .pwrgoodLow => Sys2Proof.Machine.execPwrgoodLow s
  | .resetNHigh => Sys2Proof.Machine.execResetNHigh s
  | .vcoreOkHigh => Sys2Proof.Machine.execVcoreOkHigh s
  | .vcoreOkLow => Sys2Proof.Machine.execVcoreOkLow s
  | .vcoreRaiseTimeout => Sys2Proof.Machine.execVcoreRaiseTimeout s
  | .fastRcStable => Sys2Proof.Machine.execFastRcStable s
  | .otpShadowLoad r => Sys2Proof.Machine.execOtpShadowLoad r s
  | .imageSelection n => Sys2Proof.Machine.execImageSelection n s
  | .journalScan j => Sys2Proof.Machine.execJournalScan j s
  | .pllLock zq => Sys2Proof.Machine.execPllLock zq s
  | .pllLockTimeout refclkAbsent => Sys2Proof.Machine.execPllLockTimeout refclkAbsent s
  | .layerInit r => Sys2Proof.Machine.execLayerInit r s
  | .keyDrawFallback raw => Sys2Proof.Machine.execKeyDrawFallback raw s
  | .thermalGate t => Sys2Proof.Machine.execThermalGate t s
  | .tsvTraining r => Sys2Proof.Machine.execTsvTraining r s
  | .lockstepMismatch => Sys2Proof.Machine.execLockstepMismatch s
  | .supervisorRestartDone => Sys2Proof.Machine.execSupervisorRestartDone s
  | .supervisorRestartOverrun => Sys2Proof.Machine.execSupervisorRestartOverrun s
  | .engineWatchdogExpiry n => Sys2Proof.Machine.execEngineWatchdogExpiry n s
  | .controllerCheckerFault n => Sys2Proof.Machine.execControllerCheckerFault n s
  | .takeoverOverlapEnd g => Sys2Proof.Machine.execTakeoverOverlapEnd g s
  | .clockLoss pllOnly => Sys2Proof.Machine.execClockLoss pllOnly s
  | .refclkWaitTimeout => Sys2Proof.Machine.execRefclkWaitTimeout s
  | .portPllLockLoss p => Sys2Proof.Machine.execPortPllLockLoss p s
  | .receiverDetectPulse p term => Sys2Proof.Machine.execReceiverDetectPulse p term s
  | .trainComplete p => Sys2Proof.Machine.execTrainComplete p s
  | .trainTimeout p trained => Sys2Proof.Machine.execTrainTimeout p trained s
  | .bitlockAcquired p locked polInv => Sys2Proof.Machine.execBitlockAcquired p locked polInv s
  | .bitlockTimeout p => Sys2Proof.Machine.execBitlockTimeout p s
  | .symlockComplete p found => Sys2Proof.Machine.execSymlockComplete p found s
  | .symlockTimeout p found => Sys2Proof.Machine.execSymlockTimeout p found s
  | .capxMessage p msg => Sys2Proof.Machine.execCapxMessage p msg s
  | .capxTimeout p => Sys2Proof.Machine.execCapxTimeout p s
  | .backoffEnd p => Sys2Proof.Machine.execBackoffEnd p s
  | .laneFailure p lanes => Sys2Proof.Machine.execLaneFailure p lanes s
  | .widthChangeTimeout p => Sys2Proof.Machine.execWidthChangeTimeout p s
  | .nearEndLoopResult p result => Sys2Proof.Machine.execNearEndLoopResult p result s
  | .partnerRetrain p => Sys2Proof.Machine.execPartnerRetrain p s
  | .hushMarker p => Sys2Proof.Machine.execHushMarker p s
  | .farEndLoopEnd p => Sys2Proof.Machine.execFarEndLoopEnd p s
  | .flitReceived p rx => Sys2Proof.Machine.execFlitReceived p rx s
  | .retryReqResend p => Sys2Proof.Machine.execRetryReqResend p s
  | .rd64 p h => Sys2Proof.Machine.execRd64 p h s
  | .rd128 p h => Sys2Proof.Machine.execRd128 p h s
  | .wr64 p h => Sys2Proof.Machine.execWr64 p h s
  | .wrm64 p h => Sys2Proof.Machine.execWrm64 p h s
  | .fill p h => Sys2Proof.Machine.execFill p h s
  | .writeData p d => Sys2Proof.Machine.execWriteData p d s
  | .mread p h => Sys2Proof.Machine.execMread p h s
  | .mattest p h nonce => Sys2Proof.Machine.execMattest p h nonce s
  | .init p g0 g1 g2 tags => Sys2Proof.Machine.execInit p g0 g1 g2 tags s
  | .initResend p => Sys2Proof.Machine.execInitResend p s
  | .initTimeout p => Sys2Proof.Machine.execInitTimeout p s
  | .retryReq p next ack => Sys2Proof.Machine.execRetryReq p next ack s
  | .replayTimeout p => Sys2Proof.Machine.execReplayTimeout p s
  | .credit p r0 r1 r2 => Sys2Proof.Machine.execCredit p r0 r1 r2 s
  | .creditReturnDue p => Sys2Proof.Machine.execCreditReturnDue p s
  | .responseSend p => Sys2Proof.Machine.execResponseSend p s
  | .vc1CreditStall p => Sys2Proof.Machine.execVc1CreditStall p s
  | .audit p m => Sys2Proof.Machine.execAudit p m s
  | .auditTimeout p => Sys2Proof.Machine.execAuditTimeout p s
  | .resyncAck p next g0 g1 g2 => Sys2Proof.Machine.execResyncAck p next g0 g1 g2 s
  | .resyncResend p => Sys2Proof.Machine.execResyncResend p s
  | .widthChange p m => Sys2Proof.Machine.execWidthChange p m s
  | .widthAck p m => Sys2Proof.Machine.execWidthAck p m s
  | .doze p rung => Sys2Proof.Machine.execDoze p rung s
  | .budgetWindowBoundary p => Sys2Proof.Machine.execBudgetWindowBoundary p s
  | .gauntletReexamine p => Sys2Proof.Machine.execGauntletReexamine p s
  | .deadlineExpiry p tag => Sys2Proof.Machine.execDeadlineExpiry p tag s
  | .deadlineCreditEarn q r b => Sys2Proof.Machine.execDeadlineCreditEarn q r b s
  | .grantAudit q => Sys2Proof.Machine.execGrantAudit q s
  | .reservePeriodAudit q => Sys2Proof.Machine.execReservePeriodAudit q s
  | .activationIssue q changes => Sys2Proof.Machine.execActivationIssue q changes s
  | .pause q k b => Sys2Proof.Machine.execPause q k b s
  | .readBurstReturn q x => Sys2Proof.Machine.execReadBurstReturn q x s
  | .chkResult q => Sys2Proof.Machine.execChkResult q s
  | .writeErrorReport q => Sys2Proof.Machine.execWriteErrorReport q s
  | .commandParityReport q c => Sys2Proof.Machine.execCommandParityReport q c s
  | .writeDrainComplete q => Sys2Proof.Machine.execWriteDrainComplete q s
  | .rowCloseTimeout q k b => Sys2Proof.Machine.execRowCloseTimeout q k b s
  | .slicePowerDown q k => Sys2Proof.Machine.execSlicePowerDown q k s
  | .calMicroStep q r => Sys2Proof.Machine.execCalMicroStep q r s
  | .refreshIssue q k b row kind => Sys2Proof.Machine.execRefreshIssue q k b row kind s
  | .refreshComplete q k b changes => Sys2Proof.Machine.execRefreshComplete q k b changes s
  | .rfmRequestReport q k => Sys2Proof.Machine.execRfmRequestReport q k s
  | .hatboxRead n unreadable => Sys2Proof.Machine.execHatboxRead n unreadable s
  | .hatboxEntryService n => Sys2Proof.Machine.execHatboxEntryService n s
  | .selfRefreshSensorRead k a b => Sys2Proof.Machine.execSelfRefreshSensorRead k a b s
  | .spareRowAssign n => Sys2Proof.Machine.execSpareRowAssign n s
  | .tsvSteering q found => Sys2Proof.Machine.execTsvSteering q found s
  | .bankMapOut => Sys2Proof.Machine.execBankMapOut s
  | .rankRetirement => Sys2Proof.Machine.execRankRetirement s
  | .layerRetirement => Sys2Proof.Machine.execLayerRetirement s
  | .linerIntoUse q read => Sys2Proof.Machine.execLinerIntoUse q read s
  | .rowCopy q => Sys2Proof.Machine.execRowCopy q s
  | .arraySetDone => Sys2Proof.Machine.execArraySetDone s
  | .layerAntifuseBurn t layerTemp => Sys2Proof.Machine.execLayerAntifuseBurn t layerTemp s
  | .fieldFrameBurn t => Sys2Proof.Machine.execFieldFrameBurn t s
  | .burnResume => Sys2Proof.Machine.execBurnResume s
  | .shadowParityError row retentionBad => Sys2Proof.Machine.execShadowParityError row retentionBad s
  | .journalRecordWrite o => Sys2Proof.Machine.execJournalRecordWrite o s
  | .wearAccrual => Sys2Proof.Machine.execWearAccrual s
  | .wearLedgerDue => Sys2Proof.Machine.execWearLedgerDue s
  | .thermalSample t => Sys2Proof.Machine.execThermalSample t s
  | .tripRecordTimeout => Sys2Proof.Machine.execTripRecordTimeout s
  | .modelUpdate => Sys2Proof.Machine.execModelUpdate s
  | .sensorCalibration vref => Sys2Proof.Machine.execSensorCalibration vref s
  | .zqCalibration zq => Sys2Proof.Machine.execZqCalibration zq s
  | .aonClockDiscipline ppm => Sys2Proof.Machine.execAonClockDiscipline ppm s
  | .portIdleDescent p => Sys2Proof.Machine.execPortIdleDescent p s
  | .portActivityExit p => Sys2Proof.Machine.execPortActivityExit p s
  | .retainIdleExpiry => Sys2Proof.Machine.execRetainIdleExpiry s
  | .entryComplete => Sys2Proof.Machine.execEntryComplete s
  | .entryDelayLimit b => Sys2Proof.Machine.execEntryDelayLimit b s
  | .entryRetry => Sys2Proof.Machine.execEntryRetry s
  | .dwellP3Expiry => Sys2Proof.Machine.execDwellP3Expiry s
  | .dwellP4Expiry => Sys2Proof.Machine.execDwellP4Expiry s
  | .wakeNLow => Sys2Proof.Machine.execWakeNLow s
  | .portActivityWake p => Sys2Proof.Machine.execPortActivityWake p s
  | .ladderTimerWake => Sys2Proof.Machine.execLadderTimerWake s
  | .thermalWake k => Sys2Proof.Machine.execThermalWake k s
  | .faultWake src => Sys2Proof.Machine.execFaultWake src s
  | .twoWireWake => Sys2Proof.Machine.execTwoWireWake s
  | .wakeExitComplete key t => Sys2Proof.Machine.execWakeExitComplete key t s
  | .housekeepingDone => Sys2Proof.Machine.execHousekeepingDone s
  | .wakeCauseHandled => Sys2Proof.Machine.execWakeCauseHandled s
  | .crossbarParityError p tag second => Sys2Proof.Machine.execCrossbarParityError p tag second s
  | .faultRegistration src d => Sys2Proof.Machine.execFaultRegistration src d s
  | .faultWindowExpiry src => Sys2Proof.Machine.execFaultWindowExpiry src s
  | .aonSelfCheck bad => Sys2Proof.Machine.execAonSelfCheck bad s
  | .collectorSweep bad => Sys2Proof.Machine.execCollectorSweep bad s
  | .traversalBuilt authOk => Sys2Proof.Machine.execTraversalBuilt authOk s
  | .reportSigned t => Sys2Proof.Machine.execReportSigned t s
  | .allowanceGain => Sys2Proof.Machine.execAllowanceGain s
  | .shdnReqNLow => Sys2Proof.Machine.execShdnReqNLow s
  | .bistSlotEnd ends => Sys2Proof.Machine.execBistSlotEnd ends s
  | .shutdownDeadline => Sys2Proof.Machine.execShutdownDeadline s
  | .mbAddressByte addr read => Sys2Proof.Machine.execMbAddressByte addr read s
  | .mbRegisterAddress a => Sys2Proof.Machine.execMbRegisterAddress a s
  | .registerWrite data pec => Sys2Proof.Machine.execRegisterWrite data pec s
  | .readClear => Sys2Proof.Machine.execReadClear s
  | .pmcCycleLoRead set => Sys2Proof.Machine.execPmcCycleLoRead set s
  | .mbTransferEnd insideByte sending start => Sys2Proof.Machine.execMbTransferEnd insideByte sending start s
  | .longOpEnd => Sys2Proof.Machine.execLongOpEnd s
  | .longOpBound => Sys2Proof.Machine.execLongOpBound s
  | .attentionRequest sdaHigh => Sys2Proof.Machine.execAttentionRequest sdaHigh s
  | .attentionSclFall afterTenMicros won accepted => Sys2Proof.Machine.execAttentionSclFall afterTenMicros won accepted s
  | .attentionUnserved => Sys2Proof.Machine.execAttentionUnserved s
  | .sclTimeout => Sys2Proof.Machine.execSclTimeout s
  | .sdaReleaseTimeout => Sys2Proof.Machine.execSdaReleaseTimeout s
  | .moveToRetain => Sys2Proof.Machine.execMoveToRetain s
  | .returnToService => Sys2Proof.Machine.execReturnToService s
  | .descendNow => Sys2Proof.Machine.execDescendNow s
  | .retrain p => Sys2Proof.Machine.execRetrain p s
  | .down p level => Sys2Proof.Machine.execDown p level s
  | .nearEndSerialLoop p prbs31 lanes errors => Sys2Proof.Machine.execNearEndSerialLoop p prbs31 lanes errors s
  | .nearEndParallelLoop p prbs31 run => Sys2Proof.Machine.execNearEndParallelLoop p prbs31 run s
  | .farEndLoop p prbs31 lanes => Sys2Proof.Machine.execFarEndLoop p prbs31 lanes s
  | .fenceLift p => Sys2Proof.Machine.execFenceLift p s
  | .portFence p => Sys2Proof.Machine.execPortFence p s
  | .fltForce src => Sys2Proof.Machine.execFltForce src s
  | .fltClear src => Sys2Proof.Machine.execFltClear src s
  | .pmcClear set => Sys2Proof.Machine.execPmcClear set s
  | .recalibrationGo n pc layer => Sys2Proof.Machine.execRecalibrationGo n pc layer s
  | .predictorReset n => Sys2Proof.Machine.execPredictorReset n s
  | .xlate => Sys2Proof.Machine.execXlate s
  | .repCmdMapOut channel pc layer bank => Sys2Proof.Machine.execRepCmdMapOut channel pc layer bank s
  | .repCmdRetireRank channel layer => Sys2Proof.Machine.execRepCmdRetireRank channel layer s
  | .repCmdRetireLayer layer => Sys2Proof.Machine.execRepCmdRetireLayer layer s
  | .otpBurn t => Sys2Proof.Machine.execOtpBurn t s
  | .applyOverride => Sys2Proof.Machine.execApplyOverride s
  | .clearOverrides => Sys2Proof.Machine.execClearOverrides s
  | .journalFlush => Sys2Proof.Machine.execJournalFlush s
  | .journalRead => Sys2Proof.Machine.execJournalRead s
  | .attReportRequest => Sys2Proof.Machine.execAttReportRequest s
  | .bistShutdownGo => Sys2Proof.Machine.execBistShutdownGo s
  | .bistPartitionGo mask => Sys2Proof.Machine.execBistPartitionGo mask s
  | .trstNLow => Sys2Proof.Machine.execTrstNLow s
  | .bypass => Sys2Proof.Machine.execBypass s
  | .idcode => Sys2Proof.Machine.execIdcode s
  | .samplePreload => Sys2Proof.Machine.execSamplePreload s
  | .extest => Sys2Proof.Machine.execExtest s
  | .clamp => Sys2Proof.Machine.execClamp s
  | .highz => Sys2Proof.Machine.execHighz s
  | .extestPulse => Sys2Proof.Machine.execExtestPulse s
  | .extestTrain => Sys2Proof.Machine.execExtestTrain s
  | .dieSelect layers => Sys2Proof.Machine.execDieSelect layers s
  | .dieAccess data => Sys2Proof.Machine.execDieAccess data s
  | .resetNLow => Sys2Proof.Machine.execResetNLow s
  | .schedulerTick => Sys2Proof.Machine.execSchedulerTick s

end Sys2Proof.Machine
end

