-- ==== Sys2Proof/Safety.lean ====
section
/-! DEFINITION. The terms in which statements about the block are made: one counted event, a step of the block that keeps what the manual promises, well-formed memory. -/

namespace Sys2Proof.Machine

/-- The state after one registered event of source `n` that does not escalate (R414, R415): TOTAL and PENDING, and the count in
the source's window. -/
def State.withEvent (n : Nat) (s : State) : State :=
  s.updSrc n (fun x => { (x.count1 s.now).1 with total := satInc x.total, pending := true, last := some s.now })

/-- One more event of source `n` is registered without an escalation (R414, R415): the collector is on, the source is neither
reserved nor absent, no event of it is registered in this tick, and the event is not the Nth of its window. -/
def State.quiet (n : Nat) (s : State) : Prop :=
  s.collectorOff = false ∧ s.counts n = true ∧ (s.src n).last ≠ some s.now ∧ ((s.src n).count1 s.now).2 = false

/-- No fault source asks for HOLD, and none stands at GRAVE but those whose class is fixed there (R419, R421): events and raises below
GRAVE leave the mode as it is. -/
def State.calm (s : State) : Prop :=
  ∀ n, (s.src n).react.getLsbD 8 = false ∧ (fixedClass n = none → (s.src n).cls.toNat ≤ 3)

/-- Every reading of a list stands below these temperatures, °C, of the layers and of the base die, with or without the 2 °C that a bad
reference adds (R364). -/
def readingsBelow (layer base : Int) (l : List SensorReading) : Prop :=
  ∀ r ∈ l, ∀ v, r.value = some v → v.val + 8 < (match r.sensor with | .base _ => degC base | _ => degC layer)

/-- Every temperature held stands below these temperatures, °C. -/
def State.heldBelow (layer base : Int) (s : State) : Prop :=
  (∀ k, (s.layer k).temp < degC layer ∧ (∀ v, (s.layer k).sensA = some v → v < degC layer) ∧
    (∀ v, (s.layer k).sensB = some v → v < degC layer)) ∧
  ∀ i v, (s.baseSensor i).reading = some v → v < degC base

/-- Every port but `p` stands as before. -/
def otherPorts (p : Nat) (s t : State) : Prop := ∀ j, j ≠ p → t.port j = s.port j

/-- What a port puts on its lanes for flits that it sends. -/
def Port.sent (p : Port) (l : List (BitVec 1280)) : List WireItem := ({ p with wire := [] }.transmit l).wire

/-- Session books as before, but for the account of the time that the partner withholds (R9). -/
def sameBooks (x y : PortTx) : Prop :=
  y = { x with withheld := y.withheld, withheldFrom := y.withheldFrom, dryFrom := y.dryFrom }

/-- Every header in the receive buffer of a port is taken by a command of its own: none has an OPCODE outside the table (R184). -/
def Port.plainRx (l : List RxItem) : Prop :=
  (∀ v b e, RxItem.header v b e ∈ l → reqOpcode b = true) ∧
  (∀ x, RxItem.msg 0x12 x ∈ l → headerOp (mgmtHeader x) = 0x10 ∨ headerOp (mgmtHeader x) = 0x11)

/-- With these symbols corrected now, no lane of a port has failed by corrections or by missed markers (R174, R175). -/
def Port.lanesGood (p : Port) (now : Nat) (corrected : List Nat) : Prop :=
  ∀ l, l < 4 → (p.lane l).missed < 2 ∧
    (if corrected.getD l 0 = 0 then p.lane l else (p.lane l).correct now (corrected.getD l 0)).noisy = false

/-- The VC1 and other slots of a flit that take a credit of VC v (R187). -/
def flitSlots (f : BitVec 1280) (v : Nat) : Nat :=
  ([flitSlot f 0, flitSlot f 1].filter (fun x => decide (bitsOf x.toNat 1 0 ≠ 3) && decide (slotVc (bitsOf x.toNat 1 0) = v))).length

/-- The stored bytes of two states read the same at every cell. -/
def sameBytes (s t : State) : Prop := ∀ a, t.readByte a = s.readByte a

/-- The memory table has its canonical form. -/
def State.memoryOk (s : State) : Prop := memoryWf s.mem = true

/-- What the always-on domain remembers for the rest of a power cycle: a thermal trip is never left, and it has its reason
recorded (R29, R56, R376, R379). -/
def State.tripOk (s : State) : Prop := s.mode = .trip → s.thm.tripValid = true

/-- HOLD and TRIP, the two modes in which no request is served (R32). -/
def State.stopped (s : State) : Bool := decide (s.mode = .hold) || decide (s.mode = .trip)

/-- The write of a command commits at once (R25, R465, R470): the target listens and follows the transfer, the mode and the view
let the register act, and the supervisor pair runs. -/
def State.commits (c : Instr) (s : State) : Prop :=
  s.listens = true ∧ s.following = true ∧ s.accepts c = true ∧ viewWrites s.currentView (actionAddr c) = true ∧
    s.sup.restarting = false

/-- The open request that a read burst answers. -/
def State.openRead (b : Burst) (s : State) : Option Req :=
  (s.port b.port).reqs.find? (fun r => decide (r.tag = b.tag) && decide (r.serial = b.serial))

/-- One block of the read `r` is answered (R184, R193): its DATA slot is queued, or PART 1 waits for PART 0. -/
def delivered (b : Burst) (r : Req) (st : Status) (d : Block) (s t : State) : Prop :=
  otherPorts b.port s t ∧
  (b.part = 1 ∧ r.todo = 2 →
    (t.port b.port).outq = (s.port b.port).outq ∧ t.openRead b = some { r with part1 := some (st, d) }) ∧
  (¬ (b.part = 1 ∧ r.todo = 2) →
    ∃ l, (t.port b.port).outq = (s.port b.port).outq ++
      { slot := .data b.tag b.part st d, closes := if r.op = .rd64 ∨ b.part = 1 then some b.tag else none,
        bound := if r.op = .rd64 ∨ b.part = 1 then some r.bound else none, base := r.base } :: l)

end Sys2Proof.Machine
end

