-- ==== Sys2Proof/WellFormed.lean ====
section
/-! DEFINITION. Which commands are well formed: the relations between operands that their types do not say. -/

namespace Sys2Proof

/-- At most one reading for each sensor. -/
def readingsOk (l : List SensorReading) : Bool := decide ((l.map (·.sensor)).Nodup)

/-- A key draw that passed its health tests carries at least 1,024 bits (R225). -/
def keyOk (k : KeyDraw) : Bool := !k.healthy || decide (128 ≤ k.raw.length)

/-- The body that is read is as long as the header says, where its BODY_LEN is in range (R111); a signature has 2,820 bytes. -/
def copyOk (c : ImageCopy) : Bool :=
  decide (c.signature.length = 2820) && (decide (0x3FF000 < c.bodyLen.toNat) || decide (4 * c.body.length = c.bodyLen.toNat))

/-- A column of an extended Hamming code beside the check bits' own: odd weight of 3 or more (R129). -/
def columnOk (c : BitVec 8) : Bool :=
  let w := (List.range 8).countP (fun i => c.getLsbD i)
  decide (3 ≤ w) && decide (w % 2 = 1)

/-- A code of distance 4 over 56 data bits: distinct columns, no three of them or of the check bits' own with sum 0 (R129). -/
def codeOk (l : List (BitVec 8)) : Bool := decide (l.length = 56) && l.all columnOk && decide l.Nodup

/-- A journal record keeps inside its sector and starts on a 16-byte boundary (R149). -/
def recordOk (r : JournalRecord) : Bool :=
  decide (r.offset.toNat % 16 = 0) && decide (r.offset.toNat + 24 + r.payload.length ≤ 4096)

/-- One, two or four lanes deliver the symbols of one codeword or of a pair evenly (R170, R171, R174). -/
def lanesOk (l : List (List (BitVec 10))) : Bool :=
  [1, 2, 4].contains l.length && [136, 272, 544].any (fun n => l.all (fun x => x.length == n / l.length))

/-- The relations of a command's operands. -/
def wellFormed : Instr → Bool
  | .otpShadowLoad r =>
    decide ((r.rows.map (·.row)).Nodup) && codeOk r.rom.code && decide (r.ident.pubKey.length = 17)
      && decide (r.ident.liners.length ≤ 2) && decide (r.ident.rankMap.length = 512)
  | .imageSelection n => n.copyA.all copyOk && n.copyB.all copyOk
  | .journalScan j => j.records.all recordOk
  | .layerInit r => keyOk r.key && readingsOk r.readings
  | .thermalGate t => readingsOk t
  | .thermalSample t => readingsOk t
  | .wakeExitComplete k t => keyOk k && readingsOk t
  | .symlockComplete _ found => decide ((found.map (·.lane)).Nodup)
  | .symlockTimeout _ found => decide ((found.map (·.lane)).Nodup)
  | .nearEndSerialLoop _ _ _ errors | .nearEndParallelLoop _ _ ⟨_, errors⟩ | .nearEndLoopResult _ ⟨_, errors⟩ => decide (errors.length = 4)
  | .bistSlotEnd ends => decide (1 ≤ ends.length) && decide (ends.length ≤ 2) && decide ((ends.map (·.part)).Nodup)
  | .flitReceived _ (.lanes l _) => lanesOk l
  | .flitReceived _ (.flit _ corrected) => decide (corrected.length = 4)
  | .bistPartitionGo mask => decide (mask ≠ 0)
  | _ => true

end Sys2Proof
end

