-- ==== Sys2Proof/Certificates/Slice0/Obligations.lean ====
section
/-! DEFINITION. The statements about the model. Where one rests on a choice of the model, its docstring names the log entry. -/

open Sys2Proof Sys2Proof.Machine

/-- A step takes the command at the front of the queue and runs it on the state with the queue's rest; with an empty queue the
block idles (log 1). -/
def Obligations.StepRunsTheCommandInFront : Prop :=
  (∀ (c : Instr) (rest : List Instr) (s : State), s.pending = c :: rest → step s = exec c { s with pending := rest }) ∧
  (∀ s : State, s.pending = [] → step s = .next s)

/-- R78: PWRGOOD going low resets every part of the stack in every state (what fuses, antifuses and flash hold is no state
that a reset changes, and the levels of input pins are not the stack's), and the next high level starts BOOT at step 1. -/
def Obligations.PowerGoodLowResetsEverything : Prop :=
  ∀ s : State, ∃ t, exec .pwrgoodLow s = .next t ∧
    t.pwrgood = false ∧ t.mode = .boot ∧ t.holdCause = 0 ∧ t.takeover = 0 ∧ t.grave = false ∧ t.image = none ∧ t.mem = [] ∧
    t.boot = {} ∧ t.sup = {} ∧ t.flt = {} ∧ t.thm = {} ∧ t.pwr = {} ∧ t.att = {} ∧ t.bist = {} ∧ t.mb = {} ∧ t.rep = {} ∧
    t.gnt = {} ∧ t.tap = {} ∧ t.ports = [] ∧ t.chans = [] ∧ t.pcs = [] ∧ t.slices = [] ∧ t.layers = [] ∧ t.pmc = [] ∧
    t.otp = { rows := s.otp.rows, rom := s.otp.rom, antifuse := s.otp.antifuse } ∧
    t.jnl = { records := s.jnl.records } ∧ t.pending = s.pending ∧
    t.pins = { resetN := s.pins.resetN, vcoreOk := s.pins.vcoreOk, wakeN := s.pins.wakeN } ∧
    ∀ m : BitVec 3, ∃ u, exec (.pwrgoodHigh m) t = .next u ∧ u.mode = .boot ∧ u.boot.step = 1

/-- PWRGOOD_HIGH (R55, R58, R77): while PWRGOOD is low it starts the AON, samples MADDR and begins step 1 with the level of RESET_N,
VID driven to 0x18 where that level holds BOOT; while it is high already, nothing changes. -/
def Obligations.PowerGoodHighStartsBoot : Prop :=
  (∀ (m : BitVec 3) (s : State), s.pwrgood = false → exec (.pwrgoodHigh m) s = .next { s with
    pwrgood := true, now := 0, boot.step := 1, boot.resetHeld := !s.pins.resetN, pins.maddr := m
    pins.vid := if s.pins.resetN then none else some 0x18 }) ∧
  (∀ (m : BitVec 3) (s : State), s.pwrgood = true → exec (.pwrgoodHigh m) s = .next s)

/-- RESET_N and VCORE_OK during start-up and the first running of the supervisor (R55, R79, R81, R402, R405). From step 1 to the start
of step 4 a low RESET_N holds BOOT, with VID at 0x18; afterwards only the pin's level is kept. -/
def Obligations.ResetAndCoreVoltageGateBoot : Prop :=
  (∀ s : State, s.sampling = true →
    exec .resetNLow s = .next { s with pins.resetN := false, pins.vid := some 0x18, boot.resetHeld := true }) ∧
  (∀ s : State, s.sampling = true → s.boot.step = 3 → s.sup.running = true →
    exec .resetNHigh s = .next { s with pins.resetN := true, boot.resetHeld := false, boot.step := 4 }) ∧
  (∀ s : State, s.sampling = true → s.boot.step ≠ 3 →
    exec .resetNHigh s = .next { s with pins.resetN := true, boot.resetHeld := false }) ∧
  (∀ s : State, s.sampling = false → exec .resetNLow s = .next { s with pins.resetN := false } ∧
    exec .resetNHigh s = .next { s with pins.resetN := true }) ∧
  (∀ s : State, exec .vcoreOkHigh s = .next { s with
    pins.vcoreOk := true, boot.vcoreWait := false, pwr.raising := false, pwr.lowering := false }) ∧
  (∀ s : State, s.sampling = true → s.sup.running = false → s.pins.vcoreOk = true →
    exec .fastRcStable s = .next { s with pins.vid := some 0x18, sup.running := true, pwr.fastRc := true, boot.vcoreWait := false,
                                          boot.step := if s.boot.resetHeld then 3 else 4 }) ∧
  (∀ s : State, s.sampling = true → s.sup.running = false → s.pins.vcoreOk = false →
    exec .fastRcStable s = .next { s with pins.vid := some 0x18, boot.step := 3, boot.vcoreWait := true }) ∧
  (∀ s : State, s.sampling = false → s.pwr.wake.isSome = true → s.pwr.raising = false →
    exec .fastRcStable s = .next { s with sup.running := true, pwr.fastRc := true })

/-- What ends in HOLD with the latch set and cause 0x01: VCORE_OK lost with no level change in progress, VCORE_OK not high in time
after a raise, REFCLK not present in time at a wake, a supervisor restart not complete in time (R401, R407, R412, R424). -/
def Obligations.LostCoreVoltageClockOrSupervisorIsGrave : Prop :=
  (∀ s : State, s.coreClocks = true → s.mode ≠ .hold → s.holdCause = 0 → s.pwr.raising = false → s.pwr.lowering = false →
    ∃ t, exec .vcoreOkLow s = .next t ∧ t.pins.vcoreOk = false ∧ t.grave = true ∧ t.mode = .hold ∧ t.holdCause = 1 ∧ t.mem = []) ∧
  (∀ s : State, s.pwr.raising = true ∨ s.pwr.lowering = true ∨ s.coreClocks = false → exec .vcoreOkLow s = .next { s with pins.vcoreOk := false }) ∧
  (∀ s : State, s.pwr.raising = true → s.mode ≠ .hold → s.mode ≠ .trip → s.holdCause = 0 →
    ∃ t, exec .vcoreRaiseTimeout s = .next t ∧ t.grave = true ∧ t.mode = .hold ∧ t.holdCause = 1 ∧
      s.pwr.raiseAt + 50000 ≤ t.now) ∧
  (∀ (s : State) (w : WakeRun), s.pwr.wake = some w → s.pwr.refclk = false → s.pwr.corePll = false → s.mode ≠ .hold →
    s.mode ≠ .trip → s.holdCause = 0 →
    ∃ t, exec .refclkWaitTimeout s = .next t ∧ t.grave = true ∧ t.mode = .hold ∧ t.holdCause = 1) ∧
  (∀ s : State, s.sup.restarting = true → s.collectorOff = false → (s.src 2).n = 1 → (s.src 2).windowOpen = false →
    (s.src 2).last ≠ some (max s.now (s.sup.since + 2000000)) → s.mode ≠ .hold → s.mode ≠ .trip → s.holdCause = 0 →
    ∃ t, exec .supervisorRestartOverrun s = .next t ∧ t.grave = true ∧ t.mode = .hold ∧ t.holdCause = 1 ∧
      t.src 2 = { s.src 2 with
        total := satInc (s.src 2).total, pending := true, escalated := true, start := max s.now (s.sup.since + 2000000)
        count := 0, escalations := satInc (s.src 2).escalations, last := some (max s.now (s.sup.since + 2000000)) })

/-- OTP_SHADOW_LOAD (R82, R131 to R137): where every word resolves and IDENT and TRIM are valid, the shadows, the rank map and the
trim codes are taken and step 5 follows, nothing else changes; without a valid IDENT or TRIM the stack enters HOLD with cause
0x06. Outside step 4 the command changes nothing. -/
def Obligations.ShadowLoadResolvesOrHolds : Prop :=
  (∀ (r : OtpReadout) (i : Identity) (s : State), s.atStep 4 = true → s.sup.running = true →
    (loadOtp r s.otp).fails = [] → (loadOtp r s.otp).ident = some i →
    exec (.otpShadowLoad r) s = .next { s with
      otp := loadOtp r s.otp, rep.rankMap := rankMapOf i, pwr.zqTx := i.zqTx, pwr.zqRx := i.zqRx, boot.step := 5
      boot.otpMarginal := 0, boot.otpRedirected := 0 }) ∧
  (∀ (r : OtpReadout) (s : State), s.atStep 4 = true → s.sup.running = true → (loadOtp r s.otp).ident = none →
    (s.src 228).react.getLsbD 8 = false → (s.src 228).cls.toNat ≤ 3 → s.holdCause = 0 →
    ∃ t, exec (.otpShadowLoad r) s = .next t ∧ t.mode = .hold ∧ t.holdCause = 6 ∧ t.boot.step = 4) ∧
  (∀ (r : OtpReadout) (s : State), (s.atStep 4 && s.sup.running) = false → exec (.otpShadowLoad r) s = .next s)

/-- IMAGE_SELECTION (R84, R85, R91, R96): a single readable copy that passes every check is loaded and step 6 follows; of two copies
with good headers the one with the higher claimed sequence number is examined first and, if valid, alone; the repeated step of a
fallback examines the other copy alone and step 8 follows; a FACTORY request whose token names the stack and verifies is taken; without
any readable copy the stack enters HOLD with cause 0x02 and both cause codes are 0x9. -/
def Obligations.ImageSelectionTakesTheHighestValidCopy : Prop :=
  (∀ (a : ImageCopy) (n : NvmRead) (s : State), s.atStep 5 = true → s.boot.rerun = false → n.quadOk = true →
    n.factoryEn = false → n.copyA = some a → n.copyB = none → headerOk a = true → copyCause n.verified s a = 0 →
    exec (.imageSelection n) s = .next { loadImage a { s with boot.causeA := 0, boot.causeB := 9, pins.factoryEn := false } with
      boot.imageSel := 1, boot.step5 := true, boot.factoryReq := false, boot.tokenOk := false, boot.step := 6 }) ∧
  (∀ (a b : ImageCopy) (n : NvmRead) (s : State), s.atStep 5 = true → s.boot.rerun = false → n.quadOk = true →
    n.factoryEn = false → n.copyA = some a → n.copyB = some b → headerOk a = true → headerOk b = true →
    a.sequence.toNat < b.sequence.toNat → copyCause n.verified s b = 0 →
    exec (.imageSelection n) s = .next { loadImage b { s with boot.causeA := 0xF, boot.causeB := 0, pins.factoryEn := false } with
      boot.imageSel := 2, boot.step5 := true, boot.factoryReq := false, boot.tokenOk := false, boot.step := 6 }) ∧
  (∀ (b : ImageCopy) (n : NvmRead) (s : State), s.atStep 5 = true → s.boot.rerun = true → s.boot.imageSel = 1 → n.quadOk = true →
    n.copyB = some b → headerOk b = true → copyCause n.verified s b = 0 →
    exec (.imageSelection n) s = .next { loadImage b { s with boot.causeB := 0 } with
      boot.imageSel := 2, boot.step5 := true, boot.step := 8 }) ∧
  (∀ (a : ImageCopy) (x : ImageSection) (n : NvmRead) (s : State), s.atStep 5 = true → s.boot.rerun = false → n.quadOk = true →
    n.factoryEn = true → n.copyA = some a → n.copyB = none → headerOk a = true → copyCause n.verified s a = 0 →
    a.sec 0x11 = some x → verifies n.verified s.otp.rom.vendorKey (x.bytes 0 0x20) (x.bytes 0x20 0xB24) = true →
    x.word 0 + x.word 1 * 2 ^ 32 + x.word 2 * 2 ^ 64 + x.word 3 * 2 ^ 96 = s.deviceId →
    ∃ t, exec (.imageSelection n) s = .next t ∧ t.boot.factoryReq = true ∧ t.boot.tokenOk = true ∧ t.boot.step = 6 ∧
      t.boot.imageSel = 1 ∧ t.pins.factoryEn = true) ∧
  (∀ (n : NvmRead) (s : State), s.atStep 5 = true → s.boot.rerun = false → n.quadOk = true → n.copyA = none → n.copyB = none →
    s.holdCause = 0 →
    ∃ t, exec (.imageSelection n) s = .next t ∧ t.mode = .hold ∧ t.holdCause = 2 ∧ t.boot.causeA = 9 ∧ t.boot.causeB = 9 ∧
      t.image = s.image)

/-- JOURNAL_SCAN (R88, R89, R152): what the newest valid records give is taken, the write pointer is set and the boot counted; step 7
follows where no essential partition failed, and the self-test result counts as missing where no record is usable; after a failed
essential partition the stack stands in HOLD with cause 0x04. -/
def Obligations.JournalScanTakesTheNewestRecords : Prop :=
  (∀ (j : JournalRead) (s : State), s.atStep 6 = true →
    ∃ t, exec (.journalScan j) s = .next t ∧
      t.jnl.records = j.records ∧ (t.jnl.sector, t.jnl.offset) = writePointer j ∧
      t.jnl.fullScan = (usableCheckpoint j.records).isNone ∧
      t.jnl.bootCount = BitVec.ofNat 32 ((match newestValid (scanned j.records) 6 with | some r => payloadNat r 0 4 | none => 0) + 1) ∧
      t.boot.step6 = true ∧ t.rep.log = takeRepairs (newestValid (scanned j.records) 7) ∧
      t.att.lastLeaf = (newestValid (scanned j.records) 4).map (fun r => payloadNat r 0 4) ∧
      t.att.resume = (newestValid (scanned j.records) 4).map (fun r => payloadNat r 4 4) ∧
      t.otp = s.otp ∧ t.image = s.image ∧ t.tap = s.tap ∧ t.pmc = s.pmc ∧ t.now = s.now) ∧
  (∀ (j : JournalRead) (s : State), s.atStep 6 = true → s.calm → s.bist.parts = [] →
    (∀ r, newestValid (scanned j.records) 3 = some r → payloadNat r 272 1 % 8 ≠ 2 ∧ payloadNat r 320 1 % 8 ≠ 2) →
    ∃ t, exec (.journalScan j) s = .next t ∧ t.mode = .boot ∧ t.boot.step = 7 ∧
      (newestValid (scanned j.records) 3 = none → t.bist.missing = true ∧ t.boot.bistMissing = true)) ∧
  (∀ (j : JournalRead) (r : JournalRecord) (s : State), s.atStep 6 = true → s.calm → s.holdCause = 0 →
    newestValid (scanned j.records) 3 = some r → (∀ i, i < 20 → payloadNat r (16 + 16 * i) 1 ≠ 3) →
    payloadNat r 272 1 % 8 = 2 ∨ payloadNat r 320 1 % 8 = 2 →
    ∃ t, exec (.journalScan j) s = .next t ∧ t.mode = .hold ∧ t.holdCause = 4 ∧ t.boot.step = 6)

/-- PLL_LOCK at step 7 (R91, R403, R409) with ZQ_EXT within its range: the clocks move to the PLLs, every present port has a stable
PLL, the impedance codes are taken, and step 8 follows, or FACTORY where it was asked for with a valid token; a lock that does not
come enters HOLD with cause 0x03 (R99). -/
def Obligations.PllLockMovesTheClocks : Prop :=
  (∀ (zq : ZqMeas) (s : State), s.atStep 7 = true → (s.boot.factoryReq && s.boot.tokenOk) = false →
    228000 ≤ zq.milliohm → zq.milliohm ≤ 252000 →
    ∃ t, exec (.pllLock zq) s = .next t ∧
      t = { s with ports := t.ports, boot.step := 8, pwr.refclk := true, pwr.corePll := true, pwr.fastRc := false,
                   pwr.zqTx := zq.tx, pwr.zqRx := zq.rx, pwr.zqBad := false, pwr.zqAt := some s.now } ∧
      (∀ p, p < 16 → s.portPresent p = true → t.port p = { s.port p with lnk.pll := true }) ∧
      (∀ p, p < 16 → s.portPresent p = false → t.port p = s.port p)) ∧
  (∀ (zq : ZqMeas) (s : State), s.atStep 7 = true → s.boot.factoryReq = true → s.boot.tokenOk = true → s.pins.shdnReqN = true →
    228000 ≤ zq.milliohm → zq.milliohm ≤ 252000 →
    ∃ t, exec (.pllLock zq) s = .next t ∧ t.mode = .factory ∧ t.boot.frozen = some s.us ∧ t.boot.step = 7 ∧
      t.pwr.corePll = true) ∧
  (∀ s : State, s.atStep 7 = true → s.holdCause = 0 →
    ∃ t, exec (.pllLockTimeout false) s = .next t ∧ t.mode = .hold ∧ t.holdCause = 3 ∧
      t.flt = { s.flt with holdAt := some (s.now, .boot) }) ∧
  (∀ s : State, s.atStep 7 = true → s.holdCause = 0 → s.quiet 3 →
    ∃ t, exec (.pllLockTimeout true) s = .next t ∧ t.mode = .hold ∧ t.holdCause = 3 ∧ t.pwr.refclk = false ∧
      (t.src 3).total = satInc (s.src 3).total)

/-- LAYER_INIT and KEY_DRAW_FALLBACK (R92, R93, R225, R364), with no layer failed, cool sensors and no source that asks for HOLD: a
draw that passed its health tests gives the interleave key and step 9 follows, step 10 where a fallback repeats the step; one that has
not is held, and with it the step; a draw that passes before the 10 ms have gone gives the key as if at once; else the fallback key is
formed from the raw output, BOOT_COUNT and DEVICE_ID with DEGR on source 231, 10 ms after the draw started, and what waited for it goes
on: the step of BOOT, or a wake. A failed layer under refuse-to-start enters HOLD with cause 0x05. -/
def Obligations.LayerInitDrawsTheKey : Prop :=
  (∀ (r : LayerInitRead) (s : State), s.atStep 8 = true → s.calm → r.key.healthy = true →
    (s.rep.keyPending = false → r.failed = []) → readingsBelow 105 115 r.readings → s.heldBelow 105 115 →
    ∃ t, exec (.layerInit r) s = .next t ∧
      t.rep.key = BitVec.ofNat 128 (shake256 r.key.raw).toNat ∧ t.rep.keyGen = s.rep.keyGen + 1 ∧ t.rep.keyFallback = false ∧
      t.rep.keyPending = false ∧ t.boot.initRead = none ∧ t.mode = .boot ∧ t.boot.step = if s.boot.rerun then 10 else 9) ∧
  (∀ (r : LayerInitRead) (s : State), s.atStep 8 = true → s.calm → s.rep.keyPending = false → r.key.healthy = false → r.failed = [] →
    ∃ t, exec (.layerInit r) s = .next t ∧ t.rep.keyPending = true ∧ t.rep.keyAt = s.now ∧ t.boot.initRead = some r ∧
      t.mode = .boot ∧ t.boot.step = 8 ∧ t.rep.key = s.rep.key) ∧
  (∀ (r : LayerInitRead) (s : State), s.atStep 8 = true → s.rep.keyPending = true → r.key.healthy = false →
    exec (.layerInit r) s = .next s) ∧
  (∀ (raw : List Byte) (r : LayerInitRead) (s : State), s.atStep 8 = true → s.calm → s.rep.keyPending = true →
    s.boot.initRead = some r → readingsBelow 105 115 r.readings → s.heldBelow 105 115 →
    ∃ t, exec (.keyDrawFallback raw) s = .next t ∧
      t.rep.key = BitVec.ofNat 128 (shake256 (raw ++ leBytes 4 s.jnl.bootCount.toNat
        ++ leBytes 16 (match s.otp.ident with | some i => i.deviceId.toNat | none => 0))).toNat ∧
      t.rep.keyFallback = true ∧ t.rep.keyPending = false ∧ t.rep.keyGen = s.rep.keyGen + 1 ∧ 2 ≤ t.srcClass 231 ∧
      t.now = max s.now (s.rep.keyAt + 10000000) ∧ t.mode = .boot ∧ t.boot.step = if s.boot.rerun then 10 else 9) ∧
  (∀ (raw : List Byte) (s : State), s.calm → s.rep.keyPending = true → s.sup.restarting = false → s.boot.initRead = none →
    ∃ t, exec (.keyDrawFallback raw) s = .next t ∧
      t.rep.key = BitVec.ofNat 128 (shake256 (raw ++ leBytes 4 s.jnl.bootCount.toNat
        ++ leBytes 16 (match s.otp.ident with | some i => i.deviceId.toNat | none => 0))).toNat ∧
      t.rep.keyFallback = true ∧ t.rep.keyPending = false ∧ t.rep.keyGen = s.rep.keyGen + 1 ∧ 2 ≤ t.srcClass 231 ∧
      t.now = max s.now (s.rep.keyAt + 10000000) ∧ t.mode = s.mode ∧
      t.pwr.wake = s.pwr.wake.map (fun w => { w with step := 6 })) ∧
  (∀ (r : LayerInitRead) (s u : State), s.atStep 8 = true → s.calm → s.holdCause = 0 → s.rep.keyPending = false → s.refuse = true →
    u = applyRepairs (excludeFailed s) → (∃ k ∈ r.failed, ∃ q, q < 32 ∧ u.sliceUsed q k.val = true) →
    ∃ t, exec (.layerInit r) s = .next t ∧ t.mode = .hold ∧ t.holdCause = 5 ∧ t.boot.step = 8)

/-- THERMAL_GATE (R93, R367) with no trip level read and no source that asks for HOLD: step 10 follows, the model set and the
divergence tests held for 50 ms, once every sensor stands below its Warning level less 3 °C; while one reads at or above it, the gate
waits. -/
def Obligations.ThermalGateWaitsForCoolSensors : Prop :=
  (∀ (l : List SensorReading) (s : State), s.atStep 9 = true → s.calm → readingsBelow 82 92 l → s.heldBelow 82 92 →
    ∃ t, exec (.thermalGate l) s = .next t ∧ t.mode = .boot ∧ t.boot.step = 10 ∧ t.boot.thermalWait = false ∧
      t.thm.testFrom = some (s.now + 50000000) ∧ t.thm.modelDiv = []) ∧
  (∀ (l : List SensorReading) (x : SensorId) (v : Temp) (s : State), s.atStep 9 = true → s.calm → readingsBelow 105 115 l →
    s.heldBelow 105 115 → readingsOk l = true → { sensor := x, value := some v } ∈ l →
    (match x with | .layerA k | .layerB k => (s.layer k.val).powered = true ∧ degC 82 ≤ v.val | .base _ => degC 92 ≤ v.val) →
    ∃ t, exec (.thermalGate l) s = .next t ∧ t.mode = .boot ∧ t.boot.step = 9 ∧ t.boot.thermalWait = true)

/-- TSV_TRAINING (R94, R96, R98, R259) where every pseudo-channel passes, or where the training of before the fallback stands: the
budget check is shown in GNT_CHECK; if it passes and the minimum set is met, bring-up of every enabled port starts and, while no port
is active, the wait for a partner; if it fails for the first time while the other copy has not been examined, step 5 is repeated with
cause 0x8; if it fails on the fallback, the stack enters HOLD with cause 0x02, and so it does where the other copy has failed already
(log 66). Without the minimum set the stack enters HOLD with cause 0x03 (R99), PARTNER_WAIT as it was (log 65). -/
def Obligations.TrainingEndsInBringUpFallbackOrHold : Prop :=
  ∀ (r : TrainRead) (s u : State), s.atStep 10 = true → r.failed = [] ∨ s.boot.rerun = true →
    u = (if s.boot.rerun = true then forN 32 trainRest s else trainAll r s) →
    (s.budgetCheck.getLsbD 1 = true → s.minimumSet = true → (∀ p, p < 16 → (s.port p).lnk.link ≠ .active) →
      ∃ t, exec (.tsvTraining r) s = .next t ∧ t.boot.step = 12 ∧ t.boot.partnerWait = true ∧ t.boot.rerun = false ∧
        t.gnt.check = s.budgetCheck ∧ t.mode = .boot ∧ t.mem = s.mem ∧ t.flt = s.flt ∧
        (∀ p, p < 16 → s.portUp p = true → (s.port p).lnk.link = .off → (s.port p).lnk.down = false →
          t.port p = { s.port p with lnk := { (s.port p).lnk with link := .detect, since := s.now } })) ∧
    (s.budgetCheck.getLsbD 1 = true → s.minimumSet = false → s.holdCause = 0 →
      ∃ t, exec (.tsvTraining r) s = .next t ∧ t.mode = .hold ∧ t.holdCause = 3 ∧ t.boot.partnerWait = s.boot.partnerWait) ∧
    (s.budgetCheck.getLsbD 1 = false → s.boot.rerun = false → s.boot.imageSel = 1 → (s.boot.causeB = 0xF ∨ s.boot.causeB = 1) →
      exec (.tsvTraining r) s = .next { u with
        boot.step := 5, boot.fallback := true, boot.rerun := true, boot.causeA := 8, gnt.check := s.budgetCheck
        gnt.rejected := s.budgetCheck }) ∧
    (s.budgetCheck.getLsbD 1 = false → s.boot.rerun = false → s.boot.imageSel = 2 → (s.boot.causeA = 0xF ∨ s.boot.causeA = 1) →
      exec (.tsvTraining r) s = .next { u with
        boot.step := 5, boot.fallback := true, boot.rerun := true, boot.causeB := 8, gnt.check := s.budgetCheck
        gnt.rejected := s.budgetCheck }) ∧
    (s.budgetCheck.getLsbD 1 = false → s.holdCause = 0 →
      s.boot.rerun = true ∨ (s.boot.imageSel = 1 ∧ s.boot.causeB ≠ 0xF ∧ s.boot.causeB ≠ 1) →
      ∃ t, exec (.tsvTraining r) s = .next t ∧ t.mode = .hold ∧ t.holdCause = 2 ∧ t.boot.fallback = s.boot.fallback)

/-- The supervisor pair (R22, R24, R100): a mismatch that does not escalate counts on source 1 and starts a restart, the first two of
BOOT too; the third mismatch of BOOT raises GRAVE and does not restart the pair again; at the end of a restart the repairs held back
are handed on in order and the writes held back act, and BOOT resumes at step 4. -/
def Obligations.SupervisorMismatchRestartsThePair : Prop :=
  (∀ s : State, s.sup.running = true → s.sup.restarting = false → s.mode ≠ .boot → s.quiet 1 →
    exec .lockstepMismatch s = .next { s.withEvent 1 with sup.restarting := true, sup.since := s.now }) ∧
  (∀ s : State, s.sup.running = true → s.sup.restarting = false → s.mode = .boot → s.boot.mismatches < 2 → s.quiet 1 →
    exec .lockstepMismatch s = .next { s.withEvent 1 with
      boot.mismatches := s.boot.mismatches + 1, sup.restarting := true, sup.since := s.now }) ∧
  (∀ s : State, s.sup.running = true → s.sup.restarting = false → s.mode = .boot → 2 ≤ s.boot.mismatches →
    s.holdCause = 0 →
    ∃ t, exec .lockstepMismatch s = .next t ∧ t.grave = true ∧ t.mode = .hold ∧ t.holdCause = 1 ∧ t.sup.restarting = false) ∧
  (∀ (l : List RepairReq) (s : State), s.sup.restarting = true → s.sup.queue = l.map SupAction.repair → s.mode ≠ .boot →
    (∀ q, q < 32 → (s.pc q).mg.mig = .idle) →
    exec .supervisorRestartDone s = .next { s with
      sup.restarting := false, sup.queue := [], pwr := s.pwr.release s.now, rep.todo := s.rep.todo ++ l }) ∧
  (∀ s : State, s.sup.restarting = true → s.sup.queue = [] → s.mode = .boot → (∀ q, q < 32 → (s.pc q).mg.mig = .idle) →
    exec .supervisorRestartDone s = .next { s with
      sup.restarting := false, sup.queue := [], pwr := s.pwr.release s.now, boot.step := if s.boot.resetHeld then 3 else 4
      boot.partnerWait := false, boot.thermalWait := false, boot.rerun := false, boot.initRead := none, rep.keyPending := false })

/-- A failed engine or controller of a working pair (R16, R17, R290): the mate takes over, both channels show the overlap, the pair's
bit of GLOVE_TAKEOVER is set, and no other channel's glove changes; the end of the calendar horizon ends the overlap of the pair's
two channels alone. -/
def Obligations.GloveMemberFailureIsTakenOver : Prop :=
  (∀ (i : PairId) (s : State), ∃ t, exec (.takeoverOverlapEnd i) s = .next t ∧
    t.chan (2 * i.val) = { s.chan (2 * i.val) with overlap := false } ∧
    t.chan (2 * i.val + 1) = { s.chan (2 * i.val + 1) with overlap := false } ∧
    (∀ j, j ≠ 2 * i.val → j ≠ 2 * i.val + 1 → t.chan j = s.chan j) ∧ t = { s with chans := t.chans }) ∧
  ∀ (n m : ChanId) (s : State), s.channelsRun = true → m.val = (if n.val % 2 = 0 then n.val + 1 else n.val - 1) →
    (s.chan n.val).glove = 0 → (s.chan m.val).glove = 0 →
    ∀ c : Instr, (c = .engineWatchdogExpiry n ∨ c = .controllerCheckerFault n) →
      ∃ t, exec c s = .next t ∧
        (t.chan n.val).glove = 1 ∧ (t.chan m.val).glove = 2 ∧ (t.chan n.val).overlap = true ∧ (t.chan m.val).overlap = true ∧
        t.takeover = s.takeover ||| BitVec.ofNat 8 (2 ^ (n.val / 2)) ∧ t.gnt.lastCause = 1 ∧
        (∀ j, j ≠ n.val → j ≠ m.val → t.chan j = s.chan j) ∧
        (s.calm → t.layers = s.layers ∧ t.mode = s.mode) ∧ t.otp = s.otp ∧ t.thm = s.thm ∧ t.att = s.att ∧ t.image = s.image ∧ t.now = s.now

/-- A second member of the same pair (R20): no controller is left for either channel, four pseudo-channels count as lost, and the
loss is not counted again when the failed member is reported once more. -/
def Obligations.SecondGloveFailureLosesThePair : Prop :=
  (∀ (n m : ChanId) (s : State), s.channelsRun = true → m.val = (if n.val % 2 = 0 then n.val + 1 else n.val - 1) →
    (s.chan m.val).glove = 1 → (s.chan n.val).glove = 2 →
    ∃ t, exec (.engineWatchdogExpiry n) s = .next t ∧ t.noController n.val = true ∧ t.noController m.val = true ∧
      t.rep.lossPcs = satAdd s.rep.lossPcs 4) ∧
  (∀ (n : ChanId) (s : State), s.channelsRun = true → (s.chan n.val).glove = 3 →
    ∃ t, exec (.engineWatchdogExpiry n) s = .next t ∧ t.rep.lossPcs = s.rep.lossPcs ∧ t.chans = s.chans)

/-- Loss of clocks (R42, R99, R400, R401, R403): the fast RC takes over with an event on source 3, in FACTORY and in BOOT before step 12
with nothing else; in SERVICE, and in RETAIN at P3, a loss of REFCLK, and of the core PLL's lock alone, loses the minimum service set:
GRAVE on source 14 and HOLD with cause 0x03; while BOOT waits at step 12, HOLD with cause 0x03. Of REFCLK at P4 or P5 only
REFCLK_LOST is set, a PLL at rest has no lock to lose. Discipline against a REFCLK that is present takes the deviation, and a step
above 0.5 % counts on source 4. -/
def Obligations.ClockLossFallsBackByRung : Prop :=
  (∀ (pllOnly : Bool) (s : State), s.pwrgood = true → s.pwr.rung ≤ 3 → s.quiet 3 →
    s.mode = .factory ∨ (s.mode = .boot ∧ s.boot.step ≠ 12) →
    exec (.clockLoss pllOnly) s = .next { s.withEvent 3 with
      pwr.refclk := pllOnly && s.pwr.refclk, pwr.freeRun := !pllOnly || s.pwr.freeRun, pwr.corePll := false, pwr.fastRc := true }) ∧
  (∀ s : State, s.pwrgood = true → 4 ≤ s.pwr.rung →
    exec (.clockLoss false) s = .next { s with
      pwr.refclk := false, pwr.freeRun := true, pwr.refclkLost := true, pwr.corePll := false } ∧
    exec (.clockLoss true) s = .next s) ∧
  (∀ (pllOnly : Bool) (s : State), s.pwrgood = true → s.mode = .service ∨ s.mode = .retain → s.pwr.rung ≤ 3 → s.calm →
    s.holdCause = 0 →
    ∃ t, exec (.clockLoss pllOnly) s = .next t ∧ t.pwr.refclk = (pllOnly && s.pwr.refclk) ∧ t.pwr.corePll = false ∧
      t.mode = .hold ∧ t.holdCause = 3 ∧ t.grave = true) ∧
  (∀ (pllOnly : Bool) (s : State), s.pwrgood = true → s.mode = .boot → s.boot.step = 12 → s.pwr.rung ≤ 3 → s.calm → s.holdCause = 0 →
    ∃ t, exec (.clockLoss pllOnly) s = .next t ∧ t.mode = .hold ∧ t.holdCause = 3 ∧ t.grave = s.grave) ∧
  (∀ (d : BitVec 16) (s : State), s.pwrgood = true → d.toInt.natAbs ≤ 5000 →
    exec (.aonClockDiscipline d) s = .next { s with pwr.aonDev := d, pwr.freeRun := false, pwr.refclk := true }) ∧
  (∀ (d : BitVec 16) (s : State), s.pwrgood = true → 5000 < d.toInt.natAbs → s.quiet 4 →
    exec (.aonClockDiscipline d) s = .next { s.withEvent 4 with pwr.aonDev := d, pwr.freeRun := false, pwr.refclk := true })

/-- The stages of bring-up (R164, R166): each command moves its port from the stage it belongs to into the next one, and changes
nothing else. A fenced port is left to the statement on retrains. -/
def Obligations.BringUpStagesFollowInOrder : Prop :=
  ∀ (p : PortId) (s : State),
    (∀ m : BitVec 4, (s.port p.val).lnk.link = .off → s.portUp p.val = true → (s.port p.val).lnk.down = false → s.portsRun = true →
      exec (.receiverDetectPulse p m) s = .next (s.updPort p.val (fun x => { x with
        lnk := { x.lnk with link := .detect, since := s.now, lastTerm := m } }))) ∧
    (∀ m : BitVec 4, (s.port p.val).lnk.link = .detect → (s.port p.val).lnk.backoff = false → (s.port p.val).fenced = false →
      m &&& (s.port p.val).lnk.lastTerm ≠ 0 →
      exec (.receiverDetectPulse p m) s = .next (s.updPort p.val (fun x => { x with
        lnk := { x.lnk with link := .train, since := s.now, lanesPresent := m &&& x.lnk.lastTerm, lastTerm := 0
                            partnerStarted := !x.lnk.mgmtStart } }))) ∧
    (∀ m : BitVec 4, (s.port p.val).lnk.link = .detect → (s.port p.val).lnk.backoff = false → m ≠ 0 →
      m &&& (s.port p.val).lnk.lastTerm = 0 →
      exec (.receiverDetectPulse p m) s = .next (s.updPort p.val (fun x => { x with lnk := { x.lnk with lastTerm := m } }))) ∧
    ((s.port p.val).lnk.link = .detect → (s.port p.val).lnk.backoff = false → (s.port p.val).lnk.lastTerm = 0 →
      exec (.receiverDetectPulse p 0) s = .next (s.updPort p.val (fun x => { x with lnk := { x.lnk with cause := 7 } }))) ∧
    ((s.port p.val).lnk.link = .train →
      exec (.trainComplete p) s = .next (s.updPort p.val (fun x => { x with
        lnk := { x.lnk with link := .bitlock, since := s.now, lanesTrained := x.lnk.lanesPresent } }))) ∧
    (∀ (m : BitVec 4) (n : Nat), (s.port p.val).lnk.link = .train → m &&& (s.port p.val).lnk.lanesPresent ≠ 0 →
      n = max s.now ((s.port p.val).lnk.since + 25000000) →
      exec (.trainTimeout p m) s = .next ({ s with now := n }.updPort p.val (fun x => { x with
        lnk := { x.lnk with link := .bitlock, since := n, lanesTrained := m &&& x.lnk.lanesPresent } }))) ∧
    (∀ (l v : BitVec 4), (s.port p.val).lnk.link = .bitlock → l &&& (s.port p.val).lnk.lanesTrained ≠ 0 →
      ∃ t, exec (.bitlockAcquired p l v) s = .next t ∧ t = { s with ports := t.ports } ∧ otherPorts p.val s t ∧
        t.port p.val = { s.port p.val with lnk := { (s.port p.val).lnk with
          link := .symlock, since := s.now, lanesBit := l &&& (s.port p.val).lnk.lanesTrained, lanes := (t.port p.val).lnk.lanes } } ∧
        ∀ i, i < 4 → (l &&& (s.port p.val).lnk.lanesTrained).getLsbD i = true →
          ((t.port p.val).lane i).polInv = v.getLsbD i ∧ ((t.port p.val).lane i).found = false) ∧
    ((s.port p.val).lnk.link = .detect → (s.port p.val).lnk.backoff = true →
      ∃ n, n = max s.now ((s.port p.val).lnk.since + 10000000 * min (s.port p.val).lnk.fails 16) ∧
        exec (.backoffEnd p) s = .next ({ s with now := n }.updPort p.val (fun x => { x with
          lnk := { x.lnk with backoff := false, since := n, lastTerm := 0 } })))

/-- SYMLOCK and the far-end loop and hush (R167 to R169, R177, R385): where the received blocks give every bit-locked lane a boundary
and deskew accepts some, CAPX begins on exactly the accepted lanes with the slips, lane numbers and delays found, and the stack's
capability message goes out; where every boundary lies within 200 UI of the latest, every bit-locked lane is accepted. -/
def Obligations.SymbolLockOpensCapabilityExchange : Prop :=
  ∀ (p : PortId) (s : State),
    (∀ found : List LaneFound, (s.port p.val).lnk.link = .symlock → (found.map (·.lane)).Nodup → (s.port p.val).deskew found ≠ [] →
      ∀ c : Instr, (c = .symlockTimeout p found ∨ (c = .symlockComplete p found ∧
          ∀ l : LaneId, (s.port p.val).lnk.lanesBit.getLsbD l.val = true → ∃ b ∈ found.filterMap (s.port p.val).boundary, b.lane = l.val)) →
        ∃ t, exec c s = .next t ∧ otherPorts p.val s t ∧ (t.port p.val).lnk.link = .capx ∧
          (∀ l : LaneId, (t.port p.val).lnk.lanesLocked.getLsbD l.val = true ↔ ∃ e ∈ (s.port p.val).deskew found, e.1.lane = l.val) ∧
          (t.port p.val).lnk.capCount = 0 ∧ (t.port p.val).lnk.capLast = 0 ∧
          (∀ e ∈ (s.port p.val).deskew found, (t.port p.val).lane e.1.lane = { (s.port p.val).lane e.1.lane with
            slip := BitVec.ofNat 4 e.1.slip, found := true, laneId := BitVec.ofNat 2 e.1.id, skew := BitVec.ofNat 8 e.2 }) ∧
          (t.port p.val).wire = (s.port p.val).wire ++ [.capx (t.capMessage p.val 0) ((t.port p.val).capLanesOut (t.capMessage p.val 0))] ∧
          t = { s with ports := t.ports, now := t.now }) ∧
    (∀ found : List LaneFound,
      (∀ a ∈ found.filterMap (s.port p.val).boundary, ∀ b ∈ found.filterMap (s.port p.val).boundary, aheadBy a b ≤ 200) →
      ((s.port p.val).deskew found).map (·.1) = found.filterMap (s.port p.val).boundary) ∧
    ((s.port p.val).lnk.link = .active → exec (.hushMarker p) s = .next (s.updPort p.val (fun x => { x with rxHush := true }))) ∧
    ((s.port p.val).lnk.link ≠ .active → exec (.hushMarker p) s = .next s) ∧
    ((s.port p.val).lnk.link = .loop → exec (.farEndLoopEnd p) s = .next (s.updPort p.val (·.toOff)))

/-- R169, R188, R206: the third identical message that echoes the stack's own, with a width at the port's maximum and a FEC mode in
common, makes the port ACTIVE on the lanes settled and begins a session with the books of R188 and the stack's INIT, which leaves in a
LINK flit. In SERVICE. -/
def Obligations.ThirdCapabilityMessageMakesThePortActive : Prop :=
  ∀ (p : PortId) (m : BitVec 128) (w f : Nat) (lanes : BitVec 4) (s : State),
    (s.port p.val).lnk.link = .capx → s.mode = .service → capCheckOk m = true → (s.port p.val).lnk.capLast = m →
    capEcho m = (s.port p.val).capHead p.val m → (s.port p.val).lnk.capCount = 2 → (s.port p.val).lnk.rl1 = false →
    capVersion m = 2 → capFar m = false → (s.port p.val).lnk.loopMode ≠ 3 →
    (s.port p.val).agree m = some (w, lanes, f) → w = (s.port p.val).widthMax → (s.port p.val).lnk.retraining = false →
    ∃ t, exec (.capxMessage p m) s = .next t ∧ otherPorts p.val s t ∧
      (t.port p.val).lnk.link = .active ∧ (t.port p.val).lnk.width = BitVec.ofNat 2 w ∧ (t.port p.val).lnk.fec = BitVec.ofNat 2 f ∧
      (t.port p.val).lnk.lanesActive = lanes ∧ (t.port p.val).lnk.txLanes = lanes ∧ (t.port p.val).lnk.rxLanes = lanes ∧
      (t.port p.val).rung = 0 ∧ (t.port p.val).lnk.fails = 0 ∧
      (t.port p.val).tx.session = true ∧ (t.port p.val).tx.nextSeq = 0 ∧ (t.port p.val).tx.peer0 = 64 ∧
      (t.port p.val).tx.peer1 = 128 ∧ (t.port p.val).tx.peer2 = 8 ∧ (t.port p.val).reqs = [] ∧
      (∃ c, (t.port p.val).wire = (s.port p.val).wire ++ c :: (t.port p.val).sent [(t.port p.val).linkFlit (.init 64 128 8 1024)]) ∧
      t.flt = s.flt ∧ t.otp = s.otp ∧ t.image = s.image ∧ t.mem = s.mem

/-- R35, R98, R238: the first port that becomes ACTIVE in step 12 with the minimum set met ends BOOT: SERVICE begins, the budget
windows of every present port start, and BOOT_TIME stops with PARTNER_WAIT 0. -/
def Obligations.FirstActivePortEntersService : Prop :=
  ∀ (p : PortId) (m : BitVec 128) (w f : Nat) (lanes : BitVec 4) (s : State),
    (s.port p.val).lnk.link = .capx → s.mode = .boot → s.boot.step = 12 → s.minimumSet = true → s.boot.frozen = none →
    capCheckOk m = true → (s.port p.val).lnk.capLast = m → capEcho m = (s.port p.val).capHead p.val m →
    (s.port p.val).lnk.capCount = 2 → (s.port p.val).lnk.rl1 = false → capVersion m = 2 → capFar m = false →
    (s.port p.val).lnk.loopMode ≠ 3 → (s.port p.val).agree m = some (w, lanes, f) → w = (s.port p.val).widthMax →
    (s.port p.val).lnk.retraining = false → s.att.lastLeaf = none → s.leafCount < 1024 → s.pins.shdnReqN = true →
    ∃ t, exec (.capxMessage p m) s = .next t ∧ t.mode = .service ∧ t.boot.partnerWait = false ∧ t.boot.frozen = some s.us ∧
      t.pwr.serviceAt = s.now ∧ t.flt = s.flt ∧ t.mem = s.mem ∧
      ∀ j, j < 16 → s.portPresent j = true → (t.port j).gnt.windowStart = some s.now ∧ (t.port j).gnt.spent = []

/-- R165: an attempt that fails waits: DETECT with BACKOFF, one more failure counted, cause 0x6, and one event on the port's
link-integrity source. Every timer that fails an attempt does this. -/
def Obligations.FailedAttemptsBackOff : Prop :=
  ∀ (p : PortId) (l : Link) (wait : Nat) (c : Instr) (s u : State), (s.port p.val).lnk.link = l →
    ((l = .train ∧ c = .trainTimeout p 0 ∧ wait = 25000000) ∨ (l = .bitlock ∧ c = .bitlockTimeout p ∧ wait = 2000000) ∨
      (l = .symlock ∧ c = .symlockTimeout p [] ∧ wait = 1000000) ∨ (l = .capx ∧ c = .capxTimeout p ∧ wait = 2000000)) →
    u = { s with now := max s.now ((s.port p.val).lnk.since + wait) } → u.quiet (srcLink p.val) →
    ∃ t, exec c s = .next t ∧ otherPorts p.val s t ∧ t.now = u.now ∧
      (t.port p.val).lnk.link = .detect ∧ (t.port p.val).lnk.backoff = true ∧ (t.port p.val).lnk.since = u.now ∧
      (t.port p.val).lnk.fails = (s.port p.val).lnk.fails + 1 ∧ (t.port p.val).lnk.cFailed = satInc (s.port p.val).lnk.cFailed ∧
      (t.port p.val).lnk.cause = 6 ∧ (t.port p.val).tx.session = false ∧
      (t.src (srcLink p.val)).total = satInc (s.src (srcLink p.val)).total ∧
      t.otp = s.otp ∧ t.thm = s.thm ∧ t.image = s.image ∧ t.rep = s.rep ∧ t.mem = s.mem

/-- Lane failure and changes of width (R163, R175, R176, R208, R260) on an ACTIVE port whose link-integrity source does not escalate and
has no HOLD reaction: a failure, counted from the width announced or in force, announces the narrower width with the sequence from
which the stack's flits use it; the partner's acknowledge, or a change of its own, puts the width in force, changes the receiving lanes
where every flit before its SWITCH_SEQ has come, and shrinks the port's admission. -/
def Obligations.LaneFailureNarrowsThePort : Prop :=
  ∀ (p : PortId) (s : State), (s.port p.val).lnk.link = .active → (s.srcReact (srcLink p.val)).testBit 8 = false →
    (∀ (b m : BitVec 4) (w : Nat) (l : BitVec 4), m = (s.port p.val).laneNumbers b → m &&& (s.port p.val).widthNow.2 ≠ 0 →
      s.quiet (srcLink p.val) → degradeTo (s.port p.val).widthNow.1 (s.port p.val).widthNow.2 m = some (w, l) →
      exec (.laneFailure p b) s = .next ((s.withEvent (srcLink p.val)).updPort p.val (fun x => { x with
        wire := x.wire ++ x.sent [x.linkFlit (.widthChange w l.toNat x.tx.nextSeq.toNat)]
        lnk := { x.lnk with cause := 4, widthReq := some (BitVec.ofNat 2 w, l)
                            widthAt := if x.lnk.widthReq.isSome then x.lnk.widthAt else s.now
                            txNext := some (l, x.tx.nextSeq), cDegrades := satInc x.lnk.cDegrades } }))) ∧
    (∀ (m : WidthMsg) (w : BitVec 2) (l : BitVec 4), (s.port p.val).lnk.widthReq = some (w, l) → m.width = w → m.lanes = l →
      (s.port p.val).lnk.retrainNext = false → w.toNat < (s.port p.val).widthMax →
      ∃ t, exec (.widthAck p m) s = .next t ∧ (t.port p.val).lnk.width = w ∧ (t.port p.val).lnk.lanesActive = l ∧
        (t.port p.val).lnk.widthReq = none ∧ (t.port p.val).lnk.loopTest = (s.port p.val).lnk.lanesActive &&& ~~~ l ∧
        (t.port p.val).lnk.txLanes = (s.port p.val).lnk.txLanes ∧ (t.port p.val).lnk.txNext = (s.port p.val).lnk.txNext ∧
        (if m.switchSeq = (s.port p.val).tx.expect ∨ 2048 ≤ (m.switchSeq - (s.port p.val).tx.expect).toNat
          then (t.port p.val).lnk.rxLanes = l ∧ (t.port p.val).lnk.rxNext = none
          else (t.port p.val).lnk.rxLanes = (s.port p.val).lnk.rxLanes ∧ (t.port p.val).lnk.rxNext = some (l, m.switchSeq)) ∧
        (t.port p.val).gnt.shrink = some (t.port p.val).limitNow ∧ t.gnt.lastCause = 2 ∧ t.mem = s.mem ∧
        2 ≤ t.srcClass (srcLink p.val)) ∧
    (∀ m : WidthMsg, m.width ≠ 0 → m.width.toNat < (s.port p.val).widthNow.1 + b2n (s.port p.val).lnk.widthReq.isSome →
      m.lanes &&& (s.port p.val).widthNow.2 = m.lanes →
      popBelow 4 m.lanes.toNat = 2 ^ (m.width.toNat - 1) → s.quiet (srcLink p.val) → (s.port p.val).lnk.retrainNext = false →
      m.width.toNat < (s.port p.val).widthMax →
      ∃ t, exec (.widthChange p m) s = .next t ∧ (t.port p.val).lnk.width = m.width ∧ (t.port p.val).lnk.lanesActive = m.lanes ∧
        (t.port p.val).lnk.cDegrades = satInc (s.port p.val).lnk.cDegrades ∧ t.gnt.lastCause = 2 ∧
        (t.port p.val).lnk.widthReq = none ∧ (t.port p.val).lnk.txNext = some (m.lanes, (s.port p.val).tx.nextSeq) ∧
        (t.port p.val).wire = (s.port p.val).wire ++ (s.port p.val).sent
          [(s.port p.val).linkFlit (.widthAck m.width.toNat m.lanes.toNat (s.port p.val).tx.nextSeq.toNat)] ∧ t.mem = s.mem)

/-- What sends an ACTIVE port into TRAIN with its session kept (R42, R99, R176, R206, R213, R403): a width change not agreed in time,
which may not widen the port, the partner's retrain, which lifts a fence whose hold-off has passed, and the loss of the port PLL, which
ends service where no other port carries the minimum set. A removed lane's background loop counts its errors and settles the side of
the fault. -/
def Obligations.RetrainsKeepTheSession : Prop :=
  ∀ (p : PortId) (s : State), (s.port p.val).lnk.link = .active →
    ((s.port p.val).lnk.widthReq.isSome = true →
      ∃ t, exec (.widthChangeTimeout p) s = .next t ∧ otherPorts p.val s t ∧ (t.port p.val).lnk.link = .train ∧
        (t.port p.val).lnk.cause = 4 ∧ (t.port p.val).lnk.retraining = true ∧ sameBooks (s.port p.val).tx (t.port p.val).tx ∧
        (t.port p.val).lnk.widthCap = some (s.port p.val).lnk.width.toNat ∧ (t.port p.val).lnk.theirs = false ∧
        (t.port p.val).reqs = (s.port p.val).reqs ∧ (s.port p.val).lnk.widthAt + 4000 ≤ t.now ∧ t.mem = s.mem ∧ t.flt = s.flt) ∧
    (∃ t, exec (.partnerRetrain p) s = .next t ∧ otherPorts p.val s t ∧ (t.port p.val).lnk.link = .train ∧
        (t.port p.val).lnk.cause = 1 ∧ (t.port p.val).lnk.cRetrains = satInc (s.port p.val).lnk.cRetrains ∧
        sameBooks (s.port p.val).tx (t.port p.val).tx ∧ (t.port p.val).lnk.theirs = true ∧ (t.port p.val).lnk.widthCap = none ∧
        t.mem = s.mem ∧ t.flt = s.flt ∧
        (t.port p.val).fenced = ((s.port p.val).fenced && !(decide ((s.port p.val).cfg.holdoff ≠ 0) &&
          decide ((s.port p.val).fencedAt + (s.port p.val).cfg.holdoff.toNat * 1000000 ≤ s.now)))) ∧
    (s.quiet (srcLink p.val) → (s.port p.val).lnk.pll = true →
      ((s.updPort p.val (fun x => { x with lnk := { x.lnk with pll := false } })).minimumSet = true →
        ∃ t, exec (.portPllLockLoss p) s = .next t ∧ otherPorts p.val s t ∧ (t.port p.val).lnk.link = .train ∧
          (t.port p.val).lnk.pll = false ∧ (t.port p.val).lnk.cause = 4 ∧ sameBooks (s.port p.val).tx (t.port p.val).tx ∧
          (t.src (srcLink p.val)).total = satInc (s.src (srcLink p.val)).total ∧ t.mem = s.mem) ∧
      ((s.updPort p.val (fun x => { x with lnk := { x.lnk with pll := false } })).minimumSet = false → s.mode = .service → s.holdCause = 0 →
        ∃ t, exec (.portPllLockLoss p) s = .next t ∧ t.mode = .hold ∧ t.holdCause = 3 ∧ (t.port p.val).lnk.link = .off)) ∧
    ((s.port p.val).lnk.loopTest ≠ 0 →
      (∀ e : List Nat, ∃ t, exec (.nearEndLoopResult p ⟨true, e⟩) s = .next t ∧ t = { s with ports := t.ports } ∧ otherPorts p.val s t ∧
        sameBooks (s.port p.val).tx (t.port p.val).tx ∧ (t.port p.val).lnk = { (s.port p.val).lnk with
          loopTest := 0, cause := 3, theirs := (s.port p.val).lnk.theirs || (s.port p.val).lnk.retraining
          lanes := (t.port p.val).lnk.lanes } ∧
        ∀ l, l < 4 → (t.port p.val).lane l = { (s.port p.val).lane l with
          prbsErr := if (s.port p.val).lnk.loopTest.getLsbD l then satAdd ((s.port p.val).lane l).prbsErr (e.getD l 0)
            else ((s.port p.val).lane l).prbsErr }) ∧
      ((s.srcReact (srcLink p.val)).testBit 8 = false → ∀ e : List Nat,
        ∃ t, exec (.nearEndLoopResult p ⟨false, e⟩) s = .next t ∧ (t.port p.val).lnk.cause = 5 ∧ (t.port p.val).lnk.loopTest = 0 ∧
          (s.counts (srcLink p.val) = true → s.collectorOff = false → 2 ≤ t.srcClass (srcLink p.val))))

/-- FLIT_RECEIVED (R172, R174, R180, R181, R187, R190, R197, R198) on a port in session at P0 whose lanes are good. An in-order SEQ
flit with good slots and credits for them advances the expected sequence, spends the partner's credits and puts what its slots hold in
the receive buffer; the CREDIT field of one adds to what is held, its ACK_SEQ takes what it names out of the replay buffer; a SEQ flit
from ahead asks for a replay once and the rest is discarded; one from behind is dropped; a codeword that cannot be corrected counts its
flits; a marker is read. As lanes deliver it, one codeword alone (R170 to R172, R174) is its flit where it can be corrected, and one
event of each of its flits where it cannot. -/
def Obligations.FlitsAreTakenInSequence : Prop :=
  ∀ (p : PortId) (cs : List Nat) (s u : State), (s.port p.val).inSession = true → (s.port p.val).rung = 0 →
    (s.port p.val).tx.replay.length ≤ 256 → (s.port p.val).lanesGood s.now cs → u = s.updPort p.val (fun x => { x with rxHush := false }) →
    (∀ (f : BitVec 1280) (a b : List RxItem), flitCrcOk f = true → f.toNat % 4 = 0 →
      BitVec.ofNat 12 (f.toNat % 2 ^ 32 / 4) = (s.port p.val).tx.expect →
      2048 ≤ (BitVec.ofNat 12 (f.toNat % 2 ^ 32 / 2 ^ 14) - (s.port p.val).oldest).toNat → bitsOf (f.toNat % 2 ^ 32) 31 30 = 3 →
      slotItems (flitSlot f 0) = some a → slotItems (flitSlot f 1) = some b →
      (∀ v, v < 3 → flitSlots f v ≤ (s.port p.val).peer v) → Port.plainRx ((s.port p.val).tx.rx ++ a ++ b) →
      ∃ t, exec (.flitReceived p (.flit f cs)) s = .next t ∧ t = { s with ports := t.ports, pmc := t.pmc } ∧
        otherPorts p.val s t ∧ (t.port p.val).tx = { (s.port p.val).tx with
          expect := (s.port p.val).tx.expect + 1, ackOut := (s.port p.val).tx.expect, discarding := false
          rx := (s.port p.val).tx.rx ++ a ++ b, peer0 := (s.port p.val).tx.peer0 - flitSlots f 0
          peer1 := (s.port p.val).tx.peer1 - flitSlots f 1, peer2 := (s.port p.val).tx.peer2 - flitSlots f 2 } ∧
        (t.port p.val).reqs = (s.port p.val).reqs ∧ (t.port p.val).outq = (s.port p.val).outq ∧
        (t.port p.val).aud.seqSinceAudit = true ∧
        ∀ l, l < 4 → ((t.port p.val).lane l).fecCorr =
          (if cs.getD l 0 = 0 then ((s.port p.val).lane l).fecCorr else satAdd ((s.port p.val).lane l).fecCorr (cs.getD l 0))) ∧
    (∀ (f : BitVec 1280) (d : Nat), flitCrcOk f = true → f.toNat % 4 = 0 →
      BitVec.ofNat 12 (f.toNat % 2 ^ 32 / 4) = (s.port p.val).tx.expect → Port.plainRx (s.port p.val).tx.rx →
      d = (BitVec.ofNat 12 (f.toNat % 2 ^ 32 / 2 ^ 14) - (s.port p.val).oldest).toNat → d < (s.port p.val).tx.replay.length →
      bitsOf (f.toNat % 2 ^ 32) 31 30 = 1 →
      (s.port p.val).tx.held1 + bitsOf (f.toNat % 2 ^ 32) 29 26 + 1 ≤ (s.port p.val).tx.grant1 →
      flitSlot f 0 = idleSlot → flitSlot f 1 = idleSlot →
      ∃ t, exec (.flitReceived p (.flit f cs)) s = .next t ∧ t = { s with ports := t.ports, pmc := t.pmc } ∧ otherPorts p.val s t ∧
        sameBooks { (s.port p.val).tx with
          expect := (s.port p.val).tx.expect + 1, ackOut := (s.port p.val).tx.expect, discarding := false, expiries := 0
          replay := (s.port p.val).tx.replay.drop (d + 1)
          held1 := (s.port p.val).tx.held1 + bitsOf (f.toNat % 2 ^ 32) 29 26 + 1 } (t.port p.val).tx) ∧
    (∀ f : BitVec 1280, (∀ l, l < 4 → cs.getD l 0 = 0) → flitCrcOk f = true → f.toNat % 4 = 0 →
      (s.port p.val).tx.discarding = false → BitVec.ofNat 12 (f.toNat % 2 ^ 32 / 4) - (s.port p.val).tx.expect ≠ 0 →
      (BitVec.ofNat 12 (f.toNat % 2 ^ 32 / 4) - (s.port p.val).tx.expect).toNat < 2048 →
      2048 ≤ (BitVec.ofNat 12 (f.toNat % 2 ^ 32 / 2 ^ 14) - (s.port p.val).oldest).toNat →
      exec (.flitReceived p (.flit f cs)) s = .next (u.updPort p.val (fun x => { x with
        wire := x.wire ++ x.sent [x.linkFlit (.retryReq x.tx.expect.toNat)]
        tx := { x.tx with discarding := true, retryAt := s.now, cRetrySent := satInc x.tx.cRetrySent } }))) ∧
    (∀ f : BitVec 1280, (∀ l, l < 4 → cs.getD l 0 = 0) → flitCrcOk f = true → f.toNat % 4 = 0 →
      2048 ≤ (BitVec.ofNat 12 (f.toNat % 2 ^ 32 / 4) - (s.port p.val).tx.expect).toNat →
      2048 ≤ (BitVec.ofNat 12 (f.toNat % 2 ^ 32 / 2 ^ 14) - (s.port p.val).oldest).toNat →
      exec (.flitReceived p (.flit f cs)) s = .next u) ∧
    (∀ n b, n ≠ 0 → s.quiet (srcLink p.val) →
      ∃ t, exec (.flitReceived p (.uncorrectable n b)) s = .next t ∧ otherPorts p.val s t ∧
        (t.port p.val).lnk.fecUncorr = satInc (s.port p.val).lnk.fecUncorr ∧
        (t.port p.val).tx.discarding = ((s.port p.val).tx.discarding || b) ∧ (t.port p.val).tx.expect = (s.port p.val).tx.expect ∧
        (t.src (srcLink p.val)).total = satAdd (satInc (s.src (srcLink p.val)).total) (n - 1) ∧ t.mem = s.mem) ∧
    (∀ blocks : List (BitVec 640), (s.port p.val).lnk.rl1 = true → (∀ l, l < 4 → cs.getD l 0 = 0) →
      (∀ j ∈ lanesOf (s.port p.val).lnk.rxLanes,
        ∃ n, blockHead (blocks.getD ((s.port p.val).receiver j) 0).toNat 0 = some (j, n)) →
      ∃ t, exec (.flitReceived p (.marker blocks)) s = .next t ∧ t = { s with ports := t.ports } ∧ otherPorts p.val s t ∧
        (t.port p.val).tx = (s.port p.val).tx ∧ (t.port p.val).lnk.link = .active ∧
        ∀ j ∈ lanesOf (s.port p.val).lnk.rxLanes, ((t.port p.val).lane ((s.port p.val).receiver j)).missed = 0) ∧
    ((s.port p.val).lnk.rxNext = none →
      (∀ (l : List (List (BitVec 10))) (b : Bool) (f : BitVec 1280) (c : List Nat), (s.port p.val).codewords = 1 →
        (s.port p.val).decodeWord ((s.port p.val).gather l 0) = some ([f], c) → flitCrcOk f = true →
        exec (.flitReceived p (.lanes l b)) s = exec (.flitReceived p (.flit f c)) s) ∧
      (∀ (l : List (List (BitVec 10))) (b : Bool), (s.port p.val).codewords = 1 →
        (s.port p.val).decodeWord ((s.port p.val).gather l 0) = none → s.quiet (srcLink p.val) → (∀ i, i < 4 → cs.getD i 0 = 0) →
        ∃ t, exec (.flitReceived p (.lanes l b)) s = .next t ∧ otherPorts p.val s t ∧
          (t.port p.val).lnk.fecUncorr = satInc (s.port p.val).lnk.fecUncorr ∧
          (t.port p.val).tx.discarding = ((s.port p.val).tx.discarding || b) ∧
          (t.src (srcLink p.val)).total = satAdd (satInc (s.src (srcLink p.val)).total) ((s.port p.val).flitsPerWord - 1) ∧
          t.mem = s.mem))

/-- INIT, its resend and its timer (R188): grants within the limits open the session with all credits held; others, and an INIT that
does not come, fail the attempt; the stack repeats its own 1 µs after the last. -/
def Obligations.InitOpensTheSession : Prop :=
  ∀ (p : PortId) (s : State), (s.port p.val).lnk.link = .active → (s.port p.val).tx.session = true →
    (s.port p.val).tx.initRcvd = false →
    (∀ g0 g1 g2 n : BitVec 16, (s.port p.val).aud.resync = none → g0 = 0 → 16 ≤ g1.toNat → 4 ≤ g2.toNat →
      ∃ t, exec (.init p g0 g1 g2 n) s = .next t ∧ t = { s with ports := t.ports } ∧ otherPorts p.val s t ∧
        t.port p.val = { s.port p.val with tx := (t.port p.val).tx } ∧ sameBooks { (s.port p.val).tx with
          initRcvd := true, grant1 := g1.toNat, grant2 := g2.toNat, held1 := g1.toNat, held2 := g2.toNat } (t.port p.val).tx) ∧
    (∀ g0 g1 g2 n : BitVec 16, (s.port p.val).aud.resync = none → (g0 ≠ 0 ∨ g1.toNat < 16 ∨ g2.toNat < 4) → s.quiet (srcLink p.val) →
      ∃ t, exec (.init p g0 g1 g2 n) s = .next t ∧ (t.port p.val).lnk.link = .detect ∧ (t.port p.val).lnk.backoff = true ∧
        (t.port p.val).tx.session = false) ∧
    (∀ n, n = max s.now ((s.port p.val).tx.initAt + 1000) →
      exec (.initResend p) s = .next ({ s with now := n }.updPort p.val (fun x => { x with
        wire := x.wire ++ x.sent [x.linkFlit (.init 64 128 8 1024)], tx := { x.tx with initAt := n } }))) ∧
    (∀ u : State, u = { s with now := max s.now ((s.port p.val).lnk.since + 2000000) } → u.quiet (srcLink p.val) →
      ∃ t, exec (.initTimeout p) s = .next t ∧ (t.port p.val).lnk.link = .detect ∧ (t.port p.val).lnk.backoff = true ∧
        (t.port p.val).lnk.cFailed = satInc (s.port p.val).lnk.cFailed ∧ t.now = u.now)

/-- Replay (R197, R198, R199, R200): a RETRY_REQ for an unacknowledged sequence, not repeated within 1 µs, and the replay timer send
the flits of the buffer from there again with the newest ACK_SEQ; one that names no unacknowledged flit, or comes again within 1 µs, is
violation 7; at the eighth expiry the port retrains for the partner's sake; the stack repeats its own RETRY_REQ 1 µs after the last. -/
def Obligations.ReplayResendsWhatIsNotAcknowledged : Prop :=
  ∀ (p : PortId) (s : State), (s.port p.val).inSession = true →
    (∀ n a : BitVec 12, (∀ m t, (s.port p.val).tx.lastRetry = some (m, t) → m ≠ n ∨ t + 1000 ≤ s.now) →
      2048 ≤ (a - (s.port p.val).oldest).toNat → (s.port p.val).tx.replay.length ≤ 256 →
      (n - (s.port p.val).oldest).toNat < (s.port p.val).tx.replay.length →
      ∃ t, exec (.retryReq p n a) s = .next t ∧ t = { s with ports := t.ports, pmc := t.pmc } ∧ otherPorts p.val s t ∧
        (t.port p.val).wire = (s.port p.val).wire ++ (s.port p.val).sent
          (((s.port p.val).tx.replay.drop (n - (s.port p.val).oldest).toNat).map (s.port p.val).seqFlit) ∧
        (t.port p.val).tx.cReplays = satInc (s.port p.val).tx.cReplays ∧
        (t.port p.val).tx.replay.map (fun f => (f.seq, f.slots, f.credit)) =
          (s.port p.val).tx.replay.map (fun f => (f.seq, f.slots, f.credit)) ∧
        (t.port p.val).tx.lastRetry = some (n, s.now) ∧ (t.port p.val).tx.nextSeq = (s.port p.val).tx.nextSeq) ∧
    (∀ n a : BitVec 12, 2048 ≤ (a - (s.port p.val).oldest).toNat → (s.port p.val).tx.replay.length ≤ 256 →
      ((s.port p.val).tx.replay.length ≤ (n - (s.port p.val).oldest).toNat ∨
        ∃ t, (s.port p.val).tx.lastRetry = some (n, t) ∧ s.now < t + 1000) →
      s.quiet (srcProto p.val) →
      ∃ t, exec (.retryReq p n a) s = .next t ∧ (t.port p.val).protoLast = 7 ∧
        (t.port p.val).protoCount = satInc (s.port p.val).protoCount ∧ (t.port p.val).tx.replay = (s.port p.val).tx.replay ∧
        (t.port p.val).wire = (s.port p.val).wire ∧ (t.src (srcProto p.val)).total = satInc (s.src (srcProto p.val)).total) ∧
    (∀ (f : SentFlit) (l : List SentFlit), (s.port p.val).tx.replay = f :: l → (s.port p.val).tx.expiries < 7 →
      ∃ t, exec (.replayTimeout p) s = .next t ∧ t = { s with ports := t.ports, pmc := t.pmc, now := t.now } ∧
        otherPorts p.val s t ∧ f.sentAt + 1000 ≤ t.now ∧ (t.port p.val).tx.expiries = (s.port p.val).tx.expiries + 1 ∧
        (t.port p.val).wire = (s.port p.val).wire ++ (s.port p.val).sent ((f :: l).map (s.port p.val).seqFlit) ∧
        ∀ g ∈ (t.port p.val).tx.replay, g.sentAt = t.now) ∧
    (∀ (f : SentFlit) (l : List SentFlit), (s.port p.val).tx.replay = f :: l → (s.port p.val).tx.expiries = 7 →
      State.quiet (srcStall p.val) { s with now := max s.now (f.sentAt + 1000) } →
      ∃ t, exec (.replayTimeout p) s = .next t ∧ (t.port p.val).lnk.link = .train ∧ (t.port p.val).lnk.cause = 6 ∧
        (t.port p.val).lnk.theirs = true ∧ (t.port p.val).tx.withheldFrom.isSome = true ∧
        (t.port p.val).tx.expiries = 0 ∧ (t.port p.val).tx.replay = (s.port p.val).tx.replay) ∧
    (∀ n, n = max s.now ((s.port p.val).tx.retryAt + 1000) → (s.port p.val).tx.discarding = true →
      exec (.retryReqResend p) s = .next ({ s with now := n }.updPort p.val (fun x => { x with
        wire := x.wire ++ x.sent [x.linkFlit (.retryReq x.tx.expect.toNat)]
        tx := { x.tx with cRetrySent := satInc x.tx.cRetrySent, retryAt := n } })))

/-- Credits (R189, R190, R201, R211): returns within the grant are added to what is held; the surplus of a return beyond the grant is
ignored as violation 9; credits due on one virtual channel are given back by a flit of IDLE slots, those due on several by a CREDIT
message; a response that waits without VC1 credit counts on the stall source after each 100 µs. -/
def Obligations.CreditsStayWithinTheGrants : Prop :=
  ∀ (p : PortId) (s u : State), (s.port p.val).inSession = true → u = takeMsg p.val 0x10 s →
    (∀ r1 r2 : BitVec 16, (s.port p.val).tx.held1 + r1.toNat ≤ (s.port p.val).tx.grant1 →
      (s.port p.val).tx.held2 + r2.toNat ≤ (s.port p.val).tx.grant2 →
      ∃ t, exec (.credit p 0 r1 r2) s = .next t ∧ t = { s with ports := t.ports } ∧ otherPorts p.val s t ∧
        sameBooks { (u.port p.val).tx with held1 := (s.port p.val).tx.held1 + r1.toNat, held2 := (s.port p.val).tx.held2 + r2.toNat }
          (t.port p.val).tx ∧
        (t.port p.val).aud = { (s.port p.val).aud with
          retRcvd1 := (s.port p.val).aud.retRcvd1 + r1, retRcvd2 := (s.port p.val).aud.retRcvd2 + r2 }) ∧
    (∀ r1 : BitVec 16, (s.port p.val).tx.held1 ≤ (s.port p.val).tx.grant1 →
      (s.port p.val).tx.grant1 < (s.port p.val).tx.held1 + r1.toNat → s.quiet (srcProto p.val) →
      ∃ t, exec (.credit p 0 r1 0) s = .next t ∧ (t.port p.val).tx.held1 = (s.port p.val).tx.grant1 ∧
        (t.port p.val).protoLast = 9 ∧ (t.src (srcProto p.val)).total = satInc (s.src (srcProto p.val)).total) ∧
    ((s.port p.val).maySend = true → 0 < (s.port p.val).tx.due0 → (s.port p.val).tx.due0 ≤ 16 → (s.port p.val).tx.due1 = 0 →
      (s.port p.val).tx.due2 = 0 →
      ∃ t f, exec (.creditReturnDue p) s = .next t ∧ t = { s with ports := t.ports, pmc := t.pmc } ∧ otherPorts p.val s t ∧
        (t.port p.val).tx.due0 = 0 ∧ (t.port p.val).tx.peer0 = (s.port p.val).tx.peer0 + (s.port p.val).tx.due0 ∧
        (t.port p.val).tx.nextSeq = (s.port p.val).tx.nextSeq + 1 ∧ (t.port p.val).tx.replay = (s.port p.val).tx.replay ++ [f] ∧
        f.seq = (s.port p.val).tx.nextSeq.toNat ∧ f.slots = [.idle, .idle] ∧ f.credit = some (0, (s.port p.val).tx.due0) ∧
        (t.port p.val).tx.held1 = (s.port p.val).tx.held1 ∧ (t.port p.val).tx.held2 = (s.port p.val).tx.held2) ∧
    ((s.port p.val).maySend = true → 0 < (s.port p.val).tx.due0 → 0 < (s.port p.val).tx.due1 → 0 < (s.port p.val).tx.held2 →
      ∃ t f, exec (.creditReturnDue p) s = .next t ∧ t = { s with ports := t.ports, pmc := t.pmc } ∧ otherPorts p.val s t ∧
        (t.port p.val).tx.due0 = 0 ∧ (t.port p.val).tx.due1 = 0 ∧ (t.port p.val).tx.due2 = 0 ∧
        (t.port p.val).tx.peer1 = (s.port p.val).tx.peer1 + (s.port p.val).tx.due1 ∧
        (t.port p.val).tx.held2 = (s.port p.val).tx.held2 - 1 ∧ (t.port p.val).tx.replay = (s.port p.val).tx.replay ++ [f] ∧
        f.credit = none ∧
        f.slots = [.ctrl (.credit (s.port p.val).tx.due0 (s.port p.val).tx.due1 (s.port p.val).tx.due2), .idle]) ∧
    (∀ n, (s.port p.val).dry = true → n = max s.now ((s.port p.val).tx.dryFrom.getD s.now + 100000) →
      State.quiet (srcStall p.val) { s with now := n } →
      exec (.vc1CreditStall p) s = .next ((State.withEvent (srcStall p.val) { s with now := n }).updPort p.val (fun x => { x with
        tx := { x.tx with dryFrom := some n } })))

/-- RESPONSE_SEND (R183, R184, R190, R191, R196): a completion header that waits alone leaves in a SEQ flit with one VC1 credit, closes
its tag, and stays in the replay buffer; without the credit nothing leaves. -/
def Obligations.ResponsesLeaveWithACredit : Prop :=
  ∀ (p : PortId) (r : Req) (st : Status) (s : State), (s.port p.val).maySend = true → (s.port p.val).rung = 0 →
    (s.port p.val).outq = [completion r st] → (s.port p.val).reqs = [r] → s.signing p.val = false → s.bist.shutDown = false →
    (s.port p.val).tx.due0 = 0 → (s.port p.val).tx.due1 = 0 → (s.port p.val).tx.due2 = 0 →
    (0 < (s.port p.val).tx.held1 →
      ∃ t f, exec (.responseSend p) s = .next t ∧ t = { s with ports := t.ports, pmc := t.pmc, gnt := t.gnt } ∧ otherPorts p.val s t ∧
        (t.port p.val).outq = [] ∧ (t.port p.val).reqs = [] ∧ (t.port p.val).tx.held1 = (s.port p.val).tx.held1 - 1 ∧
        (t.port p.val).tx.nextSeq = (s.port p.val).tx.nextSeq + 1 ∧
        (t.port p.val).aud.tagCloseCnt = (s.port p.val).aud.tagCloseCnt + 1 ∧
        (t.port p.val).tx.replay = (s.port p.val).tx.replay ++ [f] ∧ f.seq = (s.port p.val).tx.nextSeq.toNat ∧
        f.slots = [.completions [(r.op.code, r.tag, st)], .idle] ∧
        ((s.port p.val).lnk.txNext = none → ∃ x : Port, x.lnk = (s.port p.val).lnk ∧ x.tx.ackOut = (s.port p.val).tx.ackOut ∧
          x.tx.nextSeq = (s.port p.val).tx.nextSeq + 1 ∧ (t.port p.val).wire = (s.port p.val).wire ++ x.sent [(s.port p.val).seqFlit f])) ∧
    ((s.port p.val).tx.held1 = 0 → r.phase ≠ .mgmt →
      ∃ t, exec (.responseSend p) s = .next t ∧ t = { s with ports := t.ports } ∧ otherPorts p.val s t ∧
        t.port p.val = { s.port p.val with tx := (t.port p.val).tx } ∧ sameBooks (s.port p.val).tx (t.port p.val).tx)

/-- Audits and resynchronisation (R203, R204, R205): a matching reply closes the audit; a mismatch, and a reply that does not come within
4 µs, count on book imbalance and start a resynchronisation with RESYNC_REQ; RESYNC_ACK sets the books from what each end holds, keeps
what the partner has not received for the replay, answers RESYNC_DONE and opens a new audit; a request that is not answered is sent
again 1 µs after the last, and after 16 resends the port retrains. -/
def Obligations.AuditsGuardTheBooks : Prop :=
  ∀ (p : PortId) (s : State), (s.port p.val).inSession = true →
    (∀ (m : AuditMsg) (u : State), u = takeMsg p.val 0x11 s → (∃ a ∈ (s.port p.val).aud.auditOpen, a.id = m.id) →
      ((s.port p.val).auditMatches m = true →
        exec (.audit p m) s = .next (u.updPort p.val (fun x => { x with aud := { x.aud with
          auditOpen := x.aud.auditOpen.filter (fun a => decide (a.id ≠ m.id)), snap := none } }))) ∧
      ((s.port p.val).auditMatches m = false → s.calm →
        ∃ t, exec (.audit p m) s = .next t ∧ t.mode = s.mode ∧ (t.port p.val).aud.resync = some (2, 0) ∧
          (t.port p.val).aud.auditOpen = [] ∧ (t.port p.val).aud.auditFails = satInc (s.port p.val).aud.auditFails ∧
          (s.quiet (srcBook p.val) → (t.src (srcBook p.val)).total = satInc (s.src (srcBook p.val)).total) ∧ t.mem = s.mem)) ∧
    (∀ m : AuditMsg, (∀ a ∈ (s.port p.val).aud.auditOpen, a.id ≠ m.id) → exec (.audit p m) s = .next (takeMsg p.val 0x11 s)) ∧
    (∀ (a : AuditOpen) (l : List AuditOpen) (u : State), (s.port p.val).aud.auditOpen = a :: l → s.calm →
      u = { s with now := max s.now (a.sentAt + 4000) } →
      ∃ t, exec (.auditTimeout p) s = .next t ∧ t.now = u.now ∧ t.mode = s.mode ∧ (t.port p.val).aud.resync = some (3, 0) ∧
        (t.port p.val).aud.auditFails = satInc (s.port p.val).aud.auditFails ∧ (t.port p.val).aud.auditOpen = [] ∧ t.mem = s.mem ∧
        (u.quiet (srcBook p.val) → otherPorts p.val s t ∧
          (t.src (srcBook p.val)).total = satInc (s.src (srcBook p.val)).total ∧
          (t.port p.val).wire = (s.port p.val).wire ++ (s.port p.val).sent
            [(s.port p.val).linkFlit (.resyncReq (s.port p.val).tx.expect.toNat 3)])) ∧
    (∀ (n : BitVec 12) (g0 g1 g2 : BitVec 16) (x : Nat × Nat) (d : Nat), (s.port p.val).aud.resync = some x →
      d = (n - (s.port p.val).oldest).toNat →
      ∃ t, exec (.resyncAck p n g0 g1 g2) s = .next t ∧ t = { s with ports := t.ports, pmc := t.pmc } ∧ otherPorts p.val s t ∧
        (t.port p.val).tx.held1 = g1.toNat ∧ (t.port p.val).tx.held2 = g2.toNat ∧ (t.port p.val).tx.grant1 = g1.toNat ∧
        (t.port p.val).tx.grant2 = g2.toNat ∧ (t.port p.val).tx.peer0 = 64 - (s.port p.val).buffered 0 ∧
        (t.port p.val).tx.peer1 = 128 - (s.port p.val).buffered 1 ∧ (t.port p.val).tx.peer2 = 8 - (s.port p.val).buffered 2 ∧
        (t.port p.val).aud.resync = none ∧ (t.port p.val).tx.nextSeq = (s.port p.val).tx.nextSeq ∧
        (t.port p.val).tx.replay.map (fun f => (f.seq, f.slots)) =
          ((s.port p.val).tx.replay.drop (if d ≤ (s.port p.val).tx.replay.length then d else 0)).map (fun f => (f.seq, f.slots)) ∧
        ((s.port p.val).tx.replay = [] → (t.port p.val).wire = (s.port p.val).wire ++ (s.port p.val).sent
          [(s.port p.val).linkFlit (.resyncDone (s.port p.val).tx.expect.toNat (64 - (s.port p.val).buffered 0)
            (128 - (s.port p.val).buffered 1) (8 - (s.port p.val).buffered 2))]) ∧
        ∃ i, (t.port p.val).outq = (s.port p.val).outq ++ [{ slot := .ctrl (.audit i 0 0 0 0 0 0 0 0) }]) ∧
    (∀ (c n now : Nat), (s.port p.val).aud.resync = some (c, n) → n < 16 → now = max s.now ((s.port p.val).tx.resyncAt + 1000) →
      exec (.resyncResend p) s = .next ({ s with now := now }.updPort p.val (fun x => { x with
        wire := x.wire ++ x.sent [x.linkFlit (.resyncReq x.tx.expect.toNat c)]
        aud := { x.aud with resync := some (c, n + 1) }, tx := { x.tx with resyncAt := now } }))) ∧
    (∀ c : Nat, (s.port p.val).aud.resync = some (c, 16) →
      State.quiet (srcStall p.val) { s with now := max s.now ((s.port p.val).tx.resyncAt + 1000) } →
      ∃ t, exec (.resyncResend p) s = .next t ∧ (t.port p.val).lnk.link = .train ∧ (t.port p.val).lnk.cause = 6 ∧
        (t.port p.val).lnk.theirs = true)

/-- The checks of a request header in their order (R183, R184, R191, R211, R212, R216), for every data request whose turn it is, on a
port in session whose receive buffer holds no header with an OPCODE outside the table: a wrong HCHECK, a tag still open, a fenced port,
a header that is not allowed, and a block outside the windows; a write that passes them waits for its data. Before them the request's
arrival brings the port to P0 and abandons a move to RETAIN (R34, R381). -/
def Obligations.RequestHeadersAreCheckedInOrder : Prop :=
  ∀ (p : PortId) (op : Op) (h : ReqHeader) (c : Instr) (r : Req) (b : BitVec 96) (s u : State), (s.port p.val).inSession = true →
    b = BitVec.ofNat 96 (headerBits op.code h + h.hcheck.toNat * 2 ^ 80) →
    (s.port p.val).inTurn b = true → Port.plainRx (s.port p.val).tx.rx →
    r = { newReq op h s.now with exit := match (s.port p.val).rung.toNat with | 2 => 180 | 3 => 1980 | _ => 0 } →
    u = requestArrives p.val (if (s.port p.val).tx.rx.any (RxItem.isHeader b) = true then s.updPort p.val (·.dropHeader) else s) →
    ((op = .rd64 ∧ c = .rd64 p h) ∨ (op = .rd128 ∧ c = .rd128 p h) ∨ (op = .wr64 ∧ c = .wr64 p h) ∨ (op = .wrm64 ∧ c = .wrm64 p h) ∨
      (op = .fill ∧ c = .fill p h)) →
    ((s.port p.val).tx.rx = [] → (s.port p.val).rung = 0 → s.pwr.entry = none → u = s) ∧
    (hcheckOk op.code h = false → u.quiet (srcProto p.val) →
      exec c s = .next ((u.withEvent (srcProto p.val)).updPort p.val (fun x => { x with
        protoLast := 2, protoCount := satInc x.protoCount }))) ∧
    (hcheckOk op.code h = true → (∃ e ∈ (s.port p.val).reqs, e.tag = h.tag.toNat) → u.quiet (srcProto p.val) →
      exec c s = .next ((u.withEvent (srcProto p.val)).updPort p.val (fun x => { x with
        protoLast := 4, protoCount := satInc x.protoCount }))) ∧
    (hcheckOk op.code h = true → (∀ e ∈ (s.port p.val).reqs, e.tag ≠ h.tag.toNat) →
      ((s.port p.val).fenced = true →
        exec c s = .next (u.updPort p.val (fun x => { x with
          reqs := x.reqs ++ [{ r with phase := .answered }], outq := x.outq ++ [completion r .fenced]
          mute := if op.writes = true then x.mute ++ [h.tag.toNat] else x.mute }))) ∧
      ((s.port p.val).fenced = false → headerAllowed op h = false →
        exec c s = .next (u.updPort p.val (fun x => { x with
          reqs := x.reqs ++ [{ r with phase := .answered }], outq := x.outq ++ [completion r .unsupported] }))) ∧
      ((s.port p.val).fenced = false → headerAllowed op h = true → (s.port p.val).translate h.block.toNat op.writes = none →
        u.quiet (srcProto p.val) →
        exec c s = .next ((u.withEvent (srcProto p.val)).updPort p.val (fun x => { x with
          reqs := x.reqs ++ [{ r with phase := .answered }], outq := x.outq ++ [completion r .windowFault]
          protoLast := 6, protoCount := satInc x.protoCount }))) ∧
      (∀ d, (s.port p.val).fenced = false → headerAllowed op h = true → op.writes = true →
        (s.port p.val).translate h.block.toNat true = some d →
        exec c s = .next (u.updPort p.val (fun x => { x with reqs := x.reqs ++ [{ r with dev := d, phase := .waitData }] }))))

/-- WRITE_DATA (R192, R255): data of a tag answered FENCED is discarded in silence, once; data without an open write is violation 5; data of
an open write whose MASK its opcode does not allow is answered UNSUPPORTED; otherwise the data is the request's and the request goes
to the gauntlet in that tick. -/
def Obligations.WriteDataMeetsItsRequest : Prop :=
  ∀ (p : PortId) (d : DataSlot) (s u : State), (s.port p.val).inSession = true → dataSlotOk d = true →
    u = (if (s.port p.val).tx.rx.any (RxItem.isData d) = true
      then s.updPort p.val (fun x => { x with tx.rx := dropFirst (RxItem.isData d) x.tx.rx }.due 1) else s) →
    (d.tag.toNat ∈ (s.port p.val).mute →
      ∃ t, exec (.writeData p d) s = .next t ∧ t = { s with ports := t.ports } ∧ otherPorts p.val s t ∧
        t.port p.val = { u.port p.val with mute := (t.port p.val).mute } ∧
        (t.port p.val).mute.length + 1 = (s.port p.val).mute.length) ∧
    (d.tag.toNat ∉ (s.port p.val).mute → (∀ r ∈ (s.port p.val).reqs, r.tag = d.tag.toNat → r.op.writes = false ∨ r.gotData = true) →
      s.quiet (srcProto p.val) →
      exec (.writeData p d) s = .next ((u.withEvent (srcProto p.val)).updPort p.val (fun x => { x with
        protoLast := 5, protoCount := satInc x.protoCount }))) ∧
    (∀ r : Req, d.tag.toNat ∉ (s.port p.val).mute → (s.port p.val).reqs = [r] → r.tag = d.tag.toNat → r.op.writes = true → r.gotData = false →
      r.phase = .waitData →
      (r.op ≠ .wrm64 → d.mask ≠ BitVec.allOnes 64 →
        exec (.writeData p d) s = .next (u.updPort p.val (fun x => { x with
          reqs := [{ r with gotData := true, mask := d.mask, data := d.data, phase := .answered }]
          outq := x.outq ++ [completion r .unsupported] }))) ∧
      (r.op = .wrm64 ∨ d.mask = BitVec.allOnes 64 →
        ∃ t q, exec (.writeData p d) s = .next t ∧ (t.port p.val).reqs = [q] ∧ q.tag = r.tag ∧ q.gotData = true ∧ q.mask = d.mask ∧
          q.data = d.data ∧ q.arrival = s.now ∧ q.phase ≠ .waitData ∧ t.mem = s.mem))

/-- MREAD and MATTEST (R23, R34, R209, R210, R456), whose turn it is, with nothing of the port waiting or being signed: an MREAD of a
page of the table is answered with its 64 bytes; of another page UNSUPPORTED; a MATTEST goes to the attestation unit in order of
arrival, on a fenced port it is answered FENCED, with ATTEST_PERIOD 0 UNSUPPORTED, and within the period of the last report or in a
supervisor restart BUSY. -/
def Obligations.ManagementRequestsAreAnswered : Prop :=
  ∀ (p : PortId) (op : Op) (h : ReqHeader) (n : BitVec 256) (b : BitVec 96) (s u : State), (s.port p.val).inSession = true →
    (op = .mread ∨ op = .mattest) → b = BitVec.ofNat 96 (headerBits op.code h + h.hcheck.toNat * 2 ^ 80) →
    ((s.port p.val).tx.rx.any (RxItem.isMgmtReq b) = true →
      ((s.port p.val).tx.rx.find? (RxItem.isMsg 0x12)).any (RxItem.isMgmtReq b) = true) →
    Port.plainRx (s.port p.val).tx.rx → (s.port p.val).reqs = [] → (s.port p.val).outq = [] → s.signing p.val = false →
    u = requestArrives p.val (if (s.port p.val).tx.rx.any (RxItem.isMgmtReq b) = true then takeMsg p.val 0x12 s else s) →
    h.label = 0 → h.deadline = 0 → hcheckOk op.code h = true → headerAllowed op h = true →
    ((s.port p.val).tx.rx = [] → (s.port p.val).rung = 0 → s.pwr.entry = none → u = s) ∧
    (∀ v : State, op = .mread →
      v = u.updPort p.val (fun x => { x with reqs := [{ newReq .mread h s.now with phase := .mgmt, nonce := 0 }] }) →
      ∃ t, exec (.mread p h) s = .next t ∧ t = { u with ports := t.ports } ∧ otherPorts p.val u t ∧
        (∀ d, h.block.toNat < 65536 → v.mreadPage p.val h.block.toNat = some d →
          (t.port p.val).outq = [mgmtItem h.tag.toNat .ok d]) ∧
        ((65536 ≤ h.block.toNat ∨ v.mreadPage p.val h.block.toNat = none) →
          (t.port p.val).outq = [mgmtItem h.tag.toNat .unsupported []])) ∧
    (op = .mattest → (s.port p.val).fenced = true →
      ∃ t, exec (.mattest p h n) s = .next t ∧ (t.port p.val).outq = [mgmtItem h.tag.toNat .fenced []] ∧ t.att = s.att) ∧
    (op = .mattest → (s.port p.val).fenced = false → (s.port p.val).cfg.attestPeriod = 0 →
      ∃ t, exec (.mattest p h n) s = .next t ∧ (t.port p.val).outq = [mgmtItem h.tag.toNat .unsupported []] ∧ t.att = s.att) ∧
    (op = .mattest → (s.port p.val).fenced = false → (s.port p.val).cfg.attestPeriod ≠ 0 →
      s.tooSoon p.val = true ∨ s.sup.restarting = true →
      ∃ t, exec (.mattest p h n) s = .next t ∧ (t.port p.val).outq = [mgmtItem h.tag.toNat .busy []] ∧ t.att = s.att) ∧
    (op = .mattest → (s.port p.val).fenced = false → (s.port p.val).cfg.attestPeriod ≠ 0 → s.tooSoon p.val = false →
      s.sup.restarting = false → (∀ a ∈ s.att.queue, a.after { port := some p.val, tag := h.tag.toNat, nonce := n, at_ := s.now } = false) →
      ∃ t, exec (.mattest p h n) s = .next t ∧ (t.port p.val).outq = [] ∧
        t.att.queue = s.att.queue ++ [{ port := some p.val, tag := h.tag.toNat, nonce := n, at_ := s.now }])

/-- R31, R191, R250: a read whose turn it is and that passes the checks of its header is open from then on with its address and
arrival, and where no other request of the port may be examined, unless the gauntlet accepts the read in the same tick, nothing in
memory, calendars, budgets or counters of acceptance has changed. -/
def Obligations.ReadsHaveNoEffectBeforeAcceptance : Prop :=
  ∀ (p : PortId) (op : Op) (h : ReqHeader) (c : Instr) (d : Nat) (b : BitVec 96) (s u : State),
    ((op = .rd64 ∧ c = .rd64 p h) ∨ (op = .rd128 ∧ c = .rd128 p h)) → (s.port p.val).inSession = true →
    b = BitVec.ofNat 96 (headerBits op.code h + h.hcheck.toNat * 2 ^ 80) →
    (s.port p.val).inTurn b = true → Port.plainRx (s.port p.val).tx.rx →
    u = requestArrives p.val (if (s.port p.val).tx.rx.any (RxItem.isHeader b) = true then s.updPort p.val (·.dropHeader) else s) →
    hcheckOk op.code h = true →
    (∀ r ∈ (s.port p.val).reqs, r.tag ≠ h.tag.toNat ∧ r.candidate s.gnt.changes s.now = false) → (s.port p.val).fenced = false → headerAllowed op h = true →
    (s.port p.val).translate h.block.toNat false = some d →
    ∃ t q, exec c s = .next t ∧ otherPorts p.val u t ∧ q ∈ (t.port p.val).reqs ∧ q.tag = h.tag.toNat ∧ q.op = op ∧ q.dev = d ∧
      q.arrival = s.now ∧ t.mem = s.mem ∧ t.flt = u.flt ∧
      (q.serial = 0 → t.pcs = s.pcs ∧ t.gnt = s.gnt ∧ (t.port p.val).gnt.spent = (s.port p.val).gnt.spent ∧
        (t.port p.val).gnt.pcUsed = (s.port p.val).gnt.pcUsed ∧ (t.port p.val).gnt.bankUsed = (s.port p.val).gnt.bankUsed)

/-- R239, R241: the charge of a request is added to what its label has spent in the tick in which its acceptance is latched; a request
that stays held charges nothing, and neither does one that is refused or not looked at. -/
def Obligations.ChargesFallDueAtTheLatch : Prop :=
  ∀ (p : PortId) (r : Req) (s : State), (s.port p.val).reqs = [r] →
    (r.candidate s.gnt.changes s.now = false ∨ s.decisionsLeft p.val = 0 →
      ∃ t, exec (.gauntletReexamine p) s = .next t ∧ t = { s with ports := t.ports } ∧ otherPorts p.val s t ∧
        (t.port p.val).reqs = [r] ∧ (t.port p.val).gnt.spent = (s.port p.val).gnt.spent) ∧
    (r.candidate s.gnt.changes s.now = true → s.decisionsLeft p.val ≠ 0 →
    (∀ cls shed start bound n, decide250 p.val r s = .latch cls shed start bound n →
      ∃ t q, exec (.gauntletReexamine p) s = .next t ∧ (t.port p.val).reqs = [q] ∧ q.tag = r.tag ∧ q.serial = s.gnt.serial + 1 ∧
        q.bound = bound ∧ q.cls = cls ∧ t.gnt.serial = s.gnt.serial + 1 ∧ otherPorts p.val s t ∧ t.mem = s.mem ∧ t.flt = s.flt ∧
        (t.port p.val).spentOf r.label = (s.port p.val).spentOf r.label + r.charge ∧
        ∀ l, l ≠ r.label → (t.port p.val).spentOf l = (s.port p.val).spentOf l) ∧
    (∀ why, decide250 p.val r s = .hold why →
      ∃ t, exec (.gauntletReexamine p) s = .next t ∧ t = { s with ports := t.ports, pmc := t.pmc } ∧ otherPorts p.val s t ∧
        (t.port p.val).reqs = [{ r with heldOnce := true, looked := some (s.gnt.changes, s.now) }] ∧ (t.port p.val).gnt.spent = (s.port p.val).gnt.spent) ∧
    (decide250 p.val r s = .noContract ∨ decide250 p.val r s = .oversize →
      ∃ t, exec (.gauntletReexamine p) s = .next t ∧ t = { s with ports := t.ports } ∧ otherPorts p.val s t ∧
        (t.port p.val).reqs = [{ r with phase := .answered }] ∧
        (t.port p.val).outq = (s.port p.val).outq ++ [completion r .unsupported] ∧
        (t.port p.val).gnt.spent = (s.port p.val).gnt.spent))

/-- R232: a FILL is always served in class B, whatever the class of its label's contract, and it is charged against that label's
budget. -/
def Obligations.FillsAreServedInClassB : Prop :=
  ∀ (p : PortId) (r : Req) (s : State) (cls : Cls) (shed : Bool) (starts : List (Option Nat)) (bound n : Nat), r.op = .fill →
    decide250 p.val r s = .latch cls shed starts bound n → (s.port p.val).reqs = [r] → r.candidate s.gnt.changes s.now = true →
    s.decisionsLeft p.val ≠ 0 →
    cls = .b ∧ ∃ t, exec (.gauntletReexamine p) s = .next t ∧
      (t.port p.val).spentOf r.label = (s.port p.val).spentOf r.label + r.charge

/-- R233, R240, R241, R243, R244, R250: what the gauntlet accepts in class G. The stack is in SERVICE, the label's budget and the
port's shares cover it, its activation starts at most 66 ns after the latch, its bound is the class's allowance from now, with what
R237 adds where it met the port at P2 or P3. -/
def Obligations.GuaranteedGrantsMeetEveryCondition : Prop :=
  ∀ (p : PortId) (r : Req) (s : State) (shed : Bool) (starts : List (Option Nat)) (bound n : Nat),
    decide250 p.val r s = .latch .g shed starts bound n →
    s.mode = .service ∧ s.bist.shutDown = false ∧ ((s.port p.val).contract r.label).cls = 1 ∧
      bound = s.now + (s.port p.val).allowance + r.exit ∧
      (∃ t, starts = [some t] ∧ s.now ≤ t ∧ t ≤ s.now + 66) ∧
      (r.charge ≤ s.left p.val r.label ∨
        ((s.port p.val).spentOf r.label = 0 ∧ s.effBudget p.val r.label < r.charge)) ∧
      (∀ g ∈ (s.segsOf r).head?, r.charge ≤ s.pcLeft p.val g.1.q ∧ 0 < s.bankLeft p.val g.1)

/-- DEADLINE_EXPIRY (R254): a request with a deadline that the gauntlet still holds at its deadline is answered DEADLINE_EXPIRED in
the next tick and counted. -/
def Obligations.HeldRequestsExpireAtTheirDeadline : Prop :=
  ∀ (p : PortId) (g : BitVec 10) (r : Req) (why : Hold) (s u : State), (s.port p.val).reqs = [r] → r.tag = g.toNat →
    r.phase = .waiting → r.deadline ≠ 0 → u = { s with now := max s.now (r.arrival + 4 * r.deadline) } →
    decide250 p.val r u = .hold why →
    ∃ t, exec (.deadlineExpiry p g) s = .next t ∧ r.arrival + 4 * r.deadline + 1 ≤ t.now ∧ otherPorts p.val s t ∧
      (∃ q, (t.port p.val).reqs = [q] ∧ q.phase = .answered ∧ q.tag = r.tag) ∧
      (t.port p.val).outq = (s.port p.val).outq ++ [completion r .deadlineExpired] ∧
      (t.port p.val).gnt.expired = satInc (s.port p.val).gnt.expired ∧ (t.port p.val).gnt.spent = (s.port p.val).gnt.spent ∧
      t = { s with ports := t.ports, pmc := t.pmc, now := t.now }

/-- The books of the gauntlet over time (R203, R238, R241, R244, R248, R249, R253, R264, R354): a budget window whose books add up starts
anew with nothing spent, ends a port shrink whose cause is gone and audits the link; books that do not add up start a resynchronisation;
a bank earns one deadline credit 320 ns after its last, up to four; the grant audit leaves a balanced book alone; the reserve audit keeps the period's use
and starts the next; a book that does not balance is a controller fault, and the pair is taken over. -/
def Obligations.BooksAreRefilledAndAudited : Prop :=
  (∀ (p : PortId) (w : Nat) (s : State), (s.port p.val).gnt.windowStart = some w → s.booksOk p.val = true →
    ∃ t, exec (.budgetWindowBoundary p) s = .next t ∧ t = { s with ports := t.ports, now := t.now, gnt := t.gnt } ∧
      otherPorts p.val s t ∧ t.gnt.changes = s.gnt.changes + 1 ∧
      t.now = max s.now (w + (s.port p.val).cfg.windowLen.toNat * 1000) ∧
      (t.port p.val).gnt.windowStart = some t.now ∧ (t.port p.val).gnt.spent = [] ∧ (t.port p.val).gnt.pcUsed = [] ∧
      (t.port p.val).gnt.bankUsed = [] ∧ (t.port p.val).gnt.throttled = s.throttling ∧
      (t.port p.val).gnt.shrink = (if (s.port p.val).lnk.link = .active ∧ (s.port p.val).widthMax ≤ (s.port p.val).lnk.width.toNat ∧
        (s.port p.val).lnk.rl1 = false then none else (s.port p.val).gnt.shrink) ∧
      (t.port p.val).reqs = (s.port p.val).reqs ∧ (t.port p.val).cfg = (s.port p.val).cfg ∧
      ((s.port p.val).inSession = true → (s.port p.val).aud.resync = none →
        (s.port p.val).rung.toNat < 2 ∨ (s.port p.val).aud.seqSinceAudit = true →
        (t.port p.val).outq = (s.port p.val).outq ++
          [{ slot := .ctrl (.audit ((s.port p.val).aud.auditId).toNat 0 0 0 0 0 0 0 0) }])) ∧
  (∀ (p : PortId) (w : Nat) (s : State), (s.port p.val).gnt.windowStart = some w → s.booksOk p.val = false → s.calm →
    (s.port p.val).lnk.link = .active →
    ∃ t, exec (.budgetWindowBoundary p) s = .next t ∧ t.mode = s.mode ∧ (t.port p.val).aud.resync = some (2, 0) ∧
      (t.port p.val).gnt.spent = []) ∧
  (∀ (q : PcId) (r : RankId) (b : BankId) (n : Nat) (s : State),
    n = max s.now (tabGet 0 (s.pc q.val).creditAt (calKey r.val b.val) + 320) →
    exec (.deadlineCreditEarn q r b) s = .next ({ s with now := n, gnt.changes := s.gnt.changes + 1 }.updPc q.val (fun x => { x with
      spentCredit := tabSet 0 x.spentCredit (calKey r.val b.val) (tabGet 0 x.spentCredit (calKey r.val b.val) - 1)
      creditAt := tabSet 0 x.creditAt (calKey r.val b.val) n }))) ∧
  (∀ (q : PcId) (s : State), (s.pc q.val).granted = (s.pc q.val).issued + (s.pc q.val).grants.length →
    exec (.grantAudit q) s = .next s) ∧
  (∀ (q : PcId) (s : State), s.pcShrunk q.val = false →
    (s.pc q.val).mg.useCal + (s.pc q.val).mg.useHbx + (s.pc q.val).mg.useMig ≤ 320 →
    (∀ e ∈ (s.pc q.val).mg.useActs, e.2 ≤ 7) →
    exec (.reservePeriodAudit q) s = .next (s.updPc q.val (fun x => { x with mg := { x.mg with
      lastCal := satOf 9 x.mg.useCal, lastHbx := satOf 9 x.mg.useHbx, lastMig := satOf 9 x.mg.useMig
      useCal := 0, useHbx := 0, useMig := 0, useActs := [] } }))) ∧
  (∀ (q : PcId) (m : Nat) (s : State), s.collectorOff = false →
      m = (if q.val / 2 % 2 = 0 then q.val / 2 + 1 else q.val / 2 - 1) → (s.chan (q.val / 2)).glove = 0 → (s.chan m).glove = 0 →
      ((s.pc q.val).granted ≠ (s.pc q.val).issued + (s.pc q.val).grants.length →
        ∃ t, exec (.grantAudit q) s = .next t ∧ (t.chan (q.val / 2)).glove = 1 ∧ (t.chan m).glove = 2) ∧
      (320 < (s.pc q.val).mg.useCal + (s.pc q.val).mg.useHbx + (s.pc q.val).mg.useMig →
        ∃ t, exec (.reservePeriodAudit q) s = .next t ∧ (t.chan (q.val / 2)).glove = 1 ∧ (t.chan m).glove = 2 ∧
          (t.pc q.val).mg.auditFail = true))

/-- The keyed permutation of segments and the device map (R222, R226): for every key it is one to one on the 2^23 segment indices of a
rank, its inverse undoes it, and the block within the row is the device block's low four bits, never permuted. -/
def Obligations.PermutationIsOneToOne : Prop :=
  ∀ key : BitVec 128,
    (∀ x, x < 2 ^ 23 → permute key x < 2 ^ 23 ∧ unpermute key (permute key x) = x) ∧
    (∀ x, x < 2 ^ 23 → unpermute key x < 2 ^ 23 ∧ permute key (unpermute key x) = x) ∧
    (∀ d, d < 2 ^ 31 → devOf key (segOf key d) = d) ∧
    (∀ a b, a < 2 ^ 31 → b < 2 ^ 31 → a / 16 = b / 16 →
      (segOf key a).q = (segOf key b).q ∧ (segOf key a).bank = (segOf key b).bank ∧ (segOf key a).row = (segOf key b).row ∧
        (segOf key a).rank = (segOf key b).rank) ∧
    (∀ d, (segOf key d).block = d % 16)

/-- READ_BURST_RETURN of a never-written block (R20, R314): POISON with data 0, counted at the reading port, with no fault event of its
own, whatever happened on the TSVs. -/
def Obligations.NeverWrittenReadsArePoison : Prop :=
  ∀ (q : PcId) (x : BurstXfer) (b : Burst) (rest : List Burst) (r : Req) (s : State) (u : State × Burst),
    takeFirst (fun b => !b.write && !b.chk) (s.pc q.val).bursts = some (b, rest) → b.never = true → s.openRead b = some r →
    s.noController (chanOf q.val) = false → u = readResent q.val x b (s.updPc q.val (fun y => { y with bursts := rest })) →
    (x = .clean ∨ x = .retried ∨ (u.1.atLeast (u.2.start + 8)).quiet (srcTsv (chanOf q.val))) →
    ∃ t, exec (.readBurstReturn q x) s = .next t ∧ delivered b r .poison 0 s t ∧ t.mem = s.mem ∧ t.mode = s.mode ∧
      t.now = max s.now (u.2.start + 8) ∧ (t.pc q.val).bursts = (u.1.pc q.val).bursts ∧
      (x = .clean → (t.pc q.val).bursts = rest) ∧ (t.pc q.val).bursts.length = rest.length ∧
      (t.port b.port).poisonNever = satInc (s.port b.port).poisonNever ∧
      (t.port b.port).poisonData = (s.port b.port).poisonData ∧ (x = .clean ∨ x = .retried → t.flt = s.flt) ∧
      ∀ n, n ≠ srcTsv (chanOf q.val) → t.src n = s.src n

/-- READ_BURST_RETURN and CHK_RESULT (R20, R280, R283, R284, R301, R303 to R305): a burst with no flag passes unchanged, one whose
transfer failed once no earlier than 5 ns later; a flagged one waits for its CHK; bytes that failed twice on the TSVs make POISON, but
for those that an older queued write replaces. After the CHK, corrected bytes give OK_CORRECTED (OK under NO_CORR_STATUS) and an
event of the corrected source; an unresolved byte gives POISON and an event of the uncorrectable source; transfer-flagged bytes
alone give POISON with no event. Where the pair has no controller left, a read in flight is POISON with data 0. -/
def Obligations.ReadsEndByTheirFlags : Prop :=
  (∀ (q : PcId) (x : BurstXfer) (b : Burst) (rest : List Burst) (r : Req) (s : State) (u : State × Burst),
    takeFirst (fun b => !b.write && !b.chk) (s.pc q.val).bursts = some (b, rest) → s.openRead b = some r →
    u = readResent q.val x b (s.updPc q.val (fun y => { y with bursts := rest })) →
    (s.noController (chanOf q.val) = true →
      ∃ t, exec (.readBurstReturn q x) s = .next t ∧ delivered b r .poison 0 s t ∧ (t.pc q.val).bursts = rest ∧ t.mem = s.mem ∧
        t.flt = s.flt ∧ ((s.pc q.val).excluded = false → t.rep.lostAccess = satInc s.rep.lostAccess)) ∧
    (s.noController (chanOf q.val) = false → b.never = false →
      (x = .clean ∨ x = .retried →
        (x = .retried → b.start + 5 ≤ u.2.start ∧ ∃ t, exec (.readBurstReturn q x) s = .next t ∧
          (t.chan (chanOf q.val)).rtRead = satInc (s.chan (chanOf q.val)).rtRead) ∧
        (b.flags = 0 → ∃ t, exec (.readBurstReturn q x) s = .next t ∧ delivered b r .ok b.data s t ∧
          (t.pc q.val).bursts = (u.1.pc q.val).bursts ∧ (x = .clean → (t.pc q.val).bursts = rest) ∧ t.mem = s.mem ∧ t.flt = s.flt) ∧
        (b.flags ≠ 0 → ∃ t y, exec (.readBurstReturn q x) s = .next t ∧ t.ports = s.ports ∧ t.mem = s.mem ∧ t.flt = s.flt ∧
          (t.pc q.val).bursts.length = rest.length + 1 ∧ y ∈ (t.pc q.val).bursts ∧ u.2.start + 10 ≤ y.start ∧
          y = { b with chk := true, xfer := 0, start := y.start })) ∧
      (∀ m w : BitVec 64, x = .failed m → w = s.lostBytes q.val x b →
        (u.1.atLeast (u.2.start + 8)).quiet (srcTsv (chanOf q.val)) →
        (w ≠ 0 → b.flags &&& ~~~ w = 0 →
          ∃ t d, exec (.readBurstReturn q x) s = .next t ∧ delivered b r .poison d s t ∧
            (∀ j, j < 64 → w.getLsbD j = false → byteOf d j = byteOf b.data j) ∧
            (t.pc q.val).bursts = (u.1.pc q.val).bursts ∧ t.mem = s.mem ∧ (t.pc q.val).isolating = true ∧
            (t.chan (chanOf q.val)).rfBeat = satInc (s.chan (chanOf q.val)).rfBeat ∧
            (t.src (srcTsv (chanOf q.val))).total = satInc (s.src (srcTsv (chanOf q.val))).total) ∧
        (w = 0 → b.flags = 0 →
          ∃ t, exec (.readBurstReturn q x) s = .next t ∧ delivered b r .ok b.data s t ∧ t.mem = s.mem ∧
            (t.src (srcTsv (chanOf q.val))).total = satInc (s.src (srcTsv (chanOf q.val))).total)))) ∧
  (∀ (q : PcId) (b : Burst) (rest : List Burst) (r : Req) (d : Block) (n : Nat) (s : State),
    takeFirst (fun b => !b.write && b.chk) (s.pc q.val).bursts = some (b, rest) → s.openRead b = some r → n = chanOf q.val →
    d = blockOf (fun j => if (b.flags &&& ~~~ b.xfer &&& ~~~ b.unres).getLsbD j then byteOf b.data j ^^^ byteOf b.corr j
      else byteOf b.data j) →
    (s.noController n = true →
      ∃ t, exec (.chkResult q) s = .next t ∧ delivered b r .poison 0 s t ∧ (t.pc q.val).bursts = rest ∧ t.mem = s.mem ∧ t.flt = s.flt) ∧
    (s.noController n = false →
      (b.flags &&& ~~~ b.xfer &&& b.unres = 0 → b.xfer = 0 → (s.atLeast (b.start + 8)).quiet (srcCorr n) →
        ∃ t, exec (.chkResult q) s = .next t ∧ delivered b r (if b.noCorr then .ok else .okCorrected) d s t ∧
          (t.pc q.val).bursts = rest ∧ t.mem = s.mem ∧ (t.chan n).corrReads = satInc (s.chan n).corrReads ∧
          (t.src (srcCorr n)).total = satInc (s.src (srcCorr n)).total) ∧
      (b.flags &&& ~~~ b.xfer &&& b.unres ≠ 0 → (s.atLeast (b.start + 8)).quiet (srcUncorr n) →
        ∃ t, exec (.chkResult q) s = .next t ∧ delivered b r .poison d s t ∧ (t.pc q.val).bursts = rest ∧ t.mem = s.mem ∧
          (t.chan n).poisoned = satInc (s.chan n).poisoned ∧
          (t.port b.port).poisonData = satInc (s.port b.port).poisonData ∧
          (t.src (srcUncorr n)).total = satInc (s.src (srcUncorr n)).total ∧ t.flt.nextSeq = s.flt.nextSeq + 1) ∧
      (b.flags &&& ~~~ b.xfer &&& b.unres = 0 → b.xfer ≠ 0 →
        ∃ t, exec (.chkResult q) s = .next t ∧ delivered b r .poison d s t ∧ (t.pc q.val).bursts = rest ∧ t.mem = s.mem ∧
          t.flt = s.flt)))

/-- WRITE_DRAIN_COMPLETE, WRITE_ERROR_REPORT and COMMAND_PARITY_REPORT (R278, R280, R283, R284, R298, R299): a drain stores its block with
fresh codes and nothing else in memory; a write in error stores nothing and stays queued for its retry, an event of the
TSV source when it fails again; a command in error (a column command, the ACT of a burst, a REFPB, an engine's own) is issued again up
to a third time, counts at each report, and at the second with an event; after the third a read is POISON, a write stays queued and a
REFPB leaves its row unrefreshed. -/
def Obligations.WritesDrainOrStayQueued : Prop :=
  ∀ (q : PcId) (n : Nat) (s : State), n = chanOf q.val →
    (∀ (b : Burst) (key : Nat) (x : (Block × BitVec 64) × Block × BitVec 64), (s.pc q.val).drainOf = [b] →
      key = rowKey q.val b.layer b.bank b.row → x = writeRow (s.readRow key) b.block b.flags b.data → b.block < 16 →
      (s.bist.shutDown = false → (s.pc q.val).wq.any (fun e => e.drainedBy b && e.retry) = false →
        ∃ t, exec (.writeDrainComplete q) s = .next t ∧ t.now = max s.now (b.start + 4) ∧ t.ports = s.ports ∧ t.flt = s.flt ∧
          (t.pc q.val).bursts = dropFirst (fun y => decide (y = b)) (s.pc q.val).bursts ∧
          (t.pc q.val).wq = ((s.pc q.val).drained b).wq ∧ t.gnt.changes = s.gnt.changes + 1 ∧
          (b.flags = 0 → t.mem = s.mem) ∧
          (b.flags ≠ 0 → (t.readRow key).block b.block = x.1 ∧ (t.readRow key).cuff = x.2.1) ∧
          (∀ a, ¬ (key * rowBytes + 64 * b.block ≤ a ∧ a < key * rowBytes + 64 * b.block + 64) →
            ¬ (key * rowBytes + 1024 + 8 * b.block ≤ a ∧ a < key * rowBytes + 1024 + 8 * b.block + 8) →
            ¬ (key * rowBytes + 1152 ≤ a ∧ a < key * rowBytes + 1216) → t.readByte a = s.readByte a)) ∧
      ((s.pc q.val).wq.any (fun e => e.drainedBy b && e.retry) = false →
        ∃ t, exec (.writeErrorReport q) s = .next t ∧ t.mem = s.mem ∧ t.ports = s.ports ∧ t.flt = s.flt ∧
          (t.pc q.val).bursts = dropFirst (fun y => decide (y = b)) (s.pc q.val).bursts ∧
          (t.pc q.val).wq = (s.pc q.val).wq.map (fun e => if e.drainedBy b then { e with busy := false, retry := true } else e)) ∧
      ((s.pc q.val).wq.any (fun e => e.drainedBy b && e.retry) = true → (s.atLeast (b.start + 4)).quiet (srcTsv n) →
        ∃ t, exec (.writeErrorReport q) s = .next t ∧ t.mem = s.mem ∧ t.ports = s.ports ∧
          (t.chan n).rfBeat = satInc (s.chan n).rfBeat ∧ (t.src (srcTsv n)).total = satInc (s.src (srcTsv n)).total ∧
          (t.pc q.val).isolating = true)) ∧
    (∀ (c : CmdRef) (col : Bool) (failed : Nat),
      ((∃ b rest, (s.pc q.val).bursts = b :: rest ∧
          ((c = .column ∧ col = true ∧ failed = b.cmdErrors) ∨ (c = .row ∧ col = false ∧ failed = b.actErrors))) ∨
        (∃ k b e, c = .refresh k b ∧ col = false ∧ (s.pc q.val).rf.refRun.find? (fun e => decide (e.1 = bankKey k.val b.val)) = some e ∧
          failed = e.2.errors) ∨
        (c = .engine ∧ col = false ∧ failed = (s.pc q.val).engErrors)) →
      (failed ≤ 1 → (failed = 1 → s.quiet (srcParity n)) →
        ∃ t, exec (.commandParityReport q c) s = .next t ∧ t.mem = s.mem ∧ t.ports = s.ports ∧ (failed = 0 → t.flt = s.flt) ∧
          (t.chan n).rtColumn = (if col then satInc (s.chan n).rtColumn else (s.chan n).rtColumn) ∧
          (t.chan n).rtRow = (if col then (s.chan n).rtRow else satInc (s.chan n).rtRow) ∧
          (t.chan n).rfThird = (s.chan n).rfThird ∧ (t.pc q.val).bursts.length = (s.pc q.val).bursts.length ∧
          (failed = 1 → (t.pc q.val).isolating = true ∧ (t.chan n).rfCommand = satInc (s.chan n).rfCommand ∧
            (t.src (srcParity n)).total = satInc (s.src (srcParity n)).total)) ∧
      (2 ≤ failed → ∃ t, exec (.commandParityReport q c) s = .next t ∧ t.mem = s.mem ∧ t.flt = s.flt ∧
        (t.chan n).rfThird = satInc (s.chan n).rfThird ∧ (t.chan n).rtColumn = (s.chan n).rtColumn ∧
        (t.chan n).rtRow = (s.chan n).rtRow)) ∧
    (∀ (b : Burst) (rest : List Burst), (s.pc q.val).bursts = b :: rest →
      (b.cmdErrors ≤ 1 → (b.cmdErrors = 1 → s.quiet (srcParity n)) → ∃ t y, exec (.commandParityReport q .column) s = .next t ∧
        y ∈ (t.pc q.val).bursts ∧ b.start + 1 ≤ y.start ∧ y = { b with cmdErrors := b.cmdErrors + 1, start := y.start }) ∧
      (2 ≤ b.cmdErrors → b.write = true → ∃ t, exec (.commandParityReport q .column) s = .next t ∧ t.mem = s.mem ∧ t.ports = s.ports ∧
        (t.pc q.val).bursts = rest ∧ (t.pc q.val).wq.length = (s.pc q.val).wq.length) ∧
      (∀ r, 2 ≤ b.cmdErrors → b.write = false → s.openRead b = some r → ∃ t d, exec (.commandParityReport q .column) s = .next t ∧
        delivered b r .poison d s t ∧ (t.pc q.val).bursts = rest) ∧
      (2 ≤ b.actErrors → ∃ t, exec (.commandParityReport q .row) s = .next t ∧ ∀ y ∈ (t.pc q.val).bursts,
        y ∈ (s.pc q.val).bursts ∧ ¬ (y.rank = b.rank ∧ y.bank = b.bank ∧ y.row = b.row ∧ y.act = b.act))) ∧
    (∀ (k : LayerId) (b : BankId) (e : Nat × RefRun), (s.pc q.val).rf.refRun.find? (fun e => decide (e.1 = bankKey k.val b.val)) = some e →
      (e.2.errors = 0 → ∃ t, exec (.commandParityReport q (.refresh k b)) s = .next t ∧
        (t.pc q.val).rf.refRun = tabPut (tabErase (s.pc q.val).rf.refRun (bankKey k.val b.val)) (bankKey k.val b.val)
          { e.2 with start := e.2.start + 1, errors := 1 }) ∧
      (2 ≤ e.2.errors → ∃ t, exec (.commandParityReport q (.refresh k b)) s = .next t ∧
        (t.pc q.val).rf.refRun = tabErase (s.pc q.val).rf.refRun (bankKey k.val b.val) ∧
        (t.pc q.val).rf.refDone = (s.pc q.val).rf.refDone))

/-- The cuff code over writes and seals (R294, R298, R300, R302, R312): a write into a block with no flagged byte, or into one in
the never-written state, leaves the block with good parity everywhere and every column's syndrome as it was; a seal leaves the block
never-written and the syndromes as they were. -/
def Obligations.WritesKeepTheColumnCode : Prop :=
  ∀ (r : Row) (b : Nat), r.blocks.length = 16 → b < 16 → (flagsOf (r.block b) = 0 ∨ neverWritten (r.block b) = true) →
    (∀ (mask : BitVec 64) (d : Block) (x : (Block × BitVec 64) × Block × BitVec 64) (r' : Row), mask ≠ 0 → x = writeRow r b mask d →
      r' = { blocks := r.blocks.set b x.1, cuff := x.2.1 } →
      x.2.2 = 0 ∧ flagsOf (r'.block b) = 0 ∧ neverWritten (r'.block b) = false ∧
        (∀ j, j < 64 → mask.getLsbD j = true → byteOf (r'.block b).1 j = byteOf d j) ∧
        (∀ j, j < 64 → mask.getLsbD j = false →
          byteOf (r'.block b).1 j = if neverWritten (r.block b) then 0 else byteOf (r.block b).1 j) ∧
        (∀ j, j < 64 → r'.syndrome j = r.syndrome j)) ∧
    (∀ (x : (Block × BitVec 64) × Block × BitVec 64) (r' : Row), x = sealRow r b →
      r' = { blocks := r.blocks.set b x.1, cuff := x.2.1 } →
      x.2.2 = 0 ∧ neverWritten (r'.block b) = true ∧ (∀ j, j < 64 → byteOf (r'.block b).1 j = 0) ∧
        ∀ j, j < 64 → r'.syndrome j = r.syndrome j)

/-- ACTIVATION_ISSUE, PAUSE, ROW_CLOSE_TIMEOUT, SLICE_POWER_DOWN and CAL_MICRO_STEP (R242, R249, R269, R270, R273, R275, R281, R282, R286,
R287, R323): the work chosen is issued and leaves the book as many grants issued as gone; on a bank with no open row it opens its row,
counts the activation, and a read's burst starts 28 or, behind promoted writes, 32 ns later. -/
def Obligations.ChannelCommandsFollowTheSchedule : Prop :=
  ∀ (q : PcId) (s : State),
    (∀ l, s.nextWork q.val = .none → exec (.activationIssue q l) s = .next s) ∧
    (∀ (l : List CellChange) (g : Grant) (v u : Nat), s.nextWork q.val = .grant g v → g ∈ (s.pc q.val).grants →
      s.bist.shutDown = false → u = max s.now v →
      ∃ t, exec (.activationIssue q l) s = .next t ∧ t.now = u ∧ t.flt = s.flt ∧
        (s.pc q.val).issued + 1 ≤ (t.pc q.val).issued ∧
        (t.pc q.val).issued + (t.pc q.val).grants.length = (s.pc q.val).issued + (s.pc q.val).grants.length ∧
        (∀ y ∈ (t.pc q.val).grants, y ∈ (s.pc q.val).grants) ∧ (l = [] → t.mem = s.mem) ∧
        (∀ k, s.layerAt q.val g.rank g.bank g.row = some k → (s.pc q.val).excluded = false →
          s.noController (chanOf q.val) = false →
          (∀ a, a / rowBytes ≠ rowKey q.val k g.bank g.row → t.readByte a = s.readByte a) ∧
          ((s.pc q.val).openRows.find? (fun e => decide (e.1 = bankKey k g.bank)) = none →
            tabGet 0 (t.pc q.val).rf.actCount (pcRowKey k g.bank g.row) =
              (if tabGet 0 (s.pc q.val).rf.actCount (pcRowKey k g.bank g.row) + 1 = 2560 then 0
                else tabGet 0 (s.pc q.val).rf.actCount (pcRowKey k g.bank g.row) + 1) ∧
            tabGet 0 (t.pc q.val).bankFree (calKey g.rank g.bank) = u + 44 ∧
            (g.op = .rd64 → g.early = [] → ∃ b ∈ (t.pc q.val).bursts, b.write = false ∧ b.tag = g.tag ∧ b.serial = g.serial ∧
              b.layer = k ∧ b.row = g.row ∧ b.block = g.block ∧ (b.start = u + 28 ∨ b.start = u + 32))))) ∧
    (∀ (k : LayerId) (b : BankId) (e : Nat × RefRun), (s.pc q.val).rf.refRun.find? (fun e => decide (e.1 = bankKey k.val b.val)) = some e →
      (e.2.protect = true → exec (.pause q k b) s = .next s) ∧
      ((∀ g ∈ (s.pc q.val).grants, g.cls ≠ .g) → exec (.pause q k b) s = .next s) ∧
      (e.2.protect = false → (∃ g ∈ (s.pc q.val).grants, g.cls = .g ∧ g.bank = b.val ∧
          s.layerAt q.val g.rank g.bank g.row = some k.val ∧ ∃ u, g.start = some u ∧ s.now + 10 ≤ u ∧ u < e.2.start + 44) →
        ∃ t, exec (.pause q k b) s = .next t ∧ t.mem = s.mem ∧ t.ports = s.ports ∧ t.flt = s.flt ∧ t.now = s.now ∧
          (t.pc q.val).rf.refRun = tabErase (s.pc q.val).rf.refRun (bankKey k.val b.val) ∧
          (t.pc q.val).rf.refDone = (s.pc q.val).rf.refDone ∧
          tabGet 0 (t.pc q.val).rf.pauses (pcRowKey k.val b.val e.2.row) =
            tabGet 0 (s.pc q.val).rf.pauses (pcRowKey k.val b.val e.2.row) + 1)) ∧
    (∀ (k : LayerId) (b : BankId) (e : Nat × Nat × Nat), (s.pc q.val).openRows.find? (fun e => decide (e.1 = bankKey k.val b.val)) = some e →
      exec (.rowCloseTimeout q k b) s = .next ((s.atLeast (e.2.2 + 1000)).updPc q.val (fun x => { x with
        openRows := tabErase x.openRows (bankKey k.val b.val) }))) ∧
    (∀ k : LayerId, (s.pc q.val).openRows = [] → (s.pc q.val).grants = [] → (s.slice q.val k.val).inUse = true →
      (s.slice q.val k.val).powerDown = false → (s.slice q.val k.val).selfRefresh = false →
      ∃ t, exec (.slicePowerDown q k) s = .next t ∧ (t.slice q.val k.val).powerDown = true ∧ t.mem = s.mem ∧ t.ports = s.ports ∧
        t.now = max s.now ((s.slice q.val k.val).lastCmd + (s.pwr.timersAt (s.slice q.val k.val).lastCmd).rankPd.toNat) ∧
        (t.chan (chanOf q.val)).pdCount = satInc (s.chan (chanOf q.val)).pdCount) ∧
    (s.channelsRun = true → (s.pc q.val).excluded = false → s.noController (chanOf q.val) = false →
      (∀ (k i : Nat) (r : CalStep), (s.pc q.val).cal = some (k, i) → i < 79 →
        (r.eye = true ∨ (s.atLeast (s.calStart q.val)).quiet (srcTsv (chanOf q.val))) →
        ∃ t, exec (.calMicroStep q r) s = .next t ∧ t.mem = s.mem ∧ t.ports = s.ports ∧ (t.pc q.val).cal = some (k, i + 1) ∧
          t.now = max s.now (s.calStart q.val) ∧ (t.pc q.val).calLast = some (s.calStart q.val) ∧
          (∀ j ∈ receivers i, tabGet 0 (t.slice q.val k).settings j = r.setting) ∧
          (∀ j, j ∉ receivers i → tabGet 0 (t.slice q.val k).settings j = tabGet 0 (s.slice q.val k).settings j) ∧
          (r.eye = true → t.flt = s.flt) ∧ (r.eye = false → (t.pc q.val).isolating = true)) ∧
      (∀ (k : Nat) (r : CalStep), (s.pc q.val).cal = none → (s.pc q.val).calQueue = [k] → r.eye = true →
        ∃ t, exec (.calMicroStep q r) s = .next t ∧ (t.pc q.val).cal = some (k, 1) ∧ (t.pc q.val).calQueue = [] ∧
          (t.slice q.val k).calTemp = some (BitVec.ofInt 11 (s.layer k).temp) ∧ (t.slice q.val k).restTemp = none))

/-- Refresh (R20, R39, R281, R282, R307, R313, R319, R325, R329): while its engine runs, the REFPB of the earliest due row of a bank, or of
a neighbour owed to it, is booked in the bank at the earliest start, protected after two pauses or for a neighbour; one that a booked
guaranteed activation needs the bank before is paused; a whole one sets the row's last refresh, clears its pauses and repairs or posts what its check finds;
in self-refresh the layer selects its base interval by the steps of R317 from the higher of its own sensors. -/
def Obligations.RefreshesKeepTheirSchedule : Prop :=
  (∀ (q : PcId) (k : LayerId) (b : BankId) (row : RowId) (kind : RefKind) (key : Nat) (s : State), key = bankKey k.val b.val →
    s.refreshes q.val k.val = true → s.bankRefreshed q.val k.val b.val = true → (∀ e ∈ (s.pc q.val).rf.refRun, e.1 ≠ key) →
    ((kind = .normal ∧ (∀ e ∈ (s.pc q.val).rf.rfmDue, e.1 ≠ key) ∧
        ((s.slice q.val k.val).selfRefresh = true ∨ s.earliestDue q.val k.val b.val row.val = true)) ∨
      (kind ≠ .normal ∧ (s.pc q.val).rf.rfmDue.find? (fun e => decide (e.1 = key)) = some (key, row.val, kind))) →
    ∃ t r, exec (.refreshIssue q k b row kind) s = .next t ∧ t.now = max s.now (s.refreshStart q.val k.val b.val) ∧ t.mem = s.mem ∧
      t.ports = s.ports ∧ t.flt = s.flt ∧ (t.pc q.val).rf.refRun.find? (fun e => decide (e.1 = key)) = some (key, r) ∧
      r.row = row.val ∧ r.kind = kind ∧ r.start = s.refreshStart q.val k.val b.val ∧
      (r.protect = true ↔ kind ≠ .normal ∨ 2 ≤ tabGet 0 (s.pc q.val).rf.pauses (pcRowKey k.val b.val row.val)) ∧
      (t.chan (chanOf q.val)).protected_ = (if r.protect then satInc (s.chan (chanOf q.val)).protected_
        else (s.chan (chanOf q.val)).protected_) ∧
      (kind ≠ .normal →
        (t.pc q.val).rf.rfmDue = dropFirst (fun e => decide (e = (key, row.val, kind))) (s.pc q.val).rf.rfmDue)) ∧
  (∀ (q : PcId) (k : LayerId) (b : BankId) (row : RowId) (kind : RefKind) (s : State),
    s.refreshes q.val k.val = false → exec (.refreshIssue q k b row kind) s = .next s) ∧
  (∀ (q : PcId) (k : LayerId) (b : BankId) (l : List CellChange) (e : Nat × RefRun) (key u : Nat) (s : State),
    (s.pc q.val).rf.refRun.find? (fun e => decide (e.1 = bankKey k.val b.val)) = some e → e.2.kind = .normal →
    (s.slice q.val k.val).selfRefresh = false → key = rowKey q.val k.val b.val e.2.row → u = max s.now (e.2.start + 44) →
    u ≤ s.rowDue q.val k.val b.val e.2.row →
    e.2.protect = true ∨ s.gAhead q.val k.val b.val (fun t => decide (t < e.2.start + 44)) = false →
    ∃ t, exec (.refreshComplete q k b l) s = .next t ∧ t.now = u ∧ t.ports = s.ports ∧ t.flt = s.flt ∧
      tabGet 0 (t.pc q.val).rf.refDone (pcRowKey k.val b.val e.2.row) = 4 * u + (s.layer k.val).base ∧
      tabGet 0 (t.pc q.val).rf.pauses (pcRowKey k.val b.val e.2.row) = 0 ∧
      (t.pc q.val).rf.actCount = (s.pc q.val).rf.actCount ∧
      (((s.setCells key l).readRow key).check = none → t.mem = (s.setCells key l).mem) ∧
      (∀ f, ((s.setCells key l).readRow key).check = some f → (s.slice q.val k.val).hatbox.length < 16 →
        (∃ h, (t.slice q.val k.val).hatbox = (s.slice q.val k.val).hatbox ++ [h] ∧ h.kind = BitVec.ofNat 3 f.kind ∧ h.src = false ∧
          h.bank = b.val ∧ h.row = e.2.row ∧ h.block = f.block ∧ h.count = f.count ∧ h.ret = f.ret) ∧
        (f.kind = 3 → (t.readRow key).cuff = f.cuff) ∧ (f.kind ≠ 3 → t.mem = (s.setCells key l).mem))) ∧
  (∀ (q : PcId) (k : LayerId) (b : BankId) (l : List CellChange) (e : Nat × RefRun) (s : State),
    (s.pc q.val).rf.refRun.find? (fun e => decide (e.1 = bankKey k.val b.val)) = some e → e.2.protect = false →
    s.gAhead q.val k.val b.val (fun t => decide (t < e.2.start + 44)) = true →
    ∃ t, exec (.refreshComplete q k b l) s = .next t ∧ t.mem = s.mem ∧ t.flt = s.flt ∧
      (t.pc q.val).rf.refRun = tabErase (s.pc q.val).rf.refRun (bankKey k.val b.val) ∧
      (t.pc q.val).rf.refDone = (s.pc q.val).rf.refDone ∧
      tabGet 0 (t.pc q.val).rf.pauses (pcRowKey k.val b.val e.2.row) =
        tabGet 0 (s.pc q.val).rf.pauses (pcRowKey k.val b.val e.2.row) + 1) ∧
  (∀ (k : LayerId) (a b : Temp) (s : State), ((s.layer k.val).suspectA = true ∧ (s.layer k.val).suspectB = true) ∨
      ((s.layer k.val).suspectA = false ∧ (s.layer k.val).suspectB = false) →
    (∃ q, q < 32 ∧ (s.slice q k.val).selfRefresh = true) →
    ∃ t, exec (.selfRefreshSensorRead k (some a) (some b)) s = .next t ∧ t.mem = s.mem ∧ t.ports = s.ports ∧ t.now = s.now ∧
      (t.layer k.val).base = (if (s.layer k.val).suspectA then 3 else nextBase (s.layer k.val).base (max a.val b.val)) ∧
      (s.layer k.val).band ≤ (t.layer k.val).band ∧ (t.layer k.val).base ≤ (t.layer k.val).band) ∧
  (∀ s : State, ∃ t, exec .arraySetDone s = .next t ∧ t.mem = s.mem ∧ t.ports = s.ports ∧
    (∀ q k, ∃ a, t.slice q k = { s.slice q k with arraySet := a }) ∧
    ∀ k, k < 18 → (∀ j q, j < k → q < 32 → (s.slice q j).arraySet = false) → ∀ q, q < 32 → (t.slice q k).arraySet = false)

/-- Hatboxes (R308 to R310, R324, R325, R339, R340, R342): a read takes a slice's entries in order and leaves the hatbox empty; a
row-activation entry owes its two neighbour refreshes; service of a latent error rewrites its own row only; a spare row takes the row
with its bytes, the lowest index free in the bank, else the bank is to be mapped out. -/
def Obligations.HatboxEntriesAreTakenAndServed : Prop :=
  (∀ (q : PcId) (k : LayerId) (e : HatEntry) (s : State), (s.slice q.val k.val).inUse = true → (s.slice q.val k.val).hatbox = [e] →
    s.channelsRun = true → s.noController (chanOf q.val) = false → (s.slice q.val k.val).hatPending = [] → e.kind = 4 →
    ∃ t, exec (.rfmRequestReport q k) s = .next t ∧ t.mem = s.mem ∧ t.ports = s.ports ∧ t.flt = s.flt ∧ t.now = s.now ∧
      (t.slice q.val k.val).hatbox = [] ∧ (t.chan (chanOf q.val)).hatTaken = satInc (s.chan (chanOf q.val)).hatTaken ∧
      (t.pc q.val).rf.rfmDue = (s.pc q.val).rf.rfmDue ++ [(bankKey k.val e.bank, e.row, .lower), (bankKey k.val e.bank, e.row, .upper)]) ∧
  (∀ (n : ChanId) (s : State), s.pwr.rung ≤ 2 → s.channelsRun = true → s.noController n.val = false →
    ∃ t, exec (.hatboxRead n []) s = .next t ∧ t.mem = s.mem ∧ t.ports = s.ports ∧ t.flt = s.flt ∧ t.now = s.now ∧
      ∀ q k, q = 2 * n.val ∨ q = 2 * n.val + 1 → k < 18 → (s.slice q k).inUse = true → (s.slice q k).hatPending = [] →
        (t.slice q k).hatbox = [] ∧ (t.slice q k).unread = 0) ∧
  (∀ (n : ChanId) (x : Taken) (rest : List Taken) (s : State),
    s.channelsRun = true → s.noController n.val = false → s.servesRows = true →
    takeFirst (fun t => !t.spare) (s.chan n.val).taken = some (x, rest) → x.e.kind = 1 → x.e.src = true →
    ∃ t, exec (.hatboxEntryService n) s = .next t ∧ t.ports = s.ports ∧ t.flt = s.flt ∧ s.now ≤ t.now ∧
      (t.chan n.val).taken = rest ∧ ∀ a, a / rowBytes ≠ rowKey x.q x.k x.e.bank x.e.row → t.readByte a = s.readByte a) ∧
  (∀ (n : ChanId) (s : State), (s.chan n.val).taken = [] ∨ s.channelsRun = false ∨ s.servesRows = false → exec (.hatboxEntryService n) s = .next s ∧
    exec (.spareRowAssign n) s = .next s) ∧
  (∀ (n : ChanId) (x : Taken) (s : State), (s.chan n.val).taken.find? (·.spare) = some x → s.channelsRun = true →
    s.noController n.val = false → s.servesRows = true →
    (∀ i, (s.slice x.q x.k).freeSpare x.e.bank = some i →
      (∀ j, j < i → ∃ sp ∈ (s.slice x.q x.k).spares, sp.bank = x.e.bank ∧ sp.index = j) ∧
      ∃ t, exec (.spareRowAssign n) s = .next t ∧ t.mem = s.mem ∧ t.ports = s.ports ∧ t.flt = s.flt ∧
        (t.slice x.q x.k).spares = { bank := x.e.bank, index := i, row := x.e.row } :: (s.slice x.q x.k).spares ∧
        (t.pc x.q).spared = satInc (s.pc x.q).spared ∧
        tabGet 0 (t.pc x.q).rf.actCount (pcRowKey x.k x.e.bank x.e.row) = 0 ∧
        t.otp.afQueue = s.otp.afQueue ++ [{ layer := x.k, q := x.q, bank := x.e.bank, spare := true, x := x.e.row, y := i }]) ∧
    ((s.slice x.q x.k).freeSpare x.e.bank = none → s.sup.restarting = false →
      ∃ t, exec (.spareRowAssign n) s = .next t ∧ t.mem = s.mem ∧ t.ports = s.ports ∧ t.flt = s.flt ∧
        t.rep.todo = s.rep.todo ++ [.bank x.q x.k x.e.bank true]))

/-- Repairs (R285, R336 to R338, R344 to R348, R355, R357, R360): steering takes the lowest free spare TSV and a failing TSV beyond
them excludes the pseudo-channel; a bank moves to a liner bank, or is retired in place where there is none; a rank with no liner
takes STATE 0x3; a layer is retired, or the refuse policy holds the stack; a copy lane brings its liner slice into use, copies
row by row in order, and every row it has not reached stays where it is. While the supervisor restarts, no liner slice comes into use
(R23). -/
def Obligations.RepairsMoveOrRetireTheirUnit : Prop :=
  (∀ (q : PcId) (s : State), (s.pc q.val).isolating = true → (s.pc q.val).excluded = false →
    (∃ t, exec (.tsvSteering q none) s = .next t ∧ (t.pc q.val).isolating = false ∧ (t.pc q.val).steer = (s.pc q.val).steer ∧
      t.mem = s.mem ∧ t.ports = s.ports ∧ t.flt = s.flt) ∧
    (∀ (x : TsvRef) (i : Nat), s.freeTsv q.val = some i → ∃ t st, exec (.tsvSteering q (some x)) s = .next t ∧
      t.steer q.val i = some st ∧ st.group = x.group ∧ st.lane = x.lane ∧ st.burnt = false ∧ st.failed = false ∧ t.mem = s.mem ∧
      t.ports = s.ports ∧ t.flt = s.flt ∧ (t.pc q.val).excluded = false ∧
      repairEntry 1 q.val x.layer.val 0 (pack [(i, 2), (x.group.toNat, 2), (x.lane.toNat, 6)]) ∈ t.rep.log) ∧
    (∀ x : TsvRef, s.freeTsv q.val = none → s.quiet (srcTsv (chanOf q.val)) → ∃ t, exec (.tsvSteering q (some x)) s = .next t ∧
      (t.pc q.val).excluded = true ∧ t.rep.lossPcs = satAdd s.rep.lossPcs 1 ∧
      ∀ k b row i, k < 18 → b < 16 → row < 16384 → i < rowBytes →
        t.readByte (rowKey q.val k b row * rowBytes + i) = memDefault (rowKey q.val k b row * rowBytes + i))) ∧
  (∀ s : State, s.rep.todo = [] ∨ s.sup.restarting = true →
    exec .bankMapOut s = .next s ∧ exec .rankRetirement s = .next s ∧ exec .layerRetirement s = .next s) ∧
  (∀ (q k b r : Nat) (rest : List RepairReq) (s : State), s.rep.todo = .bank q k b true :: rest → s.sup.restarting = false →
    s.units q = [] → s.bankOwner q k b = some r →
    ¬ ((s.rank q r).layer = k ∧ 3 ≤ ((List.range 16).filter (fun c => decide (s.bankEnt q r c ≠ .own))).length) →
    (∀ l, s.linerFor q r (some b) [k] = some l →
      ∃ t, exec .bankMapOut s = .next t ∧ t.rep.todo = rest ∧ t.mem = s.mem ∧ t.ports = s.ports ∧ t.flt = s.flt ∧
        (t.pc q).mg.mig = .prepare ∧ (t.pc q).mg.unit = { rank := r, bank := some b, src := k, dst := l } ∧
        repairEntry 2 q k b 0 ∈ t.rep.log) ∧
    (s.linerFor q r (some b) [k] = none →
      ∃ t, exec .bankMapOut s = .next t ∧ t.bankEnt q r b = .retired ∧ t.rep.lossBanks = satAdd s.rep.lossBanks 1)) ∧
  (∀ (n k : Nat) (readable : Bool) (rest : List RepairReq) (s : State), s.rep.todo = .rank n k readable :: rest →
    s.sup.restarting = false → s.capMigration = false → s.units (2 * n) = [] → s.units (2 * n + 1) = [] →
    ((s.retiredChannels k).filter (fun m => decide (m ≠ n))).length < 3 →
    ∃ t, exec .rankRetirement s = .next t ∧
      ∀ q r, q = 2 * n ∨ q = 2 * n + 1 → r < s.serviceLayers → (s.rank q r).layer = k →
        (t.rank q r).layer = k ∧ (t.rank q r).state = 3) ∧
  (∀ (k : Nat) (readable : Bool) (rest : List RepairReq) (s : State), s.rep.todo = .layer k readable :: rest →
    s.sup.restarting = false → (s.layer k).retired = false →
    (s.refuse = false → ∃ t, exec .layerRetirement s = .next t ∧ (t.layer k).retired = true ∧
      t.rep.layersRetired = satInc s.rep.layersRetired) ∧
    (s.refuse = true → s.counts (srcLayer k) = true → s.srcClass (srcLayer k) < 4 → s.mode = .service → s.holdCause = 0 →
      ∃ t, exec .layerRetirement s = .next t ∧ t.mode = .hold ∧ t.holdCause = 5 ∧ (t.layer k).retired = false)) ∧
  (∀ (q : PcId) (read : LinerRead) (u : MigUnit) (s : State),
    (s.pc q.val).mg.mig = .prepare → (s.pc q.val).mg.unit = u → u.src ≠ u.dst →
    (s.sup.restarting = true → exec (.linerIntoUse q read) s = .next s) ∧
    (s.sup.restarting = false → s.mode = .service ∨ s.mode = .retain → (∀ e ∈ s.afReads read.fuses u.dst, e.2 = .clear) →
    ∃ t, exec (.linerIntoUse q read) s = .next t ∧ (t.pc q.val).mg.mig = .copy ∧ (t.pc q.val).mg.unit = u ∧ t.ports = s.ports ∧
      t.flt = s.flt ∧ (t.slice q.val u.dst).inUse = true ∧
      (∀ a, a / (rowBytes * 262144) ≠ q.val * 18 + u.dst → t.readByte a = s.readByte a) ∧
      ((s.slice q.val u.dst).inUse = false →
        (t.layer u.dst).powered = true ∧
        ∀ a, a / (rowBytes * 262144) = q.val * 18 + u.dst → t.readByte a = memDefault a) ∧
      (u.bank = none → (t.rank q.val u.rank).state = 2 ∧ (t.rank q.val u.rank).layer = (s.rank q.val u.rank).layer))) ∧
  (∀ (q : PcId) (u : MigUnit) (b row : Nat) (s : State), (s.pc q.val).mg.mig = .copy → (s.pc q.val).mg.unit = u → u.bank = some b →
    u.moved = [] → (s.pc q.val).excluded = false → s.noController (chanOf q.val) = false → s.bist.phase < 3 →
    s.mode = .service ∨ s.mode = .retain → b < 16 → (s.pc q.val).mg.mark = 16 * row + b →
    row + 1 < 16384 →
    ∃ t, exec (.rowCopy q) s = .next t ∧ t.ports = s.ports ∧ t.flt = s.flt ∧ (t.pc q.val).mg.mig = .copy ∧
      (t.pc q.val).mg.mark = 16 * (row + 1) + b ∧
      t.readRow (rowKey q.val u.dst b row) = copiedRow (s.readRow (rowKey q.val u.src b row)) ∧
      ∀ a, a / rowBytes ≠ rowKey q.val u.dst b row → t.readByte a = s.readByte a)

/-- OTP (R129, R136, R141 to R147): a layer entry is blown in its lowest blank place in three burns, entry word, commit byte and lock
bit, and a row of a field frame with its check bits, only where a burn may start, the target is blank and the pulses succeed; a layer
entry whose burn fails leaves its place and waits again; the commit row makes its frame valid; a failed step of a frame moves its value
to the lowest free spare row and blows nothing; a management burn blows a blank unlocked row in FACTORY and answers its code; a shadow
that fails its parity takes its retention copy; overrides change shadows in FACTORY and are undone to the resolved values. -/
def Obligations.BurnsBlowOnlyPermittedRows : Prop :=
  (∀ (t : BurnTry) (temp : Temp) (e : AfEntry) (rest : List AfEntry) (i : Nat) (s : State), s.otp.afJob = none → s.afOpen = none →
    s.otp.afQueue = e :: rest →
    (∀ x ∈ s.afEntries e.layer, ¬ (x.spare = true ∧ x.q = e.q ∧ x.bank = e.bank ∧ x.y = e.y)) → s.afFree e.layer = some i →
    s.afMay t temp = true → t.pulses.isSome = true →
    s.afPlace i = 0 ∧ ∃ u, exec (.layerAntifuseBurn t temp) s = .next u ∧ u.afPlace i = BitVec.ofNat 41 e.word ∧
      (∀ j, j ≠ i → u.afPlace j = s.afPlace j) ∧ u.otp.afJob = some (i, e, [BitVec.ofNat 41 (0x5A * 2 ^ 32), BitVec.ofNat 41 (2 ^ 40)]) ∧
      u.otp.afQueue = rest.filter (fun x => decide (x ≠ e)) ∧ u.mem = s.mem ∧ u.ports = s.ports ∧ u.flt = s.flt ∧
      u.otp.rows = s.otp.rows) ∧
  (∀ (t : BurnTry) (temp : Temp) (key : Nat) (e : AfEntry) (v : BitVec 41) (rest : List (BitVec 41)) (s : State),
    s.otp.afJob = some (key, e, v :: rest) →
    (s.afMay t temp = true → t.pulses.isSome = true →
      ∃ u, exec (.layerAntifuseBurn t temp) s = .next u ∧ u.afPlace key = s.afPlace key ||| v ∧ u.otp.afHeld = false ∧
        (∀ j, j ≠ key → u.afPlace j = s.afPlace j) ∧ u.otp.afJob = (if rest = [] then none else some (key, e, rest)) ∧
        u.otp.rows = s.otp.rows ∧ u.mem = s.mem ∧ u.ports = s.ports ∧ u.flt = s.flt) ∧
    (s.afMay t temp = true → t.pulses = none → rest ≠ [] → e ∉ s.otp.afQueue → s.calm →
      ∃ u, exec (.layerAntifuseBurn t temp) s = .next u ∧ u.otp.afJob = none ∧ u.otp.afQueue = s.otp.afQueue ++ [e] ∧
        (∀ j, j ≠ key → u.afPlace j = s.afPlace j) ∧ u.otp.rows = s.otp.rows ∧ u.mem = s.mem) ∧
    (s.afMay t temp = false → exec (.layerAntifuseBurn t temp) s =
      .next { s with otp.afHeld := s.otp.afHeld || decide (degC 85 ≤ temp.val) })) ∧
  (∀ (t : BurnTry) (temp : Temp) (s : State), vppOk t = false ∨ s.mode ≠ .service ∨ s.sup.restarting = true ∨ degC 85 ≤ temp.val →
    s.afMay t temp = false) ∧
  (∀ (t : BurnTry) (s : State), s.supBurn t = false ∨ s.otp.burnHeld = true → exec (.fieldFrameBurn t) s = .next s) ∧
  (∀ (t : BurnTry) (f key : Nat) (v : BitVec 56) (rest : List (Nat × BitVec 56)) (s : State), s.supBurn t = true →
    s.otp.burnHeld = false → s.otp.job = some (f, (key, v) :: rest) →
    (s.keyBlank key = false → exec (.fieldFrameBurn t) s = .next s) ∧
    (s.keyBlank key = true → t.pulses.isSome = true → rest ≠ [] →
      ∃ u, exec (.fieldFrameBurn t) s = .next u ∧ u.otp.job = some (f, rest) ∧ u.mem = s.mem ∧
      u.ports = s.ports ∧ u.flt = s.flt ∧
      (key < 512 → u.fuseRow key = rowBits s.otp.rom.code key v ∧ u.otp.fields = s.otp.fields ∧
        (¬ (102 ≤ key ∧ key < 134) → syndrome s.otp.rom.code (u.fuseRow key) = 0)) ∧
      (∀ r, r ≠ (if key < 512 then key else 496 + (key - 512) / 4) → u.fuseRow r = s.fuseRow r) ∧ (servedRow key v = 136 + 8 * f + 7 → u.frame f = .validOpen) ∧
      ∀ g, g ≠ f → u.frame g = s.frame g) ∧
    (∀ k l, s.keyBlank key = true → t.pulses = none → key < 480 → s.freeSpares = k :: l → ∃ u w, exec (.fieldFrameBurn t) s = .next u ∧
      u.otp.job = some (f, (480 + k, v) :: w :: rest) ∧ w.1 = fieldKey k ∧ u.otp.rows = s.otp.rows ∧ u.otp.fields = s.otp.fields ∧
      u.otp.sparesUsed = s.otp.sparesUsed ++ [k] ∧ u.mem = s.mem ∧ u.ports = s.ports)) ∧
  (∀ s : State, (s.otp.burnHeld = true → s.baseBelow 92 = true →
      exec .burnResume s = .next { s with otp := { s.otp with burnHeld := false } }) ∧
    (s.baseBelow 92 = false → exec .burnResume s = .next s)) ∧
  (∀ (row : Fin 480) (s : State),
    (s.quiet 228 → ∃ u, exec (.shadowParityError row false) s = .next u ∧ u.shadow row.val = tabGet 0 s.otp.retShadow row.val ∧
      (∀ r, r ≠ row.val → u.shadow r = s.shadow r) ∧ (u.src 228).total = satInc (s.src 228).total ∧ u.mem = s.mem ∧
      u.ports = s.ports) ∧
    (row.val < 48 → s.mode ≠ .trip → ∃ u, exec (.shadowParityError row true) s = .next u ∧ u.mode = .hold) ∧
    (48 ≤ row.val → ∃ u, exec (.shadowParityError row true) s = .next u ∧ u.shadow row.val = 0 ∧
      ∀ r, r ≠ row.val → u.shadow r = s.shadow r)) ∧
  (∀ (t : BurnTry) (s : State), s.commits (.otpBurn t) →
    (s.otp.burnField = false → 496 ≤ s.otp.burnRow.toNat → ∃ u, exec (.otpBurn t) s = .next u ∧ u.otp = s.otp) ∧
    (s.otp.burnField = true ∨ s.otp.burnRow.toNat < 496 → s.mode ≠ .factory → ∃ u, exec (.otpBurn t) s = .next u ∧ u.otp = { s.otp with burnCode := 7, burnPulses := 0 } ∧
      u.mb.busy = some (1, s.now) ∧ u.mem = s.mem ∧ u.ports = s.ports) ∧
    (s.otp.burnField = true ∨ s.otp.burnRow.toNat < 496 → s.mode = .factory → vppOk t = false → ∃ u, exec (.otpBurn t) s = .next u ∧
      u.otp = { s.otp with burnCode := 2, burnPulses := 0 } ∧ u.mb.busy = some (1, s.now)) ∧
    (∀ n, s.mode = .factory → vppOk t = true → s.baseBelow 95 = true → s.otp.burnField = false → s.otp.burnRow.toNat < 496 →
      t.pulses = some n →
      isCommitRow s.otp.burnRow.toNat = false → s.fuseRow s.otp.burnRow.toNat = 0 →
      ¬ (102 ≤ s.otp.burnRow.toNat ∧ s.otp.burnRow.toNat < 134) →
      ∃ u, exec (.otpBurn t) s = .next u ∧ u.otp.burnCode = 1 ∧ u.otp.burnPulses.toNat = (n.val + 1) % 8 ∧
        u.fuseRow s.otp.burnRow.toNat = rowBits s.otp.rom.code s.otp.burnRow.toNat
          (BitVec.ofNat 56 (s.otp.burnLo.toNat + 2 ^ 32 * s.otp.burnHi.toNat)) ∧
        (∀ r, r ≠ s.otp.burnRow.toNat → u.fuseRow r = s.fuseRow r) ∧ u.otp.fields = s.otp.fields ∧ u.mem = s.mem)) ∧
  (∀ s : State, s.mode = .factory →
    (s.commits .applyOverride → s.otp.ovrRow.toNat < 480 → ∃ u, exec .applyOverride s = .next u ∧ u.mem = s.mem ∧ u.ports = s.ports ∧
      u.shadow s.otp.ovrRow.toNat = BitVec.ofNat 56 (s.otp.ovrLo.toNat + 2 ^ 32 * s.otp.ovrHi.toNat) ∧
      s.otp.ovrRow.toNat ∈ u.otp.overridden ∧ (∀ r, r ≠ s.otp.ovrRow.toNat → u.shadow r = s.shadow r) ∧ u.otp.rows = s.otp.rows) ∧
    (s.commits .clearOverrides → ∃ u, exec .clearOverrides s = .next u ∧ u.mem = s.mem ∧ u.ports = s.ports ∧ u.otp.overridden = [] ∧
      (∀ r ∈ s.otp.overridden, u.shadow r = tabGet 0 s.otp.resolved r) ∧
      ∀ r, r ∉ s.otp.overridden → u.shadow r = s.shadow r))

/-- Journals and wear (R149, R151, R153, R155 to R158, R160, R474): the head record goes to the write pointer with the next SEQ and its
CHECK, and leaves the queue; a failed write opens the next sector and counts, the eighth in a row suspends the journals; wear adds each
powered layer's and the base die's weighted second; the ledger is queued; flush and read are long operations, and while a read waits no
write begins. -/
def Obligations.JournalsRecordInOrder : Prop :=
  (∀ (j : JQueued) (s : State), s.journalRuns = true → s.writable = some j → s.bist.shutDown = false →
    ((∀ since, s.mb.busy ≠ some (4, since)) → s.journalHead = some j) ∧
    (s.thm.tripWait = false → s.jnl.offset ≠ 0 → s.jnl.offset + recordSize j.payload.length ≤ 4096 →
      ∃ t r, exec (.journalRecordWrite .committed) s = .next t ∧ t.jnl.records = s.jnl.records ++ [r] ∧
        checkOk r = true ∧ t.jnl.erasing = false ∧ r.kind = j.kind ∧ r.inst = j.inst ∧ r.payload = j.payload ∧ r.commit = 0x3C ∧ r.seq = s.jnl.seq + 1 ∧
        r.sector.val = s.jnl.sector % 2048 ∧ r.offset.toNat = s.jnl.offset % 4096 ∧ r.boot = s.jnl.bootCount ∧
        t.jnl.seq = s.jnl.seq + 1 ∧ t.jnl.offset = s.jnl.offset + recordSize j.payload.length ∧
        t.jnl.queue = dropFirst (fun x => decide (x = j)) s.jnl.queue ∧ t.jnl.failCount = 0 ∧ t.mem = s.mem ∧ t.ports = s.ports ∧
        t.flt = s.flt) ∧
    (s.jnl.failCount ≠ 7 → s.quiet 229 → ∃ t, exec (.journalRecordWrite .failed) s = .next t ∧
      t.jnl.erasing = true ∧ t.jnl.queue = s.jnl.queue ∧ t.jnl.sector = (s.jnl.sector + 1) % 2048 ∧ t.jnl.offset = 0 ∧ t.jnl.seq = s.jnl.seq ∧
      t.jnl.failCount = s.jnl.failCount + 1 ∧ (t.src 229).total = satInc (s.src 229).total ∧ t.mem = s.mem ∧ t.ports = s.ports ∧
      ∀ r ∈ t.jnl.records, r ∈ s.jnl.records ∨ exists_ r = false) ∧
    (s.jnl.failCount = 7 → ∃ t, exec (.journalRecordWrite .failed) s = .next t ∧ t.jnl.suspended = true ∧ t.jnl.queue = [])) ∧
  (∀ (o : WriteOutcome) (s : State), s.journalRuns = false ∨ s.jnl.queue = [] ∨
    (s.jnl.underWay = none ∧ ∃ since, s.mb.busy = some (4, since)) → exec (.journalRecordWrite o) s = .next s) ∧
  (∀ s : State, s.pwrgood = true → s.pwr.rung ≤ 3 → s.boot.step6 = true → s.mode ≠ .trip →
    ∃ t, exec .wearAccrual s = .next t ∧ t.now = s.now ∧ t.jnl.baseWear = s.jnl.baseWear + wearRate s.thm.baseTemp ∧
      ∀ k, k < 18 → (t.layer k).wear =
        if (s.layer k).powered then (s.layer k).wear + wearRate (s.layer k).temp else (s.layer k).wear) ∧
  (∀ s : State, (s.mode = .service → s.jnl.suspended = false → s.jnl.queue.length < 14 →
      ∃ t, exec .wearLedgerDue s = .next t ∧ t.jnl.queue = s.jnl.queue ++ [ledgerRecord s] ∧ t.mem = s.mem ∧ t.ports = s.ports ∧
        t.flt = s.flt) ∧
    (s.mode = .hold ∨ s.mode = .trip ∨ s.mode = .boot → exec .wearLedgerDue s = .next s)) ∧
  (∀ s : State, (s.commits .journalFlush → ∃ t, exec .journalFlush s = .next t ∧ t.mb.busy = some (3, s.now) ∧ t.jnl = s.jnl ∧
      t.mem = s.mem ∧ t.ports = s.ports ∧ t.flt = s.flt) ∧
    (s.commits .journalRead → ∃ t, exec .journalRead s = .next t ∧ t.mb.busy = some (4, s.now) ∧
      t.jnl = { s.jnl with underWay := s.journalHead } ∧ t.mem = s.mem ∧
      t.ports = s.ports ∧ t.flt = s.flt))

/-- Temperature (R35, R364, R365, R368, R373, R374, R376, R377, R409): a reading is held by its sensor, the third failed conversion in a row
makes it suspect; a layer at Trip takes the stack to TRIP with its reason recorded, links off, layers unpowered and no contents, even where a GRAVE fault has entered HOLD in
the same tick;
THERMTRIP_N follows the record or its time limit; a round with VREF_EXT out of range keeps the sensors biased; ZQ out of range
keeps the last codes. -/
def Obligations.TemperaturesAreHeldAndTripTheStack : Prop :=
  (∀ (t : List SensorReading) (v : BitVec 12) (s : State), s.thermalRuns = false →
    (s.heldNow = none → exec (.thermalSample t) s = .next s) ∧ exec .modelUpdate s = .next s ∧ exec (.sensorCalibration v) s = .next s) ∧
  (∀ (k : LayerId) (v : Temp) (m : Mode) (s : State), s.heldNow = some m → (s.layer k.val).suspectA = false → degC 105 ≤ v.val →
    ∃ t, exec (.thermalSample [{ sensor := .layerA k, value := some v }]) s = .next t ∧ t.mode = .trip ∧ t.thm.tripValid = true ∧
      t.thm.tripSrc = BitVec.ofNat 6 k.val ∧ t.thm.tripWait = true ∧ t.holdCause = 0 ∧ (s.grave = true → t.grave = true) ∧ t.mem = [] ∧
      ∀ p, p < 16 → (t.port p).lnk.link = .off) ∧
  (∀ (k : LayerId) (v : Temp) (s : State), s.thermalRuns = true → (s.layer k.val).powered = true → s.thm.vrefBad = false →
    ∃ t, exec (.thermalSample [{ sensor := .layerA k, value := some v }]) s = .next t ∧
      (t.layer k.val).sensA = some v.val ∧ (t.layer k.val).failA = 0 ∧ t.now = s.now) ∧
  (∀ (k : LayerId) (s : State), s.thermalRuns = true → (s.layer k.val).powered = true → (s.layer k.val).failA = 2 →
    ∃ t, exec (.thermalSample [{ sensor := .layerA k, value := none }]) s = .next t ∧ (t.layer k.val).suspectA = true) ∧
  (∀ (k : LayerId) (v : Temp) (s : State), s.mode = .service → s.pwr.rung ≤ 3 → (s.layer k.val).powered = true →
    s.thm.vrefBad = false → (s.layer k.val).suspectA = false → (s.layer k.val).level < 3 → degC 105 ≤ v.val →
    (s.layer k.val).divA = none → (s.layer k.val).divB = none → (s.layer k.val).divAB = none →
    ∃ t, exec (.thermalSample [{ sensor := .layerA k, value := some v }]) s = .next t ∧ t.mode = .trip ∧ t.thm.tripValid = true ∧
      t.thm.tripSrc = BitVec.ofNat 6 k.val ∧ t.thm.tripWait = true ∧ t.mem = [] ∧
      (∀ p, p < 16 → (t.port p).lnk.link = .off) ∧ ∀ j, (t.layer j).powered = false) ∧
  (∀ s : State, (s.thm.tripWait = false → exec .tripRecordTimeout s = .next s) ∧
    (s.thm.tripWait = true → ∃ t, exec .tripRecordTimeout s = .next t ∧ t.now = max s.now (s.thm.tripAt + 100000000) ∧
      t.pins.thermtrip = true ∧ t.sup.running = false ∧ t.thm.tripWait = false ∧ t.mode = s.mode ∧ t.mem = s.mem ∧
      t.ports = s.ports)) ∧
  (∀ s : State, s.thermalRuns = true → ∃ t, exec .modelUpdate s = .next t ∧ t.thm.work = [] ∧
    t.thm.history = s.thm.work :: s.thm.history.take 999 ∧ t.mem = s.mem ∧ t.ports = s.ports ∧ t.flt = s.flt ∧ t.mode = s.mode ∧
    ∀ k i, k < 18 → i < 16 → s.fitted k = true → tabGet 0 (t.layer k).nodes i =
      Config.thermalNode k i s.thm.work ((List.range 18).flatMap s.nodeList)
        ((List.range 16).map (fun i => ((s.baseSensor i).reading).getD 0))
        (((List.range 16).map (fun i => ((s.baseSensor i).reading).getD 0)).drop 8)) ∧
  (∀ (v : BitVec 12) (s : State), s.thermalRuns = true →
    (1980 ≤ v.toNat → v.toNat ≤ 2020 → ∃ t, exec (.sensorCalibration v) s = .next t ∧ t.thm.vrefBad = false ∧ t.thm.vref = v ∧
      t.thm.lastRound = some s.now ∧ t.flt = s.flt ∧ t.mem = s.mem ∧ t.ports = s.ports) ∧
    (v.toNat < 1980 ∨ 2020 < v.toNat → s.quiet 221 → ∃ t, exec (.sensorCalibration v) s = .next t ∧ t.thm.vrefBad = true ∧
      t.thm.vref = v ∧ t.thm.lastRound = s.thm.lastRound ∧ t.thm.alert = s.thm.alert ||| 16 ∧
      (t.src 221).total = satInc (s.src 221).total ∧ t.mem = s.mem ∧ t.ports = s.ports)) ∧
  (∀ (z : ZqMeas) (s : State), s.pwr.rung ≤ 2 → s.mode = .service →
    (228000 ≤ z.milliohm → z.milliohm ≤ 252000 → ∃ t, exec (.zqCalibration z) s = .next t ∧ t.pwr.zqBad = false ∧
      t.pwr.zqTx = oneStep s.pwr.zqTx z.tx ∧ t.pwr.zqRx = oneStep s.pwr.zqRx z.rx ∧ t.pwr.zqAt = some s.now ∧ t.flt = s.flt ∧
      t.mem = s.mem ∧ t.ports = s.ports) ∧
    (z.milliohm < 228000 ∨ 252000 < z.milliohm → s.quiet 6 → ∃ t, exec (.zqCalibration z) s = .next t ∧ t.pwr.zqBad = true ∧
      t.pwr.zqTx = s.pwr.zqTx ∧ t.pwr.zqRx = s.pwr.zqRx ∧ (t.src 6).total = satInc (s.src 6).total ∧ t.mem = s.mem ∧
      t.ports = s.ports))

/-- The way down the ladder (R382 to R384, R389 to R393): an idle port descends one rung within its floor; the stack asks every
block, takes the rung when all grant, and gives the entry up when one refuses or delays too long; RETAIN is entered at P3 and
deeper rungs after their dwells, contents that are not kept being lost; DOZE permits or withdraws a port's descent. -/
def Obligations.TheLadderGoesDownByHandshake : Prop :=
  (∀ (p : PortId) (n : Nat) (s : State), (s.port p.val).lnk.link = .active → (s.port p.val).idle = true →
    n = (s.port p.val).rung.toNat + 1 → n ≤ (s.port p.val).deepest → n ≤ 3 →
    ∃ t, exec (.portIdleDescent p) s = .next t ∧ (t.port p.val).rung.toNat = n ∧ (t.port p.val).txHush = decide (2 ≤ n) ∧
      (t.port p.val).reqs = (s.port p.val).reqs ∧ otherPorts p.val s t ∧ t.mem = s.mem ∧ t.flt = s.flt ∧
      t.now = max s.now ((s.port p.val).idleSince +
        (let w := s.pwr.timersAt (s.port p.val).idleSince
          if n = 1 then w.idle1.toNat else if n = 2 then w.idle2.toNat * 1000 else w.idle3.toNat * 1000000))) ∧
  (∀ (p : PortId) (s : State), (s.port p.val).lnk.link ≠ .active ∨ (s.port p.val).idle = false →
    exec (.portIdleDescent p) s = .next s) ∧
  (∀ (p : PortId) (s : State), (s.port p.val).lnk.link = .active → (s.port p.val).rung ≠ 0 → s.mode = .service →
    ∃ t, exec (.portActivityExit p) s = .next t ∧ (t.port p.val).rung = 0 ∧ (t.port p.val).txHush = false ∧
      (t.port p.val).idleSince = s.now ∧ otherPorts p.val s t ∧ t.mem = s.mem ∧ t.flt = s.flt) ∧
  (∀ (p : PortId) (s : State), (s.port p.val).inSession = true → (s.port p.val).tx.rx = [] →
    (exec (.doze p 2) s = .next (s.updPort p.val (fun x => { x with doze := 2 })) ∧
      exec (.doze p 3) s = .next (s.updPort p.val (fun x => { x with doze := 3 }))) ∧
    ((s.port p.val).rung = 0 → exec (.doze p 0) s = .next (s.updPort p.val (fun x => { x with doze := 0 }))) ∧
    (∀ v : Byte, v ≠ 0 → v ≠ 2 → v ≠ 3 → s.quiet (srcProto p.val) →
      exec (.doze p v) s = .next ((s.withEvent (srcProto p.val)).updPort p.val (fun x => { x with
        protoLast := 1, protoCount := satInc x.protoCount })))) ∧
  (∀ s : State, s.mode = .service → s.bist.shutDown = false → s.pwr.entry = none →
    (s.retainWait = 0 → exec .retainIdleExpiry s = .next s) ∧
    (s.retainWait ≠ 0 → s.portsIdle = true → s.pwr.retainPending = false →
      (s.pwr.rung ≠ 3 → ∃ t, exec .retainIdleExpiry s = .next t ∧ t.pwr.retainPending = true ∧ t.pwr.pendIdle = true ∧
        t.mode = .service ∧ t.mem = s.mem ∧ t.ports = s.ports) ∧
      (s.pwr.rung = 3 → s.migrating = false → ∃ t, exec .retainIdleExpiry s = .next t ∧
        t.pwr.entry = some { target := 6, start := t.now } ∧ t.mode = .service ∧ t.mem = s.mem ∧ t.ports = s.ports ∧
        t.now = max s.now (s.idleFrom + s.retainWait.toNat * 1000000))) ∧
    (s.commits .moveToRetain → s.pwr.rung = 3 → s.migrating = false → ∃ t, exec .moveToRetain s = .next t ∧
      t.pwr.entry = some { target := 6, start := s.now } ∧ t.pwr.skipDwells = (s.pwr.skipDwells && s.pwr.retainPending) ∧ t.mem = s.mem ∧
      t.ports = s.ports) ∧
    (s.commits .descendNow → s.pwr.rung ≠ 3 → ∃ t, exec .descendNow s = .next t ∧ t.pwr.retainPending = true ∧
      t.pwr.skipDwells = true ∧ t.pwr.pendIdle = false ∧ t.mem = s.mem ∧ t.ports = s.ports) ∧
    (s.commits .returnToService → ∃ t, exec .returnToService s = .next t ∧ t.pwr.retainPending = false ∧ t.mode = .service ∧
      t.mem = s.mem ∧ t.ports = s.ports)) ∧
  (∀ (e : Entry) (s : State), s.pwr.entry = some e →
    (∀ b, s.refuser e.target = some b → ∃ t, exec .entryComplete s = .next t ∧ t.pwr.entry = none ∧ t.pwr.hsResult = 2 ∧
      t.pwr.hsBlock = BitVec.ofNat 6 b ∧ t.pwr.hsRung = BitVec.ofNat 3 e.target ∧ t.pwr.refusals = satInc s.pwr.refusals ∧
      t.pwr.rung = s.pwr.rung ∧ t.mode = s.mode ∧ t.mem = s.mem ∧ t.ports = s.ports) ∧
    (s.refuser e.target = none → (s.delayer e.target).isSome = true ∨ s.pwr.raising = true → exec .entryComplete s = .next s) ∧
    (∀ b : GateId, ∃ t, exec (.entryDelayLimit b) s = .next t ∧ t.pwr.entry = none ∧ t.pwr.hsResult = 3 ∧
      t.pwr.hsBlock = BitVec.ofNat 6 b.val ∧ t.pwr.rung = s.pwr.rung ∧ t.mode = s.mode ∧ t.mem = s.mem ∧ t.ports = s.ports ∧
      t.now = max s.now (e.start + entryLimit e.target)) ∧
    (s.refuser e.target = none → s.delayer e.target = none → s.pwr.raising = false → s.pins.shdnReqN = true →
      (e.target = 2 → ∃ t, exec .entryComplete s = .next t ∧ t.pwr.entry = none ∧ t.pwr.hsResult = 1 ∧ t.pwr.rung = 2 ∧
        t.mode = s.mode ∧ t.mem = s.mem ∧ t.ports = s.ports ∧
        ∀ q k, (s.slice q k).inUse = true → (t.slice q k).powerDown = true) ∧
      (e.target = 6 → s.mode = .service → s.pwr.skipDwells = false → ∃ t, exec .entryComplete s = .next t ∧ t.mode = .retain ∧
        t.pwr.entry = none ∧ t.pwr.hsResult = 1 ∧ t.pwr.rung = 3 ∧ t.pwr.dwellFrom = s.now ∧ t.mem = s.mem ∧ t.ports = s.ports) ∧
      (e.target = 5 → ∃ t, exec .entryComplete s = .next t ∧ t.pwr.rung = 5 ∧ t.mem = [] ∧ t.sup.running = false ∧
        t.pwr.corePll = false ∧ ∀ p, p < 16 → (t.port p).lnk.link = .off))) ∧
  (∀ (b : GateId) (s : State), s.pwr.entry = none → exec .entryComplete s = .next s ∧ exec (.entryDelayLimit b) s = .next s) ∧
  (∀ (m x from_ : Nat) (s : State), s.mode = .service → s.bist.shutDown = false → s.pwr.entry = none → s.pwr.retry = some (x, from_) →
    m = s.lowestRung → s.pwr.rung < m → 2 ≤ m → s.refuser m = none →
    ∃ t, exec .entryRetry s = .next t ∧ t.pwr.entry = some { target := m, start := t.now } ∧ t.pwr.retry = none ∧
      t.now = max s.now (from_ + 10 * entryLimit x) ∧ t.mem = s.mem ∧ t.ports = s.ports) ∧
  (∀ s : State, s.pwr.retry = none → exec .entryRetry s = .next s) ∧
  (∀ s : State, s.dwelling = true →
    (s.pwr.rung = 3 → s.pwr.keep ≠ 0 → 4 ≤ s.pwr.deepestNow → s.refuser 4 = none → ∃ t, exec .dwellP3Expiry s = .next t ∧
      t.pwr.entry = some { target := 4, start := t.now } ∧ t.now = max s.now (s.pwr.dwellFrom + (s.pwr.timersAt s.pwr.dwellFrom).dwell3.toNat * 1000000) ∧
      t.mem = s.mem ∧ t.ports = s.ports) ∧
    (s.pwr.rung = 3 → s.pwr.keep = 0 → s.pwr.deepestNow = 5 → s.refuser 5 = none → ∃ t, exec .dwellP3Expiry s = .next t ∧
      t.pwr.entry = some { target := 5, start := t.now } ∧ t.bist.running = true ∧ t.mem = s.mem ∧ t.ports = s.ports) ∧
    (s.pwr.rung = 4 → s.pwr.deepestNow = 5 → s.refuser 5 = none → ∃ t, exec .dwellP4Expiry s = .next t ∧
      t.pwr.entry = some { target := 5, start := t.now } ∧ t.bist.running = true ∧ t.sup.running = true ∧
      t.now = max s.now (s.pwr.dwellFrom + (s.pwr.timersAt s.pwr.dwellFrom).dwell4.toNat * 1000000) ∧ t.mem = s.mem ∧ t.ports = s.ports)) ∧
  (∀ s : State, s.mode ≠ .retain → exec .dwellP3Expiry s = .next s ∧ exec .dwellP4Expiry s = .next s)

/-- Wakes (R225, R394 to R399): at P4 or P5 each wake source starts the exit sequence and is the one recorded; at P3 a wake of the
pin or of a port leads back to SERVICE; the exit from P5 draws a new interleave key and waits until one is healthy; a wake to
RETAIN lets the stack rest again once its cause is handled. -/
def Obligations.WakesStartTheExitAndAreRecorded : Prop :=
  (∀ s : State, s.mode = .retain → s.bist.shutDown = false → s.pwr.wake = none → s.pwr.entry = none →
    s.pwr.rung = 4 ∨ s.pwr.rung = 5 →
    (∃ t, exec .wakeNLow s = .next t ∧ t.pwr.wake = some { from_ := s.pwr.rung, code := 3, service := true, step := 1 } ∧
      t.pwr.wakeLast = 3 ∧ t.pwr.raising = true ∧ t.pwr.wakes = s.pwr.wakes + 1 ∧ t.pins.wakeN = false ∧ t.mem = s.mem ∧
      t.ports = s.ports ∧ t.flt = s.flt) ∧
    (∀ p : PortId, s.portUp p.val = true → ∃ t, exec (.portActivityWake p) s = .next t ∧
      t.pwr.wake = some { from_ := s.pwr.rung, code := 1, service := true, step := 1 } ∧ t.pwr.wakeLast = 1 ∧ t.pwr.raising = true ∧
      t.mem = s.mem ∧ t.ports = s.ports ∧ t.flt = s.flt) ∧
    (s.pwr.ladderTimer ≠ 0 → ∃ t, exec .ladderTimerWake s = .next t ∧
      t.pwr.wake = some { from_ := s.pwr.rung, code := 4, service := false, step := 1 } ∧ t.pwr.wakeLast = 4 ∧
      t.now = max s.now (s.pwr.restAt + s.pwr.ladderTimer.toNat * 1000000000) ∧ t.mem = s.mem ∧ t.ports = s.ports ∧ t.flt = s.flt) ∧
    (∀ k : LayerId, s.pwr.rung = 4 → s.layerKept k.val = true → ∃ t, exec (.thermalWake k) s = .next t ∧
      t.pwr.wake = some { from_ := 4, code := 5, service := false, step := 1 } ∧ t.pwr.wakeLayer = k.val ∧ t.mem = s.mem ∧
      t.ports = s.ports ∧ t.flt = s.flt) ∧
    (∀ n : SrcId, s.bist.running = false → s.counts n.val = true → s.flt.held.length < 8 → ∃ t, exec (.faultWake (some n)) s = .next t ∧
      t.pwr.wake = some { from_ := s.pwr.rung, code := 6, service := false, step := 1 } ∧ t.flt.held = s.flt.held ++ [(n.val, s.now)] ∧
      t.mem = s.mem ∧ t.ports = s.ports) ∧
    (s.pwr.rung = 4 → ∃ t, exec (.faultWake none) s = .next t ∧
      t.pwr.wake = some { from_ := 4, code := 6, service := false, step := 1 } ∧ t.mem = s.mem ∧ t.ports = s.ports ∧ t.flt = s.flt) ∧
    (s.mb.busy = none → ∃ t, exec .twoWireWake s = .next t ∧
      t.pwr.wake = some { from_ := s.pwr.rung, code := 2, service := false, step := 1 } ∧ t.mb.busy = some (6, s.now) ∧
      t.mb.transfer = none ∧ t.mem = s.mem ∧ t.ports = s.ports ∧ t.flt = s.flt)) ∧
  (∀ s : State, s.mode = .retain → s.bist.shutDown = false → s.pwr.wake = none → s.pwr.rung = 3 →
    (∃ t, exec .wakeNLow s = .next t ∧ t.mode = .service ∧ t.pwr.wakeLast = 3 ∧ t.pwr.serviceAt = s.now ∧ t.mem = s.mem) ∧
    (∀ p : PortId, s.portUp p.val = true → (s.port p.val).lnk.link ≠ .active → ∃ t, exec (.portActivityWake p) s = .next t ∧
      t.mode = .service ∧ t.pwr.wakeLast = 1 ∧ t.mem = s.mem) ∧
    (s.commits .returnToService → ∃ t, exec .returnToService s = .next t ∧ t.mode = .service ∧ t.pwr.wakeLast = 2 ∧ t.mem = s.mem)) ∧
  (∀ s : State, s.mode = .hold ∨ s.mode = .trip → (∀ k : LayerId, s.pwr.rung ≤ 3 → exec (.thermalWake k) s = .next s) ∧
    (∀ n, exec (.faultWake n) s = .next s) ∧ exec .twoWireWake s = .next s ∧ ∀ p : PortId, exec (.portActivityWake p) s = .next s) ∧
  (∀ (key : KeyDraw) (l : List SensorReading) (s : State),
    (s.pwr.wake = none → exec (.wakeExitComplete key l) s = .next s) ∧
    (∀ w, s.pwr.wake = some w →
      (s.pwr.raising = true ∨ s.sup.running = false ∨ s.pwr.corePll = false → exec (.wakeExitComplete key l) s = .next s) ∧
      (s.pwr.raising = false → s.sup.running = true → s.pwr.corePll = true → w.from_ = 5 → w.step < 6 →
        (key.healthy = false → exec (.wakeExitComplete key l) s = .next
          { s with rep := { s.rep with keyPending := true, keyAt := if s.rep.keyPending then s.rep.keyAt else s.now } }) ∧
        (key.healthy = true → ∃ t, exec (.wakeExitComplete key l) s = .next t ∧ t.pwr.wake = none ∧ t.rep.keyPending = false ∧
          t.rep.key = BitVec.ofNat 128 (shake256 key.raw).toNat ∧ t.rep.keyGen = s.rep.keyGen + 1 ∧ t.rep.keyFallback = false)) ∧
      (s.pwr.raising = false → s.sup.running = true → s.pwr.corePll = true → w.from_ = 4 →
        ∃ t, exec (.wakeExitComplete key l) s = .next t ∧ t.pwr.wake = none ∧ t.rep.key = s.rep.key ∧
          t.rep.keyGen = s.rep.keyGen))) ∧
  (∀ s : State, s.mode = .retain → s.pwr.rung = 3 →
    (s.pwr.cause = 4 → s.pwr.entry = none → s.jnl.queue = [] → ∃ t, exec .housekeepingDone s = .next t ∧ t.pwr.cause = 0) ∧
    (s.pwr.cause ≠ 4 → exec .housekeepingDone s = .next s) ∧
    (s.causeHandled = true → ∃ t, exec .wakeCauseHandled s = .next t ∧ t.pwr.cause = 0 ∧ t.pwr.dwellFrom = s.now ∧ t.mem = s.mem ∧
      t.ports = s.ports ∧ t.flt = s.flt ∧ t.mode = .retain) ∧
    (s.causeHandled = false → exec .wakeCauseHandled s = .next s))

/-- The collector (R5, R101, R414 to R418, R424, R425, R430, R432): an event short of the Nth only counts, once in a tick; the Nth raises the class by one and
takes the reactions; at GRAVE it sets the latch and holds the stack, in BOOT with cause 0x01 (log 31), the first cause staying; windows
close; a forced event takes no per-event action; CLEAR gives back the initial class; the self-checks restore what differs and
count it; a crossbar transfer that fails twice answers POISON and its write is not performed. -/
def Obligations.FaultEventsCountEscalateAndHold : Prop :=
  (∀ (n : SrcId) (d : EventDetail) (s : State), s.pwrgood = true → n.val ≠ 1 → n.val ≠ 214 → n.val ≠ 217 →
    (s.quiet n.val → n.val ≠ 0 → n.val ≠ 9 → (n.val < 80 ∨ 212 ≤ n.val) →
      exec (.faultRegistration n d) s = .next (s.withEvent n.val)) ∧
    (s.collectorOff = false → s.counts n.val = true → (s.src n.val).last = some s.now →
      (n.val < 80 ∨ 212 ≤ n.val) →
      ∃ t, exec (.faultRegistration n d) s = .next t ∧ t.src n.val = { s.src n.val with total := satInc (s.src n.val).total } ∧
        (∀ m, m ≠ n.val → t.src m = s.src m) ∧ t.mode = s.mode ∧ t.mem = s.mem ∧ t.ports = s.ports) ∧
    (s.collectorOff = false → s.counts n.val = true → (s.src n.val).last ≠ some s.now → ((s.src n.val).count1 s.now).2 = true →
      (fixedClass n.val = none → fixedReact n.val = 0 → (s.src n.val).react = 1 → (s.src n.val).cls.toNat < 3 →
        n.val ≠ 0 → n.val ≠ 9 → (n.val < 80 ∨ 212 ≤ n.val) →
        ∃ t, exec (.faultRegistration n d) s = .next t ∧ (t.src n.val).cls = (s.src n.val).cls + 1 ∧
          (t.src n.val).escalated = true ∧ (t.src n.val).escalations = satInc (s.src n.val).escalations ∧
          (t.src n.val).windowOpen = false ∧ (t.src n.val).count = 0 ∧ (t.src n.val).total = satInc (s.src n.val).total ∧
          t.flt.nextSeq = s.flt.nextSeq + 1 ∧ t.mode = s.mode ∧ t.mem = s.mem ∧ t.ports = s.ports) ∧
      (s.srcClass n.val = 4 → s.mode ≠ .hold → s.mode ≠ .trip →
        ∃ t, exec (.faultRegistration n d) s = .next t ∧ t.grave = true ∧ t.mode = .hold ∧
          t.holdCause = (if s.holdCause ≠ 0 then s.holdCause
            else if s.mode = .boot then 1 else BitVec.ofNat 8 (graveCause n.val)) ∧
          (s.grave = false → t.flt.graveSrc = BitVec.ofNat 8 n.val)))) ∧
  (∀ (n : SrcId) (d : EventDetail) (s : State), s.pwrgood = false → s.sup.running = false → s.thermalRuns = false →
    s.heldNow = none →
    exec (.faultRegistration n d) s = .next s) ∧
  (∀ (n : SrcId) (s : State), ((s.src n.val).windowOpen = false → exec (.faultWindowExpiry n) s = .next s) ∧
    ((s.src n.val).windowOpen = true → s.collectorOff = false → ∃ t, exec (.faultWindowExpiry n) s = .next t ∧
      t.src n.val = { s.src n.val with windowOpen := false, count := 0 } ∧ (∀ m, m ≠ n.val → t.src m = s.src m) ∧
      t.now = max s.now ((s.src n.val).start + windowNs (s.src n.val).t.toNat + 1) ∧ t.mem = s.mem ∧ t.ports = s.ports)) ∧
  (∀ s : State, s.sup.running = true → s.sup.restarting = false → s.pwr.rung ≤ 3 → s.mode ≠ .trip →
    (exec (.aonSelfCheck []) s = .next { s with flt := { s.flt with
      grave0 := s.grave, grave1 := s.grave, grave2 := s.grave, checks := [] } }) ∧
    (∀ i : Fin 3, (tabGet 0 s.flt.checks i.val < 2 → s.quiet 0 → ∃ t, exec (.aonSelfCheck [.graveCopy i]) s = .next t ∧
        t.flt.grave0 = s.grave ∧ t.flt.grave1 = s.grave ∧ t.flt.grave2 = s.grave ∧ t.mode = s.mode ∧
        t.flt.checks = [(i.val, tabGet 0 s.flt.checks i.val + 1)] ∧ (t.src 0).total = satInc (s.src 0).total ∧ t.mem = s.mem ∧
        t.ports = s.ports) ∧
      (2 ≤ tabGet 0 s.flt.checks i.val → ∃ t, exec (.aonSelfCheck [.graveCopy i]) s = .next t ∧ t.grave = true ∧
        t.mode = .hold))) ∧
  (∀ s : State, exec (.collectorSweep []) s = .next s) ∧
  (∀ (n : SrcId) (c : BitVec 3) (s : State), s.pwrgood = true → s.mode ≠ .trip → s.quiet 9 → n.val ≠ 9 →
    (s.counts n.val = false → exec (.collectorSweep [(n, c)]) s = .next s) ∧
    (s.counts n.val = true → ∃ t, exec (.collectorSweep [(n, c)]) s = .next t ∧ (t.src n.val).windowOpen = false ∧ (t.src n.val).count = 0 ∧
      (t.src n.val).cls = (if (s.src n.val).cls < c ∧ c.toNat ≤ 4 then c else (s.src n.val).cls) ∧
      (t.src 9).total = satInc (s.src 9).total ∧ t.mode = s.mode ∧ t.mem = s.mem ∧ t.ports = s.ports)) ∧
  (∀ (n : SrcId) (s : State), s.commits (.fltForce n) → (s.src n.val).last ≠ some (s.now + 1) →
    (s.counts n.val = true → ((s.src n.val).count1 (s.now + 1)).2 = false → s.srcClass n.val ≠ 4 → ∃ t, exec (.fltForce n) s = .next t ∧ (t.src n.val).total = satInc (s.src n.val).total ∧
      (t.src n.val).pending = true ∧ (t.src n.val).forced = true ∧ (t.src n.val).cls = (s.src n.val).cls ∧ t.chans = s.chans ∧
      t.pcs = s.pcs ∧ t.sup = s.sup ∧ t.rep = s.rep ∧ t.mode = s.mode ∧ t.mem = s.mem ∧ t.ports = s.ports) ∧
    (s.counts n.val = true → s.srcClass n.val = 4 → s.mode ≠ .trip → ∃ t, exec (.fltForce n) s = .next t ∧ t.grave = true ∧
      t.mode = .hold) ∧
    (s.counts n.val = false → ∃ t, exec (.fltForce n) s = .next t ∧ t.flt = s.flt ∧ t.mode = s.mode ∧ t.mem = s.mem ∧
      t.ports = s.ports)) ∧
  (∀ (n : SrcId) (s : State), s.commits (.fltClear n) →
    (s.srcClass n.val ≠ 4 → fixedClass n.val = none → s.srcAbsent n.val = false → ∃ t, exec (.fltClear n) s = .next t ∧
      t.src n.val = { s.src n.val with cls := (s.src n.val).initCls, windowOpen := false, count := 0 } ∧
      (∀ m, m ≠ n.val → t.src m = s.src m) ∧ t.flt.log = s.flt.log ∧ t.mem = s.mem ∧ t.ports = s.ports) ∧
    (s.srcClass n.val = 4 ∨ (fixedClass n.val).isSome = true → ∃ t, exec (.fltClear n) s = .next t ∧ t.flt = s.flt ∧
      t.mem = s.mem ∧ t.ports = s.ports)) ∧
  (∀ (p : PortId) (g : BitVec 10) (s : State), exec (.crossbarParityError p g false) s = .next s) ∧
  (∀ (p : PortId) (g : BitVec 10) (r : Req) (s : State), s.quiet 7 → r.phase = .latched → r.tag = g.toNat → r.op.mgmt = false →
    r.accepted = true → (s.port p.val).reqs = [r] →
    (r.op.writes = true → ∃ t, exec (.crossbarParityError p g true) s = .next t ∧ t.mem = s.mem ∧ otherPorts p.val s t ∧
      (t.src 7).total = satInc (s.src 7).total ∧
      (t.port p.val).outq = (s.port p.val).outq ++ [{ completion r .poison with bound := some r.bound, base := r.base }] ∧
      ∀ q, q < 32 → ∀ e ∈ (t.pc q).wq, ∀ w ∈ e.writes, w.serial ≠ r.serial) ∧
    (r.op = .rd64 → r.len = 0 → r.todo = 1 → r.part1 = none → ∃ t, exec (.crossbarParityError p g true) s = .next t ∧ t.mem = s.mem ∧
      otherPorts p.val s t ∧ (t.src 7).total = satInc (s.src 7).total ∧
      (t.port p.val).outq = (s.port p.val).outq ++
        [{ slot := .data r.tag 0 .poison 0, closes := some r.tag, bound := some r.bound, base := r.base }]))

/-- Attestation (R23, R139, R142, R448, R451 to R458): a report is signed with the next leaf, which never comes back, and costs one of the allowance; a
block is entered by burning both bits of its LEAF pair first, which counts up the LEAF counter and shows in the row's shadow; without allowance, state or burn the request is refused with its RESULT; a
port's report leaves in 49 segments, the last of which closes its tag. -/
def Obligations.ReportsUseEachLeafOnce : Prop :=
  (∀ (ok : Bool) (s : State), (s.att.ready = true ∨ s.attRuns = false → exec (.traversalBuilt ok) s = .next s) ∧
    (s.att.ready = false → s.att.exhausted = false → s.attRuns = true →
      (s.att.rebuild = true ∨ ok = true →
        exec (.traversalBuilt ok) s = .next { s with att := { s.att with ready := true, rebuild := false } }) ∧
      (s.att.rebuild = false → ok = false →
        exec (.traversalBuilt ok) s = .next { s with att := { s.att with rebuild := true } }))) ∧
  (∀ s : State, (s.mode = .service ∨ s.mode = .retain →
      exec .allowanceGain s = .next { s with
        now := max s.now (s.att.gainAt + 1800000000000)
        att := { s.att with allowance := min 64 (s.att.allowance + 1), gainAt := max s.now (s.att.gainAt + 1800000000000) } }) ∧
    (s.mode = .hold ∨ s.mode = .trip ∨ s.mode = .boot → exec .allowanceGain s = .next s)) ∧
  (∀ (t : BurnTry) (s : State), s.att.queue = [] → exec (.reportSigned t) s = .next s) ∧
  (∀ (t : BurnTry) (s u : State), exec (.reportSigned t) s = .next u → s.att.next ≤ u.att.next) ∧
  (∀ (t : BurnTry) (r : AttReq) (rest : List AttReq) (s : State),
    s.att.queue = r :: rest → s.stillAsked r = true → s.attRuns = true → s.att.exhausted = false → s.att.ready = true →
    (s.att.allowance = 0 → ∃ u, exec (.reportSigned t) s = .next u ∧ u.att.next = s.att.next ∧ u.att.queue = rest ∧
      u.att.reports = s.att.reports ∧ (r.port = none → u.att.result = 3)) ∧
    (s.att.allowance ≠ 0 → s.att.next + 1 < 1048576 →
      (s.att.next / 1024 < s.leafCount →
        ∃ u, exec (.reportSigned t) s = .next u ∧ u.att.next = s.att.next + 1 ∧ u.att.allowance = s.att.allowance - 1 ∧
          u.att.queue = rest ∧ u.att.reports = satInc s.att.reports ∧ u.otp = s.otp ∧ u.mem = s.mem ∧ u.flt = s.flt ∧
          (r.port = none → u.att.result = 1 ∧ u.att.report = s.report 0xFF r.nonce s.att.next ∧ u.ports = s.ports) ∧
          (∀ p, r.port = some p → otherPorts p s u ∧ (u.port p).attLast = some s.now ∧
            (u.port p).attReports = satInc (s.port p).attReports ∧
            ∃ l, (u.port p).outq = (s.port p).outq ++ l ∧ l.length = 49 ∧ (∀ o ∈ l.take 48, o.closes = none) ∧
              (∀ o ∈ l.drop 48, o.closes = some r.tag))) ∧
      (s.leafCount ≤ s.att.next / 1024 → s.supBurn t = true → t.pulses.isSome = true → s.att.next / 1024 < 1008 →
        ∃ u, exec (.reportSigned t) s = .next u ∧ u.att.next = s.att.next + 1 ∧ u.att.burnWait = false ∧
          u.leafCount = s.att.next / 1024 + 1 ∧
          u.fuseRow (102 + s.att.next / 32768) =
            s.fuseRow (102 + s.att.next / 32768) ||| BitVec.ofNat 64 (3 * 4 ^ (s.att.next / 1024 % 32)) ∧
          (∀ i, i ≠ 102 + s.att.next / 32768 → u.fuseRow i = s.fuseRow i ∧ u.shadow i = s.shadow i) ∧
          u.shadow (102 + s.att.next / 32768) = (u.fuseRow (102 + s.att.next / 32768)).extractLsb' 0 56 ∧
          102 + s.att.next / 32768 ∈ u.otp.overridden ∧ u.att.reports = satInc s.att.reports ∧ u.mem = s.mem ∧ u.flt = s.flt) ∧
      (s.leafCount ≤ s.att.next / 1024 → s.supBurn t = false →
        ∃ u, exec (.reportSigned t) s = .next u ∧ u.att.next = s.att.next ∧ u.att.burnWait = true ∧ u.otp = s.otp ∧
          u.att.reports = s.att.reports ∧ (r.port = none → u.att.result = 4)))) ∧
  (∀ s : State, s.commits .attReportRequest → s.currentView = .whole →
    (s.attRuns = false → ∃ u, exec .attReportRequest s = .next u ∧ u.att.result = 7 ∧ u.att.queue = s.att.queue ∧
      u.mb.busy = none ∧ u.mb.longOp = 2 ∧ u.mem = s.mem ∧ u.ports = s.ports) ∧
    (s.attRuns = true → s.att.exhausted = false → s.att.ready = true → s.att.allowance ≠ 0 →
      (∀ a ∈ s.att.queue, ∀ p, a.port = some p → p < 16) →
      ∃ u, exec .attReportRequest s = .next u ∧
        u.att.queue = s.att.queue ++ [{ port := none, tag := 0, nonce := s.att.nonce, at_ := s.now }] ∧ u.att.result = 0 ∧
        u.att.report = [] ∧ u.mb.busy = some (2, s.now) ∧ u.mem = s.mem ∧ u.ports = s.ports)) ∧
  (∀ (p : PortId) (s : State), s.listens = true → s.following = true → s.currentView = .port p → s.sup.restarting = false →
    s.actsNow (actionAddr .attReportRequest) = true → ∃ u, exec .attReportRequest s = .next u ∧ u.att.result = 6 ∧
      u.att.queue = s.att.queue ∧ u.mb.busy = none)

/-- Shut-down and self-test (R133, R486, R487, R489, R490): a request is acted on where mode and rung allow, by its trigger; a chosen set runs in
HOLD or FACTORY and is refused elsewhere; a partition passes where its signature is the expected one; it fails, or has no signature to expect, with an
event on source 245; the test ends with its last partition; the deadline completes the shut-down. -/
def Obligations.SelfTestsRunAndShutDownCompletes : Prop :=
  (∀ s : State, (s.shutdownAllowed = false ∨ (s.bist.shutDown = true ∧ s.bist.phase ≠ 2) → exec .shdnReqNLow s = .next { s with pins := { s.pins with shdnReqN := false } }) ∧
    (s.shutdownAllowed = true → s.bist.shutDown = false → ∃ t, exec .shdnReqNLow s = .next t ∧ t.bist.shutDown = true ∧
      t.bist.trigger = 1 ∧ t.bist.shutAt = s.now ∧ t.pins.shdnReqN = false ∧ t.pwr.retainPending = false ∧ t.pwr.entry = none ∧
      t.mode = s.mode ∧ t.now = s.now)) ∧
  (∀ s : State, s.commits .bistShutdownGo → s.bist.shutDown = false → s.bist.running = false →
    (s.shutdownAllowed = true → ∃ t, exec .bistShutdownGo s = .next t ∧ t.bist.shutDown = true ∧ t.bist.trigger = 2 ∧
      t.bist.shutAt = s.now ∧ t.mb.busy = some (5, s.now) ∧ t.mode = s.mode) ∧
    (s.shutdownAllowed = false → ∃ t, exec .bistShutdownGo s = .next t ∧ t.bist.shutDown = false ∧ t.bist.refused = true ∧
      t.mb.busy = none ∧ t.mb.longOp = 5 ∧ t.mem = s.mem ∧ t.ports = s.ports)) ∧
  (∀ (m : BitVec 20) (l : List Nat) (s : State), s.commits (.bistPartitionGo m) → s.bist.shutDown = false → s.bist.running = false →
    m ≠ 0 → l = (List.range 20).filter (fun i => m.getLsbD i && !s.partAbsent i) →
    (s.mode = .hold ∨ s.mode = .factory → l ≠ [] → ∃ t, exec (.bistPartitionGo m) s = .next t ∧ t.bist.running = true ∧
      t.bist.todo = l ∧ t.bist.trigger = 4 ∧ t.bist.startedAt = s.now ∧ t.mb.busy = some (5, s.now) ∧ t.mem = s.mem ∧
      t.ports = s.ports) ∧
    (s.mode = .service ∨ s.mode = .retain → ∃ t, exec (.bistPartitionGo m) s = .next t ∧ t.bist.running = false ∧
      t.bist.refused = true ∧ t.mem = s.mem ∧ t.ports = s.ports)) ∧
  (∀ (l : List PartEnd) (s : State), s.bist.running = false ∨ s.pwr.raising = true → exec (.bistSlotEnd l) s = .next s) ∧
  (∀ (l : List PartEnd) (s : State), s.bist.running = true → s.pwr.raising = false → s.underTest ≠ [] →
    (∀ i ∈ s.underTest, ∃ e ∈ l, e.part.val = i) →
    (∀ e ∈ l, e.part.val ∈ s.underTest → s.expected e.part.val = some e.signature) →
    ∃ t, exec (.bistSlotEnd l) s = .next t ∧ t.flt = s.flt ∧ t.mem = s.mem ∧ t.ports = s.ports ∧
      (∀ i ∈ s.underTest, (t.part_ i).status = 1) ∧ (∀ i, i ∉ s.underTest → t.part_ i = s.part_ i) ∧
      t.bist.todo = s.bist.todo.filter (fun i => !s.underTest.contains i) ∧ (t.bist.running = true ↔ t.bist.todo ≠ [])) ∧
  (∀ (e : PartEnd) (s u : State), s.bist.running = true → s.pwr.raising = false → s.underTest = [e.part.val] →
    s.expected e.part.val ≠ some e.signature →
    u = s.atLeast (s.bist.startedAt + 1000 * (s.bist.spent + e.durationUs.toNat)) → u.quiet 245 →
    ∃ t, exec (.bistSlotEnd [e]) s = .next t ∧ (t.part_ e.part.val).status = (if s.expected e.part.val = none then 3 else 2) ∧ (t.src 245).total = satInc (s.src 245).total ∧
      t.now = u.now ∧ t.mem = s.mem ∧ t.ports = s.ports) ∧
  (∀ s : State, (s.bist.shutDown = false → exec .shutdownDeadline s = .next s) ∧
    (s.bist.shutDown = true → 2 ≤ s.bist.phase → s.bist.phase < 6 → ∃ t, exec .shutdownDeadline s = .next t ∧ t.bist.phase = 6 ∧
      t.pins.shdnDone = true ∧ t.bist.running = false ∧ (∀ k, (t.layer k).powered = false) ∧
      t.now = max s.now (s.bist.shutAt + 598000000)))

/-- The two-wire target (R10, R464, R465, R467 to R471, R474 to R482): what an address byte, a register address, a written and a read register, the
PEC byte, the end of a transfer, the end and the bound of a long operation, an attention request and the two 30 ms timers do; a word written to a register of an action asks for it as its command does; while a long
operation runs nothing is taken. -/
def Obligations.TheTwoWireTargetFollowsItsTransfers : Prop :=
  (∀ (a : BitVec 7) (rd : Bool) (s : State), (s.targetUp = false → exec (.mbAddressByte a rd) s = .next s) ∧
    (s.targetUp = true → s.mb.busy = none → ¬ (s.mode = .retain ∧ 4 ≤ s.pwr.rung) →
      ∃ t, exec (.mbAddressByte a rd) s = .next t ∧ t = { s with mb := t.mb } ∧ t.mb.deaf = false ∧
        t.mb.pointers = s.mb.pointers ∧ t.mb.transfer = (s.viewAt a.toNat).map (fun v =>
          { addr := a, view := v, read := rd, pec := s.mb.pec }) ∧
        t.mb.attnNow = s.mb.attention ∧
        t.mb.crc = (if s.viewAt a.toNat = none then some 0
          else s.mb.crc.map (fun c => crc8 c (BitVec.ofNat 8 (2 * a.toNat + b2n rd))))) ∧
    (a.toNat = 0x58 + s.pins.maddr.toNat → s.viewAt a.toNat = some .whole)) ∧
  (∀ (a : BitVec 24) (d : Word) (pec : Byte) (s : State), s.mb.busy.isSome = true →
    exec (.mbRegisterAddress a) s = .next s ∧ exec (.registerWrite d pec) s = .next s ∧ exec .readClear s = .next s) ∧
  (∀ (x : Transfer) (s : State), s.liveTransfer = some x → x.read = false →
    (∀ a : BitVec 24, (a.toNat % 4 = 0 → ∃ t, exec (.mbRegisterAddress a) s = .next t ∧ t.pointer x.addr = a.toNat ∧
        t.mb.transfer = some x ∧ t.mem = s.mem ∧ t.ports = s.ports) ∧
      (a.toNat % 4 ≠ 0 → ∃ t, exec (.mbRegisterAddress a) s = .next t ∧ t.mb.pointers = s.mb.pointers ∧ t.liveTransfer = none ∧
        t.mem = s.mem ∧ t.ports = s.ports)) ∧
    (∀ (d : Word) (pec c : Byte), x.pec = true → s.mb.crc = some c → pec ≠ (leBytes 4 d.toNat).foldl crc8 c → s.quiet 244 →
      ∃ t, exec (.registerWrite d pec) s = .next t ∧ t.mb.pointers = s.mb.pointers ∧
      t.liveTransfer = none ∧ t.mb.status = s.mb.status ||| 8 ∧ t.mb.pecErrors = satInc s.mb.pecErrors ∧ t.thm = s.thm ∧
      t.pwr = s.pwr ∧ t.rep = s.rep ∧ t.otp = s.otp ∧ t.ports = s.ports ∧ t.chans = s.chans ∧ t.pmc = s.pmc ∧ t.mem = s.mem ∧
      (t.src 244).total = satInc (s.src 244).total) ∧
    (∀ (d : Word) (pec : Byte), x.pec = false ∨ s.pecAfter d = some pec →
      (writtenActions (s.pointer x.addr) d.toNat s.choice = [] →
        (∃ t, exec (.registerWrite d pec) s = .next t ∧ t.pointer x.addr = (s.pointer x.addr + 4) % 2 ^ 24 ∧ t.mem = s.mem ∧
          t.now = s.now ∧ t.mode = s.mode) ∧
        ((s.modeWrites (s.pointer x.addr) && viewWrites x.view (s.pointer x.addr)) = false →
          ∃ t, exec (.registerWrite d pec) s = .next t ∧
            t = { s with mb := { s.mb with pointers := t.mb.pointers, crc := t.mb.crc } })) ∧
      (s.pointer x.addr = 0x010020 → s.mode = .service → x.view = .whole →
        ∃ t, exec (.registerWrite d pec) s = .next t ∧ t.flt = s.flt ∧ t.ports = s.ports ∧ t.pwr = { s.pwr with
          retainIdle := d, past := (if s.sup.restarting then none else some s.now, s.pwr.timers) :: s.pwr.past }) ∧
      (s.pointer x.addr = 0x010008 → d = 1 → s.mode = .service → x.view = .whole → s.sup.restarting = false →
        s.bist.shutDown = false → s.pwr.entry = none → s.pwr.rung = 3 → s.migrating = false →
        ∃ t, exec (.registerWrite d pec) s = .next t ∧ t.pwr.entry = some { target := 6, start := s.now } ∧ t.mem = s.mem ∧
          t.ports = s.ports ∧ t.flt = s.flt) ∧
      (∀ n : SrcId, s.pointer x.addr = 0x03000C + 16 * n.val → d = 2 → s.mode = .service → x.view = .whole →
        s.srcClass n.val ≠ 4 → fixedClass n.val = none → s.srcAbsent n.val = false →
        ∃ t, exec (.registerWrite d pec) s = .next t ∧
          t.src n.val = { s.src n.val with cls := (s.src n.val).initCls, windowOpen := false, count := 0 } ∧
          (∀ m, m ≠ n.val → t.src m = s.src m) ∧ t.mem = s.mem ∧ t.ports = s.ports))) ∧
  (∀ (x : Transfer) (s : State), s.liveTransfer = some x → x.read = true →
    (∃ t, exec .readClear s = .next t ∧ t.mb.rdata = s.readReg x.view (s.pointer x.addr) ∧
      t.mb.rpec = (if x.pec then s.pecAfter (s.readReg x.view (s.pointer x.addr)) else none) ∧
      t.pointer x.addr = (s.pointer x.addr + 4) % 2 ^ 24 ∧ t.mem = s.mem ∧ t.pwr.rung = s.pwr.rung ∧ t.mode = s.mode) ∧
    (∀ p : PortId, s.pointer x.addr = 0x050080 + 0x1000 * p.val → s.mode = .service → x.view = .whole ∨ x.view = .port p →
      ∃ t, exec .readClear s = .next t ∧ (t.port p.val).poisonNever = 0 ∧ (t.port p.val).poisonData = 0 ∧ otherPorts p.val s t)) ∧
  (∀ (i : Fin 32) (s : State), s.listens = true → s.following = true → s.setPresent i.val = true →
    s.modeReads (0x040040 + 0x400 * i.val) = true → viewReads s.currentView (0x040040 + 0x400 * i.val) = true →
    ∃ t, exec (.pmcCycleLoRead i) s = .next t ∧ (t.cset i.val).hiLatch = (s.cset i.val).cycle.extractLsb' 32 32 ∧
      t.mb.rdata = (s.cset i.val).cycle.extractLsb' 0 32 ∧ (t.cset i.val).cycle = (s.cset i.val).cycle ∧ t.mem = s.mem ∧
      t.ports = s.ports) ∧
  (∀ (inside sending start : Bool) (s : State), (s.mb.transfer = none → exec (.mbTransferEnd inside sending start) s =
      .next (if start then s else { s with mb := { s.mb with crc := some 0 } })) ∧
    (∀ x, s.mb.transfer = some x → (sending = true → s.quiet 244) → ∃ t, exec (.mbTransferEnd inside sending start) s = .next t ∧
      t.mb.transfer = none ∧ t.mb.pointers = s.mb.pointers ∧ t.mem = s.mem ∧ t.ports = s.ports ∧
      t.mb.crc = (if start then s.mb.crc else some 0) ∧
      t.mb.aborts = (if inside then satInc s.mb.aborts else s.mb.aborts) ∧
      t.mb.status = (s.mb.status ||| (if inside then 16 else 0)) ||| (if sending then 4 else 0))) ∧
  (∀ s : State, (s.mb.busy = none → exec .longOpEnd s = .next s ∧ exec .longOpBound s = .next s) ∧
    (∀ op u, s.mb.busy = some (op, u) →
      (s.opDone op = false → exec .longOpEnd s = .next s) ∧
      (s.opDone op = true → ∃ t, exec .longOpEnd s = .next t ∧ t.mb.busy = none ∧ t.mb.longOp = BitVec.ofNat 3 op ∧
        t.mb.longOutcome = 1 ∧ t.mb.longDuration = satOf 27 ((s.now - u) / 1000) ∧ t.jnl.records = s.jnl.records ∧
        (op = 4 → t.jnl.readBuf.length = 64) ∧ (op ≠ 4 → t.jnl = s.jnl) ∧ t.mem = s.mem ∧ t.ports = s.ports ∧ t.flt = s.flt) ∧
      (op = 3 ∨ op = 4 → ∃ t, exec .longOpBound s = .next t ∧ t.mb.busy = none ∧ t.mb.longOp = BitVec.ofNat 3 op ∧
        t.mb.longOutcome = 2 ∧ t.jnl = s.jnl ∧ t.now = max s.now (u + 40000000) ∧ t.mem = s.mem ∧ t.ports = s.ports) ∧
      (op ≠ 3 → op ≠ 4 → exec .longOpBound s = .next s))) ∧
  (∀ (b c d : Bool) (s : State),
    (s.mayAttend = true → exec (.attentionRequest true) s = .next { s with mb := { s.mb with attnPull := true, attnAt := s.now } }) ∧
    (s.mayAttend = false ∨ b = false → exec (.attentionRequest b) s = .next s) ∧
    (s.mb.attnPull = false → exec (.attentionSclFall b c d) s = .next s ∧ exec .attentionUnserved s = .next s) ∧
    (s.mb.attnPull = true →
      exec (.attentionSclFall true true true) s = .next { s with mb := { s.mb with
        attnPull := false, attnPending := false, attnServed := satInc s.mb.attnServed } } ∧
      exec (.attentionSclFall true true false) s = .next { s with mb := { s.mb with
        attnPull := false, attnAfter := s.now + 1000000 } } ∧
      (b = false ∨ c = false → exec (.attentionSclFall b c d) s = .next { s with mb := { s.mb with attnPull := false } }) ∧
      ∃ t, exec .attentionUnserved s = .next t ∧ t.mb.attnPull = false ∧ t.mb.attnPending = s.mb.attnPending ∧
        t.mb.status = s.mb.status ||| 32 ∧ t.now = max s.now (s.mb.attnAt + 100000) ∧ t.mb.attnAfter = t.now + 10000000 ∧
        t.mem = s.mem ∧ t.ports = s.ports ∧ t.flt = s.flt)) ∧
  (∀ s : State, s.targetUp = true → s.quiet 244 →
    (∃ t, exec .sclTimeout s = .next t ∧ t.mb.status = s.mb.status ||| 1 ∧ t.mb.timeouts = satInc s.mb.timeouts ∧
      t.mb.transfer = none ∧ t.mb.deaf = true ∧ t.mb.attnPull = false ∧ t.mb.crc = some 0 ∧ (t.src 244).total = satInc (s.src 244).total ∧ t.mem = s.mem ∧
      t.ports = s.ports) ∧
    (∃ t, exec .sdaReleaseTimeout s = .next t ∧ t.mb.status = s.mb.status ||| 2 ∧ t.mb.timeouts = satInc s.mb.timeouts ∧
      t.mb.transfer = none ∧ t.mb.deaf = true ∧ (t.src 244).total = satInc (s.src 244).total ∧ t.mem = s.mem ∧ t.ports = s.ports))

/-- Register actions (R25, R177, R178, R212, R213, R227, R287, R292, R335, R360, R362, R443): each takes effect where its write commits;
a repair command answers a RESULT and only RESULT 0x1 reaches the supervisor, and from a port's view it is refused; while a
supervisor restart runs, an action of the supervisor waits; in a transfer that is not followed nothing happens. -/
def Obligations.RegisterActionsTakeEffectAtCommit : Prop :=
  (∀ (p : PortId) (s : State), s.portPresent p.val = true →
    (s.commits (.retrain p) → (s.port p.val).lnk.link = .active → (s.port p.val).lnk.widthReq = none →
      ∃ t, exec (.retrain p) s = .next t ∧ (t.port p.val).lnk.link = .train ∧ (t.port p.val).lnk.cause = 2 ∧
        (t.port p.val).lnk.cRetrains = satInc (s.port p.val).lnk.cRetrains ∧ (t.port p.val).tx.session = (s.port p.val).tx.session ∧
        (t.port p.val).reqs = (s.port p.val).reqs ∧ otherPorts p.val s t ∧ t.mem = s.mem ∧ t.flt = s.flt) ∧
    (s.commits (.retrain p) → (s.port p.val).lnk.link = .active → (s.port p.val).lnk.widthReq.isSome = true →
      ∃ t, exec (.retrain p) s = .next t ∧ (t.port p.val).lnk = { (s.port p.val).lnk with retrainNext := true } ∧
        otherPorts p.val s t ∧ t.mem = s.mem) ∧
    (s.commits (.down p true) → ∃ t, exec (.down p true) s = .next t ∧ (t.port p.val).lnk.link = .off ∧
      (t.port p.val).lnk.down = true ∧ (t.port p.val).reqs = [] ∧ (t.port p.val).tx.session = false ∧ otherPorts p.val s t ∧
      t.mem = s.mem ∧ t.flt = s.flt) ∧
    (s.commits (.down p false) → (s.port p.val).lnk.down = true → ∃ t, exec (.down p false) s = .next t ∧
      (t.port p.val).lnk.down = false ∧ (t.port p.val).lnk.mgmtStart = true ∧ otherPorts p.val s t ∧ t.mem = s.mem ∧
      ((s.port p.val).lnk.link = .off → s.portUp p.val = true → s.portsRun = true → (t.port p.val).lnk.link = .detect)) ∧
    (∀ (b : Bool) (l : BitVec 4) (e : List Nat), (s.port p.val).lnk.link = .off →
      ∀ (c : Instr) (m : BitVec 2), (c, m) = (.nearEndSerialLoop p b l e, 1) ∨ (c, m) = (.nearEndParallelLoop p b ⟨l, e⟩, 2) →
      s.commits c → ∃ t, exec c s = .next t ∧
        (t.port p.val).lnk.loopMode = m ∧ (t.port p.val).lnk.loopPattern = b ∧ (t.port p.val).lnk.loopLanes = l ∧
        (t.port p.val).lnk.link = .off ∧ otherPorts p.val s t ∧ t.mem = s.mem ∧
        ∀ i, i < 4 → ((t.port p.val).lane i).prbsErr =
          if l.getLsbD i then satAdd ((s.port p.val).lane i).prbsErr (e.getD i 0) else ((s.port p.val).lane i).prbsErr) ∧
    (∀ (b : Bool) (l : BitVec 4), s.commits (.farEndLoop p b l) → ∃ t, exec (.farEndLoop p b l) s = .next t ∧
      (t.port p.val).lnk = { (s.port p.val).lnk with loopMode := 3, loopPattern := b, loopLanes := l } ∧ otherPorts p.val s t ∧
      t.mem = s.mem) ∧
    (s.commits (.fenceLift p) → ∃ t, exec (.fenceLift p) s = .next t ∧ t.port p.val = { s.port p.val with fenced := false } ∧
      otherPorts p.val s t ∧ t.mem = s.mem ∧ t.flt = s.flt) ∧
    (s.commits (.portFence p) → ∃ t, exec (.portFence p) s = .next t ∧ (t.port p.val).fenced = true ∧
      (t.port p.val).fencedAt = s.now ∧ (∀ r ∈ (t.port p.val).reqs, r.held = false) ∧
      (t.port p.val).outq = (s.port p.val).outq ++ ((s.port p.val).reqs.filter Req.held).map (fun r => completion r .fenced) ∧
      (t.port p.val).lnk = (s.port p.val).lnk ∧ otherPorts p.val s t ∧ t.mem = s.mem ∧ t.flt = s.flt)) ∧
  (∀ (i : Fin 32) (s : State), s.commits (.pmcClear i) → s.setPresent i.val = true → ∃ t, exec (.pmcClear i) s = .next t ∧
    t.cset i.val = { s.cset i.val with cycle := 0, hiLatch := 0, ovf := 0, cnt := [] } ∧
    (∀ j, j ≠ i.val → t.cset j = s.cset j) ∧ t.mem = s.mem ∧ t.ports = s.ports ∧ t.flt = s.flt) ∧
  (∀ (n : ChanId) (b : Bool) (k : BitVec 5) (q : Nat) (s : State), q = 2 * n.val + b2n b → s.commits (.recalibrationGo n b k) →
    k.toNat < 18 → s.fitted k.toNat = true → (s.layer k.toNat).powered = true → (s.slice q k.toNat).inUse = true →
    (s.pc q).cal = none → (s.pc q).calQueue = [] → ∃ t, exec (.recalibrationGo n b k) s = .next t ∧
      (t.pc q).cal = some (k.toNat, 0) ∧ (t.slice q k.toNat).calTemp = some (BitVec.ofInt 11 (s.layer k.toNat).temp) ∧
      t.mem = s.mem ∧ t.ports = s.ports ∧ t.flt = s.flt) ∧
  (∀ (n : ChanId) (s : State), s.commits (.predictorReset n) → ∃ t, exec (.predictorReset n) s = .next t ∧
    (t.pc (2 * n.val)).pred = [] ∧ (t.pc (2 * n.val + 1)).pred = [] ∧
    (∀ q, q ≠ 2 * n.val → q ≠ 2 * n.val + 1 → t.pc q = s.pc q) ∧ t.mem = s.mem ∧ t.ports = s.ports ∧ t.flt = s.flt) ∧
  (∀ (g : Seg) (addr : Nat) (s : State), s.commits .xlate → s.currentView = .whole → bitsOf s.rep.xInHi.toNat 13 12 = 0 →
    addr = s.rep.xInLo.toNat + 2 ^ 32 * (s.rep.xInHi.toNat % 256) → g = segOf s.rep.key (addr / 64) →
    ∃ t, exec .xlate s = .next t ∧ t.rep.xDone = true ∧ t.mem = s.mem ∧ t.ports = s.ports ∧ t.flt = s.flt ∧
      (2 ^ s.devBits ≤ addr → t.rep.xResult = 2 ∧ t.rep.xPhys = 0 ∧ t.rep.xDevLo = 0 ∧ t.rep.xDevHi = 0) ∧
      (addr < 2 ^ s.devBits → t.rep.xResult = 0 ∧ t.rep.xDevLo = BitVec.ofNat 32 addr ∧
        t.rep.xPhys = packW [(g.q / 2, 4), (g.q % 2, 1), (g.bank, 4), (g.row, 14), (g.block, 4), (s.layerShown g, 5)])) ∧
  (∀ (n : ChanId) (b : Bool) (k : BitVec 5) (x : BankId) (q : Nat) (s : State), q = 2 * n.val + b2n b → s.currentView = .whole →
    (s.commits (.repCmdMapOut n b k x) → ∃ t, exec (.repCmdMapOut n b k x) s = .next t ∧ t.rep.confirm = false ∧
      t.rep.result = BitVec.ofNat 3 (s.mapOutResult q k.toNat x.val) ∧
      t.rep.todo = s.rep.todo ++ (if s.mapOutResult q k.toNat x.val = 1 then [.bank q k.toNat x.val true] else []) ∧
      t.mem = s.mem ∧ t.ports = s.ports ∧ t.flt = s.flt) ∧
    (s.commits (.repCmdRetireRank n k) → ∃ t, exec (.repCmdRetireRank n k) s = .next t ∧ t.rep.confirm = false ∧
      t.rep.result = BitVec.ofNat 3 (s.retireRankResult n.val k.toNat) ∧
      t.rep.todo = s.rep.todo ++ (if s.retireRankResult n.val k.toNat = 1 then [.rank n.val k.toNat true] else []) ∧
      t.mem = s.mem ∧ t.ports = s.ports ∧ t.flt = s.flt) ∧
    (s.commits (.repCmdRetireLayer k) → ∃ t, exec (.repCmdRetireLayer k) s = .next t ∧ t.rep.confirm = false ∧
      t.rep.result = BitVec.ofNat 3 (s.retireLayerResult k.toNat) ∧
      t.rep.todo = s.rep.todo ++ (if s.retireLayerResult k.toNat = 1 then [.layer k.toNat true] else []) ∧
      t.mem = s.mem ∧ t.ports = s.ports ∧ t.flt = s.flt)) ∧
  (∀ (c : Instr) (p : PortId) (s : State), (c = .xlate ∨ (∃ n b k x, c = .repCmdMapOut n b k x) ∨
      (∃ n k, c = .repCmdRetireRank n k) ∨ ∃ k, c = .repCmdRetireLayer k) → s.listens = true → s.following = true →
    s.currentView = .port p → s.actsNow (actionAddr c) = true → s.sup.restarting = false →
    ∃ t, exec c s = .next t ∧ (c = .xlate → t.rep.xResult = 5) ∧ (c ≠ .xlate → t.rep.result = 5) ∧ t.rep.todo = s.rep.todo) ∧
  (∀ (p : PortId) (s : State), s.listens = false ∨ s.following = false →
    exec (.portFence p) s = .next s ∧ exec (.retrain p) s = .next s ∧ exec .descendNow s = .next s ∧ exec .xlate s = .next s) ∧
  (∀ s : State, s.listens = true → s.following = true → s.currentView = .whole → s.actsNow (actionAddr .journalFlush) = true →
    s.sup.restarting = true → ∃ t, exec .journalFlush s = .next t ∧ t.sup.queue = s.sup.queue ++ [.command .journalFlush .whole] ∧
      t.mb.busy = some (3, s.now) ∧ t.jnl = s.jnl)

/-- The test access port and the tick (R77, R436, R439, R440, R493, R494): TRST_N selects IDCODE; BYPASS and IDCODE act in every mode, the
other instructions in FACTORY, where the boundary-scan register samples the signals and drives the outputs, and outside it they
select BYPASS and count on source 246; a tick of the scheduler is one
nanosecond and counts in every running counter set, and only in SERVICE or RETAIN at P3. -/
def Obligations.TestAccessActsInFactoryAndTicksCount : Prop :=
  (∀ s : State, exec .trstNLow s = .next { s with pins := { s.pins with trstN := false }, tap := { s.tap with ir := .idcode } }) ∧
  (∀ (c : Instr) (i : TapInstr) (s : State), ((c, i) = (.bypass, .bypass) ∨ (c, i) = (.idcode, .idcode)) →
    (s.pwrgood = true → exec c s = .next { s with pins := { s.pins with trstN := true }, tap := { s.tap with ir := i } }) ∧
    (s.pwrgood = false → exec c s = .next s)) ∧
  (∀ (l : BitVec 18) (w : List (LayerId × Word)) (c : Instr) (i : TapInstr) (s : State),
    ((c, i) = (.samplePreload, .samplePreload) ∨ (c, i) = (.extest, .extest) ∨ (c, i) = (.clamp, .clamp) ∨ (c, i) = (.highz, .highz) ∨
      (c, i) = (.extestPulse, .extestPulse) ∨ (c, i) = (.extestTrain, .extestTrain) ∨ (c, i) = (.dieSelect l, .dieSelect) ∨
      (c, i) = (.dieAccess w, .dieAccess)) → s.pwrgood = true →
    (s.mode = .factory → ∃ t, exec c s = .next t ∧ t.tap.ir = i ∧ t.pins.trstN = true ∧ t.flt = s.flt ∧ t.mem = s.mem ∧
      t.ports = s.ports ∧ t.mode = .factory ∧ t.bist = s.bist) ∧
    (s.mode ≠ .factory → s.quiet 246 → ∃ t, exec c s = .next t ∧ t.tap = { s.tap with ir := .bypass } ∧
      t.bist.tapRefused = satInc s.bist.tapRefused ∧ (t.src 246).total = satInc (s.src 246).total ∧ t.mode = s.mode ∧ t.mem = s.mem ∧
      t.ports = s.ports)) ∧
  (∀ (l : BitVec 18) (s : State), s.pwrgood = true → s.mode = .factory →
    (∃ t, exec (.dieSelect l) s = .next t ∧ t.tap.die = l ∧ t.tap.wrapper = s.tap.wrapper) ∧
    (∃ t, exec .samplePreload s = .next t ∧ ∀ p : Signal, p ≠ .laneTx → p ≠ .laneRx →
      t.boundaryCell p = t.drive p ∧ (p ≠ .tdo → p ≠ .trstN → t.drive p = s.drive p)) ∧
    (∀ p : Signal, p.isOut = true → p ≠ .laneTx →
      (∃ t, exec .extest s = .next t ∧ t.tap.boundary = s.tap.boundary ∧ t.outputBall p = t.boundaryCell p) ∧
      (∃ t, exec .clamp s = .next t ∧ t.tap.boundary = s.tap.boundary ∧ t.outputBall p = t.boundaryCell p) ∧
      ∃ t, exec .highz s = .next t ∧ t.outputBall p = .highZ) ∧
    (∀ (k : LayerId) (w : Word), ∃ t, exec (.dieAccess [(k, w)]) s = .next t ∧
      tabGet 0 t.tap.wrapper k.val = (if s.tap.die.getLsbD k.val ∧ s.fitted k.val then w else tabGet 0 s.tap.wrapper k.val) ∧
      ∀ j, j ≠ k.val → tabGet 0 t.tap.wrapper j = tabGet 0 s.tap.wrapper j)) ∧
  (∀ s : State, (s.pwrgood = false → exec .schedulerTick s = .next s) ∧
    (s.pwrgood = true → s.bist.shutDown = false →
      ∃ t, exec .schedulerTick s = .next t ∧ t.now = s.now + 1 ∧ t.mode = s.mode ∧ t.mem = s.mem ∧ t.ports = s.ports ∧ t.flt = s.flt ∧
        (s.ticking = true → ∀ i, i < 32 → (s.cset i).counts = true → s.setPresent i = true →
          (t.cset i).cycle = (s.cset i).cycle + 1) ∧
        (∀ i, s.ticking = false ∨ (s.cset i).counts = false ∨ s.setPresent i = false → t.cset i = s.cset i) ∧
        (s.mode = .boot → s.boot.step = 1 → t.boot.step = 2) ∧
        (s.mode = .boot → s.boot.step = 2 → t.boot.step = 3 ∧ t.pins.vid = some 0x18) ∧
        (s.mode ≠ .boot → t.boot = s.boot)))

/-- What every command keeps, in every state (R29, R32, R35, R38, R56, R293, R376, R379, R424): the memory table keeps its canonical form and
TRIP its recorded reason; only PWRGOOD_LOW leaves TRIP or comes back to BOOT; HOLD is left for TRIP alone or by PWRGOOD_LOW; only
PWRGOOD_LOW clears the grave-fault latch, and the first hold cause stays but for TRIP. -/
def Obligations.EveryStepKeepsTheInvariant : Prop :=
  ∀ (s t : State), s.memoryOk → s.tripOk → step s = .next t →
    t.memoryOk ∧ t.tripOk ∧
    (s.pending.head? ≠ some .pwrgoodLow →
      (s.mode = .trip → t.mode = .trip) ∧ (s.mode ≠ .boot → t.mode ≠ .boot) ∧
      (s.mode = .hold → t.mode = .hold ∨ t.mode = .trip) ∧ (s.grave = true → t.grave = true) ∧
      (s.holdCause ≠ 0 → t.holdCause = s.holdCause ∨ t.mode = .trip))

/-- The state before power-up meets the invariant, with no command waiting, nothing stored, no fault and PWRGOOD low (R78, R497). -/
def Obligations.ResetMeetsTheInvariant : Prop :=
  State.reset.memoryOk ∧ State.reset.tripOk ∧ State.reset.pending = [] ∧ State.reset.mem = [] ∧ State.reset.mode = .boot ∧
    State.reset.pwrgood = false ∧ State.reset.grave = false ∧ State.reset.holdCause = 0 ∧ step State.reset = .next State.reset
end

