-- ==== Sys2Proof/Laws/Tab.lean ====
section
/-! SUPPORT. Laws of sparse tables: a read after a write to the same key gives the value written, a write leaves every other key alone, the last of two writes stands, and every operation keeps the canonical form. -/

namespace Sys2Proof.Machine

variable {α : Type}

@[simp] theorem tabGet_nil (d : α) (k : Nat) : tabGet d [] k = d := rfl

theorem tabGet_tabErase_self (d : α) (t : List (Nat × α)) (k : Nat) : tabGet d (tabErase t k) k = d := by
  induction t with
  | nil => rfl
  | cons e t ih => by_cases h : e.1 = k <;> simp [tabErase, tabGet, h, ih]

theorem tabGet_tabErase_other (d : α) (t : List (Nat × α)) {k j : Nat} (h : j ≠ k) :
    tabGet d (tabErase t k) j = tabGet d t j := by
  induction t with
  | nil => rfl
  | cons e t ih =>
    by_cases h1 : e.1 = k
    · have h2 : e.1 ≠ j := fun h3 => h (h3.symm.trans h1)
      simp only [tabErase, tabGet, h1, if_true, ih]
      rw [if_neg (h1 ▸ h2)]
    · obtain ⟨i, a⟩ := e
      simp only at h1
      simp only [tabErase, h1, if_false, tabGet, ih]

/-- What a table reads after an entry is removed. -/
@[simp] theorem tabGet_tabErase (d : α) (t : List (Nat × α)) (k j : Nat) :
    tabGet d (tabErase t k) j = if j = k then d else tabGet d t j := by
  split
  · next h => subst h; exact tabGet_tabErase_self d t j
  · next h => exact tabGet_tabErase_other d t h

theorem tabGet_tabPut_other (d : α) (t : List (Nat × α)) (a : α) {k j : Nat} (h : j ≠ k) :
    tabGet d (tabPut t k a) j = tabGet d t j := by
  have hk : k ≠ j := fun h' => h h'.symm
  induction t with
  | nil => simp [tabPut, tabGet, hk]
  | cons e t ih =>
    by_cases h1 : k < e.1
    · simp [tabPut, tabGet, h1, hk]
    · obtain ⟨i, b⟩ := e
      simp only at h1
      simp only [tabPut, h1, if_false, tabGet, ih]

theorem tabGet_tabPut_self (d : α) (t : List (Nat × α)) (k : Nat) (a : α) :
    tabGet d (tabPut (tabErase t k) k a) k = a := by
  induction t with
  | nil => simp [tabErase, tabPut, tabGet]
  | cons e t ih =>
    by_cases h1 : e.1 = k
    · simpa [tabErase, h1] using ih
    · by_cases h2 : k < e.1
      · simp [tabErase, tabPut, tabGet, h1, h2]
      · simp [tabErase, tabPut, tabGet, h1, h2, ih]

/-- A read after a write: the value written at its key, every other key as before. -/
@[simp] theorem tabGet_tabSet [DecidableEq α] (d : α) (t : List (Nat × α)) (k j : Nat) (a : α) :
    tabGet d (tabSet d t k a) j = if j = k then a else tabGet d t j := by
  unfold tabSet
  by_cases hj : j = k
  · subst hj
    by_cases ha : a = d
    · simp [ha]
    · simp [ha, tabGet_tabPut_self]
  · by_cases ha : a = d
    · simp [ha, hj]
    · simp [ha, hj, tabGet_tabPut_other]

@[simp] theorem tabErase_tabErase (t : List (Nat × α)) (k : Nat) : tabErase (tabErase t k) k = tabErase t k := by
  induction t with
  | nil => rfl
  | cons e t ih => by_cases h : e.1 = k <;> simp [tabErase, h, ih]

theorem tabErase_tabPut (t : List (Nat × α)) (k : Nat) (a : α) : tabErase (tabPut t k a) k = tabErase t k := by
  induction t with
  | nil => simp [tabPut, tabErase]
  | cons e t ih =>
    by_cases h1 : k < e.1
    · simp [tabPut, tabErase, h1]
    · by_cases h2 : e.1 = k <;> simp [tabPut, tabErase, h1, h2, ih]

/-- The last of two writes to one key stands. -/
@[simp] theorem tabSet_tabSet [DecidableEq α] (d : α) (t : List (Nat × α)) (k : Nat) (a b : α) :
    tabSet d (tabSet d t k a) k b = tabSet d t k b := by
  have h : tabErase (tabSet d t k a) k = tabErase t k := by
    unfold tabSet
    by_cases ha : a = d <;> simp [ha, tabErase_tabPut]
  unfold tabSet at h ⊢
  rw [h]

/-! ## The canonical form -/

theorem mem_tabErase {t : List (Nat × α)} {k : Nat} {e : Nat × α} : e ∈ tabErase t k ↔ e ∈ t ∧ e.1 ≠ k := by
  induction t with
  | nil => simp [tabErase]
  | cons f t ih =>
    by_cases h : f.1 = k
    · simp only [tabErase, h, if_true, ih, List.mem_cons]
      constructor
      · exact fun ⟨a, b⟩ => ⟨.inr a, b⟩
      · rintro ⟨rfl | a, b⟩
        · exact absurd h b
        · exact ⟨a, b⟩
    · simp only [tabErase, h, if_false, List.mem_cons, ih]
      constructor
      · rintro (rfl | ⟨a, b⟩)
        · exact ⟨.inl rfl, h⟩
        · exact ⟨.inr a, b⟩
      · rintro ⟨rfl | a, b⟩
        · exact .inl rfl
        · exact .inr ⟨a, b⟩

theorem mem_tabPut {t : List (Nat × α)} {k : Nat} {a : α} {e : Nat × α} : e ∈ tabPut t k a ↔ e = (k, a) ∨ e ∈ t := by
  induction t with
  | nil => simp [tabPut]
  | cons f t ih =>
    by_cases h : k < f.1
    · simp [tabPut, h]
    · simp only [tabPut, h, if_false, List.mem_cons, ih]
      constructor
      · rintro (h | h | h) <;> simp [h]
      · rintro (h | h | h) <;> simp [h]

theorem tabWfFrom_cons [DecidableEq α] (d : Nat → α) (e : Nat × α) (t : List (Nat × α)) :
    tabWfFrom d (e :: t) = true ↔ e.2 ≠ d e.1 ∧ (∀ f ∈ t, e.1 < f.1) ∧ tabWfFrom d t = true := by
  simp [tabWfFrom, and_assoc]

/-- Removing an entry keeps the canonical form. -/
theorem tabWfFrom_tabErase [DecidableEq α] (d : Nat → α) (t : List (Nat × α)) (k : Nat) (h : tabWfFrom d t = true) :
    tabWfFrom d (tabErase t k) = true := by
  induction t with
  | nil => rfl
  | cons e t ih =>
    obtain ⟨h1, h2, h3⟩ := (tabWfFrom_cons d e t).mp h
    by_cases he : e.1 = k
    · simpa [tabErase, he] using ih h3
    · have : tabErase (e :: t) k = e :: tabErase t k := by simp [tabErase, he]
      rw [this, tabWfFrom_cons]
      exact ⟨h1, fun f hf => h2 f (mem_tabErase.mp hf).1, ih h3⟩

/-- Adding an entry that is not its key's default, at a key not listed, keeps the canonical form. -/
theorem tabWfFrom_tabPut [DecidableEq α] (d : Nat → α) (t : List (Nat × α)) (k : Nat) (a : α) (h : tabWfFrom d t = true)
    (ha : a ≠ d k) (hk : ∀ e ∈ t, e.1 ≠ k) : tabWfFrom d (tabPut t k a) = true := by
  induction t with
  | nil => simp [tabPut, tabWfFrom, ha]
  | cons e t ih =>
    obtain ⟨h1, h2, h3⟩ := (tabWfFrom_cons d e t).mp h
    by_cases hlt : k < e.1
    · have : tabPut (e :: t) k a = (k, a) :: e :: t := by simp [tabPut, hlt]
      rw [this, tabWfFrom_cons]
      refine ⟨ha, fun f hf => ?_, h⟩
      rcases List.mem_cons.mp hf with rfl | hf
      · exact hlt
      · exact lt_trans hlt (h2 f hf)
    · have : tabPut (e :: t) k a = e :: tabPut t k a := by simp [tabPut, hlt]
      rw [this, tabWfFrom_cons]
      refine ⟨h1, fun f hf => ?_, ih h3 (fun f hf => hk f (List.mem_cons_of_mem _ hf))⟩
      have hne : e.1 ≠ k := hk e (List.mem_cons_self ..)
      rcases mem_tabPut.mp hf with rfl | hf
      · show e.1 < k
        omega
      · exact h2 f hf

/-- Entries that are taken out leave the rest canonical. -/
theorem tabWfFrom_filter [DecidableEq α] (d : Nat → α) (t : List (Nat × α)) (f : Nat × α → Bool) (h : tabWfFrom d t = true) :
    tabWfFrom d (t.filter f) = true := by
  induction t with
  | nil => rfl
  | cons e t ih =>
    obtain ⟨h1, h2, h3⟩ := (tabWfFrom_cons d e t).mp h
    by_cases he : f e = true
    · rw [List.filter_cons_of_pos he, tabWfFrom_cons]
      exact ⟨h1, fun g hg => h2 g (List.mem_filter.mp hg).1, ih h3⟩
    · rw [List.filter_cons_of_neg he]
      exact ih h3

end Sys2Proof.Machine
end

