-- ==== Sys2Proof/Laws/State.lean ====
section
/-! SUPPORT. Laws of the updates of State: what each named update leaves as it was, field by field, and what it makes its own field read as. Every one but the reads after writes holds by rfl. -/

namespace Sys2Proof.Machine

variable (s : State)

/-! ## updPort -/

@[simp] theorem State.updPort_pending (p : Nat) (f : Port → Port) : (s.updPort p f).pending = s.pending := rfl
@[simp] theorem State.updPort_now (p : Nat) (f : Port → Port) : (s.updPort p f).now = s.now := rfl
@[simp] theorem State.updPort_choice (p : Nat) (f : Port → Port) : (s.updPort p f).choice = s.choice := rfl
@[simp] theorem State.updPort_pwrgood (p : Nat) (f : Port → Port) : (s.updPort p f).pwrgood = s.pwrgood := rfl
@[simp] theorem State.updPort_mode (p : Nat) (f : Port → Port) : (s.updPort p f).mode = s.mode := rfl
@[simp] theorem State.updPort_holdCause (p : Nat) (f : Port → Port) : (s.updPort p f).holdCause = s.holdCause := rfl
@[simp] theorem State.updPort_takeover (p : Nat) (f : Port → Port) : (s.updPort p f).takeover = s.takeover := rfl
@[simp] theorem State.updPort_pins (p : Nat) (f : Port → Port) : (s.updPort p f).pins = s.pins := rfl
@[simp] theorem State.updPort_boot (p : Nat) (f : Port → Port) : (s.updPort p f).boot = s.boot := rfl
@[simp] theorem State.updPort_sup (p : Nat) (f : Port → Port) : (s.updPort p f).sup = s.sup := rfl
@[simp] theorem State.updPort_flt (p : Nat) (f : Port → Port) : (s.updPort p f).flt = s.flt := rfl
@[simp] theorem State.updPort_thm (p : Nat) (f : Port → Port) : (s.updPort p f).thm = s.thm := rfl
@[simp] theorem State.updPort_pwr (p : Nat) (f : Port → Port) : (s.updPort p f).pwr = s.pwr := rfl
@[simp] theorem State.updPort_otp (p : Nat) (f : Port → Port) : (s.updPort p f).otp = s.otp := rfl
@[simp] theorem State.updPort_jnl (p : Nat) (f : Port → Port) : (s.updPort p f).jnl = s.jnl := rfl
@[simp] theorem State.updPort_att (p : Nat) (f : Port → Port) : (s.updPort p f).att = s.att := rfl
@[simp] theorem State.updPort_bist (p : Nat) (f : Port → Port) : (s.updPort p f).bist = s.bist := rfl
@[simp] theorem State.updPort_mb (p : Nat) (f : Port → Port) : (s.updPort p f).mb = s.mb := rfl
@[simp] theorem State.updPort_rep (p : Nat) (f : Port → Port) : (s.updPort p f).rep = s.rep := rfl
@[simp] theorem State.updPort_gnt (p : Nat) (f : Port → Port) : (s.updPort p f).gnt = s.gnt := rfl
@[simp] theorem State.updPort_tap (p : Nat) (f : Port → Port) : (s.updPort p f).tap = s.tap := rfl
@[simp] theorem State.updPort_image (p : Nat) (f : Port → Port) : (s.updPort p f).image = s.image := rfl
@[simp] theorem State.updPort_chans (p : Nat) (f : Port → Port) : (s.updPort p f).chans = s.chans := rfl
@[simp] theorem State.updPort_pcs (p : Nat) (f : Port → Port) : (s.updPort p f).pcs = s.pcs := rfl
@[simp] theorem State.updPort_slices (p : Nat) (f : Port → Port) : (s.updPort p f).slices = s.slices := rfl
@[simp] theorem State.updPort_layers (p : Nat) (f : Port → Port) : (s.updPort p f).layers = s.layers := rfl
@[simp] theorem State.updPort_pmc (p : Nat) (f : Port → Port) : (s.updPort p f).pmc = s.pmc := rfl
@[simp] theorem State.updPort_mem (p : Nat) (f : Port → Port) : (s.updPort p f).mem = s.mem := rfl
@[simp] theorem State.updPort_chan (p : Nat) (f : Port → Port) (n' : Nat) : (s.updPort p f).chan n' = s.chan n' := rfl
@[simp] theorem State.updPort_pc (p : Nat) (f : Port → Port) (q' : Nat) : (s.updPort p f).pc q' = s.pc q' := rfl
@[simp] theorem State.updPort_layer (p : Nat) (f : Port → Port) (k' : Nat) : (s.updPort p f).layer k' = s.layer k' := rfl
@[simp] theorem State.updPort_cset (p : Nat) (f : Port → Port) (i' : Nat) : (s.updPort p f).cset i' = s.cset i' := rfl
@[simp] theorem State.updPort_src (p : Nat) (f : Port → Port) (n' : Nat) : (s.updPort p f).src n' = s.src n' := rfl
@[simp] theorem State.updPort_slice (p : Nat) (f : Port → Port) (q' k' : Nat) : (s.updPort p f).slice q' k' = s.slice q' k' := rfl
@[simp] theorem State.updPort_rank (p : Nat) (f : Port → Port) (q' r' : Nat) : (s.updPort p f).rank q' r' = s.rank q' r' := rfl
@[simp] theorem State.updPort_bankEnt (p : Nat) (f : Port → Port) (q' r' b' : Nat) : (s.updPort p f).bankEnt q' r' b' = s.bankEnt q' r' b' := rfl

/-! ## updChan -/

@[simp] theorem State.updChan_pending (n : Nat) (f : Channel → Channel) : (s.updChan n f).pending = s.pending := rfl
@[simp] theorem State.updChan_now (n : Nat) (f : Channel → Channel) : (s.updChan n f).now = s.now := rfl
@[simp] theorem State.updChan_choice (n : Nat) (f : Channel → Channel) : (s.updChan n f).choice = s.choice := rfl
@[simp] theorem State.updChan_pwrgood (n : Nat) (f : Channel → Channel) : (s.updChan n f).pwrgood = s.pwrgood := rfl
@[simp] theorem State.updChan_mode (n : Nat) (f : Channel → Channel) : (s.updChan n f).mode = s.mode := rfl
@[simp] theorem State.updChan_holdCause (n : Nat) (f : Channel → Channel) : (s.updChan n f).holdCause = s.holdCause := rfl
@[simp] theorem State.updChan_takeover (n : Nat) (f : Channel → Channel) : (s.updChan n f).takeover = s.takeover := rfl
@[simp] theorem State.updChan_pins (n : Nat) (f : Channel → Channel) : (s.updChan n f).pins = s.pins := rfl
@[simp] theorem State.updChan_boot (n : Nat) (f : Channel → Channel) : (s.updChan n f).boot = s.boot := rfl
@[simp] theorem State.updChan_sup (n : Nat) (f : Channel → Channel) : (s.updChan n f).sup = s.sup := rfl
@[simp] theorem State.updChan_flt (n : Nat) (f : Channel → Channel) : (s.updChan n f).flt = s.flt := rfl
@[simp] theorem State.updChan_thm (n : Nat) (f : Channel → Channel) : (s.updChan n f).thm = s.thm := rfl
@[simp] theorem State.updChan_pwr (n : Nat) (f : Channel → Channel) : (s.updChan n f).pwr = s.pwr := rfl
@[simp] theorem State.updChan_otp (n : Nat) (f : Channel → Channel) : (s.updChan n f).otp = s.otp := rfl
@[simp] theorem State.updChan_jnl (n : Nat) (f : Channel → Channel) : (s.updChan n f).jnl = s.jnl := rfl
@[simp] theorem State.updChan_att (n : Nat) (f : Channel → Channel) : (s.updChan n f).att = s.att := rfl
@[simp] theorem State.updChan_bist (n : Nat) (f : Channel → Channel) : (s.updChan n f).bist = s.bist := rfl
@[simp] theorem State.updChan_mb (n : Nat) (f : Channel → Channel) : (s.updChan n f).mb = s.mb := rfl
@[simp] theorem State.updChan_rep (n : Nat) (f : Channel → Channel) : (s.updChan n f).rep = s.rep := rfl
@[simp] theorem State.updChan_gnt (n : Nat) (f : Channel → Channel) : (s.updChan n f).gnt = s.gnt := rfl
@[simp] theorem State.updChan_tap (n : Nat) (f : Channel → Channel) : (s.updChan n f).tap = s.tap := rfl
@[simp] theorem State.updChan_image (n : Nat) (f : Channel → Channel) : (s.updChan n f).image = s.image := rfl
@[simp] theorem State.updChan_ports (n : Nat) (f : Channel → Channel) : (s.updChan n f).ports = s.ports := rfl
@[simp] theorem State.updChan_pcs (n : Nat) (f : Channel → Channel) : (s.updChan n f).pcs = s.pcs := rfl
@[simp] theorem State.updChan_slices (n : Nat) (f : Channel → Channel) : (s.updChan n f).slices = s.slices := rfl
@[simp] theorem State.updChan_layers (n : Nat) (f : Channel → Channel) : (s.updChan n f).layers = s.layers := rfl
@[simp] theorem State.updChan_pmc (n : Nat) (f : Channel → Channel) : (s.updChan n f).pmc = s.pmc := rfl
@[simp] theorem State.updChan_mem (n : Nat) (f : Channel → Channel) : (s.updChan n f).mem = s.mem := rfl
@[simp] theorem State.updChan_port (n : Nat) (f : Channel → Channel) (p' : Nat) : (s.updChan n f).port p' = s.port p' := rfl
@[simp] theorem State.updChan_pc (n : Nat) (f : Channel → Channel) (q' : Nat) : (s.updChan n f).pc q' = s.pc q' := rfl
@[simp] theorem State.updChan_layer (n : Nat) (f : Channel → Channel) (k' : Nat) : (s.updChan n f).layer k' = s.layer k' := rfl
@[simp] theorem State.updChan_cset (n : Nat) (f : Channel → Channel) (i' : Nat) : (s.updChan n f).cset i' = s.cset i' := rfl
@[simp] theorem State.updChan_src (n : Nat) (f : Channel → Channel) (n' : Nat) : (s.updChan n f).src n' = s.src n' := rfl
@[simp] theorem State.updChan_slice (n : Nat) (f : Channel → Channel) (q' k' : Nat) : (s.updChan n f).slice q' k' = s.slice q' k' := rfl
@[simp] theorem State.updChan_rank (n : Nat) (f : Channel → Channel) (q' r' : Nat) : (s.updChan n f).rank q' r' = s.rank q' r' := rfl
@[simp] theorem State.updChan_bankEnt (n : Nat) (f : Channel → Channel) (q' r' b' : Nat) : (s.updChan n f).bankEnt q' r' b' = s.bankEnt q' r' b' := rfl

/-! ## updPc -/

@[simp] theorem State.updPc_pending (q : Nat) (f : Pc → Pc) : (s.updPc q f).pending = s.pending := rfl
@[simp] theorem State.updPc_now (q : Nat) (f : Pc → Pc) : (s.updPc q f).now = s.now := rfl
@[simp] theorem State.updPc_choice (q : Nat) (f : Pc → Pc) : (s.updPc q f).choice = s.choice := rfl
@[simp] theorem State.updPc_pwrgood (q : Nat) (f : Pc → Pc) : (s.updPc q f).pwrgood = s.pwrgood := rfl
@[simp] theorem State.updPc_mode (q : Nat) (f : Pc → Pc) : (s.updPc q f).mode = s.mode := rfl
@[simp] theorem State.updPc_holdCause (q : Nat) (f : Pc → Pc) : (s.updPc q f).holdCause = s.holdCause := rfl
@[simp] theorem State.updPc_takeover (q : Nat) (f : Pc → Pc) : (s.updPc q f).takeover = s.takeover := rfl
@[simp] theorem State.updPc_pins (q : Nat) (f : Pc → Pc) : (s.updPc q f).pins = s.pins := rfl
@[simp] theorem State.updPc_boot (q : Nat) (f : Pc → Pc) : (s.updPc q f).boot = s.boot := rfl
@[simp] theorem State.updPc_sup (q : Nat) (f : Pc → Pc) : (s.updPc q f).sup = s.sup := rfl
@[simp] theorem State.updPc_flt (q : Nat) (f : Pc → Pc) : (s.updPc q f).flt = s.flt := rfl
@[simp] theorem State.updPc_thm (q : Nat) (f : Pc → Pc) : (s.updPc q f).thm = s.thm := rfl
@[simp] theorem State.updPc_pwr (q : Nat) (f : Pc → Pc) : (s.updPc q f).pwr = s.pwr := rfl
@[simp] theorem State.updPc_otp (q : Nat) (f : Pc → Pc) : (s.updPc q f).otp = s.otp := rfl
@[simp] theorem State.updPc_jnl (q : Nat) (f : Pc → Pc) : (s.updPc q f).jnl = s.jnl := rfl
@[simp] theorem State.updPc_att (q : Nat) (f : Pc → Pc) : (s.updPc q f).att = s.att := rfl
@[simp] theorem State.updPc_bist (q : Nat) (f : Pc → Pc) : (s.updPc q f).bist = s.bist := rfl
@[simp] theorem State.updPc_mb (q : Nat) (f : Pc → Pc) : (s.updPc q f).mb = s.mb := rfl
@[simp] theorem State.updPc_rep (q : Nat) (f : Pc → Pc) : (s.updPc q f).rep = s.rep := rfl
@[simp] theorem State.updPc_gnt (q : Nat) (f : Pc → Pc) : (s.updPc q f).gnt = s.gnt := rfl
@[simp] theorem State.updPc_tap (q : Nat) (f : Pc → Pc) : (s.updPc q f).tap = s.tap := rfl
@[simp] theorem State.updPc_image (q : Nat) (f : Pc → Pc) : (s.updPc q f).image = s.image := rfl
@[simp] theorem State.updPc_ports (q : Nat) (f : Pc → Pc) : (s.updPc q f).ports = s.ports := rfl
@[simp] theorem State.updPc_chans (q : Nat) (f : Pc → Pc) : (s.updPc q f).chans = s.chans := rfl
@[simp] theorem State.updPc_slices (q : Nat) (f : Pc → Pc) : (s.updPc q f).slices = s.slices := rfl
@[simp] theorem State.updPc_layers (q : Nat) (f : Pc → Pc) : (s.updPc q f).layers = s.layers := rfl
@[simp] theorem State.updPc_pmc (q : Nat) (f : Pc → Pc) : (s.updPc q f).pmc = s.pmc := rfl
@[simp] theorem State.updPc_mem (q : Nat) (f : Pc → Pc) : (s.updPc q f).mem = s.mem := rfl
@[simp] theorem State.updPc_port (q : Nat) (f : Pc → Pc) (p' : Nat) : (s.updPc q f).port p' = s.port p' := rfl
@[simp] theorem State.updPc_chan (q : Nat) (f : Pc → Pc) (n' : Nat) : (s.updPc q f).chan n' = s.chan n' := rfl
@[simp] theorem State.updPc_layer (q : Nat) (f : Pc → Pc) (k' : Nat) : (s.updPc q f).layer k' = s.layer k' := rfl
@[simp] theorem State.updPc_cset (q : Nat) (f : Pc → Pc) (i' : Nat) : (s.updPc q f).cset i' = s.cset i' := rfl
@[simp] theorem State.updPc_src (q : Nat) (f : Pc → Pc) (n' : Nat) : (s.updPc q f).src n' = s.src n' := rfl
@[simp] theorem State.updPc_slice (q : Nat) (f : Pc → Pc) (q' k' : Nat) : (s.updPc q f).slice q' k' = s.slice q' k' := rfl
@[simp] theorem State.updPc_rank (q : Nat) (f : Pc → Pc) (q' r' : Nat) : (s.updPc q f).rank q' r' = s.rank q' r' := rfl
@[simp] theorem State.updPc_bankEnt (q : Nat) (f : Pc → Pc) (q' r' b' : Nat) : (s.updPc q f).bankEnt q' r' b' = s.bankEnt q' r' b' := rfl

/-! ## updSlice -/

@[simp] theorem State.updSlice_pending (q k : Nat) (f : Slice → Slice) : (s.updSlice q k f).pending = s.pending := rfl
@[simp] theorem State.updSlice_now (q k : Nat) (f : Slice → Slice) : (s.updSlice q k f).now = s.now := rfl
@[simp] theorem State.updSlice_choice (q k : Nat) (f : Slice → Slice) : (s.updSlice q k f).choice = s.choice := rfl
@[simp] theorem State.updSlice_pwrgood (q k : Nat) (f : Slice → Slice) : (s.updSlice q k f).pwrgood = s.pwrgood := rfl
@[simp] theorem State.updSlice_mode (q k : Nat) (f : Slice → Slice) : (s.updSlice q k f).mode = s.mode := rfl
@[simp] theorem State.updSlice_holdCause (q k : Nat) (f : Slice → Slice) : (s.updSlice q k f).holdCause = s.holdCause := rfl
@[simp] theorem State.updSlice_takeover (q k : Nat) (f : Slice → Slice) : (s.updSlice q k f).takeover = s.takeover := rfl
@[simp] theorem State.updSlice_pins (q k : Nat) (f : Slice → Slice) : (s.updSlice q k f).pins = s.pins := rfl
@[simp] theorem State.updSlice_boot (q k : Nat) (f : Slice → Slice) : (s.updSlice q k f).boot = s.boot := rfl
@[simp] theorem State.updSlice_sup (q k : Nat) (f : Slice → Slice) : (s.updSlice q k f).sup = s.sup := rfl
@[simp] theorem State.updSlice_flt (q k : Nat) (f : Slice → Slice) : (s.updSlice q k f).flt = s.flt := rfl
@[simp] theorem State.updSlice_thm (q k : Nat) (f : Slice → Slice) : (s.updSlice q k f).thm = s.thm := rfl
@[simp] theorem State.updSlice_pwr (q k : Nat) (f : Slice → Slice) : (s.updSlice q k f).pwr = s.pwr := rfl
@[simp] theorem State.updSlice_otp (q k : Nat) (f : Slice → Slice) : (s.updSlice q k f).otp = s.otp := rfl
@[simp] theorem State.updSlice_jnl (q k : Nat) (f : Slice → Slice) : (s.updSlice q k f).jnl = s.jnl := rfl
@[simp] theorem State.updSlice_att (q k : Nat) (f : Slice → Slice) : (s.updSlice q k f).att = s.att := rfl
@[simp] theorem State.updSlice_bist (q k : Nat) (f : Slice → Slice) : (s.updSlice q k f).bist = s.bist := rfl
@[simp] theorem State.updSlice_mb (q k : Nat) (f : Slice → Slice) : (s.updSlice q k f).mb = s.mb := rfl
@[simp] theorem State.updSlice_rep (q k : Nat) (f : Slice → Slice) : (s.updSlice q k f).rep = s.rep := rfl
@[simp] theorem State.updSlice_gnt (q k : Nat) (f : Slice → Slice) : (s.updSlice q k f).gnt = s.gnt := rfl
@[simp] theorem State.updSlice_tap (q k : Nat) (f : Slice → Slice) : (s.updSlice q k f).tap = s.tap := rfl
@[simp] theorem State.updSlice_image (q k : Nat) (f : Slice → Slice) : (s.updSlice q k f).image = s.image := rfl
@[simp] theorem State.updSlice_ports (q k : Nat) (f : Slice → Slice) : (s.updSlice q k f).ports = s.ports := rfl
@[simp] theorem State.updSlice_chans (q k : Nat) (f : Slice → Slice) : (s.updSlice q k f).chans = s.chans := rfl
@[simp] theorem State.updSlice_pcs (q k : Nat) (f : Slice → Slice) : (s.updSlice q k f).pcs = s.pcs := rfl
@[simp] theorem State.updSlice_layers (q k : Nat) (f : Slice → Slice) : (s.updSlice q k f).layers = s.layers := rfl
@[simp] theorem State.updSlice_pmc (q k : Nat) (f : Slice → Slice) : (s.updSlice q k f).pmc = s.pmc := rfl
@[simp] theorem State.updSlice_mem (q k : Nat) (f : Slice → Slice) : (s.updSlice q k f).mem = s.mem := rfl
@[simp] theorem State.updSlice_port (q k : Nat) (f : Slice → Slice) (p' : Nat) : (s.updSlice q k f).port p' = s.port p' := rfl
@[simp] theorem State.updSlice_chan (q k : Nat) (f : Slice → Slice) (n' : Nat) : (s.updSlice q k f).chan n' = s.chan n' := rfl
@[simp] theorem State.updSlice_pc (q k : Nat) (f : Slice → Slice) (q' : Nat) : (s.updSlice q k f).pc q' = s.pc q' := rfl
@[simp] theorem State.updSlice_layer (q k : Nat) (f : Slice → Slice) (k' : Nat) : (s.updSlice q k f).layer k' = s.layer k' := rfl
@[simp] theorem State.updSlice_cset (q k : Nat) (f : Slice → Slice) (i' : Nat) : (s.updSlice q k f).cset i' = s.cset i' := rfl
@[simp] theorem State.updSlice_src (q k : Nat) (f : Slice → Slice) (n' : Nat) : (s.updSlice q k f).src n' = s.src n' := rfl
@[simp] theorem State.updSlice_rank (q k : Nat) (f : Slice → Slice) (q' r' : Nat) : (s.updSlice q k f).rank q' r' = s.rank q' r' := rfl
@[simp] theorem State.updSlice_bankEnt (q k : Nat) (f : Slice → Slice) (q' r' b' : Nat) : (s.updSlice q k f).bankEnt q' r' b' = s.bankEnt q' r' b' := rfl

/-! ## updLayer -/

@[simp] theorem State.updLayer_pending (k : Nat) (f : Layer → Layer) : (s.updLayer k f).pending = s.pending := rfl
@[simp] theorem State.updLayer_now (k : Nat) (f : Layer → Layer) : (s.updLayer k f).now = s.now := rfl
@[simp] theorem State.updLayer_choice (k : Nat) (f : Layer → Layer) : (s.updLayer k f).choice = s.choice := rfl
@[simp] theorem State.updLayer_pwrgood (k : Nat) (f : Layer → Layer) : (s.updLayer k f).pwrgood = s.pwrgood := rfl
@[simp] theorem State.updLayer_mode (k : Nat) (f : Layer → Layer) : (s.updLayer k f).mode = s.mode := rfl
@[simp] theorem State.updLayer_holdCause (k : Nat) (f : Layer → Layer) : (s.updLayer k f).holdCause = s.holdCause := rfl
@[simp] theorem State.updLayer_takeover (k : Nat) (f : Layer → Layer) : (s.updLayer k f).takeover = s.takeover := rfl
@[simp] theorem State.updLayer_pins (k : Nat) (f : Layer → Layer) : (s.updLayer k f).pins = s.pins := rfl
@[simp] theorem State.updLayer_boot (k : Nat) (f : Layer → Layer) : (s.updLayer k f).boot = s.boot := rfl
@[simp] theorem State.updLayer_sup (k : Nat) (f : Layer → Layer) : (s.updLayer k f).sup = s.sup := rfl
@[simp] theorem State.updLayer_flt (k : Nat) (f : Layer → Layer) : (s.updLayer k f).flt = s.flt := rfl
@[simp] theorem State.updLayer_thm (k : Nat) (f : Layer → Layer) : (s.updLayer k f).thm = s.thm := rfl
@[simp] theorem State.updLayer_pwr (k : Nat) (f : Layer → Layer) : (s.updLayer k f).pwr = s.pwr := rfl
@[simp] theorem State.updLayer_otp (k : Nat) (f : Layer → Layer) : (s.updLayer k f).otp = s.otp := rfl
@[simp] theorem State.updLayer_jnl (k : Nat) (f : Layer → Layer) : (s.updLayer k f).jnl = s.jnl := rfl
@[simp] theorem State.updLayer_att (k : Nat) (f : Layer → Layer) : (s.updLayer k f).att = s.att := rfl
@[simp] theorem State.updLayer_bist (k : Nat) (f : Layer → Layer) : (s.updLayer k f).bist = s.bist := rfl
@[simp] theorem State.updLayer_mb (k : Nat) (f : Layer → Layer) : (s.updLayer k f).mb = s.mb := rfl
@[simp] theorem State.updLayer_rep (k : Nat) (f : Layer → Layer) : (s.updLayer k f).rep = s.rep := rfl
@[simp] theorem State.updLayer_gnt (k : Nat) (f : Layer → Layer) : (s.updLayer k f).gnt = s.gnt := rfl
@[simp] theorem State.updLayer_tap (k : Nat) (f : Layer → Layer) : (s.updLayer k f).tap = s.tap := rfl
@[simp] theorem State.updLayer_image (k : Nat) (f : Layer → Layer) : (s.updLayer k f).image = s.image := rfl
@[simp] theorem State.updLayer_ports (k : Nat) (f : Layer → Layer) : (s.updLayer k f).ports = s.ports := rfl
@[simp] theorem State.updLayer_chans (k : Nat) (f : Layer → Layer) : (s.updLayer k f).chans = s.chans := rfl
@[simp] theorem State.updLayer_pcs (k : Nat) (f : Layer → Layer) : (s.updLayer k f).pcs = s.pcs := rfl
@[simp] theorem State.updLayer_slices (k : Nat) (f : Layer → Layer) : (s.updLayer k f).slices = s.slices := rfl
@[simp] theorem State.updLayer_pmc (k : Nat) (f : Layer → Layer) : (s.updLayer k f).pmc = s.pmc := rfl
@[simp] theorem State.updLayer_mem (k : Nat) (f : Layer → Layer) : (s.updLayer k f).mem = s.mem := rfl
@[simp] theorem State.updLayer_port (k : Nat) (f : Layer → Layer) (p' : Nat) : (s.updLayer k f).port p' = s.port p' := rfl
@[simp] theorem State.updLayer_chan (k : Nat) (f : Layer → Layer) (n' : Nat) : (s.updLayer k f).chan n' = s.chan n' := rfl
@[simp] theorem State.updLayer_pc (k : Nat) (f : Layer → Layer) (q' : Nat) : (s.updLayer k f).pc q' = s.pc q' := rfl
@[simp] theorem State.updLayer_cset (k : Nat) (f : Layer → Layer) (i' : Nat) : (s.updLayer k f).cset i' = s.cset i' := rfl
@[simp] theorem State.updLayer_src (k : Nat) (f : Layer → Layer) (n' : Nat) : (s.updLayer k f).src n' = s.src n' := rfl
@[simp] theorem State.updLayer_slice (k : Nat) (f : Layer → Layer) (q' k' : Nat) : (s.updLayer k f).slice q' k' = s.slice q' k' := rfl
@[simp] theorem State.updLayer_rank (k : Nat) (f : Layer → Layer) (q' r' : Nat) : (s.updLayer k f).rank q' r' = s.rank q' r' := rfl
@[simp] theorem State.updLayer_bankEnt (k : Nat) (f : Layer → Layer) (q' r' b' : Nat) : (s.updLayer k f).bankEnt q' r' b' = s.bankEnt q' r' b' := rfl

/-! ## updCset -/

@[simp] theorem State.updCset_pending (i : Nat) (f : CounterSet → CounterSet) : (s.updCset i f).pending = s.pending := rfl
@[simp] theorem State.updCset_now (i : Nat) (f : CounterSet → CounterSet) : (s.updCset i f).now = s.now := rfl
@[simp] theorem State.updCset_choice (i : Nat) (f : CounterSet → CounterSet) : (s.updCset i f).choice = s.choice := rfl
@[simp] theorem State.updCset_pwrgood (i : Nat) (f : CounterSet → CounterSet) : (s.updCset i f).pwrgood = s.pwrgood := rfl
@[simp] theorem State.updCset_mode (i : Nat) (f : CounterSet → CounterSet) : (s.updCset i f).mode = s.mode := rfl
@[simp] theorem State.updCset_holdCause (i : Nat) (f : CounterSet → CounterSet) : (s.updCset i f).holdCause = s.holdCause := rfl
@[simp] theorem State.updCset_takeover (i : Nat) (f : CounterSet → CounterSet) : (s.updCset i f).takeover = s.takeover := rfl
@[simp] theorem State.updCset_pins (i : Nat) (f : CounterSet → CounterSet) : (s.updCset i f).pins = s.pins := rfl
@[simp] theorem State.updCset_boot (i : Nat) (f : CounterSet → CounterSet) : (s.updCset i f).boot = s.boot := rfl
@[simp] theorem State.updCset_sup (i : Nat) (f : CounterSet → CounterSet) : (s.updCset i f).sup = s.sup := rfl
@[simp] theorem State.updCset_flt (i : Nat) (f : CounterSet → CounterSet) : (s.updCset i f).flt = s.flt := rfl
@[simp] theorem State.updCset_thm (i : Nat) (f : CounterSet → CounterSet) : (s.updCset i f).thm = s.thm := rfl
@[simp] theorem State.updCset_pwr (i : Nat) (f : CounterSet → CounterSet) : (s.updCset i f).pwr = s.pwr := rfl
@[simp] theorem State.updCset_otp (i : Nat) (f : CounterSet → CounterSet) : (s.updCset i f).otp = s.otp := rfl
@[simp] theorem State.updCset_jnl (i : Nat) (f : CounterSet → CounterSet) : (s.updCset i f).jnl = s.jnl := rfl
@[simp] theorem State.updCset_att (i : Nat) (f : CounterSet → CounterSet) : (s.updCset i f).att = s.att := rfl
@[simp] theorem State.updCset_bist (i : Nat) (f : CounterSet → CounterSet) : (s.updCset i f).bist = s.bist := rfl
@[simp] theorem State.updCset_mb (i : Nat) (f : CounterSet → CounterSet) : (s.updCset i f).mb = s.mb := rfl
@[simp] theorem State.updCset_rep (i : Nat) (f : CounterSet → CounterSet) : (s.updCset i f).rep = s.rep := rfl
@[simp] theorem State.updCset_gnt (i : Nat) (f : CounterSet → CounterSet) : (s.updCset i f).gnt = s.gnt := rfl
@[simp] theorem State.updCset_tap (i : Nat) (f : CounterSet → CounterSet) : (s.updCset i f).tap = s.tap := rfl
@[simp] theorem State.updCset_image (i : Nat) (f : CounterSet → CounterSet) : (s.updCset i f).image = s.image := rfl
@[simp] theorem State.updCset_ports (i : Nat) (f : CounterSet → CounterSet) : (s.updCset i f).ports = s.ports := rfl
@[simp] theorem State.updCset_chans (i : Nat) (f : CounterSet → CounterSet) : (s.updCset i f).chans = s.chans := rfl
@[simp] theorem State.updCset_pcs (i : Nat) (f : CounterSet → CounterSet) : (s.updCset i f).pcs = s.pcs := rfl
@[simp] theorem State.updCset_slices (i : Nat) (f : CounterSet → CounterSet) : (s.updCset i f).slices = s.slices := rfl
@[simp] theorem State.updCset_layers (i : Nat) (f : CounterSet → CounterSet) : (s.updCset i f).layers = s.layers := rfl
@[simp] theorem State.updCset_mem (i : Nat) (f : CounterSet → CounterSet) : (s.updCset i f).mem = s.mem := rfl
@[simp] theorem State.updCset_port (i : Nat) (f : CounterSet → CounterSet) (p' : Nat) : (s.updCset i f).port p' = s.port p' := rfl
@[simp] theorem State.updCset_chan (i : Nat) (f : CounterSet → CounterSet) (n' : Nat) : (s.updCset i f).chan n' = s.chan n' := rfl
@[simp] theorem State.updCset_pc (i : Nat) (f : CounterSet → CounterSet) (q' : Nat) : (s.updCset i f).pc q' = s.pc q' := rfl
@[simp] theorem State.updCset_layer (i : Nat) (f : CounterSet → CounterSet) (k' : Nat) : (s.updCset i f).layer k' = s.layer k' := rfl
@[simp] theorem State.updCset_src (i : Nat) (f : CounterSet → CounterSet) (n' : Nat) : (s.updCset i f).src n' = s.src n' := rfl
@[simp] theorem State.updCset_slice (i : Nat) (f : CounterSet → CounterSet) (q' k' : Nat) : (s.updCset i f).slice q' k' = s.slice q' k' := rfl
@[simp] theorem State.updCset_rank (i : Nat) (f : CounterSet → CounterSet) (q' r' : Nat) : (s.updCset i f).rank q' r' = s.rank q' r' := rfl
@[simp] theorem State.updCset_bankEnt (i : Nat) (f : CounterSet → CounterSet) (q' r' b' : Nat) : (s.updCset i f).bankEnt q' r' b' = s.bankEnt q' r' b' := rfl

/-! ## updSrc -/

@[simp] theorem State.updSrc_pending (n : Nat) (f : Source → Source) : (s.updSrc n f).pending = s.pending := rfl
@[simp] theorem State.updSrc_now (n : Nat) (f : Source → Source) : (s.updSrc n f).now = s.now := rfl
@[simp] theorem State.updSrc_choice (n : Nat) (f : Source → Source) : (s.updSrc n f).choice = s.choice := rfl
@[simp] theorem State.updSrc_pwrgood (n : Nat) (f : Source → Source) : (s.updSrc n f).pwrgood = s.pwrgood := rfl
@[simp] theorem State.updSrc_mode (n : Nat) (f : Source → Source) : (s.updSrc n f).mode = s.mode := rfl
@[simp] theorem State.updSrc_holdCause (n : Nat) (f : Source → Source) : (s.updSrc n f).holdCause = s.holdCause := rfl
@[simp] theorem State.updSrc_takeover (n : Nat) (f : Source → Source) : (s.updSrc n f).takeover = s.takeover := rfl
@[simp] theorem State.updSrc_pins (n : Nat) (f : Source → Source) : (s.updSrc n f).pins = s.pins := rfl
@[simp] theorem State.updSrc_boot (n : Nat) (f : Source → Source) : (s.updSrc n f).boot = s.boot := rfl
@[simp] theorem State.updSrc_sup (n : Nat) (f : Source → Source) : (s.updSrc n f).sup = s.sup := rfl
@[simp] theorem State.updSrc_thm (n : Nat) (f : Source → Source) : (s.updSrc n f).thm = s.thm := rfl
@[simp] theorem State.updSrc_pwr (n : Nat) (f : Source → Source) : (s.updSrc n f).pwr = s.pwr := rfl
@[simp] theorem State.updSrc_otp (n : Nat) (f : Source → Source) : (s.updSrc n f).otp = s.otp := rfl
@[simp] theorem State.updSrc_jnl (n : Nat) (f : Source → Source) : (s.updSrc n f).jnl = s.jnl := rfl
@[simp] theorem State.updSrc_att (n : Nat) (f : Source → Source) : (s.updSrc n f).att = s.att := rfl
@[simp] theorem State.updSrc_bist (n : Nat) (f : Source → Source) : (s.updSrc n f).bist = s.bist := rfl
@[simp] theorem State.updSrc_mb (n : Nat) (f : Source → Source) : (s.updSrc n f).mb = s.mb := rfl
@[simp] theorem State.updSrc_rep (n : Nat) (f : Source → Source) : (s.updSrc n f).rep = s.rep := rfl
@[simp] theorem State.updSrc_gnt (n : Nat) (f : Source → Source) : (s.updSrc n f).gnt = s.gnt := rfl
@[simp] theorem State.updSrc_tap (n : Nat) (f : Source → Source) : (s.updSrc n f).tap = s.tap := rfl
@[simp] theorem State.updSrc_image (n : Nat) (f : Source → Source) : (s.updSrc n f).image = s.image := rfl
@[simp] theorem State.updSrc_ports (n : Nat) (f : Source → Source) : (s.updSrc n f).ports = s.ports := rfl
@[simp] theorem State.updSrc_chans (n : Nat) (f : Source → Source) : (s.updSrc n f).chans = s.chans := rfl
@[simp] theorem State.updSrc_pcs (n : Nat) (f : Source → Source) : (s.updSrc n f).pcs = s.pcs := rfl
@[simp] theorem State.updSrc_slices (n : Nat) (f : Source → Source) : (s.updSrc n f).slices = s.slices := rfl
@[simp] theorem State.updSrc_layers (n : Nat) (f : Source → Source) : (s.updSrc n f).layers = s.layers := rfl
@[simp] theorem State.updSrc_pmc (n : Nat) (f : Source → Source) : (s.updSrc n f).pmc = s.pmc := rfl
@[simp] theorem State.updSrc_mem (n : Nat) (f : Source → Source) : (s.updSrc n f).mem = s.mem := rfl
@[simp] theorem State.updSrc_port (n : Nat) (f : Source → Source) (p' : Nat) : (s.updSrc n f).port p' = s.port p' := rfl
@[simp] theorem State.updSrc_chan (n : Nat) (f : Source → Source) (n' : Nat) : (s.updSrc n f).chan n' = s.chan n' := rfl
@[simp] theorem State.updSrc_pc (n : Nat) (f : Source → Source) (q' : Nat) : (s.updSrc n f).pc q' = s.pc q' := rfl
@[simp] theorem State.updSrc_layer (n : Nat) (f : Source → Source) (k' : Nat) : (s.updSrc n f).layer k' = s.layer k' := rfl
@[simp] theorem State.updSrc_cset (n : Nat) (f : Source → Source) (i' : Nat) : (s.updSrc n f).cset i' = s.cset i' := rfl
@[simp] theorem State.updSrc_slice (n : Nat) (f : Source → Source) (q' k' : Nat) : (s.updSrc n f).slice q' k' = s.slice q' k' := rfl
@[simp] theorem State.updSrc_rank (n : Nat) (f : Source → Source) (q' r' : Nat) : (s.updSrc n f).rank q' r' = s.rank q' r' := rfl
@[simp] theorem State.updSrc_bankEnt (n : Nat) (f : Source → Source) (q' r' b' : Nat) : (s.updSrc n f).bankEnt q' r' b' = s.bankEnt q' r' b' := rfl

/-! ## setRank -/

@[simp] theorem State.setRank_pending (q r : Nat) (e : RankEnt) : (s.setRank q r e).pending = s.pending := rfl
@[simp] theorem State.setRank_now (q r : Nat) (e : RankEnt) : (s.setRank q r e).now = s.now := rfl
@[simp] theorem State.setRank_choice (q r : Nat) (e : RankEnt) : (s.setRank q r e).choice = s.choice := rfl
@[simp] theorem State.setRank_pwrgood (q r : Nat) (e : RankEnt) : (s.setRank q r e).pwrgood = s.pwrgood := rfl
@[simp] theorem State.setRank_mode (q r : Nat) (e : RankEnt) : (s.setRank q r e).mode = s.mode := rfl
@[simp] theorem State.setRank_holdCause (q r : Nat) (e : RankEnt) : (s.setRank q r e).holdCause = s.holdCause := rfl
@[simp] theorem State.setRank_takeover (q r : Nat) (e : RankEnt) : (s.setRank q r e).takeover = s.takeover := rfl
@[simp] theorem State.setRank_pins (q r : Nat) (e : RankEnt) : (s.setRank q r e).pins = s.pins := rfl
@[simp] theorem State.setRank_boot (q r : Nat) (e : RankEnt) : (s.setRank q r e).boot = s.boot := rfl
@[simp] theorem State.setRank_sup (q r : Nat) (e : RankEnt) : (s.setRank q r e).sup = s.sup := rfl
@[simp] theorem State.setRank_flt (q r : Nat) (e : RankEnt) : (s.setRank q r e).flt = s.flt := rfl
@[simp] theorem State.setRank_thm (q r : Nat) (e : RankEnt) : (s.setRank q r e).thm = s.thm := rfl
@[simp] theorem State.setRank_pwr (q r : Nat) (e : RankEnt) : (s.setRank q r e).pwr = s.pwr := rfl
@[simp] theorem State.setRank_otp (q r : Nat) (e : RankEnt) : (s.setRank q r e).otp = s.otp := rfl
@[simp] theorem State.setRank_jnl (q r : Nat) (e : RankEnt) : (s.setRank q r e).jnl = s.jnl := rfl
@[simp] theorem State.setRank_att (q r : Nat) (e : RankEnt) : (s.setRank q r e).att = s.att := rfl
@[simp] theorem State.setRank_bist (q r : Nat) (e : RankEnt) : (s.setRank q r e).bist = s.bist := rfl
@[simp] theorem State.setRank_mb (q r : Nat) (e : RankEnt) : (s.setRank q r e).mb = s.mb := rfl
@[simp] theorem State.setRank_gnt (q r : Nat) (e : RankEnt) : (s.setRank q r e).gnt = s.gnt := rfl
@[simp] theorem State.setRank_tap (q r : Nat) (e : RankEnt) : (s.setRank q r e).tap = s.tap := rfl
@[simp] theorem State.setRank_image (q r : Nat) (e : RankEnt) : (s.setRank q r e).image = s.image := rfl
@[simp] theorem State.setRank_ports (q r : Nat) (e : RankEnt) : (s.setRank q r e).ports = s.ports := rfl
@[simp] theorem State.setRank_chans (q r : Nat) (e : RankEnt) : (s.setRank q r e).chans = s.chans := rfl
@[simp] theorem State.setRank_pcs (q r : Nat) (e : RankEnt) : (s.setRank q r e).pcs = s.pcs := rfl
@[simp] theorem State.setRank_slices (q r : Nat) (e : RankEnt) : (s.setRank q r e).slices = s.slices := rfl
@[simp] theorem State.setRank_layers (q r : Nat) (e : RankEnt) : (s.setRank q r e).layers = s.layers := rfl
@[simp] theorem State.setRank_pmc (q r : Nat) (e : RankEnt) : (s.setRank q r e).pmc = s.pmc := rfl
@[simp] theorem State.setRank_mem (q r : Nat) (e : RankEnt) : (s.setRank q r e).mem = s.mem := rfl
@[simp] theorem State.setRank_port (q r : Nat) (e : RankEnt) (p' : Nat) : (s.setRank q r e).port p' = s.port p' := rfl
@[simp] theorem State.setRank_chan (q r : Nat) (e : RankEnt) (n' : Nat) : (s.setRank q r e).chan n' = s.chan n' := rfl
@[simp] theorem State.setRank_pc (q r : Nat) (e : RankEnt) (q' : Nat) : (s.setRank q r e).pc q' = s.pc q' := rfl
@[simp] theorem State.setRank_layer (q r : Nat) (e : RankEnt) (k' : Nat) : (s.setRank q r e).layer k' = s.layer k' := rfl
@[simp] theorem State.setRank_cset (q r : Nat) (e : RankEnt) (i' : Nat) : (s.setRank q r e).cset i' = s.cset i' := rfl
@[simp] theorem State.setRank_src (q r : Nat) (e : RankEnt) (n' : Nat) : (s.setRank q r e).src n' = s.src n' := rfl
@[simp] theorem State.setRank_slice (q r : Nat) (e : RankEnt) (q' k' : Nat) : (s.setRank q r e).slice q' k' = s.slice q' k' := rfl

/-! ## setBank -/

@[simp] theorem State.setBank_pending (q r b : Nat) (e : BankEnt) : (s.setBank q r b e).pending = s.pending := rfl
@[simp] theorem State.setBank_now (q r b : Nat) (e : BankEnt) : (s.setBank q r b e).now = s.now := rfl
@[simp] theorem State.setBank_choice (q r b : Nat) (e : BankEnt) : (s.setBank q r b e).choice = s.choice := rfl
@[simp] theorem State.setBank_pwrgood (q r b : Nat) (e : BankEnt) : (s.setBank q r b e).pwrgood = s.pwrgood := rfl
@[simp] theorem State.setBank_mode (q r b : Nat) (e : BankEnt) : (s.setBank q r b e).mode = s.mode := rfl
@[simp] theorem State.setBank_holdCause (q r b : Nat) (e : BankEnt) : (s.setBank q r b e).holdCause = s.holdCause := rfl
@[simp] theorem State.setBank_takeover (q r b : Nat) (e : BankEnt) : (s.setBank q r b e).takeover = s.takeover := rfl
@[simp] theorem State.setBank_pins (q r b : Nat) (e : BankEnt) : (s.setBank q r b e).pins = s.pins := rfl
@[simp] theorem State.setBank_boot (q r b : Nat) (e : BankEnt) : (s.setBank q r b e).boot = s.boot := rfl
@[simp] theorem State.setBank_sup (q r b : Nat) (e : BankEnt) : (s.setBank q r b e).sup = s.sup := rfl
@[simp] theorem State.setBank_flt (q r b : Nat) (e : BankEnt) : (s.setBank q r b e).flt = s.flt := rfl
@[simp] theorem State.setBank_thm (q r b : Nat) (e : BankEnt) : (s.setBank q r b e).thm = s.thm := rfl
@[simp] theorem State.setBank_pwr (q r b : Nat) (e : BankEnt) : (s.setBank q r b e).pwr = s.pwr := rfl
@[simp] theorem State.setBank_otp (q r b : Nat) (e : BankEnt) : (s.setBank q r b e).otp = s.otp := rfl
@[simp] theorem State.setBank_jnl (q r b : Nat) (e : BankEnt) : (s.setBank q r b e).jnl = s.jnl := rfl
@[simp] theorem State.setBank_att (q r b : Nat) (e : BankEnt) : (s.setBank q r b e).att = s.att := rfl
@[simp] theorem State.setBank_bist (q r b : Nat) (e : BankEnt) : (s.setBank q r b e).bist = s.bist := rfl
@[simp] theorem State.setBank_mb (q r b : Nat) (e : BankEnt) : (s.setBank q r b e).mb = s.mb := rfl
@[simp] theorem State.setBank_gnt (q r b : Nat) (e : BankEnt) : (s.setBank q r b e).gnt = s.gnt := rfl
@[simp] theorem State.setBank_tap (q r b : Nat) (e : BankEnt) : (s.setBank q r b e).tap = s.tap := rfl
@[simp] theorem State.setBank_image (q r b : Nat) (e : BankEnt) : (s.setBank q r b e).image = s.image := rfl
@[simp] theorem State.setBank_ports (q r b : Nat) (e : BankEnt) : (s.setBank q r b e).ports = s.ports := rfl
@[simp] theorem State.setBank_chans (q r b : Nat) (e : BankEnt) : (s.setBank q r b e).chans = s.chans := rfl
@[simp] theorem State.setBank_pcs (q r b : Nat) (e : BankEnt) : (s.setBank q r b e).pcs = s.pcs := rfl
@[simp] theorem State.setBank_slices (q r b : Nat) (e : BankEnt) : (s.setBank q r b e).slices = s.slices := rfl
@[simp] theorem State.setBank_layers (q r b : Nat) (e : BankEnt) : (s.setBank q r b e).layers = s.layers := rfl
@[simp] theorem State.setBank_pmc (q r b : Nat) (e : BankEnt) : (s.setBank q r b e).pmc = s.pmc := rfl
@[simp] theorem State.setBank_mem (q r b : Nat) (e : BankEnt) : (s.setBank q r b e).mem = s.mem := rfl
@[simp] theorem State.setBank_port (q r b : Nat) (e : BankEnt) (p' : Nat) : (s.setBank q r b e).port p' = s.port p' := rfl
@[simp] theorem State.setBank_chan (q r b : Nat) (e : BankEnt) (n' : Nat) : (s.setBank q r b e).chan n' = s.chan n' := rfl
@[simp] theorem State.setBank_pc (q r b : Nat) (e : BankEnt) (q' : Nat) : (s.setBank q r b e).pc q' = s.pc q' := rfl
@[simp] theorem State.setBank_layer (q r b : Nat) (e : BankEnt) (k' : Nat) : (s.setBank q r b e).layer k' = s.layer k' := rfl
@[simp] theorem State.setBank_cset (q r b : Nat) (e : BankEnt) (i' : Nat) : (s.setBank q r b e).cset i' = s.cset i' := rfl
@[simp] theorem State.setBank_src (q r b : Nat) (e : BankEnt) (n' : Nat) : (s.setBank q r b e).src n' = s.src n' := rfl
@[simp] theorem State.setBank_slice (q r b : Nat) (e : BankEnt) (q' k' : Nat) : (s.setBank q r b e).slice q' k' = s.slice q' k' := rfl

/-! ## atLeast -/

@[simp] theorem State.atLeast_pending (t : Nat) : (s.atLeast t).pending = s.pending := rfl
@[simp] theorem State.atLeast_choice (t : Nat) : (s.atLeast t).choice = s.choice := rfl
@[simp] theorem State.atLeast_pwrgood (t : Nat) : (s.atLeast t).pwrgood = s.pwrgood := rfl
@[simp] theorem State.atLeast_mode (t : Nat) : (s.atLeast t).mode = s.mode := rfl
@[simp] theorem State.atLeast_holdCause (t : Nat) : (s.atLeast t).holdCause = s.holdCause := rfl
@[simp] theorem State.atLeast_takeover (t : Nat) : (s.atLeast t).takeover = s.takeover := rfl
@[simp] theorem State.atLeast_pins (t : Nat) : (s.atLeast t).pins = s.pins := rfl
@[simp] theorem State.atLeast_boot (t : Nat) : (s.atLeast t).boot = s.boot := rfl
@[simp] theorem State.atLeast_sup (t : Nat) : (s.atLeast t).sup = s.sup := rfl
@[simp] theorem State.atLeast_flt (t : Nat) : (s.atLeast t).flt = s.flt := rfl
@[simp] theorem State.atLeast_thm (t : Nat) : (s.atLeast t).thm = s.thm := rfl
@[simp] theorem State.atLeast_pwr (t : Nat) : (s.atLeast t).pwr = s.pwr := rfl
@[simp] theorem State.atLeast_otp (t : Nat) : (s.atLeast t).otp = s.otp := rfl
@[simp] theorem State.atLeast_jnl (t : Nat) : (s.atLeast t).jnl = s.jnl := rfl
@[simp] theorem State.atLeast_att (t : Nat) : (s.atLeast t).att = s.att := rfl
@[simp] theorem State.atLeast_bist (t : Nat) : (s.atLeast t).bist = s.bist := rfl
@[simp] theorem State.atLeast_mb (t : Nat) : (s.atLeast t).mb = s.mb := rfl
@[simp] theorem State.atLeast_rep (t : Nat) : (s.atLeast t).rep = s.rep := rfl
@[simp] theorem State.atLeast_gnt (t : Nat) : (s.atLeast t).gnt = s.gnt := rfl
@[simp] theorem State.atLeast_tap (t : Nat) : (s.atLeast t).tap = s.tap := rfl
@[simp] theorem State.atLeast_image (t : Nat) : (s.atLeast t).image = s.image := rfl
@[simp] theorem State.atLeast_ports (t : Nat) : (s.atLeast t).ports = s.ports := rfl
@[simp] theorem State.atLeast_chans (t : Nat) : (s.atLeast t).chans = s.chans := rfl
@[simp] theorem State.atLeast_pcs (t : Nat) : (s.atLeast t).pcs = s.pcs := rfl
@[simp] theorem State.atLeast_slices (t : Nat) : (s.atLeast t).slices = s.slices := rfl
@[simp] theorem State.atLeast_layers (t : Nat) : (s.atLeast t).layers = s.layers := rfl
@[simp] theorem State.atLeast_pmc (t : Nat) : (s.atLeast t).pmc = s.pmc := rfl
@[simp] theorem State.atLeast_mem (t : Nat) : (s.atLeast t).mem = s.mem := rfl
@[simp] theorem State.atLeast_port (t : Nat) (p' : Nat) : (s.atLeast t).port p' = s.port p' := rfl
@[simp] theorem State.atLeast_chan (t : Nat) (n' : Nat) : (s.atLeast t).chan n' = s.chan n' := rfl
@[simp] theorem State.atLeast_pc (t : Nat) (q' : Nat) : (s.atLeast t).pc q' = s.pc q' := rfl
@[simp] theorem State.atLeast_layer (t : Nat) (k' : Nat) : (s.atLeast t).layer k' = s.layer k' := rfl
@[simp] theorem State.atLeast_cset (t : Nat) (i' : Nat) : (s.atLeast t).cset i' = s.cset i' := rfl
@[simp] theorem State.atLeast_src (t : Nat) (n' : Nat) : (s.atLeast t).src n' = s.src n' := rfl
@[simp] theorem State.atLeast_slice (t : Nat) (q' k' : Nat) : (s.atLeast t).slice q' k' = s.slice q' k' := rfl
@[simp] theorem State.atLeast_rank (t : Nat) (q' r' : Nat) : (s.atLeast t).rank q' r' = s.rank q' r' := rfl
@[simp] theorem State.atLeast_bankEnt (t : Nat) (q' r' b' : Nat) : (s.atLeast t).bankEnt q' r' b' = s.bankEnt q' r' b' := rfl

/-! ## writeByte -/

@[simp] theorem State.writeByte_pending (a : Nat) (v : Byte) : (s.writeByte a v).pending = s.pending := rfl
@[simp] theorem State.writeByte_now (a : Nat) (v : Byte) : (s.writeByte a v).now = s.now := rfl
@[simp] theorem State.writeByte_choice (a : Nat) (v : Byte) : (s.writeByte a v).choice = s.choice := rfl
@[simp] theorem State.writeByte_pwrgood (a : Nat) (v : Byte) : (s.writeByte a v).pwrgood = s.pwrgood := rfl
@[simp] theorem State.writeByte_mode (a : Nat) (v : Byte) : (s.writeByte a v).mode = s.mode := rfl
@[simp] theorem State.writeByte_holdCause (a : Nat) (v : Byte) : (s.writeByte a v).holdCause = s.holdCause := rfl
@[simp] theorem State.writeByte_takeover (a : Nat) (v : Byte) : (s.writeByte a v).takeover = s.takeover := rfl
@[simp] theorem State.writeByte_pins (a : Nat) (v : Byte) : (s.writeByte a v).pins = s.pins := rfl
@[simp] theorem State.writeByte_boot (a : Nat) (v : Byte) : (s.writeByte a v).boot = s.boot := rfl
@[simp] theorem State.writeByte_sup (a : Nat) (v : Byte) : (s.writeByte a v).sup = s.sup := rfl
@[simp] theorem State.writeByte_flt (a : Nat) (v : Byte) : (s.writeByte a v).flt = s.flt := rfl
@[simp] theorem State.writeByte_thm (a : Nat) (v : Byte) : (s.writeByte a v).thm = s.thm := rfl
@[simp] theorem State.writeByte_pwr (a : Nat) (v : Byte) : (s.writeByte a v).pwr = s.pwr := rfl
@[simp] theorem State.writeByte_otp (a : Nat) (v : Byte) : (s.writeByte a v).otp = s.otp := rfl
@[simp] theorem State.writeByte_jnl (a : Nat) (v : Byte) : (s.writeByte a v).jnl = s.jnl := rfl
@[simp] theorem State.writeByte_att (a : Nat) (v : Byte) : (s.writeByte a v).att = s.att := rfl
@[simp] theorem State.writeByte_bist (a : Nat) (v : Byte) : (s.writeByte a v).bist = s.bist := rfl
@[simp] theorem State.writeByte_mb (a : Nat) (v : Byte) : (s.writeByte a v).mb = s.mb := rfl
@[simp] theorem State.writeByte_rep (a : Nat) (v : Byte) : (s.writeByte a v).rep = s.rep := rfl
@[simp] theorem State.writeByte_gnt (a : Nat) (v : Byte) : (s.writeByte a v).gnt = s.gnt := rfl
@[simp] theorem State.writeByte_tap (a : Nat) (v : Byte) : (s.writeByte a v).tap = s.tap := rfl
@[simp] theorem State.writeByte_image (a : Nat) (v : Byte) : (s.writeByte a v).image = s.image := rfl
@[simp] theorem State.writeByte_ports (a : Nat) (v : Byte) : (s.writeByte a v).ports = s.ports := rfl
@[simp] theorem State.writeByte_chans (a : Nat) (v : Byte) : (s.writeByte a v).chans = s.chans := rfl
@[simp] theorem State.writeByte_pcs (a : Nat) (v : Byte) : (s.writeByte a v).pcs = s.pcs := rfl
@[simp] theorem State.writeByte_slices (a : Nat) (v : Byte) : (s.writeByte a v).slices = s.slices := rfl
@[simp] theorem State.writeByte_layers (a : Nat) (v : Byte) : (s.writeByte a v).layers = s.layers := rfl
@[simp] theorem State.writeByte_pmc (a : Nat) (v : Byte) : (s.writeByte a v).pmc = s.pmc := rfl
@[simp] theorem State.writeByte_port (a : Nat) (v : Byte) (p' : Nat) : (s.writeByte a v).port p' = s.port p' := rfl
@[simp] theorem State.writeByte_chan (a : Nat) (v : Byte) (n' : Nat) : (s.writeByte a v).chan n' = s.chan n' := rfl
@[simp] theorem State.writeByte_pc (a : Nat) (v : Byte) (q' : Nat) : (s.writeByte a v).pc q' = s.pc q' := rfl
@[simp] theorem State.writeByte_layer (a : Nat) (v : Byte) (k' : Nat) : (s.writeByte a v).layer k' = s.layer k' := rfl
@[simp] theorem State.writeByte_cset (a : Nat) (v : Byte) (i' : Nat) : (s.writeByte a v).cset i' = s.cset i' := rfl
@[simp] theorem State.writeByte_src (a : Nat) (v : Byte) (n' : Nat) : (s.writeByte a v).src n' = s.src n' := rfl
@[simp] theorem State.writeByte_slice (a : Nat) (v : Byte) (q' k' : Nat) : (s.writeByte a v).slice q' k' = s.slice q' k' := rfl
@[simp] theorem State.writeByte_rank (a : Nat) (v : Byte) (q' r' : Nat) : (s.writeByte a v).rank q' r' = s.rank q' r' := rfl
@[simp] theorem State.writeByte_bankEnt (a : Nat) (v : Byte) (q' r' b' : Nat) : (s.writeByte a v).bankEnt q' r' b' = s.bankEnt q' r' b' := rfl

/-! ## Reads after writes -/

@[simp] theorem State.setRank_bankEnt' (q r : Nat) (e : RankEnt) (q' r' b' : Nat) :
    (s.setRank q r e).bankEnt q' r' b' = s.bankEnt q' r' b' := rfl
@[simp] theorem State.setBank_rank' (q r b : Nat) (e : BankEnt) (q' r' : Nat) :
    (s.setBank q r b e).rank q' r' = s.rank q' r' := rfl

@[simp] theorem State.updPort_port (p j : Nat) (f : Port → Port) :
    (s.updPort p f).port j = if j = p then f (s.port p) else s.port j := tabGet_tabSet ..
@[simp] theorem State.updChan_chan (n j : Nat) (f : Channel → Channel) :
    (s.updChan n f).chan j = if j = n then f (s.chan n) else s.chan j := tabGet_tabSet ..
@[simp] theorem State.updPc_pc (q j : Nat) (f : Pc → Pc) :
    (s.updPc q f).pc j = if j = q then f (s.pc q) else s.pc j := tabGet_tabSet ..
@[simp] theorem State.updLayer_layer (k j : Nat) (f : Layer → Layer) :
    (s.updLayer k f).layer j = if j = k then f (s.layer k) else s.layer j := tabGet_tabSet ..
@[simp] theorem State.updCset_cset (i j : Nat) (f : CounterSet → CounterSet) :
    (s.updCset i f).cset j = if j = i then f (s.cset i) else s.cset j := tabGet_tabSet ..
/-- A slice after an update; (q, k) and (q', k') may name one place of the table. -/
@[simp] theorem State.updSlice_slice (q k q' k' : Nat) (f : Slice → Slice) :
    (s.updSlice q k f).slice q' k' = if q' * 18 + k' = q * 18 + k then f (s.slice q k) else s.slice q' k' := tabGet_tabSet ..
/-- A fault source after an update. -/
@[simp] theorem State.updSrc_src (n m : Nat) (f : Source → Source) :
    (s.updSrc n f).src m = if m = n then f (s.src n) else s.src m := by
  simp only [State.src, State.updSrc]
  by_cases h : m = n
  · subst h
    simp
  · simp only [h, if_false]
    have hk : ∀ d : Source, tabGet d (tabSet (srcDefault n) s.flt.sources n (f (tabGet (srcDefault n) s.flt.sources n))) m
        = tabGet d s.flt.sources m := by
      intro d
      unfold tabSet
      split
      · simp [h]
      · rw [tabGet_tabPut_other _ _ _ h, tabGet_tabErase, if_neg h]
    exact hk _
@[simp] theorem State.setRank_rank (q r q' r' : Nat) (e : RankEnt) :
    (s.setRank q r e).rank q' r' = if 16 * q' + r' = 16 * q + r then e else s.rank q' r' := tabGet_tabSet ..
@[simp] theorem State.setBank_bankEnt (q r b q' r' b' : Nat) (e : BankEnt) :
    (s.setBank q r b e).bankEnt q' r' b' = if (16 * q' + r') * 16 + b' = (16 * q + r) * 16 + b then e else s.bankEnt q' r' b' :=
  tabGet_tabSet ..
@[simp] theorem State.atLeast_now (t : Nat) : (s.atLeast t).now = max s.now t := rfl

/-- Two updates of one port in a row. -/
@[simp] theorem State.updPort_updPort (p : Nat) (f g : Port → Port) :
    (s.updPort p f).updPort p g = s.updPort p (fun x => g (f x)) := by
  simp [State.updPort, State.port]
/-- Two updates of one pseudo-channel in a row. -/
@[simp] theorem State.updPc_updPc (q : Nat) (f g : Pc → Pc) :
    (s.updPc q f).updPc q g = s.updPc q (fun x => g (f x)) := by
  simp [State.updPc, State.pc]
/-- Two updates of one channel in a row. -/
@[simp] theorem State.updChan_updChan (n : Nat) (f g : Channel → Channel) :
    (s.updChan n f).updChan n g = s.updChan n (fun x => g (f x)) := by
  simp [State.updChan, State.chan]
/-- Two updates of one layer in a row. -/
@[simp] theorem State.updLayer_updLayer (k : Nat) (f g : Layer → Layer) :
    (s.updLayer k f).updLayer k g = s.updLayer k (fun x => g (f x)) := by
  simp [State.updLayer, State.layer]
/-- Two updates of one slice in a row. -/
@[simp] theorem State.updSlice_updSlice (q k : Nat) (f g : Slice → Slice) :
    (s.updSlice q k f).updSlice q k g = s.updSlice q k (fun x => g (f x)) := by
  simp [State.updSlice, State.slice]
/-- Two updates of one fault source in a row. -/
@[simp] theorem State.updSrc_updSrc (n : Nat) (f g : Source → Source) :
    (s.updSrc n f).updSrc n g = s.updSrc n (fun x => g (f x)) := by
  simp [State.updSrc, State.src]

/-- An update of one port leaves every other port. -/
theorem State.updPort_port_ne {p j : Nat} (f : Port → Port) (h : j ≠ p) : (s.updPort p f).port j = s.port j := by simp [h]
/-- A port reads as its update made it. -/
theorem State.updPort_port_self (p : Nat) (f : Port → Port) : (s.updPort p f).port p = f (s.port p) := by simp

end Sys2Proof.Machine
end

