-- ==== Sys2Proof/Laws/Frame.lean ====
section
/-! SUPPORT. Which fields of State an operation can change at all. `Fr m s t` says that s and t agree on every field whose bit in m is 0, the fields numbered in the order in which State declares them (bit 0 pending, bit 28 mem); after the rules for composing it, one lemma per operation says everything it can change, and the accessors read a field off such a lemma. -/

namespace Sys2Proof.Machine

/-- `t` agrees with `s` on every field whose bit in `m` is 0. -/
structure Fr (m : Nat) (s t : State) : Prop where
  pending : m.testBit 0 = false → t.pending = s.pending
  now : m.testBit 1 = false → t.now = s.now
  choice : m.testBit 2 = false → t.choice = s.choice
  pwrgood : m.testBit 3 = false → t.pwrgood = s.pwrgood
  mode : m.testBit 4 = false → t.mode = s.mode
  holdCause : m.testBit 5 = false → t.holdCause = s.holdCause
  takeover : m.testBit 6 = false → t.takeover = s.takeover
  pins : m.testBit 7 = false → t.pins = s.pins
  boot : m.testBit 8 = false → t.boot = s.boot
  sup : m.testBit 9 = false → t.sup = s.sup
  flt : m.testBit 10 = false → t.flt = s.flt
  thm : m.testBit 11 = false → t.thm = s.thm
  pwr : m.testBit 12 = false → t.pwr = s.pwr
  otp : m.testBit 13 = false → t.otp = s.otp
  jnl : m.testBit 14 = false → t.jnl = s.jnl
  att : m.testBit 15 = false → t.att = s.att
  bist : m.testBit 16 = false → t.bist = s.bist
  mb : m.testBit 17 = false → t.mb = s.mb
  rep : m.testBit 18 = false → t.rep = s.rep
  gnt : m.testBit 19 = false → t.gnt = s.gnt
  tap : m.testBit 20 = false → t.tap = s.tap
  image : m.testBit 21 = false → t.image = s.image
  ports : m.testBit 22 = false → t.ports = s.ports
  chans : m.testBit 23 = false → t.chans = s.chans
  pcs : m.testBit 24 = false → t.pcs = s.pcs
  slices : m.testBit 25 = false → t.slices = s.slices
  layers : m.testBit 26 = false → t.layers = s.layers
  pmc : m.testBit 27 = false → t.pmc = s.pmc
  mem : m.testBit 28 = false → t.mem = s.mem

variable {m m' : Nat} {s t u : State}

theorem Fr.refl (m : Nat) (s : State) : Fr m s s := by
  constructor <;> exact fun _ => rfl
theorem Fr.symm (h : Fr m s t) : Fr m t s := by
  constructor <;> intro hm
  · exact (h.pending hm).symm
  · exact (h.now hm).symm
  · exact (h.choice hm).symm
  · exact (h.pwrgood hm).symm
  · exact (h.mode hm).symm
  · exact (h.holdCause hm).symm
  · exact (h.takeover hm).symm
  · exact (h.pins hm).symm
  · exact (h.boot hm).symm
  · exact (h.sup hm).symm
  · exact (h.flt hm).symm
  · exact (h.thm hm).symm
  · exact (h.pwr hm).symm
  · exact (h.otp hm).symm
  · exact (h.jnl hm).symm
  · exact (h.att hm).symm
  · exact (h.bist hm).symm
  · exact (h.mb hm).symm
  · exact (h.rep hm).symm
  · exact (h.gnt hm).symm
  · exact (h.tap hm).symm
  · exact (h.image hm).symm
  · exact (h.ports hm).symm
  · exact (h.chans hm).symm
  · exact (h.pcs hm).symm
  · exact (h.slices hm).symm
  · exact (h.layers hm).symm
  · exact (h.pmc hm).symm
  · exact (h.mem hm).symm

theorem Fr.trans (h : Fr m s t) (h' : Fr m t u) : Fr m s u := by
  constructor <;> intro hm
  · exact (h'.pending hm).trans (h.pending hm)
  · exact (h'.now hm).trans (h.now hm)
  · exact (h'.choice hm).trans (h.choice hm)
  · exact (h'.pwrgood hm).trans (h.pwrgood hm)
  · exact (h'.mode hm).trans (h.mode hm)
  · exact (h'.holdCause hm).trans (h.holdCause hm)
  · exact (h'.takeover hm).trans (h.takeover hm)
  · exact (h'.pins hm).trans (h.pins hm)
  · exact (h'.boot hm).trans (h.boot hm)
  · exact (h'.sup hm).trans (h.sup hm)
  · exact (h'.flt hm).trans (h.flt hm)
  · exact (h'.thm hm).trans (h.thm hm)
  · exact (h'.pwr hm).trans (h.pwr hm)
  · exact (h'.otp hm).trans (h.otp hm)
  · exact (h'.jnl hm).trans (h.jnl hm)
  · exact (h'.att hm).trans (h.att hm)
  · exact (h'.bist hm).trans (h.bist hm)
  · exact (h'.mb hm).trans (h.mb hm)
  · exact (h'.rep hm).trans (h.rep hm)
  · exact (h'.gnt hm).trans (h.gnt hm)
  · exact (h'.tap hm).trans (h.tap hm)
  · exact (h'.image hm).trans (h.image hm)
  · exact (h'.ports hm).trans (h.ports hm)
  · exact (h'.chans hm).trans (h.chans hm)
  · exact (h'.pcs hm).trans (h.pcs hm)
  · exact (h'.slices hm).trans (h.slices hm)
  · exact (h'.layers hm).trans (h.layers hm)
  · exact (h'.pmc hm).trans (h.pmc hm)
  · exact (h'.mem hm).trans (h.mem hm)

/-- A wider mask. -/
theorem Fr.mono (h : Fr m s t) (hm : m ||| m' = m') : Fr m' s t := by
  have key : ∀ i, m'.testBit i = false → m.testBit i = false := by
    intro i hi
    have := congrArg (fun x => x.testBit i) hm
    simp only [Nat.testBit_or, hi, Bool.or_false] at this
    exact this
  constructor <;> intro hi
  · exact h.pending (key 0 hi)
  · exact h.now (key 1 hi)
  · exact h.choice (key 2 hi)
  · exact h.pwrgood (key 3 hi)
  · exact h.mode (key 4 hi)
  · exact h.holdCause (key 5 hi)
  · exact h.takeover (key 6 hi)
  · exact h.pins (key 7 hi)
  · exact h.boot (key 8 hi)
  · exact h.sup (key 9 hi)
  · exact h.flt (key 10 hi)
  · exact h.thm (key 11 hi)
  · exact h.pwr (key 12 hi)
  · exact h.otp (key 13 hi)
  · exact h.jnl (key 14 hi)
  · exact h.att (key 15 hi)
  · exact h.bist (key 16 hi)
  · exact h.mb (key 17 hi)
  · exact h.rep (key 18 hi)
  · exact h.gnt (key 19 hi)
  · exact h.tap (key 20 hi)
  · exact h.image (key 21 hi)
  · exact h.ports (key 22 hi)
  · exact h.chans (key 23 hi)
  · exact h.pcs (key 24 hi)
  · exact h.slices (key 25 hi)
  · exact h.layers (key 26 hi)
  · exact h.pmc (key 27 hi)
  · exact h.mem (key 28 hi)

/-- One more operation after those of `h`. -/
theorem Fr.step (h : Fr m t u) (hm : m ||| m' = m') (h0 : Fr m' s t) : Fr m' s u := h0.trans (h.mono hm)
theorem Fr.ite {c : Prop} [Decidable c] (h1 : Fr m s t) (h2 : Fr m s u) : Fr m s (if c then t else u) := by
  split <;> assumption
/-- A conditional operation: what it does follows from what stands in its other branch. -/
theorem Fr.iteT {c : Prop} [Decidable c] (h1 : Fr m u t) (h2 : Fr m s u) : Fr m s (if c then t else u) := by
  split
  · exact h2.trans h1
  · exact h2
theorem Fr.foldl {α : Type} {f : State → α → State} (h : ∀ t a, Fr m t (f t a)) (l : List α) (h0 : Fr m s t) :
    Fr m s (l.foldl f t) := by
  induction l generalizing t with
  | nil => exact h0
  | cons a l ih => exact ih (h0.trans (h t a))
theorem Fr.forL {α : Type} {f : α → State → State} (h : ∀ a t, Fr m t (f a t)) (l : List α) (h0 : Fr m s t) :
    Fr m s (forL l f t) := Fr.foldl (fun t a => h a t) l h0
theorem Fr.forN {f : Nat → State → State} (h : ∀ i t, Fr m t (f i t)) (n : Nat) (h0 : Fr m s t) : Fr m s (forN n f t) :=
  Fr.foldl (fun t a => h a t) (List.range n) h0
/-- A conditional operation whose first branch stands still. -/
theorem Fr.iteB {c : Prop} [Decidable c] (h1 : Fr m s t) (h2 : Fr m t u) : Fr m s (if c then t else u) := by
  split
  · exact h1
  · exact h1.trans h2
theorem Fr.foldlP {α β : Type} {f : State × β → α → State × β} (h : ∀ a x, Fr m a.1 (f a x).1) (l : List α) {a : State × β}
    (h0 : Fr m s a.1) : Fr m s (l.foldl f a).1 := by
  induction l generalizing a with
  | nil => exact h0
  | cons x l ih => exact ih (h0.trans (h a x))
theorem Fr.iteP {α : Type} {c : Prop} [Decidable c] {a b : State × α} (h1 : Fr m s a.1) (h2 : Fr m s b.1) :
    Fr m s (if c then a else b).1 := by
  split <;> assumption
/-- A record update of now. -/
theorem Fr.u2 {x1} (h0 : Fr m s t) (hm : 2 ||| m = m) : Fr m s (State.mk t.pending x1 t.choice t.pwrgood t.mode t.holdCause t.takeover t.pins t.boot t.sup t.flt t.thm t.pwr t.otp t.jnl t.att t.bist t.mb t.rep t.gnt t.tap t.image t.ports t.chans t.pcs t.slices t.layers t.pmc t.mem) :=
  h0.trans (Fr.mono (m := 2) ⟨fun _ => rfl, fun h => absurd h (by decide), fun _ => rfl, fun _ => rfl, fun _ => rfl, fun _ => rfl, fun _ => rfl, fun _ => rfl, fun _ => rfl, fun _ => rfl, fun _ => rfl, fun _ => rfl, fun _ => rfl, fun _ => rfl, fun _ => rfl, fun _ => rfl, fun _ => rfl, fun _ => rfl, fun _ => rfl, fun _ => rfl, fun _ => rfl, fun _ => rfl, fun _ => rfl, fun _ => rfl, fun _ => rfl, fun _ => rfl, fun _ => rfl, fun _ => rfl, fun _ => rfl⟩ hm)
/-- A record update of choice. -/
theorem Fr.u4 {x2} (h0 : Fr m s t) (hm : 4 ||| m = m) : Fr m s (State.mk t.pending t.now x2 t.pwrgood t.mode t.holdCause t.takeover t.pins t.boot t.sup t.flt t.thm t.pwr t.otp t.jnl t.att t.bist t.mb t.rep t.gnt t.tap t.image t.ports t.chans t.pcs t.slices t.layers t.pmc t.mem) :=
  h0.trans (Fr.mono (m := 4) ⟨fun _ => rfl, fun _ => rfl, fun h => absurd h (by decide), fun _ => rfl, fun _ => rfl, fun _ => rfl, fun _ => rfl, fun _ => rfl, fun _ => rfl, fun _ => rfl, fun _ => rfl, fun _ => rfl, fun _ => rfl, fun _ => rfl, fun _ => rfl, fun _ => rfl, fun _ => rfl, fun _ => rfl, fun _ => rfl, fun _ => rfl, fun _ => rfl, fun _ => rfl, fun _ => rfl, fun _ => rfl, fun _ => rfl, fun _ => rfl, fun _ => rfl, fun _ => rfl, fun _ => rfl⟩ hm)
/-- A record update of takeover. -/
theorem Fr.u64 {x6} (h0 : Fr m s t) (hm : 64 ||| m = m) : Fr m s (State.mk t.pending t.now t.choice t.pwrgood t.mode t.holdCause x6 t.pins t.boot t.sup t.flt t.thm t.pwr t.otp t.jnl t.att t.bist t.mb t.rep t.gnt t.tap t.image t.ports t.chans t.pcs t.slices t.layers t.pmc t.mem) :=
  h0.trans (Fr.mono (m := 64) ⟨fun _ => rfl, fun _ => rfl, fun _ => rfl, fun _ => rfl, fun _ => rfl, fun _ => rfl, fun h => absurd h (by decide), fun _ => rfl, fun _ => rfl, fun _ => rfl, fun _ => rfl, fun _ => rfl, fun _ => rfl, fun _ => rfl, fun _ => rfl, fun _ => rfl, fun _ => rfl, fun _ => rfl, fun _ => rfl, fun _ => rfl, fun _ => rfl, fun _ => rfl, fun _ => rfl, fun _ => rfl, fun _ => rfl, fun _ => rfl, fun _ => rfl, fun _ => rfl, fun _ => rfl⟩ hm)
/-- A record update of boot. -/
theorem Fr.u256 {x8} (h0 : Fr m s t) (hm : 256 ||| m = m) : Fr m s (State.mk t.pending t.now t.choice t.pwrgood t.mode t.holdCause t.takeover t.pins x8 t.sup t.flt t.thm t.pwr t.otp t.jnl t.att t.bist t.mb t.rep t.gnt t.tap t.image t.ports t.chans t.pcs t.slices t.layers t.pmc t.mem) :=
  h0.trans (Fr.mono (m := 256) ⟨fun _ => rfl, fun _ => rfl, fun _ => rfl, fun _ => rfl, fun _ => rfl, fun _ => rfl, fun _ => rfl, fun _ => rfl, fun h => absurd h (by decide), fun _ => rfl, fun _ => rfl, fun _ => rfl, fun _ => rfl, fun _ => rfl, fun _ => rfl, fun _ => rfl, fun _ => rfl, fun _ => rfl, fun _ => rfl, fun _ => rfl, fun _ => rfl, fun _ => rfl, fun _ => rfl, fun _ => rfl, fun _ => rfl, fun _ => rfl, fun _ => rfl, fun _ => rfl, fun _ => rfl⟩ hm)
/-- A record update of pins, boot. -/
theorem Fr.u384 {x7 x8} (h0 : Fr m s t) (hm : 384 ||| m = m) : Fr m s (State.mk t.pending t.now t.choice t.pwrgood t.mode t.holdCause t.takeover x7 x8 t.sup t.flt t.thm t.pwr t.otp t.jnl t.att t.bist t.mb t.rep t.gnt t.tap t.image t.ports t.chans t.pcs t.slices t.layers t.pmc t.mem) :=
  h0.trans (Fr.mono (m := 384) ⟨fun _ => rfl, fun _ => rfl, fun _ => rfl, fun _ => rfl, fun _ => rfl, fun _ => rfl, fun _ => rfl, fun h => absurd h (by decide), fun h => absurd h (by decide), fun _ => rfl, fun _ => rfl, fun _ => rfl, fun _ => rfl, fun _ => rfl, fun _ => rfl, fun _ => rfl, fun _ => rfl, fun _ => rfl, fun _ => rfl, fun _ => rfl, fun _ => rfl, fun _ => rfl, fun _ => rfl, fun _ => rfl, fun _ => rfl, fun _ => rfl, fun _ => rfl, fun _ => rfl, fun _ => rfl⟩ hm)
/-- A record update of sup. -/
theorem Fr.u512 {x9} (h0 : Fr m s t) (hm : 512 ||| m = m) : Fr m s (State.mk t.pending t.now t.choice t.pwrgood t.mode t.holdCause t.takeover t.pins t.boot x9 t.flt t.thm t.pwr t.otp t.jnl t.att t.bist t.mb t.rep t.gnt t.tap t.image t.ports t.chans t.pcs t.slices t.layers t.pmc t.mem) :=
  h0.trans (Fr.mono (m := 512) ⟨fun _ => rfl, fun _ => rfl, fun _ => rfl, fun _ => rfl, fun _ => rfl, fun _ => rfl, fun _ => rfl, fun _ => rfl, fun _ => rfl, fun h => absurd h (by decide), fun _ => rfl, fun _ => rfl, fun _ => rfl, fun _ => rfl, fun _ => rfl, fun _ => rfl, fun _ => rfl, fun _ => rfl, fun _ => rfl, fun _ => rfl, fun _ => rfl, fun _ => rfl, fun _ => rfl, fun _ => rfl, fun _ => rfl, fun _ => rfl, fun _ => rfl, fun _ => rfl, fun _ => rfl⟩ hm)
/-- A record update of flt. -/
theorem Fr.u1024 {x10} (h0 : Fr m s t) (hm : 1024 ||| m = m) : Fr m s (State.mk t.pending t.now t.choice t.pwrgood t.mode t.holdCause t.takeover t.pins t.boot t.sup x10 t.thm t.pwr t.otp t.jnl t.att t.bist t.mb t.rep t.gnt t.tap t.image t.ports t.chans t.pcs t.slices t.layers t.pmc t.mem) :=
  h0.trans (Fr.mono (m := 1024) ⟨fun _ => rfl, fun _ => rfl, fun _ => rfl, fun _ => rfl, fun _ => rfl, fun _ => rfl, fun _ => rfl, fun _ => rfl, fun _ => rfl, fun _ => rfl, fun h => absurd h (by decide), fun _ => rfl, fun _ => rfl, fun _ => rfl, fun _ => rfl, fun _ => rfl, fun _ => rfl, fun _ => rfl, fun _ => rfl, fun _ => rfl, fun _ => rfl, fun _ => rfl, fun _ => rfl, fun _ => rfl, fun _ => rfl, fun _ => rfl, fun _ => rfl, fun _ => rfl, fun _ => rfl⟩ hm)
/-- A record update of mode, holdCause, flt. -/
theorem Fr.u1072 {x4 x5 x10} (h0 : Fr m s t) (hm : 1072 ||| m = m) : Fr m s (State.mk t.pending t.now t.choice t.pwrgood x4 x5 t.takeover t.pins t.boot t.sup x10 t.thm t.pwr t.otp t.jnl t.att t.bist t.mb t.rep t.gnt t.tap t.image t.ports t.chans t.pcs t.slices t.layers t.pmc t.mem) :=
  h0.trans (Fr.mono (m := 1072) ⟨fun _ => rfl, fun _ => rfl, fun _ => rfl, fun _ => rfl, fun h => absurd h (by decide), fun h => absurd h (by decide), fun _ => rfl, fun _ => rfl, fun _ => rfl, fun _ => rfl, fun h => absurd h (by decide), fun _ => rfl, fun _ => rfl, fun _ => rfl, fun _ => rfl, fun _ => rfl, fun _ => rfl, fun _ => rfl, fun _ => rfl, fun _ => rfl, fun _ => rfl, fun _ => rfl, fun _ => rfl, fun _ => rfl, fun _ => rfl, fun _ => rfl, fun _ => rfl, fun _ => rfl, fun _ => rfl⟩ hm)
/-- A record update of thm. -/
theorem Fr.u2048 {x11} (h0 : Fr m s t) (hm : 2048 ||| m = m) : Fr m s (State.mk t.pending t.now t.choice t.pwrgood t.mode t.holdCause t.takeover t.pins t.boot t.sup t.flt x11 t.pwr t.otp t.jnl t.att t.bist t.mb t.rep t.gnt t.tap t.image t.ports t.chans t.pcs t.slices t.layers t.pmc t.mem) :=
  h0.trans (Fr.mono (m := 2048) ⟨fun _ => rfl, fun _ => rfl, fun _ => rfl, fun _ => rfl, fun _ => rfl, fun _ => rfl, fun _ => rfl, fun _ => rfl, fun _ => rfl, fun _ => rfl, fun _ => rfl, fun h => absurd h (by decide), fun _ => rfl, fun _ => rfl, fun _ => rfl, fun _ => rfl, fun _ => rfl, fun _ => rfl, fun _ => rfl, fun _ => rfl, fun _ => rfl, fun _ => rfl, fun _ => rfl, fun _ => rfl, fun _ => rfl, fun _ => rfl, fun _ => rfl, fun _ => rfl, fun _ => rfl⟩ hm)
/-- A record update of pins, sup, thm. -/
theorem Fr.u2688 {x7 x9 x11} (h0 : Fr m s t) (hm : 2688 ||| m = m) : Fr m s (State.mk t.pending t.now t.choice t.pwrgood t.mode t.holdCause t.takeover x7 t.boot x9 t.flt x11 t.pwr t.otp t.jnl t.att t.bist t.mb t.rep t.gnt t.tap t.image t.ports t.chans t.pcs t.slices t.layers t.pmc t.mem) :=
  h0.trans (Fr.mono (m := 2688) ⟨fun _ => rfl, fun _ => rfl, fun _ => rfl, fun _ => rfl, fun _ => rfl, fun _ => rfl, fun _ => rfl, fun h => absurd h (by decide), fun _ => rfl, fun h => absurd h (by decide), fun _ => rfl, fun h => absurd h (by decide), fun _ => rfl, fun _ => rfl, fun _ => rfl, fun _ => rfl, fun _ => rfl, fun _ => rfl, fun _ => rfl, fun _ => rfl, fun _ => rfl, fun _ => rfl, fun _ => rfl, fun _ => rfl, fun _ => rfl, fun _ => rfl, fun _ => rfl, fun _ => rfl, fun _ => rfl⟩ hm)
/-- A record update of pwr. -/
theorem Fr.u4096 {x12} (h0 : Fr m s t) (hm : 4096 ||| m = m) : Fr m s (State.mk t.pending t.now t.choice t.pwrgood t.mode t.holdCause t.takeover t.pins t.boot t.sup t.flt t.thm x12 t.otp t.jnl t.att t.bist t.mb t.rep t.gnt t.tap t.image t.ports t.chans t.pcs t.slices t.layers t.pmc t.mem) :=
  h0.trans (Fr.mono (m := 4096) ⟨fun _ => rfl, fun _ => rfl, fun _ => rfl, fun _ => rfl, fun _ => rfl, fun _ => rfl, fun _ => rfl, fun _ => rfl, fun _ => rfl, fun _ => rfl, fun _ => rfl, fun _ => rfl, fun h => absurd h (by decide), fun _ => rfl, fun _ => rfl, fun _ => rfl, fun _ => rfl, fun _ => rfl, fun _ => rfl, fun _ => rfl, fun _ => rfl, fun _ => rfl, fun _ => rfl, fun _ => rfl, fun _ => rfl, fun _ => rfl, fun _ => rfl, fun _ => rfl, fun _ => rfl⟩ hm)
/-- A record update of mode, pwr. -/
theorem Fr.u4112 {x4 x12} (h0 : Fr m s t) (hm : 4112 ||| m = m) : Fr m s (State.mk t.pending t.now t.choice t.pwrgood x4 t.holdCause t.takeover t.pins t.boot t.sup t.flt t.thm x12 t.otp t.jnl t.att t.bist t.mb t.rep t.gnt t.tap t.image t.ports t.chans t.pcs t.slices t.layers t.pmc t.mem) :=
  h0.trans (Fr.mono (m := 4112) ⟨fun _ => rfl, fun _ => rfl, fun _ => rfl, fun _ => rfl, fun h => absurd h (by decide), fun _ => rfl, fun _ => rfl, fun _ => rfl, fun _ => rfl, fun _ => rfl, fun _ => rfl, fun _ => rfl, fun h => absurd h (by decide), fun _ => rfl, fun _ => rfl, fun _ => rfl, fun _ => rfl, fun _ => rfl, fun _ => rfl, fun _ => rfl, fun _ => rfl, fun _ => rfl, fun _ => rfl, fun _ => rfl, fun _ => rfl, fun _ => rfl, fun _ => rfl, fun _ => rfl, fun _ => rfl⟩ hm)
/-- A record update of pins, pwr. -/
theorem Fr.u4224 {x7 x12} (h0 : Fr m s t) (hm : 4224 ||| m = m) : Fr m s (State.mk t.pending t.now t.choice t.pwrgood t.mode t.holdCause t.takeover x7 t.boot t.sup t.flt t.thm x12 t.otp t.jnl t.att t.bist t.mb t.rep t.gnt t.tap t.image t.ports t.chans t.pcs t.slices t.layers t.pmc t.mem) :=
  h0.trans (Fr.mono (m := 4224) ⟨fun _ => rfl, fun _ => rfl, fun _ => rfl, fun _ => rfl, fun _ => rfl, fun _ => rfl, fun _ => rfl, fun h => absurd h (by decide), fun _ => rfl, fun _ => rfl, fun _ => rfl, fun _ => rfl, fun h => absurd h (by decide), fun _ => rfl, fun _ => rfl, fun _ => rfl, fun _ => rfl, fun _ => rfl, fun _ => rfl, fun _ => rfl, fun _ => rfl, fun _ => rfl, fun _ => rfl, fun _ => rfl, fun _ => rfl, fun _ => rfl, fun _ => rfl, fun _ => rfl, fun _ => rfl⟩ hm)
/-- A record update of mode, boot, pwr. -/
theorem Fr.u4368 {x4 x8 x12} (h0 : Fr m s t) (hm : 4368 ||| m = m) : Fr m s (State.mk t.pending t.now t.choice t.pwrgood x4 t.holdCause t.takeover t.pins x8 t.sup t.flt t.thm x12 t.otp t.jnl t.att t.bist t.mb t.rep t.gnt t.tap t.image t.ports t.chans t.pcs t.slices t.layers t.pmc t.mem) :=
  h0.trans (Fr.mono (m := 4368) ⟨fun _ => rfl, fun _ => rfl, fun _ => rfl, fun _ => rfl, fun h => absurd h (by decide), fun _ => rfl, fun _ => rfl, fun _ => rfl, fun h => absurd h (by decide), fun _ => rfl, fun _ => rfl, fun _ => rfl, fun h => absurd h (by decide), fun _ => rfl, fun _ => rfl, fun _ => rfl, fun _ => rfl, fun _ => rfl, fun _ => rfl, fun _ => rfl, fun _ => rfl, fun _ => rfl, fun _ => rfl, fun _ => rfl, fun _ => rfl, fun _ => rfl, fun _ => rfl, fun _ => rfl, fun _ => rfl⟩ hm)
/-- A record update of sup, pwr. -/
theorem Fr.u4608 {x9 x12} (h0 : Fr m s t) (hm : 4608 ||| m = m) : Fr m s (State.mk t.pending t.now t.choice t.pwrgood t.mode t.holdCause t.takeover t.pins t.boot x9 t.flt t.thm x12 t.otp t.jnl t.att t.bist t.mb t.rep t.gnt t.tap t.image t.ports t.chans t.pcs t.slices t.layers t.pmc t.mem) :=
  h0.trans (Fr.mono (m := 4608) ⟨fun _ => rfl, fun _ => rfl, fun _ => rfl, fun _ => rfl, fun _ => rfl, fun _ => rfl, fun _ => rfl, fun _ => rfl, fun _ => rfl, fun h => absurd h (by decide), fun _ => rfl, fun _ => rfl, fun h => absurd h (by decide), fun _ => rfl, fun _ => rfl, fun _ => rfl, fun _ => rfl, fun _ => rfl, fun _ => rfl, fun _ => rfl, fun _ => rfl, fun _ => rfl, fun _ => rfl, fun _ => rfl, fun _ => rfl, fun _ => rfl, fun _ => rfl, fun _ => rfl, fun _ => rfl⟩ hm)
/-- A record update of pins, sup, pwr. -/
theorem Fr.u4736 {x7 x9 x12} (h0 : Fr m s t) (hm : 4736 ||| m = m) : Fr m s (State.mk t.pending t.now t.choice t.pwrgood t.mode t.holdCause t.takeover x7 t.boot x9 t.flt t.thm x12 t.otp t.jnl t.att t.bist t.mb t.rep t.gnt t.tap t.image t.ports t.chans t.pcs t.slices t.layers t.pmc t.mem) :=
  h0.trans (Fr.mono (m := 4736) ⟨fun _ => rfl, fun _ => rfl, fun _ => rfl, fun _ => rfl, fun _ => rfl, fun _ => rfl, fun _ => rfl, fun h => absurd h (by decide), fun _ => rfl, fun h => absurd h (by decide), fun _ => rfl, fun _ => rfl, fun h => absurd h (by decide), fun _ => rfl, fun _ => rfl, fun _ => rfl, fun _ => rfl, fun _ => rfl, fun _ => rfl, fun _ => rfl, fun _ => rfl, fun _ => rfl, fun _ => rfl, fun _ => rfl, fun _ => rfl, fun _ => rfl, fun _ => rfl, fun _ => rfl, fun _ => rfl⟩ hm)
/-- A record update of otp. -/
theorem Fr.u8192 {x13} (h0 : Fr m s t) (hm : 8192 ||| m = m) : Fr m s (State.mk t.pending t.now t.choice t.pwrgood t.mode t.holdCause t.takeover t.pins t.boot t.sup t.flt t.thm t.pwr x13 t.jnl t.att t.bist t.mb t.rep t.gnt t.tap t.image t.ports t.chans t.pcs t.slices t.layers t.pmc t.mem) :=
  h0.trans (Fr.mono (m := 8192) ⟨fun _ => rfl, fun _ => rfl, fun _ => rfl, fun _ => rfl, fun _ => rfl, fun _ => rfl, fun _ => rfl, fun _ => rfl, fun _ => rfl, fun _ => rfl, fun _ => rfl, fun _ => rfl, fun _ => rfl, fun h => absurd h (by decide), fun _ => rfl, fun _ => rfl, fun _ => rfl, fun _ => rfl, fun _ => rfl, fun _ => rfl, fun _ => rfl, fun _ => rfl, fun _ => rfl, fun _ => rfl, fun _ => rfl, fun _ => rfl, fun _ => rfl, fun _ => rfl, fun _ => rfl⟩ hm)
/-- A record update of thm, otp. -/
theorem Fr.u10240 {x11 x13} (h0 : Fr m s t) (hm : 10240 ||| m = m) : Fr m s (State.mk t.pending t.now t.choice t.pwrgood t.mode t.holdCause t.takeover t.pins t.boot t.sup t.flt x11 t.pwr x13 t.jnl t.att t.bist t.mb t.rep t.gnt t.tap t.image t.ports t.chans t.pcs t.slices t.layers t.pmc t.mem) :=
  h0.trans (Fr.mono (m := 10240) ⟨fun _ => rfl, fun _ => rfl, fun _ => rfl, fun _ => rfl, fun _ => rfl, fun _ => rfl, fun _ => rfl, fun _ => rfl, fun _ => rfl, fun _ => rfl, fun _ => rfl, fun h => absurd h (by decide), fun _ => rfl, fun h => absurd h (by decide), fun _ => rfl, fun _ => rfl, fun _ => rfl, fun _ => rfl, fun _ => rfl, fun _ => rfl, fun _ => rfl, fun _ => rfl, fun _ => rfl, fun _ => rfl, fun _ => rfl, fun _ => rfl, fun _ => rfl, fun _ => rfl, fun _ => rfl⟩ hm)
/-- A record update of jnl. -/
theorem Fr.u16384 {x14} (h0 : Fr m s t) (hm : 16384 ||| m = m) : Fr m s (State.mk t.pending t.now t.choice t.pwrgood t.mode t.holdCause t.takeover t.pins t.boot t.sup t.flt t.thm t.pwr t.otp x14 t.att t.bist t.mb t.rep t.gnt t.tap t.image t.ports t.chans t.pcs t.slices t.layers t.pmc t.mem) :=
  h0.trans (Fr.mono (m := 16384) ⟨fun _ => rfl, fun _ => rfl, fun _ => rfl, fun _ => rfl, fun _ => rfl, fun _ => rfl, fun _ => rfl, fun _ => rfl, fun _ => rfl, fun _ => rfl, fun _ => rfl, fun _ => rfl, fun _ => rfl, fun _ => rfl, fun h => absurd h (by decide), fun _ => rfl, fun _ => rfl, fun _ => rfl, fun _ => rfl, fun _ => rfl, fun _ => rfl, fun _ => rfl, fun _ => rfl, fun _ => rfl, fun _ => rfl, fun _ => rfl, fun _ => rfl, fun _ => rfl, fun _ => rfl⟩ hm)
/-- A record update of att. -/
theorem Fr.u32768 {x15} (h0 : Fr m s t) (hm : 32768 ||| m = m) : Fr m s (State.mk t.pending t.now t.choice t.pwrgood t.mode t.holdCause t.takeover t.pins t.boot t.sup t.flt t.thm t.pwr t.otp t.jnl x15 t.bist t.mb t.rep t.gnt t.tap t.image t.ports t.chans t.pcs t.slices t.layers t.pmc t.mem) :=
  h0.trans (Fr.mono (m := 32768) ⟨fun _ => rfl, fun _ => rfl, fun _ => rfl, fun _ => rfl, fun _ => rfl, fun _ => rfl, fun _ => rfl, fun _ => rfl, fun _ => rfl, fun _ => rfl, fun _ => rfl, fun _ => rfl, fun _ => rfl, fun _ => rfl, fun _ => rfl, fun h => absurd h (by decide), fun _ => rfl, fun _ => rfl, fun _ => rfl, fun _ => rfl, fun _ => rfl, fun _ => rfl, fun _ => rfl, fun _ => rfl, fun _ => rfl, fun _ => rfl, fun _ => rfl, fun _ => rfl, fun _ => rfl⟩ hm)
/-- A record update of bist. -/
theorem Fr.u65536 {x16} (h0 : Fr m s t) (hm : 65536 ||| m = m) : Fr m s (State.mk t.pending t.now t.choice t.pwrgood t.mode t.holdCause t.takeover t.pins t.boot t.sup t.flt t.thm t.pwr t.otp t.jnl t.att x16 t.mb t.rep t.gnt t.tap t.image t.ports t.chans t.pcs t.slices t.layers t.pmc t.mem) :=
  h0.trans (Fr.mono (m := 65536) ⟨fun _ => rfl, fun _ => rfl, fun _ => rfl, fun _ => rfl, fun _ => rfl, fun _ => rfl, fun _ => rfl, fun _ => rfl, fun _ => rfl, fun _ => rfl, fun _ => rfl, fun _ => rfl, fun _ => rfl, fun _ => rfl, fun _ => rfl, fun _ => rfl, fun h => absurd h (by decide), fun _ => rfl, fun _ => rfl, fun _ => rfl, fun _ => rfl, fun _ => rfl, fun _ => rfl, fun _ => rfl, fun _ => rfl, fun _ => rfl, fun _ => rfl, fun _ => rfl, fun _ => rfl⟩ hm)
/-- A record update of boot, bist. -/
theorem Fr.u65792 {x8 x16} (h0 : Fr m s t) (hm : 65792 ||| m = m) : Fr m s (State.mk t.pending t.now t.choice t.pwrgood t.mode t.holdCause t.takeover t.pins x8 t.sup t.flt t.thm t.pwr t.otp t.jnl t.att x16 t.mb t.rep t.gnt t.tap t.image t.ports t.chans t.pcs t.slices t.layers t.pmc t.mem) :=
  h0.trans (Fr.mono (m := 65792) ⟨fun _ => rfl, fun _ => rfl, fun _ => rfl, fun _ => rfl, fun _ => rfl, fun _ => rfl, fun _ => rfl, fun _ => rfl, fun h => absurd h (by decide), fun _ => rfl, fun _ => rfl, fun _ => rfl, fun _ => rfl, fun _ => rfl, fun _ => rfl, fun _ => rfl, fun h => absurd h (by decide), fun _ => rfl, fun _ => rfl, fun _ => rfl, fun _ => rfl, fun _ => rfl, fun _ => rfl, fun _ => rfl, fun _ => rfl, fun _ => rfl, fun _ => rfl, fun _ => rfl, fun _ => rfl⟩ hm)
/-- A record update of pwr, bist. -/
theorem Fr.u69632 {x12 x16} (h0 : Fr m s t) (hm : 69632 ||| m = m) : Fr m s (State.mk t.pending t.now t.choice t.pwrgood t.mode t.holdCause t.takeover t.pins t.boot t.sup t.flt t.thm x12 t.otp t.jnl t.att x16 t.mb t.rep t.gnt t.tap t.image t.ports t.chans t.pcs t.slices t.layers t.pmc t.mem) :=
  h0.trans (Fr.mono (m := 69632) ⟨fun _ => rfl, fun _ => rfl, fun _ => rfl, fun _ => rfl, fun _ => rfl, fun _ => rfl, fun _ => rfl, fun _ => rfl, fun _ => rfl, fun _ => rfl, fun _ => rfl, fun _ => rfl, fun h => absurd h (by decide), fun _ => rfl, fun _ => rfl, fun _ => rfl, fun h => absurd h (by decide), fun _ => rfl, fun _ => rfl, fun _ => rfl, fun _ => rfl, fun _ => rfl, fun _ => rfl, fun _ => rfl, fun _ => rfl, fun _ => rfl, fun _ => rfl, fun _ => rfl, fun _ => rfl⟩ hm)
/-- A record update of mode, holdCause, pins, boot, flt, pwr, bist. -/
theorem Fr.u71088 {x4 x5 x7 x8 x10 x12 x16} (h0 : Fr m s t) (hm : 71088 ||| m = m) : Fr m s (State.mk t.pending t.now t.choice t.pwrgood x4 x5 t.takeover x7 x8 t.sup x10 t.thm x12 t.otp t.jnl t.att x16 t.mb t.rep t.gnt t.tap t.image t.ports t.chans t.pcs t.slices t.layers t.pmc t.mem) :=
  h0.trans (Fr.mono (m := 71088) ⟨fun _ => rfl, fun _ => rfl, fun _ => rfl, fun _ => rfl, fun h => absurd h (by decide), fun h => absurd h (by decide), fun _ => rfl, fun h => absurd h (by decide), fun h => absurd h (by decide), fun _ => rfl, fun h => absurd h (by decide), fun _ => rfl, fun h => absurd h (by decide), fun _ => rfl, fun _ => rfl, fun _ => rfl, fun h => absurd h (by decide), fun _ => rfl, fun _ => rfl, fun _ => rfl, fun _ => rfl, fun _ => rfl, fun _ => rfl, fun _ => rfl, fun _ => rfl, fun _ => rfl, fun _ => rfl, fun _ => rfl, fun _ => rfl⟩ hm)
/-- A record update of mode, pins, boot, thm, pwr, bist. -/
theorem Fr.u72080 {x4 x7 x8 x11 x12 x16} (h0 : Fr m s t) (hm : 72080 ||| m = m) : Fr m s (State.mk t.pending t.now t.choice t.pwrgood x4 t.holdCause t.takeover x7 x8 t.sup t.flt x11 x12 t.otp t.jnl t.att x16 t.mb t.rep t.gnt t.tap t.image t.ports t.chans t.pcs t.slices t.layers t.pmc t.mem) :=
  h0.trans (Fr.mono (m := 72080) ⟨fun _ => rfl, fun _ => rfl, fun _ => rfl, fun _ => rfl, fun h => absurd h (by decide), fun _ => rfl, fun _ => rfl, fun h => absurd h (by decide), fun h => absurd h (by decide), fun _ => rfl, fun _ => rfl, fun h => absurd h (by decide), fun h => absurd h (by decide), fun _ => rfl, fun _ => rfl, fun _ => rfl, fun h => absurd h (by decide), fun _ => rfl, fun _ => rfl, fun _ => rfl, fun _ => rfl, fun _ => rfl, fun _ => rfl, fun _ => rfl, fun _ => rfl, fun _ => rfl, fun _ => rfl, fun _ => rfl, fun _ => rfl⟩ hm)
/-- A record update of mb. -/
theorem Fr.u131072 {x17} (h0 : Fr m s t) (hm : 131072 ||| m = m) : Fr m s (State.mk t.pending t.now t.choice t.pwrgood t.mode t.holdCause t.takeover t.pins t.boot t.sup t.flt t.thm t.pwr t.otp t.jnl t.att t.bist x17 t.rep t.gnt t.tap t.image t.ports t.chans t.pcs t.slices t.layers t.pmc t.mem) :=
  h0.trans (Fr.mono (m := 131072) ⟨fun _ => rfl, fun _ => rfl, fun _ => rfl, fun _ => rfl, fun _ => rfl, fun _ => rfl, fun _ => rfl, fun _ => rfl, fun _ => rfl, fun _ => rfl, fun _ => rfl, fun _ => rfl, fun _ => rfl, fun _ => rfl, fun _ => rfl, fun _ => rfl, fun _ => rfl, fun h => absurd h (by decide), fun _ => rfl, fun _ => rfl, fun _ => rfl, fun _ => rfl, fun _ => rfl, fun _ => rfl, fun _ => rfl, fun _ => rfl, fun _ => rfl, fun _ => rfl, fun _ => rfl⟩ hm)
/-- A record update of bist, mb. -/
theorem Fr.u196608 {x16 x17} (h0 : Fr m s t) (hm : 196608 ||| m = m) : Fr m s (State.mk t.pending t.now t.choice t.pwrgood t.mode t.holdCause t.takeover t.pins t.boot t.sup t.flt t.thm t.pwr t.otp t.jnl t.att x16 x17 t.rep t.gnt t.tap t.image t.ports t.chans t.pcs t.slices t.layers t.pmc t.mem) :=
  h0.trans (Fr.mono (m := 196608) ⟨fun _ => rfl, fun _ => rfl, fun _ => rfl, fun _ => rfl, fun _ => rfl, fun _ => rfl, fun _ => rfl, fun _ => rfl, fun _ => rfl, fun _ => rfl, fun _ => rfl, fun _ => rfl, fun _ => rfl, fun _ => rfl, fun _ => rfl, fun _ => rfl, fun h => absurd h (by decide), fun h => absurd h (by decide), fun _ => rfl, fun _ => rfl, fun _ => rfl, fun _ => rfl, fun _ => rfl, fun _ => rfl, fun _ => rfl, fun _ => rfl, fun _ => rfl, fun _ => rfl, fun _ => rfl⟩ hm)
/-- A record update of rep. -/
theorem Fr.u262144 {x18} (h0 : Fr m s t) (hm : 262144 ||| m = m) : Fr m s (State.mk t.pending t.now t.choice t.pwrgood t.mode t.holdCause t.takeover t.pins t.boot t.sup t.flt t.thm t.pwr t.otp t.jnl t.att t.bist t.mb x18 t.gnt t.tap t.image t.ports t.chans t.pcs t.slices t.layers t.pmc t.mem) :=
  h0.trans (Fr.mono (m := 262144) ⟨fun _ => rfl, fun _ => rfl, fun _ => rfl, fun _ => rfl, fun _ => rfl, fun _ => rfl, fun _ => rfl, fun _ => rfl, fun _ => rfl, fun _ => rfl, fun _ => rfl, fun _ => rfl, fun _ => rfl, fun _ => rfl, fun _ => rfl, fun _ => rfl, fun _ => rfl, fun _ => rfl, fun h => absurd h (by decide), fun _ => rfl, fun _ => rfl, fun _ => rfl, fun _ => rfl, fun _ => rfl, fun _ => rfl, fun _ => rfl, fun _ => rfl, fun _ => rfl, fun _ => rfl⟩ hm)
/-- A record update of boot, rep. -/
theorem Fr.u262400 {x8 x18} (h0 : Fr m s t) (hm : 262400 ||| m = m) : Fr m s (State.mk t.pending t.now t.choice t.pwrgood t.mode t.holdCause t.takeover t.pins x8 t.sup t.flt t.thm t.pwr t.otp t.jnl t.att t.bist t.mb x18 t.gnt t.tap t.image t.ports t.chans t.pcs t.slices t.layers t.pmc t.mem) :=
  h0.trans (Fr.mono (m := 262400) ⟨fun _ => rfl, fun _ => rfl, fun _ => rfl, fun _ => rfl, fun _ => rfl, fun _ => rfl, fun _ => rfl, fun _ => rfl, fun h => absurd h (by decide), fun _ => rfl, fun _ => rfl, fun _ => rfl, fun _ => rfl, fun _ => rfl, fun _ => rfl, fun _ => rfl, fun _ => rfl, fun _ => rfl, fun h => absurd h (by decide), fun _ => rfl, fun _ => rfl, fun _ => rfl, fun _ => rfl, fun _ => rfl, fun _ => rfl, fun _ => rfl, fun _ => rfl, fun _ => rfl, fun _ => rfl⟩ hm)
/-- A record update of gnt. -/
theorem Fr.u524288 {x19} (h0 : Fr m s t) (hm : 524288 ||| m = m) : Fr m s (State.mk t.pending t.now t.choice t.pwrgood t.mode t.holdCause t.takeover t.pins t.boot t.sup t.flt t.thm t.pwr t.otp t.jnl t.att t.bist t.mb t.rep x19 t.tap t.image t.ports t.chans t.pcs t.slices t.layers t.pmc t.mem) :=
  h0.trans (Fr.mono (m := 524288) ⟨fun _ => rfl, fun _ => rfl, fun _ => rfl, fun _ => rfl, fun _ => rfl, fun _ => rfl, fun _ => rfl, fun _ => rfl, fun _ => rfl, fun _ => rfl, fun _ => rfl, fun _ => rfl, fun _ => rfl, fun _ => rfl, fun _ => rfl, fun _ => rfl, fun _ => rfl, fun _ => rfl, fun _ => rfl, fun h => absurd h (by decide), fun _ => rfl, fun _ => rfl, fun _ => rfl, fun _ => rfl, fun _ => rfl, fun _ => rfl, fun _ => rfl, fun _ => rfl, fun _ => rfl⟩ hm)
/-- A record update of boot, gnt. -/
theorem Fr.u524544 {x8 x19} (h0 : Fr m s t) (hm : 524544 ||| m = m) : Fr m s (State.mk t.pending t.now t.choice t.pwrgood t.mode t.holdCause t.takeover t.pins x8 t.sup t.flt t.thm t.pwr t.otp t.jnl t.att t.bist t.mb t.rep x19 t.tap t.image t.ports t.chans t.pcs t.slices t.layers t.pmc t.mem) :=
  h0.trans (Fr.mono (m := 524544) ⟨fun _ => rfl, fun _ => rfl, fun _ => rfl, fun _ => rfl, fun _ => rfl, fun _ => rfl, fun _ => rfl, fun _ => rfl, fun h => absurd h (by decide), fun _ => rfl, fun _ => rfl, fun _ => rfl, fun _ => rfl, fun _ => rfl, fun _ => rfl, fun _ => rfl, fun _ => rfl, fun _ => rfl, fun _ => rfl, fun h => absurd h (by decide), fun _ => rfl, fun _ => rfl, fun _ => rfl, fun _ => rfl, fun _ => rfl, fun _ => rfl, fun _ => rfl, fun _ => rfl, fun _ => rfl⟩ hm)
/-- A record update of tap. -/
theorem Fr.u1048576 {x20} (h0 : Fr m s t) (hm : 1048576 ||| m = m) : Fr m s (State.mk t.pending t.now t.choice t.pwrgood t.mode t.holdCause t.takeover t.pins t.boot t.sup t.flt t.thm t.pwr t.otp t.jnl t.att t.bist t.mb t.rep t.gnt x20 t.image t.ports t.chans t.pcs t.slices t.layers t.pmc t.mem) :=
  h0.trans (Fr.mono (m := 1048576) ⟨fun _ => rfl, fun _ => rfl, fun _ => rfl, fun _ => rfl, fun _ => rfl, fun _ => rfl, fun _ => rfl, fun _ => rfl, fun _ => rfl, fun _ => rfl, fun _ => rfl, fun _ => rfl, fun _ => rfl, fun _ => rfl, fun _ => rfl, fun _ => rfl, fun _ => rfl, fun _ => rfl, fun _ => rfl, fun _ => rfl, fun h => absurd h (by decide), fun _ => rfl, fun _ => rfl, fun _ => rfl, fun _ => rfl, fun _ => rfl, fun _ => rfl, fun _ => rfl, fun _ => rfl⟩ hm)
/-- A record update of pins, tap. -/
theorem Fr.u1048704 {x7 x20} (h0 : Fr m s t) (hm : 1048704 ||| m = m) : Fr m s (State.mk t.pending t.now t.choice t.pwrgood t.mode t.holdCause t.takeover x7 t.boot t.sup t.flt t.thm t.pwr t.otp t.jnl t.att t.bist t.mb t.rep t.gnt x20 t.image t.ports t.chans t.pcs t.slices t.layers t.pmc t.mem) :=
  h0.trans (Fr.mono (m := 1048704) ⟨fun _ => rfl, fun _ => rfl, fun _ => rfl, fun _ => rfl, fun _ => rfl, fun _ => rfl, fun _ => rfl, fun h => absurd h (by decide), fun _ => rfl, fun _ => rfl, fun _ => rfl, fun _ => rfl, fun _ => rfl, fun _ => rfl, fun _ => rfl, fun _ => rfl, fun _ => rfl, fun _ => rfl, fun _ => rfl, fun _ => rfl, fun h => absurd h (by decide), fun _ => rfl, fun _ => rfl, fun _ => rfl, fun _ => rfl, fun _ => rfl, fun _ => rfl, fun _ => rfl, fun _ => rfl⟩ hm)
/-- A record update of thm, pwr, mb, rep, gnt, image. -/
theorem Fr.u3020800 {x11 x12 x17 x18 x19 x21} (h0 : Fr m s t) (hm : 3020800 ||| m = m) : Fr m s (State.mk t.pending t.now t.choice t.pwrgood t.mode t.holdCause t.takeover t.pins t.boot t.sup t.flt x11 x12 t.otp t.jnl t.att t.bist x17 x18 x19 t.tap x21 t.ports t.chans t.pcs t.slices t.layers t.pmc t.mem) :=
  h0.trans (Fr.mono (m := 3020800) ⟨fun _ => rfl, fun _ => rfl, fun _ => rfl, fun _ => rfl, fun _ => rfl, fun _ => rfl, fun _ => rfl, fun _ => rfl, fun _ => rfl, fun _ => rfl, fun _ => rfl, fun h => absurd h (by decide), fun h => absurd h (by decide), fun _ => rfl, fun _ => rfl, fun _ => rfl, fun _ => rfl, fun h => absurd h (by decide), fun h => absurd h (by decide), fun h => absurd h (by decide), fun _ => rfl, fun h => absurd h (by decide), fun _ => rfl, fun _ => rfl, fun _ => rfl, fun _ => rfl, fun _ => rfl, fun _ => rfl, fun _ => rfl⟩ hm)
/-- A record update of ports. -/
theorem Fr.u4194304 {x22} (h0 : Fr m s t) (hm : 4194304 ||| m = m) : Fr m s (State.mk t.pending t.now t.choice t.pwrgood t.mode t.holdCause t.takeover t.pins t.boot t.sup t.flt t.thm t.pwr t.otp t.jnl t.att t.bist t.mb t.rep t.gnt t.tap t.image x22 t.chans t.pcs t.slices t.layers t.pmc t.mem) :=
  h0.trans (Fr.mono (m := 4194304) ⟨fun _ => rfl, fun _ => rfl, fun _ => rfl, fun _ => rfl, fun _ => rfl, fun _ => rfl, fun _ => rfl, fun _ => rfl, fun _ => rfl, fun _ => rfl, fun _ => rfl, fun _ => rfl, fun _ => rfl, fun _ => rfl, fun _ => rfl, fun _ => rfl, fun _ => rfl, fun _ => rfl, fun _ => rfl, fun _ => rfl, fun _ => rfl, fun _ => rfl, fun h => absurd h (by decide), fun _ => rfl, fun _ => rfl, fun _ => rfl, fun _ => rfl, fun _ => rfl, fun _ => rfl⟩ hm)
/-- A record update of chans. -/
theorem Fr.u8388608 {x23} (h0 : Fr m s t) (hm : 8388608 ||| m = m) : Fr m s (State.mk t.pending t.now t.choice t.pwrgood t.mode t.holdCause t.takeover t.pins t.boot t.sup t.flt t.thm t.pwr t.otp t.jnl t.att t.bist t.mb t.rep t.gnt t.tap t.image t.ports x23 t.pcs t.slices t.layers t.pmc t.mem) :=
  h0.trans (Fr.mono (m := 8388608) ⟨fun _ => rfl, fun _ => rfl, fun _ => rfl, fun _ => rfl, fun _ => rfl, fun _ => rfl, fun _ => rfl, fun _ => rfl, fun _ => rfl, fun _ => rfl, fun _ => rfl, fun _ => rfl, fun _ => rfl, fun _ => rfl, fun _ => rfl, fun _ => rfl, fun _ => rfl, fun _ => rfl, fun _ => rfl, fun _ => rfl, fun _ => rfl, fun _ => rfl, fun _ => rfl, fun h => absurd h (by decide), fun _ => rfl, fun _ => rfl, fun _ => rfl, fun _ => rfl, fun _ => rfl⟩ hm)
/-- A record update of pcs. -/
theorem Fr.u16777216 {x24} (h0 : Fr m s t) (hm : 16777216 ||| m = m) : Fr m s (State.mk t.pending t.now t.choice t.pwrgood t.mode t.holdCause t.takeover t.pins t.boot t.sup t.flt t.thm t.pwr t.otp t.jnl t.att t.bist t.mb t.rep t.gnt t.tap t.image t.ports t.chans x24 t.slices t.layers t.pmc t.mem) :=
  h0.trans (Fr.mono (m := 16777216) ⟨fun _ => rfl, fun _ => rfl, fun _ => rfl, fun _ => rfl, fun _ => rfl, fun _ => rfl, fun _ => rfl, fun _ => rfl, fun _ => rfl, fun _ => rfl, fun _ => rfl, fun _ => rfl, fun _ => rfl, fun _ => rfl, fun _ => rfl, fun _ => rfl, fun _ => rfl, fun _ => rfl, fun _ => rfl, fun _ => rfl, fun _ => rfl, fun _ => rfl, fun _ => rfl, fun _ => rfl, fun h => absurd h (by decide), fun _ => rfl, fun _ => rfl, fun _ => rfl, fun _ => rfl⟩ hm)
/-- A record update of slices. -/
theorem Fr.u33554432 {x25} (h0 : Fr m s t) (hm : 33554432 ||| m = m) : Fr m s (State.mk t.pending t.now t.choice t.pwrgood t.mode t.holdCause t.takeover t.pins t.boot t.sup t.flt t.thm t.pwr t.otp t.jnl t.att t.bist t.mb t.rep t.gnt t.tap t.image t.ports t.chans t.pcs x25 t.layers t.pmc t.mem) :=
  h0.trans (Fr.mono (m := 33554432) ⟨fun _ => rfl, fun _ => rfl, fun _ => rfl, fun _ => rfl, fun _ => rfl, fun _ => rfl, fun _ => rfl, fun _ => rfl, fun _ => rfl, fun _ => rfl, fun _ => rfl, fun _ => rfl, fun _ => rfl, fun _ => rfl, fun _ => rfl, fun _ => rfl, fun _ => rfl, fun _ => rfl, fun _ => rfl, fun _ => rfl, fun _ => rfl, fun _ => rfl, fun _ => rfl, fun _ => rfl, fun _ => rfl, fun h => absurd h (by decide), fun _ => rfl, fun _ => rfl, fun _ => rfl⟩ hm)
/-- A record update of layers. -/
theorem Fr.u67108864 {x26} (h0 : Fr m s t) (hm : 67108864 ||| m = m) : Fr m s (State.mk t.pending t.now t.choice t.pwrgood t.mode t.holdCause t.takeover t.pins t.boot t.sup t.flt t.thm t.pwr t.otp t.jnl t.att t.bist t.mb t.rep t.gnt t.tap t.image t.ports t.chans t.pcs t.slices x26 t.pmc t.mem) :=
  h0.trans (Fr.mono (m := 67108864) ⟨fun _ => rfl, fun _ => rfl, fun _ => rfl, fun _ => rfl, fun _ => rfl, fun _ => rfl, fun _ => rfl, fun _ => rfl, fun _ => rfl, fun _ => rfl, fun _ => rfl, fun _ => rfl, fun _ => rfl, fun _ => rfl, fun _ => rfl, fun _ => rfl, fun _ => rfl, fun _ => rfl, fun _ => rfl, fun _ => rfl, fun _ => rfl, fun _ => rfl, fun _ => rfl, fun _ => rfl, fun _ => rfl, fun _ => rfl, fun h => absurd h (by decide), fun _ => rfl, fun _ => rfl⟩ hm)
/-- A record update of thm, layers. -/
theorem Fr.u67110912 {x11 x26} (h0 : Fr m s t) (hm : 67110912 ||| m = m) : Fr m s (State.mk t.pending t.now t.choice t.pwrgood t.mode t.holdCause t.takeover t.pins t.boot t.sup t.flt x11 t.pwr t.otp t.jnl t.att t.bist t.mb t.rep t.gnt t.tap t.image t.ports t.chans t.pcs t.slices x26 t.pmc t.mem) :=
  h0.trans (Fr.mono (m := 67110912) ⟨fun _ => rfl, fun _ => rfl, fun _ => rfl, fun _ => rfl, fun _ => rfl, fun _ => rfl, fun _ => rfl, fun _ => rfl, fun _ => rfl, fun _ => rfl, fun _ => rfl, fun h => absurd h (by decide), fun _ => rfl, fun _ => rfl, fun _ => rfl, fun _ => rfl, fun _ => rfl, fun _ => rfl, fun _ => rfl, fun _ => rfl, fun _ => rfl, fun _ => rfl, fun _ => rfl, fun _ => rfl, fun _ => rfl, fun _ => rfl, fun h => absurd h (by decide), fun _ => rfl, fun _ => rfl⟩ hm)
/-- A record update of pins, bist, layers. -/
theorem Fr.u67174528 {x7 x16 x26} (h0 : Fr m s t) (hm : 67174528 ||| m = m) : Fr m s (State.mk t.pending t.now t.choice t.pwrgood t.mode t.holdCause t.takeover x7 t.boot t.sup t.flt t.thm t.pwr t.otp t.jnl t.att x16 t.mb t.rep t.gnt t.tap t.image t.ports t.chans t.pcs t.slices x26 t.pmc t.mem) :=
  h0.trans (Fr.mono (m := 67174528) ⟨fun _ => rfl, fun _ => rfl, fun _ => rfl, fun _ => rfl, fun _ => rfl, fun _ => rfl, fun _ => rfl, fun h => absurd h (by decide), fun _ => rfl, fun _ => rfl, fun _ => rfl, fun _ => rfl, fun _ => rfl, fun _ => rfl, fun _ => rfl, fun _ => rfl, fun h => absurd h (by decide), fun _ => rfl, fun _ => rfl, fun _ => rfl, fun _ => rfl, fun _ => rfl, fun _ => rfl, fun _ => rfl, fun _ => rfl, fun _ => rfl, fun h => absurd h (by decide), fun _ => rfl, fun _ => rfl⟩ hm)
/-- A record update of pmc. -/
theorem Fr.u134217728 {x27} (h0 : Fr m s t) (hm : 134217728 ||| m = m) : Fr m s (State.mk t.pending t.now t.choice t.pwrgood t.mode t.holdCause t.takeover t.pins t.boot t.sup t.flt t.thm t.pwr t.otp t.jnl t.att t.bist t.mb t.rep t.gnt t.tap t.image t.ports t.chans t.pcs t.slices t.layers x27 t.mem) :=
  h0.trans (Fr.mono (m := 134217728) ⟨fun _ => rfl, fun _ => rfl, fun _ => rfl, fun _ => rfl, fun _ => rfl, fun _ => rfl, fun _ => rfl, fun _ => rfl, fun _ => rfl, fun _ => rfl, fun _ => rfl, fun _ => rfl, fun _ => rfl, fun _ => rfl, fun _ => rfl, fun _ => rfl, fun _ => rfl, fun _ => rfl, fun _ => rfl, fun _ => rfl, fun _ => rfl, fun _ => rfl, fun _ => rfl, fun _ => rfl, fun _ => rfl, fun _ => rfl, fun _ => rfl, fun h => absurd h (by decide), fun _ => rfl⟩ hm)
/-- A record update of mem. -/
theorem Fr.u268435456 {x28} (h0 : Fr m s t) (hm : 268435456 ||| m = m) : Fr m s (State.mk t.pending t.now t.choice t.pwrgood t.mode t.holdCause t.takeover t.pins t.boot t.sup t.flt t.thm t.pwr t.otp t.jnl t.att t.bist t.mb t.rep t.gnt t.tap t.image t.ports t.chans t.pcs t.slices t.layers t.pmc x28) :=
  h0.trans (Fr.mono (m := 268435456) ⟨fun _ => rfl, fun _ => rfl, fun _ => rfl, fun _ => rfl, fun _ => rfl, fun _ => rfl, fun _ => rfl, fun _ => rfl, fun _ => rfl, fun _ => rfl, fun _ => rfl, fun _ => rfl, fun _ => rfl, fun _ => rfl, fun _ => rfl, fun _ => rfl, fun _ => rfl, fun _ => rfl, fun _ => rfl, fun _ => rfl, fun _ => rfl, fun _ => rfl, fun _ => rfl, fun _ => rfl, fun _ => rfl, fun _ => rfl, fun _ => rfl, fun _ => rfl, fun h => absurd h (by decide)⟩ hm)
/-- A record update of slices, mem. -/
theorem Fr.u301989888 {x25 x28} (h0 : Fr m s t) (hm : 301989888 ||| m = m) : Fr m s (State.mk t.pending t.now t.choice t.pwrgood t.mode t.holdCause t.takeover t.pins t.boot t.sup t.flt t.thm t.pwr t.otp t.jnl t.att t.bist t.mb t.rep t.gnt t.tap t.image t.ports t.chans t.pcs x25 t.layers t.pmc x28) :=
  h0.trans (Fr.mono (m := 301989888) ⟨fun _ => rfl, fun _ => rfl, fun _ => rfl, fun _ => rfl, fun _ => rfl, fun _ => rfl, fun _ => rfl, fun _ => rfl, fun _ => rfl, fun _ => rfl, fun _ => rfl, fun _ => rfl, fun _ => rfl, fun _ => rfl, fun _ => rfl, fun _ => rfl, fun _ => rfl, fun _ => rfl, fun _ => rfl, fun _ => rfl, fun _ => rfl, fun _ => rfl, fun _ => rfl, fun _ => rfl, fun _ => rfl, fun h => absurd h (by decide), fun _ => rfl, fun _ => rfl, fun h => absurd h (by decide)⟩ hm)

theorem State.setRank_fr (s : State) (q : ℕ) (r : ℕ) (e : RankEnt) : Fr 262144 s (State.setRank s q r e) := by
  unfold State.setRank
  exact (Fr.u262144 (Fr.refl _ _) (by decide))

theorem State.updChan_fr (s : State) (n : ℕ) (f : Channel → Channel) : Fr 8388608 s (State.updChan s n f) := by
  unfold State.updChan
  exact (Fr.u8388608 (Fr.refl _ _) (by decide))

theorem queueRecord_fr (j : JQueued) (s : State) : Fr 16384 s (queueRecord j s) := by
  unfold queueRecord
  exact (Fr.iteB (Fr.refl _ _) (Fr.ite (Fr.u16384 (Fr.refl _ _) (by decide)) (Fr.u16384 (Fr.refl _ _) (by decide))))

theorem State.setBank_fr (s : State) (q : ℕ) (r : ℕ) (b : ℕ) (e : BankEnt) : Fr 262144 s (State.setBank s q r b e) := by
  unfold State.setBank
  exact (Fr.u262144 (Fr.refl _ _) (by decide))

theorem State.updCset_fr (s : State) (i : ℕ) (f : CounterSet → CounterSet) : Fr 134217728 s (State.updCset s i f) := by
  unfold State.updCset
  exact (Fr.u134217728 (Fr.refl _ _) (by decide))

theorem queueResult_fr (s : State) : Fr 16384 s (queueResult s) := by
  unfold queueResult
  exact (Fr.step (queueRecord_fr _ _) (by decide) (Fr.refl _ _))

theorem State.updPc_fr (s : State) (q : ℕ) (f : Pc → Pc) : Fr 16777216 s (State.updPc s q f) := by
  unfold State.updPc
  exact (Fr.u16777216 (Fr.refl _ _) (by decide))

theorem State.updPort_fr (s : State) (p : ℕ) (f : Port → Port) : Fr 4194304 s (State.updPort s p f) := by
  unfold State.updPort
  exact (Fr.u4194304 (Fr.refl _ _) (by decide))

theorem State.updSlice_fr (s : State) (q : ℕ) (k : ℕ) (f : Slice → Slice) : Fr 33554432 s (State.updSlice s q k f) := by
  unfold State.updSlice
  exact (Fr.u33554432 (Fr.refl _ _) (by decide))

theorem stopTest_fr (s : State) : Fr 81920 s (stopTest s) := by
  unfold stopTest
  exact (Fr.iteT (Fr.step (queueResult_fr _) (by decide) (Fr.u65536 (Fr.refl _ _) (by decide))) (Fr.refl _ _))

theorem State.updLayer_fr (s : State) (k : ℕ) (f : Layer → Layer) : Fr 67108864 s (State.updLayer s k f) := by
  unfold State.updLayer
  exact (Fr.u67108864 (Fr.refl _ _) (by decide))

theorem State.atLeast_fr (s : State) (t : ℕ) : Fr 2 s (State.atLeast s t) := by
  unfold State.atLeast
  exact (Fr.u2 (Fr.refl _ _) (by decide))

theorem pmcCount_fr (i : ℕ) (code : ℕ) (n : ℕ) (s : State) : Fr 134217728 s (pmcCount i code n s) := by
  unfold pmcCount
  exact (Fr.iteB (Fr.refl _ _) (Fr.step (State.updCset_fr _ _ _) (by decide) (Fr.refl _ _)))

theorem State.writeByte_fr (s : State) (a : ℕ) (v : Byte) : Fr 268435456 s (State.writeByte s a v) := by
  unfold State.writeByte
  exact (Fr.u268435456 (Fr.refl _ _) (by decide))

theorem State.writeBytes_fr (s : State) (y1 : ℕ) (y2 : ℕ) (y3 : ℕ) : Fr 268435456 s (State.writeBytes s y1 y2 y3) := by
  induction y1 generalizing s y2 y3 with
  | zero => exact Fr.refl _ _
  | succ n ih => exact (State.writeByte_fr s _ _).trans (ih _ _ _)

theorem State.storeBlock_fr (s : State) (key : ℕ) (b : ℕ) (d : Block) (c : BitVec 64) : Fr 268435456 s (State.storeBlock s key b d c) := by
  unfold State.storeBlock
  exact (Fr.step (State.writeBytes_fr _ _ _ _) (by decide) (Fr.step (State.writeBytes_fr _ _ _ _) (by decide) (Fr.refl _ _)))

theorem State.storeCuff_fr (s : State) (key : ℕ) (c : Block) : Fr 268435456 s (State.storeCuff s key c) := by
  unfold State.storeCuff
  exact (Fr.step (State.writeBytes_fr _ _ _ _) (by decide) (Fr.refl _ _))

theorem State.putBlock_fr (s : State) (key : ℕ) (b : ℕ) (x : (Block × BitVec 64) × Block × BitVec 64) : Fr 268435456 s (State.putBlock s key b x) := by
  unfold State.putBlock
  exact (Fr.step (State.storeCuff_fr _ _ _) (by decide) (Fr.step (State.storeBlock_fr _ _ _ _ _) (by decide) (Fr.refl _ _)))

theorem State.storeRow_fr (s : State) (key : ℕ) (r : Row) : Fr 268435456 s (State.storeRow s key r) := by
  unfold State.storeRow
  exact (Fr.step (State.storeCuff_fr _ _ _) (by decide) (Fr.forN (fun _ _ => (Fr.step (State.storeBlock_fr _ _ _ _ _) (by decide) (Fr.refl _ _))) _ (Fr.refl _ _)))

theorem State.writeBlock_fr (s : State) (key : ℕ) (b : ℕ) (mask : BitVec 64) (d : Block) : Fr 268435456 s (State.writeBlock s key b mask d).1 := by
  unfold State.writeBlock
  exact (by (try dsimp only); exact (Fr.iteP (by (try dsimp only); exact (Fr.refl _ _)) (by (try dsimp only); exact (Fr.step (State.putBlock_fr _ _ _ _) (by decide) (Fr.refl _ _)))))

theorem State.setCell_fr (s : State) (key : ℕ) (c : CellChange) : Fr 268435456 s (State.setCell s key c) := by
  unfold State.setCell
  exact (Fr.step (State.writeByte_fr _ _ _) (by decide) (Fr.refl _ _))

theorem State.setCells_fr (s : State) (key : ℕ) (l : List CellChange) : Fr 268435456 s (State.setCells s key l) := by
  unfold State.setCells
  exact (Fr.foldl (fun _ _ => (Fr.step (State.setCell_fr _ _ _) (by decide) (Fr.refl _ _))) _ (Fr.refl _ _))

theorem State.updSrc_fr (s : State) (n : ℕ) (f : Source → Source) : Fr 1024 s (State.updSrc s n f) := by
  unfold State.updSrc
  exact (Fr.u1024 (Fr.refl _ _) (by decide))

theorem attend_fr (s : State) : Fr 131072 s (attend s) := by
  unfold attend
  exact (Fr.iteT (Fr.u131072 (Fr.refl _ _) (by decide)) (Fr.refl _ _))

theorem setAlert_fr (m : BitVec 5) (s : State) : Fr 132096 s (setAlert m s) := by
  unfold setAlert
  exact (Fr.iteB (Fr.refl _ _) (Fr.step (attend_fr _) (by decide) (Fr.u1024 (Fr.refl _ _) (by decide))))

theorem logRecord_fr (src : ℕ) (cls : ℕ) (forced : Bool) (reacted : Bool) (record : ℕ) (detail : ℕ) (s : State) : Fr 148480 s (logRecord src cls forced reacted record detail s) := by
  unfold logRecord
  exact (Fr.step (queueRecord_fr _ _) (by decide) (Fr.iteT (Fr.step (setAlert_fr _ _) (by decide) (Fr.refl _ _)) (Fr.u1024 (Fr.refl _ _) (by decide))))

theorem sendNotice_fr (p : ℕ) (src : ℕ) (cls : ℕ) (win : ℕ) (s : State) : Fr 4326400 s (sendNotice p src cls win s) := by
  unfold sendNotice
  exact (Fr.iteT (Fr.iteT (Fr.step (setAlert_fr _ _) (by decide) (Fr.refl _ _)) (Fr.step (State.updPort_fr _ _ _) (by decide) (Fr.refl _ _))) (Fr.refl _ _))

theorem noticeRank_fr (src : ℕ) (cls : ℕ) (r : ℕ) (s : State) : Fr 4326400 s (noticeRank src cls r s) := by
  unfold noticeRank
  exact (Fr.forN (fun _ _ => (by (try dsimp only); split <;> (try dsimp only); exact (Fr.step (sendNotice_fr _ _ _ _ _) (by decide) (Fr.refl _ _)); exact (Fr.refl _ _))) _ (Fr.refl _ _))

theorem notices_fr (src : ℕ) (d : EventDetail) (s : State) : Fr 4326400 s (notices src d s) := by
  unfold notices
  exact (Fr.ite (Fr.step (sendNotice_fr _ _ _ _ _) (by decide) (Fr.refl _ _)) (Fr.ite (by (try dsimp only); split <;> (try dsimp only); exact (Fr.step (noticeRank_fr _ _ _ _) (by decide) (Fr.refl _ _)); exact (Fr.forN (fun _ _ => (Fr.iteT (Fr.step (sendNotice_fr _ _ _ _ _) (by decide) (Fr.refl _ _)) (Fr.refl _ _))) _ (Fr.refl _ _))) (Fr.ite (Fr.forN (fun _ _ => (by (try dsimp only); split <;> (try dsimp only); exact (Fr.step (sendNotice_fr _ _ _ _ _) (by decide) (Fr.refl _ _)); exact (Fr.refl _ _))) _ (Fr.refl _ _)) (Fr.forN (fun _ _ => (Fr.step (sendNotice_fr _ _ _ _ _) (by decide) (Fr.refl _ _))) _ (Fr.refl _ _)))))

theorem fencePort_fr (p : ℕ) (s : State) : Fr 4194304 s (fencePort p s) := by
  unfold fencePort
  exact (Fr.step (State.updPort_fr _ _ _) (by decide) (Fr.refl _ _))

theorem askRepair_fr (r : RepairReq) (s : State) : Fr 262656 s (askRepair r s) := by
  unfold askRepair
  exact (Fr.ite (Fr.u512 (Fr.refl _ _) (by decide)) (Fr.u262144 (Fr.refl _ _) (by decide)))

theorem repairReactions_fr (src : ℕ) (d : EventDetail) (s : State) : Fr 262656 s (repairReactions src d s) := by
  unfold repairReactions
  extract_lets re s1
  have h1 : Fr 262656 s s1 := by
    dsimp only [s1]
    split
    · split
      · exact askRepair_fr _ _
      · exact (Fr.refl _ _)
    · exact (Fr.refl _ _)
  split
  · split
    · split
      · exact Fr.step (askRepair_fr _ _) (by decide) h1
      · exact h1
    · split
      · exact Fr.step (askRepair_fr _ _) (by decide) h1
      · exact h1
  · exact h1

theorem supRestart_fr (s : State) : Fr 512 s (supRestart s) := by
  unfold supRestart
  exact (Fr.iteB (Fr.refl _ _) (Fr.u512 (Fr.refl _ _) (by decide)))

theorem reactions_fr (src : ℕ) (d : EventDetail) (forced : Bool) (record : ℕ) (s : State) : Fr 4605440 s (reactions src d forced record s) := by
  unfold reactions
  exact (Fr.iteT (Fr.step (supRestart_fr _) (by decide) (Fr.refl _ _)) (Fr.step (repairReactions_fr _ _ _) (by decide) (Fr.iteT (Fr.step (fencePort_fr _ _) (by decide) (Fr.refl _ _)) (Fr.iteT (Fr.step (notices_fr _ _ _) (by decide) (Fr.refl _ _)) (Fr.iteT (Fr.step (setAlert_fr _ _) (by decide) (Fr.refl _ _)) (Fr.iteT (Fr.step (logRecord_fr _ _ _ _ _ _ _) (by decide) (Fr.refl _ _)) (Fr.refl _ _)))))))

theorem layersOff_fr (s : State) : Fr 67108864 s (layersOff s) := by
  unfold layersOff
  exact (Fr.u67108864 (Fr.refl _ _) (by decide))

theorem stopMemory_fr (s : State) : Fr 318767104 s (stopMemory s) := by
  unfold stopMemory
  exact (Fr.u301989888 (Fr.forN (fun _ _ => (Fr.iteB (Fr.refl _ _) (Fr.step (State.updPc_fr _ _ _) (by decide) (Fr.refl _ _)))) _ (Fr.refl _ _)) (by decide))

theorem linksDown_fr (s : State) : Fr 4194304 s (linksDown s) := by
  unfold linksDown
  exact (Fr.forN (fun _ _ => (Fr.iteB (Fr.refl _ _) (Fr.step (State.updPort_fr _ _ _) (by decide) (Fr.refl _ _)))) _ (Fr.refl _ _))

theorem enterHold_fr (cause : ℕ) (s : State) : Fr 390157744 s (enterHold cause s) := by
  unfold enterHold
  exact (Fr.iteB (Fr.refl _ _) (Fr.u71088 (Fr.step (stopTest_fr _) (by decide) (Fr.step (layersOff_fr _) (by decide) (Fr.step (stopMemory_fr _) (by decide) (Fr.step (linksDown_fr _) (by decide) (Fr.refl _ _))))) (by decide)))

theorem setGrave_fr (src : ℕ) (forced : Bool) (cause : ℕ) (s : State) : Fr 390288816 s (setGrave src forced cause s) := by
  unfold setGrave
  exact (Fr.step (enterHold_fr _ _) (by decide) (Fr.forN (fun _ _ => (Fr.iteT (Fr.step (State.updPort_fr _ _ _) (by decide) (Fr.refl _ _)) (Fr.refl _ _))) _ (Fr.step (setAlert_fr _ _) (by decide) (Fr.iteB (Fr.refl _ _) (Fr.u1024 (Fr.refl _ _) (by decide))))))

theorem holdReaction_fr (src : ℕ) (d : EventDetail) (forced : Bool) (s : State) : Fr 390288816 s (holdReaction src d forced s) := by
  unfold holdReaction
  exact (Fr.iteT (Fr.step (setGrave_fr _ _ _ _) (by decide) (Fr.step (logRecord_fr _ _ _ _ _ _ _) (by decide) (Fr.step (State.updSrc_fr _ _ _) (by decide) (Fr.refl _ _)))) (Fr.refl _ _))

theorem escalate_fr (src : ℕ) (d : EventDetail) (forced : Bool) (s : State) : Fr 390551472 s (escalate src d forced s) := by
  unfold escalate
  exact (Fr.ite (Fr.step (setGrave_fr _ _ _ _) (by decide) (Fr.step (reactions_fr _ _ _ _ _) (by decide) (Fr.step (State.updSrc_fr _ _ _) (by decide) (Fr.refl _ _)))) (Fr.step (holdReaction_fr _ _ _ _) (by decide) (Fr.step (reactions_fr _ _ _ _ _) (by decide) (Fr.step (State.updSrc_fr _ _ _) (by decide) (Fr.refl _ _)))))

theorem latchGrave_fr (src : ℕ) (d : EventDetail) (forced : Bool) (cause : ℕ) (s : State) : Fr 390288816 s (latchGrave src d forced cause s) := by
  unfold latchGrave
  exact (Fr.step (setGrave_fr _ _ _ _) (by decide) (Fr.iteB (Fr.refl _ _) (Fr.step (logRecord_fr _ _ _ _ _ _ _) (by decide) (Fr.refl _ _))))

theorem registerEvent_fr (src : ℕ) (d : EventDetail) (forced : Bool) (s : State) : Fr 390551472 s (registerEvent src d forced s).1 := by
  unfold registerEvent
  split
  · exact (Fr.refl _ _)
  · extract_lets t r x s1 s2
    have h1 : Fr 390551472 s s1 := Fr.step (State.updSrc_fr _ _ _) (by decide) (Fr.refl _ _)
    have h2 : Fr 390551472 s s2 := by
      dsimp only [s2]
      split
      · exact Fr.step (setAlert_fr _ _) (by decide) h1
      · exact h1
    clear_value s2
    split
    · dsimp only
      exact Fr.step (State.updSrc_fr _ _ _) (by decide) (Fr.refl _ _)
    · split
      · dsimp only
        exact Fr.step (escalate_fr _ _ _ _) (by decide) h2
      · split
        · dsimp only
          exact Fr.step (latchGrave_fr _ _ _ _ _) (by decide) h2
        · exact h2

theorem stopPc_fr (q : ℕ) (s : State) : Fr 17039360 s (stopPc q s) := by
  unfold stopPc
  exact (Fr.forN (fun _ _ => (Fr.iteT (Fr.step (State.setRank_fr _ _ _ _) (by decide) (Fr.refl _ _)) (Fr.refl _ _))) _ (Fr.step (State.updPc_fr _ _ _) (by decide) (Fr.refl _ _)))

theorem checkMinimum_fr (s : State) : Fr 390551472 s (checkMinimum s) := by
  unfold checkMinimum
  exact (Fr.iteB (Fr.refl _ _) (Fr.ite (Fr.step (enterHold_fr _ _) (by decide) (Fr.refl _ _)) (Fr.iteT (Fr.step (latchGrave_fr _ _ _ _ _) (by decide) (Fr.step (registerEvent_fr _ _ _ _) (by decide) (Fr.refl _ _))) (Fr.refl _ _))))

theorem pairLoss_fr (i : ℕ) (s : State) : Fr 398940080 s (pairLoss i s) := by
  unfold pairLoss
  exact (Fr.step (checkMinimum_fr _) (by decide) (Fr.forN (fun _ _ => (Fr.iteT (Fr.step (sendNotice_fr _ _ _ _ _) (by decide) (Fr.refl _ _)) (Fr.refl _ _))) _ (Fr.u262144 (Fr.step (registerEvent_fr _ _ _ _) (by decide) (Fr.step (registerEvent_fr _ _ _ _) (by decide) (Fr.forL (fun _ _ => (Fr.step (logRecord_fr _ _ _ _ _ _ _) (by decide) (Fr.refl _ _))) _ (Fr.forL (fun _ _ => (Fr.step (stopPc_fr _ _) (by decide) (Fr.refl _ _))) _ (Fr.step (State.updChan_fr _ _ _) (by decide) (Fr.step (State.updChan_fr _ _ _) (by decide) (Fr.refl _ _))))))) (by decide))))

theorem shrinkCause_fr (c : ℕ) (s : State) : Fr 524288 s (shrinkCause c s) := by
  unfold shrinkCause
  exact (Fr.u524288 (Fr.refl _ _) (by decide))

theorem raiseOnly_fr (src : ℕ) (c : ℕ) (d : EventDetail) (cause : ℕ) (s : State) : Fr 390551472 s (raiseOnly src c d cause s) := by
  unfold raiseOnly
  exact (Fr.ite (Fr.iteT (Fr.step (latchGrave_fr _ _ _ _ _) (by decide) (Fr.refl _ _)) (Fr.refl _ _)) (Fr.ite (Fr.step (setGrave_fr _ _ _ _) (by decide) (Fr.step (reactions_fr _ _ _ _ _) (by decide) (Fr.step (State.updSrc_fr _ _ _) (by decide) (Fr.refl _ _)))) (Fr.step (holdReaction_fr _ _ _ _) (by decide) (Fr.step (reactions_fr _ _ _ _ _) (by decide) (Fr.step (State.updSrc_fr _ _ _) (by decide) (Fr.refl _ _))))))

theorem takeover_fr (n : ℕ) (src : ℕ) (s : State) : Fr 399464432 s (takeover n src s) := by
  unfold takeover
  exact (Fr.iteB (Fr.refl _ _) (Fr.ite (Fr.step (pairLoss_fr _ _) (by decide) (Fr.refl _ _)) (Fr.step (raiseOnly_fr _ _ _ _ _) (by decide) (Fr.step (shrinkCause_fr _ _) (by decide) (Fr.u64 (Fr.step (State.updChan_fr _ _ _) (by decide) (Fr.step (State.updChan_fr _ _ _) (by decide) (Fr.refl _ _))) (by decide))))))

theorem gloveReaction_fr (src : ℕ) (s : State) : Fr 399464432 s (gloveReaction src s) := by
  unfold gloveReaction
  exact (Fr.iteT (Fr.iteT (Fr.step (takeover_fr _ _ _) (by decide) (Fr.refl _ _)) (Fr.refl _ _)) (Fr.refl _ _))

theorem layerEntry_fr (k : ℕ) (d : EventDetail) (s : State) : Fr 262656 s (layerEntry k d s) := by
  unfold layerEntry
  exact (by (try dsimp only); split <;> (try dsimp only); exact (Fr.refl _ _); exact (by (try dsimp only); split <;> (try dsimp only); exact (Fr.step (askRepair_fr _ _) (by decide) (Fr.u262144 (Fr.refl _ _) (by decide))); exact (Fr.step (askRepair_fr _ _) (by decide) (Fr.u262144 (Fr.refl _ _) (by decide))); exact (Fr.step (askRepair_fr _ _) (by decide) (Fr.u262144 (Fr.refl _ _) (by decide))); exact (Fr.u262144 (Fr.refl _ _) (by decide))))

theorem perEvent_fr (src : ℕ) (d : EventDetail) (s : State) : Fr 399464432 s (perEvent src d s) := by
  unfold perEvent
  exact (Fr.ite (Fr.step (supRestart_fr _) (by decide) (Fr.refl _ _)) (Fr.ite (by (try dsimp only); split <;> (try dsimp only); exact (Fr.step (State.updPc_fr _ _ _) (by decide) (Fr.refl _ _)); exact (Fr.step (State.updPc_fr _ _ _) (by decide) (Fr.refl _ _)); exact (Fr.step (takeover_fr _ _ _) (by decide) (Fr.refl _ _)); exact (Fr.step (takeover_fr _ _ _) (by decide) (Fr.refl _ _)); exact (Fr.refl _ _)) (Fr.iteT (Fr.step (layerEntry_fr _ _ _) (by decide) (Fr.refl _ _)) (Fr.refl _ _))))

theorem fault_fr (src : ℕ) (d : EventDetail) (s : State) : Fr 399464432 s (fault src d s) := by
  unfold fault
  exact (Fr.ite (Fr.iteT (Fr.ite (Fr.u1024 (Fr.refl _ _) (by decide)) (Fr.u1024 (Fr.refl _ _) (by decide))) (Fr.refl _ _)) (Fr.iteT (Fr.step (perEvent_fr _ _ _) (by decide) (Fr.refl _ _)) (Fr.iteT (Fr.step (gloveReaction_fr _ _) (by decide) (Fr.refl _ _)) (Fr.step (registerEvent_fr _ _ _ _) (by decide) (Fr.refl _ _)))))

theorem faultMany_fr (src : ℕ) (n : ℕ) (d : EventDetail) (s : State) : Fr 399464432 s (faultMany src n d s) := by
  unfold faultMany
  exact (Fr.iteB (Fr.refl _ _) (Fr.step (State.updSrc_fr _ _ _) (by decide) (Fr.step (fault_fr _ _ _) (by decide) (Fr.refl _ _))))

theorem raiseFault_fr (src : ℕ) (c : ℕ) (d : EventDetail) (cause : ℕ) (s : State) : Fr 399464432 s (raiseFault src c d cause s) := by
  unfold raiseFault
  exact (Fr.iteB (Fr.refl _ _) (Fr.ite (Fr.step (perEvent_fr _ _ _) (by decide) (Fr.step (gloveReaction_fr _ _) (by decide) (Fr.step (raiseOnly_fr _ _ _ _ _) (by decide) (Fr.step (State.updSrc_fr _ _ _) (by decide) (Fr.refl _ _))))) (Fr.iteT (Fr.step (latchGrave_fr _ _ _ _ _) (by decide) (Fr.refl _ _)) (Fr.step (fault_fr _ _ _) (by decide) (Fr.refl _ _)))))

theorem answerMgmt_fr (p : ℕ) (tag : ℕ) (st : Status) (data : List Byte) (s : State) : Fr 4194304 s (answerMgmt p tag st data s) := by
  unfold answerMgmt
  exact (Fr.step (State.updPort_fr _ _ _) (by decide) (Fr.refl _ _))

theorem touch_fr (s : State) : Fr 524288 s (touch s) := by
  unfold touch
  exact (Fr.u524288 (Fr.refl _ _) (by decide))

theorem refuseReq_fr (p : ℕ) (r : Req) (st : Status) (s : State) : Fr 4194304 s (refuseReq p r st s) := by
  unfold refuseReq
  exact (Fr.step (State.updPort_fr _ _ _) (by decide) (Fr.refl _ _))

theorem holdReq_fr (p : ℕ) (tag : ℕ) (why : Hold) (s : State) : Fr 138412032 s (holdReq p tag why s) := by
  unfold holdReq
  exact (Fr.ite (Fr.refl _ _) (by (try dsimp only); split <;> (try dsimp only); exact (Fr.step (pmcCount_fr _ _ _ _) (by decide) (Fr.step (State.updPort_fr _ _ _) (by decide) (Fr.refl _ _))); exact (Fr.step (pmcCount_fr _ _ _ _) (by decide) (Fr.step (pmcCount_fr _ _ _ _) (by decide) (Fr.step (State.updPort_fr _ _ _) (by decide) (Fr.refl _ _)))); exact (Fr.step (pmcCount_fr _ _ _ _) (by decide) (Fr.step (pmcCount_fr _ _ _ _) (by decide) (Fr.step (State.updPort_fr _ _ _) (by decide) (Fr.refl _ _)))); exact (Fr.step (pmcCount_fr _ _ _ _) (by decide) (Fr.step (pmcCount_fr _ _ _ _) (by decide) (Fr.step (State.updPort_fr _ _ _) (by decide) (Fr.refl _ _)))); exact (Fr.step (pmcCount_fr _ _ _ _) (by decide) (Fr.step (pmcCount_fr _ _ _ _) (by decide) (Fr.step (State.updPort_fr _ _ _) (by decide) (Fr.refl _ _)))); exact (Fr.step (pmcCount_fr _ _ _ _) (by decide) (Fr.step (pmcCount_fr _ _ _ _) (by decide) (Fr.step (State.updPort_fr _ _ _) (by decide) (Fr.refl _ _))))))

theorem latchSeg_fr (p : ℕ) (r : Req) (cls : Cls) (start : Option ℕ) (bound : ℕ) (promoted : ℕ) (serial : ℕ) (h : Seg × ℕ) (s : State) : Fr 16777216 s (latchSeg p r cls start bound promoted serial h s) := by
  unfold latchSeg
  exact (Fr.step (State.updPc_fr _ _ _) (by decide) (Fr.refl _ _))

theorem latchReq_fr (p : ℕ) (r : Req) (cls : Cls) (shed : Bool) (starts : List (Option ℕ)) (bound : ℕ) (promoted : ℕ) (s : State) : Fr 155713536 s (latchReq p r cls shed starts bound promoted s) := by
  unfold latchReq
  exact (Fr.iteT (Fr.forL (fun _ _ => (Fr.step (pmcCount_fr _ _ _ _) (by decide) (Fr.refl _ _))) _ (Fr.refl _ _)) (Fr.step (pmcCount_fr _ _ _ _) (by decide) (Fr.step (State.updPort_fr _ _ _) (by decide) (Fr.forL (fun _ _ => (Fr.step (latchSeg_fr _ _ _ _ _ _ _ _ _) (by decide) (Fr.refl _ _))) _ (Fr.step (touch_fr _) (by decide) (Fr.u524288 (Fr.refl _ _) (by decide)))))))

theorem examine_fr (p : ℕ) (tag : ℕ) (s : State) : Fr 155713536 s (examine p tag s).1 := by
  unfold examine
  exact (by (try dsimp only); split <;> (try dsimp only); exact (Fr.refl _ _); exact (by (try dsimp only); split <;> (try dsimp only); exact (Fr.step (refuseReq_fr _ _ _ _) (by decide) (Fr.step (State.updPort_fr _ _ _) (by decide) (Fr.refl _ _))); exact (Fr.step (refuseReq_fr _ _ _ _) (by decide) (Fr.step (State.updPort_fr _ _ _) (by decide) (Fr.refl _ _))); exact (Fr.step (holdReq_fr _ _ _ _) (by decide) (Fr.step (State.updPort_fr _ _ _) (by decide) (Fr.refl _ _))); exact (Fr.step (latchReq_fr _ _ _ _ _ _ _ _) (by decide) (Fr.refl _ _))))

theorem reexamine_fr (p : ℕ) (s : State) : Fr 155713536 s (reexamine p s) := by
  unfold reexamine
  exact (Fr.forL (fun _ _ => (Fr.step (examine_fr _ _ _) (by decide) (Fr.refl _ _))) _ (Fr.step (State.updPort_fr _ _ _) (by decide) (Fr.refl _ _)))

theorem abandonEntry_fr (result : ℕ) (block : ℕ) (s : State) : Fr 70272 s (abandonEntry result block s) := by
  unfold abandonEntry
  exact (by (try dsimp only); split <;> (try dsimp only); exact (Fr.refl _ _); exact (Fr.iteT (Fr.iteT (Fr.u4736 (Fr.refl _ _) (by decide)) (Fr.u65536 (Fr.refl _ _) (by decide))) (Fr.u4096 (Fr.refl _ _) (by decide))))

theorem mapSlices_fr (f : ℕ → ℕ → Slice → Slice) (s : State) : Fr 33554432 s (mapSlices f s) := by
  unfold mapSlices
  exact (Fr.u33554432 (Fr.refl _ _) (by decide))

theorem leaveSelfRefresh_fr (s : State) : Fr 50331648 s (leaveSelfRefresh s) := by
  unfold leaveSelfRefresh
  exact (Fr.step (mapSlices_fr _ _) (by decide) (Fr.forN (fun _ _ => (Fr.iteB (Fr.refl _ _) (Fr.step (State.updPc_fr _ _ _) (by decide) (Fr.refl _ _)))) _ (Fr.refl _ _)))

theorem leaveTo_fr (m : ℕ) (s : State) : Fr 50335744 s (leaveTo m s) := by
  unfold leaveTo
  exact (Fr.iteT (Fr.step (mapSlices_fr _ _) (by decide) (Fr.refl _ _)) (Fr.iteT (Fr.step (leaveSelfRefresh_fr _) (by decide) (Fr.refl _ _)) (Fr.u4096 (Fr.refl _ _) (by decide))))

theorem startSelfTest_fr (trigger : ℕ) (parts : List ℕ) (s : State) : Fr 65536 s (startSelfTest trigger parts s) := by
  unfold startSelfTest
  exact (Fr.u65536 (Fr.refl _ _) (by decide))

theorem startEntry_fr (target : ℕ) (s : State) : Fr 70272 s (startEntry target s) := by
  unfold startEntry
  exact (Fr.ite (Fr.refl _ _) (by dsimp only; split; exact (Fr.step (abandonEntry_fr _ _ _) (by decide) (Fr.u4096 (Fr.refl _ _) (by decide))); exact (Fr.ite (Fr.step (startSelfTest_fr _ _ _) (by decide) (Fr.ite (Fr.u4736 (Fr.refl _ _) (by decide)) (Fr.u4096 (Fr.refl _ _) (by decide)))) (Fr.u4096 (Fr.refl _ _) (by decide)))))

theorem settleRung_fr (s : State) : Fr 50401920 s (settleRung s) := by
  unfold settleRung
  exact (Fr.ite (Fr.refl _ _) (Fr.ite (Fr.step (leaveTo_fr _ _) (by decide) (Fr.u4096 (by (try dsimp only); split <;> (try dsimp only); exact (Fr.iteT (Fr.step (abandonEntry_fr _ _ _) (by decide) (Fr.refl _ _)) (Fr.refl _ _)); exact (Fr.refl _ _)) (by decide))) (Fr.iteB (Fr.u4096 (by (try dsimp only); split <;> (try dsimp only); exact (Fr.iteT (Fr.step (abandonEntry_fr _ _ _) (by decide) (Fr.refl _ _)) (Fr.refl _ _)); exact (Fr.refl _ _)) (by decide)) (Fr.ite (Fr.u4096 (Fr.refl _ _) (by decide)) (Fr.iteB (Fr.refl _ _) (Fr.step (startEntry_fr _ _) (by decide) (Fr.refl _ _)))))))

theorem portActive_fr (p : ℕ) (s : State) : Fr 54596224 s (portActive p s) := by
  unfold portActive
  exact (Fr.step (settleRung_fr _) (by decide) (Fr.ite (by (try dsimp only); split <;> (try dsimp only); exact (Fr.iteT (Fr.step (abandonEntry_fr _ _ _) (by decide) (Fr.refl _ _)) (Fr.iteT (Fr.u4096 (Fr.refl _ _) (by decide)) (Fr.step (State.updPort_fr _ _ _) (by decide) (Fr.refl _ _)))); exact (Fr.iteT (Fr.u4096 (Fr.refl _ _) (by decide)) (Fr.step (State.updPort_fr _ _ _) (by decide) (Fr.refl _ _)))) (Fr.iteT (Fr.u4096 (Fr.refl _ _) (by decide)) (Fr.step (State.updPort_fr _ _ _) (by decide) (Fr.refl _ _)))))

theorem attStart_fr (s : State) : Fr 399497200 s (attStart s) := by
  unfold attStart
  exact (Fr.iteT (Fr.step (raiseFault_fr _ _ _ _ _) (by decide) (Fr.refl _ _)) (Fr.iteT (Fr.step (fault_fr _ _ _) (by decide) (Fr.refl _ _)) (Fr.u32768 (Fr.refl _ _) (by decide))))

theorem portsOff_fr (s : State) : Fr 20987904 s (portsOff s) := by
  unfold portsOff
  exact (Fr.step (queueRecord_fr _ _) (by decide) (Fr.forN (fun _ _ => (Fr.iteB (Fr.refl _ _) (Fr.step (State.updPc_fr _ _ _) (by decide) (Fr.refl _ _)))) _ (Fr.forN (fun _ _ => (Fr.iteB (Fr.refl _ _) (Fr.step (State.updPort_fr _ _ _) (by decide) (Fr.refl _ _)))) _ (Fr.refl _ _))))

theorem shutdownAdvance_fr (s : State) : Fr 323043328 s (shutdownAdvance s) := by
  unfold shutdownAdvance
  exact (Fr.iteT (Fr.step (startSelfTest_fr _ _ _) (by decide) (Fr.u65536 (Fr.step (stopMemory_fr _) (by decide) (Fr.refl _ _)) (by decide))) (Fr.iteT (Fr.u65536 (Fr.step (portsOff_fr _) (by decide) (Fr.refl _ _)) (by decide)) (Fr.refl _ _)))

theorem retainEntry_fr (s : State) : Fr 70288 s (retainEntry s) := by
  unfold retainEntry
  exact (Fr.iteB (Fr.refl _ _) (Fr.ite (Fr.step (startEntry_fr _ _) (by decide) (Fr.u4112 (Fr.refl _ _) (by decide))) (Fr.u4096 (Fr.u4112 (Fr.refl _ _) (by decide)) (by decide))))

theorem moveRetain_fr (idle : Bool) (skip : Bool) (s : State) : Fr 70272 s (moveRetain idle skip s) := by
  unfold moveRetain
  exact (Fr.iteB (Fr.refl _ _) (Fr.ite (Fr.step (startEntry_fr _ _) (by decide) (Fr.u4096 (Fr.refl _ _) (by decide))) (Fr.u4096 (Fr.u4096 (Fr.refl _ _) (by decide)) (by decide))))

theorem startShutdown_fr (trigger : ℕ) (s : State) : Fr 323048064 s (startShutdown trigger s) := by
  unfold startShutdown
  exact (Fr.ite (Fr.iteT (Fr.u65536 (Fr.refl _ _) (by decide)) (Fr.refl _ _)) (Fr.ite (Fr.u65536 (Fr.step (stopMemory_fr _) (by decide) (Fr.step (portsOff_fr _) (by decide) (Fr.u69632 (by (try dsimp only); split <;> (try dsimp only); exact (Fr.step (abandonEntry_fr _ _ _) (by decide) (Fr.refl _ _)); exact (Fr.refl _ _)) (by decide)))) (by decide)) (Fr.step (shutdownAdvance_fr _) (by decide) (Fr.u65536 (Fr.u69632 (by (try dsimp only); split <;> (try dsimp only); exact (Fr.step (abandonEntry_fr _ _ _) (by decide) (Fr.refl _ _)); exact (Fr.refl _ _)) (by decide)) (by decide)))))

theorem requestArrives_fr (p : ℕ) (s : State) : Fr 54596224 s (requestArrives p s) := by
  unfold requestArrives
  exact (by (try dsimp only); split <;> (try dsimp only); exact (Fr.iteT (Fr.step (abandonEntry_fr _ _ _) (by decide) (Fr.refl _ _)) (Fr.iteB (Fr.refl _ _) (Fr.step (portActive_fr _ _) (by decide) (Fr.refl _ _)))); exact (Fr.iteB (Fr.refl _ _) (Fr.step (portActive_fr _ _) (by decide) (Fr.refl _ _))))

theorem backToService_fr (s : State) : Fr 50418320 s (backToService s) := by
  unfold backToService
  exact (Fr.ite (Fr.refl _ _) (Fr.step (settleRung_fr _) (by decide) (Fr.step (queueRecord_fr _ _) (by decide) (Fr.u4112 (by (try dsimp only); split <;> (try dsimp only); exact (Fr.step (abandonEntry_fr _ _ _) (by decide) (Fr.refl _ _)); exact (Fr.refl _ _)) (by decide)))))

theorem eraseSlices_fr (f : ℕ → Bool) (s : State) : Fr 268435456 s (eraseSlices f s) := by
  unfold eraseSlices
  exact (Fr.u268435456 (Fr.refl _ _) (by decide))

theorem pinShutdown_fr (s : State) : Fr 323048064 s (pinShutdown s) := by
  unfold pinShutdown
  exact (Fr.iteT (Fr.step (startShutdown_fr _ _) (by decide) (Fr.refl _ _)) (Fr.refl _ _))

theorem serviceEntry_fr (s : State) : Fr 533714928 s (serviceEntry s) := by
  unfold serviceEntry
  exact (Fr.iteB (Fr.refl _ _) (Fr.step (settleRung_fr _) (by decide) (Fr.step (attStart_fr _) (by decide) (Fr.step (queueRecord_fr _ _) (by decide) (Fr.u4368 (Fr.forN (fun _ _ => (Fr.step (State.updCset_fr _ _ _) (by decide) (Fr.refl _ _))) _ (Fr.forN (fun _ _ => (Fr.iteT (Fr.step (State.updPort_fr _ _ _) (by decide) (Fr.refl _ _)) (Fr.refl _ _))) _ (Fr.refl _ _))) (by decide))))))

theorem shutdownDone_fr (s : State) : Fr 67174528 s (shutdownDone s) := by
  unfold shutdownDone
  exact (Fr.u67174528 (Fr.refl _ _) (by decide))

theorem enterSelfRefresh_fr (s : State) : Fr 33554432 s (enterSelfRefresh s) := by
  unfold enterSelfRefresh
  exact (Fr.step (mapSlices_fr _ _) (by decide) (Fr.refl _ _))

theorem noteHeld_fr (p : ℕ) (s : State) : Fr 4194304 s (noteHeld p s) := by
  unfold noteHeld
  exact (Fr.step (State.updPort_fr _ _ _) (by decide) (Fr.refl _ _))

theorem attemptFailed_fr (p : ℕ) (s : State) : Fr 399464432 s (attemptFailed p s) := by
  unfold attemptFailed
  exact (Fr.step (settleRung_fr _) (by decide) (Fr.step (fault_fr _ _ _) (by decide) (Fr.step (State.updPort_fr _ _ _) (by decide) (Fr.refl _ _))))

theorem doDown_fr (p : ℕ) (level : Bool) (s : State) : Fr 54596224 s (doDown p level s) := by
  unfold doDown
  exact (Fr.ite (Fr.step (settleRung_fr _) (by decide) (Fr.step (State.updPort_fr _ _ _) (by decide) (Fr.refl _ _))) (Fr.iteT (Fr.step (State.updPort_fr _ _ _) (by decide) (Fr.refl _ _)) (Fr.refl _ _)))

theorem sendLink_fr (p : ℕ) (m : Msg) (s : State) : Fr 4194304 s (sendLink p m s) := by
  unfold sendLink
  exact (Fr.step (State.updPort_fr _ _ _) (by decide) (Fr.refl _ _))

theorem startRetrain_fr (p : ℕ) (cause : ℕ) (partner : Bool) (theirs : Bool) (s : State) : Fr 54596224 s (startRetrain p cause partner theirs s) := by
  unfold startRetrain
  exact (Fr.step (noteHeld_fr _ _) (by decide) (Fr.step (settleRung_fr _) (by decide) (Fr.step (State.updPort_fr _ _ _) (by decide) (Fr.refl _ _))))

theorem failLanes_fr (p : ℕ) (lanes : BitVec 4) (s : State) : Fr 399464432 s (failLanes p lanes s) := by
  unfold failLanes
  exact (Fr.iteT (Fr.ite (Fr.step (fault_fr _ _ _) (by decide) (Fr.step (State.updPort_fr _ _ _) (by decide) (Fr.refl _ _))) (by (try dsimp only); split <;> (try dsimp only); exact (Fr.step (State.updPort_fr _ _ _) (by decide) (Fr.step (sendLink_fr _ _ _) (by decide) (Fr.step (fault_fr _ _ _) (by decide) (Fr.step (State.updPort_fr _ _ _) (by decide) (Fr.refl _ _))))); exact (Fr.step (startRetrain_fr _ _ _ _ _) (by decide) (Fr.step (fault_fr _ _ _) (by decide) (Fr.step (State.updPort_fr _ _ _) (by decide) (Fr.refl _ _)))))) (Fr.refl _ _))

theorem doRetrain_fr (p : ℕ) (s : State) : Fr 54596224 s (doRetrain p s) := by
  unfold doRetrain
  exact (by (try dsimp only); split <;> (try dsimp only); exact (Fr.ite (Fr.step (State.updPort_fr _ _ _) (by decide) (Fr.refl _ _)) (Fr.step (startRetrain_fr _ _ _ _ _) (by decide) (Fr.refl _ _))); exact (Fr.step (State.updPort_fr _ _ _) (by decide) (Fr.refl _ _)); exact (Fr.step (State.updPort_fr _ _ _) (by decide) (Fr.refl _ _)); exact (Fr.step (State.updPort_fr _ _ _) (by decide) (Fr.refl _ _)); exact (Fr.step (State.updPort_fr _ _ _) (by decide) (Fr.refl _ _)); exact (Fr.refl _ _))

theorem countPrbs_fr (p : ℕ) (lanes : BitVec 4) (errors : List ℕ) (s : State) : Fr 4194304 s (countPrbs p lanes errors s) := by
  unfold countPrbs
  exact (Fr.forN (fun _ _ => (Fr.iteT (Fr.step (State.updPort_fr _ _ _) (by decide) (Fr.refl _ _)) (Fr.refl _ _))) _ (Fr.refl _ _))

theorem sendCap_fr (p : ℕ) (last : BitVec 128) (s : State) : Fr 4194304 s (sendCap p last s) := by
  unfold sendCap
  exact (Fr.step (State.updPort_fr _ _ _) (by decide) (Fr.refl _ _))

theorem endSymlock_fr (p : ℕ) (found : List LaneFound) (s : State) : Fr 399464432 s (endSymlock p found s) := by
  unfold endSymlock
  exact (Fr.ite (Fr.step (attemptFailed_fr _ _) (by decide) (Fr.refl _ _)) (Fr.step (sendCap_fr _ _ _) (by decide) (Fr.step (State.updPort_fr _ _ _) (by decide) (Fr.forL (fun _ _ => (Fr.step (State.updPort_fr _ _ _) (by decide) (Fr.refl _ _))) _ (Fr.refl _ _)))))

theorem liftFence_fr (p : ℕ) (s : State) : Fr 4194304 s (liftFence p s) := by
  unfold liftFence
  exact (Fr.step (State.updPort_fr _ _ _) (by decide) (Fr.refl _ _))

theorem partnerLift_fr (p : ℕ) (s : State) : Fr 4194304 s (partnerLift p s) := by
  unfold partnerLift
  exact (Fr.iteT (Fr.step (liftFence_fr _ _) (by decide) (Fr.refl _ _)) (Fr.refl _ _))

theorem portShrink_fr (p : ℕ) (raised : Bool) (s : State) : Fr 399464432 s (portShrink p raised s) := by
  unfold portShrink
  exact (Fr.iteT (Fr.ite (Fr.step (raiseOnly_fr _ _ _ _ _) (by decide) (Fr.step (shrinkCause_fr _ _) (by decide) (Fr.step (State.updPort_fr _ _ _) (by decide) (Fr.refl _ _)))) (Fr.step (raiseFault_fr _ _ _ _ _) (by decide) (Fr.step (shrinkCause_fr _ _) (by decide) (Fr.step (State.updPort_fr _ _ _) (by decide) (Fr.refl _ _))))) (Fr.refl _ _))

theorem startResync_fr (p : ℕ) (reason : ℕ) (s : State) : Fr 4194304 s (startResync p reason s) := by
  unfold startResync
  exact (Fr.step (noteHeld_fr _ _) (by decide) (Fr.step (sendLink_fr _ _ _) (by decide) (Fr.step (State.updPort_fr _ _ _) (by decide) (Fr.refl _ _))))

theorem applyWidth_fr (p : ℕ) (w : ℕ) (lanes : BitVec 4) (s : State) : Fr 399464432 s (applyWidth p w lanes s) := by
  unfold applyWidth
  exact (Fr.iteT (Fr.step (startRetrain_fr _ _ _ _ _) (by decide) (Fr.refl _ _)) (Fr.step (portShrink_fr _ _ _) (by decide) (Fr.step (State.updPort_fr _ _ _) (by decide) (Fr.refl _ _))))

theorem beginSession_fr (p : ℕ) (s : State) : Fr 4194304 s (beginSession p s) := by
  unfold beginSession
  exact (Fr.step (sendLink_fr _ _ _) (by decide) (Fr.step (State.updPort_fr _ _ _) (by decide) (Fr.refl _ _)))

theorem goActive_fr (p : ℕ) (w : ℕ) (lanes : BitVec 4) (f : ℕ) (role : ℕ) (s : State) : Fr 533714928 s (goActive p w lanes f role s) := by
  unfold goActive
  exact (Fr.iteT (Fr.step (pinShutdown_fr _) (by decide) (Fr.step (serviceEntry_fr _) (by decide) (Fr.u256 (Fr.refl _ _) (by decide)))) (Fr.step (settleRung_fr _) (by decide) (Fr.step (portShrink_fr _ _ _) (by decide) (Fr.step (noteHeld_fr _ _) (by decide) (Fr.ite (Fr.step (startResync_fr _ _ _) (by decide) (Fr.forN (fun _ _ => (Fr.iteT (Fr.step (State.updPort_fr _ _ _) (by decide) (Fr.refl _ _)) (Fr.refl _ _))) _ (Fr.step (State.updPort_fr _ _ _) (by decide) (Fr.refl _ _)))) (Fr.step (beginSession_fr _ _) (by decide) (Fr.forN (fun _ _ => (Fr.iteT (Fr.step (State.updPort_fr _ _ _) (by decide) (Fr.refl _ _)) (Fr.refl _ _))) _ (Fr.step (State.updPort_fr _ _ _) (by decide) (Fr.refl _ _)))))))))

theorem recordWake_fr (code : ℕ) (starts : Bool) (s : State) : Fr 4096 s (recordWake code starts s) := by
  unfold recordWake
  exact (Fr.iteT (Fr.u4096 (Fr.refl _ _) (by decide)) (Fr.u4096 (Fr.refl _ _) (by decide)))

theorem startExit_fr (code : ℕ) (service : Bool) (s : State) : Fr 4224 s (startExit code service s) := by
  unfold startExit
  exact (Fr.u4224 (Fr.step (recordWake_fr _ _ _) (by decide) (Fr.refl _ _)) (by decide))

theorem wakeEvent_fr (code : ℕ) (service : Bool) (s : State) : Fr 50418320 s (wakeEvent code service s) := by
  unfold wakeEvent
  exact (Fr.iteB (Fr.refl _ _) (Fr.ite (Fr.step (recordWake_fr _ _ _) (by decide) (Fr.refl _ _)) (Fr.ite (Fr.ite (Fr.step (backToService_fr _) (by decide) (Fr.step (recordWake_fr _ _ _) (by decide) (Fr.refl _ _))) (by (try dsimp only); split <;> (try dsimp only); exact (Fr.step (abandonEntry_fr _ _ _) (by decide) (Fr.step (recordWake_fr _ _ _) (by decide) (Fr.refl _ _))); exact (Fr.step (recordWake_fr _ _ _) (by decide) (Fr.refl _ _)))) (Fr.step (startExit_fr _ _ _) (by decide) (by (try dsimp only); split <;> (try dsimp only); exact (Fr.step (abandonEntry_fr _ _ _) (by decide) (Fr.refl _ _)); exact (Fr.refl _ _))))))

theorem setLink_fr (p : ℕ) (l : Link) (s : State) : Fr 4194304 s (setLink p l s) := by
  unfold setLink
  exact (Fr.step (State.updPort_fr _ _ _) (by decide) (Fr.refl _ _))

theorem doLoop_fr (p : ℕ) (mode : ℕ) (prbs31 : Bool) (lanes : BitVec 4) (errors : List ℕ) (s : State) : Fr 4194304 s (doLoop p mode prbs31 lanes errors s) := by
  unfold doLoop
  exact (Fr.iteT (Fr.iteB (Fr.step (State.updPort_fr _ _ _) (by decide) (Fr.refl _ _)) (Fr.step (countPrbs_fr _ _ _ _) (by decide) (Fr.refl _ _))) (Fr.refl _ _))

theorem takeMsg_fr (p : ℕ) (c : ℕ) (s : State) : Fr 4194304 s (takeMsg p c s) := by
  unfold takeMsg
  exact (Fr.iteT (Fr.step (State.updPort_fr _ _ _) (by decide) (Fr.refl _ _)) (Fr.refl _ _))

theorem violation_fr (p : ℕ) (cause : ℕ) (s : State) : Fr 399464432 s (violation p cause s) := by
  unfold violation
  exact (Fr.step (fault_fr _ _ _) (by decide) (Fr.step (State.updPort_fr _ _ _) (by decide) (Fr.refl _ _)))

theorem auditFailed_fr (p : ℕ) (cause : ℕ) (reason : ℕ) (s : State) : Fr 399464432 s (auditFailed p cause reason s) := by
  unfold auditFailed
  exact (Fr.iteT (Fr.step (startResync_fr _ _ _) (by decide) (Fr.refl _ _)) (Fr.step (fault_fr _ _ _) (by decide) (Fr.step (State.updPort_fr _ _ _) (by decide) (Fr.refl _ _))))

theorem creditReturn_fr (p : ℕ) (v : ℕ) (n : ℕ) (s : State) : Fr 399464432 s (creditReturn p v n s) := by
  unfold creditReturn
  exact (Fr.iteB (Fr.refl _ _) (Fr.iteT (Fr.step (violation_fr _ _ _) (by decide) (Fr.refl _ _)) (Fr.step (noteHeld_fr _ _) (by decide) (Fr.step (State.updPort_fr _ _ _) (by decide) (Fr.refl _ _)))))

theorem openTag_fr {M : Nat} (p : ℕ) (op : Op) (h : ReqHeader) (r : Req) (next : State → State) (s : State) (hM : 399464432 ||| M = M) (hf : ∀ t, Fr M t (next t)) : Fr M s (openTag p op h r next s) := by
  unfold openTag
  dsimp only
  have h0 : Fr 399464432 s (requestArrives p s) := Fr.step (requestArrives_fr _ _) (by decide) (Fr.refl _ _)
  split
  · exact (Fr.step (violation_fr _ _ _) (by decide) h0).mono hM
  · split
    · exact (Fr.step (violation_fr _ _ _) (by decide) h0).mono hM
    · exact ((Fr.step (State.updPort_fr _ _ _) (by decide) h0).mono hM).trans (hf _)

theorem answerOther_fr (p : ℕ) (b : BitVec 96) (s : State) : Fr 399464432 s (answerOther p b s) := by
  unfold answerOther
  exact (Fr.step (openTag_fr (M := 399464432) _ _ _ _ _ _ (by decide) (fun _ => (Fr.step (State.updPort_fr _ _ _) (by decide) (Fr.refl _ _)))) (by decide) (Fr.refl _ _))

theorem answerOtherMgmt_fr (p : ℕ) (b : BitVec 96) (s : State) : Fr 399464432 s (answerOtherMgmt p b s) := by
  unfold answerOtherMgmt
  exact (Fr.step (openTag_fr (M := 399464432) _ _ _ _ _ _ (by decide) (fun _ => (Fr.step (answerMgmt_fr _ _ _ _ _) (by decide) (Fr.refl _ _)))) (by decide) (Fr.refl _ _))

theorem serveOthers_fr (p : ℕ) (s : State) : Fr 399464432 s (serveOthers p s) := by
  unfold serveOthers
  exact (Fr.foldl (fun _ _ => (by (try dsimp only); split <;> (try dsimp only); exact (Fr.iteB (by (try dsimp only); split <;> (try dsimp only); exact (Fr.iteB (Fr.refl _ _) (Fr.step (answerOther_fr _ _ _) (by decide) (Fr.step (State.updPort_fr _ _ _) (by decide) (Fr.refl _ _)))); exact (Fr.refl _ _)) (Fr.step (answerOtherMgmt_fr _ _ _) (by decide) (Fr.step (takeMsg_fr _ _ _) (by decide) (Fr.refl _ _)))); exact (by (try dsimp only); split <;> (try dsimp only); exact (Fr.iteB (Fr.refl _ _) (Fr.step (answerOther_fr _ _ _) (by decide) (Fr.step (State.updPort_fr _ _ _) (by decide) (Fr.refl _ _)))); exact (Fr.refl _ _)))) _ (Fr.refl _ _))

theorem receiveSlot_fr (p : ℕ) (x : BitVec 608) (s : State) : Fr 399464432 s (receiveSlot p x s) := by
  unfold receiveSlot
  exact (Fr.ite (Fr.iteB (Fr.refl _ _) (Fr.step (violation_fr _ _ _) (by decide) (Fr.refl _ _))) (Fr.ite (Fr.step (fault_fr _ _ _) (by decide) (Fr.step (violation_fr _ _ _) (by decide) (Fr.refl _ _))) (by (try dsimp only); split <;> (try dsimp only); exact (Fr.step (State.updPort_fr _ _ _) (by decide) (Fr.step (State.updPort_fr _ _ _) (by decide) (Fr.refl _ _))); exact (Fr.step (violation_fr _ _ _) (by decide) (Fr.step (State.updPort_fr _ _ _) (by decide) (Fr.step (State.updPort_fr _ _ _) (by decide) (Fr.refl _ _)))))))

theorem acceptSeq_fr (p : ℕ) (f : BitVec 1280) (s : State) : Fr 533682160 s (acceptSeq p f s) := by
  unfold acceptSeq
  exact (Fr.step (serveOthers_fr _ _) (by decide) (Fr.step (receiveSlot_fr _ _ _) (by decide) (Fr.step (receiveSlot_fr _ _ _) (by decide) (Fr.iteB (Fr.step (State.updPort_fr _ _ _) (by decide) (Fr.step (pmcCount_fr _ _ _ _) (by decide) (Fr.refl _ _))) (Fr.step (creditReturn_fr _ _ _ _) (by decide) (Fr.refl _ _))))))

theorem auditBooks_fr (p : ℕ) (s : State) : Fr 399464432 s (auditBooks p s) := by
  unfold auditBooks
  exact (Fr.iteB (Fr.refl _ _) (Fr.iteT (Fr.step (startResync_fr _ _ _) (by decide) (Fr.refl _ _)) (Fr.step (fault_fr _ _ _) (by decide) (Fr.refl _ _))))

theorem queueAudit_fr (p : ℕ) (s : State) : Fr 4194304 s (queueAudit p s) := by
  unfold queueAudit
  exact (Fr.step (State.updPort_fr _ _ _) (by decide) (Fr.refl _ _))

theorem failNoisy_fr (p : ℕ) (s : State) : Fr 399464432 s (failNoisy p s) := by
  unfold failNoisy
  exact (Fr.iteB (Fr.refl _ _) (Fr.step (failLanes_fr _ _ _) (by decide) (Fr.forL (fun _ _ => (Fr.step (State.updPort_fr _ _ _) (by decide) (Fr.refl _ _))) _ (Fr.refl _ _))))

theorem takeMarker_fr (p : ℕ) (blocks : List (BitVec 640)) (s : State) : Fr 399464432 s (takeMarker p blocks s) := by
  unfold takeMarker
  exact (Fr.step (failNoisy_fr _ _) (by decide) (by (try dsimp only); split <;> (try dsimp only); exact (Fr.step (State.updPort_fr _ _ _) (by decide) (Fr.forL (fun _ _ => (Fr.step (State.updPort_fr _ _ _) (by decide) (Fr.refl _ _))) _ (Fr.refl _ _))); exact (Fr.forL (fun _ _ => (Fr.step (State.updPort_fr _ _ _) (by decide) (Fr.refl _ _))) _ (Fr.refl _ _))))

theorem toGauntlet_fr (p : ℕ) (tag : ℕ) (s : State) : Fr 155713536 s (toGauntlet p tag s) := by
  unfold toGauntlet
  exact (Fr.step (reexamine_fr _ _) (by decide) (Fr.step (pmcCount_fr _ _ _ _) (by decide) (Fr.step (State.updPort_fr _ _ _) (by decide) (Fr.refl _ _))))

theorem replayFrom_fr (p : ℕ) (from_ : BitVec 12) (s : State) : Fr 138412032 s (replayFrom p from_ s) := by
  unfold replayFrom
  exact (Fr.step (pmcCount_fr _ _ _ _) (by decide) (Fr.step (State.updPort_fr _ _ _) (by decide) (Fr.refl _ _)))

theorem sendSeq_fr (p : ℕ) (slots : List Slot) (closes : ℕ) (s : State) : Fr 138412032 s (sendSeq p slots closes s) := by
  unfold sendSeq
  exact (Fr.step (pmcCount_fr _ _ _ _) (by decide) (Fr.step (State.updPort_fr _ _ _) (by decide) (Fr.refl _ _)))

theorem receiveRequest_fr (p : ℕ) (op : Op) (h : ReqHeader) (s : State) : Fr 533682160 s (receiveRequest p op h s) := by
  unfold receiveRequest
  exact (Fr.iteB (Fr.refl _ _) (Fr.step (serveOthers_fr _ _) (by decide) (Fr.step (openTag_fr (M := 533682160) _ _ _ _ _ _ (by decide) (fun _ => Fr.ite (Fr.step (State.updPort_fr _ _ _) (by decide) (Fr.refl _ _)) (Fr.ite (Fr.step (State.updPort_fr _ _ _) (by decide) (Fr.refl _ _)) (by dsimp only; split; exact Fr.step (violation_fr _ _ _) (by decide) (Fr.step (State.updPort_fr _ _ _) (by decide) (Fr.refl _ _)); exact Fr.iteB (Fr.step (State.updPort_fr _ _ _) (by decide) (Fr.refl _ _)) (Fr.step (toGauntlet_fr _ _ _) (by decide) (Fr.refl _ _)))))) (by decide) (Fr.iteT (Fr.step (State.updPort_fr _ _ _) (by decide) (Fr.refl _ _)) (Fr.refl _ _)))))

theorem sentItems_fr (p : ℕ) (l : List OutItem) (s : State) : Fr 4718592 s (sentItems p l s) := by
  unfold sentItems
  exact (Fr.forL (fun _ _ => (by (try dsimp only); split <;> (try dsimp only); exact (Fr.step (State.updPort_fr _ _ _) (by decide) (Fr.iteT (Fr.step (State.updPort_fr _ _ _) (by decide) (Fr.refl _ _)) (by (try dsimp only); split <;> (try dsimp only); exact (Fr.step (touch_fr _) (by decide) (Fr.step (State.updPort_fr _ _ _) (by decide) (Fr.refl _ _))); exact (Fr.refl _ _)))); exact (Fr.step (State.updPort_fr _ _ _) (by decide) (Fr.iteT (Fr.step (State.updPort_fr _ _ _) (by decide) (Fr.refl _ _)) (by (try dsimp only); split <;> (try dsimp only); exact (Fr.step (touch_fr _) (by decide) (Fr.step (State.updPort_fr _ _ _) (by decide) (Fr.refl _ _))); exact (Fr.refl _ _)))); exact (Fr.iteT (Fr.step (State.updPort_fr _ _ _) (by decide) (Fr.refl _ _)) (by (try dsimp only); split <;> (try dsimp only); exact (Fr.step (touch_fr _) (by decide) (Fr.step (State.updPort_fr _ _ _) (by decide) (Fr.refl _ _))); exact (Fr.refl _ _))))) _ (Fr.refl _ _))

theorem sendResponses_fr (p : ℕ) (s : State) : Fr 457790080 s (sendResponses p s) := by
  unfold sendResponses
  exact (Fr.iteT (Fr.ite (Fr.refl _ _) (Fr.step (shutdownAdvance_fr _) (by decide) (Fr.step (noteHeld_fr _ _) (by decide) (Fr.step (State.updPort_fr _ _ _) (by decide) (Fr.step (sentItems_fr _ _ _) (by decide) (Fr.step (State.updPort_fr _ _ _) (by decide) (Fr.step (sendSeq_fr _ _ _ _) (by decide) (Fr.iteB (Fr.symm (Fr.step (noteHeld_fr _ _) (by decide) (Fr.refl _ _))) (Fr.step (portActive_fr _ _) (by decide) (Fr.refl _ _)))))))))) (Fr.step (noteHeld_fr _ _) (by decide) (Fr.refl _ _)))

theorem processAck_fr (p : ℕ) (ack : BitVec 12) (s : State) : Fr 399464432 s (processAck p ack s) := by
  unfold processAck
  exact (Fr.ite (Fr.step (noteHeld_fr _ _) (by decide) (Fr.step (State.updPort_fr _ _ _) (by decide) (Fr.refl _ _))) (Fr.iteB (Fr.refl _ _) (Fr.step (violation_fr _ _ _) (by decide) (Fr.refl _ _))))

theorem lostFlit_fr (p : ℕ) (s : State) : Fr 4194304 s (lostFlit p s) := by
  unfold lostFlit
  exact (Fr.iteB (Fr.refl _ _) (Fr.step (sendLink_fr _ _ _) (by decide) (Fr.step (State.updPort_fr _ _ _) (by decide) (Fr.refl _ _))))

theorem goodFlit_fr (p : ℕ) (f : BitVec 1280) (s : State) : Fr 533682160 s (goodFlit p f s) := by
  unfold goodFlit
  exact (by (try dsimp only); split <;> (try dsimp only); exact (Fr.iteB (Fr.refl _ _) (Fr.ite (Fr.step (acceptSeq_fr _ _ _) (by decide) (Fr.step (processAck_fr _ _ _) (by decide) (Fr.refl _ _))) (Fr.iteT (Fr.step (lostFlit_fr _ _) (by decide) (Fr.refl _ _)) (Fr.step (processAck_fr _ _ _) (by decide) (Fr.refl _ _))))); exact (Fr.iteB (Fr.iteT (Fr.step (lostFlit_fr _ _) (by decide) (Fr.refl _ _)) (Fr.iteT (Fr.step (processAck_fr _ _ _) (by decide) (Fr.refl _ _)) (Fr.refl _ _))) (Fr.step (violation_fr _ _ _) (by decide) (Fr.refl _ _))); exact (Fr.iteB (Fr.iteT (Fr.step (processAck_fr _ _ _) (by decide) (Fr.refl _ _)) (Fr.refl _ _)) (Fr.step (violation_fr _ _ _) (by decide) (Fr.refl _ _))); exact (Fr.step (violation_fr _ _ _) (by decide) (Fr.refl _ _)))

theorem takeFlit_fr (p : ℕ) (f : BitVec 1280) (s : State) : Fr 533682160 s (takeFlit p f s) := by
  unfold takeFlit
  exact (Fr.step (goodFlit_fr _ _ _) (by decide) (Fr.iteT (Fr.step (portActive_fr _ _) (by decide) (Fr.refl _ _)) (Fr.refl _ _)))

theorem countCorrected_fr (p : ℕ) (corrected : List ℕ) (s : State) : Fr 4194304 s (countCorrected p corrected s) := by
  unfold countCorrected
  exact (Fr.forN (fun _ _ => (Fr.iteB (Fr.refl _ _) (Fr.step (State.updPort_fr _ _ _) (by decide) (Fr.refl _ _)))) _ (Fr.refl _ _))

theorem takeWord_fr (p : ℕ) (seqLost : Bool) (r : Option (List (BitVec 1280) × List ℕ)) (s : State) : Fr 533682160 s (takeWord p seqLost r s) := by
  unfold takeWord
  exact (by (try dsimp only); split <;> (try dsimp only); exact (Fr.forL (fun _ _ => (Fr.iteB (Fr.refl _ _) (Fr.ite (Fr.step (takeFlit_fr _ _ _) (by decide) (Fr.refl _ _)) (Fr.step (lostFlit_fr _ _) (by decide) (Fr.refl _ _))))) _ (Fr.step (countCorrected_fr _ _ _) (by decide) (Fr.refl _ _))); exact (Fr.iteT (Fr.step (lostFlit_fr _ _) (by decide) (Fr.refl _ _)) (Fr.step (State.updPort_fr _ _ _) (by decide) (Fr.refl _ _))))

theorem pushOut_fr (p : ℕ) (o : OutItem) (s : State) : Fr 4194304 s (pushOut p o s) := by
  unfold pushOut
  exact (Fr.step (State.updPort_fr _ _ _) (by decide) (Fr.refl _ _))

theorem deliver_fr (p : ℕ) (tag : ℕ) (serial : ℕ) (part : ℕ) (st : Status) (d : Block) (s : State) : Fr 138412032 s (deliver p tag serial part st d s) := by
  unfold deliver
  exact (by (try dsimp only); split <;> (try dsimp only); exact (Fr.refl _ _); exact (Fr.ite (Fr.step (State.updPort_fr _ _ _) (by decide) (Fr.step (pmcCount_fr _ _ _ _) (by decide) (Fr.refl _ _))) (by (try dsimp only); split <;> (try dsimp only); exact (Fr.step (State.updPort_fr _ _ _) (by decide) (Fr.step (pushOut_fr _ _ _) (by decide) (Fr.step (pushOut_fr _ _ _) (by decide) (Fr.step (pmcCount_fr _ _ _ _) (by decide) (Fr.refl _ _))))); exact (Fr.step (State.updPort_fr _ _ _) (by decide) (Fr.step (pushOut_fr _ _ _) (by decide) (Fr.step (pmcCount_fr _ _ _ _) (by decide) (Fr.refl _ _)))))))

theorem dropBurst_fr (q : ℕ) (b : Burst) (s : State) : Fr 155189252 s (dropBurst q b s) := by
  unfold dropBurst
  exact (Fr.iteB (Fr.step (State.updPc_fr _ _ _) (by decide) (Fr.refl _ _)) (Fr.step (deliver_fr _ _ _ _ _ _ _) (by decide) (Fr.u4 (Fr.refl _ _) (by decide))))

theorem countLost_fr (q : ℕ) (s : State) : Fr 262144 s (countLost q s) := by
  unfold countLost
  exact (Fr.iteB (Fr.refl _ _) (Fr.u262144 (Fr.refl _ _) (by decide)))

theorem chanEvent_fr (q : ℕ) (code : ℕ) (n : ℕ) (s : State) : Fr 134217728 s (chanEvent q code n s) := by
  unfold chanEvent
  exact (Fr.step (pmcCount_fr _ _ _ _) (by decide) (Fr.refl _ _))

theorem readResent_fr (q : ℕ) (x : BurstXfer) (b : Burst) (s : State) : Fr 150994944 s (readResent q x b s).1 := by
  unfold readResent
  exact (by (try dsimp only); split <;> (try dsimp only); exact (Fr.refl _ _); exact (Fr.step (chanEvent_fr _ _ _ _) (by decide) (Fr.step (State.updPc_fr _ _ _) (by decide) (Fr.refl _ _))))

theorem countTransfer_fr (q : ℕ) (x : BurstXfer) (s : State) : Fr 399464432 s (countTransfer q x s) := by
  unfold countTransfer
  exact (by (try dsimp only); split <;> (try dsimp only); exact (Fr.refl _ _); exact (Fr.step (State.updChan_fr _ _ _) (by decide) (Fr.refl _ _)); exact (Fr.step (fault_fr _ _ _) (by decide) (Fr.step (State.updChan_fr _ _ _) (by decide) (Fr.refl _ _))))

theorem addWork_fr (q : ℕ) (k : ℕ) (w : Work) (n : ℕ) (s : State) : Fr 2048 s (addWork q k w n s) := by
  unfold addWork
  exact (Fr.u2048 (Fr.refl _ _) (by decide))

theorem readLanded_fr (q : ℕ) (b : Burst) (xfer : BitVec 64) (s : State) : Fr 155191300 s (readLanded q b xfer s) := by
  unfold readLanded
  exact (Fr.ite (Fr.step (deliver_fr _ _ _ _ _ _ _) (by decide) (Fr.step (State.updPort_fr _ _ _) (by decide) (Fr.iteB (Fr.refl _ _) (Fr.u4 (Fr.refl _ _) (by decide))))) (Fr.ite (Fr.step (deliver_fr _ _ _ _ _ _ _) (by decide) (Fr.iteB (Fr.refl _ _) (Fr.u4 (Fr.refl _ _) (by decide)))) (Fr.step (chanEvent_fr _ _ _ _) (by decide) (Fr.step (addWork_fr _ _ _ _ _) (by decide) (Fr.step (State.updPc_fr _ _ _) (by decide) (Fr.iteB (Fr.refl _ _) (Fr.u4 (Fr.refl _ _) (by decide))))))))

theorem calNext_fr (q : ℕ) (s : State) : Fr 50331648 s (calNext q s) := by
  unfold calNext
  exact (Fr.ite (Fr.refl _ _) (by (try dsimp only); split <;> (try dsimp only); exact (Fr.refl _ _); exact (Fr.step (State.updSlice_fr _ _ _ _) (by decide) (Fr.step (State.updPc_fr _ _ _) (by decide) (Fr.refl _ _)))))

theorem reissue_fr (n : ℕ) (column : Bool) (s : State) : Fr 142606336 s (reissue n column s) := by
  unfold reissue
  exact (Fr.step (pmcCount_fr _ _ _ _) (by decide) (Fr.step (State.updChan_fr _ _ _) (by decide) (Fr.refl _ _)))

theorem parityReport_fr (q : ℕ) (column : Bool) (before : ℕ) (s : State) : Fr 533682160 s (parityReport q column before s) := by
  unfold parityReport
  exact (by (try dsimp only); split <;> (try dsimp only); exact (Fr.step (reissue_fr _ _ _) (by decide) (Fr.refl _ _)); exact (Fr.step (fault_fr _ _ _) (by decide) (Fr.step (reissue_fr _ _ _) (by decide) (Fr.step (State.updChan_fr _ _ _) (by decide) (Fr.refl _ _)))); exact (Fr.step (State.updChan_fr _ _ _) (by decide) (Fr.refl _ _)))

theorem predict_fr (q : ℕ) (k : ℕ) (b : ℕ) (row : ℕ) (opened : ℕ) (s : State) : Fr 16777216 s (predict q k b row opened s) := by
  unfold predict
  exact (Fr.step (State.updPc_fr _ _ _) (by decide) (Fr.refl _ _))

theorem startDrain_fr (q : ℕ) (k : ℕ) (e : WqEntry) (f : QWrite → Bool) (g : Bool) (act : ℕ) (start : ℕ) (s : State) : Fr 150996992 s (startDrain q k e f g act start s) := by
  unfold startDrain
  exact (Fr.step (chanEvent_fr _ _ _ _) (by decide) (Fr.step (addWork_fr _ _ _ _ _) (by decide) (Fr.step (State.updPc_fr _ _ _) (by decide) (Fr.refl _ _))))

theorem columns_fr (q : ℕ) (k : ℕ) (g : Grant) (act : ℕ) (c : ℕ) (s : State) : Fr 184551424 s (columns q k g act c s) := by
  unfold columns
  exact (Fr.ite (Fr.step (chanEvent_fr _ _ _ _) (by decide) (Fr.step (addWork_fr _ _ _ _ _) (by decide) (Fr.iteB (Fr.step (State.updPc_fr _ _ _) (by decide) (Fr.step (State.updSlice_fr _ _ _ _) (by decide) (Fr.iteB (Fr.foldl (fun _ _ => (Fr.step (startDrain_fr _ _ _ _ _ _ _ _) (by decide) (Fr.refl _ _))) _ (Fr.refl _ _)) (Fr.step (State.updPc_fr _ _ _) (by decide) (Fr.refl _ _))))) (Fr.step (chanEvent_fr _ _ _ _) (by decide) (Fr.refl _ _))))) (Fr.step (State.updPc_fr _ _ _) (by decide) (Fr.iteB (Fr.foldl (fun _ _ => (Fr.step (startDrain_fr _ _ _ _ _ _ _ _) (by decide) (Fr.refl _ _))) _ (Fr.refl _ _)) (Fr.step (State.updSlice_fr _ _ _ _) (by decide) (Fr.iteB (Fr.refl _ _) (Fr.step (State.updPc_fr _ _ _) (by decide) (Fr.refl _ _)))))))

theorem postHat_fr (q : ℕ) (k : ℕ) (e : HatEntry) (s : State) : Fr 41943040 s (postHat q k e s) := by
  unfold postHat
  exact (Fr.iteT (Fr.step (State.updChan_fr _ _ _) (by decide) (Fr.refl _ _)) (Fr.step (State.updSlice_fr _ _ _ _) (by decide) (Fr.refl _ _)))

theorem activate_fr (q : ℕ) (k : ℕ) (b : ℕ) (row : ℕ) (s : State) : Fr 192940032 s (activate q k b row s) := by
  unfold activate
  exact (Fr.step (chanEvent_fr _ _ _ _) (by decide) (Fr.step (addWork_fr _ _ _ _ _) (by decide) (Fr.iteT (Fr.step (postHat_fr _ _ _ _) (by decide) (Fr.refl _ _)) (Fr.step (State.updSlice_fr _ _ _ _) (by decide) (Fr.step (State.updPc_fr _ _ _) (by decide) (Fr.refl _ _))))))

theorem doPredReset_fr (n : ℕ) (s : State) : Fr 16777216 s (doPredReset n s) := by
  unfold doPredReset
  exact (Fr.step (State.updPc_fr _ _ _) (by decide) (Fr.step (State.updPc_fr _ _ _) (by decide) (Fr.refl _ _)))

theorem postOverwrite_fr (q : ℕ) (k : ℕ) (b : ℕ) (row : ℕ) (cols : BitVec 64) (s : State) : Fr 41943040 s (postOverwrite q k b row cols s) := by
  unfold postOverwrite
  exact (Fr.iteB (Fr.refl _ _) (Fr.step (postHat_fr _ _ _ _) (by decide) (Fr.refl _ _)))

theorem lastUe_fr (q : ℕ) (k : ℕ) (b : ℕ) (row : ℕ) (block : ℕ) (s : State) : Fr 8388608 s (lastUe q k b row block s) := by
  unfold lastUe
  exact (Fr.step (State.updChan_fr _ _ _) (by decide) (Fr.refl _ _))

theorem bankBusy_fr (q : ℕ) (k : ℕ) (b : ℕ) (t : ℕ) (s : State) : Fr 16777216 s (bankBusy q k b t s) := by
  unfold bankBusy
  exact (Fr.step (State.updPc_fr _ _ _) (by decide) (Fr.refl _ _))

theorem pauseRefresh_fr (q : ℕ) (k : ℕ) (b : ℕ) (s : State) : Fr 159383552 s (pauseRefresh q k b s) := by
  unfold pauseRefresh
  exact (by (try dsimp only); split <;> (try dsimp only); exact (Fr.iteB (Fr.refl _ _) (Fr.step (bankBusy_fr _ _ _ _ _) (by decide) (Fr.step (chanEvent_fr _ _ _ _) (by decide) (Fr.step (State.updChan_fr _ _ _) (by decide) (Fr.step (State.updPc_fr _ _ _) (by decide) (Fr.refl _ _)))))); exact (Fr.refl _ _))

theorem access_fr (q : ℕ) (k : ℕ) (g : Grant) (t : ℕ) (changes : List CellChange) (s : State) : Fr 461375490 s (access q k g t changes s) := by
  unfold access
  exact (by (try dsimp only); split <;> (try dsimp only); exact (Fr.step (columns_fr _ _ _ _ _ _) (by decide) (Fr.step (predict_fr _ _ _ _ _ _) (by decide) (Fr.step (State.updPc_fr _ _ _) (by decide) (Fr.step (chanEvent_fr _ _ _ _) (by decide) (Fr.iteT (Fr.step (pauseRefresh_fr _ _ _ _) (by decide) (Fr.refl _ _)) (Fr.step (State.atLeast_fr _ _) (by decide) (Fr.refl _ _))))))); exact (Fr.step (columns_fr _ _ _ _ _ _) (by decide) (Fr.step (predict_fr _ _ _ _ _ _) (by decide) (Fr.step (activate_fr _ _ _ _ _) (by decide) (Fr.step (State.setCells_fr _ _ _) (by decide) (Fr.step (State.updPc_fr _ _ _) (by decide) (Fr.iteT (Fr.step (pauseRefresh_fr _ _ _ _) (by decide) (Fr.refl _ _)) (Fr.step (State.atLeast_fr _ _) (by decide) (Fr.refl _ _)))))))))

theorem answerLost_fr (g : Grant) (q : ℕ) (s : State) : Fr 155451392 s (answerLost g q s) := by
  unfold answerLost
  exact (Fr.ite (Fr.forN (fun _ _ => (Fr.step (deliver_fr _ _ _ _ _ _ _) (by decide) (Fr.refl _ _))) _ (Fr.step (countLost_fr _ _) (by decide) (Fr.refl _ _))) (Fr.ite (Fr.step (State.updPc_fr _ _ _) (by decide) (Fr.refl _ _)) (by (try dsimp only); split <;> (try dsimp only); exact (Fr.step (countLost_fr _ _) (by decide) (Fr.refl _ _)); exact (Fr.ite (Fr.step (State.updPort_fr _ _ _) (by decide) (Fr.step (countLost_fr _ _) (by decide) (Fr.refl _ _))) (Fr.step (State.updPort_fr _ _ _) (by decide) (Fr.step (countLost_fr _ _) (by decide) (Fr.refl _ _)))))))

theorem laterBurst_fr (q : ℕ) (b : Burst) (s : State) : Fr 16777216 s (laterBurst q b s) := by
  unfold laterBurst
  exact (Fr.step (State.updPc_fr _ _ _) (by decide) (Fr.refl _ _))

theorem calDue_fr (q : ℕ) (s : State) : Fr 16777216 s (calDue q s) := by
  unfold calDue
  exact (Fr.iteB (Fr.refl _ _) (Fr.step (State.updPc_fr _ _ _) (by decide) (Fr.refl _ _)))

theorem keepEarly_fr (q : ℕ) (b : Burst) (s : State) : Fr 16777216 s (keepEarly q b s) := by
  unfold keepEarly
  exact (Fr.step (State.updPc_fr _ _ _) (by decide) (Fr.refl _ _))

theorem blockRecord_fr (src : ℕ) (d : EventDetail) (s : State) : Fr 148480 s (blockRecord src d s) := by
  unfold blockRecord
  exact (Fr.step (logRecord_fr _ _ _ _ _ _ _) (by decide) (Fr.refl _ _))

theorem issueGrant_fr (q : ℕ) (g : Grant) (t : ℕ) (changes : List CellChange) (s : State) : Fr 466356226 s (issueGrant q g t changes s) := by
  unfold issueGrant
  exact (Fr.ite (Fr.step (answerLost_fr _ _ _) (by decide) (Fr.step (touch_fr _) (by decide) (Fr.step (State.updPc_fr _ _ _) (by decide) (Fr.step (State.atLeast_fr _ _) (by decide) (Fr.refl _ _))))) (by (try dsimp only); split <;> (try dsimp only); exact (Fr.step (answerLost_fr _ _ _) (by decide) (Fr.step (touch_fr _) (by decide) (Fr.step (State.updPc_fr _ _ _) (by decide) (Fr.step (State.atLeast_fr _ _) (by decide) (Fr.refl _ _))))); exact (Fr.step (State.updPc_fr _ _ _) (by decide) (Fr.step (access_fr _ _ _ _ _ _) (by decide) (Fr.step (touch_fr _) (by decide) (Fr.step (State.updPc_fr _ _ _) (by decide) (Fr.step (State.atLeast_fr _ _) (by decide) (Fr.refl _ _))))))))

theorem doRecal_fr (q : ℕ) (k : ℕ) (s : State) : Fr 50331648 s (doRecal q k s) := by
  unfold doRecal
  exact (Fr.iteT (Fr.step (calNext_fr _ _) (by decide) (Fr.step (State.updPc_fr _ _ _) (by decide) (Fr.refl _ _))) (Fr.refl _ _))

theorem countEntry_fr (q : ℕ) (k : ℕ) (e : HatEntry) (s : State) : Fr 399464432 s (countEntry q k e s) := by
  unfold countEntry
  exact (by (try dsimp only); split <;> (try dsimp only); exact (Fr.iteB (Fr.refl _ _) (Fr.step (fault_fr _ _ _) (by decide) (Fr.refl _ _))); exact (Fr.iteB (Fr.refl _ _) (Fr.step (fault_fr _ _ _) (by decide) (Fr.step (blockRecord_fr _ _ _) (by decide) (Fr.step (lastUe_fr _ _ _ _ _ _) (by decide) (Fr.refl _ _))))); exact (Fr.step (fault_fr _ _ _) (by decide) (Fr.refl _ _)); exact (Fr.step (fault_fr _ _ _) (by decide) (Fr.refl _ _)); exact (Fr.refl _ _))

theorem rewriteBlock_fr (q : ℕ) (k : ℕ) (e : HatEntry) (blk : ℕ) (s : State) : Fr 402655232 s (rewriteBlock q k e blk s) := by
  unfold rewriteBlock
  exact (Fr.iteB (Fr.refl _ _) (Fr.step (chanEvent_fr _ _ _ _) (by decide) (Fr.step (addWork_fr _ _ _ _ _) (by decide) (Fr.step (State.writeBlock_fr _ _ _ _ _) (by decide) (Fr.refl _ _)))))

theorem reserveRow_fr (q : ℕ) (k : ℕ) (b : ℕ) (row : ℕ) (s : State) : Fr 192940034 s (reserveRow q k b row s) := by
  unfold reserveRow
  exact (Fr.step (State.updPc_fr _ _ _) (by decide) (Fr.step (bankBusy_fr _ _ _ _ _) (by decide) (Fr.step (activate_fr _ _ _ _ _) (by decide) (Fr.step (State.atLeast_fr _ _) (by decide) (Fr.refl _ _)))))

theorem reserveAct_fr (q : ℕ) (k : ℕ) (e : HatEntry) (blocks : ℕ) (s : State) : Fr 192940034 s (reserveAct q k e blocks s) := by
  unfold reserveAct
  exact (Fr.step (chanEvent_fr _ _ _ _) (by decide) (Fr.step (chanEvent_fr _ _ _ _) (by decide) (Fr.step (chanEvent_fr _ _ _ _) (by decide) (Fr.step (addWork_fr _ _ _ _ _) (by decide) (Fr.step (addWork_fr _ _ _ _ _) (by decide) (Fr.step (State.updPc_fr _ _ _) (by decide) (Fr.step (reserveRow_fr _ _ _ _ _) (by decide) (Fr.refl _ _))))))))

theorem sealBlock_fr (q : ℕ) (k : ℕ) (e : HatEntry) (blk : ℕ) (s : State) : Fr 444598272 s (sealBlock q k e blk s) := by
  unfold sealBlock
  exact (Fr.step (chanEvent_fr _ _ _ _) (by decide) (Fr.step (addWork_fr _ _ _ _ _) (by decide) (Fr.step (State.updChan_fr _ _ _) (by decide) (Fr.step (postOverwrite_fr _ _ _ _ _ _) (by decide) (Fr.step (State.putBlock_fr _ _ _ _) (by decide) (Fr.refl _ _))))))

theorem serveEntry_fr (t : Taken) (s : State) : Fr 533684210 s (serveEntry t s) := by
  unfold serveEntry
  exact (Fr.ite (Fr.iteB (Fr.refl _ _) (Fr.step (countEntry_fr _ _ _ _) (by decide) (Fr.refl _ _))) (by (try dsimp only); split <;> (try dsimp only); exact (Fr.forL (fun _ _ => (Fr.step (rewriteBlock_fr _ _ _ _ _) (by decide) (Fr.refl _ _))) _ (Fr.step (reserveAct_fr _ _ _ _ _) (by decide) (Fr.iteB (Fr.refl _ _) (Fr.step (countEntry_fr _ _ _ _) (by decide) (Fr.refl _ _))))); exact (Fr.forL (fun _ _ => (Fr.step (sealBlock_fr _ _ _ _ _) (by decide) (Fr.refl _ _))) _ (Fr.forL (fun _ _ => (Fr.step (rewriteBlock_fr _ _ _ _ _) (by decide) (Fr.refl _ _))) _ (Fr.step (reserveAct_fr _ _ _ _ _) (by decide) (Fr.iteB (Fr.refl _ _) (Fr.step (countEntry_fr _ _ _ _) (by decide) (Fr.refl _ _)))))); exact (Fr.forL (fun _ _ => (Fr.step (fault_fr _ _ _) (by decide) (Fr.step (blockRecord_fr _ _ _) (by decide) (Fr.step (sealBlock_fr _ _ _ _ _) (by decide) (Fr.refl _ _))))) _ (Fr.step (reserveAct_fr _ _ _ _ _) (by decide) (Fr.iteB (Fr.refl _ _) (Fr.step (countEntry_fr _ _ _ _) (by decide) (Fr.refl _ _))))); exact (Fr.iteB (Fr.refl _ _) (Fr.step (countEntry_fr _ _ _ _) (by decide) (Fr.refl _ _)))))

theorem beginRefresh_fr (q : ℕ) (k : ℕ) (s : State) : Fr 50331648 s (beginRefresh q k s) := by
  unfold beginRefresh
  exact (Fr.step (State.updSlice_fr _ _ _ _) (by decide) (Fr.step (State.updPc_fr _ _ _) (by decide) (Fr.refl _ _)))

theorem markCatchUp_fr (q : ℕ) (k : ℕ) (s : State) : Fr 33554432 s (markCatchUp q k s) := by
  unfold markCatchUp
  exact (Fr.iteT (Fr.step (State.updSlice_fr _ _ _ _) (by decide) (Fr.refl _ _)) (Fr.refl _ _))

theorem setBase_fr (k : ℕ) (code : ℕ) (s : State) : Fr 117440512 s (setBase k code s) := by
  unfold setBase
  exact (Fr.iteT (Fr.forN (fun _ _ => (Fr.iteT (Fr.step (markCatchUp_fr _ _ _) (by decide) (Fr.step (State.updSlice_fr _ _ _ _) (by decide) (Fr.step (State.updPc_fr _ _ _) (by decide) (Fr.refl _ _)))) (Fr.refl _ _))) _ (Fr.refl _ _)) (Fr.step (State.updLayer_fr _ _ _) (by decide) (Fr.refl _ _)))

theorem promote_fr (q : ℕ) (k : ℕ) (b : ℕ) (sub : ℕ) (s : State) : Fr 41951232 s (promote q k b sub s) := by
  unfold promote
  exact (Fr.step (markCatchUp_fr _ _ _) (by decide) (Fr.step (State.updChan_fr _ _ _) (by decide) (Fr.u8192 (Fr.step (State.updSlice_fr _ _ _ _) (by decide) (Fr.refl _ _)) (by decide))))

theorem judgeEntry_fr (q : ℕ) (k : ℕ) (e : HatEntry) (s : State) : Fr 41951232 s (judgeEntry q k e s).1 := by
  unfold judgeEntry
  exact (by (try dsimp only); exact (Fr.iteP (by (try dsimp only); exact (Fr.refl _ _)) (by (try dsimp only); exact (by (try dsimp only); exact (Fr.iteP (by (try dsimp only); exact (Fr.refl _ _)) (by (try dsimp only); exact (by (try dsimp only); exact (Fr.iteP (by (try dsimp only); exact (by (try dsimp only); exact (Fr.iteP (by (try dsimp only); exact (Fr.step (State.updChan_fr _ _ _) (by decide) (Fr.refl _ _))) (by (try dsimp only); exact (Fr.step (promote_fr _ _ _ _ _) (by decide) (Fr.step (State.updChan_fr _ _ _) (by decide) (Fr.refl _ _))))))) (by (try dsimp only); exact (Fr.step (State.updChan_fr _ _ _) (by decide) (Fr.step (State.updChan_fr _ _ _) (by decide) (Fr.refl _ _))))))))))))

theorem takeEntry_fr (q : ℕ) (k : ℕ) (e : HatEntry) (s : State) : Fr 399472624 s (takeEntry q k e s) := by
  unfold takeEntry
  exact (Fr.ite (Fr.step (State.updPc_fr _ _ _) (by decide) (Fr.step (State.updChan_fr _ _ _) (by decide) (Fr.refl _ _))) (Fr.iteB (Fr.iteT (Fr.step (countEntry_fr _ _ _ _) (by decide) (Fr.refl _ _)) (Fr.step (judgeEntry_fr _ _ _ _) (by decide) (Fr.step (State.updChan_fr _ _ _) (by decide) (Fr.refl _ _)))) (Fr.step (State.updChan_fr _ _ _) (by decide) (Fr.refl _ _))))

theorem hbx_fr (q : ℕ) (k : ℕ) (s : State) : Fr 533690352 s (hbx q k s) := by
  unfold hbx
  exact (Fr.forL (fun _ _ => (Fr.step (takeEntry_fr _ _ _ _) (by decide) (Fr.refl _ _))) _ (Fr.step (chanEvent_fr _ _ _ _) (by decide) (Fr.step (State.updPc_fr _ _ _) (by decide) (Fr.step (State.updSlice_fr _ _ _ _) (by decide) (Fr.refl _ _)))))

theorem unreadable_fr (q : ℕ) (k : ℕ) (s : State) : Fr 100925952 s (unreadable q k s) := by
  unfold unreadable
  exact (Fr.iteT (Fr.ite (Fr.step (askRepair_fr _ _) (by decide) (Fr.step (State.updLayer_fr _ _ _) (by decide) (Fr.refl _ _))) (Fr.step (askRepair_fr _ _) (by decide) (Fr.refl _ _))) (Fr.step (State.updSlice_fr _ _ _ _) (by decide) (Fr.refl _ _)))

theorem readHatboxes_fr (q : ℕ) (bad : List ℕ) (s : State) : Fr 533690352 s (readHatboxes q bad s) := by
  unfold readHatboxes
  exact (Fr.forL (fun _ _ => (Fr.ite (Fr.step (hbx_fr _ _ _) (by decide) (Fr.refl _ _)) (Fr.iteB (Fr.refl _ _) (Fr.step (unreadable_fr _ _ _) (by decide) (Fr.refl _ _))))) _ (Fr.refl _ _))

theorem refreshCheck_fr (q : ℕ) (k : ℕ) (b : ℕ) (row : ℕ) (s : State) : Fr 310378496 s (refreshCheck q k b row s) := by
  unfold refreshCheck
  exact (by (try dsimp only); split <;> (try dsimp only); exact (Fr.refl _ _); exact (Fr.step (postHat_fr _ _ _ _) (by decide) (Fr.iteT (Fr.step (State.storeCuff_fr _ _ _) (by decide) (Fr.refl _ _)) (Fr.refl _ _))))

theorem refreshed_fr (q : ℕ) (k : ℕ) (b : ℕ) (row : ℕ) (s : State) : Fr 399464432 s (refreshed q k b row s) := by
  unfold refreshed
  exact (Fr.iteB (Fr.iteT (Fr.step (State.updSlice_fr _ _ _ _) (by decide) (Fr.refl _ _)) (Fr.step (State.updPc_fr _ _ _) (by decide) (Fr.refl _ _))) (Fr.iteT (Fr.step (fault_fr _ _ _) (by decide) (Fr.refl _ _)) (Fr.step (State.updChan_fr _ _ _) (by decide) (Fr.refl _ _))))

theorem arraySet_fr (q : ℕ) (k : ℕ) (s : State) : Fr 318767104 s (arraySet q k s) := by
  unfold arraySet
  exact (Fr.step (State.updSlice_fr _ _ _ _) (by decide) (Fr.step (beginRefresh_fr _ _ _) (by decide) (Fr.step (eraseSlices_fr _ _) (by decide) (Fr.refl _ _))))

theorem logRepair_fr (e : RepairEntry) (burnNow : Bool) (s : State) : Fr 262144 s (logRepair e burnNow s) := by
  unfold logRepair
  exact (Fr.iteT (Fr.u262144 (Fr.refl _ _) (by decide)) (Fr.u262144 (Fr.refl _ _) (by decide)))

theorem writeLog_fr (s : State) : Fr 16384 s (writeLog s) := by
  unfold writeLog
  exact (Fr.step (queueRecord_fr _ _) (by decide) (Fr.refl _ _))

theorem abandonDst_fr (q : ℕ) (s : State) : Fr 399464432 s (abandonDst q s) := by
  unfold abandonDst
  exact (by (try dsimp only); split <;> (try dsimp only); exact (Fr.step (writeLog_fr _) (by decide) (Fr.step (logRepair_fr _ _ _) (by decide) (Fr.step (State.updPc_fr _ _ _) (by decide) (Fr.refl _ _)))); exact (Fr.step (raiseFault_fr _ _ _ _ _) (by decide) (Fr.step (State.updPc_fr _ _ _) (by decide) (Fr.refl _ _))))

theorem powerOffIdle_fr (k : ℕ) (s : State) : Fr 67108864 s (powerOffIdle k s) := by
  unfold powerOffIdle
  exact (Fr.iteB (Fr.refl _ _) (Fr.step (State.updLayer_fr _ _ _) (by decide) (Fr.refl _ _)))

theorem releaseSlice_fr (q : ℕ) (k : ℕ) (s : State) : Fr 100663296 s (releaseSlice q k s) := by
  unfold releaseSlice
  exact (Fr.iteB (Fr.refl _ _) (Fr.step (powerOffIdle_fr _ _) (by decide) (Fr.step (State.updSlice_fr _ _ _ _) (by decide) (Fr.refl _ _))))

theorem startLane_fr (q : ℕ) (s : State) : Fr 17039360 s (startLane q s) := by
  unfold startLane
  exact (Fr.ite (Fr.refl _ _) (by (try dsimp only); split <;> (try dsimp only); exact (Fr.step (State.updPc_fr _ _ _) (by decide) (Fr.refl _ _)); exact (Fr.iteB (Fr.step (State.updPc_fr _ _ _) (by decide) (Fr.refl _ _)) (Fr.step (logRepair_fr _ _ _) (by decide) (Fr.refl _ _)))))

theorem commitUnit_fr (q : ℕ) (s : State) : Fr 117719040 s (commitUnit q s) := by
  unfold commitUnit
  exact (Fr.ite (Fr.refl _ _) (Fr.iteB (Fr.step (startLane_fr _ _) (by decide) (Fr.forL (fun _ _ => (Fr.step (releaseSlice_fr _ _ _) (by decide) (Fr.refl _ _))) _ (Fr.iteT (Fr.u262144 (Fr.refl _ _) (by decide)) (Fr.step (State.updPc_fr _ _ _) (by decide) (by (try dsimp only); split <;> (try dsimp only); exact (Fr.step (State.setBank_fr _ _ _ _ _) (by decide) (Fr.refl _ _)); exact (Fr.forN (fun _ _ => (Fr.iteT (Fr.step (State.setBank_fr _ _ _ _ _) (by decide) (Fr.refl _ _)) (Fr.refl _ _))) _ (Fr.step (State.setRank_fr _ _ _ _) (by decide) (Fr.refl _ _)))))))) (Fr.step (writeLog_fr _) (by decide) (Fr.refl _ _))))

theorem addUnit_fr (q : ℕ) (u : MigUnit) (s : State) : Fr 17039360 s (addUnit q u s) := by
  unfold addUnit
  exact (Fr.step (startLane_fr _ _) (by decide) (Fr.step (State.updPc_fr _ _ _) (by decide) (Fr.refl _ _)))

theorem standIn_fr (q : ℕ) (r : ℕ) (bank : Option ℕ) (k : ℕ) (l : ℕ) (s : State) : Fr 117702656 s (standIn q r bank k l s) := by
  unfold standIn
  exact (Fr.step (addUnit_fr _ _ _) (by decide) (Fr.step (releaseSlice_fr _ _ _) (by decide) (Fr.step (logRepair_fr _ _ _) (by decide) (Fr.step (State.updSlice_fr _ _ _ _) (by decide) (by (try dsimp only); split <;> (try dsimp only); exact (Fr.step (State.setBank_fr _ _ _ _ _) (by decide) (Fr.refl _ _)); exact (Fr.step (State.setRank_fr _ _ _ _) (by decide) (Fr.refl _ _)))))))

theorem abortSource_fr (q : ℕ) (s : State) : Fr 117719040 s (abortSource q s).1 := by
  unfold abortSource
  exact (by (try dsimp only); exact (Fr.iteP (by (try dsimp only); exact (Fr.step (commitUnit_fr _ _) (by decide) (Fr.step (State.updPc_fr _ _ _) (by decide) (Fr.refl _ _)))) (by (try dsimp only); exact (Fr.step (standIn_fr _ _ _ _ _ _) (by decide) (Fr.step (State.updPc_fr _ _ _) (by decide) (Fr.refl _ _))))))

theorem retireSlice_fr (q : ℕ) (k : ℕ) (r : ℕ) (readable : Bool) (s : State) : Fr 117719040 s (retireSlice q k r readable s).1 := by
  unfold retireSlice
  exact (by (try dsimp only); exact (Fr.iteP (by (try dsimp only); exact (by (try dsimp only); exact (Fr.iteP (by (try dsimp only); exact (Fr.step (abortSource_fr _ _) (by decide) (Fr.refl _ _))) (by (try dsimp only); exact (Fr.refl _ _))))) (by (try dsimp only); exact (by (try dsimp only); split <;> (try dsimp only); exact (by (try dsimp only); exact (Fr.iteP (by (try dsimp only); exact (Fr.step (addUnit_fr _ _ _) (by decide) (by (try dsimp only); exact (Fr.iteP (by (try dsimp only); exact (Fr.step (abortSource_fr _ _) (by decide) (Fr.refl _ _))) (by (try dsimp only); exact (Fr.refl _ _)))))) (by (try dsimp only); exact (Fr.step (standIn_fr _ _ _ _ _ _) (by decide) (by (try dsimp only); exact (Fr.iteP (by (try dsimp only); exact (Fr.step (abortSource_fr _ _) (by decide) (Fr.refl _ _))) (by (try dsimp only); exact (Fr.refl _ _)))))))); exact (Fr.step (releaseSlice_fr _ _ _) (by decide) (Fr.step (logRepair_fr _ _ _) (by decide) (Fr.step (State.setRank_fr _ _ _ _) (by decide) (by (try dsimp only); exact (Fr.iteP (by (try dsimp only); exact (Fr.step (abortSource_fr _ _) (by decide) (Fr.refl _ _))) (by (try dsimp only); exact (Fr.refl _ _)))))))))))

theorem moveBank_fr (q : ℕ) (k : ℕ) (b : ℕ) (r : ℕ) (readable : Bool) (s : State) : Fr 117719040 s (moveBank q k b r readable s).1 := by
  unfold moveBank
  exact (by (try dsimp only); exact (Fr.iteP (by (try dsimp only); exact (by (try dsimp only); exact (Fr.iteP (by (try dsimp only); exact (Fr.step (abortSource_fr _ _) (by decide) (Fr.refl _ _))) (by (try dsimp only); exact (Fr.refl _ _))))) (by (try dsimp only); exact (by (try dsimp only); split <;> (try dsimp only); exact (by (try dsimp only); exact (Fr.iteP (by (try dsimp only); exact (Fr.step (addUnit_fr _ _ _) (by decide) (Fr.refl _ _))) (by (try dsimp only); exact (Fr.step (standIn_fr _ _ _ _ _ _) (by decide) (Fr.refl _ _))))); exact (Fr.step (releaseSlice_fr _ _ _) (by decide) (Fr.step (logRepair_fr _ _ _) (by decide) (Fr.step (State.setBank_fr _ _ _ _ _) (by decide) (Fr.refl _ _))))))))

theorem clearLayerIn_fr (k : ℕ) (readable : Bool) (q : ℕ) (a : State × List Loss) : Fr 399464432 a.1 (clearLayerIn k readable q a).1 := by
  unfold clearLayerIn
  exact (by (try dsimp only); exact Fr.foldlP (fun _ _ => (by (try dsimp only); exact Fr.foldlP (fun _ _ => (by (try dsimp only); exact (Fr.iteP (by (try dsimp only); exact (Fr.step (moveBank_fr _ _ _ _ _ _) (by decide) (Fr.refl _ _))) (by (try dsimp only); exact (Fr.refl _ _))))) _ (Fr.refl _ _))) _ (by (try dsimp only); exact Fr.foldlP (fun _ _ => (by (try dsimp only); exact (Fr.iteP (by (try dsimp only); exact (Fr.step (retireSlice_fr _ _ _ _ _) (by decide) (Fr.refl _ _))) (by (try dsimp only); exact (Fr.refl _ _))))) _ (Fr.iteT (Fr.step (abandonDst_fr _ _) (by decide) (Fr.refl _ _)) (Fr.refl _ _))))

theorem reportLoss_fr (k : ℕ) (l : List Loss) (s : State) : Fr 399464432 s (reportLoss k l s) := by
  unfold reportLoss
  exact (Fr.iteB (Fr.refl _ _) (Fr.step (checkMinimum_fr _) (by decide) (Fr.forN (fun _ _ => (by (try dsimp only); split <;> (try dsimp only); exact (Fr.step (sendNotice_fr _ _ _ _ _) (by decide) (Fr.refl _ _)); exact (Fr.refl _ _))) _ (Fr.u262144 (Fr.step (fault_fr _ _ _) (by decide) (Fr.forL (fun _ _ => (Fr.step (logRecord_fr _ _ _ _ _ _ _) (by decide) (Fr.refl _ _))) _ (Fr.refl _ _))) (by decide)))))

theorem retireLayer_fr (k : ℕ) (readable : Bool) (s : State) : Fr 399464432 s (retireLayer k readable s) := by
  unfold retireLayer
  exact (Fr.iteB (Fr.refl _ _) (Fr.ite (Fr.ite (Fr.step (enterHold_fr _ _) (by decide) (Fr.refl _ _)) (Fr.step (raiseFault_fr _ _ _ _ _) (by decide) (Fr.refl _ _))) (Fr.step (reportLoss_fr _ _ _) (by decide) (Fr.step (writeLog_fr _) (by decide) (by (try dsimp only); exact Fr.foldlP (fun _ _ => (Fr.step (clearLayerIn_fr _ _ _ _) (by decide) (by (try dsimp only); exact (Fr.refl _ _)))) _ (Fr.step (logRepair_fr _ _ _) (by decide) (Fr.u262144 (Fr.step (State.updLayer_fr _ _ _) (by decide) (Fr.refl _ _)) (by decide))))))))

theorem countAf_fr (fuses : List AfRead) (k : ℕ) (s : State) : Fr 399464432 s (countAf fuses k s) := by
  unfold countAf
  exact (Fr.step (faultMany_fr _ _ _ _) (by decide) (Fr.step (faultMany_fr _ _ _ _) (by decide) (Fr.refl _ _)))

theorem applyAntifuse_fr (l : List AfEntry) (q : ℕ) (k : ℕ) (s : State) : Fr 33554432 s (applyAntifuse l q k s) := by
  unfold applyAntifuse
  exact (Fr.step (State.updSlice_fr _ _ _ _) (by decide) (Fr.refl _ _))

theorem calibrated_fr (q : ℕ) (k : ℕ) (s : State) : Fr 33554436 s (calibrated q k s) := by
  unfold calibrated
  exact (Fr.u4 (Fr.step (State.updSlice_fr _ _ _ _) (by decide) (Fr.refl _ _)) (by decide))

theorem intoUse_fr (q : ℕ) (k : ℕ) (bins : List (ℕ × BitVec 2)) (map : List MadeSpare) (fuses : List AfRead) (s : State) : Fr 399464436 s (intoUse q k bins map fuses s) := by
  unfold intoUse
  exact (Fr.iteB (Fr.refl _ _) (Fr.step (calibrated_fr _ _ _) (by decide) (Fr.step (State.updSlice_fr _ _ _ _) (by decide) (Fr.step (arraySet_fr _ _ _) (by decide) (Fr.step (applyAntifuse_fr _ _ _ _) (by decide) (Fr.step (State.updSlice_fr _ _ _ _) (by decide) (Fr.step (countAf_fr _ _ _) (by decide) (Fr.iteB (Fr.refl _ _) (Fr.step (State.updLayer_fr _ _ _) (by decide) (Fr.refl _ _))))))))))

theorem steerTsv_fr (q : ℕ) (t : TsvRef) (s : State) : Fr 17055744 s (steerTsv q t s).1 := by
  unfold steerTsv
  exact (by (try dsimp only); split <;> (try dsimp only); exact (Fr.step (State.updPc_fr _ _ _) (by decide) (Fr.refl _ _)); exact (Fr.step (writeLog_fr _) (by decide) (Fr.step (logRepair_fr _ _ _) (by decide) (Fr.step (State.updPc_fr _ _ _) (by decide) (Fr.step (State.updPc_fr _ _ _) (by decide) (Fr.refl _ _))))))

theorem retireRank_fr (n : ℕ) (k : ℕ) (readable : Bool) (s : State) : Fr 399464432 s (retireRank n k readable s) := by
  unfold retireRank
  exact (Fr.iteB (Fr.refl _ _) (Fr.ite (Fr.step (retireLayer_fr _ _ _) (by decide) (Fr.refl _ _)) (Fr.step (reportLoss_fr _ _ _) (by decide) (Fr.step (writeLog_fr _) (by decide) (Fr.step (clearLayerIn_fr _ _ _ _) (by decide) (by (try dsimp only); exact (Fr.step (clearLayerIn_fr _ _ _ _) (by decide) (by (try dsimp only); exact (Fr.refl _ _)))))))))

theorem excludePc_fr (q : ℕ) (s : State) : Fr 289817600 s (excludePc q s) := by
  unfold excludePc
  exact (Fr.step (eraseSlices_fr _ _) (by decide) (Fr.forN (fun _ _ => (Fr.iteT (Fr.step (sendNotice_fr _ _ _ _ _) (by decide) (Fr.refl _ _)) (Fr.refl _ _))) _ (Fr.u262144 (Fr.step (logRecord_fr _ _ _ _ _ _ _) (by decide) (Fr.step (stopPc_fr _ _) (by decide) (Fr.step (State.updPc_fr _ _ _) (by decide) (Fr.refl _ _)))) (by decide))))

theorem mapOutBank_fr (q : ℕ) (k : ℕ) (b : ℕ) (readable : Bool) (s : State) : Fr 399464432 s (mapOutBank q k b readable s) := by
  unfold mapOutBank
  exact (Fr.ite (Fr.step (abandonDst_fr _ _) (by decide) (Fr.refl _ _)) (by (try dsimp only); split <;> (try dsimp only); exact (Fr.refl _ _); exact (Fr.ite (Fr.step (retireRank_fr _ _ _ _) (by decide) (Fr.refl _ _)) (Fr.step (reportLoss_fr _ _ _) (by decide) (Fr.step (writeLog_fr _) (by decide) (Fr.step (moveBank_fr _ _ _ _ _ _) (by decide) (Fr.refl _ _)))))))

theorem setModel_fr (s : State) : Fr 67110912 s (setModel s) := by
  unfold setModel
  exact (Fr.u2048 (Fr.forN (fun _ _ => (by (try dsimp only); split <;> (try dsimp only); exact (Fr.refl _ _); exact (Fr.step (State.updLayer_fr _ _ _) (by decide) (Fr.refl _ _)))) _ (Fr.refl _ _)) (by decide))

theorem setThmAlert_fr (m : BitVec 6) (s : State) : Fr 133120 s (setThmAlert m s) := by
  unfold setThmAlert
  exact (Fr.iteB (Fr.refl _ _) (Fr.step (attend_fr _) (by decide) (Fr.u2048 (Fr.refl _ _) (by decide))))

theorem sensorRound_fr (vref : BitVec 12) (s : State) : Fr 399466480 s (sensorRound vref s) := by
  unfold sensorRound
  exact (Fr.ite (Fr.u2048 (Fr.u2048 (Fr.refl _ _) (by decide)) (by decide)) (Fr.step (fault_fr _ _ _) (by decide) (Fr.step (setThmAlert_fr _ _) (by decide) (Fr.u2048 (Fr.u2048 (Fr.refl _ _) (by decide)) (by decide)))))

theorem thermalEvents_fr (src : ℕ) (l : List (ℕ × ℤ)) (s : State) : Fr 399464432 s (thermalEvents src l s) := by
  unfold thermalEvents
  exact (by (try dsimp only); split <;> (try dsimp only); exact (Fr.refl _ _); exact (Fr.step (faultMany_fr _ _ _ _) (by decide) (Fr.refl _ _)))

theorem markBase_fr (i : ℕ) (a : State × Found) : Fr 2048 a.1 (markBase i a).1 := by
  unfold markBase
  exact (by (try dsimp only); exact (Fr.iteP (by (try dsimp only); exact (Fr.refl _ _)) (by (try dsimp only); exact (Fr.u2048 (Fr.refl _ _) (by decide)))))

theorem chargeAll_fr (f : State → State) (s : State) (hf : Fr 399464432 s (f s)) : Fr 399464432 s (chargeAll f s) := by
  unfold chargeAll
  exact Fr.iteT (Fr.step (raiseFault_fr _ _ _ _ _) (by decide) (Fr.refl _ _)) hf

theorem noteTrip_fr (src : ℕ) (t : ℤ) (s : State) : Fr 2048 s (noteTrip src t s) := by
  unfold noteTrip
  exact (Fr.u2048 (Fr.refl _ _) (by decide))

theorem judgeBase_fr (is : List ℕ) (a : State × Found) : Fr 2048 a.1 (judgeBase is a).1 := by
  unfold judgeBase
  exact (by (try dsimp only); exact Fr.foldlP (fun _ _ => (by (try dsimp only); exact (Fr.iteP (by (try dsimp only); exact (Fr.step (markBase_fr _ _) (by decide) (by (try dsimp only); exact (Fr.u2048 (Fr.refl _ _) (by decide))))) (by (try dsimp only); exact (Fr.u2048 (Fr.refl _ _) (by decide)))))) _ (Fr.refl _ _))

theorem markLayer_fr (k : ℕ) (b : Bool) (a : State × Found) : Fr 67108864 a.1 (markLayer k b a).1 := by
  unfold markLayer
  exact (by (try dsimp only); exact (Fr.iteP (by (try dsimp only); exact (Fr.refl _ _)) (by (try dsimp only); exact (Fr.step (State.updLayer_fr _ _ _) (by decide) (Fr.refl _ _)))))

theorem judgeModel_fr (ks : List ℕ) (a : State × Found) : Fr 67110912 a.1 (judgeModel ks a).1 := by
  unfold judgeModel
  exact (by (try dsimp only); exact (Fr.iteP (by (try dsimp only); exact (Fr.u67110912 (Fr.u2048 (Fr.refl _ _) (by decide)) (by decide))) (by (try dsimp only); exact (by (try dsimp only); exact Fr.foldlP (fun _ _ => (by (try dsimp only); exact (Fr.iteP (by (try dsimp only); exact (Fr.step (markLayer_fr _ _ _) (by decide) (by (try dsimp only); exact (by (try dsimp only); exact (Fr.iteP (by (try dsimp only); exact (Fr.step (markLayer_fr _ _ _) (by decide) (by (try dsimp only); exact (Fr.refl _ _)))) (by (try dsimp only); exact (Fr.refl _ _))))))) (by (try dsimp only); exact (by (try dsimp only); exact (Fr.iteP (by (try dsimp only); exact (Fr.step (markLayer_fr _ _ _) (by decide) (by (try dsimp only); exact (Fr.refl _ _)))) (by (try dsimp only); exact (Fr.refl _ _)))))))) _ (Fr.u2048 (Fr.refl _ _) (by decide))))))

theorem chargeBase_fr (n : ℕ) (t : ℤ) (s : State) : Fr 16384 s (chargeBase n t s) := by
  unfold chargeBase
  exact (Fr.u16384 (Fr.refl _ _) (by decide))

theorem tripBegin_fr (src : ℕ) (basis : ℕ) (t : ℤ) (s : State) : Fr 88464 s (tripBegin src basis t s) := by
  unfold tripBegin
  exact (Fr.u72080 (Fr.step (noteTrip_fr _ _ _) (by decide) (Fr.step (queueRecord_fr _ _) (by decide) (Fr.refl _ _))) (by decide))

theorem takeReading_fr (a : State × Found) (r : SensorReading) : Fr 67110912 a.1 (takeReading a r).1 := by
  unfold takeReading
  exact (by (try dsimp only); split <;> (try dsimp only); exact (by (try dsimp only); exact (Fr.iteP (by (try dsimp only); exact (Fr.step (State.updLayer_fr _ _ _) (by decide) (Fr.refl _ _))) (by (try dsimp only); exact (Fr.refl _ _)))); exact (by (try dsimp only); exact (Fr.iteP (by (try dsimp only); exact (Fr.step (State.updLayer_fr _ _ _) (by decide) (Fr.refl _ _))) (by (try dsimp only); exact (Fr.refl _ _)))); exact (Fr.u2048 (Fr.refl _ _) (by decide)); exact (by (try dsimp only); exact (Fr.iteP (by (try dsimp only); exact (Fr.refl _ _)) (by (try dsimp only); exact (by (try dsimp only); exact (Fr.iteP (by (try dsimp only); exact (Fr.step (markLayer_fr _ _ _) (by decide) (by (try dsimp only); exact (Fr.step (State.updLayer_fr _ _ _) (by decide) (Fr.refl _ _))))) (by (try dsimp only); exact (Fr.step (State.updLayer_fr _ _ _) (by decide) (Fr.refl _ _)))))))); exact (by (try dsimp only); exact (Fr.iteP (by (try dsimp only); exact (Fr.refl _ _)) (by (try dsimp only); exact (by (try dsimp only); exact (Fr.iteP (by (try dsimp only); exact (Fr.step (markLayer_fr _ _ _) (by decide) (by (try dsimp only); exact (Fr.step (State.updLayer_fr _ _ _) (by decide) (Fr.refl _ _))))) (by (try dsimp only); exact (Fr.step (State.updLayer_fr _ _ _) (by decide) (Fr.refl _ _)))))))); exact (by (try dsimp only); exact (Fr.iteP (by (try dsimp only); exact (Fr.step (markBase_fr _ _) (by decide) (by (try dsimp only); exact (Fr.u2048 (Fr.refl _ _) (by decide))))) (by (try dsimp only); exact (Fr.u2048 (Fr.refl _ _) (by decide))))))

theorem judgeBaseLevel_fr (a : State × Found) : Fr 10240 a.1 (judgeBaseLevel a).1 := by
  unfold judgeBaseLevel
  exact (Fr.u10240 (Fr.refl _ _) (by decide))

theorem diverge_fr (k : ℕ) (s : State) : Fr 67108864 s (diverge k s) := by
  unfold diverge
  exact (Fr.step (State.updLayer_fr _ _ _) (by decide) (Fr.refl _ _))

theorem markPair_fr (k : ℕ) (a : State × Found) : Fr 67108864 a.1 (markPair k a).1 := by
  unfold markPair
  exact (by (try dsimp only); exact (Fr.iteP (by (try dsimp only); exact (by (try dsimp only); exact (Fr.iteP (by (try dsimp only); exact (Fr.step (markLayer_fr _ _ _) (by decide) (by (try dsimp only); exact (Fr.refl _ _)))) (by (try dsimp only); exact (Fr.step (markLayer_fr _ _ _) (by decide) (by (try dsimp only); exact (Fr.refl _ _))))))) (by (try dsimp only); exact (Fr.refl _ _))))

theorem judgeLayer_fr (k : ℕ) (a : State × Found) : Fr 117440512 a.1 (judgeLayer k a).1 := by
  unfold judgeLayer
  exact (Fr.iteB (Fr.step (State.updLayer_fr _ _ _) (by decide) (Fr.refl _ _)) (Fr.step (setBase_fr _ _ _) (by decide) (Fr.refl _ _)))

theorem tripEvents_fr (boot : Bool) (src : ℕ) (l : List (ℕ × ℤ)) (s : State) : Fr 399464432 s (tripEvents boot src l s) := by
  unfold tripEvents
  exact (by (try dsimp only); split <;> (try dsimp only); exact (Fr.refl _ _); exact (Fr.ite (Fr.step (raiseFault_fr _ _ _ _ _) (by decide) (Fr.refl _ _)) (Fr.step (thermalEvents_fr _ _ _) (by decide) (Fr.refl _ _))))

theorem markEvents_fr (src : ℕ) (l : List (ℕ × ℤ)) (s : State) : Fr 399464432 s (markEvents src l s) := by
  unfold markEvents
  exact (by (try dsimp only); split <;> (try dsimp only); exact (Fr.refl _ _); exact (Fr.step (State.updSrc_fr _ _ _) (by decide) (Fr.step (raiseFault_fr _ _ _ _ _) (by decide) (Fr.refl _ _))))

theorem tripDown_fr (s : State) : Fr 390070272 s (tripDown s) := by
  unfold tripDown
  exact (Fr.iteT (Fr.step (layersOff_fr _) (by decide) (Fr.step (stopMemory_fr _) (by decide) (Fr.step (linksDown_fr _) (by decide) (Fr.refl _ _)))) (Fr.refl _ _))

theorem coverageLost_fr (l : List ℕ) (s : State) : Fr 399464432 s (coverageLost l s) := by
  unfold coverageLost
  exact (by (try dsimp only); split <;> (try dsimp only); exact (Fr.refl _ _); exact (Fr.step (raiseFault_fr _ _ _ _ _) (by decide) (Fr.refl _ _)))

theorem actRest_fr (f : Found) (base : ℤ) (boot : Bool) (s : State) : Fr 399466480 s (actRest f base boot s) := by
  unfold actRest
  exact (Fr.step (tripDown_fr _) (by decide) (Fr.step (faultMany_fr _ _ _ _) (by decide) (Fr.step (coverageLost_fr _ _) (by decide) (Fr.iteT (Fr.step (markEvents_fr _ _ _) (by decide) (Fr.refl _ _)) (Fr.step (markEvents_fr _ _ _) (by decide) (Fr.step (markEvents_fr _ _ _) (by decide) (Fr.step (tripEvents_fr _ _ _ _) (by decide) (Fr.step (thermalEvents_fr _ _ _) (by decide) (Fr.step (thermalEvents_fr _ _ _) (by decide) (Fr.step (tripEvents_fr _ _ _ _) (by decide) (Fr.step (thermalEvents_fr _ _ _) (by decide) (Fr.step (thermalEvents_fr _ _ _) (by decide) (Fr.forN (fun _ _ => (Fr.iteT (Fr.step (setThmAlert_fr _ _) (by decide) (Fr.refl _ _)) (Fr.refl _ _))) _ (Fr.refl _ _))))))))))))))

theorem tripFirst_fr (f : Found) (s : State) : Fr 88464 s (tripFirst f s) := by
  unfold tripFirst
  exact (by (try dsimp only); split <;> (try dsimp only); exact (Fr.refl _ _); exact (Fr.ite (Fr.step (noteTrip_fr _ _ _) (by decide) (Fr.step (queueRecord_fr _ _) (by decide) (Fr.refl _ _))) (Fr.step (tripBegin_fr _ _ _ _) (by decide) (Fr.refl _ _))))

theorem actOn_fr (f : Found) (s : State) : Fr 399466480 s (actOn f s) := by
  unfold actOn
  exact (Fr.step (actRest_fr _ _ _ _) (by decide) (Fr.step (tripFirst_fr _ _) (by decide) (Fr.refl _ _)))

theorem sample_fr (t : List SensorReading) (s : State) : Fr 399474672 s (sample t s) := by
  unfold sample
  exact (Fr.iteT (Fr.forN (fun _ _ => (Fr.iteB (Fr.refl _ _) (Fr.step (calDue_fr _ _) (by decide) (Fr.refl _ _)))) _ (Fr.refl _ _)) (Fr.step (actOn_fr _ _) (by decide) (by (try dsimp only); exact Fr.foldlP (fun _ _ => (Fr.step (judgeLayer_fr _ _) (by decide) (by (try dsimp only); exact (Fr.refl _ _)))) _ (Fr.step (judgeModel_fr _ _) (by decide) (by (try dsimp only); exact (by (try dsimp only); exact Fr.foldlP (fun _ _ => (Fr.step (markPair_fr _ _) (by decide) (by (try dsimp only); exact (Fr.refl _ _)))) _ (Fr.forL (fun _ _ => (Fr.step (diverge_fr _ _) (by decide) (Fr.refl _ _))) _ (Fr.step (judgeBase_fr _ _) (by decide) (by (try dsimp only); exact (by (try dsimp only); exact (Fr.iteP (by (try dsimp only); exact (by (try dsimp only); exact Fr.foldlP (fun _ _ => (Fr.step (takeReading_fr _ _) (by decide) (by (try dsimp only); exact (Fr.refl _ _)))) _ (Fr.refl _ _))) (by (try dsimp only); exact (Fr.step (judgeBaseLevel_fr _) (by decide) (by (try dsimp only); exact (by (try dsimp only); exact Fr.foldlP (fun _ _ => (Fr.step (takeReading_fr _ _) (by decide) (by (try dsimp only); exact (Fr.refl _ _)))) _ (Fr.refl _ _))))))))))))))))

theorem tripOver_fr (f : Found) (s : State) : Fr 399466480 s (tripOver f s) := by
  unfold tripOver
  exact (by (try dsimp only); split <;> (try dsimp only); exact (Fr.iteB (Fr.refl _ _) (Fr.step (actOn_fr _ _) (by decide) (Fr.u1072 (Fr.refl _ _) (by decide)))); exact (Fr.refl _ _))

theorem tripPin_fr (s : State) : Fr 2688 s (tripPin s) := by
  unfold tripPin
  exact (Fr.u2688 (Fr.refl _ _) (by decide))

theorem chargeLayer_fr (k : ℕ) (n : ℕ) (t : ℤ) (s : State) : Fr 67108864 s (chargeLayer k n t s) := by
  unfold chargeLayer
  exact (Fr.step (State.updLayer_fr _ _ _) (by decide) (Fr.refl _ _))

theorem committed_fr (j : JQueued) (s : State) : Fr 67177088 s (committed j s) := by
  unfold committed
  exact (Fr.ite (Fr.iteT (Fr.step (tripPin_fr _) (by decide) (Fr.refl _ _)) (Fr.u2048 (Fr.refl _ _) (by decide))) (Fr.iteT (Fr.step (shutdownDone_fr _) (by decide) (Fr.refl _ _)) (Fr.refl _ _)))

theorem putRecord_fr (kind : Byte) (inst : Byte) (payload : List Byte) (commit : Byte) (s : State) : Fr 16384 s (putRecord kind inst payload commit s) := by
  unfold putRecord
  exact (Fr.u16384 (Fr.refl _ _) (by decide))

theorem appendRecord_fr (y0 : ℕ) (y1 : Byte) (y2 : Byte) (y3 : List Byte) (y4 : State) : Fr 16384 y4 (appendRecord y0 y1 y2 y3 y4) := by
  induction y0 generalizing y1 y2 y3 y4 with
  | zero => exact Fr.refl _ _
  | succ n ih =>
    unfold appendRecord
    exact Fr.ite (Fr.step (putRecord_fr _ _ _ _ _) (by decide) (Fr.ite ((Fr.foldl (fun _ _ => ih _ _ _ _) _ (Fr.step (putRecord_fr _ _ _ _ _) (by decide) (Fr.refl _ _))).u16384 (by decide)) (Fr.refl _ _))) (Fr.step (ih _ _ _ _) (by decide) (Fr.u16384 (Fr.ite ((Fr.foldl (fun _ _ => ih _ _ _ _) _ (Fr.step (putRecord_fr _ _ _ _ _) (by decide) (Fr.refl _ _))).u16384 (by decide)) (Fr.refl _ _)) (by decide)))

theorem readJournal_fr (s : State) : Fr 16384 s (readJournal s) := by
  unfold readJournal
  exact (Fr.u16384 (Fr.refl _ _) (by decide))

theorem afStep_fr (t : BurnTry) (key : ℕ) (e : AfEntry) (l : List (BitVec 41)) (s : State) : Fr 399472624 s (afStep t key e l s) := by
  unfold afStep
  exact (by (try dsimp only); split <;> (try dsimp only); exact (Fr.u8192 (Fr.refl _ _) (by decide)); exact (Fr.u8192 (Fr.u8192 (Fr.refl _ _) (by decide)) (by decide)); exact (Fr.step (raiseFault_fr _ _ _ _ _) (by decide) (Fr.u8192 (Fr.refl _ _) (by decide))))

theorem override_fr (row : ℕ) (v : BitVec 56) (s : State) : Fr 8192 s (override row v s) := by
  unfold override
  exact (Fr.u8192 (Fr.refl _ _) (by decide))

theorem doOverride_fr (s : State) : Fr 8192 s (doOverride s) := by
  unfold doOverride
  exact (Fr.iteT (Fr.step (override_fr _ _ _) (by decide) (Fr.refl _ _)) (Fr.refl _ _))

theorem frameStep_fr (f : ℕ) (key : ℕ) (v : BitVec 56) (s : State) : Fr 8192 s (frameStep f key v s) := by
  unfold frameStep
  exact (Fr.ite (Fr.u8192 (Fr.refl _ _) (by decide)) (Fr.iteT (Fr.u8192 (Fr.refl _ _) (by decide)) (Fr.refl _ _)))

theorem burnFailed_fr (f : ℕ) (rest : List (ℕ × BitVec 56)) (key : ℕ) (v : BitVec 56) (s : State) : Fr 399472624 s (burnFailed f rest key v s) := by
  unfold burnFailed
  exact (by (try dsimp only); split <;> (try dsimp only); exact (Fr.u8192 (Fr.refl _ _) (by decide)); exact (Fr.ite (Fr.u8192 (Fr.step (frameStep_fr _ _ _ _) (by decide) (Fr.refl _ _)) (by decide)) (Fr.step (raiseFault_fr _ _ _ _ _) (by decide) (Fr.u8192 (Fr.refl _ _) (by decide)))))

theorem showBurnt_fr (key : ℕ) (v : BitVec 56) (s : State) : Fr 8192 s (showBurnt key v s) := by
  unfold showBurnt
  exact (Fr.iteT (Fr.step (override_fr _ _ _) (by decide) (Fr.refl _ _)) (Fr.refl _ _))

theorem blowRow_fr (row : ℕ) (v : BitVec 64) (s : State) : Fr 8192 s (blowRow row v s) := by
  unfold blowRow
  exact (Fr.u8192 (Fr.refl _ _) (by decide))

theorem blow_fr (key : ℕ) (v : BitVec 56) (s : State) : Fr 8192 s (blow key v s) := by
  unfold blow
  exact (Fr.ite (Fr.step (blowRow_fr _ _ _) (by decide) (Fr.refl _ _)) (Fr.u8192 (Fr.step (blowRow_fr _ _ _) (by decide) (Fr.refl _ _)) (by decide)))

theorem doClearOverrides_fr (s : State) : Fr 8192 s (doClearOverrides s) := by
  unfold doClearOverrides
  exact (Fr.iteT (Fr.u8192 (Fr.refl _ _) (by decide)) (Fr.refl _ _))

theorem burntEntries_fr (l : List RepairEntry) (s : State) : Fr 17039360 s (burntEntries l s) := by
  unfold burntEntries
  exact (Fr.forL (fun _ _ => (Fr.step (State.updPc_fr _ _ _) (by decide) (Fr.refl _ _))) _ (Fr.u262144 (Fr.refl _ _) (by decide)))

theorem burnStep_fr (t : BurnTry) (s : State) : Fr 399472624 s (burnStep t s) := by
  unfold burnStep
  exact (by (try dsimp only); split <;> (try dsimp only); exact (Fr.ite (Fr.refl _ _) (by (try dsimp only); split <;> (try dsimp only); exact (Fr.step (burnFailed_fr _ _ _ _ _) (by decide) (Fr.refl _ _)); exact (Fr.ite (Fr.step (burntEntries_fr _ _) (by decide) (Fr.u8192 (Fr.iteT (Fr.u8192 (Fr.refl _ _) (by decide)) (Fr.step (showBurnt_fr _ _ _) (by decide) (Fr.step (frameStep_fr _ _ _ _) (by decide) (Fr.step (blow_fr _ _ _) (by decide) (Fr.refl _ _))))) (by decide))) (Fr.u8192 (Fr.step (showBurnt_fr _ _ _) (by decide) (Fr.step (frameStep_fr _ _ _ _) (by decide) (Fr.step (blow_fr _ _ _) (by decide) (Fr.refl _ _)))) (by decide))))); exact (Fr.u8192 (Fr.refl _ _) (by decide)))

theorem doBurn_fr (t : BurnTry) (s : State) : Fr 8192 s (doBurn t s) := by
  unfold doBurn
  exact (Fr.iteB (Fr.refl _ _) (Fr.ite (Fr.u8192 (Fr.refl _ _) (by decide)) (Fr.ite (Fr.u8192 (Fr.refl _ _) (by decide)) (Fr.ite (Fr.u8192 (Fr.refl _ _) (by decide)) (Fr.ite (Fr.u8192 (Fr.refl _ _) (by decide)) (Fr.ite (Fr.u8192 (Fr.refl _ _) (by decide)) (by (try dsimp only); split <;> (try dsimp only); exact (Fr.u8192 (Fr.refl _ _) (by decide)); exact (Fr.step (blow_fr _ _ _) (by decide) (Fr.u8192 (Fr.refl _ _) (by decide))))))))))

theorem enterBlock_fr (b : ℕ) (s : State) : Fr 399505392 s (enterBlock b s) := by
  unfold enterBlock
  exact (Fr.iteT (Fr.step (fault_fr _ _ _) (by decide) (Fr.refl _ _)) (Fr.u32768 (Fr.step (override_fr _ _ _) (by decide) (Fr.step (blowRow_fr _ _ _) (by decide) (Fr.refl _ _))) (by decide)))

theorem refuseReport_fr (r : AttReq) (st : Status) (result : ℕ) (s : State) : Fr 4227072 s (refuseReport r st result s) := by
  unfold refuseReport
  exact (by (try dsimp only); split <;> (try dsimp only); exact (Fr.step (answerMgmt_fr _ _ _ _ _) (by decide) (Fr.refl _ _)); exact (Fr.u32768 (Fr.refl _ _) (by decide)))

theorem sendReport_fr (p : ℕ) (tag : ℕ) (report : List Byte) (s : State) : Fr 4194304 s (sendReport p tag report s) := by
  unfold sendReport
  exact (Fr.step (State.updPort_fr _ _ _) (by decide) (Fr.refl _ _))

theorem signReport_fr (r : AttReq) (s : State) : Fr 399497200 s (signReport r s) := by
  unfold signReport
  exact (Fr.iteT (Fr.step (raiseFault_fr _ _ _ _ _) (by decide) (Fr.refl _ _)) (by (try dsimp only); split <;> (try dsimp only); exact (Fr.step (sendReport_fr _ _ _ _) (by decide) (Fr.step (queueRecord_fr _ _) (by decide) (Fr.u32768 (Fr.refl _ _) (by decide)))); exact (Fr.u32768 (Fr.step (queueRecord_fr _ _) (by decide) (Fr.u32768 (Fr.refl _ _) (by decide))) (by decide))))

theorem askReport_fr (r : AttReq) (s : State) : Fr 32768 s (askReport r s) := by
  unfold askReport
  exact (Fr.u32768 (Fr.refl _ _) (by decide))

theorem endTest_fr (s : State) : Fr 81920 s (endTest s) := by
  unfold endTest
  exact (Fr.iteT (Fr.u65536 (Fr.refl _ _) (by decide)) (Fr.step (queueResult_fr _) (by decide) (Fr.u65536 (Fr.refl _ _) (by decide))))

theorem doBist_fr (mask : BitVec 20) (s : State) : Fr 323179136 s (doBist mask s) := by
  unfold doBist
  exact (Fr.iteB (Fr.u196608 (Fr.refl _ _) (by decide)) (Fr.ite (Fr.ite (Fr.step (startShutdown_fr _ _) (by decide) (Fr.u131072 (Fr.symm (Fr.u196608 (Fr.refl _ _) (by decide))) (by decide))) (Fr.refl _ _)) (Fr.ite (Fr.iteT (Fr.step (endTest_fr _) (by decide) (Fr.refl _ _)) (Fr.step (startSelfTest_fr _ _ _) (by decide) (Fr.u131072 (Fr.symm (Fr.u196608 (Fr.refl _ _) (by decide))) (by decide)))) (Fr.refl _ _))))

theorem excludeFailed_fr (s : State) : Fr 399464432 s (excludeFailed s) := by
  unfold excludeFailed
  exact (Fr.forL (fun _ _ => (Fr.step (raiseFault_fr _ _ _ _ _) (by decide) (Fr.forN (fun _ _ => (Fr.step (State.updPort_fr _ _ _) (by decide) (Fr.refl _ _))) _ (Fr.refl _ _)))) _ (Fr.forL (fun _ _ => (Fr.step (raiseFault_fr _ _ _ _ _) (by decide) (Fr.refl _ _))) _ (Fr.u65536 (Fr.refl _ _) (by decide))))

theorem doMoveToRetain_fr (s : State) : Fr 70272 s (doMoveToRetain s) := by
  unfold doMoveToRetain
  exact (Fr.step (moveRetain_fr _ _ _) (by decide) (Fr.refl _ _))

theorem chargeRest_fr (s : State) : Fr 399464432 s (chargeRest s) := by
  unfold chargeRest
  exact chargeAll_fr _ _ (Fr.step (chargeBase_fr _ _ _) (by decide) (Fr.iteT (Fr.forN (fun _ _ => Fr.iteT (Fr.step (chargeLayer_fr _ _ _ _) (by decide) (Fr.refl _ _)) (Fr.refl _ _)) _ (Fr.refl _ _)) (Fr.refl _ _)))

theorem powerLayers_fr (from_ : ℕ) (s : State) : Fr 385875972 s (powerLayers from_ s) := by
  unfold powerLayers
  exact (Fr.forL (fun _ _ => (Fr.iteT (Fr.step (calibrated_fr _ _ _) (by decide) (Fr.refl _ _)) (Fr.refl _ _))) _ (Fr.step (enterSelfRefresh_fr _) (by decide) (Fr.forL (fun _ _ => (Fr.iteT (Fr.step (arraySet_fr _ _ _) (by decide) (Fr.refl _ _)) (Fr.refl _ _))) _ (Fr.forN (fun _ _ => (Fr.iteT (Fr.step (State.updLayer_fr _ _ _) (by decide) (Fr.refl _ _)) (Fr.refl _ _))) _ (Fr.refl _ _)))))

theorem registerHeld_fr (s : State) : Fr 399464432 s (registerHeld s) := by
  unfold registerHeld
  exact (Fr.forL (fun _ _ => (Fr.step (fault_fr _ _ _) (by decide) (Fr.step (State.updSrc_fr _ _ _) (by decide) (Fr.refl _ _)))) _ (Fr.u1024 (Fr.refl _ _) (by decide)))

theorem standAtP3_fr (w : WakeRun) (t : List SensorReading) (s : State) : Fr 399474676 s (standAtP3 w t s) := by
  unfold standAtP3
  exact (Fr.ite (Fr.step (enterHold_fr _ _) (by decide) (Fr.step (registerHeld_fr _) (by decide) (Fr.step (setModel_fr _) (by decide) (Fr.step (sample_fr _ _) (by decide) (Fr.iteT (Fr.step (excludeFailed_fr _) (by decide) (Fr.u8192 (Fr.refl _ _) (by decide))) (Fr.u4096 (Fr.step (powerLayers_fr _ _) (by decide) (Fr.step (chargeRest_fr _) (by decide) (Fr.refl _ _))) (by decide))))))) (Fr.step (pinShutdown_fr _) (by decide) (Fr.step (checkMinimum_fr _) (by decide) (Fr.iteT (Fr.step (backToService_fr _) (by decide) (Fr.refl _ _)) (Fr.iteT (Fr.step (queueRecord_fr _ _) (by decide) (Fr.refl _ _)) (Fr.step (registerHeld_fr _) (by decide) (Fr.step (setModel_fr _) (by decide) (Fr.step (sample_fr _ _) (by decide) (Fr.iteT (Fr.step (excludeFailed_fr _) (by decide) (Fr.u8192 (Fr.refl _ _) (by decide))) (Fr.u4096 (Fr.step (powerLayers_fr _ _) (by decide) (Fr.step (chargeRest_fr _) (by decide) (Fr.refl _ _))) (by decide)))))))))))

theorem drawKey_fr (raw : List Byte) (fallback : Bool) (s : State) : Fr 262144 s (drawKey raw fallback s) := by
  unfold drawKey
  exact (Fr.u262144 (Fr.refl _ _) (by decide))

theorem zqRound_fr (zq : ZqMeas) (stepped : Bool) (s : State) : Fr 399464432 s (zqRound zq stepped s) := by
  unfold zqRound
  exact (Fr.ite (Fr.u4096 (Fr.refl _ _) (by decide)) (Fr.step (fault_fr _ _ _) (by decide) (Fr.u4096 (Fr.refl _ _) (by decide))))

theorem doDescendNow_fr (s : State) : Fr 70272 s (doDescendNow s) := by
  unfold doDescendNow
  exact (Fr.ite (Fr.step (moveRetain_fr _ _ _) (by decide) (Fr.refl _ _)) (Fr.iteT (Fr.ite (Fr.step (startEntry_fr _ _) (by decide) (Fr.refl _ _)) (Fr.iteT (Fr.step (startEntry_fr _ _) (by decide) (Fr.refl _ _)) (Fr.refl _ _))) (Fr.refl _ _)))

theorem enterRest_fr (target : ℕ) (s : State) : Fr 399464432 s (enterRest target s) := by
  unfold enterRest
  exact (Fr.u4736 (Fr.forN (fun _ _ => (Fr.iteT (Fr.step (State.updLayer_fr _ _ _) (by decide) (Fr.refl _ _)) (Fr.refl _ _))) _ (Fr.step (mapSlices_fr _ _) (by decide) (Fr.step (eraseSlices_fr _ _) (by decide) (Fr.forN (fun _ _ => (Fr.iteB (Fr.refl _ _) (Fr.step (State.updPort_fr _ _ _) (by decide) (Fr.refl _ _)))) _ (Fr.iteT (Fr.step (chargeRest_fr _) (by decide) (Fr.refl _ _)) (Fr.refl _ _)))))) (by decide))

theorem completeEntry_fr (target : ℕ) (s : State) : Fr 399464432 s (completeEntry target s) := by
  unfold completeEntry
  exact (by (try dsimp only); split <;> (try dsimp only); exact (Fr.step (mapSlices_fr _ _) (by decide) (Fr.u4096 (Fr.forN (fun _ _ => (Fr.iteB (Fr.refl _ _) (Fr.step (State.updChan_fr _ _ _) (by decide) (Fr.step (State.updPc_fr _ _ _) (by decide) (Fr.refl _ _))))) _ (Fr.u4096 (Fr.refl _ _) (by decide))) (by decide))); exact (Fr.iteT (Fr.step (retainEntry_fr _) (by decide) (Fr.refl _ _)) (Fr.step (enterSelfRefresh_fr _) (by decide) (Fr.u4096 (Fr.forN (fun _ _ => (Fr.iteB (Fr.refl _ _) (Fr.step (State.updPc_fr _ _ _) (by decide) (Fr.refl _ _)))) _ (Fr.u4096 (Fr.refl _ _) (by decide))) (by decide)))); exact (Fr.step (retainEntry_fr _) (by decide) (Fr.u4096 (Fr.refl _ _) (by decide))); exact (Fr.step (enterRest_fr _ _) (by decide) (Fr.u4096 (Fr.refl _ _) (by decide))))

theorem doReturnToService_fr (s : State) : Fr 50418320 s (doReturnToService s) := by
  unfold doReturnToService
  exact (Fr.ite (by (try dsimp only); split <;> (try dsimp only); exact (Fr.iteT (Fr.step (abandonEntry_fr _ _ _) (by decide) (Fr.refl _ _)) (Fr.u4096 (Fr.refl _ _) (by decide))); exact (Fr.u4096 (Fr.refl _ _) (by decide))) (Fr.step (wakeEvent_fr _ _ _) (by decide) (Fr.refl _ _)))

theorem twoWireWake_fr (s : State) : Fr 50549392 s (twoWireWake s) := by
  unfold twoWireWake
  exact (Fr.iteT (Fr.step (wakeEvent_fr _ _ _) (by decide) (Fr.u131072 (Fr.refl _ _) (by decide))) (Fr.refl _ _))

theorem tickSet_fr (i : ℕ) (s : State) : Fr 134217728 s (tickSet i s) := by
  unfold tickSet
  exact (Fr.iteT (Fr.step (State.updCset_fr _ _ _) (by decide) (Fr.refl _ _)) (Fr.refl _ _))

theorem bootTick_fr (s : State) : Fr 384 s (bootTick s) := by
  unfold bootTick
  exact (Fr.ite (Fr.u256 (Fr.refl _ _) (by decide)) (Fr.iteT (Fr.u384 (Fr.refl _ _) (by decide)) (Fr.refl _ _)))

theorem clearSet_fr (i : ℕ) (s : State) : Fr 134217728 s (clearSet i s) := by
  unfold clearSet
  exact (Fr.iteT (Fr.step (State.updCset_fr _ _ _) (by decide) (Fr.refl _ _)) (Fr.refl _ _))

theorem loadFaults_fr (x : Option ImageSection) (s : State) : Fr 1024 s (loadFaults x s) := by
  unfold loadFaults
  exact (Fr.u1024 (Fr.forN (fun _ _ => (Fr.step (State.updSrc_fr _ _ _) (by decide) (Fr.refl _ _))) _ (Fr.refl _ _)) (by decide))

theorem loadImage_fr (c : ImageCopy) (s : State) : Fr 141433856 s (loadImage c s) := by
  unfold loadImage
  exact (Fr.u3020800 (Fr.forN (fun _ _ => (Fr.step (State.updCset_fr _ _ _) (by decide) (Fr.refl _ _))) _ (Fr.step (loadFaults_fr _ _) (by decide) (Fr.forN (fun _ _ => (Fr.step (State.updPort_fr _ _ _) (by decide) (Fr.refl _ _))) _ (Fr.refl _ _)))) (by decide))

theorem writeBlock08_fr (off : ℕ) (v : ℕ) (s : State) : Fr 8192 s (writeBlock08 off v s) := by
  unfold writeBlock08
  exact (by (try dsimp only); split <;> (try dsimp only); exact (Fr.u8192 (Fr.refl _ _) (by decide)); exact (Fr.u8192 (Fr.refl _ _) (by decide)); exact (Fr.u8192 (Fr.refl _ _) (by decide)); exact (Fr.u8192 (Fr.refl _ _) (by decide)); exact (Fr.u8192 (Fr.refl _ _) (by decide)); exact (Fr.u8192 (Fr.refl _ _) (by decide)); exact (Fr.refl _ _))

theorem writePort_fr (p : ℕ) (off : ℕ) (v : ℕ) (lock : Bool) (s : State) : Fr 4194304 s (writePort p off v lock s) := by
  unfold writePort
  exact (Fr.ite (Fr.refl _ _) (by (try dsimp only); split <;> (try dsimp only); exact (Fr.step (State.updPort_fr _ _ _) (by decide) (Fr.refl _ _)); exact (Fr.iteT (Fr.step (State.updPort_fr _ _ _) (by decide) (Fr.refl _ _)) (Fr.refl _ _)); exact (Fr.iteT (Fr.step (State.updPort_fr _ _ _) (by decide) (Fr.refl _ _)) (Fr.refl _ _)); exact (Fr.iteT (Fr.step (State.updPort_fr _ _ _) (by decide) (Fr.refl _ _)) (Fr.refl _ _)); exact (by (try dsimp only); split <;> (try dsimp only); exact (Fr.iteT (Fr.step (State.updPort_fr _ _ _) (by decide) (Fr.refl _ _)) (Fr.refl _ _)); exact (Fr.iteT (Fr.step (State.updPort_fr _ _ _) (by decide) (Fr.refl _ _)) (Fr.refl _ _)); exact (Fr.iteT (Fr.step (State.updPort_fr _ _ _) (by decide) (Fr.refl _ _)) (Fr.refl _ _)); exact (Fr.refl _ _))))

theorem writeBlock01_fr (off : ℕ) (v : ℕ) (act : Bool) (lock : Bool) (s : State) : Fr 4096 s (writeBlock01 off v act lock s) := by
  unfold writeBlock01
  exact (by (try dsimp only); split <;> (try dsimp only); exact (Fr.iteT (Fr.u4096 (Fr.refl _ _) (by decide)) (Fr.refl _ _)); exact (Fr.iteT (Fr.u4096 (Fr.refl _ _) (by decide)) (Fr.refl _ _)); exact (Fr.u4096 (Fr.refl _ _) (by decide)); exact (Fr.u4096 (Fr.refl _ _) (by decide)); exact (Fr.u4096 (Fr.refl _ _) (by decide)); exact (Fr.u4096 (Fr.refl _ _) (by decide)); exact (Fr.u4096 (Fr.refl _ _) (by decide)); exact (Fr.iteT (Fr.u4096 (Fr.refl _ _) (by decide)) (Fr.refl _ _)); exact (Fr.u4096 (Fr.refl _ _) (by decide)); exact (Fr.u4096 (Fr.refl _ _) (by decide)); exact (by (try dsimp only); split <;> (try dsimp only); exact (Fr.iteB (Fr.refl _ _) (Fr.u4096 (Fr.refl _ _) (by decide))); exact (Fr.refl _ _)))

theorem State.clearRc_fr (s : State) (a : ℕ) : Fr 12997632 s (State.clearRc s a) := by
  unfold State.clearRc
  exact (by (try dsimp only); split <;> (try dsimp only); exact (Fr.iteT (Fr.u4096 (Fr.refl _ _) (by decide)) (Fr.refl _ _)); exact (by (try dsimp only); split <;> (try dsimp only); exact (Fr.iteB (Fr.refl _ _) (Fr.step (State.updSrc_fr _ _ _) (by decide) (Fr.refl _ _))); exact (Fr.refl _ _)); exact (Fr.step (State.updPort_fr _ _ _) (by decide) (Fr.refl _ _)); exact (Fr.step (State.updChan_fr _ _ _) (by decide) (Fr.refl _ _)); exact (by (try dsimp only); split <;> (try dsimp only); exact (Fr.step (State.updPort_fr _ _ _) (by decide) (Fr.refl _ _)); exact (Fr.refl _ _)); exact (Fr.iteT (Fr.u16384 (Fr.refl _ _) (by decide)) (Fr.refl _ _)); exact (Fr.iteT (Fr.u131072 (Fr.refl _ _) (by decide)) (Fr.refl _ _)); exact (Fr.iteT (Fr.u262144 (Fr.refl _ _) (by decide)) (Fr.refl _ _)); exact (Fr.refl _ _))

theorem writeChan_fr (n : ℕ) (off : ℕ) (v : ℕ) (s : State) : Fr 8388608 s (writeChan n off v s) := by
  unfold writeChan
  exact (by (try dsimp only); split <;> (try dsimp only); exact (Fr.step (State.updChan_fr _ _ _) (by decide) (Fr.refl _ _)); exact (Fr.step (State.updChan_fr _ _ _) (by decide) (Fr.refl _ _)); exact (Fr.refl _ _))

theorem writeBlock03_fr (off : ℕ) (v : ℕ) (act : Bool) (lock : Bool) (s : State) : Fr 1024 s (writeBlock03 off v act lock s) := by
  unfold writeBlock03
  exact (Fr.ite (Fr.u1024 (Fr.refl _ _) (by decide)) (Fr.ite (Fr.iteT (Fr.u1024 (Fr.refl _ _) (by decide)) (Fr.refl _ _)) (Fr.iteT (Fr.ite (Fr.refl _ _) (by (try dsimp only); split <;> (try dsimp only); exact (Fr.iteT (Fr.step (State.updSrc_fr _ _ _) (by decide) (Fr.refl _ _)) (Fr.refl _ _)); exact (Fr.iteT (Fr.step (State.updSrc_fr _ _ _) (by decide) (Fr.refl _ _)) (Fr.refl _ _)); exact (Fr.refl _ _))) (Fr.refl _ _))))

theorem writeBlock0C_fr (off : ℕ) (v : ℕ) (act : Bool) (lock : Bool) (s : State) : Fr 131072 s (writeBlock0C off v act lock s) := by
  unfold writeBlock0C
  exact (Fr.ite (Fr.iteT (Fr.u131072 (Fr.refl _ _) (by decide)) (Fr.refl _ _)) (Fr.iteT (Fr.iteT (Fr.u131072 (Fr.refl _ _) (by decide)) (Fr.refl _ _)) (Fr.refl _ _)))

theorem State.readAt_fr (s : State) (v : View) (a : ℕ) : Fr 147215364 s (State.readAt s v a).1 := by
  unfold State.readAt
  exact (by (try dsimp only); exact (Fr.iteP (by (try dsimp only); exact (Fr.u4 (by (try dsimp only); split <;> (try dsimp only); exact (Fr.iteT (Fr.step (State.updCset_fr _ _ _) (by decide) (Fr.refl _ _)) (Fr.refl _ _)); exact (Fr.step (State.clearRc_fr _ _) (by decide) (Fr.refl _ _))) (by decide))) (by (try dsimp only); exact (Fr.refl _ _))))

theorem writeBlock02_fr (off : ℕ) (v : ℕ) (act : Bool) (s : State) : Fr 2048 s (writeBlock02 off v act s) := by
  unfold writeBlock02
  exact (by (try dsimp only); split <;> (try dsimp only); exact (Fr.iteT (Fr.u2048 (Fr.refl _ _) (by decide)) (Fr.refl _ _)); exact (Fr.u2048 (Fr.refl _ _) (by decide)); exact (Fr.refl _ _))

theorem writeBlock04_fr (off : ℕ) (v : ℕ) (act : Bool) (s : State) : Fr 134217728 s (writeBlock04 off v act s) := by
  unfold writeBlock04
  exact (Fr.ite (Fr.refl _ _) (by (try dsimp only); split <;> (try dsimp only); exact (Fr.step (State.updCset_fr _ _ _) (by decide) (Fr.refl _ _)); exact (Fr.step (State.updCset_fr _ _ _) (by decide) (Fr.refl _ _)); exact (Fr.step (State.updCset_fr _ _ _) (by decide) (Fr.refl _ _)); exact (Fr.iteT (Fr.step (State.updCset_fr _ _ _) (by decide) (Fr.refl _ _)) (Fr.refl _ _)); exact (by (try dsimp only); split <;> (try dsimp only); exact (Fr.iteT (Fr.step (State.updCset_fr _ _ _) (by decide) (Fr.refl _ _)) (Fr.refl _ _)); exact (Fr.iteT (Fr.step (State.updCset_fr _ _ _) (by decide) (Fr.refl _ _)) (Fr.refl _ _)); exact (Fr.refl _ _))))

theorem writeBlock07_fr (off : ℕ) (v : ℕ) (s : State) : Fr 4718592 s (writeBlock07 off v s) := by
  unfold writeBlock07
  exact (Fr.ite (Fr.u524288 (Fr.refl _ _) (by decide)) (by (try dsimp only); split <;> (try dsimp only); exact (Fr.iteT (Fr.step (State.updPort_fr _ _ _) (by decide) (Fr.refl _ _)) (Fr.refl _ _)); exact (Fr.iteT (Fr.step (State.updPort_fr _ _ _) (by decide) (Fr.refl _ _)) (Fr.refl _ _)); exact (Fr.iteT (Fr.step (State.updPort_fr _ _ _) (by decide) (Fr.refl _ _)) (Fr.refl _ _)); exact (Fr.refl _ _)))

theorem writeBlock0D_fr (off : ℕ) (v : ℕ) (act : Bool) (lock : Bool) (s : State) : Fr 17039360 s (writeBlock0D off v act lock s) := by
  unfold writeBlock0D
  exact (by (try dsimp only); split <;> (try dsimp only); exact (Fr.u262144 (Fr.refl _ _) (by decide)); exact (Fr.iteT (Fr.u262144 (Fr.refl _ _) (by decide)) (Fr.refl _ _)); exact (Fr.u262144 (Fr.refl _ _) (by decide)); exact (Fr.u262144 (Fr.refl _ _) (by decide)); exact (by (try dsimp only); split <;> (try dsimp only); exact (Fr.iteT (Fr.step (State.updPc_fr _ _ _) (by decide) (Fr.refl _ _)) (Fr.refl _ _)); exact (Fr.refl _ _)))

theorem State.writeReg_fr (s : State) (view : View) (a : ℕ) (d : Word) : Fr 164625408 s (State.writeReg s view a d) := by
  unfold State.writeReg
  exact (Fr.ite (Fr.refl _ _) (by (try dsimp only); split <;> (try dsimp only); exact (Fr.step (writeBlock01_fr _ _ _ _ _) (by decide) (Fr.refl _ _)); exact (Fr.step (writeBlock02_fr _ _ _ _) (by decide) (Fr.refl _ _)); exact (Fr.step (writeBlock03_fr _ _ _ _ _) (by decide) (Fr.refl _ _)); exact (Fr.step (writeBlock04_fr _ _ _ _) (by decide) (Fr.refl _ _)); exact (Fr.step (writePort_fr _ _ _ _ _) (by decide) (Fr.refl _ _)); exact (Fr.step (writeChan_fr _ _ _ _) (by decide) (Fr.refl _ _)); exact (Fr.iteT (Fr.step (writeBlock07_fr _ _ _) (by decide) (Fr.refl _ _)) (Fr.refl _ _)); exact (Fr.step (writeBlock08_fr _ _ _) (by decide) (Fr.refl _ _)); exact (Fr.iteT (Fr.u16384 (Fr.refl _ _) (by decide)) (Fr.refl _ _)); exact (by (try dsimp only); split <;> (try dsimp only); exact (Fr.u32768 (Fr.refl _ _) (by decide)); exact (Fr.refl _ _)); exact (Fr.iteT (Fr.u65536 (Fr.refl _ _) (by decide)) (Fr.refl _ _)); exact (Fr.step (writeBlock0C_fr _ _ _ _ _) (by decide) (Fr.refl _ _)); exact (Fr.step (writeBlock0D_fr _ _ _ _ _) (by decide) (Fr.refl _ _)); exact (Fr.refl _ _)))

theorem setCause_fr (b : Bool) (c : ℕ) (s : State) : Fr 256 s (setCause b c s) := by
  unfold setCause
  exact (Fr.ite (Fr.u256 (Fr.refl _ _) (by decide)) (Fr.u256 (Fr.refl _ _) (by decide)))

theorem headerCauses_fr (l : List (Bool × Option ImageCopy)) (s : State) : Fr 256 s (headerCauses l s).1 := by
  unfold headerCauses
  exact (by (try dsimp only); exact Fr.foldlP (fun _ _ => (by (try dsimp only); split <;> (try dsimp only); exact (Fr.step (setCause_fr _ _ _) (by decide) (Fr.refl _ _)); exact (by (try dsimp only); exact (Fr.iteP (by (try dsimp only); exact (Fr.refl _ _)) (by (try dsimp only); exact (Fr.step (setCause_fr _ _ _) (by decide) (Fr.refl _ _))))))) _ (Fr.refl _ _))

theorem examineCopies_fr (v : List SigCheck) (y1 : List (Bool × ImageCopy)) (y2 : State) : Fr 256 y2 (examineCopies v y1 y2).1 := by
  induction y1 generalizing y2 with
  | nil => exact Fr.refl _ _
  | cons a l ih =>
    unfold examineCopies
    dsimp only
    split
    · exact setCause_fr _ _ _
    · exact Fr.step (ih _) (by decide) (setCause_fr _ _ _)

theorem takeWear_fr (r : Option JournalRecord) (s : State) : Fr 399464432 s (takeWear r s) := by
  unfold takeWear
  exact (Fr.iteT (Fr.step (raiseFault_fr _ _ _ _ _) (by decide) (Fr.refl _ _)) (Fr.step (chargeAll_fr _ _ (Fr.forN (fun _ _ => Fr.iteT (Fr.step (State.updLayer_fr _ _ _) (by decide) (Fr.refl _ _)) (Fr.refl _ _)) _ (Fr.refl _ _))) (by decide) (Fr.forN (fun _ _ => (Fr.step (State.updLayer_fr _ _ _) (by decide) (Fr.refl _ _))) _ (Fr.u16384 (Fr.refl _ _) (by decide)))))

theorem fullTraining_fr (q : ℕ) (s : State) : Fr 50348036 s (fullTraining q s) := by
  unfold fullTraining
  exact (Fr.step (queueRecord_fr _ _) (by decide) (Fr.step (State.updPc_fr _ _ _) (by decide) (Fr.forL (fun _ _ => (Fr.step (calibrated_fr _ _ _) (by decide) (Fr.refl _ _))) _ (Fr.refl _ _))))

theorem substituteBoot_fr (q : ℕ) (r : ℕ) (k : ℕ) (want : Option ℕ) (s : State) : Fr 262144 s (substituteBoot q r k want s) := by
  unfold substituteBoot
  exact (by (try dsimp only); split <;> (try dsimp only); exact (Fr.forN (fun _ _ => (Fr.iteT (Fr.step (State.setBank_fr _ _ _ _ _) (by decide) (Fr.refl _ _)) (Fr.refl _ _))) _ (Fr.step (State.setRank_fr _ _ _ _) (by decide) (Fr.refl _ _))); exact (Fr.step (State.setRank_fr _ _ _ _) (by decide) (Fr.refl _ _)))

theorem clearLayerBoot_fr (k : ℕ) (s : State) : Fr 262144 s (clearLayerBoot k s) := by
  unfold clearLayerBoot
  exact (Fr.forN (fun _ _ => (Fr.forN (fun _ _ => (Fr.iteT (Fr.step (substituteBoot_fr _ _ _ _ _) (by decide) (Fr.refl _ _)) (Fr.refl _ _))) _ (Fr.refl _ _))) _ (Fr.refl _ _))

theorem failLayer_fr (k : ℕ) (s : State) : Fr 399464432 s (failLayer k s) := by
  unfold failLayer
  exact (Fr.step (writeLog_fr _) (by decide) (Fr.step (raiseFault_fr _ _ _ _ _) (by decide) (Fr.forN (fun _ _ => (Fr.forN (fun _ _ => (Fr.iteT (Fr.ite (Fr.step (logRepair_fr _ _ _) (by decide) (Fr.refl _ _)) (Fr.step (logRepair_fr _ _ _) (by decide) (Fr.refl _ _))) (Fr.refl _ _))) _ (Fr.refl _ _))) _ (Fr.step (logRepair_fr _ _ _) (by decide) (Fr.iteB (Fr.step (clearLayerBoot_fr _ _) (by decide) (Fr.step (State.updLayer_fr _ _ _) (by decide) (Fr.refl _ _))) (Fr.u262144 (Fr.refl _ _) (by decide)))))))

theorem trainRest_fr (q : ℕ) (s : State) : Fr 33554436 s (trainRest q s) := by
  unfold trainRest
  exact (Fr.forL (fun _ _ => (Fr.iteT (Fr.step (calibrated_fr _ _ _) (by decide) (Fr.refl _ _)) (Fr.refl _ _))) _ (Fr.refl _ _))

theorem restoreTraining_fr (q : ℕ) (r : JournalRecord) (s : State) : Fr 33554432 s (restoreTraining q r s) := by
  unfold restoreTraining
  exact (Fr.forN (fun _ _ => (Fr.iteT (Fr.step (State.updSlice_fr _ _ _ _) (by decide) (Fr.refl _ _)) (Fr.refl _ _))) _ (Fr.refl _ _))

theorem failTraining_fr (q : ℕ) (t : TsvRef) (still : Bool) (s : State) : Fr 399464436 s (failTraining q t still s) := by
  unfold failTraining
  exact (Fr.ite (Fr.step (fullTraining_fr _ _) (by decide) (Fr.step (steerTsv_fr _ _ _) (by decide) (Fr.refl _ _))) (Fr.step (State.updPc_fr _ _ _) (by decide) (Fr.step (raiseFault_fr _ _ _ _ _) (by decide) (Fr.u262144 (Fr.step (State.updPc_fr _ _ _) (by decide) (Fr.step (steerTsv_fr _ _ _) (by decide) (Fr.refl _ _))) (by decide)))))

theorem trainPc_fr (r : TrainRead) (q : ℕ) (s : State) : Fr 399464436 s (trainPc r q s).1 := by
  unfold trainPc
  exact (by (try dsimp only); split <;> (try dsimp only); exact (Fr.step (trainRest_fr _ _) (by decide) (Fr.step (restoreTraining_fr _ _ _) (by decide) (Fr.refl _ _))); exact (by (try dsimp only); split <;> (try dsimp only); exact (Fr.step (failTraining_fr _ _ _ _) (by decide) (Fr.refl _ _)); exact (Fr.step (fullTraining_fr _ _) (by decide) (Fr.refl _ _))))

theorem bootReadings_fr (t : List SensorReading) (s : State) : Fr 399466480 s (bootReadings t s) := by
  unfold bootReadings
  exact (Fr.step (actOn_fr _ _) (by decide) (Fr.u2048 (Fr.forL (fun _ _ => (Fr.step (State.updLayer_fr _ _ _) (by decide) (Fr.refl _ _))) _ (by (try dsimp only); exact Fr.foldlP (fun _ _ => (Fr.step (takeReading_fr _ _) (by decide) (by (try dsimp only); exact (Fr.refl _ _)))) _ (Fr.refl _ _))) (by decide)))

theorem initSlice_fr (r : LayerInitRead) (q : ℕ) (k : ℕ) (s : State) : Fr 318767104 s (initSlice r q k s) := by
  unfold initSlice
  exact (Fr.step (State.updSlice_fr _ _ _ _) (by decide) (Fr.step (arraySet_fr _ _ _) (by decide) (Fr.step (applyAntifuse_fr _ _ _ _) (by decide) (Fr.step (State.updSlice_fr _ _ _ _) (by decide) (Fr.refl _ _)))))

theorem finishLayers_fr (r : LayerInitRead) (s : State) : Fr 399466480 s (finishLayers r s) := by
  unfold finishLayers
  exact (Fr.iteB (Fr.iteT (Fr.step (bootReadings_fr _ _) (by decide) (Fr.refl _ _)) (Fr.step (sensorRound_fr _ _) (by decide) (Fr.forN (fun _ _ => (Fr.step (State.updLayer_fr _ _ _) (by decide) (Fr.refl _ _))) _ (Fr.refl _ _)))) (Fr.u256 (Fr.forN (fun _ _ => (Fr.forN (fun _ _ => (Fr.ite (Fr.step (initSlice_fr _ _ _ _) (by decide) (Fr.refl _ _)) (Fr.step (State.updSlice_fr _ _ _ _) (by decide) (Fr.refl _ _)))) _ (Fr.refl _ _))) _ (Fr.forN (fun _ _ => (Fr.iteT (Fr.step (countAf_fr _ _ _) (by decide) (Fr.refl _ _)) (Fr.refl _ _))) _ (Fr.forN (fun _ _ => (Fr.iteT (Fr.step (State.updLayer_fr _ _ _) (by decide) (Fr.refl _ _)) (Fr.refl _ _))) _ (Fr.refl _ _)))) (by decide)))

theorem clocksUp_fr (s : State) : Fr 4198400 s (clocksUp s) := by
  unfold clocksUp
  exact (Fr.forN (fun _ _ => (Fr.iteT (Fr.step (State.updPort_fr _ _ _) (by decide) (Fr.refl _ _)) (Fr.refl _ _))) _ (Fr.u4096 (Fr.refl _ _) (by decide)))

theorem showRecord_fr (x : JournalRecord) (s : State) : Fr 1024 s (showRecord x s) := by
  unfold showRecord
  exact (Fr.u1024 (Fr.refl _ _) (by decide))

theorem takeFaultRecords_fr (trip : Option JournalRecord) (flt : Option JournalRecord) (s : State) : Fr 1024 s (takeFaultRecords trip flt s) := by
  unfold takeFaultRecords
  exact (by (try dsimp only); split <;> (try dsimp only); exact (Fr.ite (Fr.step (showRecord_fr _ _) (by decide) (Fr.step (showRecord_fr _ _) (by decide) (Fr.refl _ _))) (Fr.step (showRecord_fr _ _) (by decide) (Fr.step (showRecord_fr _ _) (by decide) (Fr.refl _ _)))); exact (Fr.step (showRecord_fr _ _) (by decide) (Fr.refl _ _)); exact (Fr.step (showRecord_fr _ _) (by decide) (Fr.refl _ _)); exact (Fr.refl _ _))

theorem takeBist_fr (r : Option JournalRecord) (s : State) : Fr 399464432 s (takeBist r s) := by
  unfold takeBist
  exact (by (try dsimp only); split <;> (try dsimp only); exact (Fr.u65536 (Fr.refl _ _) (by decide)); exact (Fr.step (fault_fr _ _ _) (by decide) (Fr.u65792 (Fr.refl _ _) (by decide))))

theorem trainAll_fr (r : TrainRead) (s : State) : Fr 399464436 s (trainAll r s) := by
  unfold trainAll
  exact (Fr.u256 (by (try dsimp only); exact Fr.foldlP (fun _ _ => (by (try dsimp only); exact (Fr.iteP (by (try dsimp only); exact (Fr.refl _ _)) (by (try dsimp only); exact (Fr.step (trainPc_fr _ _ _) (by decide) (Fr.refl _ _)))))) _ (Fr.refl _ _)) (by decide))

theorem applyEntry_fr (burnt : Bool) (e : RepairEntry) (s : State) : Fr 84148224 s (applyEntry burnt e s) := by
  unfold applyEntry
  exact (by (try dsimp only); split <;> (try dsimp only); exact (Fr.iteB (Fr.refl _ _) (Fr.step (State.updPc_fr _ _ _) (by decide) (Fr.step (State.updPc_fr _ _ _) (by decide) (Fr.refl _ _)))); exact (by (try dsimp only); split <;> (try dsimp only); exact (Fr.refl _ _); exact (Fr.step (State.setBank_fr _ _ _ _ _) (by decide) (Fr.refl _ _))); exact (by (try dsimp only); split <;> (try dsimp only); exact (Fr.step (substituteBoot_fr _ _ _ _ _) (by decide) (Fr.refl _ _)); exact (Fr.refl _ _)); exact (Fr.forN (fun _ _ => (by (try dsimp only); split <;> (try dsimp only); exact (Fr.step (State.setRank_fr _ _ _ _) (by decide) (Fr.refl _ _)); exact (Fr.refl _ _))) _ (Fr.refl _ _)); exact (Fr.iteT (Fr.step (clearLayerBoot_fr _ _) (by decide) (Fr.step (State.updLayer_fr _ _ _) (by decide) (Fr.refl _ _))) (Fr.refl _ _)); exact (Fr.refl _ _))

theorem bringUp_fr (s : State) : Fr 533714928 s (bringUp s) := by
  unfold bringUp
  exact (Fr.ite (Fr.step (enterHold_fr _ _) (by decide) (Fr.u256 (Fr.refl _ _) (by decide))) (Fr.ite (Fr.step (pinShutdown_fr _) (by decide) (Fr.step (serviceEntry_fr _) (by decide) (Fr.forN (fun _ _ => (Fr.iteT (Fr.step (State.updPort_fr _ _ _) (by decide) (Fr.refl _ _)) (Fr.refl _ _))) _ (Fr.u256 (Fr.refl _ _) (by decide))))) (Fr.u256 (Fr.forN (fun _ _ => (Fr.iteT (Fr.step (State.updPort_fr _ _ _) (by decide) (Fr.refl _ _)) (Fr.refl _ _))) _ (Fr.u256 (Fr.refl _ _) (by decide))) (by decide))))

theorem checkBudget_fr (s : State) : Fr 533714928 s (checkBudget s) := by
  unfold checkBudget
  exact (Fr.ite (Fr.step (bringUp_fr _) (by decide) (Fr.u524544 (Fr.refl _ _) (by decide))) (Fr.ite (Fr.u256 (Fr.step (setCause_fr _ _ _) (by decide) (Fr.u524288 (Fr.u524544 (Fr.refl _ _) (by decide)) (by decide))) (by decide)) (Fr.step (enterHold_fr _ _) (by decide) (Fr.step (setCause_fr _ _ _) (by decide) (Fr.u524288 (Fr.u524544 (Fr.refl _ _) (by decide)) (by decide))))))

theorem applyRepairs_fr (s : State) : Fr 84148224 s (applyRepairs s) := by
  unfold applyRepairs
  exact (Fr.u262144 (Fr.forL (fun _ _ => (Fr.step (applyEntry_fr _ _ _) (by decide) (Fr.refl _ _))) _ (Fr.u262144 (Fr.refl _ _) (by decide))) (by decide))

theorem dropWork_fr (p : ℕ) (tag : ℕ) (serial : ℕ) (s : State) : Fr 16777216 s (dropWork p tag serial s) := by
  unfold dropWork
  exact (Fr.forN (fun _ _ => (Fr.iteB (Fr.refl _ _) (Fr.step (State.updPc_fr _ _ _) (by decide) (Fr.refl _ _)))) _ (Fr.refl _ _))

theorem lockstep_fr (s : State) : Fr 399464432 s (lockstep s) := by
  unfold lockstep
  exact (Fr.iteB (Fr.refl _ _) (Fr.ite (Fr.ite (Fr.u512 (Fr.step (raiseFault_fr _ _ _ _ _) (by decide) (Fr.u256 (Fr.refl _ _) (by decide))) (by decide)) (Fr.step (fault_fr _ _ _) (by decide) (Fr.u256 (Fr.refl _ _) (by decide)))) (Fr.step (fault_fr _ _ _) (by decide) (Fr.refl _ _))))

theorem crossbarFail_fr (p : ℕ) (tag : ℕ) (s : State) : Fr 533682160 s (crossbarFail p tag s) := by
  unfold crossbarFail
  exact (by (try dsimp only); split <;> (try dsimp only); exact (Fr.refl _ _); exact (Fr.ite (Fr.ite (Fr.step (State.updPort_fr _ _ _) (by decide) (Fr.step (dropWork_fr _ _ _ _) (by decide) (Fr.step (fault_fr _ _ _) (by decide) (Fr.refl _ _)))) (Fr.step (State.updPort_fr _ _ _) (by decide) (Fr.step (dropWork_fr _ _ _ _) (by decide) (Fr.step (fault_fr _ _ _) (by decide) (Fr.refl _ _))))) (Fr.iteT (Fr.step (deliver_fr _ _ _ _ _ _ _) (by decide) (Fr.refl _ _)) (Fr.iteT (Fr.step (deliver_fr _ _ _ _ _ _ _) (by decide) (Fr.refl _ _)) (Fr.step (dropWork_fr _ _ _ _) (by decide) (Fr.step (fault_fr _ _ _) (by decide) (Fr.refl _ _)))))))

theorem doForce_fr (n : ℕ) (s : State) : Fr 399464432 s (doForce n s) := by
  unfold doForce
  exact (Fr.iteT (Fr.step (gloveReaction_fr _ _) (by decide) (Fr.refl _ _)) (Fr.step (registerEvent_fr _ _ _ _) (by decide) (Fr.refl _ _)))

theorem beginOp_fr (op : ℕ) (s : State) : Fr 131072 s (beginOp op s) := by
  unfold beginOp
  exact (Fr.u131072 (Fr.refl _ _) (by decide))

theorem closeTransfer_fr (s : State) : Fr 131072 s (closeTransfer s) := by
  unfold closeTransfer
  exact (Fr.iteT (Fr.u131072 (Fr.refl _ _) (by decide)) (Fr.refl _ _))

theorem doClear_fr (n : ℕ) (s : State) : Fr 1024 s (doClear n s) := by
  unfold doClear
  exact (Fr.iteB (Fr.refl _ _) (Fr.step (State.updSrc_fr _ _ _) (by decide) (Fr.refl _ _)))

theorem xlateDone_fr (c : ℕ) (s : State) : Fr 262144 s (xlateDone c s) := by
  unfold xlateDone
  exact (Fr.u262144 (Fr.refl _ _) (by decide))

theorem xlateOut_fr (g : Seg) (dev : ℕ) (win : ℕ) (s : State) : Fr 262144 s (xlateOut g dev win s) := by
  unfold xlateOut
  exact (Fr.u262144 (Fr.step (xlateDone_fr _ _) (by decide) (Fr.refl _ _)) (by decide))

theorem xlateDevice_fr (dev : ℕ) (win : ℕ) (s : State) : Fr 262144 s (xlateDevice dev win s) := by
  unfold xlateDevice
  exact (Fr.ite (Fr.step (xlateDone_fr _ _) (by decide) (Fr.refl _ _)) (Fr.step (xlateOut_fr _ _ _ _) (by decide) (Fr.refl _ _)))

theorem doXlate_fr (v : View) (s : State) : Fr 262144 s (doXlate v s) := by
  unfold doXlate
  exact (by (try dsimp only); split <;> (try dsimp only); exact (Fr.step (xlateDone_fr _ _) (by decide) (Fr.refl _ _)); exact (by (try dsimp only); split <;> (try dsimp only); exact (Fr.step (xlateDevice_fr _ _ _) (by decide) (Fr.refl _ _)); exact (Fr.ite (Fr.step (xlateDone_fr _ _) (by decide) (Fr.refl _ _)) (by (try dsimp only); split <;> (try dsimp only); exact (Fr.step (xlateDone_fr _ _) (by decide) (Fr.refl _ _)); exact (Fr.step (xlateDevice_fr _ _ _) (by decide) (Fr.refl _ _)))); exact (Fr.ite (Fr.step (xlateDone_fr _ _) (by decide) (Fr.refl _ _)) (by (try dsimp only); split <;> (try dsimp only); exact (Fr.step (xlateDone_fr _ _) (by decide) (Fr.refl _ _)); exact (Fr.step (xlateOut_fr _ _ _ _) (by decide) (Fr.refl _ _)))); exact (Fr.step (xlateDone_fr _ _) (by decide) (Fr.refl _ _))))

theorem repCmd_fr (v : View) (result : State → ℕ) (r : RepairReq) (s : State) : Fr 262656 s (repCmd v result r s) := by
  unfold repCmd
  exact (Fr.iteT (Fr.step (askRepair_fr _ _) (by decide) (Fr.refl _ _)) (Fr.u262144 (Fr.refl _ _) (by decide)))

theorem instantOp_fr (op : ℕ) (s : State) : Fr 131072 s (instantOp op s) := by
  unfold instantOp
  exact (Fr.u131072 (Fr.refl _ _) (by decide))

theorem doReport_fr (v : View) (s : State) : Fr 163840 s (doReport v s) := by
  unfold doReport
  exact (by (try dsimp only); split <;> (try dsimp only); exact (Fr.step (instantOp_fr _ _) (by decide) (Fr.u32768 (Fr.refl _ _) (by decide))); exact (Fr.ite (Fr.step (instantOp_fr _ _) (by decide) (Fr.u32768 (Fr.refl _ _) (by decide))) (Fr.ite (Fr.step (instantOp_fr _ _) (by decide) (Fr.u32768 (Fr.refl _ _) (by decide))) (Fr.ite (Fr.step (instantOp_fr _ _) (by decide) (Fr.u32768 (Fr.refl _ _) (by decide))) (Fr.ite (Fr.step (instantOp_fr _ _) (by decide) (Fr.u32768 (Fr.refl _ _) (by decide))) (Fr.step (beginOp_fr _ _) (by decide) (Fr.step (askReport_fr _ _) (by decide) (Fr.u32768 (Fr.refl _ _) (by decide)))))))))

theorem actionEffect_fr (c : Instr) (v : View) (s : State) : Fr 533723120 s (actionEffect c v s) := by
  unfold actionEffect
  cases c <;> dsimp only <;> first
    | with_reducible exact (Fr.iteT (Fr.step (doDown_fr _ _ _) (by decide) (Fr.refl _ _)) (Fr.refl _ _))
    | with_reducible exact (Fr.iteT (Fr.step (doLoop_fr _ _ _ _ _ _) (by decide) (Fr.refl _ _)) (Fr.refl _ _))
    | with_reducible exact (Fr.iteT (Fr.step (doRetrain_fr _ _) (by decide) (Fr.refl _ _)) (Fr.refl _ _))
    | with_reducible exact (Fr.iteT (Fr.step (doReturnToService_fr _) (by decide) (Fr.refl _ _)) (Fr.refl _ _))
    | with_reducible exact (Fr.iteT (Fr.step (fencePort_fr _ _) (by decide) (Fr.refl _ _)) (Fr.refl _ _))
    | with_reducible exact (Fr.iteT (Fr.step (liftFence_fr _ _) (by decide) (Fr.refl _ _)) (Fr.refl _ _))
    | with_reducible exact (Fr.refl _ _)
    | with_reducible exact (Fr.step (beginOp_fr _ _) (by decide) (Fr.refl _ _))
    | with_reducible exact (Fr.step (beginOp_fr _ _) (by decide) (Fr.step (doBurn_fr _ _) (by decide) (Fr.refl _ _)))
    | with_reducible exact (Fr.step (beginOp_fr _ _) (by decide) (Fr.u16384 (Fr.refl _ _) (by decide)))
    | with_reducible exact (Fr.step (clearSet_fr _ _) (by decide) (Fr.refl _ _))
    | with_reducible exact (Fr.step (doBist_fr _ _) (by decide) (Fr.refl _ _))
    | with_reducible exact (Fr.step (doClearOverrides_fr _) (by decide) (Fr.refl _ _))
    | with_reducible exact (Fr.step (doClear_fr _ _) (by decide) (Fr.refl _ _))
    | with_reducible exact (Fr.step (doDescendNow_fr _) (by decide) (Fr.refl _ _))
    | with_reducible exact (Fr.step (doForce_fr _ _) (by decide) (Fr.refl _ _))
    | with_reducible exact (Fr.step (doMoveToRetain_fr _) (by decide) (Fr.refl _ _))
    | with_reducible exact (Fr.step (doOverride_fr _) (by decide) (Fr.refl _ _))
    | with_reducible exact (Fr.step (doPredReset_fr _ _) (by decide) (Fr.refl _ _))
    | with_reducible exact (Fr.step (doRecal_fr _ _ _) (by decide) (Fr.refl _ _))
    | with_reducible exact (Fr.step (doReport_fr _ _) (by decide) (Fr.refl _ _))
    | with_reducible exact (Fr.step (doXlate_fr _ _) (by decide) (Fr.refl _ _))
    | with_reducible exact (Fr.step (repCmd_fr _ _ _ _) (by decide) (Fr.refl _ _))

theorem carryOut_fr (c : Instr) (v : View) (s : State) : Fr 533723120 s (carryOut c v s) := by
  unfold carryOut
  exact (Fr.iteT (Fr.ite (Fr.step (closeTransfer_fr _) (by decide) (Fr.u512 (Fr.iteB (Fr.refl _ _) (Fr.step (beginOp_fr _ _) (by decide) (Fr.refl _ _))) (by decide))) (Fr.step (closeTransfer_fr _) (by decide) (Fr.step (actionEffect_fr _ _ _) (by decide) (Fr.refl _ _)))) (Fr.refl _ _))

theorem setPointer_fr (a : ℕ) (s : State) : Fr 131072 s (setPointer a s) := by
  unfold setPointer
  exact (by (try dsimp only); split <;> (try dsimp only); exact (Fr.u131072 (Fr.refl _ _) (by decide)); exact (Fr.refl _ _))

theorem commit_fr (c : Instr) (s : State) : Fr 533723120 s (commit c s) := by
  unfold commit
  exact (Fr.iteT (Fr.step (carryOut_fr _ _ _) (by decide) (Fr.step (setPointer_fr _ _) (by decide) (Fr.u131072 (Fr.refl _ _) (by decide)))) (Fr.refl _ _))

theorem writeActions_fr (v : View) (a : ℕ) (d : Word) (s : State) : Fr 533723124 s (writeActions v a d s) := by
  unfold writeActions
  exact (Fr.forL (fun _ _ => (Fr.step (carryOut_fr _ _ _) (by decide) (Fr.refl _ _))) _ (Fr.iteT (Fr.u4 (Fr.refl _ _) (by decide)) (Fr.refl _ _)))

theorem passBytes_fr (l : List Byte) (s : State) : Fr 131072 s (passBytes l s) := by
  unfold passBytes
  exact (Fr.u131072 (Fr.refl _ _) (by decide))

theorem readOut_fr (v : View) (a : ℕ) (s : State) : Fr 147215364 s (readOut v a s) := by
  unfold readOut
  exact (Fr.step (passBytes_fr _ _) (by decide) (Fr.step (setPointer_fr _ _) (by decide) (Fr.u131072 (Fr.step (State.readAt_fr _ _ _) (by decide) (Fr.refl _ _)) (by decide))))

theorem recordOp_fr (op : ℕ) (start : ℕ) (outcome : ℕ) (s : State) : Fr 131072 s (recordOp op start outcome s) := by
  unfold recordOp
  exact (Fr.u131072 (Fr.refl _ _) (by decide))

theorem dropOp_fr (op : ℕ) (s : State) : Fr 512 s (dropOp op s) := by
  unfold dropOp
  exact (Fr.u512 (Fr.refl _ _) (by decide))

theorem keepStart_fr (old : Option (ℕ × ℕ)) (s : State) : Fr 131072 s (keepStart old s) := by
  unfold keepStart
  exact (by (try dsimp only); split <;> (try dsimp only); exact (Fr.iteT (Fr.u131072 (Fr.refl _ _) (by decide)) (Fr.refl _ _)); exact (Fr.refl _ _))

theorem runHeld_fr (a : SupAction) (s : State) : Fr 533723120 s (runHeld a s) := by
  unfold runHeld
  exact (by (try dsimp only); split <;> (try dsimp only); exact (Fr.u262144 (Fr.refl _ _) (by decide)); exact (Fr.step (closeTransfer_fr _) (by decide) (Fr.step (keepStart_fr _ _) (by decide) (Fr.step (actionEffect_fr _ _ _) (by decide) (Fr.refl _ _)))))

theorem restartDone_fr (s : State) : Fr 533723120 s (restartDone s) := by
  unfold restartDone
  exact (Fr.iteB (Fr.refl _ _) (Fr.forN (fun _ _ => (Fr.iteB (Fr.refl _ _) (Fr.step (commitUnit_fr _ _) (by decide) (Fr.refl _ _)))) _ (Fr.forL (fun _ _ => (Fr.step (runHeld_fr _ _) (by decide) (Fr.refl _ _))) _ (Fr.iteT (Fr.u262400 (Fr.refl _ _) (by decide)) (Fr.u4608 (Fr.refl _ _) (by decide))))))

theorem ignoreRest_fr (s : State) : Fr 131072 s (ignoreRest s) := by
  unfold ignoreRest
  exact (Fr.u131072 (Fr.refl _ _) (by decide))

theorem pecMismatch_fr (s : State) : Fr 399464432 s (pecMismatch s) := by
  unfold pecMismatch
  exact (Fr.step (fault_fr _ _ _) (by decide) (Fr.step (ignoreRest_fr _) (by decide) (Fr.u131072 (Fr.refl _ _) (by decide))))

theorem hangUp_fr (flag : BitVec 6) (s : State) : Fr 399464432 s (hangUp flag s) := by
  unfold hangUp
  exact (Fr.iteT (Fr.step (fault_fr _ _ _) (by decide) (Fr.u131072 (Fr.refl _ _) (by decide))) (Fr.refl _ _))

theorem registerWrite_fr (data : Word) (pec : Byte) (s : State) : Fr 533725172 s (registerWrite data pec s) := by
  unfold registerWrite
  exact (by (try dsimp only); split <;> (try dsimp only); exact (Fr.iteB (Fr.refl _ _) (Fr.ite (Fr.step (pecMismatch_fr _) (by decide) (Fr.refl _ _)) (Fr.step (writeActions_fr _ _ _ _) (by decide) (Fr.step (setPointer_fr _ _) (by decide) (Fr.step (State.writeReg_fr _ _ _ _) (by decide) (Fr.step (passBytes_fr _ _) (by decide) (Fr.refl _ _))))))); exact (Fr.refl _ _))

theorem transferEnd_fr (insideByte : Bool) (sending : Bool) (start : Bool) (s : State) : Fr 399464432 s (transferEnd insideByte sending start s) := by
  unfold transferEnd
  dsimp only
  split
  · exact Fr.iteB (Fr.refl _ _) (Fr.u131072 (Fr.refl _ _) (by decide))
  · exact (Fr.iteT (Fr.u4096 (Fr.refl _ _) (by decide)) (Fr.iteT (Fr.step (fault_fr _ _ _) (by decide) (Fr.u131072 (Fr.refl _ _) (by decide))) (Fr.ite (Fr.u131072 (Fr.u131072 (Fr.refl _ _) (by decide)) (by decide)) (Fr.u131072 (Fr.refl _ _) (by decide)))))

theorem addressByte_fr (addr : BitVec 7) (read : Bool) (s : State) : Fr 50549392 s (addressByte addr read s) := by
  unfold addressByte
  exact (Fr.iteB (Fr.refl _ _) (Fr.ite (Fr.u131072 (Fr.u131072 (Fr.refl _ _) (by decide)) (by decide)) (by (try dsimp only); split <;> (try dsimp only); exact (Fr.u131072 (Fr.u131072 (Fr.refl _ _) (by decide)) (by decide)); exact (Fr.ite (Fr.step (twoWireWake_fr _) (by decide) (Fr.u131072 (Fr.u131072 (Fr.refl _ _) (by decide)) (by decide))) (Fr.u131072 (Fr.step (passBytes_fr _ _) (by decide) (Fr.u131072 (Fr.refl _ _) (by decide))) (by decide))))))

theorem registerAddress_fr (a : ℕ) (s : State) : Fr 131072 s (registerAddress a s) := by
  unfold registerAddress
  exact (by (try dsimp only); split <;> (try dsimp only); exact (Fr.iteB (Fr.refl _ _) (Fr.ite (Fr.step (setPointer_fr _ _) (by decide) (Fr.step (passBytes_fr _ _) (by decide) (Fr.refl _ _))) (Fr.step (ignoreRest_fr _) (by decide) (Fr.refl _ _)))); exact (Fr.refl _ _))

theorem serveOne_fr (p : ℕ) (r : Req) (s : State) : Fr 4227072 s (serveOne p r s) := by
  unfold serveOne
  exact (Fr.ite (Fr.step (askReport_fr _ _) (by decide) (Fr.refl _ _)) (by (try dsimp only); split <;> (try dsimp only); exact (Fr.step (answerMgmt_fr _ _ _ _ _) (by decide) (Fr.refl _ _)); exact (Fr.step (answerMgmt_fr _ _ _ _ _) (by decide) (Fr.refl _ _))))

theorem serveMgmt_fr (p : ℕ) (s : State) : Fr 4227072 s (serveMgmt p s) := by
  unfold serveMgmt
  exact (Fr.ite (Fr.refl _ _) (by (try dsimp only); split <;> (try dsimp only); exact (Fr.step (serveOne_fr _ _ _) (by decide) (Fr.refl _ _)); exact (Fr.refl _ _)))

theorem receiveMgmt_fr (p : ℕ) (op : Op) (h : ReqHeader) (nonce : BitVec 256) (s : State) : Fr 399497200 s (receiveMgmt p op h nonce s) := by
  unfold receiveMgmt
  exact (Fr.iteB (Fr.refl _ _) (Fr.step (serveOthers_fr _ _) (by decide) (Fr.step (openTag_fr (M := 399497200) _ _ _ _ _ _ (by decide) (fun _ => Fr.ite (Fr.step (answerMgmt_fr _ _ _ _ _) (by decide) (Fr.refl _ _)) (Fr.ite (Fr.step (answerMgmt_fr _ _ _ _ _) (by decide) (Fr.refl _ _)) (Fr.ite (Fr.step (answerMgmt_fr _ _ _ _ _) (by decide) (Fr.refl _ _)) (Fr.ite (Fr.step (answerMgmt_fr _ _ _ _ _) (by decide) (Fr.refl _ _)) (Fr.ite (Fr.step (answerMgmt_fr _ _ _ _ _) (by decide) (Fr.refl _ _)) (Fr.step (serveMgmt_fr _ _) (by decide) (Fr.refl _ _)))))))) (by decide) (Fr.iteT (Fr.step (takeMsg_fr _ _ _) (by decide) (Fr.refl _ _)) (Fr.refl _ _)))))

theorem tapSelect_fr (i : TapInstr) (s : State) : Fr 1048704 s (tapSelect i s) := by
  unfold tapSelect
  exact (Fr.iteT (Fr.u1048704 (Fr.refl _ _) (by decide)) (Fr.refl _ _))

theorem tapFactory_fr (i : TapInstr) (f : State → State) (s : State) (hf : ∀ t, Fr 400513008 t (f t)) : Fr 400513008 s (tapFactory i f s) := by
  unfold tapFactory
  exact Fr.iteB (Fr.refl _ _) (Fr.ite (Fr.step (hf _) (by decide) (Fr.step (tapSelect_fr _ _) (by decide) (Fr.refl _ _))) (Fr.step (fault_fr _ _ _) rfl ((Fr.step (tapSelect_fr _ _) (by decide) (Fr.refl _ _)).u65536 (by decide))))

theorem sampleBalls_fr (s : State) : Fr 1048576 s (sampleBalls s) := by
  unfold sampleBalls
  exact (Fr.u1048576 (Fr.refl _ _) (by decide))

theorem shiftWrappers_fr (data : List (LayerId × Word)) (s : State) : Fr 1048576 s (shiftWrappers data s) := by
  unfold shiftWrappers
  exact (Fr.u1048576 (Fr.refl _ _) (by decide))

theorem State.withEvent_fr (n : ℕ) (s : State) : Fr 1024 s (State.withEvent n s) := by
  unfold State.withEvent
  exact (Fr.step (State.updSrc_fr _ _ _) (by decide) (Fr.refl _ _))

end Sys2Proof.Machine
end

