-- ==== Sys2Proof/Laws/Keeps.lean ====
section
/-! SUPPORT. What the always-on domain and the memory keep under every operation but a loss of PWRGOOD: the canonical form of the memory, TRIP and its recorded reason, that BOOT is not entered again, HOLD but for a trip, the grave-fault latch, and the first hold cause. After the rules for composing it, one lemma per operation that could touch one of these; for every other operation it follows from its frame. -/

namespace Sys2Proof.Machine

/-- What every command but PWRGOOD_LOW keeps on the way from `s` to `t`. -/
structure Keeps (s t : State) : Prop where
  mem : s.memoryOk → t.memoryOk
  tripValid : s.thm.tripValid = true → t.thm.tripValid = true
  tripOk : s.tripOk → t.tripOk
  trip : s.mode = .trip → t.mode = .trip
  boot : s.mode ≠ .boot → t.mode ≠ .boot
  hold : s.mode = .hold → t.mode = .hold ∨ t.mode = .trip
  grave : s.grave = true → t.grave = true
  cause : s.holdCause ≠ 0 → t.holdCause = s.holdCause ∨ t.mode = .trip

variable {s t u : State}

theorem Keeps.refl (s : State) : Keeps s s := ⟨id, id, id, id, id, .inl, id, fun _ => .inl rfl⟩

theorem Keeps.trans (h : Keeps s t) (h' : Keeps t u) : Keeps s u where
  mem := h'.mem ∘ h.mem
  tripValid := h'.tripValid ∘ h.tripValid
  tripOk := h'.tripOk ∘ h.tripOk
  trip := h'.trip ∘ h.trip
  boot := h'.boot ∘ h.boot
  hold := fun e => (h.hold e).elim h'.hold (fun e => .inr (h'.trip e))
  grave := h'.grave ∘ h.grave
  cause := fun e => (h.cause e).elim
    (fun hc => (h'.cause (by rw [hc]; exact e)).elim (fun hd => .inl (hd.trans hc)) .inr) (fun ht => .inr (h'.trip ht))

/-- Where the memory, the mode, the hold cause, the trip record and the copies of the grave latch stand as they were. -/
theorem Keeps.same (hm : t.mem = s.mem) (hv : t.thm.tripValid = s.thm.tripValid) (hd : t.mode = s.mode)
    (hg : t.flt.grave0 = s.flt.grave0 ∧ t.flt.grave1 = s.flt.grave1 ∧ t.flt.grave2 = s.flt.grave2)
    (hc : t.holdCause = s.holdCause) : Keeps s t where
  mem := by unfold State.memoryOk; rw [hm]; exact id
  tripValid := by rw [hv]; exact id
  tripOk := by unfold State.tripOk; rw [hd, hv]; exact id
  trip := by rw [hd]; exact id
  boot := by rw [hd]; exact id
  hold := by rw [hd]; exact .inl
  grave := by unfold State.grave; rw [hg.1, hg.2.1, hg.2.2]; exact id
  cause := fun _ => .inl hc

/-- An operation whose frame leaves all of them alone. -/
theorem Keeps.ofFr {m : Nat} (h : Fr m t u) (hm : m &&& 268438576 = 0) (h0 : Keeps s t) : Keeps s u := by
  have key : ∀ i, (268438576).testBit i = true → m.testBit i = false := by
    intro i hi
    have := congrArg (fun x => x.testBit i) hm
    simp only [Nat.testBit_and, hi, Bool.and_true, Nat.zero_testBit] at this
    exact this
  refine h0.trans (Keeps.same (h.mem (key 28 (by decide))) ?_ (h.mode (key 4 (by decide))) ?_ (h.holdCause (key 5 (by decide))))
  · rw [h.thm (key 11 (by decide))]
  · rw [h.flt (key 10 (by decide))]
    exact ⟨rfl, rfl, rfl⟩

/-- One more operation after those of `h0`. -/
theorem Keeps.step (h : Keeps t u) (h0 : Keeps s t) : Keeps s u := h0.trans h
theorem Keeps.ite {c : Prop} [Decidable c] (h1 : Keeps s t) (h2 : Keeps s u) : Keeps s (if c then t else u) := by
  split <;> assumption
theorem Keeps.iteT {c : Prop} [Decidable c] (h1 : Keeps u t) (h2 : Keeps s u) : Keeps s (if c then t else u) := by
  split
  · exact h2.trans h1
  · exact h2
theorem Keeps.iteB {c : Prop} [Decidable c] (h1 : Keeps s t) (h2 : Keeps t u) : Keeps s (if c then t else u) := by
  split
  · exact h1
  · exact h1.trans h2
theorem Keeps.iteP {α : Type} {c : Prop} [Decidable c] {a b : State × α} (h1 : Keeps s a.1) (h2 : Keeps s b.1) :
    Keeps s (if c then a else b).1 := by
  split <;> assumption
theorem Keeps.foldl {α : Type} {f : State → α → State} (h : ∀ t a, Keeps t (f t a)) (l : List α) (h0 : Keeps s t) :
    Keeps s (l.foldl f t) := by
  induction l generalizing t with
  | nil => exact h0
  | cons a l ih => exact ih (h0.trans (h t a))
theorem Keeps.foldlP {α β : Type} {f : State × β → α → State × β} (h : ∀ a x, Keeps a.1 (f a x).1) (l : List α)
    {a : State × β} (h0 : Keeps s a.1) : Keeps s (l.foldl f a).1 := by
  induction l generalizing a with
  | nil => exact h0
  | cons x l ih => exact ih (h0.trans (h a x))
theorem Keeps.forL {α : Type} {f : α → State → State} (h : ∀ a t, Keeps t (f a t)) (l : List α) (h0 : Keeps s t) :
    Keeps s (forL l f t) := Keeps.foldl (fun t a => h a t) l h0
theorem Keeps.forN {f : Nat → State → State} (h : ∀ i t, Keeps t (f i t)) (n : Nat) (h0 : Keeps s t) : Keeps s (forN n f t) :=
  Keeps.foldl (fun t a => h a t) (List.range n) h0
/-- A record update of now. -/
theorem Keeps.u2 {x1} (h0 : Keeps s t) : Keeps s (State.mk t.pending x1 t.choice t.pwrgood t.mode t.holdCause t.takeover t.pins t.boot t.sup t.flt t.thm t.pwr t.otp t.jnl t.att t.bist t.mb t.rep t.gnt t.tap t.image t.ports t.chans t.pcs t.slices t.layers t.pmc t.mem) :=
  h0.trans (Keeps.same rfl rfl rfl ⟨rfl, rfl, rfl⟩ rfl)
/-- A record update of choice. -/
theorem Keeps.u4 {x2} (h0 : Keeps s t) : Keeps s (State.mk t.pending t.now x2 t.pwrgood t.mode t.holdCause t.takeover t.pins t.boot t.sup t.flt t.thm t.pwr t.otp t.jnl t.att t.bist t.mb t.rep t.gnt t.tap t.image t.ports t.chans t.pcs t.slices t.layers t.pmc t.mem) :=
  h0.trans (Keeps.same rfl rfl rfl ⟨rfl, rfl, rfl⟩ rfl)
/-- A record update of takeover. -/
theorem Keeps.u64 {x6} (h0 : Keeps s t) : Keeps s (State.mk t.pending t.now t.choice t.pwrgood t.mode t.holdCause x6 t.pins t.boot t.sup t.flt t.thm t.pwr t.otp t.jnl t.att t.bist t.mb t.rep t.gnt t.tap t.image t.ports t.chans t.pcs t.slices t.layers t.pmc t.mem) :=
  h0.trans (Keeps.same rfl rfl rfl ⟨rfl, rfl, rfl⟩ rfl)
/-- A record update of boot. -/
theorem Keeps.u256 {x8} (h0 : Keeps s t) : Keeps s (State.mk t.pending t.now t.choice t.pwrgood t.mode t.holdCause t.takeover t.pins x8 t.sup t.flt t.thm t.pwr t.otp t.jnl t.att t.bist t.mb t.rep t.gnt t.tap t.image t.ports t.chans t.pcs t.slices t.layers t.pmc t.mem) :=
  h0.trans (Keeps.same rfl rfl rfl ⟨rfl, rfl, rfl⟩ rfl)
/-- A record update of pins, boot. -/
theorem Keeps.u384 {x7 x8} (h0 : Keeps s t) : Keeps s (State.mk t.pending t.now t.choice t.pwrgood t.mode t.holdCause t.takeover x7 x8 t.sup t.flt t.thm t.pwr t.otp t.jnl t.att t.bist t.mb t.rep t.gnt t.tap t.image t.ports t.chans t.pcs t.slices t.layers t.pmc t.mem) :=
  h0.trans (Keeps.same rfl rfl rfl ⟨rfl, rfl, rfl⟩ rfl)
/-- A record update of sup. -/
theorem Keeps.u512 {x9} (h0 : Keeps s t) : Keeps s (State.mk t.pending t.now t.choice t.pwrgood t.mode t.holdCause t.takeover t.pins t.boot x9 t.flt t.thm t.pwr t.otp t.jnl t.att t.bist t.mb t.rep t.gnt t.tap t.image t.ports t.chans t.pcs t.slices t.layers t.pmc t.mem) :=
  h0.trans (Keeps.same rfl rfl rfl ⟨rfl, rfl, rfl⟩ rfl)
/-- A record update of flt. -/
theorem Keeps.u1024 {x10} (h0 : Keeps s t) (hg : x10.grave0 = t.flt.grave0 ∧ x10.grave1 = t.flt.grave1 ∧ x10.grave2 = t.flt.grave2) : Keeps s (State.mk t.pending t.now t.choice t.pwrgood t.mode t.holdCause t.takeover t.pins t.boot t.sup x10 t.thm t.pwr t.otp t.jnl t.att t.bist t.mb t.rep t.gnt t.tap t.image t.ports t.chans t.pcs t.slices t.layers t.pmc t.mem) :=
  h0.trans (Keeps.same rfl rfl rfl hg rfl)
/-- A record update of thm. -/
theorem Keeps.u2048 {x11} (h0 : Keeps s t) (hv : x11.tripValid = t.thm.tripValid) : Keeps s (State.mk t.pending t.now t.choice t.pwrgood t.mode t.holdCause t.takeover t.pins t.boot t.sup t.flt x11 t.pwr t.otp t.jnl t.att t.bist t.mb t.rep t.gnt t.tap t.image t.ports t.chans t.pcs t.slices t.layers t.pmc t.mem) :=
  h0.trans (Keeps.same rfl hv rfl ⟨rfl, rfl, rfl⟩ rfl)
/-- A record update of pins, sup, thm. -/
theorem Keeps.u2688 {x7 x9 x11} (h0 : Keeps s t) (hv : x11.tripValid = t.thm.tripValid) : Keeps s (State.mk t.pending t.now t.choice t.pwrgood t.mode t.holdCause t.takeover x7 t.boot x9 t.flt x11 t.pwr t.otp t.jnl t.att t.bist t.mb t.rep t.gnt t.tap t.image t.ports t.chans t.pcs t.slices t.layers t.pmc t.mem) :=
  h0.trans (Keeps.same rfl hv rfl ⟨rfl, rfl, rfl⟩ rfl)
/-- A record update of pwr. -/
theorem Keeps.u4096 {x12} (h0 : Keeps s t) : Keeps s (State.mk t.pending t.now t.choice t.pwrgood t.mode t.holdCause t.takeover t.pins t.boot t.sup t.flt t.thm x12 t.otp t.jnl t.att t.bist t.mb t.rep t.gnt t.tap t.image t.ports t.chans t.pcs t.slices t.layers t.pmc t.mem) :=
  h0.trans (Keeps.same rfl rfl rfl ⟨rfl, rfl, rfl⟩ rfl)
/-- A record update of pins, pwr. -/
theorem Keeps.u4224 {x7 x12} (h0 : Keeps s t) : Keeps s (State.mk t.pending t.now t.choice t.pwrgood t.mode t.holdCause t.takeover x7 t.boot t.sup t.flt t.thm x12 t.otp t.jnl t.att t.bist t.mb t.rep t.gnt t.tap t.image t.ports t.chans t.pcs t.slices t.layers t.pmc t.mem) :=
  h0.trans (Keeps.same rfl rfl rfl ⟨rfl, rfl, rfl⟩ rfl)
/-- A record update of sup, pwr. -/
theorem Keeps.u4608 {x9 x12} (h0 : Keeps s t) : Keeps s (State.mk t.pending t.now t.choice t.pwrgood t.mode t.holdCause t.takeover t.pins t.boot x9 t.flt t.thm x12 t.otp t.jnl t.att t.bist t.mb t.rep t.gnt t.tap t.image t.ports t.chans t.pcs t.slices t.layers t.pmc t.mem) :=
  h0.trans (Keeps.same rfl rfl rfl ⟨rfl, rfl, rfl⟩ rfl)
/-- A record update of pins, sup, pwr. -/
theorem Keeps.u4736 {x7 x9 x12} (h0 : Keeps s t) : Keeps s (State.mk t.pending t.now t.choice t.pwrgood t.mode t.holdCause t.takeover x7 t.boot x9 t.flt t.thm x12 t.otp t.jnl t.att t.bist t.mb t.rep t.gnt t.tap t.image t.ports t.chans t.pcs t.slices t.layers t.pmc t.mem) :=
  h0.trans (Keeps.same rfl rfl rfl ⟨rfl, rfl, rfl⟩ rfl)
/-- A record update of otp. -/
theorem Keeps.u8192 {x13} (h0 : Keeps s t) : Keeps s (State.mk t.pending t.now t.choice t.pwrgood t.mode t.holdCause t.takeover t.pins t.boot t.sup t.flt t.thm t.pwr x13 t.jnl t.att t.bist t.mb t.rep t.gnt t.tap t.image t.ports t.chans t.pcs t.slices t.layers t.pmc t.mem) :=
  h0.trans (Keeps.same rfl rfl rfl ⟨rfl, rfl, rfl⟩ rfl)
/-- A record update of thm, otp. -/
theorem Keeps.u10240 {x11 x13} (h0 : Keeps s t) (hv : x11.tripValid = t.thm.tripValid) : Keeps s (State.mk t.pending t.now t.choice t.pwrgood t.mode t.holdCause t.takeover t.pins t.boot t.sup t.flt x11 t.pwr x13 t.jnl t.att t.bist t.mb t.rep t.gnt t.tap t.image t.ports t.chans t.pcs t.slices t.layers t.pmc t.mem) :=
  h0.trans (Keeps.same rfl hv rfl ⟨rfl, rfl, rfl⟩ rfl)
/-- A record update of jnl. -/
theorem Keeps.u16384 {x14} (h0 : Keeps s t) : Keeps s (State.mk t.pending t.now t.choice t.pwrgood t.mode t.holdCause t.takeover t.pins t.boot t.sup t.flt t.thm t.pwr t.otp x14 t.att t.bist t.mb t.rep t.gnt t.tap t.image t.ports t.chans t.pcs t.slices t.layers t.pmc t.mem) :=
  h0.trans (Keeps.same rfl rfl rfl ⟨rfl, rfl, rfl⟩ rfl)
/-- A record update of att. -/
theorem Keeps.u32768 {x15} (h0 : Keeps s t) : Keeps s (State.mk t.pending t.now t.choice t.pwrgood t.mode t.holdCause t.takeover t.pins t.boot t.sup t.flt t.thm t.pwr t.otp t.jnl x15 t.bist t.mb t.rep t.gnt t.tap t.image t.ports t.chans t.pcs t.slices t.layers t.pmc t.mem) :=
  h0.trans (Keeps.same rfl rfl rfl ⟨rfl, rfl, rfl⟩ rfl)
/-- A record update of bist. -/
theorem Keeps.u65536 {x16} (h0 : Keeps s t) : Keeps s (State.mk t.pending t.now t.choice t.pwrgood t.mode t.holdCause t.takeover t.pins t.boot t.sup t.flt t.thm t.pwr t.otp t.jnl t.att x16 t.mb t.rep t.gnt t.tap t.image t.ports t.chans t.pcs t.slices t.layers t.pmc t.mem) :=
  h0.trans (Keeps.same rfl rfl rfl ⟨rfl, rfl, rfl⟩ rfl)
/-- A record update of boot, bist. -/
theorem Keeps.u65792 {x8 x16} (h0 : Keeps s t) : Keeps s (State.mk t.pending t.now t.choice t.pwrgood t.mode t.holdCause t.takeover t.pins x8 t.sup t.flt t.thm t.pwr t.otp t.jnl t.att x16 t.mb t.rep t.gnt t.tap t.image t.ports t.chans t.pcs t.slices t.layers t.pmc t.mem) :=
  h0.trans (Keeps.same rfl rfl rfl ⟨rfl, rfl, rfl⟩ rfl)
/-- A record update of pwr, bist. -/
theorem Keeps.u69632 {x12 x16} (h0 : Keeps s t) : Keeps s (State.mk t.pending t.now t.choice t.pwrgood t.mode t.holdCause t.takeover t.pins t.boot t.sup t.flt t.thm x12 t.otp t.jnl t.att x16 t.mb t.rep t.gnt t.tap t.image t.ports t.chans t.pcs t.slices t.layers t.pmc t.mem) :=
  h0.trans (Keeps.same rfl rfl rfl ⟨rfl, rfl, rfl⟩ rfl)
/-- A record update of mb. -/
theorem Keeps.u131072 {x17} (h0 : Keeps s t) : Keeps s (State.mk t.pending t.now t.choice t.pwrgood t.mode t.holdCause t.takeover t.pins t.boot t.sup t.flt t.thm t.pwr t.otp t.jnl t.att t.bist x17 t.rep t.gnt t.tap t.image t.ports t.chans t.pcs t.slices t.layers t.pmc t.mem) :=
  h0.trans (Keeps.same rfl rfl rfl ⟨rfl, rfl, rfl⟩ rfl)
/-- A record update of bist, mb. -/
theorem Keeps.u196608 {x16 x17} (h0 : Keeps s t) : Keeps s (State.mk t.pending t.now t.choice t.pwrgood t.mode t.holdCause t.takeover t.pins t.boot t.sup t.flt t.thm t.pwr t.otp t.jnl t.att x16 x17 t.rep t.gnt t.tap t.image t.ports t.chans t.pcs t.slices t.layers t.pmc t.mem) :=
  h0.trans (Keeps.same rfl rfl rfl ⟨rfl, rfl, rfl⟩ rfl)
/-- A record update of rep. -/
theorem Keeps.u262144 {x18} (h0 : Keeps s t) : Keeps s (State.mk t.pending t.now t.choice t.pwrgood t.mode t.holdCause t.takeover t.pins t.boot t.sup t.flt t.thm t.pwr t.otp t.jnl t.att t.bist t.mb x18 t.gnt t.tap t.image t.ports t.chans t.pcs t.slices t.layers t.pmc t.mem) :=
  h0.trans (Keeps.same rfl rfl rfl ⟨rfl, rfl, rfl⟩ rfl)
/-- A record update of boot, rep. -/
theorem Keeps.u262400 {x8 x18} (h0 : Keeps s t) : Keeps s (State.mk t.pending t.now t.choice t.pwrgood t.mode t.holdCause t.takeover t.pins x8 t.sup t.flt t.thm t.pwr t.otp t.jnl t.att t.bist t.mb x18 t.gnt t.tap t.image t.ports t.chans t.pcs t.slices t.layers t.pmc t.mem) :=
  h0.trans (Keeps.same rfl rfl rfl ⟨rfl, rfl, rfl⟩ rfl)
/-- A record update of gnt. -/
theorem Keeps.u524288 {x19} (h0 : Keeps s t) : Keeps s (State.mk t.pending t.now t.choice t.pwrgood t.mode t.holdCause t.takeover t.pins t.boot t.sup t.flt t.thm t.pwr t.otp t.jnl t.att t.bist t.mb t.rep x19 t.tap t.image t.ports t.chans t.pcs t.slices t.layers t.pmc t.mem) :=
  h0.trans (Keeps.same rfl rfl rfl ⟨rfl, rfl, rfl⟩ rfl)
/-- A record update of boot, gnt. -/
theorem Keeps.u524544 {x8 x19} (h0 : Keeps s t) : Keeps s (State.mk t.pending t.now t.choice t.pwrgood t.mode t.holdCause t.takeover t.pins x8 t.sup t.flt t.thm t.pwr t.otp t.jnl t.att t.bist t.mb t.rep x19 t.tap t.image t.ports t.chans t.pcs t.slices t.layers t.pmc t.mem) :=
  h0.trans (Keeps.same rfl rfl rfl ⟨rfl, rfl, rfl⟩ rfl)
/-- A record update of tap. -/
theorem Keeps.u1048576 {x20} (h0 : Keeps s t) : Keeps s (State.mk t.pending t.now t.choice t.pwrgood t.mode t.holdCause t.takeover t.pins t.boot t.sup t.flt t.thm t.pwr t.otp t.jnl t.att t.bist t.mb t.rep t.gnt x20 t.image t.ports t.chans t.pcs t.slices t.layers t.pmc t.mem) :=
  h0.trans (Keeps.same rfl rfl rfl ⟨rfl, rfl, rfl⟩ rfl)
/-- A record update of pins, tap. -/
theorem Keeps.u1048704 {x7 x20} (h0 : Keeps s t) : Keeps s (State.mk t.pending t.now t.choice t.pwrgood t.mode t.holdCause t.takeover x7 t.boot t.sup t.flt t.thm t.pwr t.otp t.jnl t.att t.bist t.mb t.rep t.gnt x20 t.image t.ports t.chans t.pcs t.slices t.layers t.pmc t.mem) :=
  h0.trans (Keeps.same rfl rfl rfl ⟨rfl, rfl, rfl⟩ rfl)
/-- A record update of thm, pwr, mb, rep, gnt, image. -/
theorem Keeps.u3020800 {x11 x12 x17 x18 x19 x21} (h0 : Keeps s t) (hv : x11.tripValid = t.thm.tripValid) : Keeps s (State.mk t.pending t.now t.choice t.pwrgood t.mode t.holdCause t.takeover t.pins t.boot t.sup t.flt x11 x12 t.otp t.jnl t.att t.bist x17 x18 x19 t.tap x21 t.ports t.chans t.pcs t.slices t.layers t.pmc t.mem) :=
  h0.trans (Keeps.same rfl hv rfl ⟨rfl, rfl, rfl⟩ rfl)
/-- A record update of ports. -/
theorem Keeps.u4194304 {x22} (h0 : Keeps s t) : Keeps s (State.mk t.pending t.now t.choice t.pwrgood t.mode t.holdCause t.takeover t.pins t.boot t.sup t.flt t.thm t.pwr t.otp t.jnl t.att t.bist t.mb t.rep t.gnt t.tap t.image x22 t.chans t.pcs t.slices t.layers t.pmc t.mem) :=
  h0.trans (Keeps.same rfl rfl rfl ⟨rfl, rfl, rfl⟩ rfl)
/-- A record update of chans. -/
theorem Keeps.u8388608 {x23} (h0 : Keeps s t) : Keeps s (State.mk t.pending t.now t.choice t.pwrgood t.mode t.holdCause t.takeover t.pins t.boot t.sup t.flt t.thm t.pwr t.otp t.jnl t.att t.bist t.mb t.rep t.gnt t.tap t.image t.ports x23 t.pcs t.slices t.layers t.pmc t.mem) :=
  h0.trans (Keeps.same rfl rfl rfl ⟨rfl, rfl, rfl⟩ rfl)
/-- A record update of pcs. -/
theorem Keeps.u16777216 {x24} (h0 : Keeps s t) : Keeps s (State.mk t.pending t.now t.choice t.pwrgood t.mode t.holdCause t.takeover t.pins t.boot t.sup t.flt t.thm t.pwr t.otp t.jnl t.att t.bist t.mb t.rep t.gnt t.tap t.image t.ports t.chans x24 t.slices t.layers t.pmc t.mem) :=
  h0.trans (Keeps.same rfl rfl rfl ⟨rfl, rfl, rfl⟩ rfl)
/-- A record update of slices. -/
theorem Keeps.u33554432 {x25} (h0 : Keeps s t) : Keeps s (State.mk t.pending t.now t.choice t.pwrgood t.mode t.holdCause t.takeover t.pins t.boot t.sup t.flt t.thm t.pwr t.otp t.jnl t.att t.bist t.mb t.rep t.gnt t.tap t.image t.ports t.chans t.pcs x25 t.layers t.pmc t.mem) :=
  h0.trans (Keeps.same rfl rfl rfl ⟨rfl, rfl, rfl⟩ rfl)
/-- A record update of layers. -/
theorem Keeps.u67108864 {x26} (h0 : Keeps s t) : Keeps s (State.mk t.pending t.now t.choice t.pwrgood t.mode t.holdCause t.takeover t.pins t.boot t.sup t.flt t.thm t.pwr t.otp t.jnl t.att t.bist t.mb t.rep t.gnt t.tap t.image t.ports t.chans t.pcs t.slices x26 t.pmc t.mem) :=
  h0.trans (Keeps.same rfl rfl rfl ⟨rfl, rfl, rfl⟩ rfl)
/-- A record update of thm, layers. -/
theorem Keeps.u67110912 {x11 x26} (h0 : Keeps s t) (hv : x11.tripValid = t.thm.tripValid) : Keeps s (State.mk t.pending t.now t.choice t.pwrgood t.mode t.holdCause t.takeover t.pins t.boot t.sup t.flt x11 t.pwr t.otp t.jnl t.att t.bist t.mb t.rep t.gnt t.tap t.image t.ports t.chans t.pcs t.slices x26 t.pmc t.mem) :=
  h0.trans (Keeps.same rfl hv rfl ⟨rfl, rfl, rfl⟩ rfl)
/-- A record update of pins, bist, layers. -/
theorem Keeps.u67174528 {x7 x16 x26} (h0 : Keeps s t) : Keeps s (State.mk t.pending t.now t.choice t.pwrgood t.mode t.holdCause t.takeover x7 t.boot t.sup t.flt t.thm t.pwr t.otp t.jnl t.att x16 t.mb t.rep t.gnt t.tap t.image t.ports t.chans t.pcs t.slices x26 t.pmc t.mem) :=
  h0.trans (Keeps.same rfl rfl rfl ⟨rfl, rfl, rfl⟩ rfl)
/-- A record update of pmc. -/
theorem Keeps.u134217728 {x27} (h0 : Keeps s t) : Keeps s (State.mk t.pending t.now t.choice t.pwrgood t.mode t.holdCause t.takeover t.pins t.boot t.sup t.flt t.thm t.pwr t.otp t.jnl t.att t.bist t.mb t.rep t.gnt t.tap t.image t.ports t.chans t.pcs t.slices t.layers x27 t.mem) :=
  h0.trans (Keeps.same rfl rfl rfl ⟨rfl, rfl, rfl⟩ rfl)

theorem tabWfFrom_tabSet {α : Type} [DecidableEq α] (d : Nat → α) (l : List (Nat × α)) (k : Nat) (a : α) (h : tabWfFrom d l = true) :
    tabWfFrom d (tabSet (d k) l k a) = true := by
  unfold tabSet
  split
  · exact tabWfFrom_tabErase d l k h
  · next ha => exact tabWfFrom_tabPut d _ k a (tabWfFrom_tabErase d l k h) ha (fun e he => (mem_tabErase.mp he).2)

/-- The THERMAL settings leave the record of a trip alone. -/
theorem loadThermal_tripValid (x : Option ImageSection) (t : ThmState) : (loadThermal x t).tripValid = t.tripValid := by
  cases x <;> rfl

/-- SERVICE entered from BOOT. -/
theorem Keeps.toService {x8 x12} (hb : s.mode = .boot) (hf : Fr 138412032 s t) : Keeps s (State.mk t.pending t.now t.choice t.pwrgood .service t.holdCause t.takeover t.pins x8 t.sup t.flt t.thm x12 t.otp t.jnl t.att t.bist t.mb t.rep t.gnt t.tap t.image t.ports t.chans t.pcs t.slices t.layers t.pmc t.mem) where
  mem := (Keeps.ofFr hf (by decide) (Keeps.refl _)).mem
  tripValid := (Keeps.ofFr hf (by decide) (Keeps.refl _)).tripValid
  tripOk := fun _ e => nomatch e
  trip := fun e => nomatch e.symm.trans hb
  boot := fun e => absurd hb e
  hold := fun e => nomatch e.symm.trans hb
  grave := (Keeps.ofFr hf (by decide) (Keeps.refl _)).grave
  cause := fun _ => .inl (hf.holdCause rfl)

theorem State.writeByte_keeps (s : State) (a : ℕ) (v : Byte) : Keeps s (State.writeByte s a v) := by
  refine ⟨fun h => ?_, id, id, id, id, .inl, id, fun _ => .inl rfl⟩
  unfold State.memoryOk memoryWf State.writeByte at *
  exact tabWfFrom_tabSet memDefault _ _ _ h

theorem State.writeBytes_keeps (s : State) (y1 : ℕ) (y2 : ℕ) (y3 : ℕ) : Keeps s (State.writeBytes s y1 y2 y3) := by
  induction y1 generalizing s y2 y3 with
  | zero => exact Keeps.refl _
  | succ n ih => exact (State.writeByte_keeps s _ _).trans (ih _ _ _)

theorem State.storeBlock_keeps (s : State) (key : ℕ) (b : ℕ) (d : Block) (c : BitVec 64) : Keeps s (State.storeBlock s key b d c) := by
  unfold State.storeBlock
  exact (Keeps.step (State.writeBytes_keeps _ _ _ _) (Keeps.step (State.writeBytes_keeps _ _ _ _) (Keeps.refl _)))

theorem State.storeCuff_keeps (s : State) (key : ℕ) (c : Block) : Keeps s (State.storeCuff s key c) := by
  unfold State.storeCuff
  exact (Keeps.step (State.writeBytes_keeps _ _ _ _) (Keeps.refl _))

theorem State.putBlock_keeps (s : State) (key : ℕ) (b : ℕ) (x : (Block × BitVec 64) × Block × BitVec 64) : Keeps s (State.putBlock s key b x) := by
  unfold State.putBlock
  exact (Keeps.step (State.storeCuff_keeps _ _ _) (Keeps.step (State.storeBlock_keeps _ _ _ _ _) (Keeps.refl _)))

theorem State.storeRow_keeps (s : State) (key : ℕ) (r : Row) : Keeps s (State.storeRow s key r) := by
  unfold State.storeRow
  exact (Keeps.step (State.storeCuff_keeps _ _ _) (Keeps.forN (fun _ _ => (Keeps.step (State.storeBlock_keeps _ _ _ _ _) (Keeps.refl _))) _ (Keeps.refl _)))

theorem State.writeBlock_keeps (s : State) (key : ℕ) (b : ℕ) (mask : BitVec 64) (d : Block) : Keeps s (State.writeBlock s key b mask d).1 := by
  unfold State.writeBlock
  exact (by (try dsimp only); exact (Keeps.iteP (by (try dsimp only); exact (Keeps.refl _)) (by (try dsimp only); exact (Keeps.step (State.putBlock_keeps _ _ _ _) (Keeps.refl _)))))

theorem State.setCell_keeps (s : State) (key : ℕ) (c : CellChange) : Keeps s (State.setCell s key c) := by
  unfold State.setCell
  exact (Keeps.step (State.writeByte_keeps _ _ _) (Keeps.refl _))

theorem State.setCells_keeps (s : State) (key : ℕ) (l : List CellChange) : Keeps s (State.setCells s key l) := by
  unfold State.setCells
  exact (Keeps.foldl (fun _ _ => (Keeps.step (State.setCell_keeps _ _ _) (Keeps.refl _))) _ (Keeps.refl _))

theorem State.updSrc_keeps (s : State) (n : ℕ) (f : Source → Source) : Keeps s (State.updSrc s n f) := by
  unfold State.updSrc
  exact (Keeps.u1024 (Keeps.refl _) ⟨rfl, rfl, rfl⟩)

theorem setAlert_keeps (m : BitVec 5) (s : State) : Keeps s (setAlert m s) := by
  unfold setAlert
  exact (Keeps.iteB (Keeps.refl _) (Keeps.ofFr (attend_fr _) (by decide) (Keeps.u1024 (Keeps.refl _) ⟨rfl, rfl, rfl⟩)))

theorem logRecord_keeps (src : ℕ) (cls : ℕ) (forced : Bool) (reacted : Bool) (record : ℕ) (detail : ℕ) (s : State) : Keeps s (logRecord src cls forced reacted record detail s) := by
  unfold logRecord
  exact (Keeps.ofFr (queueRecord_fr _ _) (by decide) (Keeps.iteT (Keeps.step (setAlert_keeps _ _) (Keeps.refl _)) (Keeps.u1024 (Keeps.refl _) ⟨rfl, rfl, rfl⟩)))

theorem sendNotice_keeps (p : ℕ) (src : ℕ) (cls : ℕ) (win : ℕ) (s : State) : Keeps s (sendNotice p src cls win s) := by
  unfold sendNotice
  exact (Keeps.iteT (Keeps.iteT (Keeps.step (setAlert_keeps _ _) (Keeps.refl _)) (Keeps.ofFr (State.updPort_fr _ _ _) (by decide) (Keeps.refl _))) (Keeps.refl _))

theorem noticeRank_keeps (src : ℕ) (cls : ℕ) (r : ℕ) (s : State) : Keeps s (noticeRank src cls r s) := by
  unfold noticeRank
  exact (Keeps.forN (fun _ _ => (by (try dsimp only); split <;> (try dsimp only); exact (Keeps.step (sendNotice_keeps _ _ _ _ _) (Keeps.refl _)); exact (Keeps.refl _))) _ (Keeps.refl _))

theorem notices_keeps (src : ℕ) (d : EventDetail) (s : State) : Keeps s (notices src d s) := by
  unfold notices
  exact (Keeps.ite (Keeps.step (sendNotice_keeps _ _ _ _ _) (Keeps.refl _)) (Keeps.ite (by (try dsimp only); split <;> (try dsimp only); exact (Keeps.step (noticeRank_keeps _ _ _ _) (Keeps.refl _)); exact (Keeps.forN (fun _ _ => (Keeps.iteT (Keeps.step (sendNotice_keeps _ _ _ _ _) (Keeps.refl _)) (Keeps.refl _))) _ (Keeps.refl _))) (Keeps.ite (Keeps.forN (fun _ _ => (by (try dsimp only); split <;> (try dsimp only); exact (Keeps.step (sendNotice_keeps _ _ _ _ _) (Keeps.refl _)); exact (Keeps.refl _))) _ (Keeps.refl _)) (Keeps.forN (fun _ _ => (Keeps.step (sendNotice_keeps _ _ _ _ _) (Keeps.refl _))) _ (Keeps.refl _)))))

theorem reactions_keeps (src : ℕ) (d : EventDetail) (forced : Bool) (record : ℕ) (s : State) : Keeps s (reactions src d forced record s) := by
  unfold reactions
  exact (Keeps.iteT (Keeps.ofFr (supRestart_fr _) (by decide) (Keeps.refl _)) (Keeps.ofFr (repairReactions_fr _ _ _) (by decide) (Keeps.iteT (Keeps.ofFr (fencePort_fr _ _) (by decide) (Keeps.refl _)) (Keeps.iteT (Keeps.step (notices_keeps _ _ _) (Keeps.refl _)) (Keeps.iteT (Keeps.step (setAlert_keeps _ _) (Keeps.refl _)) (Keeps.iteT (Keeps.step (logRecord_keeps _ _ _ _ _ _ _) (Keeps.refl _)) (Keeps.refl _)))))))

theorem stopMemory_keeps (s : State) : Keeps s (stopMemory s) := by
  unfold stopMemory
  extract_lets s1
  have h1 : Keeps s s1 := Keeps.forN (fun _ _ => Keeps.iteB (Keeps.refl _) (Keeps.ofFr (State.updPc_fr _ _ _) (by decide) (Keeps.refl _))) _
    (Keeps.refl _)
  clear_value s1
  exact h1.trans ⟨fun _ => rfl, id, id, id, id, .inl, id, fun _ => .inl rfl⟩

theorem enterHold_keeps (cause : ℕ) (s : State) : Keeps s (enterHold cause s) := by
  unfold enterHold
  split
  · exact Keeps.refl _
  · next hc =>
    extract_lets s1
    have h1 : Fr 536870863 s s1 := Fr.step (stopTest_fr _) (by decide) (Fr.step (layersOff_fr _) (by decide)
      (Fr.step (stopMemory_fr _) (by decide) (Fr.step (linksDown_fr _) (by decide) (Fr.refl _ _))))
    have hk : Keeps s s1 := Keeps.ofFr (stopTest_fr _) (by decide) (Keeps.ofFr (layersOff_fr _) (by decide)
      (Keeps.step (stopMemory_keeps _) (Keeps.ofFr (linksDown_fr _) (by decide) (Keeps.refl _))))
    have hd : s1.mode = s.mode := h1.mode rfl
    have hh : s1.holdCause = s.holdCause := h1.holdCause rfl
    clear_value s1
    refine ⟨hk.mem, hk.tripValid, fun _ e => by simp at e, fun e => absurd (.inl e) hc, fun _ => by simp, fun _ => .inl rfl,
      hk.grave, fun e => ?_⟩
    show (if s1.holdCause = 0 then _ else s1.holdCause) = s.holdCause ∨ _
    left
    rw [hh, if_neg e]

theorem setGrave_keeps (src : ℕ) (forced : Bool) (cause : ℕ) (s : State) : Keeps s (setGrave src forced cause s) := by
  unfold setGrave
  extract_lets x s1 s2 w s3
  have h1 : Keeps s s1 := by
    dsimp only [s1]
    split
    · exact Keeps.refl _
    · exact ⟨id, id, id, id, id, .inl, fun _ => rfl, fun _ => .inl rfl⟩
  have h3 : Keeps s s3 := Keeps.forN (fun _ _ => Keeps.iteT (Keeps.ofFr (State.updPort_fr _ _ _) (by decide) (Keeps.refl _)) (Keeps.refl _)) _
    (Keeps.step (setAlert_keeps _ _) h1)
  exact h3.trans (enterHold_keeps _ _)

theorem holdReaction_keeps (src : ℕ) (d : EventDetail) (forced : Bool) (s : State) : Keeps s (holdReaction src d forced s) := by
  unfold holdReaction
  exact (Keeps.iteT (Keeps.step (setGrave_keeps _ _ _ _) (Keeps.step (logRecord_keeps _ _ _ _ _ _ _) (Keeps.step (State.updSrc_keeps _ _ _) (Keeps.refl _)))) (Keeps.refl _))

theorem escalate_keeps (src : ℕ) (d : EventDetail) (forced : Bool) (s : State) : Keeps s (escalate src d forced s) := by
  unfold escalate
  exact (Keeps.ite (Keeps.step (setGrave_keeps _ _ _ _) (Keeps.step (reactions_keeps _ _ _ _ _) (Keeps.step (State.updSrc_keeps _ _ _) (Keeps.refl _)))) (Keeps.step (holdReaction_keeps _ _ _ _) (Keeps.step (reactions_keeps _ _ _ _ _) (Keeps.step (State.updSrc_keeps _ _ _) (Keeps.refl _)))))

theorem latchGrave_keeps (src : ℕ) (d : EventDetail) (forced : Bool) (cause : ℕ) (s : State) : Keeps s (latchGrave src d forced cause s) := by
  unfold latchGrave
  exact (Keeps.step (setGrave_keeps _ _ _ _) (Keeps.iteB (Keeps.refl _) (Keeps.step (logRecord_keeps _ _ _ _ _ _ _) (Keeps.refl _))))

theorem registerEvent_keeps (src : ℕ) (d : EventDetail) (forced : Bool) (s : State) : Keeps s (registerEvent src d forced s).1 := by
  unfold registerEvent
  split
  · exact Keeps.refl _
  · extract_lets t r x s1 s2
    have h1 : Keeps s s1 := Keeps.step (State.updSrc_keeps _ _ _) (Keeps.refl _)
    have h2 : Keeps s s2 := by
      dsimp only [s2]
      split
      · exact Keeps.step (setAlert_keeps _ _) h1
      · exact h1
    clear_value s2
    split
    · dsimp only
      exact Keeps.step (State.updSrc_keeps _ _ _) (Keeps.refl _)
    · split
      · dsimp only
        exact Keeps.step (escalate_keeps _ _ _ _) h2
      · split
        · dsimp only
          exact Keeps.step (latchGrave_keeps _ _ _ _ _) h2
        · exact h2

theorem checkMinimum_keeps (s : State) : Keeps s (checkMinimum s) := by
  unfold checkMinimum
  exact (Keeps.iteB (Keeps.refl _) (Keeps.ite (Keeps.step (enterHold_keeps _ _) (Keeps.refl _)) (Keeps.iteT (Keeps.step (latchGrave_keeps _ _ _ _ _) (Keeps.step (registerEvent_keeps _ _ _ _) (Keeps.refl _))) (Keeps.refl _))))

theorem pairLoss_keeps (i : ℕ) (s : State) : Keeps s (pairLoss i s) := by
  unfold pairLoss
  exact (Keeps.step (checkMinimum_keeps _) (Keeps.forN (fun _ _ => (Keeps.iteT (Keeps.step (sendNotice_keeps _ _ _ _ _) (Keeps.refl _)) (Keeps.refl _))) _ (Keeps.u262144 (Keeps.step (registerEvent_keeps _ _ _ _) (Keeps.step (registerEvent_keeps _ _ _ _) (Keeps.forL (fun _ _ => (Keeps.step (logRecord_keeps _ _ _ _ _ _ _) (Keeps.refl _))) _ (Keeps.forL (fun _ _ => (Keeps.ofFr (stopPc_fr _ _) (by decide) (Keeps.refl _))) _ (Keeps.ofFr (State.updChan_fr _ _ _) (by decide) (Keeps.ofFr (State.updChan_fr _ _ _) (by decide) (Keeps.refl _))))))))))

theorem raiseOnly_keeps (src : ℕ) (c : ℕ) (d : EventDetail) (cause : ℕ) (s : State) : Keeps s (raiseOnly src c d cause s) := by
  unfold raiseOnly
  exact (Keeps.ite (Keeps.iteT (Keeps.step (latchGrave_keeps _ _ _ _ _) (Keeps.refl _)) (Keeps.refl _)) (Keeps.ite (Keeps.step (setGrave_keeps _ _ _ _) (Keeps.step (reactions_keeps _ _ _ _ _) (Keeps.step (State.updSrc_keeps _ _ _) (Keeps.refl _)))) (Keeps.step (holdReaction_keeps _ _ _ _) (Keeps.step (reactions_keeps _ _ _ _ _) (Keeps.step (State.updSrc_keeps _ _ _) (Keeps.refl _))))))

theorem takeover_keeps (n : ℕ) (src : ℕ) (s : State) : Keeps s (takeover n src s) := by
  unfold takeover
  exact (Keeps.iteB (Keeps.refl _) (Keeps.ite (Keeps.step (pairLoss_keeps _ _) (Keeps.refl _)) (Keeps.step (raiseOnly_keeps _ _ _ _ _) (Keeps.ofFr (shrinkCause_fr _ _) (by decide) (Keeps.u64 (Keeps.ofFr (State.updChan_fr _ _ _) (by decide) (Keeps.ofFr (State.updChan_fr _ _ _) (by decide) (Keeps.refl _))))))))

theorem gloveReaction_keeps (src : ℕ) (s : State) : Keeps s (gloveReaction src s) := by
  unfold gloveReaction
  exact (Keeps.iteT (Keeps.iteT (Keeps.step (takeover_keeps _ _ _) (Keeps.refl _)) (Keeps.refl _)) (Keeps.refl _))

theorem perEvent_keeps (src : ℕ) (d : EventDetail) (s : State) : Keeps s (perEvent src d s) := by
  unfold perEvent
  exact (Keeps.ite (Keeps.ofFr (supRestart_fr _) (by decide) (Keeps.refl _)) (Keeps.ite (by (try dsimp only); split <;> (try dsimp only); exact (Keeps.ofFr (State.updPc_fr _ _ _) (by decide) (Keeps.refl _)); exact (Keeps.ofFr (State.updPc_fr _ _ _) (by decide) (Keeps.refl _)); exact (Keeps.step (takeover_keeps _ _ _) (Keeps.refl _)); exact (Keeps.step (takeover_keeps _ _ _) (Keeps.refl _)); exact (Keeps.refl _)) (Keeps.iteT (Keeps.ofFr (layerEntry_fr _ _ _) (by decide) (Keeps.refl _)) (Keeps.refl _))))

theorem fault_keeps (src : ℕ) (d : EventDetail) (s : State) : Keeps s (fault src d s) := by
  unfold fault
  exact (Keeps.ite (Keeps.iteT (Keeps.ite (Keeps.u1024 (Keeps.refl _) ⟨rfl, rfl, rfl⟩) (Keeps.u1024 (Keeps.refl _) ⟨rfl, rfl, rfl⟩)) (Keeps.refl _)) (Keeps.iteT (Keeps.step (perEvent_keeps _ _ _) (Keeps.refl _)) (Keeps.iteT (Keeps.step (gloveReaction_keeps _ _) (Keeps.refl _)) (Keeps.step (registerEvent_keeps _ _ _ _) (Keeps.refl _)))))

theorem faultMany_keeps (src : ℕ) (n : ℕ) (d : EventDetail) (s : State) : Keeps s (faultMany src n d s) := by
  unfold faultMany
  exact (Keeps.iteB (Keeps.refl _) (Keeps.step (State.updSrc_keeps _ _ _) (Keeps.step (fault_keeps _ _ _) (Keeps.refl _))))

theorem raiseFault_keeps (src : ℕ) (c : ℕ) (d : EventDetail) (cause : ℕ) (s : State) : Keeps s (raiseFault src c d cause s) := by
  unfold raiseFault
  exact (Keeps.iteB (Keeps.refl _) (Keeps.ite (Keeps.step (perEvent_keeps _ _ _) (Keeps.step (gloveReaction_keeps _ _) (Keeps.step (raiseOnly_keeps _ _ _ _ _) (Keeps.step (State.updSrc_keeps _ _ _) (Keeps.refl _))))) (Keeps.iteT (Keeps.step (latchGrave_keeps _ _ _ _ _) (Keeps.refl _)) (Keeps.step (fault_keeps _ _ _) (Keeps.refl _)))))

theorem attStart_keeps (s : State) : Keeps s (attStart s) := by
  unfold attStart
  exact (Keeps.iteT (Keeps.step (raiseFault_keeps _ _ _ _ _) (Keeps.refl _)) (Keeps.iteT (Keeps.step (fault_keeps _ _ _) (Keeps.refl _)) (Keeps.u32768 (Keeps.refl _))))

theorem shutdownAdvance_keeps (s : State) : Keeps s (shutdownAdvance s) := by
  unfold shutdownAdvance
  exact (Keeps.iteT (Keeps.ofFr (startSelfTest_fr _ _ _) (by decide) (Keeps.u65536 (Keeps.step (stopMemory_keeps _) (Keeps.refl _)))) (Keeps.iteT (Keeps.u65536 (Keeps.ofFr (portsOff_fr _) (by decide) (Keeps.refl _))) (Keeps.refl _)))

theorem retainEntry_keeps (s : State) : Keeps s (retainEntry s) := by
  unfold retainEntry
  split
  · exact Keeps.refl _
  · next hc =>
    have hb : s.mode = .service := Decidable.not_not.mp hc
    extract_lets skip x s1 d y
    have h1 : Keeps s s1 := ⟨id, id, fun _ e => by simp [s1] at e, fun e => absurd (e.symm.trans hb) (by simp),
      fun _ => by simp [s1], fun e => absurd (e.symm.trans hb) (by simp), id, fun _ => .inl rfl⟩
    clear_value s1 d skip
    split
    · exact Keeps.ofFr (startEntry_fr _ _) (by decide) h1
    · exact h1.trans (Keeps.same rfl rfl rfl ⟨rfl, rfl, rfl⟩ rfl)

theorem startShutdown_keeps (trigger : ℕ) (s : State) : Keeps s (startShutdown trigger s) := by
  unfold startShutdown
  exact (Keeps.ite (Keeps.iteT (Keeps.u65536 (Keeps.refl _)) (Keeps.refl _)) (Keeps.ite (Keeps.u65536 (Keeps.step (stopMemory_keeps _) (Keeps.ofFr (portsOff_fr _) (by decide) (Keeps.u69632 (by (try dsimp only); split <;> (try dsimp only); exact (Keeps.ofFr (abandonEntry_fr _ _ _) (by decide) (Keeps.refl _)); exact (Keeps.refl _)))))) (Keeps.step (shutdownAdvance_keeps _) (Keeps.u65536 (Keeps.u69632 (by (try dsimp only); split <;> (try dsimp only); exact (Keeps.ofFr (abandonEntry_fr _ _ _) (by decide) (Keeps.refl _)); exact (Keeps.refl _)))))))

theorem backToService_keeps (s : State) : Keeps s (backToService s) := by
  unfold backToService
  split
  · exact Keeps.refl _
  · next hc =>
    have hb : s.mode = .retain := Decidable.not_not.mp hc
    extract_lets s1 x s2
    have h1 : Fr 70272 s s1 := by
      dsimp only [s1]
      split
      · exact abandonEntry_fr _ _ _
      · exact Fr.refl _ _
    have hk : Keeps s s1 := Keeps.ofFr h1 (by decide) (Keeps.refl _)
    have hh : s1.holdCause = s.holdCause := h1.holdCause rfl
    clear_value s1
    have h2 : Keeps s s2 := ⟨hk.mem, hk.tripValid, fun _ e => by simp [s2] at e, fun e => absurd (e.symm.trans hb) (by simp),
      fun _ => by simp [s2], fun e => absurd (e.symm.trans hb) (by simp), hk.grave, fun _ => .inl hh⟩
    clear_value s2
    exact Keeps.ofFr (settleRung_fr _) (by decide) (Keeps.ofFr (queueRecord_fr _ _) (by decide) h2)

theorem eraseSlices_keeps (f : ℕ → Bool) (s : State) : Keeps s (eraseSlices f s) := by
  refine ⟨fun h => ?_, id, id, id, id, .inl, id, fun _ => .inl rfl⟩
  unfold State.memoryOk memoryWf eraseSlices at *
  exact tabWfFrom_filter memDefault _ _ h

theorem pinShutdown_keeps (s : State) : Keeps s (pinShutdown s) := by
  unfold pinShutdown
  exact (Keeps.iteT (Keeps.step (startShutdown_keeps _ _) (Keeps.refl _)) (Keeps.refl _))

theorem serviceEntry_keeps (s : State) : Keeps s (serviceEntry s) := by
  unfold serviceEntry
  split
  · exact Keeps.refl _
  · next hc =>
    have hb : s.mode = .boot := Decidable.not_not.mp hc
    have hk : ∀ t, Keeps s t → Keeps s (settleRung (attStart (queueRecord (ledgerRecord t) t))) := fun t h =>
      Keeps.ofFr (settleRung_fr _) (by decide) (Keeps.step (attStart_keeps _) (Keeps.ofFr (queueRecord_fr _ _) (by decide) h))
    exact hk _ (Keeps.toService hb (Fr.forN (fun _ _ => Fr.step (State.updCset_fr _ _ _) (by decide) (Fr.refl _ _)) _
      (Fr.forN (fun _ _ => Fr.iteT (Fr.step (State.updPort_fr _ _ _) (by decide) (Fr.refl _ _)) (Fr.refl _ _)) _ (Fr.refl _ _))))

theorem attemptFailed_keeps (p : ℕ) (s : State) : Keeps s (attemptFailed p s) := by
  unfold attemptFailed
  exact (Keeps.ofFr (settleRung_fr _) (by decide) (Keeps.step (fault_keeps _ _ _) (Keeps.ofFr (State.updPort_fr _ _ _) (by decide) (Keeps.refl _))))

theorem failLanes_keeps (p : ℕ) (lanes : BitVec 4) (s : State) : Keeps s (failLanes p lanes s) := by
  unfold failLanes
  exact (Keeps.iteT (Keeps.ite (Keeps.step (fault_keeps _ _ _) (Keeps.ofFr (State.updPort_fr _ _ _) (by decide) (Keeps.refl _))) (by (try dsimp only); split <;> (try dsimp only); exact (Keeps.ofFr (State.updPort_fr _ _ _) (by decide) (Keeps.ofFr (sendLink_fr _ _ _) (by decide) (Keeps.step (fault_keeps _ _ _) (Keeps.ofFr (State.updPort_fr _ _ _) (by decide) (Keeps.refl _))))); exact (Keeps.ofFr (startRetrain_fr _ _ _ _ _) (by decide) (Keeps.step (fault_keeps _ _ _) (Keeps.ofFr (State.updPort_fr _ _ _) (by decide) (Keeps.refl _)))))) (Keeps.refl _))

theorem endSymlock_keeps (p : ℕ) (found : List LaneFound) (s : State) : Keeps s (endSymlock p found s) := by
  unfold endSymlock
  exact (Keeps.ite (Keeps.step (attemptFailed_keeps _ _) (Keeps.refl _)) (Keeps.ofFr (sendCap_fr _ _ _) (by decide) (Keeps.ofFr (State.updPort_fr _ _ _) (by decide) (Keeps.forL (fun _ _ => (Keeps.ofFr (State.updPort_fr _ _ _) (by decide) (Keeps.refl _))) _ (Keeps.refl _)))))

theorem portShrink_keeps (p : ℕ) (raised : Bool) (s : State) : Keeps s (portShrink p raised s) := by
  unfold portShrink
  exact (Keeps.iteT (Keeps.ite (Keeps.step (raiseOnly_keeps _ _ _ _ _) (Keeps.ofFr (shrinkCause_fr _ _) (by decide) (Keeps.ofFr (State.updPort_fr _ _ _) (by decide) (Keeps.refl _)))) (Keeps.step (raiseFault_keeps _ _ _ _ _) (Keeps.ofFr (shrinkCause_fr _ _) (by decide) (Keeps.ofFr (State.updPort_fr _ _ _) (by decide) (Keeps.refl _))))) (Keeps.refl _))

theorem applyWidth_keeps (p : ℕ) (w : ℕ) (lanes : BitVec 4) (s : State) : Keeps s (applyWidth p w lanes s) := by
  unfold applyWidth
  exact (Keeps.iteT (Keeps.ofFr (startRetrain_fr _ _ _ _ _) (by decide) (Keeps.refl _)) (Keeps.step (portShrink_keeps _ _ _) (Keeps.ofFr (State.updPort_fr _ _ _) (by decide) (Keeps.refl _))))

theorem goActive_keeps (p : ℕ) (w : ℕ) (lanes : BitVec 4) (f : ℕ) (role : ℕ) (s : State) : Keeps s (goActive p w lanes f role s) := by
  unfold goActive
  exact (Keeps.iteT (Keeps.step (pinShutdown_keeps _) (Keeps.step (serviceEntry_keeps _) (Keeps.u256 (Keeps.refl _)))) (Keeps.ofFr (settleRung_fr _) (by decide) (Keeps.step (portShrink_keeps _ _ _) (Keeps.ofFr (noteHeld_fr _ _) (by decide) (Keeps.ite (Keeps.ofFr (startResync_fr _ _ _) (by decide) (Keeps.forN (fun _ _ => (Keeps.iteT (Keeps.ofFr (State.updPort_fr _ _ _) (by decide) (Keeps.refl _)) (Keeps.refl _))) _ (Keeps.ofFr (State.updPort_fr _ _ _) (by decide) (Keeps.refl _)))) (Keeps.ofFr (beginSession_fr _ _) (by decide) (Keeps.forN (fun _ _ => (Keeps.iteT (Keeps.ofFr (State.updPort_fr _ _ _) (by decide) (Keeps.refl _)) (Keeps.refl _))) _ (Keeps.ofFr (State.updPort_fr _ _ _) (by decide) (Keeps.refl _)))))))))

theorem wakeEvent_keeps (code : ℕ) (service : Bool) (s : State) : Keeps s (wakeEvent code service s) := by
  unfold wakeEvent
  exact (Keeps.iteB (Keeps.refl _) (Keeps.ite (Keeps.ofFr (recordWake_fr _ _ _) (by decide) (Keeps.refl _)) (Keeps.ite (Keeps.ite (Keeps.step (backToService_keeps _) (Keeps.ofFr (recordWake_fr _ _ _) (by decide) (Keeps.refl _))) (by (try dsimp only); split <;> (try dsimp only); exact (Keeps.ofFr (abandonEntry_fr _ _ _) (by decide) (Keeps.ofFr (recordWake_fr _ _ _) (by decide) (Keeps.refl _))); exact (Keeps.ofFr (recordWake_fr _ _ _) (by decide) (Keeps.refl _)))) (Keeps.ofFr (startExit_fr _ _ _) (by decide) (by (try dsimp only); split <;> (try dsimp only); exact (Keeps.ofFr (abandonEntry_fr _ _ _) (by decide) (Keeps.refl _)); exact (Keeps.refl _))))))

theorem violation_keeps (p : ℕ) (cause : ℕ) (s : State) : Keeps s (violation p cause s) := by
  unfold violation
  exact (Keeps.step (fault_keeps _ _ _) (Keeps.ofFr (State.updPort_fr _ _ _) (by decide) (Keeps.refl _)))

theorem auditFailed_keeps (p : ℕ) (cause : ℕ) (reason : ℕ) (s : State) : Keeps s (auditFailed p cause reason s) := by
  unfold auditFailed
  exact (Keeps.iteT (Keeps.ofFr (startResync_fr _ _ _) (by decide) (Keeps.refl _)) (Keeps.step (fault_keeps _ _ _) (Keeps.ofFr (State.updPort_fr _ _ _) (by decide) (Keeps.refl _))))

theorem creditReturn_keeps (p : ℕ) (v : ℕ) (n : ℕ) (s : State) : Keeps s (creditReturn p v n s) := by
  unfold creditReturn
  exact (Keeps.iteB (Keeps.refl _) (Keeps.iteT (Keeps.step (violation_keeps _ _ _) (Keeps.refl _)) (Keeps.ofFr (noteHeld_fr _ _) (by decide) (Keeps.ofFr (State.updPort_fr _ _ _) (by decide) (Keeps.refl _)))))

theorem openTag_keeps (p : ℕ) (op : Op) (h : ReqHeader) (r : Req) (next : State → State) (s : State) (hf : ∀ t, Keeps t (next t)) : Keeps s (openTag p op h r next s) := by
  unfold openTag
  have h0 : Keeps s (requestArrives p s) := Keeps.ofFr (requestArrives_fr _ _) (by decide) (Keeps.refl _)
  exact Keeps.ite (Keeps.step (violation_keeps _ _ _) h0) (Keeps.ite (Keeps.step (violation_keeps _ _ _) h0)
    (Keeps.step (hf _) (Keeps.ofFr (State.updPort_fr _ _ _) (by decide) h0)))

theorem answerOther_keeps (p : ℕ) (b : BitVec 96) (s : State) : Keeps s (answerOther p b s) := by
  unfold answerOther
  exact (Keeps.step (openTag_keeps _ _ _ _ _ _ (fun _ => (Keeps.ofFr (State.updPort_fr _ _ _) (by decide) (Keeps.refl _)))) (Keeps.refl _))

theorem answerOtherMgmt_keeps (p : ℕ) (b : BitVec 96) (s : State) : Keeps s (answerOtherMgmt p b s) := by
  unfold answerOtherMgmt
  exact (Keeps.step (openTag_keeps _ _ _ _ _ _ (fun _ => (Keeps.ofFr (answerMgmt_fr _ _ _ _ _) (by decide) (Keeps.refl _)))) (Keeps.refl _))

theorem serveOthers_keeps (p : ℕ) (s : State) : Keeps s (serveOthers p s) := by
  unfold serveOthers
  exact (Keeps.foldl (fun _ _ => (by (try dsimp only); split <;> (try dsimp only); exact (Keeps.iteB (by (try dsimp only); split <;> (try dsimp only); exact (Keeps.iteB (Keeps.refl _) (Keeps.step (answerOther_keeps _ _ _) (Keeps.ofFr (State.updPort_fr _ _ _) (by decide) (Keeps.refl _)))); exact (Keeps.refl _)) (Keeps.step (answerOtherMgmt_keeps _ _ _) (Keeps.ofFr (takeMsg_fr _ _ _) (by decide) (Keeps.refl _)))); exact (by (try dsimp only); split <;> (try dsimp only); exact (Keeps.iteB (Keeps.refl _) (Keeps.step (answerOther_keeps _ _ _) (Keeps.ofFr (State.updPort_fr _ _ _) (by decide) (Keeps.refl _)))); exact (Keeps.refl _)))) _ (Keeps.refl _))

theorem receiveSlot_keeps (p : ℕ) (x : BitVec 608) (s : State) : Keeps s (receiveSlot p x s) := by
  unfold receiveSlot
  exact (Keeps.ite (Keeps.iteB (Keeps.refl _) (Keeps.step (violation_keeps _ _ _) (Keeps.refl _))) (Keeps.ite (Keeps.step (fault_keeps _ _ _) (Keeps.step (violation_keeps _ _ _) (Keeps.refl _))) (by (try dsimp only); split <;> (try dsimp only); exact (Keeps.ofFr (State.updPort_fr _ _ _) (by decide) (Keeps.ofFr (State.updPort_fr _ _ _) (by decide) (Keeps.refl _))); exact (Keeps.step (violation_keeps _ _ _) (Keeps.ofFr (State.updPort_fr _ _ _) (by decide) (Keeps.ofFr (State.updPort_fr _ _ _) (by decide) (Keeps.refl _)))))))

theorem acceptSeq_keeps (p : ℕ) (f : BitVec 1280) (s : State) : Keeps s (acceptSeq p f s) := by
  unfold acceptSeq
  exact (Keeps.step (serveOthers_keeps _ _) (Keeps.step (receiveSlot_keeps _ _ _) (Keeps.step (receiveSlot_keeps _ _ _) (Keeps.iteB (Keeps.ofFr (State.updPort_fr _ _ _) (by decide) (Keeps.ofFr (pmcCount_fr _ _ _ _) (by decide) (Keeps.refl _))) (Keeps.step (creditReturn_keeps _ _ _ _) (Keeps.refl _))))))

theorem auditBooks_keeps (p : ℕ) (s : State) : Keeps s (auditBooks p s) := by
  unfold auditBooks
  exact (Keeps.iteB (Keeps.refl _) (Keeps.iteT (Keeps.ofFr (startResync_fr _ _ _) (by decide) (Keeps.refl _)) (Keeps.step (fault_keeps _ _ _) (Keeps.refl _))))

theorem failNoisy_keeps (p : ℕ) (s : State) : Keeps s (failNoisy p s) := by
  unfold failNoisy
  exact (Keeps.iteB (Keeps.refl _) (Keeps.step (failLanes_keeps _ _ _) (Keeps.forL (fun _ _ => (Keeps.ofFr (State.updPort_fr _ _ _) (by decide) (Keeps.refl _))) _ (Keeps.refl _))))

theorem takeMarker_keeps (p : ℕ) (blocks : List (BitVec 640)) (s : State) : Keeps s (takeMarker p blocks s) := by
  unfold takeMarker
  exact (Keeps.step (failNoisy_keeps _ _) (by (try dsimp only); split <;> (try dsimp only); exact (Keeps.ofFr (State.updPort_fr _ _ _) (by decide) (Keeps.forL (fun _ _ => (Keeps.ofFr (State.updPort_fr _ _ _) (by decide) (Keeps.refl _))) _ (Keeps.refl _))); exact (Keeps.forL (fun _ _ => (Keeps.ofFr (State.updPort_fr _ _ _) (by decide) (Keeps.refl _))) _ (Keeps.refl _))))

theorem receiveRequest_keeps (p : ℕ) (op : Op) (h : ReqHeader) (s : State) : Keeps s (receiveRequest p op h s) := by
  unfold receiveRequest
  exact (Keeps.iteB (Keeps.refl _) (Keeps.step (serveOthers_keeps _ _) (Keeps.step (openTag_keeps _ _ _ _ _ _ (fun _ => Keeps.ite (Keeps.ofFr (State.updPort_fr _ _ _) (by decide) (Keeps.refl _)) (Keeps.ite (Keeps.ofFr (State.updPort_fr _ _ _) (by decide) (Keeps.refl _)) (by dsimp only; split; exact Keeps.step (violation_keeps _ _ _) (Keeps.ofFr (State.updPort_fr _ _ _) (by decide) (Keeps.refl _)); exact Keeps.iteB (Keeps.ofFr (State.updPort_fr _ _ _) (by decide) (Keeps.refl _)) (Keeps.ofFr (toGauntlet_fr _ _ _) (by decide) (Keeps.refl _)))))) (Keeps.iteT (Keeps.ofFr (State.updPort_fr _ _ _) (by decide) (Keeps.refl _)) (Keeps.refl _)))))

theorem sendResponses_keeps (p : ℕ) (s : State) : Keeps s (sendResponses p s) := by
  unfold sendResponses
  dsimp only
  split
  · split
    · exact Keeps.ofFr (noteHeld_fr _ _) (by decide) (Keeps.refl _)
    · exact (Keeps.step (shutdownAdvance_keeps _) (Keeps.ofFr (noteHeld_fr _ _) (by decide) (Keeps.ofFr (State.updPort_fr _ _ _) (by decide) (Keeps.ofFr (sentItems_fr _ _ _) (by decide) (Keeps.ofFr (State.updPort_fr _ _ _) (by decide) (Keeps.ofFr (sendSeq_fr _ _ _ _) (by decide) (Keeps.iteB (Keeps.refl _) (Keeps.ofFr (portActive_fr _ _) (by decide) (Keeps.refl _)))))))))
  · exact Keeps.ofFr (noteHeld_fr _ _) (by decide) (Keeps.refl _)

theorem processAck_keeps (p : ℕ) (ack : BitVec 12) (s : State) : Keeps s (processAck p ack s) := by
  unfold processAck
  exact (Keeps.ite (Keeps.ofFr (noteHeld_fr _ _) (by decide) (Keeps.ofFr (State.updPort_fr _ _ _) (by decide) (Keeps.refl _))) (Keeps.iteB (Keeps.refl _) (Keeps.step (violation_keeps _ _ _) (Keeps.refl _))))

theorem goodFlit_keeps (p : ℕ) (f : BitVec 1280) (s : State) : Keeps s (goodFlit p f s) := by
  unfold goodFlit
  exact (by (try dsimp only); split <;> (try dsimp only); exact (Keeps.iteB (Keeps.refl _) (Keeps.ite (Keeps.step (acceptSeq_keeps _ _ _) (Keeps.step (processAck_keeps _ _ _) (Keeps.refl _))) (Keeps.iteT (Keeps.ofFr (lostFlit_fr _ _) (by decide) (Keeps.refl _)) (Keeps.step (processAck_keeps _ _ _) (Keeps.refl _))))); exact (Keeps.iteB (Keeps.iteT (Keeps.ofFr (lostFlit_fr _ _) (by decide) (Keeps.refl _)) (Keeps.iteT (Keeps.step (processAck_keeps _ _ _) (Keeps.refl _)) (Keeps.refl _))) (Keeps.step (violation_keeps _ _ _) (Keeps.refl _))); exact (Keeps.iteB (Keeps.iteT (Keeps.step (processAck_keeps _ _ _) (Keeps.refl _)) (Keeps.refl _)) (Keeps.step (violation_keeps _ _ _) (Keeps.refl _))); exact (Keeps.step (violation_keeps _ _ _) (Keeps.refl _)))

theorem takeFlit_keeps (p : ℕ) (f : BitVec 1280) (s : State) : Keeps s (takeFlit p f s) := by
  unfold takeFlit
  exact (Keeps.step (goodFlit_keeps _ _ _) (Keeps.iteT (Keeps.ofFr (portActive_fr _ _) (by decide) (Keeps.refl _)) (Keeps.refl _)))

theorem takeWord_keeps (p : ℕ) (seqLost : Bool) (r : Option (List (BitVec 1280) × List ℕ)) (s : State) : Keeps s (takeWord p seqLost r s) := by
  unfold takeWord
  exact (by (try dsimp only); split <;> (try dsimp only); exact (Keeps.forL (fun _ _ => (Keeps.iteB (Keeps.refl _) (Keeps.ite (Keeps.step (takeFlit_keeps _ _ _) (Keeps.refl _)) (Keeps.ofFr (lostFlit_fr _ _) (by decide) (Keeps.refl _))))) _ (Keeps.ofFr (countCorrected_fr _ _ _) (by decide) (Keeps.refl _))); exact (Keeps.iteT (Keeps.ofFr (lostFlit_fr _ _) (by decide) (Keeps.refl _)) (Keeps.ofFr (State.updPort_fr _ _ _) (by decide) (Keeps.refl _))))

theorem countTransfer_keeps (q : ℕ) (x : BurstXfer) (s : State) : Keeps s (countTransfer q x s) := by
  unfold countTransfer
  exact (by (try dsimp only); split <;> (try dsimp only); exact (Keeps.refl _); exact (Keeps.ofFr (State.updChan_fr _ _ _) (by decide) (Keeps.refl _)); exact (Keeps.step (fault_keeps _ _ _) (Keeps.ofFr (State.updChan_fr _ _ _) (by decide) (Keeps.refl _))))

theorem addWork_keeps (q : ℕ) (k : ℕ) (w : Work) (n : ℕ) (s : State) : Keeps s (addWork q k w n s) := by
  unfold addWork
  exact (Keeps.u2048 (Keeps.refl _) rfl)

theorem readLanded_keeps (q : ℕ) (b : Burst) (xfer : BitVec 64) (s : State) : Keeps s (readLanded q b xfer s) := by
  unfold readLanded
  exact (Keeps.ite (Keeps.ofFr (deliver_fr _ _ _ _ _ _ _) (by decide) (Keeps.ofFr (State.updPort_fr _ _ _) (by decide) (Keeps.iteB (Keeps.refl _) (Keeps.u4 (Keeps.refl _))))) (Keeps.ite (Keeps.ofFr (deliver_fr _ _ _ _ _ _ _) (by decide) (Keeps.iteB (Keeps.refl _) (Keeps.u4 (Keeps.refl _)))) (Keeps.ofFr (chanEvent_fr _ _ _ _) (by decide) (Keeps.step (addWork_keeps _ _ _ _ _) (Keeps.ofFr (State.updPc_fr _ _ _) (by decide) (Keeps.iteB (Keeps.refl _) (Keeps.u4 (Keeps.refl _))))))))

theorem parityReport_keeps (q : ℕ) (column : Bool) (before : ℕ) (s : State) : Keeps s (parityReport q column before s) := by
  unfold parityReport
  exact (by (try dsimp only); split <;> (try dsimp only); exact (Keeps.ofFr (reissue_fr _ _ _) (by decide) (Keeps.refl _)); exact (Keeps.step (fault_keeps _ _ _) (Keeps.ofFr (reissue_fr _ _ _) (by decide) (Keeps.ofFr (State.updChan_fr _ _ _) (by decide) (Keeps.refl _)))); exact (Keeps.ofFr (State.updChan_fr _ _ _) (by decide) (Keeps.refl _)))

theorem startDrain_keeps (q : ℕ) (k : ℕ) (e : WqEntry) (f : QWrite → Bool) (g : Bool) (act : ℕ) (start : ℕ) (s : State) : Keeps s (startDrain q k e f g act start s) := by
  unfold startDrain
  exact (Keeps.ofFr (chanEvent_fr _ _ _ _) (by decide) (Keeps.step (addWork_keeps _ _ _ _ _) (Keeps.ofFr (State.updPc_fr _ _ _) (by decide) (Keeps.refl _))))

theorem columns_keeps (q : ℕ) (k : ℕ) (g : Grant) (act : ℕ) (c : ℕ) (s : State) : Keeps s (columns q k g act c s) := by
  unfold columns
  exact (Keeps.ite (Keeps.ofFr (chanEvent_fr _ _ _ _) (by decide) (Keeps.step (addWork_keeps _ _ _ _ _) (Keeps.iteB (Keeps.ofFr (State.updPc_fr _ _ _) (by decide) (Keeps.ofFr (State.updSlice_fr _ _ _ _) (by decide) (Keeps.iteB (Keeps.foldl (fun _ _ => (Keeps.step (startDrain_keeps _ _ _ _ _ _ _ _) (Keeps.refl _))) _ (Keeps.refl _)) (Keeps.ofFr (State.updPc_fr _ _ _) (by decide) (Keeps.refl _))))) (Keeps.ofFr (chanEvent_fr _ _ _ _) (by decide) (Keeps.refl _))))) (Keeps.ofFr (State.updPc_fr _ _ _) (by decide) (Keeps.iteB (Keeps.foldl (fun _ _ => (Keeps.step (startDrain_keeps _ _ _ _ _ _ _ _) (Keeps.refl _))) _ (Keeps.refl _)) (Keeps.ofFr (State.updSlice_fr _ _ _ _) (by decide) (Keeps.iteB (Keeps.refl _) (Keeps.ofFr (State.updPc_fr _ _ _) (by decide) (Keeps.refl _)))))))

theorem activate_keeps (q : ℕ) (k : ℕ) (b : ℕ) (row : ℕ) (s : State) : Keeps s (activate q k b row s) := by
  unfold activate
  exact (Keeps.ofFr (chanEvent_fr _ _ _ _) (by decide) (Keeps.step (addWork_keeps _ _ _ _ _) (Keeps.iteT (Keeps.ofFr (postHat_fr _ _ _ _) (by decide) (Keeps.refl _)) (Keeps.ofFr (State.updSlice_fr _ _ _ _) (by decide) (Keeps.ofFr (State.updPc_fr _ _ _) (by decide) (Keeps.refl _))))))

theorem access_keeps (q : ℕ) (k : ℕ) (g : Grant) (t : ℕ) (changes : List CellChange) (s : State) : Keeps s (access q k g t changes s) := by
  unfold access
  exact (by (try dsimp only); split <;> (try dsimp only); exact (Keeps.step (columns_keeps _ _ _ _ _ _) (Keeps.ofFr (predict_fr _ _ _ _ _ _) (by decide) (Keeps.ofFr (State.updPc_fr _ _ _) (by decide) (Keeps.ofFr (chanEvent_fr _ _ _ _) (by decide) (Keeps.iteT (Keeps.ofFr (pauseRefresh_fr _ _ _ _) (by decide) (Keeps.refl _)) (Keeps.ofFr (State.atLeast_fr _ _) (by decide) (Keeps.refl _))))))); exact (Keeps.step (columns_keeps _ _ _ _ _ _) (Keeps.ofFr (predict_fr _ _ _ _ _ _) (by decide) (Keeps.step (activate_keeps _ _ _ _ _) (Keeps.step (State.setCells_keeps _ _ _) (Keeps.ofFr (State.updPc_fr _ _ _) (by decide) (Keeps.iteT (Keeps.ofFr (pauseRefresh_fr _ _ _ _) (by decide) (Keeps.refl _)) (Keeps.ofFr (State.atLeast_fr _ _) (by decide) (Keeps.refl _)))))))))

theorem blockRecord_keeps (src : ℕ) (d : EventDetail) (s : State) : Keeps s (blockRecord src d s) := by
  unfold blockRecord
  exact (Keeps.step (logRecord_keeps _ _ _ _ _ _ _) (Keeps.refl _))

theorem issueGrant_keeps (q : ℕ) (g : Grant) (t : ℕ) (changes : List CellChange) (s : State) : Keeps s (issueGrant q g t changes s) := by
  unfold issueGrant
  exact (Keeps.ite (Keeps.ofFr (answerLost_fr _ _ _) (by decide) (Keeps.ofFr (touch_fr _) (by decide) (Keeps.ofFr (State.updPc_fr _ _ _) (by decide) (Keeps.ofFr (State.atLeast_fr _ _) (by decide) (Keeps.refl _))))) (by (try dsimp only); split <;> (try dsimp only); exact (Keeps.ofFr (answerLost_fr _ _ _) (by decide) (Keeps.ofFr (touch_fr _) (by decide) (Keeps.ofFr (State.updPc_fr _ _ _) (by decide) (Keeps.ofFr (State.atLeast_fr _ _) (by decide) (Keeps.refl _))))); exact (Keeps.ofFr (State.updPc_fr _ _ _) (by decide) (Keeps.step (access_keeps _ _ _ _ _ _) (Keeps.ofFr (touch_fr _) (by decide) (Keeps.ofFr (State.updPc_fr _ _ _) (by decide) (Keeps.ofFr (State.atLeast_fr _ _) (by decide) (Keeps.refl _))))))))

theorem countEntry_keeps (q : ℕ) (k : ℕ) (e : HatEntry) (s : State) : Keeps s (countEntry q k e s) := by
  unfold countEntry
  exact (by (try dsimp only); split <;> (try dsimp only); exact (Keeps.iteB (Keeps.refl _) (Keeps.step (fault_keeps _ _ _) (Keeps.refl _))); exact (Keeps.iteB (Keeps.refl _) (Keeps.step (fault_keeps _ _ _) (Keeps.step (blockRecord_keeps _ _ _) (Keeps.ofFr (lastUe_fr _ _ _ _ _ _) (by decide) (Keeps.refl _))))); exact (Keeps.step (fault_keeps _ _ _) (Keeps.refl _)); exact (Keeps.step (fault_keeps _ _ _) (Keeps.refl _)); exact (Keeps.refl _))

theorem rewriteBlock_keeps (q : ℕ) (k : ℕ) (e : HatEntry) (blk : ℕ) (s : State) : Keeps s (rewriteBlock q k e blk s) := by
  unfold rewriteBlock
  exact (Keeps.iteB (Keeps.refl _) (Keeps.ofFr (chanEvent_fr _ _ _ _) (by decide) (Keeps.step (addWork_keeps _ _ _ _ _) (Keeps.step (State.writeBlock_keeps _ _ _ _ _) (Keeps.refl _)))))

theorem reserveRow_keeps (q : ℕ) (k : ℕ) (b : ℕ) (row : ℕ) (s : State) : Keeps s (reserveRow q k b row s) := by
  unfold reserveRow
  exact (Keeps.ofFr (State.updPc_fr _ _ _) (by decide) (Keeps.ofFr (bankBusy_fr _ _ _ _ _) (by decide) (Keeps.step (activate_keeps _ _ _ _ _) (Keeps.ofFr (State.atLeast_fr _ _) (by decide) (Keeps.refl _)))))

theorem reserveAct_keeps (q : ℕ) (k : ℕ) (e : HatEntry) (blocks : ℕ) (s : State) : Keeps s (reserveAct q k e blocks s) := by
  unfold reserveAct
  exact (Keeps.ofFr (chanEvent_fr _ _ _ _) (by decide) (Keeps.ofFr (chanEvent_fr _ _ _ _) (by decide) (Keeps.ofFr (chanEvent_fr _ _ _ _) (by decide) (Keeps.step (addWork_keeps _ _ _ _ _) (Keeps.step (addWork_keeps _ _ _ _ _) (Keeps.ofFr (State.updPc_fr _ _ _) (by decide) (Keeps.step (reserveRow_keeps _ _ _ _ _) (Keeps.refl _))))))))

theorem sealBlock_keeps (q : ℕ) (k : ℕ) (e : HatEntry) (blk : ℕ) (s : State) : Keeps s (sealBlock q k e blk s) := by
  unfold sealBlock
  exact (Keeps.ofFr (chanEvent_fr _ _ _ _) (by decide) (Keeps.step (addWork_keeps _ _ _ _ _) (Keeps.ofFr (State.updChan_fr _ _ _) (by decide) (Keeps.ofFr (postOverwrite_fr _ _ _ _ _ _) (by decide) (Keeps.step (State.putBlock_keeps _ _ _ _) (Keeps.refl _))))))

theorem serveEntry_keeps (t : Taken) (s : State) : Keeps s (serveEntry t s) := by
  unfold serveEntry
  exact (Keeps.ite (Keeps.iteB (Keeps.refl _) (Keeps.step (countEntry_keeps _ _ _ _) (Keeps.refl _))) (by (try dsimp only); split <;> (try dsimp only); exact (Keeps.forL (fun _ _ => (Keeps.step (rewriteBlock_keeps _ _ _ _ _) (Keeps.refl _))) _ (Keeps.step (reserveAct_keeps _ _ _ _ _) (Keeps.iteB (Keeps.refl _) (Keeps.step (countEntry_keeps _ _ _ _) (Keeps.refl _))))); exact (Keeps.forL (fun _ _ => (Keeps.step (sealBlock_keeps _ _ _ _ _) (Keeps.refl _))) _ (Keeps.forL (fun _ _ => (Keeps.step (rewriteBlock_keeps _ _ _ _ _) (Keeps.refl _))) _ (Keeps.step (reserveAct_keeps _ _ _ _ _) (Keeps.iteB (Keeps.refl _) (Keeps.step (countEntry_keeps _ _ _ _) (Keeps.refl _)))))); exact (Keeps.forL (fun _ _ => (Keeps.step (fault_keeps _ _ _) (Keeps.step (blockRecord_keeps _ _ _) (Keeps.step (sealBlock_keeps _ _ _ _ _) (Keeps.refl _))))) _ (Keeps.step (reserveAct_keeps _ _ _ _ _) (Keeps.iteB (Keeps.refl _) (Keeps.step (countEntry_keeps _ _ _ _) (Keeps.refl _))))); exact (Keeps.iteB (Keeps.refl _) (Keeps.step (countEntry_keeps _ _ _ _) (Keeps.refl _)))))

theorem takeEntry_keeps (q : ℕ) (k : ℕ) (e : HatEntry) (s : State) : Keeps s (takeEntry q k e s) := by
  unfold takeEntry
  exact (Keeps.ite (Keeps.ofFr (State.updPc_fr _ _ _) (by decide) (Keeps.ofFr (State.updChan_fr _ _ _) (by decide) (Keeps.refl _))) (Keeps.iteB (Keeps.iteT (Keeps.step (countEntry_keeps _ _ _ _) (Keeps.refl _)) (Keeps.ofFr (judgeEntry_fr _ _ _ _) (by decide) (Keeps.ofFr (State.updChan_fr _ _ _) (by decide) (Keeps.refl _)))) (Keeps.ofFr (State.updChan_fr _ _ _) (by decide) (Keeps.refl _))))

theorem hbx_keeps (q : ℕ) (k : ℕ) (s : State) : Keeps s (hbx q k s) := by
  unfold hbx
  exact (Keeps.forL (fun _ _ => (Keeps.step (takeEntry_keeps _ _ _ _) (Keeps.refl _))) _ (Keeps.ofFr (chanEvent_fr _ _ _ _) (by decide) (Keeps.ofFr (State.updPc_fr _ _ _) (by decide) (Keeps.ofFr (State.updSlice_fr _ _ _ _) (by decide) (Keeps.refl _)))))

theorem readHatboxes_keeps (q : ℕ) (bad : List ℕ) (s : State) : Keeps s (readHatboxes q bad s) := by
  unfold readHatboxes
  exact (Keeps.forL (fun _ _ => (Keeps.ite (Keeps.step (hbx_keeps _ _ _) (Keeps.refl _)) (Keeps.iteB (Keeps.refl _) (Keeps.ofFr (unreadable_fr _ _ _) (by decide) (Keeps.refl _))))) _ (Keeps.refl _))

theorem refreshCheck_keeps (q : ℕ) (k : ℕ) (b : ℕ) (row : ℕ) (s : State) : Keeps s (refreshCheck q k b row s) := by
  unfold refreshCheck
  exact (by (try dsimp only); split <;> (try dsimp only); exact (Keeps.refl _); exact (Keeps.ofFr (postHat_fr _ _ _ _) (by decide) (Keeps.iteT (Keeps.step (State.storeCuff_keeps _ _ _) (Keeps.refl _)) (Keeps.refl _))))

theorem refreshed_keeps (q : ℕ) (k : ℕ) (b : ℕ) (row : ℕ) (s : State) : Keeps s (refreshed q k b row s) := by
  unfold refreshed
  exact (Keeps.iteB (Keeps.iteT (Keeps.ofFr (State.updSlice_fr _ _ _ _) (by decide) (Keeps.refl _)) (Keeps.ofFr (State.updPc_fr _ _ _) (by decide) (Keeps.refl _))) (Keeps.iteT (Keeps.step (fault_keeps _ _ _) (Keeps.refl _)) (Keeps.ofFr (State.updChan_fr _ _ _) (by decide) (Keeps.refl _))))

theorem arraySet_keeps (q : ℕ) (k : ℕ) (s : State) : Keeps s (arraySet q k s) := by
  unfold arraySet
  exact (Keeps.ofFr (State.updSlice_fr _ _ _ _) (by decide) (Keeps.ofFr (beginRefresh_fr _ _ _) (by decide) (Keeps.step (eraseSlices_keeps _ _) (Keeps.refl _))))

theorem abandonDst_keeps (q : ℕ) (s : State) : Keeps s (abandonDst q s) := by
  unfold abandonDst
  exact (by (try dsimp only); split <;> (try dsimp only); exact (Keeps.ofFr (writeLog_fr _) (by decide) (Keeps.ofFr (logRepair_fr _ _ _) (by decide) (Keeps.ofFr (State.updPc_fr _ _ _) (by decide) (Keeps.refl _)))); exact (Keeps.step (raiseFault_keeps _ _ _ _ _) (Keeps.ofFr (State.updPc_fr _ _ _) (by decide) (Keeps.refl _))))

theorem clearLayerIn_keeps (k : ℕ) (readable : Bool) (q : ℕ) (a : State × List Loss) : Keeps a.1 (clearLayerIn k readable q a).1 := by
  unfold clearLayerIn
  exact (by (try dsimp only); exact Keeps.foldlP (fun _ _ => (by (try dsimp only); exact Keeps.foldlP (fun _ _ => (by (try dsimp only); exact (Keeps.iteP (by (try dsimp only); exact (Keeps.ofFr (moveBank_fr _ _ _ _ _ _) (by decide) (Keeps.refl _))) (by (try dsimp only); exact (Keeps.refl _))))) _ (Keeps.refl _))) _ (by (try dsimp only); exact Keeps.foldlP (fun _ _ => (by (try dsimp only); exact (Keeps.iteP (by (try dsimp only); exact (Keeps.ofFr (retireSlice_fr _ _ _ _ _) (by decide) (Keeps.refl _))) (by (try dsimp only); exact (Keeps.refl _))))) _ (Keeps.iteT (Keeps.step (abandonDst_keeps _ _) (Keeps.refl _)) (Keeps.refl _))))

theorem reportLoss_keeps (k : ℕ) (l : List Loss) (s : State) : Keeps s (reportLoss k l s) := by
  unfold reportLoss
  exact (Keeps.iteB (Keeps.refl _) (Keeps.step (checkMinimum_keeps _) (Keeps.forN (fun _ _ => (by (try dsimp only); split <;> (try dsimp only); exact (Keeps.step (sendNotice_keeps _ _ _ _ _) (Keeps.refl _)); exact (Keeps.refl _))) _ (Keeps.u262144 (Keeps.step (fault_keeps _ _ _) (Keeps.forL (fun _ _ => (Keeps.step (logRecord_keeps _ _ _ _ _ _ _) (Keeps.refl _))) _ (Keeps.refl _)))))))

theorem retireLayer_keeps (k : ℕ) (readable : Bool) (s : State) : Keeps s (retireLayer k readable s) := by
  unfold retireLayer
  exact (Keeps.iteB (Keeps.refl _) (Keeps.ite (Keeps.ite (Keeps.step (enterHold_keeps _ _) (Keeps.refl _)) (Keeps.step (raiseFault_keeps _ _ _ _ _) (Keeps.refl _))) (Keeps.step (reportLoss_keeps _ _ _) (Keeps.ofFr (writeLog_fr _) (by decide) (by (try dsimp only); exact Keeps.foldlP (fun _ _ => (Keeps.step (clearLayerIn_keeps _ _ _ _) (by (try dsimp only); exact (Keeps.refl _)))) _ (Keeps.ofFr (logRepair_fr _ _ _) (by decide) (Keeps.u262144 (Keeps.ofFr (State.updLayer_fr _ _ _) (by decide) (Keeps.refl _)))))))))

theorem countAf_keeps (fuses : List AfRead) (k : ℕ) (s : State) : Keeps s (countAf fuses k s) := by
  unfold countAf
  exact (Keeps.step (faultMany_keeps _ _ _ _) (Keeps.step (faultMany_keeps _ _ _ _) (Keeps.refl _)))

theorem intoUse_keeps (q : ℕ) (k : ℕ) (bins : List (ℕ × BitVec 2)) (map : List MadeSpare) (fuses : List AfRead) (s : State) : Keeps s (intoUse q k bins map fuses s) := by
  unfold intoUse
  exact (Keeps.iteB (Keeps.refl _) (Keeps.ofFr (calibrated_fr _ _ _) (by decide) (Keeps.ofFr (State.updSlice_fr _ _ _ _) (by decide) (Keeps.step (arraySet_keeps _ _ _) (Keeps.ofFr (applyAntifuse_fr _ _ _ _) (by decide) (Keeps.ofFr (State.updSlice_fr _ _ _ _) (by decide) (Keeps.step (countAf_keeps _ _ _) (Keeps.iteB (Keeps.refl _) (Keeps.ofFr (State.updLayer_fr _ _ _) (by decide) (Keeps.refl _))))))))))

theorem retireRank_keeps (n : ℕ) (k : ℕ) (readable : Bool) (s : State) : Keeps s (retireRank n k readable s) := by
  unfold retireRank
  exact (Keeps.iteB (Keeps.refl _) (Keeps.ite (Keeps.step (retireLayer_keeps _ _ _) (Keeps.refl _)) (Keeps.step (reportLoss_keeps _ _ _) (Keeps.ofFr (writeLog_fr _) (by decide) (Keeps.step (clearLayerIn_keeps _ _ _ _) (by (try dsimp only); exact (Keeps.step (clearLayerIn_keeps _ _ _ _) (by (try dsimp only); exact (Keeps.refl _)))))))))

theorem excludePc_keeps (q : ℕ) (s : State) : Keeps s (excludePc q s) := by
  unfold excludePc
  exact (Keeps.step (eraseSlices_keeps _ _) (Keeps.forN (fun _ _ => (Keeps.iteT (Keeps.step (sendNotice_keeps _ _ _ _ _) (Keeps.refl _)) (Keeps.refl _))) _ (Keeps.u262144 (Keeps.step (logRecord_keeps _ _ _ _ _ _ _) (Keeps.ofFr (stopPc_fr _ _) (by decide) (Keeps.ofFr (State.updPc_fr _ _ _) (by decide) (Keeps.refl _)))))))

theorem mapOutBank_keeps (q : ℕ) (k : ℕ) (b : ℕ) (readable : Bool) (s : State) : Keeps s (mapOutBank q k b readable s) := by
  unfold mapOutBank
  exact (Keeps.ite (Keeps.step (abandonDst_keeps _ _) (Keeps.refl _)) (by (try dsimp only); split <;> (try dsimp only); exact (Keeps.refl _); exact (Keeps.ite (Keeps.step (retireRank_keeps _ _ _ _) (Keeps.refl _)) (Keeps.step (reportLoss_keeps _ _ _) (Keeps.ofFr (writeLog_fr _) (by decide) (Keeps.ofFr (moveBank_fr _ _ _ _ _ _) (by decide) (Keeps.refl _)))))))

theorem setModel_keeps (s : State) : Keeps s (setModel s) := by
  unfold setModel
  extract_lets s1
  have h1 : Keeps s s1 := by
    refine Keeps.forN (fun k t => ?_) 18 (Keeps.refl _)
    dsimp only
    split
    · exact Keeps.refl _
    · exact Keeps.ofFr (State.updLayer_fr _ _ _) (by decide) (Keeps.refl _)
  clear_value s1
  exact Keeps.u2048 h1 rfl

theorem setThmAlert_keeps (m : BitVec 6) (s : State) : Keeps s (setThmAlert m s) := by
  unfold setThmAlert
  exact (Keeps.iteB (Keeps.refl _) (Keeps.ofFr (attend_fr _) (by decide) (Keeps.u2048 (Keeps.refl _) rfl)))

theorem sensorRound_keeps (vref : BitVec 12) (s : State) : Keeps s (sensorRound vref s) := by
  unfold sensorRound
  exact (Keeps.ite (Keeps.u2048 (Keeps.u2048 (Keeps.refl _) rfl) rfl) (Keeps.step (fault_keeps _ _ _) (Keeps.step (setThmAlert_keeps _ _) (Keeps.u2048 (Keeps.u2048 (Keeps.refl _) rfl) rfl))))

theorem thermalEvents_keeps (src : ℕ) (l : List (ℕ × ℤ)) (s : State) : Keeps s (thermalEvents src l s) := by
  unfold thermalEvents
  exact (by (try dsimp only); split <;> (try dsimp only); exact (Keeps.refl _); exact (Keeps.step (faultMany_keeps _ _ _ _) (Keeps.refl _)))

theorem markBase_keeps (i : ℕ) (a : State × Found) : Keeps a.1 (markBase i a).1 := by
  unfold markBase
  exact (by (try dsimp only); exact (Keeps.iteP (by (try dsimp only); exact (Keeps.refl _)) (by (try dsimp only); exact (Keeps.u2048 (Keeps.refl _) rfl))))

theorem chargeAll_keeps (f : State → State) (s : State) (hf : Keeps s (f s)) : Keeps s (chargeAll f s) := by
  unfold chargeAll
  exact Keeps.iteT (Keeps.step (raiseFault_keeps _ _ _ _ _) (Keeps.refl _)) hf

theorem noteTrip_keeps (src : ℕ) (t : ℤ) (s : State) : Keeps s (noteTrip src t s) := by
  exact ⟨id, fun _ => rfl, fun _ _ => rfl, id, id, .inl, id, fun _ => .inl rfl⟩

theorem judgeBase_keeps (is : List ℕ) (a : State × Found) : Keeps a.1 (judgeBase is a).1 := by
  unfold judgeBase
  exact (by (try dsimp only); exact Keeps.foldlP (fun _ _ => (by (try dsimp only); exact (Keeps.iteP (by (try dsimp only); exact (Keeps.step (markBase_keeps _ _) (by (try dsimp only); exact (Keeps.u2048 (Keeps.refl _) rfl)))) (by (try dsimp only); exact (Keeps.u2048 (Keeps.refl _) rfl))))) _ (Keeps.refl _))

theorem judgeModel_keeps (ks : List ℕ) (a : State × Found) : Keeps a.1 (judgeModel ks a).1 := by
  unfold judgeModel
  exact (by (try dsimp only); exact (Keeps.iteP (by (try dsimp only); exact (Keeps.u67110912 (Keeps.u2048 (Keeps.refl _) rfl) rfl)) (by (try dsimp only); exact (by (try dsimp only); exact Keeps.foldlP (fun _ _ => (by (try dsimp only); exact (Keeps.iteP (by (try dsimp only); exact (Keeps.ofFr (markLayer_fr _ _ _) (by decide) (by (try dsimp only); exact (by (try dsimp only); exact (Keeps.iteP (by (try dsimp only); exact (Keeps.ofFr (markLayer_fr _ _ _) (by decide) (by (try dsimp only); exact (Keeps.refl _)))) (by (try dsimp only); exact (Keeps.refl _))))))) (by (try dsimp only); exact (by (try dsimp only); exact (Keeps.iteP (by (try dsimp only); exact (Keeps.ofFr (markLayer_fr _ _ _) (by decide) (by (try dsimp only); exact (Keeps.refl _)))) (by (try dsimp only); exact (Keeps.refl _)))))))) _ (Keeps.u2048 (Keeps.refl _) rfl)))))

theorem tripBegin_keeps (src : ℕ) (basis : ℕ) (t : ℤ) (s : State) : Keeps s (tripBegin src basis t s) := by
  unfold tripBegin
  extract_lets s1
  have h1 : Keeps s s1 := Keeps.step (noteTrip_keeps _ _ _) (Keeps.ofFr (queueRecord_fr _ _) (by decide) (Keeps.refl _))
  have hv : s1.thm.tripValid = true := rfl
  clear_value s1
  exact ⟨h1.mem, h1.tripValid, fun _ _ => hv, fun _ => rfl, fun _ => by simp, fun _ => .inr rfl, h1.grave, fun _ => .inr rfl⟩

theorem takeReading_keeps (a : State × Found) (r : SensorReading) : Keeps a.1 (takeReading a r).1 := by
  unfold takeReading
  exact (by (try dsimp only); split <;> (try dsimp only); exact (by (try dsimp only); exact (Keeps.iteP (by (try dsimp only); exact (Keeps.ofFr (State.updLayer_fr _ _ _) (by decide) (Keeps.refl _))) (by (try dsimp only); exact (Keeps.refl _)))); exact (by (try dsimp only); exact (Keeps.iteP (by (try dsimp only); exact (Keeps.ofFr (State.updLayer_fr _ _ _) (by decide) (Keeps.refl _))) (by (try dsimp only); exact (Keeps.refl _)))); exact (Keeps.u2048 (Keeps.refl _) rfl); exact (by (try dsimp only); exact (Keeps.iteP (by (try dsimp only); exact (Keeps.refl _)) (by (try dsimp only); exact (by (try dsimp only); exact (Keeps.iteP (by (try dsimp only); exact (Keeps.ofFr (markLayer_fr _ _ _) (by decide) (by (try dsimp only); exact (Keeps.ofFr (State.updLayer_fr _ _ _) (by decide) (Keeps.refl _))))) (by (try dsimp only); exact (Keeps.ofFr (State.updLayer_fr _ _ _) (by decide) (Keeps.refl _)))))))); exact (by (try dsimp only); exact (Keeps.iteP (by (try dsimp only); exact (Keeps.refl _)) (by (try dsimp only); exact (by (try dsimp only); exact (Keeps.iteP (by (try dsimp only); exact (Keeps.ofFr (markLayer_fr _ _ _) (by decide) (by (try dsimp only); exact (Keeps.ofFr (State.updLayer_fr _ _ _) (by decide) (Keeps.refl _))))) (by (try dsimp only); exact (Keeps.ofFr (State.updLayer_fr _ _ _) (by decide) (Keeps.refl _)))))))); exact (by (try dsimp only); exact (Keeps.iteP (by (try dsimp only); exact (Keeps.step (markBase_keeps _ _) (by (try dsimp only); exact (Keeps.u2048 (Keeps.refl _) rfl)))) (by (try dsimp only); exact (Keeps.u2048 (Keeps.refl _) rfl)))))

theorem judgeBaseLevel_keeps (a : State × Found) : Keeps a.1 (judgeBaseLevel a).1 := by
  unfold judgeBaseLevel
  exact (Keeps.u10240 (Keeps.refl _) rfl)

theorem tripEvents_keeps (boot : Bool) (src : ℕ) (l : List (ℕ × ℤ)) (s : State) : Keeps s (tripEvents boot src l s) := by
  unfold tripEvents
  exact (by (try dsimp only); split <;> (try dsimp only); exact (Keeps.refl _); exact (Keeps.ite (Keeps.step (raiseFault_keeps _ _ _ _ _) (Keeps.refl _)) (Keeps.step (thermalEvents_keeps _ _ _) (Keeps.refl _))))

theorem markEvents_keeps (src : ℕ) (l : List (ℕ × ℤ)) (s : State) : Keeps s (markEvents src l s) := by
  unfold markEvents
  exact (by (try dsimp only); split <;> (try dsimp only); exact (Keeps.refl _); exact (Keeps.step (State.updSrc_keeps _ _ _) (Keeps.step (raiseFault_keeps _ _ _ _ _) (Keeps.refl _))))

theorem tripDown_keeps (s : State) : Keeps s (tripDown s) := by
  unfold tripDown
  exact (Keeps.iteT (Keeps.ofFr (layersOff_fr _) (by decide) (Keeps.step (stopMemory_keeps _) (Keeps.ofFr (linksDown_fr _) (by decide) (Keeps.refl _)))) (Keeps.refl _))

theorem coverageLost_keeps (l : List ℕ) (s : State) : Keeps s (coverageLost l s) := by
  unfold coverageLost
  exact (by (try dsimp only); split <;> (try dsimp only); exact (Keeps.refl _); exact (Keeps.step (raiseFault_keeps _ _ _ _ _) (Keeps.refl _)))

theorem actRest_keeps (f : Found) (base : ℤ) (boot : Bool) (s : State) : Keeps s (actRest f base boot s) := by
  unfold actRest
  exact (Keeps.step (tripDown_keeps _) (Keeps.step (faultMany_keeps _ _ _ _) (Keeps.step (coverageLost_keeps _ _) (Keeps.iteT (Keeps.step (markEvents_keeps _ _ _) (Keeps.refl _)) (Keeps.step (markEvents_keeps _ _ _) (Keeps.step (markEvents_keeps _ _ _) (Keeps.step (tripEvents_keeps _ _ _ _) (Keeps.step (thermalEvents_keeps _ _ _) (Keeps.step (thermalEvents_keeps _ _ _) (Keeps.step (tripEvents_keeps _ _ _ _) (Keeps.step (thermalEvents_keeps _ _ _) (Keeps.step (thermalEvents_keeps _ _ _) (Keeps.forN (fun _ _ => (Keeps.iteT (Keeps.step (setThmAlert_keeps _ _) (Keeps.refl _)) (Keeps.refl _))) _ (Keeps.refl _))))))))))))))

theorem tripFirst_keeps (f : Found) (s : State) : Keeps s (tripFirst f s) := by
  unfold tripFirst
  exact (by (try dsimp only); split <;> (try dsimp only); exact (Keeps.refl _); exact (Keeps.ite (Keeps.step (noteTrip_keeps _ _ _) (Keeps.ofFr (queueRecord_fr _ _) (by decide) (Keeps.refl _))) (Keeps.step (tripBegin_keeps _ _ _ _) (Keeps.refl _))))

theorem actOn_keeps (f : Found) (s : State) : Keeps s (actOn f s) := by
  unfold actOn
  exact (Keeps.step (actRest_keeps _ _ _ _) (Keeps.step (tripFirst_keeps _ _) (Keeps.refl _)))

theorem sample_keeps (t : List SensorReading) (s : State) : Keeps s (sample t s) := by
  unfold sample
  exact (Keeps.iteT (Keeps.forN (fun _ _ => (Keeps.iteB (Keeps.refl _) (Keeps.ofFr (calDue_fr _ _) (by decide) (Keeps.refl _)))) _ (Keeps.refl _)) (Keeps.step (actOn_keeps _ _) (by (try dsimp only); exact Keeps.foldlP (fun _ _ => (Keeps.ofFr (judgeLayer_fr _ _) (by decide) (by (try dsimp only); exact (Keeps.refl _)))) _ (Keeps.step (judgeModel_keeps _ _) (by (try dsimp only); exact (by (try dsimp only); exact Keeps.foldlP (fun _ _ => (Keeps.ofFr (markPair_fr _ _) (by decide) (by (try dsimp only); exact (Keeps.refl _)))) _ (Keeps.forL (fun _ _ => (Keeps.ofFr (diverge_fr _ _) (by decide) (Keeps.refl _))) _ (Keeps.step (judgeBase_keeps _ _) (by (try dsimp only); exact (by (try dsimp only); exact (Keeps.iteP (by (try dsimp only); exact (by (try dsimp only); exact Keeps.foldlP (fun _ _ => (Keeps.step (takeReading_keeps _ _) (by (try dsimp only); exact (Keeps.refl _)))) _ (Keeps.refl _))) (by (try dsimp only); exact (Keeps.step (judgeBaseLevel_keeps _) (by (try dsimp only); exact (by (try dsimp only); exact Keeps.foldlP (fun _ _ => (Keeps.step (takeReading_keeps _ _) (by (try dsimp only); exact (Keeps.refl _)))) _ (Keeps.refl _))))))))))))))))

/-- Outside BOOT a trip found leads to TRIP with its reason recorded, whatever follows it in the sample. -/
theorem actOn_trips (f : Found) (s : State) (hb : s.mode ≠ .boot) (ht : f.trips s.thm.baseTemp ≠ []) :
    Keeps s (actOn f s) ∧ (actOn f s).mode = .trip ∧ (actOn f s).thm.tripValid = true := by
  have h1 : (tripFirst f s).mode = .trip ∧ (tripFirst f s).thm.tripValid = true := by
    unfold tripFirst
    split
    · next h => exact absurd h ht
    · rw [if_neg hb]
      exact ⟨rfl, rfl⟩
  have h2 := actRest_keeps f s.thm.baseTemp (decide (s.mode = .boot)) (tripFirst f s)
  exact ⟨actOn_keeps f s, h2.trip h1.1, h2.tripValid h1.2⟩

theorem tripOver_keeps (f : Found) (s : State) : Keeps s (tripOver f s) := by
  unfold tripOver
  split
  · next m hm =>
    split
    · exact Keeps.refl _
    · next ht =>
      have hb : m ≠ .boot := by
        unfold State.heldNow at hm
        split at hm
        · split at hm
          · next hc => cases hm; exact hc.2.2
          · cases hm
        · cases hm
      obtain ⟨hc, hx⟩ := actOn_trips f { s with mode := m, holdCause := 0, flt.holdAt := none } hb ht
      exact ⟨hc.mem, fun _ => hx.2, fun _ _ => hx.2, fun _ => hx.1, fun _ => by rw [hx.1]; exact nofun, fun _ => .inr hx.1,
        hc.grave, fun _ => .inr hx.1⟩
  · exact Keeps.refl _

theorem tripPin_keeps (s : State) : Keeps s (tripPin s) := by
  unfold tripPin
  exact (Keeps.u2688 (Keeps.refl _) rfl)

theorem committed_keeps (j : JQueued) (s : State) : Keeps s (committed j s) := by
  unfold committed
  exact (Keeps.ite (Keeps.iteT (Keeps.step (tripPin_keeps _) (Keeps.refl _)) (Keeps.u2048 (Keeps.refl _) rfl)) (Keeps.iteT (Keeps.ofFr (shutdownDone_fr _) (by decide) (Keeps.refl _)) (Keeps.refl _)))

theorem afStep_keeps (t : BurnTry) (key : ℕ) (e : AfEntry) (l : List (BitVec 41)) (s : State) : Keeps s (afStep t key e l s) := by
  unfold afStep
  exact (by (try dsimp only); split <;> (try dsimp only); exact (Keeps.u8192 (Keeps.refl _)); exact (Keeps.u8192 (Keeps.u8192 (Keeps.refl _))); exact (Keeps.step (raiseFault_keeps _ _ _ _ _) (Keeps.u8192 (Keeps.refl _))))

theorem burnFailed_keeps (f : ℕ) (rest : List (ℕ × BitVec 56)) (key : ℕ) (v : BitVec 56) (s : State) : Keeps s (burnFailed f rest key v s) := by
  unfold burnFailed
  exact (by (try dsimp only); split <;> (try dsimp only); exact (Keeps.u8192 (Keeps.refl _)); exact (Keeps.ite (Keeps.u8192 (Keeps.ofFr (frameStep_fr _ _ _ _) (by decide) (Keeps.refl _))) (Keeps.step (raiseFault_keeps _ _ _ _ _) (Keeps.u8192 (Keeps.refl _)))))

theorem burnStep_keeps (t : BurnTry) (s : State) : Keeps s (burnStep t s) := by
  unfold burnStep
  exact (by (try dsimp only); split <;> (try dsimp only); exact (Keeps.ite (Keeps.refl _) (by (try dsimp only); split <;> (try dsimp only); exact (Keeps.step (burnFailed_keeps _ _ _ _ _) (Keeps.refl _)); exact (Keeps.ite (Keeps.ofFr (burntEntries_fr _ _) (by decide) (Keeps.u8192 (Keeps.iteT (Keeps.u8192 (Keeps.refl _)) (Keeps.ofFr (showBurnt_fr _ _ _) (by decide) (Keeps.ofFr (frameStep_fr _ _ _ _) (by decide) (Keeps.ofFr (blow_fr _ _ _) (by decide) (Keeps.refl _))))))) (Keeps.u8192 (Keeps.ofFr (showBurnt_fr _ _ _) (by decide) (Keeps.ofFr (frameStep_fr _ _ _ _) (by decide) (Keeps.ofFr (blow_fr _ _ _) (by decide) (Keeps.refl _)))))))); exact (Keeps.u8192 (Keeps.refl _)))

theorem enterBlock_keeps (b : ℕ) (s : State) : Keeps s (enterBlock b s) := by
  unfold enterBlock
  exact (Keeps.iteT (Keeps.step (fault_keeps _ _ _) (Keeps.refl _)) (Keeps.u32768 (Keeps.ofFr (override_fr _ _ _) (by decide) (Keeps.ofFr (blowRow_fr _ _ _) (by decide) (Keeps.refl _)))))

theorem signReport_keeps (r : AttReq) (s : State) : Keeps s (signReport r s) := by
  unfold signReport
  exact (Keeps.iteT (Keeps.step (raiseFault_keeps _ _ _ _ _) (Keeps.refl _)) (by (try dsimp only); split <;> (try dsimp only); exact (Keeps.ofFr (sendReport_fr _ _ _ _) (by decide) (Keeps.ofFr (queueRecord_fr _ _) (by decide) (Keeps.u32768 (Keeps.refl _)))); exact (Keeps.u32768 (Keeps.ofFr (queueRecord_fr _ _) (by decide) (Keeps.u32768 (Keeps.refl _))))))

theorem doBist_keeps (mask : BitVec 20) (s : State) : Keeps s (doBist mask s) := by
  unfold doBist
  extract_lets refuse
  have hr : ∀ t, Keeps t (refuse t) := fun t => Keeps.same rfl rfl rfl ⟨rfl, rfl, rfl⟩ rfl
  clear_value refuse
  split
  · exact hr _
  · split
    · split
      · exact Keeps.step (startShutdown_keeps _ _) (Keeps.u131072 (Keeps.refl _))
      · exact hr _
    · split
      · exact Keeps.iteT (Keeps.ofFr (endTest_fr _) (by decide) (Keeps.refl _)) (Keeps.ofFr (startSelfTest_fr _ _ _) (by decide) (Keeps.u131072 (Keeps.refl _)))
      · exact hr _

theorem excludeFailed_keeps (s : State) : Keeps s (excludeFailed s) := by
  unfold excludeFailed
  exact (Keeps.forL (fun _ _ => (Keeps.step (raiseFault_keeps _ _ _ _ _) (Keeps.forN (fun _ _ => (Keeps.ofFr (State.updPort_fr _ _ _) (by decide) (Keeps.refl _))) _ (Keeps.refl _)))) _ (Keeps.forL (fun _ _ => (Keeps.step (raiseFault_keeps _ _ _ _ _) (Keeps.refl _))) _ (Keeps.u65536 (Keeps.refl _))))

theorem chargeRest_keeps (s : State) : Keeps s (chargeRest s) := by
  unfold chargeRest
  exact chargeAll_keeps _ _ (Keeps.ofFr (chargeBase_fr _ _ _) (by decide) (Keeps.iteT (Keeps.forN (fun _ _ => Keeps.iteT (Keeps.ofFr (chargeLayer_fr _ _ _ _) (by decide) (Keeps.refl _)) (Keeps.refl _)) _ (Keeps.refl _)) (Keeps.refl _)))

theorem powerLayers_keeps (from_ : ℕ) (s : State) : Keeps s (powerLayers from_ s) := by
  unfold powerLayers
  exact (Keeps.forL (fun _ _ => (Keeps.iteT (Keeps.ofFr (calibrated_fr _ _ _) (by decide) (Keeps.refl _)) (Keeps.refl _))) _ (Keeps.ofFr (enterSelfRefresh_fr _) (by decide) (Keeps.forL (fun _ _ => (Keeps.iteT (Keeps.step (arraySet_keeps _ _ _) (Keeps.refl _)) (Keeps.refl _))) _ (Keeps.forN (fun _ _ => (Keeps.iteT (Keeps.ofFr (State.updLayer_fr _ _ _) (by decide) (Keeps.refl _)) (Keeps.refl _))) _ (Keeps.refl _)))))

theorem registerHeld_keeps (s : State) : Keeps s (registerHeld s) := by
  unfold registerHeld
  exact (Keeps.forL (fun _ _ => (Keeps.step (fault_keeps _ _ _) (Keeps.step (State.updSrc_keeps _ _ _) (Keeps.refl _)))) _ (Keeps.u1024 (Keeps.refl _) ⟨rfl, rfl, rfl⟩))

theorem standAtP3_keeps (w : WakeRun) (t : List SensorReading) (s : State) : Keeps s (standAtP3 w t s) := by
  unfold standAtP3
  exact (Keeps.ite (Keeps.step (enterHold_keeps _ _) (Keeps.step (registerHeld_keeps _) (Keeps.step (setModel_keeps _) (Keeps.step (sample_keeps _ _) (Keeps.iteT (Keeps.step (excludeFailed_keeps _) (Keeps.u8192 (Keeps.refl _))) (Keeps.u4096 (Keeps.step (powerLayers_keeps _ _) (Keeps.step (chargeRest_keeps _) (Keeps.refl _))))))))) (Keeps.step (pinShutdown_keeps _) (Keeps.step (checkMinimum_keeps _) (Keeps.iteT (Keeps.step (backToService_keeps _) (Keeps.refl _)) (Keeps.iteT (Keeps.ofFr (queueRecord_fr _ _) (by decide) (Keeps.refl _)) (Keeps.step (registerHeld_keeps _) (Keeps.step (setModel_keeps _) (Keeps.step (sample_keeps _ _) (Keeps.iteT (Keeps.step (excludeFailed_keeps _) (Keeps.u8192 (Keeps.refl _))) (Keeps.u4096 (Keeps.step (powerLayers_keeps _ _) (Keeps.step (chargeRest_keeps _) (Keeps.refl _)))))))))))))

theorem zqRound_keeps (zq : ZqMeas) (stepped : Bool) (s : State) : Keeps s (zqRound zq stepped s) := by
  unfold zqRound
  exact (Keeps.ite (Keeps.u4096 (Keeps.refl _)) (Keeps.step (fault_keeps _ _ _) (Keeps.u4096 (Keeps.refl _))))

theorem enterRest_keeps (target : ℕ) (s : State) : Keeps s (enterRest target s) := by
  unfold enterRest
  exact (Keeps.u4736 (Keeps.forN (fun _ _ => (Keeps.iteT (Keeps.ofFr (State.updLayer_fr _ _ _) (by decide) (Keeps.refl _)) (Keeps.refl _))) _ (Keeps.ofFr (mapSlices_fr _ _) (by decide) (Keeps.step (eraseSlices_keeps _ _) (Keeps.forN (fun _ _ => (Keeps.iteB (Keeps.refl _) (Keeps.ofFr (State.updPort_fr _ _ _) (by decide) (Keeps.refl _)))) _ (Keeps.iteT (Keeps.step (chargeRest_keeps _) (Keeps.refl _)) (Keeps.refl _)))))))

theorem completeEntry_keeps (target : ℕ) (s : State) : Keeps s (completeEntry target s) := by
  unfold completeEntry
  exact (by (try dsimp only); split <;> (try dsimp only); exact (Keeps.ofFr (mapSlices_fr _ _) (by decide) (Keeps.u4096 (Keeps.forN (fun _ _ => (Keeps.iteB (Keeps.refl _) (Keeps.ofFr (State.updChan_fr _ _ _) (by decide) (Keeps.ofFr (State.updPc_fr _ _ _) (by decide) (Keeps.refl _))))) _ (Keeps.u4096 (Keeps.refl _))))); exact (Keeps.iteT (Keeps.step (retainEntry_keeps _) (Keeps.refl _)) (Keeps.ofFr (enterSelfRefresh_fr _) (by decide) (Keeps.u4096 (Keeps.forN (fun _ _ => (Keeps.iteB (Keeps.refl _) (Keeps.ofFr (State.updPc_fr _ _ _) (by decide) (Keeps.refl _)))) _ (Keeps.u4096 (Keeps.refl _)))))); exact (Keeps.step (retainEntry_keeps _) (Keeps.u4096 (Keeps.refl _))); exact (Keeps.step (enterRest_keeps _ _) (Keeps.u4096 (Keeps.refl _))))

theorem doReturnToService_keeps (s : State) : Keeps s (doReturnToService s) := by
  unfold doReturnToService
  exact (Keeps.ite (by (try dsimp only); split <;> (try dsimp only); exact (Keeps.iteT (Keeps.ofFr (abandonEntry_fr _ _ _) (by decide) (Keeps.refl _)) (Keeps.u4096 (Keeps.refl _))); exact (Keeps.u4096 (Keeps.refl _))) (Keeps.step (wakeEvent_keeps _ _ _) (Keeps.refl _)))

theorem twoWireWake_keeps (s : State) : Keeps s (twoWireWake s) := by
  unfold twoWireWake
  exact (Keeps.iteT (Keeps.step (wakeEvent_keeps _ _ _) (Keeps.u131072 (Keeps.refl _))) (Keeps.refl _))

theorem loadFaults_keeps (x : Option ImageSection) (s : State) : Keeps s (loadFaults x s) := by
  unfold loadFaults
  extract_lets s1
  have h1 : Keeps s s1 := Keeps.forN (fun _ _ => State.updSrc_keeps _ _ _) _ (Keeps.refl _)
  clear_value s1
  exact Keeps.u1024 h1 ⟨rfl, rfl, rfl⟩

theorem loadImage_keeps (c : ImageCopy) (s : State) : Keeps s (loadImage c s) := by
  unfold loadImage
  extract_lets s1 s2 s3
  have h3 : Keeps s s3 := Keeps.forN (fun _ _ => Keeps.ofFr (State.updCset_fr _ _ _) (by decide) (Keeps.refl _)) _
    (Keeps.step (loadFaults_keeps _ _) (Keeps.forN (fun _ _ => Keeps.ofFr (State.updPort_fr _ _ _) (by decide) (Keeps.refl _)) _ (Keeps.refl _)))
  clear_value s3
  exact Keeps.u3020800 h3 (loadThermal_tripValid _ _)

theorem State.clearRc_keeps (s : State) (a : ℕ) : Keeps s (State.clearRc s a) := by
  unfold State.clearRc
  exact (by (try dsimp only); split <;> (try dsimp only); exact (Keeps.iteT (Keeps.u4096 (Keeps.refl _)) (Keeps.refl _)); exact (by (try dsimp only); split <;> (try dsimp only); exact (Keeps.iteB (Keeps.refl _) (Keeps.step (State.updSrc_keeps _ _ _) (Keeps.refl _))); exact (Keeps.refl _)); exact (Keeps.ofFr (State.updPort_fr _ _ _) (by decide) (Keeps.refl _)); exact (Keeps.ofFr (State.updChan_fr _ _ _) (by decide) (Keeps.refl _)); exact (by (try dsimp only); split <;> (try dsimp only); exact (Keeps.ofFr (State.updPort_fr _ _ _) (by decide) (Keeps.refl _)); exact (Keeps.refl _)); exact (Keeps.iteT (Keeps.u16384 (Keeps.refl _)) (Keeps.refl _)); exact (Keeps.iteT (Keeps.u131072 (Keeps.refl _)) (Keeps.refl _)); exact (Keeps.iteT (Keeps.u262144 (Keeps.refl _)) (Keeps.refl _)); exact (Keeps.refl _))

theorem writeBlock03_keeps (off : ℕ) (v : ℕ) (act : Bool) (lock : Bool) (s : State) : Keeps s (writeBlock03 off v act lock s) := by
  unfold writeBlock03
  exact (Keeps.ite (Keeps.u1024 (Keeps.refl _) ⟨rfl, rfl, rfl⟩) (Keeps.ite (Keeps.iteT (Keeps.u1024 (Keeps.refl _) ⟨rfl, rfl, rfl⟩) (Keeps.refl _)) (Keeps.iteT (Keeps.ite (Keeps.refl _) (by (try dsimp only); split <;> (try dsimp only); exact (Keeps.iteT (Keeps.step (State.updSrc_keeps _ _ _) (Keeps.refl _)) (Keeps.refl _)); exact (Keeps.iteT (Keeps.step (State.updSrc_keeps _ _ _) (Keeps.refl _)) (Keeps.refl _)); exact (Keeps.refl _))) (Keeps.refl _))))

theorem State.readAt_keeps (s : State) (v : View) (a : ℕ) : Keeps s (State.readAt s v a).1 := by
  unfold State.readAt
  exact (by (try dsimp only); exact (Keeps.iteP (by (try dsimp only); exact (Keeps.u4 (by (try dsimp only); split <;> (try dsimp only); exact (Keeps.iteT (Keeps.ofFr (State.updCset_fr _ _ _) (by decide) (Keeps.refl _)) (Keeps.refl _)); exact (Keeps.step (State.clearRc_keeps _ _) (Keeps.refl _))))) (by (try dsimp only); exact (Keeps.refl _))))

theorem writeBlock02_keeps (off : ℕ) (v : ℕ) (act : Bool) (s : State) : Keeps s (writeBlock02 off v act s) := by
  unfold writeBlock02
  exact (by (try dsimp only); split <;> (try dsimp only); exact (Keeps.iteT (Keeps.u2048 (Keeps.refl _) rfl) (Keeps.refl _)); exact (Keeps.u2048 (Keeps.refl _) rfl); exact (Keeps.refl _))

theorem State.writeReg_keeps (s : State) (view : View) (a : ℕ) (d : Word) : Keeps s (State.writeReg s view a d) := by
  unfold State.writeReg
  exact (Keeps.ite (Keeps.refl _) (by (try dsimp only); split <;> (try dsimp only); exact (Keeps.ofFr (writeBlock01_fr _ _ _ _ _) (by decide) (Keeps.refl _)); exact (Keeps.step (writeBlock02_keeps _ _ _ _) (Keeps.refl _)); exact (Keeps.step (writeBlock03_keeps _ _ _ _ _) (Keeps.refl _)); exact (Keeps.ofFr (writeBlock04_fr _ _ _ _) (by decide) (Keeps.refl _)); exact (Keeps.ofFr (writePort_fr _ _ _ _ _) (by decide) (Keeps.refl _)); exact (Keeps.ofFr (writeChan_fr _ _ _ _) (by decide) (Keeps.refl _)); exact (Keeps.iteT (Keeps.ofFr (writeBlock07_fr _ _ _) (by decide) (Keeps.refl _)) (Keeps.refl _)); exact (Keeps.ofFr (writeBlock08_fr _ _ _) (by decide) (Keeps.refl _)); exact (Keeps.iteT (Keeps.u16384 (Keeps.refl _)) (Keeps.refl _)); exact (by (try dsimp only); split <;> (try dsimp only); exact (Keeps.u32768 (Keeps.refl _)); exact (Keeps.refl _)); exact (Keeps.iteT (Keeps.u65536 (Keeps.refl _)) (Keeps.refl _)); exact (Keeps.ofFr (writeBlock0C_fr _ _ _ _ _) (by decide) (Keeps.refl _)); exact (Keeps.ofFr (writeBlock0D_fr _ _ _ _ _) (by decide) (Keeps.refl _)); exact (Keeps.refl _)))

theorem takeWear_keeps (r : Option JournalRecord) (s : State) : Keeps s (takeWear r s) := by
  unfold takeWear
  exact (Keeps.iteT (Keeps.step (raiseFault_keeps _ _ _ _ _) (Keeps.refl _)) (Keeps.step (chargeAll_keeps _ _ (Keeps.forN (fun _ _ => Keeps.iteT (Keeps.ofFr (State.updLayer_fr _ _ _) (by decide) (Keeps.refl _)) (Keeps.refl _)) _ (Keeps.refl _))) (Keeps.forN (fun _ _ => (Keeps.ofFr (State.updLayer_fr _ _ _) (by decide) (Keeps.refl _))) _ (Keeps.u16384 (Keeps.refl _)))))

theorem failLayer_keeps (k : ℕ) (s : State) : Keeps s (failLayer k s) := by
  unfold failLayer
  exact (Keeps.ofFr (writeLog_fr _) (by decide) (Keeps.step (raiseFault_keeps _ _ _ _ _) (Keeps.forN (fun _ _ => (Keeps.forN (fun _ _ => (Keeps.iteT (Keeps.ite (Keeps.ofFr (logRepair_fr _ _ _) (by decide) (Keeps.refl _)) (Keeps.ofFr (logRepair_fr _ _ _) (by decide) (Keeps.refl _))) (Keeps.refl _))) _ (Keeps.refl _))) _ (Keeps.ofFr (logRepair_fr _ _ _) (by decide) (Keeps.iteB (Keeps.ofFr (clearLayerBoot_fr _ _) (by decide) (Keeps.ofFr (State.updLayer_fr _ _ _) (by decide) (Keeps.refl _))) (Keeps.u262144 (Keeps.refl _)))))))

theorem failTraining_keeps (q : ℕ) (t : TsvRef) (still : Bool) (s : State) : Keeps s (failTraining q t still s) := by
  unfold failTraining
  exact (Keeps.ite (Keeps.ofFr (fullTraining_fr _ _) (by decide) (Keeps.ofFr (steerTsv_fr _ _ _) (by decide) (Keeps.refl _))) (Keeps.ofFr (State.updPc_fr _ _ _) (by decide) (Keeps.step (raiseFault_keeps _ _ _ _ _) (Keeps.u262144 (Keeps.ofFr (State.updPc_fr _ _ _) (by decide) (Keeps.ofFr (steerTsv_fr _ _ _) (by decide) (Keeps.refl _)))))))

theorem trainPc_keeps (r : TrainRead) (q : ℕ) (s : State) : Keeps s (trainPc r q s).1 := by
  unfold trainPc
  exact (by (try dsimp only); split <;> (try dsimp only); exact (Keeps.ofFr (trainRest_fr _ _) (by decide) (Keeps.ofFr (restoreTraining_fr _ _ _) (by decide) (Keeps.refl _))); exact (by (try dsimp only); split <;> (try dsimp only); exact (Keeps.step (failTraining_keeps _ _ _ _) (Keeps.refl _)); exact (Keeps.ofFr (fullTraining_fr _ _) (by decide) (Keeps.refl _))))

theorem bootReadings_keeps (t : List SensorReading) (s : State) : Keeps s (bootReadings t s) := by
  unfold bootReadings
  exact (Keeps.step (actOn_keeps _ _) (Keeps.u2048 (Keeps.forL (fun _ _ => (Keeps.ofFr (State.updLayer_fr _ _ _) (by decide) (Keeps.refl _))) _ (by (try dsimp only); exact Keeps.foldlP (fun _ _ => (Keeps.step (takeReading_keeps _ _) (by (try dsimp only); exact (Keeps.refl _)))) _ (Keeps.refl _))) rfl))

theorem initSlice_keeps (r : LayerInitRead) (q : ℕ) (k : ℕ) (s : State) : Keeps s (initSlice r q k s) := by
  unfold initSlice
  exact (Keeps.ofFr (State.updSlice_fr _ _ _ _) (by decide) (Keeps.step (arraySet_keeps _ _ _) (Keeps.ofFr (applyAntifuse_fr _ _ _ _) (by decide) (Keeps.ofFr (State.updSlice_fr _ _ _ _) (by decide) (Keeps.refl _)))))

theorem finishLayers_keeps (r : LayerInitRead) (s : State) : Keeps s (finishLayers r s) := by
  unfold finishLayers
  exact (Keeps.iteB (Keeps.iteT (Keeps.step (bootReadings_keeps _ _) (Keeps.refl _)) (Keeps.step (sensorRound_keeps _ _) (Keeps.forN (fun _ _ => (Keeps.ofFr (State.updLayer_fr _ _ _) (by decide) (Keeps.refl _))) _ (Keeps.refl _)))) (Keeps.u256 (Keeps.forN (fun _ _ => (Keeps.forN (fun _ _ => (Keeps.ite (Keeps.step (initSlice_keeps _ _ _ _) (Keeps.refl _)) (Keeps.ofFr (State.updSlice_fr _ _ _ _) (by decide) (Keeps.refl _)))) _ (Keeps.refl _))) _ (Keeps.forN (fun _ _ => (Keeps.iteT (Keeps.step (countAf_keeps _ _ _) (Keeps.refl _)) (Keeps.refl _))) _ (Keeps.forN (fun _ _ => (Keeps.iteT (Keeps.ofFr (State.updLayer_fr _ _ _) (by decide) (Keeps.refl _)) (Keeps.refl _))) _ (Keeps.refl _))))))

theorem showRecord_keeps (x : JournalRecord) (s : State) : Keeps s (showRecord x s) := by
  unfold showRecord
  exact (Keeps.u1024 (Keeps.refl _) ⟨rfl, rfl, rfl⟩)

theorem takeFaultRecords_keeps (trip : Option JournalRecord) (flt : Option JournalRecord) (s : State) : Keeps s (takeFaultRecords trip flt s) := by
  unfold takeFaultRecords
  exact (by (try dsimp only); split <;> (try dsimp only); exact (Keeps.ite (Keeps.step (showRecord_keeps _ _) (Keeps.step (showRecord_keeps _ _) (Keeps.refl _))) (Keeps.step (showRecord_keeps _ _) (Keeps.step (showRecord_keeps _ _) (Keeps.refl _)))); exact (Keeps.step (showRecord_keeps _ _) (Keeps.refl _)); exact (Keeps.step (showRecord_keeps _ _) (Keeps.refl _)); exact (Keeps.refl _))

theorem takeBist_keeps (r : Option JournalRecord) (s : State) : Keeps s (takeBist r s) := by
  unfold takeBist
  exact (by (try dsimp only); split <;> (try dsimp only); exact (Keeps.u65536 (Keeps.refl _)); exact (Keeps.step (fault_keeps _ _ _) (Keeps.u65792 (Keeps.refl _))))

theorem trainAll_keeps (r : TrainRead) (s : State) : Keeps s (trainAll r s) := by
  unfold trainAll
  exact (Keeps.u256 (by (try dsimp only); exact Keeps.foldlP (fun _ _ => (by (try dsimp only); exact (Keeps.iteP (by (try dsimp only); exact (Keeps.refl _)) (by (try dsimp only); exact (Keeps.step (trainPc_keeps _ _ _) (Keeps.refl _)))))) _ (Keeps.refl _)))

theorem bringUp_keeps (s : State) : Keeps s (bringUp s) := by
  unfold bringUp
  exact (Keeps.ite (Keeps.step (enterHold_keeps _ _) (Keeps.u256 (Keeps.refl _))) (Keeps.ite (Keeps.step (pinShutdown_keeps _) (Keeps.step (serviceEntry_keeps _) (Keeps.forN (fun _ _ => (Keeps.iteT (Keeps.ofFr (State.updPort_fr _ _ _) (by decide) (Keeps.refl _)) (Keeps.refl _))) _ (Keeps.u256 (Keeps.refl _))))) (Keeps.u256 (Keeps.forN (fun _ _ => (Keeps.iteT (Keeps.ofFr (State.updPort_fr _ _ _) (by decide) (Keeps.refl _)) (Keeps.refl _))) _ (Keeps.u256 (Keeps.refl _))))))

theorem checkBudget_keeps (s : State) : Keeps s (checkBudget s) := by
  unfold checkBudget
  exact (Keeps.ite (Keeps.step (bringUp_keeps _) (Keeps.u524544 (Keeps.refl _))) (Keeps.ite (Keeps.u256 (Keeps.ofFr (setCause_fr _ _ _) (by decide) (Keeps.u524288 (Keeps.u524544 (Keeps.refl _))))) (Keeps.step (enterHold_keeps _ _) (Keeps.ofFr (setCause_fr _ _ _) (by decide) (Keeps.u524288 (Keeps.u524544 (Keeps.refl _)))))))

theorem lockstep_keeps (s : State) : Keeps s (lockstep s) := by
  unfold lockstep
  exact (Keeps.iteB (Keeps.refl _) (Keeps.ite (Keeps.ite (Keeps.u512 (Keeps.step (raiseFault_keeps _ _ _ _ _) (Keeps.u256 (Keeps.refl _)))) (Keeps.step (fault_keeps _ _ _) (Keeps.u256 (Keeps.refl _)))) (Keeps.step (fault_keeps _ _ _) (Keeps.refl _))))

theorem crossbarFail_keeps (p : ℕ) (tag : ℕ) (s : State) : Keeps s (crossbarFail p tag s) := by
  unfold crossbarFail
  exact (by (try dsimp only); split <;> (try dsimp only); exact (Keeps.refl _); exact (Keeps.ite (Keeps.ite (Keeps.ofFr (State.updPort_fr _ _ _) (by decide) (Keeps.ofFr (dropWork_fr _ _ _ _) (by decide) (Keeps.step (fault_keeps _ _ _) (Keeps.refl _)))) (Keeps.ofFr (State.updPort_fr _ _ _) (by decide) (Keeps.ofFr (dropWork_fr _ _ _ _) (by decide) (Keeps.step (fault_keeps _ _ _) (Keeps.refl _))))) (Keeps.iteT (Keeps.ofFr (deliver_fr _ _ _ _ _ _ _) (by decide) (Keeps.refl _)) (Keeps.iteT (Keeps.ofFr (deliver_fr _ _ _ _ _ _ _) (by decide) (Keeps.refl _)) (Keeps.ofFr (dropWork_fr _ _ _ _) (by decide) (Keeps.step (fault_keeps _ _ _) (Keeps.refl _)))))))

theorem doForce_keeps (n : ℕ) (s : State) : Keeps s (doForce n s) := by
  unfold doForce
  exact (Keeps.iteT (Keeps.step (gloveReaction_keeps _ _) (Keeps.refl _)) (Keeps.step (registerEvent_keeps _ _ _ _) (Keeps.refl _)))

theorem doClear_keeps (n : ℕ) (s : State) : Keeps s (doClear n s) := by
  unfold doClear
  exact (Keeps.iteB (Keeps.refl _) (Keeps.step (State.updSrc_keeps _ _ _) (Keeps.refl _)))

theorem actionEffect_keeps (c : Instr) (v : View) (s : State) : Keeps s (actionEffect c v s) := by
  cases c
  case moveToRetain => exact (Keeps.ofFr (doMoveToRetain_fr _) (by decide) (Keeps.refl _))
  case returnToService => exact (Keeps.iteT (Keeps.step (doReturnToService_keeps _) (Keeps.refl _)) (Keeps.refl _))
  case descendNow => exact (Keeps.ofFr (doDescendNow_fr _) (by decide) (Keeps.refl _))
  case retrain => exact (Keeps.iteT (Keeps.ofFr (doRetrain_fr _ _) (by decide) (Keeps.refl _)) (Keeps.refl _))
  case down => exact (Keeps.iteT (Keeps.ofFr (doDown_fr _ _ _) (by decide) (Keeps.refl _)) (Keeps.refl _))
  case nearEndSerialLoop => exact (Keeps.iteT (Keeps.ofFr (doLoop_fr _ _ _ _ _ _) (by decide) (Keeps.refl _)) (Keeps.refl _))
  case nearEndParallelLoop => exact (Keeps.iteT (Keeps.ofFr (doLoop_fr _ _ _ _ _ _) (by decide) (Keeps.refl _)) (Keeps.refl _))
  case farEndLoop => exact (Keeps.iteT (Keeps.ofFr (doLoop_fr _ _ _ _ _ _) (by decide) (Keeps.refl _)) (Keeps.refl _))
  case fenceLift => exact (Keeps.iteT (Keeps.ofFr (liftFence_fr _ _) (by decide) (Keeps.refl _)) (Keeps.refl _))
  case portFence => exact (Keeps.iteT (Keeps.ofFr (fencePort_fr _ _) (by decide) (Keeps.refl _)) (Keeps.refl _))
  case fltForce => exact (doForce_keeps _ _)
  case fltClear => exact (doClear_keeps _ _)
  case pmcClear => exact (Keeps.ofFr (clearSet_fr _ _) (by decide) (Keeps.refl _))
  case recalibrationGo => exact (Keeps.ofFr (doRecal_fr _ _ _) (by decide) (Keeps.refl _))
  case predictorReset => exact (Keeps.ofFr (doPredReset_fr _ _) (by decide) (Keeps.refl _))
  case xlate => exact (Keeps.ofFr (doXlate_fr _ _) (by decide) (Keeps.refl _))
  case repCmdMapOut => dsimp only [actionEffect]; exact (Keeps.ofFr (repCmd_fr _ _ _ _) (by decide) (Keeps.refl _))
  case repCmdRetireRank => dsimp only [actionEffect]; exact (Keeps.ofFr (repCmd_fr _ _ _ _) (by decide) (Keeps.refl _))
  case repCmdRetireLayer => dsimp only [actionEffect]; exact (Keeps.ofFr (repCmd_fr _ _ _ _) (by decide) (Keeps.refl _))
  case otpBurn => exact (Keeps.ofFr (beginOp_fr _ _) (by decide) (Keeps.ofFr (doBurn_fr _ _) (by decide) (Keeps.refl _)))
  case applyOverride => exact (Keeps.ofFr (doOverride_fr _) (by decide) (Keeps.refl _))
  case clearOverrides => exact (Keeps.ofFr (doClearOverrides_fr _) (by decide) (Keeps.refl _))
  case journalFlush => exact (Keeps.ofFr (beginOp_fr _ _) (by decide) (Keeps.refl _))
  case journalRead => exact (Keeps.ofFr (beginOp_fr _ _) (by decide) (Keeps.u16384 (Keeps.refl _)))
  case attReportRequest => exact (Keeps.ofFr (doReport_fr _ _) (by decide) (Keeps.refl _))
  case bistShutdownGo => exact (doBist_keeps _ _)
  case bistPartitionGo => exact (doBist_keeps _ _)
  all_goals exact Keeps.refl _

theorem carryOut_keeps (c : Instr) (v : View) (s : State) : Keeps s (carryOut c v s) := by
  unfold carryOut
  exact (Keeps.iteT (Keeps.ite (Keeps.ofFr (closeTransfer_fr _) (by decide) (Keeps.u512 (Keeps.iteB (Keeps.refl _) (Keeps.ofFr (beginOp_fr _ _) (by decide) (Keeps.refl _))))) (Keeps.ofFr (closeTransfer_fr _) (by decide) (Keeps.step (actionEffect_keeps _ _ _) (Keeps.refl _)))) (Keeps.refl _))

theorem commit_keeps (c : Instr) (s : State) : Keeps s (commit c s) := by
  unfold commit
  exact (Keeps.iteT (Keeps.step (carryOut_keeps _ _ _) (Keeps.ofFr (setPointer_fr _ _) (by decide) (Keeps.u131072 (Keeps.refl _)))) (Keeps.refl _))

theorem writeActions_keeps (v : View) (a : ℕ) (d : Word) (s : State) : Keeps s (writeActions v a d s) := by
  unfold writeActions
  exact (Keeps.forL (fun _ _ => (Keeps.step (carryOut_keeps _ _ _) (Keeps.refl _))) _ (Keeps.iteT (Keeps.u4 (Keeps.refl _)) (Keeps.refl _)))

theorem readOut_keeps (v : View) (a : ℕ) (s : State) : Keeps s (readOut v a s) := by
  unfold readOut
  exact (Keeps.ofFr (passBytes_fr _ _) (by decide) (Keeps.ofFr (setPointer_fr _ _) (by decide) (Keeps.u131072 (Keeps.step (State.readAt_keeps _ _ _) (Keeps.refl _)))))

theorem runHeld_keeps (a : SupAction) (s : State) : Keeps s (runHeld a s) := by
  unfold runHeld
  exact (by (try dsimp only); split <;> (try dsimp only); exact (Keeps.u262144 (Keeps.refl _)); exact (Keeps.ofFr (closeTransfer_fr _) (by decide) (Keeps.ofFr (keepStart_fr _ _) (by decide) (Keeps.step (actionEffect_keeps _ _ _) (Keeps.refl _)))))

theorem restartDone_keeps (s : State) : Keeps s (restartDone s) := by
  unfold restartDone
  exact (Keeps.iteB (Keeps.refl _) (Keeps.forN (fun _ _ => (Keeps.iteB (Keeps.refl _) (Keeps.ofFr (commitUnit_fr _ _) (by decide) (Keeps.refl _)))) _ (Keeps.forL (fun _ _ => (Keeps.step (runHeld_keeps _ _) (Keeps.refl _))) _ (Keeps.iteT (Keeps.u262400 (Keeps.refl _)) (Keeps.u4608 (Keeps.refl _))))))

theorem pecMismatch_keeps (s : State) : Keeps s (pecMismatch s) := by
  unfold pecMismatch
  exact (Keeps.step (fault_keeps _ _ _) (Keeps.ofFr (ignoreRest_fr _) (by decide) (Keeps.u131072 (Keeps.refl _))))

theorem hangUp_keeps (flag : BitVec 6) (s : State) : Keeps s (hangUp flag s) := by
  unfold hangUp
  exact (Keeps.iteT (Keeps.step (fault_keeps _ _ _) (Keeps.u131072 (Keeps.refl _))) (Keeps.refl _))

theorem registerWrite_keeps (data : Word) (pec : Byte) (s : State) : Keeps s (registerWrite data pec s) := by
  unfold registerWrite
  exact (by (try dsimp only); split <;> (try dsimp only); exact (Keeps.iteB (Keeps.refl _) (Keeps.ite (Keeps.step (pecMismatch_keeps _) (Keeps.refl _)) (Keeps.step (writeActions_keeps _ _ _ _) (Keeps.ofFr (setPointer_fr _ _) (by decide) (Keeps.step (State.writeReg_keeps _ _ _ _) (Keeps.ofFr (passBytes_fr _ _) (by decide) (Keeps.refl _))))))); exact (Keeps.refl _))

theorem transferEnd_keeps (insideByte : Bool) (sending : Bool) (start : Bool) (s : State) : Keeps s (transferEnd insideByte sending start s) := by
  unfold transferEnd
  dsimp only
  split
  · exact Keeps.iteB (Keeps.refl _) (Keeps.u131072 (Keeps.refl _))
  · exact (Keeps.iteT (Keeps.u4096 (Keeps.refl _)) (Keeps.iteT (Keeps.step (fault_keeps _ _ _) (Keeps.u131072 (Keeps.refl _))) (Keeps.ite (Keeps.u131072 (Keeps.u131072 (Keeps.refl _))) (Keeps.u131072 (Keeps.refl _)))))

theorem addressByte_keeps (addr : BitVec 7) (read : Bool) (s : State) : Keeps s (addressByte addr read s) := by
  unfold addressByte
  exact (Keeps.iteB (Keeps.refl _) (Keeps.ite (Keeps.u131072 (Keeps.u131072 (Keeps.refl _))) (by (try dsimp only); split <;> (try dsimp only); exact (Keeps.u131072 (Keeps.u131072 (Keeps.refl _))); exact (Keeps.ite (Keeps.step (twoWireWake_keeps _) (Keeps.u131072 (Keeps.u131072 (Keeps.refl _)))) (Keeps.u131072 (Keeps.ofFr (passBytes_fr _ _) (by decide) (Keeps.u131072 (Keeps.refl _))))))))

theorem receiveMgmt_keeps (p : ℕ) (op : Op) (h : ReqHeader) (nonce : BitVec 256) (s : State) : Keeps s (receiveMgmt p op h nonce s) := by
  unfold receiveMgmt
  exact (Keeps.iteB (Keeps.refl _) (Keeps.step (serveOthers_keeps _ _) (Keeps.step (openTag_keeps _ _ _ _ _ _ (fun _ => Keeps.ite (Keeps.ofFr (answerMgmt_fr _ _ _ _ _) (by decide) (Keeps.refl _)) (Keeps.ite (Keeps.ofFr (answerMgmt_fr _ _ _ _ _) (by decide) (Keeps.refl _)) (Keeps.ite (Keeps.ofFr (answerMgmt_fr _ _ _ _ _) (by decide) (Keeps.refl _)) (Keeps.ite (Keeps.ofFr (answerMgmt_fr _ _ _ _ _) (by decide) (Keeps.refl _)) (Keeps.ite (Keeps.ofFr (answerMgmt_fr _ _ _ _ _) (by decide) (Keeps.refl _)) (Keeps.ofFr (serveMgmt_fr _ _) (by decide) (Keeps.refl _)))))))) (Keeps.iteT (Keeps.ofFr (takeMsg_fr _ _ _) (by decide) (Keeps.refl _)) (Keeps.refl _)))))

theorem tapFactory_keeps (i : TapInstr) (f : State → State) (s : State) (hf : ∀ t, Keeps t (f t)) : Keeps s (tapFactory i f s) := by
  unfold tapFactory
  exact Keeps.iteB (Keeps.refl _) (Keeps.ite (Keeps.step (hf _) (Keeps.ofFr (tapSelect_fr _ _) (by decide) (Keeps.refl _))) (Keeps.step (fault_keeps _ _ _) (Keeps.u65536 (Keeps.ofFr (tapSelect_fr _ _) (by decide) (Keeps.refl _)))))

theorem State.withEvent_keeps (n : ℕ) (s : State) : Keeps s (State.withEvent n s) := by
  unfold State.withEvent
  exact (Keeps.step (State.updSrc_keeps _ _ _) (Keeps.refl _))

end Sys2Proof.Machine
end

