-- ==== Sys2Proof/Laws/Exec.lean ====
section
/-! SUPPORT. What each command can change at all, and what it keeps: the frame of every command's meaning, in the numbering of Laws/Frame.lean, and for every command but PWRGOOD_LOW that its meaning keeps what Laws/Keeps.lean names. -/

namespace Sys2Proof.Machine

/-- Where the outcome is a next state, it is within the frame. -/
def FrO (m : Nat) (s : State) (o : Host.Outcome State Fault Refusal) : Prop := ∀ t, o = .next t → Fr m s t
theorem FrO.next {m : Nat} {s t : State} (h : Fr m s t) : FrO m s (.next t) := fun _ e => Host.Outcome.next.inj e ▸ h
theorem FrO.ite {m : Nat} {s : State} {c : Prop} [Decidable c] {a b : Host.Outcome State Fault Refusal} (h1 : FrO m s a)
    (h2 : FrO m s b) : FrO m s (if c then a else b) := by
  split <;> assumption
/-- Where the outcome is a next state, it keeps what `Keeps` names. -/
def KeepsO (s : State) (o : Host.Outcome State Fault Refusal) : Prop := ∀ t, o = .next t → Keeps s t
theorem KeepsO.next {s t : State} (h : Keeps s t) : KeepsO s (.next t) := fun _ e => Host.Outcome.next.inj e ▸ h
theorem KeepsO.ite {s : State} {c : Prop} [Decidable c] {a b : Host.Outcome State Fault Refusal} (h1 : KeepsO s a)
    (h2 : KeepsO s b) : KeepsO s (if c then a else b) := by
  split <;> assumption
/-- A frame that leaves everything `Keeps` names alone. -/
theorem FrO.keeps {m : Nat} {s : State} {o : Host.Outcome State Fault Refusal} (h : FrO m s o) (hm : m &&& 268438576 = 0) : KeepsO s o :=
  fun t e => Keeps.ofFr (h t e) hm (Keeps.refl _)

/-- A record update of pins. -/
theorem Fr.u128 {m : Nat} {s t : State} {x7} (h0 : Fr m s t) (hm : 128 ||| m = m) : Fr m s (State.mk t.pending t.now t.choice t.pwrgood t.mode t.holdCause t.takeover x7 t.boot t.sup t.flt t.thm t.pwr t.otp t.jnl t.att t.bist t.mb t.rep t.gnt t.tap t.image t.ports t.chans t.pcs t.slices t.layers t.pmc t.mem) :=
  h0.trans (Fr.mono (m := 128) (by constructor <;> first | with_reducible exact fun _ => rfl | exact fun h => absurd h (by decide)) hm)

/-- A record update of mode, boot. -/
theorem Fr.u272 {m : Nat} {s t : State} {x4 x8} (h0 : Fr m s t) (hm : 272 ||| m = m) : Fr m s (State.mk t.pending t.now t.choice t.pwrgood x4 t.holdCause t.takeover t.pins x8 t.sup t.flt t.thm t.pwr t.otp t.jnl t.att t.bist t.mb t.rep t.gnt t.tap t.image t.ports t.chans t.pcs t.slices t.layers t.pmc t.mem) :=
  h0.trans (Fr.mono (m := 272) (by constructor <;> first | with_reducible exact fun _ => rfl | exact fun h => absurd h (by decide)) hm)

/-- A record update of now, pwrgood, pins, boot. -/
theorem Fr.u394 {m : Nat} {s t : State} {x1 x3 x7 x8} (h0 : Fr m s t) (hm : 394 ||| m = m) : Fr m s (State.mk t.pending x1 t.choice x3 t.mode t.holdCause t.takeover x7 x8 t.sup t.flt t.thm t.pwr t.otp t.jnl t.att t.bist t.mb t.rep t.gnt t.tap t.image t.ports t.chans t.pcs t.slices t.layers t.pmc t.mem) :=
  h0.trans (Fr.mono (m := 394) (by constructor <;> first | with_reducible exact fun _ => rfl | exact fun h => absurd h (by decide)) hm)

/-- A record update of pins, boot, pwr. -/
theorem Fr.u4480 {m : Nat} {s t : State} {x7 x8 x12} (h0 : Fr m s t) (hm : 4480 ||| m = m) : Fr m s (State.mk t.pending t.now t.choice t.pwrgood t.mode t.holdCause t.takeover x7 x8 t.sup t.flt t.thm x12 t.otp t.jnl t.att t.bist t.mb t.rep t.gnt t.tap t.image t.ports t.chans t.pcs t.slices t.layers t.pmc t.mem) :=
  h0.trans (Fr.mono (m := 4480) (by constructor <;> first | with_reducible exact fun _ => rfl | exact fun h => absurd h (by decide)) hm)

/-- A record update of boot, sup, pwr. -/
theorem Fr.u4864 {m : Nat} {s t : State} {x8 x9 x12} (h0 : Fr m s t) (hm : 4864 ||| m = m) : Fr m s (State.mk t.pending t.now t.choice t.pwrgood t.mode t.holdCause t.takeover t.pins x8 x9 t.flt t.thm x12 t.otp t.jnl t.att t.bist t.mb t.rep t.gnt t.tap t.image t.ports t.chans t.pcs t.slices t.layers t.pmc t.mem) :=
  h0.trans (Fr.mono (m := 4864) (by constructor <;> first | with_reducible exact fun _ => rfl | exact fun h => absurd h (by decide)) hm)

/-- A record update of boot, otp. -/
theorem Fr.u8448 {m : Nat} {s t : State} {x8 x13} (h0 : Fr m s t) (hm : 8448 ||| m = m) : Fr m s (State.mk t.pending t.now t.choice t.pwrgood t.mode t.holdCause t.takeover t.pins x8 t.sup t.flt t.thm t.pwr x13 t.jnl t.att t.bist t.mb t.rep t.gnt t.tap t.image t.ports t.chans t.pcs t.slices t.layers t.pmc t.mem) :=
  h0.trans (Fr.mono (m := 8448) (by constructor <;> first | with_reducible exact fun _ => rfl | exact fun h => absurd h (by decide)) hm)

/-- A record update of boot, pwr, rep. -/
theorem Fr.u266496 {m : Nat} {s t : State} {x8 x12 x18} (h0 : Fr m s t) (hm : 266496 ||| m = m) : Fr m s (State.mk t.pending t.now t.choice t.pwrgood t.mode t.holdCause t.takeover t.pins x8 t.sup t.flt t.thm x12 t.otp t.jnl t.att t.bist t.mb x18 t.gnt t.tap t.image t.ports t.chans t.pcs t.slices t.layers t.pmc t.mem) :=
  h0.trans (Fr.mono (m := 266496) (by constructor <;> first | with_reducible exact fun _ => rfl | exact fun h => absurd h (by decide)) hm)

/-- A record update of boot, jnl, att, rep. -/
theorem Fr.u311552 {m : Nat} {s t : State} {x8 x14 x15 x18} (h0 : Fr m s t) (hm : 311552 ||| m = m) : Fr m s (State.mk t.pending t.now t.choice t.pwrgood t.mode t.holdCause t.takeover t.pins x8 t.sup t.flt t.thm t.pwr t.otp x14 x15 t.bist t.mb x18 t.gnt t.tap t.image t.ports t.chans t.pcs t.slices t.layers t.pmc t.mem) :=
  h0.trans (Fr.mono (m := 311552) (by constructor <;> first | with_reducible exact fun _ => rfl | exact fun h => absurd h (by decide)) hm)

/-- A record update of now, pwrgood, mode, holdCause, takeover, pins, boot, sup, flt, thm, pwr, otp, jnl, att, bist, mb, rep, gnt, tap, image, ports, chans, pcs, slices, layers, pmc, mem. -/
theorem Fr.u536870906 {m : Nat} {s t : State} {x1 x3 x4 x5 x6 x7 x8 x9 x10 x11 x12 x13 x14 x15 x16 x17 x18 x19 x20 x21 x22 x23 x24 x25 x26 x27 x28} (h0 : Fr m s t) (hm : 536870906 ||| m = m) : Fr m s (State.mk t.pending x1 t.choice x3 x4 x5 x6 x7 x8 x9 x10 x11 x12 x13 x14 x15 x16 x17 x18 x19 x20 x21 x22 x23 x24 x25 x26 x27 x28) :=
  h0.trans (Fr.mono (m := 536870906) (by constructor <;> first | with_reducible exact fun _ => rfl | exact fun h => absurd h (by decide)) hm)

/-- A record update of pins. -/
theorem Keeps.u128 {s t : State} {x7} (h0 : Keeps s t) : Keeps s (State.mk t.pending t.now t.choice t.pwrgood t.mode t.holdCause t.takeover x7 t.boot t.sup t.flt t.thm t.pwr t.otp t.jnl t.att t.bist t.mb t.rep t.gnt t.tap t.image t.ports t.chans t.pcs t.slices t.layers t.pmc t.mem) :=
  h0.trans (Keeps.same rfl rfl rfl ⟨rfl, rfl, rfl⟩ rfl)

/-- A record update of boot, otp. -/
theorem Keeps.u8448 {s t : State} {x8 x13} (h0 : Keeps s t) : Keeps s (State.mk t.pending t.now t.choice t.pwrgood t.mode t.holdCause t.takeover t.pins x8 t.sup t.flt t.thm t.pwr x13 t.jnl t.att t.bist t.mb t.rep t.gnt t.tap t.image t.ports t.chans t.pcs t.slices t.layers t.pmc t.mem) :=
  h0.trans (Keeps.same rfl rfl rfl ⟨rfl, rfl, rfl⟩ rfl)

/-- A record update of boot, pwr, rep. -/
theorem Keeps.u266496 {s t : State} {x8 x12 x18} (h0 : Keeps s t) : Keeps s (State.mk t.pending t.now t.choice t.pwrgood t.mode t.holdCause t.takeover t.pins x8 t.sup t.flt t.thm x12 t.otp t.jnl t.att t.bist t.mb x18 t.gnt t.tap t.image t.ports t.chans t.pcs t.slices t.layers t.pmc t.mem) :=
  h0.trans (Keeps.same rfl rfl rfl ⟨rfl, rfl, rfl⟩ rfl)

/-- A record update of boot, jnl, att, rep. -/
theorem Keeps.u311552 {s t : State} {x8 x14 x15 x18} (h0 : Keeps s t) : Keeps s (State.mk t.pending t.now t.choice t.pwrgood t.mode t.holdCause t.takeover t.pins x8 t.sup t.flt t.thm t.pwr t.otp x14 x15 t.bist t.mb x18 t.gnt t.tap t.image t.ports t.chans t.pcs t.slices t.layers t.pmc t.mem) :=
  h0.trans (Keeps.same rfl rfl rfl ⟨rfl, rfl, rfl⟩ rfl)

/-- Taking a repair off the list changes the repair state only. -/
theorem takeRepair_fr {f : RepairReq → Bool} {s t : State} {r : RepairReq} (h : takeRepair f s = some (r, t)) : Fr 262144 s t := by
  unfold takeRepair at h
  split at h
  · exact nomatch h
  · split at h
    · split at h
      · obtain ⟨-, rfl⟩ := Prod.mk.inj (Option.some.inj h)
        constructor <;> first | with_reducible exact fun _ => rfl | exact fun h => absurd h (by decide)
      · exact nomatch h
    · exact nomatch h

/-- Another mode but SERVICE or TRIP entered from BOOT. -/
theorem Keeps.fromBoot {s t : State} {d : Mode} {x8} (hb : t.mode = .boot) (h0 : Keeps s t) (hd : d ≠ .trip) : Keeps s (State.mk t.pending t.now t.choice t.pwrgood d t.holdCause t.takeover t.pins x8 t.sup t.flt t.thm t.pwr t.otp t.jnl t.att t.bist t.mb t.rep t.gnt t.tap t.image t.ports t.chans t.pcs t.slices t.layers t.pmc t.mem) where
  mem := h0.mem
  tripValid := h0.tripValid
  tripOk := fun _ e => absurd e hd
  trip := fun e => nomatch (h0.trip e).symm.trans hb
  boot := fun e => absurd hb (h0.boot e)
  hold := fun e => (h0.hold e).elim (fun x => nomatch x.symm.trans hb) (fun x => nomatch x.symm.trans hb)
  grave := h0.grave
  cause := fun e => (h0.cause e).elim .inl (fun x => nomatch x.symm.trans hb)

theorem execPwrgoodHigh_fr (maddr : BitVec 3) (s : State) : FrO 394 s (execPwrgoodHigh maddr s) := by
  unfold execPwrgoodHigh
  exact (FrO.ite (FrO.next (Fr.refl _ _)) (FrO.next (Fr.u394 (Fr.refl _ _) (by decide))))

theorem execPwrgoodHigh_keeps (maddr : BitVec 3) (s : State) : KeepsO s (execPwrgoodHigh maddr s) :=
  (execPwrgoodHigh_fr _ _).keeps (by decide)

theorem execPwrgoodLow_fr (s : State) : FrO 536870906 s (execPwrgoodLow s) := by
  exact FrO.next (by constructor <;> first | with_reducible exact fun _ => rfl | exact fun h => absurd h (by decide))

theorem execResetNHigh_fr (s : State) : FrO 384 s (execResetNHigh s) := by
  unfold execResetNHigh
  exact (FrO.next (Fr.iteT (Fr.u256 (Fr.refl _ _) (by decide)) (Fr.u128 (Fr.refl _ _) (by decide))))

theorem execResetNHigh_keeps (s : State) : KeepsO s (execResetNHigh s) :=
  (execResetNHigh_fr _).keeps (by decide)

theorem execVcoreOkHigh_fr (s : State) : FrO 4480 s (execVcoreOkHigh s) := by
  unfold execVcoreOkHigh
  exact (FrO.next (Fr.u4480 (Fr.refl _ _) (by decide)))

theorem execVcoreOkHigh_keeps (s : State) : KeepsO s (execVcoreOkHigh s) :=
  (execVcoreOkHigh_fr _).keeps (by decide)

theorem execVcoreOkLow_fr (s : State) : FrO 399464432 s (execVcoreOkLow s) := by
  unfold execVcoreOkLow
  exact (FrO.next (Fr.iteT (Fr.step (raiseFault_fr _ _ _ _ _) (by decide) (Fr.u4096 (Fr.refl _ _) (by decide))) (Fr.u128 (Fr.refl _ _) (by decide))))

theorem execVcoreOkLow_keeps (s : State) : KeepsO s (execVcoreOkLow s) := by
  unfold execVcoreOkLow
  exact (KeepsO.next (Keeps.iteT (Keeps.step (raiseFault_keeps _ _ _ _ _) (Keeps.u4096 (Keeps.refl _))) (Keeps.u128 (Keeps.refl _))))

theorem execVcoreRaiseTimeout_fr (s : State) : FrO 399464434 s (execVcoreRaiseTimeout s) := by
  unfold execVcoreRaiseTimeout
  exact (FrO.ite (FrO.next (Fr.step (raiseFault_fr _ _ _ _ _) (by decide) (Fr.u4096 (Fr.step (State.atLeast_fr _ _) (by decide) (Fr.refl _ _)) (by decide)))) (FrO.next (Fr.refl _ _)))

theorem execVcoreRaiseTimeout_keeps (s : State) : KeepsO s (execVcoreRaiseTimeout s) := by
  unfold execVcoreRaiseTimeout
  exact (KeepsO.ite (KeepsO.next (Keeps.step (raiseFault_keeps _ _ _ _ _) (Keeps.u4096 (Keeps.ofFr (State.atLeast_fr _ _) (by decide) (Keeps.refl _))))) (KeepsO.next (Keeps.refl _)))

theorem execFastRcStable_fr (s : State) : FrO 4992 s (execFastRcStable s) := by
  unfold execFastRcStable
  exact (FrO.ite (FrO.ite (FrO.next (Fr.u4864 (Fr.u384 (Fr.refl _ _) (by decide)) (by decide))) (FrO.next (Fr.u256 (Fr.u384 (Fr.refl _ _) (by decide)) (by decide)))) (FrO.ite (FrO.next (Fr.u4608 (Fr.refl _ _) (by decide))) (FrO.next (Fr.refl _ _))))

theorem execFastRcStable_keeps (s : State) : KeepsO s (execFastRcStable s) :=
  (execFastRcStable_fr _).keeps (by decide)

theorem execOtpShadowLoad_fr (r : Sys2Proof.OtpReadout) (s : State) : FrO 399472624 s (execOtpShadowLoad r s) := by
  unfold execOtpShadowLoad
  exact (FrO.ite (FrO.ite (FrO.next (Fr.forL (fun _ _ => (Fr.step (fault_fr _ _ _) (by decide) (Fr.refl _ _))) _ (Fr.u8448 (Fr.refl _ _) (by decide)))) (by (try dsimp only); split <;> (try dsimp only); exact (FrO.next (Fr.step (enterHold_fr _ _) (by decide) (Fr.forL (fun _ _ => (Fr.step (fault_fr _ _ _) (by decide) (Fr.refl _ _))) _ (Fr.u8448 (Fr.refl _ _) (by decide))))); exact (FrO.next (Fr.u266496 (Fr.forL (fun _ _ => (Fr.step (fault_fr _ _ _) (by decide) (Fr.refl _ _))) _ (Fr.u8448 (Fr.refl _ _) (by decide))) (by decide))))) (FrO.next (Fr.refl _ _)))

theorem execOtpShadowLoad_keeps (r : Sys2Proof.OtpReadout) (s : State) : KeepsO s (execOtpShadowLoad r s) := by
  unfold execOtpShadowLoad
  exact (KeepsO.ite (KeepsO.ite (KeepsO.next (Keeps.forL (fun _ _ => (Keeps.step (fault_keeps _ _ _) (Keeps.refl _))) _ (Keeps.u8448 (Keeps.refl _)))) (by (try dsimp only); split <;> (try dsimp only); exact (KeepsO.next (Keeps.step (enterHold_keeps _ _) (Keeps.forL (fun _ _ => (Keeps.step (fault_keeps _ _ _) (Keeps.refl _))) _ (Keeps.u8448 (Keeps.refl _))))); exact (KeepsO.next (Keeps.u266496 (Keeps.forL (fun _ _ => (Keeps.step (fault_keeps _ _ _) (Keeps.refl _))) _ (Keeps.u8448 (Keeps.refl _))))))) (KeepsO.next (Keeps.refl _)))

theorem execImageSelection_fr (n : Sys2Proof.NvmRead) (s : State) : FrO 535781360 s (execImageSelection n s) := by
  unfold execImageSelection
  refine FrO.ite ?_ (FrO.next (Fr.refl _ _))
  extract_lets again x0 y0 s0 z0 s1 h s2 e s3
  have h1 : Fr 535781360 s s1 := Fr.iteB (Fr.iteB (Fr.refl _ _) (Fr.u384 (Fr.refl _ _) (by decide))) (Fr.step (fault_fr _ _ _) (by decide) (Fr.u256 (Fr.refl _ _) (by decide)))
  have h2 : Fr 535781360 s s2 := Fr.iteT (Fr.step (fault_fr _ _ _) (by decide) (Fr.refl _ _)) (Fr.step (headerCauses_fr _ _) (by decide) h1)
  have h3 : Fr 535781360 s s3 := Fr.step (examineCopies_fr _ _ _) (by decide) h2
  clear_value e s1
  refine FrO.ite (FrO.next h3) ?_
  split
  · exact FrO.next (Fr.step (enterHold_fr _ _) (by decide) h3)
  · next b c _ =>
    extract_lets s4 v x s5 ok y s6
    have h4 : Fr 535781360 s s4 := Fr.iteT (Fr.step (setCause_fr _ _ _) (by decide) (Fr.refl _ _)) h3
    clear_value s4
    have h5 : Fr 535781360 s s5 := Fr.u256 (Fr.step (loadImage_fr _ _) (by decide) h4) (by decide)
    clear_value s5
    exact FrO.ite (FrO.next (Fr.u256 h5 (by decide))) (FrO.next (Fr.iteT (Fr.step (fault_fr _ _ _) (by decide) (Fr.refl _ _)) (Fr.u256 h5 (by decide))))

theorem execImageSelection_keeps (n : Sys2Proof.NvmRead) (s : State) : KeepsO s (execImageSelection n s) := by
  unfold execImageSelection
  refine KeepsO.ite ?_ (KeepsO.next (Keeps.refl _))
  extract_lets again x0 y0 s0 z0 s1 h s2 e s3
  have h1 : Keeps s s1 := Keeps.iteB (Keeps.iteB (Keeps.refl _) (Keeps.u384 (Keeps.refl _))) (Keeps.step (fault_keeps _ _ _) (Keeps.u256 (Keeps.refl _)))
  have h2 : Keeps s s2 := Keeps.iteT (fault_keeps _ _ _) (Keeps.ofFr (headerCauses_fr _ _) (by decide) h1)
  have h3 : Keeps s s3 := Keeps.ofFr (examineCopies_fr _ _ _) (by decide) h2
  clear_value e s1
  refine KeepsO.ite (KeepsO.next h3) ?_
  split
  · exact KeepsO.next (Keeps.step (enterHold_keeps _ _) h3)
  · next b c _ =>
    extract_lets s4 v x s5 ok y s6
    have h4 : Keeps s s4 := Keeps.iteT (Keeps.ofFr (setCause_fr _ _ _) (by decide) (Keeps.refl _)) h3
    clear_value s4
    have h5 : Keeps s s5 := Keeps.u256 (Keeps.step (loadImage_keeps _ _) h4)
    clear_value s5
    exact KeepsO.ite (KeepsO.next (Keeps.u256 h5)) (KeepsO.next (Keeps.iteT (fault_keeps _ _ _) (Keeps.u256 h5)))

theorem execJournalScan_fr (j : Sys2Proof.JournalRead) (s : State) : FrO 399497200 s (execJournalScan j s) := by
  unfold execJournalScan
  exact (FrO.ite (FrO.ite (FrO.next (Fr.step (takeBist_fr _ _) (by decide) (Fr.step (takeWear_fr _ _) (by decide) (Fr.step (takeFaultRecords_fr _ _ _) (by decide) (Fr.forL (fun _ _ => (Fr.step (fault_fr _ _ _) (by decide) (Fr.refl _ _))) _ (Fr.iteT (Fr.step (fault_fr _ _ _) (by decide) (Fr.refl _ _)) (Fr.u311552 (Fr.refl _ _) (by decide)))))))) (FrO.ite (FrO.next (Fr.step (enterHold_fr _ _) (by decide) (Fr.step (takeBist_fr _ _) (by decide) (Fr.step (takeWear_fr _ _) (by decide) (Fr.step (takeFaultRecords_fr _ _ _) (by decide) (Fr.forL (fun _ _ => (Fr.step (fault_fr _ _ _) (by decide) (Fr.refl _ _))) _ (Fr.iteT (Fr.step (fault_fr _ _ _) (by decide) (Fr.refl _ _)) (Fr.u311552 (Fr.refl _ _) (by decide))))))))) (FrO.next (Fr.u256 (Fr.step (takeBist_fr _ _) (by decide) (Fr.step (takeWear_fr _ _) (by decide) (Fr.step (takeFaultRecords_fr _ _ _) (by decide) (Fr.forL (fun _ _ => (Fr.step (fault_fr _ _ _) (by decide) (Fr.refl _ _))) _ (Fr.iteT (Fr.step (fault_fr _ _ _) (by decide) (Fr.refl _ _)) (Fr.u311552 (Fr.refl _ _) (by decide))))))) (by decide))))) (FrO.next (Fr.refl _ _)))

theorem execJournalScan_keeps (j : Sys2Proof.JournalRead) (s : State) : KeepsO s (execJournalScan j s) := by
  unfold execJournalScan
  exact (KeepsO.ite (KeepsO.ite (KeepsO.next (Keeps.step (takeBist_keeps _ _) (Keeps.step (takeWear_keeps _ _) (Keeps.step (takeFaultRecords_keeps _ _ _) (Keeps.forL (fun _ _ => (Keeps.step (fault_keeps _ _ _) (Keeps.refl _))) _ (Keeps.iteT (Keeps.step (fault_keeps _ _ _) (Keeps.refl _)) (Keeps.u311552 (Keeps.refl _)))))))) (KeepsO.ite (KeepsO.next (Keeps.step (enterHold_keeps _ _) (Keeps.step (takeBist_keeps _ _) (Keeps.step (takeWear_keeps _ _) (Keeps.step (takeFaultRecords_keeps _ _ _) (Keeps.forL (fun _ _ => (Keeps.step (fault_keeps _ _ _) (Keeps.refl _))) _ (Keeps.iteT (Keeps.step (fault_keeps _ _ _) (Keeps.refl _)) (Keeps.u311552 (Keeps.refl _))))))))) (KeepsO.next (Keeps.u256 (Keeps.step (takeBist_keeps _ _) (Keeps.step (takeWear_keeps _ _) (Keeps.step (takeFaultRecords_keeps _ _ _) (Keeps.forL (fun _ _ => (Keeps.step (fault_keeps _ _ _) (Keeps.refl _))) _ (Keeps.iteT (Keeps.step (fault_keeps _ _ _) (Keeps.refl _)) (Keeps.u311552 (Keeps.refl _))))))))))) (KeepsO.next (Keeps.refl _)))

theorem execPllLock_fr (zq : Sys2Proof.ZqMeas) (s : State) : FrO 399464432 s (execPllLock zq s) := by
  unfold execPllLock
  exact (FrO.ite (FrO.ite (FrO.next (Fr.step (zqRound_fr _ _ _) (by decide) (Fr.step (clocksUp_fr _) (by decide) (Fr.refl _ _)))) (FrO.ite (FrO.next (Fr.step (pinShutdown_fr _) (by decide) (Fr.u272 (Fr.step (zqRound_fr _ _ _) (by decide) (Fr.step (clocksUp_fr _) (by decide) (Fr.refl _ _))) (by decide)))) (FrO.next (Fr.u256 (Fr.step (zqRound_fr _ _ _) (by decide) (Fr.step (clocksUp_fr _) (by decide) (Fr.refl _ _))) (by decide))))) (FrO.ite (FrO.next (Fr.iteB (Fr.refl _ _) (Fr.step (zqRound_fr _ _ _) (by decide) (Fr.step (clocksUp_fr _) (by decide) (Fr.refl _ _))))) (FrO.ite (FrO.next (Fr.step (clocksUp_fr _) (by decide) (Fr.refl _ _))) (FrO.next (Fr.refl _ _)))))

theorem execPllLock_keeps (zq : Sys2Proof.ZqMeas) (s : State) : KeepsO s (execPllLock zq s) := by
  unfold execPllLock
  extract_lets s1 x
  have h1 : Keeps s s1 := Keeps.step (zqRound_keeps _ _ _) (Keeps.ofFr (clocksUp_fr _) (by decide) (Keeps.refl _))
  split
  · clear_value s1
    split
    · exact KeepsO.next h1
    · next hm =>
      split
      · exact KeepsO.next (Keeps.step (pinShutdown_keeps _) (Keeps.fromBoot (Decidable.not_not.mp hm) h1 (by decide)))
      · exact KeepsO.next (Keeps.u256 h1)
  · exact KeepsO.ite (KeepsO.next (Keeps.iteB (Keeps.refl _) h1)) (KeepsO.ite (KeepsO.next (Keeps.ofFr (clocksUp_fr _) (by decide) (Keeps.refl _))) (KeepsO.next (Keeps.refl _)))

theorem execPllLockTimeout_fr (refclkAbsent : Bool) (s : State) : FrO 399464432 s (execPllLockTimeout refclkAbsent s) := by
  unfold execPllLockTimeout
  exact (FrO.ite (FrO.next (Fr.step (enterHold_fr _ _) (by decide) (Fr.iteT (Fr.step (fault_fr _ _ _) (by decide) (Fr.u4096 (Fr.refl _ _) (by decide))) (Fr.refl _ _)))) (FrO.next (Fr.refl _ _)))

theorem execPllLockTimeout_keeps (refclkAbsent : Bool) (s : State) : KeepsO s (execPllLockTimeout refclkAbsent s) := by
  unfold execPllLockTimeout
  exact (KeepsO.ite (KeepsO.next (Keeps.step (enterHold_keeps _ _) (Keeps.iteT (Keeps.step (fault_keeps _ _ _) (Keeps.u4096 (Keeps.refl _))) (Keeps.refl _)))) (KeepsO.next (Keeps.refl _)))

theorem execLayerInit_fr (r : Sys2Proof.LayerInitRead) (s : State) : FrO 399466480 s (execLayerInit r s) := by
  unfold execLayerInit
  exact (FrO.ite (FrO.next (Fr.refl _ _)) (FrO.ite (FrO.next (Fr.iteT (Fr.step (finishLayers_fr _ _) (by decide) (Fr.step (drawKey_fr _ _ _) (by decide) (Fr.refl _ _))) (Fr.refl _ _))) (FrO.ite (FrO.next (Fr.step (applyRepairs_fr _) (by decide) (Fr.step (excludeFailed_fr _) (by decide) (Fr.refl _ _)))) (FrO.ite (FrO.next (Fr.step (enterHold_fr _ _) (by decide) (Fr.step (applyRepairs_fr _) (by decide) (Fr.step (excludeFailed_fr _) (by decide) (Fr.refl _ _))))) (FrO.ite (FrO.next (Fr.forL (fun _ _ => (Fr.step (failLayer_fr _ _) (by decide) (Fr.refl _ _))) _ (Fr.step (applyRepairs_fr _) (by decide) (Fr.step (excludeFailed_fr _) (by decide) (Fr.refl _ _))))) (FrO.ite (FrO.next (Fr.step (finishLayers_fr _ _) (by decide) (Fr.step (drawKey_fr _ _ _) (by decide) (Fr.forL (fun _ _ => (Fr.step (failLayer_fr _ _) (by decide) (Fr.refl _ _))) _ (Fr.step (applyRepairs_fr _) (by decide) (Fr.step (excludeFailed_fr _) (by decide) (Fr.refl _ _))))))) (FrO.next (Fr.u262400 (Fr.forL (fun _ _ => (Fr.step (failLayer_fr _ _) (by decide) (Fr.refl _ _))) _ (Fr.step (applyRepairs_fr _) (by decide) (Fr.step (excludeFailed_fr _) (by decide) (Fr.refl _ _)))) (by decide)))))))))

theorem execLayerInit_keeps (r : Sys2Proof.LayerInitRead) (s : State) : KeepsO s (execLayerInit r s) := by
  unfold execLayerInit
  exact (KeepsO.ite (KeepsO.next (Keeps.refl _)) (KeepsO.ite (KeepsO.next (Keeps.iteT (Keeps.step (finishLayers_keeps _ _) (Keeps.ofFr (drawKey_fr _ _ _) (by decide) (Keeps.refl _))) (Keeps.refl _))) (KeepsO.ite (KeepsO.next (Keeps.ofFr (applyRepairs_fr _) (by decide) (Keeps.step (excludeFailed_keeps _) (Keeps.refl _)))) (KeepsO.ite (KeepsO.next (Keeps.step (enterHold_keeps _ _) (Keeps.ofFr (applyRepairs_fr _) (by decide) (Keeps.step (excludeFailed_keeps _) (Keeps.refl _))))) (KeepsO.ite (KeepsO.next (Keeps.forL (fun _ _ => (Keeps.step (failLayer_keeps _ _) (Keeps.refl _))) _ (Keeps.ofFr (applyRepairs_fr _) (by decide) (Keeps.step (excludeFailed_keeps _) (Keeps.refl _))))) (KeepsO.ite (KeepsO.next (Keeps.step (finishLayers_keeps _ _) (Keeps.ofFr (drawKey_fr _ _ _) (by decide) (Keeps.forL (fun _ _ => (Keeps.step (failLayer_keeps _ _) (Keeps.refl _))) _ (Keeps.ofFr (applyRepairs_fr _) (by decide) (Keeps.step (excludeFailed_keeps _) (Keeps.refl _))))))) (KeepsO.next (Keeps.u262400 (Keeps.forL (fun _ _ => (Keeps.step (failLayer_keeps _ _) (Keeps.refl _))) _ (Keeps.ofFr (applyRepairs_fr _) (by decide) (Keeps.step (excludeFailed_keeps _) (Keeps.refl _))))))))))))

theorem execKeyDrawFallback_fr (raw : List Sys2Proof.Byte) (s : State) : FrO 399466482 s (execKeyDrawFallback raw s) := by
  unfold execKeyDrawFallback
  exact (FrO.ite (FrO.next (by (try dsimp only); split <;> (try dsimp only); exact (Fr.iteT (Fr.step (finishLayers_fr _ _) (by decide) (Fr.refl _ _)) (Fr.step (raiseFault_fr _ _ _ _ _) (by decide) (Fr.step (drawKey_fr _ _ _) (by decide) (Fr.step (State.atLeast_fr _ _) (by decide) (Fr.refl _ _))))); exact (Fr.u4096 (Fr.step (raiseFault_fr _ _ _ _ _) (by decide) (Fr.step (drawKey_fr _ _ _) (by decide) (Fr.step (State.atLeast_fr _ _) (by decide) (Fr.refl _ _)))) (by decide)))) (FrO.next (Fr.refl _ _)))

theorem execKeyDrawFallback_keeps (raw : List Sys2Proof.Byte) (s : State) : KeepsO s (execKeyDrawFallback raw s) := by
  unfold execKeyDrawFallback
  exact (KeepsO.ite (KeepsO.next (by (try dsimp only); split <;> (try dsimp only); exact (Keeps.iteT (Keeps.step (finishLayers_keeps _ _) (Keeps.refl _)) (Keeps.step (raiseFault_keeps _ _ _ _ _) (Keeps.ofFr (drawKey_fr _ _ _) (by decide) (Keeps.ofFr (State.atLeast_fr _ _) (by decide) (Keeps.refl _))))); exact (Keeps.u4096 (Keeps.step (raiseFault_keeps _ _ _ _ _) (Keeps.ofFr (drawKey_fr _ _ _) (by decide) (Keeps.ofFr (State.atLeast_fr _ _) (by decide) (Keeps.refl _))))))) (KeepsO.next (Keeps.refl _)))

theorem execThermalGate_fr (t : List Sys2Proof.SensorReading) (s : State) : FrO 399466480 s (execThermalGate t s) := by
  unfold execThermalGate
  exact (FrO.ite (FrO.ite (FrO.next (Fr.step (bootReadings_fr _ _) (by decide) (Fr.refl _ _))) (FrO.ite (FrO.next (Fr.u256 (Fr.step (bootReadings_fr _ _) (by decide) (Fr.refl _ _)) (by decide))) (FrO.next (Fr.u256 (Fr.step (setModel_fr _) (by decide) (Fr.step (bootReadings_fr _ _) (by decide) (Fr.refl _ _))) (by decide))))) (FrO.next (Fr.refl _ _)))

theorem execThermalGate_keeps (t : List Sys2Proof.SensorReading) (s : State) : KeepsO s (execThermalGate t s) := by
  unfold execThermalGate
  exact (KeepsO.ite (KeepsO.ite (KeepsO.next (Keeps.step (bootReadings_keeps _ _) (Keeps.refl _))) (KeepsO.ite (KeepsO.next (Keeps.u256 (Keeps.step (bootReadings_keeps _ _) (Keeps.refl _)))) (KeepsO.next (Keeps.u256 (Keeps.step (setModel_keeps _) (Keeps.step (bootReadings_keeps _ _) (Keeps.refl _))))))) (KeepsO.next (Keeps.refl _)))

theorem execTsvTraining_fr (r : Sys2Proof.TrainRead) (s : State) : FrO 533714932 s (execTsvTraining r s) := by
  unfold execTsvTraining
  exact (FrO.ite (FrO.next (Fr.iteT (Fr.step (checkBudget_fr _) (by decide) (Fr.refl _ _)) (Fr.ite (Fr.forN (fun _ _ => (Fr.step (trainRest_fr _ _) (by decide) (Fr.refl _ _))) _ (Fr.refl _ _)) (Fr.step (trainAll_fr _ _) (by decide) (Fr.refl _ _))))) (FrO.next (Fr.refl _ _)))

theorem execTsvTraining_keeps (r : Sys2Proof.TrainRead) (s : State) : KeepsO s (execTsvTraining r s) := by
  unfold execTsvTraining
  exact (KeepsO.ite (KeepsO.next (Keeps.iteT (Keeps.step (checkBudget_keeps _) (Keeps.refl _)) (Keeps.ite (Keeps.forN (fun _ _ => (Keeps.ofFr (trainRest_fr _ _) (by decide) (Keeps.refl _))) _ (Keeps.refl _)) (Keeps.step (trainAll_keeps _ _) (Keeps.refl _))))) (KeepsO.next (Keeps.refl _)))

theorem execLockstepMismatch_fr (s : State) : FrO 399464432 s (execLockstepMismatch s) := by
  unfold execLockstepMismatch
  exact (FrO.next (Fr.step (lockstep_fr _) (by decide) (Fr.refl _ _)))

theorem execLockstepMismatch_keeps (s : State) : KeepsO s (execLockstepMismatch s) := by
  unfold execLockstepMismatch
  exact (KeepsO.next (Keeps.step (lockstep_keeps _) (Keeps.refl _)))

theorem execSupervisorRestartDone_fr (s : State) : FrO 533723120 s (execSupervisorRestartDone s) := by
  unfold execSupervisorRestartDone
  exact (FrO.next (Fr.step (restartDone_fr _) (by decide) (Fr.refl _ _)))

theorem execSupervisorRestartDone_keeps (s : State) : KeepsO s (execSupervisorRestartDone s) := by
  unfold execSupervisorRestartDone
  exact (KeepsO.next (Keeps.step (restartDone_keeps _) (Keeps.refl _)))

theorem execSupervisorRestartOverrun_fr (s : State) : FrO 399464434 s (execSupervisorRestartOverrun s) := by
  unfold execSupervisorRestartOverrun
  exact (FrO.next (Fr.iteT (Fr.step (fault_fr _ _ _) (by decide) (Fr.step (State.atLeast_fr _ _) (by decide) (Fr.refl _ _))) (Fr.refl _ _)))

theorem execSupervisorRestartOverrun_keeps (s : State) : KeepsO s (execSupervisorRestartOverrun s) := by
  unfold execSupervisorRestartOverrun
  exact (KeepsO.next (Keeps.iteT (Keeps.step (fault_keeps _ _ _) (Keeps.ofFr (State.atLeast_fr _ _) (by decide) (Keeps.refl _))) (Keeps.refl _)))

theorem execEngineWatchdogExpiry_fr (n : Sys2Proof.ChanId) (s : State) : FrO 399464432 s (execEngineWatchdogExpiry n s) := by
  unfold execEngineWatchdogExpiry
  exact (FrO.next (Fr.iteT (Fr.step (fault_fr _ _ _) (by decide) (Fr.refl _ _)) (Fr.refl _ _)))

theorem execEngineWatchdogExpiry_keeps (n : Sys2Proof.ChanId) (s : State) : KeepsO s (execEngineWatchdogExpiry n s) := by
  unfold execEngineWatchdogExpiry
  exact (KeepsO.next (Keeps.iteT (Keeps.step (fault_keeps _ _ _) (Keeps.refl _)) (Keeps.refl _)))

theorem execControllerCheckerFault_fr (n : Sys2Proof.ChanId) (s : State) : FrO 399464432 s (execControllerCheckerFault n s) := by
  unfold execControllerCheckerFault
  exact (FrO.next (Fr.iteT (Fr.step (fault_fr _ _ _) (by decide) (Fr.refl _ _)) (Fr.refl _ _)))

theorem execControllerCheckerFault_keeps (n : Sys2Proof.ChanId) (s : State) : KeepsO s (execControllerCheckerFault n s) := by
  unfold execControllerCheckerFault
  exact (KeepsO.next (Keeps.iteT (Keeps.step (fault_keeps _ _ _) (Keeps.refl _)) (Keeps.refl _)))

theorem execTakeoverOverlapEnd_fr (i : Sys2Proof.PairId) (s : State) : FrO 8388608 s (execTakeoverOverlapEnd i s) := by
  unfold execTakeoverOverlapEnd
  exact (FrO.next (Fr.step (State.updChan_fr _ _ _) (by decide) (Fr.step (State.updChan_fr _ _ _) (by decide) (Fr.refl _ _))))

theorem execTakeoverOverlapEnd_keeps (i : Sys2Proof.PairId) (s : State) : KeepsO s (execTakeoverOverlapEnd i s) :=
  (execTakeoverOverlapEnd_fr _ _).keeps (by decide)

theorem execClockLoss_fr (pllOnly : Bool) (s : State) : FrO 399464432 s (execClockLoss pllOnly s) := by
  unfold execClockLoss
  exact (FrO.ite (FrO.next (Fr.refl _ _)) (FrO.ite (FrO.next (Fr.iteB (Fr.iteB (Fr.refl _ _) (Fr.u4096 (Fr.refl _ _) (by decide))) (Fr.u4096 (Fr.refl _ _) (by decide)))) (FrO.next (Fr.step (checkMinimum_fr _) (by decide) (Fr.step (fault_fr _ _ _) (by decide) (Fr.u4096 (Fr.iteB (Fr.refl _ _) (Fr.u4096 (Fr.refl _ _) (by decide))) (by decide)))))))

theorem execClockLoss_keeps (pllOnly : Bool) (s : State) : KeepsO s (execClockLoss pllOnly s) := by
  unfold execClockLoss
  exact (KeepsO.ite (KeepsO.next (Keeps.refl _)) (KeepsO.ite (KeepsO.next (Keeps.iteB (Keeps.iteB (Keeps.refl _) (Keeps.u4096 (Keeps.refl _))) (Keeps.u4096 (Keeps.refl _)))) (KeepsO.next (Keeps.step (checkMinimum_keeps _) (Keeps.step (fault_keeps _ _ _) (Keeps.u4096 (Keeps.iteB (Keeps.refl _) (Keeps.u4096 (Keeps.refl _)))))))))

theorem execRefclkWaitTimeout_fr (s : State) : FrO 399464434 s (execRefclkWaitTimeout s) := by
  unfold execRefclkWaitTimeout
  exact (by (try dsimp only); split <;> (try dsimp only); exact (FrO.next (Fr.refl _ _)); exact (FrO.ite (FrO.next (Fr.refl _ _)) (FrO.next (Fr.step (raiseFault_fr _ _ _ _ _) (by decide) (Fr.u4096 (Fr.step (State.atLeast_fr _ _) (by decide) (Fr.refl _ _)) (by decide))))))

theorem execRefclkWaitTimeout_keeps (s : State) : KeepsO s (execRefclkWaitTimeout s) := by
  unfold execRefclkWaitTimeout
  exact (by (try dsimp only); split <;> (try dsimp only); exact (KeepsO.next (Keeps.refl _)); exact (KeepsO.ite (KeepsO.next (Keeps.refl _)) (KeepsO.next (Keeps.step (raiseFault_keeps _ _ _ _ _) (Keeps.u4096 (Keeps.ofFr (State.atLeast_fr _ _) (by decide) (Keeps.refl _)))))))

theorem execPortPllLockLoss_fr (p : Sys2Proof.PortId) (s : State) : FrO 399464432 s (execPortPllLockLoss p s) := by
  unfold execPortPllLockLoss
  exact (FrO.ite (FrO.next (Fr.refl _ _)) (FrO.next (Fr.step (checkMinimum_fr _) (by decide) (by (try dsimp only); split <;> (try dsimp only); exact (Fr.iteT (Fr.step (startRetrain_fr _ _ _ _ _) (by decide) (Fr.refl _ _)) (Fr.step (fault_fr _ _ _) (by decide) (Fr.step (State.updPort_fr _ _ _) (by decide) (Fr.step (State.updPort_fr _ _ _) (by decide) (Fr.refl _ _))))); exact (Fr.step (attemptFailed_fr _ _) (by decide) (Fr.step (State.updPort_fr _ _ _) (by decide) (Fr.refl _ _))); exact (Fr.step (attemptFailed_fr _ _) (by decide) (Fr.step (State.updPort_fr _ _ _) (by decide) (Fr.refl _ _))); exact (Fr.step (attemptFailed_fr _ _) (by decide) (Fr.step (State.updPort_fr _ _ _) (by decide) (Fr.refl _ _))); exact (Fr.step (attemptFailed_fr _ _) (by decide) (Fr.step (State.updPort_fr _ _ _) (by decide) (Fr.refl _ _))); exact (Fr.step (State.updPort_fr _ _ _) (by decide) (Fr.refl _ _))))))

theorem execPortPllLockLoss_keeps (p : Sys2Proof.PortId) (s : State) : KeepsO s (execPortPllLockLoss p s) := by
  unfold execPortPllLockLoss
  exact (KeepsO.ite (KeepsO.next (Keeps.refl _)) (KeepsO.next (Keeps.step (checkMinimum_keeps _) (by (try dsimp only); split <;> (try dsimp only); exact (Keeps.iteT (Keeps.ofFr (startRetrain_fr _ _ _ _ _) (by decide) (Keeps.refl _)) (Keeps.step (fault_keeps _ _ _) (Keeps.ofFr (State.updPort_fr _ _ _) (by decide) (Keeps.ofFr (State.updPort_fr _ _ _) (by decide) (Keeps.refl _))))); exact (Keeps.step (attemptFailed_keeps _ _) (Keeps.ofFr (State.updPort_fr _ _ _) (by decide) (Keeps.refl _))); exact (Keeps.step (attemptFailed_keeps _ _) (Keeps.ofFr (State.updPort_fr _ _ _) (by decide) (Keeps.refl _))); exact (Keeps.step (attemptFailed_keeps _ _) (Keeps.ofFr (State.updPort_fr _ _ _) (by decide) (Keeps.refl _))); exact (Keeps.step (attemptFailed_keeps _ _) (Keeps.ofFr (State.updPort_fr _ _ _) (by decide) (Keeps.refl _))); exact (Keeps.ofFr (State.updPort_fr _ _ _) (by decide) (Keeps.refl _))))))

theorem execReceiverDetectPulse_fr (p : Sys2Proof.PortId) (term : BitVec 4) (s : State) : FrO 4194304 s (execReceiverDetectPulse p term s) := by
  unfold execReceiverDetectPulse
  exact (FrO.ite (FrO.next (Fr.step (State.updPort_fr _ _ _) (by decide) (Fr.refl _ _))) (FrO.ite (FrO.ite (FrO.next (Fr.iteB (Fr.step (State.updPort_fr _ _ _) (by decide) (Fr.refl _ _)) (Fr.step (partnerLift_fr _ _) (by decide) (Fr.refl _ _)))) (FrO.next (Fr.step (State.updPort_fr _ _ _) (by decide) (Fr.refl _ _)))) (FrO.next (Fr.refl _ _))))

theorem execReceiverDetectPulse_keeps (p : Sys2Proof.PortId) (term : BitVec 4) (s : State) : KeepsO s (execReceiverDetectPulse p term s) :=
  (execReceiverDetectPulse_fr _ _ _).keeps (by decide)

theorem execTrainComplete_fr (p : Sys2Proof.PortId) (s : State) : FrO 4194304 s (execTrainComplete p s) := by
  unfold execTrainComplete
  exact (FrO.ite (FrO.next (Fr.step (State.updPort_fr _ _ _) (by decide) (Fr.refl _ _))) (FrO.next (Fr.refl _ _)))

theorem execTrainComplete_keeps (p : Sys2Proof.PortId) (s : State) : KeepsO s (execTrainComplete p s) :=
  (execTrainComplete_fr _ _).keeps (by decide)

theorem execTrainTimeout_fr (p : Sys2Proof.PortId) (trained : BitVec 4) (s : State) : FrO 399464434 s (execTrainTimeout p trained s) := by
  unfold execTrainTimeout
  exact (FrO.ite (FrO.ite (FrO.next (Fr.step (attemptFailed_fr _ _) (by decide) (Fr.step (State.atLeast_fr _ _) (by decide) (Fr.refl _ _)))) (FrO.next (Fr.step (State.updPort_fr _ _ _) (by decide) (Fr.step (State.atLeast_fr _ _) (by decide) (Fr.refl _ _))))) (FrO.next (Fr.refl _ _)))

theorem execTrainTimeout_keeps (p : Sys2Proof.PortId) (trained : BitVec 4) (s : State) : KeepsO s (execTrainTimeout p trained s) := by
  unfold execTrainTimeout
  exact (KeepsO.ite (KeepsO.ite (KeepsO.next (Keeps.step (attemptFailed_keeps _ _) (Keeps.ofFr (State.atLeast_fr _ _) (by decide) (Keeps.refl _)))) (KeepsO.next (Keeps.ofFr (State.updPort_fr _ _ _) (by decide) (Keeps.ofFr (State.atLeast_fr _ _) (by decide) (Keeps.refl _))))) (KeepsO.next (Keeps.refl _)))

theorem execBitlockAcquired_fr (p : Sys2Proof.PortId) (locked : BitVec 4) (polInv : BitVec 4) (s : State) : FrO 4194304 s (execBitlockAcquired p locked polInv s) := by
  unfold execBitlockAcquired
  exact (FrO.ite (FrO.next (Fr.forN (fun _ _ => (Fr.iteT (Fr.step (State.updPort_fr _ _ _) (by decide) (Fr.refl _ _)) (Fr.refl _ _))) _ (Fr.step (State.updPort_fr _ _ _) (by decide) (Fr.refl _ _)))) (FrO.next (Fr.refl _ _)))

theorem execBitlockAcquired_keeps (p : Sys2Proof.PortId) (locked : BitVec 4) (polInv : BitVec 4) (s : State) : KeepsO s (execBitlockAcquired p locked polInv s) :=
  (execBitlockAcquired_fr _ _ _ _).keeps (by decide)

theorem execBitlockTimeout_fr (p : Sys2Proof.PortId) (s : State) : FrO 399464434 s (execBitlockTimeout p s) := by
  unfold execBitlockTimeout
  exact (FrO.ite (FrO.next (Fr.step (attemptFailed_fr _ _) (by decide) (Fr.step (State.atLeast_fr _ _) (by decide) (Fr.refl _ _)))) (FrO.next (Fr.refl _ _)))

theorem execBitlockTimeout_keeps (p : Sys2Proof.PortId) (s : State) : KeepsO s (execBitlockTimeout p s) := by
  unfold execBitlockTimeout
  exact (KeepsO.ite (KeepsO.next (Keeps.step (attemptFailed_keeps _ _) (Keeps.ofFr (State.atLeast_fr _ _) (by decide) (Keeps.refl _)))) (KeepsO.next (Keeps.refl _)))

theorem execSymlockComplete_fr (p : Sys2Proof.PortId) (found : List Sys2Proof.LaneFound) (s : State) : FrO 399464432 s (execSymlockComplete p found s) := by
  unfold execSymlockComplete
  exact (FrO.ite (FrO.next (Fr.step (endSymlock_fr _ _ _) (by decide) (Fr.refl _ _))) (FrO.next (Fr.refl _ _)))

theorem execSymlockComplete_keeps (p : Sys2Proof.PortId) (found : List Sys2Proof.LaneFound) (s : State) : KeepsO s (execSymlockComplete p found s) := by
  unfold execSymlockComplete
  exact (KeepsO.ite (KeepsO.next (Keeps.step (endSymlock_keeps _ _ _) (Keeps.refl _))) (KeepsO.next (Keeps.refl _)))

theorem execSymlockTimeout_fr (p : Sys2Proof.PortId) (found : List Sys2Proof.LaneFound) (s : State) : FrO 399464434 s (execSymlockTimeout p found s) := by
  unfold execSymlockTimeout
  exact (FrO.ite (FrO.next (Fr.step (endSymlock_fr _ _ _) (by decide) (Fr.step (State.atLeast_fr _ _) (by decide) (Fr.refl _ _)))) (FrO.next (Fr.refl _ _)))

theorem execSymlockTimeout_keeps (p : Sys2Proof.PortId) (found : List Sys2Proof.LaneFound) (s : State) : KeepsO s (execSymlockTimeout p found s) := by
  unfold execSymlockTimeout
  exact (KeepsO.ite (KeepsO.next (Keeps.step (endSymlock_keeps _ _ _) (Keeps.ofFr (State.atLeast_fr _ _) (by decide) (Keeps.refl _)))) (KeepsO.next (Keeps.refl _)))

theorem execCapxMessage_fr (p : Sys2Proof.PortId) (msg : BitVec 128) (s : State) : FrO 533714928 s (execCapxMessage p msg s) := by
  unfold execCapxMessage
  exact (FrO.ite (FrO.ite (FrO.next (Fr.step (sendCap_fr _ _ _) (by decide) (Fr.step (State.updPort_fr _ _ _) (by decide) (Fr.refl _ _)))) (FrO.ite (FrO.next (Fr.step (attemptFailed_fr _ _) (by decide) (Fr.step (sendCap_fr _ _ _) (by decide) (Fr.step (State.updPort_fr _ _ _) (by decide) (Fr.refl _ _))))) (FrO.ite (FrO.next (Fr.step (setLink_fr _ _ _) (by decide) (Fr.step (State.updPort_fr _ _ _) (by decide) (Fr.step (sendCap_fr _ _ _) (by decide) (Fr.step (State.updPort_fr _ _ _) (by decide) (Fr.refl _ _)))))) (by (try dsimp only); split <;> (try dsimp only); exact (FrO.next (Fr.step (goActive_fr _ _ _ _ _ _) (by decide) (Fr.step (sendCap_fr _ _ _) (by decide) (Fr.step (State.updPort_fr _ _ _) (by decide) (Fr.refl _ _))))); exact (FrO.next (Fr.step (attemptFailed_fr _ _) (by decide) (Fr.step (sendCap_fr _ _ _) (by decide) (Fr.step (State.updPort_fr _ _ _) (by decide) (Fr.refl _ _))))))))) (FrO.next (Fr.refl _ _)))

theorem execCapxMessage_keeps (p : Sys2Proof.PortId) (msg : BitVec 128) (s : State) : KeepsO s (execCapxMessage p msg s) := by
  unfold execCapxMessage
  exact (KeepsO.ite (KeepsO.ite (KeepsO.next (Keeps.ofFr (sendCap_fr _ _ _) (by decide) (Keeps.ofFr (State.updPort_fr _ _ _) (by decide) (Keeps.refl _)))) (KeepsO.ite (KeepsO.next (Keeps.step (attemptFailed_keeps _ _) (Keeps.ofFr (sendCap_fr _ _ _) (by decide) (Keeps.ofFr (State.updPort_fr _ _ _) (by decide) (Keeps.refl _))))) (KeepsO.ite (KeepsO.next (Keeps.ofFr (setLink_fr _ _ _) (by decide) (Keeps.ofFr (State.updPort_fr _ _ _) (by decide) (Keeps.ofFr (sendCap_fr _ _ _) (by decide) (Keeps.ofFr (State.updPort_fr _ _ _) (by decide) (Keeps.refl _)))))) (by (try dsimp only); split <;> (try dsimp only); exact (KeepsO.next (Keeps.step (goActive_keeps _ _ _ _ _ _) (Keeps.ofFr (sendCap_fr _ _ _) (by decide) (Keeps.ofFr (State.updPort_fr _ _ _) (by decide) (Keeps.refl _))))); exact (KeepsO.next (Keeps.step (attemptFailed_keeps _ _) (Keeps.ofFr (sendCap_fr _ _ _) (by decide) (Keeps.ofFr (State.updPort_fr _ _ _) (by decide) (Keeps.refl _))))))))) (KeepsO.next (Keeps.refl _)))

theorem execCapxTimeout_fr (p : Sys2Proof.PortId) (s : State) : FrO 399464434 s (execCapxTimeout p s) := by
  unfold execCapxTimeout
  exact (FrO.ite (FrO.next (Fr.step (attemptFailed_fr _ _) (by decide) (Fr.step (State.atLeast_fr _ _) (by decide) (Fr.refl _ _)))) (FrO.next (Fr.refl _ _)))

theorem execCapxTimeout_keeps (p : Sys2Proof.PortId) (s : State) : KeepsO s (execCapxTimeout p s) := by
  unfold execCapxTimeout
  exact (KeepsO.ite (KeepsO.next (Keeps.step (attemptFailed_keeps _ _) (Keeps.ofFr (State.atLeast_fr _ _) (by decide) (Keeps.refl _)))) (KeepsO.next (Keeps.refl _)))

theorem execBackoffEnd_fr (p : Sys2Proof.PortId) (s : State) : FrO 4194306 s (execBackoffEnd p s) := by
  unfold execBackoffEnd
  exact (FrO.ite (FrO.next (Fr.step (State.updPort_fr _ _ _) (by decide) (Fr.step (State.atLeast_fr _ _) (by decide) (Fr.refl _ _)))) (FrO.next (Fr.refl _ _)))

theorem execBackoffEnd_keeps (p : Sys2Proof.PortId) (s : State) : KeepsO s (execBackoffEnd p s) :=
  (execBackoffEnd_fr _ _).keeps (by decide)

theorem execLaneFailure_fr (p : Sys2Proof.PortId) (lanes : BitVec 4) (s : State) : FrO 399464432 s (execLaneFailure p lanes s) := by
  unfold execLaneFailure
  exact (FrO.next (Fr.step (failLanes_fr _ _ _) (by decide) (Fr.refl _ _)))

theorem execLaneFailure_keeps (p : Sys2Proof.PortId) (lanes : BitVec 4) (s : State) : KeepsO s (execLaneFailure p lanes s) := by
  unfold execLaneFailure
  exact (KeepsO.next (Keeps.step (failLanes_keeps _ _ _) (Keeps.refl _)))

theorem execWidthChangeTimeout_fr (p : Sys2Proof.PortId) (s : State) : FrO 54596226 s (execWidthChangeTimeout p s) := by
  unfold execWidthChangeTimeout
  exact (FrO.ite (FrO.next (Fr.step (startRetrain_fr _ _ _ _ _) (by decide) (Fr.step (State.atLeast_fr _ _) (by decide) (Fr.refl _ _)))) (FrO.next (Fr.refl _ _)))

theorem execWidthChangeTimeout_keeps (p : Sys2Proof.PortId) (s : State) : KeepsO s (execWidthChangeTimeout p s) :=
  (execWidthChangeTimeout_fr _ _).keeps (by decide)

theorem execNearEndLoopResult_fr (p : Sys2Proof.PortId) (result : Sys2Proof.LoopResult) (s : State) : FrO 399464432 s (execNearEndLoopResult p result s) := by
  unfold execNearEndLoopResult
  exact (FrO.ite (FrO.next (Fr.refl _ _)) (FrO.next (Fr.iteB (Fr.step (noteHeld_fr _ _) (by decide) (Fr.step (State.updPort_fr _ _ _) (by decide) (Fr.step (countPrbs_fr _ _ _ _) (by decide) (Fr.refl _ _)))) (Fr.step (raiseFault_fr _ _ _ _ _) (by decide) (Fr.refl _ _)))))

theorem execNearEndLoopResult_keeps (p : Sys2Proof.PortId) (result : Sys2Proof.LoopResult) (s : State) : KeepsO s (execNearEndLoopResult p result s) := by
  unfold execNearEndLoopResult
  exact (KeepsO.ite (KeepsO.next (Keeps.refl _)) (KeepsO.next (Keeps.iteB (Keeps.ofFr (noteHeld_fr _ _) (by decide) (Keeps.ofFr (State.updPort_fr _ _ _) (by decide) (Keeps.ofFr (countPrbs_fr _ _ _ _) (by decide) (Keeps.refl _)))) (Keeps.step (raiseFault_keeps _ _ _ _ _) (Keeps.refl _)))))

theorem execPartnerRetrain_fr (p : Sys2Proof.PortId) (s : State) : FrO 54596224 s (execPartnerRetrain p s) := by
  unfold execPartnerRetrain
  exact (FrO.ite (FrO.next (Fr.step (startRetrain_fr _ _ _ _ _) (by decide) (Fr.step (partnerLift_fr _ _) (by decide) (Fr.refl _ _)))) (FrO.next (Fr.refl _ _)))

theorem execPartnerRetrain_keeps (p : Sys2Proof.PortId) (s : State) : KeepsO s (execPartnerRetrain p s) :=
  (execPartnerRetrain_fr _ _).keeps (by decide)

theorem execHushMarker_fr (p : Sys2Proof.PortId) (s : State) : FrO 4194304 s (execHushMarker p s) := by
  unfold execHushMarker
  exact (FrO.ite (FrO.next (Fr.step (State.updPort_fr _ _ _) (by decide) (Fr.refl _ _))) (FrO.next (Fr.refl _ _)))

theorem execHushMarker_keeps (p : Sys2Proof.PortId) (s : State) : KeepsO s (execHushMarker p s) :=
  (execHushMarker_fr _ _).keeps (by decide)

theorem execFarEndLoopEnd_fr (p : Sys2Proof.PortId) (s : State) : FrO 4194304 s (execFarEndLoopEnd p s) := by
  unfold execFarEndLoopEnd
  exact (FrO.ite (FrO.next (Fr.step (State.updPort_fr _ _ _) (by decide) (Fr.refl _ _))) (FrO.next (Fr.refl _ _)))

theorem execFarEndLoopEnd_keeps (p : Sys2Proof.PortId) (s : State) : KeepsO s (execFarEndLoopEnd p s) :=
  (execFarEndLoopEnd_fr _ _).keeps (by decide)

theorem execFlitReceived_fr (p : Sys2Proof.PortId) (rx : Sys2Proof.RxCodeword) (s : State) : FrO 533682160 s (execFlitReceived p rx s) := by
  unfold execFlitReceived
  exact (FrO.ite (FrO.next (Fr.refl _ _)) (by (try dsimp only); split <;> (try dsimp only); exact (FrO.next (Fr.iteT (Fr.step (lostFlit_fr _ _) (by decide) (Fr.refl _ _)) (Fr.step (faultMany_fr _ _ _ _) (by decide) (Fr.step (State.updPort_fr _ _ _) (by decide) (Fr.step (State.updPort_fr _ _ _) (by decide) (Fr.refl _ _)))))); exact (FrO.next (Fr.step (failNoisy_fr _ _) (by decide) (Fr.ite (Fr.step (takeFlit_fr _ _ _) (by decide) (Fr.step (countCorrected_fr _ _ _) (by decide) (Fr.step (State.updPort_fr _ _ _) (by decide) (Fr.refl _ _)))) (Fr.step (lostFlit_fr _ _) (by decide) (Fr.step (fault_fr _ _ _) (by decide) (Fr.step (countCorrected_fr _ _ _) (by decide) (Fr.step (State.updPort_fr _ _ _) (by decide) (Fr.refl _ _)))))))); exact (FrO.next (Fr.iteT (Fr.step (takeMarker_fr _ _ _) (by decide) (Fr.refl _ _)) (Fr.step (State.updPort_fr _ _ _) (by decide) (Fr.refl _ _)))); exact (FrO.next (Fr.step (failNoisy_fr _ _) (by decide) (Fr.step (faultMany_fr _ _ _ _) (by decide) (Fr.forL (fun _ _ => (Fr.step (takeWord_fr _ _ _ _) (by decide) (Fr.refl _ _))) _ (Fr.step (State.updPort_fr _ _ _) (by decide) (Fr.step (State.updPort_fr _ _ _) (by decide) (Fr.refl _ _)))))))))

theorem execFlitReceived_keeps (p : Sys2Proof.PortId) (rx : Sys2Proof.RxCodeword) (s : State) : KeepsO s (execFlitReceived p rx s) := by
  unfold execFlitReceived
  exact (KeepsO.ite (KeepsO.next (Keeps.refl _)) (by (try dsimp only); split <;> (try dsimp only); exact (KeepsO.next (Keeps.iteT (Keeps.ofFr (lostFlit_fr _ _) (by decide) (Keeps.refl _)) (Keeps.step (faultMany_keeps _ _ _ _) (Keeps.ofFr (State.updPort_fr _ _ _) (by decide) (Keeps.ofFr (State.updPort_fr _ _ _) (by decide) (Keeps.refl _)))))); exact (KeepsO.next (Keeps.step (failNoisy_keeps _ _) (Keeps.ite (Keeps.step (takeFlit_keeps _ _ _) (Keeps.ofFr (countCorrected_fr _ _ _) (by decide) (Keeps.ofFr (State.updPort_fr _ _ _) (by decide) (Keeps.refl _)))) (Keeps.ofFr (lostFlit_fr _ _) (by decide) (Keeps.step (fault_keeps _ _ _) (Keeps.ofFr (countCorrected_fr _ _ _) (by decide) (Keeps.ofFr (State.updPort_fr _ _ _) (by decide) (Keeps.refl _)))))))); exact (KeepsO.next (Keeps.iteT (Keeps.step (takeMarker_keeps _ _ _) (Keeps.refl _)) (Keeps.ofFr (State.updPort_fr _ _ _) (by decide) (Keeps.refl _)))); exact (KeepsO.next (Keeps.step (failNoisy_keeps _ _) (Keeps.step (faultMany_keeps _ _ _ _) (Keeps.forL (fun _ _ => (Keeps.step (takeWord_keeps _ _ _ _) (Keeps.refl _))) _ (Keeps.ofFr (State.updPort_fr _ _ _) (by decide) (Keeps.ofFr (State.updPort_fr _ _ _) (by decide) (Keeps.refl _)))))))))

theorem execRetryReqResend_fr (p : Sys2Proof.PortId) (s : State) : FrO 4194306 s (execRetryReqResend p s) := by
  unfold execRetryReqResend
  exact (FrO.ite (FrO.next (Fr.step (sendLink_fr _ _ _) (by decide) (Fr.step (State.updPort_fr _ _ _) (by decide) (Fr.step (State.atLeast_fr _ _) (by decide) (Fr.refl _ _))))) (FrO.next (Fr.refl _ _)))

theorem execRetryReqResend_keeps (p : Sys2Proof.PortId) (s : State) : KeepsO s (execRetryReqResend p s) :=
  (execRetryReqResend_fr _ _).keeps (by decide)

theorem execRd64_fr (p : Sys2Proof.PortId) (h : Sys2Proof.ReqHeader) (s : State) : FrO 533682160 s (execRd64 p h s) := by
  unfold execRd64
  exact (FrO.next (Fr.step (receiveRequest_fr _ _ _ _) (by decide) (Fr.refl _ _)))

theorem execRd64_keeps (p : Sys2Proof.PortId) (h : Sys2Proof.ReqHeader) (s : State) : KeepsO s (execRd64 p h s) := by
  unfold execRd64
  exact (KeepsO.next (Keeps.step (receiveRequest_keeps _ _ _ _) (Keeps.refl _)))

theorem execRd128_fr (p : Sys2Proof.PortId) (h : Sys2Proof.ReqHeader) (s : State) : FrO 533682160 s (execRd128 p h s) := by
  unfold execRd128
  exact (FrO.next (Fr.step (receiveRequest_fr _ _ _ _) (by decide) (Fr.refl _ _)))

theorem execRd128_keeps (p : Sys2Proof.PortId) (h : Sys2Proof.ReqHeader) (s : State) : KeepsO s (execRd128 p h s) := by
  unfold execRd128
  exact (KeepsO.next (Keeps.step (receiveRequest_keeps _ _ _ _) (Keeps.refl _)))

theorem execWr64_fr (p : Sys2Proof.PortId) (h : Sys2Proof.ReqHeader) (s : State) : FrO 533682160 s (execWr64 p h s) := by
  unfold execWr64
  exact (FrO.next (Fr.step (receiveRequest_fr _ _ _ _) (by decide) (Fr.refl _ _)))

theorem execWr64_keeps (p : Sys2Proof.PortId) (h : Sys2Proof.ReqHeader) (s : State) : KeepsO s (execWr64 p h s) := by
  unfold execWr64
  exact (KeepsO.next (Keeps.step (receiveRequest_keeps _ _ _ _) (Keeps.refl _)))

theorem execWrm64_fr (p : Sys2Proof.PortId) (h : Sys2Proof.ReqHeader) (s : State) : FrO 533682160 s (execWrm64 p h s) := by
  unfold execWrm64
  exact (FrO.next (Fr.step (receiveRequest_fr _ _ _ _) (by decide) (Fr.refl _ _)))

theorem execWrm64_keeps (p : Sys2Proof.PortId) (h : Sys2Proof.ReqHeader) (s : State) : KeepsO s (execWrm64 p h s) := by
  unfold execWrm64
  exact (KeepsO.next (Keeps.step (receiveRequest_keeps _ _ _ _) (Keeps.refl _)))

theorem execFill_fr (p : Sys2Proof.PortId) (h : Sys2Proof.ReqHeader) (s : State) : FrO 533682160 s (execFill p h s) := by
  unfold execFill
  exact (FrO.next (Fr.step (receiveRequest_fr _ _ _ _) (by decide) (Fr.refl _ _)))

theorem execFill_keeps (p : Sys2Proof.PortId) (h : Sys2Proof.ReqHeader) (s : State) : KeepsO s (execFill p h s) := by
  unfold execFill
  exact (KeepsO.next (Keeps.step (receiveRequest_keeps _ _ _ _) (Keeps.refl _)))

theorem execWriteData_fr (p : Sys2Proof.PortId) (d : Sys2Proof.DataSlot) (s : State) : FrO 533682160 s (execWriteData p d s) := by
  unfold execWriteData
  exact (FrO.ite (FrO.next (Fr.refl _ _)) (FrO.ite (FrO.next (Fr.step (violation_fr _ _ _) (by decide) (Fr.iteT (Fr.step (State.updPort_fr _ _ _) (by decide) (Fr.refl _ _)) (Fr.refl _ _)))) (FrO.ite (FrO.next (Fr.step (State.updPort_fr _ _ _) (by decide) (Fr.iteT (Fr.step (State.updPort_fr _ _ _) (by decide) (Fr.refl _ _)) (Fr.refl _ _)))) (by (try dsimp only); split <;> (try dsimp only); exact (FrO.next (Fr.step (violation_fr _ _ _) (by decide) (Fr.iteT (Fr.step (State.updPort_fr _ _ _) (by decide) (Fr.refl _ _)) (Fr.refl _ _)))); exact (FrO.ite (FrO.next (Fr.step (State.updPort_fr _ _ _) (by decide) (Fr.iteT (Fr.step (State.updPort_fr _ _ _) (by decide) (Fr.refl _ _)) (Fr.refl _ _)))) (FrO.ite (FrO.next (Fr.step (State.updPort_fr _ _ _) (by decide) (Fr.step (State.updPort_fr _ _ _) (by decide) (Fr.iteT (Fr.step (State.updPort_fr _ _ _) (by decide) (Fr.refl _ _)) (Fr.refl _ _))))) (FrO.next (Fr.step (toGauntlet_fr _ _ _) (by decide) (Fr.step (State.updPort_fr _ _ _) (by decide) (Fr.iteT (Fr.step (State.updPort_fr _ _ _) (by decide) (Fr.refl _ _)) (Fr.refl _ _)))))))))))

theorem execWriteData_keeps (p : Sys2Proof.PortId) (d : Sys2Proof.DataSlot) (s : State) : KeepsO s (execWriteData p d s) := by
  unfold execWriteData
  exact (KeepsO.ite (KeepsO.next (Keeps.refl _)) (KeepsO.ite (KeepsO.next (Keeps.step (violation_keeps _ _ _) (Keeps.iteT (Keeps.ofFr (State.updPort_fr _ _ _) (by decide) (Keeps.refl _)) (Keeps.refl _)))) (KeepsO.ite (KeepsO.next (Keeps.ofFr (State.updPort_fr _ _ _) (by decide) (Keeps.iteT (Keeps.ofFr (State.updPort_fr _ _ _) (by decide) (Keeps.refl _)) (Keeps.refl _)))) (by (try dsimp only); split <;> (try dsimp only); exact (KeepsO.next (Keeps.step (violation_keeps _ _ _) (Keeps.iteT (Keeps.ofFr (State.updPort_fr _ _ _) (by decide) (Keeps.refl _)) (Keeps.refl _)))); exact (KeepsO.ite (KeepsO.next (Keeps.ofFr (State.updPort_fr _ _ _) (by decide) (Keeps.iteT (Keeps.ofFr (State.updPort_fr _ _ _) (by decide) (Keeps.refl _)) (Keeps.refl _)))) (KeepsO.ite (KeepsO.next (Keeps.ofFr (State.updPort_fr _ _ _) (by decide) (Keeps.ofFr (State.updPort_fr _ _ _) (by decide) (Keeps.iteT (Keeps.ofFr (State.updPort_fr _ _ _) (by decide) (Keeps.refl _)) (Keeps.refl _))))) (KeepsO.next (Keeps.ofFr (toGauntlet_fr _ _ _) (by decide) (Keeps.ofFr (State.updPort_fr _ _ _) (by decide) (Keeps.iteT (Keeps.ofFr (State.updPort_fr _ _ _) (by decide) (Keeps.refl _)) (Keeps.refl _)))))))))))

theorem execMread_fr (p : Sys2Proof.PortId) (h : Sys2Proof.ReqHeader) (s : State) : FrO 399497200 s (execMread p h s) := by
  unfold execMread
  exact (FrO.next (Fr.step (receiveMgmt_fr _ _ _ _ _) (by decide) (Fr.refl _ _)))

theorem execMread_keeps (p : Sys2Proof.PortId) (h : Sys2Proof.ReqHeader) (s : State) : KeepsO s (execMread p h s) := by
  unfold execMread
  exact (KeepsO.next (Keeps.step (receiveMgmt_keeps _ _ _ _ _) (Keeps.refl _)))

theorem execMattest_fr (p : Sys2Proof.PortId) (h : Sys2Proof.ReqHeader) (nonce : BitVec 256) (s : State) : FrO 399497200 s (execMattest p h nonce s) := by
  unfold execMattest
  exact (FrO.next (Fr.step (receiveMgmt_fr _ _ _ _ _) (by decide) (Fr.refl _ _)))

theorem execMattest_keeps (p : Sys2Proof.PortId) (h : Sys2Proof.ReqHeader) (nonce : BitVec 256) (s : State) : KeepsO s (execMattest p h nonce s) := by
  unfold execMattest
  exact (KeepsO.next (Keeps.step (receiveMgmt_keeps _ _ _ _ _) (Keeps.refl _)))

theorem execInit_fr (p : Sys2Proof.PortId) (g0 : BitVec 16) (g1 : BitVec 16) (g2 : BitVec 16) (_tags : BitVec 16) (s : State) : FrO 399464432 s (execInit p g0 g1 g2 _tags s) := by
  unfold execInit
  exact (FrO.ite (FrO.ite (FrO.next (Fr.step (noteHeld_fr _ _) (by decide) (Fr.step (State.updPort_fr _ _ _) (by decide) (Fr.refl _ _)))) (FrO.next (Fr.step (attemptFailed_fr _ _) (by decide) (Fr.refl _ _)))) (FrO.next (Fr.refl _ _)))

theorem execInit_keeps (p : Sys2Proof.PortId) (g0 : BitVec 16) (g1 : BitVec 16) (g2 : BitVec 16) (_tags : BitVec 16) (s : State) : KeepsO s (execInit p g0 g1 g2 _tags s) := by
  unfold execInit
  exact (KeepsO.ite (KeepsO.ite (KeepsO.next (Keeps.ofFr (noteHeld_fr _ _) (by decide) (Keeps.ofFr (State.updPort_fr _ _ _) (by decide) (Keeps.refl _)))) (KeepsO.next (Keeps.step (attemptFailed_keeps _ _) (Keeps.refl _)))) (KeepsO.next (Keeps.refl _)))

theorem execInitResend_fr (p : Sys2Proof.PortId) (s : State) : FrO 4194306 s (execInitResend p s) := by
  unfold execInitResend
  exact (FrO.ite (FrO.next (Fr.step (sendLink_fr _ _ _) (by decide) (Fr.step (State.updPort_fr _ _ _) (by decide) (Fr.step (State.atLeast_fr _ _) (by decide) (Fr.refl _ _))))) (FrO.next (Fr.refl _ _)))

theorem execInitResend_keeps (p : Sys2Proof.PortId) (s : State) : KeepsO s (execInitResend p s) :=
  (execInitResend_fr _ _).keeps (by decide)

theorem execInitTimeout_fr (p : Sys2Proof.PortId) (s : State) : FrO 399464434 s (execInitTimeout p s) := by
  unfold execInitTimeout
  exact (FrO.ite (FrO.next (Fr.step (attemptFailed_fr _ _) (by decide) (Fr.step (State.atLeast_fr _ _) (by decide) (Fr.refl _ _)))) (FrO.next (Fr.refl _ _)))

theorem execInitTimeout_keeps (p : Sys2Proof.PortId) (s : State) : KeepsO s (execInitTimeout p s) := by
  unfold execInitTimeout
  exact (KeepsO.ite (KeepsO.next (Keeps.step (attemptFailed_keeps _ _) (Keeps.ofFr (State.atLeast_fr _ _) (by decide) (Keeps.refl _)))) (KeepsO.next (Keeps.refl _)))

theorem execRetryReq_fr (p : Sys2Proof.PortId) (next : BitVec 12) (ack : BitVec 12) (s : State) : FrO 533682160 s (execRetryReq p next ack s) := by
  unfold execRetryReq
  exact (FrO.ite (FrO.next (Fr.refl _ _)) (FrO.ite (FrO.next (Fr.step (violation_fr _ _ _) (by decide) (Fr.step (State.updPort_fr _ _ _) (by decide) (Fr.step (processAck_fr _ _ _) (by decide) (Fr.refl _ _))))) (FrO.next (Fr.step (replayFrom_fr _ _ _) (by decide) (Fr.step (State.updPort_fr _ _ _) (by decide) (Fr.step (processAck_fr _ _ _) (by decide) (Fr.refl _ _)))))))

theorem execRetryReq_keeps (p : Sys2Proof.PortId) (next : BitVec 12) (ack : BitVec 12) (s : State) : KeepsO s (execRetryReq p next ack s) := by
  unfold execRetryReq
  exact (KeepsO.ite (KeepsO.next (Keeps.refl _)) (KeepsO.ite (KeepsO.next (Keeps.step (violation_keeps _ _ _) (Keeps.ofFr (State.updPort_fr _ _ _) (by decide) (Keeps.step (processAck_keeps _ _ _) (Keeps.refl _))))) (KeepsO.next (Keeps.ofFr (replayFrom_fr _ _ _) (by decide) (Keeps.ofFr (State.updPort_fr _ _ _) (by decide) (Keeps.step (processAck_keeps _ _ _) (Keeps.refl _)))))))

theorem execReplayTimeout_fr (p : Sys2Proof.PortId) (s : State) : FrO 533682162 s (execReplayTimeout p s) := by
  unfold execReplayTimeout
  exact (by (try dsimp only); split <;> (try dsimp only); exact (FrO.ite (FrO.ite (FrO.next (Fr.iteT (Fr.step (startRetrain_fr _ _ _ _ _) (by decide) (Fr.refl _ _)) (Fr.step (fault_fr _ _ _) (by decide) (Fr.step (State.updPort_fr _ _ _) (by decide) (Fr.step (State.atLeast_fr _ _) (by decide) (Fr.refl _ _)))))) (FrO.next (Fr.step (replayFrom_fr _ _ _) (by decide) (Fr.step (State.updPort_fr _ _ _) (by decide) (Fr.step (State.atLeast_fr _ _) (by decide) (Fr.refl _ _)))))) (FrO.next (Fr.refl _ _))); exact (FrO.next (Fr.refl _ _)))

theorem execReplayTimeout_keeps (p : Sys2Proof.PortId) (s : State) : KeepsO s (execReplayTimeout p s) := by
  unfold execReplayTimeout
  exact (by (try dsimp only); split <;> (try dsimp only); exact (KeepsO.ite (KeepsO.ite (KeepsO.next (Keeps.iteT (Keeps.ofFr (startRetrain_fr _ _ _ _ _) (by decide) (Keeps.refl _)) (Keeps.step (fault_keeps _ _ _) (Keeps.ofFr (State.updPort_fr _ _ _) (by decide) (Keeps.ofFr (State.atLeast_fr _ _) (by decide) (Keeps.refl _)))))) (KeepsO.next (Keeps.ofFr (replayFrom_fr _ _ _) (by decide) (Keeps.ofFr (State.updPort_fr _ _ _) (by decide) (Keeps.ofFr (State.atLeast_fr _ _) (by decide) (Keeps.refl _)))))) (KeepsO.next (Keeps.refl _))); exact (KeepsO.next (Keeps.refl _)))

theorem execCredit_fr (p : Sys2Proof.PortId) (r0 : BitVec 16) (r1 : BitVec 16) (r2 : BitVec 16) (s : State) : FrO 399464432 s (execCredit p r0 r1 r2 s) := by
  unfold execCredit
  exact (FrO.ite (FrO.next (Fr.step (creditReturn_fr _ _ _ _) (by decide) (Fr.step (creditReturn_fr _ _ _ _) (by decide) (Fr.step (creditReturn_fr _ _ _ _) (by decide) (Fr.step (takeMsg_fr _ _ _) (by decide) (Fr.refl _ _)))))) (FrO.next (Fr.refl _ _)))

theorem execCredit_keeps (p : Sys2Proof.PortId) (r0 : BitVec 16) (r1 : BitVec 16) (r2 : BitVec 16) (s : State) : KeepsO s (execCredit p r0 r1 r2 s) := by
  unfold execCredit
  exact (KeepsO.ite (KeepsO.next (Keeps.step (creditReturn_keeps _ _ _ _) (Keeps.step (creditReturn_keeps _ _ _ _) (Keeps.step (creditReturn_keeps _ _ _ _) (Keeps.ofFr (takeMsg_fr _ _ _) (by decide) (Keeps.refl _)))))) (KeepsO.next (Keeps.refl _)))

theorem execCreditReturnDue_fr (p : Sys2Proof.PortId) (s : State) : FrO 138412032 s (execCreditReturnDue p s) := by
  unfold execCreditReturnDue
  exact (FrO.ite (FrO.next (Fr.refl _ _)) (by (try dsimp only); split <;> (try dsimp only); exact (FrO.next (Fr.step (sendSeq_fr _ _ _ _) (by decide) (Fr.refl _ _))); exact (FrO.ite (FrO.next (Fr.step (State.updPort_fr _ _ _) (by decide) (Fr.step (sendSeq_fr _ _ _ _) (by decide) (Fr.step (State.updPort_fr _ _ _) (by decide) (Fr.refl _ _))))) (FrO.next (Fr.step (sendSeq_fr _ _ _ _) (by decide) (Fr.step (State.updPort_fr _ _ _) (by decide) (Fr.refl _ _)))))))

theorem execCreditReturnDue_keeps (p : Sys2Proof.PortId) (s : State) : KeepsO s (execCreditReturnDue p s) :=
  (execCreditReturnDue_fr _ _).keeps (by decide)

theorem execResponseSend_fr (p : Sys2Proof.PortId) (s : State) : FrO 457822848 s (execResponseSend p s) := by
  unfold execResponseSend
  exact (FrO.next (Fr.step (serveMgmt_fr _ _) (by decide) (Fr.step (sendResponses_fr _ _) (by decide) (Fr.refl _ _))))

theorem execResponseSend_keeps (p : Sys2Proof.PortId) (s : State) : KeepsO s (execResponseSend p s) := by
  unfold execResponseSend
  exact (KeepsO.next (Keeps.ofFr (serveMgmt_fr _ _) (by decide) (Keeps.step (sendResponses_keeps _ _) (Keeps.refl _))))

theorem execVc1CreditStall_fr (p : Sys2Proof.PortId) (s : State) : FrO 399464434 s (execVc1CreditStall p s) := by
  unfold execVc1CreditStall
  exact (FrO.ite (FrO.next (Fr.step (fault_fr _ _ _) (by decide) (Fr.step (State.updPort_fr _ _ _) (by decide) (Fr.step (State.atLeast_fr _ _) (by decide) (Fr.refl _ _))))) (FrO.next (Fr.refl _ _)))

theorem execVc1CreditStall_keeps (p : Sys2Proof.PortId) (s : State) : KeepsO s (execVc1CreditStall p s) := by
  unfold execVc1CreditStall
  exact (KeepsO.ite (KeepsO.next (Keeps.step (fault_keeps _ _ _) (Keeps.ofFr (State.updPort_fr _ _ _) (by decide) (Keeps.ofFr (State.atLeast_fr _ _) (by decide) (Keeps.refl _))))) (KeepsO.next (Keeps.refl _)))

theorem execAudit_fr (p : Sys2Proof.PortId) (m : Sys2Proof.AuditMsg) (s : State) : FrO 399464432 s (execAudit p m s) := by
  unfold execAudit
  exact (FrO.ite (FrO.next (Fr.refl _ _)) (FrO.ite (FrO.next (Fr.iteB (Fr.step (State.updPort_fr _ _ _) (by decide) (Fr.step (takeMsg_fr _ _ _) (by decide) (Fr.refl _ _))) (Fr.step (auditFailed_fr _ _ _ _) (by decide) (Fr.refl _ _)))) (FrO.next (Fr.step (takeMsg_fr _ _ _) (by decide) (Fr.refl _ _)))))

theorem execAudit_keeps (p : Sys2Proof.PortId) (m : Sys2Proof.AuditMsg) (s : State) : KeepsO s (execAudit p m s) := by
  unfold execAudit
  exact (KeepsO.ite (KeepsO.next (Keeps.refl _)) (KeepsO.ite (KeepsO.next (Keeps.iteB (Keeps.ofFr (State.updPort_fr _ _ _) (by decide) (Keeps.ofFr (takeMsg_fr _ _ _) (by decide) (Keeps.refl _))) (Keeps.step (auditFailed_keeps _ _ _ _) (Keeps.refl _)))) (KeepsO.next (Keeps.ofFr (takeMsg_fr _ _ _) (by decide) (Keeps.refl _)))))

theorem execAuditTimeout_fr (p : Sys2Proof.PortId) (s : State) : FrO 399464434 s (execAuditTimeout p s) := by
  unfold execAuditTimeout
  exact (by (try dsimp only); split <;> (try dsimp only); exact (FrO.ite (FrO.next (Fr.step (auditFailed_fr _ _ _ _) (by decide) (Fr.step (State.updPort_fr _ _ _) (by decide) (Fr.step (State.atLeast_fr _ _) (by decide) (Fr.refl _ _))))) (FrO.next (Fr.refl _ _))); exact (FrO.next (Fr.refl _ _)))

theorem execAuditTimeout_keeps (p : Sys2Proof.PortId) (s : State) : KeepsO s (execAuditTimeout p s) := by
  unfold execAuditTimeout
  exact (by (try dsimp only); split <;> (try dsimp only); exact (KeepsO.ite (KeepsO.next (Keeps.step (auditFailed_keeps _ _ _ _) (Keeps.ofFr (State.updPort_fr _ _ _) (by decide) (Keeps.ofFr (State.atLeast_fr _ _) (by decide) (Keeps.refl _))))) (KeepsO.next (Keeps.refl _))); exact (KeepsO.next (Keeps.refl _)))

theorem execResyncAck_fr (p : Sys2Proof.PortId) (next : BitVec 12) (_g0 : BitVec 16) (g1 : BitVec 16) (g2 : BitVec 16) (s : State) : FrO 138412032 s (execResyncAck p next _g0 g1 g2 s) := by
  unfold execResyncAck
  exact (FrO.ite (FrO.next (Fr.step (queueAudit_fr _ _) (by decide) (Fr.iteB (Fr.step (noteHeld_fr _ _) (by decide) (Fr.step (sendLink_fr _ _ _) (by decide) (Fr.step (State.updPort_fr _ _ _) (by decide) (Fr.refl _ _)))) (Fr.step (replayFrom_fr _ _ _) (by decide) (Fr.refl _ _))))) (FrO.next (Fr.refl _ _)))

theorem execResyncAck_keeps (p : Sys2Proof.PortId) (next : BitVec 12) (_g0 : BitVec 16) (g1 : BitVec 16) (g2 : BitVec 16) (s : State) : KeepsO s (execResyncAck p next _g0 g1 g2 s) :=
  (execResyncAck_fr _ _ _ _ _ _).keeps (by decide)

theorem execResyncResend_fr (p : Sys2Proof.PortId) (s : State) : FrO 399464434 s (execResyncResend p s) := by
  unfold execResyncResend
  exact (by (try dsimp only); split <;> (try dsimp only); exact (FrO.ite (FrO.next (Fr.refl _ _)) (FrO.ite (FrO.next (Fr.step (sendLink_fr _ _ _) (by decide) (Fr.step (State.updPort_fr _ _ _) (by decide) (Fr.step (State.atLeast_fr _ _) (by decide) (Fr.refl _ _))))) (FrO.next (Fr.iteT (Fr.step (startRetrain_fr _ _ _ _ _) (by decide) (Fr.refl _ _)) (Fr.step (fault_fr _ _ _) (by decide) (Fr.step (State.atLeast_fr _ _) (by decide) (Fr.refl _ _))))))); exact (FrO.next (Fr.refl _ _)))

theorem execResyncResend_keeps (p : Sys2Proof.PortId) (s : State) : KeepsO s (execResyncResend p s) := by
  unfold execResyncResend
  exact (by (try dsimp only); split <;> (try dsimp only); exact (KeepsO.ite (KeepsO.next (Keeps.refl _)) (KeepsO.ite (KeepsO.next (Keeps.ofFr (sendLink_fr _ _ _) (by decide) (Keeps.ofFr (State.updPort_fr _ _ _) (by decide) (Keeps.ofFr (State.atLeast_fr _ _) (by decide) (Keeps.refl _))))) (KeepsO.next (Keeps.iteT (Keeps.ofFr (startRetrain_fr _ _ _ _ _) (by decide) (Keeps.refl _)) (Keeps.step (fault_keeps _ _ _) (Keeps.ofFr (State.atLeast_fr _ _) (by decide) (Keeps.refl _))))))); exact (KeepsO.next (Keeps.refl _)))

theorem execWidthChange_fr (p : Sys2Proof.PortId) (m : Sys2Proof.WidthMsg) (s : State) : FrO 399464432 s (execWidthChange p m s) := by
  unfold execWidthChange
  exact (FrO.ite (FrO.ite (FrO.next (Fr.step (fault_fr _ _ _) (by decide) (Fr.step (State.updPort_fr _ _ _) (by decide) (Fr.refl _ _)))) (FrO.next (Fr.step (applyWidth_fr _ _ _ _) (by decide) (Fr.step (State.updPort_fr _ _ _) (by decide) (Fr.step (sendLink_fr _ _ _) (by decide) (Fr.step (fault_fr _ _ _) (by decide) (Fr.step (State.updPort_fr _ _ _) (by decide) (Fr.refl _ _)))))))) (FrO.next (Fr.refl _ _)))

theorem execWidthChange_keeps (p : Sys2Proof.PortId) (m : Sys2Proof.WidthMsg) (s : State) : KeepsO s (execWidthChange p m s) := by
  unfold execWidthChange
  exact (KeepsO.ite (KeepsO.ite (KeepsO.next (Keeps.step (fault_keeps _ _ _) (Keeps.ofFr (State.updPort_fr _ _ _) (by decide) (Keeps.refl _)))) (KeepsO.next (Keeps.step (applyWidth_keeps _ _ _ _) (Keeps.ofFr (State.updPort_fr _ _ _) (by decide) (Keeps.ofFr (sendLink_fr _ _ _) (by decide) (Keeps.step (fault_keeps _ _ _) (Keeps.ofFr (State.updPort_fr _ _ _) (by decide) (Keeps.refl _)))))))) (KeepsO.next (Keeps.refl _)))

theorem execWidthAck_fr (p : Sys2Proof.PortId) (m : Sys2Proof.WidthMsg) (s : State) : FrO 399464432 s (execWidthAck p m s) := by
  unfold execWidthAck
  exact (by (try dsimp only); split <;> (try dsimp only); exact (FrO.ite (FrO.next (Fr.step (applyWidth_fr _ _ _ _) (by decide) (Fr.step (State.updPort_fr _ _ _) (by decide) (Fr.refl _ _)))) (FrO.next (Fr.refl _ _))); exact (FrO.next (Fr.refl _ _)))

theorem execWidthAck_keeps (p : Sys2Proof.PortId) (m : Sys2Proof.WidthMsg) (s : State) : KeepsO s (execWidthAck p m s) := by
  unfold execWidthAck
  exact (by (try dsimp only); split <;> (try dsimp only); exact (KeepsO.ite (KeepsO.next (Keeps.step (applyWidth_keeps _ _ _ _) (Keeps.ofFr (State.updPort_fr _ _ _) (by decide) (Keeps.refl _)))) (KeepsO.next (Keeps.refl _))); exact (KeepsO.next (Keeps.refl _)))

theorem execDoze_fr (p : Sys2Proof.PortId) (rung : Sys2Proof.Byte) (s : State) : FrO 399464432 s (execDoze p rung s) := by
  unfold execDoze
  exact (FrO.ite (FrO.next (Fr.refl _ _)) (FrO.ite (FrO.next (Fr.step (State.updPort_fr _ _ _) (by decide) (Fr.step (takeMsg_fr _ _ _) (by decide) (Fr.refl _ _)))) (FrO.ite (FrO.ite (FrO.next (Fr.step (settleRung_fr _) (by decide) (Fr.step (State.updPort_fr _ _ _) (by decide) (Fr.step (State.updPort_fr _ _ _) (by decide) (Fr.step (takeMsg_fr _ _ _) (by decide) (Fr.refl _ _)))))) (FrO.next (Fr.step (State.updPort_fr _ _ _) (by decide) (Fr.step (takeMsg_fr _ _ _) (by decide) (Fr.refl _ _))))) (FrO.next (Fr.step (violation_fr _ _ _) (by decide) (Fr.step (takeMsg_fr _ _ _) (by decide) (Fr.refl _ _)))))))

theorem execDoze_keeps (p : Sys2Proof.PortId) (rung : Sys2Proof.Byte) (s : State) : KeepsO s (execDoze p rung s) := by
  unfold execDoze
  exact (KeepsO.ite (KeepsO.next (Keeps.refl _)) (KeepsO.ite (KeepsO.next (Keeps.ofFr (State.updPort_fr _ _ _) (by decide) (Keeps.ofFr (takeMsg_fr _ _ _) (by decide) (Keeps.refl _)))) (KeepsO.ite (KeepsO.ite (KeepsO.next (Keeps.ofFr (settleRung_fr _) (by decide) (Keeps.ofFr (State.updPort_fr _ _ _) (by decide) (Keeps.ofFr (State.updPort_fr _ _ _) (by decide) (Keeps.ofFr (takeMsg_fr _ _ _) (by decide) (Keeps.refl _)))))) (KeepsO.next (Keeps.ofFr (State.updPort_fr _ _ _) (by decide) (Keeps.ofFr (takeMsg_fr _ _ _) (by decide) (Keeps.refl _))))) (KeepsO.next (Keeps.step (violation_keeps _ _ _) (Keeps.ofFr (takeMsg_fr _ _ _) (by decide) (Keeps.refl _)))))))

theorem execBudgetWindowBoundary_fr (p : Sys2Proof.PortId) (s : State) : FrO 399464434 s (execBudgetWindowBoundary p s) := by
  unfold execBudgetWindowBoundary
  exact (by (try dsimp only); split <;> (try dsimp only); exact (FrO.next (Fr.refl _ _)); exact (FrO.ite (FrO.next (Fr.step (queueAudit_fr _ _) (by decide) (Fr.step (State.updPort_fr _ _ _) (by decide) (Fr.step (touch_fr _) (by decide) (Fr.step (auditBooks_fr _ _) (by decide) (Fr.step (State.atLeast_fr _ _) (by decide) (Fr.refl _ _))))))) (FrO.next (Fr.step (State.updPort_fr _ _ _) (by decide) (Fr.step (touch_fr _) (by decide) (Fr.step (auditBooks_fr _ _) (by decide) (Fr.step (State.atLeast_fr _ _) (by decide) (Fr.refl _ _))))))))

theorem execBudgetWindowBoundary_keeps (p : Sys2Proof.PortId) (s : State) : KeepsO s (execBudgetWindowBoundary p s) := by
  unfold execBudgetWindowBoundary
  exact (by (try dsimp only); split <;> (try dsimp only); exact (KeepsO.next (Keeps.refl _)); exact (KeepsO.ite (KeepsO.next (Keeps.ofFr (queueAudit_fr _ _) (by decide) (Keeps.ofFr (State.updPort_fr _ _ _) (by decide) (Keeps.ofFr (touch_fr _) (by decide) (Keeps.step (auditBooks_keeps _ _) (Keeps.ofFr (State.atLeast_fr _ _) (by decide) (Keeps.refl _))))))) (KeepsO.next (Keeps.ofFr (State.updPort_fr _ _ _) (by decide) (Keeps.ofFr (touch_fr _) (by decide) (Keeps.step (auditBooks_keeps _ _) (Keeps.ofFr (State.atLeast_fr _ _) (by decide) (Keeps.refl _))))))))

theorem execGauntletReexamine_fr (p : Sys2Proof.PortId) (s : State) : FrO 155713536 s (execGauntletReexamine p s) := by
  unfold execGauntletReexamine
  exact (FrO.next (Fr.step (reexamine_fr _ _) (by decide) (Fr.refl _ _)))

theorem execGauntletReexamine_keeps (p : Sys2Proof.PortId) (s : State) : KeepsO s (execGauntletReexamine p s) :=
  (execGauntletReexamine_fr _ _).keeps (by decide)

theorem execDeadlineExpiry_fr (p : Sys2Proof.PortId) (tag : BitVec 10) (s : State) : FrO 155713538 s (execDeadlineExpiry p tag s) := by
  unfold execDeadlineExpiry
  exact (by (try dsimp only); split <;> (try dsimp only); exact (FrO.next (Fr.refl _ _)); exact (FrO.ite (FrO.next (Fr.step (examine_fr _ _ _) (by decide) (Fr.step (State.atLeast_fr _ _) (by decide) (Fr.refl _ _)))) (FrO.next (Fr.step (pmcCount_fr _ _ _ _) (by decide) (Fr.step (State.updPort_fr _ _ _) (by decide) (Fr.step (State.atLeast_fr _ _) (by decide) (Fr.step (examine_fr _ _ _) (by decide) (Fr.step (State.atLeast_fr _ _) (by decide) (Fr.refl _ _)))))))))

theorem execDeadlineExpiry_keeps (p : Sys2Proof.PortId) (tag : BitVec 10) (s : State) : KeepsO s (execDeadlineExpiry p tag s) :=
  (execDeadlineExpiry_fr _ _ _).keeps (by decide)

theorem execDeadlineCreditEarn_fr (q : Sys2Proof.PcId) (r : Sys2Proof.RankId) (b : Sys2Proof.BankId) (s : State) : FrO 17301506 s (execDeadlineCreditEarn q r b s) := by
  unfold execDeadlineCreditEarn
  exact (FrO.next (Fr.step (touch_fr _) (by decide) (Fr.step (State.updPc_fr _ _ _) (by decide) (Fr.step (State.atLeast_fr _ _) (by decide) (Fr.refl _ _)))))

theorem execDeadlineCreditEarn_keeps (q : Sys2Proof.PcId) (r : Sys2Proof.RankId) (b : Sys2Proof.BankId) (s : State) : KeepsO s (execDeadlineCreditEarn q r b s) :=
  (execDeadlineCreditEarn_fr _ _ _ _).keeps (by decide)

theorem execGrantAudit_fr (q : Sys2Proof.PcId) (s : State) : FrO 399464432 s (execGrantAudit q s) := by
  unfold execGrantAudit
  exact (FrO.next (Fr.iteB (Fr.refl _ _) (Fr.step (fault_fr _ _ _) (by decide) (Fr.refl _ _))))

theorem execGrantAudit_keeps (q : Sys2Proof.PcId) (s : State) : KeepsO s (execGrantAudit q s) := by
  unfold execGrantAudit
  exact (KeepsO.next (Keeps.iteB (Keeps.refl _) (Keeps.step (fault_keeps _ _ _) (Keeps.refl _))))

theorem execReservePeriodAudit_fr (q : Sys2Proof.PcId) (s : State) : FrO 399464432 s (execReservePeriodAudit q s) := by
  unfold execReservePeriodAudit
  exact (FrO.next (Fr.iteT (Fr.step (fault_fr _ _ _) (by decide) (Fr.refl _ _)) (Fr.step (State.updPc_fr _ _ _) (by decide) (Fr.refl _ _))))

theorem execReservePeriodAudit_keeps (q : Sys2Proof.PcId) (s : State) : KeepsO s (execReservePeriodAudit q s) := by
  unfold execReservePeriodAudit
  exact (KeepsO.next (Keeps.iteT (Keeps.step (fault_keeps _ _ _) (Keeps.refl _)) (Keeps.ofFr (State.updPc_fr _ _ _) (by decide) (Keeps.refl _))))

theorem execActivationIssue_fr (q : Sys2Proof.PcId) (changes : List Sys2Proof.CellChange) (s : State) : FrO 466438146 s (execActivationIssue q changes s) := by
  unfold execActivationIssue
  exact (by (try dsimp only); split <;> (try dsimp only); exact (FrO.next (Fr.refl _ _)); exact (FrO.next (Fr.step (shutdownAdvance_fr _) (by decide) (Fr.step (issueGrant_fr _ _ _ _ _) (by decide) (Fr.refl _ _)))); exact (by (try dsimp only); split <;> (try dsimp only); exact (FrO.next (Fr.step (State.updPc_fr _ _ _) (by decide) (Fr.refl _ _))); exact (FrO.next (Fr.step (State.updPc_fr _ _ _) (by decide) (Fr.step (access_fr _ _ _ _ _ _) (by decide) (Fr.step (chanEvent_fr _ _ _ _) (by decide) (Fr.step (State.updPc_fr _ _ _) (by decide) (Fr.refl _ _))))))))

theorem execActivationIssue_keeps (q : Sys2Proof.PcId) (changes : List Sys2Proof.CellChange) (s : State) : KeepsO s (execActivationIssue q changes s) := by
  unfold execActivationIssue
  exact (by (try dsimp only); split <;> (try dsimp only); exact (KeepsO.next (Keeps.refl _)); exact (KeepsO.next (Keeps.step (shutdownAdvance_keeps _) (Keeps.step (issueGrant_keeps _ _ _ _ _) (Keeps.refl _)))); exact (by (try dsimp only); split <;> (try dsimp only); exact (KeepsO.next (Keeps.ofFr (State.updPc_fr _ _ _) (by decide) (Keeps.refl _))); exact (KeepsO.next (Keeps.ofFr (State.updPc_fr _ _ _) (by decide) (Keeps.step (access_keeps _ _ _ _ _ _) (Keeps.ofFr (chanEvent_fr _ _ _ _) (by decide) (Keeps.ofFr (State.updPc_fr _ _ _) (by decide) (Keeps.refl _))))))))

theorem execPause_fr (q : Sys2Proof.PcId) (k : Sys2Proof.LayerId) (b : Sys2Proof.BankId) (s : State) : FrO 159383552 s (execPause q k b s) := by
  unfold execPause
  exact (by (try dsimp only); split <;> (try dsimp only); exact (FrO.next (Fr.iteT (Fr.step (pauseRefresh_fr _ _ _ _) (by decide) (Fr.refl _ _)) (Fr.refl _ _))); exact (FrO.next (Fr.refl _ _)))

theorem execPause_keeps (q : Sys2Proof.PcId) (k : Sys2Proof.LayerId) (b : Sys2Proof.BankId) (s : State) : KeepsO s (execPause q k b s) :=
  (execPause_fr _ _ _ _).keeps (by decide)

theorem execReadBurstReturn_fr (q : Sys2Proof.PcId) (x : Sys2Proof.BurstXfer) (s : State) : FrO 533684214 s (execReadBurstReturn q x s) := by
  unfold execReadBurstReturn
  exact (by (try dsimp only); split <;> (try dsimp only); exact (FrO.next (Fr.refl _ _)); exact (FrO.ite (FrO.next (Fr.step (deliver_fr _ _ _ _ _ _ _) (by decide) (Fr.step (countLost_fr _ _) (by decide) (Fr.step (State.updPc_fr _ _ _) (by decide) (Fr.refl _ _))))) (FrO.next (Fr.step (readLanded_fr _ _ _ _) (by decide) (Fr.step (countTransfer_fr _ _ _) (by decide) (Fr.step (State.atLeast_fr _ _) (by decide) (Fr.step (readResent_fr _ _ _ _) (by decide) (Fr.step (State.updPc_fr _ _ _) (by decide) (Fr.refl _ _)))))))))

theorem execReadBurstReturn_keeps (q : Sys2Proof.PcId) (x : Sys2Proof.BurstXfer) (s : State) : KeepsO s (execReadBurstReturn q x s) := by
  unfold execReadBurstReturn
  exact (by (try dsimp only); split <;> (try dsimp only); exact (KeepsO.next (Keeps.refl _)); exact (KeepsO.ite (KeepsO.next (Keeps.ofFr (deliver_fr _ _ _ _ _ _ _) (by decide) (Keeps.ofFr (countLost_fr _ _) (by decide) (Keeps.ofFr (State.updPc_fr _ _ _) (by decide) (Keeps.refl _))))) (KeepsO.next (Keeps.step (readLanded_keeps _ _ _ _) (Keeps.step (countTransfer_keeps _ _ _) (Keeps.ofFr (State.atLeast_fr _ _) (by decide) (Keeps.ofFr (readResent_fr _ _ _ _) (by decide) (Keeps.ofFr (State.updPc_fr _ _ _) (by decide) (Keeps.refl _)))))))))

theorem execChkResult_fr (q : Sys2Proof.PcId) (s : State) : FrO 533682162 s (execChkResult q s) := by
  unfold execChkResult
  exact (by (try dsimp only); split <;> (try dsimp only); exact (FrO.next (Fr.refl _ _)); exact (FrO.ite (FrO.next (Fr.step (deliver_fr _ _ _ _ _ _ _) (by decide) (Fr.step (countLost_fr _ _) (by decide) (Fr.step (State.updPc_fr _ _ _) (by decide) (Fr.step (State.atLeast_fr _ _) (by decide) (Fr.refl _ _)))))) (FrO.next (Fr.step (deliver_fr _ _ _ _ _ _ _) (by decide) (Fr.ite (Fr.step (fault_fr _ _ _) (by decide) (Fr.step (blockRecord_fr _ _ _) (by decide) (Fr.step (lastUe_fr _ _ _ _ _ _) (by decide) (Fr.step (State.updChan_fr _ _ _) (by decide) (Fr.step (State.updPort_fr _ _ _) (by decide) (Fr.step (postHat_fr _ _ _ _) (by decide) (Fr.step (State.updPc_fr _ _ _) (by decide) (Fr.step (State.atLeast_fr _ _) (by decide) (Fr.refl _ _))))))))) (Fr.iteB (Fr.step (postHat_fr _ _ _ _) (by decide) (Fr.step (State.updPc_fr _ _ _) (by decide) (Fr.step (State.atLeast_fr _ _) (by decide) (Fr.refl _ _)))) (Fr.step (fault_fr _ _ _) (by decide) (Fr.iteT (Fr.step (pmcCount_fr _ _ _ _) (by decide) (Fr.refl _ _)) (Fr.step (State.updChan_fr _ _ _) (by decide) (Fr.refl _ _))))))))))

theorem execChkResult_keeps (q : Sys2Proof.PcId) (s : State) : KeepsO s (execChkResult q s) := by
  unfold execChkResult
  exact (by (try dsimp only); split <;> (try dsimp only); exact (KeepsO.next (Keeps.refl _)); exact (KeepsO.ite (KeepsO.next (Keeps.ofFr (deliver_fr _ _ _ _ _ _ _) (by decide) (Keeps.ofFr (countLost_fr _ _) (by decide) (Keeps.ofFr (State.updPc_fr _ _ _) (by decide) (Keeps.ofFr (State.atLeast_fr _ _) (by decide) (Keeps.refl _)))))) (KeepsO.next (Keeps.ofFr (deliver_fr _ _ _ _ _ _ _) (by decide) (Keeps.ite (Keeps.step (fault_keeps _ _ _) (Keeps.step (blockRecord_keeps _ _ _) (Keeps.ofFr (lastUe_fr _ _ _ _ _ _) (by decide) (Keeps.ofFr (State.updChan_fr _ _ _) (by decide) (Keeps.ofFr (State.updPort_fr _ _ _) (by decide) (Keeps.ofFr (postHat_fr _ _ _ _) (by decide) (Keeps.ofFr (State.updPc_fr _ _ _) (by decide) (Keeps.ofFr (State.atLeast_fr _ _) (by decide) (Keeps.refl _))))))))) (Keeps.iteB (Keeps.ofFr (postHat_fr _ _ _ _) (by decide) (Keeps.ofFr (State.updPc_fr _ _ _) (by decide) (Keeps.ofFr (State.atLeast_fr _ _) (by decide) (Keeps.refl _)))) (Keeps.step (fault_keeps _ _ _) (Keeps.iteT (Keeps.ofFr (pmcCount_fr _ _ _ _) (by decide) (Keeps.refl _)) (Keeps.ofFr (State.updChan_fr _ _ _) (by decide) (Keeps.refl _))))))))))

theorem execWriteErrorReport_fr (q : Sys2Proof.PcId) (s : State) : FrO 533682162 s (execWriteErrorReport q s) := by
  unfold execWriteErrorReport
  exact (FrO.ite (FrO.next (Fr.refl _ _)) (FrO.ite (FrO.next (Fr.step (fault_fr _ _ _) (by decide) (Fr.step (chanEvent_fr _ _ _ _) (by decide) (Fr.step (State.updChan_fr _ _ _) (by decide) (Fr.forL (fun _ _ => (Fr.step (State.updPc_fr _ _ _) (by decide) (Fr.step (State.atLeast_fr _ _) (by decide) (Fr.refl _ _)))) _ (Fr.refl _ _)))))) (FrO.next (Fr.forL (fun _ _ => (Fr.step (State.updPc_fr _ _ _) (by decide) (Fr.step (State.atLeast_fr _ _) (by decide) (Fr.refl _ _)))) _ (Fr.refl _ _)))))

theorem execWriteErrorReport_keeps (q : Sys2Proof.PcId) (s : State) : KeepsO s (execWriteErrorReport q s) := by
  unfold execWriteErrorReport
  exact (KeepsO.ite (KeepsO.next (Keeps.refl _)) (KeepsO.ite (KeepsO.next (Keeps.step (fault_keeps _ _ _) (Keeps.ofFr (chanEvent_fr _ _ _ _) (by decide) (Keeps.ofFr (State.updChan_fr _ _ _) (by decide) (Keeps.forL (fun _ _ => (Keeps.ofFr (State.updPc_fr _ _ _) (by decide) (Keeps.ofFr (State.atLeast_fr _ _) (by decide) (Keeps.refl _)))) _ (Keeps.refl _)))))) (KeepsO.next (Keeps.forL (fun _ _ => (Keeps.ofFr (State.updPc_fr _ _ _) (by decide) (Keeps.ofFr (State.atLeast_fr _ _) (by decide) (Keeps.refl _)))) _ (Keeps.refl _)))))

theorem execCommandParityReport_fr (q : Sys2Proof.PcId) (c : Sys2Proof.CmdRef) (s : State) : FrO 533682164 s (execCommandParityReport q c s) := by
  unfold execCommandParityReport
  exact (by (try dsimp only); split <;> (try dsimp only); exact (by (try dsimp only); split <;> (try dsimp only); exact (FrO.next (Fr.step (parityReport_fr _ _ _ _) (by decide) (Fr.refl _ _))); exact (FrO.ite (FrO.next (Fr.step (dropBurst_fr _ _ _) (by decide) (Fr.step (parityReport_fr _ _ _ _) (by decide) (Fr.refl _ _)))) (FrO.next (Fr.step (laterBurst_fr _ _ _) (by decide) (Fr.step (State.updPc_fr _ _ _) (by decide) (Fr.step (parityReport_fr _ _ _ _) (by decide) (Fr.refl _ _))))))); exact (by (try dsimp only); split <;> (try dsimp only); exact (FrO.next (Fr.step (parityReport_fr _ _ _ _) (by decide) (Fr.refl _ _))); exact (FrO.ite (FrO.next (Fr.forL (fun _ _ => (Fr.step (dropBurst_fr _ _ _) (by decide) (Fr.refl _ _))) _ (Fr.step (parityReport_fr _ _ _ _) (by decide) (Fr.refl _ _)))) (FrO.next (Fr.forL (fun _ _ => (Fr.step (laterBurst_fr _ _ _) (by decide) (Fr.refl _ _))) _ (Fr.step (State.updPc_fr _ _ _) (by decide) (Fr.step (parityReport_fr _ _ _ _) (by decide) (Fr.refl _ _))))))); exact (by (try dsimp only); split <;> (try dsimp only); exact (FrO.next (Fr.step (parityReport_fr _ _ _ _) (by decide) (Fr.refl _ _))); exact (FrO.next (Fr.step (State.updPc_fr _ _ _) (by decide) (Fr.step (parityReport_fr _ _ _ _) (by decide) (Fr.refl _ _))))); exact (FrO.next (Fr.step (State.updPc_fr _ _ _) (by decide) (Fr.step (parityReport_fr _ _ _ _) (by decide) (Fr.refl _ _)))))

theorem execCommandParityReport_keeps (q : Sys2Proof.PcId) (c : Sys2Proof.CmdRef) (s : State) : KeepsO s (execCommandParityReport q c s) := by
  unfold execCommandParityReport
  exact (by (try dsimp only); split <;> (try dsimp only); exact (by (try dsimp only); split <;> (try dsimp only); exact (KeepsO.next (Keeps.step (parityReport_keeps _ _ _ _) (Keeps.refl _))); exact (KeepsO.ite (KeepsO.next (Keeps.ofFr (dropBurst_fr _ _ _) (by decide) (Keeps.step (parityReport_keeps _ _ _ _) (Keeps.refl _)))) (KeepsO.next (Keeps.ofFr (laterBurst_fr _ _ _) (by decide) (Keeps.ofFr (State.updPc_fr _ _ _) (by decide) (Keeps.step (parityReport_keeps _ _ _ _) (Keeps.refl _))))))); exact (by (try dsimp only); split <;> (try dsimp only); exact (KeepsO.next (Keeps.step (parityReport_keeps _ _ _ _) (Keeps.refl _))); exact (KeepsO.ite (KeepsO.next (Keeps.forL (fun _ _ => (Keeps.ofFr (dropBurst_fr _ _ _) (by decide) (Keeps.refl _))) _ (Keeps.step (parityReport_keeps _ _ _ _) (Keeps.refl _)))) (KeepsO.next (Keeps.forL (fun _ _ => (Keeps.ofFr (laterBurst_fr _ _ _) (by decide) (Keeps.refl _))) _ (Keeps.ofFr (State.updPc_fr _ _ _) (by decide) (Keeps.step (parityReport_keeps _ _ _ _) (Keeps.refl _))))))); exact (by (try dsimp only); split <;> (try dsimp only); exact (KeepsO.next (Keeps.step (parityReport_keeps _ _ _ _) (Keeps.refl _))); exact (KeepsO.next (Keeps.ofFr (State.updPc_fr _ _ _) (by decide) (Keeps.step (parityReport_keeps _ _ _ _) (Keeps.refl _))))); exact (KeepsO.next (Keeps.ofFr (State.updPc_fr _ _ _) (by decide) (Keeps.step (parityReport_keeps _ _ _ _) (Keeps.refl _)))))

theorem execWriteDrainComplete_fr (q : Sys2Proof.PcId) (s : State) : FrO 466173954 s (execWriteDrainComplete q s) := by
  unfold execWriteDrainComplete
  exact (FrO.next (Fr.step (shutdownAdvance_fr _) (by decide) (Fr.step (touch_fr _) (by decide) (Fr.forL (fun _ _ => (Fr.step (postOverwrite_fr _ _ _ _ _ _) (by decide) (Fr.step (State.writeBlock_fr _ _ _ _ _) (by decide) (Fr.iteT (Fr.step (chanEvent_fr _ _ _ _) (by decide) (Fr.step (State.updChan_fr _ _ _) (by decide) (Fr.refl _ _))) (Fr.step (State.updPc_fr _ _ _) (by decide) (Fr.step (keepEarly_fr _ _ _) (by decide) (Fr.step (State.atLeast_fr _ _) (by decide) (Fr.refl _ _)))))))) _ (Fr.refl _ _)))))

theorem execWriteDrainComplete_keeps (q : Sys2Proof.PcId) (s : State) : KeepsO s (execWriteDrainComplete q s) := by
  unfold execWriteDrainComplete
  exact (KeepsO.next (Keeps.step (shutdownAdvance_keeps _) (Keeps.ofFr (touch_fr _) (by decide) (Keeps.forL (fun _ _ => (Keeps.ofFr (postOverwrite_fr _ _ _ _ _ _) (by decide) (Keeps.step (State.writeBlock_keeps _ _ _ _ _) (Keeps.iteT (Keeps.ofFr (chanEvent_fr _ _ _ _) (by decide) (Keeps.ofFr (State.updChan_fr _ _ _) (by decide) (Keeps.refl _))) (Keeps.ofFr (State.updPc_fr _ _ _) (by decide) (Keeps.ofFr (keepEarly_fr _ _ _) (by decide) (Keeps.ofFr (State.atLeast_fr _ _) (by decide) (Keeps.refl _)))))))) _ (Keeps.refl _)))))

theorem execRowCloseTimeout_fr (q : Sys2Proof.PcId) (k : Sys2Proof.LayerId) (b : Sys2Proof.BankId) (s : State) : FrO 16777218 s (execRowCloseTimeout q k b s) := by
  unfold execRowCloseTimeout
  exact (by (try dsimp only); split <;> (try dsimp only); exact (FrO.next (Fr.step (State.updPc_fr _ _ _) (by decide) (Fr.step (State.atLeast_fr _ _) (by decide) (Fr.refl _ _)))); exact (FrO.next (Fr.refl _ _)))

theorem execRowCloseTimeout_keeps (q : Sys2Proof.PcId) (k : Sys2Proof.LayerId) (b : Sys2Proof.BankId) (s : State) : KeepsO s (execRowCloseTimeout q k b s) :=
  (execRowCloseTimeout_fr _ _ _ _).keeps (by decide)

theorem execSlicePowerDown_fr (q : Sys2Proof.PcId) (k : Sys2Proof.LayerId) (s : State) : FrO 41943042 s (execSlicePowerDown q k s) := by
  unfold execSlicePowerDown
  exact (FrO.ite (FrO.next (Fr.step (State.updChan_fr _ _ _) (by decide) (Fr.step (State.updSlice_fr _ _ _ _) (by decide) (Fr.step (State.atLeast_fr _ _) (by decide) (Fr.refl _ _))))) (FrO.next (Fr.refl _ _)))

theorem execSlicePowerDown_keeps (q : Sys2Proof.PcId) (k : Sys2Proof.LayerId) (s : State) : KeepsO s (execSlicePowerDown q k s) :=
  (execSlicePowerDown_fr _ _ _).keeps (by decide)

theorem execCalMicroStep_fr (q : Sys2Proof.PcId) (r : Sys2Proof.CalStep) (s : State) : FrO 533682162 s (execCalMicroStep q r s) := by
  unfold execCalMicroStep
  exact (FrO.ite (FrO.next (Fr.refl _ _)) (by (try dsimp only); split <;> (try dsimp only); exact (FrO.next (Fr.step (calNext_fr _ _) (by decide) (Fr.refl _ _))); exact (FrO.ite (FrO.next (Fr.step (State.updPc_fr _ _ _) (by decide) (Fr.iteB (Fr.step (chanEvent_fr _ _ _ _) (by decide) (Fr.step (State.updSlice_fr _ _ _ _) (by decide) (Fr.step (State.updPc_fr _ _ _) (by decide) (Fr.step (State.atLeast_fr _ _) (by decide) (Fr.step (calNext_fr _ _) (by decide) (Fr.refl _ _)))))) (Fr.step (fault_fr _ _ _) (by decide) (Fr.refl _ _))))) (FrO.next (Fr.step (calNext_fr _ _) (by decide) (Fr.step (calDue_fr _ _) (by decide) (Fr.iteT (Fr.step (queueRecord_fr _ _) (by decide) (Fr.step (State.updPc_fr _ _ _) (by decide) (Fr.refl _ _))) (Fr.step (State.updPc_fr _ _ _) (by decide) (Fr.iteB (Fr.step (chanEvent_fr _ _ _ _) (by decide) (Fr.step (State.updSlice_fr _ _ _ _) (by decide) (Fr.step (State.updPc_fr _ _ _) (by decide) (Fr.step (State.atLeast_fr _ _) (by decide) (Fr.step (calNext_fr _ _) (by decide) (Fr.refl _ _)))))) (Fr.step (fault_fr _ _ _) (by decide) (Fr.refl _ _)))))))))))

theorem execCalMicroStep_keeps (q : Sys2Proof.PcId) (r : Sys2Proof.CalStep) (s : State) : KeepsO s (execCalMicroStep q r s) := by
  unfold execCalMicroStep
  exact (KeepsO.ite (KeepsO.next (Keeps.refl _)) (by (try dsimp only); split <;> (try dsimp only); exact (KeepsO.next (Keeps.ofFr (calNext_fr _ _) (by decide) (Keeps.refl _))); exact (KeepsO.ite (KeepsO.next (Keeps.ofFr (State.updPc_fr _ _ _) (by decide) (Keeps.iteB (Keeps.ofFr (chanEvent_fr _ _ _ _) (by decide) (Keeps.ofFr (State.updSlice_fr _ _ _ _) (by decide) (Keeps.ofFr (State.updPc_fr _ _ _) (by decide) (Keeps.ofFr (State.atLeast_fr _ _) (by decide) (Keeps.ofFr (calNext_fr _ _) (by decide) (Keeps.refl _)))))) (Keeps.step (fault_keeps _ _ _) (Keeps.refl _))))) (KeepsO.next (Keeps.ofFr (calNext_fr _ _) (by decide) (Keeps.ofFr (calDue_fr _ _) (by decide) (Keeps.iteT (Keeps.ofFr (queueRecord_fr _ _) (by decide) (Keeps.ofFr (State.updPc_fr _ _ _) (by decide) (Keeps.refl _))) (Keeps.ofFr (State.updPc_fr _ _ _) (by decide) (Keeps.iteB (Keeps.ofFr (chanEvent_fr _ _ _ _) (by decide) (Keeps.ofFr (State.updSlice_fr _ _ _ _) (by decide) (Keeps.ofFr (State.updPc_fr _ _ _) (by decide) (Keeps.ofFr (State.atLeast_fr _ _) (by decide) (Keeps.ofFr (calNext_fr _ _) (by decide) (Keeps.refl _)))))) (Keeps.step (fault_keeps _ _ _) (Keeps.refl _)))))))))))

theorem execRefreshIssue_fr (q : Sys2Proof.PcId) (k : Sys2Proof.LayerId) (b : Sys2Proof.BankId) (row : Sys2Proof.RowId) (kind : Sys2Proof.RefKind) (s : State) : FrO 58720258 s (execRefreshIssue q k b row kind s) := by
  unfold execRefreshIssue
  exact (FrO.ite (FrO.next (Fr.iteT (Fr.step (State.updChan_fr _ _ _) (by decide) (Fr.refl _ _)) (Fr.step (State.updSlice_fr _ _ _ _) (by decide) (Fr.step (State.updPc_fr _ _ _) (by decide) (Fr.step (State.atLeast_fr _ _) (by decide) (Fr.refl _ _)))))) (FrO.next (Fr.refl _ _)))

theorem execRefreshIssue_keeps (q : Sys2Proof.PcId) (k : Sys2Proof.LayerId) (b : Sys2Proof.BankId) (row : Sys2Proof.RowId) (kind : Sys2Proof.RefKind) (s : State) : KeepsO s (execRefreshIssue q k b row kind s) :=
  (execRefreshIssue_fr _ _ _ _ _ _).keeps (by decide)

theorem execRefreshComplete_fr (q : Sys2Proof.PcId) (k : Sys2Proof.LayerId) (b : Sys2Proof.BankId) (changes : List Sys2Proof.CellChange) (s : State) : FrO 533684210 s (execRefreshComplete q k b changes s) := by
  unfold execRefreshComplete
  exact (by (try dsimp only); split <;> (try dsimp only); exact (FrO.next (Fr.refl _ _)); exact (FrO.ite (FrO.next (Fr.step (pauseRefresh_fr _ _ _ _) (by decide) (Fr.refl _ _))) (by (try dsimp only); split <;> (try dsimp only); exact (FrO.next (Fr.iteT (Fr.step (State.updChan_fr _ _ _) (by decide) (Fr.refl _ _)) (Fr.step (State.updPc_fr _ _ _) (by decide) (Fr.step (State.atLeast_fr _ _) (by decide) (Fr.refl _ _))))); exact (FrO.next (Fr.iteT (Fr.step (refreshed_fr _ _ _ _ _) (by decide) (Fr.refl _ _)) (Fr.iteB (Fr.step (refreshCheck_fr _ _ _ _ _) (by decide) (Fr.step (State.setCells_fr _ _ _) (by decide) (Fr.iteT (Fr.step (State.updChan_fr _ _ _) (by decide) (Fr.refl _ _)) (Fr.step (State.updPc_fr _ _ _) (by decide) (Fr.step (State.atLeast_fr _ _) (by decide) (Fr.refl _ _)))))) (Fr.step (chanEvent_fr _ _ _ _) (by decide) (Fr.step (addWork_fr _ _ _ _ _) (by decide) (Fr.refl _ _)))))))))

theorem execRefreshComplete_keeps (q : Sys2Proof.PcId) (k : Sys2Proof.LayerId) (b : Sys2Proof.BankId) (changes : List Sys2Proof.CellChange) (s : State) : KeepsO s (execRefreshComplete q k b changes s) := by
  unfold execRefreshComplete
  exact (by (try dsimp only); split <;> (try dsimp only); exact (KeepsO.next (Keeps.refl _)); exact (KeepsO.ite (KeepsO.next (Keeps.ofFr (pauseRefresh_fr _ _ _ _) (by decide) (Keeps.refl _))) (by (try dsimp only); split <;> (try dsimp only); exact (KeepsO.next (Keeps.iteT (Keeps.ofFr (State.updChan_fr _ _ _) (by decide) (Keeps.refl _)) (Keeps.ofFr (State.updPc_fr _ _ _) (by decide) (Keeps.ofFr (State.atLeast_fr _ _) (by decide) (Keeps.refl _))))); exact (KeepsO.next (Keeps.iteT (Keeps.step (refreshed_keeps _ _ _ _ _) (Keeps.refl _)) (Keeps.iteB (Keeps.step (refreshCheck_keeps _ _ _ _ _) (Keeps.step (State.setCells_keeps _ _ _) (Keeps.iteT (Keeps.ofFr (State.updChan_fr _ _ _) (by decide) (Keeps.refl _)) (Keeps.ofFr (State.updPc_fr _ _ _) (by decide) (Keeps.ofFr (State.atLeast_fr _ _) (by decide) (Keeps.refl _)))))) (Keeps.ofFr (chanEvent_fr _ _ _ _) (by decide) (Keeps.step (addWork_keeps _ _ _ _ _) (Keeps.refl _)))))))))

theorem execRfmRequestReport_fr (q : Sys2Proof.PcId) (k : Sys2Proof.LayerId) (s : State) : FrO 533690352 s (execRfmRequestReport q k s) := by
  unfold execRfmRequestReport
  exact (FrO.next (Fr.iteT (Fr.step (hbx_fr _ _ _) (by decide) (Fr.refl _ _)) (Fr.refl _ _)))

theorem execRfmRequestReport_keeps (q : Sys2Proof.PcId) (k : Sys2Proof.LayerId) (s : State) : KeepsO s (execRfmRequestReport q k s) := by
  unfold execRfmRequestReport
  exact (KeepsO.next (Keeps.iteT (Keeps.step (hbx_keeps _ _ _) (Keeps.refl _)) (Keeps.refl _)))

theorem execHatboxRead_fr (n : Sys2Proof.ChanId) (unreadable : List Sys2Proof.SliceRef) (s : State) : FrO 533690352 s (execHatboxRead n unreadable s) := by
  unfold execHatboxRead
  exact (FrO.next (Fr.iteT (Fr.step (readHatboxes_fr _ _ _) (by decide) (Fr.step (readHatboxes_fr _ _ _) (by decide) (Fr.refl _ _))) (Fr.refl _ _)))

theorem execHatboxRead_keeps (n : Sys2Proof.ChanId) (unreadable : List Sys2Proof.SliceRef) (s : State) : KeepsO s (execHatboxRead n unreadable s) := by
  unfold execHatboxRead
  exact (KeepsO.next (Keeps.iteT (Keeps.step (readHatboxes_keeps _ _ _) (Keeps.step (readHatboxes_keeps _ _ _) (Keeps.refl _))) (Keeps.refl _)))

theorem execHatboxEntryService_fr (n : Sys2Proof.ChanId) (s : State) : FrO 533684210 s (execHatboxEntryService n s) := by
  unfold execHatboxEntryService
  exact (FrO.ite (FrO.next (Fr.refl _ _)) (by (try dsimp only); split <;> (try dsimp only); exact (FrO.next (Fr.refl _ _)); exact (FrO.next (Fr.step (serveEntry_fr _ _) (by decide) (Fr.step (State.updChan_fr _ _ _) (by decide) (Fr.refl _ _))))))

theorem execHatboxEntryService_keeps (n : Sys2Proof.ChanId) (s : State) : KeepsO s (execHatboxEntryService n s) := by
  unfold execHatboxEntryService
  exact (KeepsO.ite (KeepsO.next (Keeps.refl _)) (by (try dsimp only); split <;> (try dsimp only); exact (KeepsO.next (Keeps.refl _)); exact (KeepsO.next (Keeps.step (serveEntry_keeps _ _) (Keeps.ofFr (State.updChan_fr _ _ _) (by decide) (Keeps.refl _))))))

theorem execSelfRefreshSensorRead_fr (k : Sys2Proof.LayerId) (a : Option Sys2Proof.Temp) (b : Option Sys2Proof.Temp) (s : State) : FrO 117440512 s (execSelfRefreshSensorRead k a b s) := by
  unfold execSelfRefreshSensorRead
  exact (FrO.ite (FrO.next (Fr.step (State.updLayer_fr _ _ _) (by decide) (Fr.step (setBase_fr _ _ _) (by decide) (Fr.refl _ _)))) (FrO.next (Fr.refl _ _)))

theorem execSelfRefreshSensorRead_keeps (k : Sys2Proof.LayerId) (a : Option Sys2Proof.Temp) (b : Option Sys2Proof.Temp) (s : State) : KeepsO s (execSelfRefreshSensorRead k a b s) :=
  (execSelfRefreshSensorRead_fr _ _ _ _).keeps (by decide)

theorem execSpareRowAssign_fr (n : Sys2Proof.ChanId) (s : State) : FrO 193210882 s (execSpareRowAssign n s) := by
  unfold execSpareRowAssign
  exact (FrO.ite (FrO.next (Fr.refl _ _)) (by (try dsimp only); split <;> (try dsimp only); exact (FrO.next (Fr.refl _ _)); exact (by (try dsimp only); split <;> (try dsimp only); exact (FrO.next (Fr.step (askRepair_fr _ _) (by decide) (Fr.step (State.updChan_fr _ _ _) (by decide) (Fr.refl _ _)))); exact (FrO.next (Fr.u8192 (Fr.step (State.updSlice_fr _ _ _ _) (by decide) (Fr.step (State.updPc_fr _ _ _) (by decide) (Fr.step (reserveRow_fr _ _ _ _ _) (by decide) (Fr.step (State.updChan_fr _ _ _) (by decide) (Fr.refl _ _))))) (by decide))))))

theorem execSpareRowAssign_keeps (n : Sys2Proof.ChanId) (s : State) : KeepsO s (execSpareRowAssign n s) := by
  unfold execSpareRowAssign
  exact (KeepsO.ite (KeepsO.next (Keeps.refl _)) (by (try dsimp only); split <;> (try dsimp only); exact (KeepsO.next (Keeps.refl _)); exact (by (try dsimp only); split <;> (try dsimp only); exact (KeepsO.next (Keeps.ofFr (askRepair_fr _ _) (by decide) (Keeps.ofFr (State.updChan_fr _ _ _) (by decide) (Keeps.refl _)))); exact (KeepsO.next (Keeps.u8192 (Keeps.ofFr (State.updSlice_fr _ _ _ _) (by decide) (Keeps.ofFr (State.updPc_fr _ _ _) (by decide) (Keeps.step (reserveRow_keeps _ _ _ _ _) (Keeps.ofFr (State.updChan_fr _ _ _) (by decide) (Keeps.refl _))))))))))

theorem execTsvSteering_fr (q : Sys2Proof.PcId) (found : Option Sys2Proof.TsvRef) (s : State) : FrO 399464432 s (execTsvSteering q found s) := by
  unfold execTsvSteering
  exact (FrO.ite (by (try dsimp only); split <;> (try dsimp only); exact (FrO.next (Fr.step (State.updPc_fr _ _ _) (by decide) (Fr.refl _ _))); exact (FrO.ite (FrO.next (Fr.step (steerTsv_fr _ _ _) (by decide) (Fr.step (State.updPc_fr _ _ _) (by decide) (Fr.refl _ _)))) (FrO.next (Fr.step (checkMinimum_fr _) (by decide) (Fr.step (State.updPc_fr _ _ _) (by decide) (Fr.step (fault_fr _ _ _) (by decide) (Fr.step (excludePc_fr _ _) (by decide) (Fr.step (steerTsv_fr _ _ _) (by decide) (Fr.step (State.updPc_fr _ _ _) (by decide) (Fr.refl _ _)))))))))) (FrO.next (Fr.refl _ _)))

theorem execTsvSteering_keeps (q : Sys2Proof.PcId) (found : Option Sys2Proof.TsvRef) (s : State) : KeepsO s (execTsvSteering q found s) := by
  unfold execTsvSteering
  exact (KeepsO.ite (by (try dsimp only); split <;> (try dsimp only); exact (KeepsO.next (Keeps.ofFr (State.updPc_fr _ _ _) (by decide) (Keeps.refl _))); exact (KeepsO.ite (KeepsO.next (Keeps.ofFr (steerTsv_fr _ _ _) (by decide) (Keeps.ofFr (State.updPc_fr _ _ _) (by decide) (Keeps.refl _)))) (KeepsO.next (Keeps.step (checkMinimum_keeps _) (Keeps.ofFr (State.updPc_fr _ _ _) (by decide) (Keeps.step (fault_keeps _ _ _) (Keeps.step (excludePc_keeps _ _) (Keeps.ofFr (steerTsv_fr _ _ _) (by decide) (Keeps.ofFr (State.updPc_fr _ _ _) (by decide) (Keeps.refl _)))))))))) (KeepsO.next (Keeps.refl _)))

theorem execBankMapOut_fr (s : State) : FrO 399464432 s (execBankMapOut s) := by
  unfold execBankMapOut
  split
  · next he => exact FrO.next (Fr.step (mapOutBank_fr _ _ _ _ _) (by decide) ((takeRepair_fr he).mono (by decide)))
  · exact FrO.next (Fr.refl _ _)

theorem execBankMapOut_keeps (s : State) : KeepsO s (execBankMapOut s) := by
  unfold execBankMapOut
  split
  · next he => exact KeepsO.next (Keeps.step (mapOutBank_keeps _ _ _ _ _) (Keeps.ofFr (takeRepair_fr he) (by decide) (Keeps.refl _)))
  · exact KeepsO.next (Keeps.refl _)

theorem execRankRetirement_fr (s : State) : FrO 399464432 s (execRankRetirement s) := by
  unfold execRankRetirement
  split
  · next he => exact FrO.next (Fr.step (retireRank_fr _ _ _ _) (by decide) ((takeRepair_fr he).mono (by decide)))
  · exact FrO.next (Fr.refl _ _)

theorem execRankRetirement_keeps (s : State) : KeepsO s (execRankRetirement s) := by
  unfold execRankRetirement
  split
  · next he => exact KeepsO.next (Keeps.step (retireRank_keeps _ _ _ _) (Keeps.ofFr (takeRepair_fr he) (by decide) (Keeps.refl _)))
  · exact KeepsO.next (Keeps.refl _)

theorem execLayerRetirement_fr (s : State) : FrO 399464432 s (execLayerRetirement s) := by
  unfold execLayerRetirement
  split
  · next he => exact FrO.next (Fr.step (retireLayer_fr _ _ _) (by decide) ((takeRepair_fr he).mono (by decide)))
  · exact FrO.next (Fr.refl _ _)

theorem execLayerRetirement_keeps (s : State) : KeepsO s (execLayerRetirement s) := by
  unfold execLayerRetirement
  split
  · next he => exact KeepsO.next (Keeps.step (retireLayer_keeps _ _ _) (Keeps.ofFr (takeRepair_fr he) (by decide) (Keeps.refl _)))
  · exact KeepsO.next (Keeps.refl _)

theorem execLinerIntoUse_fr (q : Sys2Proof.PcId) (read : Sys2Proof.LinerRead) (s : State) : FrO 399464436 s (execLinerIntoUse q read s) := by
  unfold execLinerIntoUse
  exact (FrO.ite (FrO.ite (FrO.next (Fr.step (commitUnit_fr _ _) (by decide) (Fr.step (State.updSlice_fr _ _ _ _) (by decide) (Fr.step (State.updPc_fr _ _ _) (by decide) (Fr.step (intoUse_fr _ _ _ _ _ _) (by decide) (Fr.refl _ _)))))) (FrO.next (Fr.iteT (Fr.step (State.setRank_fr _ _ _ _) (by decide) (Fr.refl _ _)) (Fr.step (State.updPc_fr _ _ _) (by decide) (Fr.step (intoUse_fr _ _ _ _ _ _) (by decide) (Fr.refl _ _)))))) (FrO.next (Fr.refl _ _)))

theorem execLinerIntoUse_keeps (q : Sys2Proof.PcId) (read : Sys2Proof.LinerRead) (s : State) : KeepsO s (execLinerIntoUse q read s) := by
  unfold execLinerIntoUse
  exact (KeepsO.ite (KeepsO.ite (KeepsO.next (Keeps.ofFr (commitUnit_fr _ _) (by decide) (Keeps.ofFr (State.updSlice_fr _ _ _ _) (by decide) (Keeps.ofFr (State.updPc_fr _ _ _) (by decide) (Keeps.step (intoUse_keeps _ _ _ _ _ _) (Keeps.refl _)))))) (KeepsO.next (Keeps.iteT (Keeps.ofFr (State.setRank_fr _ _ _ _) (by decide) (Keeps.refl _)) (Keeps.ofFr (State.updPc_fr _ _ _) (by decide) (Keeps.step (intoUse_keeps _ _ _ _ _ _) (Keeps.refl _)))))) (KeepsO.next (Keeps.refl _)))

theorem execRowCopy_fr (q : Sys2Proof.PcId) (s : State) : FrO 528762882 s (execRowCopy q s) := by
  unfold execRowCopy
  exact (FrO.ite (FrO.next (Fr.step (commitUnit_fr _ _) (by decide) (Fr.step (State.updPc_fr _ _ _) (by decide) (Fr.iteB (Fr.refl _ _) (Fr.step (chanEvent_fr _ _ _ _) (by decide) (Fr.step (chanEvent_fr _ _ _ _) (by decide) (Fr.step (State.updPc_fr _ _ _) (by decide) (Fr.step (addWork_fr _ _ _ _ _) (by decide) (Fr.step (addWork_fr _ _ _ _ _) (by decide) (Fr.step (addWork_fr _ _ _ _ _) (by decide) (Fr.step (addWork_fr _ _ _ _ _) (by decide) (Fr.step (reserveRow_fr _ _ _ _ _) (by decide) (Fr.step (State.storeRow_fr _ _ _) (by decide) (Fr.refl _ _)))))))))))))) (FrO.next (Fr.refl _ _)))

theorem execRowCopy_keeps (q : Sys2Proof.PcId) (s : State) : KeepsO s (execRowCopy q s) := by
  unfold execRowCopy
  exact (KeepsO.ite (KeepsO.next (Keeps.ofFr (commitUnit_fr _ _) (by decide) (Keeps.ofFr (State.updPc_fr _ _ _) (by decide) (Keeps.iteB (Keeps.refl _) (Keeps.ofFr (chanEvent_fr _ _ _ _) (by decide) (Keeps.ofFr (chanEvent_fr _ _ _ _) (by decide) (Keeps.ofFr (State.updPc_fr _ _ _) (by decide) (Keeps.step (addWork_keeps _ _ _ _ _) (Keeps.step (addWork_keeps _ _ _ _ _) (Keeps.step (addWork_keeps _ _ _ _ _) (Keeps.step (addWork_keeps _ _ _ _ _) (Keeps.step (reserveRow_keeps _ _ _ _ _) (Keeps.step (State.storeRow_keeps _ _ _) (Keeps.refl _)))))))))))))) (KeepsO.next (Keeps.refl _)))

theorem execArraySetDone_fr (s : State) : FrO 33554432 s (execArraySetDone s) := by
  unfold execArraySetDone
  exact (FrO.next (Fr.u33554432 (Fr.refl _ _) (by decide)))

theorem execArraySetDone_keeps (s : State) : KeepsO s (execArraySetDone s) :=
  (execArraySetDone_fr _).keeps (by decide)

theorem execLayerAntifuseBurn_fr (t : Sys2Proof.BurnTry) (layerTemp : Sys2Proof.Temp) (s : State) : FrO 399472624 s (execLayerAntifuseBurn t layerTemp s) := by
  unfold execLayerAntifuseBurn
  exact (by (try dsimp only); split <;> (try dsimp only); exact (FrO.next (Fr.u8192 (Fr.refl _ _) (by decide))); exact (FrO.ite (FrO.next (Fr.step (afStep_fr _ _ _ _ _) (by decide) (Fr.u8192 (Fr.refl _ _) (by decide)))) (FrO.next (Fr.u8192 (Fr.refl _ _) (by decide)))))

theorem execLayerAntifuseBurn_keeps (t : Sys2Proof.BurnTry) (layerTemp : Sys2Proof.Temp) (s : State) : KeepsO s (execLayerAntifuseBurn t layerTemp s) := by
  unfold execLayerAntifuseBurn
  exact (by (try dsimp only); split <;> (try dsimp only); exact (KeepsO.next (Keeps.u8192 (Keeps.refl _))); exact (KeepsO.ite (KeepsO.next (Keeps.step (afStep_keeps _ _ _ _ _) (Keeps.u8192 (Keeps.refl _)))) (KeepsO.next (Keeps.u8192 (Keeps.refl _)))))

theorem execFieldFrameBurn_fr (t : Sys2Proof.BurnTry) (s : State) : FrO 399472624 s (execFieldFrameBurn t s) := by
  unfold execFieldFrameBurn
  split
  · exact FrO.next (Fr.refl _ _)
  · split
    · exact FrO.next (Fr.step (burnStep_fr _ _) (by decide) (Fr.refl _ _))
    · split
      · exact FrO.next (Fr.refl _ _)
      · extract_lets x s1 y s2
        have h1 : Fr 399472624 s s1 := Fr.u8192 (Fr.refl _ _) (by decide)
        have h2 : Fr 399472624 s s2 := by
          dsimp only [s2]
          split
          · exact h1
          · exact Fr.u8192 h1 (by decide)
        clear_value s2
        exact FrO.next (Fr.step (burnStep_fr _ _) (by decide) h2)

theorem execFieldFrameBurn_keeps (t : Sys2Proof.BurnTry) (s : State) : KeepsO s (execFieldFrameBurn t s) := by
  unfold execFieldFrameBurn
  split
  · exact KeepsO.next (Keeps.refl _)
  · split
    · exact KeepsO.next (burnStep_keeps _ _)
    · split
      · exact KeepsO.next (Keeps.refl _)
      · extract_lets x s1 y s2
        have h1 : Keeps s s1 := Keeps.u8192 (Keeps.refl _)
        have h2 : Keeps s s2 := by
          dsimp only [s2]
          split
          · exact h1
          · exact Keeps.u8192 h1
        clear_value s2
        exact KeepsO.next (Keeps.step (burnStep_keeps _ _) h2)

theorem execBurnResume_fr (s : State) : FrO 8192 s (execBurnResume s) := by
  unfold execBurnResume
  exact (FrO.next (Fr.iteT (Fr.u8192 (Fr.refl _ _) (by decide)) (Fr.refl _ _)))

theorem execBurnResume_keeps (s : State) : KeepsO s (execBurnResume s) :=
  (execBurnResume_fr _).keeps (by decide)

theorem execShadowParityError_fr (row : Fin 480) (retentionBad : Bool) (s : State) : FrO 399472624 s (execShadowParityError row retentionBad s) := by
  unfold execShadowParityError
  exact (FrO.ite (FrO.next (Fr.step (fault_fr _ _ _) (by decide) (Fr.u8192 (Fr.refl _ _) (by decide)))) (FrO.ite (FrO.next (Fr.step (raiseFault_fr _ _ _ _ _) (by decide) (Fr.step (fault_fr _ _ _) (by decide) (Fr.refl _ _)))) (FrO.next (Fr.step (raiseFault_fr _ _ _ _ _) (by decide) (Fr.u8192 (Fr.step (fault_fr _ _ _) (by decide) (Fr.refl _ _)) (by decide))))))

theorem execShadowParityError_keeps (row : Fin 480) (retentionBad : Bool) (s : State) : KeepsO s (execShadowParityError row retentionBad s) := by
  unfold execShadowParityError
  exact (KeepsO.ite (KeepsO.next (Keeps.step (fault_keeps _ _ _) (Keeps.u8192 (Keeps.refl _)))) (KeepsO.ite (KeepsO.next (Keeps.step (raiseFault_keeps _ _ _ _ _) (Keeps.step (fault_keeps _ _ _) (Keeps.refl _)))) (KeepsO.next (Keeps.step (raiseFault_keeps _ _ _ _ _) (Keeps.u8192 (Keeps.step (fault_keeps _ _ _) (Keeps.refl _)))))))

theorem execJournalRecordWrite_fr (o : Sys2Proof.WriteOutcome) (s : State) : FrO 399466480 s (execJournalRecordWrite o s) := by
  unfold execJournalRecordWrite
  exact (FrO.ite (FrO.next (Fr.refl _ _)) (by (try dsimp only); split <;> (try dsimp only); exact (FrO.next (Fr.refl _ _)); exact (by (try dsimp only); split <;> (try dsimp only); exact (FrO.next (Fr.step (shutdownAdvance_fr _) (by decide) (Fr.step (committed_fr _ _) (by decide) (Fr.step (appendRecord_fr _ _ _ _ _) (by decide) (Fr.u16384 (Fr.u16384 (Fr.refl _ _) (by decide)) (by decide)))))); exact (FrO.ite (FrO.next (Fr.step (shutdownAdvance_fr _) (by decide) (Fr.step (raiseFault_fr _ _ _ _ _) (by decide) (Fr.u16384 (Fr.step (fault_fr _ _ _) (by decide) (Fr.u16384 (Fr.iteT (Fr.step (putRecord_fr _ _ _ _ _) (by decide) (Fr.refl _ _)) (Fr.u16384 (Fr.refl _ _) (by decide))) (by decide))) (by decide))))) (FrO.next (Fr.u16384 (Fr.step (fault_fr _ _ _) (by decide) (Fr.u16384 (Fr.iteT (Fr.step (putRecord_fr _ _ _ _ _) (by decide) (Fr.refl _ _)) (Fr.u16384 (Fr.refl _ _) (by decide))) (by decide))) (by decide)))))))

theorem execJournalRecordWrite_keeps (o : Sys2Proof.WriteOutcome) (s : State) : KeepsO s (execJournalRecordWrite o s) := by
  unfold execJournalRecordWrite
  exact (KeepsO.ite (KeepsO.next (Keeps.refl _)) (by (try dsimp only); split <;> (try dsimp only); exact (KeepsO.next (Keeps.refl _)); exact (by (try dsimp only); split <;> (try dsimp only); exact (KeepsO.next (Keeps.step (shutdownAdvance_keeps _) (Keeps.step (committed_keeps _ _) (Keeps.ofFr (appendRecord_fr _ _ _ _ _) (by decide) (Keeps.u16384 (Keeps.u16384 (Keeps.refl _))))))); exact (KeepsO.ite (KeepsO.next (Keeps.step (shutdownAdvance_keeps _) (Keeps.step (raiseFault_keeps _ _ _ _ _) (Keeps.u16384 (Keeps.step (fault_keeps _ _ _) (Keeps.u16384 (Keeps.iteT (Keeps.ofFr (putRecord_fr _ _ _ _ _) (by decide) (Keeps.refl _)) (Keeps.u16384 (Keeps.refl _))))))))) (KeepsO.next (Keeps.u16384 (Keeps.step (fault_keeps _ _ _) (Keeps.u16384 (Keeps.iteT (Keeps.ofFr (putRecord_fr _ _ _ _ _) (by decide) (Keeps.refl _)) (Keeps.u16384 (Keeps.refl _)))))))))))

theorem execWearAccrual_fr (s : State) : FrO 399464432 s (execWearAccrual s) := by
  unfold execWearAccrual
  refine FrO.ite (FrO.next (chargeAll_fr _ _ (Fr.step (chargeBase_fr _ _ _) (by decide) (Fr.forN (fun _ _ => Fr.iteT (Fr.step (chargeLayer_fr _ _ _ _) (by decide) (Fr.refl _ _)) (Fr.refl _ _)) _ (Fr.refl _ _))))) (FrO.next (Fr.refl _ _))

theorem execWearAccrual_keeps (s : State) : KeepsO s (execWearAccrual s) := by
  unfold execWearAccrual
  refine KeepsO.ite (KeepsO.next (chargeAll_keeps _ _ (Keeps.ofFr (chargeBase_fr _ _ _) (by decide) (Keeps.forN (fun _ _ => Keeps.iteT (Keeps.ofFr (chargeLayer_fr _ _ _ _) (by decide) (Keeps.refl _)) (Keeps.refl _)) _ (Keeps.refl _))))) (KeepsO.next (Keeps.refl _))

theorem execWearLedgerDue_fr (s : State) : FrO 16384 s (execWearLedgerDue s) := by
  unfold execWearLedgerDue
  exact (FrO.next (Fr.iteT (Fr.step (queueRecord_fr _ _) (by decide) (Fr.refl _ _)) (Fr.refl _ _)))

theorem execWearLedgerDue_keeps (s : State) : KeepsO s (execWearLedgerDue s) :=
  (execWearLedgerDue_fr _).keeps (by decide)

theorem execThermalSample_fr (t : List Sys2Proof.SensorReading) (s : State) : FrO 399474672 s (execThermalSample t s) := by
  unfold execThermalSample
  exact (FrO.next (Fr.ite (Fr.step (sample_fr _ _) (by decide) (Fr.refl _ _)) (Fr.step (tripOver_fr _ _) (by decide) (Fr.refl _ _))))

theorem execThermalSample_keeps (t : List Sys2Proof.SensorReading) (s : State) : KeepsO s (execThermalSample t s) := by
  unfold execThermalSample
  exact (KeepsO.next (Keeps.ite (Keeps.step (sample_keeps _ _) (Keeps.refl _)) (Keeps.step (tripOver_keeps _ _) (Keeps.refl _))))

theorem execTripRecordTimeout_fr (s : State) : FrO 2690 s (execTripRecordTimeout s) := by
  unfold execTripRecordTimeout
  exact (FrO.next (Fr.iteT (Fr.step (tripPin_fr _) (by decide) (Fr.step (State.atLeast_fr _ _) (by decide) (Fr.refl _ _))) (Fr.refl _ _)))

theorem execTripRecordTimeout_keeps (s : State) : KeepsO s (execTripRecordTimeout s) := by
  unfold execTripRecordTimeout
  exact (KeepsO.next (Keeps.iteT (Keeps.step (tripPin_keeps _) (Keeps.ofFr (State.atLeast_fr _ _) (by decide) (Keeps.refl _))) (Keeps.refl _)))

theorem execModelUpdate_fr (s : State) : FrO 67110912 s (execModelUpdate s) := by
  unfold execModelUpdate
  exact (FrO.ite (FrO.next (Fr.u2048 (Fr.forN (fun _ _ => (Fr.u2048 (Fr.refl _ _) (by decide))) _ (Fr.forN (fun _ _ => (Fr.iteT (Fr.step (State.updLayer_fr _ _ _) (by decide) (Fr.refl _ _)) (Fr.refl _ _))) _ (Fr.refl _ _))) (by decide))) (FrO.next (Fr.refl _ _)))

theorem execModelUpdate_keeps (s : State) : KeepsO s (execModelUpdate s) := by
  unfold execModelUpdate
  split
  · extract_lets nodes lower upper w s1 s2
    have h1 : Keeps s s1 := Keeps.forN (fun _ _ => Keeps.iteT (Keeps.ofFr (State.updLayer_fr _ _ _) (by decide) (Keeps.refl _)) (Keeps.refl _)) _ (Keeps.refl _)
    have h2 : Keeps s s2 := by
      refine Keeps.forN (fun i t => ?_) 16 h1
      exact Keeps.same rfl rfl rfl ⟨rfl, rfl, rfl⟩ rfl
    clear_value s2
    exact KeepsO.next (Keeps.u2048 h2 rfl)
  · exact KeepsO.next (Keeps.refl _)

theorem execSensorCalibration_fr (vref : BitVec 12) (s : State) : FrO 399466480 s (execSensorCalibration vref s) := by
  unfold execSensorCalibration
  exact (FrO.next (Fr.iteT (Fr.step (sensorRound_fr _ _) (by decide) (Fr.refl _ _)) (Fr.refl _ _)))

theorem execSensorCalibration_keeps (vref : BitVec 12) (s : State) : KeepsO s (execSensorCalibration vref s) := by
  unfold execSensorCalibration
  exact (KeepsO.next (Keeps.iteT (Keeps.step (sensorRound_keeps _ _) (Keeps.refl _)) (Keeps.refl _)))

theorem execZqCalibration_fr (zq : Sys2Proof.ZqMeas) (s : State) : FrO 399464432 s (execZqCalibration zq s) := by
  unfold execZqCalibration
  exact (FrO.next (Fr.iteT (Fr.step (zqRound_fr _ _ _) (by decide) (Fr.refl _ _)) (Fr.refl _ _)))

theorem execZqCalibration_keeps (zq : Sys2Proof.ZqMeas) (s : State) : KeepsO s (execZqCalibration zq s) := by
  unfold execZqCalibration
  exact (KeepsO.next (Keeps.iteT (Keeps.step (zqRound_keeps _ _ _) (Keeps.refl _)) (Keeps.refl _)))

theorem execAonClockDiscipline_fr (ppm : BitVec 16) (s : State) : FrO 399464432 s (execAonClockDiscipline ppm s) := by
  unfold execAonClockDiscipline
  exact (FrO.ite (FrO.next (Fr.iteT (Fr.step (fault_fr _ _ _) (by decide) (Fr.refl _ _)) (Fr.u4096 (Fr.refl _ _) (by decide)))) (FrO.next (Fr.refl _ _)))

theorem execAonClockDiscipline_keeps (ppm : BitVec 16) (s : State) : KeepsO s (execAonClockDiscipline ppm s) := by
  unfold execAonClockDiscipline
  exact (KeepsO.ite (KeepsO.next (Keeps.iteT (Keeps.step (fault_keeps _ _ _) (Keeps.refl _)) (Keeps.u4096 (Keeps.refl _)))) (KeepsO.next (Keeps.refl _)))

theorem execPortIdleDescent_fr (p : Sys2Proof.PortId) (s : State) : FrO 54596226 s (execPortIdleDescent p s) := by
  unfold execPortIdleDescent
  exact (FrO.ite (FrO.next (Fr.step (settleRung_fr _) (by decide) (Fr.step (State.updPort_fr _ _ _) (by decide) (Fr.step (State.atLeast_fr _ _) (by decide) (Fr.refl _ _))))) (FrO.next (Fr.refl _ _)))

theorem execPortIdleDescent_keeps (p : Sys2Proof.PortId) (s : State) : KeepsO s (execPortIdleDescent p s) :=
  (execPortIdleDescent_fr _ _).keeps (by decide)

theorem execPortActivityExit_fr (p : Sys2Proof.PortId) (s : State) : FrO 54612624 s (execPortActivityExit p s) := by
  unfold execPortActivityExit
  exact (FrO.ite (FrO.next (Fr.iteT (Fr.step (wakeEvent_fr _ _ _) (by decide) (Fr.refl _ _)) (Fr.step (portActive_fr _ _) (by decide) (Fr.refl _ _)))) (FrO.next (Fr.refl _ _)))

theorem execPortActivityExit_keeps (p : Sys2Proof.PortId) (s : State) : KeepsO s (execPortActivityExit p s) := by
  unfold execPortActivityExit
  exact (KeepsO.ite (KeepsO.next (Keeps.iteT (Keeps.step (wakeEvent_keeps _ _ _) (Keeps.refl _)) (Keeps.ofFr (portActive_fr _ _) (by decide) (Keeps.refl _)))) (KeepsO.next (Keeps.refl _)))

theorem execRetainIdleExpiry_fr (s : State) : FrO 70274 s (execRetainIdleExpiry s) := by
  unfold execRetainIdleExpiry
  exact (FrO.ite (FrO.next (Fr.step (moveRetain_fr _ _ _) (by decide) (Fr.step (State.atLeast_fr _ _) (by decide) (Fr.refl _ _)))) (FrO.next (Fr.refl _ _)))

theorem execRetainIdleExpiry_keeps (s : State) : KeepsO s (execRetainIdleExpiry s) :=
  (execRetainIdleExpiry_fr _).keeps (by decide)

theorem execEntryComplete_fr (s : State) : FrO 399464432 s (execEntryComplete s) := by
  unfold execEntryComplete
  exact (by (try dsimp only); split <;> (try dsimp only); exact (FrO.next (Fr.refl _ _)); exact (by (try dsimp only); split <;> (try dsimp only); exact (FrO.next (Fr.step (abandonEntry_fr _ _ _) (by decide) (Fr.refl _ _))); exact (FrO.ite (FrO.next (Fr.refl _ _)) (FrO.next (Fr.step (pinShutdown_fr _) (by decide) (Fr.step (completeEntry_fr _ _) (by decide) (Fr.refl _ _)))))))

theorem execEntryComplete_keeps (s : State) : KeepsO s (execEntryComplete s) := by
  unfold execEntryComplete
  exact (by (try dsimp only); split <;> (try dsimp only); exact (KeepsO.next (Keeps.refl _)); exact (by (try dsimp only); split <;> (try dsimp only); exact (KeepsO.next (Keeps.ofFr (abandonEntry_fr _ _ _) (by decide) (Keeps.refl _))); exact (KeepsO.ite (KeepsO.next (Keeps.refl _)) (KeepsO.next (Keeps.step (pinShutdown_keeps _) (Keeps.step (completeEntry_keeps _ _) (Keeps.refl _)))))))

theorem execEntryDelayLimit_fr (b : Sys2Proof.GateId) (s : State) : FrO 70274 s (execEntryDelayLimit b s) := by
  unfold execEntryDelayLimit
  exact (by (try dsimp only); split <;> (try dsimp only); exact (FrO.next (Fr.refl _ _)); exact (FrO.next (Fr.step (abandonEntry_fr _ _ _) (by decide) (Fr.step (State.atLeast_fr _ _) (by decide) (Fr.refl _ _)))))

theorem execEntryDelayLimit_keeps (b : Sys2Proof.GateId) (s : State) : KeepsO s (execEntryDelayLimit b s) :=
  (execEntryDelayLimit_fr _ _).keeps (by decide)

theorem execEntryRetry_fr (s : State) : FrO 50401922 s (execEntryRetry s) := by
  unfold execEntryRetry
  exact (by (try dsimp only); split <;> (try dsimp only); exact (FrO.next (Fr.refl _ _)); exact (FrO.next (Fr.step (settleRung_fr _) (by decide) (Fr.u4096 (Fr.step (State.atLeast_fr _ _) (by decide) (Fr.refl _ _)) (by decide)))))

theorem execEntryRetry_keeps (s : State) : KeepsO s (execEntryRetry s) :=
  (execEntryRetry_fr _).keeps (by decide)

theorem execDwellP3Expiry_fr (s : State) : FrO 70274 s (execDwellP3Expiry s) := by
  unfold execDwellP3Expiry
  exact (FrO.ite (FrO.ite (FrO.next (Fr.step (startEntry_fr _ _) (by decide) (Fr.step (State.atLeast_fr _ _) (by decide) (Fr.refl _ _)))) (FrO.ite (FrO.next (Fr.step (startEntry_fr _ _) (by decide) (Fr.step (State.atLeast_fr _ _) (by decide) (Fr.refl _ _)))) (FrO.next (Fr.refl _ _)))) (FrO.next (Fr.refl _ _)))

theorem execDwellP3Expiry_keeps (s : State) : KeepsO s (execDwellP3Expiry s) :=
  (execDwellP3Expiry_fr _).keeps (by decide)

theorem execDwellP4Expiry_fr (s : State) : FrO 70274 s (execDwellP4Expiry s) := by
  unfold execDwellP4Expiry
  exact (FrO.ite (FrO.next (Fr.step (startEntry_fr _ _) (by decide) (Fr.step (State.atLeast_fr _ _) (by decide) (Fr.refl _ _)))) (FrO.next (Fr.refl _ _)))

theorem execDwellP4Expiry_keeps (s : State) : KeepsO s (execDwellP4Expiry s) :=
  (execDwellP4Expiry_fr _).keeps (by decide)

theorem execWakeNLow_fr (s : State) : FrO 50418320 s (execWakeNLow s) := by
  unfold execWakeNLow
  exact (FrO.next (Fr.step (wakeEvent_fr _ _ _) (by decide) (Fr.u128 (Fr.refl _ _) (by decide))))

theorem execWakeNLow_keeps (s : State) : KeepsO s (execWakeNLow s) := by
  unfold execWakeNLow
  exact (KeepsO.next (Keeps.step (wakeEvent_keeps _ _ _) (Keeps.u128 (Keeps.refl _))))

theorem execPortActivityWake_fr (p : Sys2Proof.PortId) (s : State) : FrO 54612624 s (execPortActivityWake p s) := by
  unfold execPortActivityWake
  exact (FrO.ite (FrO.next (Fr.step (wakeEvent_fr _ _ _) (by decide) (Fr.iteT (Fr.step (portActive_fr _ _) (by decide) (Fr.refl _ _)) (Fr.refl _ _)))) (FrO.next (Fr.refl _ _)))

theorem execPortActivityWake_keeps (p : Sys2Proof.PortId) (s : State) : KeepsO s (execPortActivityWake p s) := by
  unfold execPortActivityWake
  exact (KeepsO.ite (KeepsO.next (Keeps.step (wakeEvent_keeps _ _ _) (Keeps.iteT (Keeps.ofFr (portActive_fr _ _) (by decide) (Keeps.refl _)) (Keeps.refl _)))) (KeepsO.next (Keeps.refl _)))

theorem execLadderTimerWake_fr (s : State) : FrO 50418322 s (execLadderTimerWake s) := by
  unfold execLadderTimerWake
  exact (FrO.ite (FrO.next (Fr.step (wakeEvent_fr _ _ _) (by decide) (Fr.step (State.atLeast_fr _ _) (by decide) (Fr.refl _ _)))) (FrO.next (Fr.refl _ _)))

theorem execLadderTimerWake_keeps (s : State) : KeepsO s (execLadderTimerWake s) := by
  unfold execLadderTimerWake
  exact (KeepsO.ite (KeepsO.next (Keeps.step (wakeEvent_keeps _ _ _) (Keeps.ofFr (State.atLeast_fr _ _) (by decide) (Keeps.refl _)))) (KeepsO.next (Keeps.refl _)))

theorem execThermalWake_fr (k : Sys2Proof.LayerId) (s : State) : FrO 50418320 s (execThermalWake k s) := by
  unfold execThermalWake
  exact (FrO.ite (FrO.next (Fr.step (wakeEvent_fr _ _ _) (by decide) (Fr.u4096 (Fr.refl _ _) (by decide)))) (FrO.next (Fr.refl _ _)))

theorem execThermalWake_keeps (k : Sys2Proof.LayerId) (s : State) : KeepsO s (execThermalWake k s) := by
  unfold execThermalWake
  exact (KeepsO.ite (KeepsO.next (Keeps.step (wakeEvent_keeps _ _ _) (Keeps.u4096 (Keeps.refl _)))) (KeepsO.next (Keeps.refl _)))

theorem execFaultWake_fr (src : Option Sys2Proof.SrcId) (s : State) : FrO 399464432 s (execFaultWake src s) := by
  unfold execFaultWake
  exact (FrO.ite (by (try dsimp only); split <;> (try dsimp only); exact (FrO.next (Fr.step (wakeEvent_fr _ _ _) (by decide) (Fr.step (fault_fr _ _ _) (by decide) (Fr.refl _ _)))); exact (FrO.next (Fr.iteT (Fr.step (wakeEvent_fr _ _ _) (by decide) (Fr.refl _ _)) (Fr.refl _ _)))) (FrO.next (Fr.refl _ _)))

theorem execFaultWake_keeps (src : Option Sys2Proof.SrcId) (s : State) : KeepsO s (execFaultWake src s) := by
  unfold execFaultWake
  exact (KeepsO.ite (by (try dsimp only); split <;> (try dsimp only); exact (KeepsO.next (Keeps.step (wakeEvent_keeps _ _ _) (Keeps.step (fault_keeps _ _ _) (Keeps.refl _)))); exact (KeepsO.next (Keeps.iteT (Keeps.step (wakeEvent_keeps _ _ _) (Keeps.refl _)) (Keeps.refl _)))) (KeepsO.next (Keeps.refl _)))

theorem execTwoWireWake_fr (s : State) : FrO 50549392 s (execTwoWireWake s) := by
  unfold execTwoWireWake
  exact (FrO.next (Fr.step (twoWireWake_fr _) (by decide) (Fr.refl _ _)))

theorem execTwoWireWake_keeps (s : State) : KeepsO s (execTwoWireWake s) := by
  unfold execTwoWireWake
  exact (KeepsO.next (Keeps.step (twoWireWake_keeps _) (Keeps.refl _)))

theorem execWakeExitComplete_fr (key : Sys2Proof.KeyDraw) (t : List Sys2Proof.SensorReading) (s : State) : FrO 399474676 s (execWakeExitComplete key t s) := by
  unfold execWakeExitComplete
  exact (by (try dsimp only); split <;> (try dsimp only); exact (FrO.next (Fr.refl _ _)); exact (FrO.ite (FrO.next (Fr.refl _ _)) (FrO.ite (FrO.ite (FrO.next (Fr.step (standAtP3_fr _ _ _) (by decide) (Fr.step (drawKey_fr _ _ _) (by decide) (Fr.refl _ _)))) (FrO.next (Fr.u262144 (Fr.refl _ _) (by decide)))) (FrO.next (Fr.step (standAtP3_fr _ _ _) (by decide) (Fr.refl _ _))))))

theorem execWakeExitComplete_keeps (key : Sys2Proof.KeyDraw) (t : List Sys2Proof.SensorReading) (s : State) : KeepsO s (execWakeExitComplete key t s) := by
  unfold execWakeExitComplete
  exact (by (try dsimp only); split <;> (try dsimp only); exact (KeepsO.next (Keeps.refl _)); exact (KeepsO.ite (KeepsO.next (Keeps.refl _)) (KeepsO.ite (KeepsO.ite (KeepsO.next (Keeps.step (standAtP3_keeps _ _ _) (Keeps.ofFr (drawKey_fr _ _ _) (by decide) (Keeps.refl _)))) (KeepsO.next (Keeps.u262144 (Keeps.refl _)))) (KeepsO.next (Keeps.step (standAtP3_keeps _ _ _) (Keeps.refl _))))))

theorem execHousekeepingDone_fr (s : State) : FrO 533690352 s (execHousekeepingDone s) := by
  unfold execHousekeepingDone
  exact (FrO.ite (FrO.next (Fr.step (startEntry_fr _ _) (by decide) (Fr.u4096 (Fr.forN (fun _ _ => (Fr.step (readHatboxes_fr _ _ _) (by decide) (Fr.refl _ _))) _ (Fr.refl _ _)) (by decide)))) (FrO.next (Fr.refl _ _)))

theorem execHousekeepingDone_keeps (s : State) : KeepsO s (execHousekeepingDone s) := by
  unfold execHousekeepingDone
  exact (KeepsO.ite (KeepsO.next (Keeps.ofFr (startEntry_fr _ _) (by decide) (Keeps.u4096 (Keeps.forN (fun _ _ => (Keeps.step (readHatboxes_keeps _ _ _) (Keeps.refl _))) _ (Keeps.refl _))))) (KeepsO.next (Keeps.refl _)))

theorem execWakeCauseHandled_fr (s : State) : FrO 4096 s (execWakeCauseHandled s) := by
  unfold execWakeCauseHandled
  exact (FrO.next (Fr.iteT (Fr.u4096 (Fr.refl _ _) (by decide)) (Fr.refl _ _)))

theorem execWakeCauseHandled_keeps (s : State) : KeepsO s (execWakeCauseHandled s) :=
  (execWakeCauseHandled_fr _).keeps (by decide)

theorem execCrossbarParityError_fr (p : Sys2Proof.PortId) (tag : BitVec 10) (second : Bool) (s : State) : FrO 533682160 s (execCrossbarParityError p tag second s) := by
  unfold execCrossbarParityError
  exact (FrO.next (Fr.iteT (Fr.step (crossbarFail_fr _ _ _) (by decide) (Fr.refl _ _)) (Fr.refl _ _)))

theorem execCrossbarParityError_keeps (p : Sys2Proof.PortId) (tag : BitVec 10) (second : Bool) (s : State) : KeepsO s (execCrossbarParityError p tag second s) := by
  unfold execCrossbarParityError
  exact (KeepsO.next (Keeps.iteT (Keeps.step (crossbarFail_keeps _ _ _) (Keeps.refl _)) (Keeps.refl _)))

theorem execFaultRegistration_fr (src : Sys2Proof.SrcId) (d : Sys2Proof.EventDetail) (s : State) : FrO 399466480 s (execFaultRegistration src d s) := by
  unfold execFaultRegistration
  exact (FrO.ite (FrO.next (Fr.step (lockstep_fr _) (by decide) (Fr.refl _ _))) (FrO.ite (FrO.next (Fr.ite (Fr.step (actOn_fr _ _) (by decide) (Fr.refl _ _)) (Fr.step (tripOver_fr _ _) (by decide) (Fr.refl _ _)))) (FrO.ite (FrO.next (Fr.ite (Fr.step (actOn_fr _ _) (by decide) (Fr.u2048 (Fr.refl _ _) (by decide))) (Fr.step (tripOver_fr _ _) (by decide) (Fr.refl _ _)))) (FrO.ite (FrO.next (Fr.step (fault_fr _ _ _) (by decide) (Fr.refl _ _))) (FrO.next (Fr.refl _ _))))))

theorem execFaultRegistration_keeps (src : Sys2Proof.SrcId) (d : Sys2Proof.EventDetail) (s : State) : KeepsO s (execFaultRegistration src d s) := by
  unfold execFaultRegistration
  exact (KeepsO.ite (KeepsO.next (Keeps.step (lockstep_keeps _) (Keeps.refl _))) (KeepsO.ite (KeepsO.next (Keeps.ite (Keeps.step (actOn_keeps _ _) (Keeps.refl _)) (Keeps.step (tripOver_keeps _ _) (Keeps.refl _)))) (KeepsO.ite (KeepsO.next (Keeps.ite (Keeps.step (actOn_keeps _ _) (Keeps.u2048 (Keeps.refl _) rfl)) (Keeps.step (tripOver_keeps _ _) (Keeps.refl _)))) (KeepsO.ite (KeepsO.next (Keeps.step (fault_keeps _ _ _) (Keeps.refl _))) (KeepsO.next (Keeps.refl _))))))

theorem execFaultWindowExpiry_fr (src : Sys2Proof.SrcId) (s : State) : FrO 1026 s (execFaultWindowExpiry src s) := by
  unfold execFaultWindowExpiry
  exact (FrO.next (Fr.iteT (Fr.step (State.updSrc_fr _ _ _) (by decide) (Fr.step (State.atLeast_fr _ _) (by decide) (Fr.refl _ _))) (Fr.refl _ _)))

theorem execFaultWindowExpiry_keeps (src : Sys2Proof.SrcId) (s : State) : KeepsO s (execFaultWindowExpiry src s) := by
  unfold execFaultWindowExpiry
  exact (KeepsO.next (Keeps.iteT (Keeps.step (State.updSrc_keeps _ _ _) (Keeps.ofFr (State.atLeast_fr _ _) (by decide) (Keeps.refl _))) (Keeps.refl _)))

theorem execAonSelfCheck_fr (bad : List Sys2Proof.AonItem) (s : State) : FrO 399464432 s (execAonSelfCheck bad s) := by
  unfold execAonSelfCheck
  exact (FrO.ite (FrO.next (Fr.iteT (Fr.step (raiseOnly_fr _ _ _ _ _) (by decide) (Fr.refl _ _)) (Fr.step (faultMany_fr _ _ _ _) (by decide) (Fr.u1024 (Fr.refl _ _) (by decide))))) (FrO.next (Fr.refl _ _)))

theorem execAonSelfCheck_keeps (bad : List Sys2Proof.AonItem) (s : State) : KeepsO s (execAonSelfCheck bad s) := by
  unfold execAonSelfCheck
  split
  · extract_lets found old checks x s1 s2
    have h1 : Keeps s s1 := ⟨id, id, id, id, id, .inl, fun h => by
      show (s.grave && s.grave || s.grave && s.grave || s.grave && s.grave) = true
      rw [h]
      rfl, fun _ => .inl rfl⟩
    clear_value s1
    exact KeepsO.next (Keeps.iteT (raiseOnly_keeps _ _ _ _ _) (Keeps.step (faultMany_keeps _ _ _ _) h1))
  · exact KeepsO.next (Keeps.refl _)

theorem execCollectorSweep_fr (bad : List (Sys2Proof.SrcId × BitVec 3)) (s : State) : FrO 399464432 s (execCollectorSweep bad s) := by
  unfold execCollectorSweep
  exact (FrO.ite (FrO.next (Fr.step (faultMany_fr _ _ _ _) (by decide) (Fr.forL (fun _ _ => (Fr.step (State.updSrc_fr _ _ _) (by decide) (Fr.refl _ _))) _ (Fr.refl _ _)))) (FrO.next (Fr.refl _ _)))

theorem execCollectorSweep_keeps (bad : List (Sys2Proof.SrcId × BitVec 3)) (s : State) : KeepsO s (execCollectorSweep bad s) := by
  unfold execCollectorSweep
  exact (KeepsO.ite (KeepsO.next (Keeps.step (faultMany_keeps _ _ _ _) (Keeps.forL (fun _ _ => (Keeps.step (State.updSrc_keeps _ _ _) (Keeps.refl _))) _ (Keeps.refl _)))) (KeepsO.next (Keeps.refl _)))

theorem execTraversalBuilt_fr (authOk : Bool) (s : State) : FrO 32768 s (execTraversalBuilt authOk s) := by
  unfold execTraversalBuilt
  exact (FrO.ite (FrO.next (Fr.refl _ _)) (FrO.ite (FrO.next (Fr.u32768 (Fr.refl _ _) (by decide))) (FrO.next (Fr.u32768 (Fr.refl _ _) (by decide)))))

theorem execTraversalBuilt_keeps (authOk : Bool) (s : State) : KeepsO s (execTraversalBuilt authOk s) :=
  (execTraversalBuilt_fr _ _).keeps (by decide)

theorem execReportSigned_fr (t : Sys2Proof.BurnTry) (s : State) : FrO 399505392 s (execReportSigned t s) := by
  unfold execReportSigned
  exact (by (try dsimp only); split <;> (try dsimp only); exact (FrO.next (Fr.refl _ _)); exact (FrO.ite (FrO.next (Fr.u32768 (Fr.refl _ _) (by decide))) (FrO.ite (FrO.next (Fr.step (refuseReport_fr _ _ _ _) (by decide) (Fr.u32768 (Fr.refl _ _) (by decide)))) (FrO.ite (FrO.next (Fr.step (refuseReport_fr _ _ _ _) (by decide) (Fr.u32768 (Fr.refl _ _) (by decide)))) (FrO.ite (FrO.next (Fr.step (refuseReport_fr _ _ _ _) (by decide) (Fr.u32768 (Fr.refl _ _) (by decide)))) (FrO.ite (FrO.next (Fr.step (refuseReport_fr _ _ _ _) (by decide) (Fr.u32768 (Fr.refl _ _) (by decide)))) (FrO.ite (FrO.ite (FrO.next (Fr.step (refuseReport_fr _ _ _ _) (by decide) (Fr.u32768 (Fr.u32768 (Fr.refl _ _) (by decide)) (by decide)))) (by (try dsimp only); split <;> (try dsimp only); exact (FrO.next (Fr.step (signReport_fr _ _) (by decide) (Fr.step (enterBlock_fr _ _) (by decide) (Fr.u32768 (Fr.refl _ _) (by decide))))); exact (FrO.ite (FrO.next (Fr.step (raiseFault_fr _ _ _ _ _) (by decide) (Fr.step (fault_fr _ _ _) (by decide) (Fr.step (refuseReport_fr _ _ _ _) (by decide) (Fr.u32768 (Fr.u32768 (Fr.refl _ _) (by decide)) (by decide)))))) (FrO.next (Fr.step (fault_fr _ _ _) (by decide) (Fr.u32768 (Fr.refl _ _) (by decide))))))) (FrO.next (Fr.step (signReport_fr _ _) (by decide) (Fr.u32768 (Fr.refl _ _) (by decide)))))))))))

theorem execReportSigned_keeps (t : Sys2Proof.BurnTry) (s : State) : KeepsO s (execReportSigned t s) := by
  unfold execReportSigned
  exact (by (try dsimp only); split <;> (try dsimp only); exact (KeepsO.next (Keeps.refl _)); exact (KeepsO.ite (KeepsO.next (Keeps.u32768 (Keeps.refl _))) (KeepsO.ite (KeepsO.next (Keeps.ofFr (refuseReport_fr _ _ _ _) (by decide) (Keeps.u32768 (Keeps.refl _)))) (KeepsO.ite (KeepsO.next (Keeps.ofFr (refuseReport_fr _ _ _ _) (by decide) (Keeps.u32768 (Keeps.refl _)))) (KeepsO.ite (KeepsO.next (Keeps.ofFr (refuseReport_fr _ _ _ _) (by decide) (Keeps.u32768 (Keeps.refl _)))) (KeepsO.ite (KeepsO.next (Keeps.ofFr (refuseReport_fr _ _ _ _) (by decide) (Keeps.u32768 (Keeps.refl _)))) (KeepsO.ite (KeepsO.ite (KeepsO.next (Keeps.ofFr (refuseReport_fr _ _ _ _) (by decide) (Keeps.u32768 (Keeps.u32768 (Keeps.refl _))))) (by (try dsimp only); split <;> (try dsimp only); exact (KeepsO.next (Keeps.step (signReport_keeps _ _) (Keeps.step (enterBlock_keeps _ _) (Keeps.u32768 (Keeps.refl _))))); exact (KeepsO.ite (KeepsO.next (Keeps.step (raiseFault_keeps _ _ _ _ _) (Keeps.step (fault_keeps _ _ _) (Keeps.ofFr (refuseReport_fr _ _ _ _) (by decide) (Keeps.u32768 (Keeps.u32768 (Keeps.refl _))))))) (KeepsO.next (Keeps.step (fault_keeps _ _ _) (Keeps.u32768 (Keeps.refl _))))))) (KeepsO.next (Keeps.step (signReport_keeps _ _) (Keeps.u32768 (Keeps.refl _)))))))))))

theorem execAllowanceGain_fr (s : State) : FrO 32770 s (execAllowanceGain s) := by
  unfold execAllowanceGain
  exact (FrO.ite (FrO.next (Fr.u32768 (Fr.step (State.atLeast_fr _ _) (by decide) (Fr.refl _ _)) (by decide))) (FrO.next (Fr.refl _ _)))

theorem execAllowanceGain_keeps (s : State) : KeepsO s (execAllowanceGain s) :=
  (execAllowanceGain_fr _).keeps (by decide)

theorem execShdnReqNLow_fr (s : State) : FrO 323048064 s (execShdnReqNLow s) := by
  unfold execShdnReqNLow
  exact (FrO.next (Fr.step (pinShutdown_fr _) (by decide) (Fr.u128 (Fr.refl _ _) (by decide))))

theorem execShdnReqNLow_keeps (s : State) : KeepsO s (execShdnReqNLow s) := by
  unfold execShdnReqNLow
  exact (KeepsO.next (Keeps.step (pinShutdown_keeps _) (Keeps.u128 (Keeps.refl _))))

theorem execBistSlotEnd_fr (ends : List Sys2Proof.PartEnd) (s : State) : FrO 399464434 s (execBistSlotEnd ends s) := by
  unfold execBistSlotEnd
  exact (FrO.ite (FrO.next (Fr.iteT (Fr.step (endTest_fr _) (by decide) (Fr.refl _ _)) (Fr.step (faultMany_fr _ _ _ _) (by decide) (Fr.step (State.atLeast_fr _ _) (by decide) (Fr.u65536 (Fr.refl _ _) (by decide)))))) (FrO.next (Fr.refl _ _)))

theorem execBistSlotEnd_keeps (ends : List Sys2Proof.PartEnd) (s : State) : KeepsO s (execBistSlotEnd ends s) := by
  unfold execBistSlotEnd
  exact (KeepsO.ite (KeepsO.next (Keeps.iteT (Keeps.ofFr (endTest_fr _) (by decide) (Keeps.refl _)) (Keeps.step (faultMany_keeps _ _ _ _) (Keeps.ofFr (State.atLeast_fr _ _) (by decide) (Keeps.u65536 (Keeps.refl _)))))) (KeepsO.next (Keeps.refl _)))

theorem execShutdownDeadline_fr (s : State) : FrO 67174530 s (execShutdownDeadline s) := by
  unfold execShutdownDeadline
  exact (FrO.ite (FrO.next (Fr.step (shutdownDone_fr _) (by decide) (Fr.step (State.atLeast_fr _ _) (by decide) (Fr.refl _ _)))) (FrO.next (Fr.refl _ _)))

theorem execShutdownDeadline_keeps (s : State) : KeepsO s (execShutdownDeadline s) :=
  (execShutdownDeadline_fr _).keeps (by decide)

theorem execMbAddressByte_fr (addr : BitVec 7) (read : Bool) (s : State) : FrO 50549392 s (execMbAddressByte addr read s) := by
  unfold execMbAddressByte
  exact (FrO.next (Fr.step (addressByte_fr _ _ _) (by decide) (Fr.refl _ _)))

theorem execMbAddressByte_keeps (addr : BitVec 7) (read : Bool) (s : State) : KeepsO s (execMbAddressByte addr read s) := by
  unfold execMbAddressByte
  exact (KeepsO.next (Keeps.step (addressByte_keeps _ _ _) (Keeps.refl _)))

theorem execMbRegisterAddress_fr (a : BitVec 24) (s : State) : FrO 131072 s (execMbRegisterAddress a s) := by
  unfold execMbRegisterAddress
  exact (FrO.next (Fr.step (registerAddress_fr _ _) (by decide) (Fr.refl _ _)))

theorem execMbRegisterAddress_keeps (a : BitVec 24) (s : State) : KeepsO s (execMbRegisterAddress a s) :=
  (execMbRegisterAddress_fr _ _).keeps (by decide)

theorem execRegisterWrite_fr (data : Sys2Proof.Word) (pec : Sys2Proof.Byte) (s : State) : FrO 533725172 s (execRegisterWrite data pec s) := by
  unfold execRegisterWrite
  exact (FrO.next (Fr.step (registerWrite_fr _ _ _) (by decide) (Fr.refl _ _)))

theorem execRegisterWrite_keeps (data : Sys2Proof.Word) (pec : Sys2Proof.Byte) (s : State) : KeepsO s (execRegisterWrite data pec s) := by
  unfold execRegisterWrite
  exact (KeepsO.next (Keeps.step (registerWrite_keeps _ _ _) (Keeps.refl _)))

theorem execReadClear_fr (s : State) : FrO 147215364 s (execReadClear s) := by
  unfold execReadClear
  exact (FrO.next (by (try dsimp only); split <;> (try dsimp only); exact (Fr.iteT (Fr.step (readOut_fr _ _ _) (by decide) (Fr.refl _ _)) (Fr.refl _ _)); exact (Fr.refl _ _)))

theorem execReadClear_keeps (s : State) : KeepsO s (execReadClear s) := by
  unfold execReadClear
  exact (KeepsO.next (by (try dsimp only); split <;> (try dsimp only); exact (Keeps.iteT (Keeps.step (readOut_keeps _ _ _) (Keeps.refl _)) (Keeps.refl _)); exact (Keeps.refl _)))

theorem execPmcCycleLoRead_fr (set : Fin 32) (s : State) : FrO 147215364 s (execPmcCycleLoRead set s) := by
  unfold execPmcCycleLoRead
  exact (FrO.next (Fr.iteT (Fr.step (readOut_fr _ _ _) (by decide) (Fr.refl _ _)) (Fr.refl _ _)))

theorem execPmcCycleLoRead_keeps (set : Fin 32) (s : State) : KeepsO s (execPmcCycleLoRead set s) := by
  unfold execPmcCycleLoRead
  exact (KeepsO.next (Keeps.iteT (Keeps.step (readOut_keeps _ _ _) (Keeps.refl _)) (Keeps.refl _)))

theorem execMbTransferEnd_fr (insideByte : Bool) (sending : Bool) (start : Bool) (s : State) : FrO 399464432 s (execMbTransferEnd insideByte sending start s) := by
  unfold execMbTransferEnd
  exact (FrO.next (Fr.step (transferEnd_fr _ _ _ _) (by decide) (Fr.refl _ _)))

theorem execMbTransferEnd_keeps (insideByte : Bool) (sending : Bool) (start : Bool) (s : State) : KeepsO s (execMbTransferEnd insideByte sending start s) := by
  unfold execMbTransferEnd
  exact (KeepsO.next (Keeps.step (transferEnd_keeps _ _ _ _) (Keeps.refl _)))

theorem execLongOpEnd_fr (s : State) : FrO 147456 s (execLongOpEnd s) := by
  unfold execLongOpEnd
  exact (FrO.next (by (try dsimp only); split <;> (try dsimp only); exact (Fr.iteT (Fr.step (recordOp_fr _ _ _ _) (by decide) (Fr.iteT (Fr.step (readJournal_fr _) (by decide) (Fr.refl _ _)) (Fr.refl _ _))) (Fr.refl _ _)); exact (Fr.refl _ _)))

theorem execLongOpEnd_keeps (s : State) : KeepsO s (execLongOpEnd s) :=
  (execLongOpEnd_fr _).keeps (by decide)

theorem execLongOpBound_fr (s : State) : FrO 131586 s (execLongOpBound s) := by
  unfold execLongOpBound
  exact (FrO.next (by (try dsimp only); split <;> (try dsimp only); exact (Fr.iteT (Fr.step (recordOp_fr _ _ _ _) (by decide) (Fr.step (dropOp_fr _ _) (by decide) (Fr.step (State.atLeast_fr _ _) (by decide) (Fr.refl _ _)))) (Fr.refl _ _)); exact (Fr.refl _ _)))

theorem execLongOpBound_keeps (s : State) : KeepsO s (execLongOpBound s) :=
  (execLongOpBound_fr _).keeps (by decide)

theorem execAttentionRequest_fr (sdaHigh : Bool) (s : State) : FrO 131072 s (execAttentionRequest sdaHigh s) := by
  unfold execAttentionRequest
  exact (FrO.next (Fr.iteT (Fr.u131072 (Fr.refl _ _) (by decide)) (Fr.refl _ _)))

theorem execAttentionRequest_keeps (sdaHigh : Bool) (s : State) : KeepsO s (execAttentionRequest sdaHigh s) :=
  (execAttentionRequest_fr _ _).keeps (by decide)

theorem execAttentionSclFall_fr (afterTenMicros : Bool) (won : Bool) (accepted : Bool) (s : State) : FrO 131072 s (execAttentionSclFall afterTenMicros won accepted s) := by
  unfold execAttentionSclFall
  exact (FrO.ite (FrO.next (Fr.refl _ _)) (FrO.next (Fr.iteB (Fr.u131072 (Fr.refl _ _) (by decide)) (Fr.ite (Fr.u131072 (Fr.refl _ _) (by decide)) (Fr.u131072 (Fr.refl _ _) (by decide))))))

theorem execAttentionSclFall_keeps (afterTenMicros : Bool) (won : Bool) (accepted : Bool) (s : State) : KeepsO s (execAttentionSclFall afterTenMicros won accepted s) :=
  (execAttentionSclFall_fr _ _ _ _).keeps (by decide)

theorem execAttentionUnserved_fr (s : State) : FrO 131074 s (execAttentionUnserved s) := by
  unfold execAttentionUnserved
  exact (FrO.ite (FrO.next (Fr.u131072 (Fr.step (State.atLeast_fr _ _) (by decide) (Fr.refl _ _)) (by decide))) (FrO.next (Fr.refl _ _)))

theorem execAttentionUnserved_keeps (s : State) : KeepsO s (execAttentionUnserved s) :=
  (execAttentionUnserved_fr _).keeps (by decide)

theorem execSclTimeout_fr (s : State) : FrO 399464432 s (execSclTimeout s) := by
  unfold execSclTimeout
  exact (FrO.next (Fr.step (hangUp_fr _ _) (by decide) (Fr.refl _ _)))

theorem execSclTimeout_keeps (s : State) : KeepsO s (execSclTimeout s) := by
  unfold execSclTimeout
  exact (KeepsO.next (Keeps.step (hangUp_keeps _ _) (Keeps.refl _)))

theorem execSdaReleaseTimeout_fr (s : State) : FrO 399464432 s (execSdaReleaseTimeout s) := by
  unfold execSdaReleaseTimeout
  exact (FrO.next (Fr.step (hangUp_fr _ _) (by decide) (Fr.refl _ _)))

theorem execSdaReleaseTimeout_keeps (s : State) : KeepsO s (execSdaReleaseTimeout s) := by
  unfold execSdaReleaseTimeout
  exact (KeepsO.next (Keeps.step (hangUp_keeps _ _) (Keeps.refl _)))

theorem execMoveToRetain_fr (s : State) : FrO 533723120 s (execMoveToRetain s) := by
  unfold execMoveToRetain
  exact (FrO.next (Fr.step (commit_fr _ _) (by decide) (Fr.refl _ _)))

theorem execMoveToRetain_keeps (s : State) : KeepsO s (execMoveToRetain s) := by
  unfold execMoveToRetain
  exact (KeepsO.next (Keeps.step (commit_keeps _ _) (Keeps.refl _)))

theorem execReturnToService_fr (s : State) : FrO 533723120 s (execReturnToService s) := by
  unfold execReturnToService
  exact (FrO.next (Fr.step (commit_fr _ _) (by decide) (Fr.refl _ _)))

theorem execReturnToService_keeps (s : State) : KeepsO s (execReturnToService s) := by
  unfold execReturnToService
  exact (KeepsO.next (Keeps.step (commit_keeps _ _) (Keeps.refl _)))

theorem execDescendNow_fr (s : State) : FrO 533723120 s (execDescendNow s) := by
  unfold execDescendNow
  exact (FrO.next (Fr.step (commit_fr _ _) (by decide) (Fr.refl _ _)))

theorem execDescendNow_keeps (s : State) : KeepsO s (execDescendNow s) := by
  unfold execDescendNow
  exact (KeepsO.next (Keeps.step (commit_keeps _ _) (Keeps.refl _)))

theorem execRetrain_fr (p : Sys2Proof.PortId) (s : State) : FrO 533723120 s (execRetrain p s) := by
  unfold execRetrain
  exact (FrO.next (Fr.step (commit_fr _ _) (by decide) (Fr.refl _ _)))

theorem execRetrain_keeps (p : Sys2Proof.PortId) (s : State) : KeepsO s (execRetrain p s) := by
  unfold execRetrain
  exact (KeepsO.next (Keeps.step (commit_keeps _ _) (Keeps.refl _)))

theorem execDown_fr (p : Sys2Proof.PortId) (level : Bool) (s : State) : FrO 533723120 s (execDown p level s) := by
  unfold execDown
  exact (FrO.next (Fr.step (commit_fr _ _) (by decide) (Fr.refl _ _)))

theorem execDown_keeps (p : Sys2Proof.PortId) (level : Bool) (s : State) : KeepsO s (execDown p level s) := by
  unfold execDown
  exact (KeepsO.next (Keeps.step (commit_keeps _ _) (Keeps.refl _)))

theorem execNearEndSerialLoop_fr (p : Sys2Proof.PortId) (prbs31 : Bool) (lanes : BitVec 4) (errors : List ℕ) (s : State) : FrO 533723120 s (execNearEndSerialLoop p prbs31 lanes errors s) := by
  unfold execNearEndSerialLoop
  exact (FrO.next (Fr.step (commit_fr _ _) (by decide) (Fr.refl _ _)))

theorem execNearEndSerialLoop_keeps (p : Sys2Proof.PortId) (prbs31 : Bool) (lanes : BitVec 4) (errors : List ℕ) (s : State) : KeepsO s (execNearEndSerialLoop p prbs31 lanes errors s) := by
  unfold execNearEndSerialLoop
  exact (KeepsO.next (Keeps.step (commit_keeps _ _) (Keeps.refl _)))

theorem execNearEndParallelLoop_fr (p : Sys2Proof.PortId) (prbs31 : Bool) (run : Sys2Proof.LoopRun) (s : State) : FrO 533723120 s (execNearEndParallelLoop p prbs31 run s) := by
  unfold execNearEndParallelLoop
  exact (FrO.next (Fr.step (commit_fr _ _) (by decide) (Fr.refl _ _)))

theorem execNearEndParallelLoop_keeps (p : Sys2Proof.PortId) (prbs31 : Bool) (run : Sys2Proof.LoopRun) (s : State) : KeepsO s (execNearEndParallelLoop p prbs31 run s) := by
  unfold execNearEndParallelLoop
  exact (KeepsO.next (Keeps.step (commit_keeps _ _) (Keeps.refl _)))

theorem execFarEndLoop_fr (p : Sys2Proof.PortId) (prbs31 : Bool) (lanes : BitVec 4) (s : State) : FrO 533723120 s (execFarEndLoop p prbs31 lanes s) := by
  unfold execFarEndLoop
  exact (FrO.next (Fr.step (commit_fr _ _) (by decide) (Fr.refl _ _)))

theorem execFarEndLoop_keeps (p : Sys2Proof.PortId) (prbs31 : Bool) (lanes : BitVec 4) (s : State) : KeepsO s (execFarEndLoop p prbs31 lanes s) := by
  unfold execFarEndLoop
  exact (KeepsO.next (Keeps.step (commit_keeps _ _) (Keeps.refl _)))

theorem execFenceLift_fr (p : Sys2Proof.PortId) (s : State) : FrO 533723120 s (execFenceLift p s) := by
  unfold execFenceLift
  exact (FrO.next (Fr.step (commit_fr _ _) (by decide) (Fr.refl _ _)))

theorem execFenceLift_keeps (p : Sys2Proof.PortId) (s : State) : KeepsO s (execFenceLift p s) := by
  unfold execFenceLift
  exact (KeepsO.next (Keeps.step (commit_keeps _ _) (Keeps.refl _)))

theorem execPortFence_fr (p : Sys2Proof.PortId) (s : State) : FrO 533723120 s (execPortFence p s) := by
  unfold execPortFence
  exact (FrO.next (Fr.step (commit_fr _ _) (by decide) (Fr.refl _ _)))

theorem execPortFence_keeps (p : Sys2Proof.PortId) (s : State) : KeepsO s (execPortFence p s) := by
  unfold execPortFence
  exact (KeepsO.next (Keeps.step (commit_keeps _ _) (Keeps.refl _)))

theorem execFltForce_fr (src : Sys2Proof.SrcId) (s : State) : FrO 533723120 s (execFltForce src s) := by
  unfold execFltForce
  exact (FrO.next (Fr.step (commit_fr _ _) (by decide) (Fr.refl _ _)))

theorem execFltForce_keeps (src : Sys2Proof.SrcId) (s : State) : KeepsO s (execFltForce src s) := by
  unfold execFltForce
  exact (KeepsO.next (Keeps.step (commit_keeps _ _) (Keeps.refl _)))

theorem execFltClear_fr (src : Sys2Proof.SrcId) (s : State) : FrO 533723120 s (execFltClear src s) := by
  unfold execFltClear
  exact (FrO.next (Fr.step (commit_fr _ _) (by decide) (Fr.refl _ _)))

theorem execFltClear_keeps (src : Sys2Proof.SrcId) (s : State) : KeepsO s (execFltClear src s) := by
  unfold execFltClear
  exact (KeepsO.next (Keeps.step (commit_keeps _ _) (Keeps.refl _)))

theorem execPmcClear_fr (set : Fin 32) (s : State) : FrO 533723120 s (execPmcClear set s) := by
  unfold execPmcClear
  exact (FrO.next (Fr.step (commit_fr _ _) (by decide) (Fr.refl _ _)))

theorem execPmcClear_keeps (set : Fin 32) (s : State) : KeepsO s (execPmcClear set s) := by
  unfold execPmcClear
  exact (KeepsO.next (Keeps.step (commit_keeps _ _) (Keeps.refl _)))

theorem execRecalibrationGo_fr (n : Sys2Proof.ChanId) (pc : Bool) (layer : BitVec 5) (s : State) : FrO 533723120 s (execRecalibrationGo n pc layer s) := by
  unfold execRecalibrationGo
  exact (FrO.next (Fr.step (commit_fr _ _) (by decide) (Fr.refl _ _)))

theorem execRecalibrationGo_keeps (n : Sys2Proof.ChanId) (pc : Bool) (layer : BitVec 5) (s : State) : KeepsO s (execRecalibrationGo n pc layer s) := by
  unfold execRecalibrationGo
  exact (KeepsO.next (Keeps.step (commit_keeps _ _) (Keeps.refl _)))

theorem execPredictorReset_fr (n : Sys2Proof.ChanId) (s : State) : FrO 533723120 s (execPredictorReset n s) := by
  unfold execPredictorReset
  exact (FrO.next (Fr.step (commit_fr _ _) (by decide) (Fr.refl _ _)))

theorem execPredictorReset_keeps (n : Sys2Proof.ChanId) (s : State) : KeepsO s (execPredictorReset n s) := by
  unfold execPredictorReset
  exact (KeepsO.next (Keeps.step (commit_keeps _ _) (Keeps.refl _)))

theorem execXlate_fr (s : State) : FrO 533723120 s (execXlate s) := by
  unfold execXlate
  exact (FrO.next (Fr.step (commit_fr _ _) (by decide) (Fr.refl _ _)))

theorem execXlate_keeps (s : State) : KeepsO s (execXlate s) := by
  unfold execXlate
  exact (KeepsO.next (Keeps.step (commit_keeps _ _) (Keeps.refl _)))

theorem execRepCmdMapOut_fr (channel : Sys2Proof.ChanId) (pc : Bool) (layer : BitVec 5) (bank : Sys2Proof.BankId) (s : State) : FrO 533723120 s (execRepCmdMapOut channel pc layer bank s) := by
  unfold execRepCmdMapOut
  exact (FrO.next (Fr.step (commit_fr _ _) (by decide) (Fr.refl _ _)))

theorem execRepCmdMapOut_keeps (channel : Sys2Proof.ChanId) (pc : Bool) (layer : BitVec 5) (bank : Sys2Proof.BankId) (s : State) : KeepsO s (execRepCmdMapOut channel pc layer bank s) := by
  unfold execRepCmdMapOut
  exact (KeepsO.next (Keeps.step (commit_keeps _ _) (Keeps.refl _)))

theorem execRepCmdRetireRank_fr (channel : Sys2Proof.ChanId) (layer : BitVec 5) (s : State) : FrO 533723120 s (execRepCmdRetireRank channel layer s) := by
  unfold execRepCmdRetireRank
  exact (FrO.next (Fr.step (commit_fr _ _) (by decide) (Fr.refl _ _)))

theorem execRepCmdRetireRank_keeps (channel : Sys2Proof.ChanId) (layer : BitVec 5) (s : State) : KeepsO s (execRepCmdRetireRank channel layer s) := by
  unfold execRepCmdRetireRank
  exact (KeepsO.next (Keeps.step (commit_keeps _ _) (Keeps.refl _)))

theorem execRepCmdRetireLayer_fr (layer : BitVec 5) (s : State) : FrO 533723120 s (execRepCmdRetireLayer layer s) := by
  unfold execRepCmdRetireLayer
  exact (FrO.next (Fr.step (commit_fr _ _) (by decide) (Fr.refl _ _)))

theorem execRepCmdRetireLayer_keeps (layer : BitVec 5) (s : State) : KeepsO s (execRepCmdRetireLayer layer s) := by
  unfold execRepCmdRetireLayer
  exact (KeepsO.next (Keeps.step (commit_keeps _ _) (Keeps.refl _)))

theorem execOtpBurn_fr (t : Sys2Proof.BurnTry) (s : State) : FrO 533723120 s (execOtpBurn t s) := by
  unfold execOtpBurn
  exact (FrO.next (Fr.step (commit_fr _ _) (by decide) (Fr.refl _ _)))

theorem execOtpBurn_keeps (t : Sys2Proof.BurnTry) (s : State) : KeepsO s (execOtpBurn t s) := by
  unfold execOtpBurn
  exact (KeepsO.next (Keeps.step (commit_keeps _ _) (Keeps.refl _)))

theorem execApplyOverride_fr (s : State) : FrO 533723120 s (execApplyOverride s) := by
  unfold execApplyOverride
  exact (FrO.next (Fr.step (commit_fr _ _) (by decide) (Fr.refl _ _)))

theorem execApplyOverride_keeps (s : State) : KeepsO s (execApplyOverride s) := by
  unfold execApplyOverride
  exact (KeepsO.next (Keeps.step (commit_keeps _ _) (Keeps.refl _)))

theorem execClearOverrides_fr (s : State) : FrO 533723120 s (execClearOverrides s) := by
  unfold execClearOverrides
  exact (FrO.next (Fr.step (commit_fr _ _) (by decide) (Fr.refl _ _)))

theorem execClearOverrides_keeps (s : State) : KeepsO s (execClearOverrides s) := by
  unfold execClearOverrides
  exact (KeepsO.next (Keeps.step (commit_keeps _ _) (Keeps.refl _)))

theorem execJournalFlush_fr (s : State) : FrO 533723120 s (execJournalFlush s) := by
  unfold execJournalFlush
  exact (FrO.next (Fr.step (commit_fr _ _) (by decide) (Fr.refl _ _)))

theorem execJournalFlush_keeps (s : State) : KeepsO s (execJournalFlush s) := by
  unfold execJournalFlush
  exact (KeepsO.next (Keeps.step (commit_keeps _ _) (Keeps.refl _)))

theorem execJournalRead_fr (s : State) : FrO 533723120 s (execJournalRead s) := by
  unfold execJournalRead
  exact (FrO.next (Fr.step (commit_fr _ _) (by decide) (Fr.refl _ _)))

theorem execJournalRead_keeps (s : State) : KeepsO s (execJournalRead s) := by
  unfold execJournalRead
  exact (KeepsO.next (Keeps.step (commit_keeps _ _) (Keeps.refl _)))

theorem execAttReportRequest_fr (s : State) : FrO 533723120 s (execAttReportRequest s) := by
  unfold execAttReportRequest
  exact (FrO.next (Fr.step (commit_fr _ _) (by decide) (Fr.refl _ _)))

theorem execAttReportRequest_keeps (s : State) : KeepsO s (execAttReportRequest s) := by
  unfold execAttReportRequest
  exact (KeepsO.next (Keeps.step (commit_keeps _ _) (Keeps.refl _)))

theorem execBistShutdownGo_fr (s : State) : FrO 533723120 s (execBistShutdownGo s) := by
  unfold execBistShutdownGo
  exact (FrO.next (Fr.step (commit_fr _ _) (by decide) (Fr.refl _ _)))

theorem execBistShutdownGo_keeps (s : State) : KeepsO s (execBistShutdownGo s) := by
  unfold execBistShutdownGo
  exact (KeepsO.next (Keeps.step (commit_keeps _ _) (Keeps.refl _)))

theorem execBistPartitionGo_fr (mask : BitVec 20) (s : State) : FrO 533723120 s (execBistPartitionGo mask s) := by
  unfold execBistPartitionGo
  exact (FrO.next (Fr.step (commit_fr _ _) (by decide) (Fr.refl _ _)))

theorem execBistPartitionGo_keeps (mask : BitVec 20) (s : State) : KeepsO s (execBistPartitionGo mask s) := by
  unfold execBistPartitionGo
  exact (KeepsO.next (Keeps.step (commit_keeps _ _) (Keeps.refl _)))

theorem execTrstNLow_fr (s : State) : FrO 1048704 s (execTrstNLow s) := by
  unfold execTrstNLow
  exact (FrO.next (Fr.u1048704 (Fr.refl _ _) (by decide)))

theorem execTrstNLow_keeps (s : State) : KeepsO s (execTrstNLow s) :=
  (execTrstNLow_fr _).keeps (by decide)

theorem execBypass_fr (s : State) : FrO 1048704 s (execBypass s) := by
  unfold execBypass
  exact (FrO.next (Fr.step (tapSelect_fr _ _) (by decide) (Fr.refl _ _)))

theorem execBypass_keeps (s : State) : KeepsO s (execBypass s) :=
  (execBypass_fr _).keeps (by decide)

theorem execIdcode_fr (s : State) : FrO 1048704 s (execIdcode s) := by
  unfold execIdcode
  exact (FrO.next (Fr.step (tapSelect_fr _ _) (by decide) (Fr.refl _ _)))

theorem execIdcode_keeps (s : State) : KeepsO s (execIdcode s) :=
  (execIdcode_fr _).keeps (by decide)

theorem execSamplePreload_fr (s : State) : FrO 400513008 s (execSamplePreload s) := by
  exact FrO.next ((tapFactory_fr _ _ _ (fun _ => (sampleBalls_fr _).mono (by decide))).mono (by decide))

theorem execSamplePreload_keeps (s : State) : KeepsO s (execSamplePreload s) := by
  exact KeepsO.next (tapFactory_keeps _ _ _ (fun _ => Keeps.ofFr (sampleBalls_fr _) (by decide) (Keeps.refl _)))

theorem execExtest_fr (s : State) : FrO 400513008 s (execExtest s) := by
  exact FrO.next ((tapFactory_fr _ _ _ (fun _ => Fr.refl _ _)).mono (by decide))

theorem execExtest_keeps (s : State) : KeepsO s (execExtest s) := by
  exact KeepsO.next (tapFactory_keeps _ _ _ (fun _ => Keeps.refl _))

theorem execClamp_fr (s : State) : FrO 400513008 s (execClamp s) := by
  exact FrO.next ((tapFactory_fr _ _ _ (fun _ => Fr.refl _ _)).mono (by decide))

theorem execClamp_keeps (s : State) : KeepsO s (execClamp s) := by
  exact KeepsO.next (tapFactory_keeps _ _ _ (fun _ => Keeps.refl _))

theorem execHighz_fr (s : State) : FrO 400513008 s (execHighz s) := by
  exact FrO.next ((tapFactory_fr _ _ _ (fun _ => Fr.refl _ _)).mono (by decide))

theorem execHighz_keeps (s : State) : KeepsO s (execHighz s) := by
  exact KeepsO.next (tapFactory_keeps _ _ _ (fun _ => Keeps.refl _))

theorem execExtestPulse_fr (s : State) : FrO 400513008 s (execExtestPulse s) := by
  exact FrO.next ((tapFactory_fr _ _ _ (fun _ => Fr.refl _ _)).mono (by decide))

theorem execExtestPulse_keeps (s : State) : KeepsO s (execExtestPulse s) := by
  exact KeepsO.next (tapFactory_keeps _ _ _ (fun _ => Keeps.refl _))

theorem execExtestTrain_fr (s : State) : FrO 400513008 s (execExtestTrain s) := by
  exact FrO.next ((tapFactory_fr _ _ _ (fun _ => Fr.refl _ _)).mono (by decide))

theorem execExtestTrain_keeps (s : State) : KeepsO s (execExtestTrain s) := by
  exact KeepsO.next (tapFactory_keeps _ _ _ (fun _ => Keeps.refl _))

theorem execDieSelect_fr (layers : BitVec 18) (s : State) : FrO 400513008 s (execDieSelect layers s) := by
  exact FrO.next ((tapFactory_fr _ _ _ (fun _ => Fr.u1048576 (Fr.refl _ _) (by decide))).mono (by decide))

theorem execDieSelect_keeps (layers : BitVec 18) (s : State) : KeepsO s (execDieSelect layers s) := by
  exact KeepsO.next (tapFactory_keeps _ _ _ (fun _ => Keeps.u1048576 (Keeps.refl _)))

theorem execDieAccess_fr (data : List (Sys2Proof.LayerId × Sys2Proof.Word)) (s : State) : FrO 400513008 s (execDieAccess data s) := by
  exact FrO.next ((tapFactory_fr _ _ _ (fun _ => (shiftWrappers_fr _ _).mono (by decide))).mono (by decide))

theorem execDieAccess_keeps (data : List (Sys2Proof.LayerId × Sys2Proof.Word)) (s : State) : KeepsO s (execDieAccess data s) := by
  exact KeepsO.next (tapFactory_keeps _ _ _ (fun _ => Keeps.ofFr (shiftWrappers_fr _ _) (by decide) (Keeps.refl _)))

theorem execResetNLow_fr (s : State) : FrO 384 s (execResetNLow s) := by
  unfold execResetNLow
  exact (FrO.next (Fr.iteT (Fr.u384 (Fr.refl _ _) (by decide)) (Fr.u128 (Fr.refl _ _) (by decide))))

theorem execResetNLow_keeps (s : State) : KeepsO s (execResetNLow s) :=
  (execResetNLow_fr _).keeps (by decide)

theorem execSchedulerTick_fr (s : State) : FrO 457261442 s (execSchedulerTick s) := by
  unfold execSchedulerTick
  exact (FrO.ite (FrO.next (Fr.refl _ _)) (FrO.next (Fr.step (shutdownAdvance_fr _) (by decide) (Fr.iteT (Fr.forN (fun _ _ => (Fr.step (tickSet_fr _ _) (by decide) (Fr.refl _ _))) _ (Fr.refl _ _)) (Fr.step (bootTick_fr _) (by decide) (Fr.u2 (Fr.refl _ _) (by decide)))))))

theorem execSchedulerTick_keeps (s : State) : KeepsO s (execSchedulerTick s) := by
  unfold execSchedulerTick
  exact (KeepsO.ite (KeepsO.next (Keeps.refl _)) (KeepsO.next (Keeps.step (shutdownAdvance_keeps _) (Keeps.iteT (Keeps.forN (fun _ _ => (Keeps.ofFr (tickSet_fr _ _) (by decide) (Keeps.refl _))) _ (Keeps.refl _)) (Keeps.ofFr (bootTick_fr _) (by decide) (Keeps.u2 (Keeps.refl _)))))))

end Sys2Proof.Machine
end

