-- ==== Sys2Proof/Tests/Slice0.lean ====
section
/-! SUPPORT. The model's own tests: an ill-formed operand for each check of WellFormed, and for each statement with hypotheses a witness at which every clause's hypotheses hold and its conclusion is seen. Expected values are read off the rules named. -/

open Sys2Proof Sys2Proof.Machine

set_option Elab.async false

namespace Sys2Proof.Tests

/-! ## Well-formed operands -/

/-- The device of the tests: a CML1618 with every layer fitted and two liners. -/
def ident : Identity where
  deviceId := 0x1234
  part := 1
  fitted := 0x3FFFF
  liners := [16, 17]
  rankMap := (List.range 512).map (fun i => Fin.ofNat 18 (i % 16))
  dieRev := 1
  pubKey := List.replicate 17 7
  zqTx := 5
  zqRx := 6

/-- A code as R129 asks for: the 56 columns of weight 3, with any vendor key. -/
def rom : DieRom where
  code := [7, 11, 19, 35, 67, 131, 13, 21, 37, 69, 133, 25, 41, 73, 137, 49, 81, 145, 97, 161, 193, 14, 22, 38, 70, 134, 26, 42, 74, 138,
    50, 82, 146, 98, 162, 194, 28, 44, 76, 140, 52, 84, 148, 100, 164, 196, 56, 88, 152, 104, 168, 200, 112, 176, 208, 224]
  vendorKey := 7

def readout : OtpReadout := { rows := [], rom := rom, ident := ident }
/-- A row that reads the same at both margins. -/
def rowOf (n : Nat) (v : BitVec 64) : OtpRow := { row := Fin.ofNat 512 n, normal := v, strict := v }
def reading (v : Temp) : SensorReading := { sensor := .layerA 0, value := some v }
def key : KeyDraw := { raw := List.replicate 128 0x5A, healthy := true }
/-- A record with its CHECK. -/
def checked (r : JournalRecord) : JournalRecord := { r with check := recordCheck r }
def record (n : Nat) : JournalRecord :=
  checked { sector := 0, offset := 16, commit := 0x3C, kind := 9, inst := 0xFF, seq := 1, boot := 0, payload := List.replicate n 0, check := 0 }
def badCopy : ImageCopy where
  magic := 0
  format := 0
  headerLen := 0
  sequence := 0
  bodyLen := 16
  part := 0
  signer := 0
  sectionCount := 1
  reserved := 0
  bodyDigest := 0
  signerKey := 0
  signature := List.replicate 2820 0
  body := [0, 0, 0]
def layerInitRead (k : KeyDraw) (l : List SensorReading) : LayerInitRead := { key := k, failed := [], readings := l, vref := 0, bins := [] }

theorem test_wellFormed_refuses_otp_readouts :
    wellFormed (.otpShadowLoad readout) = true ∧
    wellFormed (.otpShadowLoad { readout with rows := [rowOf 3 0, rowOf 3 0] }) = false ∧
    wellFormed (.otpShadowLoad { readout with rom := { rom with code := 3 :: rom.code.drop 1 } }) = false ∧
    wellFormed (.otpShadowLoad { readout with rom := { rom with code := 11 :: rom.code.drop 1 } }) = false ∧
    wellFormed (.otpShadowLoad { readout with rom := { rom with code := rom.code.drop 1 } }) = false ∧
    wellFormed (.otpShadowLoad { readout with ident := { ident with pubKey := [] } }) = false ∧
    wellFormed (.otpShadowLoad { readout with ident := { ident with liners := [15, 16, 17] } }) = false ∧
    wellFormed (.otpShadowLoad { readout with ident := { ident with rankMap := [] } }) = false := by decide +kernel

theorem test_wellFormed_refuses_images_and_records :
    wellFormed (.imageSelection ⟨some badCopy, none, true, false, []⟩) = false ∧
    wellFormed (.imageSelection ⟨none, some { badCopy with body := [0, 0, 0, 0], signature := [] }, true, false, []⟩) = false ∧
    wellFormed (.imageSelection ⟨some { badCopy with body := [0, 0, 0, 0] }, none, true, false, []⟩) = true ∧
    wellFormed (.journalScan ⟨[record 8], false⟩) = true ∧
    wellFormed (.journalScan ⟨[{ record 8 with offset := 17 }], false⟩) = false ∧
    wellFormed (.journalScan ⟨[record 4096], false⟩) = false := by decide +kernel

theorem test_wellFormed_refuses_sensors_and_keys :
    wellFormed (.thermalSample [reading 1, reading 2]) = false ∧ wellFormed (.thermalSample [reading 1]) = true ∧
    wellFormed (.thermalGate [reading 1, reading 2]) = false ∧
    wellFormed (.layerInit (layerInitRead key [reading 1])) = true ∧
    wellFormed (.layerInit (layerInitRead key [reading 1, reading 2])) = false ∧
    wellFormed (.layerInit (layerInitRead { raw := [], healthy := true } [])) = false ∧
    wellFormed (.wakeExitComplete key [reading 1, reading 2]) = false ∧
    wellFormed (.wakeExitComplete { raw := [], healthy := true } []) = false := by decide +kernel

theorem test_wellFormed_refuses_link_and_test_operands :
    wellFormed (.symlockComplete 0 [⟨1, 0, 1⟩]) = true ∧
    wellFormed (.symlockComplete 0 [⟨1, 0, 1⟩, ⟨1, 2, 1⟩]) = false ∧ wellFormed (.symlockTimeout 0 [⟨1, 0, 1⟩, ⟨1, 2, 1⟩]) = false ∧
    wellFormed (.nearEndParallelLoop 0 true ⟨1, [0, 0, 0]⟩) = false ∧ wellFormed (.nearEndLoopResult 0 ⟨true, [0, 0, 0]⟩) = false ∧
    wellFormed (.nearEndSerialLoop 0 true 1 [0, 0, 0]) = false ∧ wellFormed (.nearEndSerialLoop 0 true 1 [0, 0, 0, 0]) = true ∧
    wellFormed (.bistSlotEnd []) = false ∧ wellFormed (.bistSlotEnd [⟨1, 0, 0⟩, ⟨1, 1, 0⟩]) = false ∧
    wellFormed (.bistSlotEnd [⟨1, 0, 0⟩, ⟨2, 0, 0⟩, ⟨3, 0, 0⟩]) = false ∧ wellFormed (.bistSlotEnd [⟨1, 0, 0⟩]) = true ∧
    wellFormed (.flitReceived 0 (.lanes [List.replicate 136 0] false)) = true ∧
    wellFormed (.flitReceived 0 (.lanes [List.replicate 136 0, List.replicate 135 0] false)) = false ∧
    wellFormed (.flitReceived 0 (.lanes (List.replicate 3 (List.replicate 136 0)) false)) = false ∧
    wellFormed (.flitReceived 0 (.flit 0 [0, 0, 0])) = false ∧ wellFormed (.flitReceived 0 (.flit 0 [0, 0, 0, 0])) = true ∧
    wellFormed (.bistPartitionGo 0) = false ∧ wellFormed (.bistPartitionGo 1) = true := by decide +kernel

/-! ## Witnesses: start-up -/

/-- The next state of a command; the state itself where it does not complete. -/
def after (c : Instr) (s : State) : State := match exec c s with | .next t => t | _ => s

/-- BOOT at step `k` with the supervisor pair running and a device that is known from step 5 on. -/
def bootAt (k : Nat) : State :=
  { pwrgood := true, boot.step := k, sup.running := true, pins.vcoreOk := true, otp.ident := if 5 ≤ k then some ident else none }

/-- SERVICE on a known device, the loaded fault table in force, clocks on the PLLs. -/
def serving : State :=
  { bootAt 10 with mode := .service, flt.loaded := true, pwr.refclk := true, pwr.corePll := true, pwr.fastRc := false, now := 1000
                   boot.step5 := true, boot.step6 := true }

theorem witness_StepRunsTheCommandInFront :
    ({ serving with pending := [.schedulerTick, .trstNLow] } : State).pending = .schedulerTick :: [.trstNLow] ∧
    serving.pending = [] := by decide

theorem witness_PowerGoodHighStartsBoot :
    State.reset.pwrgood = false ∧ (after (.pwrgoodHigh 3) State.reset).pins.maddr = 3 ∧
    (after (.pwrgoodHigh 3) State.reset).boot.step = 1 ∧ (bootAt 3).pwrgood = true ∧ after (.pwrgoodHigh 3) (bootAt 3) = bootAt 3 := by
  decide +kernel

theorem witness_ResetAndCoreVoltageGateBoot :
    (bootAt 3).sampling = true ∧ (bootAt 3).boot.step = 3 ∧ (bootAt 3).sup.running = true ∧
    (after .resetNHigh (bootAt 3)).boot.step = 4 ∧ (bootAt 2).sampling = true ∧ (bootAt 2).boot.step ≠ 3 ∧
    serving.sampling = false ∧
    (let a : State := { bootAt 2 with sup.running := false }
     a.sampling = true ∧ a.sup.running = false ∧ a.pins.vcoreOk = true ∧ (after .fastRcStable a).boot.step = 4) ∧
    (let a : State := { bootAt 2 with sup.running := false, pins.vcoreOk := false }
     a.sampling = true ∧ a.sup.running = false ∧ a.pins.vcoreOk = false ∧ (after .fastRcStable a).boot.vcoreWait = true) ∧
    (let a : State := { serving with pwr.wake := some ⟨5, 1, true, 0⟩ }
     a.sampling = false ∧ a.pwr.wake.isSome = true ∧ a.pwr.raising = false) := by decide +kernel

theorem witness_LostCoreVoltageClockOrSupervisorIsGrave :
    (serving.coreClocks = true ∧ serving.mode ≠ .hold ∧ serving.holdCause = 0 ∧ serving.pwr.raising = false ∧
      serving.pwr.lowering = false ∧ (after .vcoreOkLow serving).mode = .hold ∧ (after .vcoreOkLow serving).holdCause = 1 ∧
      (after .vcoreOkLow serving).grave = true) ∧
    (let a : State := { serving with pwr.raising := true, pwr.raiseAt := 7 }
     a.pwr.raising = true ∧ a.mode ≠ .hold ∧ a.mode ≠ .trip ∧ a.holdCause = 0 ∧ (after .vcoreRaiseTimeout a).mode = .hold ∧
       50007 ≤ (after .vcoreRaiseTimeout a).now) ∧
    (let a : State := { serving with pwr.wake := some ⟨5, 1, true, 0⟩, pwr.refclk := false, pwr.corePll := false }
     a.pwr.wake = some ⟨5, 1, true, 0⟩ ∧ a.pwr.refclk = false ∧ a.pwr.corePll = false ∧ a.mode ≠ .hold ∧ a.mode ≠ .trip ∧
       a.holdCause = 0 ∧ (after .refclkWaitTimeout a).mode = .hold ∧ (after .refclkWaitTimeout a).grave = true) ∧
    (let a : State := (serving.updSrc 2 (fun x => { x with n := 1 }))
     let b : State := { a with sup.restarting := true }
     b.sup.restarting = true ∧ b.collectorOff = false ∧ (b.src 2).n = 1 ∧ (b.src 2).windowOpen = false ∧ b.mode ≠ .hold ∧
       b.mode ≠ .trip ∧ b.holdCause = 0 ∧ (after .supervisorRestartOverrun b).mode = .hold ∧
       ((after .supervisorRestartOverrun b).src 2).escalations = satInc (b.src 2).escalations) := by decide +kernel

/-! A valid image copy, a readable OTP and cool sensors. The digest of the program and the check bits and SEGCHECKs of the OTP rows were
worked out by another program from the rules named. -/

/-- A directory entry of version 1. -/
def entryWords (typ inst at_ length : Nat) : List Nat := [typ + inst * 2 ^ 16 + 2 ^ 24, at_, length, 0]

/-- A PORT section: enabled, width maximum 2, rung floor 1, window length 8 µs, one window of 128 TRACTs, one G contract of `budget`. -/
def portWords (budget : Nat) : List Nat :=
  [1 + 2 * 2 + 256 * 8 + 65536, 0, 0, 0] ++ [3, 0, 0, 128] ++ List.replicate 60 0 ++ [1 + 4 * 12, budget] ++ List.replicate 126 0

/-- A MICROCODE section with a program of four zero words, its SHAKE256 digest, and a signature of zeros (R122). -/
def codeWords : List Nat :=
  [0x00010000, 16, 0, 0] ++ [0x3CB270D5, 0x434F5F45, 0xAA34BFC4, 0x28762B6F, 0x17D63DC9, 0xD3CBE78D, 0xB8AE812E, 0x26036379]
    ++ List.replicate 716 0

/-- The digest of a copy's body in its header. -/
def withDigest (c : ImageCopy) : ImageCopy :=
  { c with bodyDigest := shake256 ((List.range (c.bodyLen.toNat / 4)).flatMap (fun i => leBytes 4 (c.bodyWord i).toNat)) }

/-- The header's digest does not change what the directory locates. -/
theorem sec_withDigest (c : ImageCopy) (k : Nat) : (withDigest c).sec k = c.sec k := rfl

/-- A copy with GLOBAL, PORT 0 and MICROCODE sections. -/
def copyOf (seq : Nat) : ImageCopy where
  magic := 0x494C4D43
  format := 1
  headerLen := 0x100
  sequence := BitVec.ofNat 32 seq
  bodyLen := 3760
  part := 0
  signer := 1
  sectionCount := 3
  reserved := 0
  bodyDigest := 0
  signerKey := 7
  signature := List.replicate 2820 0
  body := (entryWords 1 0xFF 48 16 ++ entryWords 2 0 64 0x310 ++ entryWords 8 0xFF 848 0xB60 ++ [0, 0, 0, 0] ++ portWords 2048
    ++ codeWords).map (BitVec.ofNat 32)

/-- The same with a FACTORY token for device 0x1234 (R91). -/
def tokenCopy : ImageCopy :=
  { copyOf 1 with
    bodyLen := 6640
    sectionCount := 4
    body := (entryWords 0x11 0xFF 64 0xB30 ++ entryWords 1 0xFF 2928 16 ++ entryWords 2 0 2944 0x310 ++ entryWords 8 0xFF 3728 0xB60
      ++ [0x1234] ++ List.replicate 715 0 ++ [0, 0, 0, 0] ++ portWords 2048 ++ codeWords).map (BitVec.ofNat 32) }

/-- The signatures of a copy that verify under one key: the header's, the program's, the token's. -/
def signaturesOf (c : ImageCopy) : List SigCheck :=
  let code := (c.sec 8).toList.map (fun x => { key := 7, message := x.bytes 0 0x40, signature := x.bytes 0x40 0xB44 })
  let token := (c.sec 0x11).toList.map (fun x => { key := 7, message := x.bytes 0 0x20, signature := x.bytes 0x20 0xB24 })
  { key := c.signerKey, message := headerBytes c, signature := c.signature } :: (code ++ token)

/-- A device whose vendor key is 7, at step 5. -/
def vendorBoot : State := { bootAt 5 with otp.rom.vendorKey := 7 }

/-- What a copy's check comes to where its header's signature and digest are as `withDigest` and `signaturesOf` give them. -/
theorem copyCause_withDigest (c : ImageCopy) (s : State) (x : ImageSection) (v : List SigCheck)
    (hv : ∀ e ∈ signaturesOf (withDigest c), e ∈ v)
    (hs : c.signer = 1) (hk : c.signerKey = 7) (hr : s.otp.rom.vendorKey = 7)
    (hd : (directoryOk c && microcodeLocated c) = true) (hx : c.sec 8 = some x) (hm : microcodeOf c = c.sec 8)
    (hl : (layoutOk c && c.sections.all (sectionOk s)) = true) (hp : c.part = 0) (ha : c.sections.any (namesAbsent s) = false) :
    copyCause v s (withDigest c) = 0 := by
  have h1 : bodyDigestOk (withDigest c) = true := decide_eq_true rfl
  have h2 : headerSigned v (withDigest c) = true := by
    simp only [headerSigned, verifies, List.contains_iff_mem]; exact hv _ (by simp [signaturesOf])
  have h3 : ((microcodeOf (withDigest c)).all (codeSigned v s)) = true := by
    have : microcodeOf (withDigest c) = some x := (show _ = microcodeOf c from rfl).trans (hm.trans hx)
    rw [this]
    simp only [Option.all_some, codeSigned, verifies, hr, List.contains_iff_mem]
    exact hv _ (by
      have : (withDigest c).sec 8 = some x := hx
      simp [signaturesOf, this])
  have e1 : directoryOk (withDigest c) = directoryOk c := rfl
  have e2 : microcodeLocated (withDigest c) = microcodeLocated c := rfl
  have e3 : layoutOk (withDigest c) = layoutOk c := rfl
  have e4 : (withDigest c).sections = c.sections := rfl
  have e5 : (withDigest c).part = c.part := rfl
  have e6 : (withDigest c).signer = c.signer := rfl
  have e7 : (withDigest c).signerKey = c.signerKey := rfl
  simp [copyCause, h1, h2, h3, e1, e2, e3, e4, e5, e6, e7, hs, hk, hr, hd, hl, hp, ha]

/-- What `copyCause_withDigest` asks of the test copies. -/
theorem test_copies_pass_every_check : ∀ c ∈ [copyOf 1, copyOf 2, tokenCopy],
    headerOk c = true ∧ copyOk c = true ∧ c.signer = 1 ∧ c.signerKey = 7 ∧ (directoryOk c && microcodeLocated c) = true ∧
    microcodeOf c = c.sec 8 ∧ (c.sec 8).isSome = true ∧ (layoutOk c && c.sections.all (sectionOk vendorBoot)) = true ∧ c.part = 0 ∧
    c.sections.any (namesAbsent vendorBoot) = false := by decide +kernel

/-- A word of a section is a word of the body. -/
theorem word_of_body {c : ImageCopy} {e : DirEntry} {l : List Word} (i : Nat) (h : (⟨e, l⟩ : ImageSection) ∈ c.sections)
    (hi : i < e.length.toNat / 4) : (⟨e, l⟩ : ImageSection).word i = (c.body.getD (e.offset.toNat / 4 + i) 0).toNat := by
  simp only [ImageCopy.sections, List.mem_map, ImageSection.mk.injEq] at h
  obtain ⟨k, -, rfl, rfl⟩ := h
  simp [ImageSection.word, List.getD_eq_getElem?_getD, List.getElem?_drop, hi]

theorem test_token_names_the_device : ∃ x, tokenCopy.sec 0x11 = some x ∧
    x.word 0 + x.word 1 * 2 ^ 32 + x.word 2 * 2 ^ 64 + x.word 3 * 2 ^ 96 = vendorBoot.deviceId := by
  have h : ((tokenCopy.sec 0x11).map (·.dir)).any (fun d => decide (d.offset.toNat / 4 = 16) && decide (d.length.toNat / 4 = 716)) = true := by
    decide +kernel
  have hb : [tokenCopy.body.getD 16 0, tokenCopy.body.getD 17 0, tokenCopy.body.getD 18 0, tokenCopy.body.getD 19 0] = [0x1234, 0, 0, 0] := by
    decide +kernel
  have hd : vendorBoot.deviceId = 0x1234 := by decide
  cases hx : tokenCopy.sec 0x11 with
  | none => simp [hx] at h
  | some x =>
    obtain ⟨e, l⟩ := x
    have hm := List.mem_of_find?_eq_some hx
    simp only [hx, Option.map_some, Option.any_some, Bool.and_eq_true, decide_eq_true_eq] at h
    simp only [List.cons.injEq, and_true] at hb
    refine ⟨_, rfl, ?_⟩
    simp only [word_of_body _ hm (show 0 < e.length.toNat / 4 by omega), word_of_body _ hm (show 1 < e.length.toNat / 4 by omega),
      word_of_body _ hm (show 2 < e.length.toNat / 4 by omega), word_of_body _ hm (show 3 < e.length.toNat / 4 by omega), h.1, hb, hd]
    rfl

/-- No source of the default table asks for HOLD, and none but those of a fixed class stands at GRAVE (R426). -/
theorem calm_of_default {s : State} (h : s.flt.sources = []) : s.calm := by
  intro n
  have : s.src n = srcDefault n := by simp [State.src, h]
  rw [this]
  by_cases hn : n < 256
  · exact (by decide +kernel : ∀ n, n < 256 → (srcDefault n).react.getLsbD 8 = false ∧
      (fixedClass n = none → (srcDefault n).cls.toNat ≤ 3)) n hn
  · have h9 : ∀ k, k < 256 → n ≠ k := fun k hk e => hn (e ▸ hk)
    simp [srcDefault, fixedClass, reservedSource, mkSource, h9, show 247 ≤ n by omega]

/-- A layer that has no reading yet is cool. -/
theorem cool_of_layers {s : State} {layer base : Int} (h1 : ∀ e ∈ s.layers, e.2.temp = 0 ∧ e.2.sensA = none ∧ e.2.sensB = none)
    (h2 : s.thm.sensors = []) (h3 : 0 < layer) (_ : 0 < base) : s.heldBelow layer base := by
  have h : ∀ (l : List (Nat × Layer)) (k : Nat), (∀ e ∈ l, e.2.temp = 0 ∧ e.2.sensA = none ∧ e.2.sensB = none) →
      (tabGet {} l k).temp = 0 ∧ (tabGet {} l k).sensA = none ∧ (tabGet {} l k).sensB = none := by
    intro l k
    induction l with
    | nil => simp
    | cons e t ih => intro he; simp only [tabGet]; split <;> simp_all
  refine ⟨fun k => ?_, fun i v hv => ?_⟩
  · obtain ⟨a, b, c⟩ := h s.layers k h1
    have e : s.layer k = tabGet {} s.layers k := rfl
    rw [e, a, b, c]
    exact ⟨by simp only [degC]; omega, by simp, by simp⟩
  · simp [State.baseSensor, h2] at hv

/-- `readingsBelow` of a list written out. -/
theorem readingsBelow_of {layer base : Int} {l : List SensorReading}
    (h : l.all (fun r => r.value.all (fun v => decide (v.val + 8 < (match r.sensor with | .base _ => degC base | _ => degC layer)))) = true) :
    readingsBelow layer base l := by
  intro r hr v hv
  have := List.all_eq_true.mp h r hr
  rw [hv] at this
  exact of_decide_eq_true this

/-- Written out, `State.quiet`. -/
def quietB (n : Nat) (s : State) : Bool :=
  !s.collectorOff && s.counts n && decide ((s.src n).last ≠ some s.now) && !((s.src n).count1 s.now).2

/-- A readout with committed IDENT, TRIM and BIST_EXP segments: their commit rows with SEGCHECK and check bits (R129, R133, R134). -/
def goodOtp : OtpReadout :=
  { readout with rows := [rowOf 15 0xFCA55A450E7CAD8D, rowOf 47 0x56A55A0B3D0259C2, rowOf 73 0xE3A55AC41DFB0E88] }

theorem witness_ShadowLoadResolvesOrHolds :
    wellFormed (.otpShadowLoad goodOtp) = true ∧ (bootAt 4).atStep 4 = true ∧ (bootAt 4).sup.running = true ∧
    (loadOtp goodOtp (bootAt 4).otp).fails = [] ∧ (loadOtp goodOtp (bootAt 4).otp).ident = some ident ∧
    (loadOtp readout (bootAt 4).otp).ident = none ∧ ((bootAt 4).src 228).react.getLsbD 8 = false ∧
    ((bootAt 4).src 228).cls.toNat ≤ 3 ∧ (bootAt 4).holdCause = 0 ∧ serving.atStep 4 = false := by decide +kernel

theorem witness_ImageSelectionTakesTheHighestValidCopy :
    (∀ c ∈ [copyOf 1, copyOf 2, tokenCopy], ∀ v, (∀ e ∈ signaturesOf (withDigest c), e ∈ v) →
      headerOk (withDigest c) = true ∧ copyCause v vendorBoot (withDigest c) = 0 ∧
      copyCause v { vendorBoot with boot.rerun := true, boot.imageSel := 1 } (withDigest c) = 0) ∧
    vendorBoot.atStep 5 = true ∧ vendorBoot.boot.rerun = false ∧ vendorBoot.holdCause = 0 ∧
    ({ vendorBoot with boot.rerun := true, boot.imageSel := 1 } : State).atStep 5 = true ∧
    (withDigest (copyOf 1)).sequence.toNat < (withDigest (copyOf 2)).sequence.toNat ∧
    ∃ x, (withDigest tokenCopy).sec 0x11 = some x ∧
      verifies (signaturesOf (withDigest tokenCopy)) vendorBoot.otp.rom.vendorKey (x.bytes 0 0x20) (x.bytes 0x20 0xB24) = true ∧
      x.word 0 + x.word 1 * 2 ^ 32 + x.word 2 * 2 ^ 64 + x.word 3 * 2 ^ 96 = vendorBoot.deviceId := by
  refine ⟨fun c hc v hv => ?_, rfl, rfl, rfl, rfl, show (copyOf 1).sequence.toNat < (copyOf 2).sequence.toNat by decide, ?_⟩
  · obtain ⟨h1, -, h3, h4, h5, h6, h7, h8, h9, h10⟩ := test_copies_pass_every_check c hc
    obtain ⟨x, hx⟩ := Option.isSome_iff_exists.mp h7
    exact ⟨h1, copyCause_withDigest c _ x v hv h3 h4 rfl h5 hx h6 h8 h9 h10,
      copyCause_withDigest c _ x v hv h3 h4 rfl h5 hx h6 h8 h9 h10⟩
  · obtain ⟨x, hx, hd⟩ := test_token_names_the_device
    have h : vendorBoot.otp.rom.vendorKey = 7 := rfl
    have hx' : (withDigest tokenCopy).sec 0x11 = some x := (sec_withDigest _ _).trans hx
    refine ⟨x, hx', ?_, hd⟩
    rw [verifies, h, List.contains_iff_mem, signaturesOf, hx']
    exact List.mem_cons_of_mem _ (List.mem_append_right _ (List.mem_singleton.mpr rfl))

/-- A self-test record with STATUS `a` for partition 16 and `b` for partition 19, 0x1 for the others (R491). -/
def bistRecord (a b : Byte) : JournalRecord :=
  checked { record 0 with
    kind := 3
    payload := List.replicate 16 0 ++ (List.range 20).flatMap (fun i =>
      (if i = 16 then a else if i = 19 then b else 1) :: List.replicate 15 0) }

theorem witness_JournalScanTakesTheNewestRecords :
    (bootAt 6).calm ∧ (bootAt 6).atStep 6 = true ∧ (bootAt 6).bist.parts = [] ∧ (bootAt 6).holdCause = 0 ∧
    (after (.journalScan ⟨[record 8], false⟩) (bootAt 6)).jnl.sector = 0 ∧
    (after (.journalScan ⟨[record 8], false⟩) (bootAt 6)).jnl.offset = 48 ∧
    (after (.journalScan ⟨[record 8], false⟩) (bootAt 6)).boot.step = 7 ∧
    newestValid (scanned [record 8]) 3 = none ∧
    newestValid (scanned [bistRecord 1 1]) 3 = some (bistRecord 1 1) ∧ newestValid (scanned [bistRecord 1 2]) 3 = some (bistRecord 1 2) ∧
    payloadNat (bistRecord 1 2) 320 1 % 8 = 2 ∧ (∀ i, i < 20 → payloadNat (bistRecord 1 2) (16 + 16 * i) 1 ≠ 3) ∧
    payloadNat (bistRecord 1 1) 272 1 % 8 ≠ 2 ∧ payloadNat (bistRecord 1 1) 320 1 % 8 ≠ 2 ∧
    (after (.journalScan ⟨[bistRecord 1 2], false⟩) (bootAt 6)).holdCause = 4 :=
  ⟨calm_of_default rfl, by decide +kernel⟩

def zq : ZqMeas := { milliohm := 240000, tx := 20, rx := 21 }

theorem witness_PllLockMovesTheClocks :
    (bootAt 7).atStep 7 = true ∧ ((bootAt 7).boot.factoryReq && (bootAt 7).boot.tokenOk) = false ∧ 228000 ≤ zq.milliohm ∧
    zq.milliohm ≤ 252000 ∧ (bootAt 7).portPresent 3 = true ∧ ((after (.pllLock zq) (bootAt 7)).port 3).lnk.pll = true ∧
    (after (.pllLock zq) (bootAt 7)).pwr.corePll = true ∧
    (let a : State := { bootAt 7 with boot.factoryReq := true, boot.tokenOk := true }
     a.atStep 7 = true ∧ a.pins.shdnReqN = true ∧ (after (.pllLock zq) a).mode = .factory) ∧
    (let a : State := { bootAt 7 with otp.ident := some { ident with part := 4 } }
     a.atStep 7 = true ∧ a.portPresent 9 = false ∧ ((after (.pllLock zq) a).port 9).lnk.pll = false) ∧
    (bootAt 7).holdCause = 0 ∧ (after (.pllLockTimeout false) (bootAt 7)).holdCause = 3 ∧
    (let a : State := (bootAt 7).updSrc 3 (fun x => { x with n := 2 })
     a.atStep 7 = true ∧ quietB 3 a = true ∧ ((after (.pllLockTimeout true) a).src 3).total = 1) := by decide +kernel

/-- Step 8 on a device that refuses to start with a failed layer. -/
def refusing : State := { bootAt 8 with rep.layerPolicy := true, rep.rankMap := rankMapOf ident }

theorem witness_LayerInitDrawsTheKey :
    (bootAt 8).calm ∧ (bootAt 8).heldBelow 105 115 ∧ readingsBelow 105 115 [reading 100] ∧
    (bootAt 8).atStep 8 = true ∧ (bootAt 8).rep.keyPending = false ∧ key.healthy = true ∧ (layerInitRead key []).failed = [] ∧
    (let r := layerInitRead { key with healthy := false } []
     let a : State := { bootAt 8 with rep.keyPending := true, boot.initRead := some r }
     r.key.healthy = false ∧ (after (.layerInit r) (bootAt 8)).boot.initRead = some r ∧ a.rep.keyPending = true) ∧
    (let a : State := { serving with rep.keyPending := true, pwr.wake := some ⟨5, 1, true, 5⟩ }
     a.rep.keyPending = true ∧ a.sup.restarting = false ∧ a.boot.initRead = none ∧
       (after (.keyDrawFallback [1]) a).pwr.wake = some ⟨5, 1, true, 6⟩) ∧
    refusing.refuse = true ∧ (applyRepairs (excludeFailed refusing)).sliceUsed 0 3 = true ∧
    (after (.layerInit { layerInitRead key [] with failed := [3] }) refusing).holdCause = 5 :=
  ⟨calm_of_default rfl, cool_of_layers (by decide) rfl (by decide) (by decide), readingsBelow_of (by decide), by decide +kernel⟩

/-- Layer 3 powered. -/
def powered (s : State) : State := s.updLayer 3 (fun x => { x with powered := true })

theorem witness_ThermalGateWaitsForCoolSensors :
    (powered (bootAt 9)).calm ∧ (powered (bootAt 9)).heldBelow 82 92 ∧ (powered (bootAt 9)).heldBelow 105 115 ∧
    readingsBelow 82 92 [⟨.layerA 3, some 160⟩, ⟨.base 2, some 160⟩] ∧ readingsBelow 105 115 [⟨.layerA 3, some 330⟩] ∧
    (let s := powered (bootAt 9)
     let l : List SensorReading := [⟨.layerA 3, some 160⟩, ⟨.base 2, some 160⟩]
     s.atStep 9 = true ∧ (after (.thermalGate l) s).boot.step = 10) ∧
    (let s := powered (bootAt 9)
     let l : List SensorReading := [⟨.layerA 3, some 330⟩]
     readingsOk l = true ∧ (s.layer 3).powered = true ∧ degC 82 ≤ (330 : Temp).val ∧
       (after (.thermalGate l) s).boot.step = 9 ∧ (after (.thermalGate l) s).boot.thermalWait = true) := by
  exact ⟨calm_of_default rfl, cool_of_layers (by decide) rfl (by decide) (by decide),
    cool_of_layers (by decide) rfl (by decide) (by decide), readingsBelow_of (by decide), readingsBelow_of (by decide), by decide +kernel⟩

/-! ## Witnesses: training, clocks, gloves, bring-up -/

/-- A port whose PLL stands, enabled with one contract of `budget` blocks per window. -/
def readyPort (budget : Nat) : Port :=
  { cfg := { enable := true, widthMax := 2, windowLen := 8, contracts := [(0, { cls := 1, budget := BitVec.ofNat 32 budget })] }
    lnk := { pll := true } }

/-- What is kept of a copy in use. -/
def imageOne : ImageInfo := { sequence := 1, signer := 1, headerDigest := 0, codeDigest := 0 }

/-- BOOT step 10 with an image loaded, clocks up and port 0 ready. -/
def trainBoot (budget : Nat) : State :=
  { bootAt 10 with image := some imageOne, pwr.refclk := true, pwr.corePll := true, ports := [(0, readyPort budget)], boot.imageSel := 1 }

def noTrain : TrainRead := { checkFailed := [], failed := [], stillFailed := [] }

theorem witness_TrainingEndsInBringUpFallbackOrHold :
    (let s := trainBoot 2048
     let e := after (.tsvTraining noTrain) s
     s.atStep 10 = true ∧ noTrain.failed = [] ∧ s.budgetCheck.getLsbD 1 = true ∧ s.minimumSet = true ∧
       (∀ p, p < 16 → (s.port p).lnk.link ≠ .active) ∧ s.portUp 0 = true ∧ (s.port 0).lnk.link = .off ∧ (s.port 0).lnk.down = false ∧
       (e.port 0).lnk.link = .detect ∧ e.boot.partnerWait = true) ∧
    (let s : State := { trainBoot 2048 with pwr.refclk := false, pwr.corePll := false }
     s.atStep 10 = true ∧ s.budgetCheck.getLsbD 1 = true ∧ s.minimumSet = false ∧ s.holdCause = 0 ∧
       (after (.tsvTraining noTrain) s).holdCause = 3) ∧
    (let s := trainBoot 9000000
     s.atStep 10 = true ∧ s.budgetCheck.getLsbD 1 = false ∧ s.boot.rerun = false ∧ s.boot.imageSel = 1 ∧ s.boot.causeB = 0xF ∧
       (after (.tsvTraining noTrain) s).boot.step = 5) ∧
    (let s : State := { trainBoot 9000000 with boot.imageSel := 2, boot.causeA := 1 }
     s.atStep 10 = true ∧ s.budgetCheck.getLsbD 1 = false ∧ s.boot.rerun = false ∧ s.boot.imageSel = 2 ∧ s.boot.causeA = 1 ∧
       (after (.tsvTraining noTrain) s).boot.causeB = 8) ∧
    (let s : State := { trainBoot 9000000 with boot.fallback := true, boot.rerun := true }
     s.atStep 10 = true ∧ s.budgetCheck.getLsbD 1 = false ∧ s.boot.rerun = true ∧ s.holdCause = 0 ∧
       (after (.tsvTraining noTrain) s).holdCause = 2) ∧
    (let s : State := { trainBoot 9000000 with boot.causeB := 4 }
     s.atStep 10 = true ∧ s.budgetCheck.getLsbD 1 = false ∧ s.boot.imageSel = 1 ∧ s.boot.causeB ≠ 0xF ∧ s.boot.causeB ≠ 1 ∧
       s.holdCause = 0 ∧ (after (.tsvTraining noTrain) s).holdCause = 2) := by decide +kernel

/-- The loaded table gives source `n` two events in a window. -/
def twoEvents (n : Nat) (s : State) : State := s.updSrc n (fun x => { x with n := 2, t := 10, cls := 1 })
theorem witness_SupervisorMismatchRestartsThePair :
    (let s := twoEvents 1 serving
     s.sup.running = true ∧ s.sup.restarting = false ∧ s.mode ≠ .boot ∧ quietB 1 s = true ∧
       (after .lockstepMismatch s).sup.restarting = true ∧ ((after .lockstepMismatch s).src 1).total = 1) ∧
    (let s : State := twoEvents 1 { bootAt 9 with flt.loaded := true, boot.mismatches := 1 }
     s.sup.running = true ∧ s.sup.restarting = false ∧ s.mode = .boot ∧ s.boot.mismatches < 2 ∧ quietB 1 s = true ∧
       (after .lockstepMismatch s).sup.restarting = true ∧ (after .lockstepMismatch s).boot.mismatches = 2) ∧
    (let s : State := { bootAt 9 with boot.mismatches := 2 }
     s.sup.running = true ∧ s.sup.restarting = false ∧ s.mode = .boot ∧ 2 ≤ s.boot.mismatches ∧ s.holdCause = 0 ∧
       (after .lockstepMismatch s).holdCause = 1) ∧
    (let s : State := { serving with sup.restarting := true, sup.queue := [.repair (.rank 1 2 true)] }
     s.sup.restarting = true ∧ s.sup.queue = [RepairReq.rank 1 2 true].map SupAction.repair ∧ s.mode ≠ .boot ∧
       (∀ q, q < 32 → (s.pc q).mg.mig = .idle) ∧ (after .supervisorRestartDone s).rep.todo = [.rank 1 2 true]) ∧
    (let s : State := { bootAt 9 with sup.restarting := true }
     s.sup.restarting = true ∧ s.sup.queue = [] ∧ s.mode = .boot ∧ (∀ q, q < 32 → (s.pc q).mg.mig = .idle) ∧
       (after .supervisorRestartDone s).boot.step = 4) := by decide +kernel

theorem witness_GloveMemberFailureIsTakenOver :
    serving.channelsRun = true ∧ (5 : ChanId).val = (if (4 : ChanId).val % 2 = 0 then (4 : ChanId).val + 1 else (4 : ChanId).val - 1) ∧
    (serving.chan 4).glove = 0 ∧ (serving.chan 5).glove = 0 ∧ ((after (.engineWatchdogExpiry 4) serving).chan 5).glove = 2 ∧
    (after (.controllerCheckerFault 4) serving).takeover = 4 ∧
    ((after (.takeoverOverlapEnd 2) (after (.controllerCheckerFault 4) serving)).chan 4).overlap = false := by decide +kernel

theorem witness_SecondGloveFailureLosesThePair :
    (let s : State := { serving with chans := [(4, { glove := 2 }), (5, { glove := 1 })] }
     s.channelsRun = true ∧ (5 : ChanId).val = (if (4 : ChanId).val % 2 = 0 then (4 : ChanId).val + 1 else (4 : ChanId).val - 1) ∧
       (s.chan 5).glove = 1 ∧ (s.chan 4).glove = 2 ∧ (after (.engineWatchdogExpiry 4) s).rep.lossPcs = 4 ∧
       (after (.engineWatchdogExpiry 4) s).noController 5 = true) ∧
    (let s : State := { serving with chans := [(4, { glove := 3 }), (5, { glove := 3 })] }
     s.channelsRun = true ∧ (s.chan 4).glove = 3 ∧ (after (.engineWatchdogExpiry 4) s).rep.lossPcs = 0) := by decide +kernel

/-- SERVICE with the minimum service set met. -/
def servingAll : State := { serving with image := some imageOne, ports := [(0, readyPort 2048)] }

theorem witness_ClockLossFallsBackByRung :
    (let s := twoEvents 3 { servingAll with mode := .factory }
     s.pwrgood = true ∧ s.pwr.rung ≤ 3 ∧ quietB 3 s = true ∧ s.mode = .factory ∧ (after (.clockLoss true) s).pwr.fastRc = true ∧
       ((after (.clockLoss true) s).src 3).total = 1) ∧
    (let s := twoEvents 3 { servingAll with mode := .boot, boot.step := 11 }
     s.pwrgood = true ∧ s.pwr.rung ≤ 3 ∧ quietB 3 s = true ∧ s.mode = .boot ∧ s.boot.step ≠ 12 ∧
       (after (.clockLoss false) s).pwr.refclk = false ∧ (after (.clockLoss false) s).mode = .boot) ∧
    (let s : State := { serving with pwr.rung := 4 }
     s.pwrgood = true ∧ 4 ≤ s.pwr.rung ∧ (after (.clockLoss false) s).pwr.refclkLost = true) ∧
    (servingAll.calm ∧ servingAll.pwrgood = true ∧ servingAll.mode = .service ∧ servingAll.pwr.rung ≤ 3 ∧ servingAll.holdCause = 0 ∧
      (after (.clockLoss false) servingAll).holdCause = 3 ∧ (after (.clockLoss true) servingAll).grave = true) ∧
    (let s : State := { servingAll with mode := .retain, pwr.rung := 3 }
     s.calm ∧ s.pwrgood = true ∧ s.mode = .retain ∧ s.pwr.rung ≤ 3 ∧ s.holdCause = 0 ∧ (after (.clockLoss true) s).holdCause = 3) ∧
    (let s : State := { servingAll with mode := .boot, boot.step := 12 }
     s.calm ∧ s.pwrgood = true ∧ s.mode = .boot ∧ s.boot.step = 12 ∧ s.pwr.rung ≤ 3 ∧ s.holdCause = 0 ∧
       (after (.clockLoss false) s).holdCause = 3 ∧ (after (.clockLoss false) s).grave = false) ∧
    (serving.pwrgood = true ∧ (5000 : BitVec 16).toInt.natAbs ≤ 5000 ∧ (after (.aonClockDiscipline 5000) serving).pwr.freeRun = false) ∧
    (let s := twoEvents 4 serving
     s.pwrgood = true ∧ 5000 < (-5001 : BitVec 16).toInt.natAbs ∧ quietB 4 s = true ∧
       ((after (.aonClockDiscipline (-5001)) s).src 4).total = 1) :=
  ⟨by decide +kernel, by decide +kernel, by decide +kernel, ⟨calm_of_default rfl, by decide +kernel⟩,
    ⟨calm_of_default rfl, by decide +kernel⟩, ⟨calm_of_default rfl, by decide +kernel⟩, by decide +kernel⟩

/-- SERVICE with port 2 enabled and its link in state `l`. -/
def linkAt (l : Link) (f : PortLnk → PortLnk) : State :=
  { serving with ports := [(2, { cfg := { enable := true }, lnk := f { link := l, since := 500, pll := true } })] }

theorem witness_BringUpStagesFollowInOrder :
    (let s := linkAt .off id
     (s.port 2).lnk.link = .off ∧ s.portUp 2 = true ∧ (s.port 2).lnk.down = false ∧ s.portsRun = true ∧
       ((after (.receiverDetectPulse 2 15) s).port 2).lnk.link = .detect) ∧
    (let s := linkAt .detect (fun x => { x with lastTerm := 7 })
     (s.port 2).lnk.link = .detect ∧ (s.port 2).lnk.backoff = false ∧ (s.port 2).fenced = false ∧
       (3 : BitVec 4) &&& (s.port 2).lnk.lastTerm ≠ 0 ∧ ((after (.receiverDetectPulse 2 3) s).port 2).lnk.lanesPresent = 3 ∧
       (8 : BitVec 4) &&& (s.port 2).lnk.lastTerm = 0 ∧ ((after (.receiverDetectPulse 2 8) s).port 2).lnk.lastTerm = 8) ∧
    (let s := linkAt .detect id
     (s.port 2).lnk.link = .detect ∧ (s.port 2).lnk.backoff = false ∧ (s.port 2).lnk.lastTerm = 0 ∧
       ((after (.receiverDetectPulse 2 0) s).port 2).lnk.cause = 7) ∧
    (let s := linkAt .train (fun x => { x with lanesPresent := 7 })
     (s.port 2).lnk.link = .train ∧ ((after (.trainComplete 2) s).port 2).lnk.lanesTrained = 7 ∧
       (9 : BitVec 4) &&& (s.port 2).lnk.lanesPresent ≠ 0 ∧ ((after (.trainTimeout 2 9) s).port 2).lnk.lanesTrained = 1 ∧
       (after (.trainTimeout 2 9) s).now = 25000500) ∧
    (let s := linkAt .bitlock (fun x => { x with lanesTrained := 7 })
     (s.port 2).lnk.link = .bitlock ∧ (5 : BitVec 4) &&& (s.port 2).lnk.lanesTrained ≠ 0 ∧
       ((5 : BitVec 4) &&& (s.port 2).lnk.lanesTrained).getLsbD 2 = true ∧
       (((after (.bitlockAcquired 2 5 4) s).port 2).lane 2).polInv = true ∧
       (((after (.bitlockAcquired 2 5 4) s).port 2).lane 0).polInv = false) ∧
    (let s := linkAt .detect (fun x => { x with backoff := true, fails := 40 })
     (s.port 2).lnk.link = .detect ∧ (s.port 2).lnk.backoff = true ∧ (after (.backoffEnd 2) s).now = 160000500 ∧
       ((after (.backoffEnd 2) s).port 2).lnk.backoff = false) := by decide +kernel

/-- A lane on which alignment blocks of the partner's lane `id` arrive from bit `slip`, the first with count `n`. -/
def laneSeen (l : LaneId) (slip id n arrival : Nat) : LaneFound where
  lane := l
  stream := BitVec.ofNat 3210 (2 ^ slip * ofSymbols ((List.range 4).flatMap (fun i => alignmentSymbols id (n + i))))
  arrival := arrival

/-- Lane 0 carries the partner's lane 1 and runs 200 UI ahead of lane 2, which carries the partner's lane 0; the count wraps. -/
def lanesSeen : List LaneFound := [laneSeen 0 3 1 1023 1000, laneSeen 2 9 0 1023 1197]

theorem witness_SymbolLockOpensCapabilityExchange :
    (let s := linkAt .symlock (fun x => { x with lanesBit := 5 })
     (s.port 2).lnk.link = .symlock ∧ (lanesSeen.map (·.lane)).Nodup ∧
       ((s.port 2).deskew lanesSeen).map (fun e => (e.1.lane, e.1.slip, e.1.id, e.2)) = [(0, 3, 1, 200), (2, 9, 0, 0)] ∧
       (∀ l : LaneId, (s.port 2).lnk.lanesBit.getLsbD l.val = true →
         ∃ b ∈ lanesSeen.filterMap (s.port 2).boundary, b.lane = l.val) ∧
       (∀ a ∈ lanesSeen.filterMap (s.port 2).boundary, ∀ b ∈ lanesSeen.filterMap (s.port 2).boundary, aheadBy a b ≤ 200)) ∧
    (let s := linkAt .symlock (fun x => { x with lanesBit := 5 })
     ((s.port 2).deskew [laneSeen 0 3 1 1023 1000, laneSeen 2 9 0 1023 1198]).map (fun e => (e.1.lane, e.2)) = [(2, 0)]) ∧
    ((linkAt .active id).port 2).lnk.link = .active ∧ ((after (.hushMarker 2) (linkAt .active id)).port 2).rxHush = true ∧
    ((linkAt .train id).port 2).lnk.link ≠ .active ∧ ((linkAt .loop id).port 2).lnk.link = .loop ∧
    ((after (.farEndLoopEnd 2) (linkAt .loop id)).port 2).lnk.link = .off := by decide +kernel

/-- A capability message of the partner: version 2, four lanes, every width, both FEC modes, echoing `head`. -/
def capMsg (head : Nat) : BitVec 128 :=
  let v := pack [(2, 4), (15, 4), (7, 3), (3, 2), (0, 3), (0, 16), (0x99, 64), (head, 16)]
  BitVec.ofNat 128 (v + (crc16 (leBytes 14 v)).toNat * 2 ^ 112)

/-- Bytes 0 and 1 of the stack's own message, four lanes locked, with the role code `r`. -/
def ownHead (r : BitVec 2) : Nat := pack [(2, 4), (15, 4), (7, 3), (3, 2), (0, 1), (r.toNat, 2)]

/-- The four receivers, each on the partner's lane of its own number. -/
def lanes4 : List (Nat × Lane) := [(0, {}), (1, { laneId := 1 }), (2, { laneId := 2 }), (3, { laneId := 3 })]

/-- Port 2 in CAPX, two identical messages received. -/
def capxPort (m : BitVec 128) : Port where
  cfg := { enable := true, widthMax := 2, fecCfg := 2 }
  lnk :=
    { link := .capx, lanesLocked := 15, lanesPresent := 15, capLast := m, capCount := 2, pll := true,
      lanes := lanes4 }

theorem witness_ThirdCapabilityMessageMakesThePortActive :
    let m := capMsg (ownHead (Config.ownRole 2))
    let x := capxPort m
    x.lnk.link = .capx ∧ capCheckOk m = true ∧ x.lnk.capLast = m ∧ capEcho m = x.capHead 2 m ∧ x.lnk.capCount = 2 ∧
      x.lnk.rl1 = false ∧ capVersion m = 2 ∧ capFar m = false ∧ x.lnk.loopMode ≠ 3 ∧ x.agree m = some (3, 15, 1) ∧
      3 = x.widthMax ∧ x.lnk.retraining = false := by
  unfold Port.capHead
  generalize Config.ownRole 2 = r
  revert r
  decide +kernel

theorem witness_FirstActivePortEntersService :
    let s : State := { bootAt 12 with image := some imageOne, pwr.refclk := true, pwr.corePll := true, ports := [(2, capxPort 0)] }
    s.mode = .boot ∧ s.boot.step = 12 ∧ s.minimumSet = true ∧ s.boot.frozen = none ∧ s.att.lastLeaf = none ∧ s.leafCount < 1024 ∧
      s.pins.shdnReqN = true ∧ s.portPresent 2 = true := by decide +kernel

theorem witness_FailedAttemptsBackOff :
    ∀ e ∈ [(Link.train, Instr.trainTimeout 2 0, 25000000), (.bitlock, .bitlockTimeout 2, 2000000),
        (.symlock, .symlockTimeout 2 [], 1000000), (.capx, .capxTimeout 2, 2000000)],
      let s := twoEvents (srcLink 2) (linkAt e.1 id)
      (s.port 2).lnk.link = e.1 ∧ quietB (srcLink 2) { s with now := max s.now ((s.port 2).lnk.since + e.2.2) } = true ∧
        ((after e.2.1 s).port 2).lnk.backoff = true ∧ ((after e.2.1 s).port 2).lnk.cFailed = 1 := by decide +kernel

/-! ## Witnesses: the link protocol -/

/-- SERVICE with port 2 ACTIVE at full width and a session open; `f` changes the port. -/
def sess (f : Port → Port) : State :=
  { serving with ports := [(2, f { cfg := { enable := true, widthMax := 2, windowLen := 8, windows := [(0, ⟨true, true, 0, 0, 128⟩)] }
                                   lnk := { link := .active, width := 3, fec := 1, lanesActive := 15, lanesLocked := 15, lanesPresent := 15
                                            txLanes := 15, rxLanes := 15, lanes := lanes4, since := 500, pll := true }
                                   tx := { session := true, initSent := true, initRcvd := true, peer0 := 64, peer1 := 128, peer2 := 8
                                           held1 := 128, held2 := 8, grant1 := 128, grant2 := 8 }
                                   rung := 0 })] }

theorem witness_LaneFailureNarrowsThePort :
    (let s := twoEvents (srcLink 2) (sess id)
     (s.port 2).lnk.link = .active ∧ (s.srcReact (srcLink 2)).testBit 8 = false ∧ (s.port 2).laneNumbers 4 = 4 ∧
       (4 : BitVec 4) &&& (s.port 2).widthNow.2 ≠ 0 ∧ quietB (srcLink 2) s = true ∧
       degradeTo (s.port 2).widthNow.1 (s.port 2).widthNow.2 4 = some (2, 3) ∧
       ((after (.laneFailure 2 4) s).port 2).lnk.widthReq = some (2, 3) ∧ (s.port 2).lnk.retrainNext = false ∧
       (2 : BitVec 2) ≠ 0 ∧ (2 : BitVec 2).toNat < (s.port 2).widthNow.1 + b2n (s.port 2).lnk.widthReq.isSome ∧
       (3 : BitVec 4) &&& (s.port 2).widthNow.2 = 3 ∧
       popBelow 4 (3 : BitVec 4).toNat = 2 ^ ((2 : BitVec 2).toNat - 1) ∧ (2 : BitVec 2).toNat < (s.port 2).widthMax ∧
       ((after (.widthChange 2 ⟨2, 3, 0⟩) s).port 2).lnk.lanesActive = 3) ∧
    (let s := sess (fun x => { x with lnk.widthReq := some (2, 3) })
     (s.port 2).lnk.widthReq = some (2, 3) ∧ (s.port 2).lnk.retrainNext = false ∧ (2 : BitVec 2).toNat < (s.port 2).widthMax ∧
       ((after (.widthAck 2 ⟨2, 3, 0⟩) s).port 2).lnk.loopTest = 12 ∧ ((after (.widthAck 2 ⟨2, 3, 0⟩) s).port 2).lnk.rxLanes = 3 ∧
       ((after (.widthAck 2 ⟨2, 3, 1⟩) s).port 2).lnk.rxLanes = 15) := by decide +kernel

theorem witness_RetrainsKeepTheSession :
    (let s := sess (fun x => { x with lnk.widthReq := some (2, 3), lnk.widthAt := 700 })
     (s.port 2).lnk.widthReq.isSome = true ∧ ((after (.widthChangeTimeout 2) s).port 2).lnk.link = .train ∧
       (after (.widthChangeTimeout 2) s).now = 4700) ∧
    (let s := sess (fun x => { x with fenced := true, cfg.holdoff := 1, fencedAt := 0 })
     ((after (.partnerRetrain 2) s).port 2).fenced = true ∧
       ((after (.partnerRetrain 2) { s with now := 1000000 }).port 2).fenced = false) ∧
    (let s := twoEvents (srcLink 2) (sess (fun x => { x with lnk.loopTest := 12 }))
     let u := s.updPort 2 (fun x => { x with lnk.pll := false })
     (s.port 2).lnk.link = .active ∧ quietB (srcLink 2) s = true ∧ (s.port 2).lnk.pll = true ∧ u.minimumSet = false ∧
       s.mode = .service ∧ s.holdCause = 0 ∧ (after (.portPllLockLoss 2) s).holdCause = 3 ∧
       (s.port 2).lnk.loopTest ≠ 0 ∧ (s.srcReact (srcLink 2)).testBit 8 = false ∧ s.counts (srcLink 2) = true ∧
       s.collectorOff = false ∧ ((after (.nearEndLoopResult 2 ⟨false, [0, 0, 5, 7]⟩) s).port 2).lnk.cause = 5 ∧
       (((after (.nearEndLoopResult 2 ⟨true, [0, 0, 5, 7]⟩) s).port 2).lane 3).prbsErr = 7) ∧
    (let s := twoEvents (srcLink 2) { sess id with image := some imageOne, ports := (0, readyPort 2048) :: (sess id).ports }
     let u := s.updPort 2 (fun x => { x with lnk.pll := false })
     (s.port 2).lnk.link = .active ∧ quietB (srcLink 2) s = true ∧ (s.port 2).lnk.pll = true ∧ u.minimumSet = true ∧
       ((after (.portPllLockLoss 2) s).port 2).lnk.cause = 4) := by decide +kernel

/-- A flit with the low 1,248 bits `v` and its CRC. -/
def withCrc (v : Nat) : BitVec 1280 := BitVec.ofNat 1280 (v + (crc32 (leBytes 156 v)).toNat * 2 ^ 1248)

theorem withCrc_toNat (v : Nat) (h : v < 2 ^ 1248) : ∃ c, c < 2 ^ 32 ∧ (withCrc v).toNat = v + c * 2 ^ 1248 ∧ flitCrcOk (withCrc v) = true := by
  have hc : (crc32 (leBytes 156 v)).toNat < 2 ^ 32 := (crc32 (leBytes 156 v)).isLt
  have hn : (withCrc v).toNat = v + (crc32 (leBytes 156 v)).toNat * 2 ^ 1248 := by
    unfold withCrc
    rw [BitVec.toNat_ofNat]
    exact Nat.mod_eq_of_lt (by omega)
  refine ⟨_, hc, hn, ?_⟩
  unfold flitCrcOk
  rw [hn]
  have h1 : (v + (crc32 (leBytes 156 v)).toNat * 2 ^ 1248) % 2 ^ 1248 = v := by omega
  have h2 : (v + (crc32 (leBytes 156 v)).toNat * 2 ^ 1248) / 2 ^ 1248 = (crc32 (leBytes 156 v)).toNat := by omega
  rw [h1, h2]
  exact decide_eq_true rfl

/-- A SEQ flit of two IDLE slots: sequence, acknowledgement, CREDIT field. -/
def seqFlit (seq ack credit : Nat) : Nat := pack [(0, 2), (seq, 12), (ack, 12), (credit, 6), (3, 608), (3, 608)]

theorem sum_mid (v c A B K : Nat) (hA : 0 < A) : (v + c * (A * (B * K))) / A % B = v / A % B := by
  have h : v + c * (A * (B * K)) = v + A * (B * (c * K)) := by ring
  rw [h, Nat.add_mul_div_left _ _ hA, Nat.add_mul_mod_self_left]

theorem sum_slot (v c A B K P x : Nat) (hA : 0 < A) (hp : P = A * (B * K)) (hn : x = v + c * P) (hs : v / A % B = 3) :
    x / A % B = 3 := by
  rw [hn, hp, sum_mid v c A B K hA, hs]

theorem sum_low (v c B K P x : Nat) (hp : P = B * K) (hn : x = v + c * P) : x % B = v % B := by
  have h : v + c * (B * K) = v + B * (c * K) := by ring
  rw [hn, hp, h, Nat.add_mul_mod_self_left]

theorem flitSlot_toNat (f : BitVec 1280) (i : Nat) : (flitSlot f i).toNat = f.toNat / 2 ^ (32 + 608 * i) % 2 ^ 608 := by
  simp only [flitSlot, BitVec.extractLsb'_toNat, Nat.shiftRight_eq_div_pow]

set_option exponentiation.threshold 2000 in
/-- What the low bits of a flit with its CRC say. -/
theorem withCrc_fields (v : Nat) (hlt : v < 2 ^ 1248) (hs : v / 2 ^ 32 % 2 ^ 608 = 3) (hs' : v / 2 ^ 640 % 2 ^ 608 = 3) :
    flitCrcOk (withCrc v) = true ∧ (withCrc v).toNat % 2 ^ 32 = v % 2 ^ 32 ∧ flitSlot (withCrc v) 0 = idleSlot ∧
      flitSlot (withCrc v) 1 = idleSlot := by
  obtain ⟨c, hc, hn, hk⟩ := withCrc_toNat v hlt
  have p1 : (2 : Nat) ^ 1248 = 2 ^ 32 * (2 ^ 608 * 2 ^ 608) := by rw [← pow_add, ← pow_add]
  have p2 : (2 : Nat) ^ 1248 = 2 ^ 640 * (2 ^ 608 * 1) := by rw [mul_one, ← pow_add]
  have p4 : (2 : Nat) ^ 1248 = 2 ^ 32 * 2 ^ 1216 := by rw [← pow_add]
  have h0 : (flitSlot (withCrc v) 0).toNat = (withCrc v).toNat / 2 ^ 32 % 2 ^ 608 := flitSlot_toNat (withCrc v) 0
  have h1 : (flitSlot (withCrc v) 1).toNat = (withCrc v).toNat / 2 ^ 640 % 2 ^ 608 := flitSlot_toNat (withCrc v) 1
  have i0 : idleSlot.toNat = 3 := by decide +kernel
  exact ⟨hk, sum_low v c (2 ^ 32) (2 ^ 1216) (2 ^ 1248) _ p4 hn,
    BitVec.eq_of_toNat_eq (h0.trans ((sum_slot v c (2 ^ 32) (2 ^ 608) (2 ^ 608) (2 ^ 1248) _ (Nat.two_pow_pos 32) p1 hn hs).trans i0.symm)),
    BitVec.eq_of_toNat_eq (h1.trans ((sum_slot v c (2 ^ 640) (2 ^ 608) 1 (2 ^ 1248) _ (Nat.two_pow_pos 640) p2 hn hs').trans i0.symm))⟩

/-- Written out, `Port.lanesGood`. -/
def lanesGoodB (p : Port) (now : Nat) (cs : List Nat) : Bool :=
  (List.range 4).all (fun l => decide ((p.lane l).missed < 2) &&
    !(if cs.getD l 0 = 0 then p.lane l else (p.lane l).correct now (cs.getD l 0)).noisy)

theorem witness_FlitsAreTakenInSequence :
    (let s := twoEvents (srcLink 2) (sess (fun x => { x with tx.replay := [⟨4095, [.idle, .idle], none, 900, {}⟩], tx.held1 := 127 }))
     (s.port 2).inSession = true ∧ (s.port 2).rung = 0 ∧ (s.port 2).tx.replay.length ≤ 256 ∧ (s.port 2).tx.discarding = false ∧
       lanesGoodB (s.port 2) s.now [0, 1024, 0, 0] = true ∧ lanesGoodB (s.port 2) s.now [0, 1025, 0, 0] = false ∧
       quietB (srcLink 2) s = true ∧ (s.port 2).tx.expect = 0 ∧ (s.port 2).oldest = 4095 ∧ (s.port 2).tx.rx = [] ∧
       ((4095 : BitVec 12) - (s.port 2).oldest).toNat < (s.port 2).tx.replay.length ∧
       2048 ≤ ((4094 : BitVec 12) - (s.port 2).oldest).toNat ∧ (s.port 2).tx.held1 + 0 + 1 ≤ (s.port 2).tx.grant1 ∧
       ((after (.flitReceived 2 (.uncorrectable 1 false)) s).port 2).lnk.fecUncorr = 1) ∧
    (∀ n ∈ [0, 2047, 2048], ∀ a ∈ [4094, 4095], ∀ c ∈ [0x30, 0x10], ∀ v ∈ [seqFlit n a c], v < 2 ^ 1248 ∧ v / 2 ^ 32 % 2 ^ 608 = 3 ∧
       v / 2 ^ 640 % 2 ^ 608 = 3 ∧ v % 2 ^ 32 % 4 = 0 ∧ v % 2 ^ 32 / 4 % 4096 = n ∧
       v % 2 ^ 32 / 2 ^ 14 % 4096 = a ∧ bitsOf (v % 2 ^ 32) 31 26 = c) ∧
    slotItems idleSlot = some [] ∧ slotVc 3 ≠ 1 ∧ Port.plainRx [] ∧
    (let s := sess (fun x => { x with lnk.rl1 := true })
     let blocks := (List.range 4).map (fun l => alignmentBlock l 5)
     (s.port 2).lnk.rl1 = true ∧ (s.port 2).inSession = true ∧ lanesOf (s.port 2).lnk.rxLanes = [0, 1, 2, 3] ∧
       (∀ j ∈ lanesOf (s.port 2).lnk.rxLanes, blockHead (blocks.getD ((s.port 2).receiver j) 0).toNat 0 = some (j, 5)) ∧
       ((after (.flitReceived 2 (.marker blocks)) s).port 2).lnk.rxMarker = 5) := by
  exact ⟨by decide +kernel, by decide +kernel, by decide +kernel, by decide, ⟨by simp, by simp⟩, by decide +kernel⟩

/-! Forward error correction: the coefficients of the KP4 generator are those of IEEE 802.3 Clause 91, which R171 names. -/

theorem test_kp4_generator : rsGenerator 30 = [1, 575, 552, 187, 230, 552, 1, 108, 565, 282, 249, 593, 132, 94, 720, 495, 385, 942,
    503, 883, 361, 788, 610, 193, 392, 127, 185, 158, 128, 834, 523] := by decide +kernel

theorem test_fec_short :
    (let w := [9, 100, 1023, 0, 512] ++ rsParity 4 [9, 100, 1023, 0, 512]
     rsDecode 2 w = some (w, []) ∧ rsDecode 2 ((w.set 0 8).set 7 (w.getD 7 0 ^^^ 700)) = some (w, [0, 7]) ∧
       rsDecode 2 (((w.set 0 8).set 1 7).set 3 1) = none) := by decide +kernel

/-- The LL-FEC codeword of an IDLE-slot SEQ flit. -/
def idleWord : List Nat := [0, 1008, 63, 15] ++ List.replicate 60 0 ++ [3] ++ List.replicate 59 0 ++
  [768, 300, 839, 149, 547, 174, 800, 612, 833, 423, 466, 704]

/-- A codeword on w lanes (R171, R174). -/
def onLanes (w : Nat) (word : List Nat) : List (List (BitVec 10)) :=
  (List.range w).map (fun l => (List.range (word.length / w)).map (fun k => BitVec.ofNat 10 (word.getD (k * w + l) 0)))

theorem test_fec_crc : flitCrcOk (symbolsFlit (idleWord.take 128)) = true := by
  have e : leBytes 156 ((symbolsFlit (idleWord.take 128)).toNat % 2 ^ 1248) =
      (([0, 192, 255, 195, 3] ++ List.replicate 35 0) ++ List.replicate 40 0) ++ (3 :: List.replicate 39 0) ++
        List.replicate 36 0 := by decide +kernel
  have a : List.foldl (crc32Bits 8) 0xFFFFFFFF ([0, 192, 255, 195, 3] ++ List.replicate 35 0) = 3859513906 := by decide +kernel
  have b : List.foldl (crc32Bits 8) 3859513906 (List.replicate 40 0) = 3871730107 := by decide +kernel
  have c : List.foldl (crc32Bits 8) 3871730107 (3 :: List.replicate 39 0) = 2322354427 := by decide +kernel
  have d : List.foldl (crc32Bits 8) 2322354427 (List.replicate 36 0) = 3666578252 := by decide +kernel
  have t : (symbolsFlit (idleWord.take 128)).toNat / 2 ^ 1248 = 628389043 := by decide +kernel
  unfold flitCrcOk crc32
  rw [e, List.foldl_append, List.foldl_append, List.foldl_append, a, b, c, d, t]
  decide +kernel

theorem witness_FlitsAreTakenInSequence_lanes :
    let s := twoEvents (srcLink 2) (sess (fun x => { x with lnk.rl1 := true }))
    (s.port 2).inSession = true ∧ (s.port 2).rung = 0 ∧ (s.port 2).tx.replay.length ≤ 256 ∧ (s.port 2).codewords = 1 ∧ (s.port 2).lnk.rxNext = none ∧
      quietB (srcLink 2) s = true ∧
      (s.port 2).decodeWord ((s.port 2).gather (onLanes 4 idleWord) 0) =
        some ([symbolsFlit (idleWord.take 128)], [0, 0, 0, 0]) ∧
      (s.port 2).decodeWord ((s.port 2).gather (onLanes 2 ([1, 2, 3, 4, 5] ++ List.replicate 131 0)) 0) = none := by
  decide +kernel

theorem witness_InitOpensTheSession :
    let s := twoEvents (srcLink 2) (sess (fun x => { x with tx.initRcvd := false }))
    (s.port 2).lnk.link = .active ∧ (s.port 2).tx.session = true ∧ (s.port 2).tx.initRcvd = false ∧ (s.port 2).aud.resync = none ∧
      16 ≤ (16 : BitVec 16).toNat ∧ 4 ≤ (4 : BitVec 16).toNat ∧ ((after (.init 2 0 16 4 0) s).port 2).tx.held1 = 16 ∧
      (after (.initResend 2) s).now = 1000 ∧ (15 : BitVec 16).toNat < 16 ∧ quietB (srcLink 2) s = true ∧ ((after (.init 2 0 15 4 0) s).port 2).lnk.backoff = true ∧
      quietB (srcLink 2) { s with now := max s.now ((s.port 2).lnk.since + 2000000) } = true ∧
      (after (.initTimeout 2) s).now = 2000500 := by decide +kernel

/-- A flit of the replay buffer. -/
def sent (n : Nat) : SentFlit := { seq := n, slots := [.idle, .idle], credit := none, sentAt := 900 }

theorem witness_ReplayResendsWhatIsNotAcknowledged :
    (let s := twoEvents (srcProto 2) (sess (fun x => { x with tx.replay := [sent 4, sent 5], tx.nextSeq := 6, tx.discarding := true }))
     (s.port 2).inSession = true ∧ (s.port 2).tx.lastRetry = none ∧ 2048 ≤ ((3 : BitVec 12) - (s.port 2).oldest).toNat ∧
       (s.port 2).tx.replay.length ≤ 256 ∧ ((5 : BitVec 12) - (s.port 2).oldest).toNat < (s.port 2).tx.replay.length ∧
       ((after (.retryReq 2 5 3) s).port 2).tx.cReplays = 1 ∧
       (s.port 2).tx.replay.length ≤ ((6 : BitVec 12) - (s.port 2).oldest).toNat ∧ quietB (srcProto 2) s = true ∧
       ((after (.retryReq 2 6 3) s).port 2).protoLast = 7 ∧ (s.port 2).tx.replay = sent 4 :: [sent 5] ∧ (s.port 2).tx.expiries < 7 ∧
       ((after (.replayTimeout 2) s).port 2).tx.expiries = 1 ∧ (s.port 2).tx.discarding = true ∧
       ((after (.retryReqResend 2) s).port 2).tx.cRetrySent = 1) ∧
    (let s := twoEvents (srcProto 2) (sess (fun x => { x with tx.replay := [sent 4, sent 5], tx.nextSeq := 6, tx.lastRetry := some (5, 1) }))
     (s.port 2).tx.lastRetry = some (5, 1) ∧ s.now < 1 + 1000 ∧ 2048 ≤ ((3 : BitVec 12) - (s.port 2).oldest).toNat ∧
       quietB (srcProto 2) s = true ∧ ((after (.retryReq 2 5 3) s).port 2).protoLast = 7 ∧
       (after (.retryReq 2 5 3) { s with now := 1001 }).src (srcProto 2) = s.src (srcProto 2)) ∧
    (let s := twoEvents (srcStall 2) (sess (fun x => { x with tx.replay := [sent 4], tx.expiries := 7 }))
     (s.port 2).tx.replay = sent 4 :: [] ∧ (s.port 2).tx.expiries = 7 ∧ quietB (srcStall 2) { s with now := max s.now 1900 } = true ∧
       ((after (.replayTimeout 2) s).port 2).lnk.cause = 6) := by decide +kernel

theorem witness_CreditsStayWithinTheGrants :
    (let s := sess (fun x => { x with tx.held1 := 100, tx.held2 := 4 })
     (s.port 2).inSession = true ∧
       (s.port 2).tx.held1 + (28 : BitVec 16).toNat ≤ (s.port 2).tx.grant1 ∧
       (s.port 2).tx.held2 + (4 : BitVec 16).toNat ≤ (s.port 2).tx.grant2 ∧ ((after (.credit 2 0 28 4) s).port 2).tx.held1 = 128) ∧
    (let s := twoEvents (srcProto 2) (sess (fun x => { x with tx.held1 := 100 }))
     (s.port 2).tx.held1 ≤ (s.port 2).tx.grant1 ∧ (s.port 2).tx.grant1 < (s.port 2).tx.held1 + (29 : BitVec 16).toNat ∧
       quietB (srcProto 2) s = true ∧ ((after (.credit 2 0 29 0) s).port 2).protoLast = 9) ∧
    (let s := sess (fun x => { x with tx.due0 := 16 })
     (s.port 2).maySend = true ∧ 0 < (s.port 2).tx.due0 ∧ (s.port 2).tx.due0 ≤ 16 ∧ (s.port 2).tx.due1 = 0 ∧ (s.port 2).tx.due2 = 0 ∧
       ((after (.creditReturnDue 2) s).port 2).tx.peer0 = 80) ∧
    (let s := sess (fun x => { x with tx.due0 := 1, tx.due1 := 20, tx.held2 := 1 })
     (s.port 2).maySend = true ∧ 0 < (s.port 2).tx.due0 ∧ 0 < (s.port 2).tx.due1 ∧ 0 < (s.port 2).tx.held2 ∧
       ((after (.creditReturnDue 2) s).port 2).tx.peer1 = 148) ∧
    (let r : Req := { tag := 9, op := .wr64 }
     let s := twoEvents (srcStall 2) (sess (fun x => { x with tx.held1 := 0, outq := [completion r .ok] }))
     (s.port 2).dry = true ∧ quietB (srcStall 2) { s with now := 101000 } = true ∧ (after (.vc1CreditStall 2) s).now = 101000 ∧
       ((after (.vc1CreditStall 2) s).src (srcStall 2)).total = 1) := by decide +kernel

theorem witness_ResponsesLeaveWithACredit :
    let r : Req := { tag := 9, op := .wr64, phase := .answered }
    let s := sess (fun x => { x with reqs := [r], outq := [completion r .ok] })
    let z := sess (fun x => { x with reqs := [r], outq := [completion r .ok], tx.held1 := 0 })
    (s.port 2).maySend = true ∧ (s.port 2).rung = 0 ∧ (s.port 2).outq = [completion r .ok] ∧ (s.port 2).reqs = [r] ∧
      s.signing 2 = false ∧ s.bist.shutDown = false ∧ (s.port 2).tx.due0 = 0 ∧ (s.port 2).tx.due1 = 0 ∧ (s.port 2).tx.due2 = 0 ∧
      0 < (s.port 2).tx.held1 ∧ ((after (.responseSend 2) s).port 2).reqs = [] ∧ (z.port 2).maySend = true ∧ (z.port 2).tx.held1 = 0 ∧
      r.phase ≠ .mgmt ∧ (s.port 2).lnk.txNext = none ∧ ((after (.responseSend 2) z).port 2).outq = [completion r .ok] := by decide +kernel

theorem witness_AuditsGuardTheBooks :
    (let m : AuditMsg := ⟨7, 0, 0, 0, 0, 0, 0, 0, 0⟩
     let s := twoEvents (srcBook 2) (sess (fun x => { x with aud.auditOpen := [⟨7, 800⟩] }))
     (s.port 2).inSession = true ∧ (∃ a ∈ (s.port 2).aud.auditOpen, a.id = m.id) ∧
       (s.port 2).auditMatches m = true ∧ ((after (.audit 2 m) s).port 2).aud.auditOpen = [] ∧
       (s.port 2).auditMatches { m with sent1 := 1 } = false ∧ quietB (srcBook 2) s = true ∧
       ((after (.audit 2 { m with sent1 := 1 }) s).port 2).aud.auditFails = 1 ∧
       (∀ a ∈ (s.port 2).aud.auditOpen, a.id ≠ ({ m with id := 8 } : AuditMsg).id)) ∧
    (let s := sess (fun x => { x with aud.auditOpen := [⟨7, 800⟩] })
     s.calm ∧ (s.port 2).aud.auditOpen = ⟨7, 800⟩ :: [] ∧ (after (.auditTimeout 2) s).now = 4800) ∧
    (let s := twoEvents (srcBook 2) (sess (fun x => { x with aud.auditOpen := [⟨7, 800⟩] }))
     (s.port 2).aud.auditOpen = ⟨7, 800⟩ :: [] ∧ quietB (srcBook 2) { s with now := max s.now 4800 } = true ∧
       ((after (.auditTimeout 2) s).port 2).aud.resync = some (3, 0)) ∧
    (let s := sess (fun x => { x with aud.resync := some (3, 15) })
     (s.port 2).aud.resync = some (3, 15) ∧ (s.port 2).tx.replay = [] ∧ ((after (.resyncAck 2 0 0 50 6) s).port 2).tx.held1 = 50 ∧
       ((after (.resyncAck 2 0 0 50 6) s).port 2).outq.length = 1 ∧ ((after (.resyncResend 2) s).port 2).aud.resync = some (3, 16)) ∧
    (let s := twoEvents (srcStall 2) (sess (fun x => { x with aud.resync := some (3, 16) }))
     (s.port 2).aud.resync = some (3, 16) ∧ quietB (srcStall 2) { s with now := max s.now ((s.port 2).tx.resyncAt + 1000) } = true ∧
       ((after (.resyncResend 2) s).port 2).lnk.cause = 6) :=
  ⟨by decide +kernel, ⟨calm_of_default rfl, by decide +kernel⟩, by decide +kernel⟩

/-- A header with its HCHECK. -/
def header (op : Op) (tag block len : Nat) : ReqHeader :=
  let h : ReqHeader := { tag := BitVec.ofNat 10 tag, label := 0, deadline := 0, block := BitVec.ofNat 34 block
                         length := BitVec.ofNat 3 len, flags := 0, reserved := 0, hcheck := 0 }
  { h with hcheck := headerCheck (headerBits op.code h) }

theorem witness_RequestHeadersAreCheckedInOrder :
    (let s := twoEvents (srcProto 2) (sess id)
     (s.port 2).inSession = true ∧ (s.port 2).rung = 0 ∧ (s.port 2).tx.rx = [] ∧ s.pwr.entry = none ∧ quietB (srcProto 2) s = true ∧
       (s.port 2).inTurn 0 = true ∧ hcheckOk Op.rd64.code { header .rd64 9 0 0 with hcheck := 0 } = false ∧
       ((after (.rd64 2 { header .rd64 9 0 0 with hcheck := 0 }) s).port 2).protoLast = 2 ∧
       hcheckOk Op.rd128.code (header .rd128 9 1 1) = true ∧ headerAllowed .rd128 (header .rd128 9 1 1) = false ∧
       (s.port 2).fenced = false ∧ (s.port 2).reqs = [] ∧ ((after (.rd128 2 (header .rd128 9 1 1)) s).port 2).outq.length = 1 ∧
       hcheckOk Op.wrm64.code (header .wrm64 9 (2 ^ 33) 0) = true ∧ headerAllowed .wrm64 (header .wrm64 9 (2 ^ 33) 0) = true ∧
       (s.port 2).translate (header .wrm64 9 (2 ^ 33) 0).block.toNat Op.wrm64.writes = none ∧
       ((after (.wrm64 2 (header .wrm64 9 (2 ^ 33) 0)) s).port 2).protoLast = 6 ∧
       hcheckOk Op.wr64.code (header .wr64 9 5 0) = true ∧ headerAllowed .wr64 (header .wr64 9 5 0) = true ∧ Op.wr64.writes = true ∧
       (s.port 2).translate (header .wr64 9 5 0).block.toNat true = some 5 ∧
       ((after (.wr64 2 (header .wr64 9 5 0)) s).port 2).reqs.length = 1) ∧
    (let s := twoEvents (srcProto 2) (sess (fun x => { x with reqs := [{ tag := 9, op := .rd64 }] }))
     (∃ r ∈ (s.port 2).reqs, r.tag = (header .fill 9 0 0).tag.toNat) ∧ hcheckOk Op.fill.code (header .fill 9 0 0) = true ∧
       ((after (.fill 2 (header .fill 9 0 0)) s).port 2).protoLast = 4) ∧
    (let s := sess (fun x => { x with fenced := true })
     (s.port 2).fenced = true ∧ ((after (.wr64 2 (header .wr64 9 5 0)) s).port 2).mute = [9]) := by decide +kernel

/-- Write data of tag 9. -/
def slotData (mask : BitVec 64) : DataSlot := { dir := false, part := false, tag := 9, status := 0, mask := mask, reserved := 0, data := 0x77 }

theorem witness_WriteDataMeetsItsRequest :
    (let s := sess (fun x => { x with mute := [9] })
     (s.port 2).inSession = true ∧ (s.port 2).tx.rx = [] ∧ dataSlotOk (slotData 1) = true ∧ (slotData 1).tag.toNat ∈ (s.port 2).mute ∧
       ((after (.writeData 2 (slotData 1)) s).port 2).mute = []) ∧
    (let s := twoEvents (srcProto 2) (sess (fun x => { x with reqs := [{ tag := 9, op := .rd64 }] }))
     (slotData 1).tag.toNat ∉ (s.port 2).mute ∧ (∀ r ∈ (s.port 2).reqs, r.op.writes = false ∨ r.gotData = true) ∧ quietB (srcProto 2) s = true ∧
       ((after (.writeData 2 (slotData 1)) s).port 2).protoLast = 5) ∧
    (let r : Req := { tag := 9, op := .wr64, phase := .waitData }
     let s := sess (fun x => { x with reqs := [r] })
     (slotData 1).tag.toNat ∉ (s.port 2).mute ∧ (s.port 2).reqs = [r] ∧ r.tag = (slotData 1).tag.toNat ∧ r.op.writes = true ∧
       r.gotData = false ∧ r.phase = .waitData ∧ r.op ≠ .wrm64 ∧ (slotData 1).mask ≠ BitVec.allOnes 64 ∧
       ((after (.writeData 2 (slotData 1)) s).port 2).outq = [completion r .unsupported] ∧
       (slotData (BitVec.allOnes 64)).mask = BitVec.allOnes 64 ∧
       ((after (.writeData 2 (slotData (BitVec.allOnes 64))) s).port 2).reqs.map (·.data) = [0x77]) := by decide +kernel

theorem witness_ManagementRequestsAreAnswered :
    let h := header .mread 9 0 0
    let g := header .mread 9 65536 0
    let a := header .mattest 9 0 0
    let s := sess id
    let q := sess (fun x => { x with cfg.attestPeriod := 1, attLast := some 0 })
    (s.port 2).inSession = true ∧ (s.port 2).rung = 0 ∧ (s.port 2).tx.rx = [] ∧ (s.port 2).reqs = [] ∧ (s.port 2).outq = [] ∧
      s.signing 2 = false ∧ s.pwr.entry = none ∧ h.label = 0 ∧ h.deadline = 0 ∧ hcheckOk Op.mread.code h = true ∧ headerAllowed .mread h = true ∧
      h.block.toNat < 65536 ∧ (s.mreadPage 2 h.block.toNat).isSome = true ∧ hcheckOk Op.mread.code g = true ∧
      headerAllowed .mread g = true ∧ 65536 ≤ g.block.toNat ∧
      ((after (.mread 2 g) s).port 2).outq = [mgmtItem 9 .unsupported []] ∧
      hcheckOk Op.mattest.code a = true ∧ headerAllowed .mattest a = true ∧ (s.port 2).fenced = false ∧
      (s.port 2).cfg.attestPeriod = 0 ∧ ((after (.mattest 2 a 1) s).port 2).outq = [mgmtItem 9 .unsupported []] ∧
      ((sess (fun x => { x with fenced := true })).port 2).fenced = true ∧ (q.port 2).cfg.attestPeriod ≠ 0 ∧
      q.tooSoon 2 = true ∧ ((after (.mattest 2 a 1) q).port 2).outq = [mgmtItem 9 .busy []] ∧
      ({ q with now := 1000000000 } : State).tooSoon 2 = false ∧ q.sup.restarting = false ∧
      q.att.queue = [] ∧
      (after (.mattest 2 a 1) { q with now := 1000000000 }).att.queue = [{ port := some 2, tag := 9, nonce := 1, at_ := 1000000000 }] := by decide +kernel

/-! ## Witnesses: the gauntlet, channels and rows -/

/-- The session of port 2 with contracts G, P and B on labels 0, 1, 2, budget windows running, every rank in its place. -/
def served (f : Port → Port) : State :=
  { sess (fun x => f { x with
      cfg.contracts := [(0, { cls := 1, budget := 2048 }), (1, { cls := 2, pTarget := 125, hatband := 128, budget := 1024 }),
        (2, { cls := 3, budget := 1024 })]
      gnt.windowStart := some 0 }) with
    rep.rankMap := rankMapOf ident }

/-- A read or write that waits at the gauntlet. -/
def waits (op : Op) (label : Nat) : Req := { tag := 9, op := op, label := label, arrival := 900, block := 5, dev := 5 }

/-- The gauntlet accepts. -/
def latches : Verdict → Bool
  | .latch _ _ _ _ _ => true
  | _ => false
/-- The gauntlet holds. -/
def holds_ : Verdict → Bool
  | .hold _ => true
  | _ => false

theorem witness_ReadsHaveNoEffectBeforeAcceptance :
    let h := header .rd64 9 5 0
    let s := served id
    (s.port 2).inSession = true ∧ (s.port 2).rung = 0 ∧ (s.port 2).tx.rx = [] ∧ hcheckOk Op.rd64.code h = true ∧
      (s.port 2).inTurn 0 = true ∧ (s.port 2).reqs = [] ∧ (s.port 2).fenced = false ∧ headerAllowed .rd64 h = true ∧
      (s.port 2).translate h.block.toNat false = some 5 ∧
      ((after (.rd64 2 h) (served (fun x => { x with gnt.spent := [(0, 2048)] }))).port 2).reqs.map (·.serial) = [0] := by
  decide +kernel

theorem witness_ChargesFallDueAtTheLatch :
    (let r := waits .rd64 0
     let s := served (fun x => { x with reqs := [r] })
     (s.port 2).reqs = [r] ∧ r.candidate s.gnt.changes s.now = true ∧ s.decisionsLeft 2 ≠ 0 ∧ latches (decide250 2 r s) = true ∧
       ((after (.gauntletReexamine 2) s).port 2).spentOf 0 = 1) ∧
    (let r := waits .rd64 0
     let s := served (fun x => { x with reqs := [r], gnt.spent := [(0, 2048)] })
     (s.port 2).reqs = [r] ∧ decide250 2 r s = .hold .budget ∧ ((after (.gauntletReexamine 2) s).port 2).spentOf 0 = 2048) ∧
    (let r : Req := { waits .rd64 0 with looked := some (0, 1000) }
     let s := served (fun x => { x with reqs := [r] })
     (s.port 2).reqs = [r] ∧ r.candidate s.gnt.changes s.now = false ∧ ((after (.gauntletReexamine 2) s).port 2).spentOf 0 = 0) ∧
    (let s := served (fun x => { x with reqs := [waits .rd64 0], gnt.decided := (1000, 4) })
     s.decisionsLeft 2 = 0 ∧ ((after (.gauntletReexamine 2) s).port 2).spentOf 0 = 0) ∧
    (let r := waits .rd64 5
     let s := served (fun x => { x with reqs := [r] })
     decide250 2 r s = .noContract ∧ ((after (.gauntletReexamine 2) s).port 2).outq = [completion r .unsupported]) := by
  decide +kernel

theorem witness_FillsAreServedInClassB :
    let r := waits .fill 0
    let s := served (fun x => { x with reqs := [r] })
    r.op = .fill ∧ decide250 2 r s = .latch .b false [none] 51000 0 ∧ (s.port 2).reqs = [r] ∧
      r.candidate s.gnt.changes s.now = true ∧ s.decisionsLeft 2 ≠ 0 ∧
      ((after (.gauntletReexamine 2) s).port 2).spentOf 0 = r.charge := by decide +kernel

theorem witness_GuaranteedGrantsMeetEveryCondition :
    decide250 2 (waits .rd64 0) (served id) = .latch .g false [some 1000] 1180 0 ∧
    decide250 2 { waits .rd64 0 with exit := 1980 } (served id) = .latch .g false [some 1000] 3160 0 := by decide +kernel

theorem witness_HeldRequestsExpireAtTheirDeadline :
    let r : Req := { waits .rd64 0 with deadline := 50 }
    let s := served (fun x => { x with reqs := [r], gnt.spent := [(0, 2048)] })
    (s.port 2).reqs = [r] ∧ r.tag = (9 : BitVec 10).toNat ∧ r.phase = .waiting ∧ r.deadline ≠ 0 ∧
      holds_ (decide250 2 r { s with now := max s.now (r.arrival + 4 * r.deadline) }) = true ∧
      ((after (.deadlineExpiry 2 9) s).port 2).outq = [completion r .deadlineExpired] ∧ (after (.deadlineExpiry 2 9) s).now = 1101 := by
  decide +kernel

/-- SERVICE with pseudo-channel 0 as given. -/
def chanAt (x : Pc) : State := { served id with pcs := [(0, x)] }

theorem witness_BooksAreRefilledAndAudited :
    (let s := served (fun x => { x with gnt.spent := [(0, 7)] })
     (s.port 2).gnt.windowStart = some 0 ∧ s.booksOk 2 = true ∧ (after (.budgetWindowBoundary 2) s).now = 8000 ∧
       ((after (.budgetWindowBoundary 2) s).port 2).gnt.spent = []) ∧
    (let s := served (fun x => { x with gnt.spent := [(0, 5), (0, 7)] })
     s.calm ∧ (s.port 2).gnt.windowStart = some 0 ∧ s.booksOk 2 = false ∧ (s.port 2).lnk.link = .active ∧
       ((after (.budgetWindowBoundary 2) s).port 2).aud.resync = some (2, 0)) ∧
    (let s := chanAt { spentCredit := [(calKey 3 4, 2)], creditAt := [(calKey 3 4, 900)] }
     (after (.deadlineCreditEarn 0 3 4) s).now = 1220 ∧
     tabGet 0 ((after (.deadlineCreditEarn 0 3 4) s).pc 0).spentCredit (calKey 3 4) = 1) ∧
    (let s := chanAt { granted := 3, issued := 3, mg := { useCal := 320 } }
     (s.pc 0).granted = (s.pc 0).issued + (s.pc 0).grants.length ∧ s.pcShrunk 0 = false ∧
       (s.pc 0).mg.useCal + (s.pc 0).mg.useHbx + (s.pc 0).mg.useMig ≤ 320 ∧ (∀ e ∈ (s.pc 0).mg.useActs, e.2 ≤ 7) ∧
       ((after (.reservePeriodAudit 0) s).pc 0).mg.lastCal = 320) ∧
    (let s := chanAt { granted := 4, issued := 3, mg := { useCal := 321 } }
     s.collectorOff = false ∧ (s.chan 0).glove = 0 ∧ (s.chan 1).glove = 0 ∧
       (s.pc 0).granted ≠ (s.pc 0).issued + (s.pc 0).grants.length ∧ ((after (.grantAudit 0) s).chan 0).glove = 1 ∧
       320 < (s.pc 0).mg.useCal + (s.pc 0).mg.useHbx + (s.pc 0).mg.useMig ∧
       ((after (.reservePeriodAudit 0) s).chan 1).glove = 2) :=
  ⟨by decide +kernel, ⟨calm_of_default rfl, by decide +kernel⟩, by decide +kernel⟩

theorem witness_PermutationIsOneToOne :
    permute 0x123456789ABCDEF0FEDCBA9876543210 5 ≠ 5 ∧
    unpermute 0x123456789ABCDEF0FEDCBA9876543210 (permute 0x123456789ABCDEF0FEDCBA9876543210 (2 ^ 23 - 1)) = 2 ^ 23 - 1 ∧
    (segOf 7 0x12345).block = 5 ∧ devOf 7 (segOf 7 (2 ^ 31 - 1)) = 2 ^ 31 - 1 := by decide +kernel

/-- A read burst of tag 9 of port 2. -/
def readBurst : Burst := { write := false, port := 2, tag := 9, serial := 1, rank := 3, layer := 3, bank := 1, row := 7, block := 5, start := 900 }
/-- Its request. -/
def reading9 : Req := { tag := 9, op := .rd64, serial := 1, phase := .latched, todo := 1 }
/-- SERVICE with that burst, changed by `f`, on pseudo-channel 0, and its request open. -/
def bursting (b : Burst) : State := { served (fun x => { x with reqs := [reading9] }) with pcs := [(0, { bursts := [b] })] }

theorem witness_NeverWrittenReadsArePoison :
    let b : Burst := { readBurst with never := true }
    let s := twoEvents (srcTsv 0) (bursting b)
    takeFirst (fun b => !b.write && !b.chk) (s.pc 0).bursts = some (b, []) ∧ b.never = true ∧ s.openRead b = some reading9 ∧
      s.noController (chanOf 0) = false ∧
      (let u := readResent 0 (.failed 4) b (s.updPc 0 (fun y => { y with bursts := [] }))
       quietB (srcTsv 0) (u.1.atLeast (u.2.start + 8)) = true) ∧
      ((after (.readBurstReturn 0 .clean) s).port 2).poisonNever = 1 := by decide +kernel

theorem witness_ReadsEndByTheirFlags :
    (let s := bursting readBurst
     takeFirst (fun b => !b.write && !b.chk) (s.pc 0).bursts = some (readBurst, []) ∧ s.noController (chanOf 0) = false ∧
       readBurst.never = false ∧ readBurst.flags = 0 ∧
       s.openRead readBurst = some reading9 ∧ ((after (.readBurstReturn 0 .retried) s).port 2).outq.length = 1 ∧
       ((after (.readBurstReturn 0 .retried) s).chan 0).rtRead = 1) ∧
    (let s : State := { bursting readBurst with chans := [(0, { glove := 3 }), (1, { glove := 3 })] }
     s.noController (chanOf 0) = true ∧ (s.pc 0).excluded = false ∧ (after (.readBurstReturn 0 .clean) s).rep.lostAccess = 1) ∧
    (let b : Burst := { readBurst with flags := 1 }
     let s := bursting b
     takeFirst (fun b => !b.write && !b.chk) (s.pc 0).bursts = some (b, []) ∧ b.flags ≠ 0 ∧
       ((after (.readBurstReturn 0 .clean) s).pc 0).bursts = [{ b with chk := true, xfer := 0, start := 910 }]) ∧
    (let s := twoEvents (srcTsv 0) (bursting readBurst)
     let u := readResent 0 (.failed 4) readBurst (s.updPc 0 (fun y => { y with bursts := [] }))
     s.lostBytes 0 (.failed 4) readBurst = 4 ∧ (4 : BitVec 64) ≠ 0 ∧ readBurst.flags &&& ~~~ 4 = 0 ∧
       quietB (srcTsv 0) (u.1.atLeast (u.2.start + 8)) = true ∧ ((after (.readBurstReturn 0 (.failed 4)) s).pc 0).isolating = true) ∧
    (let s := (twoEvents (srcTsv 0) (bursting readBurst)).updPc 0 (fun x => { x with wq := [⟨3, 1, 7, 5, [⟨0, 950, 4, 4, 0x990000⟩], true, false⟩] })
     s.lostBytes 0 (.failed 4) readBurst = 0 ∧ ((after (.readBurstReturn 0 (.failed 4)) s).port 2).outq.length = 1) ∧
    (let b : Burst := { readBurst with flags := 1, chk := true }
     let s := twoEvents (srcCorr 0) (bursting b)
     takeFirst (fun b => !b.write && b.chk) (s.pc 0).bursts = some (b, []) ∧ s.openRead b = some reading9 ∧
       s.noController (chanOf 0) = false ∧ b.flags &&& ~~~ b.xfer &&& b.unres = 0 ∧ b.xfer = 0 ∧
       quietB (srcCorr 0) (s.atLeast (b.start + 8)) = true ∧ ((after (.chkResult 0) s).chan 0).corrReads = 1) ∧
    (let b : Burst := { readBurst with flags := 1, chk := true }
     let s : State := { bursting b with chans := [(0, { glove := 3 }), (1, { glove := 3 })] }
     s.noController (chanOf 0) = true ∧ ((after (.chkResult 0) s).pc 0).bursts = []) ∧
    (let b : Burst := { readBurst with flags := 1, unres := 1, chk := true }
     let s := twoEvents (srcUncorr 0) (bursting b)
     b.flags &&& ~~~ b.xfer &&& b.unres ≠ 0 ∧ quietB (srcUncorr 0) (s.atLeast (b.start + 8)) = true ∧
       ((after (.chkResult 0) s).port 2).poisonData = 1) ∧
    (let b : Burst := { readBurst with flags := 2, xfer := 2, chk := true }
     let s := bursting b
     b.flags &&& ~~~ b.xfer &&& b.unres = 0 ∧ b.xfer ≠ 0 ∧ ((after (.chkResult 0) s).pc 0).bursts = []) := by decide +kernel

/-- A write burst of block 5 and the queue entry that it drains. -/
def writeBurst : Burst := { readBurst with write := true, flags := 1, data := 0x77, serials := [4] }
def wqEntry (retry : Bool) : WqEntry :=
  { rank := 3, bank := 1, row := 7, block := 5, writes := [⟨4, 800, 2, 1, 0x77⟩], busy := true, retry := retry }

theorem witness_WritesDrainOrStayQueued :
    (let s := chanAt { bursts := [writeBurst], wq := [wqEntry false] }
     (s.pc 0).drainOf = [writeBurst] ∧ writeBurst.block < 16 ∧ s.bist.shutDown = false ∧
       (s.pc 0).wq.any (fun e => e.drainedBy writeBurst && e.retry) = false ∧ writeBurst.flags ≠ 0 ∧
       ((after (.writeDrainComplete 0) s).pc 0).wq = [] ∧
       (after (.writeDrainComplete 0) s).readByte (rowKey 0 3 1 7 * rowBytes + 320) = 0x77 ∧
       ((after (.writeErrorReport 0) s).pc 0).wq.map (·.retry) = [true]) ∧
    (let s := chanAt { bursts := [writeBurst], wq := [{ wqEntry false with writes := [⟨4, 800, 2, 1, 0x77⟩, ⟨6, 950, 2, 2, 0x8800⟩] }] }
     ((after (.writeDrainComplete 0) s).pc 0).wq.map (fun e => (e.busy, e.writes.map (·.serial))) = [(false, [6])]) ∧
    (let b : Burst := { writeBurst with flags := 0 }
     let s := chanAt { bursts := [b], wq := [wqEntry false] }
     (s.pc 0).drainOf = [b] ∧ b.flags = 0 ∧ (after (.writeDrainComplete 0) s).mem = []) ∧
    (let s := twoEvents (srcTsv 0) (chanAt { bursts := [writeBurst], wq := [wqEntry true] })
     (s.pc 0).drainOf = [writeBurst] ∧ (s.pc 0).wq.any (fun e => e.drainedBy writeBurst && e.retry) = true ∧
       quietB (srcTsv 0) (s.atLeast (writeBurst.start + 4)) = true ∧ ((after (.writeErrorReport 0) s).chan 0).rfBeat = 1) ∧
    (let s := twoEvents (srcParity 0) (chanAt { bursts := [{ writeBurst with cmdErrors := 1, actErrors := 1 }], wq := [wqEntry false] })
     quietB (srcParity 0) s = true ∧ ((after (.commandParityReport 0 .column) s).chan 0).rfCommand = 1 ∧
       ((after (.commandParityReport 0 .row) s).chan 0).rfCommand = 1) ∧
    (let s := chanAt { bursts := [writeBurst], wq := [wqEntry false] }
     writeBurst.cmdErrors = 0 ∧ writeBurst.actErrors = 0 ∧ ((after (.commandParityReport 0 .column) s).chan 0).rtColumn = 1 ∧
       ((after (.commandParityReport 0 .row) s).chan 0).rtRow = 1) ∧
    (let s := chanAt { bursts := [{ writeBurst with cmdErrors := 2, actErrors := 2 }], wq := [wqEntry false] }
     2 ≤ ({ writeBurst with cmdErrors := 2 } : Burst).cmdErrors ∧ ((after (.commandParityReport 0 .column) s).pc 0).wq.length = 1 ∧
       ((after (.commandParityReport 0 .row) s).pc 0).bursts = []) ∧
    (let b : Burst := { readBurst with cmdErrors := 2 }
     let s := bursting b
     (s.pc 0).bursts = b :: [] ∧ b.write = false ∧ s.openRead b = some reading9 ∧
       ((after (.commandParityReport 0 .column) s).chan 0).rfThird = 1) ∧
    (let e : Nat × RefRun := (bankKey 3 1, ⟨7, .normal, false, 1000, 0⟩)
     let s := chanAt { rf := { refRun := [e] } }
     (s.pc 0).rf.refRun.find? (fun e => decide (e.1 = bankKey 3 1)) = some e ∧ e.2.errors = 0 ∧
       ((after (.commandParityReport 0 (.refresh 3 1)) s).pc 0).rf.refRun.map (·.2.start) = [1001]) ∧
    (let e : Nat × RefRun := (bankKey 3 1, ⟨7, .normal, false, 1000, 2⟩)
     let s := chanAt { rf := { refRun := [e] } }
     2 ≤ e.2.errors ∧ ((after (.commandParityReport 0 (.refresh 3 1)) s).pc 0).rf.refRun = []) ∧
    (let s := twoEvents (srcParity 0) (chanAt { engErrors := 1 })
     (s.pc 0).engErrors = 1 ∧ quietB (srcParity 0) s = true ∧ ((after (.commandParityReport 0 .engine) s).pc 0).engErrors = 2 ∧
       ((after (.commandParityReport 0 .engine) (chanAt { engErrors := 2 })).chan 0).rfThird = 1) := by decide +kernel

/-- A row whose blocks hold good parity, and one as the array set leaves it. -/
def goodRow : Row := { blocks := List.replicate 16 (0, 0), cuff := 0 }
def freshRow : Row := { blocks := List.replicate 16 (0, BitVec.allOnes 64), cuff := 0 }

theorem witness_WritesKeepTheColumnCode :
    goodRow.blocks.length = 16 ∧ flagsOf (goodRow.block 15) = 0 ∧ freshRow.blocks.length = 16 ∧
    neverWritten (freshRow.block 0) = true ∧ (2 : BitVec 64) ≠ 0 ∧
    byteOf (writeRow freshRow 0 2 0xAB00).1.1 1 = 0xAB ∧ (writeRow freshRow 0 2 0xAB00).2.2 = 0 ∧
    neverWritten (sealRow goodRow 15).1 = true := by decide +kernel

/-! ## Witnesses: channel commands, refresh, hatboxes, repairs -/

/-- A state with the slice of layer 3 in pseudo-channel 0 as given. -/
def slice3 (x : Slice) (s : State) : State := { s with slices := [(3, x)] }
/-- A latched read of block 5 of row 7. -/
def grant9 (c : Cls) : Grant :=
  { port := 2, tag := 9, op := .rd64, cls := c, rank := 3, bank := 1, row := 7, block := 5, start := some 1004, serial := 1 }

/-- A hatbox entry of a kind and source, and one taken. -/
def hat (kind : BitVec 3) (src : Bool) : HatEntry := { kind := kind, src := src, bank := 1, row := 7, block := 5 }
/-- SERVICE with entries of channel 0 taken. -/
def takenAt (l : List Taken) (s : State) : State := { s with chans := [(0, { taken := l })] }

theorem witness_ChannelCommandsFollowTheSchedule :
    (chanAt {}).nextWork 0 = .none ∧
    (let s := chanAt { grants := [grant9 .g] }
     s.nextWork 0 = .grant (grant9 .g) 1004 ∧ s.now ≤ 1004 ∧ (s.pc 0).openRows = [] ∧ (grant9 .g).early = [] ∧ grant9 .g ∈ (s.pc 0).grants ∧ s.bist.shutDown = false ∧
       s.layerAt 0 3 1 7 = some 3 ∧ (s.pc 0).excluded = false ∧ s.noController 0 = false ∧
       (after (.activationIssue 0 []) s).now = 1004 ∧
       tabGet 0 ((after (.activationIssue 0 []) s).pc 0).rf.actCount (pcRowKey 3 1 7) = 1 ∧
       ((after (.activationIssue 0 []) s).pc 0).bursts.map (·.start) = [1032]) ∧
    (let s := chanAt { grants := [grant9 .g], rf := { actCount := [(pcRowKey 3 1 7, 2559)] } }
     ((after (.activationIssue 0 []) s).pc 0).rf.actCount = []) ∧
    (let e : Nat × RefRun := (bankKey 3 1, { row := 7, kind := .normal, protect := false, start := 990 })
     let s := chanAt { grants := [{ grant9 .g with start := some 1010 }], rf := { refRun := [e] } }
     (s.pc 0).rf.refRun.find? (fun e => decide (e.1 = bankKey 3 1)) = some e ∧ e.2.protect = false ∧
       s.layerAt 0 3 1 7 = some 3 ∧ s.now + 10 ≤ 1010 ∧ 1010 < e.2.start + 44 ∧
       tabGet 0 ((after (.pause 0 3 1) s).pc 0).rf.pauses (pcRowKey 3 1 7) = 1) ∧
    (let e : Nat × RefRun := (bankKey 3 1, { row := 7, kind := .normal, protect := true, start := 990 })
     let s := chanAt { grants := [grant9 .g], rf := { refRun := [e] } }
     e.2.protect = true ∧ after (.pause 0 3 1) s = s) ∧
    (let e : Nat × RefRun := (bankKey 3 1, { row := 7, kind := .normal, protect := false, start := 990 })
     let s := chanAt { grants := [grant9 .p], rf := { refRun := [e] } }
     (∀ g ∈ (s.pc 0).grants, g.cls ≠ .g) ∧ after (.pause 0 3 1) s = s) ∧
    (let s := chanAt { openRows := [(bankKey 3 1, 7, 600)] }
     ((s.pc 0).openRows.find? (fun e => decide (e.1 = bankKey 3 1))) = some (bankKey 3 1, 7, 600) ∧
       (after (.rowCloseTimeout 0 3 1) s).now = 1600) ∧
    (let s := slice3 { inUse := true, lastCmd := 990 } (chanAt {})
     (s.pc 0).openRows = [] ∧ (s.pc 0).grants = [] ∧ (s.slice 0 3).inUse = true ∧ (s.slice 0 3).powerDown = false ∧
       (s.slice 0 3).selfRefresh = false ∧ ((after (.slicePowerDown 0 3) s).chan 0).pdCount = 1) ∧
    (let s := chanAt { cal := some (3, 78), calLast := some 400 }
     s.channelsRun = true ∧ (s.pc 0).excluded = false ∧ s.noController (chanOf 0) = false ∧
     (s.pc 0).cal = some (3, 78) ∧ s.calStart 0 = 1200 ∧ ((after (.calMicroStep 0 ⟨true, 9⟩) s).pc 0).cal = some (3, 79)) ∧
    (let s := twoEvents (srcTsv 0) (chanAt { cal := some (3, 0) })
     quietB (srcTsv 0) (s.atLeast (s.calStart 0)) = true ∧ ((after (.calMicroStep 0 ⟨false, 9⟩) s).pc 0).isolating = true ∧
       (receivers 0).all (fun j => decide (tabGet 0 ((after (.calMicroStep 0 ⟨false, 9⟩) s).slice 0 3).settings j = 9)) = true) ∧
    (let s := chanAt { calQueue := [3] }
     (s.pc 0).cal = none ∧ (s.pc 0).calQueue = [3] ∧ ((after (.calMicroStep 0 ⟨true, 9⟩) s).pc 0).cal = some (3, 1)) := by
  decide +kernel

theorem witness_RefreshesKeepTheirSchedule :
    (let s := slice3 { inUse := true } (chanAt {})
     s.refreshes 0 3 = true ∧ s.bankRefreshed 0 3 1 = true ∧ (∀ e ∈ (s.pc 0).rf.refRun, e.1 ≠ bankKey 3 1) ∧
       (∀ e ∈ (s.pc 0).rf.rfmDue, e.1 ≠ bankKey 3 1) ∧ s.earliestDue 0 3 1 0 = true ∧ s.earliestDue 0 3 1 1 = false ∧
       ((after (.refreshIssue 0 3 1 0 .normal) s).pc 0).rf.refRun = [(bankKey 3 1, ⟨0, .normal, false, 1000, 0⟩)]) ∧
    (let s := slice3 { inUse := true } (chanAt { rf := { rfmDue := [(bankKey 3 1, 7, .lower)] } })
     (s.pc 0).rf.rfmDue.find? (fun e => decide (e.1 = bankKey 3 1)) = some (bankKey 3 1, 7, .lower) ∧ s.refreshes 0 3 = true ∧
       s.bankRefreshed 0 3 1 = true ∧
       ((after (.refreshIssue 0 3 1 7 .lower) s).pc 0).rf.refRun = [(bankKey 3 1, ⟨7, .lower, true, 1000, 0⟩)]) ∧
    (chanAt {}).refreshes 0 3 = false ∧
    (let e : Nat × RefRun := (bankKey 3 1, ⟨7, .normal, false, 990, 0⟩)
     let s := slice3 { inUse := true } (chanAt { grants := [{ grant9 .g with start := some 1010 }], rf := { refRun := [e] } })
     (s.pc 0).rf.refRun.find? (fun e => decide (e.1 = bankKey 3 1)) = some e ∧ e.2.protect = false ∧
       s.gAhead 0 3 1 (fun t => decide (t < e.2.start + 44)) = true ∧
       tabGet 0 ((after (.refreshComplete 0 3 1 []) s).pc 0).rf.pauses (pcRowKey 3 1 7) = 1) ∧
    (let e : Nat × RefRun := (bankKey 3 1, ⟨7, .normal, false, 1000, 0⟩)
     let s := slice3 { inUse := true } (chanAt { rf := { refRun := [e] } })
     (s.pc 0).rf.refRun.find? (fun e => decide (e.1 = bankKey 3 1)) = some e ∧ e.2.kind = .normal ∧ (s.slice 0 3).selfRefresh = false ∧
       s.gAhead 0 3 1 (fun t => decide (t < e.2.start + 44)) = false ∧ 1044 ≤ s.rowDue 0 3 1 7 ∧ ((s.setCells (rowKey 0 3 1 7) []).readRow (rowKey 0 3 1 7)).check = none ∧
       (s.slice 0 3).hatbox.length < 16 ∧
       tabGet 0 ((after (.refreshComplete 0 3 1 []) s).pc 0).rf.refDone (pcRowKey 3 1 7) = 4 * 1044 ∧
       ((((s.setCells (rowKey 0 3 1 7) [⟨4608, true⟩]).readRow (rowKey 0 3 1 7)).check).map (·.kind)) = some 3 ∧
       (((after (.refreshComplete 0 3 1 [⟨4608, true⟩]) s).slice 0 3).hatbox.map (·.kind)) = [3] ∧
       (((((List.range 9).map (fun j => CellChange.mk (Fin.ofNat 9728 j) true)).foldl (fun s c => s.setCell (rowKey 0 3 1 7) c) s).readRow
         (rowKey 0 3 1 7)).check.map (·.kind)) = some 1) ∧
    (let s := slice3 { selfRefresh := true } serving
     (s.layer 3).suspectA = false ∧ (s.layer 3).suspectB = false ∧ (s.slice 0 3).selfRefresh = true ∧
       ((after (.selfRefreshSensorRead 3 (some (181 : BitVec 11)) (some (40 : BitVec 11))) s).layer 3).base = 1) ∧
    (let s := slice3 { arraySet := true } serving
     (∀ j < 3, ∀ q < 32, (s.slice q j).arraySet = false) ∧ ((after .arraySetDone s).slice 0 3).arraySet = false) := by
  decide +kernel

theorem witness_HatboxEntriesAreTakenAndServed :
    (let s := slice3 { inUse := true, hatbox := [hat 4 false] } (chanAt {})
     (s.slice 0 3).inUse = true ∧ (s.slice 0 3).hatbox = [hat 4 false] ∧ s.channelsRun = true ∧ s.noController (chanOf 0) = false ∧ (s.slice 0 3).hatPending = [] ∧ (hat 4 false).kind = 4 ∧
       ((after (.rfmRequestReport 0 3) s).pc 0).rf.rfmDue = [(bankKey 3 1, 7, .lower), (bankKey 3 1, 7, .upper)]) ∧
    (let s := slice3 { inUse := true, hatbox := [hat 1 true], unread := 1 } (chanAt {})
     s.pwr.rung ≤ 2 ∧ s.channelsRun = true ∧ s.noController 0 = false ∧ (s.slice 0 3).hatPending = [] ∧ ((after (.hatboxRead 0 []) s).slice 0 3).hatbox = [] ∧
       ((after (.hatboxRead 0 []) s).slice 0 3).unread = 0) ∧
    (let x : Taken := { q := 0, k := 3, e := hat 1 true }
     let s := takenAt [x] (chanAt {})
     s.servesRows = true ∧ takeFirst (fun t => !t.spare) (s.chan 0).taken = some (x, []) ∧ x.e.kind = 1 ∧ x.e.src = true ∧
       ((after (.hatboxEntryService 0) s).chan 0).taken = []) ∧
    (serving.chan 0).taken = [] ∧ State.reset.channelsRun = false ∧ ({ serving with pwr.rung := 3 } : State).servesRows = false ∧
    (let x : Taken := { q := 0, k := 3, e := hat 2 true, spare := true }
     let s := takenAt [x] (slice3 { inUse := true, spares := [⟨1, 0, 40⟩, ⟨2, 1, 40⟩] } (chanAt {}))
     (s.chan 0).taken.find? (·.spare) = some x ∧ (s.slice 0 3).freeSpare 1 = some 1 ∧
       (after (.spareRowAssign 0) s).otp.afQueue.map (fun a => (a.layer, a.spare, a.x, a.y)) = [(3, true, 7, 1)]) ∧
    (let x : Taken := { q := 0, k := 3, e := hat 2 true, spare := true }
     let s := takenAt [x] (slice3 { inUse := true, spares := (List.range 32).map (fun i => ⟨1, i, 40 + i⟩) } (chanAt {}))
     (s.slice 0 3).freeSpare 1 = none ∧ s.sup.restarting = false ∧ (after (.spareRowAssign 0) s).rep.todo = [.bank 0 3 1 true]) := by
  decide +kernel

/-! ## Witnesses: repairs, OTP, journals, temperature -/

/-- SERVICE with repairs waiting. -/
def asked (l : List RepairReq) : State := { served id with rep := { rankMap := [(3, { layer := 3 })], todo := l } }

theorem witness_RepairsMoveOrRetireTheirUnit :
    (let s := chanAt { isolating := true }
     let x : TsvRef := { group := 1, lane := 5, layer := 3 }
     (s.pc 0).isolating = true ∧ (s.pc 0).excluded = false ∧ s.freeTsv 0 = some 0 ∧
       ((after (.tsvSteering 0 none) s).pc 0).isolating = false ∧
       ((after (.tsvSteering 0 (some x)) s).steer 0 0).map (·.lane) = some 5) ∧
    (let s := twoEvents (srcTsv 0) (chanAt { isolating := true, steer := [(0, {}), (1, {}), (2, {}), (3, {})] })
     s.freeTsv 0 = none ∧ quietB (srcTsv 0) s = true) ∧
    (serving.rep.todo = [] ∧ ({ serving with sup.restarting := true } : State).sup.restarting = true) ∧
    (let s := asked [.bank 0 3 1 true]
     s.sup.restarting = false ∧ s.units 0 = [] ∧ s.bankOwner 0 3 1 = some 3 ∧
       ¬ ((s.rank 0 3).layer = 3 ∧ 3 ≤ ((List.range 16).filter (fun c => decide (s.bankEnt 0 3 c ≠ .own))).length) ∧
       s.linerFor 0 3 (some 1) [3] = some 16 ∧ ((after .bankMapOut s).pc 0).mg.unit = ⟨3, some 1, 3, 16, []⟩) ∧
    (let s : State := { asked [.bank 0 3 1 true] with layers := [(16, { retired := true }), (17, { retired := true })] }
     s.linerFor 0 3 (some 1) [3] = none ∧ s.bankOwner 0 3 1 = some 3 ∧ (after .bankMapOut s).bankEnt 0 3 1 = .retired) ∧
    (let s : State := { asked [.rank 0 3 true] with otp.ident := some { ident with part := 3, liners := [] } }
     s.capMigration = false ∧ s.units 0 = [] ∧ s.units 1 = [] ∧
       ((s.retiredChannels 3).filter (fun m => decide (m ≠ 0))).length < 3 ∧ 3 < s.serviceLayers ∧ (s.rank 0 3).layer = 3) := by decide +kernel

theorem witness_RepairsMoveOrRetireTheirUnit_layers :
    (let s := asked [.layer 3 true]
     (s.layer 3).retired = false ∧ s.refuse = false) ∧
    (let s : State := { asked [.layer 3 true] with rep.layerPolicy := true }
     s.refuse = true ∧ s.counts (srcLayer 3) = true ∧ s.srcClass (srcLayer 3) < 4 ∧ s.mode = .service ∧ s.holdCause = 0) ∧
    (let s := chanAt { mg := { mig := .prepare, unit := ⟨3, none, 3, 16, []⟩ } }
     (s.pc 0).mg.mig = .prepare ∧ (3 : Nat) ≠ 16 ∧ s.sup.restarting = false ∧ s.mode = .service ∧ (s.slice 0 16).inUse = false ∧
       (∀ e ∈ s.afReads [] 16, e.2 = .clear) ∧ ((after (.linerIntoUse 0 ⟨[], [], []⟩) s).pc 0).mg.mig = .copy ∧
       (({ s with sup.restarting := true } : State).pc 0).mg.mig = .prepare) ∧
    (let s : State := { chanAt { mg := { mig := .copy, unit := ⟨3, some 1, 3, 16, []⟩, mark := 16 * 7 + 1 } } with
        mem := [(rowKey 0 3 1 7 * rowBytes, 0x5A)] }
     (s.pc 0).mg.mig = .copy ∧ (s.pc 0).mg.mark = 16 * 7 + 1 ∧ (s.pc 0).excluded = false ∧ s.noController (chanOf 0) = false ∧ s.bist.phase < 3 ∧
       ((after (.rowCopy 0) s).pc 0).mg.mark = 16 * 8 + 1) := by decide +kernel

/-- A burn that succeeds with one pulse, and one that fails. -/
def goodTry : BurnTry := ⟨2500, some 0⟩
def badTry : BurnTry := ⟨2500, none⟩
/-- `State.commits`, written out. -/
def commitsB (c : Instr) (s : State) : Bool :=
  s.listens && s.following && s.accepts c && viewWrites s.currentView (actionAddr c) && !s.sup.restarting
/-- FACTORY. -/
def factory : State := { serving with mode := .factory }

theorem witness_BurnsBlowOnlyPermittedRows :
    (let e : AfEntry := ⟨3, 0, 1, true, 7, 1⟩
     let s : State := { serving with otp.afQueue := [e] }
     s.otp.afJob = none ∧ s.afOpen = none ∧ s.otp.afQueue = e :: [] ∧
       (∀ x ∈ s.afEntries 3, ¬ (x.spare = true ∧ x.q = e.q ∧ x.bank = e.bank ∧ x.y = e.y)) ∧ s.afFree 3 = some 768 ∧
       s.afMay goodTry 160 = true ∧ goodTry.pulses.isSome = true ∧
       (after (.layerAntifuseBurn goodTry 160) s).afPlace 768 = 0x100800E1 ∧
       vppOk ⟨2399, some 0⟩ = false ∧ vppOk ⟨2601, some 0⟩ = false ∧ degC 85 ≤ Temp.val 340 ∧ s.afMay goodTry 340 = false) ∧
    (let e : AfEntry := ⟨3, 0, 1, true, 7, 1⟩
     let s : State := { serving with otp.afJob := some (768, e, [1, 2]) }
     s.otp.afJob = some (768, e, 1 :: [2]) ∧ s.afMay goodTry 160 = true ∧ (after (.layerAntifuseBurn goodTry 160) s).afPlace 768 = 1 ∧
       s.afMay badTry 160 = true ∧ badTry.pulses = none ∧ [(2 : BitVec 41)] ≠ [] ∧ e ∉ s.otp.afQueue ∧
       (after (.layerAntifuseBurn badTry 160) s).otp.afQueue = [e] ∧ s.afMay goodTry 340 = false ∧
       (after (.layerAntifuseBurn goodTry 340) s).otp.afHeld = true ∧
       ({ s with otp.afHeld := true } : State).afMay goodTry 328 = false ∧ ({ s with otp.afHeld := true } : State).afMay goodTry 327 = true) ∧
    (serving.supBurn ⟨2399, some 0⟩ = false) ∧
    (let s : State := { serving with otp.rom := rom, otp.job := some (2, [(159, 5), (136, 6)]) }
     s.supBurn goodTry = true ∧ s.otp.burnHeld = false ∧ s.keyBlank 159 = true ∧ servedRow 159 5 = 136 + 8 * 2 + 7 ∧
       (after (.fieldFrameBurn goodTry) s).fuseRow 159 = 0x1400000000000005 ∧ (after (.fieldFrameBurn goodTry) s).frame 2 = .validOpen ∧
       ({ s with otp.rows := [(159, 1)] } : State).keyBlank 159 = false) ∧
    (let s : State := { serving with otp.job := some (2, [(155, 5)]) }
     s.supBurn badTry = true ∧ s.keyBlank 155 = true ∧ s.freeSpares = List.range 16 ∧
       ((after (.fieldFrameBurn badTry) s).otp.job.map (fun j => j.2.map (·.1))) = some [480, fieldKey 0]) := by decide +kernel

theorem witness_BurnsBlowOnlyPermittedRows_shadows :
    (let s : State := { serving with otp.burnHeld := true }
     s.baseBelow 92 = true ∧ (after .burnResume s).otp.burnHeld = false ∧
       ({ s with thm.sensors := [(5, { reading := some (degC 92) })] } : State).baseBelow 92 = false) ∧
    (let s := twoEvents 228 { serving with otp.retShadow := [(50, 9)], otp.shadow := [(50, 8), (51, 7)] }
     quietB 228 s = true ∧ (after (.shadowParityError 50 false) s).shadow 50 = 9 ∧ (47 : Fin 480).val < 48 ∧ s.mode ≠ .trip ∧
       (after (.shadowParityError 47 true) s).mode = .hold ∧ 48 ≤ (48 : Fin 480).val ∧
       (after (.shadowParityError 50 true) s).shadow 50 = 0) ∧
    (let s : State := { serving with otp.burnRow := 200, otp.burnLo := 5 }
     commitsB (.otpBurn goodTry) s = true ∧ s.otp.burnRow.toNat < 496 ∧ s.mode ≠ .factory ∧
       (after (.otpBurn goodTry) s).otp.burnCode = 7) ∧
    (let s : State := { serving with otp.burnRow := 496, otp.burnLo := 5 }
     commitsB (.otpBurn goodTry) s = true ∧ s.otp.burnField = false ∧ 496 ≤ s.otp.burnRow.toNat ∧
       (after (.otpBurn goodTry) s).otp.burnCode = 0) ∧
    (let s : State := { factory with otp.rom := rom, otp.burnRow := 200, otp.burnLo := 5 }
     commitsB (.otpBurn goodTry) s = true ∧ s.mode = .factory ∧ (after (.otpBurn ⟨2399, some 0⟩) s).otp.burnCode = 2 ∧
       s.baseBelow 95 = true ∧ s.otp.burnField = false ∧ isCommitRow s.otp.burnRow.toNat = false ∧ s.fuseRow 200 = 0 ∧
       (after (.otpBurn goodTry) s).fuseRow 200 = 0x1400000000000005 ∧ (after (.otpBurn goodTry) s).otp.burnCode = 1) ∧
    (let s : State := { factory with otp.ovrRow := 200, otp.ovrLo := 5, otp.overridden := [201], otp.resolved := [(201, 3)] }
     commitsB .applyOverride s = true ∧ s.otp.ovrRow.toNat < 480 ∧ (after .applyOverride s).shadow 200 = 5 ∧
       commitsB .clearOverrides s = true ∧ (after .clearOverrides s).shadow 201 = 3) := by decide +kernel

theorem witness_JournalsRecordInOrder :
    (let j : JQueued := { prio := 7, kind := 7, payload := [1, 2, 3] }
     let s : State := twoEvents 229 { serving with jnl.queue := [j], jnl.offset := 16, jnl.seq := 4 }
     s.journalRuns = true ∧ s.writable = some j ∧ s.jnl.offset ≠ 0 ∧ s.bist.shutDown = false ∧ s.thm.tripWait = false ∧
       s.jnl.offset + recordSize j.payload.length ≤ 4096 ∧
       (after (.journalRecordWrite .committed) s).jnl.records.map (·.seq) = [5] ∧ s.jnl.failCount ≠ 7 ∧ quietB 229 s = true ∧
       (after (.journalRecordWrite .failed) s).jnl.sector = 1 ∧
       (after (.journalRecordWrite .failed) { s with jnl.failCount := 7 }).jnl.suspended = true) ∧
    (serving.jnl.queue = []) ∧
    (let s : State := { serving with mb.busy := some (4, 900), jnl.queue := [{ prio := 7, kind := 7, payload := [] }] }
     s.journalRuns = true ∧ s.jnl.underWay = none ∧ s.mb.busy = some (4, 900) ∧ s.writable = none) ∧ (serving.pwrgood = true ∧ serving.pwr.rung ≤ 3 ∧ serving.boot.step6 = true ∧ serving.mode ≠ .trip) ∧
    (let s : State := { serving with layers := [(3, { powered := true, temp := degC 85 })] }
     ((after .wearAccrual s).layer 3).wear = wearRate (degC 85) ∧ ((after .wearAccrual s).layer 4).wear = 0) ∧
    (serving.mode = .service ∧ serving.jnl.suspended = false ∧ serving.jnl.queue.length < 14 ∧
       (after .wearLedgerDue serving).jnl.queue.length = 1 ∧ ({ serving with mode := .hold } : State).mode = .hold) ∧
    (commitsB .journalFlush serving = true ∧ (after .journalFlush serving).mb.busy = some (3, 1000) ∧
       commitsB .journalRead serving = true ∧ (after .journalRead serving).mb.busy = some (4, 1000)) := by decide +kernel

/-- SERVICE with layer 3 powered. -/
def warm (f : Layer → Layer) : State := { serving with layers := [(3, f { powered := true })] }

theorem witness_TemperaturesAreHeldAndTripTheStack :
    (({ serving with mode := .hold } : State).thermalRuns = false ∧ ({ serving with mode := .hold } : State).heldNow = none) ∧
    (let s : State := { serving with mode := .hold, holdCause := 1, flt.grave0 := true, flt.grave1 := true, flt.holdAt := some (1000, .service) }
     s.heldNow = some .service ∧ (s.layer 3).suspectA = false ∧ degC 105 ≤ Temp.val 420 ∧ s.grave = true ∧
       (after (.thermalSample [{ sensor := .layerA 3, value := some 420 }]) s).mode = .trip ∧
       ({ s with now := 1001 } : State).heldNow = none) ∧
    (let s := warm id
     s.thermalRuns = true ∧ (s.layer 3).powered = true ∧ s.thm.vrefBad = false) ∧
    (let s := warm (fun x => { x with failA := 2 })
     (s.layer 3).failA = 2 ∧ ((after (.thermalSample [{ sensor := .layerA 3, value := none }]) s).layer 3).suspectA = true) ∧
    (let s := warm id
     s.mode = .service ∧ s.pwr.rung ≤ 3 ∧ (s.layer 3).suspectA = false ∧ (s.layer 3).level < 3 ∧ degC 105 ≤ Temp.val 420 ∧
       (s.layer 3).divA = none ∧ (s.layer 3).divB = none ∧ (s.layer 3).divAB = none) ∧
    (let s : State := { serving with mode := .trip, thm.tripWait := true, thm.tripAt := 900 }
     s.thm.tripWait = true ∧ (after .tripRecordTimeout s).pins.thermtrip = true ∧ (after .tripRecordTimeout s).now = 100000900) ∧
    (serving.thm.tripWait = false) ∧
    (let s : State := { serving with thm.work := [(3, 4)] }
     s.thermalRuns = true ∧ s.fitted 3 = true) ∧
    (let s := twoEvents 221 serving
     s.thermalRuns = true ∧ quietB 221 s = true ∧ (after (.sensorCalibration 1980) s).thm.vrefBad = false ∧
       (after (.sensorCalibration 2020) s).thm.lastRound = some 1000 ∧ (after (.sensorCalibration 1979) s).thm.vrefBad = true ∧
       (after (.sensorCalibration 2021) s).thm.vrefBad = true) ∧
    (let s := twoEvents 6 serving
     s.pwr.rung ≤ 2 ∧ s.mode = .service ∧ quietB 6 s = true ∧ (after (.zqCalibration ⟨228000, 3, 3⟩) s).pwr.zqTx = 1 ∧
       (after (.zqCalibration ⟨252000, 3, 3⟩) s).pwr.zqBad = false ∧ (after (.zqCalibration ⟨227999, 3, 3⟩) s).pwr.zqBad = true ∧
       (after (.zqCalibration ⟨252001, 3, 3⟩) s).pwr.zqBad = true) := by decide +kernel

/-! ## Witnesses: the ladder, wakes, the collector, attestation -/

/-- The session of port 2, idle, and the ladder as given; every port but it is disabled. -/
def ladder (f : PwrState → PwrState) : State := { sess id with pwr := f (sess id).pwr }
/-- RETAIN with port 2 in DETECT. -/
def resting (f : PwrState → PwrState) : State := { linkAt .detect id with mode := .retain, otp.ident := none, pwr := f { (sess id).pwr with rung := 3 } }

theorem witness_TheLadderGoesDownByHandshake :
    (let s := ladder id
     (s.port 2).lnk.link = .active ∧ (s.port 2).idle = true ∧ (s.port 2).deepest = 3 ∧
       ((after (.portIdleDescent 2) s).port 2).rung = 1 ∧ (serving.port 2).lnk.link ≠ .active) ∧
    (let s := sess (fun x => { x with rung := 2, txHush := true })
     (s.port 2).rung ≠ 0 ∧ s.mode = .service ∧ ((after (.portActivityExit 2) s).port 2).rung = 0) ∧
    (let s := twoEvents (srcProto 2) (sess id)
     (s.port 2).inSession = true ∧ (s.port 2).tx.rx = [] ∧ (s.port 2).rung = 0 ∧ quietB (srcProto 2) s = true ∧
       ((after (.doze 2 3) s).port 2).doze = 3 ∧ ((after (.doze 2 1) s).port 2).protoLast = 1) ∧
    (let s := ladder (fun x => { x with retainIdle := 5 })
     s.mode = .service ∧ s.bist.shutDown = false ∧ s.pwr.entry = none ∧ s.portsIdle = true ∧ s.pwr.retainPending = false ∧ s.pwr.rung ≠ 3 ∧
       (after .retainIdleExpiry s).pwr.retainPending = true ∧ (ladder id).retainWait = 0 ∧
       s.retainWait = 5 ∧ commitsB .descendNow s = true ∧ (after .descendNow s).pwr.skipDwells = true ∧ commitsB .returnToService s = true) ∧
    (let s := ladder (fun x => { x with retainIdle := 5, rung := 3 })
     s.pwr.rung = 3 ∧ s.migrating = false ∧ (after .retainIdleExpiry s).pwr.entry = some ⟨6, 5000000⟩ ∧ commitsB .moveToRetain s = true ∧
       (after .moveToRetain s).pwr.entry = some ⟨6, 1000⟩) := by decide +kernel

theorem witness_TheLadderGoesDownByHandshake_entries :
    (let s : State := { ladder (fun x => { x with entry := some ⟨3, 900⟩ }) with pcs := [(0, { mg := { mig := .copy } })] }
     s.pwr.entry = some ⟨3, 900⟩ ∧ s.refuser 3 = some 6 ∧ (after .entryComplete s).pwr.hsResult = 2) ∧
    (let s : State := { ladder (fun x => { x with entry := some ⟨2, 900⟩ }) with slices := [(3, { inUse := true })] }
     s.refuser 2 = none ∧ s.delayer 2 = none ∧ s.pwr.raising = false ∧ s.pins.shdnReqN = true ∧
       (after .entryComplete s).pwr.rung = 2 ∧ ((after .entryComplete s).slice 0 3).powerDown = true ∧
       (after (.entryDelayLimit 25) s).pwr.hsBlock = 25 ∧ (after (.entryDelayLimit 25) s).now = 1000) ∧
    (let s : State := { ladder (fun x => { x with entry := some ⟨2, 900⟩ }) with pcs := [(0, { wq := [wqEntry false] })] }
     s.refuser 2 = none ∧ s.delayer 2 = some 24) ∧
    (let s := ladder (fun x => { x with entry := some ⟨6, 900⟩, rung := 3 })
     s.refuser 6 = none ∧ s.delayer 6 = none ∧ s.pwr.skipDwells = false ∧ (after .entryComplete s).mode = .retain) ∧
    (let s := resting (fun x => { x with entry := some ⟨5, 900⟩ })
     s.refuser 5 = none ∧ s.delayer 5 = none ∧ s.pwr.raising = false ∧ s.pins.shdnReqN = true) ∧
    ((ladder id).pwr.entry = none) := by decide +kernel

theorem witness_TheLadderGoesDownByHandshake_dwells :
    (let s : State := { linkAt .detect id with pwr := { serving.pwr with retry := some (3, 500) } }
     s.mode = .service ∧ s.bist.shutDown = false ∧ s.pwr.entry = none ∧ s.pwr.retry = some (3, 500) ∧ s.lowestRung = 3 ∧ s.pwr.rung < 3 ∧
       s.refuser 3 = none ∧ (after .entryRetry s).pwr.entry = some ⟨3, 10000500⟩) ∧
    (serving.pwr.retry = none) ∧
    (let s := resting (fun x => { x with keep := 1, deepest := 4 })
     s.dwelling = true ∧ s.pwr.rung = 3 ∧ s.pwr.keep ≠ 0 ∧ 4 ≤ s.pwr.deepestNow ∧ s.refuser 4 = none ∧
       ((after .dwellP3Expiry s).pwr.entry.map (·.target)) = some 4) ∧
    (let s := resting (fun x => { x with keep := 0, deepest := 5 })
     s.dwelling = true ∧ s.pwr.keep = 0 ∧ s.pwr.deepestNow = 5 ∧ s.refuser 5 = none ∧ (after .dwellP3Expiry s).bist.running = true) ∧
    (let s := resting (fun x => { x with rung := 4, deepest := 5 })
     s.dwelling = true ∧ s.pwr.rung = 4 ∧ s.pwr.deepestNow = 5 ∧ s.refuser 5 = none ∧ (after .dwellP4Expiry s).sup.running = true) ∧
    (serving.mode ≠ .retain) := by decide +kernel

/-- RETAIN at P4 or P5. -/
def asleep (rung : Nat) : State := resting (fun x => { x with rung := rung, ladderTimer := 3, keep := 8, restAt := 900 })

theorem witness_WakesStartTheExitAndAreRecorded :
    (∀ r ∈ [4, 5], (asleep r).mode = .retain ∧ (asleep r).bist.shutDown = false ∧ (asleep r).pwr.wake = none ∧ (asleep r).pwr.entry = none ∧
      (asleep r).pwr.rung = r ∧ (asleep r).portUp 2 = true ∧ (asleep r).pwr.ladderTimer ≠ 0 ∧ (asleep r).bist.running = false ∧
      (asleep r).counts 6 = true ∧ (asleep r).flt.held.length < 8 ∧ (asleep r).mb.busy = none ∧
      (after .wakeNLow (asleep r)).pwr.wake = some ⟨r, 3, true, 1⟩ ∧ (after (.portActivityWake 2) (asleep r)).pwr.wakeLast = 1 ∧
      (after .ladderTimerWake (asleep r)).now = 3000000900 ∧ (after (.faultWake (some 6)) (asleep r)).flt.held = [(6, 1000)] ∧
      (after .twoWireWake (asleep r)).mb.busy = some (6, 1000)) ∧
    (let s : State := { asleep 4 with otp.ident := some ident, rep.rankMap := [(3, { layer := 3 })] }
     s.pwr.rung = 4 ∧ s.layerKept 3 = true ∧ (after (.thermalWake 3) s).pwr.wakeLayer = 3 ∧
       (after (.faultWake none) s).pwr.wake = some ⟨4, 6, false, 1⟩) ∧
    (let s := resting id
     s.mode = .retain ∧ s.pwr.wake = none ∧ s.pwr.rung = 3 ∧ s.portUp 2 = true ∧ (s.port 2).lnk.link ≠ .active ∧
       commitsB .returnToService s = true ∧ (after .wakeNLow s).mode = .service ∧ (after (.portActivityWake 2) s).mode = .service ∧
       (after .returnToService s).pwr.wakeLast = 2) ∧
    (let s : State := { serving with mode := .hold }
     s.mode = .hold ∧ s.pwr.rung ≤ 3 ∧ after (.portActivityWake 2) s = s) ∧
    (serving.pwr.wake = none ∧ key.healthy = true) := by decide +kernel

theorem witness_WakesStartTheExitAndAreRecorded_exits :
    (let w : WakeRun := ⟨5, 3, true, 5⟩
     let s : State := { asleep 5 with pwr.wake := some w }
     let z : State := { s with pwr.corePll := false }
     s.pwr.wake = some w ∧ s.pwr.raising = false ∧ s.sup.running = true ∧ s.pwr.corePll = true ∧ w.from_ = 5 ∧ w.step < 6 ∧
       z.pwr.corePll = false ∧ (after (.wakeExitComplete { key with healthy := false } []) s).rep.keyPending = true ∧
       (after (.wakeExitComplete { key with healthy := false } []) s).rep.keyAt = 1000 ∧ (after (.wakeExitComplete key []) s).rep.keyGen = 1) ∧
    (let s : State := { asleep 4 with pwr.wake := some ⟨4, 3, true, 5⟩ }
     s.pwr.wake = some ⟨4, 3, true, 5⟩ ∧ s.pwr.raising = false ∧ s.sup.running = true ∧ s.pwr.corePll = true) ∧
    (let s := resting (fun x => { x with cause := 4 })
     s.mode = .retain ∧ s.pwr.rung = 3 ∧ s.pwr.cause = 4 ∧ s.pwr.entry = none ∧ s.jnl.queue = [] ∧ (after .housekeepingDone s).pwr.cause = 0) ∧
    (let s := resting (fun x => { x with cause := 6 })
     s.pwr.cause ≠ 4 ∧ s.causeHandled = true ∧ (after .wakeCauseHandled s).pwr.cause = 0 ∧ (resting id).causeHandled = false) := by decide +kernel

theorem witness_FaultEventsCountEscalateAndHold :
    (let s := twoEvents 6 serving
     s.pwrgood = true ∧ quietB 6 s = true ∧ ((after (.faultRegistration 6 {}) s).src 6).total = 1 ∧
       (after (.faultRegistration 6 {}) s).collectorOff = false ∧ ((after (.faultRegistration 6 {}) s).src 6).last = some 1000 ∧
       ((after (.faultRegistration 6 {}) (after (.faultRegistration 6 {}) s)).src 6).count = 1) ∧
    (let s := serving.updSrc 6 (fun x => { x with n := 1, cls := 1, react := 1 })
     s.collectorOff = false ∧ s.counts 6 = true ∧ (s.src 6).last ≠ some s.now ∧ ((s.src 6).count1 s.now).2 = true ∧ fixedClass 6 = none ∧ fixedReact 6 = 0 ∧
       (s.src 6).react = 1 ∧ (s.src 6).cls.toNat < 3 ∧ ((after (.faultRegistration 6 {}) s).src 6).cls = 2) ∧
    (let s := serving.updSrc 14 (fun x => { x with n := 1 })
     s.counts 14 = true ∧ (s.src 14).last ≠ some s.now ∧ ((s.src 14).count1 s.now).2 = true ∧ s.srcClass 14 = 4 ∧ s.mode ≠ .hold ∧ s.mode ≠ .trip ∧
       (after (.faultRegistration 14 {}) s).grave = true ∧ (after (.faultRegistration 14 {}) s).flt.graveSrc = 14) ∧
    (State.reset.pwrgood = false ∧ State.reset.sup.running = false ∧ State.reset.thermalRuns = false ∧ State.reset.heldNow = none) ∧
    (let s : State := (bootAt 4).updSrc 14 (fun x => { x with n := 1 })
     s.mode = .boot ∧ s.holdCause = 0 ∧ s.srcClass 14 = 4 ∧ (after (.faultRegistration 14 {}) s).holdCause = 1) ∧
    (let s := serving.updSrc 6 (fun x => { x with windowOpen := true, count := 1, start := 900 })
     (serving.src 6).windowOpen = false ∧ (s.src 6).windowOpen = true ∧ s.collectorOff = false ∧
       ((after (.faultWindowExpiry 6) s).src 6).count = 0) ∧
    (let s := twoEvents 0 serving
     s.sup.running = true ∧ s.sup.restarting = false ∧ s.pwr.rung ≤ 3 ∧ s.mode ≠ .trip ∧ tabGet 0 s.flt.checks 1 < 2 ∧ quietB 0 s = true ∧
       (after (.aonSelfCheck [.graveCopy 1]) s).flt.checks = [(1, 1)] ∧
       (after (.aonSelfCheck [.graveCopy 1]) { s with flt.checks := [(1, 2)] }).grave = true) ∧
    (let s := twoEvents 9 (serving.updSrc 6 (fun x => { x with cls := 1 }))
     quietB 9 s = true ∧ s.pwrgood = true ∧ s.mode ≠ .trip ∧ s.counts 6 = true ∧ s.counts 255 = false ∧ ((after (.collectorSweep [(6, 4)]) s).src 6).cls = 4 ∧ ((after (.collectorSweep [(6, 5)]) s).src 6).cls = 1) := by decide +kernel

theorem witness_FaultEventsCountEscalateAndHold_actions :
    (let s := twoEvents 6 serving
     commitsB (.fltForce 6) s = true ∧ (s.src 6).last ≠ some (s.now + 1) ∧ s.counts 6 = true ∧ ((s.src 6).count1 (s.now + 1)).2 = false ∧ s.srcClass 6 ≠ 4 ∧ ((after (.fltForce 6) s).src 6).forced = true ∧
       commitsB (.fltForce 14) s = true ∧ (s.src 14).last ≠ some (s.now + 1) ∧ s.mode ≠ .trip ∧ s.counts 14 = true ∧ s.srcClass 14 = 4 ∧ (after (.fltForce 14) s).mode = .hold ∧
       commitsB (.fltForce 255) s = true ∧ s.counts 255 = false) ∧
    (let s := twoEvents 6 serving
     commitsB (.fltClear 6) s = true ∧ s.srcClass 6 ≠ 4 ∧ fixedClass 6 = none ∧ s.srcAbsent 6 = false ∧
       ((after (.fltClear 6) s).src 6).count = 0 ∧ commitsB (.fltClear 214) s = true ∧ (fixedClass 214).isSome = true) ∧
    (let r : Req := { tag := 9, op := .wr64, phase := .latched, serial := 1 }
     let s := twoEvents 7 (sess (fun x => { x with reqs := [r] }))
     quietB 7 s = true ∧ r.tag = (9 : BitVec 10).toNat ∧ r.op.mgmt = false ∧ (s.port 2).reqs = [r] ∧ r.op.writes = true ∧ r.phase = .latched ∧ r.accepted = true ∧
       ((after (.crossbarParityError 2 9 true) s).port 2).outq.length = 1) ∧
    (let r : Req := { tag := 9, op := .rd64, phase := .latched, serial := 1, todo := 1 }
     let s := twoEvents 7 (sess (fun x => { x with reqs := [r] }))
     quietB 7 s = true ∧ (s.port 2).reqs = [r] ∧ r.op = .rd64 ∧ r.accepted = true ∧ r.len = 0 ∧ r.todo = 1 ∧ r.part1 = none ∧
       ((after (.crossbarParityError 2 9 true) s).port 2).outq.map (·.closes) = [some 9]) := by decide +kernel

/-- SERVICE with the signing state as given. -/
def signing (f : AttState → AttState) : State := { sess (fun x => { x with reqs := [{ tag := 9, op := .mattest, phase := .mgmt }] }) with
  att := f { serving.att with ready := true, exhausted := false, allowance := 2, next := 5, queue := [{ port := none, tag := 0, nonce := 0, at_ := 900 }] } }

theorem witness_ReportsUseEachLeafOnce :
    (let s := signing (fun x => { x with ready := false, rebuild := false })
     s.att.ready = false ∧ s.att.exhausted = false ∧ s.attRuns = true ∧ (after (.traversalBuilt true) s).att.ready = true ∧
       (after (.traversalBuilt false) s).att.rebuild = true) ∧
    (serving.mode = .service ∧ (after .allowanceGain { serving with att.allowance := 64 }).att.allowance = 64 ∧ serving.att.queue = []) ∧
    (let r : AttReq := { port := none, tag := 0, nonce := 0, at_ := 900 }
     let s : State := { signing id with otp.rows := [(102, 3)] }
     s.att.queue = r :: [] ∧ s.stillAsked r = true ∧ s.attRuns = true ∧ s.att.exhausted = false ∧ s.att.ready = true ∧
       s.att.allowance ≠ 0 ∧ s.att.next + 1 < 1048576 ∧ s.att.next / 1024 < s.leafCount ∧
       (after (.reportSigned goodTry) s).att.next = 6 ∧ (after (.reportSigned goodTry) s).att.result = 1) ∧
    (let s := signing (fun x => { x with allowance := 0 })
     s.att.allowance = 0 ∧ (after (.reportSigned goodTry) s).att.result = 3) ∧
    (let r : AttReq := { port := some 2, tag := 9, nonce := 0, at_ := 900 }
     let s : State := { signing (fun x => { x with queue := [r] }) with otp.rows := [(102, 3)] }
     s.att.queue = r :: [] ∧ s.stillAsked r = true ∧ ((after (.reportSigned goodTry) s).port 2).outq.length = 49) ∧
    (let s := signing id
     s.leafCount = 0 ∧ s.supBurn goodTry = true ∧ goodTry.pulses.isSome = true ∧ s.att.next / 1024 = 0 ∧ s.att.next + 1 < 1048576 ∧ s.att.allowance ≠ 0 ∧
       (after (.reportSigned goodTry) s).fuseRow 102 = 3 ∧ (after (.reportSigned goodTry) s).leafCount = 1 ∧
       (after (.reportSigned goodTry) s).shadow 102 = 3 ∧ (after (.reportSigned goodTry) s).otp.overridden = [102] ∧ s.supBurn ⟨2399, some 0⟩ = false ∧
       (after (.reportSigned ⟨2399, some 0⟩) s).att.result = 4) ∧
    (let s := signing id
     commitsB .attReportRequest s = true ∧ s.currentView = .whole ∧ s.attRuns = true ∧ s.att.exhausted = false ∧ s.att.ready = true ∧
       s.att.allowance ≠ 0 ∧ (∀ a ∈ s.att.queue, a.port = none) ∧ (after .attReportRequest s).att.queue.length = 2) ∧
    (let s : State := { signing id with mode := .factory }
     commitsB .attReportRequest s = true ∧ s.currentView = .whole ∧ s.attRuns = false ∧ (after .attReportRequest s).att.result = 7) ∧
    (let s : State := { signing id with mb.transfer := some { addr := 0x59, view := .port 2, read := false } }
     s.listens = true ∧ s.following = true ∧ s.currentView = .port 2 ∧ s.sup.restarting = false ∧
       s.actsNow (actionAddr .attReportRequest) = true ∧ (after .attReportRequest s).att.result = 6) := by decide +kernel

/-! ## Witnesses: self-test, the two-wire target, register actions, test access, invariants -/

/-- A self-test of the partitions in `l` under way in HOLD. -/
def testing (l : List Nat) : State :=
  { serving with mode := .hold, otp.bistExp := some (48, 6), bist := { running := true, trigger := 4, todo := l, startedAt := 900 } }

theorem witness_SelfTestsRunAndShutDownCompletes :
    (({ serving with mode := .hold } : State).shutdownAllowed = false ∧ ({ serving with bist.shutDown := true, bist.phase := 4 } : State).bist.phase ≠ 2) ∧
    (let s := serving
     s.shutdownAllowed = true ∧ s.bist.shutDown = false ∧ (after .shdnReqNLow s).bist.trigger = 1 ∧ commitsB .bistShutdownGo s = true ∧
       s.bist.running = false ∧ (after .bistShutdownGo s).bist.trigger = 2) ∧
    (let s : State := { serving with mode := .hold }
     commitsB .bistShutdownGo s = true ∧ s.shutdownAllowed = false ∧ (after .bistShutdownGo s).bist.refused = true) ∧
    (let s : State := { serving with mode := .hold }
     commitsB (.bistPartitionGo 0x80001) s = true ∧ (List.range 20).filter (fun i => (0x80001 : BitVec 20).getLsbD i && !s.partAbsent i) = [0, 19] ∧
       (after (.bistPartitionGo 0x80001) s).bist.todo = [0, 19]) ∧
    (let s := serving
     commitsB (.bistPartitionGo 1) s = true ∧ s.mode = .service ∧ (after (.bistPartitionGo 1) s).bist.refused = true) ∧
    (let s := testing [0, 3, 5]
     s.bist.running = true ∧ s.pwr.raising = false ∧ s.underTest = [0, 3] ∧ s.expected 0 = some 0 ∧ s.expected 3 = some 0 ∧
       (after (.bistSlotEnd [⟨0, 0, 7⟩, ⟨3, 0, 9⟩]) s).bist.todo = [5] ∧
       ((after (.bistSlotEnd [⟨0, 0, 7⟩, ⟨3, 0, 9⟩]) s).part_ 3).status = 1) ∧
    (let s := twoEvents 245 (testing [3])
     let u := s.atLeast (s.bist.startedAt + 1000 * (s.bist.spent + 7))
     s.underTest = [3] ∧ s.expected 3 ≠ some (1 : BitVec 64) ∧ s.expected 3 ≠ none ∧ quietB 245 u = true ∧
       ((after (.bistSlotEnd [⟨3, 1, 7⟩]) s).part_ 3).status = 2 ∧ (after (.bistSlotEnd [⟨3, 1, 7⟩]) s).now = 7900 ∧
       ((after (.bistSlotEnd [⟨3, 1, 7⟩]) { s with otp.bistExp := none }).part_ 3).status = 3 ∧
       ({ s with otp.bistExp := some (48, 2) } : State).expected 1 = none ∧
       ({ s with otp.bistExp := some (48, 6), otp.shadow := [(49, 0x01020304050607), (50, 0x1112131415161718)] } : State).expected 0 = some 0x1801020304050607) ∧
    (let s : State := { serving with bist := { shutDown := true, phase := 2, shutAt := 900 } }
     s.bist.shutDown = true ∧ 2 ≤ s.bist.phase ∧ s.bist.phase < 6 ∧ (after .shutdownDeadline s).pins.shdnDone = true ∧
       (after .shutdownDeadline s).now = 598000900) := by decide +kernel

/-- SERVICE with a transfer of the whole-stack address, its pointer at `a`. -/
def transferAt (rd pec : Bool) (a : Nat) : State :=
  { sess id with mb := { serving.mb with transfer := some { addr := 0x58, view := .whole, read := rd, pec := pec }, pointers := [(0x58, a)] } }

theorem witness_TheTwoWireTargetFollowsItsTransfers :
    (State.reset.targetUp = false) ∧
    (let s := serving
     s.targetUp = true ∧ s.mb.busy = none ∧ s.mode = .service ∧ (0x58 : BitVec 7).toNat = 0x58 + s.pins.maddr.toNat ∧
       ((after (.mbAddressByte 0x58 true) s).mb.transfer.map (·.view)) = some .whole ∧
       (after (.mbAddressByte 0x59 true) s).mb.transfer = none) ∧
    (({ serving with mb.busy := some (3, 900) } : State).mb.busy.isSome = true) ∧
    (let s : State := { transferAt false true 0x010020 with mb.crc := some 0x5A }
     let z : State := { s with mb.crc := none }
     s.pecAfter 77 = some 5 ∧ z.pecAfter 77 = none ∧ (after (.mbAddressByte 0x58 false) s).mb.crc = some 152 ∧
       (after (.mbAddressByte 0x21 false) s).mb.crc = some 0) := by decide +kernel

theorem witness_TheTwoWireTargetFollowsItsTransfers_registers :
    (let s := transferAt false false 8
     s.liveTransfer = some { addr := 0x58, view := .whole, read := false, pec := false } ∧
       (after (.mbRegisterAddress 0x010020) s).pointer 0x58 = 0x010020 ∧
       (after (.mbRegisterAddress 0x010022) s).liveTransfer = none ∧
       (s.modeWrites (s.pointer 0x58) && viewWrites .whole (s.pointer 0x58)) = true ∧
       ((transferAt false false 0x0F0000).modeWrites 0x0F0000 && viewWrites .whole 0x0F0000) = false) ∧
    (let s := transferAt false false 0x010020
     s.pointer 0x58 = 0x010020 ∧ s.mode = .service ∧ writtenActions 0x010020 77 s.choice = [] ∧ (after (.registerWrite 77 0) s).pwr.retainIdle = 77 ∧
       (after (.registerWrite 77 0) s).pointer 0x58 = 0x010024) ∧
    (let s := twoEvents 244 (transferAt false true 0x010020)
     s.liveTransfer = some { addr := 0x58, view := .whole, read := false, pec := true } ∧ quietB 244 s = true ∧ s.mb.crc = some 0 ∧
       (after (.registerWrite 77 100) s).pwr.retainIdle = 0 ∧ (after (.registerWrite 77 100) s).mb.pecErrors = 1 ∧ s.pecAfter 77 = some 101 ∧
       (after (.registerWrite 77 101) s).pwr.retainIdle = 77) ∧
    (let s : State := { transferAt false false 0x010008 with pwr.rung := 3 }
     s.pointer 0x58 = 0x010008 ∧ s.mode = .service ∧ s.sup.restarting = false ∧ s.bist.shutDown = false ∧ s.pwr.entry = none ∧
       s.migrating = false ∧ (after (.registerWrite 1 0) s).pwr.entry = some ⟨6, 1000⟩) ∧
    (let s := (transferAt false false (0x03000C + 16 * 6)).updSrc 6 (fun x => { x with cls := 2, initCls := 1, count := 3 })
     s.srcClass 6 ≠ 4 ∧ fixedClass 6 = none ∧ s.srcAbsent 6 = false ∧ ((after (.registerWrite 2 0) s).src 6).count = 0) ∧
    (let s := transferAt true false 0x052080
     s.liveTransfer = some { addr := 0x58, view := .whole, read := true, pec := false } ∧ s.pointer 0x58 = 0x050080 + 0x1000 * (2 : PortId).val ∧
       s.mode = .service ∧ (after .readClear s).pointer 0x58 = 0x052084 ∧ (after .readClear s).mb.rpec = none ∧
       (after .readClear (transferAt true true 0x052080)).mb.rpec = some 0) ∧
    (let s := serving
     s.listens = true ∧ s.following = true ∧ s.setPresent 31 = true ∧ s.modeReads (0x040040 + 0x400 * 31) = true ∧
       viewReads s.currentView (0x040040 + 0x400 * 31) = true) ∧
    (let s := twoEvents 244 (transferAt true false 8)
     (serving.mb.transfer = none) ∧ s.mb.transfer.isSome = true ∧ quietB 244 s = true ∧
       (after (.mbTransferEnd true true false) s).mb.status = 20 ∧ (after (.mbTransferEnd true true false) s).mb.aborts = 1 ∧
       (after (.mbTransferEnd false false true) { s with mb.crc := some 3 }).mb.crc = some 3) := by
  decide +kernel

theorem witness_TheTwoWireTargetFollowsItsTransfers_operations :
    (serving.mb.busy = none) ∧
    (let s : State := { serving with mb.busy := some (3, 900) }
     s.opDone 3 = true ∧ (after .longOpEnd s).mb.longOp = 3 ∧ (after .longOpBound s).now = 40000900) ∧
    (let s : State := { serving with mb.busy := some (3, 900), jnl.queue := [{ prio := 7, kind := 7, payload := [] }] }
     s.opDone 3 = false) ∧
    (let s : State := { serving with mb.busy := some (4, 900) }
     s.opDone 4 = true ∧ (after .longOpEnd s).jnl.readBuf.length = 64 ∧ (after .longOpBound s).mb.longOutcome = 2) ∧
    (let s : State := { serving with mb.busy := some (2, 900) }
     s.mb.busy = some (2, 900) ∧ after .longOpBound s = s) ∧
    (let s : State := { serving with mb.attention := true, mb.attnPending := true }
     s.mayAttend = true ∧ ({ s with mb.attnNow := false } : State).mayAttend = false ∧ (after (.attentionRequest true) s).mb.attnPull = true ∧ serving.mayAttend = false ∧ serving.mb.attnPull = false) ∧
    (let s : State := { serving with mb.attnPull := true, mb.attnAt := 900 }
     s.mb.attnPull = true ∧ (after (.attentionSclFall true true true) s).mb.attnServed = 1 ∧ (after .attentionUnserved s).mb.attnAfter = 10100900) ∧
    (let s := twoEvents 244 serving
     s.targetUp = true ∧ quietB 244 s = true ∧ (after .sclTimeout s).mb.deaf = true ∧ (after .sdaReleaseTimeout s).mb.status = 2) := by decide +kernel

/-- The check value of CRC-8 over the ASCII digits 1 to 9. -/
theorem test_crc8_check_value : ([0x31, 0x32, 0x33, 0x34, 0x35, 0x36, 0x37, 0x38, 0x39] : List Byte).foldl crc8 0 = 0xF4 := by decide +kernel

/-- A port view of port 2. -/
def asPort (s : State) : State := { s with mb.transfer := some { addr := 0x59, view := .port 2, read := false } }

theorem witness_RegisterActionsTakeEffectAtCommit :
    (let s := sess id
     s.portPresent 2 = true ∧ commitsB (.retrain 2) s = true ∧ (s.port 2).lnk.link = .active ∧ (s.port 2).lnk.widthReq = none ∧
       ((after (.retrain 2) s).port 2).lnk.cause = 2 ∧ commitsB (.down 2 true) s = true ∧ ((after (.down 2 true) s).port 2).lnk.link = .off ∧
       commitsB (.farEndLoop 2 true 3) s = true ∧ commitsB (.fenceLift 2) s = true ∧ commitsB (.portFence 2) s = true ∧
       ((after (.portFence 2) s).port 2).fencedAt = 1000) ∧
    (let s := sess (fun x => { x with lnk.widthReq := some (2, 3) })
     (s.port 2).lnk.widthReq.isSome = true ∧ ((after (.retrain 2) s).port 2).lnk.retrainNext = true) ∧
    (let s := linkAt .off (fun x => { x with down := true })
     commitsB (.down 2 false) s = true ∧ (s.port 2).lnk.down = true ∧ (s.port 2).lnk.link = .off ∧ s.portUp 2 = true ∧ s.portsRun = true ∧
       ((after (.down 2 false) s).port 2).lnk.link = .detect ∧ commitsB (.nearEndSerialLoop 2 true 3 [4, 5, 0, 0]) s = true ∧
       (((after (.nearEndSerialLoop 2 true 3 [4, 5, 0, 0]) s).port 2).lane 1).prbsErr = 5 ∧
       commitsB (.nearEndParallelLoop 2 true ⟨3, [0, 0, 0, 9]⟩) s = true ∧
       (((after (.nearEndParallelLoop 2 true ⟨8, [0, 0, 0, 9]⟩) s).port 2).lane 3).prbsErr = 9) := by decide +kernel

theorem witness_RegisterActionsTakeEffectAtCommit_stack :
    (let s := serving
     commitsB (.pmcClear 31) s = true ∧ s.setPresent 31 = true ∧ commitsB (.predictorReset 0) s = true ∧ commitsB .xlate s = true ∧
       s.currentView = .whole ∧ bitsOf s.rep.xInHi.toNat 13 12 = 0 ∧ s.devBits = 37 ∧ (after .xlate s).rep.xDone = true) ∧
    (let s : State := { serving with rep.xInHi := 0x20 }
     bitsOf s.rep.xInHi.toNat 13 12 = 0 ∧ 2 ^ s.devBits ≤ s.rep.xInLo.toNat + 2 ^ 32 * (s.rep.xInHi.toNat % 256) ∧
       (after .xlate s).rep.xResult = 2) ∧
    (let s : State := { slice3 { inUse := true } (warm id) with pcs := [] }
     commitsB (.recalibrationGo 0 false 3) s = true ∧ s.fitted 3 = true ∧ (s.layer 3).powered = true ∧ (s.slice 0 3).inUse = true ∧
       (s.pc 0).cal = none ∧ (s.pc 0).calQueue = [] ∧ ((after (.recalibrationGo 0 false 3) s).pc 0).cal = some (3, 0)) ∧
    (let s := slice3 { inUse := true } (asked [])
     s.currentView = .whole ∧ commitsB (.repCmdMapOut 0 false 3 1) s = true ∧ commitsB (.repCmdRetireRank 0 3) s = true ∧
       commitsB (.repCmdRetireLayer 3) s = true ∧ (after (.repCmdMapOut 0 false 3 1) s).rep.todo = [.bank 0 3 1 true] ∧
       (after (.repCmdMapOut 0 false 3 1) s).rep.result = 1) ∧
    (let s := asPort serving
     s.listens = true ∧ s.following = true ∧ s.currentView = .port 2 ∧ s.actsNow (actionAddr .xlate) = true ∧ s.sup.restarting = false ∧
       s.actsNow (actionAddr (.repCmdMapOut 0 false 3 1)) = true ∧ s.actsNow (actionAddr (.repCmdRetireRank 0 3)) = true ∧
       s.actsNow (actionAddr (.repCmdRetireLayer 3)) = true ∧ (after .xlate s).rep.xResult = 5 ∧
       (after (.repCmdRetireLayer 3) s).rep.result = 5) ∧
    (State.reset.listens = false ∧ ({ serving with mb.transfer := some { addr := 0x58, view := .whole, read := false, ignore := true } } : State).following = false) ∧
    (let s : State := { serving with sup.restarting := true }
     s.listens = true ∧ s.following = true ∧ s.currentView = .whole ∧ s.actsNow (actionAddr .journalFlush) = true ∧ s.sup.restarting = true ∧
       (after .journalFlush s).mb.busy = some (3, 1000)) := by decide +kernel

theorem witness_TestAccessActsInFactoryAndTicksCount :
    (State.reset.pwrgood = false ∧ serving.pwrgood = true ∧ (after .bypass serving).tap.ir = .bypass ∧ (after .idcode serving).pins.trstN = true) ∧
    (factory.pwrgood = true ∧ factory.mode = .factory ∧ (after .extest factory).tap.ir = .extest ∧ (after (.dieSelect 8) factory).tap.die = 8) ∧
    (let s := twoEvents 246 serving
     s.mode ≠ .factory ∧ quietB 246 s = true ∧ (after .extest s).tap.ir = .bypass ∧ (after .extest s).bist.tapRefused = 1) ∧
    (let s : State := { factory with tap.die := 8 }
     (Signal.vid).isOut = true ∧ (after .extest { s with tap.boundary := [(.vid, .low)] }).outputBall .vid = .low ∧
       (after .highz s).outputBall .vid = .highZ ∧ tabGet 0 (after (.dieAccess [(3, 5)]) s).tap.wrapper 3 = 5 ∧ tabGet 0 (after (.dieAccess [(4, 5)]) s).tap.wrapper 4 = 0) ∧
    (let s : State := { serving with pmc := [(17, { freeze := true })] }
     s.bist.shutDown = false ∧ s.ticking = true ∧ (s.cset 16).counts = true ∧ s.setPresent 16 = true ∧
       (after .schedulerTick s).now = 1001 ∧ ((after .schedulerTick s).cset 16).cycle = 1 ∧ (s.cset 17).counts = false) ∧
    ((bootAt 1).mode = .boot ∧ (bootAt 1).boot.step = 1 ∧ (bootAt 2).boot.step = 2 ∧ (after .schedulerTick (bootAt 2)).pins.vid = some 0x18) := by
  decide +kernel

theorem witness_EveryStepKeepsTheInvariant :
    (let s : State := { serving with pending := [.schedulerTick], mem := [(rowKey 0 3 1 7 * rowBytes, 0x5A)] }
     memoryWf s.mem = true ∧ s.mode ≠ .trip ∧ s.pending.head? ≠ some .pwrgoodLow ∧ s.mode ≠ .boot ∧
       (match step s with | .next t => decide (t.now = 1001) | _ => false) = true) ∧
    (let s : State := { serving with pending := [.schedulerTick], mode := .trip, thm.tripValid := true, holdCause := 3, flt.grave0 := true, flt.grave1 := true }
     s.mode = .trip ∧ s.thm.tripValid = true ∧ s.grave = true ∧ s.holdCause ≠ 0) ∧
    (({ serving with mode := .hold } : State).mode = .hold) := by decide +kernel

end Sys2Proof.Tests
end

section
/-! SUPPORT. What PWRGOOD does to the stack (R77, R78): the state that a low level leaves, the start of BOOT at the next high level, and the obligation on the reset (O2). -/

namespace Sys2Proof.Machine

/-! ## PWRGOOD low (R78) -/

/-- The reset state, but for what a reset cannot change (log 49): fuses, layer antifuses and journal records need no power, the
levels of input pins and the queue of commands are the environment's, and `choice` is the model's own counter (log 8). -/
def State.poweredDown (s : State) : State :=
  { State.reset with
    pending := s.pending, choice := s.choice
    pins := { resetN := s.pins.resetN, vcoreOk := s.pins.vcoreOk, wakeN := s.pins.wakeN }
    otp := { rows := s.otp.rows, rom := s.otp.rom, antifuse := s.otp.antifuse }
    jnl := { records := s.jnl.records } }

theorem exec_pwrgoodLow (s : State) : exec .pwrgoodLow s = .next s.poweredDown := rfl

@[simp] theorem State.poweredDown_pwrgood (s : State) : s.poweredDown.pwrgood = false := rfl
@[simp] theorem State.poweredDown_mode (s : State) : s.poweredDown.mode = .boot := rfl

/-- All three copies of the latch are clear, so their majority is (R424). -/
@[simp] theorem State.poweredDown_grave (s : State) : s.poweredDown.grave = false := rfl

/-! ## PWRGOOD high (R77) -/

/-- The AON leaves reset: MADDR is sampled and BOOT is at step 1, held where RESET_N is low. -/
def State.poweredUp (m : BitVec 3) (s : State) : State :=
  { s with
    pwrgood := true, now := 0, boot.step := 1, boot.resetHeld := !s.pins.resetN, pins.maddr := m
    pins.vid := if s.pins.resetN then none else some 0x18 }

theorem exec_pwrgoodHigh_of_low (m : BitVec 3) {s : State} (h : s.pwrgood = false) :
    exec (.pwrgoodHigh m) s = .next (s.poweredUp m) := by
  change execPwrgoodHigh m s = _
  simp [execPwrgoodHigh, h, State.poweredUp]

@[simp] theorem State.poweredUp_mode (m : BitVec 3) (s : State) : (s.poweredUp m).mode = s.mode := rfl
@[simp] theorem State.poweredUp_step (m : BitVec 3) (s : State) : (s.poweredUp m).boot.step = 1 := rfl

/-- Whatever the state before, a low and then a high level of PWRGOOD start BOOT at step 1. -/
theorem exec_pwrgoodHigh_poweredDown (m : BitVec 3) (s : State) :
    ∃ u, exec (.pwrgoodHigh m) s.poweredDown = .next u ∧ u.mode = .boot ∧ u.boot.step = 1 :=
  ⟨s.poweredDown.poweredUp m, exec_pwrgoodHigh_of_low m s.poweredDown_pwrgood, by simp, by simp⟩

/-- Settles O2: the low level leaves `State.poweredDown`, which is `State.reset` in every part but the kept ones, so each part's
clause holds by its definition; `exec_pwrgoodHigh_poweredDown` gives the next high level. -/
theorem powerGoodLowResetsEverything : Obligations.PowerGoodLowResetsEverything := by
  intro s
  exact ⟨s.poweredDown, exec_pwrgoodLow s,
    -- mode and cause registers, the grave latch, the image in use, the stored rows
    s.poweredDown_pwrgood, s.poweredDown_mode, rfl, rfl, s.poweredDown_grave, rfl, rfl,
    -- the state blocks, `boot` to `tap`
    rfl, rfl, rfl, rfl, rfl, rfl, rfl, rfl, rfl, rfl, rfl,
    -- the tables, `ports` to `pmc`
    rfl, rfl, rfl, rfl, rfl, rfl,
    -- what is kept (log 49)
    rfl, rfl, rfl, rfl,
    fun m => exec_pwrgoodHigh_poweredDown m s⟩

end Sys2Proof.Machine
end

section
/-! SUPPORT. The decision and the latch of R250 for one request: the decision does not depend on how many decisions its port has made in the tick, the class of what it accepts, what the latch adds to SPENT, and a port's turn with a single candidate; with them the obligation on FILLs (O35). -/

namespace Sys2Proof.Machine

/-! ## The count of decisions made in a tick -/

section withDecided

/-- The port with another count of decisions made. -/
def Port.withDecided (x : Port) (d : Nat × Nat) : Port := { x with gnt.decided := d }

/-- The state in which port p has made the decisions `d`: where the turn of `reexamine` starts. -/
def State.withDecided (s : State) (p : Nat) (d : Nat × Nat) : State := s.updPort p (·.withDecided d)

variable (s : State) (p : Nat) (d : Nat × Nat)

/-! Nothing of a port that the decision reads is the count. -/

section port
variable (x : Port)

@[simp] theorem Port.withDecided_reqs : (x.withDecided d).reqs = x.reqs := rfl
@[simp] theorem Port.withDecided_cfg : (x.withDecided d).cfg = x.cfg := rfl
@[simp] theorem Port.withDecided_windowStart : (x.withDecided d).gnt.windowStart = x.gnt.windowStart := rfl
@[simp] theorem Port.withDecided_shrink : (x.withDecided d).gnt.shrink = x.gnt.shrink := rfl
@[simp] theorem Port.withDecided_throttled : (x.withDecided d).gnt.throttled = x.gnt.throttled := rfl
@[simp] theorem Port.withDecided_scaleP : (x.withDecided d).gnt.scaleP = x.gnt.scaleP := rfl
@[simp] theorem Port.withDecided_scaleB : (x.withDecided d).gnt.scaleB = x.gnt.scaleB := rfl
@[simp] theorem Port.withDecided_pcUsed : (x.withDecided d).gnt.pcUsed = x.gnt.pcUsed := rfl
@[simp] theorem Port.withDecided_bankUsed : (x.withDecided d).gnt.bankUsed = x.gnt.bankUsed := rfl
@[simp] theorem Port.withDecided_contract (l : Nat) : (x.withDecided d).contract l = x.contract l := rfl
@[simp] theorem Port.withDecided_spentOf (l : Nat) : (x.withDecided d).spentOf l = x.spentOf l := rfl
@[simp] theorem Port.withDecided_gSumIf (f : Nat → Bool) : (x.withDecided d).gSumIf f = x.gSumIf f := rfl
@[simp] theorem Port.withDecided_gSum : (x.withDecided d).gSum = x.gSum := rfl
@[simp] theorem Port.withDecided_rateOf (n : Nat) : (x.withDecided d).rateOf n = x.rateOf n := rfl
@[simp] theorem Port.withDecided_rate : (x.withDecided d).rate = x.rate := rfl
@[simp] theorem Port.withDecided_short : (x.withDecided d).short = x.short := rfl
@[simp] theorem Port.withDecided_windowTo (r : Nat) : (x.withDecided d).windowTo r = x.windowTo r := rfl
@[simp] theorem Port.withDecided_allowance : (x.withDecided d).allowance = x.allowance := rfl
@[simp] theorem Port.withDecided_meets (r : Req) (n t : Nat) : (x.withDecided d).meets r n t = x.meets r n t := rfl

end port

/-- Every port reads as before but for its count. -/
@[simp] theorem State.withDecided_port (j : Nat) :
    (s.withDecided p d).port j = (s.port j).withDecided (if j = p then d else (s.port j).gnt.decided) := by
  by_cases h : j = p
  · subst h
    simp [State.withDecided]
  · simp [State.withDecided, h, Port.withDecided]

/-! What the decision reads outside the ports. -/

@[simp] theorem State.withDecided_now : (s.withDecided p d).now = s.now := rfl
@[simp] theorem State.withDecided_mode : (s.withDecided p d).mode = s.mode := rfl
@[simp] theorem State.withDecided_bist : (s.withDecided p d).bist = s.bist := rfl
@[simp] theorem State.withDecided_gnt : (s.withDecided p d).gnt = s.gnt := rfl
@[simp] theorem State.withDecided_pc (q : Nat) : (s.withDecided p d).pc q = s.pc q := rfl
@[simp] theorem State.withDecided_portPresent (j : Nat) : (s.withDecided p d).portPresent j = s.portPresent j := rfl
@[simp] theorem State.withDecided_pcShrunk (q : Nat) : (s.withDecided p d).pcShrunk q = s.pcShrunk q := rfl
@[simp] theorem State.withDecided_segsOf (r : Req) : (s.withDecided p d).segsOf r = s.segsOf r := rfl
@[simp] theorem State.withDecided_segWant (r : Req) (c : Cls) (n : Nat) (g : Seg) :
    (s.withDecided p d).segWant r c n g = s.segWant r c n g := rfl
@[simp] theorem State.withDecided_search (w : Want) (n : Nat) : (s.withDecided p d).search w n = s.search w n := rfl
@[simp] theorem State.withDecided_queueOk (l : List (Seg × Nat)) (c : Cls) : (s.withDecided p d).queueOk l c = s.queueOk l c := rfl

/-! Rates, shedding, budgets, shares and the floor. -/

@[simp] theorem State.withDecided_enabledPorts : (s.withDecided p d).enabledPorts = s.enabledPorts := by
  simp [State.enabledPorts]
@[simp] theorem State.withDecided_totalRate : (s.withDecided p d).totalRate = s.totalRate := by
  simp [State.totalRate]
@[simp] theorem State.withDecided_pcShort : (s.withDecided p d).pcShort = s.pcShort := by
  simp [State.pcShort]
@[simp] theorem State.withDecided_shedPc : (s.withDecided p d).shedPc = s.shedPc := by
  simp [State.shedPc]
@[simp] theorem State.withDecided_shedPort (j : Nat) : (s.withDecided p d).shedPort j = s.shedPort j := by
  simp [State.shedPort]
@[simp] theorem State.withDecided_shedAt (j l q : Nat) : (s.withDecided p d).shedAt j l q = s.shedAt j l q := by
  simp [State.shedAt]
@[simp] theorem State.withDecided_effBudget (j l : Nat) : (s.withDecided p d).effBudget j l = s.effBudget j l := by
  simp [State.effBudget]
@[simp] theorem State.withDecided_left (j l : Nat) : (s.withDecided p d).left j l = s.left j l := by
  simp [State.left]
@[simp] theorem State.withDecided_pcLeft (j q : Nat) : (s.withDecided p d).pcLeft j q = s.pcLeft j q := by
  simp [State.pcLeft, State.pcShare]
@[simp] theorem State.withDecided_rankRate (r : Nat) : (s.withDecided p d).rankRate r = s.rankRate r := by
  simp [State.rankRate]
@[simp] theorem State.withDecided_bankLeft (j : Nat) (g : Seg) : (s.withDecided p d).bankLeft j g = s.bankLeft j g := by
  simp [State.bankLeft, State.bankShare]
@[simp] theorem State.withDecided_boundOf (j : Nat) (r : Req) (c : Cls) : (s.withDecided p d).boundOf j r c = s.boundOf j r c := by
  cases c <;> simp [State.boundOf]
@[simp] theorem State.withDecided_floorCount (c : Cls) (q k : Nat) : (s.withDecided p d).floorCount c q k = s.floorCount c q k := by
  simp [State.floorCount]

/-- The latch of a segment leaves every port, so the count stands beside it. -/
theorem latchSeg_withDecided (j : Nat) (r : Req) (c : Cls) (start : Option Nat) (bound n serial : Nat) (h : Seg × Nat) :
    latchSeg j r c start bound n serial h (s.withDecided p d) = (latchSeg j r c start bound n serial h s).withDecided p d := by
  unfold latchSeg
  simp only [State.withDecided_port, Port.withDecided_contract]
  rfl

/-- Reservations for one more segment: its own, then those of the rest with its own taken. The window of the search is made a
variable first, since Lean would try its 1024 starts one by one where it unfolds the search. -/
theorem deadlineStarts_cons (j : Nat) (r : Req) (c : Cls) (n : Nat) (h : Seg × Nat) (rest : List (Seg × Nat)) :
    deadlineStarts j r c n (h :: rest) s =
      match s.search (s.segWant r c n h.1) 1024 with
      | none => none
      | some t =>
        if !(s.port j).meets r n t ∨ 4 ≤ tabGet 0 (s.pc h.1.q).spentCredit (calKey h.1.rank h.1.bank) then none
        else (deadlineStarts j r c n rest (latchSeg j r c (some t) 0 n 0 h s)).map (some t :: ·) := by
  delta deadlineStarts deadlineStarts._f
  generalize 1024 = N
  rfl

/-- The search for deadline reservations, which latches each segment before it looks at the next. -/
@[simp] theorem deadlineStarts_withDecided (j : Nat) (r : Req) (c : Cls) (n : Nat) (l : List (Seg × Nat)) :
    deadlineStarts j r c n l (s.withDecided p d) = deadlineStarts j r c n l s := by
  induction l generalizing s with
  | nil => rfl
  | cons h rest ih => simp [deadlineStarts_cons, latchSeg_withDecided, ih]

/-- The decision of R250 is the same whatever number of decisions its port has made before it. -/
@[simp] theorem decide250_withDecided (j : Nat) (r : Req) : decide250 j r (s.withDecided p d) = decide250 j r s := by
  simp only [decide250, State.withDecided_port, Port.withDecided_reqs, Port.withDecided_contract, Port.withDecided_spentOf,
    Port.withDecided_windowStart, Port.withDecided_meets, State.withDecided_mode, State.withDecided_bist, State.withDecided_pc,
    State.withDecided_segsOf, State.withDecided_segWant, State.withDecided_search, State.withDecided_queueOk,
    State.withDecided_shedAt, State.withDecided_effBudget, State.withDecided_left, State.withDecided_pcLeft,
    State.withDecided_bankLeft, State.withDecided_boundOf, State.withDecided_floorCount, deadlineStarts_withDecided]

end withDecided

/-! ## What is accepted -/

/-- What R232 and R263 say of a verdict on `r` under a contract of class `c`: a FILL, and a request that is shed, is accepted in
class B, every other one in class `c`. -/
def Verdict.ClsOk (r : Req) (c : Cls) : Verdict → Prop
  | .latch cls shed _ _ _ => cls = if r.op = .fill ∨ shed then .b else c
  | _ => True

theorem Verdict.ClsOk.ite {r : Req} {c : Cls} {q : Prop} [Decidable q] {v w : Verdict} (hv : v.ClsOk r c) (hw : w.ClsOk r c) :
    (if q then v else w).ClsOk r c := by
  split <;> assumption

theorem decide250_clsOk (j : Nat) (r : Req) (s : State) : (decide250 j r s).ClsOk r (clsOf ((s.port j).contract r.label).cls) := by
  unfold decide250
  extract_lets x c segs g shed cls bound eff lone hz
  have hlatch : ∀ starts, (Verdict.latch cls shed starts bound hz).ClsOk r (clsOf c.cls) := fun _ => rfl
  -- no contract, oversize, mode, order, budget
  iterate 5 refine .ite trivial ?_
  refine .ite ?_ (.ite ?_ (.ite trivial (.ite trivial (hlatch _))))
  · -- class G
    cases s.search (s.segWant r cls hz g) 67 with
    | none => trivial
    | some t => exact .ite trivial (.ite trivial (.ite trivial (.ite trivial (hlatch _))))
  · -- a deadline in class P or B
    cases deadlineStarts j r cls hz segs s with
    | none => trivial
    | some starts => exact .ite trivial (hlatch _)

/-- A FILL is accepted in class B (R232). -/
theorem decide250_latch_fill {j : Nat} {r : Req} {s : State} {cls : Cls} {shed : Bool} {starts : List (Option Nat)} {bound n : Nat}
    (hop : r.op = .fill) (h : decide250 j r s = .latch cls shed starts bound n) : cls = .b := by
  have hcls := decide250_clsOk j r s
  rw [h] at hcls
  simpa [Verdict.ClsOk, hop] using hcls

/-! ## The latch -/

/-- What leaves `State.ports` leaves every port. -/
theorem Fr.port {m : Nat} {s t : State} (h : Fr m s t) (hm : m.testBit 22 = false) (j : Nat) : t.port j = s.port j := by
  rw [State.port, h.ports hm, State.port]

/-- Updates that leave SPENT leave it however many of them run. -/
theorem spent_foldl {α : Type} {f : Port → α → Port} (h : ∀ x a, (f x a).gnt.spent = x.gnt.spent) (l : List α) (x : Port) :
    (l.foldl f x).gnt.spent = x.gnt.spent :=
  l.foldlRecOn f (motive := fun y => y.gnt.spent = x.gnt.spent) rfl (fun y hy a _ => (h y a).trans hy)

@[simp] theorem Port.updReq_gnt (x : Port) (tag : Nat) (f : Req → Req) : (x.updReq tag f).gnt = x.gnt := rfl

/-- The latch writes one entry of SPENT: counting the event and granting the segments leave every port. -/
theorem latchReq_spent (j : Nat) (r : Req) (cls : Cls) (shed : Bool) (starts : List (Option Nat)) (bound n : Nat) (s : State) :
    ((latchReq j r cls shed starts bound n s).port j).gnt.spent =
      tabSet 0 (s.port j).gnt.spent r.label ((s.port j).spentOf r.label + r.charge) := by
  unfold latchReq
  extract_lets serial segs lost gnt touched granted done charged counted
  have hcount : Fr 134217728 charged
      (if cls = .g then forL segs (fun h s => pmcCount (16 + h.1.q / 2) 0x4B 1 s) counted else counted) :=
    Fr.iteT (Fr.forL (fun _ _ => pmcCount_fr ..) _ (Fr.refl ..)) (pmcCount_fr ..)
  have hsegs : Fr 16777216 touched granted := Fr.forL (fun _ _ => latchSeg_fr ..) _ (Fr.refl ..)
  have hport : granted.port j = s.port j := hsegs.port (by decide) j
  rw [hcount.port (by decide), State.updPort_port_self, hport]
  simp [apply_ite Port.gnt, apply_ite PortGnt.spent, spent_foldl]

/-- The latch charges its own label and no other (R239, R241). -/
theorem latchReq_spentOf (j : Nat) (r : Req) (cls : Cls) (shed : Bool) (starts : List (Option Nat)) (bound n : Nat) (s : State)
    (l : Nat) :
    ((latchReq j r cls shed starts bound n s).port j).spentOf l =
      if l = r.label then (s.port j).spentOf l + r.charge else (s.port j).spentOf l := by
  rw [Port.spentOf, latchReq_spent, tabGet_tabSet]
  split
  · next h => rw [h]
  · rfl

/-! ## The turn of a port with one candidate -/

theorem Req.waiting_of_candidate {r : Req} {changes now : Nat} (h : r.candidate changes now = true) : r.phase = .waiting := by
  simp only [Req.candidate, Bool.and_eq_true, decide_eq_true_eq] at h
  exact h.1

/-- The only request of a port, a candidate, is the one examined, with one decision more made in the tick. -/
theorem reexamine_single {p : Nat} {r : Req} {s : State} (hreqs : (s.port p).reqs = [r])
    (hcand : r.candidate s.gnt.changes s.now = true) (hleft : s.decisionsLeft p ≠ 0) :
    reexamine p s = (examine p r.tag (s.withDecided p (s.now, 4 - s.decisionsLeft p + 1))).1 := by
  obtain ⟨k, hk⟩ := Nat.exists_eq_succ_of_ne_zero hleft
  simp [reexamine, hreqs, hcand, hk, forL, State.withDecided, Port.withDecided]

/-- An examined request that the decision accepts is latched. -/
theorem examine_latch {p : Nat} {r : Req} {s : State} {cls : Cls} {shed : Bool} {starts : List (Option Nat)} {bound n : Nat}
    (hreqs : (s.port p).reqs = [r]) (hphase : r.phase = .waiting) (h : decide250 p r s = .latch cls shed starts bound n) :
    examine p r.tag s = (latchReq p r cls shed starts bound n s, true) := by
  simp [examine, hreqs, hphase, h]

/-- Settles O35: the class is `decide250_latch_fill`; the turn of the port latches the FILL, and the latch charges its label. -/
theorem fillsAreServedInClassB : Obligations.FillsAreServedInClassB := by
  intro p r s cls shed starts bound n hop hdec hreqs hcand hleft
  refine ⟨decide250_latch_fill hop hdec, reexamine p.val s, rfl, ?_⟩
  rw [reexamine_single hreqs hcand hleft,
    examine_latch (by simpa using hreqs) (Req.waiting_of_candidate hcand) ((decide250_withDecided ..).trans hdec), latchReq_spentOf]
  simp

end Sys2Proof.Machine
end

section
/-! SUPPORT. How a read burst ends: what one quiet event of a source does, the transfer of a burst as its channel counts it, a burst sent again, the delivery of one block of a read; with them the obligation on reads of never-written blocks (O40). -/

namespace Sys2Proof.Machine

variable {s t : State}

/-- What leaves `State.pcs` leaves every pseudo-channel. -/
theorem Fr.pc {m : Nat} (h : Fr m s t) (hm : m.testBit 24 = false) (q : Nat) : t.pc q = s.pc q := by
  rw [State.pc, h.pcs hm, State.pc]

/-- What leaves `State.flt` leaves every fault source. -/
theorem Fr.src {m : Nat} (h : Fr m s t) (hm : m.testBit 10 = false) (n : Nat) : t.src n = s.src n := by
  rw [State.src, h.flt hm, State.src]

/-! ## One quiet event of a source (R414, R415) -/

theorem Source.count1_total (x : Source) (now : Nat) : (x.count1 now).1.total = x.total := by
  unfold Source.count1
  extract_lets
  split <;> rfl

theorem Source.count1_forced (x : Source) (now : Nat) : (x.count1 now).1.forced = x.forced := by
  unfold Source.count1
  extract_lets
  split <;> rfl

/-- A quiet event is `State.withEvent` and nothing more. The events of the sources 0 and 9 set an alert bit too. -/
theorem registerEvent_of_quiet {n : Nat} (d : EventDetail) (h0 : n ≠ 0) (h9 : n ≠ 9) (h : s.quiet n) :
    registerEvent n d false s = (s.withEvent n, false) := by
  obtain ⟨-, hcounts, hlast, hcount⟩ := h
  simp [registerEvent, hcounts, hlast, hcount, h0, h9, State.withEvent, State.updSrc, Source.count1_total, Source.count1_forced]

/-- A quiet event takes the per-event action of its source and no reaction. -/
theorem fault_of_quiet {n : Nat} (d : EventDetail) (h0 : n ≠ 0) (h9 : n ≠ 9) (h : s.quiet n) :
    fault n d s = perEvent n d (s.withEvent n) := by
  obtain ⟨hon, hcounts, -, -⟩ := id h
  have hcounts' : (s.withEvent n).counts n = true := hcounts
  simp [fault, hon, registerEvent_of_quiet d h0 h9 h, hcounts']

theorem State.withEvent_src_ne {n m : Nat} (h : m ≠ n) : (s.withEvent n).src m = s.src m := by
  simp [State.withEvent, h]

/-! ## The transfer of a burst (R283, R284) -/

/-- An event of a channel's TSVs starts the isolation of the lane on the pseudo-channel that it names (R421). -/
theorem perEvent_srcTsv (q : PcId) (s : State) :
    perEvent (srcTsv (chanOf q.val)) (pcDetail q.val) s = s.updPc q.val (fun x => { x with isolating := true }) := by
  have hq : q.val < 32 := q.isLt
  have h1 : srcTsv (chanOf q.val) ≠ 1 := by simp only [srcTsv]; omega
  have hrange : 80 ≤ srcTsv (chanOf q.val) ∧ srcTsv (chanOf q.val) < 176 := by simp only [srcTsv, chanOf]; omega
  have hkind : (srcTsv (chanOf q.val) - 80) % 6 = 2 := by simp only [srcTsv]; omega
  have hpc : 2 * ((srcTsv (chanOf q.val) - 80) / 6) + b2n (pcDetail q.val).pc = q.val := by
    simp only [srcTsv, chanOf, pcDetail, b2n, decide_eq_true_eq]
    split <;> omega
  simp only [perEvent, if_neg h1, if_pos hrange, hkind, hpc]

/-- A transfer that failed twice, its event quiet: the counter of the channel, the event, the isolation of the lane. -/
theorem countTransfer_failed_of_quiet (q : PcId) (m : BitVec 64) (h : s.quiet (srcTsv (chanOf q.val))) :
    countTransfer q.val (.failed m) s =
      ((s.updChan (chanOf q.val) (fun c => { c with rfBeat := satInc c.rfBeat })).withEvent (srcTsv (chanOf q.val))).updPc q.val
        (fun x => { x with isolating := true }) := by
  have h0 : srcTsv (chanOf q.val) ≠ 0 := by simp only [srcTsv]; omega
  have h9 : srcTsv (chanOf q.val) ≠ 9 := by simp only [srcTsv]; omega
  have hquiet : (s.updChan (chanOf q.val) (fun c => { c with rfBeat := satInc c.rfBeat })).quiet (srcTsv (chanOf q.val)) := h
  exact (fault_of_quiet _ h0 h9 hquiet).trans (perEvent_srcTsv q _)

/-- The transfer of a read is quiet: it failed once at most, or its event on the source of the channel's TSVs is. -/
def quietTransfer (q : Nat) (x : BurstXfer) (s : State) : Prop :=
  x = .clean ∨ x = .retried ∨ s.quiet (srcTsv (chanOf q))

theorem quietTransfer.quiet {q : Nat} {m : BitVec 64} (h : quietTransfer q (.failed m) s) : s.quiet (srcTsv (chanOf q)) := by
  simpa [quietTransfer] using h

/-- A quiet transfer changes the fault collector, the counters of its channel and the state of its pseudo-channel at most. -/
theorem countTransfer_fr_of_quiet (q : PcId) {x : BurstXfer} (h : quietTransfer q.val x s) :
    Fr 25166848 s (countTransfer q.val x s) := by
  cases x with
  | clean => exact Fr.refl ..
  | retried => exact Fr.mono (State.updChan_fr s (chanOf q.val) (fun c => { c with rtRead := satInc c.rtRead })) (by decide)
  | failed m =>
    rw [countTransfer_failed_of_quiet q m h.quiet]
    exact Fr.step (State.updPc_fr ..) (by decide) (Fr.step (State.withEvent_fr ..) (by decide)
      (Fr.step (State.updChan_fr ..) (by decide) (Fr.refl ..)))

/-- A quiet transfer leaves the bursts in flight. -/
theorem countTransfer_bursts_of_quiet (q : PcId) {x : BurstXfer} (h : quietTransfer q.val x s) :
    ((countTransfer q.val x s).pc q.val).bursts = (s.pc q.val).bursts := by
  cases x with
  | clean => rfl
  | retried => rfl
  | failed m =>
    rw [countTransfer_failed_of_quiet q m h.quiet]
    simp [State.withEvent]

/-- A quiet transfer is an event of the source of the channel's TSVs or of none. -/
theorem countTransfer_src_of_quiet (q : PcId) {x : BurstXfer} (h : quietTransfer q.val x s) {n : Nat}
    (hn : n ≠ srcTsv (chanOf q.val)) : (countTransfer q.val x s).src n = s.src n := by
  cases x with
  | clean => rfl
  | retried => rfl
  | failed m =>
    rw [countTransfer_failed_of_quiet q m h.quiet, State.updPc_src, State.withEvent_src_ne hn, State.updChan_src]

/-- A transfer that failed once at most is no event. -/
theorem countTransfer_flt (q : Nat) {x : BurstXfer} (h : x = .clean ∨ x = .retried) (s : State) :
    (countTransfer q x s).flt = s.flt := by
  rcases h with rfl | rfl <;> rfl

/-! ## A burst sent again (R283) -/

theorem Pc.clearSlot_bursts_length (x : Pc) (t : Nat) : (x.clearSlot t).bursts.length = x.bursts.length := by
  unfold Pc.clearSlot
  split
  · exact List.length_map _
  · rfl

theorem Pc.resend_bursts_length (x : Pc) (b : Burst) (t : Nat) : (x.resend b t).1.bursts.length = x.bursts.length :=
  Pc.clearSlot_bursts_length x _

theorem chanEvent_pc (q code n : Nat) (s : State) (j : Nat) : (chanEvent q code n s).pc j = s.pc j :=
  (chanEvent_fr q code n s).pc (by decide) j

/-- A read burst sent again moves others of its pseudo-channel at most. -/
theorem readResent_bursts_length (q : Nat) (x : BurstXfer) (b : Burst) (s : State) :
    ((readResent q x b s).1.pc q).bursts.length = (s.pc q).bursts.length := by
  cases x with
  | clean => rfl
  | retried | failed => simp [readResent, chanEvent_pc, Pc.resend_bursts_length]

/-- A read burst sent again has another start at most. -/
theorem readResent_burst (q : Nat) (x : BurstXfer) (b : Burst) (s : State) :
    ∃ u, (readResent q x b s).2 = { b with start := u } := by
  cases x with
  | clean => exact ⟨b.start, rfl⟩
  | retried | failed => exact ⟨_, rfl⟩

/-! ## The delivery of one block of a read (R184, R193) -/

/-- The update of the requests of one tag, the keys kept, is seen by a look-up by key. -/
theorem Port.updReq_find? (x : Port) (tag serial : Nat) {f : Req → Req} (ht : ∀ r, (f r).tag = r.tag)
    (hs : ∀ r, (f r).serial = r.serial) :
    (x.updReq tag f).reqs.find? (fun r => decide (r.tag = tag) && decide (r.serial = serial)) =
      (x.reqs.find? (fun r => decide (r.tag = tag) && decide (r.serial = serial))).map f := by
  rw [Port.updReq]
  induction x.reqs with
  | nil => rfl
  | cons r l ih =>
    by_cases htag : r.tag = tag
    · by_cases hserial : r.serial = serial <;> simp [htag, hserial, ht, hs, ih]
    · simp [htag, ih]

theorem pmcCount_port (i code n : Nat) (s : State) (j : Nat) : (pmcCount i code n s).port j = s.port j :=
  (pmcCount_fr i code n s).port (by decide) j

/-- The open request of a burst depends on the requests of its port only. -/
theorem openRead_of_reqs {b : Burst} (h : (t.port b.port).reqs = (s.port b.port).reqs) : t.openRead b = s.openRead b := by
  rw [State.openRead, h, State.openRead]

/-- The DATA slot that answers the block of the read `r` which the burst `b` carries. -/
def Burst.answer (b : Burst) (r : Req) (st : Status) (d : Block) : OutItem :=
  { slot := .data b.tag b.part st d, closes := if r.op = .rd64 ∨ b.part = 1 then some b.tag else none,
    bound := if r.op = .rd64 ∨ b.part = 1 then some r.bound else none, base := r.base }

/-- What the delivery of that block makes of the port that reads: part 1 that is ready before part 0 waits in its request, any other
block is queued, and behind part 0 a part 1 that waited. -/
def Port.takeBlock (b : Burst) (r : Req) (st : Status) (d : Block) (x : Port) : Port :=
  if b.part = 1 ∧ r.todo = 2 then x.updReq b.tag (fun e => { e with part1 := some (st, d) })
  else match (if b.part = 0 then r.part1 else none) with
    | some (st1, d1) =>
      { x with outq := x.outq ++ [b.answer r st d] ++ [{ b with part := 1 }.answer r st1 d1] }.updReq b.tag
        (fun e => { e with todo := 0, phase := .answered, part1 := none })
    | none =>
      { x with outq := x.outq ++ [b.answer r st d] }.updReq b.tag
        (fun e => { e with todo := e.todo - 1, phase := if e.todo ≤ 1 then .answered else e.phase })

/-- The performance event of a block's status (R438). -/
def Status.readEvent : Status → Nat
  | .okCorrected => 0x10
  | .poison => 0x11
  | _ => 0

/-- `delivered` sees of the state before the ports other than the reading one, and the response queue of that one. -/
theorem delivered.of_outq {b : Burst} {r : Req} {st : Status} {d : Block} {s' : State} (h : delivered b r st d s t)
    (hother : otherPorts b.port s' s) (houtq : (s.port b.port).outq = (s'.port b.port).outq) : delivered b r st d s' t := by
  obtain ⟨hports, hfirst, hqueued⟩ := h
  rw [houtq] at hfirst hqueued
  exact ⟨fun j hj => (hports j hj).trans (hother j hj), hfirst, hqueued⟩

section deliver

variable {b : Burst} {r : Req} (st : Status) (d : Block)

/-- The delivery of a block of an open read counts the event of its status, and the port takes the block. -/
theorem deliver_of_openRead (hread : s.openRead b = some r) :
    deliver b.port b.tag b.serial b.part st d s =
      (pmcCount b.port st.readEvent (if st = .ok then 0 else 1) s).updPort b.port (fun x => x.takeBlock b r st d) := by
  rw [State.openRead] at hread
  unfold deliver
  rw [hread]
  by_cases hfirst : b.part = 1 ∧ r.todo = 2
  · simp only [Port.takeBlock, if_pos hfirst]
    rfl
  · simp only [Port.takeBlock, if_neg hfirst, pushOut, State.updPort_updPort, Burst.answer, Bool.or_eq_true, decide_eq_true_eq,
      or_true, if_true]
    cases (if b.part = 0 then r.part1 else none) with
    | none => rfl
    | some waited => rfl

theorem Port.takeBlock_of_first (x : Port) (hfirst : b.part = 1 ∧ r.todo = 2) :
    x.takeBlock b r st d = x.updReq b.tag (fun e => { e with part1 := some (st, d) }) :=
  if_pos hfirst

theorem Port.takeBlock_outq (x : Port) (hfirst : ¬ (b.part = 1 ∧ r.todo = 2)) :
    ∃ l, (x.takeBlock b r st d).outq = x.outq ++ b.answer r st d :: l := by
  rw [Port.takeBlock, if_neg hfirst]
  split
  · exact ⟨[_], List.append_assoc ..⟩
  · exact ⟨[], rfl⟩

/-- A block taken changes the requests and the response queue of its port. -/
theorem Port.takeBlock_frame (b : Burst) (r : Req) (x : Port) :
    x.takeBlock b r st d = { x with reqs := (x.takeBlock b r st d).reqs, outq := (x.takeBlock b r st d).outq } := by
  unfold Port.takeBlock
  split
  · rfl
  · split <;> rfl

/-- What `deliver` does is what `delivered` says. -/
theorem delivered_deliver (hread : s.openRead b = some r) :
    delivered b r st d s (deliver b.port b.tag b.serial b.part st d s) := by
  have hdeliver := deliver_of_openRead st d hread
  have hport : (deliver b.port b.tag b.serial b.part st d s).port b.port = (s.port b.port).takeBlock b r st d := by
    rw [hdeliver, State.updPort_port_self, pmcCount_port]
  refine ⟨fun j hj => ?_, fun hfirst => ?_, fun hfirst => ?_⟩
  · rw [hdeliver, State.updPort_port_ne _ _ hj, pmcCount_port]
  · rw [Port.takeBlock_of_first st d _ hfirst] at hport
    refine ⟨by rw [hport]; rfl, ?_⟩
    rw [State.openRead] at hread ⊢
    rw [hport, Port.updReq_find? (f := fun e => { e with part1 := some (st, d) }) _ _ _ (fun _ => rfl) (fun _ => rfl), hread]
    rfl
  · rw [hport]
    exact Port.takeBlock_outq st d _ hfirst

end deliver

/-! ## A read of a never-written block lands (R314) -/

section never

variable {b : Burst} {r : Req} (hnever : b.never = true)
include hnever

/-- It is counted at the reading port and answered POISON with data 0; the bytes lost on the TSVs draw free values at most. -/
theorem readLanded_of_never (q : Nat) (lost : BitVec 64) (s : State) :
    ∃ c, readLanded q b lost s = deliver b.port b.tag b.serial b.part .poison 0
      (State.updPort { s with choice := c } b.port (fun p => { p with poisonNever := satInc p.poisonNever })) := by
  by_cases hlost : lost = 0
  · exact ⟨s.choice, by simp only [readLanded, hnever, if_pos hlost, if_true]⟩
  · exact ⟨s.choice + 1, by simp only [readLanded, hnever, if_neg hlost, if_true]⟩

theorem readLanded_fr_of_never (q : Nat) (lost : BitVec 64) (s : State) : Fr 138412036 s (readLanded q b lost s) := by
  obtain ⟨c, h⟩ := readLanded_of_never hnever q lost s
  rw [h]
  exact Fr.step (deliver_fr ..) (by decide) (Fr.step (State.updPort_fr ..) (by decide) (Fr.u4 (Fr.refl ..) (by decide)))

theorem readLanded_answer_of_never (q : Nat) (lost : BitVec 64) (hread : s.openRead b = some r) :
    delivered b r .poison 0 s (readLanded q b lost s) ∧
      ((readLanded q b lost s).port b.port).poisonNever = satInc (s.port b.port).poisonNever ∧
      ((readLanded q b lost s).port b.port).poisonData = (s.port b.port).poisonData := by
  obtain ⟨c, h⟩ := readLanded_of_never hnever q lost s
  rw [h]
  generalize hu : State.updPort { s with choice := c } b.port (fun p => { p with poisonNever := satInc p.poisonNever }) = u
  have hport : u.port b.port = { s.port b.port with poisonNever := satInc (s.port b.port).poisonNever } :=
    hu ▸ State.updPort_port_self ..
  have hread' : u.openRead b = some r := (openRead_of_reqs (by rw [hport])).trans hread
  refine ⟨(delivered_deliver .poison 0 hread').of_outq (fun j hj => hu ▸ State.updPort_port_ne _ _ hj) (by rw [hport]), ?_⟩
  rw [deliver_of_openRead _ _ hread', State.updPort_port_self, Port.takeBlock_frame, pmcCount_port, hport]
  exact ⟨rfl, rfl⟩

end never

/-! ## READ_BURST_RETURN -/

/-- With a burst in flight and a controller left, the burst is sent again or not, its transfer is counted 8 ns after its start, and
it lands. -/
theorem exec_readBurstReturn {q : PcId} {x : BurstXfer} {b : Burst} {rest : List Burst} {u : State × Burst} {v : State}
    (htake : takeFirst (fun b => !b.write && !b.chk) (s.pc q.val).bursts = some (b, rest))
    (hctl : s.noController (chanOf q.val) = false)
    (hu : u = readResent q.val x b (s.updPc q.val (fun y => { y with bursts := rest })))
    (hv : v = countTransfer q.val x (u.1.atLeast (u.2.start + 8))) :
    exec (.readBurstReturn q x) s = .next (readLanded q.val u.2 (v.lostBytes q.val x u.2) v) := by
  have hctl' : (s.updPc q.val (fun y => { y with bursts := rest })).noController (chanOf q.val) = false := hctl
  change execReadBurstReturn q x s = _
  simp only [execReadBurstReturn, htake, hctl', Bool.false_eq_true, if_false, hv, hu]

/-- Settles O40: up to the landing of the burst every port stands (`countTransfer_fr_of_quiet`); then the read is counted and answered
(`readLanded_answer_of_never`). -/
theorem neverWrittenReadsArePoison : Obligations.NeverWrittenReadsArePoison := by
  intro q x b rest r s u htake hnever hread hctl hu hquiet
  have hexec := exec_readBurstReturn htake hctl hu rfl
  obtain ⟨start, hstart⟩ : ∃ k, u.2 = { b with start := k } := hu ▸ readResent_burst ..
  have hsent : Fr 150994944 s u.1 := hu ▸ Fr.step (readResent_fr ..) (by decide) (Fr.step (State.updPc_fr ..) (by decide) (Fr.refl ..))
  have hlength : (u.1.pc q.val).bursts.length = rest.length := by rw [hu, readResent_bursts_length, State.updPc_pc, if_pos rfl]
  -- the transfer
  have hcount := countTransfer_fr_of_quiet q hquiet
  have hbursts := countTransfer_bursts_of_quiet q hquiet
  have hsrc (n : Nat) (hn : n ≠ srcTsv (chanOf q.val)) := countTransfer_src_of_quiet q hquiet hn
  have hflt (hx : x = .clean ∨ x = .retried) := countTransfer_flt q.val hx (u.1.atLeast (u.2.start + 8))
  generalize countTransfer q.val x (u.1.atLeast (u.2.start + 8)) = v at hexec hcount hbursts hsrc hflt
  have hports (j : Nat) : v.port j = s.port j := (hcount.port (by decide) j).trans (hsent.port (by decide) j)
  -- the landing
  generalize v.lostBytes q.val x u.2 = lost at hexec
  have hnever' : u.2.never = true := hstart ▸ hnever
  have hopen : v.openRead b = some r := (openRead_of_reqs (by rw [hports])).trans hread
  have hread' : v.openRead u.2 = some r := hstart ▸ hopen
  have hland := readLanded_fr_of_never hnever' q.val lost v
  obtain ⟨hdelivered, hcounted, hdata⟩ := readLanded_answer_of_never hnever' q.val lost hread'
  generalize readLanded q.val u.2 lost v = t at hexec hland hdelivered hcounted hdata
  have hport : u.2.port = b.port := hstart ▸ rfl
  rw [hport, hports] at hcounted hdata
  rw [hstart] at hdelivered
  have hpc : (t.pc q.val).bursts = (u.1.pc q.val).bursts := by rw [hland.pc (by decide), hbursts, State.atLeast_pc]
  refine ⟨t, hexec, ?delivered, ?mem, ?mode, ?now, hpc, ?clean, hpc ▸ hlength, hcounted, hdata, ?flt, ?src⟩
  case delivered => exact delivered.of_outq (b := b) hdelivered (fun j _ => hports j) (by rw [hports])
  case mem => rw [hland.mem (by decide), hcount.mem (by decide), State.atLeast_mem, hsent.mem (by decide)]
  case mode => rw [hland.mode (by decide), hcount.mode (by decide), State.atLeast_mode, hsent.mode (by decide)]
  case now => rw [hland.now (by decide), hcount.now (by decide), State.atLeast_now, hsent.now (by decide)]
  case clean =>
    rintro rfl
    rw [hpc, hu]
    simp [readResent]
  case flt => exact fun hx => by rw [hland.flt (by decide), hflt hx, State.atLeast_flt, hsent.flt (by decide)]
  case src => exact fun n hn => by rw [hland.src (by decide), hsrc n hn, State.atLeast_src, hsent.src (by decide)]

end Sys2Proof.Machine
end

section
/-! SUPPORT. The invariant of every step (O59): each command but PWRGOOD_LOW keeps what `Keeps` names, and what PWRGOOD_LOW leaves meets it by itself; and the state before power-up (O60). -/

namespace Sys2Proof.Machine

/-- Every command but the loss of PWRGOOD keeps what `Keeps` names. -/
theorem exec_keeps (s : State) (c : Instr) (h : c ≠ .pwrgoodLow) : KeepsO s (exec c s) :=
  match c with
  | .pwrgoodHigh .. => execPwrgoodHigh_keeps _ s
  | .pwrgoodLow => absurd rfl h
  | .resetNHigh => execResetNHigh_keeps s
  | .vcoreOkHigh => execVcoreOkHigh_keeps s
  | .vcoreOkLow => execVcoreOkLow_keeps s
  | .vcoreRaiseTimeout => execVcoreRaiseTimeout_keeps s
  | .fastRcStable => execFastRcStable_keeps s
  | .otpShadowLoad .. => execOtpShadowLoad_keeps _ s
  | .imageSelection .. => execImageSelection_keeps _ s
  | .journalScan .. => execJournalScan_keeps _ s
  | .pllLock .. => execPllLock_keeps _ s
  | .pllLockTimeout .. => execPllLockTimeout_keeps _ s
  | .layerInit .. => execLayerInit_keeps _ s
  | .keyDrawFallback .. => execKeyDrawFallback_keeps _ s
  | .thermalGate .. => execThermalGate_keeps _ s
  | .tsvTraining .. => execTsvTraining_keeps _ s
  | .lockstepMismatch => execLockstepMismatch_keeps s
  | .supervisorRestartDone => execSupervisorRestartDone_keeps s
  | .supervisorRestartOverrun => execSupervisorRestartOverrun_keeps s
  | .engineWatchdogExpiry .. => execEngineWatchdogExpiry_keeps _ s
  | .controllerCheckerFault .. => execControllerCheckerFault_keeps _ s
  | .takeoverOverlapEnd .. => execTakeoverOverlapEnd_keeps _ s
  | .clockLoss .. => execClockLoss_keeps _ s
  | .refclkWaitTimeout => execRefclkWaitTimeout_keeps s
  | .portPllLockLoss .. => execPortPllLockLoss_keeps _ s
  | .receiverDetectPulse .. => execReceiverDetectPulse_keeps _ _ s
  | .trainComplete .. => execTrainComplete_keeps _ s
  | .trainTimeout .. => execTrainTimeout_keeps _ _ s
  | .bitlockAcquired .. => execBitlockAcquired_keeps _ _ _ s
  | .bitlockTimeout .. => execBitlockTimeout_keeps _ s
  | .symlockComplete .. => execSymlockComplete_keeps _ _ s
  | .symlockTimeout .. => execSymlockTimeout_keeps _ _ s
  | .capxMessage .. => execCapxMessage_keeps _ _ s
  | .capxTimeout .. => execCapxTimeout_keeps _ s
  | .backoffEnd .. => execBackoffEnd_keeps _ s
  | .laneFailure .. => execLaneFailure_keeps _ _ s
  | .widthChangeTimeout .. => execWidthChangeTimeout_keeps _ s
  | .nearEndLoopResult .. => execNearEndLoopResult_keeps _ _ s
  | .partnerRetrain .. => execPartnerRetrain_keeps _ s
  | .hushMarker .. => execHushMarker_keeps _ s
  | .farEndLoopEnd .. => execFarEndLoopEnd_keeps _ s
  | .flitReceived .. => execFlitReceived_keeps _ _ s
  | .retryReqResend .. => execRetryReqResend_keeps _ s
  | .rd64 .. => execRd64_keeps _ _ s
  | .rd128 .. => execRd128_keeps _ _ s
  | .wr64 .. => execWr64_keeps _ _ s
  | .wrm64 .. => execWrm64_keeps _ _ s
  | .fill .. => execFill_keeps _ _ s
  | .writeData .. => execWriteData_keeps _ _ s
  | .mread .. => execMread_keeps _ _ s
  | .mattest .. => execMattest_keeps _ _ _ s
  | .init p g0 g1 g2 tags => execInit_keeps p g0 g1 g2 tags s
  | .initResend .. => execInitResend_keeps _ s
  | .initTimeout .. => execInitTimeout_keeps _ s
  | .retryReq .. => execRetryReq_keeps _ _ _ s
  | .replayTimeout .. => execReplayTimeout_keeps _ s
  | .credit .. => execCredit_keeps _ _ _ _ s
  | .creditReturnDue .. => execCreditReturnDue_keeps _ s
  | .responseSend .. => execResponseSend_keeps _ s
  | .vc1CreditStall .. => execVc1CreditStall_keeps _ s
  | .audit .. => execAudit_keeps _ _ s
  | .auditTimeout .. => execAuditTimeout_keeps _ s
  | .resyncAck p next g0 g1 g2 => execResyncAck_keeps p next g0 g1 g2 s
  | .resyncResend .. => execResyncResend_keeps _ s
  | .widthChange .. => execWidthChange_keeps _ _ s
  | .widthAck .. => execWidthAck_keeps _ _ s
  | .doze .. => execDoze_keeps _ _ s
  | .budgetWindowBoundary .. => execBudgetWindowBoundary_keeps _ s
  | .gauntletReexamine .. => execGauntletReexamine_keeps _ s
  | .deadlineExpiry .. => execDeadlineExpiry_keeps _ _ s
  | .deadlineCreditEarn .. => execDeadlineCreditEarn_keeps _ _ _ s
  | .grantAudit .. => execGrantAudit_keeps _ s
  | .reservePeriodAudit .. => execReservePeriodAudit_keeps _ s
  | .activationIssue .. => execActivationIssue_keeps _ _ s
  | .pause .. => execPause_keeps _ _ _ s
  | .readBurstReturn .. => execReadBurstReturn_keeps _ _ s
  | .chkResult .. => execChkResult_keeps _ s
  | .writeErrorReport .. => execWriteErrorReport_keeps _ s
  | .commandParityReport .. => execCommandParityReport_keeps _ _ s
  | .writeDrainComplete .. => execWriteDrainComplete_keeps _ s
  | .rowCloseTimeout .. => execRowCloseTimeout_keeps _ _ _ s
  | .slicePowerDown .. => execSlicePowerDown_keeps _ _ s
  | .calMicroStep .. => execCalMicroStep_keeps _ _ s
  | .refreshIssue .. => execRefreshIssue_keeps _ _ _ _ _ s
  | .refreshComplete .. => execRefreshComplete_keeps _ _ _ _ s
  | .rfmRequestReport .. => execRfmRequestReport_keeps _ _ s
  | .hatboxRead .. => execHatboxRead_keeps _ _ s
  | .hatboxEntryService .. => execHatboxEntryService_keeps _ s
  | .selfRefreshSensorRead .. => execSelfRefreshSensorRead_keeps _ _ _ s
  | .spareRowAssign .. => execSpareRowAssign_keeps _ s
  | .tsvSteering .. => execTsvSteering_keeps _ _ s
  | .bankMapOut => execBankMapOut_keeps s
  | .rankRetirement => execRankRetirement_keeps s
  | .layerRetirement => execLayerRetirement_keeps s
  | .linerIntoUse .. => execLinerIntoUse_keeps _ _ s
  | .rowCopy .. => execRowCopy_keeps _ s
  | .arraySetDone => execArraySetDone_keeps s
  | .layerAntifuseBurn .. => execLayerAntifuseBurn_keeps _ _ s
  | .fieldFrameBurn .. => execFieldFrameBurn_keeps _ s
  | .burnResume => execBurnResume_keeps s
  | .shadowParityError .. => execShadowParityError_keeps _ _ s
  | .journalRecordWrite .. => execJournalRecordWrite_keeps _ s
  | .wearAccrual => execWearAccrual_keeps s
  | .wearLedgerDue => execWearLedgerDue_keeps s
  | .thermalSample .. => execThermalSample_keeps _ s
  | .tripRecordTimeout => execTripRecordTimeout_keeps s
  | .modelUpdate => execModelUpdate_keeps s
  | .sensorCalibration .. => execSensorCalibration_keeps _ s
  | .zqCalibration .. => execZqCalibration_keeps _ s
  | .aonClockDiscipline .. => execAonClockDiscipline_keeps _ s
  | .portIdleDescent .. => execPortIdleDescent_keeps _ s
  | .portActivityExit .. => execPortActivityExit_keeps _ s
  | .retainIdleExpiry => execRetainIdleExpiry_keeps s
  | .entryComplete => execEntryComplete_keeps s
  | .entryDelayLimit .. => execEntryDelayLimit_keeps _ s
  | .entryRetry => execEntryRetry_keeps s
  | .dwellP3Expiry => execDwellP3Expiry_keeps s
  | .dwellP4Expiry => execDwellP4Expiry_keeps s
  | .wakeNLow => execWakeNLow_keeps s
  | .portActivityWake .. => execPortActivityWake_keeps _ s
  | .ladderTimerWake => execLadderTimerWake_keeps s
  | .thermalWake .. => execThermalWake_keeps _ s
  | .faultWake .. => execFaultWake_keeps _ s
  | .twoWireWake => execTwoWireWake_keeps s
  | .wakeExitComplete .. => execWakeExitComplete_keeps _ _ s
  | .housekeepingDone => execHousekeepingDone_keeps s
  | .wakeCauseHandled => execWakeCauseHandled_keeps s
  | .crossbarParityError .. => execCrossbarParityError_keeps _ _ _ s
  | .faultRegistration .. => execFaultRegistration_keeps _ _ s
  | .faultWindowExpiry .. => execFaultWindowExpiry_keeps _ s
  | .aonSelfCheck .. => execAonSelfCheck_keeps _ s
  | .collectorSweep .. => execCollectorSweep_keeps _ s
  | .traversalBuilt .. => execTraversalBuilt_keeps _ s
  | .reportSigned .. => execReportSigned_keeps _ s
  | .allowanceGain => execAllowanceGain_keeps s
  | .shdnReqNLow => execShdnReqNLow_keeps s
  | .bistSlotEnd .. => execBistSlotEnd_keeps _ s
  | .shutdownDeadline => execShutdownDeadline_keeps s
  | .mbAddressByte .. => execMbAddressByte_keeps _ _ s
  | .mbRegisterAddress .. => execMbRegisterAddress_keeps _ s
  | .registerWrite .. => execRegisterWrite_keeps _ _ s
  | .readClear => execReadClear_keeps s
  | .pmcCycleLoRead .. => execPmcCycleLoRead_keeps _ s
  | .mbTransferEnd .. => execMbTransferEnd_keeps _ _ _ s
  | .longOpEnd => execLongOpEnd_keeps s
  | .longOpBound => execLongOpBound_keeps s
  | .attentionRequest .. => execAttentionRequest_keeps _ s
  | .attentionSclFall .. => execAttentionSclFall_keeps _ _ _ s
  | .attentionUnserved => execAttentionUnserved_keeps s
  | .sclTimeout => execSclTimeout_keeps s
  | .sdaReleaseTimeout => execSdaReleaseTimeout_keeps s
  | .moveToRetain => execMoveToRetain_keeps s
  | .returnToService => execReturnToService_keeps s
  | .descendNow => execDescendNow_keeps s
  | .retrain .. => execRetrain_keeps _ s
  | .down .. => execDown_keeps _ _ s
  | .nearEndSerialLoop .. => execNearEndSerialLoop_keeps _ _ _ _ s
  | .nearEndParallelLoop .. => execNearEndParallelLoop_keeps _ _ _ s
  | .farEndLoop .. => execFarEndLoop_keeps _ _ _ s
  | .fenceLift .. => execFenceLift_keeps _ s
  | .portFence .. => execPortFence_keeps _ s
  | .fltForce .. => execFltForce_keeps _ s
  | .fltClear .. => execFltClear_keeps _ s
  | .pmcClear .. => execPmcClear_keeps _ s
  | .recalibrationGo .. => execRecalibrationGo_keeps _ _ _ s
  | .predictorReset .. => execPredictorReset_keeps _ s
  | .xlate => execXlate_keeps s
  | .repCmdMapOut .. => execRepCmdMapOut_keeps _ _ _ _ s
  | .repCmdRetireRank .. => execRepCmdRetireRank_keeps _ _ s
  | .repCmdRetireLayer .. => execRepCmdRetireLayer_keeps _ s
  | .otpBurn .. => execOtpBurn_keeps _ s
  | .applyOverride => execApplyOverride_keeps s
  | .clearOverrides => execClearOverrides_keeps s
  | .journalFlush => execJournalFlush_keeps s
  | .journalRead => execJournalRead_keeps s
  | .attReportRequest => execAttReportRequest_keeps s
  | .bistShutdownGo => execBistShutdownGo_keeps s
  | .bistPartitionGo .. => execBistPartitionGo_keeps _ s
  | .trstNLow => execTrstNLow_keeps s
  | .bypass => execBypass_keeps s
  | .idcode => execIdcode_keeps s
  | .samplePreload => execSamplePreload_keeps s
  | .extest => execExtest_keeps s
  | .clamp => execClamp_keeps s
  | .highz => execHighz_keeps s
  | .extestPulse => execExtestPulse_keeps s
  | .extestTrain => execExtestTrain_keeps s
  | .dieSelect .. => execDieSelect_keeps _ s
  | .dieAccess .. => execDieAccess_keeps _ s
  | .resetNLow => execResetNLow_keeps s
  | .schedulerTick => execSchedulerTick_keeps s

/-- What `Keeps` names does not look at the queue. -/
theorem Keeps.withPending (s : State) (l : List Instr) : Keeps s { s with pending := l } :=
  Keeps.same rfl rfl rfl ⟨rfl, rfl, rfl⟩ rfl

theorem step_of_pending {c : Instr} {rest : List Instr} {s : State} (h : s.pending = c :: rest) :
    step s = exec c { s with pending := rest } := by
  rw [step, h]

theorem step_of_idle {s : State} (h : s.pending = []) : step s = .next s := by
  rw [step, h]

/-- A step whose command is not PWRGOOD_LOW keeps what `Keeps` names. -/
theorem step_keeps {s : State} (h : s.pending.head? ≠ some .pwrgoodLow) : KeepsO s (step s) := by
  cases hs : s.pending with
  | nil => exact step_of_idle hs ▸ KeepsO.next (Keeps.refl s)
  | cons c rest =>
    have hc : c ≠ .pwrgoodLow := by
      rintro rfl
      simp [hs] at h
    rw [step_of_pending hs]
    exact fun t ht => (Keeps.withPending s rest).trans (exec_keeps _ c hc t ht)

/-- The state that PWRGOOD_LOW leaves stores nothing and is not in TRIP. -/
theorem State.poweredDown_memoryOk (s : State) : s.poweredDown.memoryOk := rfl
theorem State.poweredDown_tripOk (s : State) : s.poweredDown.tripOk := fun h => nomatch h
theorem State.reset_tripOk : State.reset.tripOk := fun h => nomatch h

/-- Settles O59: `step_keeps` for every command but PWRGOOD_LOW, which leaves `State.poweredDown`. -/
theorem everyStepKeepsTheInvariant : Obligations.EveryStepKeepsTheInvariant := by
  intro s t hmem htrip hstep
  by_cases hlow : s.pending.head? = some .pwrgoodLow
  · obtain ⟨rest, hrest⟩ : ∃ rest, s.pending = .pwrgoodLow :: rest := List.head?_eq_some_iff.mp hlow
    rw [step_of_pending hrest, exec_pwrgoodLow] at hstep
    obtain rfl := Host.Outcome.next.inj hstep
    exact ⟨State.poweredDown_memoryOk _, State.poweredDown_tripOk _, fun h => absurd hlow h⟩
  · have hk := step_keeps hlow t hstep
    exact ⟨hk.mem hmem, hk.tripOk htrip, fun _ => ⟨hk.trip, hk.boot, hk.hold, hk.grave, hk.cause⟩⟩

/-- Settles O60: each part holds by the definition of `State.reset`, whose queue is empty. -/
theorem resetMeetsTheInvariant : Obligations.ResetMeetsTheInvariant :=
  ⟨rfl, State.reset_tripOk, rfl, rfl, rfl, rfl, rfl, rfl, step_of_idle rfl⟩

/-- Settles O1: the two equations of `step`. -/
theorem stepRunsTheCommandInFront : Obligations.StepRunsTheCommandInFront :=
  ⟨fun _ _ _ h => step_of_pending h, fun _ h => step_of_idle h⟩

end Sys2Proof.Machine
end

section
/-! SUPPORT. The keyed permutation of segments as a Feistel network of four rounds, each its own inverse (R222), and the device map built on it (R219, R226); with them the obligation on both (O39). -/

namespace Sys2Proof.Machine

/-- The two halves of a 23-bit segment index: 12 bits and 11. -/
def halvesOf (x : Nat) : Nat × Nat := (bitsOf x 22 11, bitsOf x 10 0)

/-- The segment index of two halves. -/
def ofHalves (h : Nat × Nat) : Nat := h.1 * 2048 + h.2

/-- Both halves are as wide as they should be. -/
def halvesOk (h : Nat × Nat) : Prop := h.1 < 2 ^ 12 ∧ h.2 < 2 ^ 11

/-- A round on the left half. -/
def mixLeft (k : BitVec 32) (h : Nat × Nat) : Nat × Nat := (h.1 ^^^ mix h.2 k 12, h.2)

/-- A round on the right half. -/
def mixRight (k : BitVec 32) (h : Nat × Nat) : Nat × Nat := (h.1, h.2 ^^^ mix h.1 k 11)

theorem permute_eq_rounds (key : BitVec 128) (x : Nat) :
    permute key x = ofHalves (mixRight (roundKey key 3) (mixLeft (roundKey key 2)
      (mixRight (roundKey key 1) (mixLeft (roundKey key 0) (halvesOf x))))) := rfl

theorem unpermute_eq_rounds (key : BitVec 128) (y : Nat) :
    unpermute key y = ofHalves (mixLeft (roundKey key 0) (mixRight (roundKey key 1)
      (mixLeft (roundKey key 2) (mixRight (roundKey key 3) (halvesOf y))))) := rfl

/-! ## One round -/

theorem mix_lt (v : Nat) (k : BitVec 32) (w : Nat) : mix v k w < 2 ^ w := Nat.mod_lt _ (Nat.two_pow_pos w)

@[simp] theorem mixLeft_mixLeft (k : BitVec 32) (h : Nat × Nat) : mixLeft k (mixLeft k h) = h := by
  simp [mixLeft]

@[simp] theorem mixRight_mixRight (k : BitVec 32) (h : Nat × Nat) : mixRight k (mixRight k h) = h := by
  simp [mixRight]

theorem halvesOk.mixLeft {h : Nat × Nat} (ok : halvesOk h) (k : BitVec 32) : halvesOk (mixLeft k h) :=
  ⟨Nat.xor_lt_two_pow ok.1 (mix_lt _ k 12), ok.2⟩

theorem halvesOk.mixRight {h : Nat × Nat} (ok : halvesOk h) (k : BitVec 32) : halvesOk (mixRight k h) :=
  ⟨ok.1, Nat.xor_lt_two_pow ok.2 (mix_lt _ k 11)⟩

/-! ## Halves -/

theorem halvesOf_ok (x : Nat) : halvesOk (halvesOf x) :=
  ⟨Nat.mod_lt _ (by decide), Nat.mod_lt _ (by decide)⟩

theorem ofHalves_lt {h : Nat × Nat} (ok : halvesOk h) : ofHalves h < 2 ^ 23 := by
  obtain ⟨hl, hr⟩ := ok
  simp only [ofHalves]
  omega

theorem halvesOf_ofHalves {h : Nat × Nat} (ok : halvesOk h) : halvesOf (ofHalves h) = h := by
  obtain ⟨hl, hr⟩ := ok
  refine Prod.ext ?_ ?_ <;> simp only [halvesOf, ofHalves, bitsOf] <;> omega

theorem ofHalves_halvesOf {x : Nat} (hx : x < 2 ^ 23) : ofHalves (halvesOf x) = x := by
  simp only [halvesOf, ofHalves, bitsOf]
  omega

/-! ## The permutation -/

theorem permute_lt (key : BitVec 128) (x : Nat) : permute key x < 2 ^ 23 :=
  permute_eq_rounds key x ▸ ofHalves_lt ((((halvesOf_ok x).mixLeft _).mixRight _).mixLeft _ |>.mixRight _)

theorem unpermute_lt (key : BitVec 128) (y : Nat) : unpermute key y < 2 ^ 23 :=
  unpermute_eq_rounds key y ▸ ofHalves_lt ((((halvesOf_ok y).mixRight _).mixLeft _).mixRight _ |>.mixLeft _)

theorem unpermute_permute (key : BitVec 128) {x : Nat} (hx : x < 2 ^ 23) : unpermute key (permute key x) = x := by
  have ok := (((halvesOf_ok x).mixLeft (roundKey key 0)).mixRight (roundKey key 1)).mixLeft (roundKey key 2) |>.mixRight (roundKey key 3)
  rw [unpermute_eq_rounds, permute_eq_rounds, halvesOf_ofHalves ok]
  simp [ofHalves_halvesOf hx]

theorem permute_unpermute (key : BitVec 128) {y : Nat} (hy : y < 2 ^ 23) : permute key (unpermute key y) = y := by
  have ok := (((halvesOf_ok y).mixRight (roundKey key 3)).mixLeft (roundKey key 2)).mixRight (roundKey key 1) |>.mixLeft (roundKey key 0)
  rw [permute_eq_rounds, unpermute_eq_rounds, halvesOf_ofHalves ok]
  simp [ofHalves_halvesOf hy]

/-! ## The device map -/

/-- The fields of a segment number put together again. -/
theorem segFields_join {y : Nat} (hy : y < 2 ^ 23) : bitsOf y 22 18 * 2 ^ 18 + bitsOf y 17 14 * 2 ^ 14 + bitsOf y 13 0 = y := by
  simp only [bitsOf]
  omega

theorem devOf_segOf (key : BitVec 128) {d : Nat} (hd : d < 2 ^ 31) : devOf key (segOf key d) = d := by
  have hindex : bitsOf d 26 4 < 2 ^ 23 := Nat.mod_lt _ (by decide)
  simp only [devOf, segOf, segFields_join (permute_lt key _), unpermute_permute key hindex]
  simp only [devRank, bitsOf]
  omega

/-- Blocks of one segment share all but their place in the row. -/
theorem segOf_of_sameSegment (key : BitVec 128) {a b : Nat} (h : a / 16 = b / 16) :
    segOf key a = { segOf key b with block := a % 16 } := by
  have hindex : bitsOf a 26 4 = bitsOf b 26 4 := congrArg (· % 2 ^ 23) h
  have hrank : devRank a = devRank b := by
    simp only [devRank, bitsOf]
    omega
  simp only [segOf, hindex, hrank]

/-- Settles O39: the rounds are undone one by one (`unpermute_permute`), and the device map only adds the rank and the block. -/
theorem permutationIsOneToOne : Obligations.PermutationIsOneToOne := by
  intro key
  refine ⟨fun x hx => ⟨permute_lt key x, unpermute_permute key hx⟩, fun x hx => ⟨unpermute_lt key x, permute_unpermute key hx⟩,
    fun d hd => devOf_segOf key hd, fun a b _ _ h => ?_, fun _ => rfl⟩
  rw [segOf_of_sameSegment key h]
  exact ⟨rfl, rfl, rfl, rfl⟩

end Sys2Proof.Machine
end

section
/-! SUPPORT. Bit vectors and blocks read digit by digit, and what writes and seals of a block do to the parity and the column syndromes of its row (R294, R298, R300, R302, R312); with them the obligation on the cuff code (O43). -/

namespace Sys2Proof.Machine

/-! ## Numbers from their digits -/

/-- The number with these `n` digits to the base `B`, least significant first. -/
def ofDigits (B : Nat) (d : Nat → Nat) (n : Nat) : Nat := (List.range n).foldl (fun v j => v + d j * B ^ j) 0

theorem ofDigits_succ (B : Nat) (d : Nat → Nat) (n : Nat) : ofDigits B d (n + 1) = ofDigits B d n + d n * B ^ n := by
  simp [ofDigits, List.range_succ]

theorem ofDigits_lt {B : Nat} {d : Nat → Nat} (hd : ∀ j, d j < B) (n : Nat) : ofDigits B d n < B ^ n := by
  induction n with
  | zero => exact Nat.one_pos
  | succ n ih =>
    have hdigit : (d n + 1) * B ^ n ≤ B * B ^ n := Nat.mul_le_mul_right _ (hd n)
    rw [ofDigits_succ, Nat.pow_succ']
    linarith

theorem ofDigits_digit {B : Nat} {d : Nat → Nat} (hd : ∀ j, d j < B) {n j : Nat} (hj : j < n) :
    ofDigits B d n / B ^ j % B = d j := by
  have hB : 0 < B := Nat.zero_lt_of_lt (hd 0)
  induction n with
  | zero => exact absurd hj (Nat.not_lt_zero j)
  | succ n ih =>
    rw [ofDigits_succ]
    rcases Nat.lt_or_eq_of_le (Nat.le_of_lt_succ hj) with hlt | rfl
    · obtain ⟨k, rfl⟩ := Nat.exists_eq_add_of_lt hlt
      have hpow : d (j + k + 1) * B ^ (j + k + 1) = B ^ j * (B * (d (j + k + 1) * B ^ k)) := by ring
      rw [hpow, Nat.add_mul_div_left _ _ (Nat.pow_pos hB), Nat.add_mul_mod_self_left]
      exact ih hlt
    · rw [Nat.add_mul_div_right _ _ (Nat.pow_pos hB), Nat.div_eq_of_lt (ofDigits_lt hd j), Nat.zero_add]
      exact Nat.mod_eq_of_lt (hd j)

/-! ## Bits of a vector, bytes of a block -/

theorem bits64_toNat (f : Nat → Bool) : (bits64 f).toNat = ofDigits 2 (fun j => (f j).toNat) 64 := by
  have hsum : (fun v j => v + (if f j then 2 ^ j else 0)) = (fun v j => v + (f j).toNat * 2 ^ j) := by
    funext v j
    cases f j <;> simp
  rw [bits64, hsum, BitVec.toNat_ofNat]
  exact Nat.mod_eq_of_lt (ofDigits_lt (fun j => Bool.toNat_lt (f j)) 64)

/-- Bit j of a vector is what it was built from. -/
theorem bits64_getLsbD (f : Nat → Bool) {j : Nat} (hj : j < 64) : (bits64 f).getLsbD j = f j := by
  have hdigit := ofDigits_digit (fun j => Bool.toNat_lt (f j)) hj
  rw [BitVec.getLsbD, bits64_toNat, Nat.testBit_eq_decide_div_mod_eq, hdigit]
  cases f j <;> rfl

theorem byte_lt (b : Byte) : b.toNat < 256 := b.isLt

theorem blockOf_toNat (f : Nat → Byte) : (blockOf f).toNat = ofDigits 256 (fun j => (f j).toNat) 64 := by
  have hlt : ofDigits 256 (fun j => (f j).toNat) 64 < 2 ^ (8 * 64) := by
    rw [Nat.pow_mul]
    exact ofDigits_lt (fun j => byte_lt (f j)) 64
  rw [blockOf, BitVec.toNat_ofNat]
  exact Nat.mod_eq_of_lt hlt

/-- Byte j of a block is what it was built from. -/
theorem byteOf_blockOf (f : Nat → Byte) {j : Nat} (hj : j < 64) : byteOf (blockOf f) j = f j := by
  have hdigit := ofDigits_digit (fun j => byte_lt (f j)) hj
  have hpow : 2 ^ (8 * j) = 256 ^ j := by rw [Nat.pow_mul]
  apply BitVec.eq_of_toNat_eq
  rw [byteOf, BitVec.extractLsb'_toNat, Nat.shiftRight_eq_div_pow, blockOf_toNat, hpow]
  exact hdigit

theorem eq_zero_of_bits {v : BitVec 64} (h : ∀ j, j < 64 → v.getLsbD j = false) : v = 0 :=
  BitVec.eq_of_getLsbD_eq fun j hj => (h j hj).trans BitVec.getLsbD_zero.symm

theorem flagsOf_getLsbD (x : Block × BitVec 64) {j : Nat} (hj : j < 64) :
    (flagsOf x).getLsbD j = (parity (byteOf x.1 j) != x.2.getLsbD j) :=
  bits64_getLsbD _ hj

theorem byteOf_zero (j : Nat) : byteOf 0 j = 0 := by simp [byteOf]

theorem parity_zero : parity 0 = false := by decide

/-- A block without a flagged byte has been written. -/
theorem neverWritten_of_flags {x : Block × BitVec 64} (h : flagsOf x = 0) : neverWritten x = false := by
  rw [neverWritten, h]
  decide

/-- All bytes zero under check bits of one: every byte is flagged (R312, R313). -/
theorem neverWritten_sealed : neverWritten (0, BitVec.allOnes 64) = true := by
  have hflags : flagsOf (0, BitVec.allOnes 64) = BitVec.allOnes 64 := by
    refine BitVec.eq_of_getLsbD_eq fun j hj => ?_
    rw [flagsOf_getLsbD _ hj, byteOf_zero, parity_zero, Bool.false_bne]
  rw [neverWritten, hflags]
  decide

/-! ## The column syndrome -/

/-- What a block adds to the syndrome of column j: its byte, unless it is never-written (R302). -/
def columnShare (x : Block × BitVec 64) (j : Nat) : Byte := if neverWritten x then 0 else byteOf x.1 j

theorem Row.syndrome_eq (r : Row) (j : Nat) :
    r.syndrome j = (List.range 16).foldl (fun v b => v ^^^ columnShare (r.block b) j) (byteOf r.cuff j) := by
  rw [Row.syndrome, Row.live, List.foldl_filter]
  congr
  funext v b
  cases h : neverWritten (r.block b) <;> simp [columnShare, h]

theorem xor_xor_cancel (a b : Byte) : a ^^^ b ^^^ b = a := by
  rw [BitVec.xor_assoc, BitVec.xor_self, BitVec.xor_zero]

theorem foldl_xor_init {f : Nat → Byte} (l : List Nat) (c d : Byte) :
    l.foldl (fun v i => v ^^^ f i) (c ^^^ d) = l.foldl (fun v i => v ^^^ f i) c ^^^ d := by
  induction l generalizing c with
  | nil => rfl
  | cons i l ih => rw [List.foldl_cons, List.foldl_cons, BitVec.xor_assoc, BitVec.xor_comm d, ← BitVec.xor_assoc, ih]

/-- A sum in which one term has changed. -/
theorem foldl_xor_update {f g : Nat → Byte} {b : Nat} {l : List Nat} (hl : l.Nodup) (hb : b ∈ l) (hfg : ∀ i, i ≠ b → g i = f i)
    (c : Byte) : l.foldl (fun v i => v ^^^ g i) c = l.foldl (fun v i => v ^^^ f i) c ^^^ f b ^^^ g b := by
  induction l generalizing c with
  | nil => exact absurd hb List.not_mem_nil
  | cons i l ih =>
    obtain ⟨hi, hl⟩ := List.nodup_cons.mp hl
    rw [List.foldl_cons, List.foldl_cons]
    by_cases h : i = b
    · subst h
      have hrest (c : Byte) : l.foldl (fun v k => v ^^^ g k) c = l.foldl (fun v k => v ^^^ f k) c :=
        List.foldl_ext _ _ _ fun v k hk => by rw [hfg k (fun e => hi (e ▸ hk))]
      rw [hrest, foldl_xor_init, foldl_xor_init, xor_xor_cancel]
    · rw [hfg i h]
      exact ih hl ((List.mem_cons.mp hb).resolve_left (fun e => h e.symm)) _

/-- A row with one block and the cuff word replaced. -/
def Row.put (r : Row) (b : Nat) (x : Block × BitVec 64) (cuff : Block) : Row := { blocks := r.blocks.set b x, cuff := cuff }

theorem Row.put_block_self {r : Row} {b : Nat} (hlen : r.blocks.length = 16) (hb : b < 16) (x : Block × BitVec 64) (cuff : Block) :
    (r.put b x cuff).block b = x := by
  simp [Row.put, Row.block, hlen, hb]

theorem Row.put_block_ne (r : Row) {b i : Nat} (h : i ≠ b) (x : Block × BitVec 64) (cuff : Block) :
    (r.put b x cuff).block i = r.block i := by
  simp [Row.put, Row.block, List.getElem?_set_ne (Ne.symm h)]

/-- The syndrome stands where the cuff byte takes up what the block's share has changed by (R298). -/
theorem Row.put_syndrome {r : Row} {b j : Nat} (hlen : r.blocks.length = 16) (hb : b < 16) {x : Block × BitVec 64} {cuff : Block}
    (hcuff : byteOf cuff j = byteOf r.cuff j ^^^ columnShare (r.block b) j ^^^ columnShare x j) :
    (r.put b x cuff).syndrome j = r.syndrome j := by
  have hupdate := foldl_xor_update (f := fun i => columnShare (r.block i) j) (g := fun i => columnShare ((r.put b x cuff).block i) j)
    List.nodup_range (List.mem_range.mpr hb) (fun i hi => by rw [Row.put_block_ne r hi]) (byteOf cuff j)
  rw [Row.syndrome_eq, Row.syndrome_eq, show (r.put b x cuff).cuff = cuff from rfl, hupdate, Row.put_block_self hlen hb, hcuff,
    foldl_xor_init, foldl_xor_init, BitVec.xor_assoc _ _ (columnShare (r.block b) j), BitVec.xor_comm (columnShare x j),
    ← BitVec.xor_assoc, xor_xor_cancel, xor_xor_cancel]

/-! ## Writes and seals of a block in good state -/

/-- Every byte of the block is known: none is flagged, or the block is never-written. -/
def Row.blockKnown (r : Row) (b : Nat) : Prop := flagsOf (r.block b) = 0 ∨ neverWritten (r.block b) = true

/-- A byte of the block after a write: the new one, the old one, or 0 in a block that was never-written (R298, R300). -/
theorem writeRow_byte (r : Row) (b : Nat) (mask : BitVec 64) (d : Block) {j : Nat} (hj : j < 64) :
    byteOf (writeRow r b mask d).1.1 j = if mask.getLsbD j then byteOf d j else columnShare (r.block b) j := by
  rw [writeRow, byteOf_blockOf _ hj, columnShare]

section known

variable {r : Row} {b j : Nat} (hknown : r.blockKnown b)
include hknown

/-- The old value of a known byte is its share of the column, and resolved (R299, R300). -/
theorem oldByte_of_known : oldByte r b j = (columnShare (r.block b) j, false) := by
  rcases hknown with hflags | hnever
  · simp [oldByte, columnShare, neverWritten_of_flags hflags, hflags]
  · simp [oldByte, columnShare, hnever]

theorem oldBytes_getD_of_known (hj : j < 64) :
    ((List.range 64).map (oldByte r b)).getD j (0, false) = (columnShare (r.block b) j, false) := by
  simp [hj, oldByte_of_known hknown]

theorem sealRow_unresolved : (sealRow r b).2.2 = 0 :=
  eq_zero_of_bits fun j hj => by rw [sealRow, bits64_getLsbD _ hj, oldBytes_getD_of_known hknown hj]

theorem sealRow_cuff (hj : j < 64) : byteOf (sealRow r b).2.1 j = byteOf r.cuff j ^^^ columnShare (r.block b) j := by
  rw [sealRow, byteOf_blockOf _ hj, oldBytes_getD_of_known hknown hj]

variable (mask : BitVec 64) (d : Block)

theorem writeRow_unresolved : (writeRow r b mask d).2.2 = 0 :=
  eq_zero_of_bits fun j hj => by rw [writeRow, bits64_getLsbD _ hj, oldBytes_getD_of_known hknown hj, Bool.and_false]

/-- Every byte of the block has good parity after a write. -/
theorem writeRow_flags : flagsOf (writeRow r b mask d).1 = 0 := by
  refine eq_zero_of_bits fun j hj => ?_
  rw [flagsOf_getLsbD _ hj, writeRow_byte r b mask d hj, writeRow, bits64_getLsbD _ hj]
  by_cases hm : mask.getLsbD j = true
  · simp only [if_pos hm, bne_self_eq_false]
  · rcases hknown with hflags | hnever
    · have hgood : (parity (byteOf (r.block b).1 j) != (r.block b).2.getLsbD j) = false := by
        rw [← flagsOf_getLsbD _ hj, hflags]
        exact BitVec.getLsbD_zero
      simpa only [if_neg hm, columnShare, neverWritten_of_flags hflags, Bool.false_eq_true, if_false] using hgood
    · simp only [if_neg hm, columnShare, hnever, if_true, parity_zero, bne_self_eq_false]

theorem writeRow_share : columnShare (writeRow r b mask d).1 j = byteOf (writeRow r b mask d).1.1 j := by
  rw [columnShare, neverWritten_of_flags (writeRow_flags hknown mask d)]
  rfl

/-- The cuff byte takes up the change of the block's share: the old byte and the new where the byte is written. -/
theorem writeRow_cuff (hj : j < 64) : byteOf (writeRow r b mask d).2.1 j =
    byteOf r.cuff j ^^^ columnShare (r.block b) j ^^^ columnShare (writeRow r b mask d).1 j := by
  rw [writeRow_share hknown mask d, writeRow_byte r b mask d hj, writeRow, byteOf_blockOf _ hj,
    oldBytes_getD_of_known hknown hj]
  by_cases hm : mask.getLsbD j = true
  · simp only [if_pos hm]
  · simp only [if_neg hm, xor_xor_cancel]

end known

/-- Settles O43: what the cuff byte takes up (`writeRow_cuff`, `sealRow_cuff`) is what the block's share has changed by, which keeps
the syndrome (`Row.put_syndrome`). -/
theorem writesKeepTheColumnCode : Obligations.WritesKeepTheColumnCode := by
  intro r b hlen hb hknown
  replace hknown : r.blockKnown b := hknown
  refine ⟨?written, ?sealed⟩
  case written =>
    rintro mask d x r' - rfl rfl
    have hblock := Row.put_block_self hlen hb (writeRow r b mask d).1 (writeRow r b mask d).2.1
    have hflags := writeRow_flags hknown mask d
    refine ⟨writeRow_unresolved hknown mask d, hblock.symm ▸ hflags, hblock.symm ▸ neverWritten_of_flags hflags,
      fun j hj hm => ?_, fun j hj hm => ?_, fun j hj => Row.put_syndrome hlen hb (writeRow_cuff hknown mask d hj)⟩
    · exact hblock.symm ▸ (writeRow_byte r b mask d hj).trans (if_pos hm)
    · exact hblock.symm ▸ (writeRow_byte r b mask d hj).trans (if_neg (by simp [hm]))
  case sealed =>
    rintro x r' rfl rfl
    have hblock := Row.put_block_self hlen hb (sealRow r b).1 (sealRow r b).2.1
    have hshare (j : Nat) : columnShare (sealRow r b).1 j = 0 := if_pos neverWritten_sealed
    refine ⟨sealRow_unresolved hknown, hblock.symm ▸ neverWritten_sealed, fun j _ => hblock.symm ▸ byteOf_zero j,
      fun j hj => Row.put_syndrome hlen hb ?_⟩
    rw [sealRow_cuff hknown hj, hshare]
    exact BitVec.xor_zero.symm

end Sys2Proof.Machine
end

section
/-! SUPPORT. The pins that gate the start of BOOT: PWRGOOD, RESET_N, VCORE_OK and the fast RC (R55, R77 to R81, R398, R402); the obligations on them (O3, O4). -/

namespace Sys2Proof.Machine

variable {s : State}

/-- A high level of PWRGOOD that is high already changes nothing (log 9). -/
theorem exec_pwrgoodHigh_of_high (m : BitVec 3) (h : s.pwrgood = true) : exec (.pwrgoodHigh m) s = .next s :=
  if_pos h

/-- Settles O3: the next state at a low level is `State.poweredUp`. -/
theorem powerGoodHighStartsBoot : Obligations.PowerGoodHighStartsBoot :=
  ⟨fun m _ h => exec_pwrgoodHigh_of_low m h, fun m _ h => exec_pwrgoodHigh_of_high m h⟩

/-! ## RESET_N (R55, R79) -/

/-- Whether RESET_N is sampled does not depend on its level. -/
theorem State.sampling_withResetN (s : State) (b : Bool) : ({ s with pins.resetN := b } : State).sampling = s.sampling := rfl

theorem exec_resetNLow_of_sampling (h : s.sampling = true) :
    exec .resetNLow s = .next { s with pins.resetN := false, pins.vid := some 0x18, boot.resetHeld := true } :=
  congrArg _ (if_pos h)

theorem exec_resetNLow_of_not_sampling (h : s.sampling = false) : exec .resetNLow s = .next { s with pins.resetN := false } :=
  congrArg _ (if_neg (by rw [State.sampling_withResetN, h]; exact Bool.false_ne_true))

theorem exec_resetNHigh_of_sampling (h : s.sampling = true) :
    exec .resetNHigh s = .next { s with
      pins.resetN := true, boot.resetHeld := false
      boot.step := if s.boot.step = 3 ∧ s.sup.running then 4 else s.boot.step } :=
  congrArg _ (if_pos h)

theorem exec_resetNHigh_of_not_sampling (h : s.sampling = false) : exec .resetNHigh s = .next { s with pins.resetN := true } :=
  congrArg _ (if_neg (by rw [State.sampling_withResetN, h]; exact Bool.false_ne_true))

/-! ## The fast RC (R81, R398, R402) -/

/-- The first running of the supervisor, or the wait for VCORE_OK. -/
theorem exec_fastRcStable_of_sampling (hs : s.sampling = true) (hr : s.sup.running = false) :
    exec .fastRcStable s = .next (if s.pins.vcoreOk then
      { s with pins.vid := some 0x18, sup.running := true, pwr.fastRc := true, boot.vcoreWait := false
               boot.step := if s.boot.resetHeld then 3 else 4 }
      else { s with pins.vid := some 0x18, boot.step := 3, boot.vcoreWait := true }) := by
  change execFastRcStable s = _
  cases hv : s.pins.vcoreOk <;> simp [execFastRcStable, hs, hr, hv]

/-- In a wake the supervisor runs again once the level is no longer raised. -/
theorem exec_fastRcStable_of_wake (hs : s.sampling = false) (hw : s.pwr.wake.isSome = true) (hr : s.pwr.raising = false) :
    exec .fastRcStable s = .next { s with sup.running := true, pwr.fastRc := true } := by
  change execFastRcStable s = _
  simp [execFastRcStable, hs, hw, hr]

/-- Settles O4: each clause is the equation of its command in the case it names. -/
theorem resetAndCoreVoltageGateBoot : Obligations.ResetAndCoreVoltageGateBoot := by
  refine ⟨fun s h => exec_resetNLow_of_sampling h, fun s h h3 hrun => ?released, fun s h h3 => ?early,
    fun s h => ⟨exec_resetNLow_of_not_sampling h, exec_resetNHigh_of_not_sampling h⟩, fun s => rfl,
    fun s hs hr hv => ?runs, fun s hs hr hv => ?waits, fun s hs hw hr => exec_fastRcStable_of_wake hs hw hr⟩
  case released => rw [exec_resetNHigh_of_sampling h, if_pos ⟨h3, hrun⟩]
  case early => rw [exec_resetNHigh_of_sampling h, if_neg fun hstep => h3 hstep.1]
  case runs => rw [exec_fastRcStable_of_sampling hs hr, if_pos hv]
  case waits => rw [exec_fastRcStable_of_sampling hs hr, hv]; rfl

end Sys2Proof.Machine
end

section
/-! SUPPORT. What the fault collector does to the mode (R29, R36 to R38, R414 to R419, R424): entry to HOLD, the grave latch, and events that are mild, that is neither at GRAVE nor with a HOLD reaction. Every event either stays within the collector and what its reactions reach, or ends in `enterHold`. -/

namespace Sys2Proof.Machine

variable {s t u : State}

/-! ## Loops and parts of the state -/

theorem forL_eq {α β : Type} {f : State → α} {g : β → State → State} (h : ∀ b t, f (g b t) = f t) (l : List β) (s : State) :
    f (forL l g s) = f s := by
  induction l generalizing s with
  | nil => rfl
  | cons b l ih => exact (ih (g b s)).trans (h b s)

theorem forN_eq {α : Type} {f : State → α} {g : Nat → State → State} (h : ∀ i t, f (g i t) = f t) (n : Nat) (s : State) :
    f (forN n g s) = f s :=
  forL_eq h (List.range n) s

theorem forN_succ (n : Nat) (g : Nat → State → State) (s : State) : forN (n + 1) g s = g n (forN n g s) := by
  simp [forN, List.range_succ]

/-! What leaves the identity leaves what is fitted, present and counted. -/

theorem Fr.part {m : Nat} (h : Fr m s t) (hm : m.testBit 13 = false) : t.part = s.part := by
  rw [State.part, h.otp hm, State.part]

theorem Fr.portPresent {m : Nat} (h : Fr m s t) (hm : m.testBit 13 = false) (p : Nat) : t.portPresent p = s.portPresent p := by
  rw [State.portPresent, h.part hm, State.portPresent]

theorem Fr.fitted {m : Nat} (h : Fr m s t) (hm : m.testBit 13 = false) (k : Nat) : t.fitted k = s.fitted k := by
  rw [State.fitted, h.otp hm, State.fitted]

theorem Fr.srcAbsent {m : Nat} (h : Fr m s t) (hm : m.testBit 13 = false) (n : Nat) : t.srcAbsent n = s.srcAbsent n := by
  rw [State.srcAbsent, h.portPresent hm, h.fitted hm, h.otp hm, State.srcAbsent]

theorem Fr.counts {m : Nat} (h : Fr m s t) (hm : m.testBit 13 = false) (n : Nat) : t.counts n = s.counts n := by
  rw [State.counts, h.srcAbsent hm, State.counts]

theorem Fr.collectorOff {m : Nat} (h : Fr m s t) (hp : m.testBit 12 = false) (hb : m.testBit 16 = false) :
    t.collectorOff = s.collectorOff := by
  rw [State.collectorOff, h.pwr hp, h.bist hb, State.collectorOff]

theorem Fr.srcClass {m : Nat} (h : Fr m s t) (hm : m.testBit 13 = false) {n : Nat} (hsrc : t.src n = s.src n) :
    t.srcClass n = s.srcClass n := by
  rw [State.srcClass, h.srcAbsent hm, hsrc, State.srcClass]

theorem srcReact_congr {n : Nat} (hsrc : t.src n = s.src n) : t.srcReact n = s.srcReact n := by
  rw [State.srcReact, hsrc, State.srcReact]

theorem src_congr (h : t.flt.sources = s.flt.sources) (n : Nat) : t.src n = s.src n := by
  rw [State.src, h, State.src]

/-! ## What reactions leave of the collector -/

/-- The table of sources and the copies of the grave latch. -/
def State.latches (s : State) : List (Nat × Source) × Bool × Bool × Bool :=
  (s.flt.sources, s.flt.grave0, s.flt.grave1, s.flt.grave2)

theorem State.grave_eq_of_latches (h : t.latches = s.latches) : t.grave = s.grave := by
  obtain ⟨-, h0, h1, h2⟩ : _ ∧ _ ∧ _ ∧ _ := by simpa [State.latches] using h
  rw [State.grave, h0, h1, h2, State.grave]

theorem State.sources_of_latches (h : t.latches = s.latches) : t.flt.sources = s.flt.sources := congrArg Prod.fst h

theorem State.src_eq_of_latches (h : t.latches = s.latches) (n : Nat) : t.src n = s.src n :=
  src_congr (State.sources_of_latches h) n

theorem Fr.latches {m : Nat} (h : Fr m s t) (hm : m.testBit 10 = false) : t.latches = s.latches := by
  rw [State.latches, h.flt hm, State.latches]

@[simp] theorem attend_latches (s : State) : (attend s).latches = s.latches := (attend_fr s).latches (by decide)

@[simp] theorem setAlert_latches (m : BitVec 5) (s : State) : (setAlert m s).latches = s.latches := by
  unfold setAlert
  split
  · rfl
  · exact attend_latches _

@[simp] theorem queueRecord_latches (j : JQueued) (s : State) : (queueRecord j s).latches = s.latches :=
  (queueRecord_fr j s).latches (by decide)

@[simp] theorem logRecord_latches (src cls : Nat) (forced reacted : Bool) (record detail : Nat) (s : State) :
    (logRecord src cls forced reacted record detail s).latches = s.latches := by
  unfold logRecord
  dsimp only
  rw [queueRecord_latches]
  split
  · rw [setAlert_latches]
    rfl
  · rfl

@[simp] theorem sendNotice_latches (p src cls win : Nat) (s : State) : (sendNotice p src cls win s).latches = s.latches := by
  unfold sendNotice
  split
  · extract_lets time four sent
    split
    · exact setAlert_latches 8 sent
    · rfl
  · rfl

theorem noticeRank_latches (src cls r : Nat) (s : State) : (noticeRank src cls r s).latches = s.latches := by
  refine forN_eq (f := State.latches) (fun p t => ?_) 16 s
  split
  · exact sendNotice_latches ..
  · rfl

@[simp] theorem notices_latches (src : Nat) (d : EventDetail) (s : State) : (notices src d s).latches = s.latches := by
  unfold notices
  extract_lets cls
  split_ifs
  · exact sendNotice_latches ..
  · split
    · exact noticeRank_latches ..
    · refine forN_eq (f := State.latches) (fun p t => ?_) 16 s
      split
      · exact sendNotice_latches ..
      · rfl
  · refine forN_eq (f := State.latches) (fun p t => ?_) 16 s
    split
    · exact sendNotice_latches ..
    · rfl
  · exact forN_eq (f := State.latches) (fun p t => sendNotice_latches ..) 16 s

/-- Reactions change neither a source nor the grave latch. -/
@[simp] theorem reactions_latches (src : Nat) (d : EventDetail) (forced : Bool) (record : Nat) (s : State) :
    (reactions src d forced record s).latches = s.latches := by
  unfold reactions
  extract_lets re cls logged alerted noticed fenced repaired
  have hlogged : logged.latches = s.latches := by
    unfold logged
    split
    · exact logRecord_latches ..
    · rfl
  have halerted : alerted.latches = s.latches := by
    unfold alerted
    split
    · exact (setAlert_latches 1 logged).trans hlogged
    · exact hlogged
  have hnoticed : noticed.latches = s.latches := by
    unfold noticed
    split
    · exact (notices_latches src d alerted).trans halerted
    · exact halerted
  have hfenced : fenced.latches = s.latches := by
    unfold fenced
    split
    · exact ((fencePort_fr _ noticed).latches (by decide)).trans hnoticed
    · exact hnoticed
  have hrepaired : repaired.latches = s.latches := ((repairReactions_fr src d fenced).latches (by decide)).trans hfenced
  split
  · exact ((supRestart_fr repaired).latches (by decide)).trans hrepaired
  · exact hrepaired

/-! ## Entry to HOLD (R36 to R38) -/

section hold

variable (c : Nat)

/-- Links, memory, layers and a running self-test as the entry to HOLD stops them. -/
@[irreducible] def State.stopAll (s : State) : State := stopTest (layersOff (stopMemory (linksDown s)))

theorem State.stopAll_fr (s : State) : Fr 390152192 s s.stopAll := by
  unfold State.stopAll
  exact Fr.step (stopTest_fr _) (by decide) (Fr.step (layersOff_fr _) (by decide)
    (Fr.step (stopMemory_fr _) (by decide) ((linksDown_fr s).mono (by decide))))

theorem State.stopAll_mem (s : State) : s.stopAll.mem = [] := by
  unfold State.stopAll
  exact ((stopTest_fr _).mem (by decide)).trans ((layersOff_fr _).mem (by decide))

theorem enterHold_of_trip (h : s.mode = .trip) : enterHold c s = s := if_pos (.inl h)
theorem enterHold_of_hold (h : s.mode = .hold) : enterHold c s = s := if_pos (.inr h)

variable (ht : s.mode ≠ .trip) (hh : s.mode ≠ .hold)
include ht hh

/-- What the entry to HOLD makes of the state. -/
theorem enterHold_eq : enterHold c s = { s.stopAll with
    mode := .hold
    flt.holdAt := some (s.now, s.mode)
    holdCause := if s.holdCause = 0 then BitVec.ofNat 8 c else s.holdCause
    pins.vid := some 0x10
    boot.frozen := some (s.boot.frozen.getD s.us)
    pwr := { s.pwr with entry := none, retainPending := false, wake := none, raising := false, lowering := true }
    bist.phase := 0 } := by
  have hfr := s.stopAll_fr
  rw [enterHold, if_neg (not_or_intro ht hh)]
  simp only [show stopTest (layersOff (stopMemory (linksDown s))) = s.stopAll by unfold State.stopAll; rfl, State.us, hfr.now (by decide),
    hfr.mode (by decide), hfr.holdCause (by decide), hfr.boot (by decide), hfr.pwr (by decide)]

theorem enterHold_holdCause : (enterHold c s).holdCause = if s.holdCause = 0 then BitVec.ofNat 8 c else s.holdCause :=
  congrArg State.holdCause (enterHold_eq c ht hh)

theorem enterHold_mem : (enterHold c s).mem = [] := by
  rw [enterHold_eq c ht hh]
  exact s.stopAll_mem

theorem enterHold_flt : (enterHold c s).flt = { s.flt with holdAt := some (s.now, s.mode) } := by
  rw [enterHold_eq c ht hh, ← s.stopAll_fr.flt (by decide)]

theorem enterHold_boot : (enterHold c s).boot = { s.boot with frozen := some (s.boot.frozen.getD s.us) } := by
  rw [enterHold_eq c ht hh, ← s.stopAll_fr.boot (by decide)]

theorem enterHold_pins : (enterHold c s).pins = { s.pins with vid := some 0x10 } := by
  rw [enterHold_eq c ht hh, ← s.stopAll_fr.pins (by decide)]

omit hh in
theorem enterHold_mode : (enterHold c s).mode = .hold := by
  by_cases hh : s.mode = .hold
  · rw [enterHold_of_hold c hh, hh]
  · exact congrArg State.mode (enterHold_eq c ht hh)

end hold

/-- Outside TRIP the entry to HOLD leaves the sources and the latch. -/
@[simp] theorem enterHold_latches (c : Nat) (s : State) : (enterHold c s).latches = s.latches := by
  by_cases ht : s.mode = .trip
  · rw [enterHold_of_trip c ht]
  by_cases hh : s.mode = .hold
  · rw [enterHold_of_hold c hh]
  rw [State.latches, enterHold_flt c ht hh, State.latches]

end Sys2Proof.Machine
end

section
/-! SUPPORT. Events and raises of the fault collector, by what they end in (R414 to R419, R424): `Held` where the grave latch is set and HOLD entered; the frame of the collector and its reactions where the source is mild; no other source changes in either case. -/

namespace Sys2Proof.Machine

variable {s t u : State}

/-! ## Held: the latch set and HOLD entered (R424) -/

/-- The way from `s`, which is neither in HOLD nor in TRIP, ends in HOLD with the grave latch set; `c` is the cause outside BOOT. -/
structure Held (c : Nat) (s t : State) : Prop where
  mode : t.mode = .hold
  grave : t.grave = true
  holdCause : t.holdCause = if s.holdCause = 0 then BitVec.ofNat 8 (if s.mode = .boot then 1 else c) else s.holdCause
  mem : t.mem = []
  pins : t.pins = { s.pins with vid := some 0x10 }
  now : t.now = s.now

/-- The first cause stays; a new one is 0x01 in BOOT and `c` elsewhere. -/
theorem Held.cause_of_none {c : Nat} (h : Held c s t) (h0 : s.holdCause = 0) :
    t.holdCause = BitVec.ofNat 8 (if s.mode = .boot then 1 else c) :=
  h.holdCause.trans (if_pos h0)

/-- The cause is 0x01 in every mode where `c` is 1. -/
theorem Held.cause_one (h : Held 1 s t) (h0 : s.holdCause = 0) : t.holdCause = 1 := by
  rw [h.cause_of_none h0, ite_self]
  rfl

/-- What the collector and its reactions do on the way before. -/
theorem Held.after {c : Nat} (h0 : Fr 4605440 s u) (h : Held c u t) : Held c s t := by
  obtain ⟨hmode, hgrave, hcause, hmem, hpins, hnow⟩ := h
  rw [h0.holdCause (by decide), h0.mode (by decide)] at hcause
  exact ⟨hmode, hgrave, hcause, hmem, by rw [hpins, h0.pins (by decide)], by rw [hnow, h0.now (by decide)]⟩

/-- What leaves the mode, the cause, the latch, the memory, the pins and the time as they are after HOLD. -/
theorem Held.then {c : Nat} (h : Held c s t) (h1 : Fr 4605440 t u) (hgrave : u.grave = t.grave) : Held c s u :=
  ⟨(h1.mode (by decide)).trans h.mode, hgrave.trans h.grave, (h1.holdCause (by decide)).trans h.holdCause,
    (h1.mem (by decide)).trans h.mem, (h1.pins (by decide)).trans h.pins, (h1.now (by decide)).trans h.now⟩

theorem Held.of_enterHold {c : Nat} (ht : s.mode ≠ .trip) (hh : s.mode ≠ .hold) (hgrave : s.grave = true) :
    Held c s (enterHold (if s.mode = .boot then 1 else c) s) where
  mode := enterHold_mode _ ht
  grave := (State.grave_eq_of_latches (enterHold_latches _ s)).trans hgrave
  holdCause := enterHold_holdCause _ ht hh
  mem := enterHold_mem _ ht hh
  pins := enterHold_pins _ ht hh
  now := (enterHold_fr _ s).now (by decide)

/-! ## The grave latch -/

/-- The state with the latch set and its notices sent, before HOLD. -/
theorem setGrave_eq (src : Nat) (forced : Bool) (cause : Nat) (s : State) :
    ∃ u, Fr 4605440 s u ∧ u.grave = true ∧ u.flt.sources = s.flt.sources ∧
      setGrave src forced cause s = enterHold (if s.mode = .boot then 1 else cause) u := by
  unfold setGrave
  extract_lets flt latched alerted time noticed
  have hlatched : Fr 1024 s latched ∧ latched.grave = true ∧ latched.flt.sources = s.flt.sources := by
    unfold latched
    by_cases h : s.grave = true
    · rw [if_pos h]
      exact ⟨Fr.refl .., h, rfl⟩
    · rw [if_neg h]
      exact ⟨Fr.u1024 (Fr.refl ..) (by decide), rfl, rfl⟩
  obtain ⟨hfr, hgrave, hsources⟩ := hlatched
  have halert : alerted.latches = latched.latches := setAlert_latches 2 latched
  have hports : Fr 4194304 alerted noticed := Fr.forN (fun _ _ => Fr.iteT (State.updPort_fr ..) (Fr.refl ..)) 16 (Fr.refl ..)
  have hnotice : noticed.latches = latched.latches := (hports.latches (by decide)).trans halert
  have hall : Fr 4605440 s noticed := Fr.step hports (by decide) (Fr.step (setAlert_fr 2 latched) (by decide) (hfr.mono (by decide)))
  refine ⟨noticed, hall, (State.grave_eq_of_latches hnotice).trans hgrave, (State.sources_of_latches hnotice).trans hsources, ?_⟩
  rw [hall.mode (by decide)]

/-- The latch set where the stack runs. -/
theorem setGrave_held (src : Nat) (forced : Bool) (cause : Nat) (ht : s.mode ≠ .trip) (hh : s.mode ≠ .hold) :
    Held cause s (setGrave src forced cause s) := by
  obtain ⟨u, hfr, hgrave, -, heq⟩ := setGrave_eq src forced cause s
  have hmode : u.mode = s.mode := hfr.mode (by decide)
  rw [heq, ← hmode]
  exact (Held.of_enterHold (hmode ▸ ht) (hmode ▸ hh) hgrave).after hfr

theorem setGrave_sources (src : Nat) (forced : Bool) (cause : Nat) (s : State) :
    (setGrave src forced cause s).flt.sources = s.flt.sources := by
  obtain ⟨u, -, -, hsources, heq⟩ := setGrave_eq src forced cause s
  rw [heq]
  exact (State.sources_of_latches (enterHold_latches _ u)).trans hsources

/-- Setting the latch again in HOLD changes nothing that `Held` names. -/
theorem Held.setGrave {c : Nat} (h : Held c s t) (src : Nat) (forced : Bool) (cause : Nat) :
    Held c s (setGrave src forced cause t) := by
  obtain ⟨u, hfr, hgrave, -, heq⟩ := setGrave_eq src forced cause t
  rw [heq, enterHold_of_hold _ ((hfr.mode (by decide)).trans h.mode)]
  exact h.then hfr (hgrave.trans h.grave.symm)

/-- The record of `latchGrave`. -/
theorem latchGrave_eq (src : Nat) (d : EventDetail) (forced : Bool) (cause : Nat) (s : State) :
    ∃ u, Fr 4605440 s u ∧ u.latches = s.latches ∧ latchGrave src d forced cause s = setGrave src forced cause u := by
  unfold latchGrave
  split
  · exact ⟨s, Fr.refl .., rfl, rfl⟩
  · exact ⟨_, (logRecord_fr ..).mono (by decide), logRecord_latches .., rfl⟩

theorem latchGrave_held (src : Nat) (d : EventDetail) (forced : Bool) (cause : Nat) (ht : s.mode ≠ .trip) (hh : s.mode ≠ .hold) :
    Held cause s (latchGrave src d forced cause s) := by
  obtain ⟨u, hfr, -, heq⟩ := latchGrave_eq src d forced cause s
  have hmode : u.mode = s.mode := hfr.mode (by decide)
  rw [heq]
  exact (setGrave_held src forced cause (hmode ▸ ht) (hmode ▸ hh)).after hfr

theorem latchGrave_sources (src : Nat) (d : EventDetail) (forced : Bool) (cause : Nat) (s : State) :
    (latchGrave src d forced cause s).flt.sources = s.flt.sources := by
  obtain ⟨u, -, hlatches, heq⟩ := latchGrave_eq src d forced cause s
  rw [heq, setGrave_sources]
  exact State.sources_of_latches hlatches

theorem Held.latchGrave {c : Nat} (h : Held c s t) (src : Nat) (d : EventDetail) (forced : Bool) (cause : Nat) :
    Held c s (latchGrave src d forced cause t) := by
  obtain ⟨u, hfr, hlatches, heq⟩ := latchGrave_eq src d forced cause t
  rw [heq]
  exact (h.then hfr (State.grave_eq_of_latches hlatches)).setGrave ..

/-! ## Escalations and raises, by what they end in -/

/-- Within the collector and what its reactions reach, or in HOLD with cause `c`. -/
def Stays (c : Nat) (s t : State) : Prop := Fr 4605440 s t ∨ Held c s t

theorem Stays.after {c : Nat} (h0 : Fr 4605440 s u) (h : Stays c u t) : Stays c s t :=
  h.elim (fun h => .inl (h0.trans h)) (fun h => .inr (h.after h0))

/-- The HOLD reaction holds, or leaves all as it is. -/
theorem holdReaction_cases (src : Nat) (d : EventDetail) (forced : Bool) (ht : s.mode ≠ .trip) (hh : s.mode ≠ .hold) :
    holdReaction src d forced s = s ∨
      ((s.srcReact src).testBit 8 = true ∧ s.srcClass src ≠ 4 ∧ Held (graveCause src) s (holdReaction src d forced s)) := by
  unfold holdReaction
  split
  · next h =>
    refine .inr ⟨h.1, h.2, ?_⟩
    extract_lets raised
    have hfr : Fr 4605440 s (logRecord src 4 forced true 1 (detailOf src d) raised) :=
      Fr.step (logRecord_fr ..) (by decide) ((State.updSrc_fr ..).mono (by decide))
    have hmode := hfr.mode (by decide)
    exact (setGrave_held src forced _ (hmode ▸ ht) (hmode ▸ hh)).after hfr
  · exact .inl rfl

theorem State.updSrc_srcReact (s : State) (n : Nat) {f : Source → Source} (hf : ∀ x, (f x).react = x.react) :
    (s.updSrc n f).srcReact n = s.srcReact n := by
  simp [State.srcReact, hf]

/-- An escalation of a source at GRAVE holds. -/
theorem escalate_held {src : Nat} (d : EventDetail) (forced : Bool) (ht : s.mode ≠ .trip) (hh : s.mode ≠ .hold)
    (hc : s.srcClass src = 4) : Held (graveCause src) s (escalate src d forced s) := by
  unfold escalate
  extract_lets c raised reacted
  have hfr : Fr 4605440 s reacted := Fr.step (reactions_fr ..) (by decide) ((State.updSrc_fr ..).mono (by decide))
  have hmode := hfr.mode (by decide)
  rw [if_pos hc]
  exact (setGrave_held src forced _ (hmode ▸ ht) (hmode ▸ hh)).after hfr

/-- Any other escalation takes its reactions; HOLD follows where the source has that reaction. -/
theorem escalate_cases {src : Nat} (d : EventDetail) (forced : Bool) (ht : s.mode ≠ .trip) (hh : s.mode ≠ .hold)
    (hc : s.srcClass src ≠ 4) : Fr 4605440 s (escalate src d forced s) ∨
      ((s.srcReact src).testBit 8 = true ∧ Held (graveCause src) s (escalate src d forced s)) := by
  unfold escalate
  extract_lets c raised reacted
  have hfr : Fr 4605440 s reacted := Fr.step (reactions_fr ..) (by decide) ((State.updSrc_fr ..).mono (by decide))
  have hmode := hfr.mode (by decide)
  have hreact : reacted.srcReact src = s.srcReact src :=
    (srcReact_congr (State.src_eq_of_latches (reactions_latches ..) src)).trans (State.updSrc_srcReact s src (fun _ => rfl))
  rw [if_neg hc]
  rcases holdReaction_cases src d forced (hmode ▸ ht) (hmode ▸ hh) with heq | ⟨hbit, -, hheld⟩
  · exact .inl (heq.symm ▸ hfr)
  · exact .inr ⟨hreact ▸ hbit, hheld.after hfr⟩

/-- The source keeps its REACT, and its class where that is fixed or above 2. -/
theorem holdReaction_src_ne {src n : Nat} (hn : n ≠ src) (d : EventDetail) (forced : Bool) (s : State) :
    (holdReaction src d forced s).src n = s.src n := by
  unfold holdReaction
  split
  · extract_lets raised
    rw [src_congr (setGrave_sources ..), State.src_eq_of_latches (logRecord_latches ..), State.updSrc_src, if_neg hn]
  · rfl

theorem escalate_src_ne {src n : Nat} (hn : n ≠ src) (d : EventDetail) (forced : Bool) (s : State) :
    (escalate src d forced s).src n = s.src n := by
  unfold escalate
  extract_lets c raised reacted
  have hreacted : reacted.src n = s.src n := by
    rw [State.src_eq_of_latches (reactions_latches ..), State.updSrc_src, if_neg hn]
  split
  · rw [src_congr (setGrave_sources ..), hreacted]
  · rw [holdReaction_src_ne hn, hreacted]

/-! ## One event -/

/-- An event of a source that neither stands at GRAVE nor asks for HOLD. -/
def State.mild (n : Nat) (s : State) : Prop := (s.srcReact n).testBit 8 = false ∧ s.srcClass n ≠ 4

/-- The source after the count of an event (R414, R415). -/
def Source.counted (x : Source) (forced : Bool) (t : Nat) : Source :=
  { (x.count1 t).1 with
    total := satInc (x.count1 t).1.total, pending := true, forced := (x.count1 t).1.forced || forced, last := some t }

theorem Source.count1_react (x : Source) (t : Nat) : (x.count1 t).1.react = x.react := by
  unfold Source.count1
  extract_lets
  split <;> rfl

theorem Source.count1_cls (x : Source) (t : Nat) : (x.count1 t).1.cls = x.cls := by
  unfold Source.count1
  extract_lets
  split <;> rfl

@[simp] theorem Source.counted_react (x : Source) (forced : Bool) (t : Nat) : (x.counted forced t).react = x.react :=
  x.count1_react t

@[simp] theorem Source.counted_total (x : Source) (forced : Bool) (t : Nat) : (x.counted forced t).total = satInc x.total :=
  congrArg satInc (x.count1_total t)

@[simp] theorem Source.counted_cls (x : Source) (forced : Bool) (t : Nat) : (x.counted forced t).cls = x.cls :=
  x.count1_cls t

/-- The tick of an event: a forced one is of the next tick (R425). -/
def State.eventTime (s : State) (forced : Bool) : Nat := if forced then s.now + 1 else s.now

/-- The state after the count of an event, with the alert of the sources of a self-check. -/
def State.counted (n : Nat) (forced : Bool) (s : State) : State :=
  let s := s.updSrc n (·.counted forced (s.eventTime forced))
  if n = 0 ∨ n = 9 then setAlert 16 s else s

theorem State.counted_fr (n : Nat) (forced : Bool) (s : State) : Fr 132096 s (s.counted n forced) :=
  Fr.iteT (setAlert_fr ..) ((State.updSrc_fr ..).mono (by decide))

theorem State.counted_src (n m : Nat) (forced : Bool) (s : State) : (s.counted n forced).src m =
    if m = n then (s.src n).counted forced (s.eventTime forced) else s.src m := by
  unfold State.counted
  extract_lets counted
  split
  · rw [State.src_eq_of_latches (setAlert_latches ..)]
    exact State.updSrc_src ..
  · exact State.updSrc_src ..

theorem State.counted_srcReact (n : Nat) (forced : Bool) (s : State) : (s.counted n forced).srcReact n = s.srcReact n := by
  simp [State.srcReact, State.counted_src]

theorem State.counted_srcClass (n : Nat) (forced : Bool) (s : State) : (s.counted n forced).srcClass n = s.srcClass n := by
  rw [State.srcClass, (s.counted_fr n forced).srcAbsent (by decide), s.counted_src, if_pos rfl, Source.counted_cls, State.srcClass]

/-- An event registered: of no source, a further one of its tick, or one that counts. -/
theorem registerEvent_eq (n : Nat) (d : EventDetail) (forced : Bool) (s : State) :
    registerEvent n d forced s =
      if s.counts n = false then (s, false)
      else if (s.src n).last = some (s.eventTime forced) then (s.updSrc n (fun x => { x with total := satInc x.total }), false)
      else if ((s.src n).count1 (s.eventTime forced)).2 = true then (escalate n d forced (s.counted n forced), true)
      else if forced = true ∧ (s.counted n forced).srcClass n = 4 then
        (latchGrave n d true (graveCause n) (s.counted n forced), false)
      else (s.counted n forced, false) := by
  simp only [registerEvent, Bool.not_eq_true']
  rfl

/-- What holds after every way of registering an event holds after it. -/
theorem registerEvent_cases {P : State → Prop} (n : Nat) (d : EventDetail) (forced : Bool) (s : State)
    (absent : s.counts n = false → P s)
    (again : s.counts n = true → P (s.updSrc n (fun x => { x with total := satInc x.total })))
    (escalates : s.counts n = true → ((s.src n).count1 (s.eventTime forced)).2 = true → P (escalate n d forced (s.counted n forced)))
    (latches : forced = true → P (latchGrave n d true (graveCause n) (s.counted n forced)))
    (counts : s.counts n = true → P (s.counted n forced)) : P (registerEvent n d forced s).1 := by
  rw [registerEvent_eq]
  by_cases h0 : s.counts n = false
  · rw [if_pos h0]
    exact absent h0
  rw [if_neg h0]
  replace h0 := Bool.eq_true_of_not_eq_false h0
  by_cases h1 : (s.src n).last = some (s.eventTime forced)
  · rw [if_pos h1]
    exact again h0
  rw [if_neg h1]
  by_cases h2 : ((s.src n).count1 (s.eventTime forced)).2 = true
  · rw [if_pos h2]
    dsimp only
    exact escalates h0 h2
  rw [if_neg h2]
  by_cases h3 : forced = true ∧ (s.counted n forced).srcClass n = 4
  · rw [if_pos h3]
    dsimp only
    exact latches h3.1
  · rw [if_neg h3]
    dsimp only
    exact counts h0

end Sys2Proof.Machine
end

section
/-! SUPPORT. Detected faults and raises of sources that take over no glove (R414 to R421): mild ones leave the mode, a raise of GRAVE holds, and no other source changes; the calm of all sources is kept. -/

namespace Sys2Proof.Machine

variable {s t u : State} {n : Nat}

theorem State.updSrc_otherFr (s : State) (n : Nat) (f : Source → Source) : Fr 4605440 s (s.updSrc n f) :=
  (State.updSrc_fr ..).mono (by decide)

theorem State.counted_otherFr (n : Nat) (forced : Bool) (s : State) : Fr 4605440 s (s.counted n forced) :=
  (State.counted_fr ..).mono (by decide)

/-! ## One event registered -/

/-- An event that is not forced leaves the mode where its source is mild. -/
theorem registerEvent_mild (d : EventDetail) (ht : s.mode ≠ .trip) (hh : s.mode ≠ .hold) (hm : s.mild n) :
    Fr 4605440 s (registerEvent n d false s).1 := by
  have hcounted := s.counted_otherFr n false
  have hmode := hcounted.mode (by decide)
  have hclass : (s.counted n false).srcClass n ≠ 4 := (s.counted_srcClass n false).symm ▸ hm.2
  refine registerEvent_cases n d false s (fun _ => Fr.refl ..) (fun _ => s.updSrc_otherFr ..) (fun _ _ => ?_)
    (fun h => absurd h Bool.false_ne_true) (fun _ => hcounted)
  rcases escalate_cases d false (hmode ▸ ht) (hmode ▸ hh) hclass with hfr | ⟨hbit, -⟩
  · exact hcounted.trans hfr
  · rw [State.counted_srcReact, hm.1] at hbit
    exact absurd hbit Bool.false_ne_true

/-- Whatever the source, an event stays or holds with the cause of a grave fault. -/
theorem registerEvent_stays (d : EventDetail) (forced : Bool) (ht : s.mode ≠ .trip) (hh : s.mode ≠ .hold) :
    Stays (graveCause n) s (registerEvent n d forced s).1 := by
  have hcounted := s.counted_otherFr n forced
  have hmode := hcounted.mode (by decide)
  refine registerEvent_cases n d forced s (fun _ => .inl (Fr.refl ..)) (fun _ => .inl (s.updSrc_otherFr ..))
    (fun _ _ => Stays.after hcounted ?_) (fun _ => Stays.after hcounted ?_) (fun _ => .inl hcounted)
  · by_cases hc : (s.counted n forced).srcClass n = 4
    · exact .inr (escalate_held d forced (hmode ▸ ht) (hmode ▸ hh) hc)
    · exact (escalate_cases d forced (hmode ▸ ht) (hmode ▸ hh) hc).imp_right And.right
  · exact .inr (latchGrave_held n d true (graveCause n) (hmode ▸ ht) (hmode ▸ hh))

theorem registerEvent_src_ne {m : Nat} (hn : m ≠ n) (d : EventDetail) (forced : Bool) (s : State) :
    (registerEvent n d forced s).1.src m = s.src m := by
  have hcounted : (s.counted n forced).src m = s.src m := by rw [State.counted_src, if_neg hn]
  refine registerEvent_cases (P := fun t => t.src m = s.src m) n d forced s (fun _ => rfl) (fun _ => ?_)
    (fun _ _ => ?_) (fun _ => ?_) (fun _ => hcounted)
  · rw [State.updSrc_src, if_neg hn]
  · rw [escalate_src_ne hn, hcounted]
  · rw [src_congr (latchGrave_sources ..), hcounted]

/-! ## Sources of no glove -/

/-- The source belongs to no channel: an event of it takes over no glove. -/
def noGlove (n : Nat) : Prop := ¬ (80 ≤ n ∧ n < 176)

theorem gloveReaction_of_noGlove (hn : noGlove n) (s : State) : gloveReaction n s = s :=
  if_neg fun h => hn h.2

theorem perEvent_fr_of_noGlove (hn : noGlove n) (d : EventDetail) (s : State) : Fr 262656 s (perEvent n d s) := by
  unfold perEvent
  split
  · exact (supRestart_fr s).mono (by decide)
  · rw [if_neg hn]
    split
    · exact layerEntry_fr ..
    · exact Fr.refl ..

theorem perEvent_latches_of_noGlove (hn : noGlove n) (d : EventDetail) (s : State) : (perEvent n d s).latches = s.latches :=
  (perEvent_fr_of_noGlove hn d s).latches (by decide)

/-- With the collector off, an event is held and the mode stays (R431). -/
theorem fault_fr_of_off (d : EventDetail) (h : s.collectorOff = true) : Fr 1024 s (fault n d s) := by
  unfold fault
  rw [if_pos h]
  split
  · split
    · exact Fr.u1024 (Fr.refl ..) (by decide)
    · exact Fr.u1024 (Fr.refl ..) (by decide)
  · exact Fr.refl ..

theorem fault_src_of_off (d : EventDetail) (h : s.collectorOff = true) (m : Nat) : (fault n d s).src m = s.src m := by
  unfold fault
  rw [if_pos h]
  split
  · split <;> rfl
  · rfl

/-- With the collector on, the event is registered and takes the per-event action of its source. -/
theorem fault_eq_of_noGlove (hn : noGlove n) (d : EventDetail) (h : s.collectorOff = false) :
    fault n d s = if (registerEvent n d false s).1.counts n then perEvent n d (registerEvent n d false s).1
      else (registerEvent n d false s).1 := by
  unfold fault
  rw [if_neg (by rw [h]; exact Bool.false_ne_true)]
  simp only [gloveReaction_of_noGlove hn, ite_self]

theorem fault_src_ne (hn : noGlove n) {m : Nat} (hm : m ≠ n) (d : EventDetail) (s : State) : (fault n d s).src m = s.src m := by
  cases hoff : s.collectorOff with
  | true => exact fault_src_of_off d hoff m
  | false =>
    rw [fault_eq_of_noGlove hn d hoff]
    split
    · rw [State.src_eq_of_latches (perEvent_latches_of_noGlove hn ..), registerEvent_src_ne hm]
    · exact registerEvent_src_ne hm ..

/-- A mild fault leaves the mode. -/
theorem fault_mild (hn : noGlove n) (d : EventDetail) (ht : s.mode ≠ .trip) (hh : s.mode ≠ .hold) (hm : s.mild n) :
    Fr 4605440 s (fault n d s) := by
  cases hoff : s.collectorOff with
  | true => exact (fault_fr_of_off d hoff).mono (by decide)
  | false =>
    have hreg := registerEvent_mild d ht hh hm
    rw [fault_eq_of_noGlove hn d hoff]
    exact Fr.iteT ((perEvent_fr_of_noGlove hn d _).mono (by decide)) hreg

/-- Any fault stays or holds. -/
theorem fault_stays (hn : noGlove n) (d : EventDetail) (ht : s.mode ≠ .trip) (hh : s.mode ≠ .hold) :
    Stays (graveCause n) s (fault n d s) := by
  cases hoff : s.collectorOff with
  | true => exact .inl ((fault_fr_of_off d hoff).mono (by decide))
  | false =>
    rw [fault_eq_of_noGlove hn d hoff]
    split
    · have hper := perEvent_fr_of_noGlove hn d (registerEvent n d false s).1
      have hgrave := State.grave_eq_of_latches (perEvent_latches_of_noGlove hn d (registerEvent n d false s).1)
      exact (registerEvent_stays d false ht hh).imp (·.trans (hper.mono (by decide))) (·.then (hper.mono (by decide)) hgrave)
    · exact registerEvent_stays d false ht hh

/-! ## Raises (R416) -/

theorem raiseOnly_src_ne {m : Nat} (hm : m ≠ n) (c : Nat) (d : EventDetail) (cause : Nat) (s : State) :
    (raiseOnly n c d cause s).src m = s.src m := by
  unfold raiseOnly
  extract_lets old raised reacted
  have hreacted : reacted.src m = s.src m := by
    rw [State.src_eq_of_latches (reactions_latches ..), State.updSrc_src, if_neg hm]
  split_ifs
  · exact src_congr (latchGrave_sources ..) m
  · rfl
  · rw [src_congr (setGrave_sources ..), hreacted]
  · rw [holdReaction_src_ne hm, hreacted]

/-- The event of a raise registered, which is not counted in the source's window. -/
def State.registered (n : Nat) (s : State) : State :=
  s.updSrc n (fun x => { x with total := satInc x.total, pending := true, last := some s.now })

theorem State.registered_otherFr (n : Nat) (s : State) : Fr 4605440 s (s.registered n) := s.updSrc_otherFr ..

theorem State.registered_srcReact (n : Nat) (s : State) : (s.registered n).srcReact n = s.srcReact n :=
  State.updSrc_srcReact s n (fun _ => rfl)

theorem State.registered_srcClass (n : Nat) (s : State) : (s.registered n).srcClass n = s.srcClass n := by
  rw [State.srcClass, (s.registered_otherFr n).srcAbsent (by decide), State.registered, State.updSrc_src, if_pos rfl, State.srcClass]

/-- A raise of GRAVE on a source below it holds. -/
theorem raiseOnly_grave {d : EventDetail} {cause : Nat} (ht : s.mode ≠ .trip) (hh : s.mode ≠ .hold) (hc : s.srcClass n < 4) :
    Held cause s (raiseOnly n 4 d cause s) := by
  unfold raiseOnly
  extract_lets old raised reacted
  have hfr : Fr 4605440 s reacted := Fr.step (reactions_fr ..) (by decide) (s.updSrc_otherFr ..)
  have hmode := hfr.mode (by decide)
  rw [if_neg (Nat.not_le_of_lt hc), if_pos rfl]
  exact (setGrave_held n false cause (hmode ▸ ht) (hmode ▸ hh)).after hfr

/-- A raise below GRAVE leaves the mode where the source has no HOLD reaction. -/
theorem raiseOnly_mild {c : Nat} (d : EventDetail) (cause : Nat) (ht : s.mode ≠ .trip) (hh : s.mode ≠ .hold) (hc : c ≠ 4)
    (hreact : (s.srcReact n).testBit 8 = false) : Fr 4605440 s (raiseOnly n c d cause s) := by
  unfold raiseOnly
  extract_lets old raised reacted
  have hfr : Fr 4605440 s reacted := Fr.step (reactions_fr ..) (by decide) (s.updSrc_otherFr ..)
  have hmode := hfr.mode (by decide)
  have hbit : reacted.srcReact n = s.srcReact n :=
    (srcReact_congr (State.src_eq_of_latches (reactions_latches ..) n)).trans (State.updSrc_srcReact s n (fun _ => rfl))
  simp only [if_neg hc]
  split
  · exact Fr.refl ..
  · rcases holdReaction_cases n d false (hmode ▸ ht) (hmode ▸ hh) with heq | ⟨h8, -⟩
    · exact heq.symm ▸ hfr
    · exact absurd (hreact.symm.trans (hbit ▸ h8)) Bool.false_ne_true

theorem raiseFault_src_ne (hn : noGlove n) {m : Nat} (hm : m ≠ n) (c : Nat) (d : EventDetail) (cause : Nat) (s : State) :
    (raiseFault n c d cause s).src m = s.src m := by
  unfold raiseFault
  simp only [gloveReaction_of_noGlove hn]
  split_ifs
  · rfl
  · rw [State.src_eq_of_latches (perEvent_latches_of_noGlove hn ..), raiseOnly_src_ne hm, State.updSrc_src, if_neg hm]
  · rw [src_congr (latchGrave_sources ..), fault_src_ne hn hm]
  · exact fault_src_ne hn hm ..

/-- A raise of GRAVE by a rule holds, with the rule's cause where that is the source's own. -/
theorem raiseFault_grave (hn : noGlove n) (d : EventDetail) (ht : s.mode ≠ .trip) (hh : s.mode ≠ .hold) (hcounts : s.counts n = true) :
    Held (graveCause n) s (raiseFault n 4 d (graveCause n) s) := by
  unfold raiseFault
  simp only [gloveReaction_of_noGlove hn, hcounts, Bool.not_true, Bool.false_eq_true, if_false, if_true]
  split
  · next hc =>
    have hheld : Held (graveCause n) s (raiseOnly n 4 d (graveCause n) (s.registered n)) :=
      (raiseOnly_grave (s := s.registered n) ht hh (by rwa [s.registered_srcClass n])).after (s.registered_otherFr n)
    exact hheld.then ((perEvent_fr_of_noGlove hn ..).mono (by decide))
      (State.grave_eq_of_latches (perEvent_latches_of_noGlove hn ..))
  · rcases fault_stays (n := n) hn d ht hh with hfr | hheld
    · have hmode := hfr.mode (by decide)
      exact (latchGrave_held n d false _ (hmode ▸ ht) (hmode ▸ hh)).after hfr
    · exact hheld.latchGrave ..

/-- A raise below GRAVE of a mild source leaves the mode. -/
theorem raiseFault_mild {c : Nat} (hn : noGlove n) (d : EventDetail) (cause : Nat) (ht : s.mode ≠ .trip) (hh : s.mode ≠ .hold)
    (hc : c ≠ 4) (hm : s.mild n) : Fr 4605440 s (raiseFault n c d cause s) := by
  unfold raiseFault
  simp only [gloveReaction_of_noGlove hn, if_neg hc]
  split_ifs
  · exact Fr.refl ..
  · have hreact : ((s.registered n).srcReact n).testBit 8 = false := by rw [s.registered_srcReact, hm.1]
    exact ((s.registered_otherFr n).trans (raiseOnly_mild (s := s.registered n) d cause ht hh hc hreact)).trans
      ((perEvent_fr_of_noGlove hn ..).mono (by decide))
  · exact fault_mild hn d ht hh hm

end Sys2Proof.Machine
end

section
/-! SUPPORT. An event that escalates: what its source reads afterwards, and HOLD where the source stands at GRAVE (R415, R424); with it the obligation on what ends in HOLD with cause 0x01 (O5). -/

namespace Sys2Proof.Machine

variable {s t u : State} {n : Nat}

/-! ## The source of an escalation -/

theorem holdReaction_of_mild (d : EventDetail) (forced : Bool) (h : (s.srcReact n).testBit 8 = false) :
    holdReaction n d forced s = s :=
  if_neg fun hc => absurd (h.symm.trans hc.1) Bool.false_ne_true

/-- A source after its escalation: one class up where that is below FATAL and not fixed (R415). -/
def Source.afterEscalation (c : Nat) (fixed : Bool) (x : Source) : Source :=
  { x with cls := if c < 3 ∧ fixed = false then x.cls + 1 else x.cls, escalated := true, escalations := satInc x.escalations }

theorem escalate_src_self (d : EventDetail) (forced : Bool) (h : s.srcClass n = 4 ∨ (s.srcReact n).testBit 8 = false) :
    (escalate n d forced s).src n = (s.src n).afterEscalation (s.srcClass n) (fixedClass n).isSome := by
  unfold escalate
  extract_lets c raised reacted
  have hraised : reacted.src n = (s.src n).afterEscalation (s.srcClass n) (fixedClass n).isSome := by
    rw [State.src_eq_of_latches (reactions_latches ..), State.updSrc_src, if_pos rfl, Source.afterEscalation]
    simp only [c, Option.isSome_eq_false_iff, Option.isNone_iff_eq_none]
  have hreact : reacted.srcReact n = s.srcReact n :=
    (srcReact_congr (State.src_eq_of_latches (reactions_latches ..) n)).trans (State.updSrc_srcReact s n (fun _ => rfl))
  split
  · rw [src_congr (setGrave_sources ..), hraised]
  · next hc => rw [holdReaction_of_mild d forced (hreact ▸ h.resolve_left hc), hraised]

/-- The event of a tick in which the source escalates: the collector runs, the source counts, and the event is the Nth (R415). -/
structure State.escalates (n : Nat) (s : State) : Prop where
  on : s.collectorOff = false
  counts : s.counts n = true
  first : (s.src n).last ≠ some s.now
  nth : ((s.src n).count1 s.now).2 = true

theorem registerEvent_of_escalates (d : EventDetail) (h : s.escalates n) :
    registerEvent n d false s = (escalate n d false (s.counted n false), true) := by
  obtain ⟨-, hcounts, hfirst, hnth⟩ := h
  rw [registerEvent_eq, if_neg (by rw [hcounts]; decide), if_neg (show (s.src n).last ≠ some (s.eventTime false) from hfirst)]
  exact if_pos hnth

theorem State.escalates.fault_eq (h : s.escalates n) (hn : noGlove n) (d : EventDetail) :
    fault n d s = perEvent n d (escalate n d false (s.counted n false)) := by
  have hcounts : (escalate n d false (s.counted n false)).counts n = true := by
    rw [(escalate_fr ..).counts (by decide), (s.counted_fr n false).counts (by decide), h.counts]
  rw [fault_eq_of_noGlove hn d h.on, registerEvent_of_escalates d h]
  exact if_pos hcounts

/-- A source at GRAVE that escalates holds the stack. -/
theorem State.escalates.fault_held (h : s.escalates n) (hn : noGlove n) (d : EventDetail) (ht : s.mode ≠ .trip) (hh : s.mode ≠ .hold)
    (hc : s.srcClass n = 4) : Held (graveCause n) s (fault n d s) := by
  have hcounted := s.counted_otherFr n false
  have hmode := hcounted.mode (by decide)
  have hesc : Held (graveCause n) s (escalate n d false (s.counted n false)) :=
    (escalate_held d false (hmode ▸ ht) (hmode ▸ hh) ((s.counted_srcClass n false).trans hc)).after hcounted
  rw [h.fault_eq hn d]
  exact hesc.then ((perEvent_fr_of_noGlove hn ..).mono (by decide)) (State.grave_eq_of_latches (perEvent_latches_of_noGlove hn ..))

theorem State.escalates.fault_src (h : s.escalates n) (hn : noGlove n) (d : EventDetail)
    (hc : s.srcClass n = 4 ∨ (s.srcReact n).testBit 8 = false) :
    (fault n d s).src n = ((s.src n).counted false s.now).afterEscalation (s.srcClass n) (fixedClass n).isSome := by
  have hc' : (s.counted n false).srcClass n = 4 ∨ ((s.counted n false).srcReact n).testBit 8 = false := by
    rwa [State.counted_srcClass, State.counted_srcReact]
  rw [h.fault_eq hn d, State.src_eq_of_latches (perEvent_latches_of_noGlove hn ..), escalate_src_self d false hc',
    State.counted_srcClass, State.counted_src, if_pos rfl]
  rfl

/-! ## Grave faults of the core supply, the clocks and the supervisor (R401, R407, R412) -/

/-- A source below the ports counts unless it is reserved: it belongs to no unit that may be absent. -/
theorem counts_of_lt (s : State) (hn : n < 16) (hr : reservedSource n = false) : s.counts n = true := by
  have h1 : ¬ 16 ≤ n := Nat.not_le_of_lt hn
  have h2 : ¬ 176 ≤ n := fun h => h1 (Nat.le_trans (by decide) h)
  simp [State.counts, State.srcAbsent, hr, h1, h2]

theorem noGlove_of_lt (hn : n < 80) : noGlove n := fun h => Nat.not_le_of_lt hn h.1

theorem exec_vcoreOkLow_of_running (hc : s.coreClocks = true) (hr : s.pwr.raising = false) (hl : s.pwr.lowering = false) :
    exec .vcoreOkLow s = .next (raiseFault 5 4 {} 1 { s with pins.vcoreOk := false, pwr.rung := min 3 s.pwr.rung }) := by
  have hc' : ({ s with pins.vcoreOk := false } : State).coreClocks = true := hc
  change execVcoreOkLow s = _
  simp only [execVcoreOkLow, hc', hr, hl, Bool.not_false, and_self, if_true]

theorem exec_vcoreOkLow_of_level (h : s.pwr.raising = true ∨ s.pwr.lowering = true ∨ s.coreClocks = false) :
    exec .vcoreOkLow s = .next { s with pins.vcoreOk := false } := by
  have hc' : ({ s with pins.vcoreOk := false } : State).coreClocks = s.coreClocks := rfl
  change execVcoreOkLow s = _
  rcases h with h | h | h <;> simp [execVcoreOkLow, hc', h]

theorem exec_vcoreRaiseTimeout_of_raising (h : s.pwr.raising = true) :
    exec .vcoreRaiseTimeout s =
      .next (raiseFault 5 4 {} 1 { s.atLeast (s.pwr.raiseAt + 50000) with pwr.rung := min 3 s.pwr.rung }) :=
  if_pos h

theorem exec_refclkWaitTimeout_of_waiting {w : WakeRun} (hw : s.pwr.wake = some w) (hr : s.pwr.refclk = false)
    (hp : s.pwr.corePll = false) :
    exec .refclkWaitTimeout s = .next (raiseFault 3 4 {} 1 { s.atLeast (s.pwr.raiseAt + 10000000) with pwr.rung := 3 }) := by
  change execRefclkWaitTimeout s = _
  simp [execRefclkWaitTimeout, hw, hr, hp]

theorem exec_supervisorRestartOverrun_of_restarting (h : s.sup.restarting = true) :
    exec .supervisorRestartOverrun s = .next (fault 2 {} (s.atLeast (s.sup.since + 2000000))) :=
  congrArg _ (if_pos h)

theorem State.mode_ne_trip_of_coreClocks (h : s.coreClocks = true) : s.mode ≠ .trip := by
  rintro ht
  simp [State.coreClocks, ht] at h

/-- The supervisor-restart source is at GRAVE always (R421). -/
theorem srcClass_two (s : State) : s.srcClass 2 = 4 := by
  simp [State.srcClass, State.srcAbsent, fixedClass]

/-- A count that stands at the N of its source escalates from a closed window. -/
theorem Source.count1_of_one {x : Source} {now : Nat} (hn : x.n = 1) (hw : x.windowOpen = false) :
    x.count1 now = ({ x with windowOpen := false, count := 0, start := now }, true) := by
  simp [Source.count1, hn, hw]

/-- Settles O5: a raise of GRAVE holds (`raiseFault_grave`), and so does an escalation at GRAVE (`State.escalates.fault_held`); the
sources 2, 3 and 5 have the cause 0x01 in every mode. -/
theorem lostCoreVoltageClockOrSupervisorIsGrave : Obligations.LostCoreVoltageClockOrSupervisorIsGrave := by
  refine ⟨fun s hc hh h0 hr hl => ?lost, fun s h => exec_vcoreOkLow_of_level h, fun s hr hh ht h0 => ?raise,
    fun s w hw hr hp hh ht h0 => ?wake, fun s hs hon hn hw hlast hh ht h0 => ?restart⟩
  case lost =>
    have hheld := raiseFault_grave (s := { s with pins.vcoreOk := false, pwr.rung := min 3 s.pwr.rung }) (n := 5)
      (noGlove_of_lt (by decide)) {} (State.mode_ne_trip_of_coreClocks (s := s) hc) hh (counts_of_lt _ (by decide) rfl)
    exact ⟨_, exec_vcoreOkLow_of_running hc hr hl, congrArg Pins.vcoreOk hheld.pins, hheld.grave, hheld.mode, hheld.cause_one h0,
      hheld.mem⟩
  case raise =>
    have hheld := raiseFault_grave (s := { s.atLeast (s.pwr.raiseAt + 50000) with pwr.rung := min 3 s.pwr.rung }) (n := 5)
      (noGlove_of_lt (by decide)) {} ht hh (counts_of_lt _ (by decide) rfl)
    exact ⟨_, exec_vcoreRaiseTimeout_of_raising hr, hheld.grave, hheld.mode, hheld.cause_one h0,
      hheld.now ▸ Nat.le_max_right ..⟩
  case wake =>
    have hheld := raiseFault_grave (s := { s.atLeast (s.pwr.raiseAt + 10000000) with pwr.rung := 3 }) (n := 3)
      (noGlove_of_lt (by decide)) {} ht hh (counts_of_lt _ (by decide) rfl)
    exact ⟨_, exec_refclkWaitTimeout_of_waiting hw hr hp, hheld.grave, hheld.mode, hheld.cause_one h0⟩
  case restart =>
    have hcount := Source.count1_of_one (now := max s.now (s.sup.since + 2000000)) hn hw
    have hesc : (s.atLeast (s.sup.since + 2000000)).escalates 2 :=
      ⟨hon, counts_of_lt _ (by decide) rfl, hlast, congrArg Prod.snd hcount⟩
    have hclass := srcClass_two (s.atLeast (s.sup.since + 2000000))
    have hheld := hesc.fault_held (noGlove_of_lt (by decide)) {} ht hh hclass
    refine ⟨_, exec_supervisorRestartOverrun_of_restarting hs, hheld.grave, hheld.mode, hheld.cause_one h0, ?_⟩
    rw [hesc.fault_src (noGlove_of_lt (by decide)) {} (.inl hclass), hclass]
    simp [Source.afterEscalation, Source.counted, hcount, hw]

end Sys2Proof.Machine
end

section
/-! SUPPORT. Sources that are calm, below GRAVE and without a HOLD reaction, stay calm under events and raises below GRAVE; the shadow load of BOOT step 4 (R82, R131 to R137) and its obligation (O6). -/

namespace Sys2Proof.Machine

variable {s t u : State} {n : Nat}

/-! ## Calm sources -/

/-- One source is calm: what `State.calm` says of it. -/
def State.calmAt (n : Nat) (s : State) : Prop :=
  (s.src n).react.getLsbD 8 = false ∧ (fixedClass n = none → (s.src n).cls.toNat ≤ 3)

theorem State.calm.at (h : s.calm) (n : Nat) : s.calmAt n := h n

theorem State.calmAt_congr (h : t.src n = s.src n) (hs : s.calmAt n) : t.calmAt n := by
  rwa [State.calmAt, h]

theorem fixedReact_testBit (n : Nat) : (fixedReact n).testBit 8 = false := by
  unfold fixedReact
  split <;> rfl

theorem State.calmAt.react (h : s.calmAt n) : (s.srcReact n).testBit 8 = false := by
  rw [State.srcReact, Nat.testBit_or, fixedReact_testBit, Bool.or_false]
  exact h.1

theorem srcClass_of_counts (hcounts : s.counts n = true) (hfix : fixedClass n = none) : s.srcClass n = (s.src n).cls.toNat := by
  have habsent : s.srcAbsent n = false := by
    rw [State.counts, Bool.and_eq_true, Bool.not_eq_true'] at hcounts
    exact (Bool.not_eq_true' _).mp hcounts.2
  rw [State.srcClass, habsent, hfix]
  rfl

/-- A calm source of no fixed class is mild. -/
theorem State.calmAt.mild (h : s.calmAt n) (hfix : fixedClass n = none) : s.mild n := by
  refine ⟨h.react, ?_⟩
  rw [State.srcClass, hfix]
  split
  · decide
  · intro hc
    have hle := h.2 hfix
    dsimp only at hc
    omega

theorem Source.afterEscalation_react (c : Nat) (fixed : Bool) (x : Source) : (x.afterEscalation c fixed).react = x.react := rfl

/-- An escalation leads to FATAL at most. -/
theorem Source.afterEscalation_cls_le {x : Source} (fixed : Bool) (h : x.cls.toNat ≤ 3) :
    (x.afterEscalation x.cls.toNat fixed).cls.toNat ≤ 3 := by
  unfold Source.afterEscalation
  dsimp only
  split
  · next hc =>
    rw [BitVec.toNat_add_of_lt (by simpa using Nat.lt_of_lt_of_le (Nat.succ_lt_succ hc.1) (by decide))]
    exact hc.1
  · exact h

theorem registerEvent_calmAt (hfix : fixedClass n = none) (d : EventDetail) (h : s.calmAt n) :
    (registerEvent n d false s).1.calmAt n := by
  have hcounted : (s.counted n false).calmAt n := by
    rw [State.calmAt, State.counted_src, if_pos rfl, Source.counted_react, Source.counted_cls]
    exact h
  refine registerEvent_cases n d false s (fun _ => h) (fun _ => ?_) (fun hcounts _ => ?_)
    (fun hf => absurd hf Bool.false_ne_true) (fun _ => hcounted)
  · rw [State.calmAt, State.updSrc_src, if_pos rfl]
    exact h
  · have hcounts' : (s.counted n false).counts n = true := ((s.counted_fr n false).counts (by decide) n).trans hcounts
    rw [State.calmAt, escalate_src_self d false (.inr hcounted.react), srcClass_of_counts hcounts' hfix]
    exact ⟨hcounted.1, fun _ => Source.afterEscalation_cls_le _ (hcounted.2 hfix)⟩

theorem fault_calmAt (hn : noGlove n) (hfix : fixedClass n = none) (d : EventDetail) (h : s.calmAt n) : (fault n d s).calmAt n := by
  cases hoff : s.collectorOff with
  | true => exact State.calmAt_congr (fault_src_of_off d hoff n) h
  | false =>
    have hreg := registerEvent_calmAt hfix d h
    rw [fault_eq_of_noGlove hn d hoff]
    split
    · exact State.calmAt_congr (State.src_eq_of_latches (perEvent_latches_of_noGlove hn ..) n) hreg
    · exact hreg

/-- Events of sources of no glove and no fixed class keep the calm of all. -/
theorem fault_calm (hn : noGlove n) (hfix : fixedClass n = none) (d : EventDetail) (h : s.calm) : (fault n d s).calm := by
  intro m
  show (fault n d s).calmAt m
  by_cases hm : m = n
  · subst hm
    exact fault_calmAt hn hfix d (h.at m)
  · exact State.calmAt_congr (fault_src_ne hn hm d s) (h.at m)

/-- Several events of one calm source leave the mode and the source calm. -/
theorem forL_fault_mild {α : Type} (hn : noGlove n) (hfix : fixedClass n = none) (d : α → EventDetail) (l : List α)
    (ht : s.mode ≠ .trip) (hh : s.mode ≠ .hold) (h : s.calmAt n) :
    Fr 4605440 s (forL l (fun x s => fault n (d x) s) s) ∧ (forL l (fun x s => fault n (d x) s) s).calmAt n := by
  induction l generalizing s with
  | nil => exact ⟨Fr.refl .., h⟩
  | cons x l ih =>
    have hfr := fault_mild hn (d x) ht hh (h.mild hfix)
    have hmode := hfr.mode (by decide)
    obtain ⟨hfr', hcalm⟩ := ih (s := fault n (d x) s) (hmode ▸ ht) (hmode ▸ hh) (fault_calmAt hn hfix (d x) h)
    exact ⟨hfr.trans hfr', hcalm⟩

/-! ## The shadow load -/

/-- The stack with the resolved shadows, before the events of what did not resolve. -/
def State.shadowsLoaded (r : OtpReadout) (s : State) : State :=
  { s with
    otp := loadOtp r s.otp
    boot.otpMarginal := satOf 8 (((loadOtp r s.otp).fails.filter (fun e => decide (e.2 = 1))).length)
    boot.otpRedirected := satOf 8 (((loadOtp r s.otp).fails.filter (fun e => decide (e.2 = 2))).length) }

theorem State.shadowsLoaded_fr (r : OtpReadout) (s : State) : Fr 8448 s (s.shadowsLoaded r) := Fr.u8448 (Fr.refl ..) (by decide)

theorem State.shadowsLoaded_step (r : OtpReadout) (s : State) : (s.shadowsLoaded r).boot.step = s.boot.step := by
  simp only [State.shadowsLoaded]

/-- The shadow load after its events: one of source 228 for each failure but a frame closed without commit. -/
def State.shadowsReported (r : OtpReadout) (s : State) : State :=
  forL ((loadOtp r s.otp).fails.filter (fun e => decide (e.2 ≠ 4))) (fun _ s => fault 228 {} s) (s.shadowsLoaded r)

section
variable {r : OtpReadout} (h4 : s.atStep 4 = true) (hrun : s.sup.running = true) (hmode : (s.shadowsReported r).mode = .boot)
include h4 hrun hmode

theorem exec_otpShadowLoad_of_ident {i : Identity} (hident : (loadOtp r s.otp).ident = some i) :
    exec (.otpShadowLoad r) s = .next { s.shadowsReported r with
      rep.rankMap := rankMapOf i, pwr.zqTx := i.zqTx, pwr.zqRx := i.zqRx, boot.step := 5 } := by
  change execOtpShadowLoad r s = _
  simp only [State.shadowsReported, State.shadowsLoaded] at hmode ⊢
  simp only [execOtpShadowLoad, h4, hrun, and_self, if_true, hmode, ne_eq, not_true_eq_false, if_false, hident]

theorem exec_otpShadowLoad_of_no_ident (hident : (loadOtp r s.otp).ident = none) :
    exec (.otpShadowLoad r) s = .next (enterHold 6 (s.shadowsReported r)) := by
  change execOtpShadowLoad r s = _
  simp only [State.shadowsReported, State.shadowsLoaded] at hmode ⊢
  simp only [execOtpShadowLoad, h4, hrun, and_self, if_true, hmode, ne_eq, not_true_eq_false, if_false, hident]

end

theorem exec_otpShadowLoad_of_off {r : OtpReadout} (h : (s.atStep 4 && s.sup.running) = false) :
    exec (.otpShadowLoad r) s = .next s := by
  refine if_neg fun hc => ?_
  rw [hc.1, hc.2] at h
  exact absurd h (by decide)

theorem State.mode_of_atStep {k : Nat} (h : s.atStep k = true) : s.mode = .boot := by
  simp only [State.atStep, Bool.and_eq_true, decide_eq_true_eq] at h
  exact h.1.1

theorem State.step_of_atStep {k : Nat} (h : s.atStep k = true) : s.boot.step = k := by
  simp only [State.atStep, Bool.and_eq_true, decide_eq_true_eq] at h
  exact h.1.2

/-- Settles O6: with no failure nothing is counted; without IDENT the failures, all of source 228, leave BOOT
(`forL_fault_mild`), and HOLD follows. -/
theorem shadowLoadResolvesOrHolds : Obligations.ShadowLoadResolvesOrHolds := by
  refine ⟨fun r i s h4 hrun hfails hident => ?taken, fun r s h4 hrun hident hreact hcls h0 => ?held,
    fun r s h => exec_otpShadowLoad_of_off h⟩
  case taken =>
    have hreported : s.shadowsReported r = s.shadowsLoaded r := by rw [State.shadowsReported, hfails]; rfl
    have hmode : (s.shadowsReported r).mode = .boot := by
      rw [hreported, (s.shadowsLoaded_fr r).mode (by decide), State.mode_of_atStep h4]
    rw [exec_otpShadowLoad_of_ident h4 hrun hmode hident, hreported, State.shadowsLoaded, hfails]
    rfl
  case held =>
    have hboot : (s.shadowsLoaded r).mode = .boot := ((s.shadowsLoaded_fr r).mode (by decide)).trans (State.mode_of_atStep h4)
    have hcalm : (s.shadowsLoaded r).calmAt 228 := State.calmAt_congr ((s.shadowsLoaded_fr r).src (by decide) 228) ⟨hreact, fun _ => hcls⟩
    have hfr : Fr 4605440 (s.shadowsLoaded r) (s.shadowsReported r) :=
      (forL_fault_mild (fun h => absurd h.2 (by decide)) rfl (fun _ => {}) _ (by rw [hboot]; decide) (by rw [hboot]; decide) hcalm).1
    have hmode : (s.shadowsReported r).mode = .boot := (hfr.mode (by decide)).trans hboot
    have ht : (s.shadowsReported r).mode ≠ .trip := by rw [hmode]; decide
    have hh : (s.shadowsReported r).mode ≠ .hold := by rw [hmode]; decide
    refine ⟨_, exec_otpShadowLoad_of_no_ident h4 hrun hmode hident, enterHold_mode 6 ht, ?_, ?_⟩
    · rw [enterHold_holdCause 6 ht hh, hfr.holdCause (by decide),
        (s.shadowsLoaded_fr r).holdCause (by decide), h0]
      rfl
    · rw [enterHold_boot 6 ht hh, hfr.boot (by decide)]
      dsimp only
      rw [s.shadowsLoaded_step r, State.step_of_atStep h4]

end Sys2Proof.Machine
end

section
/-! SUPPORT. Image selection and the journal scan: the cause codes that the headers give, which copy is taken, and what the newest
valid records set. -/

namespace Sys2Proof.Machine

open Host

variable {s t : State}

/-! ## Image selection -/

/-- The checks of a copy read nothing of the boot state but the sampled address and the shadows. -/
theorem copyCause_congr (v : List SigCheck) (s : State) (c : ImageCopy) (b : BootState) (f : Bool) :
    copyCause v { s with boot := b, pins.factoryEn := f } c = copyCause v s c := rfl

/-- Step 5 of a first examination begins: both causes as not examined, the FACTORY pin sampled. -/
def State.selecting (n : NvmRead) (s : State) : State :=
  { s with boot.causeA := 0xF, boot.causeB := 0xF, pins.factoryEn := n.factoryEn }

theorem headerCauses_first {a : ImageCopy} (ha : headerOk a = true) (s : State) :
    headerCauses [(false, some a), (true, none)] s = (setCause true 9 s, [(false, a)]) := by
  simp [headerCauses, ha]

theorem headerCauses_both {a b : ImageCopy} (ha : headerOk a = true) (hb : headerOk b = true) (s : State) :
    headerCauses [(false, some a), (true, some b)] s = (s, [(false, a), (true, b)]) := by
  simp [headerCauses, ha, hb]

theorem headerCauses_second {b : ImageCopy} (hb : headerOk b = true) (s : State) :
    headerCauses [(true, some b)] s = (s, [(true, b)]) := by
  simp [headerCauses, hb]

theorem headerCauses_none (s : State) :
    headerCauses [(false, none), (true, none)] s = (setCause true 9 (setCause false 9 s), []) := rfl

theorem examineCopies_of_valid {v : List SigCheck} {c : ImageCopy} (h : copyCause v s c = 0) (b : Bool) (l : List (Bool × ImageCopy)) :
    examineCopies v ((b, c) :: l) s = (setCause b 0 s, some (b, c)) := by
  simp [examineCopies, h]


/-- Step 5 with the copy that its examination found: the copy loaded, or HOLD. -/
def takeCopy (n : NvmRead) (again same : Bool) (e : State × Option (Bool × ImageCopy)) : Outcome State Fault Refusal :=
  if e.1.mode ≠ .boot then .next e.1
  else match e.2 with
    | none => .next (enterHold 2 e.1)
    | some (b, c) =>
      let s := if same ∧ !b then setCause true 1 e.1 else e.1
      let s := { loadImage c s with boot.imageSel := if b then 2 else 1, boot.step5 := true }
      if again then .next { s with boot.step := 8 }
      else
        let ok := n.factoryEn && tokenValid n.verified c s
        let s := { s with boot.factoryReq := n.factoryEn, boot.tokenOk := ok, boot.step := 6 }
        .next (if n.factoryEn ∧ !ok then fault 231 {} s else s)

/-- The end of step 5 with copy c loaded. -/
def endTaking (n : NvmRead) (again b : Bool) (c : ImageCopy) (s : State) : Outcome State Fault Refusal :=
  let s := { s with boot.imageSel := if b then 2 else 1, boot.step5 := true }
  if again then .next { s with boot.step := 8 }
  else
    let ok := n.factoryEn && tokenValid n.verified c s
    let s := { s with boot.factoryReq := n.factoryEn, boot.tokenOk := ok, boot.step := 6 }
    .next (if n.factoryEn ∧ !ok then fault 231 {} s else s)

/-- Step 5 with what the headers gave. -/
def takeHeaders (n : NvmRead) (again : Bool) (h : State × List (Bool × ImageCopy)) : Outcome State Fault Refusal :=
  takeCopy n again (sameSequence h.2)
    (examineCopies n.verified (orderCopies h.2) (if sameSequence h.2 then fault 230 {} h.1 else h.1))

/-- A quad that could not be read counts once on source 229. -/
def State.quadReported (n : NvmRead) (again : Bool) (s : State) : State :=
  if again ∨ n.quadOk ∨ s.boot.quadNoted then s else fault 229 {} { s with boot.quadNoted := true }

section
variable {n : NvmRead} (h5 : s.atStep 5 = true)
include h5

theorem exec_imageSelection_eq : exec (.imageSelection n) s =
    let u := State.quadReported n s.boot.rerun (if s.boot.rerun then s else s.selecting n)
    takeHeaders n s.boot.rerun (headerCauses
      (if s.boot.rerun then (if u.boot.imageSel = 1 then [(true, n.copyB)] else [(false, n.copyA)]) else [(false, n.copyA), (true, n.copyB)])
      u) :=
  if_pos h5

theorem exec_imageSelection_of_first (hquad : n.quadOk = true) (hrerun : s.boot.rerun = false) : exec (.imageSelection n) s =
    takeHeaders n false (headerCauses [(false, n.copyA), (true, n.copyB)] (s.selecting n)) := by
  rw [exec_imageSelection_eq h5, State.quadReported, if_pos (Or.inr (Or.inl hquad)), hrerun]
  rfl

theorem exec_imageSelection_of_again (hrerun : s.boot.rerun = true) : exec (.imageSelection n) s =
    takeHeaders n true (headerCauses (if s.boot.imageSel = 1 then [(true, n.copyB)] else [(false, n.copyA)]) s) := by
  rw [exec_imageSelection_eq h5, State.quadReported, if_pos (Or.inl hrerun), hrerun]
  rfl

end

theorem takeHeaders_of_valid {n : NvmRead} {again : Bool} {l : List (Bool × ImageCopy)} {b : Bool} {c : ImageCopy}
    {rest : List (Bool × ImageCopy)} (hsame : sameSequence l = false) (horder : orderCopies l = (b, c) :: rest)
    (hvalid : copyCause n.verified s c = 0) :
    takeHeaders n again (s, l) = takeCopy n again false (setCause b 0 s, some (b, c)) := by
  simp only [takeHeaders, hsame, horder, Bool.false_eq_true, if_false, examineCopies_of_valid hvalid]

theorem takeCopy_of_found {n : NvmRead} {again b : Bool} {c : ImageCopy} (hmode : t.mode = .boot) :
    takeCopy n again false (t, some (b, c)) = endTaking n again b c (loadImage c t) := by
  rw [takeCopy, if_neg (not_not_intro hmode)]
  simp only [endTaking, Bool.false_eq_true, false_and, if_false]

theorem endTaking_of_again (n : NvmRead) (b : Bool) (c : ImageCopy) (s : State) : endTaking n true b c s = .next { s with
    boot.imageSel := if b then 2 else 1, boot.step5 := true, boot.step := 8 } := rfl

theorem endTaking_of_no_request {n : NvmRead} (hfac : n.factoryEn = false) (b : Bool) (c : ImageCopy) (s : State) :
    endTaking n false b c s = .next { s with
      boot.imageSel := if b then 2 else 1, boot.step5 := true, boot.factoryReq := false, boot.tokenOk := false, boot.step := 6 } := by
  simp [endTaking, hfac]

theorem foldl_range_four (f : Nat → Nat) : (List.range 4).foldl (fun v i => v + f i) 0 = f 0 + f 1 + f 2 + f 3 := by
  simp [List.range_succ]

theorem ImageSection.number_eq (x : ImageSection) : (List.range 4).foldl (fun v i => v + x.word i * 2 ^ (32 * i)) 0 =
    x.word 0 + x.word 1 * 2 ^ 32 + x.word 2 * 2 ^ 64 + x.word 3 * 2 ^ 96 := by
  rw [foldl_range_four]
  rw [Nat.mul_zero, Nat.pow_zero, Nat.mul_one]

/-- A token that verifies for the identity in the shadows is taken. -/
theorem endTaking_of_token {n : NvmRead} {c : ImageCopy} {x : ImageSection} (hfac : n.factoryEn = true)
    (hsec : c.sec 0x11 = some x) (hver : verifies n.verified s.otp.rom.vendorKey (x.bytes 0 0x20) (x.bytes 0x20 0xB24) = true)
    (hid : x.word 0 + x.word 1 * 2 ^ 32 + x.word 2 * 2 ^ 64 + x.word 3 * 2 ^ 96 = s.deviceId) (b : Bool) :
    endTaking n false b c s = .next { s with
      boot.imageSel := if b then 2 else 1, boot.step5 := true, boot.factoryReq := true, boot.tokenOk := true, boot.step := 6 } := by
  have htoken : ∀ u : State, u.otp = s.otp → tokenValid n.verified c u = true := by
    intro u hu
    have hid' : x.word 0 + x.word 1 * 2 ^ 32 + x.word 2 * 2 ^ 64 + x.word 3 * 2 ^ 96 = u.deviceId := by
      rw [hid, State.deviceId, State.deviceId, hu]
    rw [tokenValid, hsec, hu]
    rw [← ImageSection.number_eq] at hid'
    exact Bool.and_eq_true_iff.2 ⟨hver, decide_eq_true hid'⟩
  simp [endTaking, hfac, htoken]

@[simp] theorem State.selecting_mode (n : NvmRead) (s : State) : (s.selecting n).mode = s.mode := rfl

@[simp] theorem setCause_mode (b : Bool) (c : Nat) (s : State) : (setCause b c s).mode = s.mode := (setCause_fr b c s).mode (by decide)

/-- Settles O7: the headers give the order (`headerCauses_both`), the first copy is valid and is taken (`takeHeaders_of_valid`). -/
theorem imageSelectionTakesTheHighestValidCopy : Obligations.ImageSelectionTakesTheHighestValidCopy := by
  refine ⟨fun a n s h5 hrerun hquad hfac hA hB ha hvalid => ?single, fun a b n s h5 hrerun hquad hfac hA hB ha hb hlt hvalid => ?higher,
    fun b n s h5 hrerun hsel _ hB hb hvalid => ?again, fun a x n s h5 hrerun hquad hfac hA hB ha hvalid hx hver hid => ?factory,
    fun n s h5 hrerun hquad hA hB h0 => ?none⟩
  case single =>
    rw [exec_imageSelection_of_first h5 hquad hrerun, hA, hB, headerCauses_first ha,
      takeHeaders_of_valid (s := setCause true 9 (s.selecting n)) (l := [(false, a)]) rfl rfl hvalid,
      takeCopy_of_found (t := setCause false 0 _) (by simp [State.mode_of_atStep h5]), endTaking_of_no_request hfac, State.selecting,
      hfac]
    rfl
  case higher =>
    have hsame : sameSequence [(false, a), (true, b)] = false := decide_eq_false fun h => by rw [h] at hlt; exact Nat.lt_irrefl _ hlt
    rw [exec_imageSelection_of_first h5 hquad hrerun, hA, hB, headerCauses_both ha hb,
      takeHeaders_of_valid (s := s.selecting n) hsame (if_pos hlt) hvalid,
      takeCopy_of_found (t := setCause true 0 _) (by simp [State.mode_of_atStep h5]), endTaking_of_no_request hfac, State.selecting,
      hfac]
    rfl
  case again =>
    rw [exec_imageSelection_of_again h5 hrerun, if_pos hsel, hB, headerCauses_second hb,
      takeHeaders_of_valid (s := s) (l := [(true, b)]) rfl rfl hvalid,
      takeCopy_of_found (t := setCause true 0 s) (by simp [State.mode_of_atStep h5]), endTaking_of_again]
    rfl
  case factory =>
    rw [exec_imageSelection_of_first h5 hquad hrerun, hA, hB, headerCauses_first ha,
      takeHeaders_of_valid (s := setCause true 9 (s.selecting n)) (l := [(false, a)]) rfl rfl hvalid,
      takeCopy_of_found (t := setCause false 0 _) (by simp [State.mode_of_atStep h5])]
    have hotp : (loadImage a (setCause false 0 (setCause true 9 (s.selecting n)))).otp = s.otp :=
      (loadImage_fr ..).otp (by decide)
    have hpins : (loadImage a (setCause false 0 (setCause true 9 (s.selecting n)))).pins = (s.selecting n).pins :=
      (loadImage_fr ..).pins (by decide)
    generalize loadImage a _ = u at hotp hpins
    rw [endTaking_of_token hfac hx (by rw [hotp]; exact hver) (by rw [hid, State.deviceId, State.deviceId, hotp])]
    refine ⟨_, rfl, rfl, rfl, rfl, rfl, ?_⟩
    rw [hpins]
    exact hfac
  case none =>
    rw [exec_imageSelection_of_first h5 hquad hrerun, hA, hB, headerCauses_none]
    have hmode : (setCause true 9 (setCause false 9 (s.selecting n))).mode = .boot := by simp [State.mode_of_atStep h5]
    have htake : takeHeaders n false (setCause true 9 (setCause false 9 (s.selecting n)), []) =
        .next (enterHold 2 (setCause true 9 (setCause false 9 (s.selecting n)))) := if_neg (not_not_intro hmode)
    have ht : (setCause true 9 (setCause false 9 (s.selecting n))).mode ≠ .trip := by rw [hmode]; decide
    have hh : (setCause true 9 (setCause false 9 (s.selecting n))).mode ≠ .hold := by rw [hmode]; decide
    refine ⟨_, htake, enterHold_mode 2 ht, ?_, ?_, ?_, (enterHold_fr ..).image (by decide)⟩
    · rw [enterHold_holdCause 2 ht hh]
      exact if_pos h0
    · rw [enterHold_boot 2 ht hh]
      rfl
    · rw [enterHold_boot 2 ht hh]
      rfl

end Sys2Proof.Machine
end

section
/-! SUPPORT. What the fault collector leaves, whatever it does: of the boot state all but the frozen time, of the journals all but the
queue and its counts, of the repair state all but what it asks for, loses or gives back, of the gauntlet all but the last cause. -/

namespace Sys2Proof.Machine

variable {s t : State}

/-- What no operation of the fault collector changes within the parts of the state that it touches. -/
def State.ground (s : State) : BootState × JnlState × RepState × GntState :=
  ({ s.boot with frozen := none }, { s.jnl with queue := [], dropped := 0 },
    { s.rep with todo := [], layerFault := 0, lossPcs := 0, rankMap := [] }, { s.gnt with lastCause := 0 })

theorem Fr.ground {m : Nat} (h : Fr m s t) (hm : m &&& 803072 = 0 := by decide) : t.ground = s.ground := by
  have key : ∀ i, (803072).testBit i = true → m.testBit i = false := by
    intro i hi
    simpa [hi] using congrArg (fun x => x.testBit i) hm
  rw [State.ground, State.ground, h.boot (key 8 (by decide)), h.jnl (key 14 (by decide)), h.rep (key 18 (by decide)),
    h.gnt (key 19 (by decide))]

@[simp] theorem State.updSrc_ground (n : Nat) (f : Source → Source) (s : State) : (s.updSrc n f).ground = s.ground := rfl

@[simp] theorem setAlert_ground (m : BitVec 5) (s : State) : (setAlert m s).ground = s.ground :=
  (setAlert_fr m s).ground

@[simp] theorem notices_ground (n : Nat) (d : EventDetail) (s : State) : (notices n d s).ground = s.ground :=
  (notices_fr n d s).ground

@[simp] theorem fencePort_ground (p : Nat) (s : State) : (fencePort p s).ground = s.ground :=
  (fencePort_fr p s).ground

@[simp] theorem supRestart_ground (s : State) : (supRestart s).ground = s.ground :=
  (supRestart_fr s).ground

@[simp] theorem queueRecord_ground (j : JQueued) (s : State) : (queueRecord j s).ground = s.ground := by
  unfold queueRecord
  extract_lets
  split_ifs <;> rfl

@[simp] theorem logRecord_ground (src cls : Nat) (forced reacted : Bool) (record detail : Nat) (s : State) :
    (logRecord src cls forced reacted record detail s).ground = s.ground := by
  unfold logRecord
  dsimp only
  rw [queueRecord_ground]
  split
  · rw [setAlert_ground]
    rfl
  · rfl

@[simp] theorem askRepair_ground (r : RepairReq) (s : State) : (askRepair r s).ground = s.ground := by
  unfold askRepair
  split <;> rfl

@[simp] theorem repairReactions_ground (n : Nat) (d : EventDetail) (s : State) : (repairReactions n d s).ground = s.ground := by
  unfold repairReactions
  extract_lets re banked
  have hbanked : banked.ground = s.ground := by
    unfold banked
    split
    · split
      · exact askRepair_ground ..
      · rfl
    · rfl
  split_ifs
  · split
    · rw [askRepair_ground, hbanked]
    · exact hbanked
  · rw [askRepair_ground, hbanked]
  · exact hbanked
  · exact hbanked

@[simp] theorem reactions_ground (n : Nat) (d : EventDetail) (forced : Bool) (record : Nat) (s : State) :
    (reactions n d forced record s).ground = s.ground := by
  simp only [reactions, apply_ite State.ground, supRestart_ground, repairReactions_ground, fencePort_ground, notices_ground,
    setAlert_ground, logRecord_ground, ite_self]

@[simp] theorem stopTest_ground (s : State) : (stopTest s).ground = s.ground := by
  unfold stopTest queueResult
  split
  · exact queueRecord_ground ..
  · rfl

@[simp] theorem enterHold_ground (c : Nat) (s : State) : (enterHold c s).ground = s.ground := by
  have hstop : s.stopAll.ground = s.ground := by
    unfold State.stopAll
    rw [stopTest_ground, (layersOff_fr _).ground, (stopMemory_fr _).ground, (linksDown_fr _).ground]
  by_cases ht : s.mode = .trip
  · rw [enterHold_of_trip c ht]
  · by_cases hh : s.mode = .hold
    · rw [enterHold_of_hold c hh]
    · rw [enterHold_eq c ht hh]
      rw [← hstop]
      rfl

@[simp] theorem setGrave_ground (n : Nat) (forced : Bool) (c : Nat) (s : State) : (setGrave n forced c s).ground = s.ground := by
  unfold setGrave
  extract_lets table latched alerted time notified
  have hlatched : latched.ground = s.ground := by
    unfold latched
    split <;> rfl
  have hnotified : notified.ground = alerted.ground := by
    refine forN_eq (f := State.ground) (fun p t => ?_) 16 alerted
    split <;> rfl
  rw [enterHold_ground, hnotified, setAlert_ground, hlatched]

@[simp] theorem latchGrave_ground (n : Nat) (d : EventDetail) (forced : Bool) (c : Nat) (s : State) :
    (latchGrave n d forced c s).ground = s.ground := by
  simp only [latchGrave, setGrave_ground, apply_ite State.ground, logRecord_ground, ite_self]

@[simp] theorem holdReaction_ground (n : Nat) (d : EventDetail) (forced : Bool) (s : State) :
    (holdReaction n d forced s).ground = s.ground := by
  simp only [holdReaction, apply_ite State.ground, setGrave_ground, logRecord_ground, State.updSrc_ground, ite_self]

@[simp] theorem escalate_ground (n : Nat) (d : EventDetail) (forced : Bool) (s : State) : (escalate n d forced s).ground = s.ground := by
  simp only [escalate, apply_ite State.ground, setGrave_ground, holdReaction_ground, reactions_ground, State.updSrc_ground, ite_self]

@[simp] theorem State.counted_ground (n : Nat) (forced : Bool) (s : State) : (s.counted n forced).ground = s.ground :=
  (s.counted_fr n forced).ground

@[simp] theorem registerEvent_ground (n : Nat) (d : EventDetail) (forced : Bool) (s : State) :
    (registerEvent n d forced s).1.ground = s.ground := by
  refine registerEvent_cases (P := fun t => t.ground = s.ground) n d forced s (fun _ => rfl) (fun _ => rfl) (fun _ _ => ?_) (fun _ => ?_) (fun _ => ?_)
  · simp
  · simp
  · simp

@[simp] theorem raiseOnly_ground (n c : Nat) (d : EventDetail) (cause : Nat) (s : State) :
    (raiseOnly n c d cause s).ground = s.ground := by
  simp only [raiseOnly, apply_ite State.ground, latchGrave_ground, setGrave_ground, holdReaction_ground, reactions_ground,
    State.updSrc_ground, ite_self]

/-! ## Takeover and what an event asks for -/

@[simp] theorem checkMinimum_ground (s : State) : (checkMinimum s).ground = s.ground := by
  simp only [checkMinimum, apply_ite State.ground, enterHold_ground, latchGrave_ground, registerEvent_ground, ite_self]

@[simp] theorem stopPc_ground (q : Nat) (s : State) : (stopPc q s).ground = s.ground := by
  refine forN_eq (f := State.ground) (fun r t => ?_) 16 _
  split <;> rfl

@[simp] theorem pairLoss_ground (i : Nat) (s : State) : (pairLoss i s).ground = s.ground := by
  unfold pairLoss
  extract_lets a b marked stopped logged first second book counted noticed
  have hstopped : stopped.ground = s.ground := forL_eq (f := State.ground) (fun q t => stopPc_ground q t) _ marked
  have hlogged : logged.ground = s.ground := (forL_eq (f := State.ground) (fun x t => logRecord_ground ..) _ stopped).trans hstopped
  have hcounted : counted.ground = s.ground := by
    show second.ground = _
    rw [registerEvent_ground, registerEvent_ground, hlogged]
  have hnoticed : noticed.ground = counted.ground := by
    refine forN_eq (f := State.ground) (fun p t => ?_) 16 counted
    split
    · exact (sendNotice_fr ..).ground
    · rfl
  rw [checkMinimum_ground, hnoticed, hcounted]

@[simp] theorem takeover_ground (n src : Nat) (s : State) : (takeover n src s).ground = s.ground := by
  unfold takeover
  extract_lets m taken shrunk
  simp only [apply_ite State.ground, pairLoss_ground, raiseOnly_ground]
  split_ifs <;> rfl

theorem State.setLayerFault_ground (s : State) (w : BitVec 24) : ({ s with rep.layerFault := w } : State).ground = s.ground := rfl

@[simp] theorem layerEntry_ground (k : Nat) (d : EventDetail) (s : State) : (layerEntry k d s).ground = s.ground := by
  unfold layerEntry
  split
  · rfl
  · extract_lets row readable fields noted
    have hnoted : noted.ground = s.ground := s.setLayerFault_ground _
    split
    · exact (askRepair_ground _ noted).trans hnoted
    · exact (askRepair_ground _ noted).trans hnoted
    · exact (askRepair_ground _ noted).trans hnoted
    · exact hnoted

@[simp] theorem perEvent_ground (n : Nat) (d : EventDetail) (s : State) : (perEvent n d s).ground = s.ground := by
  unfold perEvent
  split_ifs
  · exact supRestart_ground s
  · dsimp only
    split
    · rfl
    · rfl
    · exact takeover_ground ..
    · exact takeover_ground ..
    · rfl
  · exact layerEntry_ground ..
  · rfl

@[simp] theorem gloveReaction_ground (n : Nat) (s : State) : (gloveReaction n s).ground = s.ground := by
  simp only [gloveReaction, apply_ite State.ground, takeover_ground, ite_self]

/-- One event leaves all of it, whatever the collector does of it. -/
@[simp] theorem fault_ground (n : Nat) (d : EventDetail) (s : State) : (fault n d s).ground = s.ground := by
  unfold fault
  split_ifs
  · rfl
  · rfl
  · rfl
  · simp only [apply_ite State.ground, perEvent_ground, gloveReaction_ground, registerEvent_ground, ite_self]

@[simp] theorem raiseFault_ground (n c : Nat) (d : EventDetail) (cause : Nat) (s : State) :
    (raiseFault n c d cause s).ground = s.ground := by
  simp only [raiseFault, apply_ite State.ground, perEvent_ground, gloveReaction_ground, raiseOnly_ground, State.updSrc_ground,
    latchGrave_ground, fault_ground, ite_self]

end Sys2Proof.Machine
end

section
/-! SUPPORT. The journal scan: what the newest valid records set, through whatever events the scan raises. -/

namespace Sys2Proof.Machine

variable {s t : State}

theorem State.step_of_ground (h : t.ground = s.ground) : t.boot.step = s.boot.step := congrArg (·.1.step) h

theorem chargeAll_ground (f : State → State) (s : State) : (chargeAll f s).ground = (f s).ground := by
  simp only [chargeAll, apply_ite State.ground, raiseFault_ground, ite_self]

/-- The scan's own settings, before its events. -/
def scanStart (j : JournalRead) (s : State) : State :=
  { s with
    jnl := { s.jnl with records := j.records, sector := (writePointer j).1, offset := (writePointer j).2
                        fullScan := (usableCheckpoint j.records).isNone
                        seq := match newestOf (scanned j.records) (fun _ => true) with | some r => r.seq | none => 0 }
    att.lastLeaf := (newestValid (scanned j.records) 4).map (fun r => payloadNat r 0 4)
    att.resume := (newestValid (scanned j.records) 4).map (fun r => payloadNat r 4 4)
    rep.log := takeRepairs (newestValid (scanned j.records) 7)
    boot.step6 := true }

/-- The events of the scan: one for a scan of the whole region, one for each record whose check fails. -/
def scanEvents (j : JournalRead) (s : State) : State :=
  forL ((scanned j.records).filter (fun r => exists_ r && !checkOk r)) (fun _ s => fault 229 {} s)
    (if (usableCheckpoint j.records).isNone then fault 229 {} s else s)

/-- The wear ledger, the boot counter and the self-test result taken, the records of earlier power cycles shown. -/
def scanTaken (j : JournalRead) (s : State) : State :=
  takeBist (newestValid (scanned j.records) 3) (takeWear (newestValid (scanned j.records) 6)
    (takeFaultRecords (newestValid (scanned j.records) 2) (newestValid (scanned j.records) 1) (scanEvents j (scanStart j s))))

theorem exec_journalScan_eq (j : JournalRead) (h6 : s.atStep 6 = true) : exec (.journalScan j) s =
    if (scanTaken j s).mode ≠ .boot then .next (scanTaken j s)
    else if (scanTaken j s).essentialFailed then .next (enterHold 4 (scanTaken j s))
    else .next { scanTaken j s with boot.step := 7 } :=
  if_pos h6

theorem scanEvents_ground (j : JournalRead) (s : State) : (scanEvents j s).ground = s.ground := by
  refine (forL_eq (f := State.ground) (fun r t => fault_ground ..) _ _).trans ?_
  split
  · exact fault_ground ..
  · rfl

/-- The boot counter after a boot whose ledger is the record r. -/
def bootsOf (r : Option JournalRecord) : Nat := r.elim 0 (fun x => payloadNat x 0 4) + 1

theorem takeWear_ground (r : Option JournalRecord) (s : State) :
    ∃ w, (takeWear r s).ground =
      (s.ground.1, { s.ground.2.1 with bootCount := BitVec.ofNat 32 (bootsOf r), baseWear := w }, s.ground.2.2) := by
  unfold takeWear
  extract_lets units jnl taken worn charged
  clear_value units
  refine ⟨units 0, ?_⟩
  have hworn : worn.ground = taken.ground := forN_eq (f := State.ground) (fun k t => (t.updLayer_fr ..).ground) 18 taken
  have hcharged : charged.ground = taken.ground := by
    unfold charged
    rw [chargeAll_ground]
    refine (forN_eq (f := State.ground) (fun k t => ?_) 18 worn).trans hworn
    split
    · exact (t.updLayer_fr ..).ground
    · rfl
  simp only [apply_ite State.ground, raiseFault_ground, ite_self]
  rw [hcharged]
  cases r <;> rfl

theorem takeBist_ground (r : Option JournalRecord) (s : State) :
    ∃ b, (takeBist r s).ground = ({ s.ground.1 with bistMissing := b }, s.ground.2) := by
  unfold takeBist
  extract_lets status use
  clear_value use
  cases r with
  | none => exact ⟨true, fault_ground ..⟩
  | some x =>
    cases use with
    | true => exact ⟨s.boot.bistMissing, rfl⟩
    | false => exact ⟨true, fault_ground ..⟩

theorem scanTaken_ground (j : JournalRead) (s : State) : ∃ w b, (scanTaken j s).ground =
    ({ (scanStart j s).ground.1 with bistMissing := b },
      { (scanStart j s).ground.2.1 with
        bootCount := BitVec.ofNat 32 (bootsOf (newestValid (scanned j.records) 6)), baseWear := w }, (scanStart j s).ground.2.2) := by
  unfold scanTaken
  generalize hu : takeFaultRecords _ _ (scanEvents j (scanStart j s)) = u
  have hground : u.ground = (scanStart j s).ground := by
    rw [← hu, (takeFaultRecords_fr ..).ground, scanEvents_ground]
  obtain ⟨w, hwear⟩ := takeWear_ground (newestValid (scanned j.records) 6) u
  obtain ⟨b, hbist⟩ := takeBist_ground (newestValid (scanned j.records) 3) (takeWear (newestValid (scanned j.records) 6) u)
  exact ⟨w, b, by rw [hbist, hwear, hground]⟩

theorem scanTaken_fr (j : JournalRead) (s : State) : Fr 399464432 (scanStart j s) (scanTaken j s) := by
  refine Fr.step (takeBist_fr ..) (by decide) (Fr.step (takeWear_fr ..) (by decide) (Fr.step (takeFaultRecords_fr ..) (by decide) ?_))
  exact Fr.forL (fun _ _ => fault_fr ..) _ (Fr.ite (fault_fr ..) (Fr.refl ..))

/-- What the scan set stands at its end: whether it goes on, holds or is left. -/
theorem exec_journalScan_sets (j : JournalRead) (h6 : s.atStep 6 = true) : ∃ t, exec (.journalScan j) s = .next t ∧
    Fr 399464432 (scanTaken j s) t ∧ t.ground.2 = (scanTaken j s).ground.2 ∧ t.boot.step6 = (scanTaken j s).boot.step6 := by
  rw [exec_journalScan_eq j h6]
  generalize scanTaken j s = u
  split_ifs
  · exact ⟨u, rfl, Fr.refl .., rfl, rfl⟩
  · exact ⟨_, rfl, (enterHold_fr 4 u).mono (by decide), congrArg Prod.snd (enterHold_ground 4 u),
      congrArg (·.1.step6) (enterHold_ground 4 u)⟩
  · exact ⟨_, rfl, Fr.u256 (Fr.refl ..) (by decide), rfl, rfl⟩

/-! ## With a calm collector -/

theorem noGlove_of_le (hn : 176 ≤ n) : noGlove n := fun h => Nat.not_lt_of_le hn h.2

theorem State.calm_congr (h : t.flt.sources = s.flt.sources) (hs : s.calm) : t.calm :=
  fun n => State.calmAt_congr (src_congr h n) (hs.at n)

/-- The stack runs, and no source asks for HOLD or stands at GRAVE. -/
structure State.running (s : State) : Prop where
  notTrip : s.mode ≠ .trip
  notHold : s.mode ≠ .hold
  calm : s.calm

/-- An operation that leaves a running stack running, and of it all but what a counted event touches. -/
theorem State.running.congr (h : s.running) (hmode : t.mode = s.mode) (hsrc : t.flt.sources = s.flt.sources) : t.running :=
  ⟨hmode ▸ h.notTrip, hmode ▸ h.notHold, State.calm_congr hsrc h.calm⟩

theorem raiseOnly_calmAt {n c : Nat} (hfix : fixedClass n = none) (hc : c ≤ 3) (d : EventDetail) (cause : Nat) (h : s.calmAt n) :
    (raiseOnly n c d cause s).calmAt n := by
  unfold raiseOnly
  extract_lets old raised reacted
  have hraised : raised.calmAt n := by
    rw [State.calmAt, State.updSrc_src, if_pos rfl]
    refine ⟨h.1, fun _ => ?_⟩
    simp only [hfix, if_true, BitVec.toNat_ofNat]
    omega
  have hreacted : reacted.calmAt n := State.calmAt_congr (State.src_eq_of_latches (reactions_latches ..) n) hraised
  simp only [if_neg (show ¬ c = 4 by omega)]
  split
  · exact h
  · rw [holdReaction_of_mild d false hreacted.react]
    exact hreacted

section
variable {n : Nat} (hn : noGlove n) (hfix : fixedClass n = none)
include hn hfix

theorem State.running.fault_fr (h : s.running) (d : EventDetail) : Fr 4605440 s (fault n d s) :=
  fault_mild hn d h.notTrip h.notHold ((h.calm.at n).mild hfix)

theorem State.running.fault (h : s.running) (d : EventDetail) : (fault n d s).running := by
  have hmode : (Machine.fault n d s).mode = s.mode := (h.fault_fr hn hfix d).mode (by decide)
  exact ⟨hmode ▸ h.notTrip, hmode ▸ h.notHold, fault_calm hn hfix d h.calm⟩

theorem State.running.forL_fault {α : Type} (h : s.running) (d : α → EventDetail) (l : List α) :
    Fr 4605440 s (forL l (fun x s => Machine.fault n (d x) s) s) ∧ (forL l (fun x s => Machine.fault n (d x) s) s).running := by
  induction l generalizing s with
  | nil => exact ⟨Fr.refl .., h⟩
  | cons x l ih =>
    obtain ⟨hfr, hrun⟩ := ih (h.fault hn hfix (d x))
    exact ⟨(h.fault_fr hn hfix (d x)).trans hfr, hrun⟩

theorem raiseFault_calmAt {c : Nat} (hc : c ≤ 3) (d : EventDetail) (cause : Nat) (h : s.calmAt n) :
    (raiseFault n c d cause s).calmAt n := by
  unfold raiseFault
  simp only [gloveReaction_of_noGlove hn, if_neg (show ¬ c = 4 by omega)]
  split_ifs
  · exact h
  · have hreg : (s.registered n).calmAt n := by
      rw [State.calmAt, State.registered, State.updSrc_src, if_pos rfl]
      exact h
    exact State.calmAt_congr (State.src_eq_of_latches (perEvent_latches_of_noGlove hn ..) n)
      (raiseOnly_calmAt hfix hc d cause hreg)
  · exact fault_calmAt hn hfix d h

theorem State.running.raiseFault_fr (h : s.running) {c : Nat} (hc : c ≤ 3) (d : EventDetail) (cause : Nat) :
    Fr 4605440 s (raiseFault n c d cause s) :=
  raiseFault_mild hn d cause h.notTrip h.notHold (by omega) ((h.calm.at n).mild hfix)

theorem State.running.raiseFault (h : s.running) {c : Nat} (hc : c ≤ 3) (d : EventDetail) (cause : Nat) :
    (raiseFault n c d cause s).running := by
  have hmode : (Machine.raiseFault n c d cause s).mode = s.mode := (h.raiseFault_fr hn hfix hc d cause).mode (by decide)
  refine ⟨hmode ▸ h.notTrip, hmode ▸ h.notHold, fun m => ?_⟩
  show (Machine.raiseFault n c d cause s).calmAt m
  by_cases hm : m = n
  · subst hm
    exact raiseFault_calmAt hn hfix hc d cause (h.calm.at m)
  · exact State.calmAt_congr (raiseFault_src_ne hn hm ..) (h.calm.at m)

end

/-! ## The scan of a running stack -/

theorem takeFaultRecords_sources (trip flt : Option JournalRecord) (s : State) :
    (takeFaultRecords trip flt s).flt.sources = s.flt.sources := by
  unfold takeFaultRecords
  split
  · split <;> rfl
  · rfl
  · rfl
  · rfl

theorem chargeAll_running {f : State → State} (h : (f s).running) : Fr 4605440 (f s) (chargeAll f s) ∧ (chargeAll f s).running := by
  unfold chargeAll
  extract_lets charged
  split
  · exact ⟨h.raiseFault_fr (noGlove_of_le (by decide)) rfl (by decide) .., h.raiseFault (noGlove_of_le (by decide)) rfl (by decide) ..⟩
  · exact ⟨Fr.refl .., h⟩

theorem takeWear_running (r : Option JournalRecord) (h : s.running) :
    Fr 71714304 s (takeWear r s) ∧ (takeWear r s).running := by
  unfold takeWear
  extract_lets units jnl taken worn charged
  have hworn : Fr 67108864 taken worn := Fr.forN (fun k t => t.updLayer_fr ..) 18 (Fr.refl ..)
  have hall : Fr 67108864 taken (forN 18 (fun k s => if s.fitted k then s.updLayer k (fun x => { x with wear := x.wear + 4 * 3600 * 2 ^ 32 }) else s) worn) :=
    Fr.forN (fun k t => Fr.iteT (t.updLayer_fr ..) (Fr.refl ..)) 18 hworn
  have htaken : Fr 71714304 s taken := Fr.u16384 (Fr.refl ..) (by decide)
  have hrun : taken.running := h.congr rfl rfl
  obtain ⟨hfr, hcharged⟩ : Fr 4605440 _ charged ∧ charged.running :=
    chargeAll_running (hrun.congr (hall.mode (by decide)) (by rw [hall.flt (by decide)]))
  have hcfr : Fr 71714304 s charged := Fr.step hfr (by decide) (Fr.step hall (by decide) htaken)
  split
  · exact ⟨Fr.step (hcharged.raiseFault_fr (noGlove_of_le (by decide)) rfl (by decide) ..) (by decide) hcfr,
      hcharged.raiseFault (noGlove_of_le (by decide)) rfl (by decide) ..⟩
  · exact ⟨hcfr, hcharged⟩

/-- Up to the self-test result, the scan of a running stack leaves it running. -/
theorem scan_running (j : JournalRead) (h : s.running) :
    let u := takeWear (newestValid (scanned j.records) 6)
      (takeFaultRecords (newestValid (scanned j.records) 2) (newestValid (scanned j.records) 1) (scanEvents j (scanStart j s)))
    Fr 71714304 (scanStart j s) u ∧ u.running := by
  intro u
  have hstart : (scanStart j s).running := h.congr rfl rfl
  have hfirst : Fr 4605440 (scanStart j s) (if (usableCheckpoint j.records).isNone then fault 229 {} (scanStart j s) else scanStart j s) ∧
      (if (usableCheckpoint j.records).isNone then fault 229 {} (scanStart j s) else scanStart j s).running := by
    split
    · exact ⟨hstart.fault_fr (noGlove_of_le (by decide)) rfl {}, hstart.fault (noGlove_of_le (by decide)) rfl {}⟩
    · exact ⟨Fr.refl .., hstart⟩
  obtain ⟨hfr, hrun⟩ := hfirst.2.forL_fault (n := 229) (noGlove_of_le (by decide)) rfl (fun _ => {})
    ((scanned j.records).filter (fun r => exists_ r && !checkOk r))
  have hshown : (takeFaultRecords (newestValid (scanned j.records) 2) (newestValid (scanned j.records) 1) (scanEvents j (scanStart j s))).running :=
    State.running.congr (s := scanEvents j (scanStart j s)) hrun ((takeFaultRecords_fr ..).mode (by decide)) (takeFaultRecords_sources ..)
  obtain ⟨hwfr, hwrun⟩ := takeWear_running (newestValid (scanned j.records) 6) hshown
  exact ⟨(Fr.step (takeFaultRecords_fr ..) (by decide) ((hfirst.1.trans hfr).mono (by decide))).trans hwfr, hwrun⟩

/-- The partitions as a self-test record names them. -/
def recordedParts (x : JournalRecord) : List (Nat × PartResult) :=
  (List.range 20).map (fun i =>
    (i, { status := BitVec.ofNat 3 (payloadNat x (16 + 16 * i) 1), fromJournal := true
          duration := BitVec.ofNat 16 (payloadNat x (20 + 16 * i) 4), sig := BitVec.ofNat 64 (payloadNat x (24 + 16 * i) 8) }))

/-- The record counts: no partition in it was stopped. -/
def recordUsable (x : JournalRecord) : Bool := (List.range 20).all (fun i => decide (payloadNat x (16 + 16 * i) 1 ≠ 3))

theorem takeBist_of_usable {x : JournalRecord} (h : recordUsable x = true) (s : State) :
    takeBist (some x) s = { s with bist.parts := recordedParts x } := by
  unfold takeBist
  extract_lets status use
  have huse : use = true := h
  rw [huse]
  rfl

theorem takeBist_of_missing {r : Option JournalRecord} (h : ∀ x, r = some x → recordUsable x = false) (s : State) :
    takeBist r s = fault 245 {} { s with boot.bistMissing := true, bist.missing := true } := by
  unfold takeBist
  extract_lets status use
  have huse : use = false := by
    cases r with
    | none => rfl
    | some x => exact h x rfl
  rw [huse]
  cases r <;> rfl

theorem essentialFailed_of_parts {x : JournalRecord} (h : s.bist.parts = recordedParts x) :
    s.essentialFailed = (decide (payloadNat x 272 1 % 8 = 2) || decide (payloadNat x 320 1 % 8 = 2)) := by
  have hstatus : ∀ n, (BitVec.ofNat 3 n = 2) ↔ n % 8 = 2 := fun n => by
    rw [← BitVec.toNat_inj]
    rfl
  have h16 : (s.part_ 16).status = BitVec.ofNat 3 (payloadNat x 272 1) := by rw [State.part_, h]; rfl
  have h19 : (s.part_ 19).status = BitVec.ofNat 3 (payloadNat x 320 1) := by rw [State.part_, h]; rfl
  simp only [State.essentialFailed, State.partFailed, h16, h19, hstatus]

/-- The scan of a running stack up to the self-test result. -/
theorem scanTaken_eq (j : JournalRead) (h : s.running) : ∃ u, scanTaken j s = takeBist (newestValid (scanned j.records) 3) u ∧
    u.running ∧ u.mode = s.mode ∧ u.bist = s.bist ∧ u.holdCause = s.holdCause ∧ u.boot.step = s.boot.step := by
  obtain ⟨hfr, hrun⟩ := scan_running j h
  exact ⟨_, rfl, hrun, hfr.mode (by decide), hfr.bist (by decide), hfr.holdCause (by decide), congrArg (·.step) (hfr.boot (by decide))⟩

theorem State.running_of_calm {k : Nat} (hk : s.atStep k = true) (h : s.calm) : s.running :=
  ⟨by rw [State.mode_of_atStep hk]; decide, by rw [State.mode_of_atStep hk]; decide, h⟩

/-- Settles O8: whatever the scan's events do, they leave what it set (`scanTaken_ground`); of a running stack they leave the mode
(`scan_running`), and the result of the self-test decides. -/
theorem journalScanTakesTheNewestRecords : Obligations.JournalScanTakesTheNewestRecords := by
  refine ⟨fun j s h6 => ?sets, fun j s h6 hcalm hparts hok => ?goesOn, fun j r s h6 hcalm h0 hr husable hfailed => ?holds⟩
  case sets =>
    obtain ⟨t, hexec, hfr, hset, hstep6⟩ := exec_journalScan_sets j h6
    obtain ⟨w, b, hground⟩ := scanTaken_ground j s
    have hall := (scanTaken_fr j s).trans hfr
    have hjnl := congrArg Prod.fst (hset.trans (congrArg Prod.snd hground))
    have hrep := congrArg (·.2.1.log) (hset.trans (congrArg Prod.snd hground))
    have hatt : t.att = (scanStart j s).att := hall.att (by decide)
    refine ⟨t, hexec, congrArg (·.records) hjnl, ?_, congrArg (·.fullScan) hjnl, ?_, hstep6.trans (congrArg (·.1.step6) hground), hrep,
      congrArg (·.lastLeaf) hatt, congrArg (·.resume) hatt, hall.otp (by decide), hall.image (by decide), hall.tap (by decide),
      hall.pmc (by decide), hall.now (by decide)⟩
    · exact congrArg (fun x => (x.sector, x.offset)) hjnl
    · refine (congrArg (·.bootCount) hjnl).trans (congrArg (fun n => BitVec.ofNat 32 (n + 1)) ?_)
      cases newestValid (scanned j.records) 6 <;> rfl
  case goesOn =>
    obtain ⟨u, hu, hrun, hmode, hbist, -, -⟩ := scanTaken_eq j (State.running_of_calm h6 hcalm)
    rw [State.mode_of_atStep h6] at hmode
    rw [exec_journalScan_eq j h6, hu]
    by_cases hrec : ∃ x, newestValid (scanned j.records) 3 = some x ∧ recordUsable x = true
    · obtain ⟨x, hx, husable⟩ := hrec
      obtain ⟨h16, h19⟩ := hok x hx
      rw [hx, takeBist_of_usable husable, if_neg (not_not_intro hmode), essentialFailed_of_parts rfl]
      simp only [h16, h19, decide_false, Bool.or_self, Bool.false_eq_true, if_false]
      exact ⟨_, rfl, hmode, rfl, fun hnone => by cases hnone⟩
    · have hmissing : ∀ x, newestValid (scanned j.records) 3 = some x → recordUsable x = false :=
        fun x hx => Bool.eq_false_iff.2 fun h => hrec ⟨x, hx, h⟩
      have hnoted : ({ u with boot.bistMissing := true, bist.missing := true } : State).running := hrun.congr rfl rfl
      rw [takeBist_of_missing hmissing]
      have hfr := hnoted.fault_fr (n := 245) (noGlove_of_le (by decide)) rfl {}
      generalize hv : fault 245 {} _ = v at hfr
      have hvmode : v.mode = .boot := (hfr.mode (by decide)).trans hmode
      have hvbist : v.bist = { u.bist with missing := true } := hfr.bist (by decide)
      have hvparts : v.bist.parts = [] := by rw [hvbist]; exact (congrArg (·.parts) hbist).trans hparts
      have hessential : v.essentialFailed = false := by simp only [State.essentialFailed, State.partFailed, State.part_, hvparts]; rfl
      rw [if_neg (not_not_intro hvmode), hessential]
      refine ⟨_, rfl, hvmode, rfl, fun _ => ⟨?_, ?_⟩⟩
      · exact congrArg (·.missing) hvbist
      · exact congrArg (·.bistMissing) (hfr.boot (by decide))
  case holds =>
    obtain ⟨u, hu, hrun, hmode, hbist, hcause, hstep⟩ := scanTaken_eq j (State.running_of_calm h6 hcalm)
    rw [State.mode_of_atStep h6] at hmode
    have hall : recordUsable r = true := by simpa [recordUsable] using husable
    rw [exec_journalScan_eq j h6, hu, hr, takeBist_of_usable hall, if_neg (not_not_intro hmode), essentialFailed_of_parts rfl]
    have hbad : (decide (payloadNat r 272 1 % 8 = 2) || decide (payloadNat r 320 1 % 8 = 2)) = true := by simpa using hfailed
    rw [if_pos hbad]
    have ht : ({ u with bist.parts := recordedParts r } : State).mode ≠ .trip := hrun.notTrip
    have hh : ({ u with bist.parts := recordedParts r } : State).mode ≠ .hold := hrun.notHold
    refine ⟨_, rfl, enterHold_mode 4 ht, ?_, ?_⟩
    · rw [enterHold_holdCause 4 ht hh]
      exact if_pos (hcause.trans h0)
    · rw [enterHold_boot 4 ht hh]
      exact hstep.trans (State.step_of_atStep h6)

end Sys2Proof.Machine
end

section
/-! SUPPORT. Loops over the ports, and the clocks of BOOT step 7. -/

namespace Sys2Proof.Machine

open Host

variable {s t : State}

/-! ## Loops that treat each port by itself -/

/-- A loop whose turn i sets port i by itself and no other sets every port once, what the loop leaves standing throughout. -/
theorem forN_port {m : Nat} {g : Nat → State → State} {F : Nat → Port → Port} (hfr : ∀ i t, Fr m t (g i t))
    (hself : ∀ i t, Fr m s t → (g i t).port i = F i (t.port i)) (hother : ∀ i t j, j ≠ i → (g i t).port j = t.port j) (n p : Nat) :
    (forN n g s).port p = if p < n then F p (s.port p) else s.port p := by
  induction n with
  | zero => rfl
  | succ n ih =>
    rw [forN_succ]
    by_cases hp : p = n
    · subst hp
      rw [hself p _ (Fr.forN hfr p (Fr.refl ..)), ih, if_neg (Nat.lt_irrefl p), if_pos (Nat.lt_succ_self p)]
    · rw [hother _ _ _ hp, ih]
      by_cases hlt : p < n
      · rw [if_pos hlt, if_pos (by omega)]
      · rw [if_neg hlt, if_neg (by omega)]

/-- The same where turn i changes port i under a condition that the loop leaves standing. -/
theorem forN_updPort {c : Nat → State → Prop} [∀ i t, Decidable (c i t)] {f : Nat → Port → Port}
    (hc : ∀ i t, Fr 4194304 s t → (c i t ↔ c i s)) (n p : Nat) :
    (forN n (fun i t => if c i t then t.updPort i (f i) else t) s).port p = if p < n ∧ c p s then f p (s.port p) else s.port p := by
  rw [forN_port (m := 4194304) (F := fun i x => if c i s then f i x else x) (fun i t => ?frame) (fun i t h => ?self) (fun i t j hj => ?other)]
  · by_cases hp : p < n <;> simp [hp]
  case frame => exact Fr.iteT (t.updPort_fr ..) (Fr.refl ..)
  case self =>
    simp only [hc i t h]
    split
    · simp
    · rfl
  case other =>
    split
    · simp [hj]
    · rfl

/-! ## Clocks -/

/-- A step that changes the ports alone. -/
theorem Fr.eq_ports (h : Fr 4194304 s t) : t = { s with ports := t.ports } := by
  obtain ⟨⟩ := t
  simp only [State.mk.injEq]
  exact ⟨h.pending rfl, h.now rfl, h.choice rfl, h.pwrgood rfl, h.mode rfl, h.holdCause rfl, h.takeover rfl, h.pins rfl, h.boot rfl,
    h.sup rfl, h.flt rfl, h.thm rfl, h.pwr rfl, h.otp rfl, h.jnl rfl, h.att rfl, h.bist rfl, h.mb rfl, h.rep rfl, h.gnt rfl, h.tap rfl,
    h.image rfl, trivial, h.chans rfl, h.pcs rfl, h.slices rfl, h.layers rfl, h.pmc rfl, h.mem rfl⟩

theorem clocksUp_eq (s : State) : clocksUp s =
    { s with ports := (clocksUp s).ports, pwr.refclk := true, pwr.corePll := true, pwr.fastRc := false } := by
  have hfr : Fr 4194304 { s with pwr.refclk := true, pwr.corePll := true, pwr.fastRc := false } (clocksUp s) :=
    Fr.forN (fun i t => Fr.iteT (t.updPort_fr ..) (Fr.refl ..)) 16 (Fr.refl ..)
  exact hfr.eq_ports

theorem clocksUp_port (s : State) (p : Nat) : (clocksUp s).port p =
    if p < 16 ∧ s.portPresent p = true then { s.port p with lnk.pll := true } else s.port p := by
  unfold clocksUp
  rw [forN_updPort (c := fun p t => t.portPresent p = true) (fun i t h => by rw [h.portPresent (by decide)])]
  rfl

theorem State.port_congr (h : t.ports = s.ports) (p : Nat) : t.port p = s.port p := by rw [State.port, h, State.port]

/-- What the clocks of BOOT step 7 leave: a stable PLL at every present port, and the rest as it was. -/
theorem clocksUp_spec (s : State) : ∃ l, clocksUp s = { s with ports := l, pwr.refclk := true, pwr.corePll := true, pwr.fastRc := false } ∧
    ∀ p, tabGet {} l p = if p < 16 ∧ s.portPresent p = true then { s.port p with lnk.pll := true } else s.port p :=
  ⟨(clocksUp s).ports, clocksUp_eq s, fun p => clocksUp_port s p⟩

theorem zqRound_of_good {zq : ZqMeas} (hlo : 228000 ≤ zq.milliohm) (hhi : zq.milliohm ≤ 252000) (s : State) :
    zqRound zq false s = { s with pwr.zqTx := zq.tx, pwr.zqRx := zq.rx, pwr.zqBad := false, pwr.zqAt := some s.now } :=
  if_pos ⟨hlo, hhi⟩

theorem exec_pllLock_eq (zq : ZqMeas) (h7 : s.atStep 7 = true) : exec (.pllLock zq) s =
    let u := zqRound zq false (clocksUp s)
    if u.mode ≠ .boot then .next u
    else if u.boot.factoryReq ∧ u.boot.tokenOk then .next (pinShutdown { u with mode := .factory, boot.frozen := some u.us })
    else .next { u with boot.step := 8 } :=
  if_pos h7

theorem pinShutdown_of_high (h : s.pins.shdnReqN = true) : pinShutdown s = s := if_neg fun hc => by simp [h] at hc

theorem enterHold_pwr (c : Nat) (ht : s.mode ≠ .trip) (hh : s.mode ≠ .hold) : (enterHold c s).pwr =
    { s.pwr with entry := none, retainPending := false, wake := none, raising := false, lowering := true } :=
  congrArg State.pwr (enterHold_eq c ht hh)

theorem exec_pllLockTimeout (absent : Bool) (h7 : s.atStep 7 = true) : exec (.pllLockTimeout absent) s =
    .next (enterHold 3 (if absent then fault 3 {} { s with pwr.refclk := false } else s)) :=
  if_pos h7

/-- Settles O9: the clocks and the codes leave the boot state, which decides; a timeout holds, after its event where REFCLK is absent. -/
theorem pllLockMovesTheClocks : Obligations.PllLockMovesTheClocks := by
  refine ⟨fun zq s h7 hfac hlo hhi => ?locks, fun zq s h7 hreq htok hshdn hlo hhi => ?factory, fun s h7 h0 => ?late,
    fun s h7 h0 hquiet => ?absent⟩
  case locks =>
    obtain ⟨l, hl, hports⟩ := clocksUp_spec s
    have hgo : ¬ (s.boot.factoryReq = true ∧ s.boot.tokenOk = true) := by
      rw [Bool.and_eq_false_iff] at hfac
      rintro ⟨h1, h2⟩
      simp [h1, h2] at hfac
    rw [exec_pllLock_eq zq h7, zqRound_of_good hlo hhi, hl]
    dsimp only
    rw [if_neg (not_not_intro (State.mode_of_atStep h7)), if_neg hgo]
    refine ⟨_, rfl, rfl, fun p hp hpres => ?_, fun p hp hpres => ?_⟩
    · exact (hports p).trans (if_pos ⟨hp, hpres⟩)
    · exact (hports p).trans (if_neg (by simp [hpres]))
  case factory =>
    obtain ⟨l, hl, -⟩ := clocksUp_spec s
    rw [exec_pllLock_eq zq h7, zqRound_of_good hlo hhi, hl]
    dsimp only
    rw [if_neg (not_not_intro (State.mode_of_atStep h7)), if_pos ⟨hreq, htok⟩]
    exact ⟨_, congrArg Outcome.next (pinShutdown_of_high hshdn), rfl, rfl, (State.step_of_atStep h7 :), rfl⟩
  case late =>
    have hmode := State.mode_of_atStep h7
    have ht : s.mode ≠ .trip := by rw [hmode]; decide
    have hh : s.mode ≠ .hold := by rw [hmode]; decide
    refine ⟨_, exec_pllLockTimeout false h7, enterHold_mode 3 ht, ?_, ?_⟩
    · exact (enterHold_holdCause 3 ht hh).trans (if_pos h0)
    · exact (enterHold_flt 3 ht hh).trans (by rw [hmode])
  case absent =>
    have hmode := State.mode_of_atStep h7
    have hfault : fault 3 {} { s with pwr.refclk := false } = State.withEvent 3 { s with pwr.refclk := false } :=
      fault_of_quiet {} (by decide) (by decide) hquiet
    rw [exec_pllLockTimeout true h7, if_pos rfl, hfault]
    have hmode' : (State.withEvent 3 { s with pwr.refclk := false }).mode = .boot := hmode
    have ht : (State.withEvent 3 { s with pwr.refclk := false }).mode ≠ .trip := by rw [hmode']; decide
    have hh : (State.withEvent 3 { s with pwr.refclk := false }).mode ≠ .hold := by rw [hmode']; decide
    refine ⟨_, rfl, enterHold_mode 3 ht, ?_, ?_, ?_⟩
    · exact (enterHold_holdCause 3 ht hh).trans (if_pos h0)
    · rw [enterHold_pwr 3 ht hh]
      rfl
    · rw [State.src_eq_of_latches (enterHold_latches 3 _), State.withEvent, State.updSrc_src, if_pos rfl]
      rfl

end Sys2Proof.Machine
end

section
/-! SUPPORT. A stack that runs through BOOT before step 12, with a calm collector: every event and every raise below GRAVE leaves it
running, a takeover and the loss of a glove pair with it. -/

namespace Sys2Proof.Machine

variable {s t : State} {n : Nat}

section
variable (hfix : fixedClass n = none)
include hfix

theorem State.running.registerEvent (h : s.running) (d : EventDetail) :
    Fr 4605440 s (registerEvent n d false s).1 ∧ (registerEvent n d false s).1.running := by
  have hfr := registerEvent_mild d h.notTrip h.notHold ((h.calm.at n).mild hfix)
  have hmode := hfr.mode (by decide)
  refine ⟨hfr, hmode ▸ h.notTrip, hmode ▸ h.notHold, fun m => ?_⟩
  show (Machine.registerEvent n d false s).1.calmAt m
  by_cases hm : m = n
  · subst hm
    exact registerEvent_calmAt hfix d (h.calm.at m)
  · exact State.calmAt_congr (registerEvent_src_ne hm d false s) (h.calm.at m)

theorem State.running.raiseOnly (h : s.running) {c : Nat} (hc : c ≤ 3) (d : EventDetail) (cause : Nat) :
    Fr 4605440 s (raiseOnly n c d cause s) ∧ (raiseOnly n c d cause s).running := by
  have hfr := raiseOnly_mild (n := n) d cause h.notTrip h.notHold (show c ≠ 4 by omega) (h.calm.at n).react
  have hmode := hfr.mode (by decide)
  refine ⟨hfr, hmode ▸ h.notTrip, hmode ▸ h.notHold, fun m => ?_⟩
  show (Machine.raiseOnly n c d cause s).calmAt m
  by_cases hm : m = n
  · subst hm
    exact raiseOnly_calmAt hfix hc d cause (h.calm.at m)
  · exact State.calmAt_congr (raiseOnly_src_ne hm ..) (h.calm.at m)

end

theorem testBit_of_disjoint {m k i : Nat} (h : m &&& k = 0) (hk : k.testBit i = true) : m.testBit i = false := by
  simpa [hk] using congrArg (fun x => x.testBit i) h

theorem State.running.registered (h : s.running) (n : Nat) : (s.registered n).running := by
  refine ⟨h.notTrip, h.notHold, fun m => ?_⟩
  show (s.registered n).calmAt m
  rw [State.calmAt, State.registered, State.updSrc_src]
  split
  · next hm =>
    subst hm
    exact h.calm.at m
  · exact h.calm.at m

/-- A running stack in BOOT, before it waits for a partner. -/
structure State.booting (s : State) : Prop where
  run : s.running
  mode : s.mode = .boot
  early : s.boot.step ≠ 12

theorem State.booting.congr (h : s.booting) (hmode : t.mode = s.mode) (hstep : t.boot.step = s.boot.step)
    (hsrc : t.flt.sources = s.flt.sources) : t.booting :=
  ⟨h.run.congr hmode hsrc, hmode.trans h.mode, hstep ▸ h.early⟩

/-- An operation on other parts of the state. -/
theorem State.booting.fr {m : Nat} (h : s.booting) (hfr : Fr m s t) (hm : m &&& 1296 = 0 := by decide) : t.booting := by
  exact h.congr (hfr.mode (testBit_of_disjoint hm (by decide))) (by rw [hfr.boot (testBit_of_disjoint hm (by decide))])
    (by rw [hfr.flt (testBit_of_disjoint hm (by decide))])

theorem State.booting.of_running {m : Nat} (h : s.booting) (hfr : Fr m s t) (hrun : t.running) (hm : m &&& 272 = 0 := by decide) :
    t.booting := by
  exact ⟨hrun, (hfr.mode (testBit_of_disjoint hm (by decide))).trans h.mode,
    by rw [hfr.boot (testBit_of_disjoint hm (by decide))]; exact h.early⟩

theorem checkMinimum_of_booting (h : s.booting) : checkMinimum s = s := by
  simp [checkMinimum, h.mode, h.early]

/-- What a booting stack goes through and stays booting: of it only what the collector, a takeover touch changes, and of
that not what the collector leaves. -/
def Boots (s t : State) : Prop := Fr 30295616 s t ∧ t.booting ∧ t.ground = s.ground

theorem Boots.trans {u : State} (h : Boots s t) (h' : Boots t u) : Boots s u :=
  ⟨h.1.trans h'.1, h'.2.1, h'.2.2.trans h.2.2⟩

theorem Boots.booting (h : Boots s t) : t.booting := h.2.1
theorem Boots.ground (h : Boots s t) : t.ground = s.ground := h.2.2

theorem State.booting.refl (h : s.booting) : Boots s s := ⟨Fr.refl .., h, rfl⟩

theorem State.booting.boots {m : Nat} (h : s.booting) (hfr : Fr m s t) (hm : m &&& 804112 = 0 := by decide)
    (hm' : m ||| 30295616 = 30295616 := by decide) : Boots s t := by
  have hearly : m &&& 1296 = (m &&& 804112) &&& 1296 := by rw [Nat.and_assoc]; rfl
  have hground : m &&& 803072 = (m &&& 804112) &&& 803072 := by rw [Nat.and_assoc]; rfl
  rw [hm, Nat.zero_and] at hearly hground
  exact ⟨hfr.mono hm', h.fr hfr hearly, hfr.ground hground⟩

/-- An operation of the collector. -/
theorem State.booting.boots_of {m : Nat} (h : s.booting) (hf : Fr m s t ∧ t.running) (hground : t.ground = s.ground)
    (hm : m &&& 272 = 0 := by decide) (hm' : m ||| 30295616 = 30295616 := by decide) : Boots s t :=
  ⟨hf.1.mono hm', h.of_running hf.1 hf.2 hm, hground⟩

/-- An operation that leaves the sources. -/
theorem State.booting.boots_sources {m : Nat} (h : s.booting) (hfr : Fr m s t) (hsrc : t.flt.sources = s.flt.sources)
    (hground : t.ground = s.ground) (hm : m &&& 272 = 0 := by decide) (hm' : m ||| 30295616 = 30295616 := by decide) : Boots s t :=
  h.boots_of ⟨hfr, h.run.congr (hfr.mode (testBit_of_disjoint hm (by decide))) hsrc⟩ hground hm hm'

theorem forL_boots {α : Type} {g : α → State → State} (hg : ∀ x t, t.booting → Boots t (g x t)) (l : List α) (h : s.booting) :
    Boots s (forL l g s) := by
  induction l generalizing s with
  | nil => exact h.refl
  | cons x l ih => exact (hg x s h).trans (ih (hg x s h).booting)

theorem forN_boots {g : Nat → State → State} (hg : ∀ i t, t.booting → Boots t (g i t)) (k : Nat) (h : s.booting) :
    Boots s (forN k g s) := forL_boots hg (List.range k) h

theorem State.booting.logRecord (h : s.booting) (src cls : Nat) (forced reacted : Bool) (record detail : Nat) :
    Boots s (logRecord src cls forced reacted record detail s) :=
  h.boots_sources (logRecord_fr ..) (State.sources_of_latches (logRecord_latches ..)) (logRecord_ground ..)

theorem State.booting.sendNotice (h : s.booting) (p src cls win : Nat) : Boots s (sendNotice p src cls win s) :=
  h.boots_sources (sendNotice_fr ..) (State.sources_of_latches (sendNotice_latches ..)) ((sendNotice_fr ..).ground)

theorem fixedClass_of_glove (h : 80 ≤ n ∧ n < 176) : fixedClass n = none := by
  rw [fixedClass, if_neg (by omega), if_neg (by omega)]

/-- The loss of a pair: of a booting stack it stops the pair's work, records the loss and counts one event of each channel. -/
theorem State.booting.pairLoss (h : s.booting) {i : Nat} (hi : i < 8) : Boots s (pairLoss i s) := by
  unfold Machine.pairLoss
  extract_lets a b marked stopped logged first second book counted noticed
  have hmarked : Boots s marked :=
    h.boots (m := 8388608) (Fr.step (State.updChan_fr ..) (by decide) (State.updChan_fr ..))
  have hstopped : Boots marked stopped := forL_boots (fun q t ht => ht.boots_sources (stopPc_fr q t) (by rw [(stopPc_fr q t).flt (by decide)]) (stopPc_ground q t)) _ hmarked.booting
  have hlogged : Boots stopped logged := forL_boots (fun x t ht => ht.logRecord ..) _ hstopped.booting
  have hfirst : Boots logged first :=
    hlogged.booting.boots_of (hlogged.booting.run.registerEvent (fixedClass_of_glove (by simp only [a]; omega)) _) (registerEvent_ground ..)
  have hsecond : Boots first second :=
    hfirst.booting.boots_of (hfirst.booting.run.registerEvent (fixedClass_of_glove (by simp only [b]; omega)) _) (registerEvent_ground ..)
  have hcounted : Boots second counted := hsecond.booting.boots_sources (m := 262144) (Fr.u262144 (Fr.refl ..) (by decide)) rfl rfl
  have hnoticed : Boots counted noticed := by
    refine forN_boots (fun p t ht => ?_) 16 hcounted.booting
    split
    · exact ht.sendNotice ..
    · exact ht.refl
  rw [checkMinimum_of_booting hnoticed.booting]
  exact ((((((hmarked.trans hstopped).trans hlogged).trans hfirst).trans hsecond).trans hcounted).trans hnoticed)

theorem State.booting.takeover (h : s.booting) {k src : Nat} (hk : k < 16) (hfix : fixedClass src = none) :
    Boots s (Machine.takeover k src s) := by
  unfold Machine.takeover
  extract_lets m taken shrunk
  have hshrunk : Boots s shrunk := by
    have htaken : Fr 8912960 s shrunk :=
      Fr.step (shrinkCause_fr ..) (by decide) (Fr.u64 (Fr.step (State.updChan_fr ..) (by decide) ((State.updChan_fr ..).mono (by decide))) (by decide))
    exact h.boots_sources htaken rfl rfl
  split_ifs
  · exact h.refl
  · exact h.pairLoss (by omega)
  · exact hshrunk.trans (hshrunk.booting.boots_of (hshrunk.booting.run.raiseOnly hfix (by decide) _ _) (raiseOnly_ground ..))

theorem State.booting.gloveReaction (h : s.booting) (hfix : fixedClass n = none) : Boots s (gloveReaction n s) := by
  unfold Machine.gloveReaction
  split
  · extract_lets k m
    split
    · exact h.takeover (by omega) hfix
    · exact h.refl
  · exact h.refl

theorem State.booting.perEvent (h : s.booting) (hfix : fixedClass n = none) (d : EventDetail) : Boots s (perEvent n d s) := by
  by_cases hg : 80 ≤ n ∧ n < 176
  · unfold Machine.perEvent
    rw [if_neg (by omega), if_pos hg]
    dsimp only
    split
    · exact h.boots (State.updPc_fr ..)
    · exact h.boots (State.updPc_fr ..)
    · exact h.takeover (k := (n - 80) / 6) (by omega) hfix
    · exact h.takeover (k := (n - 80) / 6) (by omega) hfix
    · exact h.refl
  · exact h.boots_sources (perEvent_fr_of_noGlove hg d s) (State.sources_of_latches (perEvent_latches_of_noGlove hg d s)) (perEvent_ground ..)

/-- One event of any source whose class is not fixed leaves a booting stack booting. -/
theorem State.booting.fault (h : s.booting) (hfix : fixedClass n = none) (d : EventDetail) : Boots s (fault n d s) := by
  cases hoff : s.collectorOff with
  | true =>
    have hfr := fault_fr_of_off (n := n) d hoff
    exact h.boots_of ⟨hfr, hfr.mode (by decide) ▸ h.run.notTrip, hfr.mode (by decide) ▸ h.run.notHold,
      fun m => State.calmAt_congr (fault_src_of_off d hoff m) (h.run.calm.at m)⟩ (fault_ground ..)
  | false =>
    have hreg : Boots s (registerEvent n d false s).1 := h.boots_of (h.run.registerEvent hfix d) (registerEvent_ground ..)
    unfold Machine.fault
    rw [if_neg (by rw [hoff]; exact Bool.false_ne_true)]
    extract_lets r u
    have hu : Boots s u := by
      unfold u
      split
      · exact hreg.trans (hreg.booting.gloveReaction hfix)
      · exact hreg
    split
    · exact hu.trans (hu.booting.perEvent hfix d)
    · exact hu

theorem State.booting.raiseFault (h : s.booting) (hfix : fixedClass n = none) {c : Nat} (hc : c ≤ 3) (d : EventDetail) (cause : Nat) :
    Boots s (raiseFault n c d cause s) := by
  unfold Machine.raiseFault
  split
  · exact h.refl
  · split
    · extract_lets registered raised reacted
      have hregistered : Boots s registered :=
        h.boots_of ⟨s.registered_otherFr n, h.run.registered n⟩ rfl
      have hraised : Boots registered raised := hregistered.booting.boots_of (hregistered.booting.run.raiseOnly hfix hc d cause) (raiseOnly_ground ..)
      have hreacted := hraised.booting.gloveReaction hfix
      exact ((hregistered.trans hraised).trans hreacted).trans (hreacted.booting.perEvent hfix d)
    · rw [if_neg (by omega)]
      exact h.fault hfix d

end Sys2Proof.Machine
end

section
/-! SUPPORT. The readings of BOOT: what each of them changes of what the sensors hold, of the power of the layers, and of what is found. -/

namespace Sys2Proof.Machine

variable {s t : State} {a : State × Found} {layer base : Int}

/-- A sensor by its kind (a layer's A or B, or one of the base die) and its number. -/
inductive Sensor where
  | a (k : Nat)
  | b (k : Nat)
  | base (i : Nat)
deriving DecidableEq

/-- The sensor that a reading names. -/
def placeOf : SensorId → Sensor
  | .layerA k => .a k.val
  | .layerB k => .b k.val
  | .base i => .base i.val

/-- The value that a sensor holds. -/
def State.held (s : State) : Sensor → Option Int
  | .a k => (s.layer k).sensA
  | .b k => (s.layer k).sensB
  | .base i => (s.baseSensor i).reading

/-- A sensor whose readings are taken: one of the base die, or of a powered layer. -/
def State.reads (s : State) : Sensor → Bool
  | .a k | .b k => (s.layer k).powered
  | .base _ => true

/-- The 2 °C that a bad reference adds (R364). -/
def State.bias (s : State) : Int := if s.thm.vrefBad then 8 else 0

/-- The limit of a sensor, by where it stands. -/
def Sensor.limit (layer base : Int) : Sensor → Int
  | .base _ => degC base
  | _ => degC layer

theorem State.heldBelow_iff : s.heldBelow layer base ↔
    (∀ k, (s.layer k).temp < degC layer) ∧ ∀ x v, s.held x = some v → v < x.limit layer base := by
  constructor
  · rintro ⟨hlayer, hbase⟩
    refine ⟨fun k => (hlayer k).1, fun x v hv => ?_⟩
    cases x with
    | a k => exact (hlayer k).2.1 v hv
    | b k => exact (hlayer k).2.2 v hv
    | base i => exact hbase i v hv
  · rintro ⟨htemp, hheld⟩
    exact ⟨fun k => ⟨htemp k, hheld (.a k), hheld (.b k)⟩, fun i => hheld (.base i)⟩

/-- What the readings leave: the temperatures in use, the power of the layers, the reference. -/
structure Reads (s t : State) : Prop where
  fr : Fr 67110912 s t
  temp : ∀ k, (t.layer k).temp = (s.layer k).temp
  powered : ∀ k, (t.layer k).powered = (s.layer k).powered
  vrefBad : t.thm.vrefBad = s.thm.vrefBad

theorem Reads.refl (s : State) : Reads s s := ⟨Fr.refl .., fun _ => rfl, fun _ => rfl, rfl⟩
theorem Reads.trans {u : State} (h : Reads s t) (h' : Reads t u) : Reads s u :=
  ⟨h.fr.trans h'.fr, fun k => (h'.temp k).trans (h.temp k), fun k => (h'.powered k).trans (h.powered k), h'.vrefBad.trans h.vrefBad⟩

theorem Reads.reads (h : Reads s t) (x : Sensor) : t.reads x = s.reads x := by
  cases x with
  | a k => exact h.powered k
  | b k => exact h.powered k
  | base i => rfl

theorem Reads.updLayer (s : State) (k : Nat) {f : Layer → Layer} (hf : ∀ x, (f x).temp = x.temp ∧ (f x).powered = x.powered) :
    Reads s (s.updLayer k f) := by
  refine ⟨(s.updLayer_fr ..).mono (by decide), fun j => ?_, fun j => ?_, rfl⟩
  · rw [State.updLayer_layer]
    split
    · next h => rw [h, (hf _).1]
    · rfl
  · rw [State.updLayer_layer]
    split
    · next h => rw [h, (hf _).2]
    · rfl

/-- Base-die sensor i set. -/
def State.setSensor (s : State) (i : Nat) (x : BaseSensor) : State := { s with thm.sensors := tabSet {} s.thm.sensors i x }

theorem Reads.setSensor (s : State) (i : Nat) (x : BaseSensor) : Reads s (s.setSensor i x) :=
  ⟨Fr.u2048 (Fr.refl ..) (by decide), fun _ => rfl, fun _ => rfl, rfl⟩

theorem State.setSensor_baseSensor (s : State) (i j : Nat) (x : BaseSensor) :
    (s.setSensor i x).baseSensor j = if j = i then x else s.baseSensor j := tabGet_tabSet ..

/-- A layer's record changed: what its sensors hold. -/
theorem State.updLayer_held (s : State) (k : Nat) (f : Layer → Layer) (x : Sensor) : (s.updLayer k f).held x =
    if x = .a k then (f (s.layer k)).sensA else if x = .b k then (f (s.layer k)).sensB else s.held x := by
  cases x with
  | a j => by_cases h : j = k <;> simp [State.held, h]
  | b j => by_cases h : j = k <;> simp [State.held, h]
  | base i => simp [State.held, State.baseSensor]

theorem State.setSensor_held (s : State) (i : Nat) (y : BaseSensor) (x : Sensor) : (s.setSensor i y).held x =
    if x = .base i then y.reading else s.held x := by
  cases x with
  | a j => simp [State.held, State.setSensor, State.layer]
  | b j => simp [State.held, State.setSensor, State.layer]
  | base j => by_cases h : j = i <;> simp [State.held, State.setSensor_baseSensor, h]

/-! ## A marking -/

/-- Nothing but failed conversions and marked sensors was found. -/
structure Found.cold (f : Found) : Prop where
  warn : f.warn = []
  throttle : f.throttle = []
  trip : f.trip = []
  baseLevels : f.baseLevels = []
  model : f.model = false
  lost : f.lost = []

/-- A step of a sample that changes no reading. -/
structure Marks (a b : State × Found) : Prop where
  reads : Reads a.1 b.1
  held : ∀ x, b.1.held x = a.1.held x
  cold : a.2.cold → b.2.cold

theorem Marks.refl (a : State × Found) : Marks a a := ⟨Reads.refl _, fun _ => rfl, id⟩
theorem Marks.trans {b c : State × Found} (h : Marks a b) (h' : Marks b c) : Marks a c :=
  ⟨h.reads.trans h'.reads, fun x => (h'.held x).trans (h.held x), h'.cold ∘ h.cold⟩

/-- A record of a layer changed but for its temperatures and its power. -/
theorem Marks.updLayer (a : State × Found) (k : Nat) {f : Layer → Layer} {g : Found}
    (hf : ∀ x, (f x).temp = x.temp ∧ (f x).powered = x.powered ∧ (f x).sensA = x.sensA ∧ (f x).sensB = x.sensB)
    (hg : a.2.cold → g.cold) : Marks a (a.1.updLayer k f, g) := by
  refine ⟨Reads.updLayer _ _ fun x => ⟨(hf x).1, (hf x).2.1⟩, fun x => ?_, hg⟩
  rw [State.updLayer_held]
  split_ifs with h h
  · rw [(hf _).2.2.1, h, State.held]
  · rw [(hf _).2.2.2, h, State.held]
  · rfl

theorem Marks.setSensor (a : State × Found) (i : Nat) {y : BaseSensor} {g : Found} (hy : y.reading = (a.1.baseSensor i).reading)
    (hg : a.2.cold → g.cold) : Marks a (a.1.setSensor i y, g) := by
  refine ⟨Reads.setSensor .., fun x => ?_, hg⟩
  rw [State.setSensor_held]
  split
  · next h => rw [hy, h, State.held]
  · rfl

theorem Found.cold.conv {f : Found} (h : f.cold) (n : Nat) : Found.cold { f with conv := n } := ⟨h.1, h.2, h.3, h.4, h.5, h.6⟩
theorem Found.cold.layerMarks {f : Found} (h : f.cold) (l : List (Nat × Int)) : Found.cold { f with layerMarks := l } :=
  ⟨h.1, h.2, h.3, h.4, h.5, h.6⟩
theorem Found.cold.baseMarks {f : Found} (h : f.cold) (l : List (Nat × Int)) : Found.cold { f with baseMarks := l } :=
  ⟨h.1, h.2, h.3, h.4, h.5, h.6⟩

theorem markLayer_marks (k : Nat) (b : Bool) (a : State × Found) : Marks a (markLayer k b a) := by
  unfold markLayer
  by_cases hs : (if b then (a.1.layer k).suspectB else (a.1.layer k).suspectA) = true
  · exact (if_pos hs).symm ▸ Marks.refl a
  · refine (if_neg hs).symm ▸ Marks.updLayer a k (fun x => ?_) fun h => h.layerMarks _
    cases b <;> exact ⟨rfl, rfl, rfl, rfl⟩

theorem markBase_marks (i : Nat) (a : State × Found) : Marks a (markBase i a) := by
  unfold markBase
  by_cases hs : (a.1.baseSensor i).suspect = true
  · exact (if_pos hs).symm ▸ Marks.refl a
  · exact (if_neg hs).symm ▸ Marks.setSensor a i (y := { a.1.baseSensor i with suspect := true, div := none }) rfl fun h => h.baseMarks _

/-! ## A reading -/

/-- A failed conversion changes no reading. -/
theorem takeReading_none (a : State × Found) (x : SensorId) : Marks a (takeReading a { sensor := x, value := none }) := by
  cases x with
  | layerA k =>
    unfold takeReading
    dsimp only
    split
    · exact Marks.refl a
    · have hfail : Marks a (a.1.updLayer k.val (fun x => { x with failA := x.failA + 1 }), { a.2 with conv := a.2.conv + 1 }) :=
        Marks.updLayer a k.val (fun _ => ⟨rfl, rfl, rfl, rfl⟩) fun h => h.conv _
      split
      · exact hfail.trans (markLayer_marks ..)
      · exact hfail
  | layerB k =>
    unfold takeReading
    dsimp only
    split
    · exact Marks.refl a
    · have hfail : Marks a (a.1.updLayer k.val (fun x => { x with failB := x.failB + 1 }), { a.2 with conv := a.2.conv + 1 }) :=
        Marks.updLayer a k.val (fun _ => ⟨rfl, rfl, rfl, rfl⟩) fun h => h.conv _
      split
      · exact hfail.trans (markLayer_marks ..)
      · exact hfail
  | base i =>
    have hfail : Marks a (a.1.setSensor i.val { a.1.baseSensor i.val with fail := (a.1.baseSensor i.val).fail + 1 },
        { a.2 with conv := a.2.conv + 1 }) :=
      Marks.setSensor a i.val rfl fun h => h.conv _
    unfold takeReading
    dsimp only
    split
    · exact hfail.trans (markBase_marks ..)
    · exact hfail

/-- A reading whose sensor reads is held, with what a bad reference adds. -/
theorem takeReading_some (a : State × Found) (x : SensorId) (v : Temp) :
    Reads a.1 (takeReading a { sensor := x, value := some v }).1 ∧ (takeReading a { sensor := x, value := some v }).2 = a.2 ∧
      ∀ y, (takeReading a { sensor := x, value := some v }).1.held y =
        if y = placeOf x ∧ a.1.reads (placeOf x) then some (v.val + a.1.bias) else a.1.held y := by
  cases x with
  | layerA k =>
    unfold takeReading
    dsimp only
    split
    · next hp =>
      refine ⟨Reads.updLayer a.1 k.val (f := fun x => { x with sensA := some (v.val + a.1.bias), failA := 0 }) (fun _ => ⟨rfl, rfl⟩),
        rfl, fun y => ?_⟩
      have hr : a.1.reads (.a k.val) = true := hp
      refine (State.updLayer_held a.1 k.val (fun x => { x with sensA := some (v.val + a.1.bias), failA := 0 }) y).trans ?_
      simp only [placeOf, hr, and_true]
      split_ifs with ha hb
      · rfl
      · rw [hb, State.held]
      · rfl
    · next hp =>
      have hr : a.1.reads (placeOf (.layerA k)) = false := Bool.eq_false_iff.2 hp
      exact ⟨Reads.refl _, rfl, fun y => by rw [if_neg fun h => by rw [hr] at h; exact absurd h.2 Bool.false_ne_true]⟩
  | layerB k =>
    unfold takeReading
    dsimp only
    split
    · next hp =>
      refine ⟨Reads.updLayer a.1 k.val (f := fun x => { x with sensB := some (v.val + a.1.bias), failB := 0 }) (fun _ => ⟨rfl, rfl⟩),
        rfl, fun y => ?_⟩
      have hr : a.1.reads (.b k.val) = true := hp
      refine (State.updLayer_held a.1 k.val (fun x => { x with sensB := some (v.val + a.1.bias), failB := 0 }) y).trans ?_
      simp only [placeOf, hr, and_true]
      split_ifs with ha hb hb
      · exact absurd (ha.symm.trans hb) Sensor.noConfusion
      · rw [ha, State.held]
      · rfl
      · rfl
    · next hp =>
      have hr : a.1.reads (placeOf (.layerB k)) = false := Bool.eq_false_iff.2 hp
      exact ⟨Reads.refl _, rfl, fun y => by rw [if_neg fun h => by rw [hr] at h; exact absurd h.2 Bool.false_ne_true]⟩
  | base i =>
    refine ⟨Reads.setSensor a.1 i.val { a.1.baseSensor i.val with reading := some (v.val + a.1.bias), fail := 0 }, rfl, fun y => ?_⟩
    refine (State.setSensor_held a.1 i.val { a.1.baseSensor i.val with reading := some (v.val + a.1.bias), fail := 0 } y).trans ?_
    exact if_congr ⟨fun h => ⟨h, rfl⟩, And.left⟩ rfl rfl

/-- One reading: what it leaves, and what the sensors hold after it. -/
theorem takeReading_reads (a : State × Found) (r : SensorReading) : Reads a.1 (takeReading a r).1 := by
  obtain ⟨x, value⟩ := r
  cases value with
  | none => exact (takeReading_none a x).reads
  | some v => exact (takeReading_some a x v).1

theorem takeReading_cold (r : SensorReading) (h : a.2.cold) : (takeReading a r).2.cold := by
  obtain ⟨x, value⟩ := r
  cases value with
  | none => exact (takeReading_none a x).cold h
  | some v => exact (takeReading_some a x v).2.1.symm ▸ h

theorem takeReading_held_ne (a : State × Found) {r : SensorReading} {y : Sensor} (h : y ≠ placeOf r.sensor) :
    (takeReading a r).1.held y = a.1.held y := by
  obtain ⟨x, value⟩ := r
  cases value with
  | none => exact (takeReading_none a x).held y
  | some v => exact ((takeReading_some a x v).2.2 y).trans (if_neg fun hc => h hc.1)

/-- A value held after a reading was held before, or is the reading's. -/
theorem takeReading_held (a : State × Found) (r : SensorReading) {y : Sensor} {v : Int} (h : (takeReading a r).1.held y = some v) :
    a.1.held y = some v ∨ (y = placeOf r.sensor ∧ ∃ w, r.value = some w ∧ v = w.val + a.1.bias) := by
  obtain ⟨x, value⟩ := r
  cases value with
  | none => exact .inl (((takeReading_none a x).held y).symm.trans h)
  | some w =>
    rw [(takeReading_some a x w).2.2 y] at h
    split at h
    · next hy => exact .inr ⟨hy.1, w, rfl, (Option.some.inj h).symm⟩
    · exact .inl h

theorem Reads.bias (h : Reads s t) : t.bias = s.bias := by rw [State.bias, h.vrefBad, State.bias]

/-! ## The readings of a sample -/

theorem foldl_takeReading_reads (l : List SensorReading) (a : State × Found) : Reads a.1 (l.foldl takeReading a).1 := by
  induction l generalizing a with
  | nil => exact Reads.refl _
  | cons r l ih => exact (takeReading_reads a r).trans (ih _)

theorem foldl_takeReading_cold (l : List SensorReading) (h : a.2.cold) : (l.foldl takeReading a).2.cold := by
  induction l generalizing a with
  | nil => exact h
  | cons r l ih => exact ih (takeReading_cold r h)

/-- Readings below the limits keep what the sensors hold below them. -/
theorem foldl_takeReading_heldBelow {l : List SensorReading} (hl : readingsBelow layer base l) (h : a.1.heldBelow layer base) :
    (l.foldl takeReading a).1.heldBelow layer base := by
  induction l generalizing a with
  | nil => exact h
  | cons r l ih =>
    refine ih (fun x hx => hl x (List.mem_cons_of_mem r hx)) (State.heldBelow_iff.2 ⟨fun k => ?_, fun x v hv => ?_⟩)
    · rw [(takeReading_reads a r).temp]
      exact (State.heldBelow_iff.1 h).1 k
    · obtain hold | ⟨rfl, w, hw, rfl⟩ := takeReading_held a r hv
      · exact (State.heldBelow_iff.1 h).2 x v hold
      · have hlim := hl r List.mem_cons_self w hw
        have hbias : a.1.bias ≤ 8 := by unfold State.bias; split <;> decide
        have : w.val + 8 < (placeOf r.sensor).limit layer base := by
          obtain ⟨⟨⟩, value⟩ := r <;> exact hlim
        omega

/-- Readings of other sensors leave what a sensor holds. -/
theorem foldl_takeReading_held_ne {l : List SensorReading} {y : Sensor} (h : ∀ r ∈ l, y ≠ placeOf r.sensor) (a : State × Found) :
    (l.foldl takeReading a).1.held y = a.1.held y := by
  induction l generalizing a with
  | nil => rfl
  | cons r l ih =>
    rw [List.foldl_cons, ih (fun x hx => h x (List.mem_cons_of_mem r hx)), takeReading_held_ne a (h r List.mem_cons_self)]

theorem placeOf_injective : Function.Injective placeOf := by
  rintro (x | x | x) (y | y | y) h
  all_goals simp_all [placeOf, Fin.ext_iff]

/-- A reading of a sensor that reads, the only one of it, stands at the end of the sample. -/
theorem foldl_takeReading_held {l : List SensorReading} {x : SensorId} {v : Temp} (hl : (l.map (·.sensor)).Nodup)
    (hx : { sensor := x, value := some v } ∈ l) (hr : a.1.reads (placeOf x) = true) :
    (l.foldl takeReading a).1.held (placeOf x) = some (v.val + a.1.bias) := by
  induction l generalizing a with
  | nil => exact absurd hx List.not_mem_nil
  | cons r l ih =>
    rw [List.map_cons, List.nodup_cons] at hl
    obtain ⟨hnot, hnodup⟩ := hl
    rw [List.foldl_cons]
    rcases List.mem_cons.1 hx with rfl | hmem
    · rw [foldl_takeReading_held_ne (fun r hr h => hnot (List.mem_map.2 ⟨r, hr, (placeOf_injective h).symm⟩)),
        (takeReading_some a x v).2.2, if_pos ⟨rfl, hr⟩]
    · rw [ih hnodup hmem (by rw [(takeReading_reads a r).reads]; exact hr), (takeReading_reads a r).bias]

end Sys2Proof.Machine
end

section
/-! SUPPORT. What the collector does about failed conversions and marked sensors, and the thermal gate of BOOT. -/

namespace Sys2Proof.Machine

variable {s t : State} {n : Nat}

/-- Events and alerts of a running stack: it runs on, and no reading, no layer, no setting of the thermal unit and no source from 229 on
changes. -/
structure Acts (s t : State) : Prop where
  fr : Fr 4607488 s t
  running : t.running
  ground : t.ground = s.ground
  thm : t.thm = { s.thm with alert := t.thm.alert }
  others : ∀ m, 229 ≤ m → t.src m = s.src m

theorem State.running.acts (h : s.running) : Acts s s := ⟨Fr.refl .., h, rfl, rfl, fun _ _ => rfl⟩

theorem Acts.trans {u : State} (h : Acts s t) (h' : Acts t u) : Acts s u :=
  ⟨h.fr.trans h'.fr, h'.running, h'.ground.trans h.ground, by rw [h'.thm, h.thm], fun m hm => (h'.others m hm).trans (h.others m hm)⟩

/-- An operation of the collector alone. -/
theorem State.running.acts_of (hfr : Fr 4605440 s t) (hrun : t.running) (hground : t.ground = s.ground)
    (hsrc : ∀ m, 229 ≤ m → t.src m = s.src m) : Acts s t :=
  ⟨hfr.mono (by decide), hrun, hground, by rw [hfr.thm (by decide)], hsrc⟩

theorem State.running.updSrc (h : s.running) (n : Nat) {f : Source → Source} (hf : ∀ x, (f x).react = x.react ∧ (f x).cls = x.cls) :
    (s.updSrc n f).running := by
  refine ⟨h.notTrip, h.notHold, fun m => ?_⟩
  show (s.updSrc n f).calmAt m
  rw [State.calmAt, State.updSrc_src]
  split
  · next hm =>
    subst hm
    rw [(hf _).1, (hf _).2]
    exact h.calm.at m
  · exact h.calm.at m

theorem State.running.acts_updSrc (h : s.running) (hlt : n < 229) {f : Source → Source}
    (hf : ∀ x, (f x).react = x.react ∧ (f x).cls = x.cls) : Acts s (s.updSrc n f) :=
  State.running.acts_of (State.updSrc_otherFr ..) (h.updSrc n hf) rfl fun m hm => by rw [State.updSrc_src, if_neg (by omega)]

theorem State.running.setThmAlert (h : s.running) (m : BitVec 6) : Acts s (setThmAlert m s) := by
  unfold Machine.setThmAlert
  split
  · exact h.acts
  · refine ⟨Fr.step (attend_fr _) (by decide) (Fr.u2048 (Fr.refl ..) (by decide)), h.congr ((attend_fr _).mode (by decide)) ?_,
      (attend_fr _).ground, ?_, fun m _ => (attend_fr _).src (by decide) m⟩
    · rw [(attend_fr _).flt (by decide)]
    · rw [(attend_fr _).thm (by decide)]

theorem forN_acts {g : Nat → State → State} {k : Nat} (hg : ∀ i t, i < k → t.running → Acts t (g i t)) (h : s.running) :
    Acts s (forN k g s) := by
  induction k with
  | zero => exact h.acts
  | succ k ih =>
    have hk := ih fun i t hi => hg i t (Nat.lt_succ_of_lt hi)
    rw [forN_succ]
    exact hk.trans (hg k _ (Nat.lt_succ_self k) hk.running)

section
variable (hn : noGlove n) (hfix : fixedClass n = none) (hlt : n < 229)
include hn hfix hlt

theorem State.running.faultMany (h : s.running) (k : Nat) (d : EventDetail) : Acts s (faultMany n k d s) := by
  unfold Machine.faultMany
  split
  · exact h.acts
  · have hfault : Acts s (Machine.fault n d s) := State.running.acts_of (h.fault_fr hn hfix d) (h.fault hn hfix d) (fault_ground ..)
      fun m hm => fault_src_ne hn (by omega) ..
    exact hfault.trans (hfault.running.acts_updSrc hlt fun _ => ⟨rfl, rfl⟩)

theorem State.running.markEvents (h : s.running) (l : List (Nat × Int)) : Acts s (markEvents n l s) := by
  cases l with
  | nil => exact h.acts
  | cons x l =>
    have hraise : Acts s (Machine.raiseFault n 2 { cause := BitVec.ofNat 8 x.1, temp := BitVec.ofInt 11 x.2 } 1 s) :=
      State.running.acts_of (h.raiseFault_fr hn hfix (by decide) ..) (h.raiseFault hn hfix (by decide) ..) (raiseFault_ground ..)
        fun m hm => raiseFault_src_ne hn (by omega) ..
    exact hraise.trans (hraise.running.acts_updSrc hlt (f := fun y => { y with total := satAdd y.total l.length }) fun _ => ⟨rfl, rfl⟩)

end

/-- What a sample found, where that is failures and marked sensors only. -/
theorem State.running.actOn (h : s.running) {f : Found} (hf : f.cold) : Acts s (actOn f s) := by
  have htrips : f.trips s.thm.baseTemp = [] := by simp [Found.trips, hf.trip, hf.baseLevels]
  have hfirst : tripFirst f s = s := by rw [tripFirst, htrips]
  unfold Machine.actOn
  rw [hfirst]
  unfold actRest
  extract_lets bl m alerted warned tripped based marked modelled
  have halerted : Acts s alerted := forN_acts (fun i t _ ht => by
    split
    · exact ht.setThmAlert _
    · exact ht.acts) h
  have hbl : ∀ l, bl l = [] := fun l => by simp [bl, hf.baseLevels]
  have hwarned : warned = alerted := by simp only [warned, hf.warn, hf.throttle]; rfl
  have htripped : tripped = alerted := by simp only [tripped, hf.trip, List.map_nil]; exact hwarned
  have hbased : based = alerted := by simp only [based, hbl]; exact htripped
  have hbasedActs : Acts s based := hbased.symm ▸ halerted
  have hmarked : Acts s marked := by
    have hlayer : Acts based (Machine.markEvents 218 f.layerMarks based) := hbasedActs.running.markEvents (noGlove_of_le (by decide)) rfl (by decide) _
    exact (hbasedActs.trans hlayer).trans (hlayer.running.markEvents (noGlove_of_le (by decide)) rfl (by decide) f.baseMarks)
  have hmodelled : modelled = marked := by simp only [modelled, hf.model]; rfl
  have hcoverage : coverageLost f.lost modelled = marked := by rw [hf.lost]; exact hmodelled
  have hlast : Acts marked (Machine.faultMany 223 f.conv {} marked) := hmarked.running.faultMany (noGlove_of_le (by decide)) rfl (by decide) ..
  rw [hcoverage, tripDown, if_neg hlast.running.notTrip]
  exact hmarked.trans hlast

/-! ## The first readings of BOOT (R93, R364) -/

variable {layer base : Int} {l : List SensorReading}

/-- The temperature of layer k by its sensors. -/
def State.hot (s : State) (k : Nat) : Int :=
  match (s.layer k).sensA, (s.layer k).sensB with
  | some u, some v => max u v
  | some u, none => u
  | none, some v => v
  | none, none => (s.layer k).temp

theorem State.hot_lt (h : s.heldBelow layer base) (k : Nat) : s.hot k < degC layer := by
  obtain ⟨htemp, ha, hb⟩ := h.1 k
  unfold State.hot
  split
  · next hu hv => exact max_lt (ha _ hu) (hb _ hv)
  · next hu _ => exact ha _ hu
  · next _ hv => exact hb _ hv
  · exact htemp

/-- The layers of a list take these temperatures. -/
theorem forL_setTemp (f : Nat → Int) (ks : List Nat) (s : State) :
    Fr 67108864 s (forL ks (fun k s => s.updLayer k (fun x => { x with temp := f k })) s) ∧
    (∀ x, (forL ks (fun k s => s.updLayer k (fun x => { x with temp := f k })) s).held x = s.held x) ∧
    (∀ k, ((forL ks (fun k s => s.updLayer k (fun x => { x with temp := f k })) s).layer k).powered = (s.layer k).powered) ∧
    ∀ k, ((forL ks (fun k s => s.updLayer k (fun x => { x with temp := f k })) s).layer k).temp =
      if k ∈ ks then f k else (s.layer k).temp := by
  induction ks generalizing s with
  | nil => exact ⟨Fr.refl .., fun _ => rfl, fun _ => rfl, fun k => (if_neg List.not_mem_nil).symm⟩
  | cons j ks ih =>
    obtain ⟨hfr, hheld, hpow, htemp⟩ := ih (s.updLayer j (fun x => { x with temp := f j }))
    refine ⟨(s.updLayer_fr ..).trans hfr, fun x => (hheld x).trans ?_, fun k => (hpow k).trans ?_, fun k => (htemp k).trans ?_⟩
    · rw [State.updLayer_held]
      split_ifs with h h
      · rw [h]; rfl
      · rw [h]; rfl
      · rfl
    · rw [State.updLayer_layer]
      split
      · next h => rw [h]
      · rfl
    · rw [State.updLayer_layer]
      by_cases hk : k = j
      · subst hk
        simp
      · simp [hk]

/-- With no reading and nothing held at a trip level, BOOT takes the readings, and the collector what failed. -/
theorem bootReadings_acts (h : s.running) (hl : readingsBelow layer base l) (hs : s.heldBelow layer base) (hlayer : layer ≤ 105)
    (hbase : base ≤ 115) : ∃ u, Fr 67110912 s u ∧ Acts u (bootReadings l s) ∧ u.heldBelow layer base ∧
      (∀ x, u.held x = (l.foldl takeReading (s, {})).1.held x) ∧ ∀ k, (u.layer k).powered = (s.layer k).powered := by
  unfold bootReadings
  extract_lets a hot got taken thm u trips warm found f
  have ha : a.1.heldBelow layer base := foldl_takeReading_heldBelow (a := (s, {})) hl hs
  have hreads : Reads s a.1 := foldl_takeReading_reads l (s, {})
  have hcold : a.2.cold := foldl_takeReading_cold l (a := (s, {})) ⟨rfl, rfl, rfl, rfl, rfl, rfl⟩
  obtain ⟨htaken, hheld, hpow, htemp⟩ := forL_setTemp hot got a.1
  have hhot : ∀ k, hot k < degC layer := State.hot_lt ha
  have hbelow : u.heldBelow layer base := by
    refine State.heldBelow_iff.2 ⟨fun k => ?_, fun x v hv => (State.heldBelow_iff.1 ha).2 x v ((hheld x).symm.trans hv)⟩
    refine lt_of_eq_of_lt (htemp k) ?_
    split
    · exact hhot k
    · exact (ha.1 k).1
  have hfr : Fr 67110912 s u := Fr.u2048 (Fr.step htaken (by decide) hreads.fr) (by decide)
  have hrun : u.running := h.congr (hfr.mode (by decide)) (by rw [hfr.flt (by decide)])
  have htrips : trips = [] := by
    refine List.filter_eq_nil_iff.2 fun k _ hk => ?_
    have hlim := (hbelow.1 k).1
    have hk' : degC 105 ≤ (u.layer k).temp := of_decide_eq_true (Bool.and_eq_true_iff.1 hk).2
    simp only [degC] at hk' hlim
    omega
  have hwarm : warm = false := by
    refine List.any_eq_false.2 fun i _ hi => ?_
    cases hv : (u.baseSensor i).reading with
    | none => simp [hv] at hi
    | some v =>
      have hlim := hbelow.2 i v hv
      simp only [hv, Option.any_some, decide_eq_true_eq] at hi
      simp only [degC] at hi hlim
      omega
  have hf : f.cold := ⟨hcold.warn, hcold.throttle, by simp [f, htrips], by simp [f, hwarm], hcold.model, hcold.lost⟩
  exact ⟨u, hfr, hrun.actOn hf, hbelow, hheld, fun k => (hpow k).trans (hreads.powered k)⟩

/-! ## The thermal gate (R93, R367) -/

/-- A sensor stands at or above its Warning level less the hysteresis. -/
def State.gateWaits (s : State) : Bool :=
  (List.range 18).any (fun k => (s.layer k).powered &&
      ((s.layer k).sensA.any (fun v => decide (degC 82 ≤ v)) || (s.layer k).sensB.any (fun v => decide (degC 82 ≤ v))))
    || (List.range 16).any (fun i => (s.baseSensor i).reading.any (fun v => decide (degC 92 ≤ v)))

theorem exec_thermalGate_eq (l : List SensorReading) (h9 : s.atStep 9 = true) : exec (.thermalGate l) s =
    if (bootReadings l s).mode ≠ .boot then .next (bootReadings l s)
    else if (bootReadings l s).gateWaits then .next { bootReadings l s with boot.thermalWait := true }
    else .next { setModel (bootReadings l s) with boot.thermalWait := false, boot.step := 10 } :=
  if_pos h9

theorem Option.any_le_eq_false {o : Option Int} {lim : Int} (h : ∀ v, o = some v → v < lim) : o.any (fun v => decide (lim ≤ v)) = false := by
  cases o with
  | none => rfl
  | some v => simpa using h v rfl

theorem State.gateWaits_of_below (h : s.heldBelow 82 92) : s.gateWaits = false := by
  have hlayer : ∀ k, (s.layer k).sensA.any (fun v => decide (degC 82 ≤ v)) = false ∧ (s.layer k).sensB.any (fun v => decide (degC 82 ≤ v)) = false :=
    fun k => ⟨Option.any_le_eq_false (h.1 k).2.1, Option.any_le_eq_false (h.1 k).2.2⟩
  have hbase : ∀ i, (s.baseSensor i).reading.any (fun v => decide (degC 92 ≤ v)) = false := fun i => Option.any_le_eq_false (h.2 i)
  simp [State.gateWaits, hlayer, hbase]

/-- A sensor that reads holds a value at or above its limit. -/
theorem State.gateWaits_of_held {x : SensorId} {v : Int} (hv : s.held (placeOf x) = some v) (hr : s.reads (placeOf x) = true)
    (hlim : (placeOf x).limit 82 92 ≤ v) : s.gateWaits = true := by
  unfold State.gateWaits
  rw [Bool.or_eq_true, List.any_eq_true, List.any_eq_true]
  cases x with
  | layerA k =>
    refine .inl ⟨k.val, List.mem_range.2 k.isLt, ?_⟩
    have hk : (s.layer k.val).powered = true := hr
    have hs : (s.layer k.val).sensA = some v := hv
    simpa [hk, hs] using .inl hlim
  | layerB k =>
    refine .inl ⟨k.val, List.mem_range.2 k.isLt, ?_⟩
    have hk : (s.layer k.val).powered = true := hr
    have hs : (s.layer k.val).sensB = some v := hv
    simpa [hk, hs] using .inr hlim
  | base i =>
    refine .inr ⟨i.val, List.mem_range.2 i.isLt, ?_⟩
    have hs : (s.baseSensor i.val).reading = some v := hv
    have hge : degC 92 ≤ v := hlim
    simpa [hs] using hge

theorem Acts.layer_eq (h : Acts s t) (k : Nat) : t.layer k = s.layer k := by rw [State.layer, h.fr.layers (by decide), State.layer]

theorem Acts.baseSensor (h : Acts s t) (i : Nat) : t.baseSensor i = s.baseSensor i := by rw [State.baseSensor, h.thm, State.baseSensor]

theorem Acts.held (h : Acts s t) (x : Sensor) : t.held x = s.held x := by
  cases x with
  | a k => rw [State.held, h.layer_eq, State.held]
  | b k => rw [State.held, h.layer_eq, State.held]
  | base i => rw [State.held, h.baseSensor, State.held]

theorem Acts.heldBelow (h : Acts s t) (hs : s.heldBelow layer base) : t.heldBelow layer base :=
  State.heldBelow_iff.2 ⟨fun k => by rw [h.layer_eq]; exact (hs.1 k).1, fun x v hv => (State.heldBelow_iff.1 hs).2 x v ((h.held x).symm.trans hv)⟩

theorem setModel_thm (s : State) : (setModel s).thm.testFrom = some (s.now + 50000000) ∧ (setModel s).thm.modelDiv = [] := by
  unfold setModel
  extract_lets filled
  have hfr : Fr 67108864 s filled := by
    refine Fr.forN (fun k t => ?_) 18 (Fr.refl ..)
    dsimp only
    split
    · exact Fr.refl ..
    · exact t.updLayer_fr ..
  exact ⟨by rw [hfr.now (by decide)], rfl⟩

/-- Settles O11: the readings are taken (`bootReadings_acts`), and the gate looks at what the sensors hold. -/
theorem thermalGateWaitsForCoolSensors : Obligations.ThermalGateWaitsForCoolSensors := by
  refine ⟨fun l s h9 hcalm hl hs => ?passes, fun l x v s h9 hcalm hl hs hok hx hhot => ?waits⟩
  case passes =>
    obtain ⟨u, hu, hacts, hbelow, -, -⟩ := bootReadings_acts (State.running_of_calm h9 hcalm) hl hs (by decide) (by decide)
    have hmode : (bootReadings l s).mode = .boot :=
      (hacts.fr.mode (by decide)).trans ((hu.mode (by decide)).trans (State.mode_of_atStep h9))
    have hwait := State.gateWaits_of_below (hacts.heldBelow hbelow)
    obtain ⟨htest, hdiv⟩ := setModel_thm (bootReadings l s)
    rw [exec_thermalGate_eq l h9, if_neg (not_not_intro hmode), if_neg (by rw [hwait]; exact Bool.false_ne_true)]
    have hset : (setModel (bootReadings l s)).mode = .boot := ((setModel_fr (bootReadings l s)).mode (by decide)).trans hmode
    rw [hacts.fr.now (by decide), hu.now (by decide)] at htest
    generalize setModel (bootReadings l s) = m at hset htest hdiv
    exact ⟨_, rfl, hset, rfl, rfl, htest, hdiv⟩
  case waits =>
    obtain ⟨u, hu, hacts, -, hheld, hpow⟩ := bootReadings_acts (State.running_of_calm h9 hcalm) hl hs (by decide) (by decide)
    have hmode : (bootReadings l s).mode = .boot :=
      (hacts.fr.mode (by decide)).trans ((hu.mode (by decide)).trans (State.mode_of_atStep h9))
    have hreads : s.reads (placeOf x) = true ∧ (placeOf x).limit 82 92 ≤ v.val := by
      cases x with
      | layerA k => exact hhot
      | layerB k => exact hhot
      | base i => exact ⟨rfl, hhot⟩
    have hvalue : (bootReadings l s).held (placeOf x) = some (v.val + s.bias) := by
      rw [hacts.held, hheld]
      exact foldl_takeReading_held (a := (s, {})) (of_decide_eq_true hok) hx hreads.1
    have hread : (bootReadings l s).reads (placeOf x) = true := by
      rw [← hreads.1]
      cases x with
      | layerA k => exact (congrArg Layer.powered (hacts.layer_eq k.val)).trans (hpow k.val)
      | layerB k => exact (congrArg Layer.powered (hacts.layer_eq k.val)).trans (hpow k.val)
      | base i => rfl
    have hbias : 0 ≤ s.bias := by unfold State.bias; split <;> decide
    have hwait := State.gateWaits_of_held hvalue hread (by omega)
    rw [exec_thermalGate_eq l h9, if_neg (not_not_intro hmode), if_pos hwait]
    refine ⟨_, rfl, hmode, ?_, rfl⟩
    exact (State.step_of_ground hacts.ground).trans ((congrArg (·.step) (hu.boot (by decide))).trans (State.step_of_atStep h9))

end Sys2Proof.Machine
end

section
/-! SUPPORT. Layer initialisation and the draw of the interleave key: raises of a mild source in every mode, the repairs applied to a
stack without contents, and the end of step 8. -/

namespace Sys2Proof.Machine

open Host

variable {s t : State} {n : Nat}

/-! ## Raises of a mild source, whatever the mode -/

theorem escalate_fr_of_mild (d : EventDetail) (forced : Bool) (h : s.mild n) : Fr 4605440 s (escalate n d forced s) := by
  unfold escalate
  extract_lets c raised reacted
  have hfr : Fr 4605440 s reacted := Fr.step (reactions_fr ..) (by decide) ((State.updSrc_fr ..).mono (by decide))
  have hreact : reacted.srcReact n = s.srcReact n :=
    (srcReact_congr (State.src_eq_of_latches (reactions_latches ..) n)).trans (State.updSrc_srcReact s n (fun _ => rfl))
  rw [if_neg h.2, holdReaction_of_mild d forced (hreact ▸ h.1)]
  exact hfr

theorem registerEvent_fr_of_mild (d : EventDetail) (h : s.mild n) : Fr 4605440 s (registerEvent n d false s).1 := by
  have hcounted := s.counted_otherFr n false
  have hmild : (s.counted n false).mild n := ⟨(s.counted_srcReact n false).symm ▸ h.1, (s.counted_srcClass n false).symm ▸ h.2⟩
  exact registerEvent_cases n d false s (fun _ => Fr.refl ..) (fun _ => s.updSrc_otherFr ..)
    (fun _ _ => hcounted.trans (escalate_fr_of_mild d false hmild)) (fun h => absurd h Bool.false_ne_true) (fun _ => hcounted)

theorem fault_fr_of_mild (hn : noGlove n) (d : EventDetail) (h : s.mild n) : Fr 4605440 s (fault n d s) := by
  cases hoff : s.collectorOff with
  | true => exact (fault_fr_of_off d hoff).mono (by decide)
  | false =>
    rw [fault_eq_of_noGlove hn d hoff]
    split
    · exact (registerEvent_fr_of_mild d h).trans ((perEvent_fr_of_noGlove hn ..).mono (by decide))
    · exact registerEvent_fr_of_mild d h

theorem raiseOnly_fr_of_mild {c : Nat} (d : EventDetail) (cause : Nat) (hc : c ≠ 4) (h : (s.srcReact n).testBit 8 = false) :
    Fr 4605440 s (raiseOnly n c d cause s) := by
  unfold raiseOnly
  extract_lets old raised reacted
  have hfr : Fr 4605440 s reacted := Fr.step (reactions_fr ..) (by decide) (s.updSrc_otherFr ..)
  have hbit : reacted.srcReact n = s.srcReact n :=
    (srcReact_congr (State.src_eq_of_latches (reactions_latches ..) n)).trans (State.updSrc_srcReact s n (fun _ => rfl))
  simp only [if_neg hc]
  split
  · exact Fr.refl ..
  · rw [holdReaction_of_mild d false (hbit ▸ h)]
    exact hfr

theorem raiseFault_fr_of_mild {c : Nat} (hn : noGlove n) (d : EventDetail) (cause : Nat) (hc : c ≠ 4) (h : s.mild n) :
    Fr 4605440 s (raiseFault n c d cause s) := by
  unfold raiseFault
  simp only [gloveReaction_of_noGlove hn, if_neg hc]
  split_ifs
  · exact Fr.refl ..
  · have hreact : ((s.registered n).srcReact n).testBit 8 = false := by rw [s.registered_srcReact, h.1]
    exact ((s.registered_otherFr n).trans (raiseOnly_fr_of_mild (s := s.registered n) d cause hc hreact)).trans
      ((perEvent_fr_of_noGlove hn ..).mono (by decide))
  · exact fault_fr_of_mild hn d h

/-! ## A raise reaches its class -/

theorem Source.cls_le_afterEscalation (fixed : Bool) (x : Source) :
    x.cls.toNat ≤ (x.afterEscalation x.cls.toNat fixed).cls.toNat := by
  unfold Source.afterEscalation
  dsimp only
  split
  · next hc =>
    rw [BitVec.toNat_add_of_lt (by simpa using Nat.lt_of_lt_of_le (Nat.succ_lt_succ hc.1) (by decide))]
    exact Nat.le_add_right ..
  · exact Nat.le_refl _

section
variable (hfix : fixedClass n = none)
include hfix

/-- An event of a source with no HOLD reaction does not lower its class. -/
theorem registerEvent_cls_le (d : EventDetail) (h : (s.srcReact n).testBit 8 = false) :
    (s.src n).cls.toNat ≤ ((registerEvent n d false s).1.src n).cls.toNat := by
  have hcounted : (s.counted n false).src n = (s.src n).counted false (s.eventTime false) := by rw [State.counted_src, if_pos rfl]
  have hcls : ((s.counted n false).src n).cls = (s.src n).cls := by rw [hcounted, Source.counted_cls]
  refine registerEvent_cases (P := fun t => (s.src n).cls.toNat ≤ (t.src n).cls.toNat) n d false s (fun _ => Nat.le_refl _) (fun _ => ?_)
    (fun hcounts _ => ?_) (fun h => absurd h Bool.false_ne_true) (fun _ => by rw [hcls])
  · rw [State.updSrc_src, if_pos rfl]
  · have hreact : ((s.counted n false).srcReact n).testBit 8 = false := by rw [s.counted_srcReact, h]
    have hcounts' : (s.counted n false).counts n = true := ((s.counted_fr n false).counts (by decide) n).trans hcounts
    rw [escalate_src_self d false (.inr hreact), srcClass_of_counts hcounts' hfix, ← hcls]
    exact Source.cls_le_afterEscalation ..

theorem fault_cls_le (hn : noGlove n) (d : EventDetail) (h : (s.srcReact n).testBit 8 = false) : (s.src n).cls.toNat ≤ ((fault n d s).src n).cls.toNat := by
  cases hoff : s.collectorOff with
  | true => rw [fault_src_of_off d hoff]
  | false =>
    rw [fault_eq_of_noGlove hn d hoff]
    split
    · rw [State.src_eq_of_latches (perEvent_latches_of_noGlove hn ..)]
      exact registerEvent_cls_le hfix d h
    · exact registerEvent_cls_le hfix d h

/-- A raise of such a source that counts takes its class to the raise's at least. -/
theorem raiseFault_cls_le {c : Nat} (hn : noGlove n) (hc : c ≤ 3) (d : EventDetail) (cause : Nat) (hcounts : s.counts n = true)
    (h : (s.srcReact n).testBit 8 = false) : c ≤ ((raiseFault n c d cause s).src n).cls.toNat := by
  unfold raiseFault
  simp only [gloveReaction_of_noGlove hn, if_neg (show ¬ c = 4 by omega), hcounts, Bool.not_true, Bool.false_eq_true, if_false]
  split
  · next hlt =>
    rw [State.src_eq_of_latches (perEvent_latches_of_noGlove hn ..)]
    show c ≤ ((raiseOnly n c d cause (s.registered n)).src n).cls.toNat
    unfold raiseOnly
    extract_lets old raised reacted
    have hraised : (raised.src n).cls = BitVec.ofNat 3 c := by rw [State.updSrc_src, if_pos rfl]; exact if_pos hfix
    have hreacted : reacted.src n = raised.src n := State.src_eq_of_latches (reactions_latches ..) n
    have hreact : (reacted.srcReact n).testBit 8 = false := by
      have hraisedReact : raised.srcReact n = (s.registered n).srcReact n := State.updSrc_srcReact _ n (fun _ => rfl)
      rw [srcReact_congr hreacted, hraisedReact, s.registered_srcReact]
      exact h
    have hold : ¬ c ≤ old := by rw [show old = s.srcClass n from s.registered_srcClass n]; omega
    rw [if_neg hold, if_neg (by omega), holdReaction_of_mild d false hreact, hreacted, hraised, BitVec.toNat_ofNat]
    omega
  · next hge =>
    rw [srcClass_of_counts hcounts hfix] at hge
    exact Nat.le_trans (Nat.le_of_not_lt hge) (fault_cls_le hfix hn d h)

end

/-! ## The fallback key (R225) -/

theorem State.counts_231 (s : State) : s.counts 231 = true := rfl

theorem State.srcClass_231 (s : State) : s.srcClass 231 = (s.src 231).cls.toNat := srcClass_of_counts s.counts_231 rfl

/-- The key formed from the raw output, the boot counter and the identity, and its raise. -/
def State.fallbackDrawn (raw : List Byte) (s : State) : State :=
  raiseFault 231 2 {} 1 (drawKey raw true (s.atLeast (s.rep.keyAt + 10000000)))

theorem exec_keyDrawFallback_eq (raw : List Byte) (hp : s.rep.keyPending = true) (hr : s.sup.restarting = false) :
    exec (.keyDrawFallback raw) s = .next (match (s.fallbackDrawn raw).boot.initRead with
      | some r => if (s.fallbackDrawn raw).mode = .boot ∧ (s.fallbackDrawn raw).boot.step = 8 then finishLayers r (s.fallbackDrawn raw)
        else s.fallbackDrawn raw
      | none => { s.fallbackDrawn raw with pwr.wake := (s.fallbackDrawn raw).pwr.wake.map (fun w => { w with step := 6 }) }) := by
  refine if_pos ⟨hp, ?_⟩
  rw [hr]
  rfl

/-- The fallback key of a stack with a calm collector, in every mode. -/
theorem State.fallbackDrawn_spec (raw : List Byte) (hcalm : s.calm) :
    (s.fallbackDrawn raw).rep.key = BitVec.ofNat 128 (shake256 (raw ++ leBytes 4 s.jnl.bootCount.toNat
        ++ leBytes 16 s.deviceId)).toNat ∧
      (s.fallbackDrawn raw).rep.keyFallback = true ∧ (s.fallbackDrawn raw).rep.keyPending = false ∧
      (s.fallbackDrawn raw).rep.keyGen = s.rep.keyGen + 1 ∧ 2 ≤ (s.fallbackDrawn raw).srcClass 231 ∧
      (s.fallbackDrawn raw).boot.initRead = s.boot.initRead ∧ (s.fallbackDrawn raw).boot.rerun = s.boot.rerun ∧
      (s.fallbackDrawn raw).now = max s.now (s.rep.keyAt + 10000000) ∧ Fr 4605442 s (s.fallbackDrawn raw) := by
  have hcalm' : (drawKey raw true (s.atLeast (s.rep.keyAt + 10000000))).calm := hcalm
  have hground : (s.fallbackDrawn raw).ground = (drawKey raw true (s.atLeast (s.rep.keyAt + 10000000))).ground := raiseFault_ground ..
  have hfr : Fr 4605440 (drawKey raw true (s.atLeast (s.rep.keyAt + 10000000))) (s.fallbackDrawn raw) :=
    raiseFault_fr_of_mild (noGlove_of_le (by decide)) {} 1 (by decide) ((hcalm'.at 231).mild rfl)
  refine ⟨congrArg (·.2.2.1.key) hground, congrArg (·.2.2.1.keyFallback) hground, congrArg (·.2.2.1.keyPending) hground,
    congrArg (·.2.2.1.keyGen) hground, ?_, congrArg (·.1.initRead) hground, congrArg (·.1.rerun) hground,
    hfr.now (by decide), ?_⟩
  · rw [State.srcClass_231]
    exact raiseFault_cls_le rfl (noGlove_of_le (by decide)) (by decide) {} 1 (State.counts_231 _) (hcalm'.at 231).react
  · exact Fr.step hfr (by decide) (Fr.step (drawKey_fr ..) (by decide) ((State.atLeast_fr ..).mono (by decide)))

end Sys2Proof.Machine
end

section
/-! SUPPORT. Layer initialisation: the sensors calibrated and read, the arrays set, and the end of step 8. -/

namespace Sys2Proof.Machine

open Host

variable {s t : State} {n : Nat}

theorem State.setVref_congr (s : State) (f : ThmState → ThmState) (hf : (f s.thm).sensors = s.thm.sensors) (h : s.heldBelow 105 115) :
    State.heldBelow 105 115 { s with thm := f s.thm } := by
  refine ⟨h.1, fun i => ?_⟩
  have hsensor : State.baseSensor { s with thm := f s.thm } i = s.baseSensor i := by rw [State.baseSensor, hf, State.baseSensor]
  rw [hsensor]
  exact h.2 i

/-- A calibration round sets the reference's record, and counts an event where it is out of range. -/
theorem sensorRound_acts (v : BitVec 12) (h : s.running) (hs : s.heldBelow 105 115) : ∃ u, Fr 2048 s u ∧
    u.heldBelow 105 115 ∧ Acts u (sensorRound v s) := by
  unfold sensorRound
  extract_lets thm noted
  have hnoted : noted.running := h.congr rfl rfl
  split
  · refine ⟨_, Fr.u2048 (Fr.u2048 (Fr.refl ..) (by decide)) (by decide), ?_, State.running.acts (h.congr rfl rfl)⟩
    exact State.setVref_congr s (fun x => { x with vref := v, vrefBad := false, lastRound := some s.now }) rfl hs
  · refine ⟨{ noted with thm.vrefBad := true }, Fr.u2048 (Fr.u2048 (Fr.refl ..) (by decide)) (by decide), ?_, ?_⟩
    · exact State.setVref_congr s (fun x => { x with vref := v, vrefBad := true }) rfl hs
    · have hbad : State.running { noted with thm.vrefBad := true } := hnoted.congr rfl rfl
      have halert := hbad.setThmAlert 16
      exact halert.trans (State.running.acts_of (halert.running.fault_fr (noGlove_of_le (by decide)) rfl {})
        (halert.running.fault (noGlove_of_le (by decide)) rfl {}) (fault_ground ..)
        fun m hm => fault_src_ne (noGlove_of_le (by decide)) (by omega) ..)

/-- Operations of step 8 in turn: the stack goes on booting, and of what the collector leaves nothing changes. -/
structure Sets (s t : State) : Prop where
  fr : Fr 390483456 s t
  running : t.running
  ground : t.ground = s.ground
  others : ∀ m, 229 ≤ m → t.src m = s.src m

theorem Sets.trans {u : State} (h : Sets s t) (h' : Sets t u) : Sets s u :=
  ⟨h.fr.trans h'.fr, h'.running, h'.ground.trans h.ground, fun m hm => (h'.others m hm).trans (h.others m hm)⟩

theorem Acts.sets (h : Acts s t) : Sets s t := ⟨h.fr.mono (by decide), h.running, h.ground, h.others⟩

/-- An operation on the thermal unit, the layers, the arrays or the memory. -/
theorem State.running.sets {m : Nat} (h : s.running) (hfr : Fr m s t) (hm : m ||| 385878016 = 385878016 := by decide) : Sets s t := by
  have hfr' : Fr 385878016 s t := hfr.mono hm
  exact ⟨hfr'.mono (by decide), h.congr (hfr'.mode (by decide)) (by rw [hfr'.flt (by decide)]), hfr'.ground,
    fun n _ => hfr'.src (by decide) n⟩

theorem forN_sets {g : Nat → State → State} {k : Nat} (hg : ∀ i t, i < k → t.running → Sets t (g i t)) (h : s.running) :
    Sets s (forN k g s) := by
  induction k with
  | zero => exact h.acts.sets
  | succ k ih =>
    have hk := ih fun i t hi => hg i t (Nat.lt_succ_of_lt hi)
    rw [forN_succ]
    exact hk.trans (hg k _ (Nat.lt_succ_self k) hk.running)

theorem fixedClass_srcLayer {k : Nat} (hk : k < 18) : fixedClass (srcLayer k) = none := by
  rw [fixedClass, if_neg (by simp only [srcLayer]; omega), if_neg (by simp only [srcLayer]; omega)]

theorem State.running.countAf (h : s.running) (fuses : List AfRead) {k : Nat} (hk : k < 18) : Acts s (countAf fuses k s) := by
  have hlayer : Acts s (Machine.faultMany (srcLayer k) _ { layer := some (Fin.ofNat 18 k) } s) :=
    h.faultMany (noGlove_of_le (by simp only [srcLayer]; omega)) (fixedClass_srcLayer hk) (by simp only [srcLayer]; omega)
      ((s.afReads fuses k).filter (fun e => decide (e.2 = .fails))).length _
  exact hlayer.trans (hlayer.running.faultMany (noGlove_of_le (by decide)) rfl (by decide) ..)

/-- Layers powered or not: the temperatures stay. -/
theorem forN_setPowered (f : Nat → Bool) (k : Nat) (h : s.heldBelow 105 115) :
    (forN k (fun k s => s.updLayer k (fun x => { x with powered := f k })) s).heldBelow 105 115 := by
  induction k with
  | zero => exact h
  | succ k ih =>
    rw [forN_succ]
    refine State.heldBelow_iff.2 ⟨fun j => ?_, fun x v hv => (State.heldBelow_iff.1 ih).2 x v ?_⟩
    · rw [State.updLayer_layer]
      split
      · exact (ih.1 k).1
      · exact (ih.1 j).1
    · rw [State.updLayer_held] at hv
      split_ifs at hv with h1 h1
      · rw [h1]; exact hv
      · rw [h1]; exact hv
      · exact hv

/-- The end of step 8: the stack goes on to step 9, to step 10 where a fallback repeats the step. -/
theorem finishLayers_spec (r : LayerInitRead) (h : s.booting) (hl : readingsBelow 105 115 r.readings) (hs : s.heldBelow 105 115) :
    (finishLayers r s).mode = .boot ∧ (finishLayers r s).boot.initRead = none ∧
      (finishLayers r s).boot.step = (if s.boot.rerun then 10 else 9) ∧ (finishLayers r s).ground.2 = s.ground.2 ∧
      Fr 390483712 s (finishLayers r s) ∧ ∀ m, 229 ≤ m → (finishLayers r s).src m = s.src m := by
  unfold finishLayers
  extract_lets used powered rounded readOut based counted set
  have hpowered : Sets s powered :=
    h.run.sets (m := 67108864) (Fr.forN (fun k t => t.updLayer_fr ..) 18 (Fr.refl ..))
  obtain ⟨u, hu, hbelow, hround⟩ := sensorRound_acts r.vref hpowered.running (forN_setPowered _ 18 hs)
  have hrounded : Sets s rounded := hpowered.trans ((hpowered.running.sets hu).trans hround.sets)
  have hmode : rounded.mode = .boot := (hrounded.fr.mode (by decide)).trans h.mode
  have hread : Sets rounded readOut := by
    obtain ⟨v, hv, hacts, -, -, -⟩ := bootReadings_acts hrounded.running hl (hround.heldBelow hbelow) (by decide) (by decide)
    unfold readOut
    rw [if_pos hmode]
    exact (hrounded.running.sets hv).trans hacts.sets
  have hmode' : readOut.mode = .boot := (hread.fr.mode (by decide)).trans hmode
  have hbased : Sets readOut based :=
    hread.running.sets (m := 67108864) (Fr.forN (fun k t => Fr.iteT (t.updLayer_fr ..) (Fr.refl ..)) 18 (Fr.refl ..))
  have hcounted : Sets based counted := forN_sets (fun k t hk ht => by
    split
    · exact (ht.countAf r.fuses hk).sets
    · exact ht.acts.sets) hbased.running
  have hset : Sets counted set := by
    refine hcounted.running.sets (m := 318767104) (Fr.forN (fun q t => Fr.forN (fun k u => ?_) 18 (Fr.refl ..)) 32 (Fr.refl ..))
    split
    · exact initSlice_fr ..
    · exact (u.updSlice_fr ..).mono (by decide)
  have hall : Sets s set := (((hrounded.trans hread).trans hbased).trans hcounted).trans hset
  rw [if_neg (not_not_intro hmode')]
  have hrerun : set.boot.rerun = s.boot.rerun := congrArg (·.1.rerun) hall.ground
  have hrest : set.ground.2 = s.ground.2 := congrArg Prod.snd hall.ground
  refine ⟨(hall.fr.mode (by decide)).trans h.mode, rfl, ?_, hrest,
    Fr.u256 (hall.fr.mono (by decide)) (by decide), hall.others⟩
  rw [← hrerun]

/-! ## Failed partitions and repairs -/

theorem forL_boots_mem {α : Type} {g : α → State → State} {l : List α} (hg : ∀ x ∈ l, ∀ t, t.booting → Boots t (g x t)) (h : s.booting) :
    Boots s (forL l g s) := by
  induction l generalizing s with
  | nil => exact h.refl
  | cons x l ih =>
    have hx := hg x List.mem_cons_self s h
    exact hx.trans (ih (fun y hy => hg y (List.mem_cons_of_mem x hy)) hx.booting)

/-- The exclusions of a booting stack: takeovers and ports left out. -/
theorem excludeFailed_boots (h : s.booting) : ∃ b, Boots { s with bist.excluded := b } (excludeFailed s) := by
  unfold excludeFailed
  extract_lets bist new marked taken
  have htaken : Boots marked taken := by
    refine forL_boots_mem (fun i hi t ht => ?_) (h.congr rfl rfl rfl)
    have hlt : i < 16 := by simpa using (List.mem_filter.1 hi).2
    exact ht.raiseFault (fixedClass_of_glove (by omega)) (by decide) _ _
  refine ⟨_, htaken.trans (forL_boots (fun i t ht => ?_) _ htaken.booting)⟩
  beta_reduce
  extract_lets left
  have hports : Boots t left := ht.boots (m := 4194304) (Fr.forN (fun j t => t.updPort_fr ..) 8 (Fr.refl ..))
  exact hports.trans (hports.booting.raiseFault rfl (by decide) _ _)

/-- What the repairs of step 8 leave: the key and its record, the policy, the temperatures. -/
def State.keyRecord (s : State) : BitVec 128 × BitVec 16 × Bool × Bool × Bool :=
  (s.rep.key, s.rep.keyGen, s.rep.keyFallback, s.rep.keyPending, s.rep.layerPolicy)

theorem substituteBoot_keyRecord (q r k : Nat) (want : Option Nat) (s : State) :
    (substituteBoot q r k want s).keyRecord = s.keyRecord := by
  unfold substituteBoot
  extract_lets fits l
  clear_value l
  cases l with
  | none => rfl
  | some l =>
    refine (forN_eq (f := State.keyRecord) (fun b t => ?_) 16 _).trans rfl
    split <;> rfl

theorem clearLayerBoot_keyRecord (k : Nat) (s : State) : (clearLayerBoot k s).keyRecord = s.keyRecord := by
  refine forN_eq (f := State.keyRecord) (fun q t => forN_eq (f := State.keyRecord) (fun r u => ?_) 16 t) 32 s
  split
  · exact substituteBoot_keyRecord ..
  · rfl

theorem applyEntry_keyRecord (burnt : Bool) (e : RepairEntry) (s : State) : (applyEntry burnt e s).keyRecord = s.keyRecord := by
  unfold applyEntry
  extract_lets q k live
  split
  · split <;> rfl
  · split <;> rfl
  · split
    · exact substituteBoot_keyRecord ..
    · rfl
  · refine forN_eq (f := State.keyRecord) (fun i t => ?_) 2 s
    split <;> rfl
  · split
    · exact clearLayerBoot_keyRecord ..
    · rfl
  · rfl

theorem State.setLayersRetired_keyRecord (s : State) (n : BitVec 5) : State.keyRecord { s with rep.layersRetired := n } = s.keyRecord := rfl

theorem State.setRepairs_keyRecord (s : State) (l b : List RepairEntry) (r : List (Nat × RankEnt)) (m : List (Nat × BankEnt)) :
    State.keyRecord { s with rep.log := l, rep.burnQueue := b, rep.rankMap := r, rep.bankMap := m } = s.keyRecord := rfl

theorem applyRepairs_keyRecord (s : State) : (applyRepairs s).keyRecord = s.keyRecord := by
  unfold applyRepairs
  extract_lets fused logged rep first all early late applied
  refine (State.setLayersRetired_keyRecord applied _).trans ?_
  exact (forL_eq (f := State.keyRecord) (fun e t => applyEntry_keyRecord ..) (early ++ late) first).trans (s.setRepairs_keyRecord ..)

/-- The temperatures of the layers. -/
def State.warmth (s : State) : Nat → Int × Option Int × Option Int :=
  fun k => ((s.layer k).temp, (s.layer k).sensA, (s.layer k).sensB)

theorem Fr.warmth {m : Nat} (h : Fr m s t) (hm : m.testBit 26 = false) : t.warmth = s.warmth := by
  funext k
  rw [State.warmth, State.warmth, State.layer, h.layers hm, State.layer]

theorem State.updLayer_warmth (s : State) (k : Nat) {f : Layer → Layer}
    (hf : ∀ x, (f x).temp = x.temp ∧ (f x).sensA = x.sensA ∧ (f x).sensB = x.sensB) : (s.updLayer k f).warmth = s.warmth := by
  funext j
  rw [State.warmth, State.warmth, State.updLayer_layer]
  split
  · next h => rw [h, (hf _).1, (hf _).2.1, (hf _).2.2]
  · rfl

theorem applyEntry_warmth (burnt : Bool) (e : RepairEntry) (s : State) : (applyEntry burnt e s).warmth = s.warmth := by
  unfold applyEntry
  extract_lets q k live
  split
  · split
    · rfl
    · exact (Fr.step (State.updPc_fr ..) (by decide) (State.updPc_fr ..) : Fr 16777216 s _).warmth (by decide)
  · split
    · rfl
    · exact (State.setBank_fr ..).warmth (by decide)
  · split
    · exact (substituteBoot_fr ..).warmth (by decide)
    · rfl
  · refine forN_eq (f := State.warmth) (fun i t => ?_) 2 s
    split
    · exact (State.setRank_fr ..).warmth (by decide)
    · rfl
  · split
    · exact ((clearLayerBoot_fr ..).warmth (by decide)).trans (s.updLayer_warmth k fun _ => ⟨rfl, rfl, rfl⟩)
    · rfl
  · rfl

theorem applyRepairs_warmth (s : State) : (applyRepairs s).warmth = s.warmth := by
  unfold applyRepairs
  extract_lets fused logged rep first all early late applied
  have hfirst : Fr 262144 s first := Fr.u262144 (Fr.refl ..) (by decide)
  exact ((Fr.u262144 (Fr.refl 262144 applied) (by decide) : Fr 262144 applied _).warmth (by decide)).trans ((forL_eq (f := State.warmth) (fun e t => applyEntry_warmth ..) (early ++ late) first).trans
    (hfirst.warmth (by decide)))

theorem State.heldBelow_congr {layer base : Int} (hw : t.warmth = s.warmth) (hthm : t.thm.sensors = s.thm.sensors)
    (h : s.heldBelow layer base) : t.heldBelow layer base := by
  refine ⟨fun k => ?_, fun i v hv => h.2 i v ?_⟩
  · have hk := congrFun hw k
    simp only [State.warmth, Prod.mk.injEq] at hk
    obtain ⟨ht, ha, hb⟩ := hk
    rw [ht, ha, hb]
    exact h.1 k
  · rwa [State.baseSensor, hthm] at hv

/-- The repairs of a booting stack. -/
theorem applyRepairs_booting (h : s.booting) : (applyRepairs s).booting := h.fr (applyRepairs_fr s)

/-- Exclusions and repairs of a booting stack. -/
theorem repaired_spec (h : s.booting) : (applyRepairs (excludeFailed s)).booting ∧
    (applyRepairs (excludeFailed s)).keyRecord = s.keyRecord ∧ Fr 97470016 s (applyRepairs (excludeFailed s)) ∧
    (applyRepairs (excludeFailed s)).boot.step = s.boot.step ∧ (applyRepairs (excludeFailed s)).boot.rerun = s.boot.rerun ∧
    ∀ layer base, s.heldBelow layer base → (applyRepairs (excludeFailed s)).heldBelow layer base := by
  obtain ⟨b, hb⟩ := excludeFailed_boots h
  have hfr := applyRepairs_fr (excludeFailed s)
  have hboot : (applyRepairs (excludeFailed s)).boot = (excludeFailed s).boot := hfr.boot (by decide)
  refine ⟨applyRepairs_booting hb.booting, ?_, ?_, ?_, ?_, fun layer base hs => ?_⟩
  · rw [applyRepairs_keyRecord]
    exact congrArg (fun g => (g.2.2.1.key, g.2.2.1.keyGen, g.2.2.1.keyFallback, g.2.2.1.keyPending, g.2.2.1.layerPolicy)) hb.ground
  · exact Fr.step hfr (by decide) (Fr.step hb.1 (by decide) (Fr.u65536 (Fr.refl ..) (by decide)))
  · rw [hboot]
    exact State.step_of_ground hb.ground
  · rw [hboot]
    exact congrArg (·.1.rerun) hb.ground
  · refine State.heldBelow_congr ((applyRepairs_warmth _).trans (hb.1.warmth (by decide))) ?_ hs
    rw [hfr.thm (by decide), hb.1.thm (by decide)]

/-! ## Layer initialisation (R92) -/

theorem State.restarting_of_atStep {k : Nat} (h : s.atStep k = true) : s.sup.restarting = false := by
  simpa using (Bool.and_eq_true_iff.1 h).2

section
variable (h8 : s.atStep 8 = true)
include h8

theorem State.booting_of_calm (hcalm : s.calm) : s.booting :=
  ⟨State.running_of_calm h8 hcalm, State.mode_of_atStep h8, by rw [State.step_of_atStep h8]; decide⟩

theorem exec_layerInit_of_pending (r : LayerInitRead) (hp : s.rep.keyPending = true) : exec (.layerInit r) s =
    .next (if r.key.healthy then finishLayers r (drawKey r.key.raw false s) else s) := by
  change execLayerInit r s = _
  rw [execLayerInit, if_neg (by rw [h8]; decide), if_pos hp]

/-- The failed layers on which something lives. -/
def State.badLayers (r : LayerInitRead) (s : State) : List Nat :=
  (r.failed.map (·.val)).filter (fun k => (List.range 32).any (fun q => s.sliceUsed q k))

theorem exec_layerInit_of_first (r : LayerInitRead) (hp : s.rep.keyPending = false)
    (hmode : (applyRepairs (excludeFailed s)).mode = .boot) : exec (.layerInit r) s =
    let u := applyRepairs (excludeFailed s)
    if u.badLayers r ≠ [] ∧ u.refuse then .next (enterHold 5 u)
    else
      let u := forL (u.badLayers r) failLayer u
      if u.mode ≠ .boot then .next u
      else if r.key.healthy then .next (finishLayers r (drawKey r.key.raw false u))
      else .next { u with rep.keyPending := true, rep.keyAt := u.now, boot.initRead := some r } := by
  change execLayerInit r s = _
  rw [execLayerInit, if_neg (by rw [h8]; decide), if_neg (by rw [hp]; decide)]
  exact if_neg (not_not_intro hmode)

end

/-- With no failed layer the key is drawn, or its draw awaited. -/
theorem exec_layerInit_of_none (r : LayerInitRead) (h8 : s.atStep 8 = true) (hp : s.rep.keyPending = false) (hfailed : r.failed = [])
    (hmode : (applyRepairs (excludeFailed s)).mode = .boot) : exec (.layerInit r) s =
    if r.key.healthy then .next (finishLayers r (drawKey r.key.raw false (applyRepairs (excludeFailed s))))
    else .next { applyRepairs (excludeFailed s) with
      rep.keyPending := true, rep.keyAt := (applyRepairs (excludeFailed s)).now, boot.initRead := some r } := by
  have hbad : (applyRepairs (excludeFailed s)).badLayers r = [] := by rw [State.badLayers, hfailed]; rfl
  rw [exec_layerInit_of_first h8 r hp hmode]
  dsimp only
  rw [hbad, if_neg (fun h => h.1 rfl)]
  exact if_neg (not_not_intro hmode)

/-- The key drawn from output that passed its health tests, and step 8 ended. -/
theorem finishLayers_drawn (r : LayerInitRead) (h : s.booting) (hl : readingsBelow 105 115 r.readings) (hs : s.heldBelow 105 115) :
    (finishLayers r (drawKey r.key.raw false s)).rep.key = BitVec.ofNat 128 (shake256 r.key.raw).toNat ∧
      (finishLayers r (drawKey r.key.raw false s)).rep.keyGen = s.rep.keyGen + 1 ∧
      (finishLayers r (drawKey r.key.raw false s)).rep.keyFallback = false ∧
      (finishLayers r (drawKey r.key.raw false s)).rep.keyPending = false ∧
      (finishLayers r (drawKey r.key.raw false s)).boot.initRead = none ∧ (finishLayers r (drawKey r.key.raw false s)).mode = .boot ∧
      (finishLayers r (drawKey r.key.raw false s)).boot.step = if s.boot.rerun then 10 else 9 := by
  have hdrawn : (drawKey r.key.raw false s).booting := h.congr rfl rfl rfl
  obtain ⟨hmode, hread, hstep, hground, -, -⟩ := finishLayers_spec r hdrawn hl hs
  exact ⟨congrArg (·.2.1.key) hground, congrArg (·.2.1.keyGen) hground, congrArg (·.2.1.keyFallback) hground,
    congrArg (·.2.1.keyPending) hground, hread, hmode, hstep⟩

/-- Settles O10: the repairs leave a booting stack (`repaired_spec`), the key is drawn, and the step ends (`finishLayers_spec`). -/
theorem layerInitDrawsTheKey : Obligations.LayerInitDrawsTheKey := by
  refine ⟨fun r s h8 hcalm hhealthy hfailed hl hs => ?drawn, fun r s h8 hcalm hp hhealthy hfailed => ?awaited,
    fun r s h8 hp hhealthy => ?pending, fun raw r s h8 hcalm hp hread hl hs => ?fallback, fun raw s hcalm hp hr hread => ?wake,
    fun r s u h8 hcalm h0 hp hrefuse hu hbad => ?refused⟩
  case drawn =>
    have hboot := State.booting_of_calm h8 hcalm
    cases hp : s.rep.keyPending with
    | true =>
      rw [exec_layerInit_of_pending h8 r hp, hhealthy]
      obtain ⟨hkey, hgen, hfall, hpend, hread, hmode, hstep⟩ := finishLayers_drawn r hboot hl hs
      exact ⟨_, rfl, hkey, hgen, hfall, hpend, hread, hmode, hstep⟩
    | false =>
      obtain ⟨hu, hrecord, -, -, hrerun, hbelow⟩ := repaired_spec hboot
      rw [exec_layerInit_of_none r h8 hp (hfailed hp) hu.mode, hhealthy, ← hrerun]
      generalize applyRepairs (excludeFailed s) = u at hu hrecord hbelow
      obtain ⟨hkey, hgen, hfall, hpend, hread, hmode, hstep⟩ := finishLayers_drawn r hu hl (hbelow 105 115 hs)
      exact ⟨_, rfl, hkey, hgen.trans (congrArg (·.2.1 + 1) hrecord), hfall, hpend, hread, hmode, hstep⟩
  case awaited =>
    have hboot := State.booting_of_calm h8 hcalm
    obtain ⟨hu, hrecord, hfr, hstep, -, -⟩ := repaired_spec hboot
    rw [exec_layerInit_of_none r h8 hp hfailed hu.mode, hhealthy]
    generalize applyRepairs (excludeFailed s) = u at hu hrecord hfr hstep
    exact ⟨_, rfl, rfl, hfr.now (by decide), rfl, hu.mode, hstep.trans (State.step_of_atStep h8), congrArg (·.1) hrecord⟩
  case pending =>
    rw [exec_layerInit_of_pending h8 r hp, hhealthy]
    rfl
  case fallback =>
    obtain ⟨hkey, hfall, hpend, hgen, hclass, hinit, hrerun, hnow, hfr⟩ := s.fallbackDrawn_spec raw hcalm
    have hrestart : s.sup.restarting = false := State.restarting_of_atStep h8
    have hmode : (s.fallbackDrawn raw).mode = .boot := (hfr.mode (by decide)).trans (State.mode_of_atStep h8)
    have hstep : (s.fallbackDrawn raw).boot.step = 8 := (congrArg (·.step) (hfr.boot (by decide))).trans (State.step_of_atStep h8)
    have hdrawn : (drawKey raw true (s.atLeast (s.rep.keyAt + 10000000))).booting := (State.booting_of_calm h8 hcalm).congr rfl rfl rfl
    have hboot : (s.fallbackDrawn raw).booting := (hdrawn.raiseFault (n := 231) rfl (by decide) {} 1).booting
    have hheld : (s.fallbackDrawn raw).heldBelow 105 115 :=
      State.heldBelow_congr (hfr.warmth (by decide)) (by rw [hfr.thm (by decide)]) hs
    rw [exec_keyDrawFallback_eq raw hp hrestart, hinit.trans hread]
    generalize s.fallbackDrawn raw = u at *
    obtain ⟨hmode', -, hstep', hground, hfr', hothers⟩ := finishLayers_spec r hboot hl hheld
    dsimp only
    rw [if_pos ⟨hmode, hstep⟩]
    refine ⟨_, rfl, (congrArg (·.2.1.key) hground).trans hkey, (congrArg (·.2.1.keyFallback) hground).trans hfall,
      (congrArg (·.2.1.keyPending) hground).trans hpend, (congrArg (·.2.1.keyGen) hground).trans hgen, ?_,
      (hfr'.now (by decide)).trans hnow, hmode', by rw [hstep', hrerun]⟩
    rw [State.srcClass_231, hothers 231 (by decide), ← State.srcClass_231]
    exact hclass
  case wake =>
    obtain ⟨hkey, hfall, hpend, hgen, hclass, hinit, -, hnow, hfr⟩ := s.fallbackDrawn_spec raw hcalm
    rw [exec_keyDrawFallback_eq raw hp hr, hinit.trans hread]
    generalize s.fallbackDrawn raw = u at *
    refine ⟨_, rfl, hkey, hfall, hpend, hgen, hclass, hnow, hfr.mode (by decide), ?_⟩
    dsimp only
    rw [hfr.pwr (by decide)]
  case refused =>
    subst hu
    obtain ⟨hu, hrecord, hfr, hstep, -, -⟩ := repaired_spec (State.booting_of_calm h8 hcalm)
    rw [exec_layerInit_of_first h8 r hp hu.mode]
    generalize applyRepairs (excludeFailed s) = u at hu hrecord hfr hstep hbad
    have hne : u.badLayers r ≠ [] := by
      obtain ⟨k, hk, q, hq, hused⟩ := hbad
      refine List.ne_nil_of_mem (a := k.val) (List.mem_filter.2 ⟨List.mem_map_of_mem hk, ?_⟩)
      exact List.any_eq_true.2 ⟨q, List.mem_range.2 hq, hused⟩
    have hpolicy : u.refuse = true := by
      rw [State.refuse, State.repairFixed, hfr.part (by decide), show u.rep.layerPolicy = s.rep.layerPolicy from congrArg (·.2.2.2.2) hrecord]
      exact hrefuse
    refine ⟨_, if_pos ⟨hne, hpolicy⟩, enterHold_mode 5 hu.run.notTrip, ?_, ?_⟩
    · rw [enterHold_holdCause 5 hu.run.notTrip hu.run.notHold, hfr.holdCause (by decide), if_pos h0]
      rfl
    · rw [enterHold_boot 5 hu.run.notTrip hu.run.notHold]
      exact hstep.trans (State.step_of_atStep h8)

end Sys2Proof.Machine
end

section
/-! SUPPORT. Steps that touch one port alone, and the stages of link bring-up (chapter 06). -/

namespace Sys2Proof.Machine

open Host

variable {s t u : State} {p : Nat}

/-! ## Steps within one port -/

/-- Two updates that agree on the port give one state. -/
theorem State.updPort_congr {f g : Port → Port} (h : f (s.port p) = g (s.port p)) : s.updPort p f = s.updPort p g := by
  rw [State.updPort, h, State.updPort]

theorem otherPorts_refl (p : Nat) (s : State) : otherPorts p s s := fun _ _ => rfl

theorem otherPorts.trans (h : otherPorts p s t) (h' : otherPorts p t u) : otherPorts p s u :=
  fun j hj => (h' j hj).trans (h j hj)

theorem updPort_otherPorts (p : Nat) (f : Port → Port) (s : State) : otherPorts p s (s.updPort p f) :=
  fun _ hj => State.updPort_port_ne (s := s) f hj

theorem Fr.otherPorts {m : Nat} (h : Fr m s t) (p : Nat) (hm : m.testBit 22 = false := by decide) : otherPorts p s t :=
  fun j _ => h.port hm j

/-- `s` with the fields of the mask as in `t`. -/
def State.merge (m : Nat) (s t : State) : State :=
  { pending := if m.testBit 0 = true then t.pending else s.pending
    now := if m.testBit 1 = true then t.now else s.now
    choice := if m.testBit 2 = true then t.choice else s.choice
    pwrgood := if m.testBit 3 = true then t.pwrgood else s.pwrgood
    mode := if m.testBit 4 = true then t.mode else s.mode
    holdCause := if m.testBit 5 = true then t.holdCause else s.holdCause
    takeover := if m.testBit 6 = true then t.takeover else s.takeover
    pins := if m.testBit 7 = true then t.pins else s.pins
    boot := if m.testBit 8 = true then t.boot else s.boot
    sup := if m.testBit 9 = true then t.sup else s.sup
    flt := if m.testBit 10 = true then t.flt else s.flt
    thm := if m.testBit 11 = true then t.thm else s.thm
    pwr := if m.testBit 12 = true then t.pwr else s.pwr
    otp := if m.testBit 13 = true then t.otp else s.otp
    jnl := if m.testBit 14 = true then t.jnl else s.jnl
    att := if m.testBit 15 = true then t.att else s.att
    bist := if m.testBit 16 = true then t.bist else s.bist
    mb := if m.testBit 17 = true then t.mb else s.mb
    rep := if m.testBit 18 = true then t.rep else s.rep
    gnt := if m.testBit 19 = true then t.gnt else s.gnt
    tap := if m.testBit 20 = true then t.tap else s.tap
    image := if m.testBit 21 = true then t.image else s.image
    ports := if m.testBit 22 = true then t.ports else s.ports
    chans := if m.testBit 23 = true then t.chans else s.chans
    pcs := if m.testBit 24 = true then t.pcs else s.pcs
    slices := if m.testBit 25 = true then t.slices else s.slices
    layers := if m.testBit 26 = true then t.layers else s.layers
    pmc := if m.testBit 27 = true then t.pmc else s.pmc
    mem := if m.testBit 28 = true then t.mem else s.mem }

theorem ite_eq_of_false {α : Type} {b : Bool} {x y : α} (h : b = false → x = y) : x = if b = true then x else y := by
  cases b
  · exact h rfl
  · rfl

/-- What a frame leaves is as before: for a mask of numerals the right side unfolds to an update of `s`. -/
theorem Fr.eq_merge {m : Nat} (h : Fr m s t) : t = State.merge m s t := by
  rw [State.merge]
  rw [← ite_eq_of_false h.pending, ← ite_eq_of_false h.now, ← ite_eq_of_false h.choice, ← ite_eq_of_false h.pwrgood, ← ite_eq_of_false h.mode, ← ite_eq_of_false h.holdCause, ← ite_eq_of_false h.takeover, ← ite_eq_of_false h.pins, ← ite_eq_of_false h.boot, ← ite_eq_of_false h.sup, ← ite_eq_of_false h.flt, ← ite_eq_of_false h.thm, ← ite_eq_of_false h.pwr, ← ite_eq_of_false h.otp, ← ite_eq_of_false h.jnl, ← ite_eq_of_false h.att, ← ite_eq_of_false h.bist, ← ite_eq_of_false h.mb, ← ite_eq_of_false h.rep, ← ite_eq_of_false h.gnt, ← ite_eq_of_false h.tap, ← ite_eq_of_false h.image, ← ite_eq_of_false h.ports, ← ite_eq_of_false h.chans, ← ite_eq_of_false h.pcs, ← ite_eq_of_false h.slices, ← ite_eq_of_false h.layers, ← ite_eq_of_false h.pmc, ← ite_eq_of_false h.mem]

/-- The way from `s` to `t` goes through port `p` alone. -/
structure Within (p : Nat) (s t : State) : Prop where
  eq : t = { s with ports := t.ports }
  others : otherPorts p s t

theorem Within.refl (p : Nat) (s : State) : Within p s s := ⟨rfl, otherPorts_refl p s⟩

theorem Within.fr (h : Within p s t) : Fr 4194304 s t := by
  rw [h.eq]
  constructor <;> first | exact fun _ => rfl | exact fun h => nomatch h

theorem Within.of_fr (h : Fr 4194304 s t) (ho : otherPorts p s t) : Within p s t := ⟨h.eq_ports, ho⟩

theorem Within.trans (h : Within p s t) (h' : Within p t u) : Within p s u :=
  .of_fr (h.fr.trans h'.fr) (h.others.trans h'.others)

theorem State.updPort_within (p : Nat) (f : Port → Port) (s : State) : Within p s (s.updPort p f) :=
  ⟨rfl, updPort_otherPorts p f s⟩

theorem forN_within {g : Nat → State → State} (hg : ∀ i t, Within p t (g i t)) (n : Nat) (s : State) : Within p s (forN n g s) := by
  induction n with
  | zero => exact .refl p s
  | succ n ih => rw [forN_succ]; exact ih.trans (hg n _)

@[simp] theorem Port.lane_updLane (x : Port) (l j : Nat) (f : Lane → Lane) :
    (x.updLane l f).lane j = if j = l then f (x.lane l) else x.lane j := tabGet_tabSet ..

/-- A loop that changes lanes of one port, each in its turn. -/
theorem forN_updLane {c : Nat → Bool} {f : Nat → Lane → Lane} {g : Nat → State → State}
    (hg : ∀ i t, g i t = if c i = true then t.updPort p (·.updLane i (f i)) else t) (n : Nat) (s : State) :
    Within p s (forN n g s) ∧
    (forN n g s).port p = { s.port p with lnk := { (s.port p).lnk with lanes := ((forN n g s).port p).lnk.lanes } } ∧
    ∀ j, ((forN n g s).port p).lane j = if j < n ∧ c j = true then f j ((s.port p).lane j) else (s.port p).lane j := by
  induction n with
  | zero => exact ⟨.refl p s, rfl, fun j => by simp [forN]⟩
  | succ n ih =>
    obtain ⟨hw, hp, hl⟩ := ih
    rw [forN_succ, hg]
    by_cases hc : c n = true
    · rw [if_pos hc]
      refine ⟨hw.trans (State.updPort_within ..), ?_, fun j => ?_⟩
      · rw [State.updPort_port_self, Port.updLane, hp]
      · rw [State.updPort_port_self, Port.lane_updLane, hl, hl]
        grind
    · rw [if_neg hc]
      exact ⟨hw, hp, fun j => by rw [hl]; grind⟩

/-! ## The stages of bring-up (R164, R166) -/

variable {i : PortId}

/-- The port enters DETECT with its first pulse. -/
theorem exec_receiverDetectPulse_first (m : BitVec 4) (hl : (s.port i.val).lnk.link = .off) (hu : s.portUp i.val = true)
    (hd : (s.port i.val).lnk.down = false) (hr : s.portsRun = true) :
    exec (.receiverDetectPulse i m) s = .next (s.updPort i.val (fun x => { x with
      lnk := { x.lnk with link := .detect, since := s.now, lastTerm := m } })) :=
  if_pos (by simp [hl, hu, hd, hr])

/-- Two pulses in a row with a termination train the lanes of both; a fence may be lifted by them. -/
theorem exec_receiverDetectPulse_train {m : BitVec 4} (hl : (s.port i.val).lnk.link = .detect) (hb : (s.port i.val).lnk.backoff = false)
    (hm : m &&& (s.port i.val).lnk.lastTerm ≠ 0) :
    exec (.receiverDetectPulse i m) s = .next (
      let t := s.updPort i.val (fun x => { x with lnk := { x.lnk with
        link := .train, since := s.now, lanesPresent := m &&& (s.port i.val).lnk.lastTerm, lastTerm := 0
        partnerStarted := !x.lnk.mgmtStart } })
      if (s.port i.val).lnk.mgmtStart then t else partnerLift i.val t) :=
  (if_neg (by simp [hl])).trans ((if_pos ⟨hl, by simp [hb]⟩).trans (if_pos hm))

/-- A pulse that shares no lane with the last keeps its lanes; two without any say so in the cause. -/
theorem exec_receiverDetectPulse_again {m : BitVec 4} (hl : (s.port i.val).lnk.link = .detect) (hb : (s.port i.val).lnk.backoff = false)
    (hm : m &&& (s.port i.val).lnk.lastTerm = 0) :
    exec (.receiverDetectPulse i m) s = .next (s.updPort i.val (fun x => { x with lnk := { x.lnk with
      lastTerm := m, cause := if m = 0 ∧ x.lnk.lastTerm = 0 then 7 else x.lnk.cause } })) :=
  (if_neg (by simp [hl])).trans ((if_pos ⟨hl, by simp [hb]⟩).trans (if_neg (not_not.mpr hm)))

theorem partnerLift_of_free (h : (s.port p).fenced = false) : partnerLift p s = s := if_neg fun hc => by simp [h] at hc

theorem exec_bitlockAcquired_eq {l : BitVec 4} (v : BitVec 4) (hl : (s.port i.val).lnk.link = .bitlock)
    (hm : l &&& (s.port i.val).lnk.lanesTrained ≠ 0) :
    exec (.bitlockAcquired i l v) s = .next (forN 4 (fun j t => if (l &&& (s.port i.val).lnk.lanesTrained).getLsbD j = true
      then t.updPort i.val (·.updLane j (fun y => { y with polInv := v.getLsbD j, found := false })) else t)
      (s.updPort i.val (fun x => { x with lnk := { x.lnk with
        link := .symlock, since := s.now, lanesBit := l &&& (s.port i.val).lnk.lanesTrained } }))) :=
  if_pos ⟨hl, hm⟩

/-- Settles O17: one equation per command; the lanes of BITLOCK are set each in its turn (`forN_updLane`). -/
theorem bringUpStagesFollowInOrder : Obligations.BringUpStagesFollowInOrder := by
  unfold Obligations.BringUpStagesFollowInOrder
  refine fun i s => ⟨fun m hl hu hd hr => exec_receiverDetectPulse_first m hl hu hd hr, fun m hl hb hf hm => ?train,
    fun m hl hb hm0 hm => ?again, fun hl hb ht => ?none, fun hl => if_pos hl, fun m n hl hm hn => ?trainTimeout,
    fun l v hl hm => ?bitlock, fun hl hb => ⟨_, rfl, if_pos ⟨hl, hb⟩⟩⟩
  case train =>
    rw [exec_receiverDetectPulse_train hl hb hm]
    dsimp only
    rw [partnerLift_of_free (by simp [hf]), ite_self]
    exact congrArg _ (State.updPort_congr rfl)
  case again =>
    refine (exec_receiverDetectPulse_again hl hb hm).trans (congrArg _ (State.updPort_congr ?_))
    dsimp only
    rw [if_neg fun h => hm0 h.1]
  case none =>
    refine (exec_receiverDetectPulse_again hl hb BitVec.zero_and).trans (congrArg _ (State.updPort_congr ?_))
    dsimp only
    rw [if_pos ⟨rfl, ht⟩, ht]
    rfl
  case trainTimeout =>
    subst hn
    exact (if_pos hl).trans ((if_neg hm).trans (congrArg _ (State.updPort_congr rfl)))
  case bitlock =>
    obtain ⟨hw, hp, hlane⟩ := forN_updLane (p := i.val) (fun _ _ => rfl) 4 (s.updPort i.val (fun x => { x with lnk := { x.lnk with
        link := .symlock, since := s.now, lanesBit := l &&& (s.port i.val).lnk.lanesTrained } }))
    have hall := (State.updPort_within ..).trans hw
    refine ⟨_, exec_bitlockAcquired_eq v hl hm, hall.eq, hall.others, ?_, fun j hj hlj => ?_⟩
    · rw [State.updPort_port_self] at hp
      exact hp
    · rw [hlane, if_pos ⟨hj, hlj⟩]
      exact ⟨rfl, rfl⟩

end Sys2Proof.Machine
end

section
/-! SUPPORT. One event of a port's source that does not escalate, and the attempts that fail (R165). -/

namespace Sys2Proof.Machine

open Host

variable {s t u : State} {p n : Nat}

/-! ## One event that does not escalate -/

theorem Fr.or {m m' : Nat} (h : Fr m s t) (h' : Fr m' t u) : Fr (m ||| m') s u :=
  (h.mono (by rw [← Nat.or_assoc, Nat.or_self])).trans (h'.mono (by rw [Nat.or_comm m m', ← Nat.or_assoc, Nat.or_self]))

theorem Fr.quiet {m : Nat} (h : Fr m s t) (hq : s.quiet n) (hm : m &&& 78850 = 0 := by decide) : t.quiet n := by
  have hbit {i : Nat} (hi : (78850 : Nat).testBit i = true) : m.testBit i = false := testBit_of_disjoint hm hi
  obtain ⟨hoff, hcounts, hlast, hcount⟩ := hq
  have hsrc : t.src n = s.src n := src_congr (congrArg FltState.sources (h.flt (hbit (by decide)))) n
  have hnow := h.now (hbit (by decide))
  exact ⟨(h.collectorOff (hbit (by decide)) (hbit (by decide))).trans hoff, (h.counts (hbit (by decide)) n).trans hcounts,
    by rwa [hsrc, hnow], by rwa [hsrc, hnow]⟩

@[simp] theorem State.withEvent_src_self (n : Nat) (s : State) : (s.withEvent n).src n =
    { ((s.src n).count1 s.now).1 with total := satInc (s.src n).total, pending := true, last := some s.now } := by
  rw [State.withEvent, State.updSrc_src, if_pos rfl]

/-- A source of a port takes no action of its own (R421). -/
theorem perEvent_of_port (h : 16 ≤ n ∧ n < 80) (d : EventDetail) (s : State) : perEvent n d s = s :=
  (if_neg (by omega)).trans ((if_neg (by omega)).trans (if_neg (by omega)))

theorem fault_of_quiet_port (h : 16 ≤ n ∧ n < 80) (d : EventDetail) (hq : s.quiet n) : fault n d s = s.withEvent n := by
  rw [fault_of_quiet d (by omega) (by omega) hq, perEvent_of_port h]

theorem fixedClass_of_port (h : 16 ≤ n ∧ n < 80) : fixedClass n = none := by
  obtain ⟨h16, h80⟩ := h
  interval_cases n <;> rfl

theorem srcLink_port (hp : p < 16) : 16 ≤ srcLink p ∧ srcLink p < 80 := by unfold srcLink; omega
theorem srcProto_port (hp : p < 16) : 16 ≤ srcProto p ∧ srcProto p < 80 := by unfold srcProto; omega
theorem srcBook_port (hp : p < 16) : 16 ≤ srcBook p ∧ srcBook p < 80 := by unfold srcBook; omega
theorem srcStall_port (hp : p < 16) : 16 ≤ srcStall p ∧ srcStall p < 80 := by unfold srcStall; omega

/-! ## Failed attempts -/

/-- A port whose attempt failed: it waits in DETECT. -/
def Port.attemptFailed (now : Nat) (x : Port) : Port :=
  let y := if x.tx.session then x.endSession else x
  { y with rung := 3, lnk := { y.lnk with
      link := .detect, backoff := true, since := now, fails := y.lnk.fails + 1, cFailed := satInc y.lnk.cFailed,
      cause := 6, rl1 := if x.tx.session then false else y.cfg.rl1Compat && !y.lnk.rl1,
      lanesBit := 0, lanesTrained := 0, lanesLocked := 0, lanesPresent := 0, lastTerm := 0, lanesActive := 0,
      width := 0, fec := 0, retraining := false, partnerStarted := false, widthReq := none, retrainNext := false,
      txLanes := 0, rxLanes := 0, txNext := none, rxNext := none, widthCap := none, theirs := false } }

theorem attemptFailed_eq (p : Nat) (s : State) : attemptFailed p s =
    settleRung (fault (srcLink p) (portDetail p 6) (s.updPort p (Port.attemptFailed s.now))) := rfl

theorem Port.attemptFailed_session (now : Nat) (x : Port) : (x.attemptFailed now).tx.session = false := by
  unfold Port.attemptFailed
  by_cases h : x.tx.session = true
  · simp [h, Port.endSession]
  · simp [h]

theorem Port.attemptFailed_fails (now : Nat) (x : Port) : (x.attemptFailed now).lnk.fails = x.lnk.fails + 1 ∧
    (x.attemptFailed now).lnk.cFailed = satInc x.lnk.cFailed := by
  unfold Port.attemptFailed
  by_cases h : x.tx.session = true
  · simp [h, Port.endSession]
  · simp [h]

/-- A failed attempt whose event does not escalate: its port waits, its source counts, the stack's rung follows the ports. -/
theorem attemptFailed_of_quiet (hp : p < 16) (hq : s.quiet (srcLink p)) :
    Fr 54597248 s (Machine.attemptFailed p s) ∧ otherPorts p s (Machine.attemptFailed p s) ∧
    (Machine.attemptFailed p s).port p = (s.port p).attemptFailed s.now ∧
    (Machine.attemptFailed p s).flt = (s.withEvent (srcLink p)).flt := by
  have hup := s.updPort_fr p (Port.attemptFailed s.now)
  rw [attemptFailed_eq, fault_of_quiet_port (srcLink_port hp) _ (hup.quiet hq)]
  have hev := (s.updPort p (Port.attemptFailed s.now)).withEvent_fr (srcLink p)
  have hfr := hev.or (settleRung_fr _)
  refine ⟨hup.or hfr, otherPorts.trans (updPort_otherPorts p _ s) (hfr.otherPorts p), ?_, (settleRung_fr _).flt rfl⟩
  rw [hfr.port rfl, State.updPort_port_self]

theorem endSymlock_of_none {found : List LaneFound} (h : (s.port p).deskew found = []) : endSymlock p found s = Machine.attemptFailed p s :=
  if_pos h

/-- The timers of the four stages fail the attempt where nothing has been found. -/
theorem exec_attemptFailed {i : PortId} {l : Link} {wait : Nat} {c : Instr} (hl : (s.port i.val).lnk.link = l)
    (hc : (l = .train ∧ c = .trainTimeout i 0 ∧ wait = 25000000) ∨ (l = .bitlock ∧ c = .bitlockTimeout i ∧ wait = 2000000) ∨
      (l = .symlock ∧ c = .symlockTimeout i [] ∧ wait = 1000000) ∨ (l = .capx ∧ c = .capxTimeout i ∧ wait = 2000000)) :
    exec c s = .next (attemptFailed i.val (s.atLeast ((s.port i.val).lnk.since + wait))) := by
  obtain ⟨rfl, rfl, rfl⟩ | ⟨rfl, rfl, rfl⟩ | ⟨rfl, rfl, rfl⟩ | ⟨rfl, rfl, rfl⟩ := hc
  · exact (if_pos hl).trans (if_pos BitVec.zero_and)
  · exact if_pos hl
  · exact (if_pos hl).trans (congrArg Outcome.next (endSymlock_of_none rfl))
  · exact if_pos hl

/-- Settles O21: each timer fails the attempt (`exec_attemptFailed`), which `attemptFailed_of_quiet` describes. -/
theorem failedAttemptsBackOff : Obligations.FailedAttemptsBackOff := by
  unfold Obligations.FailedAttemptsBackOff
  intro i l wait c s u hl hc hu hq
  have hu : s.atLeast ((s.port i.val).lnk.since + wait) = u := hu.symm
  have hs : u.port i.val = s.port i.val := by rw [← hu]; rfl
  have hfr : Fr 2 s u := hu ▸ s.atLeast_fr _
  obtain ⟨hfail, hothers, hport, hflt⟩ := attemptFailed_of_quiet i.isLt hq
  have hall := hfr.or hfail
  obtain ⟨hfails, hcfailed⟩ := Port.attemptFailed_fails u.now (u.port i.val)
  refine ⟨_, (exec_attemptFailed hl hc).trans (by rw [hu]), otherPorts.trans (hfr.otherPorts _) hothers, hfail.now rfl, ?_, ?_, ?_, ?_, ?_, ?_, ?_, ?_,
    hall.otp rfl, hall.thm rfl, hall.image rfl, hall.rep rfl, hall.mem rfl⟩
  · rw [hport]; rfl
  · rw [hport]; rfl
  · rw [hport]; rfl
  · rw [hport, hfails, hs]
  · rw [hport, hcfailed, hs]
  · rw [hport]; rfl
  · rw [hport, Port.attemptFailed_session]
  · rw [src_congr (congrArg FltState.sources hflt), State.withEvent_src_self, src_congr (congrArg FltState.sources (hfr.flt rfl))]

end Sys2Proof.Machine
end

section
/-! SUPPORT. The symbol boundaries of a port and their deskew (R168), and the way from SYMLOCK to CAPX. -/

namespace Sys2Proof.Machine

open Host

variable {s t u : State} {p : Nat} {i : PortId}

/-! ## Boundaries and deskew -/

theorem boundaryAt_lane {f : LaneFound} {slip : Nat} {b : Boundary} (h : boundaryAt f slip = some b) : b.lane = f.lane.val := by
  obtain ⟨k, -, hk⟩ := List.exists_of_findSome?_eq_some h
  dsimp only at hk
  split at hk
  · split at hk
    · rw [← Option.some.inj hk]
    · nomatch hk
  · nomatch hk

/-- A boundary is that of the lane on which it was found. -/
theorem Port.boundary_lane {x : Port} {f : LaneFound} {b : Boundary} (h : x.boundary f = some b) : b.lane = f.lane.val := by
  unfold Port.boundary at h
  split at h
  · nomatch h
  split at h
  · exact boundaryAt_lane h
  · obtain ⟨k, -, hk⟩ := List.exists_of_findSome?_eq_some h
    exact boundaryAt_lane hk

/-- The latest of the boundaries that were found. -/
def latest (a : Boundary) (l : List Boundary) : Boundary := l.foldl (fun m b => if 0 < aheadBy m b then b else m) a

theorem latest_mem (a : Boundary) (l : List Boundary) : latest a l ∈ a :: l := by
  induction l generalizing a with
  | nil => exact List.mem_singleton_self a
  | cons b l ih =>
    have hb := ih (if 0 < aheadBy a b then b else a)
    rw [latest, List.foldl_cons]
    rw [List.mem_cons] at hb
    obtain heq | hmem := hb
    · rw [← latest, heq]
      split <;> simp
    · exact List.mem_cons_of_mem _ (List.mem_cons_of_mem _ hmem)

/-- Deskew takes boundaries as they were found, each with its delay. -/
theorem Port.deskew_eq (x : Port) (found : List LaneFound) : ∃ last : Boundary, (found.filterMap x.boundary ≠ [] → last ∈ found.filterMap x.boundary) ∧
    x.deskew found = (found.filterMap x.boundary).filterMap (fun b => if aheadBy b last ≤ 200 then some (b, (aheadBy b last).toNat) else none) := by
  unfold Port.deskew
  cases h : found.filterMap x.boundary with
  | nil => exact ⟨⟨0, 0, 0, 0⟩, fun hc => absurd rfl hc, rfl⟩
  | cons a l => exact ⟨latest a l, fun _ => latest_mem a l, rfl⟩

/-- Where every boundary lies within 200 UI of every other, deskew accepts all. -/
theorem Port.deskew_of_close (x : Port) (found : List LaneFound)
    (h : ∀ a ∈ found.filterMap x.boundary, ∀ b ∈ found.filterMap x.boundary, aheadBy a b ≤ 200) :
    (x.deskew found).map (·.1) = found.filterMap x.boundary := by
  obtain ⟨last, hlast, heq⟩ := x.deskew_eq found
  rw [heq, List.map_filterMap]
  refine (List.filterMap_congr fun b hb => ?_).trans List.filterMap_some
  rw [if_pos (h b hb last (hlast (List.ne_nil_of_mem hb)))]
  rfl

theorem Port.deskew_lt (x : Port) (found : List LaneFound) : ∀ e ∈ x.deskew found, e.1.lane < 4 := by
  intro e he
  obtain ⟨last, -, heq⟩ := x.deskew_eq found
  rw [heq, List.mem_filterMap] at he
  obtain ⟨b, hb, hbe⟩ := he
  obtain ⟨f, -, hf⟩ := List.mem_filterMap.mp hb
  split at hbe
  · rw [← Option.some.inj hbe, Port.boundary_lane hf]
    exact f.lane.isLt
  · nomatch hbe

/-- Keys that a filter keeps stay in their order. -/
theorem map_filterMap_sublist {α β γ : Type} {g : α → Option β} {k : α → γ} {k' : β → γ} (h : ∀ a b, g a = some b → k' b = k a) (l : List α) :
    List.Sublist ((l.filterMap g).map k') (l.map k) := by
  induction l with
  | nil => exact List.Sublist.slnil
  | cons a l ih =>
    cases ha : g a with
    | none => simpa [List.filterMap_cons, ha] using ih.cons (k a)
    | some b => simpa [List.filterMap_cons, ha, h a b ha] using ih.cons_cons (k a)

/-- Lanes that are searched once are accepted once. -/
theorem Port.deskew_nodup (x : Port) {found : List LaneFound} (h : (found.map (·.lane)).Nodup) :
    ((x.deskew found).map (·.1.lane)).Nodup := by
  obtain ⟨last, -, heq⟩ := x.deskew_eq found
  have haccept : List.Sublist ((x.deskew found).map (·.1.lane)) ((found.filterMap x.boundary).map (·.lane)) := by
    rw [heq]
    refine map_filterMap_sublist (fun b e he => ?_) _
    split at he
    · rw [← Option.some.inj he]
    · nomatch he
  have hfound := map_filterMap_sublist (k := fun f : LaneFound => f.lane.val) (fun f b hb => Port.boundary_lane (x := x) hb) found
  refine (haccept.trans hfound).nodup ?_
  have := h.map Fin.val_injective
  rwa [List.map_map] at this

/-! ## Lanes set in their turn -/

theorem forL_cons {α : Type} (g : α → State → State) (a : α) (l : List α) (s : State) : forL (a :: l) g s = forL l g (g a s) := rfl

/-- A list of lanes of one port, each set once. -/
theorem forL_updLane {α : Type} {k : α → Nat} {f : α → Lane → Lane} {l : List α} (hnd : (l.map k).Nodup) (s : State) :
    ∃ t, forL l (fun a s => s.updPort p (·.updLane (k a) (f a))) s = t ∧ Within p s t ∧
    t.port p = { s.port p with lnk := { (s.port p).lnk with lanes := (t.port p).lnk.lanes } } ∧
    (∀ a ∈ l, (t.port p).lane (k a) = f a ((s.port p).lane (k a))) ∧
    ∀ j, j ∉ l.map k → (t.port p).lane j = (s.port p).lane j := by
  induction l generalizing s with
  | nil => exact ⟨s, rfl, .refl p s, rfl, fun a ha => absurd ha List.not_mem_nil, fun _ _ => rfl⟩
  | cons a l ih =>
    rw [List.map_cons, List.nodup_cons] at hnd
    obtain ⟨t, ht, hw, hp, hin, hout⟩ := ih hnd.2 (s.updPort p (·.updLane (k a) (f a)))
    rw [State.updPort_port_self] at hp hin hout
    refine ⟨t, ht, (State.updPort_within ..).trans hw, hp, fun b hb => ?_, fun j hj => ?_⟩
    · obtain rfl | hb := List.mem_cons.mp hb
      · rw [hout _ hnd.1, Port.lane_updLane, if_pos rfl]
      · rw [hin b hb, Port.lane_updLane, if_neg fun hc : k b = k a => hnd.1 (hc ▸ List.mem_map_of_mem hb)]
    · rw [List.map_cons, List.mem_cons, not_or] at hj
      rw [hout j hj.2, Port.lane_updLane, if_neg hj.1]

/-- The mask of a list of lanes. -/
def maskOf {α : Type} (k : α → Nat) (l : List α) : BitVec 4 := l.foldl (fun m a => m ||| BitVec.ofNat 4 (2 ^ k a)) 0

theorem getLsbD_maskOf {α : Type} {k : α → Nat} {l : List α} (hk : ∀ a ∈ l, k a < 4) {j : Nat} (hj : j < 4) :
    (maskOf k l).getLsbD j = true ↔ ∃ a ∈ l, k a = j := by
  have hgen : ∀ m : BitVec 4, (l.foldl (fun m a => m ||| BitVec.ofNat 4 (2 ^ k a)) m).getLsbD j = true ↔
      m.getLsbD j = true ∨ ∃ a ∈ l, k a = j := by
    induction l with
    | nil => simp
    | cons a l ih =>
      intro m
      have hbit : (BitVec.ofNat 4 (2 ^ k a)).getLsbD j = decide (k a = j) := by
        rw [BitVec.getLsbD_ofNat, Nat.testBit_two_pow, decide_eq_true hj, Bool.true_and]
      rw [List.foldl_cons, ih fun b hb => hk b (List.mem_cons_of_mem _ hb), BitVec.getLsbD_or, hbit]
      simp [or_assoc]
  rw [maskOf, hgen]
  simp

/-! ## The end of SYMLOCK -/

theorem capMessage_congr (last : BitVec 128) (hotp : t.otp = s.otp) (hx : (t.port p).capHead p last = (s.port p).capHead p last) :
    t.capMessage p last = s.capMessage p last := by
  unfold State.capMessage
  dsimp only
  rw [hotp, hx]

/-- A capability message sent: it stands last on the wire of its port, which is all that changes. -/
theorem sendCap_spec (p : Nat) (last : BitVec 128) (s : State) : ∃ t, sendCap p last s = t ∧ Within p s t ∧
    t.port p = { s.port p with wire := (t.port p).wire } ∧
    (t.port p).wire = (s.port p).wire ++ [.capx (t.capMessage p last) ((t.port p).capLanesOut (t.capMessage p last))] := by
  have hport : (sendCap p last s).port p = { s.port p with
      wire := (s.port p).wire ++ [.capx (s.capMessage p last) ((s.port p).capLanesOut (s.capMessage p last))] } :=
    State.updPort_port_self ..
  have hmsg : (sendCap p last s).capMessage p last = s.capMessage p last := capMessage_congr last rfl (by rw [hport]; rfl)
  exact ⟨_, rfl, ⟨rfl, updPort_otherPorts _ _ _⟩, by rw [hport], by rw [hmsg, hport]; rfl⟩

/-- The lane of an accepted boundary. -/
def setFound (e : Boundary × Nat) (y : Lane) : Lane :=
  { y with slip := BitVec.ofNat 4 e.1.slip, found := true, laneId := BitVec.ofNat 2 e.1.id, skew := BitVec.ofNat 8 e.2 }

/-- The port on its way into CAPX with the lanes it accepted. -/
def Port.toCapx (now : Nat) (up : BitVec 4) (x : Port) : Port :=
  { x with lnk := { x.lnk with link := .capx, since := now, lanesLocked := up, capLast := 0, capCount := 0 } }

theorem endSymlock_of_some {found : List LaneFound} (h : (s.port p).deskew found ≠ [])
    (ht : forL ((s.port p).deskew found) (fun e s => s.updPort p (·.updLane e.1.lane (setFound e))) s = t) :
    endSymlock p found s = sendCap p 0 (t.updPort p (Port.toCapx t.now (maskOf (·.1.lane) ((s.port p).deskew found)))) := by
  subst ht
  exact if_neg h

/-- Deskew that accepts lanes opens CAPX on them. -/
theorem endSymlock_spec {found : List LaneFound} (hnd : (found.map (·.lane)).Nodup) (h : (s.port p).deskew found ≠ []) :
    ∃ t, endSymlock p found s = t ∧ Within p s t ∧ (t.port p).lnk.link = .capx ∧
      (∀ j, j < 4 → ((t.port p).lnk.lanesLocked.getLsbD j = true ↔ ∃ e ∈ (s.port p).deskew found, e.1.lane = j)) ∧
      (t.port p).lnk.capCount = 0 ∧ (t.port p).lnk.capLast = 0 ∧
      (∀ e ∈ (s.port p).deskew found, (t.port p).lane e.1.lane = setFound e ((s.port p).lane e.1.lane)) ∧
      (t.port p).wire = (s.port p).wire ++ [.capx (t.capMessage p 0) ((t.port p).capLanesOut (t.capMessage p 0))] := by
  obtain ⟨t, ht, hw, hp, hin, -⟩ := forL_updLane (p := p) (f := setFound) ((s.port p).deskew_nodup hnd) s
  obtain ⟨u, hu, huw, hup, hwire⟩ := sendCap_spec p 0 (t.updPort p (Port.toCapx t.now (maskOf (·.1.lane) ((s.port p).deskew found))))
  refine ⟨u, (endSymlock_of_some h ht).trans hu, (hw.trans (State.updPort_within ..)).trans huw, ?_, fun j hj => ?_, ?_, ?_,
    fun e he => ?_, by rw [hwire, State.updPort_port_self, Port.toCapx, hp]⟩
  all_goals rw [hup, State.updPort_port_self]
  · rfl
  · exact getLsbD_maskOf ((s.port p).deskew_lt found) hj
  · rfl
  · rfl
  · exact hin e he

/-- Settles O18: CAPX opens by `endSymlock_spec`; every boundary close to every other is accepted (`Port.deskew_of_close`). -/
theorem symbolLockOpensCapabilityExchange : Obligations.SymbolLockOpensCapabilityExchange := by
  unfold Obligations.SymbolLockOpensCapabilityExchange
  refine fun i s => ⟨fun found hl hnd hne c hc => ?capx, (s.port i.val).deskew_of_close, fun hl => if_pos hl, fun hl => if_neg hl,
    fun hl => if_pos hl⟩
  obtain ⟨u, hfr, hc⟩ : ∃ u, Fr 2 s u ∧ exec c s = .next (endSymlock i.val found u) := by
    obtain rfl | ⟨rfl, hall⟩ := hc
    · exact ⟨_, s.atLeast_fr _, if_pos hl⟩
    · refine ⟨s, .refl .., if_pos ⟨hl, List.all_eq_true.mpr fun j hj => ?_⟩⟩
      rw [Bool.or_eq_true, Bool.not_eq_true', List.any_eq_true]
      by_cases hbit : (s.port i.val).lnk.lanesBit.getLsbD j = true
      · obtain ⟨b, hb, hbj⟩ := hall ⟨j, List.mem_range.mp hj⟩ hbit
        exact .inr ⟨b, hb, decide_eq_true hbj⟩
      · exact .inl (Bool.eq_false_of_not_eq_true hbit)
  have hport := hfr.port rfl i.val
  obtain ⟨t, ht, hw, hlink, hlocked, hcount, hlast, hlane, hwire⟩ := endSymlock_spec hnd (hport ▸ hne)
  rw [hport] at hlocked hlane hwire
  refine ⟨t, hc.trans (by rw [ht]), ?_, hlink, fun l => hlocked _ l.isLt, hcount, hlast, hlane, hwire, ?_⟩
  · exact otherPorts.trans (hfr.otherPorts _) hw.others
  · exact (hfr.or hw.fr).eq_merge

end Sys2Proof.Machine
end

section
/-! SUPPORT. A port that becomes ACTIVE: what it sends, its session books, the stack's rung that follows, and the entry to SERVICE. -/

namespace Sys2Proof.Machine

open Host

variable {s t u : State} {p : Nat} {i : PortId}

/-! ## What a port sends -/

/-- What is sent depends on the link, the newest acknowledge and the next sequence alone. -/
theorem Port.sent_congr {x y : Port} (hlnk : x.lnk = y.lnk) (hack : x.tx.ackOut = y.tx.ackOut) (hseq : x.tx.nextSeq = y.tx.nextSeq)
    (l : List (BitVec 1280)) : x.sent l = y.sent l := by
  have hof (z : Port) : z.sent l = ({ lnk := z.lnk, tx := { ackOut := z.tx.ackOut, nextSeq := z.tx.nextSeq } } : Port).sent l := rfl
  rw [hof x, hlnk, hack, hseq, hof y]

theorem Port.transmit_eq (x : Port) (l : List (BitVec 1280)) : x.transmit l = { x with wire := x.wire ++ x.sent l } := rfl

theorem Port.linkFlit_congr {x y : Port} (hack : x.tx.ackOut = y.tx.ackOut) (m : Msg) : x.linkFlit m = y.linkFlit m := by
  rw [Port.linkFlit, hack, Port.linkFlit]

theorem sendLink_eq (p : Nat) (m : Msg) (s : State) : sendLink p m s =
    s.updPort p (fun x => { x with wire := x.wire ++ x.sent [x.linkFlit m] }) := rfl

theorem sendLink_within (p : Nat) (m : Msg) (s : State) : Within p s (sendLink p m s) := sendLink_eq p m s ▸ State.updPort_within ..

/-! ## The account of the time withheld -/

theorem sameBooks_refl (x : PortTx) : sameBooks x x := rfl

theorem sameBooks.trans {x y z : PortTx} (h : sameBooks x y) (h' : sameBooks y z) : sameBooks x z := by
  unfold sameBooks at *
  rw [h', h]

theorem noteHeld_spec (p : Nat) (s : State) : ∃ t, noteHeld p s = t ∧ Within p s t ∧
    t.port p = { s.port p with tx := (t.port p).tx } ∧ sameBooks (s.port p).tx (t.port p).tx := by
  refine ⟨_, rfl, State.updPort_within .., ?_⟩
  rw [noteHeld, State.updPort_port_self]
  dsimp only
  split
  · exact ⟨rfl, rfl⟩
  · exact ⟨rfl, rfl⟩
  · exact ⟨rfl, rfl⟩

/-! ## The rung that follows the ports (R389) -/

theorem abandonEntry_fr_of_low {e : Entry} (result block : Nat) (he : s.pwr.entry = some e) (h5 : e.target ≠ 5) :
    Fr 4096 s (abandonEntry result block s) := by
  unfold abandonEntry
  rw [he]
  dsimp only
  rw [if_neg h5]
  exact Fr.u4096 (.refl ..) rfl

theorem startEntry_fr_of_low {m : Nat} (h5 : m ≠ 5) (s : State) : Fr 4096 s (startEntry m s) := by
  unfold startEntry
  refine Fr.ite (.refl ..) ?_
  dsimp only
  have h0 : Fr 4096 s { s with pwr.entry := some { target := m, start := s.now }, pwr.entryTarget := BitVec.ofNat 3 m, pwr.retry := none } :=
    Fr.u4096 (.refl ..) rfl
  split
  · exact h0.trans (abandonEntry_fr_of_low _ _ rfl h5)
  · rw [if_neg h5]
    exact h0

theorem lowestRung_le (s : State) : s.lowestRung ≤ 3 := by
  unfold State.lowestRung
  generalize List.range 16 = l
  suffices h : ∀ m, m ≤ 3 → l.foldl (fun m p => if s.portUp p then min m (s.port p).rungNow else m) m ≤ 3 from h 3 (Nat.le_refl 3)
  induction l with
  | nil => exact fun m hm => hm
  | cons a l ih =>
    intro m hm
    rw [List.foldl_cons]
    apply ih
    split <;> omega

/-- An entry above the lowest rung of a port given up, the retries of higher rungs forgotten. -/
def dropEntry (m : Nat) (s : State) : State :=
  match s.pwr.entry with
  | some e => if e.target ≤ 3 ∧ m < e.target then abandonEntry 4 0 s else s
  | none => s

/-- The rung taken at once or asked for. -/
def followRung (m : Nat) (s : State) : State :=
  if m < s.pwr.rung then leaveTo m s
  else if m = s.pwr.rung then s
  else if m = 1 then { s with pwr.rung := 1 }
  else if s.pwr.retry.any (fun t => decide (t.1 = m)) then s
  else startEntry m s

/-- The retries that stand above a rung forgotten. -/
def dropRetry (m : Nat) (s : State) : State := { s with pwr.retry := s.pwr.retry.filter (fun t => decide (t.1 ≤ m)) }

theorem settleRung_eq (s : State) : settleRung s =
    if s.mode ≠ .service ∨ s.bist.shutDown then s else followRung s.lowestRung (dropRetry s.lowestRung (dropEntry s.lowestRung s)) := rfl

theorem settleRung_of_mode (h : s.mode ≠ .service) : settleRung s = s := if_pos (.inl h)

theorem dropEntry_fr (m : Nat) (s : State) : Fr 4096 s (dropEntry m s) := by
  unfold dropEntry
  split
  · next e he =>
    split
    · next hle => exact abandonEntry_fr_of_low _ _ he (by omega)
    · exact .refl ..
  · exact .refl ..

theorem followRung_fr {m : Nat} (hm : m ≠ 5) (s : State) : Fr 50335744 s (followRung m s) := by
  unfold followRung
  split
  · exact leaveTo_fr m s
  split
  · exact .refl ..
  split
  · exact Fr.u4096 (.refl ..) rfl
  split
  · exact .refl ..
  · exact (startEntry_fr_of_low hm s).mono rfl

/-- The rung that follows the ports touches the ladder, the slices and the refresh walks: no entry of it is for P5. -/
theorem settleRung_narrow (s : State) : Fr 50335744 s (settleRung s) := by
  have hm := lowestRung_le s
  rw [settleRung_eq]
  have hdrop : Fr 4096 s (dropRetry s.lowestRung (dropEntry s.lowestRung s)) := Fr.u4096 (dropEntry_fr ..) rfl
  exact Fr.ite (.refl ..) ((hdrop.mono rfl).trans (followRung_fr (by omega) _))

/-! ## The port becomes ACTIVE -/

/-- The port at P0 with its settled width, lanes and FEC mode. -/
def Port.activated (now w : Nat) (lanes : BitVec 4) (f role : Nat) (x : Port) : Port :=
  { x with
    rung := 0, idleSince := now, txHush := false, rxHush := false
    lnk := { x.lnk with link := .active, since := now, width := BitVec.ofNat 2 w, fec := BitVec.ofNat 2 f,
                        lanesActive := lanes, txLanes := lanes, rxLanes := lanes, txNext := none, rxNext := none, widthCap := none,
                        role := BitVec.ofNat 3 role, fails := 0, retraining := false, theirs := false,
                        mgmtStart := false } }

/-- The record of a locked lane starts afresh. -/
def freshLane (p l : Nat) (s : State) : State :=
  if s.port p |>.lnk.lanesLocked.getLsbD l then s.updPort p (·.updLane l (fun y => { y with lately := [], missed := 0 })) else s

/-- The records of the locked lanes start afresh. -/
def freshLanes (p : Nat) (s : State) : State := forN 4 (freshLane p) s

/-- What follows a link that has become ACTIVE: the shrink, the rung, and SERVICE where BOOT waits for it. -/
def afterActive (p : Nat) (s : State) : State :=
  let s := settleRung (portShrink p false s)
  if s.mode = .boot ∧ s.boot.step = 12 ∧ s.minimumSet then
    pinShutdown (serviceEntry { s with boot.partnerWait := false })
  else s

theorem goActive_eq (p w : Nat) (lanes : BitVec 4) (f role : Nat) (s : State) : goActive p w lanes f role s =
    afterActive p (noteHeld p (if (s.port p).tx.session && (s.port p).lnk.retraining
      then startResync p 1 (freshLanes p (s.updPort p (Port.activated s.now w lanes f role)))
      else beginSession p (freshLanes p (s.updPort p (Port.activated s.now w lanes f role))))) := by
  unfold goActive afterActive freshLanes freshLane Port.activated
  with_reducible rfl

/-- A port that does not retrain begins a session. -/
theorem goActive_of_fresh (w : Nat) (lanes : BitVec 4) (f role : Nat) (h : (s.port p).lnk.retraining = false) :
    goActive p w lanes f role s = afterActive p (noteHeld p (beginSession p (freshLanes p (s.updPort p (Port.activated s.now w lanes f role))))) := by
  rw [goActive_eq, if_neg (by simp [h])]

theorem freshLanes_spec (p : Nat) (s : State) : Within p s (freshLanes p s) ∧
    (freshLanes p s).port p = { s.port p with lnk := { (s.port p).lnk with lanes := ((freshLanes p s).port p).lnk.lanes } } := by
  suffices h : ∀ n, Within p s (forN n (freshLane p) s) ∧ (forN n (freshLane p) s).port p =
      { s.port p with lnk := { (s.port p).lnk with lanes := ((forN n (freshLane p) s).port p).lnk.lanes } } from h 4
  intro n
  induction n with
  | zero => exact ⟨.refl p s, rfl⟩
  | succ n ih =>
    obtain ⟨hw, hp⟩ := ih
    rw [forN_succ]
    generalize forN n (freshLane p) s = t at hw hp ⊢
    unfold freshLane
    split
    · refine ⟨hw.trans (State.updPort_within ..), ?_⟩
      rw [State.updPort_port_self, Port.updLane, hp]
    · exact ⟨hw, hp⟩

/-- The books of a new session (R188). -/
def Port.opened (now : Nat) (x : Port) : Port :=
  let y := x.endSession
  { y with
    tx := { y.tx with session := true, sessions := y.tx.sessions + 1, initSent := true, initAt := now, nextSeq := 0, expect := 0,
                      ackOut := 0xFFF, peer0 := 64, peer1 := 128, peer2 := 8, held1 := 0, held2 := 0, grant1 := 0, grant2 := 0 }
    aud := { auditFails := y.aud.auditFails } }

theorem beginSession_eq (p : Nat) (s : State) : beginSession p s = sendLink p initMsg (s.updPort p (Port.opened s.now)) := rfl

/-- A port that is made ACTIVE with a new session, its INIT on the wire, before anything follows it. -/
theorem openSession_spec (p w : Nat) (lanes : BitVec 4) (f role : Nat) (s : State) :
    ∃ t, noteHeld p (beginSession p (freshLanes p (s.updPort p (Port.activated s.now w lanes f role)))) = t ∧ Within p s t ∧
      (∃ l, (t.port p).lnk = { ((s.port p).activated s.now w lanes f role).lnk with lanes := l }) ∧ (t.port p).cfg = (s.port p).cfg ∧
      (t.port p).rung = 0 ∧ sameBooks ((s.port p).opened s.now).tx (t.port p).tx ∧ (t.port p).reqs = [] ∧
      (t.port p).wire = (s.port p).wire ++ (t.port p).sent [(t.port p).linkFlit initMsg] := by
  obtain ⟨hw, hp⟩ := freshLanes_spec p (s.updPort p (Port.activated s.now w lanes f role))
  rw [State.updPort_port_self] at hp
  generalize freshLanes p (s.updPort p (Port.activated s.now w lanes f role)) = a at hw hp ⊢
  have hnow : a.now = s.now := hw.fr.now rfl
  have hsession : (beginSession p a).port p = { (a.port p).opened a.now with
      wire := (a.port p).wire ++ ((a.port p).opened a.now).sent [((a.port p).opened a.now).linkFlit initMsg] } := by
    rw [beginSession_eq, sendLink_eq, State.updPort_port_self, State.updPort_port_self]
    rfl
  have hbegin : Within p a (beginSession p a) := (State.updPort_within p (Port.opened a.now) a).trans (sendLink_within ..)
  generalize beginSession p a = b at hsession hbegin ⊢
  obtain ⟨t, ht, htw, htp, hbooks⟩ := noteHeld_spec p b
  refine ⟨t, ht, (((State.updPort_within ..).trans hw).trans hbegin).trans htw, ⟨(a.port p).lnk.lanes, ?_⟩, ?_, ?_, ?_, ?_, ?_⟩
  · rw [htp, hsession, hp]; rfl
  · rw [htp, hsession, hp]; rfl
  · rw [htp, hsession, hp]; rfl
  · rw [hsession, hp, hnow] at hbooks
    exact hbooks
  · rw [htp, hsession]; rfl
  · have hlnk : ((a.port p).opened a.now).lnk = (t.port p).lnk := by rw [htp, hsession]
    have hack : ((a.port p).opened a.now).tx.ackOut = (t.port p).tx.ackOut := by rw [hsession] at hbooks; rw [hbooks]
    have hseq : ((a.port p).opened a.now).tx.nextSeq = (t.port p).tx.nextSeq := by rw [hsession] at hbooks; rw [hbooks]
    rw [← Port.sent_congr hlnk hack hseq, ← Port.linkFlit_congr hack, htp, hsession, hp]
    rfl

theorem portShrink_of_full (raised : Bool) (hw : (s.port p).lnk.width.toNat = (s.port p).widthMax) (hr : (s.port p).lnk.rl1 = false) :
    portShrink p raised s = s :=
  if_neg fun h => h.elim (fun h => by omega) (fun h => by simp [hr] at h)

/-- A width that is settled is one of x1, x2, x4. -/
theorem Port.agree_width {x : Port} {m : BitVec 128} {w f : Nat} {lanes : BitVec 4} (h : x.agree m = some (w, lanes, f)) : w ≤ 3 := by
  unfold Port.agree at h
  dsimp only at h
  split at h
  · next v _ hv _ =>
    have hmem := List.mem_of_find?_eq_some hv
    obtain ⟨l, -, hl⟩ := Option.map_eq_some_iff.mp h
    obtain rfl : v = w := congrArg Prod.fst hl
    simp only [List.mem_cons, List.not_mem_nil, or_false] at hmem
    omega
  · nomatch h

/-- The third capability message that settles the link. -/
structure Settles (i : PortId) (m : BitVec 128) (w f : Nat) (lanes : BitVec 4) (s : State) : Prop where
  link : (s.port i.val).lnk.link = .capx
  check : capCheckOk m = true
  last : (s.port i.val).lnk.capLast = m
  echo : capEcho m = (s.port i.val).capHead i.val m
  count : (s.port i.val).lnk.capCount = 2
  rl1 : (s.port i.val).lnk.rl1 = false
  version : capVersion m = 2
  near : capFar m = false
  loop : (s.port i.val).lnk.loopMode ≠ 3
  agree : (s.port i.val).agree m = some (w, lanes, f)
  width : w = (s.port i.val).widthMax
  first : (s.port i.val).lnk.retraining = false

/-- The port with the third message noted. -/
def Port.noteCap (m : BitVec 128) (x : Port) : Port := { x with lnk := { x.lnk with capLast := m, capCount := 3 } }

/-- The message is noted and answered once more. -/
def noteCap (p : Nat) (m : BitVec 128) (s : State) : State := sendCap p m (s.updPort p (Port.noteCap m))

theorem Settles.exec_eq {m : BitVec 128} {w f : Nat} {lanes : BitVec 4} (h : Settles i m w f lanes s) :
    exec (.capxMessage i m) s = .next (goActive i.val w lanes f (capRole m) (noteCap i.val m s)) := by
  change execCapxMessage i m s = _
  have hecho : decide (capEcho m = (s.port i.val).capHead i.val (s.port i.val).lnk.capLast) = true := by
    rw [h.last, h.echo, decide_eq_true rfl]
  have hcount : (if m = (s.port i.val).lnk.capLast ∧ true = true then (s.port i.val).lnk.capCount + 1 else if true = true then 1 else 0) = 3 := by
    rw [if_pos ⟨h.last.symm, rfl⟩, h.count]
  unfold execCapxMessage
  rw [if_pos ⟨h.link, h.check⟩]
  dsimp only
  rw [hecho, hcount, if_neg (Nat.lt_irrefl 3), h.rl1,
    if_neg (by simp [h.version]), if_neg (by simpa [h.near] using h.loop), h.agree]
  rfl

/-- The port that settles its link, its session open, before the shrink, the rung and SERVICE are looked at. -/
theorem Settles.spec {m : BitVec 128} {w f : Nat} {lanes : BitVec 4} (h : Settles i m w f lanes s) :
    ∃ t, exec (.capxMessage i m) s = .next (afterActive i.val t) ∧ Within i.val s t ∧
      (∃ l, (t.port i.val).lnk = { (((s.port i.val).noteCap m).activated s.now w lanes f (capRole m)).lnk with lanes := l }) ∧
      (t.port i.val).cfg = (s.port i.val).cfg ∧
      (t.port i.val).rung = 0 ∧ sameBooks ((s.port i.val).opened s.now).tx (t.port i.val).tx ∧ (t.port i.val).reqs = [] ∧
      (∃ c, (t.port i.val).wire = (s.port i.val).wire ++ c :: (t.port i.val).sent [(t.port i.val).linkFlit initMsg]) ∧
      ∀ u : State, u.port i.val = t.port i.val → portShrink i.val false u = u := by
  obtain ⟨a, ha, haw, hap, hwire⟩ := sendCap_spec i.val m (s.updPort i.val (Port.noteCap m))
  have hnote : noteCap i.val m s = a := ha
  rw [State.updPort_port_self] at hap hwire
  obtain ⟨t, ht, hw, ⟨l, hlnk⟩, hcfg, hrung, hbooks, hreqs, hsent⟩ := openSession_spec i.val w lanes f (capRole m) a
  have hfresh : (a.port i.val).lnk.retraining = false := by rw [hap]; exact h.first
  have haw' : Within i.val s a := (State.updPort_within ..).trans haw
  have hnow : a.now = s.now := haw'.fr.now rfl
  refine ⟨t, by rw [h.exec_eq, hnote, goActive_of_fresh _ _ _ _ hfresh, ht], haw'.trans hw, ⟨l, ?_⟩, ?_, hrung, ?_, hreqs, ?_, fun u hu => ?_⟩
  · rw [hlnk, hap, hnow]
    rfl
  · rw [hcfg, hap]
    rfl
  · rw [hap, hnow] at hbooks
    exact hbooks
  · rw [hwire, List.append_assoc] at hsent
    exact ⟨_, hsent⟩
  · have hwidth : (u.port i.val).lnk.width.toNat = w := by
      rw [hu, hlnk]
      exact Nat.mod_eq_of_lt (Nat.lt_succ_of_le (Port.agree_width h.agree))
    refine portShrink_of_full _ (hwidth.trans (h.width.trans ?_)) ?_
    · rw [Port.widthMax, Port.widthMax, hu, hcfg, hap]
      rfl
    · rw [hu, hlnk, hap]
      exact h.rl1

end Sys2Proof.Machine
end

section
/-! SUPPORT. The port that settles its link in SERVICE, and the one whose link ends BOOT (R98, R169, R238). -/

namespace Sys2Proof.Machine

open Host

variable {s t u : State} {p : Nat} {i : PortId}

theorem settleRung_mode (s : State) : (settleRung s).mode = s.mode := (settleRung_narrow s).mode rfl

/-- Outside BOOT the shrink and the rung alone follow. -/
theorem afterActive_of_mode (hs : portShrink p false s = s) (hm : s.mode ≠ .boot) : afterActive p s = settleRung s := by
  unfold afterActive
  rw [hs]
  exact if_neg fun h => hm ((settleRung_mode s).symm.trans h.1)

/-- Settles O19: `Settles.spec`, after which the stack's rung alone may change. -/
theorem thirdCapabilityMessageMakesThePortActive : Obligations.ThirdCapabilityMessageMakesThePortActive := by
  unfold Obligations.ThirdCapabilityMessageMakesThePortActive
  intro i m w f lanes s hl hmode hok hlast hecho hcount hr hv hfar hloop hagree hw hfirst
  have h : Settles i m w f lanes s := ⟨hl, hok, hlast, hecho, hcount, hr, hv, hfar, hloop, hagree, hw, hfirst⟩
  obtain ⟨t, ht, hwt, ⟨l, hlnk⟩, -, hrung, hbooks, hreqs, hwire, hshrink⟩ := h.spec
  have hafter : afterActive i.val t = settleRung t :=
    afterActive_of_mode (hshrink t rfl) fun hb => by rw [hwt.fr.mode rfl, hmode] at hb; nomatch hb
  have hsettle := settleRung_narrow t
  have hall := hwt.fr.or hsettle
  have hport : (settleRung t).port i.val = t.port i.val := hsettle.port rfl _
  have htx : (t.port i.val).tx.session = true ∧ (t.port i.val).tx.nextSeq = 0 ∧ (t.port i.val).tx.peer0 = 64 ∧
      (t.port i.val).tx.peer1 = 128 ∧ (t.port i.val).tx.peer2 = 8 := by
    rw [hbooks]
    exact ⟨rfl, rfl, rfl, rfl, rfl⟩
  obtain ⟨hsession, hseq, hp0, hp1, hp2⟩ := htx
  refine ⟨settleRung t, by rw [ht, hafter], otherPorts.trans hwt.others (hsettle.otherPorts _), ?_⟩
  rw [hport]
  refine ⟨?_, ?_, ?_, ?_, ?_, ?_, hrung, ?_, hsession, hseq, hp0, hp1, hp2, hreqs, hwire, hall.flt rfl, hall.otp rfl, hall.image rfl, hall.mem rfl⟩
  all_goals rw [hlnk]; rfl

/-! ## SERVICE entered -/

/-- The minimum service set looks at the ports' enables and PLLs, the clocks and the excluded pseudo-channels alone. -/
theorem minimumSet_congr {m : Nat} (h : Fr m s t) (hports : ∀ p, (t.port p).cfg.enable = (s.port p).cfg.enable ∧
    (t.port p).lnk.bistOut = (s.port p).lnk.bistOut ∧ (t.port p).lnk.pll = (s.port p).lnk.pll)
    (hpwr : t.pwr.refclk = s.pwr.refclk ∧ t.pwr.corePll = s.pwr.corePll) (hpcs : ∀ q, (t.pc q).excluded = (s.pc q).excluded)
    (hm : m &&& 10822144 = 0 := by decide) : t.minimumSet = s.minimumSet := by
  have hbit {i : Nat} (hi : (10822144 : Nat).testBit i = true) : m.testBit i = false := testBit_of_disjoint hm hi
  have hotp := h.otp (hbit (by decide))
  have hup (p : Nat) : (t.portUp p && (t.port p).lnk.pll) = (s.portUp p && (s.port p).lnk.pll) := by
    obtain ⟨hen, hout, hpll⟩ := hports p
    rw [State.portUp, h.portPresent (hbit (by decide)), hen, hout, hpll, State.portUp]
  have hlayers : t.serviceLayers = s.serviceLayers := by rw [State.serviceLayers, hotp, State.serviceLayers]
  have hrank (q r : Nat) : t.rank q r = s.rank q r := by rw [State.rank, h.rep (hbit (by decide)), State.rank]
  have hctl (n : Nat) : t.noController n = s.noController n := by
    rw [State.noController, State.chan, h.chans (hbit (by decide)), State.noController, State.chan]
  simp only [State.minimumSet, hup, hlayers, hrank, hctl, hpcs, h.sup (hbit (by decide)), hotp,
    h.image (hbit (by decide)), hpwr.1, hpwr.2, h.bist (hbit (by decide))]

theorem Fr.minimumSet {m : Nat} (h : Fr m s t) (hports : ∀ p, (t.port p).cfg.enable = (s.port p).cfg.enable ∧
    (t.port p).lnk.bistOut = (s.port p).lnk.bistOut ∧ (t.port p).lnk.pll = (s.port p).lnk.pll) (hm : m &&& 27603456 = 0 := by decide) :
    t.minimumSet = s.minimumSet := by
  have hbit {i : Nat} (hi : (27603456 : Nat).testBit i = true) : m.testBit i = false := testBit_of_disjoint hm hi
  have hpwr := h.pwr (hbit (by decide))
  refine minimumSet_congr h hports ⟨by rw [hpwr], by rw [hpwr]⟩ (fun q => by rw [h.pc (hbit (by decide))]) ?_
  rw [show (10822144 : Nat) = 27603456 &&& 10822144 from rfl, ← Nat.and_assoc, hm, Nat.zero_and]

/-- The budget window of a port starts anew. -/
def Port.startWindow (now : Nat) (x : Port) : Port :=
  { x with gnt := { x.gnt with windowStart := some now, spent := [], pcUsed := [], bankUsed := [] } }

/-- The windows of every present port started. -/
def startWindows (s : State) : State := forN 16 (fun p t => if t.portPresent p then t.updPort p (Port.startWindow t.now) else t) s

/-- Every counter set cleared. -/
def clearCounters (s : State) : State := forN 32 (fun i s => s.updCset i (fun c => { c with cycle := 0, hiLatch := 0, ovf := 0, cnt := [] })) s

/-- SERVICE entered, BOOT_TIME frozen. -/
def inService (s : State) : State :=
  { s with mode := .service, pwr.serviceAt := s.now, boot.frozen := some (s.boot.frozen.getD s.us) }

/-- The entry to SERVICE from BOOT: books, mode, ledger, attestation unit, rung. -/
theorem serviceEntry_of_boot (h : s.mode = .boot) (ht : inService (clearCounters (startWindows s)) = t) :
    serviceEntry s = settleRung (attStart (queueRecord (ledgerRecord t) t)) := by
  subst ht
  rw [serviceEntry, if_neg (not_not.mpr h)]
  unfold inService clearCounters startWindows Port.startWindow
  with_reducible rfl

theorem startWindows_spec (s : State) : Fr 4194304 s (startWindows s) ∧
    ∀ p, (startWindows s).port p = if p < 16 then (if s.portPresent p = true then (s.port p).startWindow s.now else s.port p) else s.port p := by
  have hturn (p : Nat) (t : State) : Fr 4194304 t (if t.portPresent p = true then t.updPort p (Port.startWindow t.now) else t) :=
    Fr.iteT (t.updPort_fr ..) (Fr.refl ..)
  refine ⟨Fr.forN hturn 16 (Fr.refl ..), fun p => ?_⟩
  refine forN_port (F := fun p x => if s.portPresent p = true then x.startWindow s.now else x) hturn (fun p t ht => ?_) (fun p t j hj => ?_) 16 p
  · rw [ht.portPresent rfl, ht.now rfl]
    split
    · rw [State.updPort_port_self]
    · rfl
  · split
    · rw [State.updPort_port, if_neg hj]
    · rfl

theorem clearCounters_fr (s : State) : Fr 134217728 s (clearCounters s) := Fr.forN (fun _ t => t.updCset_fr ..) 32 (Fr.refl ..)

/-- The start of the attestation unit where its journal stands behind its fuses and leaves are left. -/
theorem attStart_of_room (hlast : s.att.lastLeaf = none) (hroom : s.leafCount < 1024) : Fr 32768 s (attStart s) := by
  unfold attStart
  dsimp only
  rw [hlast]
  dsimp only
  rw [if_neg (Nat.not_lt_zero _), if_neg (by omega)]
  exact Fr.u32768 (.refl ..) rfl

/-! ## What the ladder's own steps leave of the power state -/

/-- The power state without what entries, their ends and the rung write. -/
def PwrState.base (x : PwrState) : PwrState :=
  { x with rung := 0, entry := none, entryTarget := 0, hsRung := 0, hsResult := 0, hsBlock := 0, refusals := 0, retry := none,
           dwellFrom := 0, raising := false, raiseAt := 0, lowering := false }

@[simp] theorem abandonEntry_base (result block : Nat) (s : State) : (abandonEntry result block s).pwr.base = s.pwr.base := by
  unfold abandonEntry
  split
  · rfl
  · dsimp only
    split
    · split <;> rfl
    · rfl

@[simp] theorem startEntry_base (m : Nat) (s : State) : (startEntry m s).pwr.base = s.pwr.base := by
  unfold startEntry
  split
  · rfl
  dsimp only
  split
  · rw [abandonEntry_base]
    rfl
  split
  · rw [(startSelfTest_fr ..).pwr rfl]
    split <;> rfl
  · rfl

@[simp] theorem leaveTo_base (m : Nat) (s : State) : (leaveTo m s).pwr.base = s.pwr.base := by
  unfold leaveTo
  dsimp only
  split
  · rw [(mapSlices_fr ..).pwr rfl]
    split
    · rw [(leaveSelfRefresh_fr ..).pwr rfl]
      rfl
    · rfl
  · split
    · rw [(leaveSelfRefresh_fr ..).pwr rfl]
      rfl
    · rfl

theorem settleRung_base (s : State) : (settleRung s).pwr.base = s.pwr.base := by
  have hdrop (m : Nat) : PwrState.base (dropRetry m (dropEntry m s)).pwr = PwrState.base s.pwr := by
    change PwrState.base (dropEntry m s).pwr = _
    unfold dropEntry
    split
    · split
      · rw [abandonEntry_base]
      · rfl
    · rfl
  have hrung (t : State) : PwrState.base { t.pwr with rung := 1 } = PwrState.base t.pwr := rfl
  have hfollow (m : Nat) (t : State) : PwrState.base (followRung m t).pwr = PwrState.base t.pwr := by
    unfold followRung
    simp only [apply_ite State.pwr, apply_ite PwrState.base, leaveTo_base, startEntry_base, hrung, ite_self]
  rw [settleRung_eq]
  split
  · rfl
  · rw [hfollow, hdrop]

theorem settleRung_serviceAt (s : State) : (settleRung s).pwr.serviceAt = s.pwr.serviceAt :=
  (congrArg PwrState.serviceAt (settleRung_base s) : (settleRung s).pwr.base.serviceAt = s.pwr.base.serviceAt)

theorem settleRung_refclk (s : State) : (settleRung s).pwr.refclk = s.pwr.refclk :=
  (congrArg PwrState.refclk (settleRung_base s) : (settleRung s).pwr.base.refclk = s.pwr.base.refclk)

theorem settleRung_corePll (s : State) : (settleRung s).pwr.corePll = s.pwr.corePll :=
  (congrArg PwrState.corePll (settleRung_base s) : (settleRung s).pwr.base.corePll = s.pwr.base.corePll)

theorem inService_fr (s : State) : Fr 4368 s (inService s) := Fr.u4368 (.refl ..) rfl

/-- SERVICE entered with leaves left: the windows run, and ports, collector and memory are left otherwise. -/
theorem serviceEntry_spec (h : s.mode = .boot) (hlast : s.att.lastLeaf = none) (hroom : s.leafCount < 1024) :
    ∃ t, serviceEntry s = t ∧ Fr 188797200 s t ∧ t.mode = .service ∧ t.pwr.serviceAt = s.now ∧
      t.boot = { s.boot with frozen := some (s.boot.frozen.getD s.us) } ∧
      ∀ p, p < 16 → s.portPresent p = true → t.port p = (s.port p).startWindow s.now := by
  obtain ⟨hwin, hports⟩ := startWindows_spec s
  have hbooks := hwin.or (clearCounters_fr (startWindows s))
  have hclear := clearCounters_fr (startWindows s)
  rw [serviceEntry_of_boot h rfl]
  generalize clearCounters (startWindows s) = a at hbooks hclear ⊢
  have hin := inService_fr a
  have hmode : (inService a).mode = .service := rfl
  have hat : (inService a).pwr.serviceAt = s.now := hbooks.now rfl
  have hboot : (inService a).boot = { s.boot with frozen := some (s.boot.frozen.getD s.us) } := by
    rw [inService, State.us, hbooks.boot rfl, hbooks.now rfl, State.us]
  generalize inService a = b at hin hmode hat hboot ⊢
  have hqueue := queueRecord_fr (ledgerRecord b) b
  generalize queueRecord (ledgerRecord b) b = c at hqueue ⊢
  have hall := (hbooks.or hin).or hqueue
  have hatt : Fr 32768 c (attStart c) :=
    attStart_of_room ((congrArg AttState.lastLeaf (hall.att rfl)).trans hlast) (by rwa [State.leafCount, hall.otp rfl])
  generalize attStart c = d at hatt ⊢
  have hend := (hqueue.or hatt).or (settleRung_narrow d)
  refine ⟨settleRung d, rfl, ((hbooks.or hin).or hend).mono rfl, ?_, ?_, ?_, fun p hp hpres => ?_⟩
  · rw [hend.mode rfl, hmode]
  · rw [settleRung_serviceAt, (hqueue.or hatt).pwr rfl, hat]
  · rw [hend.boot rfl, hboot]
  · rw [(hin.or hend).port rfl, hclear.port rfl, hports, if_pos hp, if_pos hpres]

/-- Settles O20: the port that settles its link (`Settles.spec`) leaves the minimum set met, and SERVICE follows (`serviceEntry_spec`). -/
theorem firstActivePortEntersService : Obligations.FirstActivePortEntersService := by
  unfold Obligations.FirstActivePortEntersService
  intro i m w f lanes s hl hmode hstep hmin hfrozen hok hlast hecho hcount hr hv hfar hloop hagree hw hfirst hleaf hroom hpin
  have h : Settles i m w f lanes s := ⟨hl, hok, hlast, hecho, hcount, hr, hv, hfar, hloop, hagree, hw, hfirst⟩
  obtain ⟨t, ht, hwt, ⟨l, hlnk⟩, hcfg, -, -, -, -, hshrink⟩ := h.spec
  have hset : t.minimumSet = true := by
    refine (hwt.fr.minimumSet fun p => ?_).trans hmin
    by_cases hp : p = i.val
    · subst hp
      rw [hlnk, hcfg]
      exact ⟨rfl, rfl, rfl⟩
    · rw [hwt.others p hp]
      exact ⟨rfl, rfl, rfl⟩
  have hrest : Fr 256 t { t with boot.partnerWait := false } := Fr.u256 (.refl ..) rfl
  have hfr := hwt.fr.or hrest
  obtain ⟨u, hu, hufr, humode, huat, huboot, huport⟩ := serviceEntry_spec (s := { t with boot.partnerWait := false })
    ((hfr.mode rfl).trans hmode) ((congrArg AttState.lastLeaf (hfr.att rfl)).trans hleaf) (by rwa [State.leafCount, hfr.otp rfl])
  have htmode : t.mode = .boot := (hwt.fr.mode rfl).trans hmode
  have hafter : afterActive i.val t = u := by
    unfold afterActive
    rw [hshrink t rfl, settleRung_of_mode (by simp [htmode])]
    dsimp only
    rw [if_pos ⟨htmode, by rw [hwt.fr.boot rfl, hstep], hset⟩, hu, pinShutdown_of_high]
    rw [(hfr.or hufr).pins rfl, hpin]
  have hall := hfr.or hufr
  refine ⟨u, by rw [ht, hafter], humode, ?_, ?_, ?_, hall.flt rfl, hall.mem rfl, fun j hj hpres => ?_⟩
  · rw [huboot]
  · rw [huboot]
    change some (t.boot.frozen.getD t.us) = _
    rw [hwt.fr.boot rfl, hfrozen, State.us, hwt.fr.now rfl, State.us]
    rfl
  · rw [huat]
    exact hwt.fr.now rfl
  · rw [huport j hj (by rwa [hfr.portPresent rfl])]
    refine ⟨?_, rfl⟩
    change some t.now = _
    rw [hwt.fr.now rfl]

end Sys2Proof.Machine
end

section
/-! SUPPORT. What mild events and raises leave of the ports: all but the requests, the answers that wait, and the fence. -/

namespace Sys2Proof.Machine

variable {s t : State} {n : Nat}

/-- A port without what the collector touches short of HOLD and GRAVE: requests, waiting answers and notices, the fence. -/
def Port.core (x : Port) : Port := { x with reqs := [], mute := [], outq := [], fenced := false, fencedAt := 0 }

/-- The ports so far. -/
def State.cores (s : State) (p : Nat) : Port := (s.port p).core

theorem Fr.cores {m : Nat} (h : Fr m s t) (hm : m.testBit 22 = false) : t.cores = s.cores := by
  funext p
  rw [State.cores, h.port hm, State.cores]

theorem updPort_cores {p : Nat} {f : Port → Port} (h : ∀ x, (f x).core = x.core) (s : State) : (s.updPort p f).cores = s.cores := by
  funext q
  rw [State.cores, State.updPort_port, State.cores]
  split
  · next hq => rw [h, hq]
  · rfl

section
variable {x y : Port} (h : x.core = y.core)
include h
theorem Port.core_cfg : x.cfg = y.cfg := (congrArg Port.cfg h : x.core.cfg = y.core.cfg)
theorem Port.core_lnk : x.lnk = y.lnk := (congrArg Port.lnk h : x.core.lnk = y.core.lnk)
theorem Port.core_tx : x.tx = y.tx := (congrArg Port.tx h : x.core.tx = y.core.tx)
theorem Port.core_aud : x.aud = y.aud := (congrArg Port.aud h : x.core.aud = y.core.aud)
theorem Port.core_gnt : x.gnt = y.gnt := (congrArg Port.gnt h : x.core.gnt = y.core.gnt)
theorem Port.core_wire : x.wire = y.wire := (congrArg Port.wire h : x.core.wire = y.core.wire)
theorem Port.core_rung : x.rung = y.rung := (congrArg Port.rung h : x.core.rung = y.core.rung)
end

@[simp] theorem State.updSrc_cores (n : Nat) (f : Source → Source) (s : State) : (s.updSrc n f).cores = s.cores := rfl

@[simp] theorem setAlert_cores (m : BitVec 5) (s : State) : (setAlert m s).cores = s.cores := (setAlert_fr m s).cores rfl

@[simp] theorem logRecord_cores (src cls : Nat) (forced reacted : Bool) (record detail : Nat) (s : State) :
    (logRecord src cls forced reacted record detail s).cores = s.cores := (logRecord_fr ..).cores rfl

@[simp] theorem askRepair_cores (r : RepairReq) (s : State) : (askRepair r s).cores = s.cores := (askRepair_fr r s).cores rfl

@[simp] theorem repairReactions_cores (n : Nat) (d : EventDetail) (s : State) : (repairReactions n d s).cores = s.cores :=
  (repairReactions_fr n d s).cores rfl

@[simp] theorem supRestart_cores (s : State) : (supRestart s).cores = s.cores := (supRestart_fr s).cores rfl

@[simp] theorem sendNotice_cores (p src cls win : Nat) (s : State) : (sendNotice p src cls win s).cores = s.cores := by
  unfold sendNotice
  split
  · dsimp only
    split
    · exact (setAlert_cores ..).trans (updPort_cores (by intro x; rfl) s)
    · exact updPort_cores (by intro x; rfl) s
  · rfl

@[simp] theorem noticeRank_cores (src cls r : Nat) (s : State) : (noticeRank src cls r s).cores = s.cores := by
  refine forN_eq (fun i t => ?_) 16 s
  split
  · exact sendNotice_cores ..
  · rfl

@[simp] theorem notices_cores (n : Nat) (d : EventDetail) (s : State) : (notices n d s).cores = s.cores := by
  unfold notices
  dsimp only
  split
  · exact sendNotice_cores ..
  split
  · split
    · exact noticeRank_cores ..
    · refine forN_eq (fun i t => ?_) 16 s
      split
      · exact sendNotice_cores ..
      · rfl
  split
  · refine forN_eq (fun i t => ?_) 16 s
    split
    · exact sendNotice_cores ..
    · rfl
  · exact forN_eq (fun i t => sendNotice_cores ..) 16 s

theorem Port.answer_core (x : Port) (r : Req) (st : Status) : (x.answer r st).core = x.core := rfl

theorem foldl_answer_core (st : Status) (l : List Req) (x : Port) : (l.foldl (fun x r => x.answer r st) x).core = x.core := by
  induction l generalizing x with
  | nil => rfl
  | cons r l ih => rw [List.foldl_cons, ih, Port.answer_core]

@[simp] theorem fencePort_cores (p : Nat) (s : State) : (fencePort p s).cores = s.cores := by
  refine updPort_cores (fun x => ?_) s
  dsimp only
  have h := foldl_answer_core .fenced (x.reqs.filter Req.held) x
  generalize (x.reqs.filter Req.held).foldl (fun x r => x.answer r .fenced) x = y at h ⊢
  exact h

@[simp] theorem reactions_cores (n : Nat) (d : EventDetail) (forced : Bool) (record : Nat) (s : State) :
    (reactions n d forced record s).cores = s.cores := by
  simp only [reactions, apply_ite State.cores, supRestart_cores, repairReactions_cores, fencePort_cores, notices_cores,
    setAlert_cores, logRecord_cores, ite_self]

/-! ## Mild raises and events -/

theorem raiseOnly_cores {c : Nat} (d : EventDetail) (cause : Nat) (hc : c ≠ 4) (h : (s.srcReact n).testBit 8 = false) :
    (raiseOnly n c d cause s).cores = s.cores := by
  unfold raiseOnly
  extract_lets old raised reacted
  have hcores : reacted.cores = s.cores := by rw [reactions_cores]; rfl
  have hbit : reacted.srcReact n = s.srcReact n :=
    (srcReact_congr (State.src_eq_of_latches (reactions_latches ..) n)).trans (State.updSrc_srcReact s n (fun _ => rfl))
  simp only [if_neg hc]
  split
  · rfl
  · rw [holdReaction_of_mild d false (hbit ▸ h)]
    exact hcores

theorem escalate_cores (d : EventDetail) (forced : Bool) (h : s.mild n) : (escalate n d forced s).cores = s.cores := by
  unfold escalate
  extract_lets c raised reacted
  have hcores : reacted.cores = s.cores := by rw [reactions_cores]; rfl
  have hbit : reacted.srcReact n = s.srcReact n :=
    (srcReact_congr (State.src_eq_of_latches (reactions_latches ..) n)).trans (State.updSrc_srcReact s n (fun _ => rfl))
  rw [if_neg h.2, holdReaction_of_mild d forced (hbit ▸ h.1)]
  exact hcores

theorem registerEvent_cores (d : EventDetail) (h : s.mild n) : (registerEvent n d false s).1.cores = s.cores := by
  have hcounted : (s.counted n false).cores = s.cores := (s.counted_fr n false).cores rfl
  have hmild : (s.counted n false).mild n := ⟨(s.counted_srcReact n false).symm ▸ h.1, (s.counted_srcClass n false).symm ▸ h.2⟩
  exact registerEvent_cases (P := fun t => t.cores = s.cores) n d false s (fun _ => rfl) (fun _ => rfl)
    (fun _ _ => (escalate_cores d false hmild).trans hcounted) (fun h => absurd h Bool.false_ne_true) (fun _ => hcounted)

theorem fault_cores (hn : noGlove n) (d : EventDetail) (h : s.mild n) : (fault n d s).cores = s.cores := by
  cases hoff : s.collectorOff with
  | true => exact (fault_fr_of_off d hoff).cores rfl
  | false =>
    rw [fault_eq_of_noGlove hn d hoff]
    split
    · rw [(perEvent_fr_of_noGlove hn ..).cores rfl, registerEvent_cores d h]
    · exact registerEvent_cores d h

theorem raiseFault_cores {c : Nat} (hn : noGlove n) (d : EventDetail) (cause : Nat) (hc : c ≠ 4) (h : s.mild n) :
    (raiseFault n c d cause s).cores = s.cores := by
  unfold raiseFault
  simp only [gloveReaction_of_noGlove hn, if_neg hc]
  split_ifs
  · rfl
  · have hreact : ((s.registered n).srcReact n).testBit 8 = false := by rw [s.registered_srcReact, h.1]
    rw [(perEvent_fr_of_noGlove hn ..).cores rfl]
    exact raiseOnly_cores (s := s.registered n) d cause hc hreact
  · exact fault_cores hn d h

end Sys2Proof.Machine
end

section
/-! SUPPORT. Lane failure and changes of width (R175, R176, R208), and the shrink of a port's admission that follows (R260). -/

namespace Sys2Proof.Machine

open Host

variable {s t u : State} {p n : Nat} {i : PortId}

theorem State.withEvent_srcReact (n : Nat) (s : State) : (s.withEvent n).srcReact n = s.srcReact n :=
  State.updSrc_srcReact s n (fun x => Source.count1_react x s.now)

/-! ## A raise reaches its class, whatever the class was -/

theorem raiseOnly_of_reached {c : Nat} (d : EventDetail) (cause : Nat) (hc : c ≠ 4) (h : c ≤ s.srcClass n) :
    raiseOnly n c d cause s = s := by
  unfold raiseOnly
  exact (if_pos h).trans (if_neg hc)

theorem le_srcClass_raiseOnly {c : Nat} (hfix : fixedClass n = none) (d : EventDetail) (cause : Nat) (hc : c ≤ 3)
    (h : (s.srcReact n).testBit 8 = false) : c ≤ (raiseOnly n c d cause s).srcClass n := by
  have hc4 : c ≠ 4 := by omega
  by_cases hle : c ≤ s.srcClass n
  · rwa [raiseOnly_of_reached d cause hc4 hle]
  have hpresent : s.srcAbsent n = false := by
    by_contra habs
    rw [State.srcClass, if_pos (Bool.eq_true_of_not_eq_false habs)] at hle
    omega
  have hotp := raiseOnly_fr_of_mild d cause hc4 h
  have hcls : ((raiseOnly n c d cause s).src n).cls = BitVec.ofNat 3 c := by
    unfold raiseOnly
    extract_lets old raised reacted
    have hsrc (m : Nat) : reacted.src m = raised.src m := State.src_eq_of_latches (reactions_latches ..) m
    have hreact : reacted.srcReact n = s.srcReact n := (srcReact_congr (hsrc n)).trans (State.updSrc_srcReact s n (fun _ => rfl))
    rw [if_neg hle, if_neg hc4, holdReaction_of_mild d false (hreact ▸ h), hsrc, State.updSrc_src, if_pos rfl, hfix]
    dsimp only
    rw [if_pos rfl]
  rw [State.srcClass, hotp.srcAbsent rfl, hpresent, if_neg Bool.false_ne_true, hfix]
  dsimp only
  rw [hcls, BitVec.toNat_ofNat]
  omega

/-! ## The shrink -/

/-- The admission of a port as its width is. -/
def Port.shrunk (y : Port) : Port := { y with gnt.shrink := some y.limitNow }

theorem portShrink_of_narrow (h : (s.port p).lnk.width.toNat < (s.port p).widthMax) : portShrink p true s =
    raiseOnly (srcLink p) 2 (portDetail p (s.port p).lnk.cause.toNat) 1 (shrinkCause 2 (s.updPort p Port.shrunk)) := by
  unfold portShrink
  rw [if_pos (.inl h), if_pos h]
  rfl

theorem portShrink_spec (hp : p < 16) (h : (s.port p).lnk.width.toNat < (s.port p).widthMax) (hre : (s.srcReact (srcLink p)).testBit 8 = false) :
    Fr 5129728 s (portShrink p true s) ∧ ((portShrink p true s).port p).core = (s.port p).shrunk.core ∧
    (portShrink p true s).gnt.lastCause = 2 ∧ 2 ≤ (portShrink p true s).srcClass (srcLink p) := by
  have hfr := (s.updPort_fr p Port.shrunk).or (shrinkCause_fr 2 _)
  have hre' : ((shrinkCause 2 (s.updPort p Port.shrunk)).srcReact (srcLink p)).testBit 8 = false := hre
  have hcause : (shrinkCause 2 (s.updPort p Port.shrunk)).gnt.lastCause = 2 := rfl
  have hport : (shrinkCause 2 (s.updPort p Port.shrunk)).port p = (s.port p).shrunk := State.updPort_port_self ..
  rw [portShrink_of_narrow h]
  generalize shrinkCause 2 (s.updPort p Port.shrunk) = t at hfr hre' hcause hport ⊢
  have hraise := raiseOnly_fr_of_mild (portDetail p (s.port p).lnk.cause.toNat) 1 (by decide : (2 : Nat) ≠ 4) hre'
  refine ⟨(hfr.or hraise).mono rfl, ?_, ?_, le_srcClass_raiseOnly (fixedClass_of_port (srcLink_port hp)) _ _ (by decide) hre'⟩
  · exact (congrFun (raiseOnly_cores _ _ (by decide) hre') p).trans (congrArg Port.core hport)
  · rw [hraise.gnt rfl, hcause]

/-! ## A new width in force -/

/-- The port at its new width, the lanes it leaves under the background loop. -/
def Port.atWidth (w : Nat) (lanes : BitVec 4) (x : Port) : Port :=
  { x with lnk := { x.lnk with
    loopTest := x.lnk.lanesActive &&& ~~~ lanes, width := BitVec.ofNat 2 w, lanesActive := lanes, widthReq := none } }

theorem applyWidth_eq (p w : Nat) (lanes : BitVec 4) (s : State) : applyWidth p w lanes s =
    if ((portShrink p true (s.updPort p (Port.atWidth w lanes))).port p).lnk.retrainNext
    then startRetrain p 2 false false (portShrink p true (s.updPort p (Port.atWidth w lanes)))
    else portShrink p true (s.updPort p (Port.atWidth w lanes)) := rfl

theorem applyWidth_spec {w : Nat} (lanes : BitVec 4) (hp : p < 16) (hnext : (s.port p).lnk.retrainNext = false)
    (hw : (BitVec.ofNat 2 w).toNat < (s.port p).widthMax) (hre : (s.srcReact (srcLink p)).testBit 8 = false) :
    ∃ t, applyWidth p w lanes s = t ∧ Fr 5129728 s t ∧ (t.port p).core = ((s.port p).atWidth w lanes).shrunk.core ∧
      t.gnt.lastCause = 2 ∧ 2 ≤ t.srcClass (srcLink p) := by
  have hport : (s.updPort p (Port.atWidth w lanes)).port p = (s.port p).atWidth w lanes := State.updPort_port_self ..
  obtain ⟨hfr, hcore, hcause, hcls⟩ := portShrink_spec (s := s.updPort p (Port.atWidth w lanes)) hp (by rw [hport]; exact hw) hre
  rw [hport] at hcore
  rw [applyWidth_eq, if_neg]
  · exact ⟨_, rfl, ((s.updPort_fr p _).or hfr).mono rfl, hcore, hcause, hcls⟩
  · rw [Port.core_lnk hcore]
    exact Bool.eq_false_iff.mp hnext

/-! ## Lanes fail -/

/-- The width left after a failure announced with the sequence from which it holds (R208). -/
def Port.announce (now w : Nat) (l : BitVec 4) (x : Port) : Port :=
  { x with
    wire := x.wire ++ x.sent [x.linkFlit (.widthChange w l.toNat x.tx.nextSeq.toNat)]
    lnk := { x.lnk with cause := 4, widthReq := some (BitVec.ofNat 2 w, l)
                        widthAt := if x.lnk.widthReq.isSome then x.lnk.widthAt else now
                        txNext := some (l, x.tx.nextSeq), cDegrades := satInc x.lnk.cDegrades } }

/-- Lanes that fail of an ACTIVE port noted as the cause, and the event of it. -/
theorem fault_lanes (hp : p < 16) (hq : s.quiet (srcLink p)) (f : Port → Port) :
    fault (srcLink p) (portDetail p 4) (s.updPort p f) = (s.withEvent (srcLink p)).updPort p f := by
  rw [fault_of_quiet_port (srcLink_port hp) _ ((s.updPort_fr p f).quiet hq)]
  rfl

theorem failLanes_of_quiet {m : BitVec 4} {w : Nat} {l : BitVec 4} (hp : p < 16) (hl : (s.port p).lnk.link = .active)
    (hm : m &&& (s.port p).widthNow.2 ≠ 0) (hq : s.quiet (srcLink p))
    (hd : degradeTo (s.port p).widthNow.1 (s.port p).widthNow.2 m = some (w, l)) :
    failLanes p m s = (s.withEvent (srcLink p)).updPort p (Port.announce s.now w l) := by
  unfold failLanes
  dsimp only
  rw [if_pos ⟨hl, hm⟩, fault_lanes hp hq, hd]
  have hport : (s.withEvent (srcLink p)).port p = s.port p := rfl
  rw [if_neg (by rw [State.updPort_port_self, hport]; exact not_not.mpr hl)]
  dsimp only
  rw [sendLink_eq, State.updPort_updPort, State.updPort_updPort]
  refine State.updPort_congr ?_
  rw [State.updPort_port_self]
  rfl

/-! ## The partner's change of width -/

/-- The partner's change answered, and the receiver set to change its lanes. -/
def Port.acceptWidth (m : WidthMsg) (x : Port) : Port :=
  ({ x with
    wire := x.wire ++ x.sent [x.linkFlit (.widthAck m.width.toNat m.lanes.toNat x.tx.nextSeq.toNat)]
    lnk := { x.lnk with cause := 4, cDegrades := satInc x.lnk.cDegrades, txNext := some (m.lanes, x.tx.nextSeq) } } : Port).rxSwitch m.lanes m.switchSeq

theorem exec_widthChange_eq {m : WidthMsg} (hl : (s.port i.val).lnk.link = .active) (hm0 : m.width ≠ 0)
    (hw : m.width.toNat < (s.port i.val).widthNow.1 + b2n (s.port i.val).lnk.widthReq.isSome)
    (hlanes : m.lanes &&& (s.port i.val).widthNow.2 = m.lanes) (hpop : popBelow 4 m.lanes.toNat = 2 ^ (m.width.toNat - 1))
    (hq : s.quiet (srcLink i.val)) : exec (.widthChange i m) s =
      .next (applyWidth i.val m.width.toNat m.lanes ((s.withEvent (srcLink i.val)).updPort i.val (Port.acceptWidth m))) := by
  refine (if_pos ⟨hl, hm0, hw, hlanes, hpop⟩).trans ?_
  rw [fault_lanes i.isLt hq]
  have hport : (s.withEvent (srcLink i.val)).port i.val = s.port i.val := rfl
  rw [if_neg (by rw [State.updPort_port_self, hport]; exact not_not.mpr hl)]
  refine congrArg (fun t => Outcome.next (applyWidth i.val m.width.toNat m.lanes t)) ?_
  rw [sendLink_eq, State.updPort_updPort, State.updPort_updPort]
  exact State.updPort_congr rfl

/-! ## The receiving lanes -/

theorem Port.rxSwitch_eq (x : Port) (lanes : BitVec 4) (n : BitVec 12) : x.rxSwitch lanes n = { x with lnk := { x.lnk with
    rxLanes := if n = x.tx.expect ∨ 2048 ≤ (n - x.tx.expect).toNat then lanes else x.lnk.rxLanes
    rxNext := if n = x.tx.expect ∨ 2048 ≤ (n - x.tx.expect).toNat then none else some (lanes, n) } } := by
  unfold Port.rxSwitch
  split <;> rfl

theorem exec_widthAck_eq {m : WidthMsg} {w : BitVec 2} {l : BitVec 4} (hl : (s.port i.val).lnk.link = .active)
    (hreq : (s.port i.val).lnk.widthReq = some (w, l)) (hw : m.width = w) (hlanes : m.lanes = l) :
    exec (.widthAck i m) s = .next (applyWidth i.val w.toNat l (s.updPort i.val (·.rxSwitch l m.switchSeq))) := by
  change execWidthAck i m s = _
  unfold execWidthAck
  dsimp only
  rw [hreq]
  exact if_pos ⟨hl, hw, hlanes⟩

/-- Settles O22: a failure is one update of the port beside its event (`failLanes_of_quiet`); the two answers end in `applyWidth_spec`. -/
theorem laneFailureNarrowsThePort : Obligations.LaneFailureNarrowsThePort := by
  unfold Obligations.LaneFailureNarrowsThePort
  refine fun i s hl hre => ⟨fun b m w l hm hlanes hq hd => ?fails, fun m w l hreq hw hlanes hnext hlt => ?ack,
    fun m hm0 hw hlanes hpop hq hnext hlt => ?change⟩
  case fails =>
    subst hm
    exact congrArg Outcome.next (failLanes_of_quiet i.isLt hl hlanes hq hd)
  case ack =>
    have hport : (s.updPort i.val (·.rxSwitch l m.switchSeq)).port i.val = (s.port i.val).rxSwitch l m.switchSeq := State.updPort_port_self ..
    rw [Port.rxSwitch_eq] at hport
    obtain ⟨t, ht, hfr, hcore, hcause, hcls⟩ := applyWidth_spec (s := s.updPort i.val (·.rxSwitch l m.switchSeq)) (w := w.toNat) l i.isLt
      (by rw [hport]; exact hnext) (by rw [hport, BitVec.ofNat_toNat, BitVec.setWidth_eq]; exact hlt) hre
    rw [hport] at hcore
    have hlnk := Port.core_lnk hcore
    refine ⟨t, (exec_widthAck_eq hl hreq hw hlanes).trans (by rw [ht]), ?_, ?_, ?_, ?_, ?_, ?_, ?_, ?_, hcause, hfr.mem rfl, hcls⟩
    any_goals rw [hlnk]
    · exact (BitVec.ofNat_toNat ..).trans (BitVec.setWidth_eq w)
    · rfl
    · rfl
    · rfl
    · rfl
    · rfl
    · split
      · exact ⟨rfl, rfl⟩
      · exact ⟨rfl, rfl⟩
    · rw [Port.core_gnt hcore, Port.limitNow, Port.widthMax, hlnk, Port.core_cfg hcore]
      rfl
  case change =>
    have hport : ((s.withEvent (srcLink i.val)).updPort i.val (Port.acceptWidth m)).port i.val = (s.port i.val).acceptWidth m :=
      State.updPort_port_self ..
    have hre' : (((s.withEvent (srcLink i.val)).updPort i.val (Port.acceptWidth m)).srcReact (srcLink i.val)).testBit 8 = false :=
      (congrArg (Nat.testBit · 8) (State.withEvent_srcReact (srcLink i.val) s)).trans hre
    rw [Port.acceptWidth, Port.rxSwitch_eq] at hport
    obtain ⟨t, ht, hfr, hcore, hcause, -⟩ := applyWidth_spec (s := (s.withEvent (srcLink i.val)).updPort i.val (Port.acceptWidth m))
      (w := m.width.toNat) m.lanes i.isLt (by rw [hport]; exact hnext) (by rw [hport, BitVec.ofNat_toNat, BitVec.setWidth_eq]; exact hlt) hre'
    rw [hport] at hcore
    have hlnk := Port.core_lnk hcore
    refine ⟨t, (exec_widthChange_eq hl hm0 hw hlanes hpop hq).trans (by rw [ht]), ?_, ?_, ?_, hcause, ?_, ?_, ?_, hfr.mem rfl⟩
    any_goals rw [hlnk]
    · exact (BitVec.ofNat_toNat ..).trans (BitVec.setWidth_eq m.width)
    · rfl
    · rfl
    · rfl
    · rfl
    · rw [Port.core_wire hcore]
      rfl

end Sys2Proof.Machine
end

section
/-! SUPPORT. What HOLD makes of the ports: every link is down, what a port's link remembers of its faults stays. -/

namespace Sys2Proof.Machine

open Host

variable {s t u : State} {p n : Nat} {i : PortId}

/-- A port whose requests are answered and whose link is down (R36). -/
def Port.down (x : Port) : Port := x.answerAll.toOff

theorem linksDown_port (s : State) (p : Nat) :
    (linksDown s).port p = if p < 16 ∧ s.port p ≠ {} then (s.port p).down else s.port p := by
  have hturn (i : Nat) (t : State) : Fr 4194304 t (if t.port i = {} then t else t.updPort i (fun x => x.answerAll.toOff)) :=
    Fr.ite (Fr.refl ..) (t.updPort_fr ..)
  rw [linksDown, forN_port (F := fun _ x => if x = {} then x else x.down) hturn (fun i t _ => ?self) (fun i t j hj => ?other)]
  · by_cases hp : p < 16 <;> by_cases hx : s.port p = {} <;> simp [hp, hx]
  case self =>
    split
    · rfl
    · rw [State.updPort_port_self]; rfl
  case other =>
    split
    · rfl
    · rw [State.updPort_port, if_neg hj]

theorem stopAll_port (s : State) (p : Nat) : s.stopAll.port p = (linksDown s).port p := by
  unfold State.stopAll
  rw [(stopTest_fr _).port rfl, (layersOff_fr _).port rfl, (stopMemory_fr _).port rfl]

theorem enterHold_port {c : Nat} (ht : s.mode ≠ .trip) (hh : s.mode ≠ .hold) (p : Nat) :
    (enterHold c s).port p = if p < 16 ∧ s.port p ≠ {} then (s.port p).down else s.port p := by
  rw [enterHold_eq c ht hh, ← linksDown_port, ← stopAll_port]
  rfl

theorem Port.down_link (x : Port) : x.down.lnk.link = .off := rfl

theorem enterHold_link_off {c : Nat} (ht : s.mode ≠ .trip) (hh : s.mode ≠ .hold) (hp : p < 16) :
    ((enterHold c s).port p).lnk.link = .off := by
  rw [enterHold_port ht hh]
  split
  · exact Port.down_link _
  · next h => rw [not_and, not_not] at h; rw [h hp]

/-! ## What the collector leaves of a link, HOLD included -/

theorem Port.down_cause (x : Port) : x.down.lnk.cause = x.lnk.cause := by
  unfold Port.down Port.answerAll
  dsimp only
  split <;> rfl

/-- The notices of a grave fault change no link. -/
theorem setGrave_lnk (src : Nat) (forced : Bool) (cause : Nat) (s : State) :
    ∃ u k, setGrave src forced cause s = enterHold k u ∧ u.mode = s.mode ∧ ∀ p, (u.port p).lnk = (s.port p).lnk := by
  unfold setGrave
  extract_lets flt latched alerted time noticed
  have hlatched : Fr 1024 s latched := Fr.ite (.refl ..) (Fr.u1024 (.refl ..) rfl)
  have halerted := hlatched.or (setAlert_fr 2 latched)
  have hports : Fr 4194304 alerted noticed := Fr.forN (fun _ _ => Fr.iteT (State.updPort_fr ..) (Fr.refl ..)) 16 (Fr.refl ..)
  refine ⟨noticed, _, rfl, (halerted.or hports).mode rfl, fun p => ?_⟩
  refine (forN_eq (f := fun t => (t.port p).lnk) (fun i t => ?_) 16 alerted).trans (by rw [halerted.port rfl])
  split
  · rw [State.updPort_port]
    split
    · next h => subst h; rfl
    · rfl
  · rfl

theorem reactions_keeps_lnk {Q : PortLnk → Prop} {src : Nat} {d : EventDetail} {forced : Bool} {record : Nat} (h : Q (s.port p).lnk) :
    Q ((reactions src d forced record s).port p).lnk := by
  rwa [Port.core_lnk (congrFun (reactions_cores src d forced record s) p)]

section
variable {Q : PortLnk → Prop} (hQ : ∀ x : Port, Q x.lnk → Q x.down.lnk)
include hQ

theorem enterHold_keeps_lnk {c : Nat} (h : Q (s.port p).lnk) : Q ((enterHold c s).port p).lnk := by
  by_cases ht : s.mode = .trip
  · rwa [enterHold_of_trip c ht]
  by_cases hh : s.mode = .hold
  · rwa [enterHold_of_hold c hh]
  rw [enterHold_port ht hh]
  split
  · exact hQ _ h
  · exact h

theorem setGrave_keeps_lnk {src : Nat} {forced : Bool} {cause : Nat} (h : Q (s.port p).lnk) : Q ((setGrave src forced cause s).port p).lnk := by
  obtain ⟨u, k, heq, -, hu⟩ := setGrave_lnk src forced cause s
  rw [heq]
  exact enterHold_keeps_lnk hQ (by rwa [hu])

theorem latchGrave_keeps_lnk {src : Nat} {d : EventDetail} {forced : Bool} {cause : Nat} (h : Q (s.port p).lnk) :
    Q ((latchGrave src d forced cause s).port p).lnk := by
  unfold latchGrave
  refine setGrave_keeps_lnk hQ ?_
  split
  · exact h
  · rwa [(logRecord_fr ..).port rfl]

theorem holdReaction_keeps_lnk {src : Nat} {d : EventDetail} {forced : Bool} (h : Q (s.port p).lnk) :
    Q ((holdReaction src d forced s).port p).lnk := by
  unfold holdReaction
  split
  · refine setGrave_keeps_lnk hQ ?_
    rw [(logRecord_fr ..).port rfl]
    exact h
  · exact h

theorem escalate_keeps_lnk {src : Nat} {d : EventDetail} {forced : Bool} (h : Q (s.port p).lnk) :
    Q ((escalate src d forced s).port p).lnk := by
  unfold escalate
  extract_lets c raised reacted
  have hreacted : Q (reacted.port p).lnk := reactions_keeps_lnk (Q := Q) h
  split
  · exact setGrave_keeps_lnk hQ hreacted
  · exact holdReaction_keeps_lnk hQ hreacted

theorem registerEvent_keeps_lnk {d : EventDetail} {forced : Bool} (h : Q (s.port p).lnk) : Q ((registerEvent n d forced s).1.port p).lnk := by
  have hcounted : Q ((s.counted n forced).port p).lnk := by rwa [(s.counted_fr n forced).port rfl]
  exact registerEvent_cases (P := fun t => Q (t.port p).lnk) n d forced s (fun _ => h) (fun _ => h)
    (fun _ _ => escalate_keeps_lnk hQ hcounted) (fun _ => latchGrave_keeps_lnk hQ hcounted) (fun _ => hcounted)

theorem fault_keeps_lnk (hn : noGlove n) {d : EventDetail} (h : Q (s.port p).lnk) : Q ((fault n d s).port p).lnk := by
  cases hoff : s.collectorOff with
  | true => rwa [(fault_fr_of_off d hoff).port rfl]
  | false =>
    rw [fault_eq_of_noGlove hn d hoff]
    split
    · rw [(perEvent_fr_of_noGlove hn ..).port rfl]
      exact registerEvent_keeps_lnk hQ h
    · exact registerEvent_keeps_lnk hQ h

theorem raiseFault_keeps_lnk (hn : noGlove n) {c : Nat} {d : EventDetail} {cause : Nat} (h : Q (s.port p).lnk) :
    Q ((raiseFault n c d cause s).port p).lnk := by
  have hraise {t : State} (ht : Q (t.port p).lnk) : Q ((raiseOnly n c d cause t).port p).lnk := by
    unfold raiseOnly
    extract_lets old raised reacted
    have hreacted : Q (reacted.port p).lnk := reactions_keeps_lnk (Q := Q) ht
    split
    · split
      · exact latchGrave_keeps_lnk hQ ht
      · exact ht
    split
    · exact setGrave_keeps_lnk hQ hreacted
    · exact holdReaction_keeps_lnk hQ hreacted
  unfold raiseFault
  simp only [gloveReaction_of_noGlove hn]
  split
  · exact h
  split
  · rw [(perEvent_fr_of_noGlove hn ..).port rfl]
    exact hraise h
  · split
    · exact latchGrave_keeps_lnk hQ (fault_keeps_lnk hQ hn h)
    · exact fault_keeps_lnk hQ hn h

end

/-! ## The links of a stack that came to HOLD -/

/-- Not in TRIP, and in HOLD with every link down. -/
structure State.linksFollow (s : State) : Prop where
  mode : s.mode ≠ .trip
  off : s.mode = .hold → ∀ p, p < 16 → (s.port p).lnk.link = .off

theorem State.linksFollow.congr (h : s.linksFollow) (hmode : t.mode = s.mode) (hlnk : ∀ p, (t.port p).lnk = (s.port p).lnk) : t.linksFollow :=
  ⟨hmode ▸ h.mode, fun hh p hp => (congrArg PortLnk.link (hlnk p)).trans (h.off (hmode ▸ hh) p hp)⟩

theorem State.linksFollow.setGrave (h : s.linksFollow) (src : Nat) (forced : Bool) (cause : Nat) :
    (setGrave src forced cause s).linksFollow ∧ ∀ p, p < 16 → ((Machine.setGrave src forced cause s).port p).lnk.link = .off := by
  obtain ⟨u, k, heq, hmode, hlnk⟩ := setGrave_lnk src forced cause s
  have hu : u.linksFollow := h.congr hmode hlnk
  rw [heq]
  by_cases hh : u.mode = .hold
  · rw [enterHold_of_hold k hh]
    exact ⟨hu, hu.off hh⟩
  · have hoff := fun p hp => enterHold_link_off (c := k) (p := p) hu.mode hh hp
    exact ⟨⟨by rw [enterHold_mode k hu.mode]; exact Mode.noConfusion, fun _ => hoff⟩, hoff⟩

theorem State.linksFollow.latchGrave (h : s.linksFollow) (src : Nat) (d : EventDetail) (forced : Bool) (cause : Nat) :
    (latchGrave src d forced cause s).linksFollow ∧ ∀ p, p < 16 → ((Machine.latchGrave src d forced cause s).port p).lnk.link = .off := by
  unfold Machine.latchGrave
  refine State.linksFollow.setGrave ?_ ..
  split
  · exact h
  · exact h.congr ((logRecord_fr ..).mode rfl) fun p => by rw [(logRecord_fr ..).port rfl]

theorem State.linksFollow.registerEvent (h : s.linksFollow) (n : Nat) (d : EventDetail) (forced : Bool) :
    (registerEvent n d forced s).1.linksFollow := by
  have hcounted : (s.counted n forced).linksFollow :=
    h.congr ((s.counted_fr n forced).mode rfl) fun p => by rw [(s.counted_fr n forced).port rfl]
  refine registerEvent_cases (P := State.linksFollow) n d forced s (fun _ => h) (fun _ => h.congr rfl fun _ => rfl) (fun _ _ => ?_)
    (fun _ => (hcounted.latchGrave ..).1) (fun _ => hcounted)
  unfold escalate
  extract_lets c raised reacted
  have hreacted : reacted.linksFollow :=
    hcounted.congr ((reactions_fr ..).mode rfl) fun p => Port.core_lnk (congrFun (reactions_cores ..) p)
  split
  · exact (hreacted.setGrave ..).1
  · unfold holdReaction
    split
    · refine (State.linksFollow.setGrave ?_ ..).1
      exact hreacted.congr ((logRecord_fr ..).mode rfl) fun p => by rw [(logRecord_fr ..).port rfl]; rfl
    · exact hreacted

/-! ## The minimum service set lost (R42) -/

/-- Its loss in SERVICE or in RETAIN at P3 ends in HOLD with cause 0x03 and every link down. -/
theorem checkMinimum_lost (hset : s.minimumSet = false) (hmode : s.mode = .service ∨ (s.mode = .retain ∧ s.pwr.rung ≤ 3)) :
    Held 3 s (checkMinimum s) ∧ ∀ p, p < 16 → ((checkMinimum s).port p).lnk.link = .off := by
  have ht : s.mode ≠ .trip := by rintro hc; rcases hmode with h | ⟨h, -⟩ <;> rw [hc] at h <;> nomatch h
  have hh : s.mode ≠ .hold := by rintro hc; rcases hmode with h | ⟨h, -⟩ <;> rw [hc] at h <;> nomatch h
  have hb : s.mode ≠ .boot := by rintro hc; rcases hmode with h | ⟨h, -⟩ <;> rw [hc] at h <;> nomatch h
  have heq : checkMinimum s = latchGrave 14 {} false 3 (registerEvent 14 {} false s).1 := by
    unfold checkMinimum
    rw [if_neg (by simp [hset]), if_neg fun h => hb h.1, if_pos hmode]
  have hfollow : s.linksFollow := ⟨ht, fun h => absurd h hh⟩
  rw [heq]
  refine ⟨?_, ((hfollow.registerEvent 14 {} false).latchGrave 14 {} false 3).2⟩
  rcases registerEvent_stays (n := 14) {} false ht hh with hfr | hheld
  · have hkeep := hfr.mode rfl
    exact (latchGrave_held 14 {} false 3 (hkeep ▸ ht) (hkeep ▸ hh)).after hfr
  · exact hheld.latchGrave ..

end Sys2Proof.Machine
end

section
/-! SUPPORT. Retrains (R42, R176, R206, R213, R403) and the background loop of removed lanes (R177). -/

namespace Sys2Proof.Machine

open Host

variable {s t u : State} {p n : Nat} {i : PortId}

/-! ## The rung leaves the minimum service set -/

theorem leaveSelfRefresh_excluded (s : State) (q : Nat) : ((leaveSelfRefresh s).pc q).excluded = (s.pc q).excluded := by
  unfold leaveSelfRefresh
  dsimp only
  rw [(mapSlices_fr ..).pc rfl]
  refine forN_eq (f := fun t => (t.pc q).excluded) (fun i t => ?_) 32 s
  split
  · rfl
  · rw [State.updPc_pc]
    split
    · next h => subst h; rfl
    · rfl

theorem leaveTo_excluded (m : Nat) (s : State) (q : Nat) : ((leaveTo m s).pc q).excluded = (s.pc q).excluded := by
  unfold leaveTo
  dsimp only
  split
  · rw [(mapSlices_fr ..).pc rfl]
    split
    · rw [leaveSelfRefresh_excluded]; rfl
    · rfl
  · split
    · rw [leaveSelfRefresh_excluded]; rfl
    · rfl

theorem settleRung_excluded (s : State) (q : Nat) : ((settleRung s).pc q).excluded = (s.pc q).excluded := by
  have hm := lowestRung_le s
  have hdrop : Fr 4096 s (dropRetry s.lowestRung (dropEntry s.lowestRung s)) := Fr.u4096 (dropEntry_fr ..) rfl
  rw [settleRung_eq]
  split
  · rfl
  unfold followRung
  split
  · rw [leaveTo_excluded, hdrop.pc rfl]
  split
  · rw [hdrop.pc rfl]
  split
  · exact congrArg Pc.excluded (hdrop.pc rfl q)
  split
  · rw [hdrop.pc rfl]
  · rw [(startEntry_fr_of_low (by omega) _).pc rfl, hdrop.pc rfl]

theorem settleRung_minimumSet (s : State) : (settleRung s).minimumSet = s.minimumSet := by
  have h := settleRung_narrow s
  exact minimumSet_congr h (fun p => by rw [h.port rfl]; exact ⟨rfl, rfl, rfl⟩) ⟨settleRung_refclk s, settleRung_corePll s⟩
    (settleRung_excluded s)

/-! ## Retrains -/

/-- The port on its way into TRAIN with its session kept. -/
def Port.retrain (now cause : Nat) (partner theirs : Bool) (x : Port) : Port :=
  { x with
    rung := 3, txHush := false, rxHush := false, aud.resync := none
    lnk := { x.lnk with link := .train, since := now, retraining := true, cRetrains := satInc x.lnk.cRetrains,
                        cause := BitVec.ofNat 4 cause, partnerStarted := partner, theirs := theirs, widthReq := none, retrainNext := false,
                        widthCap := if partner ∨ cause = 2 then none else some x.lnk.width.toNat,
                        txLanes := 0, rxLanes := 0, txNext := none, rxNext := none,
                        lanesTrained := 0, lanesBit := 0, lanesLocked := 0, lanesActive := 0, capCount := 0 } }

theorem startRetrain_eq (p cause : Nat) (partner theirs : Bool) (s : State) : startRetrain p cause partner theirs s =
    noteHeld p (settleRung (s.updPort p (Port.retrain s.now cause partner theirs))) := by
  unfold startRetrain Port.retrain
  with_reducible rfl

theorem startRetrain_spec (p cause : Nat) (partner theirs : Bool) (s : State) :
    ∃ t, startRetrain p cause partner theirs s = t ∧ Fr 54530048 s t ∧ otherPorts p s t ∧
      t.port p = { (s.port p).retrain s.now cause partner theirs with tx := (t.port p).tx } ∧ sameBooks (s.port p).tx (t.port p).tx ∧
      t.minimumSet = s.minimumSet := by
  have hup := s.updPort_within p (Port.retrain s.now cause partner theirs)
  have hself : (s.updPort p (Port.retrain s.now cause partner theirs)).port p = (s.port p).retrain s.now cause partner theirs :=
    State.updPort_port_self ..
  have hset : (s.updPort p (Port.retrain s.now cause partner theirs)).minimumSet = s.minimumSet := by
    refine hup.fr.minimumSet fun j => ?_
    by_cases hj : j = p
    · subst hj
      rw [hself]
      exact ⟨rfl, rfl, rfl⟩
    · rw [hup.others j hj]
      exact ⟨rfl, rfl, rfl⟩
  rw [startRetrain_eq]
  generalize s.updPort p (Port.retrain s.now cause partner theirs) = a at hup hself hset ⊢
  have hrung := settleRung_narrow a
  have hrungset := settleRung_minimumSet a
  generalize settleRung a = b at hrung hrungset ⊢
  obtain ⟨t, ht, htw, hport, hbooks⟩ := noteHeld_spec p b
  rw [hrung.port rfl, hself] at hport hbooks
  refine ⟨t, ht, ((hup.fr.or hrung).or htw.fr).mono rfl, (hup.others.trans (hrung.otherPorts p)).trans htw.others, hport, hbooks, ?_⟩
  rw [← hset, ← hrungset]
  refine htw.fr.minimumSet fun j => ?_
  by_cases hj : j = p
  · subst hj
    rw [hport, hrung.port rfl, hself]
    exact ⟨rfl, rfl, rfl⟩
  · rw [htw.others j hj]
    exact ⟨rfl, rfl, rfl⟩

/-- The fence after a retrain that the partner starts (R213). -/
def Port.lifted (now : Nat) (x : Port) : Bool :=
  x.fenced && !(decide (x.cfg.holdoff ≠ 0) && decide (x.fencedAt + x.cfg.holdoff.toNat * 1000000 ≤ now))

theorem partnerLift_spec (p : Nat) (s : State) : Within p s (partnerLift p s) ∧
    (partnerLift p s).port p = { s.port p with fenced := (s.port p).lifted s.now } := by
  unfold partnerLift
  dsimp only
  by_cases h : (s.port p).fenced ∧ (s.port p).cfg.holdoff ≠ 0 ∧ (s.port p).fencedAt + (s.port p).cfg.holdoff.toNat * 1000000 ≤ s.now
  · rw [if_pos h, liftFence]
    refine ⟨State.updPort_within .., (State.updPort_port_self ..).trans ?_⟩
    rw [Port.lifted, decide_eq_true h.2.1, decide_eq_true h.2.2, Bool.and_self, Bool.not_true, Bool.and_false]
  · rw [if_neg h]
    refine ⟨.refl p s, ?_⟩
    have hl : (s.port p).lifted s.now = (s.port p).fenced := by
      rw [Port.lifted]
      by_cases hf : (s.port p).fenced = true
      · have hnot : ¬ ((s.port p).cfg.holdoff ≠ 0 ∧ (s.port p).fencedAt + (s.port p).cfg.holdoff.toNat * 1000000 ≤ s.now) := fun hc => h ⟨hf, hc⟩
        rw [hf, ← Bool.decide_and, decide_eq_false hnot]
        rfl
      · rw [Bool.eq_false_of_not_eq_true hf, Bool.false_and]
    rw [hl]

/-! ## The loss of the port's PLL (R403) -/

theorem portPresent_of_quiet (hp : p < 16) (hq : s.quiet (srcLink p)) : s.portPresent p = true := by
  obtain ⟨-, hcounts, -⟩ := hq
  rw [State.counts, Bool.and_eq_true, Bool.not_eq_true', Bool.not_eq_true', State.srcAbsent, Bool.or_eq_false_iff] at hcounts
  obtain ⟨-, hport, -⟩ := hcounts
  obtain ⟨h16, h80⟩ := srcLink_port hp
  rw [decide_eq_true h16, decide_eq_true h80, show (srcLink p - 16) / 4 = p by unfold srcLink; omega] at hport
  simpa using hport

/-- The port without its PLL, its lanes failed. -/
def Port.pllLost (x : Port) : Port := { x with lnk := { x.lnk with pll := false, cause := 4 } }

theorem exec_portPllLockLoss_eq (hl : (s.port i.val).lnk.link = .active) (hpll : (s.port i.val).lnk.pll = true) (hq : s.quiet (srcLink i.val)) :
    exec (.portPllLockLoss i) s =
      .next (checkMinimum (startRetrain i.val 4 false false ((s.withEvent (srcLink i.val)).updPort i.val Port.pllLost))) := by
  change execPortPllLockLoss i s = _
  unfold execPortPllLockLoss
  rw [if_neg (by simp [portPresent_of_quiet i.isLt hq, hpll])]
  dsimp only
  rw [State.updPort_port_self]
  dsimp only
  rw [hl]
  dsimp only
  rw [State.updPort_updPort, fault_lanes i.isLt hq, if_pos]
  · rfl
  · rw [State.updPort_port_self]
    exact hl

theorem checkMinimum_of_met (h : s.minimumSet = true) : checkMinimum s = s := if_pos h

theorem pllLost_minimumSet (s : State) (p : Nat) : ((s.withEvent n).updPort p Port.pllLost).minimumSet =
    (s.updPort p (fun x => { x with lnk := { x.lnk with pll := false } })).minimumSet := by
  refine (((s.updPort_fr p _).symm.or (s.withEvent_fr n)).or (State.updPort_fr ..)).minimumSet fun j => ?_
  rw [State.updPort_port, State.updPort_port]
  split <;> exact ⟨rfl, rfl, rfl⟩

/-! ## The background loop of removed lanes (R177) -/

theorem countPrbs_spec (p : Nat) (lanes : BitVec 4) (errors : List Nat) (s : State) : Within p s (countPrbs p lanes errors s) ∧
    (countPrbs p lanes errors s).port p = { s.port p with lnk := { (s.port p).lnk with lanes := ((countPrbs p lanes errors s).port p).lnk.lanes } } ∧
    ∀ l, l < 4 → ((countPrbs p lanes errors s).port p).lane l = { (s.port p).lane l with
      prbsErr := if lanes.getLsbD l then satAdd ((s.port p).lane l).prbsErr (errors.getD l 0) else ((s.port p).lane l).prbsErr } := by
  obtain ⟨hw, hp, hl⟩ := forN_updLane (p := p) (c := fun l => lanes.getLsbD l)
    (f := fun l y => { y with prbsErr := satAdd y.prbsErr (errors.getD l 0) }) (fun _ _ => rfl) 4 s
  refine ⟨hw, hp, fun l hlt => (hl l).trans ?_⟩
  by_cases hc : lanes.getLsbD l = true
  · rw [if_pos ⟨hlt, hc⟩, if_pos hc]
  · rw [if_neg fun h => hc h.2, if_neg hc]

/-- The port with its loop settled. -/
def Port.loopSettled (pass : Bool) (x : Port) : Port :=
  { x with lnk := { x.lnk with loopTest := 0, cause := if pass then 3 else 5, theirs := x.lnk.theirs || (pass && x.lnk.retraining) } }

theorem exec_nearEndLoopResult_eq (pass : Bool) (e : List Nat) (h : (s.port i.val).lnk.loopTest ≠ 0)
    (ht : noteHeld i.val ((countPrbs i.val (s.port i.val).lnk.loopTest e s).updPort i.val (Port.loopSettled pass)) = t) :
    exec (.nearEndLoopResult i ⟨pass, e⟩) s =
      .next (if pass then t else raiseFault (srcLink i.val) 2 (portDetail i.val 5) 1 t) := by
  subst ht
  exact if_neg h

/-- Settles O23: retrains by `startRetrain_spec`, the loss of the minimum set by `checkMinimum_lost`, the loop by `countPrbs_spec`. -/
theorem retrainsKeepTheSession : Obligations.RetrainsKeepTheSession := by
  unfold Obligations.RetrainsKeepTheSession
  refine fun i s hl => ⟨fun hreq => ?timeout, ?partner, fun hq hpll => ⟨fun hset => ?lost, fun hset hmode hcause => ?held⟩,
    fun hloop => ⟨fun e => ?pass, fun hre e => ?fail⟩⟩
  case timeout =>
    have hlate := s.atLeast_fr ((s.port i.val).lnk.widthAt + 4000)
    obtain ⟨t, ht, hfr, hothers, hport, hbooks, -⟩ := startRetrain_spec i.val 4 false false (s.atLeast ((s.port i.val).lnk.widthAt + 4000))
    have hall := hlate.or hfr
    refine ⟨t, (if_pos ⟨hl, hreq⟩).trans (by rw [ht]), otherPorts.trans (hlate.otherPorts _) hothers, ?_, ?_, ?_, hbooks, ?_, ?_, ?_, ?_,
      hall.mem rfl, hall.flt rfl⟩
    any_goals rw [hport]; rfl
    rw [hfr.now rfl]
    exact Nat.le_max_right ..
  case partner =>
    obtain ⟨hw, hlift⟩ := partnerLift_spec i.val s
    obtain ⟨t, ht, hfr, hothers, hport, hbooks, -⟩ := startRetrain_spec i.val 1 true true (partnerLift i.val s)
    have hall := hw.fr.or hfr
    rw [hlift] at hport hbooks
    refine ⟨t, (if_pos hl).trans (by rw [ht]), hw.others.trans hothers, ?_, ?_, ?_, hbooks, ?_, ?_, hall.mem rfl, hall.flt rfl, ?_⟩
    all_goals rw [hport]; rfl
  case lost =>
    obtain ⟨t, ht, hfr, hothers, hport, hbooks, htset⟩ :=
      startRetrain_spec i.val 4 false false ((s.withEvent (srcLink i.val)).updPort i.val Port.pllLost)
    have hev := (s.withEvent_fr (srcLink i.val)).or ((s.withEvent (srcLink i.val)).updPort_fr i.val Port.pllLost)
    have hall := hev.or hfr
    rw [State.updPort_port_self] at hport hbooks
    refine ⟨t, (exec_portPllLockLoss_eq hl hpll hq).trans ?_, ?_, ?_, ?_, ?_, hbooks, ?_, hall.mem rfl⟩
    · rw [ht, checkMinimum_of_met (htset.trans ((pllLost_minimumSet s i.val).trans hset))]
    · exact otherPorts.trans ((s.withEvent_fr (srcLink i.val)).otherPorts i.val) (otherPorts.trans (updPort_otherPorts _ _ _) hothers)
    · rw [hport]; rfl
    · rw [hport]; rfl
    · rw [hport]; rfl
    · rw [hfr.src rfl, State.updPort_src, State.withEvent_src_self]
  case held =>
    obtain ⟨t, ht, hfr, -, -, -, htset⟩ :=
      startRetrain_spec i.val 4 false false ((s.withEvent (srcLink i.val)).updPort i.val Port.pllLost)
    have hev := (s.withEvent_fr (srcLink i.val)).or ((s.withEvent (srcLink i.val)).updPort_fr i.val Port.pllLost)
    have hall := hev.or hfr
    have htmode : t.mode = .service := (hall.mode rfl).trans hmode
    obtain ⟨hheld, hoff⟩ := checkMinimum_lost (htset.trans ((pllLost_minimumSet s i.val).trans hset)) (.inl htmode)
    refine ⟨_, (exec_portPllLockLoss_eq hl hpll hq).trans (by rw [ht]), hheld.mode, ?_, hoff _ i.isLt⟩
    rw [hheld.cause_of_none ((hall.holdCause rfl).trans hcause), if_neg (by simp [htmode])]
    rfl
  case pass =>
    obtain ⟨hw, hp, hlanes⟩ := countPrbs_spec i.val (s.port i.val).lnk.loopTest e s
    obtain ⟨t, ht, htw, hport, hbooks⟩ := noteHeld_spec i.val ((countPrbs i.val (s.port i.val).lnk.loopTest e s).updPort i.val (Port.loopSettled true))
    have hall := (hw.trans (State.updPort_within i.val (Port.loopSettled true) _)).trans htw
    rw [State.updPort_port_self] at hport hbooks
    refine ⟨t, exec_nearEndLoopResult_eq true e hloop ht, hall.eq, hall.others, ?_, ?_, fun l hlt => ?_⟩
    · rw [hp] at hbooks
      exact hbooks
    · rw [hport, hp]
      simp [Port.loopSettled]
    · rw [← hlanes l hlt, hport]
      rfl
  case fail =>
    obtain ⟨hw, hp, -⟩ := countPrbs_spec i.val (s.port i.val).lnk.loopTest e s
    obtain ⟨t, ht, htw, hport, -⟩ := noteHeld_spec i.val ((countPrbs i.val (s.port i.val).lnk.loopTest e s).updPort i.val (Port.loopSettled false))
    have hall := (hw.trans (State.updPort_within i.val (Port.loopSettled false) _)).trans htw
    have hn := noGlove_of_lt (srcLink_port i.isLt).2
    have hsettled : (t.port i.val).lnk.cause = 5 ∧ (t.port i.val).lnk.loopTest = 0 := by
      rw [hport, State.updPort_port_self]
      exact ⟨rfl, rfl⟩
    obtain ⟨hcause, hzero⟩ := raiseFault_keeps_lnk (Q := fun l => l.cause = 5 ∧ l.loopTest = 0)
      (fun x hx => ⟨x.down_cause.trans hx.1, rfl⟩) hn (c := 2) (d := portDetail i.val 5) (cause := 1) hsettled
    refine ⟨_, exec_nearEndLoopResult_eq false e hloop ht, hcause, hzero, fun hcounts _ => ?_⟩
    have hfix := fixedClass_of_port (srcLink_port i.isLt)
    have htcounts : t.counts (srcLink i.val) = true := (hall.fr.counts rfl _).trans hcounts
    have hreact : (t.srcReact (srcLink i.val)).testBit 8 = false := by rw [srcReact_congr (hall.fr.src rfl _), hre]
    rw [if_neg Bool.false_ne_true, srcClass_of_counts (((raiseFault_fr ..).counts rfl _).trans htcounts) hfix]
    exact raiseFault_cls_le hfix hn (by decide) _ _ htcounts hreact

end Sys2Proof.Machine
end

section
/-! SUPPORT. The supervisor pair: mismatches, and the end of a restart (R22, R24, R100). -/

namespace Sys2Proof.Machine

open Host

variable {s t u : State}

/-- An event of the supervisor pair that does not escalate restarts the pair. -/
theorem fault_one_of_quiet (hq : s.quiet 1) (hr : s.sup.restarting = false) :
    fault 1 {} s = { s.withEvent 1 with sup.restarting := true, sup.since := s.now } := by
  rw [fault_of_quiet {} (by decide) (by decide) hq, perEvent, if_pos rfl, supRestart]
  exact if_neg (by rw [(s.withEvent_fr 1).sup rfl, hr]; exact Bool.false_ne_true)

theorem exec_lockstepMismatch_eq (hrun : s.sup.running = true) (hr : s.sup.restarting = false) : exec .lockstepMismatch s = .next (
    if s.mode = .boot then
      if 2 ≤ s.boot.mismatches then { raiseFault 1 4 {} 1 { s with boot.mismatches := s.boot.mismatches + 1 } with sup.restarting := false }
      else fault 1 {} { s with boot.mismatches := s.boot.mismatches + 1 }
    else fault 1 {} s) := by
  change Outcome.next (lockstep s) = _
  rw [lockstep, if_neg (by simp [hrun, hr])]
  by_cases hb : s.mode = .boot
  · rw [if_pos hb, if_pos hb]
    by_cases h : 2 ≤ s.boot.mismatches
    · rw [if_pos h]
      exact congrArg _ (if_pos (Nat.succ_le_succ h))
    · rw [if_neg h]
      exact congrArg _ (if_neg fun hc => h (Nat.le_of_succ_le_succ hc))
  · rw [if_neg hb, if_neg hb]

/-- The state as the supervisor takes it over again, before it looks at what was held back. -/
def restarted (s : State) : State :=
  let s := { s with sup.restarting := false, sup.queue := [], pwr := s.pwr.release s.now }
  if s.mode = .boot then
    { s with boot := { s.boot with step := if s.boot.resetHeld then 3 else 4, partnerWait := false, thermalWait := false,
                                   rerun := false, initRead := none }, rep.keyPending := false }
  else s

theorem restarted_pc (s : State) (q : Nat) : (restarted s).pc q = s.pc q := by
  unfold restarted
  dsimp only
  split <;> rfl

theorem forL_nil {α : Type} (g : α → State → State) (s : State) : forL [] g s = s := rfl

theorem exec_supervisorRestartDone_eq (hr : s.sup.restarting = true) : exec .supervisorRestartDone s =
    .next (forN 32 (fun q s => if s.pc q = {} then s else commitUnit q s) (forL s.sup.queue runHeld (restarted s))) :=
  congrArg Outcome.next (if_neg (by simp [hr]))

/-- Where every migration rests, no unit waits to be committed. -/
theorem commitUnits_of_idle (h : ∀ q, q < 32 → (s.pc q).mg.mig = .idle) (n : Nat) (hn : n ≤ 32) :
    forN n (fun q s => if s.pc q = {} then s else commitUnit q s) s = s := by
  induction n with
  | zero => rfl
  | succ n ih =>
    rw [forN_succ, ih (Nat.le_of_succ_le hn)]
    split
    · rfl
    · rw [commitUnit, if_pos (.inl (by simp [h n hn]))]

/-- Repairs held back are handed on in order. -/
theorem forL_runHeld_repairs (l : List RepairReq) (s : State) :
    forL (l.map SupAction.repair) runHeld s = { s with rep.todo := s.rep.todo ++ l } := by
  induction l generalizing s with
  | nil => rw [List.append_nil]; rfl
  | cons r l ih =>
    rw [List.map_cons, forL_cons, ih]
    simp [runHeld]

/-- Settles O13: one event and its restart (`fault_one_of_quiet`), the raise of GRAVE (`raiseFault_grave`), the repairs held back
(`forL_runHeld_repairs`). -/
theorem supervisorMismatchRestartsThePair : Obligations.SupervisorMismatchRestartsThePair := by
  unfold Obligations.SupervisorMismatchRestartsThePair
  refine ⟨fun s hrun hr hb hq => ?run, fun s hrun hr hb hm hq => ?boot, fun s hrun hr hb hm hcause => ?grave,
    fun l s hr hqueue hb hidle => ?repairs, fun s hr hqueue hb hidle => ?resumes⟩
  case run => rw [exec_lockstepMismatch_eq hrun hr, if_neg hb, fault_one_of_quiet hq hr]
  case boot =>
    have hfr : Fr 256 s { s with boot.mismatches := s.boot.mismatches + 1 } := Fr.u256 (.refl ..) rfl
    rw [exec_lockstepMismatch_eq hrun hr, if_pos hb, if_neg (by omega), fault_one_of_quiet (hfr.quiet hq) hr]
    rfl
  case grave =>
    have hheld := raiseFault_grave (n := 1) (s := { s with boot.mismatches := s.boot.mismatches + 1 }) (noGlove_of_lt (by decide)) {}
      (by simp [hb]) (by simp [hb]) (counts_of_lt _ (by decide) rfl)
    rw [exec_lockstepMismatch_eq hrun hr, if_pos hb, if_pos hm]
    have hone : graveCause 1 = 1 := rfl
    rw [hone] at hheld
    generalize raiseFault 1 4 {} 1 { s with boot.mismatches := s.boot.mismatches + 1 } = t at hheld
    exact ⟨_, rfl, hheld.grave, hheld.mode, hheld.cause_one hcause, rfl⟩
  case repairs =>
    have hrest : restarted s = { s with sup.restarting := false, sup.queue := [], pwr := s.pwr.release s.now } := if_neg hb
    have hpcs : ∀ q, q < 32 → (({ restarted s with rep.todo := (restarted s).rep.todo ++ l } : State).pc q).mg.mig = .idle :=
      fun q hq => (congrArg (fun x : Pc => x.mg.mig) (restarted_pc s q)).trans (hidle q hq)
    rw [exec_supervisorRestartDone_eq hr, hqueue, forL_runHeld_repairs, commitUnits_of_idle hpcs 32 (Nat.le_refl 32), hrest]
  case resumes =>
    have hrest : restarted s = { s with
        sup.restarting := false, sup.queue := [], pwr := s.pwr.release s.now, boot.step := if s.boot.resetHeld then 3 else 4
        boot.partnerWait := false, boot.thermalWait := false, boot.rerun := false, boot.initRead := none, rep.keyPending := false } := if_pos hb
    have hpcs : ∀ q, q < 32 → ((restarted s).pc q).mg.mig = .idle :=
      fun q hq => (congrArg (fun x : Pc => x.mg.mig) (restarted_pc s q)).trans (hidle q hq)
    rw [exec_supervisorRestartDone_eq hr, hqueue, forL_nil, commitUnits_of_idle hpcs 32 (Nat.le_refl 32), hrest]

end Sys2Proof.Machine
end

section
/-! SUPPORT. Glove pairs (R16, R17, R20, R290): takeover of a failed member by its mate, and the loss of a pair. -/

namespace Sys2Proof.Machine

open Host

variable {s t u : State} {n src : Nat}

/-- The other member of a channel's pair. -/
def mate (n : Nat) : Nat := if n % 2 = 0 then n + 1 else n - 1

/-- Sources of a failed engine or controller of channel n. -/
def gloveSource (n src : Nat) : Prop := n < 16 ∧ (src = srcWatchdog n ∨ src = srcChecker n)

theorem gloveSource.bounds (h : gloveSource n src) : 80 ≤ src ∧ src < 176 ∧ (src - 80) / 6 = n ∧ ((src - 80) % 6 = 4 ∨ (src - 80) % 6 = 5) := by
  obtain ⟨hn, rfl | rfl⟩ := h
  · unfold srcWatchdog; omega
  · unfold srcChecker; omega

theorem gloveSource.counts (h : gloveSource n src) (s : State) : s.counts src = true := by
  obtain ⟨h80, h176, -⟩ := h.bounds
  have hr : reservedSource src = false := by
    simp only [reservedSource, Bool.or_eq_false_iff, beq_eq_false_iff_ne, Bool.and_eq_false_iff, decide_eq_false_iff_not]
    omega
  have ha : s.srcAbsent src = false := by
    rw [State.srcAbsent, decide_eq_false (show ¬ src < 80 by omega), decide_eq_false (show ¬ 176 ≤ src by omega)]
    simp
  rw [State.counts, hr, ha]
  rfl

theorem State.collectorOff_of_channelsRun (h : s.channelsRun = true) : s.collectorOff = false := by
  rw [State.channelsRun, Bool.and_eq_true, Bool.and_eq_true, Bool.and_eq_true, decide_eq_true_eq] at h
  obtain ⟨⟨⟨-, hr⟩, -⟩, -⟩ := h
  rw [State.collectorOff, decide_eq_false (by omega), Bool.false_and]

theorem perEvent_of_gloveSource (h : gloveSource n src) (d : EventDetail) (s : State) : perEvent src d s = takeover n src s := by
  obtain ⟨h80, h176, hn, hcase⟩ := h.bounds
  unfold perEvent
  rw [if_neg (by omega), if_pos ⟨h80, h176⟩, hn]
  dsimp only
  rcases hcase with h4 | h5
  · rw [h4]
    rfl
  · rw [h5]
    rfl

theorem takeover_of_failed (h : (s.chan n).glove = 1 ∨ (s.chan n).glove = 3) : takeover n src s = s := if_pos h

theorem gloveReaction_of_gloveSource (h : gloveSource n src) (s : State) :
    gloveReaction src s = takeover n src s ∧ (s.chan (mate n)).glove = 0 ∨ gloveReaction src s = s := by
  obtain ⟨h80, h176, hn, -⟩ := h.bounds
  unfold gloveReaction
  by_cases hreact : (s.srcReact src).testBit 6 ∧ 80 ≤ src ∧ src < 176
  · rw [if_pos hreact]
    dsimp only
    rw [hn]
    by_cases hm : (s.chan (mate n)).glove = 0
    · exact .inl ⟨if_pos hm, hm⟩
    · exact .inr (if_neg hm)
  · exact .inr (if_neg hreact)

/-- One event of a failed member: it is registered, and the takeover follows, once. -/
theorem fault_of_gloveSource (h : gloveSource n src) (d : EventDetail) (hon : s.collectorOff = false)
    (hagain : ∀ u : State, u.chans = s.chans → (s.chan (mate n)).glove = 0 → takeover n src (takeover n src u) = takeover n src u) :
    fault src d s = takeover n src (registerEvent src d false s).1 := by
  have hchans : (registerEvent src d false s).1.chans = s.chans := (registerEvent_fr ..).chans rfl
  unfold fault
  rw [if_neg (by simp [hon])]
  dsimp only
  rw [if_pos (h.counts _), perEvent_of_gloveSource h]
  generalize (registerEvent src d false s).1 = u at hchans ⊢
  split
  · rcases gloveReaction_of_gloveSource h u with ⟨heq, hm⟩ | heq
    · rw [heq, hagain u hchans (by rwa [State.chan, hchans] at hm)]
    · rw [heq]
  · rfl

/-! ## The first failure of a pair -/

/-- A channel whose member has failed, and one whose member works for both. -/
def Channel.failed (c : Channel) : Channel := { c with glove := 1, overlap := true }
def Channel.forBoth (c : Channel) : Channel := { c with glove := 2, overlap := true }

/-- The pair with member n failed and its mate at work for both. -/
def taken (n : Nat) (s : State) : State :=
  let s := (s.updChan n Channel.failed).updChan (mate n) Channel.forBoth
  shrinkCause 1 { s with takeover := s.takeover ||| BitVec.ofNat 8 (2 ^ (n / 2)) }

theorem takeover_of_pair (hn : (s.chan n).glove = 0) (hm : (s.chan (mate n)).glove = 0) :
    takeover n src s = raiseOnly src 2 { channel := some (Fin.ofNat 16 n) } 1 (taken n s) := by
  unfold takeover
  rw [if_neg (by simp [hn]), if_neg (by unfold mate at hm; simp [hm])]
  rfl

theorem mate_ne (n : Nat) : mate n ≠ n := by unfold mate; split <;> omega

theorem taken_chan (n j : Nat) (s : State) : (taken n s).chan j =
    if j = mate n then (s.chan j).forBoth else if j = n then (s.chan j).failed else s.chan j := by
  have hch : (taken n s).chan j = ((s.updChan n Channel.failed).updChan (mate n) Channel.forBoth).chan j := rfl
  rw [hch, State.updChan_chan]
  split
  · next h => rw [State.updChan_chan, if_neg (mate_ne n), h]
  · rw [State.updChan_chan]
    split
    · next h => rw [h]
    · rfl

/-- What a takeover makes of its pair. -/
structure TakenOver (n : Nat) (s t : State) : Prop where
  failed : (t.chan n).glove = 1 ∧ (t.chan n).overlap = true
  mate : (t.chan (mate n)).glove = 2 ∧ (t.chan (mate n)).overlap = true
  takeover : t.takeover = s.takeover ||| BitVec.ofNat 8 (2 ^ (n / 2))
  cause : t.gnt.lastCause = 1
  others : ∀ j, j ≠ n → j ≠ Machine.mate n → t.chan j = s.chan j

theorem Fr.chan {k : Nat} (h : Fr k s t) (hk : k.testBit 23 = false) (j : Nat) : t.chan j = s.chan j := by
  rw [State.chan, h.chans hk, State.chan]

theorem taken_takenOver (n : Nat) (s : State) : TakenOver n s (taken n s) where
  failed := by rw [taken_chan, if_neg (mate_ne n).symm, if_pos rfl]; exact ⟨rfl, rfl⟩
  mate := by rw [taken_chan, if_pos rfl]; exact ⟨rfl, rfl⟩
  takeover := rfl
  cause := rfl
  others := fun j hj hm => by rw [taken_chan, if_neg hm, if_neg hj]

theorem TakenOver.fr {k : Nat} (h : TakenOver n s t) (hfr : Fr k t u) (hk : k &&& 8912960 = 0 := by decide) : TakenOver n s u := by
  have hbit {i : Nat} (hi : (8912960 : Nat).testBit i = true) : k.testBit i = false := testBit_of_disjoint hk hi
  have hchan := hfr.chan (hbit (by decide))
  exact ⟨by rw [hchan]; exact h.failed, by rw [hchan]; exact h.mate, (hfr.takeover (hbit (by decide))).trans h.takeover,
    by rw [hfr.gnt (hbit (by decide))]; exact h.cause, fun j hj hm => (hchan j).trans (h.others j hj hm)⟩

theorem TakenOver.after {k : Nat} (h : TakenOver n t u) (hfr : Fr k s t) (hk : k &&& 8388672 = 0 := by decide) : TakenOver n s u := by
  have hbit {i : Nat} (hi : (8388672 : Nat).testBit i = true) : k.testBit i = false := testBit_of_disjoint hk hi
  exact ⟨h.failed, h.mate, by rw [h.takeover, hfr.takeover (hbit (by decide))], h.cause,
    fun j hj hm => (h.others j hj hm).trans (hfr.chan (hbit (by decide)) j)⟩

theorem takeover_takenOver (hn : (s.chan n).glove = 0) (hm : (s.chan (mate n)).glove = 0) : TakenOver n s (takeover n src s) := by
  rw [takeover_of_pair hn hm]
  exact (taken_takenOver n s).fr (raiseOnly_fr ..)

section
variable (h : gloveSource n src) (d : EventDetail) (hon : s.collectorOff = false) (hn : (s.chan n).glove = 0) (hm : (s.chan (mate n)).glove = 0)
include h hon hn hm

/-- The first failure of a pair: its event, and the takeover. -/
theorem fault_of_pair : fault src d s = takeover n src (registerEvent src d false s).1 := by
  refine fault_of_gloveSource h d hon fun u hu _ => takeover_of_failed (.inl ?_)
  exact (takeover_takenOver (by rw [State.chan, hu]; exact hn) (by rw [State.chan, hu]; exact hm)).failed.1

theorem fault_takenOver : TakenOver n s (fault src d s) := by
  have hreg := registerEvent_fr src d false s
  rw [fault_of_pair h d hon hn hm]
  exact (takeover_takenOver (by rw [hreg.chan rfl, hn]) (by rw [hreg.chan rfl, hm])).after hreg

/-- With a calm collector it leaves the mode and the layers. -/
theorem fault_takeover_fr (hcalm : s.calmAt src) : Fr 13518400 s (fault src d s) := by
  obtain ⟨h80, h176, -⟩ := h.bounds
  have hfix := fixedClass_of_glove ⟨h80, h176⟩
  have hreg := registerEvent_fr_of_mild d (hcalm.mild hfix)
  have hcalm' := registerEvent_calmAt hfix d hcalm
  rw [fault_of_pair h d hon hn hm]
  generalize (registerEvent src d false s).1 = u at hreg hcalm' ⊢
  rw [takeover_of_pair (by rw [hreg.chan rfl, hn]) (by rw [hreg.chan rfl, hm])]
  have htaken : Fr 8912960 u (taken n u) :=
    Fr.step (shrinkCause_fr ..) rfl (Fr.u64 (Fr.step (State.updChan_fr ..) rfl ((State.updChan_fr ..).mono rfl)) rfl)
  have hreact : ((taken n u).srcReact src).testBit 8 = false := by rw [srcReact_congr (htaken.src rfl src), hcalm'.react]
  exact ((hreg.or htaken).or (raiseOnly_fr_of_mild _ 1 (by decide) hreact)).mono rfl

end

theorem exec_gloveFailure {n : ChanId} {c : Instr} (hc : c = .engineWatchdogExpiry n ∨ c = .controllerCheckerFault n)
    (hrun : s.channelsRun = true) : ∃ src, gloveSource n.val src ∧ exec c s = .next (fault src { channel := some n } s) := by
  rcases hc with rfl | rfl
  · exact ⟨_, ⟨n.isLt, .inl rfl⟩, congrArg _ (if_pos hrun)⟩
  · exact ⟨_, ⟨n.isLt, .inr rfl⟩, congrArg _ (if_pos hrun)⟩

/-- Settles O14: the end of the overlap changes two channels; a failure of either kind is taken over (`fault_takenOver`). -/
theorem gloveMemberFailureIsTakenOver : Obligations.GloveMemberFailureIsTakenOver := by
  unfold Obligations.GloveMemberFailureIsTakenOver
  refine ⟨fun i s => ⟨_, rfl, ?_, ?_, fun j ha hb => ?_, rfl⟩, fun n m s hrun hmate hn hm c hc => ?_⟩
  · rw [State.updChan_chan, if_neg (by omega), State.updChan_chan, if_pos rfl]
  · rw [State.updChan_chan, if_pos rfl, State.updChan_chan, if_neg (by omega)]
  · rw [State.updChan_chan, if_neg hb, State.updChan_chan, if_neg ha]
  · have hm' : m.val = mate n.val := hmate
    rw [hm'] at hm
    obtain ⟨src, hsrc, hexec⟩ := exec_gloveFailure hc hrun
    have htaken := fault_takenOver hsrc { channel := some n } (State.collectorOff_of_channelsRun hrun) hn hm
    have hfr := fault_fr src { channel := some n } s
    have hcalm (h : s.calm) := fault_takeover_fr hsrc { channel := some n } (State.collectorOff_of_channelsRun hrun) hn hm (h.at src)
    refine ⟨_, hexec, htaken.failed.1, by rw [hm']; exact htaken.mate.1, htaken.failed.2, by rw [hm']; exact htaken.mate.2,
      htaken.takeover, htaken.cause, by rw [hm']; exact htaken.others, fun h => ⟨(hcalm h).layers rfl, (hcalm h).mode rfl⟩,
      hfr.otp rfl, hfr.thm rfl, hfr.att rfl, hfr.image rfl, hfr.now rfl⟩

/-! ## What counts the pseudo-channels lost -/

/-- The count of pseudo-channels lost. -/
def State.lossPcs (s : State) : BitVec 6 := s.rep.lossPcs

theorem Fr.lossPcs {k : Nat} (h : Fr k s t) (hk : k.testBit 18 = false) : t.lossPcs = s.lossPcs := by
  rw [State.lossPcs, h.rep hk, State.lossPcs]

@[simp] theorem askRepair_lossPcs (r : RepairReq) (s : State) : (askRepair r s).lossPcs = s.lossPcs := by
  unfold askRepair
  split <;> rfl

@[simp] theorem repairReactions_lossPcs (k : Nat) (d : EventDetail) (s : State) : (repairReactions k d s).lossPcs = s.lossPcs := by
  unfold repairReactions
  extract_lets re banked
  have hbanked : banked.lossPcs = s.lossPcs := by
    unfold banked
    split
    · split
      · exact askRepair_lossPcs ..
      · rfl
    · rfl
  split_ifs
  · split
    · rw [askRepair_lossPcs, hbanked]
    · exact hbanked
  · rw [askRepair_lossPcs, hbanked]
  · exact hbanked
  · exact hbanked

theorem reactions_lossPcs (k : Nat) (d : EventDetail) (forced : Bool) (record : Nat) (s : State) :
    (reactions k d forced record s).lossPcs = s.lossPcs := by
  simp only [reactions, apply_ite State.lossPcs, (supRestart_fr _).lossPcs rfl, repairReactions_lossPcs, (fencePort_fr ..).lossPcs rfl,
    (notices_fr ..).lossPcs rfl, (setAlert_fr ..).lossPcs rfl, (logRecord_fr ..).lossPcs rfl, ite_self]

theorem escalate_lossPcs (k : Nat) (d : EventDetail) (forced : Bool) (s : State) : (escalate k d forced s).lossPcs = s.lossPcs := by
  unfold escalate
  extract_lets c raised reacted
  have hreacted : reacted.lossPcs = s.lossPcs := (reactions_lossPcs ..).trans ((s.updSrc_fr ..).lossPcs rfl)
  split
  · rw [(setGrave_fr ..).lossPcs rfl, hreacted]
  · rw [(holdReaction_fr ..).lossPcs rfl, hreacted]

theorem registerEvent_lossPcs (k : Nat) (d : EventDetail) (forced : Bool) (s : State) : (registerEvent k d forced s).1.lossPcs = s.lossPcs := by
  have hcounted : (s.counted k forced).lossPcs = s.lossPcs := (s.counted_fr k forced).lossPcs rfl
  exact registerEvent_cases (P := fun t => t.lossPcs = s.lossPcs) k d forced s (fun _ => rfl) (fun _ => rfl)
    (fun _ _ => (escalate_lossPcs ..).trans hcounted) (fun _ => ((latchGrave_fr ..).lossPcs rfl).trans hcounted) (fun _ => hcounted)

theorem checkMinimum_lossPcs (s : State) : (checkMinimum s).lossPcs = s.lossPcs := by
  unfold checkMinimum
  split
  · rfl
  split
  · exact (enterHold_fr ..).lossPcs rfl
  split
  · rw [(latchGrave_fr ..).lossPcs rfl, registerEvent_lossPcs]
  · rfl

theorem stopPc_lossPcs (q : Nat) (s : State) : (stopPc q s).lossPcs = s.lossPcs := by
  unfold stopPc
  refine (forN_eq (f := State.lossPcs) (fun i t => ?_) 16 _).trans rfl
  split <;> rfl

/-! ## The loss of a pair (R20) -/

theorem pairLoss_lossPcs (i : Nat) (s : State) : (pairLoss i s).lossPcs = satAdd s.lossPcs 4 := by
  unfold pairLoss
  extract_lets a b marked stopped logged first second book counted noticed
  have hmarked : marked.lossPcs = s.lossPcs := rfl
  have hstopped : stopped.lossPcs = s.lossPcs := (forL_eq (fun q t => stopPc_lossPcs q t) _ marked).trans hmarked
  have hlogged : logged.lossPcs = s.lossPcs :=
    (forL_eq (f := State.lossPcs) (fun x t => (logRecord_fr ..).lossPcs rfl) _ stopped).trans hstopped
  have hsecond : second.lossPcs = s.lossPcs := (registerEvent_lossPcs ..).trans ((registerEvent_lossPcs ..).trans hlogged)
  have hcounted : counted.lossPcs = satAdd s.lossPcs 4 := congrArg (satAdd · 4) hsecond
  have hnoticed : noticed.lossPcs = counted.lossPcs := by
    refine forN_eq (f := State.lossPcs) (fun p t => ?_) 16 counted
    split
    · exact (sendNotice_fr ..).lossPcs rfl
    · rfl
  rw [checkMinimum_lossPcs, hnoticed, hcounted]

/-- No controller is left for the two channels of the pair. -/
theorem pairLoss_chan (i : Nat) (s : State) {j : Nat} (hj : j = 2 * i ∨ j = 2 * i + 1) : ((pairLoss i s).chan j).glove = 3 := by
  unfold pairLoss
  extract_lets a b marked stopped logged first second book counted noticed
  have hmarked : (marked.chan j).glove = 3 := by
    simp only [marked, State.updChan_chan, a, b]
    rcases hj with rfl | rfl
    · rw [if_neg (by omega), if_pos rfl]
    · rw [if_pos rfl]
  have hstopped : Fr 17039360 marked stopped := Fr.forL (fun q t => stopPc_fr q t) _ (.refl ..)
  have hlogged : Fr 148480 stopped logged := Fr.forL (fun x t => logRecord_fr ..) _ (.refl ..)
  have hcounted : Fr 262144 second counted := Fr.u262144 (.refl ..) rfl
  have hnoticed : Fr 4326400 counted noticed := Fr.forN (fun p t => Fr.iteT (sendNotice_fr ..) (.refl ..)) 16 (.refl ..)
  have hall := (((((hstopped.or hlogged).or (registerEvent_fr ..)).or (registerEvent_fr ..)).or hcounted).or hnoticed).or (checkMinimum_fr noticed)
  rw [hall.chan rfl, hmarked]

/-- The second failure of a pair: its event, and the loss of the pair. -/
theorem fault_of_lost (h : gloveSource n src) (d : EventDetail) (hon : s.collectorOff = false) (hn : (s.chan n).glove = 2)
    (hm : (s.chan (mate n)).glove = 1) : fault src d s = pairLoss (n / 2) (registerEvent src d false s).1 := by
  have hreg := registerEvent_fr src d false s
  rw [fault_of_gloveSource h d hon fun u _ hzero => by rw [hm] at hzero; exact absurd hzero (by decide)]
  unfold takeover
  rw [if_neg (by rw [hreg.chan rfl, hn]; decide)]
  exact if_pos (by rw [hreg.chan rfl]; exact hm)

/-- A further failure of a lost pair is an event alone. -/
theorem fault_of_gone (h : gloveSource n src) (d : EventDetail) (hon : s.collectorOff = false) (hn : (s.chan n).glove = 3) :
    fault src d s = (registerEvent src d false s).1 := by
  have hgone {u : State} (hu : u.chans = s.chans) : takeover n src u = u := takeover_of_failed (.inr (by rw [State.chan, hu]; exact hn))
  rw [fault_of_gloveSource h d hon fun u hu _ => by rw [hgone hu, hgone hu]]
  exact hgone ((registerEvent_fr ..).chans rfl)

/-- Settles O15: the second failure loses the pair (`fault_of_lost`), a further one counts nothing (`fault_of_gone`). -/
theorem secondGloveFailureLosesThePair : Obligations.SecondGloveFailureLosesThePair := by
  unfold Obligations.SecondGloveFailureLosesThePair
  refine ⟨fun n m s hrun hmate hm hn => ?_, fun n s hrun hn => ?_⟩
  · have hm' : m.val = mate n.val := hmate
    rw [hm'] at hm ⊢
    obtain ⟨src, hsrc, hexec⟩ := exec_gloveFailure (n := n) (.inl rfl) hrun
    have hpair : mate n.val = 2 * (n.val / 2) ∨ mate n.val = 2 * (n.val / 2) + 1 := by unfold mate; split <;> omega
    rw [fault_of_lost hsrc _ (State.collectorOff_of_channelsRun hrun) hn hm] at hexec
    refine ⟨_, hexec, decide_eq_true (pairLoss_chan _ _ (by omega)), decide_eq_true (pairLoss_chan _ _ hpair), ?_⟩
    change (pairLoss (n.val / 2) (registerEvent src { channel := some n } false s).1).lossPcs = satAdd s.lossPcs 4
    rw [pairLoss_lossPcs, registerEvent_lossPcs]
  · obtain ⟨src, hsrc, hexec⟩ := exec_gloveFailure (n := n) (.inl rfl) hrun
    rw [fault_of_gone hsrc _ (State.collectorOff_of_channelsRun hrun) hn] at hexec
    exact ⟨_, hexec, registerEvent_lossPcs .., (registerEvent_fr ..).chans rfl⟩

end Sys2Proof.Machine
end

section
/-! SUPPORT. The loss of clocks (R42, R99, R400, R401, R403). -/

namespace Sys2Proof.Machine

open Host

variable {s t u : State} {n : Nat}

/-! ## A mild event leaves the grave latch -/

/-- The three copies of the grave latch. -/
def State.graves (s : State) : Bool × Bool × Bool := (s.flt.grave0, s.flt.grave1, s.flt.grave2)

theorem State.grave_of_graves (h : t.graves = s.graves) : t.grave = s.grave := by
  simp only [State.graves, Prod.mk.injEq] at h
  obtain ⟨h0, h1, h2⟩ := h
  rw [State.grave, h0, h1, h2, State.grave]

theorem graves_of_latches (h : t.latches = s.latches) : t.graves = s.graves := congrArg Prod.snd h

theorem State.counted_graves (n : Nat) (forced : Bool) (s : State) : (s.counted n forced).graves = s.graves := by
  unfold State.counted
  extract_lets
  split
  · exact (graves_of_latches (setAlert_latches ..)).trans rfl
  · rfl

theorem registerEvent_graves_of_mild (d : EventDetail) (h : s.mild n) : (registerEvent n d false s).1.graves = s.graves := by
  have hcounted := s.counted_graves n false
  have hmild : (s.counted n false).mild n := ⟨(s.counted_srcReact n false).symm ▸ h.1, (s.counted_srcClass n false).symm ▸ h.2⟩
  refine registerEvent_cases (P := fun t => t.graves = s.graves) n d false s (fun _ => rfl) (fun _ => rfl) (fun _ _ => ?_)
    (fun h => absurd h Bool.false_ne_true) (fun _ => hcounted)
  unfold escalate
  extract_lets c raised reacted
  have hreact : reacted.srcReact n = (s.counted n false).srcReact n :=
    (srcReact_congr (State.src_eq_of_latches (reactions_latches ..) n)).trans (State.updSrc_srcReact _ n (fun _ => rfl))
  rw [if_neg hmild.2, holdReaction_of_mild d false (hreact ▸ hmild.1), graves_of_latches (reactions_latches ..)]
  exact hcounted

theorem fault_grave_of_mild (hn : noGlove n) (d : EventDetail) (h : s.mild n) : (fault n d s).grave = s.grave := by
  apply State.grave_of_graves
  cases hoff : s.collectorOff with
  | true =>
    unfold fault
    rw [if_pos hoff]
    split
    · split <;> rfl
    · rfl
  | false =>
    rw [fault_eq_of_noGlove hn d hoff]
    split
    · rw [graves_of_latches (perEvent_latches_of_noGlove hn ..), registerEvent_graves_of_mild d h]
    · exact registerEvent_graves_of_mild d h

/-! ## What no end of the service changes of the clocks -/

/-- REFCLK and the core PLL's lock. -/
def State.clocks (s : State) : Bool × Bool := (s.pwr.refclk, s.pwr.corePll)

theorem Fr.clocks {m : Nat} (h : Fr m s t) (hm : m.testBit 12 = false) : t.clocks = s.clocks := by
  rw [State.clocks, h.pwr hm, State.clocks]

theorem enterHold_clocks (c : Nat) (s : State) : (enterHold c s).clocks = s.clocks := by
  by_cases ht : s.mode = .trip
  · rw [enterHold_of_trip c ht]
  by_cases hh : s.mode = .hold
  · rw [enterHold_of_hold c hh]
  rw [State.clocks, enterHold_pwr c ht hh, State.clocks]

theorem setGrave_clocks (src : Nat) (forced : Bool) (cause : Nat) (s : State) : (setGrave src forced cause s).clocks = s.clocks := by
  obtain ⟨u, hfr, -, -, heq⟩ := setGrave_eq src forced cause s
  rw [heq, enterHold_clocks, hfr.clocks rfl]

theorem latchGrave_clocks (src : Nat) (d : EventDetail) (forced : Bool) (cause : Nat) (s : State) :
    (latchGrave src d forced cause s).clocks = s.clocks := by
  obtain ⟨u, hfr, -, heq⟩ := latchGrave_eq src d forced cause s
  rw [heq, setGrave_clocks, hfr.clocks rfl]

theorem registerEvent_clocks (n : Nat) (d : EventDetail) (forced : Bool) (s : State) : (registerEvent n d forced s).1.clocks = s.clocks := by
  have hcounted : (s.counted n forced).clocks = s.clocks := (s.counted_fr n forced).clocks rfl
  refine registerEvent_cases (P := fun t => t.clocks = s.clocks) n d forced s (fun _ => rfl) (fun _ => rfl) (fun _ _ => ?_)
    (fun _ => (latchGrave_clocks ..).trans hcounted) (fun _ => hcounted)
  unfold escalate
  extract_lets c raised reacted
  have hreacted : reacted.clocks = s.clocks := ((reactions_fr ..).clocks rfl).trans hcounted
  split
  · rw [setGrave_clocks, hreacted]
  · unfold holdReaction
    split
    · rw [setGrave_clocks, (logRecord_fr ..).clocks rfl]
      exact hreacted
    · exact hreacted

theorem checkMinimum_clocks (s : State) : (checkMinimum s).clocks = s.clocks := by
  unfold checkMinimum
  split
  · rfl
  split
  · exact enterHold_clocks ..
  split
  · rw [latchGrave_clocks, registerEvent_clocks]
  · rfl

/-! ## The loss of a clock -/

/-- The clocks after a loss below P4. -/
def fallBack (pllOnly : Bool) (s : State) : State :=
  { s with pwr.refclk := pllOnly && s.pwr.refclk, pwr.freeRun := !pllOnly || s.pwr.freeRun, pwr.corePll := false, pwr.fastRc := true }

theorem fallBack_fr (pllOnly : Bool) (s : State) : Fr 4096 s (fallBack pllOnly s) := Fr.u4096 (.refl ..) rfl

theorem exec_clockLoss_low (pllOnly : Bool) (hg : s.pwrgood = true) (hr : s.pwr.rung ≤ 3) :
    exec (.clockLoss pllOnly) s = .next (checkMinimum (fault 3 {} (fallBack pllOnly s))) := by
  refine (if_neg (by simp [hg])).trans ?_
  cases pllOnly
  · exact if_neg (Nat.not_le_of_lt (Nat.lt_succ_of_le hr))
  · exact if_neg (Nat.not_le_of_lt (Nat.lt_succ_of_le hr))

theorem minimumSet_of_noPll (h : s.pwr.corePll = false) : s.minimumSet = false := by
  simp [State.minimumSet, h]

theorem checkMinimum_of_mode (h : s.mode = .factory ∨ (s.mode = .boot ∧ s.boot.step ≠ 12)) : checkMinimum s = s := by
  unfold checkMinimum
  split
  · rfl
  rw [if_neg, if_neg]
  · rintro (hs | ⟨hr, -⟩)
    · rcases h with h | ⟨h, -⟩ <;> simp [hs] at h
    · rcases h with h | ⟨h, -⟩ <;> simp [hr] at h
  · rintro ⟨hb, h12⟩
    rcases h with h | ⟨-, h⟩
    · simp [hb] at h
    · exact h h12

/-- A mild event of source 3 and the check of the minimum set after a loss of clocks. -/
theorem fallBack_fault (pllOnly : Bool) (hcalm : s.calm) : Fr 4609536 s (fault 3 {} (fallBack pllOnly s)) ∧
    (fault 3 {} (fallBack pllOnly s)).clocks = (pllOnly && s.pwr.refclk, false) ∧
    (fault 3 {} (fallBack pllOnly s)).grave = s.grave ∧ (fault 3 {} (fallBack pllOnly s)).pwr.rung = s.pwr.rung := by
  have hmild : (fallBack pllOnly s).mild 3 := (State.calmAt_congr (s := s) (n := 3) rfl (hcalm.at 3)).mild rfl
  have hfault := fault_fr_of_mild (noGlove_of_lt (by decide)) {} hmild
  have hrung : (fallBack pllOnly s).pwr.rung = s.pwr.rung := rfl
  have hgrave := fault_grave_of_mild (noGlove_of_lt (by decide)) {} hmild
  exact ⟨(fallBack_fr pllOnly s).or hfault, hfault.clocks rfl, hgrave, by rw [hfault.pwr rfl, hrung]⟩

theorem perEvent_of_other (h1 : n ≠ 1) (hg : n < 80) (d : EventDetail) (s : State) : perEvent n d s = s :=
  (if_neg h1).trans ((if_neg (by omega)).trans (if_neg (by omega)))

theorem fault_of_quiet_other (h0 : n ≠ 0) (h1 : n ≠ 1) (h9 : n ≠ 9) (hg : n < 80) (d : EventDetail) (hq : s.quiet n) :
    fault n d s = s.withEvent n := by
  rw [fault_of_quiet d h0 h9 hq, perEvent_of_other h1 hg]

/-- Settles O16: the clocks fall back (`fallBack`); what follows is the check of the minimum set (`checkMinimum_lost`). -/
theorem clockLossFallsBackByRung : Obligations.ClockLossFallsBackByRung := by
  unfold Obligations.ClockLossFallsBackByRung
  refine ⟨fun pllOnly s hg hr hq hmode => ?quiet, fun s hg hr => ⟨?deep, ?rest⟩, fun pllOnly s hg hmode hr hcalm hcause => ?service,
    fun pllOnly s hg hmode hstep hr hcalm hcause => ?waits, fun d s hg hd => ?slow, fun d s hg hd hq => ?step⟩
  case quiet =>
    have hfr := fallBack_fr pllOnly s
    have hquiet : (fallBack pllOnly s).quiet 3 := hq
    have hevent : fault 3 {} (fallBack pllOnly s) = fallBack pllOnly (s.withEvent 3) :=
      fault_of_quiet_other (by decide) (by decide) (by decide) (by decide) {} hquiet
    rw [exec_clockLoss_low pllOnly hg hr, hevent]
    have hm : (fallBack pllOnly (s.withEvent 3)).mode = s.mode := rfl
    have hb : (fallBack pllOnly (s.withEvent 3)).boot = s.boot := rfl
    refine congrArg Outcome.next (checkMinimum_of_mode ?_)
    rw [hm, hb]
    exact hmode
  case deep => exact (if_neg (by simp [hg])).trans (if_pos hr)
  case rest => exact (if_neg (by simp [hg])).trans (if_pos hr)
  case service =>
    obtain ⟨hfr, hclocks, -, hrung⟩ := fallBack_fault pllOnly hcalm
    rw [exec_clockLoss_low pllOnly hg hr]
    generalize fault 3 {} (fallBack pllOnly s) = t at hfr hclocks hrung ⊢
    have hset : t.minimumSet = false := minimumSet_of_noPll (congrArg Prod.snd hclocks)
    have htmode := hfr.mode rfl
    obtain ⟨hheld, -⟩ := checkMinimum_lost hset (by rw [htmode, hrung]; exact hmode.imp_right fun h => ⟨h, hr⟩)
    have hend := (checkMinimum_clocks t).trans hclocks
    refine ⟨_, rfl, congrArg Prod.fst hend, congrArg Prod.snd hend, hheld.mode, ?_, hheld.grave⟩
    rw [hheld.cause_of_none ((hfr.holdCause rfl).trans hcause), if_neg]
    · rfl
    · rw [htmode]
      rcases hmode with h | h <;> rw [h] <;> decide
  case waits =>
    obtain ⟨hfr, hclocks, hgrave, -⟩ := fallBack_fault pllOnly hcalm
    rw [exec_clockLoss_low pllOnly hg hr]
    generalize fault 3 {} (fallBack pllOnly s) = t at hfr hclocks hgrave ⊢
    have hset : t.minimumSet = false := minimumSet_of_noPll (congrArg Prod.snd hclocks)
    have htmode : t.mode = .boot := (hfr.mode rfl).trans hmode
    have heq : checkMinimum t = enterHold 3 t :=
      (if_neg (by simp [hset])).trans (if_pos ⟨htmode, by rw [hfr.boot rfl, hstep]⟩)
    have ht : t.mode ≠ .trip := by simp [htmode]
    have hh : t.mode ≠ .hold := by simp [htmode]
    refine ⟨_, rfl, ?_, ?_, ?_⟩
    · rw [heq, enterHold_mode 3 ht]
    · rw [heq, enterHold_holdCause 3 ht hh, if_pos ((hfr.holdCause rfl).trans hcause)]
      rfl
    · rw [heq, State.grave_of_graves (graves_of_latches (enterHold_latches 3 t)), hgrave]
  case slow => exact (if_pos hg).trans (congrArg Outcome.next (if_neg (by omega)))
  case step =>
    have hquiet : State.quiet 4 { s with pwr.aonDev := d, pwr.freeRun := false, pwr.refclk := true } := hq
    exact (if_pos hg).trans (congrArg Outcome.next ((if_pos hd).trans
      (fault_of_quiet_other (by decide) (by decide) (by decide) (by decide) {} hquiet)))

end Sys2Proof.Machine
end

section
/-! SUPPORT. TSV training where every pseudo-channel passes (R94, R95, R289), the budget check and the start of bring-up (R96, R98, R99). -/

namespace Sys2Proof.Machine

open Host

variable {s t u : State}

/-! ## Training touches slices, pseudo-channels and the journal queue -/

/-- What training leaves: of the pseudo-channels, which are excluded. -/
structure Trains (s t : State) : Prop where
  fr : Fr 50348036 s t
  excluded : ∀ q, (t.pc q).excluded = (s.pc q).excluded

theorem Trains.refl (s : State) : Trains s s := ⟨.refl .., fun _ => rfl⟩

theorem Trains.trans (h : Trains s t) (h' : Trains t u) : Trains s u :=
  ⟨h.fr.trans h'.fr, fun q => (h'.excluded q).trans (h.excluded q)⟩

theorem Trains.of_fr {m : Nat} (h : Fr m s t) (hm : m ||| 50348036 = 50348036 := by decide) (hp : m.testBit 24 = false := by decide) : Trains s t :=
  ⟨h.mono hm, fun q => by rw [h.pc hp]⟩

theorem fullTraining_trains (q : Nat) (s : State) : Trains s (fullTraining q s) := by
  unfold fullTraining
  have hcal : Fr 33554436 s (forL (s.slicesOf q) (fun k s => calibrated q k s) s) := Fr.forL (fun k t => calibrated_fr q k t) _ (.refl ..)
  generalize forL (s.slicesOf q) (fun k s => calibrated q k s) s = t at hcal ⊢
  refine (Trains.of_fr hcal).trans (Trains.trans (t := t.updPc q (fun x => { x with trainedAt := some t.now })) ⟨(t.updPc_fr ..).mono rfl, fun j => ?_⟩
    (.of_fr (queueRecord_fr ..)))
  rw [State.updPc_pc]
  split
  · next h => rw [h]
  · rfl

theorem trainPc_trains {r : TrainRead} (hr : r.failed = []) (q : Nat) (s : State) : Trains s (trainPc r q s).1 := by
  unfold trainPc
  rw [hr]
  split
  · exact .of_fr ((restoreTraining_fr ..).or (trainRest_fr ..))
  · exact fullTraining_trains q s

/-- A state with its training done, before the budget check. -/
structure Trained (s u : State) : Prop where
  fr : Fr 50348292 s u
  boot : ∃ w, u.boot = { s.boot with training := w }
  excluded : ∀ q, (u.pc q).excluded = (s.pc q).excluded

theorem trainAll_trained {r : TrainRead} (hr : r.failed = []) (s : State) : Trained s (trainAll r s) := by
  unfold trainAll
  extract_lets a n
  have htrains : Trains s a.1 := by
    suffices h : ∀ (l : List Nat) (b : State × Nat), Trains s b.1 → Trains s (l.foldl (fun a q =>
        if (a.1.pc q).excluded then a else let x := trainPc r q a.1; (x.1, a.2 + b2n x.2)) b).1 from h _ (s, 0) (.refl s)
    intro l
    induction l with
    | nil => exact fun b hb => hb
    | cons q l ih =>
      intro b hb
      rw [List.foldl_cons]
      refine ih _ ?_
      split
      · exact hb
      · exact hb.trans (trainPc_trains hr q b.1)
  clear_value a n
  generalize (if a.2 = n then 1 else if a.2 = 0 then 2 else 3 : BitVec 2) = w
  refine ⟨Fr.u256 (htrains.fr.mono rfl) rfl, ⟨w, ?_⟩, htrains.excluded⟩
  change { a.1.boot with training := w } = _
  rw [htrains.fr.boot rfl]

theorem trainRest_trained (s : State) : Trained s (forN 32 trainRest s) := by
  have hfr : Fr 33554436 s (forN 32 trainRest s) := Fr.forN (fun q t => trainRest_fr q t) 32 (.refl ..)
  exact ⟨hfr.mono rfl, ⟨s.boot.training, hfr.boot rfl⟩, fun q => by rw [hfr.pc rfl]⟩

theorem budgetCheck_congr {m : Nat} (h : Fr m s t) (hp : m.testBit 22 = false) (ho : m.testBit 13 = false) : t.budgetCheck = s.budgetCheck := by
  have hports : t.enabledPorts = s.enabledPorts := by simp only [State.enabledPorts, h.portPresent ho, h.port hp]
  have hrate : t.totalRate = s.totalRate := by simp only [State.totalRate, hports, h.port hp]
  simp only [State.budgetCheck, hports, hrate, h.port hp]

theorem Trained.minimumSet (h : Trained s u) : u.minimumSet = s.minimumSet := by
  refine minimumSet_congr h.fr (fun p => ?_) ⟨by rw [h.fr.pwr rfl], by rw [h.fr.pwr rfl]⟩ h.excluded
  rw [h.fr.port rfl]
  exact ⟨rfl, rfl, rfl⟩

/-! ## Steps 11 and 12 -/

/-- The result of the budget check shown (R96). -/
def shows (w : Word) (s : State) : State := { s with gnt.check := w, boot.step := 11 }

theorem exec_tsvTraining_eq {r : TrainRead} (h10 : s.atStep 10 = true) (hu : u = if s.boot.rerun = true then forN 32 trainRest s else trainAll r s)
    (hmode : u.mode = .boot) : exec (.tsvTraining r) s = .next (checkBudget u) := by
  refine (if_pos h10).trans (congrArg Outcome.next ?_)
  rw [← hu]
  exact if_pos hmode

theorem checkBudget_of_pass (h : s.budgetCheck.getLsbD 1 = true) : checkBudget s = bringUp (shows s.budgetCheck s) := if_pos h

/-- The copy in use rejected, its cause 0x8 (R96). -/
def rejects (w : Word) (s : State) : State := setCause (decide (s.boot.imageSel = 2)) 8 { shows w s with gnt.rejected := w }

theorem checkBudget_of_fail (h : s.budgetCheck.getLsbD 1 = false) : checkBudget s =
    if !(rejects s.budgetCheck s).boot.rerun ∧ ((if decide (s.boot.imageSel = 2) then s.boot.causeA else s.boot.causeB) = 0xF ∨
      (if decide (s.boot.imageSel = 2) then s.boot.causeA else s.boot.causeB) = 1)
    then { rejects s.budgetCheck s with boot.fallback := true, boot.rerun := true, boot.step := 5 }
    else enterHold 2 (rejects s.budgetCheck s) :=
  if_neg (by rw [h]; exact Bool.false_ne_true)

theorem shows_fr (w : Word) (s : State) : Fr 524544 s (shows w s) := Fr.u524544 (.refl ..) rfl

theorem rejects_fr (w : Word) (s : State) : Fr 524544 s (rejects w s) := by
  have hshown : Fr 524544 s { shows w s with gnt.rejected := w } := Fr.u524288 (shows_fr w s) rfl
  exact (hshown.or (setCause_fr (decide (s.boot.imageSel = 2)) 8 _)).mono rfl

theorem setCause_rerun (b : Bool) (c : Nat) (s : State) : (setCause b c s).boot.rerun = s.boot.rerun := by cases b <;> rfl

theorem setCause_fallback (b : Bool) (c : Nat) (s : State) : (setCause b c s).boot.fallback = s.boot.fallback := by cases b <;> rfl

theorem rejects_rerun (w : Word) (s : State) : (rejects w s).boot.rerun = s.boot.rerun := setCause_rerun ..

theorem rejects_fallback (w : Word) (s : State) : (rejects w s).boot.fallback = s.boot.fallback := setCause_fallback ..

theorem checkBudget_retries (h : s.budgetCheck.getLsbD 1 = false) (hr : s.boot.rerun = false)
    (ho : (if decide (s.boot.imageSel = 2) then s.boot.causeA else s.boot.causeB) = 0xF ∨
      (if decide (s.boot.imageSel = 2) then s.boot.causeA else s.boot.causeB) = 1) :
    checkBudget s = { rejects s.budgetCheck s with boot.fallback := true, boot.rerun := true, boot.step := 5 } :=
  (checkBudget_of_fail h).trans (if_pos ⟨by rw [rejects_rerun, hr]; rfl, ho⟩)

theorem rejects_of_A (w : Word) (h : s.boot.imageSel = 1) :
    rejects w s = { s with boot.step := 11, boot.causeA := 8, gnt.check := w, gnt.rejected := w } := by
  have hsel : decide (s.boot.imageSel = 2) = false := by rw [h]; rfl
  rw [rejects, hsel]
  exact if_neg Bool.false_ne_true

theorem rejects_of_B (w : Word) (h : s.boot.imageSel = 2) :
    rejects w s = { s with boot.step := 11, boot.causeB := 8, gnt.check := w, gnt.rejected := w } := by
  have hsel : decide (s.boot.imageSel = 2) = true := by rw [h]; rfl
  rw [rejects, hsel]
  exact if_pos rfl

theorem checkBudget_retriesA (h : s.budgetCheck.getLsbD 1 = false) (hr : s.boot.rerun = false) (hs : s.boot.imageSel = 1)
    (ho : s.boot.causeB = 0xF ∨ s.boot.causeB = 1) : checkBudget s = { s with
      boot.step := 5, boot.fallback := true, boot.rerun := true, boot.causeA := 8, gnt.check := s.budgetCheck
      gnt.rejected := s.budgetCheck } := by
  have hsel : decide (s.boot.imageSel = 2) = false := by rw [hs]; rfl
  rw [checkBudget_retries h hr (by rw [hsel]; exact ho), rejects_of_A _ hs]

theorem checkBudget_retriesB (h : s.budgetCheck.getLsbD 1 = false) (hr : s.boot.rerun = false) (hs : s.boot.imageSel = 2)
    (ho : s.boot.causeA = 0xF ∨ s.boot.causeA = 1) : checkBudget s = { s with
      boot.step := 5, boot.fallback := true, boot.rerun := true, boot.causeB := 8, gnt.check := s.budgetCheck
      gnt.rejected := s.budgetCheck } := by
  have hsel : decide (s.boot.imageSel = 2) = true := by rw [hs]; rfl
  rw [checkBudget_retries h hr (by rw [hsel]; exact ho), rejects_of_B _ hs]

theorem checkBudget_holds (h : s.budgetCheck.getLsbD 1 = false)
    (ho : s.boot.rerun = true ∨ (s.boot.imageSel = 1 ∧ s.boot.causeB ≠ 0xF ∧ s.boot.causeB ≠ 1)) :
    checkBudget s = enterHold 2 (rejects s.budgetCheck s) := by
  refine (checkBudget_of_fail h).trans (if_neg ?_)
  rw [rejects_rerun]
  rintro ⟨hrerun, hother⟩
  obtain hr | ⟨hsel, hf, h1⟩ := ho
  · simp [hr] at hrerun
  · rw [hsel] at hother
    exact hother.elim hf h1

/-- Step 12 entered, before its minimum service set is looked at. -/
def atTwelve (s : State) : State := { s with boot.step := 12, boot.rerun := false }

theorem atTwelve_fr (s : State) : Fr 256 s (atTwelve s) := Fr.u256 (.refl ..) rfl

/-- Bring-up begins on the enabled ports that stand in OFF. -/
def detectPort (p : Nat) (s : State) : State :=
  if s.portUp p ∧ (s.port p).lnk.link = .off ∧ !(s.port p).lnk.down then
    s.updPort p (fun x => { x with lnk := { x.lnk with link := .detect, since := s.now } })
  else s

theorem bringUp_of_met (h : s.minimumSet = true) : bringUp s =
    if (List.range 16).any (fun p => decide (((forN 16 detectPort (atTwelve s)).port p).lnk.link = .active))
    then pinShutdown (serviceEntry (forN 16 detectPort (atTwelve s)))
    else { forN 16 detectPort (atTwelve s) with boot.partnerWait := true } := by
  have hset : ¬ (!State.minimumSet { s with boot.step := 12, boot.rerun := false }) = true := by
    rw [show State.minimumSet { s with boot.step := 12, boot.rerun := false } = true from h]
    decide
  rw [bringUp, if_neg hset]
  unfold detectPort atTwelve
  with_reducible rfl

theorem bringUp_of_lost (h : s.minimumSet = false) : bringUp s = enterHold 3 (atTwelve s) :=
  if_pos (by rw [show ({ s with boot.step := 12, boot.rerun := false } : State).minimumSet = false from h]; rfl)

theorem detectPort_fr (p : Nat) (s : State) : Fr 4194304 s (detectPort p s) := Fr.iteT (s.updPort_fr ..) (.refl ..)

/-- Port p once bring-up has begun. -/
def State.detected (s : State) (p : Nat) (x : Port) : Port :=
  if (s.portPresent p && x.cfg.enable && !x.lnk.bistOut) = true ∧ x.lnk.link = .off ∧ (!x.lnk.down) = true then
    { x with lnk := { x.lnk with link := .detect, since := s.now } } else x

theorem forN_detectPort (s : State) (p : Nat) :
    (forN 16 detectPort s).port p = if p < 16 then s.detected p (s.port p) else s.port p := by
  refine forN_port (F := fun p x => s.detected p x) detectPort_fr (fun i t ht => ?_) (fun i t j hj => ?_) 16 p
  · unfold detectPort State.detected State.portUp
    rw [ht.portPresent rfl, ht.now rfl]
    split
    · rw [State.updPort_port_self]
    · rfl
  · unfold detectPort
    split
    · rw [State.updPort_port, if_neg hj]
    · rfl

theorem State.detected_inactive {p : Nat} {x : Port} (h : x.lnk.link ≠ .active) : (s.detected p x).lnk.link ≠ .active := by
  unfold State.detected
  split
  · exact Link.noConfusion
  · exact h

/-- Bring-up with the minimum set met and no port active: the wait for a partner. -/
theorem bringUp_waits (hset : s.minimumSet = true) (hports : ∀ p, p < 16 → (s.port p).lnk.link ≠ .active) :
    ∃ t, bringUp s = t ∧ Fr 4194560 s t ∧ t.boot = { s.boot with step := 12, rerun := false, partnerWait := true } ∧
      ∀ p, p < 16 → t.port p = s.detected p (s.port p) := by
  have hports' (p : Nat) : (forN 16 detectPort (atTwelve s)).port p = if p < 16 then s.detected p (s.port p) else s.port p :=
    forN_detectPort (atTwelve s) p
  have hfr : Fr 4194304 (atTwelve s) (forN 16 detectPort (atTwelve s)) := Fr.forN detectPort_fr 16 (.refl ..)
  rw [bringUp_of_met hset]
  generalize forN 16 detectPort (atTwelve s) = t at hports' hfr ⊢
  rw [if_neg]
  · have hwait : Fr 256 t { t with boot.partnerWait := true } := Fr.u256 (.refl ..) rfl
    refine ⟨_, rfl, (((atTwelve_fr s).or hfr).or hwait).mono rfl, ?_, fun p hp => (hports' p).trans (if_pos hp)⟩
    change { t.boot with partnerWait := true } = _
    rw [hfr.boot rfl]
    rfl
  · rw [List.any_eq_true]
    rintro ⟨p, hp, hact⟩
    have hlt := List.mem_range.mp hp
    rw [hports' p, if_pos hlt, decide_eq_true_eq] at hact
    exact State.detected_inactive (hports p hlt) hact

/-- HOLD entered from BOOT with no cause recorded. -/
theorem enterHold_of_boot (hm : s.mode = .boot) (hc : s.holdCause = 0) (k : Nat) :
    (enterHold k s).mode = .hold ∧ (enterHold k s).holdCause = BitVec.ofNat 8 k ∧ (enterHold k s).boot.partnerWait = s.boot.partnerWait ∧
      (enterHold k s).boot.fallback = s.boot.fallback := by
  have ht : s.mode ≠ .trip := by simp [hm]
  have hh : s.mode ≠ .hold := by simp [hm]
  refine ⟨enterHold_mode k ht, ?_, ?_, ?_⟩
  · rw [enterHold_holdCause k ht hh, if_pos hc]
  all_goals rw [enterHold_boot k ht hh]

theorem bringUp_holds (hset : s.minimumSet = false) (hm : s.mode = .boot) (hc : s.holdCause = 0) :
    ∃ t, bringUp s = t ∧ t.mode = .hold ∧ t.holdCause = 3 ∧ t.boot.partnerWait = s.boot.partnerWait := by
  rw [bringUp_of_lost hset]
  obtain ⟨hmode, hcause, hwait, -⟩ := enterHold_of_boot (s := atTwelve s) hm hc 3
  exact ⟨_, rfl, hmode, hcause, hwait⟩

theorem Trained.shown (h : Trained s u) : Fr 50872580 s (shows u.budgetCheck u) := (h.fr.or (shows_fr u.budgetCheck u)).mono rfl

theorem Trained.budgetCheck (h : Trained s u) : u.budgetCheck = s.budgetCheck := budgetCheck_congr h.fr rfl rfl

/-- The budget check passed, the minimum set met. -/
theorem Trained.waits (h : Trained s u) (hm : s.mode = .boot) (hpass : s.budgetCheck.getLsbD 1 = true) (hset : s.minimumSet = true)
    (hports : ∀ p, p < 16 → (s.port p).lnk.link ≠ .active) : ∃ t, checkBudget u = t ∧ t.boot.step = 12 ∧ t.boot.partnerWait = true ∧
      t.boot.rerun = false ∧ t.gnt.check = s.budgetCheck ∧ t.mode = .boot ∧ t.mem = s.mem ∧ t.flt = s.flt ∧
      ∀ p, p < 16 → t.port p = s.detected p (s.port p) := by
  rw [checkBudget_of_pass (by rw [h.budgetCheck]; exact hpass)]
  have hmet : (shows u.budgetCheck u).minimumSet = true := Eq.trans (h.minimumSet : (shows u.budgetCheck u).minimumSet = _) hset
  have hshown : (shows u.budgetCheck u).gnt.check = s.budgetCheck := h.budgetCheck
  have hfr := h.shown
  generalize shows u.budgetCheck u = c at hmet hshown hfr ⊢
  obtain ⟨t, ht, htfr, htboot, htports⟩ := bringUp_waits hmet fun p hp => by rw [hfr.port rfl]; exact hports p hp
  have hall := hfr.or htfr
  refine ⟨t, ht, by rw [htboot], by rw [htboot], by rw [htboot], (congrArg (·.check) (htfr.gnt rfl)).trans hshown,
    (hall.mode rfl).trans hm, hall.mem rfl, hall.flt rfl, fun p hp => ?_⟩
  rw [htports p hp, hfr.port rfl, State.detected, State.detected, hfr.portPresent rfl, hfr.now rfl]

/-- Settles O12: training leaves what the check reads (`Trained`), the check passes or rejects the copy. -/
theorem trainingEndsInBringUpFallbackOrHold : Obligations.TrainingEndsInBringUpFallbackOrHold := by
  unfold Obligations.TrainingEndsInBringUpFallbackOrHold
  intro r s u h10 hr hu
  have htr : Trained s u := by
    rw [hu]
    split
    · exact trainRest_trained s
    · next hn => exact trainAll_trained (hr.resolve_right hn) s
  have hsmode : s.mode = .boot := State.mode_of_atStep h10
  have hmode : u.mode = .boot := (htr.fr.mode rfl).trans hsmode
  have hcheck := htr.budgetCheck
  rw [exec_tsvTraining_eq (r := r) h10 hu hmode]
  clear hu
  obtain ⟨w, hboot⟩ := htr.boot
  refine ⟨fun hpass hset hports => ?wait, fun hpass hset hcause => ?lost, fun hfail hrerun hsel hother => ?copyA,
    fun hfail hrerun hsel hother => ?copyB, fun hfail hcause hends => ?held⟩
  case wait =>
    obtain ⟨t, ht, hstep, hwait, hrerun, hshown, htmode, hmem, hflt, htports⟩ := htr.waits hsmode hpass hset hports
    exact ⟨t, congrArg _ ht, hstep, hwait, hrerun, hshown, htmode, hmem, hflt, fun p hp hup hoff hdown =>
      (htports p hp).trans (if_pos ⟨hup, hoff, by rw [hdown]; rfl⟩)⟩
  case lost =>
    rw [checkBudget_of_pass (by rw [hcheck]; exact hpass)]
    obtain ⟨t, ht, htmode, htcause, hwait⟩ := bringUp_holds (s := shows u.budgetCheck u) (Eq.trans htr.minimumSet hset) hmode
      ((htr.shown.holdCause rfl).trans hcause)
    exact ⟨t, congrArg _ ht, htmode, htcause, hwait.trans (congrArg BootState.partnerWait hboot : u.boot.partnerWait = _)⟩
  case copyA =>
    have hsel' : u.boot.imageSel = 1 := by rw [hboot, hsel]
    have hb : u.boot.causeB = 0xF ∨ u.boot.causeB = 1 := by rw [hboot]; exact hother
    rw [checkBudget_retriesA (by rw [hcheck]; exact hfail) (by rw [hboot]; exact hrerun) hsel' hb, hcheck]
  case copyB =>
    have hsel' : u.boot.imageSel = 2 := by rw [hboot, hsel]
    have ha : u.boot.causeA = 0xF ∨ u.boot.causeA = 1 := by rw [hboot]; exact hother
    rw [checkBudget_retriesB (by rw [hcheck]; exact hfail) (by rw [hboot]; exact hrerun) hsel' ha, hcheck]
  case held =>
    rw [checkBudget_holds (by rw [hcheck]; exact hfail) (by rw [hboot]; exact hends)]
    have hall := htr.fr.or (rejects_fr u.budgetCheck u)
    obtain ⟨htmode, htcause, -, hback⟩ := enterHold_of_boot ((hall.mode rfl).trans hsmode) ((hall.holdCause rfl).trans hcause) 2
    exact ⟨_, rfl, htmode, htcause, hback.trans ((rejects_fallback u.budgetCheck u).trans (congrArg BootState.fallback hboot : u.boot.fallback = _))⟩

end Sys2Proof.Machine
end

section
/-! SUPPORT. INIT, its resend and its timer (R188). -/

namespace Sys2Proof.Machine

open Host

variable {s t u : State} {p : PortId}

/-- A port in session that has not had the partner's INIT. -/
def State.awaitsInit (s : State) (p : PortId) : Prop :=
  (s.port p.val).lnk.link = .active ∧ (s.port p.val).tx.session = true ∧ (s.port p.val).tx.initRcvd = false

theorem State.awaitsInit.timer (h : s.awaitsInit p) :
    (s.port p.val).lnk.link = .active ∧ (s.port p.val).tx.session = true ∧ (!(s.port p.val).tx.initRcvd) = true :=
  ⟨h.1, h.2.1, by rw [h.2.2]; rfl⟩

/-- The session as INIT opens it: all credits of the grants are held. -/
def PortTx.granted (g1 g2 : BitVec 16) (x : PortTx) : PortTx :=
  { x with initRcvd := true, grant1 := g1.toNat, grant2 := g2.toNat, held1 := g1.toNat, held2 := g2.toNat }

theorem exec_init_of_awaits (h : s.awaitsInit p) (hr : (s.port p.val).aud.resync = none) (g0 g1 g2 n : BitVec 16) :
    exec (.init p g0 g1 g2 n) s = if g0 = 0 ∧ 16 ≤ g1.toNat ∧ 4 ≤ g2.toNat
      then .next (noteHeld p.val (s.updPort p.val (fun x => { x with tx := x.tx.granted g1 g2 }))) else .next (attemptFailed p.val s) := by
  obtain ⟨hactive, hsession, hrcvd⟩ := h.timer
  exact if_pos ⟨hactive, hsession, hrcvd, by rw [hr]; rfl⟩

theorem exec_initResend_of_awaits (h : s.awaitsInit p) (u : State) (hu : u = s.atLeast ((s.port p.val).tx.initAt + 1000)) :
    exec (.initResend p) s =
      .next (sendLink p.val initMsg (u.updPort p.val (fun x => { x with tx := { x.tx with initAt := u.now } }))) := by
  rw [hu]
  exact if_pos h.timer

theorem exec_initTimeout_of_awaits (h : s.awaitsInit p) :
    exec (.initTimeout p) s = .next (attemptFailed p.val (s.atLeast ((s.port p.val).lnk.since + 2000000))) := if_pos h.timer

theorem Port.attemptFailed_waits (now : Nat) (x : Port) : (x.attemptFailed now).lnk.link = .detect ∧ (x.attemptFailed now).lnk.backoff = true :=
  ⟨rfl, rfl⟩

/-- Settles O25: what INIT does, a grant taken or an attempt that fails (`attemptFailed_of_quiet`). -/
theorem initOpensTheSession : Obligations.InitOpensTheSession := by
  unfold Obligations.InitOpensTheSession
  intro p s hactive hsession hrcvd
  have hawaits : s.awaitsInit p := ⟨hactive, hsession, hrcvd⟩
  refine ⟨fun g0 g1 g2 n hres h0 h1 h2 => ?opens, fun g0 g1 g2 n hres hbad hq => ?fails, fun n hn => ?resend, fun u hu hq => ?timeout⟩
  case opens =>
    rw [exec_init_of_awaits hawaits hres, if_pos ⟨h0, h1, h2⟩]
    have hgrant := s.updPort_within p.val (fun x => { x with tx := x.tx.granted g1 g2 })
    obtain ⟨t, ht, hnote, hport, hbooks⟩ := noteHeld_spec p.val (s.updPort p.val (fun x => { x with tx := x.tx.granted g1 g2 }))
    rw [State.updPort_port_self] at hport hbooks
    have hall := hgrant.trans hnote
    exact ⟨t, congrArg _ ht, hall.eq, hall.others, hport, hbooks⟩
  case fails =>
    rw [exec_init_of_awaits hawaits hres, if_neg (by rintro ⟨h0, h1, h2⟩; obtain h | h | h := hbad; exacts [h h0, by omega, by omega])]
    obtain ⟨-, -, hport, -⟩ := attemptFailed_of_quiet p.isLt hq
    obtain ⟨hlink, hback⟩ := (s.port p.val).attemptFailed_waits s.now
    exact ⟨_, rfl, by rw [hport, hlink], by rw [hport, hback], by rw [hport, Port.attemptFailed_session]⟩
  case resend =>
    rw [exec_initResend_of_awaits hawaits _ rfl, sendLink_eq, State.updPort_updPort, hn]
    rfl
  case timeout =>
    rw [exec_initTimeout_of_awaits hawaits, show s.atLeast ((s.port p.val).lnk.since + 2000000) = u from hu.symm]
    have hs : u.port p.val = s.port p.val := by rw [hu]; rfl
    obtain ⟨hfr, -, hport, -⟩ := attemptFailed_of_quiet p.isLt hq
    obtain ⟨hlink, hback⟩ := (u.port p.val).attemptFailed_waits u.now
    obtain ⟨-, hcount⟩ := Port.attemptFailed_fails u.now (u.port p.val)
    exact ⟨_, rfl, by rw [hport, hlink], by rw [hport, hback], by rw [hport, hcount, hs], hfr.now rfl⟩

end Sys2Proof.Machine
end

section
/-! SUPPORT. SEQ flits sent (R189, R196): what one holds and what it leaves of its port; responses (R190, R191). -/

namespace Sys2Proof.Machine

open Host

variable {s t u : State} {p : Nat} {x y : Port}

/-! ## What goes through one port and the performance counters -/

/-- The way from `s` to `t` goes through port `p` and the performance counters alone. -/
structure Linked (p : Nat) (s t : State) : Prop where
  fr : Fr 138412032 s t
  others : otherPorts p s t

theorem Linked.refl (p : Nat) (s : State) : Linked p s s := ⟨.refl .., otherPorts_refl p s⟩

theorem Linked.trans (h : Linked p s t) (h' : Linked p t u) : Linked p s u := ⟨h.fr.trans h'.fr, h.others.trans h'.others⟩

theorem Linked.eq (h : Linked p s t) : t = { s with ports := t.ports, pmc := t.pmc } := h.fr.eq_merge

theorem Within.linked (h : Within p s t) : Linked p s t := ⟨h.fr.mono rfl, h.others⟩

theorem pmcCount_linked (p i code n : Nat) (s : State) : Linked p s (pmcCount i code n s) :=
  ⟨(pmcCount_fr ..).mono rfl, (pmcCount_fr i code n s).otherPorts p⟩

/-! ## A SEQ flit -/

/-- The CREDIT field of the next SEQ flit: the credits of the one VC that has some due. -/
def Port.creditDue (x : Port) : Option (Nat × Nat) :=
  match [0, 1, 2].filter (fun v => decide (0 < x.dueOf v)) with | [v] => some (v, min 16 (x.dueOf v)) | _ => none

/-- The port once the CREDIT field has given back what it names. -/
def Port.paid (c : Option (Nat × Nat)) (x : Port) : Port := match c with | some (v, n) => x.giveBack v n | none => x

/-- The SEQ flit that leaves now with these slots. -/
def Port.newFlit (now : Nat) (slots : List Slot) (closes : Nat) (c : Option (Nat × Nat)) (x : Port) : SentFlit :=
  { seq := x.tx.nextSeq.toNat, slots := slots.map x.fill, credit := c, sentAt := now,
    point := { v0 := x.aud.ret0, v1 := x.aud.ret1, v2 := x.aud.ret2, tags := x.aud.tagCloseCnt + BitVec.ofNat 16 closes } }

/-- The width announced with the next sequence is taken. -/
def Port.switched (x : Port) : Port :=
  if x.lnk.txNext.any (fun e => decide (e.2 = x.tx.nextSeq)) then
    { x with lnk := { x.lnk with txLanes := (x.lnk.txNext.getD (0, 0)).1, txNext := none } } else x

/-- A SEQ flit sent and kept for a replay. -/
def Port.emit (f : SentFlit) (x : Port) : Port :=
  { x with tx.nextSeq := x.tx.nextSeq + 1, tx.replay := x.tx.replay ++ [f] }.transmit [x.seqFlit f]

/-- What the slots of a SEQ flit count in the books of the port. -/
def Port.booked (slots : List Slot) (x : Port) : Port :=
  { x with
    aud.sent1 := x.aud.sent1 + BitVec.ofNat 16 (slots.filter (fun y => decide (y.vc = 1))).length
    aud.sent2 := x.aud.sent2 + BitVec.ofNat 16 (slots.filter (fun y => decide (y.vc = 2))).length
    aud.seqSinceAudit := true }

/-- The port once a SEQ flit with these slots and this CREDIT field has left. -/
def Port.sendSeq (now : Nat) (slots : List Slot) (closes : Nat) (c : Option (Nat × Nat)) (x : Port) : Port :=
  let x := x.paid c
  let f := x.newFlit now slots closes c
  let x := x.switched
  (x.emit f).booked slots

theorem sendSeq_eq (p : Nat) (slots : List Slot) (closes : Nat) (s : State) : sendSeq p slots closes s =
    pmcCount p 0x02 1 (s.updPort p (Port.sendSeq s.now slots closes (s.port p).creditDue)) := by
  unfold Machine.sendSeq
  extract_lets x vcs credit t
  refine congrArg (fun f => pmcCount p 0x02 1 (s.updPort p f)) (funext fun x => ?_)
  have hc : (s.port p).creditDue = credit := rfl
  rw [hc]
  clear hc
  clear_value credit
  cases credit with
  | none =>
    unfold Port.sendSeq Port.booked Port.emit Port.switched Port.newFlit Port.paid
    with_reducible rfl
  | some e =>
    obtain ⟨v, n⟩ := e
    unfold Port.sendSeq Port.booked Port.emit Port.switched Port.newFlit Port.paid
    generalize x.giveBack v n = y
    with_reducible rfl

theorem sendSeq_linked (p : Nat) (slots : List Slot) (closes : Nat) (s : State) : Linked p s (sendSeq p slots closes s) := by
  rw [sendSeq_eq]
  exact (State.updPort_within ..).linked.trans (pmcCount_linked ..)

theorem sendSeq_port (p : Nat) (slots : List Slot) (closes : Nat) (s : State) :
    (sendSeq p slots closes s).port p = (s.port p).sendSeq s.now slots closes (s.port p).creditDue := by
  rw [sendSeq_eq, pmcCount_port, State.updPort_port_self]

theorem Port.switched_of_none (h : x.lnk.txNext = none) : x.switched = x := if_neg (by rw [h]; exact Bool.false_ne_true)

theorem Port.switched_tx (x : Port) : x.switched.tx = x.tx := by unfold Port.switched; split <;> rfl

theorem Port.switched_aud (x : Port) : x.switched.aud = x.aud := by unfold Port.switched; split <;> rfl

theorem Port.switched_rest (x : Port) : x.switched = { x with lnk := x.switched.lnk } := by unfold Port.switched; split <;> rfl

theorem Port.sendSeq_tx (now : Nat) (slots : List Slot) (closes : Nat) (c : Option (Nat × Nat)) (x : Port) :
    (x.sendSeq now slots closes c).tx = { (x.paid c).tx with
      nextSeq := (x.paid c).tx.nextSeq + 1, replay := (x.paid c).tx.replay ++ [(x.paid c).newFlit now slots closes c] } := by
  rw [← (x.paid c).switched_tx]
  rfl

/-- A SEQ flit leaves the requests, the queue, the counts of tags and the rung of its port. -/
theorem Port.sendSeq_rest (now : Nat) (slots : List Slot) (closes : Nat) (c : Option (Nat × Nat)) (x : Port) :
    (x.sendSeq now slots closes c).outq = (x.paid c).outq ∧ (x.sendSeq now slots closes c).reqs = (x.paid c).reqs ∧
    (x.sendSeq now slots closes c).aud.tagCloseCnt = (x.paid c).aud.tagCloseCnt := by
  have hrest := (x.paid c).switched_rest
  dsimp only [Port.sendSeq]
  generalize (x.paid c).switched = y at hrest ⊢
  rw [hrest]
  exact ⟨rfl, rfl, rfl⟩

theorem Port.sendSeq_wire (now : Nat) (slots : List Slot) (closes : Nat) (c : Option (Nat × Nat)) (x : Port) (h : (x.paid c).lnk.txNext = none) :
    (x.sendSeq now slots closes c).wire = (x.paid c).wire ++
      Port.sent { x.paid c with tx.nextSeq := (x.paid c).tx.nextSeq + 1, tx.replay := (x.paid c).tx.replay ++ [(x.paid c).newFlit now slots closes c] }
        [(x.paid c).seqFlit ((x.paid c).newFlit now slots closes c)] := by
  dsimp only [Port.sendSeq]
  rw [Port.switched_of_none h]
  rfl

theorem Port.creditDue_none (h0 : x.tx.due0 = 0) (h1 : x.tx.due1 = 0) (h2 : x.tx.due2 = 0) : x.creditDue = none := by
  simp [Port.creditDue, Port.dueOf, h0, h1, h2]

theorem Port.creditDue_vc0 (h0 : 0 < x.tx.due0) (h1 : x.tx.due1 = 0) (h2 : x.tx.due2 = 0) : x.creditDue = some (0, min 16 x.tx.due0) := by
  simp [Port.creditDue, Port.dueOf, h0, h1, h2]

/-! ## A completion header alone (R190, R191) -/

/-- All that waited has left, with these credits left. -/
def Port.unqueued (h1 h2 : Nat) (x : Port) : Port := { x with outq := [], tx.held1 := h1, tx.held2 := h2 }

/-- A tag closes with its final slot. -/
def Port.closeTag (tag : Nat) (x : Port) : Port :=
  { x with reqs := x.reqs.filter (fun e => decide (e.tag ≠ tag)), aud.tagCloseCnt := x.aud.tagCloseCnt + 1 }

/-- The idle time of a port begins where it is idle. -/
def Port.rests (now : Nat) (x : Port) : Port := if x.idle then { x with idleSince := now } else x

/-- Port p once the only waiting response has left as the flit it is given. -/
def Port.answered (now : Nat) (r : Req) (slots : List Slot) (x : Port) : Port :=
  (((x.sendSeq now slots 1 x.creditDue).unqueued (x.tx.held1 - 1) x.tx.held2).closeTag r.tag).rests now

theorem Port.waitsOrder_of_single {r : Req} (st : Status) (hr : x.reqs = [r]) : x.waitsOrder [] (completion r st) = false := by
  simp [Port.waitsOrder, OutItem.tag, completion, hr]

/-- The only waiting completion takes one credit of VC1, or waits for it. -/
theorem Port.offer_completion {r : Req} (st : Status) (hr : x.reqs = [r]) (h1 h2 : Nat) :
    Pick.offer x { h1 := h1, h2 := h2 } (completion r st) = if 0 < h1
      then { slots := [(completion r st).slot], taken := [completion r st], h1 := h1 - 1, h2 := h2, closed := [r.tag] }
      else { left := [completion r st], stop1 := true, h1 := h1, h2 := h2, closed := [r.tag] } := by
  rw [Pick.offer, if_neg (by rw [Port.waitsOrder_of_single st hr]; exact Bool.false_ne_true)]
  by_cases h : 0 < h1
  · simp [completion, Slot.vc, h]
  · simp [completion, Slot.vc, h]

theorem shutdownAdvance_of_up (h : s.bist.shutDown = false) : shutdownAdvance s = s := by
  simp [shutdownAdvance, h]

theorem sendResponses_of_dry {r : Req} {st : Status} (hmay : (s.port p).maySend = true) (hq : (s.port p).outq = [completion r st])
    (hr : (s.port p).reqs = [r]) (hdry : (s.port p).tx.held1 = 0) : sendResponses p s = noteHeld p s := by
  unfold sendResponses
  dsimp only
  rw [if_pos ⟨hmay, by rw [hq]; exact List.cons_ne_nil _ _⟩, hq, List.foldl_cons, List.foldl_nil, Port.offer_completion st hr, hdry]
  rfl

theorem sentItems_completion (p : Nat) (r : Req) (st : Status) (s : State) :
    sentItems p [completion r st] s = touch (s.updPort p (Port.closeTag r.tag)) := rfl

/-- A port changed, what is held is looked at again, and its idle time begins where it is idle now. -/
theorem closed_spec (p : Nat) (f : Port → Port) (u : State) (now : Nat) :
    Fr 4718592 u ((touch (u.updPort p f)).updPort p (Port.rests now)) ∧
    otherPorts p u ((touch (u.updPort p f)).updPort p (Port.rests now)) ∧
    ((touch (u.updPort p f)).updPort p (Port.rests now)).port p = (f (u.port p)).rests now := by
  have htouch : Fr 524288 (u.updPort p f) (touch (u.updPort p f)) := touch_fr ..
  refine ⟨(((u.updPort_fr p f).or htouch).or (State.updPort_fr ..)).mono rfl,
    otherPorts.trans (updPort_otherPorts p f u) (otherPorts.trans (htouch.otherPorts p) (updPort_otherPorts _ _ _)), ?_⟩
  rw [State.updPort_port_self, htouch.port rfl, State.updPort_port_self]

/-- What follows the flit that took these items, all that waited. -/
def itemsLeft (p : Nat) (taken : List OutItem) (h1 h2 : Nat) (s : State) : State :=
  let s := sentItems p taken (s.updPort p (Port.unqueued h1 h2))
  shutdownAdvance (noteHeld p (s.updPort p (Port.rests s.now)))

theorem itemsLeft_completion (p : Nat) (r : Req) (st : Status) (h1 h2 : Nat) (s : State) : itemsLeft p [completion r st] h1 h2 s =
    shutdownAdvance (noteHeld p ((touch (s.updPort p (fun x => (x.unqueued h1 h2).closeTag r.tag))).updPort p (Port.rests s.now))) := by
  rw [itemsLeft, sentItems_completion, State.updPort_updPort]
  rfl

/-- The slots of a flit with one completion header. -/
def completionSlots (r : Req) (st : Status) : List Slot := [.completions [(r.op.code, r.tag, st)], .idle]

theorem sendResponses_of_credit {r : Req} {st : Status} (hmay : (s.port p).maySend = true) (hrung : (s.port p).rung = 0)
    (hq : (s.port p).outq = [completion r st]) (hr : (s.port p).reqs = [r]) (hup : s.bist.shutDown = false) (hcredit : 0 < (s.port p).tx.held1) :
    ∃ t, sendResponses p s = noteHeld p t ∧ Fr 138936320 s t ∧ otherPorts p s t ∧
      t.port p = (s.port p).answered s.now r (completionSlots r st) := by
  unfold sendResponses
  dsimp only
  rw [if_pos ⟨hmay, by rw [hq]; exact List.cons_ne_nil _ _⟩, hq, List.foldl_cons, List.foldl_nil, Port.offer_completion st hr, if_pos hcredit]
  have hseq := sendSeq_linked p (completionSlots r st) 1 s
  have hport := sendSeq_port p (completionSlots r st) 1 s
  have hnow := hseq.fr.now rfl
  rw [if_neg (List.cons_ne_nil _ _), if_pos hrung]
  change ∃ t, itemsLeft p [completion r st] ((s.port p).tx.held1 - 1) (s.port p).tx.held2 (sendSeq p (completionSlots r st) 1 s) = _ ∧ _
  generalize sendSeq p (completionSlots r st) 1 s = u at hseq hport hnow ⊢
  rw [itemsLeft_completion]
  obtain ⟨hfr, hothers, hlast⟩ :=
    closed_spec p (fun x => (x.unqueued ((s.port p).tx.held1 - 1) (s.port p).tx.held2).closeTag r.tag) u u.now
  have hall := hseq.fr.or hfr
  refine ⟨_, shutdownAdvance_of_up ?_, hall.mono rfl, hseq.others.trans hothers, ?_⟩
  · rw [(noteHeld_fr ..).bist rfl]
    exact (congrArg BistState.shutDown (hall.bist rfl)).trans hup
  · refine hlast.trans ?_
    rw [hnow, hport]
    rfl

theorem serveMgmt_of_none (h : ∀ r ∈ (s.port p).reqs, r.phase ≠ .mgmt) : serveMgmt p s = s := by
  have hnone : (s.port p).reqs.find? (fun r => decide (r.phase = .mgmt)) = none := by
    rw [List.find?_eq_none]
    intro r hr
    simp [h r hr]
  unfold serveMgmt
  dsimp only
  rw [hnone, ite_self]

theorem Port.rests_eq (now : Nat) (x : Port) : x.rests now = { x with idleSince := (x.rests now).idleSince } := by
  unfold Port.rests
  split <;> rfl

/-- Where nothing is due to the partner, the answered port: the flit kept, its credit spent, the tag closed. -/
theorem Port.answered_spec {r : Req} (now : Nat) (st : Status) (hr : x.reqs = [r]) (hdue : x.creditDue = none) :
    (x.answered now r (completionSlots r st)).outq = [] ∧ (x.answered now r (completionSlots r st)).reqs = [] ∧
    (x.answered now r (completionSlots r st)).aud.tagCloseCnt = x.aud.tagCloseCnt + 1 ∧
    (x.answered now r (completionSlots r st)).tx = { x.tx with
      nextSeq := x.tx.nextSeq + 1, replay := x.tx.replay ++ [x.newFlit now (completionSlots r st) 1 none], held1 := x.tx.held1 - 1 } ∧
    (x.lnk.txNext = none → (x.answered now r (completionSlots r st)).wire = x.wire ++
      Port.sent { x with tx.nextSeq := x.tx.nextSeq + 1, tx.replay := x.tx.replay ++ [x.newFlit now (completionSlots r st) 1 none] }
        [x.seqFlit (x.newFlit now (completionSlots r st) 1 none)]) := by
  obtain ⟨-, hreqs, htags⟩ := x.sendSeq_rest now (completionSlots r st) 1 none
  have htx := x.sendSeq_tx now (completionSlots r st) 1 none
  have hwire := x.sendSeq_wire now (completionSlots r st) 1 none
  rw [Port.answered, hdue, Port.rests_eq]
  generalize x.sendSeq now (completionSlots r st) 1 none = y at hreqs htags htx hwire ⊢
  refine ⟨rfl, ?_, ?_, ?_, hwire⟩
  · change y.reqs.filter _ = []
    rw [hreqs, show (x.paid none).reqs = [r] from hr]
    simp
  · change y.aud.tagCloseCnt + 1 = _
    rw [htags]
    rfl
  · change { y.tx with held1 := x.tx.held1 - 1, held2 := x.tx.held2 } = _
    rw [htx]
    rfl

/-- Settles O28: a completion that has a credit leaves alone (`sendResponses_of_credit`), one without waits. -/
theorem responsesLeaveWithACredit : Obligations.ResponsesLeaveWithACredit := by
  unfold Obligations.ResponsesLeaveWithACredit
  intro p r st s hmay hrung hq hr hsign hup h0 h1 h2
  refine ⟨fun hcredit => ?_, fun hdry hphase => ?_⟩
  · obtain ⟨u, hsend, hfr, hothers, hport⟩ := sendResponses_of_credit hmay hrung hq hr hup hcredit
    obtain ⟨houtq, hreqs, htags, htx, hwire⟩ := Port.answered_spec s.now st hr (Port.creditDue_none h0 h1 h2)
    obtain ⟨t, ht, hnote, htport, hbooks⟩ := noteHeld_spec p.val u
    rw [ht] at hsend
    rw [hport] at htport hbooks
    have hserve : serveMgmt p.val t = t := serveMgmt_of_none (by rw [htport, hreqs]; exact fun _ h => absurd h List.not_mem_nil)
    refine ⟨t, (s.port p.val).newFlit s.now (completionSlots r st) 1 none, congrArg Outcome.next (by rw [hsend, hserve]),
      (hfr.or hnote.fr).eq_merge, hothers.trans hnote.others, ?_, ?_, ?_, ?_, ?_, ?_, rfl, rfl, fun htx => ?_⟩
    · rw [htport]; exact houtq
    · rw [htport]; exact hreqs
    · rw [hbooks, htx]
    · rw [hbooks, htx]
    · rw [htport]; exact htags
    · rw [hbooks, htx]
    · refine ⟨{ s.port p.val with
        tx.nextSeq := (s.port p.val).tx.nextSeq + 1
        tx.replay := (s.port p.val).tx.replay ++ [(s.port p.val).newFlit s.now (completionSlots r st) 1 none] }, rfl, rfl, rfl, ?_⟩
      rw [htport]
      exact hwire htx
  · obtain ⟨t, ht, hnote, htport, hbooks⟩ := noteHeld_spec p.val s
    have hserve : serveMgmt p.val t = t := serveMgmt_of_none (by rw [htport]; simpa [hr] using hphase)
    exact ⟨t, congrArg Outcome.next (by rw [sendResponses_of_dry hmay hq hr hdry, ht, hserve]), hnote.eq, hnote.others, htport, hbooks⟩

end Sys2Proof.Machine
end

section
/-! SUPPORT. Credits returned by the partner and to it (R189, R190, R211). -/

namespace Sys2Proof.Machine

open Host

variable {s t u : State} {p : Nat} {x y : Port}

/-! ## Violations and messages taken -/

theorem withEvent_updPort (n p : Nat) (f : Port → Port) (s : State) : (s.updPort p f).withEvent n = (s.withEvent n).updPort p f := rfl

/-- A violation whose event does not escalate (R211). -/
theorem violation_of_quiet (c : Nat) (hp : p < 16) (hq : s.quiet (srcProto p)) : violation p c s =
    (s.withEvent (srcProto p)).updPort p (fun x => { x with protoLast := BitVec.ofNat 4 c, protoCount := satInc x.protoCount }) :=
  (fault_of_quiet_port (srcProto_port hp) _ ((s.updPort_fr p _).quiet hq)).trans (withEvent_updPort ..)

theorem takeMsg_within (p c : Nat) (s : State) : Within p s (takeMsg p c s) := by
  unfold takeMsg
  split
  · exact State.updPort_within ..
  · exact .refl ..

/-- A message taken leaves its port but for the receive buffer and the credit that falls due. -/
theorem takeMsg_port (p c : Nat) (s : State) : ∃ rx d, (takeMsg p c s).port p = { s.port p with tx := { (s.port p).tx with rx := rx, due2 := d } } := by
  unfold takeMsg
  split
  · exact ⟨_, _, State.updPort_port_self ..⟩
  · exact ⟨_, _, rfl⟩

/-! ## Credits returned to the stack (R190) -/

/-- Credits of VC v added to what is held, and counted. -/
def Port.credited (v k : Nat) (x : Port) : Port :=
  match v with
  | 1 => { x with tx.held1 := x.tx.held1 + k, aud.retRcvd1 := x.aud.retRcvd1 + BitVec.ofNat 16 k }
  | 2 => { x with tx.held2 := x.tx.held2 + k, aud.retRcvd2 := x.aud.retRcvd2 + BitVec.ofNat 16 k }
  | _ => x

/-- What the grant of VC v leaves room for. -/
def Port.room (v : Nat) (x : Port) : Nat := match v with | 1 => x.tx.grant1 - x.tx.held1 | 2 => x.tx.grant2 - x.tx.held2 | _ => 0

theorem creditReturn_zero (p v : Nat) (s : State) : creditReturn p v 0 s = s := rfl

theorem creditReturn_eq (p v : Nat) {n : Nat} (hn : n ≠ 0) (s : State) : creditReturn p v n s =
    if min n ((s.port p).room v) < n then violation p 9 (noteHeld p (s.updPort p (Port.credited v (min n ((s.port p).room v)))))
    else noteHeld p (s.updPort p (Port.credited v (min n ((s.port p).room v)))) := if_neg hn

/-- A return within the grant is added to what is held. -/
theorem creditReturn_within {v n : Nat} (h : n ≤ (s.port p).room v) : ∃ t, creditReturn p v n s = t ∧ Within p s t ∧
    t.port p = { (s.port p).credited v n with tx := (t.port p).tx } ∧ sameBooks ((s.port p).credited v n).tx (t.port p).tx := by
  obtain rfl | hn := Nat.eq_zero_or_pos n
  · refine ⟨s, rfl, .refl .., ?_⟩
    unfold Port.credited
    split <;> simp [sameBooks]
  · obtain ⟨t, ht, hnote, hport, hbooks⟩ := noteHeld_spec p (s.updPort p (Port.credited v n))
    rw [State.updPort_port_self] at hport hbooks
    refine ⟨t, ?_, (State.updPort_within ..).trans hnote, hport, hbooks⟩
    rw [creditReturn_eq p v hn.ne', Nat.min_eq_left h, if_neg (Nat.lt_irrefl n), ht]

/-- The surplus of a return beyond the grant is a violation, the rest is taken. -/
theorem creditReturn_beyond {v n : Nat} (hp : p < 16) (h : (s.port p).room v < n) (hq : s.quiet (srcProto p)) :
    ∃ u, creditReturn p v n s = (u.withEvent (srcProto p)).updPort p (fun x => { x with protoLast := 9, protoCount := satInc x.protoCount }) ∧
      Within p s u ∧ sameBooks ((s.port p).credited v ((s.port p).room v)).tx (u.port p).tx := by
  obtain ⟨u, hu, hnote, -, hbooks⟩ := noteHeld_spec p (s.updPort p (Port.credited v ((s.port p).room v)))
  rw [State.updPort_port_self] at hbooks
  have hway := (State.updPort_within ..).trans hnote
  refine ⟨u, ?_, hway, hbooks⟩
  rw [creditReturn_eq p v (by omega), Nat.min_eq_right h.le, if_pos h, hu, violation_of_quiet 9 hp (hway.fr.quiet hq)]
  rfl

theorem exec_credit (p : PortId) (r0 r1 r2 : BitVec 16) (h : (s.port p.val).inSession = true) : exec (.credit p r0 r1 r2) s =
    .next (creditReturn p.val 2 r2.toNat (creditReturn p.val 1 r1.toNat (creditReturn p.val 0 r0.toNat (takeMsg p.val 0x10 s)))) := if_pos h

/-! ## Credits returned to the partner (R189) -/

theorem exec_creditReturnDue_of_vc0 (p : PortId) (hmay : (s.port p.val).maySend = true) (h0 : 0 < (s.port p.val).tx.due0)
    (h1 : (s.port p.val).tx.due1 = 0) (h2 : (s.port p.val).tx.due2 = 0) :
    exec (.creditReturnDue p) s = .next (sendSeq p.val [.idle, .idle] 0 s) := by
  have hvcs : [0, 1, 2].filter (fun v => decide (0 < (s.port p.val).dueOf v)) = [0] := by simp [Port.dueOf, h0, h1, h2]
  change execCreditReturnDue p s = _
  unfold execCreditReturnDue
  dsimp only
  rw [hvcs, hmay]
  rfl

/-- A port that gives back all the credits due in a CREDIT message, which takes one credit of VC2. -/
def Port.repaid (x : Port) : Port :=
  { ((x.giveBack 0 x.tx.due0).giveBack 1 x.tx.due1).giveBack 2 x.tx.due2 with tx.held2 := x.tx.held2 - 1 }

theorem Port.giveBack_replay (v n : Nat) (x : Port) : (x.giveBack v n).tx.replay = x.tx.replay := by
  unfold Port.giveBack
  split <;> rfl

theorem Port.repaid_replay (x : Port) : x.repaid.tx.replay = x.tx.replay :=
  (Port.giveBack_replay ..).trans ((Port.giveBack_replay ..).trans (Port.giveBack_replay ..))

theorem exec_creditReturnDue_of_several (p : PortId) (hmay : (s.port p.val).maySend = true) (h0 : 0 < (s.port p.val).tx.due0)
    (h1 : 0 < (s.port p.val).tx.due1) (hheld : 0 < (s.port p.val).tx.held2) : exec (.creditReturnDue p) s =
      .next (sendSeq p.val [.ctrl (.credit (s.port p.val).tx.due0 (s.port p.val).tx.due1 (s.port p.val).tx.due2), .idle] 0
        (s.updPort p.val Port.repaid)) := by
  obtain ⟨l, hvcs⟩ : ∃ l, [0, 1, 2].filter (fun v => decide (0 < (s.port p.val).dueOf v)) = 0 :: 1 :: l := by
    simp [Port.dueOf, h0, h1, List.filter_cons]
  change execCreditReturnDue p s = _
  unfold execCreditReturnDue
  dsimp only
  rw [hvcs, hmay]
  exact if_neg hheld.ne'

/-- The session books of a port once a SEQ flit has left. -/
theorem sendSeq_books {c : Option (Nat × Nat)} (p : Nat) (slots : List Slot) (closes : Nat) (s : State) (hc : (s.port p).creditDue = c) :
    ((sendSeq p slots closes s).port p).tx = { ((s.port p).paid c).tx with
      nextSeq := ((s.port p).paid c).tx.nextSeq + 1
      replay := ((s.port p).paid c).tx.replay ++ [((s.port p).paid c).newFlit s.now slots closes c] } := by
  rw [sendSeq_port, hc, Port.sendSeq_tx]

theorem sendSeq_books_of_none (p : Nat) (slots : List Slot) (closes : Nat) (s : State) (hc : (s.port p).creditDue = none) :
    ((sendSeq p slots closes s).port p).tx = { (s.port p).tx with
      nextSeq := (s.port p).tx.nextSeq + 1, replay := (s.port p).tx.replay ++ [(s.port p).newFlit s.now slots closes none] } :=
  sendSeq_books p slots closes s hc

theorem exec_vc1CreditStall (p : PortId) (hs : (s.port p.val).inSession = true) (hd : (s.port p.val).dry = true) :
    exec (.vc1CreditStall p) s = .next (fault (srcStall p.val) (portDetail p.val 2)
      ((s.atLeast ((s.port p.val).tx.dryFrom.getD s.now + 100000)).updPort p.val (fun x => { x with
        tx := { x.tx with dryFrom := some (s.atLeast ((s.port p.val).tx.dryFrom.getD s.now + 100000)).now } }))) := if_pos ⟨hs, hd⟩

theorem sameBooks.add_held2 {x y : PortTx} (h : sameBooks x y) (k : Nat) :
    sameBooks { x with held2 := x.held2 + k } { y with held2 := y.held2 + k } := by
  unfold sameBooks at *
  rw [h]

/-- Settles O27: what the partner returns (`creditReturn_within`, `creditReturn_beyond`), what is returned to it (`Port.sendSeq`). -/
theorem creditsStayWithinTheGrants : Obligations.CreditsStayWithinTheGrants := by
  unfold Obligations.CreditsStayWithinTheGrants
  intro p s u hses hu
  obtain ⟨rx, d, hport⟩ := takeMsg_port p.val 0x10 s
  have hway : Within p.val s u := hu ▸ takeMsg_within ..
  rw [← hu] at hport
  refine ⟨fun r1 r2 h1 h2 => ?within, fun r1 hle hlt hq => ?beyond, fun hmay h0 hmax h1 h2 => ?field, fun hmay h0 h1 hheld => ?message,
    fun n hdry hn hq => ?stall⟩
  case within =>
    rw [exec_credit p _ _ _ hses, ← hu, show (0 : BitVec 16).toNat = 0 from rfl, creditReturn_zero]
    obtain ⟨v, hv, hvway, hvport, hvbooks⟩ := creditReturn_within (s := u) (p := p.val) (v := 1) (n := r1.toNat)
      (by rw [hport]; exact Nat.le_sub_of_add_le' h1)
    have hroom : r2.toNat ≤ (v.port p.val).room 2 := by
      have hheld : (v.port p.val).tx.held2 = (s.port p.val).tx.held2 := by rw [hvbooks, hport]; rfl
      have hgrant : (v.port p.val).tx.grant2 = (s.port p.val).tx.grant2 := by rw [hvbooks, hport]; rfl
      change r2.toNat ≤ (v.port p.val).tx.grant2 - (v.port p.val).tx.held2
      omega
    obtain ⟨t, ht, htway, htport, htbooks⟩ := creditReturn_within hroom
    have hall := hway.trans (hvway.trans htway)
    refine ⟨t, by rw [hv, ht], hall.eq, hall.others, ?_, ?_⟩
    · have h1 := hvbooks.add_held2 r2.toNat
      rw [hport] at h1 ⊢
      exact h1.trans htbooks
    · rw [htport]
      change ((v.port p.val).credited 2 r2.toNat).aud = _
      rw [hvport]
      change { (u.port p.val).aud with
        retRcvd1 := (u.port p.val).aud.retRcvd1 + BitVec.ofNat 16 r1.toNat, retRcvd2 := (u.port p.val).aud.retRcvd2 + BitVec.ofNat 16 r2.toNat } = _
      rw [hport, BitVec.ofNat_toNat, BitVec.ofNat_toNat, BitVec.setWidth_eq, BitVec.setWidth_eq]
  case beyond =>
    rw [exec_credit p _ _ _ hses, ← hu, show (0 : BitVec 16).toNat = 0 from rfl, creditReturn_zero, creditReturn_zero]
    have hroom : (u.port p.val).room 1 = (s.port p.val).tx.grant1 - (s.port p.val).tx.held1 := by rw [hport]; rfl
    obtain ⟨v, hv, hvway, hvbooks⟩ := creditReturn_beyond (s := u) (v := 1) (n := r1.toNat) p.isLt (by omega) (hway.fr.quiet hq)
    have hheld : (v.port p.val).tx.held1 = (s.port p.val).tx.held1 + ((s.port p.val).tx.grant1 - (s.port p.val).tx.held1) := by
      rw [hvbooks, hroom, hport]
      rfl
    refine ⟨_, congrArg _ hv, ?_, ?_, ?_⟩
    · rw [State.updPort_port_self]
      exact hheld.trans (Nat.add_sub_of_le hle)
    · rw [State.updPort_port_self]
    · have hsrc : (v.withEvent (srcProto p.val)).src (srcProto p.val) = (s.withEvent (srcProto p.val)).src (srcProto p.val) := by
        have hfr := (hway.trans hvway).fr
        rw [State.withEvent_src_self, State.withEvent_src_self, hfr.now rfl, src_congr (congrArg FltState.sources (hfr.flt rfl))]
      change ((v.withEvent (srcProto p.val)).src (srcProto p.val)).total = _
      rw [hsrc, State.withEvent_src_self]
  case field =>
    rw [exec_creditReturnDue_of_vc0 p hmay h0 h1 h2]
    have hlink := sendSeq_linked p.val [.idle, .idle] 0 s
    have htx := sendSeq_books p.val [.idle, .idle] 0 s ((Port.creditDue_vc0 h0 h1 h2).trans (by rw [Nat.min_eq_right hmax]))
    refine ⟨_, ((s.port p.val).giveBack 0 (s.port p.val).tx.due0).newFlit s.now [.idle, .idle] 0 (some (0, (s.port p.val).tx.due0)), rfl,
      hlink.eq, hlink.others, ?_, ?_, ?_, ?_, rfl, rfl, rfl, ?_, ?_⟩
    · rw [htx]; exact Nat.sub_self _
    · rw [htx]; rfl
    · rw [htx]; rfl
    · rw [htx]; rfl
    · rw [htx]; rfl
    · rw [htx]; rfl
  case message =>
    rw [exec_creditReturnDue_of_several p hmay h0 h1 hheld]
    generalize hm : [Slot.ctrl (.credit (s.port p.val).tx.due0 (s.port p.val).tx.due1 (s.port p.val).tx.due2), .idle] = slots
    have hself := s.updPort_port_self p.val Port.repaid
    have hfirst := s.updPort_within p.val Port.repaid
    generalize s.updPort p.val Port.repaid = v at hself hfirst ⊢
    have hlink := hfirst.linked.trans (sendSeq_linked p.val slots 0 v)
    have hnone : (v.port p.val).creditDue = none := by
      rw [hself]
      exact Port.creditDue_none (Nat.sub_self _) (Nat.sub_self _) (Nat.sub_self _)
    have htx := sendSeq_books_of_none p.val slots 0 v hnone
    rw [hself] at htx
    refine ⟨_, (s.port p.val).repaid.newFlit v.now slots 0 none, rfl, hlink.eq, hlink.others, ?_, ?_, ?_, ?_, ?_, ?_, rfl, ?_⟩
    · rw [htx]; exact Nat.sub_self _
    · rw [htx]; exact Nat.sub_self _
    · rw [htx]; exact Nat.sub_self _
    · rw [htx]; rfl
    · rw [htx]; rfl
    · rw [htx]
      exact congrArg (· ++ _) (s.port p.val).repaid_replay
    · rw [← hm]
      rfl
  case stall =>
    rw [exec_vc1CreditStall p hses hdry, show s.atLeast ((s.port p.val).tx.dryFrom.getD s.now + 100000) = { s with now := n } by rw [hn]; rfl,
      fault_of_quiet_port (srcStall_port p.isLt) _ ((State.updPort_fr ..).quiet hq)]
    rfl

end Sys2Proof.Machine
end

section
/-! SUPPORT. Replay (R197 to R200). -/

namespace Sys2Proof.Machine

open Host

variable {s t u : State} {p : Nat} {x y : Port}

theorem Port.seqFlit_congr (h : x.tx.ackOut = y.tx.ackOut) : x.seqFlit = y.seqFlit := by
  funext f
  rw [Port.seqFlit, h, Port.seqFlit]

theorem processAck_of_behind {a : BitVec 12} (h : 2048 ≤ (a - (s.port p).oldest).toNat) (hlen : (s.port p).tx.replay.length ≤ 256) :
    processAck p a s = s :=
  (if_neg (by omega)).trans (if_pos h)

/-! ## Flits sent again -/

/-- The flits from a sequence on are sent again now. -/
def Port.resent (now : Nat) (n : BitVec 12) (x : Port) : Port :=
  { x.transmit ((x.tx.replay.drop (n - x.oldest).toNat).map x.seqFlit) with
    tx.cReplays := satInc x.tx.cReplays
    tx.replay := x.tx.replay.map (fun f =>
      if (BitVec.ofNat 12 f.seq - x.oldest).toNat < (n - x.oldest).toNat then f else { f with sentAt := now }) }

theorem replayFrom_eq (p : Nat) (n : BitVec 12) (s : State) :
    replayFrom p n s = pmcCount p 0x0E 1 (s.updPort p (Port.resent s.now n)) := rfl

theorem replayFrom_linked (p : Nat) (n : BitVec 12) (s : State) : Linked p s (replayFrom p n s) :=
  (State.updPort_within ..).linked.trans (pmcCount_linked ..)

theorem replayFrom_port (p : Nat) (n : BitVec 12) (s : State) : (replayFrom p n s).port p = (s.port p).resent s.now n := by
  rw [replayFrom_eq, pmcCount_port, State.updPort_port_self]

theorem Port.resent_wire (now : Nat) (n : BitVec 12) (x : Port) :
    (x.resent now n).wire = x.wire ++ x.sent ((x.tx.replay.drop (n - x.oldest).toNat).map x.seqFlit) := rfl

theorem Port.resent_wire_all (now : Nat) (x : Port) :
    (x.resent now x.oldest).wire = x.wire ++ x.sent (x.tx.replay.map x.seqFlit) := by
  rw [Port.resent_wire, BitVec.sub_self]
  rfl

theorem Port.resent_replay (now : Nat) (n : BitVec 12) (x : Port) : (x.resent now n).tx.replay.map (fun f => (f.seq, f.slots, f.credit)) =
    x.tx.replay.map (fun f => (f.seq, f.slots, f.credit)) := by
  rw [Port.resent, List.map_map]
  refine List.map_congr_left fun f _ => ?_
  dsimp only [Function.comp]
  split <;> rfl

theorem Port.resent_sentAt (now : Nat) (x : Port) : ∀ g ∈ (x.resent now x.oldest).tx.replay, g.sentAt = now := by
  intro g hg
  rw [Port.resent, BitVec.sub_self] at hg
  obtain ⟨f, -, rfl⟩ := List.mem_map.mp hg
  exact congrArg SentFlit.sentAt (if_neg (Nat.not_lt_zero _))

theorem Port.inSession_active (h : x.inSession = true) : x.lnk.link = .active := by
  simp only [Port.inSession, Bool.and_eq_true, decide_eq_true_eq] at h
  exact h.1.1.1

/-! ## RETRY_REQ and the replay timer -/

/-- The RETRY_REQ is noted as the last one. -/
def Port.noteRetry (now : Nat) (n : BitVec 12) (x : Port) : Port := { x with tx.lastRetry := some (n, now) }

/-- A RETRY_REQ for this sequence came less than 1 µs ago. -/
def Port.retriedBefore (now : Nat) (n : BitVec 12) (x : Port) : Bool :=
  match x.tx.lastRetry with | some (m, t) => decide (m = n) && decide (now < t + 1000) | none => false

theorem exec_retryReq {n a : BitVec 12} (i : PortId) (hs : (s.port i.val).inSession = true)
    (ha : 2048 ≤ (a - (s.port i.val).oldest).toNat) (hlen : (s.port i.val).tx.replay.length ≤ 256) :
    exec (.retryReq i n a) s =
      if ((s.port i.val).retriedBefore s.now n || decide ((s.port i.val).tx.replay.length ≤ (n - (s.port i.val).oldest).toNat)) = true
      then .next (violation i.val 7 (s.updPort i.val (Port.noteRetry s.now n)))
      else .next (replayFrom i.val n (s.updPort i.val (Port.noteRetry s.now n))) := by
  refine (if_neg (by rw [hs]; exact Bool.false_ne_true)).trans ?_
  rw [processAck_of_behind ha hlen]
  rfl

/-- The expiries in a row of the replay timer. -/
def Port.expired (n : Nat) (x : Port) : Port := { x with tx.expiries := n }

theorem exec_replayTimeout {f : SentFlit} {l : List SentFlit} (i : PortId) (hs : (s.port i.val).inSession = true)
    (hl : (s.port i.val).tx.replay = f :: l) (h : (s.port i.val).tx.expiries < 7) :
    exec (.replayTimeout i) s = .next (replayFrom i.val
      (((s.atLeast (f.sentAt + 1000)).updPort i.val (fun x => x.expired (x.tx.expiries + 1))).port i.val).oldest
      ((s.atLeast (f.sentAt + 1000)).updPort i.val (fun x => x.expired (x.tx.expiries + 1)))) := by
  change execReplayTimeout i s = _
  unfold execReplayTimeout
  dsimp only
  rw [hl]
  exact (if_pos hs).trans (if_neg (by omega))

theorem exec_replayTimeout_last {f : SentFlit} {l : List SentFlit} (i : PortId) (hs : (s.port i.val).inSession = true)
    (hl : (s.port i.val).tx.replay = f :: l) (h : (s.port i.val).tx.expiries = 7) (hu : u = fault (srcStall i.val) (portDetail i.val 1)
      ((s.atLeast (f.sentAt + 1000)).updPort i.val (Port.expired 0))) :
    exec (.replayTimeout i) s = .next (if (u.port i.val).lnk.link = .active then startRetrain i.val 6 false true u else u) := by
  change execReplayTimeout i s = _
  unfold execReplayTimeout
  dsimp only
  rw [hl]
  refine (if_pos hs).trans ((if_pos h.ge).trans ?_)
  rw [hu]
  unfold Port.expired
  with_reducible rfl

theorem exec_retryReqResend (i : PortId) (hs : (s.port i.val).inSession = true) (hd : (s.port i.val).tx.discarding = true)
    (hu : u = (s.atLeast ((s.port i.val).tx.retryAt + 1000)).updPort i.val (fun x => { x with
      tx.cRetrySent := satInc x.tx.cRetrySent, tx.retryAt := (s.atLeast ((s.port i.val).tx.retryAt + 1000)).now })) :
    exec (.retryReqResend i) s = .next (sendLink i.val (.retryReq (u.port i.val).tx.expect.toNat) u) := by
  rw [hu]
  exact if_pos ⟨hs, hd⟩

/-! ## Retrains for the partner's sake -/

theorem noteHeld_withheld (h : (s.port p).holdsBack s.now = true) : ((noteHeld p s).port p).tx.withheldFrom.isSome = true := by
  rw [noteHeld, State.updPort_port_self]
  dsimp only
  rw [h]
  cases hw : (s.port p).tx.withheldFrom with
  | none => rfl
  | some t => simp

theorem startRetrain_withheld (p cause : Nat) (partner : Bool) (s : State) :
    ((startRetrain p cause partner true s).port p).tx.withheldFrom.isSome = true := by
  rw [startRetrain_eq]
  refine noteHeld_withheld ?_
  rw [(settleRung_narrow _).port rfl, State.updPort_port_self]
  simp [Port.holdsBack, Port.retrain]

/-- Settles O26: what is replayed (`Port.resent`), and the retrain of the eighth expiry (`startRetrain_spec`). -/
theorem replayResendsWhatIsNotAcknowledged : Obligations.ReplayResendsWhatIsNotAcknowledged := by
  unfold Obligations.ReplayResendsWhatIsNotAcknowledged
  intro p s hses
  have hactive : (s.port p.val).lnk.link = .active := Port.inSession_active hses
  refine ⟨fun n a hlast ha hlen hn => ?again, fun n a ha hlen hbad hq => ?violates, fun f l hl he => ?timer, fun f l hl he hq => ?eighth,
    fun n hn hd => ?resend⟩
  case again =>
    have hfirst : (s.port p.val).retriedBefore s.now n = false := by
      unfold Port.retriedBefore
      split
      · next m t hm =>
        rw [Bool.and_eq_false_iff]
        exact (hlast m t hm).imp decide_eq_false fun h => decide_eq_false (by omega)
      · rfl
    rw [exec_retryReq p hses ha hlen, hfirst, if_neg (by simpa using hn)]
    have hnote := (s.updPort_within p.val (Port.noteRetry s.now n)).linked
    have hself := s.updPort_port_self p.val (Port.noteRetry s.now n)
    generalize s.updPort p.val (Port.noteRetry s.now n) = u at hnote hself ⊢
    have hall := hnote.trans (replayFrom_linked p.val n u)
    have hport := replayFrom_port p.val n u
    rw [hself, hnote.fr.now rfl] at hport
    generalize s.port p.val = x at hport ⊢
    refine ⟨_, rfl, hall.eq, hall.others, ?_, ?_, ?_, ?_, ?_⟩
    · rw [hport, Port.resent_wire, Port.seqFlit_congr (y := x) rfl, Port.sent_congr (y := x) rfl rfl rfl]
      rfl
    · rw [hport]; rfl
    · rw [hport, Port.resent_replay]; rfl
    · rw [hport]; rfl
    · rw [hport]; rfl
  case violates =>
    have hrefused : ((s.port p.val).retriedBefore s.now n ||
        decide ((s.port p.val).tx.replay.length ≤ (n - (s.port p.val).oldest).toNat)) = true := by
      rw [Bool.or_eq_true]
      obtain h | ⟨t, ht, hlt⟩ := hbad
      · exact .inr (decide_eq_true h)
      · left
        rw [Port.retriedBefore, ht]
        simpa using hlt
    have hnote := s.updPort_within p.val (Port.noteRetry s.now n)
    rw [exec_retryReq p hses ha hlen, if_pos hrefused, violation_of_quiet 7 p.isLt (hnote.fr.quiet hq), withEvent_updPort, State.updPort_updPort]
    refine ⟨_, rfl, ?_, ?_, ?_, ?_, ?_⟩
    · rw [State.updPort_port_self]; rfl
    · rw [State.updPort_port_self]; rfl
    · rw [State.updPort_port_self]; rfl
    · rw [State.updPort_port_self]; rfl
    · change ((s.withEvent (srcProto p.val)).src _).total = _
      rw [State.withEvent_src_self]
  case timer =>
    rw [exec_replayTimeout p hses hl he]
    have hup := (s.atLeast (f.sentAt + 1000)).updPort_within p.val (fun x => x.expired (x.tx.expiries + 1))
    have hself := (s.atLeast (f.sentAt + 1000)).updPort_port_self p.val (fun x => x.expired (x.tx.expiries + 1))
    have hnow : ((s.atLeast (f.sentAt + 1000)).updPort p.val (fun x => x.expired (x.tx.expiries + 1))).now =
      max s.now (f.sentAt + 1000) := rfl
    generalize (s.atLeast (f.sentAt + 1000)).updPort p.val (fun x => x.expired (x.tx.expiries + 1)) = u at hup hself hnow ⊢
    have hlate := s.atLeast_fr (f.sentAt + 1000)
    have hlink := replayFrom_linked p.val (u.port p.val).oldest u
    have hport := replayFrom_port p.val (u.port p.val).oldest u
    have htnow := hlink.fr.now rfl
    have hat : (s.atLeast (f.sentAt + 1000)).port p.val = s.port p.val := rfl
    rw [hat] at hself
    refine ⟨_, rfl, ((hlate.or hup.fr).or hlink.fr).eq_merge, ((hlate.otherPorts p.val).trans hup.others).trans hlink.others, ?_, ?_, ?_, ?_⟩
    · rw [htnow, hnow]; exact Nat.le_max_right ..
    · rw [hport, hself]; rfl
    · rw [hport, Port.resent_wire_all, hself, ← hl]
      exact congrArg (_ ++ ·) ((Port.sent_congr rfl rfl rfl _).trans (congrArg _ (congrArg (List.map · _) (Port.seqFlit_congr rfl))))
    · rw [hport, htnow]
      exact Port.resent_sentAt u.now (u.port p.val)
  case eighth =>
    rw [exec_replayTimeout_last p hses hl he rfl]
    have hup := (s.atLeast (f.sentAt + 1000)).updPort_within p.val (Port.expired 0)
    have hself := (s.atLeast (f.sentAt + 1000)).updPort_port_self p.val (Port.expired 0)
    generalize (s.atLeast (f.sentAt + 1000)).updPort p.val (Port.expired 0) = u at hup hself ⊢
    rw [fault_of_quiet_port (srcStall_port p.isLt) _ (hup.fr.quiet hq)]
    have hport : (u.withEvent (srcStall p.val)).port p.val = (s.port p.val).expired 0 := hself
    generalize u.withEvent (srcStall p.val) = v at hport ⊢
    rw [if_pos (by rw [hport]; exact hactive)]
    obtain ⟨t, ht, -, -, htport, hbooks, -⟩ := startRetrain_spec p.val 6 false true v
    have hheld := startRetrain_withheld p.val 6 false v
    rw [ht] at hheld
    rw [hport] at hbooks
    refine ⟨t, congrArg _ ht, by rw [htport]; rfl, by rw [htport]; rfl, by rw [htport]; rfl, hheld, by rw [hbooks]; rfl, by rw [hbooks]; rfl⟩
  case resend =>
    rw [exec_retryReqResend p hses hd rfl, sendLink_eq, State.updPort_updPort, State.updPort_port_self, hn]
    refine congrArg Outcome.next (State.updPort_congr ?_)
    rw [show (s.atLeast ((s.port p.val).tx.retryAt + 1000)).port p.val = s.port p.val from rfl]
    generalize s.port p.val = x
    rfl

end Sys2Proof.Machine
end

section
/-! SUPPORT. Audits and resynchronisation (R203 to R205). -/

namespace Sys2Proof.Machine

open Host

variable {s t u : State} {p : Nat} {x y : Port}

/-! ## A resynchronisation that starts -/

/-- The books of a port that asks for a resynchronisation. -/
def Port.resyncing (now reason : Nat) (x : Port) : Port :=
  { x with aud.resync := some (reason, 0), aud.auditOpen := [], tx.resyncAt := now }

theorem startResync_eq (p reason : Nat) (s : State) : startResync p reason s =
    noteHeld p (sendLink p (.resyncReq ((s.updPort p (Port.resyncing s.now reason)).port p).tx.expect.toNat reason)
      (s.updPort p (Port.resyncing s.now reason))) := rfl

theorem startResync_spec (p reason : Nat) (s : State) : ∃ t, startResync p reason s = t ∧ Within p s t ∧
    t.port p = { (s.port p).resyncing s.now reason with tx := (t.port p).tx, wire := (t.port p).wire } ∧
    (t.port p).wire = (s.port p).wire ++ (s.port p).sent [(s.port p).linkFlit (.resyncReq (s.port p).tx.expect.toNat reason)] := by
  rw [startResync_eq]
  have hfirst := s.updPort_within p (Port.resyncing s.now reason)
  have hself := s.updPort_port_self p (Port.resyncing s.now reason)
  generalize s.updPort p (Port.resyncing s.now reason) = u at hfirst hself ⊢
  have hsend := sendLink_within p (.resyncReq (u.port p).tx.expect.toNat reason) u
  have hport : (sendLink p (.resyncReq (u.port p).tx.expect.toNat reason) u).port p =
      { (s.port p).resyncing s.now reason with
        wire := (s.port p).wire ++ (s.port p).sent [(s.port p).linkFlit (.resyncReq (s.port p).tx.expect.toNat reason)] } := by
    rw [sendLink_eq, State.updPort_port_self, hself]
    generalize s.port p = x
    rw [Port.sent_congr (y := x) rfl rfl rfl, Port.linkFlit_congr (y := x) rfl]
    rfl
  generalize sendLink p _ u = v at hsend hport ⊢
  obtain ⟨t, ht, hnote, htport, -⟩ := noteHeld_spec p v
  rw [hport] at htport
  refine ⟨t, ht, hfirst.trans (hsend.trans hnote), ?_, by rw [htport]⟩
  rw [htport]

/-! ## Failed audits -/

/-- One more audit failed. -/
def Port.auditFailed (x : Port) : Port := { x with aud.auditFails := satInc x.aud.auditFails }

theorem auditFailed_eq (p cause reason : Nat) (s : State) : auditFailed p cause reason s =
    if ((fault (srcBook p) (portDetail p cause) (s.updPort p Port.auditFailed)).port p).lnk.link = .active
    then startResync p reason (fault (srcBook p) (portDetail p cause) (s.updPort p Port.auditFailed))
    else fault (srcBook p) (portDetail p cause) (s.updPort p Port.auditFailed) := rfl

/-- A failed audit where no source asks for HOLD. -/
theorem auditFailed_of_calm {cause reason : Nat} (hp : p < 16) (hc : s.calm) (hl : (s.port p).lnk.link = .active) :
    ∃ t, auditFailed p cause reason s = t ∧ t.mode = s.mode ∧ t.mem = s.mem ∧ t.now = s.now ∧
      (t.port p).aud = { (s.port p).aud with auditFails := satInc (s.port p).aud.auditFails, resync := some (reason, 0), auditOpen := [] } ∧
      (s.quiet (srcBook p) → otherPorts p s t ∧ (t.src (srcBook p)).total = satInc (s.src (srcBook p)).total ∧
        (t.port p).wire = (s.port p).wire ++ (s.port p).sent [(s.port p).linkFlit (.resyncReq (s.port p).tx.expect.toNat reason)]) := by
  have hup := s.updPort_within p Port.auditFailed
  have hself := s.updPort_port_self p Port.auditFailed
  have hbook := srcBook_port hp
  have hmild : (s.updPort p Port.auditFailed).mild (srcBook p) :=
    (hc.at (srcBook p)).mild (fixedClass_of_port hbook)
  have hglove : noGlove (srcBook p) := noGlove_of_lt hbook.2
  have hfr := fault_fr_of_mild hglove (portDetail p cause) hmild
  have hcores := congrFun (fault_cores hglove (portDetail p cause) hmild) p
  have hquiet : s.quiet (srcBook p) → fault (srcBook p) (portDetail p cause) (s.updPort p Port.auditFailed) =
      (s.updPort p Port.auditFailed).withEvent (srcBook p) := fun hq => fault_of_quiet_port hbook _ (hup.fr.quiet hq)
  rw [auditFailed_eq]
  generalize fault (srcBook p) (portDetail p cause) (s.updPort p Port.auditFailed) = u at hfr hcores hquiet ⊢
  have hlnk : (u.port p).lnk = (s.port p).lnk := (Port.core_lnk hcores).trans (by rw [hself]; rfl)
  have haud : (u.port p).aud = (s.port p).auditFailed.aud := (Port.core_aud hcores).trans (by rw [hself])
  rw [if_pos (by rw [hlnk]; exact hl)]
  obtain ⟨t, ht, hway, hport, hwire⟩ := startResync_spec p reason u
  have hall := (hup.fr.or hfr).or hway.fr
  refine ⟨t, ht, hall.mode rfl, hall.mem rfl, hall.now rfl, ?_, fun hq => ⟨?_, ?_, ?_⟩⟩
  · rw [hport]
    change { (u.port p).aud with resync := some (reason, 0), auditOpen := [] } = _
    rw [haud]
    rfl
  all_goals
    have hu := hquiet hq
    have hport' : u.port p = (s.port p).auditFailed := by rw [hu]; exact hself
  · have hothers : otherPorts p s u := by rw [hu]; exact hup.others
    exact hothers.trans hway.others
  · rw [src_congr (congrArg FltState.sources (hway.fr.flt rfl)), hu, State.withEvent_src_self]
    rfl
  · rw [hwire, hport']
    generalize s.port p = x
    rw [Port.sent_congr (y := x) rfl rfl rfl, Port.linkFlit_congr (y := x) rfl]
    rfl

/-! ## Audit replies and their timer -/

/-- The audit of this reply is closed. -/
def Port.closeAudit (m : AuditMsg) (x : Port) : Port :=
  { x with aud.auditOpen := x.aud.auditOpen.filter (fun a => decide (a.id ≠ m.id)), aud.snap := none }

theorem exec_audit {m : AuditMsg} (i : PortId) (hs : (s.port i.val).inSession = true) (hu : u = takeMsg i.val 0x11 s) :
    exec (.audit i m) s = if (u.port i.val).aud.auditOpen.any (fun a => decide (a.id = m.id)) = true
      then .next (if (u.port i.val).auditMatches m = true then u.updPort i.val (Port.closeAudit m)
        else auditFailed i.val 1 2 (u.updPort i.val (Port.closeAudit m))) else .next u := by
  rw [hu]
  exact if_neg (by rw [hs]; exact Bool.false_ne_true)

theorem exec_auditTimeout {a : AuditOpen} {l : List AuditOpen} (i : PortId) (hs : (s.port i.val).inSession = true)
    (hl : (s.port i.val).aud.auditOpen = a :: l) : exec (.auditTimeout i) s =
      .next (auditFailed i.val 2 3 ((s.atLeast (a.sentAt + 4000)).updPort i.val (fun x => { x with aud.auditOpen := l }))) := by
  change execAuditTimeout i s = _
  unfold execAuditTimeout
  dsimp only
  rw [hl]
  exact if_pos hs

/-! ## RESYNC_ACK -/

/-- The books as RESYNC_ACK sets them: the grants of the partner, the free slots of the receive buffer. -/
def Port.resynced (d g1 g2 b0 b1 b2 : Nat) (x : Port) : Port :=
  let x := x.restartBooks (if d ≤ x.tx.replay.length then d else 0)
  { x with tx := { x.tx with
      held1 := g1, grant1 := g1, held2 := g2, grant2 := g2
      peer0 := b0, peer1 := b1, peer2 := b2, due0 := 0, due1 := 0, due2 := 0, discarding := false, initRcvd := true } }

/-- A port sends an audit. -/
def Port.queueAudit (x : Port) : Port :=
  { x with
    aud.auditId := x.aud.auditId + 1
    outq := x.outq ++ [{ slot := .ctrl (.audit x.aud.auditId.toNat 0 0 0 0 0 0 0 0) }] }

theorem queueAudit_eq (p : Nat) (s : State) : queueAudit p s = s.updPort p Port.queueAudit := rfl

/-- What follows the answer to RESYNC_ACK: the replay of what the partner has not received, and a new audit. -/
def afterResync (p : Nat) (s : State) : State :=
  queueAudit p (if (s.port p).tx.replay = [] then s else replayFrom p (s.port p).oldest s)

theorem exec_resyncAck {n : BitVec 12} (i : PortId) (g0 g1 g2 : BitVec 16) {c : Nat × Nat} (hs : (s.port i.val).inSession = true)
    (hr : (s.port i.val).aud.resync = some c) (hx : s.port i.val = x) : exec (.resyncAck i n g0 g1 g2) s =
      .next (afterResync i.val (noteHeld i.val (sendLink i.val (.resyncDone x.tx.expect.toNat (64 - x.buffered 0) (128 - x.buffered 1) (8 - x.buffered 2))
        (s.updPort i.val (Port.resynced (n - x.oldest).toNat g1.toNat g2.toNat (64 - x.buffered 0) (128 - x.buffered 1) (8 - x.buffered 2)))))) := by
  simp only [Port.inSession, Bool.and_eq_true, decide_eq_true_eq] at hs
  obtain ⟨⟨⟨hlink, hsession⟩, -⟩, -⟩ := hs
  subst hx
  refine (if_pos ⟨hlink, hsession, by rw [hr]; rfl⟩).trans ?_
  unfold afterResync Port.resynced
  with_reducible rfl

theorem afterResync_spec (p : Nat) (s : State) : ∃ t, afterResync p s = t ∧ Linked p s t ∧
    (t.port p).tx = { (s.port p).tx with replay := (t.port p).tx.replay, cReplays := (t.port p).tx.cReplays } ∧
    (t.port p).tx.replay.map (fun f => (f.seq, f.slots)) = (s.port p).tx.replay.map (fun f => (f.seq, f.slots)) ∧
    (t.port p).aud.resync = (s.port p).aud.resync ∧ (∃ i, (t.port p).outq = (s.port p).outq ++ [{ slot := .ctrl (.audit i 0 0 0 0 0 0 0 0) }]) ∧
    ((s.port p).tx.replay = [] → (t.port p).wire = (s.port p).wire) := by
  rw [afterResync, queueAudit_eq]
  split
  · next hnil =>
    have hself := s.updPort_port_self p Port.queueAudit
    have hway := (s.updPort_within p Port.queueAudit).linked
    generalize s.updPort p Port.queueAudit = t at hself hway ⊢
    refine ⟨t, rfl, hway, ?_, ?_, ?_, ⟨(s.port p).aud.auditId.toNat, ?_⟩, fun _ => ?_⟩
    all_goals
      rw [hself]
      rfl
  · next hne =>
    have hrep := replayFrom_linked p (s.port p).oldest s
    have hport := replayFrom_port p (s.port p).oldest s
    generalize replayFrom p (s.port p).oldest s = u at hrep hport ⊢
    have hself := u.updPort_port_self p Port.queueAudit
    have hway := hrep.trans (u.updPort_within p Port.queueAudit).linked
    generalize u.updPort p Port.queueAudit = t at hself hway ⊢
    have hmap := congrArg (List.map fun x : Nat × List Slot × Option (Nat × Nat) => (x.1, x.2.1)) ((s.port p).resent_replay s.now (s.port p).oldest)
    rw [List.map_map, List.map_map] at hmap
    refine ⟨t, rfl, hway, ?_, ?_, ?_, ⟨(u.port p).aud.auditId.toNat, ?_⟩, fun h => absurd h hne⟩
    all_goals rw [hself, hport]
    · rfl
    · exact hmap
    · rfl
    · rfl

/-- The books that RESYNC_ACK sets (R205): allowances afresh, what the partner has not received kept for the replay. -/
theorem Port.resynced_spec (d g1 g2 b0 b1 b2 : Nat) (x : Port) :
    (x.resynced d g1 g2 b0 b1 b2).tx = { x.tx with
      held1 := g1, grant1 := g1, held2 := g2, grant2 := g2, peer0 := b0, peer1 := b1, peer2 := b2, due0 := 0, due1 := 0, due2 := 0
      discarding := false, initRcvd := true, replay := (x.resynced d g1 g2 b0 b1 b2).tx.replay } ∧
    (x.resynced d g1 g2 b0 b1 b2).tx.replay.map (fun f => (f.seq, f.slots)) =
      (x.tx.replay.drop (if d ≤ x.tx.replay.length then d else 0)).map (fun f => (f.seq, f.slots)) ∧
    (x.resynced d g1 g2 b0 b1 b2).aud.resync = none ∧ (x.resynced d g1 g2 b0 b1 b2).outq = x.outq ∧
    (x.resynced d g1 g2 b0 b1 b2).lnk = x.lnk ∧ (x.resynced d g1 g2 b0 b1 b2).wire = x.wire := by
  refine ⟨rfl, ?_, rfl, rfl, rfl, rfl⟩
  rw [Port.resynced]
  dsimp only [Port.restartBooks]
  rw [List.map_map]
  rfl

theorem Port.resynced_replay_nil {d g1 g2 b0 b1 b2 : Nat} (h : x.tx.replay = []) : (x.resynced d g1 g2 b0 b1 b2).tx.replay = [] := by
  have hmap := (x.resynced_spec d g1 g2 b0 b1 b2).2.1
  rw [h, List.drop_nil, List.map_nil, List.map_eq_nil_iff] at hmap
  exact hmap

theorem exec_resyncResend {c n : Nat} (i : PortId) (hs : (s.port i.val).inSession = true) (hr : (s.port i.val).aud.resync = some (c, n)) (hn : n < 16)
    (hu : u = s.atLeast ((s.port i.val).tx.resyncAt + 1000)) : exec (.resyncResend i) s =
      .next (sendLink i.val (.resyncReq (s.port i.val).tx.expect.toNat c) (u.updPort i.val (fun x => { x with
        aud.resync := some (c, n + 1), tx.resyncAt := u.now }))) := by
  change execResyncResend i s = _
  unfold execResyncResend
  dsimp only
  rw [hr, hu]
  exact (if_neg (by rw [Port.inSession_active hs]; exact fun h => h rfl)).trans (if_pos hn)

theorem exec_resyncResend_last {c : Nat} (i : PortId) (hs : (s.port i.val).inSession = true) (hr : (s.port i.val).aud.resync = some (c, 16))
    (hu : u = fault (srcStall i.val) (portDetail i.val 3) (s.atLeast ((s.port i.val).tx.resyncAt + 1000))) : exec (.resyncResend i) s =
      .next (if (u.port i.val).lnk.link = .active then startRetrain i.val 6 false true u else u) := by
  change execResyncResend i s = _
  unfold execResyncResend
  dsimp only
  rw [hr, hu]
  exact (if_neg (by rw [Port.inSession_active hs]; exact fun h => h rfl)).trans (if_neg (Nat.lt_irrefl 16))

theorem Fr.calm {m : Nat} (h : Fr m s t) (hc : s.calm) (hm : m.testBit 10 = false := by rfl) : t.calm := by
  intro n
  rw [src_congr (congrArg FltState.sources (h.flt hm))]
  exact hc n

/-- Settles O29: a failed audit (`auditFailed_of_calm`), the books of RESYNC_ACK (`Port.resynced`), the resends and their end. -/
theorem auditsGuardTheBooks : Obligations.AuditsGuardTheBooks := by
  unfold Obligations.AuditsGuardTheBooks
  intro p s hses
  have hactive := Port.inSession_active hses
  refine ⟨fun m u hu hopen => ⟨fun hm => ?matching, fun hm hc => ?mismatch⟩, fun m hclosed => ?unknown, fun a l u hl hc hu => ?silent,
    fun n g0 g1 g2 c d hr hd => ?ack, fun c n now hr hn hnow => ?resend, fun c hr hq => ?last⟩
  case matching =>
    obtain ⟨rx, d, hport⟩ := takeMsg_port p.val 0x11 s
    rw [← hu] at hport
    have hany : (u.port p.val).aud.auditOpen.any (fun a => decide (a.id = m.id)) = true := by
      rw [hport]
      simpa using hopen
    have hmatch : (u.port p.val).auditMatches m = true := by
      rw [hport]
      exact hm
    rw [exec_audit p hses hu, if_pos hany, if_pos hmatch]
    rfl
  case mismatch =>
    obtain ⟨rx, d, hport⟩ := takeMsg_port p.val 0x11 s
    have htake : Within p.val s u := hu ▸ takeMsg_within ..
    rw [← hu] at hport
    have hany : (u.port p.val).aud.auditOpen.any (fun a => decide (a.id = m.id)) = true := by
      rw [hport]
      simpa using hopen
    have hmatch : ¬ (u.port p.val).auditMatches m = true := by
      rw [hport]
      exact fun h => Bool.false_ne_true (hm.symm.trans h)
    rw [exec_audit p hses hu, if_pos hany, if_neg hmatch]
    have hway := htake.trans (u.updPort_within p.val (Port.closeAudit m))
    have hself := u.updPort_port_self p.val (Port.closeAudit m)
    rw [hport] at hself
    generalize u.updPort p.val (Port.closeAudit m) = v at hway hself ⊢
    obtain ⟨t, ht, htmode, htmem, -, haud, hquiet⟩ := auditFailed_of_calm (cause := 1) (reason := 2) p.isLt (hway.fr.calm hc)
      (by rw [hself]; exact hactive)
    refine ⟨t, congrArg _ ht, htmode.trans (hway.fr.mode rfl), ?_, ?_, ?_, fun hq => ?_, htmem.trans (hway.fr.mem rfl)⟩
    · rw [haud]
    · rw [haud]
    · rw [haud, hself]; rfl
    · rw [(hquiet (hway.fr.quiet hq)).2.1, src_congr (congrArg FltState.sources (hway.fr.flt rfl))]
  case unknown =>
    obtain ⟨rx, d, hport⟩ := takeMsg_port p.val 0x11 s
    refine (exec_audit p hses rfl).trans (if_neg ?_)
    rw [hport]
    simpa using hclosed
  case silent =>
    rw [exec_auditTimeout p hses hl]
    have hup := (s.atLeast (a.sentAt + 4000)).updPort_within p.val (fun x => { x with aud.auditOpen := l })
    have hself := (s.atLeast (a.sentAt + 4000)).updPort_port_self p.val (fun x => { x with aud.auditOpen := l })
    rw [show s.atLeast (a.sentAt + 4000) = u from hu.symm] at hup hself ⊢
    have hus : u.port p.val = s.port p.val := by rw [hu]; rfl
    have hlate : Fr 2 s u := hu ▸ s.atLeast_fr _
    have hway := hlate.or hup.fr
    rw [hus] at hself
    generalize u.updPort p.val _ = v at hup hself hway ⊢
    obtain ⟨t, ht, htmode, htmem, htnow, haud, hquiet⟩ := auditFailed_of_calm (cause := 2) (reason := 3) p.isLt (hway.calm hc)
      (by rw [hself]; exact hactive)
    refine ⟨t, congrArg _ ht, htnow.trans (hup.fr.now rfl), htmode.trans (hway.mode rfl), ?_, ?_, ?_, htmem.trans (hway.mem rfl), fun hq => ?_⟩
    · rw [haud]
    · rw [haud, hself]
    · rw [haud]
    · obtain ⟨hothers, hsrc, hwire⟩ := hquiet (hup.fr.quiet hq)
      refine ⟨((hlate.otherPorts p.val).trans hup.others).trans hothers, ?_, ?_⟩
      · rw [hsrc, src_congr (congrArg FltState.sources (hway.flt rfl))]
      · rw [hwire, hself]
        generalize s.port p.val = x
        rw [Port.sent_congr (y := x) rfl rfl rfl, Port.linkFlit_congr (y := x) rfl]
        rfl
  case ack =>
    rw [exec_resyncAck p g0 g1 g2 hses hr rfl, ← hd]
    generalize hx : s.port p.val = x at *
    obtain ⟨htx, hreplay, hresync, houtq, hlnk, hwire⟩ := x.resynced_spec d g1.toNat g2.toNat (64 - x.buffered 0) (128 - x.buffered 1) (8 - x.buffered 2)
    have hnil := fun h => x.resynced_replay_nil (d := d) (g1 := g1.toNat) (g2 := g2.toNat) (b0 := 64 - x.buffered 0)
      (b1 := 128 - x.buffered 1) (b2 := 8 - x.buffered 2) h
    have hfirst := s.updPort_within p.val (Port.resynced d g1.toNat g2.toNat (64 - x.buffered 0) (128 - x.buffered 1) (8 - x.buffered 2))
    have hself := s.updPort_port_self p.val (Port.resynced d g1.toNat g2.toNat (64 - x.buffered 0) (128 - x.buffered 1) (8 - x.buffered 2))
    rw [hx] at hself
    generalize s.updPort p.val _ = a at hfirst hself ⊢
    generalize x.resynced d g1.toNat g2.toNat _ _ _ = y at htx hreplay hresync houtq hlnk hwire hnil hself
    have hsend := sendLink_within p.val (.resyncDone x.tx.expect.toNat (64 - x.buffered 0) (128 - x.buffered 1) (8 - x.buffered 2)) a
    have hsent : (sendLink p.val (.resyncDone x.tx.expect.toNat (64 - x.buffered 0) (128 - x.buffered 1) (8 - x.buffered 2)) a).port p.val =
        { y with wire := x.wire ++ x.sent [x.linkFlit (.resyncDone x.tx.expect.toNat (64 - x.buffered 0) (128 - x.buffered 1) (8 - x.buffered 2))] } := by
      rw [sendLink_eq, State.updPort_port_self, hself, hwire, Port.sent_congr (y := x) hlnk (by rw [htx]) (by rw [htx]),
        Port.linkFlit_congr (y := x) (by rw [htx])]
    generalize sendLink p.val _ a = b at hsend hsent ⊢
    obtain ⟨c, hc, hnote, hcport, hbooks⟩ := noteHeld_spec p.val b
    rw [hsent] at hcport hbooks
    rw [hc]
    obtain ⟨t, ht, hafter, httx, htreplay, htresync, htoutq, htwire⟩ := afterResync_spec p.val c
    have hall := (hfirst.trans (hsend.trans hnote)).linked.trans hafter
    have hctx : (c.port p.val).tx.replay = y.tx.replay := by rw [hbooks]
    refine ⟨t, congrArg _ ht, hall.eq, hall.others, ?_, ?_, ?_, ?_, ?_, ?_, ?_, ?_, ?_, ?_, fun hempty => ?_, ?_⟩
    iterate 7 (· rw [httx, hbooks, htx])
    · rw [htresync, hcport]; exact hresync
    · rw [httx, hbooks, htx]
    · rw [htreplay, hctx, hreplay]
    · rw [htwire (hctx.trans (hnil hempty)), hcport]
    · obtain ⟨i, hi⟩ := htoutq
      exact ⟨i, by rw [hi, hcport]; exact congrArg (· ++ _) houtq⟩
  case resend =>
    rw [exec_resyncResend p hses hr hn rfl, sendLink_eq, State.updPort_updPort, hnow]
    refine congrArg Outcome.next (State.updPort_congr ?_)
    rw [show (s.atLeast ((s.port p.val).tx.resyncAt + 1000)).port p.val = s.port p.val from rfl]
    generalize s.port p.val = x
    rfl
  case last =>
    have hq' : State.quiet (srcStall p.val) (s.atLeast ((s.port p.val).tx.resyncAt + 1000)) := hq
    rw [exec_resyncResend_last p hses hr rfl, fault_of_quiet_port (srcStall_port p.isLt) _ hq']
    have hport : ((s.atLeast ((s.port p.val).tx.resyncAt + 1000)).withEvent (srcStall p.val)).port p.val = s.port p.val := rfl
    generalize (s.atLeast ((s.port p.val).tx.resyncAt + 1000)).withEvent (srcStall p.val) = v at hport ⊢
    rw [if_pos (by rw [hport]; exact hactive)]
    obtain ⟨t, ht, -, -, htport, -⟩ := startRetrain_spec p.val 6 false true v
    exact ⟨t, congrArg _ ht, by rw [htport]; rfl, by rw [htport]; rfl, by rw [htport]; rfl⟩

end Sys2Proof.Machine
end

section
/-! SUPPORT. The gauntlet (R239 to R254): what a decision leaves of a request and of its port. -/

namespace Sys2Proof.Machine

open Host

variable {s t u : State} {p : Nat} {x y : Port} {r : Req}

/-! ## Decisions -/

theorem searchAs_near {w : Want} {n v : Nat} (h : s.searchAs w n = some v) : s.now ≤ v ∧ v < s.now + n := by
  obtain ⟨d, hd, hv⟩ := List.exists_of_findSome?_eq_some h
  rw [List.mem_range] at hd
  split at hv
  · injection hv with hv
    omega
  · exact absurd hv (by simp)

theorem clsOf_eq_g {c : BitVec 2} (h : clsOf c = .g) : c = 1 := by
  unfold clsOf at h
  split at h
  · assumption
  · split at h <;> cases h

/-- The branch taken is the one whose value is given. -/
theorem of_ite_eq {α : Type} {c : Prop} [Decidable c] {a b v : α} (h : (if c then a else b) = v) (hne : a ≠ v) : ¬ c ∧ b = v := by
  split at h
  · exact absurd h hne
  · next hc => exact ⟨hc, h⟩

/-- The conditions of R242 to R250 under which a request that starts at `t` is accepted in class G. -/
structure GrantedG (j : Nat) (r : Req) (s : State) (t bound : Nat) : Prop where
  service : s.mode = .service
  up : s.bist.shutDown = false
  contract : ((s.port j).contract r.label).cls = 1
  bound_eq : bound = s.now + (s.port j).allowance + r.exit
  from_now : s.now ≤ t
  soon : t ≤ s.now + 66
  budget : r.charge ≤ s.left j r.label ∨ ((s.port j).spentOf r.label = 0 ∧ s.effBudget j r.label < r.charge)
  shares : ∀ g ∈ (s.segsOf r).head?, r.charge ≤ s.pcLeft j g.1.q ∧ 0 < s.bankLeft j g.1

/-- What the gauntlet accepts in class G meets its conditions, each in its turn. -/
theorem decide250_g {j : Nat} {shed : Bool} {starts : List (Option Nat)} {bound n : Nat} (h : decide250 j r s = .latch .g shed starts bound n) :
    ∃ t, starts = [some t] ∧ GrantedG j r s t bound := by
  unfold decide250 at h
  extract_lets x c segs g shed' cls bound' eff lone hz at h
  obtain ⟨-, h⟩ := of_ite_eq h Verdict.noConfusion
  obtain ⟨-, h⟩ := of_ite_eq h Verdict.noConfusion
  obtain ⟨hmode, h⟩ := of_ite_eq h Verdict.noConfusion
  obtain ⟨-, h⟩ := of_ite_eq h Verdict.noConfusion
  obtain ⟨hleft, h⟩ := of_ite_eq h Verdict.noConfusion
  by_cases hcls : cls = .g
  · rw [if_pos hcls] at h
    cases ht : s.search (s.segWant r cls hz g) 67 with
    | none =>
      rw [ht] at h
      cases h
    | some t =>
      rw [ht] at h
      obtain ⟨-, h⟩ := of_ite_eq h Verdict.noConfusion
      obtain ⟨hpc, h⟩ := of_ite_eq h Verdict.noConfusion
      obtain ⟨hbank, h⟩ := of_ite_eq h Verdict.noConfusion
      obtain ⟨-, h⟩ := of_ite_eq h Verdict.noConfusion
      injection h with _ _ hstarts hbound _
      obtain ⟨hfrom, hsoon⟩ := searchAs_near (w := s.segWant r cls hz g) (by simpa only [State.search, State.segWant, if_true] using ht)
      have hgcls : clsOf c.cls = .g := by
        by_cases hb : r.op = .fill ∨ shed' = true
        · exact absurd (show cls = .b from if_pos hb) (by rw [hcls]; exact Cls.noConfusion)
        · exact (if_neg hb).symm.trans hcls
      refine ⟨t, hstarts.symm, ?_, ?_, clsOf_eq_g hgcls, ?_, hfrom, by omega, ?_, ?_⟩
      · simp only [not_or, not_not] at hmode
        exact hmode.1
      · simp only [not_or, not_not, Bool.not_eq_true] at hmode
        exact hmode.2
      · rw [← hbound, show bound' = s.boundOf j r cls from rfl, hcls]
        rfl
      · obtain hle | hlt := (le_or_gt r.charge (s.left j r.label) :)
        · exact .inl hle
        · have hlone : lone = true := by
            by_contra hn
            exact hleft ⟨hlt, by simpa using hn⟩
          simp only [lone, Bool.and_eq_true, decide_eq_true_eq] at hlone
          exact .inr ⟨hlone.1.2, hlone.1.1.1⟩
      · intro g' hg'
        have hg : g = g'.1 := by
          change (segs.head?.getD _).1 = _
          rw [show segs.head? = some g' from hg']
          rfl
        rw [← hg]
        exact ⟨Nat.le_of_not_lt hpc, Nat.pos_of_ne_zero hbank⟩
  · rw [if_neg hcls] at h
    have hother {starts' : List (Option Nat)} (h : Verdict.latch cls shed' starts' bound' hz = .latch .g shed starts bound n) : False := by
      injection h with hg
      exact hcls hg
    split at h
    · cases hd : deadlineStarts j r cls hz segs s with
      | none =>
        rw [hd] at h
        cases h
      | some l =>
        rw [hd] at h
        exact (hother (of_ite_eq h Verdict.noConfusion).2).elim
    · obtain ⟨-, h⟩ := of_ite_eq h Verdict.noConfusion
      exact (hother (of_ite_eq h Verdict.noConfusion).2).elim

/-- Settles O36: the conditions are those of `GrantedG`. -/
theorem guaranteedGrantsMeetEveryCondition : Obligations.GuaranteedGrantsMeetEveryCondition := by
  unfold Obligations.GuaranteedGrantsMeetEveryCondition
  intro p r s shed starts bound n h
  obtain ⟨t, hstarts, hg⟩ := decide250_g h
  exact ⟨hg.service, hg.up, hg.contract, hg.bound_eq, ⟨t, hstarts, hg.from_now, hg.soon⟩, hg.budget, hg.shares⟩

end Sys2Proof.Machine
end

section
/-! SUPPORT. What an examination leaves of the request examined and of its port (R239, R241, R250, R254). -/

namespace Sys2Proof.Machine

open Host

variable {s t u : State} {p : Nat} {x y : Port} {r : Req}

/-! ## The latch -/

/-- The request once it is latched. -/
def Req.latched (now : Nat) (cls : Cls) (bound base serial todo : Nat) (r : Req) : Req :=
  { r with phase := .latched, cls := cls, latchedAt := now, bound := bound, base := base, serial := serial, todo := todo }

/-- An answered request. -/
def Req.answered (r : Req) : Req := { r with phase := .answered }

theorem reqs_foldl {α : Type} {f : Port → α → Port} (h : ∀ x a, (f x a).reqs = x.reqs) (l : List α) (x : Port) : (l.foldl f x).reqs = x.reqs :=
  l.foldlRecOn f (motive := fun y => y.reqs = x.reqs) rfl (fun y hy a _ => (h y a).trans hy)

/-- The port with the charge of a latch in its books (R239, R241, R244). -/
def Port.charge (r : Req) (cls : Cls) (shed : Bool) (segs : List (Seg × Nat)) (x : Port) : Port :=
  let x := { x with gnt.spent := tabSet 0 x.gnt.spent r.label (x.spentOf r.label + r.charge) }
  let x := if cls = .g then
      segs.foldl (fun x h => { x with
        gnt.pcUsed := tabSet 0 x.gnt.pcUsed h.1.q (tabGet 0 x.gnt.pcUsed h.1.q + r.charge)
        gnt.bankUsed :=
          let k := shareKey h.1.q h.1.rank h.1.bank
          tabSet 0 x.gnt.bankUsed k (tabGet 0 x.gnt.bankUsed k + 1) }) x
    else x
  if shed then { x with gnt.holdShed := satInc x.gnt.holdShed } else x

/-- The port with its request latched, a write answered with it. -/
def Port.latch (now : Nat) (r : Req) (cls : Cls) (bound serial lost : Nat) (x : Port) : Port :=
  let x := x.updReq r.tag (fun e => e.latched now cls bound (x.heldBy now) serial (if r.op.writes then lost else r.blocks))
  if r.op.writes ∧ lost = 0 then
    { x.updReq r.tag (fun e => e.answered) with
      outq := x.outq ++ [{ completion r .ok with bound := some bound, base := x.heldBy now }] }
  else x

theorem Port.charge_reqs (r : Req) (cls : Cls) (shed : Bool) (segs : List (Seg × Nat)) (x : Port) : (x.charge r cls shed segs).reqs = x.reqs := by
  unfold Port.charge
  simp [apply_ite Port.reqs, reqs_foldl]

theorem Port.latch_reqs (now : Nat) (r : Req) (cls : Cls) (bound serial lost : Nat) (x : Port) :
    ∃ f : Req → Req, (x.latch now r cls bound serial lost).reqs = x.reqs.map (fun e => if e.tag = r.tag then f e else e) ∧
      ∃ base todo, f = Req.latched now cls bound base serial todo ∨ f = fun e => (e.latched now cls bound base serial todo).answered := by
  unfold Port.latch
  dsimp only
  split
  · refine ⟨fun e => (e.latched now cls bound (x.heldBy now) serial (if r.op.writes then lost else r.blocks)).answered, ?_, _, _, .inr rfl⟩
    change List.map _ (List.map _ x.reqs) = _
    rw [List.map_map]
    refine List.map_congr_left fun e _ => ?_
    by_cases h : e.tag = r.tag
    · simp [h, Req.latched]
    · simp [h]
  · exact ⟨_, rfl, _, _, .inl rfl⟩

/-- The latch grants the segments, charges the label and latches the request. -/
theorem latchReq_port (j : Nat) (r : Req) (cls : Cls) (shed : Bool) (starts : List (Option Nat)) (bound n : Nat) (s : State) :
    (latchReq j r cls shed starts bound n s).port j = ((s.port j).charge r cls shed (s.segsOf r)).latch s.now r cls bound (s.gnt.serial + 1)
      ((s.segsOf r).filter (fun h => s.lostAt h.1)).length := by
  unfold latchReq
  extract_lets serial segs lost gnt touched granted done charged counted
  have hcount : Fr 134217728 charged
      (if cls = .g then forL segs (fun h s => pmcCount (16 + h.1.q / 2) 0x4B 1 s) counted else counted) :=
    Fr.iteT (Fr.forL (fun _ _ => pmcCount_fr ..) _ (Fr.refl ..)) (pmcCount_fr ..)
  have hsegs : Fr 16777216 touched granted := Fr.forL (fun _ _ => latchSeg_fr ..) _ (Fr.refl ..)
  have hport : granted.port j = s.port j := hsegs.port (by decide) j
  have hnow : granted.now = s.now := hsegs.now rfl
  rw [hcount.port (by decide), State.updPort_port_self, hport, hnow]
  unfold Port.latch Port.charge Req.latched Req.answered
  with_reducible rfl

theorem latchReq_others (j : Nat) (r : Req) (cls : Cls) (shed : Bool) (starts : List (Option Nat)) (bound n : Nat) (s : State) :
    otherPorts j s (latchReq j r cls shed starts bound n s) ∧ (latchReq j r cls shed starts bound n s).gnt.serial = s.gnt.serial + 1 := by
  unfold latchReq
  extract_lets serial segs lost gnt touched granted done charged counted
  have hcount : Fr 134217728 charged
      (if cls = .g then forL segs (fun h s => pmcCount (16 + h.1.q / 2) 0x4B 1 s) counted else counted) :=
    Fr.iteT (Fr.forL (fun _ _ => pmcCount_fr ..) _ (Fr.refl ..)) (pmcCount_fr ..)
  have hsegs : Fr 16777216 touched granted := Fr.forL (fun _ _ => latchSeg_fr ..) _ (Fr.refl ..)
  have hcharged : Fr 4194304 granted charged := State.updPort_fr ..
  have htouch : otherPorts j s touched := fun i hi => rfl
  refine ⟨(htouch.trans (hsegs.otherPorts j)).trans (otherPorts.trans (updPort_otherPorts _ _ _) (hcount.otherPorts j)), ?_⟩
  rw [hcount.gnt (by decide), hcharged.gnt rfl, hsegs.gnt rfl]
  rfl

theorem latchReq_reqs (j : Nat) (r : Req) (cls : Cls) (shed : Bool) (starts : List (Option Nat)) (bound n : Nat) (s : State) :
    ∃ f : Req → Req, ((latchReq j r cls shed starts bound n s).port j).reqs = (s.port j).reqs.map (fun e => if e.tag = r.tag then f e else e) ∧
      ∃ base todo, f = (fun e => e.latched s.now cls bound base (s.gnt.serial + 1) todo) ∨
        f = fun e => (e.latched s.now cls bound base (s.gnt.serial + 1) todo).answered := by
  rw [latchReq_port]
  have h := ((s.port j).charge r cls shed (s.segsOf r)).latch_reqs s.now r cls bound (s.gnt.serial + 1)
    ((s.segsOf r).filter (fun h => s.lostAt h.1)).length
  rwa [Port.charge_reqs] at h

/-! ## A request held (R250, R265) -/

/-- The port with a hold of its request noted: once per request, by its cause. -/
def Port.noteHold (tag : Nat) (why : Hold) (x : Port) : Port :=
  let x := x.updReq tag (fun r => { r with heldOnce := true })
  match why with
  | .mode => x
  | .budget => { x with gnt.holdBudget := satInc x.gnt.holdBudget }
  | .order => { x with gnt.holdOrder := satInc x.gnt.holdOrder }
  | _ => { x with gnt.holdCal := satInc x.gnt.holdCal }

theorem Port.noteHold_eq (tag : Nat) (why : Hold) (x : Port) : ∃ b o c, x.noteHold tag why = { x with
    reqs := x.reqs.map (fun r => if r.tag = tag then { r with heldOnce := true } else r)
    gnt := { x.gnt with holdBudget := b, holdOrder := o, holdCal := c } } := by
  cases why
  · exact ⟨_, _, _, rfl⟩
  · exact ⟨_, _, _, rfl⟩
  · exact ⟨_, _, _, rfl⟩
  · exact ⟨_, _, _, rfl⟩
  · exact ⟨_, _, _, rfl⟩
  · exact ⟨_, _, _, rfl⟩

theorem holdReq_of_again (tag : Nat) (why : Hold) (h : ((s.port p).reqs.find? (fun r => decide (r.tag = tag))).any (·.heldOnce) = true) :
    holdReq p tag why s = s := if_pos h

theorem holdReq_of_first (tag : Nat) (why : Hold) (h : ((s.port p).reqs.find? (fun r => decide (r.tag = tag))).any (·.heldOnce) = false) :
    ∃ t, holdReq p tag why s = t ∧ Linked p s t ∧ t.port p = (s.port p).noteHold tag why := by
  have hup := (s.updPort_within p (Port.noteHold tag why)).linked
  have hself := s.updPort_port_self p (Port.noteHold tag why)
  have hcount (i code n : Nat) {t : State} (h : Linked p s t ∧ t.port p = (s.port p).noteHold tag why) :
      Linked p s (pmcCount i code n t) ∧ (pmcCount i code n t).port p = (s.port p).noteHold tag why :=
    ⟨h.1.trans (pmcCount_linked ..), (pmcCount_port ..).trans h.2⟩
  refine ⟨_, rfl, ?_⟩
  rw [holdReq, if_neg (by rw [h]; exact Bool.false_ne_true)]
  cases why
  · exact hcount _ _ _ ⟨hup, hself⟩
  all_goals exact hcount _ _ _ (hcount _ _ _ ⟨hup, hself⟩)

/-! ## The four ways an examination ends (R250) -/

/-- The request that `examine` finds. -/
def Port.examines (x : Port) (tag : Nat) (r : Req) : Prop :=
  x.reqs.find? (fun r => decide (r.tag = tag) && decide (r.phase = .waiting)) = some r

theorem Port.examines.tag {tag : Nat} (h : x.examines tag r) : r.tag = tag ∧ r.phase = .waiting := by
  have := List.find?_some h
  simpa using this

theorem examine_of_latch {tag : Nat} (h : (s.port p).examines tag r) {cls : Cls} {shed : Bool} {starts : List (Option Nat)} {bound n : Nat}
    (hd : decide250 p r s = .latch cls shed starts bound n) : examine p tag s = (latchReq p r cls shed starts bound n s, true) := by
  rw [Port.examines] at h
  simp only [examine, h, hd]

/-- The port of a request that is answered without effect, with the count of its cause. -/
def Port.refused (r : Req) (c o : BitVec 16) (x : Port) : Port := Port.answer { x with gnt := { x.gnt with noContract := c, oversize := o } } r .unsupported

theorem examine_of_refuse {tag : Nat} (h : (s.port p).examines tag r) (hd : decide250 p r s = .noContract ∨ decide250 p r s = .oversize) :
    ∃ t c o, examine p tag s = (t, true) ∧ Within p s t ∧ t.port p = (s.port p).refused r c o := by
  rw [Port.examines] at h
  obtain hd | hd := hd
  · refine ⟨_, satInc (s.port p).gnt.noContract, (s.port p).gnt.oversize, by simp only [examine, h, hd]; rfl,
      (State.updPort_within ..).trans (State.updPort_within ..), ?_⟩
    rw [State.updPort_port_self, State.updPort_port_self]
    rfl
  · refine ⟨_, (s.port p).gnt.noContract, satInc (s.port p).gnt.oversize, by simp only [examine, h, hd]; rfl,
      (State.updPort_within ..).trans (State.updPort_within ..), ?_⟩
    rw [State.updPort_port_self, State.updPort_port_self]
    rfl

/-- A request looked at and held. -/
def Req.looksHeld (k : Nat × Nat) (once : Bool) (r : Req) : Req := { r with looked := some k, heldOnce := once || r.heldOnce }

/-- The port of a request that stays held: what it has spent stays as it was. -/
structure Port.Holds (tag : Nat) (k : Nat × Nat) (once : Bool) (x y : Port) : Prop where
  reqs : y.reqs = x.reqs.map (fun r => if r.tag = tag then r.looksHeld k once else r)
  rest : ∃ b o c, y = { x with reqs := y.reqs, gnt := { x.gnt with holdBudget := b, holdOrder := o, holdCal := c } }
  again : once = false → (x.reqs.find? (fun r => decide (r.tag = tag))).any (·.heldOnce) = true

theorem examine_of_hold {tag : Nat} {why : Hold} (h : (s.port p).examines tag r) (hd : decide250 p r s = .hold why) :
    ∃ t once, examine p tag s = (t, false) ∧ Linked p s t ∧ (s.port p).Holds tag (s.gnt.changes, s.now) once (t.port p) := by
  rw [Port.examines] at h
  generalize hu : s.updPort p (fun x => x.updReq tag (fun r => { r with looked := some (s.gnt.changes, s.now) })) = u
  have hexam : examine p tag s = (holdReq p tag why u, false) := by
    simp only [examine, h, hd]
    rw [← hu]
  have hself : u.port p = (s.port p).updReq tag (fun r => { r with looked := some (s.gnt.changes, s.now) }) := by
    rw [← hu, State.updPort_port_self]
  have hway : Within p s u := hu ▸ State.updPort_within ..
  have hfind : ((u.port p).reqs.find? (fun r => decide (r.tag = tag))).any (·.heldOnce) =
      ((s.port p).reqs.find? (fun r => decide (r.tag = tag))).any (·.heldOnce) := by
    rw [hself, Port.updReq]
    generalize (s.port p).reqs = l
    induction l with
    | nil => rfl
    | cons e l ih =>
      by_cases h : e.tag = tag
      · simp [h]
      · simpa [h] using ih
  cases hagain : ((u.port p).reqs.find? (fun r => decide (r.tag = tag))).any (·.heldOnce) with
  | true =>
    refine ⟨u, false, by rw [hexam, holdReq_of_again tag why hagain], hway.linked, ?_, ⟨(s.port p).gnt.holdBudget, (s.port p).gnt.holdOrder, (s.port p).gnt.holdCal, ?_⟩, fun _ => hfind ▸ hagain⟩
    · rw [hself]
      rfl
    · rw [hself]
      rfl
  | false =>
    obtain ⟨t, ht, hlink, hport⟩ := holdReq_of_first tag why hagain
    obtain ⟨b, o, c, hnote⟩ := (u.port p).noteHold_eq tag why
    refine ⟨t, true, by rw [hexam, ht], hway.linked.trans hlink, ?_, ⟨b, o, c, ?_⟩, fun h => absurd h (by decide)⟩
    · rw [hport, hnote, hself]
      change List.map _ (List.map _ _) = _
      rw [List.map_map]
      refine List.map_congr_left fun e _ => ?_
      by_cases h : e.tag = tag
      · simp [h, Req.looksHeld]
      · simp [h]
    · rw [hport, hnote, hself]
      rfl

/-! ## The only request of a port (R239, R241) -/

theorem State.withDecided_way (p : Nat) (d : Nat × Nat) (s : State) : Within p s (s.withDecided p d) ∧
    (s.withDecided p d).port p = (s.port p).withDecided d :=
  ⟨State.updPort_within .., State.updPort_port_self ..⟩

/-- No candidate, or no decision left: the count of decisions alone is written. -/
theorem reexamine_of_idle (h : (∀ r ∈ (s.port p).reqs, r.candidate s.gnt.changes s.now = false) ∨ s.decisionsLeft p = 0) :
    ∃ d, reexamine p s = s.withDecided p d := by
  have hnone : ((((s.port p).reqs.filter (fun r => r.candidate s.gnt.changes s.now)).insertionSort (fun a b => a.arrival ≤ b.arrival)).take
      (s.decisionsLeft p)).map (·.tag) = [] := by
    obtain h | h := h
    · rw [List.filter_eq_nil_iff.mpr fun r hr => by simp [h r hr]]
      simp
    · rw [h, List.take_zero, List.map_nil]
  refine ⟨(s.now, 4 - s.decisionsLeft p + 0), ?_⟩
  unfold reexamine
  dsimp only
  rw [hnone]
  rfl

theorem Port.examines_single (hr : x.reqs = [r]) (hw : r.phase = .waiting) : x.examines r.tag r := by
  simp [Port.examines, hr, hw]

/-- Settles O34: a latch charges its label (`latchReq_spentOf`); a request that stays held or is refused charges nothing. -/
theorem chargesFallDueAtTheLatch : Obligations.ChargesFallDueAtTheLatch := by
  unfold Obligations.ChargesFallDueAtTheLatch
  intro p r s hreqs
  refine ⟨fun hidle => ?idle, fun hcand hleft => ?_⟩
  case idle =>
    obtain ⟨d, hd⟩ := reexamine_of_idle (s := s) (p := p.val) (hidle.imp_left fun h e he => by
      rw [hreqs, List.mem_singleton] at he
      exact he ▸ h)
    obtain ⟨hway, hself⟩ := s.withDecided_way p.val d
    exact ⟨_, congrArg Outcome.next hd, hway.eq, hway.others, by rw [hself]; exact hreqs, by rw [hself]; rfl⟩
  have hexec : exec (.gauntletReexamine p) s = .next (examine p.val r.tag (s.withDecided p.val (s.now, 4 - s.decisionsLeft p.val + 1))).1 :=
    congrArg Outcome.next (reexamine_single hreqs hcand hleft)
  obtain ⟨hway, hself⟩ := s.withDecided_way p.val (s.now, 4 - s.decisionsLeft p.val + 1)
  have hdecide := decide250_withDecided (s := s) (p := p.val) (d := (s.now, 4 - s.decisionsLeft p.val + 1)) p.val r
  rw [hexec]
  generalize s.withDecided p.val (s.now, 4 - s.decisionsLeft p.val + 1) = u at hway hself hdecide ⊢
  have hureqs : (u.port p.val).reqs = [r] := by rw [hself]; exact hreqs
  have hexam := Port.examines_single hureqs (Req.waiting_of_candidate hcand)
  have hspent (l : Nat) : (u.port p.val).spentOf l = (s.port p.val).spentOf l := by rw [hself]; rfl
  have hgnt : u.gnt = s.gnt := hway.fr.gnt rfl
  refine ⟨fun cls shed start bound n hd => ?latch, fun why hd => ?hold, fun hd => ?refuse⟩
  case latch =>
    rw [examine_of_latch hexam (hdecide.trans hd)]
    have hfr := latchReq_fr p.val r cls shed start bound n u
    obtain ⟨hothers, hserial⟩ := latchReq_others p.val r cls shed start bound n u
    have hlabel := latchReq_spentOf p.val r cls shed start bound n u
    obtain ⟨f, hf, base, todo, hkind⟩ := latchReq_reqs p.val r cls shed start bound n u
    generalize latchReq p.val r cls shed start bound n u = t at hfr hothers hserial hlabel hf ⊢
    rw [hureqs, List.map_singleton, if_pos rfl] at hf
    refine ⟨t, f r, rfl, hf, ?_, ?_, ?_, ?_, hserial.trans (by rw [hgnt]), hway.others.trans hothers, (hway.fr.or hfr).mem rfl,
      (hway.fr.or hfr).flt rfl, ?_, fun l hl => ?_⟩
    · obtain rfl | rfl := hkind <;> rfl
    · rw [← hgnt]
      obtain rfl | rfl := hkind <;> rfl
    · obtain rfl | rfl := hkind <;> rfl
    · obtain rfl | rfl := hkind <;> rfl
    · rw [hlabel, if_pos rfl, hspent]
    · rw [hlabel, if_neg hl, hspent]
  case hold =>
    obtain ⟨t, once, ht, hlink, hholds⟩ := examine_of_hold hexam (hdecide.trans hd)
    have hall := hway.linked.trans hlink
    obtain ⟨b, o, c, hrest⟩ := hholds.rest
    refine ⟨t, by rw [ht], hall.eq, hall.others, ?_, ?_⟩
    · have hheld : (once || r.heldOnce) = true := by
        cases once with
        | true => rfl
        | false => simpa [hureqs] using hholds.again rfl
      rw [hholds.reqs, hureqs, hgnt, hway.fr.now rfl, List.map_singleton, if_pos rfl, Req.looksHeld, hheld]
    · rw [hrest, hself]
      rfl
  case refuse =>
    obtain ⟨t, c, o, ht, hlink, hport⟩ := examine_of_refuse hexam (by rw [hdecide]; exact hd)
    have hall := hway.trans hlink
    refine ⟨t, by rw [ht], hall.eq, hall.others, ?_, ?_, ?_⟩
    all_goals rw [hport, hself]
    · simp [Port.refused, Port.answer, Port.updReq, Port.withDecided, hreqs]
    · rfl
    · rfl

theorem exec_deadlineExpiry {g : BitVec 10} (i : PortId) (hr : (s.port i.val).reqs = [r]) (ht : r.tag = g.toNat) (hw : r.phase = .waiting)
    (hd : r.deadline ≠ 0) {t : State} (hexam : examine i.val r.tag (s.atLeast (r.arrival + 4 * r.deadline)) = (t, false)) :
    exec (.deadlineExpiry i g) s = .next (pmcCount i.val 0x0D 1 ((t.atLeast (r.arrival + 4 * r.deadline + 1)).updPort i.val (fun x =>
      { x.answer r .deadlineExpired with gnt := { x.gnt with expired := satInc x.gnt.expired } }))) := by
  have hfind : (s.port i.val).reqs.find? (fun r => decide (r.tag = g.toNat) && decide (r.phase = .waiting) && decide (r.deadline ≠ 0)) = some r := by
    simp [hr, ht, hw, hd]
  change execDeadlineExpiry i g s = _
  unfold execDeadlineExpiry
  rw [hfind]
  dsimp only
  rw [← ht, hexam]
  rfl

/-- Settles O37: the request is looked at once more (`examine_of_hold`), then answered. -/
theorem heldRequestsExpireAtTheirDeadline : Obligations.HeldRequestsExpireAtTheirDeadline := by
  unfold Obligations.HeldRequestsExpireAtTheirDeadline
  intro p g r why s u hreqs htag hphase hdead hu hd
  have hlate : Fr 2 s u := hu ▸ s.atLeast_fr _
  have hport : u.port p.val = s.port p.val := hlate.port rfl _
  obtain ⟨v, once, hv, hlink, hholds⟩ := examine_of_hold (Port.examines_single (hport ▸ hreqs) hphase) hd
  rw [exec_deadlineExpiry p hreqs htag hphase hdead (t := v) (by rw [← hv, hu]; rfl)]
  obtain ⟨b, o, c, hrest⟩ := hholds.rest
  have hvreqs : (v.port p.val).reqs = [r.looksHeld (u.gnt.changes, u.now) once] := by
    rw [hholds.reqs, hport, hreqs, List.map_singleton, if_pos rfl]
  have hlater := v.atLeast_fr (r.arrival + 4 * r.deadline + 1)
  have hself := (v.atLeast (r.arrival + 4 * r.deadline + 1)).updPort_port_self p.val (fun x =>
      { x.answer r .deadlineExpired with gnt := { x.gnt with expired := satInc x.gnt.expired } })
  have hway := (v.atLeast (r.arrival + 4 * r.deadline + 1)).updPort_within p.val (fun x =>
      { x.answer r .deadlineExpired with gnt := { x.gnt with expired := satInc x.gnt.expired } })
  have hnow : (v.atLeast (r.arrival + 4 * r.deadline + 1)).now = max v.now (r.arrival + 4 * r.deadline + 1) := rfl
  rw [hlater.port rfl] at hself
  generalize v.atLeast (r.arrival + 4 * r.deadline + 1) = a at hlater hself hway hnow ⊢
  generalize a.updPort p.val _ = w at hself hway ⊢
  have hcount := pmcCount_linked p.val p.val 0x0D 1 w
  have hlast := pmcCount_port p.val 0x0D 1 w p.val
  generalize pmcCount p.val 0x0D 1 w = t at hcount hlast ⊢
  rw [hself] at hlast
  refine ⟨t, rfl, ?_, ?_, ⟨(r.looksHeld (u.gnt.changes, u.now) once).answered, ?_, rfl, rfl⟩, ?_, ?_, ?_, ?_⟩
  · rw [hcount.fr.now rfl, hway.fr.now rfl, hnow]
    exact Nat.le_max_right ..
  · exact ((hlate.otherPorts p.val).trans hlink.others).trans ((hlater.otherPorts p.val).trans (hway.others.trans hcount.others))
  · rw [hlast]
    simp [Port.answer, Port.updReq, hvreqs, Req.looksHeld, Req.answered]
  · rw [hlast]
    change (v.port p.val).outq ++ _ = _
    rw [hrest, hport]
  · rw [hlast]
    change satInc (v.port p.val).gnt.expired = _
    rw [hrest, hport]
  · rw [hlast]
    change (v.port p.val).gnt.spent = _
    rw [hrest, hport]
  · exact ((((hlate.or hlink.fr).or hlater).or hway.fr).or hcount.fr).eq_merge

end Sys2Proof.Machine
end

section
/-! SUPPORT. Write data (R192, R255) and the turn of a request in the gauntlet. -/

namespace Sys2Proof.Machine

open Host

variable {s t u : State} {p : Nat} {x y : Port} {r e : Req}

/-! ## What the gauntlet leaves of a request -/

/-- What the gauntlet leaves of a request: all but its phase, and what the latch and the holds note; it does not wait for data after. -/
structure Req.Passes (a b : Req) : Prop where
  eq : b = { a with phase := b.phase, cls := b.cls, latchedAt := b.latchedAt, bound := b.bound, base := b.base, serial := b.serial,
                    todo := b.todo, heldOnce := b.heldOnce, looked := b.looked }
  phase : a.phase ≠ .waitData → b.phase ≠ .waitData

theorem Req.Passes.refl (r : Req) : r.Passes r := ⟨rfl, fun h => h⟩

theorem Req.latched_passes (now : Nat) (cls : Cls) (bound base serial todo : Nat) (r : Req) : r.Passes (r.latched now cls bound base serial todo) :=
  ⟨rfl, fun _ => Phase.noConfusion⟩

theorem Req.answered_passes (r : Req) : r.Passes r.answered := ⟨rfl, fun _ => Phase.noConfusion⟩

theorem Req.Passes.trans {a b c : Req} (h : a.Passes b) (h' : b.Passes c) : a.Passes c := by
  refine ⟨?_, fun ha => h'.phase (h.phase ha)⟩
  rw [h'.eq, h.eq]

theorem Req.looksHeld_passes (k : Nat × Nat) (once : Bool) (r : Req) : r.Passes (r.looksHeld k once) := ⟨rfl, fun h => h⟩

/-- One examination: it goes through its port, the calendar and the counters; the requests with its tag pass, and where the one
examined has not been accepted, nothing has been booked or charged. -/
structure Examined (p tag : Nat) (s t : State) : Prop where
  fr : Fr 155713536 s t
  others : otherPorts p s t
  reqs : ∃ f : Req → Req, (∀ r : Req, r.Passes (f r)) ∧ (t.port p).reqs = (s.port p).reqs.map (fun e => if e.tag = tag then f e else e) ∧
    ∀ r : Req, (f r).serial = r.serial → r.serial = 0 → t.pcs = s.pcs ∧ t.gnt = s.gnt ∧ (t.port p).gnt.spent = (s.port p).gnt.spent ∧
      (t.port p).gnt.pcUsed = (s.port p).gnt.pcUsed ∧ (t.port p).gnt.bankUsed = (s.port p).gnt.bankUsed

theorem examine_spec_of_refuse {tag : Nat} (h : (s.port p).examines tag r) (hd : decide250 p r s = .noContract ∨ decide250 p r s = .oversize) :
    Examined p tag s (examine p tag s).1 := by
  obtain ⟨htag, -⟩ := h.tag
  obtain ⟨t, c, o, ht, hway, hport⟩ := examine_of_refuse h hd
  rw [ht]
  refine ⟨hway.fr.mono rfl, hway.others, fun e => e.answered, fun e => e.answered_passes, ?_,
    fun _ _ _ => ⟨hway.fr.pcs rfl, hway.fr.gnt rfl, ?_, ?_, ?_⟩⟩
  all_goals rw [hport]
  · rw [← htag]
    rfl
  · rfl
  · rfl
  · rfl

theorem examine_spec {tag : Nat} (h : (s.port p).examines tag r) : Examined p tag s (examine p tag s).1 := by
  obtain ⟨htag, -⟩ := h.tag
  cases hd : decide250 p r s with
  | latch cls shed starts bound n =>
    rw [examine_of_latch h hd]
    obtain ⟨hothers, -⟩ := latchReq_others p r cls shed starts bound n s
    obtain ⟨f, hf, base, todo, hkind⟩ := latchReq_reqs p r cls shed starts bound n s
    refine ⟨latchReq_fr .., hothers, f, fun e => ?_, htag ▸ hf, fun e he h0 => ?_⟩
    · obtain rfl | rfl := hkind
      · exact e.latched_passes ..
      · exact (e.latched_passes ..).trans (Req.answered_passes _)
    · have hserial : (f e).serial = s.gnt.serial + 1 := by obtain rfl | rfl := hkind <;> rfl
      omega
  | hold why =>
    obtain ⟨t, once, ht, hlink, hholds⟩ := examine_of_hold h hd
    rw [ht]
    obtain ⟨b, o, c, hrest⟩ := hholds.rest
    refine ⟨hlink.fr.mono rfl, hlink.others, fun e => e.looksHeld (s.gnt.changes, s.now) once, fun e => e.looksHeld_passes .., hholds.reqs,
      fun _ _ _ => ⟨hlink.fr.pcs rfl, hlink.fr.gnt rfl, ?_, ?_, ?_⟩⟩
    all_goals rw [hrest]
  | noContract =>
    exact examine_spec_of_refuse h (.inl hd)
  | oversize =>
    exact examine_spec_of_refuse h (.inr hd)

/-! ## The turn of one request -/

theorem Examined.of_withDecided (p tag : Nat) (d : Nat × Nat) (s : State) : Examined p tag s (s.withDecided p d) := by
  obtain ⟨hway, hself⟩ := s.withDecided_way p d
  refine ⟨hway.fr.mono rfl, hway.others, fun e => e, Req.Passes.refl, ?_, fun _ _ _ => ⟨hway.fr.pcs rfl, hway.fr.gnt rfl, ?_, ?_, ?_⟩⟩
  all_goals rw [hself]
  · simp [Port.withDecided]
  · rfl
  · rfl
  · rfl

theorem reexamine_of_filter (h : (s.port p).reqs.filter (fun r => r.candidate s.gnt.changes s.now) = [r]) (hleft : s.decisionsLeft p ≠ 0) :
    reexamine p s = (examine p r.tag (s.withDecided p (s.now, 4 - s.decisionsLeft p + 1))).1 := by
  obtain ⟨k, hk⟩ := Nat.exists_eq_succ_of_ne_zero hleft
  simp [reexamine, h, hk, forL, State.withDecided, Port.withDecided]

theorem Examined.after_withDecided {tag : Nat} {d : Nat × Nat} (h : (s.port p).examines tag r) :
    Examined p tag s (examine p tag (s.withDecided p d)).1 := by
  obtain ⟨hway, hself⟩ := s.withDecided_way p d
  have hexam : ((s.withDecided p d).port p).examines tag r := by rwa [hself]
  obtain ⟨hfr, hothers, f, hpass, hreqs, hidle⟩ := examine_spec hexam
  rw [hself] at hreqs hidle
  refine ⟨(hway.fr.or hfr).mono rfl, hway.others.trans hothers, f, hpass, hreqs, fun e he h0 => ?_⟩
  obtain ⟨hpcs, hgnt, hspent, hpc, hbank⟩ := hidle e he h0
  exact ⟨hpcs.trans (hway.fr.pcs rfl), hgnt.trans (hway.fr.gnt rfl), hspent, hpc, hbank⟩

/-- The turn of a port in which one request alone may be examined, the newest. -/
theorem reexamine_examined {l : List Req} (hreqs : (s.port p).reqs = l ++ [r]) (hl : ∀ e ∈ l, e.tag ≠ r.tag)
    (hidle : ∀ e ∈ l, e.candidate s.gnt.changes s.now = false) : Examined p r.tag s (reexamine p s) := by
  cases hcand : r.candidate s.gnt.changes s.now with
  | false =>
    obtain ⟨d, hd⟩ := reexamine_of_idle (s := s) (p := p) (.inl fun e he => by
      rw [hreqs, List.mem_append, List.mem_singleton] at he
      obtain he | rfl := he
      · exact hidle e he
      · exact hcand)
    rw [hd]
    exact .of_withDecided ..
  | true =>
    by_cases hleft : s.decisionsLeft p = 0
    · obtain ⟨d, hd⟩ := reexamine_of_idle (s := s) (p := p) (.inr hleft)
      rw [hd]
      exact .of_withDecided ..
    · have hfilter : (s.port p).reqs.filter (fun r => r.candidate s.gnt.changes s.now) = [r] := by
        rw [hreqs, List.filter_append, List.filter_eq_nil_iff.mpr fun e he => by simp [hidle e he]]
        simp [hcand]
      have hexam : (s.port p).examines r.tag r := by
        have hnone : l.find? (fun e => decide (e.tag = r.tag) && decide (e.phase = .waiting)) = none :=
          List.find?_eq_none.mpr fun e he => by simp [hl e he]
        rw [Port.examines, hreqs, List.find?_append, hnone]
        simp [Req.waiting_of_candidate hcand]
      rw [reexamine_of_filter hfilter hleft]
      exact Examined.after_withDecided hexam

/-- The request passed to the gauntlet, from now on waiting. -/
def Req.enters (now : Nat) (r : Req) : Req := { r with phase := .waiting, arrival := now }

/-- A request passed to the gauntlet where no other of its port may be examined. -/
theorem toGauntlet_examined {l : List Req} (hreqs : (s.port p).reqs = l ++ [r]) (hl : ∀ e ∈ l, e.tag ≠ r.tag)
    (hidle : ∀ e ∈ l, e.candidate s.gnt.changes s.now = false) : ∃ u t, toGauntlet p r.tag s = t ∧ Linked p s u ∧ Examined p r.tag u t ∧
      u.port p = (s.port p).updReq r.tag (fun r => r.enters s.now) ∧ (u.port p).reqs = l ++ [r.enters s.now] := by
  have hup := (s.updPort_within p (fun x => x.updReq r.tag (fun r => r.enters s.now))).linked
  have hself := s.updPort_port_self p (fun x => x.updReq r.tag (fun r => r.enters s.now))
  have hlist : ((s.port p).updReq r.tag (fun r => r.enters s.now)).reqs = l ++ [r.enters s.now] := by
    have hold : l.map (fun e => if e.tag = r.tag then e.enters s.now else e) = l :=
      (List.map_congr_left fun e he => if_neg (hl e he)).trans (List.map_id l)
    rw [Port.updReq, hreqs, List.map_append, hold]
    simp
  have hcount := pmcCount_linked p p 0x03 1 (s.updPort p (fun x => x.updReq r.tag (fun r => r.enters s.now)))
  have hport := pmcCount_port p 0x03 1 (s.updPort p (fun x => x.updReq r.tag (fun r => r.enters s.now))) p
  have hlink := hup.trans hcount
  refine ⟨pmcCount p 0x03 1 (s.updPort p (fun x => x.updReq r.tag (fun r => r.enters s.now))), _, rfl, hlink, ?_, hport.trans hself,
    by rw [hport, hself, hlist]⟩
  have hturn := reexamine_examined (s := pmcCount p 0x03 1 (s.updPort p (fun x => x.updReq r.tag (fun r => r.enters s.now)))) (p := p)
    (r := r.enters s.now) (l := l) (by rw [hport, hself, hlist]) hl (by rw [hlink.fr.gnt rfl, hlink.fr.now rfl]; exact hidle)
  exact hturn

/-! ## Write data -/

theorem length_dropFirst_of_mem {a : Nat} {l : List Nat} (h : a ∈ l) : (dropFirst (fun t => decide (t = a)) l).length + 1 = l.length := by
  induction l with
  | nil => exact absurd h List.not_mem_nil
  | cons b l ih =>
    rw [dropFirst]
    split
    · rfl
    · next hb =>
      have hmem : a ∈ l := (List.mem_cons.mp h).resolve_left fun hab => hb (by simp [hab])
      rw [List.length_cons, List.length_cons, ih hmem]

/-- The state once the data has left the receive buffer. -/
def takeData (p : Nat) (d : DataSlot) (s : State) : State :=
  if (s.port p).tx.rx.any (RxItem.isData d) then s.updPort p (fun x => { x with tx.rx := dropFirst (RxItem.isData d) x.tx.rx }.due 1) else s

theorem takeData_spec (p : Nat) (d : DataSlot) (s : State) : Within p s (takeData p d s) ∧
    (takeData p d s).port p = { s.port p with tx := ((takeData p d s).port p).tx } := by
  unfold takeData
  split
  · refine ⟨State.updPort_within .., ?_⟩
    rw [State.updPort_port_self]
    rfl
  · exact ⟨.refl .., rfl⟩

theorem exec_writeData {d : DataSlot} (i : PortId) (hs : (s.port i.val).inSession = true) (hok : dataSlotOk d = true) (hu : u = takeData i.val d s) :
    exec (.writeData i d) s = if (u.port i.val).mute.contains d.tag.toNat = true
      then .next (u.updPort i.val (fun x => { x with mute := dropFirst (fun t => decide (t = d.tag.toNat)) x.mute }))
      else match (u.port i.val).reqs.find? (fun r => decide (r.tag = d.tag.toNat) && r.op.writes && !r.gotData) with
        | none => .next (violation i.val 5 u)
        | some r => if r.phase ≠ .waitData then .next (u.updPort i.val (fun x => x.updReq d.tag.toNat (fun r => { r with gotData := true, mask := d.mask, data := d.data })))
          else if r.op ≠ .wrm64 ∧ d.mask ≠ BitVec.allOnes 64
          then .next ((u.updPort i.val (fun x => x.updReq d.tag.toNat (fun r => { r with gotData := true, mask := d.mask, data := d.data }))).updPort
            i.val (fun x => x.answer r .unsupported))
          else .next (toGauntlet i.val d.tag.toNat
            (u.updPort i.val (fun x => x.updReq d.tag.toNat (fun r => { r with gotData := true, mask := d.mask, data := d.data })))) := by
  rw [hu]
  refine (if_neg (by rw [hs]; exact Bool.false_ne_true)).trans ((if_neg (by rw [hok]; exact Bool.false_ne_true)).trans ?_)
  rfl

/-- The data is the request's. -/
def Req.withData (d : DataSlot) (r : Req) : Req := { r with gotData := true, mask := d.mask, data := d.data }

/-- Settles O31: the data leaves the buffer (`takeData_spec`); what it meets decides (`exec_writeData`). -/
theorem writeDataMeetsItsRequest : Obligations.WriteDataMeetsItsRequest := by
  unfold Obligations.WriteDataMeetsItsRequest
  intro p d s u hses hok hu
  replace hu : u = takeData p.val d s := hu
  obtain ⟨htake, hport⟩ := takeData_spec p.val d s
  rw [← hu] at htake hport
  have hmute : (u.port p.val).mute = (s.port p.val).mute := by rw [hport]
  have hreqs : (u.port p.val).reqs = (s.port p.val).reqs := by rw [hport]
  rw [exec_writeData p hses hok hu]
  refine ⟨fun hin => ?muted, fun hout hnone hq => ?unasked, fun r hout hr htag hw hg hphase => ?_⟩
  case muted =>
    rw [if_pos (by rw [hmute]; simpa using hin)]
    have hway := u.updPort_within p.val (fun x => { x with mute := dropFirst (fun t => decide (t = d.tag.toNat)) x.mute })
    have hself := u.updPort_port_self p.val (fun x => { x with mute := dropFirst (fun t => decide (t = d.tag.toNat)) x.mute })
    have hall := htake.trans hway
    refine ⟨_, rfl, hall.eq, hall.others, ?_, ?_⟩
    · rw [hself]
    · rw [hself]
      exact (length_dropFirst_of_mem (hmute ▸ hin)).trans (by rw [hmute])
  all_goals rw [if_neg (by rw [hmute]; simpa using hout), hreqs]
  case unasked =>
    have hfind : (s.port p.val).reqs.find? (fun r => decide (r.tag = d.tag.toNat) && r.op.writes && !r.gotData) = none := by
      rw [List.find?_eq_none]
      intro r hr
      by_cases ht : r.tag = d.tag.toNat
      · obtain h | h := hnone r hr ht <;> simp [h]
      · simp [ht]
    rw [hfind, violation_of_quiet 5 p.isLt (htake.fr.quiet hq)]
    rfl
  have hfind : (s.port p.val).reqs.find? (fun r => decide (r.tag = d.tag.toNat) && r.op.writes && !r.gotData) = some r := by
    simp [hr, htag, hw, hg]
  rw [hfind]
  dsimp only
  rw [if_neg (by simp [hphase])]
  have hgiven := u.updPort_within p.val (fun x => x.updReq d.tag.toNat (Req.withData d))
  have hself := u.updPort_port_self p.val (fun x => x.updReq d.tag.toNat (Req.withData d))
  have hone : ((u.port p.val).updReq d.tag.toNat (Req.withData d)).reqs = [r.withData d] := by
    rw [Port.updReq, hreqs, hr]
    simp [htag]
  refine ⟨fun hop hmask => ?_, fun hop => ?_⟩
  · rw [if_pos ⟨hop, hmask⟩, State.updPort_updPort]
    refine congrArg Outcome.next (State.updPort_congr ?_)
    simp [Port.answer, Port.updReq, hreqs, hr, htag]
  · rw [if_neg (by rintro ⟨h1, h2⟩; exact hop.elim h1 h2)]
    change ∃ t q, Outcome.next (toGauntlet p.val d.tag.toNat (u.updPort p.val (fun x => x.updReq d.tag.toNat (Req.withData d)))) = .next t ∧ _
    generalize u.updPort p.val (fun x => x.updReq d.tag.toNat (Req.withData d)) = v at hgiven hself ⊢
    obtain ⟨w, t, ht, hlink, hexam, -, hwreqs⟩ := toGauntlet_examined (s := v) (p := p.val) (r := r.withData d) (l := [])
      (by rw [hself, hone]; rfl) (fun _ h => absurd h List.not_mem_nil) (fun _ h => absurd h List.not_mem_nil)
    obtain ⟨f, hpass, hmap, -⟩ := hexam.reqs
    have hfr := (htake.trans hgiven).fr
    have hall := (hfr.or hlink.fr).or hexam.fr
    obtain ⟨heq, hnot⟩ := hpass ((r.withData d).enters v.now)
    refine ⟨t, f ((r.withData d).enters v.now), congrArg _ (htag ▸ ht), ?_, ?_, ?_, ?_, ?_, ?_, hnot Phase.noConfusion, hall.mem rfl⟩
    · rw [hmap, hwreqs, List.nil_append, List.map_singleton]
      exact congrArg (fun q => [q]) (if_pos rfl)
    · rw [heq]; rfl
    · rw [heq]; rfl
    · rw [heq]; rfl
    · rw [heq]; rfl
    · rw [heq]; exact hfr.now rfl

end Sys2Proof.Machine
end

section
/-! SUPPORT. Request headers (R183, R184, R191, R211, R212, R216). -/

namespace Sys2Proof.Machine

open Host

variable {s t u : State} {p : Nat} {x y : Port} {r e : Req}

/-! ## What a header needs of the receive buffer -/

theorem Port.plainRx.sublist {l l' : List RxItem} (h : Port.plainRx l) (hl : l'.Sublist l) : Port.plainRx l' :=
  ⟨fun v b e hm => h.1 v b e (hl.subset hm), fun x hm => h.2 x (hl.subset hm)⟩

theorem dropFirst_sublist {α : Type} (f : α → Bool) (l : List α) : (dropFirst f l).Sublist l := by
  induction l with
  | nil => exact .slnil
  | cons a l ih =>
    rw [dropFirst]
    split
    · exact List.sublist_cons_self ..
    · exact ih.cons_cons a

/-- One pass over the front of the receive buffer. -/
def serveOther (p : Nat) (s : State) : State :=
  let s := match (s.port p).tx.rx.find? RxItem.anyHeader with
    | some (.header _ b _) => if reqOpcode b then s else answerOther p b (s.updPort p (·.dropHeader))
    | _ => s
  match (s.port p).tx.rx.find? (RxItem.isMsg 0x12) with
  | some (.msg _ x) =>
    let b := mgmtHeader x
    if headerOp b = 0x10 ∨ headerOp b = 0x11 then s else answerOtherMgmt p b (takeMsg p 0x12 s)
  | _ => s

theorem serveOthers_eq (p : Nat) (s : State) : serveOthers p s = (List.range (s.port p).tx.rx.length).foldl (fun s _ => serveOther p s) s := rfl

theorem serveOther_of_plain (h : Port.plainRx (s.port p).tx.rx) : serveOther p s = s := by
  unfold serveOther
  have hhead : (match (s.port p).tx.rx.find? RxItem.anyHeader with
      | some (.header _ b _) => if reqOpcode b then s else answerOther p b (s.updPort p (·.dropHeader))
      | _ => s) = s := by
    split
    · next v b e hf => exact if_pos (h.1 v b e (List.mem_of_find?_eq_some hf))
    · rfl
  dsimp only
  rw [hhead]
  split
  · next c x hf =>
    have hcode : c = 0x12 := by simpa [RxItem.isMsg, eq_comm] using List.find?_some hf
    exact if_pos (h.2 x (hcode ▸ List.mem_of_find?_eq_some hf))
  · rfl

/-- Where every header in the receive buffer is taken by a command of its own, none is served here. -/
theorem serveOthers_of_plain (h : Port.plainRx (s.port p).tx.rx) : serveOthers p s = s :=
  (serveOthers_eq p s).trans (List.foldl_fixed' (fun _ => serveOther_of_plain h) _)

/-! ## A request that arrives (R34, R381) -/

/-- A port at P0, its wake preamble sent and its idle time begun afresh. -/
def Port.wakes (now : Nat) (x : Port) : Port :=
  { x with
    rung := if x.lnk.link = .active then 0 else x.rung
    wire := if x.txHush then (x.sendBlocks 0 (if x.rung = 3 then 128 else 16)).wire else x.wire
    txHush := false, idleSince := now }

/-- What follows a port's waking: a pending move of RETAIN_IDLE withdrawn, an entry abandoned, the stack's rung. -/
def afterWake (l : Link) (s : State) : State :=
  let s := if s.pwr.retainPending ∧ s.pwr.pendIdle then { s with pwr.retainPending := false, pwr.pendIdle := false } else s
  let s := if l = .active then
      (match s.pwr.entry with
        | some e => if e.target = 6 ∨ e.target ≤ 3 then abandonEntry 4 0 s else s
        | none => s)
    else s
  settleRung s

theorem portActive_eq (p : Nat) (s : State) : portActive p s = afterWake (s.port p).lnk.link (s.updPort p (Port.wakes s.now)) := by
  unfold portActive
  extract_lets x a b c
  unfold afterWake Port.wakes
  rfl

theorem afterWake_fr (l : Link) (s : State) : Fr 50335744 s (afterWake l s) := by
  unfold afterWake
  extract_lets w a b
  have ha : Fr 4096 s a := Fr.iteT (Fr.u4096 (.refl ..) rfl) (.refl ..)
  have hb : Fr 4096 a b := by
    refine Fr.iteT ?_ (.refl ..)
    split
    · next e he =>
      split
      · next hlow => exact abandonEntry_fr_of_low _ _ he (by omega)
      · exact .refl ..
    · exact .refl ..
  exact ((ha.or hb).or (settleRung_narrow b)).mono rfl

theorem portActive_spec (p : Nat) (s : State) : Fr 54530048 s (portActive p s) ∧ otherPorts p s (portActive p s) ∧
    (portActive p s).port p = (s.port p).wakes s.now := by
  rw [portActive_eq]
  have hup := s.updPort_fr p (Port.wakes s.now)
  have hfr := afterWake_fr (s.port p).lnk.link (s.updPort p (Port.wakes s.now))
  refine ⟨(hup.or hfr).mono rfl, otherPorts.trans (updPort_otherPorts _ _ _) (hfr.otherPorts p), ?_⟩
  rw [hfr.port rfl, State.updPort_port_self]

/-- The arrival of a request leaves its port but for its rung, its wake preamble and its idle time. -/
theorem requestArrives_spec (p : Nat) (s : State) : Fr 54530048 s (requestArrives p s) ∧ otherPorts p s (requestArrives p s) ∧
    ∃ r w h i, (requestArrives p s).port p = { s.port p with rung := r, wire := w, txHush := h, idleSince := i } := by
  unfold requestArrives
  extract_lets a
  have ha : Fr 54530048 s a ∧ otherPorts p s a ∧ ∃ r w h i, a.port p = { s.port p with rung := r, wire := w, txHush := h, idleSince := i } := by
    unfold a
    split
    · exact ⟨.refl .., otherPorts_refl p s, _, _, _, _, rfl⟩
    · obtain ⟨hfr, hothers, hport⟩ := portActive_spec p s
      exact ⟨hfr, hothers, _, _, _, _, hport⟩
  obtain ⟨hfr, hothers, hport⟩ := ha
  split
  · next e he =>
    have hdrop : Fr 4096 a (if e.target = 6 then abandonEntry 4 0 a else a) := by
      split
      · next h6 => exact abandonEntry_fr_of_low _ _ he (by omega)
      · exact .refl ..
    refine ⟨(hfr.or hdrop).mono rfl, hothers.trans (hdrop.otherPorts p), ?_⟩
    rw [hdrop.port rfl]
    exact hport
  · exact ⟨hfr, hothers, hport⟩

theorem requestArrives_of_ready (hr : (s.port p).rung = 0) (he : s.pwr.entry = none) : requestArrives p s = s := by
  unfold requestArrives
  extract_lets a
  have ha : a = s := if_pos hr
  rw [ha, he]

/-! ## The checks of a request header (R191) -/

/-- A header's port once the header has left the receive buffer. -/
def headerTaken (p : Nat) (b : BitVec 96) (s : State) : State :=
  if (s.port p).tx.rx.any (RxItem.isHeader b) then s.updPort p (·.dropHeader) else s

theorem Port.dropHeader_eq (x : Port) : x.dropHeader = { x with tx := x.dropHeader.tx } ∧ x.dropHeader.tx.rx.Sublist x.tx.rx := by
  unfold Port.dropHeader
  split
  · next v b last h =>
    dsimp only
    split
    · unfold Port.due
      split <;> exact ⟨rfl, dropFirst_sublist ..⟩
    · exact ⟨rfl, dropFirst_sublist ..⟩
  · exact ⟨rfl, List.Sublist.refl _⟩

theorem headerTaken_spec (p : Nat) (b : BitVec 96) (s : State) : Within p s (headerTaken p b s) ∧
    (headerTaken p b s).port p = { s.port p with tx := ((headerTaken p b s).port p).tx } ∧
    ((headerTaken p b s).port p).tx.rx.Sublist (s.port p).tx.rx := by
  unfold headerTaken
  split
  · obtain ⟨heq, hsub⟩ := (s.port p).dropHeader_eq
    refine ⟨State.updPort_within .., ?_, ?_⟩
    · rw [State.updPort_port_self]
      exact heq
    · rw [State.updPort_port_self]
      exact hsub
  · exact ⟨.refl .., rfl, List.Sublist.refl _⟩

/-- What the arrival of a request leaves of its port. -/
structure Arrived (p : Nat) (s u : State) : Prop where
  fr : Fr 54530048 s u
  others : otherPorts p s u
  port : ∃ x r w h i, u.port p = { s.port p with tx := x, rung := r, wire := w, txHush := h, idleSince := i }
  rx : (u.port p).tx.rx.Sublist (s.port p).tx.rx

/-- The arrival of a request whose header or message has left the receive buffer. -/
theorem arrives_of {v : State} (hway : Within p s v) (hport : v.port p = { s.port p with tx := (v.port p).tx })
    (hsub : (v.port p).tx.rx.Sublist (s.port p).tx.rx) : Arrived p s (requestArrives p v) := by
  obtain ⟨hfr, hothers, r, w, h, i, hself⟩ := requestArrives_spec p v
  refine ⟨(hway.fr.or hfr).mono rfl, hway.others.trans hothers, ⟨(v.port p).tx, r, w, h, i, ?_⟩, ?_⟩
  · rw [hself, hport]
  · rw [hself]
    exact hsub

theorem arrived (p : Nat) (b : BitVec 96) (s : State) : Arrived p s (requestArrives p (headerTaken p b s)) := by
  obtain ⟨hway, hport, hsub⟩ := headerTaken_spec p b s
  exact arrives_of hway hport hsub

/-- What follows the opening of the tag (R191, R212, R216). -/
def headerOpened (p : Nat) (op : Op) (h : ReqHeader) (r : Req) (s : State) : State :=
  if (s.port p).fenced then
    s.updPort p (fun x => { x.answer r .fenced with mute := if op.writes then x.mute ++ [r.tag] else x.mute })
  else if !headerAllowed op h then s.updPort p (fun x => x.answer r .unsupported)
  else match (s.port p).translate h.block.toNat op.writes with
    | none => violation p 6 (s.updPort p (fun x => x.answer r .windowFault))
    | some d =>
      let s := s.updPort p (fun x => x.updReq r.tag (fun r => { r with dev := d, phase := .waitData }))
      if op.writes then s else toGauntlet p r.tag s

/-- The request that a header opens, with what R237 adds to its bound. -/
def headerReq (op : Op) (h : ReqHeader) (now : Nat) (rung : BitVec 2) : Req :=
  { newReq op h now with exit := match rung.toNat with | 2 => 180 | 3 => 1980 | _ => 0 }

theorem receiveRequest_eq {op : Op} {h : ReqHeader} {b : BitVec 96} (hb : b = BitVec.ofNat 96 (headerBits op.code h + h.hcheck.toNat * 2 ^ 80))
    (hs : (s.port p).inSession = true) (hturn : (s.port p).inTurn b = true) : receiveRequest p op h s =
      serveOthers p (openTag p op h (headerReq op h s.now (s.port p).rung) (headerOpened p op h (headerReq op h s.now (s.port p).rung))
        (headerTaken p b s)) := by
  obtain ⟨hway, hport, -⟩ := headerTaken_spec p b s
  have hnow : (headerTaken p b s).now = s.now := hway.fr.now rfl
  have hrung : ((headerTaken p b s).port p).rung = (s.port p).rung := by rw [hport]
  rw [← hnow, ← hrung]
  subst hb
  refine if_neg ?_
  rw [hs, hturn]
  decide

/-- A port with one more open request. -/
def Port.opens (r : Req) (x : Port) : Port := { x with reqs := x.reqs ++ [r] }

theorem openTag_of_bad {op : Op} {h : ReqHeader} {next : State → State} (hbad : hcheckOk op.code h = false) :
    openTag p op h r next s = violation p 2 (requestArrives p s) :=
  if_pos (by rw [hbad]; rfl)

theorem openTag_of_taken {op : Op} {h : ReqHeader} {next : State → State} (hok : hcheckOk op.code h = true)
    (htaken : ∃ e ∈ ((requestArrives p s).port p).reqs, e.tag = h.tag.toNat) :
    openTag p op h r next s = violation p 4 (requestArrives p s) :=
  (if_neg (by rw [hok]; decide)).trans (if_pos (by simpa using htaken))

theorem openTag_of_free {op : Op} {h : ReqHeader} {next : State → State} (hok : hcheckOk op.code h = true)
    (hfree : ∀ e ∈ ((requestArrives p s).port p).reqs, e.tag ≠ h.tag.toNat) :
    openTag p op h r next s = next ((requestArrives p s).updPort p (Port.opens r)) :=
  (if_neg (by rw [hok]; decide)).trans (if_neg (by simpa using hfree))

theorem updReq_opens {f : Req → Req} (hfree : ∀ e ∈ x.reqs, e.tag ≠ r.tag) : (x.opens r).updReq r.tag f = x.opens (f r) := by
  have hold : x.reqs.map (fun e => if e.tag = r.tag then f e else e) = x.reqs :=
    (List.map_congr_left fun e he => if_neg (hfree e he)).trans (List.map_id _)
  rw [Port.updReq, Port.opens, List.map_append, hold]
  simp [Port.opens]

theorem answer_opens (st : Status) (hfree : ∀ e ∈ x.reqs, e.tag ≠ r.tag) :
    (x.opens r).answer r st = { x with reqs := x.reqs ++ [{ r with phase := .answered }], outq := x.outq ++ [completion r st] } := by
  rw [Port.answer, updReq_opens hfree]
  rfl

section
variable {op : Op} {h : ReqHeader} {b : BitVec 96} {i : PortId}

/-- The command of a data request's header. -/
theorem exec_header {c : Instr} (hc : (op = .rd64 ∧ c = .rd64 i h) ∨ (op = .rd128 ∧ c = .rd128 i h) ∨ (op = .wr64 ∧ c = .wr64 i h) ∨
    (op = .wrm64 ∧ c = .wrm64 i h) ∨ (op = .fill ∧ c = .fill i h)) : exec c s = .next (receiveRequest i.val op h s) := by
  obtain ⟨rfl, rfl⟩ | ⟨rfl, rfl⟩ | ⟨rfl, rfl⟩ | ⟨rfl, rfl⟩ | ⟨rfl, rfl⟩ := hc <;> rfl

end

/-- Settles O30: the header arrives (`arrived`), and the checks are those of `openTag` and `headerOpened`. -/
theorem requestHeadersAreCheckedInOrder : Obligations.RequestHeadersAreCheckedInOrder := by
  unfold Obligations.RequestHeadersAreCheckedInOrder
  intro p op h c r b s u hses hb hturn hplain hr hu hc
  replace hu : u = requestArrives p.val (headerTaken p.val b s) := hu
  replace hr : r = headerReq op h s.now (s.port p.val).rung := hr
  rw [exec_header hc, receiveRequest_eq hb hses hturn, ← hr]
  obtain ⟨-, -, ⟨xt, xr, xw, xh, xi, hport⟩, hrx⟩ := hu ▸ arrived p.val b s
  have hrxplain := hplain.sublist hrx
  have hreqs : (u.port p.val).reqs = (s.port p.val).reqs := by rw [hport]
  have hserve {t : State} (ht : (t.port p.val).tx.rx = (u.port p.val).tx.rx) : serveOthers p.val t = t :=
    serveOthers_of_plain (ht ▸ hrxplain)
  refine ⟨fun hrx0 hrung hentry => ?ready, fun hbad hq => ?badCheck, fun hok htaken hq => ?taken, fun hok hfree => ?free⟩
  case ready =>
    have htaken : headerTaken p.val b s = s := if_neg (by simp [hrx0])
    rw [hu, htaken, requestArrives_of_ready hrung hentry]
  case badCheck =>
    rw [openTag_of_bad hbad, ← hu, violation_of_quiet 2 p.isLt hq, hserve (by rw [State.updPort_port_self]; rfl)]
    rfl
  case taken =>
    rw [openTag_of_taken hok (by rw [← hu, hreqs]; exact htaken), ← hu, violation_of_quiet 4 p.isLt hq,
      hserve (by rw [State.updPort_port_self]; rfl)]
    rfl
  case free =>
    have htag : r.tag = h.tag.toNat := by rw [hr]; rfl
    have hfree' : ∀ e ∈ (u.port p.val).reqs, e.tag ≠ r.tag := by rw [hreqs, htag]; exact hfree
    rw [openTag_of_free hok (by rw [← hu, hreqs]; exact hfree), ← hu]
    have hself := u.updPort_port_self p.val (Port.opens r)
    refine ⟨fun hf => ?fenced, fun hf hbad => ?unsupported, fun hf hall htr hq => ?outside, fun d hf hall hw htr => ?writes⟩
    case fenced =>
      rw [headerOpened, if_pos (by rw [hself, hport]; exact hf), State.updPort_updPort, hserve (by rw [State.updPort_port_self]; rfl)]
      refine congrArg Outcome.next (State.updPort_congr ?_)
      rw [answer_opens .fenced hfree', htag]
      rfl
    case unsupported =>
      rw [headerOpened, if_neg (by rw [hself, hport]; exact fun h => Bool.false_ne_true (hf.symm.trans h)), if_pos (by rw [hbad]; rfl),
        State.updPort_updPort, hserve (by rw [State.updPort_port_self]; rfl)]
      exact congrArg Outcome.next (State.updPort_congr (answer_opens .unsupported hfree'))
    case outside =>
      rw [headerOpened, if_neg (by rw [hself, hport]; exact fun h => Bool.false_ne_true (hf.symm.trans h)), if_neg (by rw [hall]; decide),
        show ((u.updPort p.val (Port.opens r)).port p.val).translate h.block.toNat op.writes = none by rw [hself, hport]; exact htr]
      have hq' : ((u.updPort p.val (Port.opens r)).updPort p.val (fun x => x.answer r .windowFault)).quiet (srcProto p.val) :=
        ((State.updPort_fr ..).quiet ((State.updPort_fr ..).quiet hq))
      refine congrArg Outcome.next ?_
      rw [show violation p.val 6 _ = _ from violation_of_quiet 6 p.isLt hq', withEvent_updPort, withEvent_updPort, State.updPort_updPort,
        State.updPort_updPort, hserve (by rw [State.updPort_port_self]; rfl)]
      refine State.updPort_congr ?_
      rw [answer_opens .windowFault (x := (u.withEvent (srcProto p.val)).port p.val) hfree']
      rfl
    case writes =>
      rw [headerOpened, if_neg (by rw [hself, hport]; exact fun h => Bool.false_ne_true (hf.symm.trans h)), if_neg (by rw [hall]; decide),
        show ((u.updPort p.val (Port.opens r)).port p.val).translate h.block.toNat op.writes = some d by rw [hself, hport, hw]; exact htr]
      refine congrArg Outcome.next ?_
      dsimp only
      rw [if_pos hw, State.updPort_updPort, hserve (by rw [State.updPort_port_self]; rfl)]
      exact State.updPort_congr (updReq_opens hfree')

end Sys2Proof.Machine
end

section
/-! SUPPORT. The refutation of O33: a read that meets its port at P3 takes the stack out of self-refresh before the gauntlet has decided on it (R389, R328). -/
namespace Sys2Proof.Machine
open Host

/-- A read of block 0 with tag 0, with the check that R191 asks for. -/
def wakingRead : ReqHeader :=
  let h : ReqHeader := ⟨0, 0, 0, 0, 0, 0, 0, 0⟩
  { h with hcheck := headerCheck (headerBits Op.rd64.code h) }

/-- A port in session at P3 with a window over segment 0 and no contract for any label. -/
def restingPort : Port :=
  { cfg := { enable := true, windows := [(0, { valid := true, rw := true, count := 128 })] }, lnk := { link := .active },
    tx := { session := true, initSent := true, initRcvd := true }, rung := 3 }

/-- SERVICE at rung 3: slice 0 of pseudo-channel 0 in self-refresh, with the last refresh of row 0 on record. -/
def restingStack : State :=
  { mode := .service, pwr := { rung := 3 }, ports := [(0, restingPort)], pcs := [(0, { rf := { refDone := [(0, 5)] } })],
    slices := [(0, { selfRefresh := true })] }

/-- The read is answered without a grant, and the refresh on record has gone with the self-refresh of its slice. -/
theorem wakingRead_changes_pcs : (∀ q ∈ ((receiveRequest 0 .rd64 wakingRead restingStack).port 0).reqs, q.serial = 0) ∧
    ((receiveRequest 0 .rd64 wakingRead restingStack).pc 0).rf.refDone = [] ∧ (restingStack.pc 0).rf.refDone = [(0, 5)] := by
  decide +kernel

/-- Refutes O33: the arrival of a read at a port at P3 is a change of the stack's rung, and leaving self-refresh takes what stands on
record of the slice's refreshes (R328) out of the pseudo-channel, though the gauntlet does not accept the read. -/
theorem not_readsHaveNoEffectBeforeAcceptance : ¬ Obligations.ReadsHaveNoEffectBeforeAcceptance := by
  unfold Obligations.ReadsHaveNoEffectBeforeAcceptance
  intro holds
  obtain ⟨hserial, hgone, hthere⟩ := wakingRead_changes_pcs
  have hrx : Port.plainRx (restingStack.port 0).tx.rx := by
    rw [show (restingStack.port 0).tx.rx = [] by decide +kernel]
    exact ⟨by simp, by simp⟩
  obtain ⟨t, q, hexec, -, hq, -, -, -, -, -, -, hkept⟩ := holds 0 .rd64 wakingRead (.rd64 0 wakingRead) 0 _ restingStack _
    (.inl ⟨rfl, rfl⟩) (by decide) rfl (by decide +kernel) hrx rfl (by decide +kernel) (by decide) (by decide)
    (by decide) (by decide +kernel)
  have hrun : receiveRequest 0 .rd64 wakingRead restingStack = t := Outcome.next.inj hexec
  rw [← hrun] at hq hkept
  obtain ⟨hpcs, -⟩ := hkept (hserial q hq)
  have hsame : (receiveRequest 0 .rd64 wakingRead restingStack).pc 0 = restingStack.pc 0 := by
    rw [State.pc, hpcs, State.pc]
  rw [hsame, hthere] at hgone
  exact absurd hgone (by decide)

end Sys2Proof.Machine
end

section
/-! SUPPORT. The books of the gauntlet over time (R203, R241, R248, R249, R354). -/

namespace Sys2Proof.Machine

open Host

variable {s t u : State} {p : Nat} {x y : Port}

/-! ## The budget window -/

/-- The books of a port at the start of a budget window. -/
def Port.refilled (now : Nat) (hot : Bool) (scaleP scaleB : Nat) (x : Port) : Port :=
  { x with gnt := { x.gnt with
      windowStart := some now, spent := [], pcUsed := [], bankUsed := [], throttled := hot, scaleP := scaleP, scaleB := scaleB
      shrink := if x.lnk.link = .active ∧ x.widthMax ≤ x.lnk.width.toNat ∧ !x.lnk.rl1 then none else x.gnt.shrink } }

/-- The books of port p refilled now. -/
def refill (p : Nat) (s : State) : State :=
  s.updPort p (Port.refilled s.now s.throttling (if s.throttling then s.thm.throttleP.toNat else 100)
    (if s.throttling then s.thm.throttleB.toNat else 100))

/-- The audit with the partner that a window begins with, where one is due. -/
def auditLink (p : Nat) (s : State) : State :=
  if (s.port p).inSession ∧ (s.port p).aud.resync.isNone ∧ ((s.port p).rung.toNat < 2 ∨ (s.port p).aud.seqSinceAudit)
  then queueAudit p s else s

theorem exec_budgetWindowBoundary {w : Nat} (i : PortId) (hw : (s.port i.val).gnt.windowStart = some w) :
    exec (.budgetWindowBoundary i) s = .next (auditLink i.val (refill i.val
      (touch (auditBooks i.val (s.atLeast (w + (s.port i.val).cfg.windowLen.toNat * 1000)))))) := by
  change execBudgetWindowBoundary i s = _
  unfold execBudgetWindowBoundary
  dsimp only
  rw [hw]
  exact (apply_ite Outcome.next _ _ _).symm

theorem Port.refilled_lnk (now : Nat) (hot : Bool) (a b : Nat) (x : Port) : (x.refilled now hot a b).lnk = x.lnk := rfl

theorem auditLink_within (p : Nat) (s : State) : Within p s (auditLink p s) := by
  unfold auditLink
  split
  · exact s.updPort_within p _
  · exact .refl ..

theorem auditLink_port (p : Nat) (s : State) : (auditLink p s).port p = s.port p ∨ (auditLink p s).port p = (s.port p).queueAudit := by
  unfold auditLink
  split
  · exact .inr (s.updPort_port_self p _)
  · exact .inl rfl

theorem refill_port (p : Nat) (s : State) : ∃ a b, (refill p s).port p = (s.port p).refilled s.now s.throttling a b :=
  ⟨_, _, s.updPort_port_self p _⟩

/-- What the window leaves: its own port's books refilled, and at most an audit sent. -/
theorem windowStarts (p : Nat) (s : State) : ∃ t, auditLink p (refill p (touch s)) = t ∧
    t = { s with ports := t.ports, gnt := t.gnt } ∧ otherPorts p s t ∧ t.gnt.changes = s.gnt.changes + 1 ∧
    ∃ a b, (t.port p = (s.port p).refilled s.now s.throttling a b ∨ t.port p = ((s.port p).refilled s.now s.throttling a b).queueAudit) ∧
      ((s.port p).inSession = true → (s.port p).aud.resync = none → (s.port p).rung.toNat < 2 ∨ (s.port p).aud.seqSinceAudit = true →
        t.port p = ((s.port p).refilled s.now s.throttling a b).queueAudit) := by
  have hrefill : Within p (touch s) (refill p (touch s)) := State.updPort_within p _ _
  obtain ⟨a, b, hport⟩ := refill_port p (touch s)
  have haudit := auditLink_within p (refill p (touch s))
  have hall := hrefill.trans haudit
  have hcase := auditLink_port p (refill p (touch s))
  have hdue (h : (((refill p (touch s)).port p).inSession = true ∧ ((refill p (touch s)).port p).aud.resync.isNone ∧
      (((refill p (touch s)).port p).rung.toNat < 2 ∨ ((refill p (touch s)).port p).aud.seqSinceAudit))) :
      (auditLink p (refill p (touch s))).port p = ((refill p (touch s)).port p).queueAudit := by
    rw [auditLink, if_pos h]
    exact State.updPort_port_self ..
  rw [hport] at hcase hdue
  generalize auditLink p (refill p (touch s)) = t at hall hcase hdue ⊢
  refine ⟨t, rfl, ?_, fun j hj => hall.others j hj, by rw [hall.fr.gnt rfl]; rfl, a, b, hcase, fun h1 h2 h3 => hdue ⟨h1, ?_, h3⟩⟩
  · rw [hall.eq]
    rfl
  · exact Option.isNone_iff_eq_none.mpr h2

theorem auditBooks_of_good (hok : s.booksOk p = true) : auditBooks p s = s := if_pos hok

/-- Books that do not add up, where no source asks for HOLD, start a resynchronisation. -/
theorem auditBooks_of_bad (hp : p < 16) (hbad : s.booksOk p = false) (hc : s.calm) (hl : (s.port p).lnk.link = .active) :
    (auditBooks p s).mode = s.mode ∧ ((auditBooks p s).port p).aud.resync = some (2, 0) := by
  have hbook := srcBook_port hp
  have hmild : s.mild (srcBook p) := (hc.at (srcBook p)).mild (fixedClass_of_port hbook)
  have hglove : noGlove (srcBook p) := noGlove_of_lt hbook.2
  have hfr := fault_fr_of_mild hglove (portDetail p 1) hmild
  have hcores := congrFun (fault_cores hglove (portDetail p 1) hmild) p
  have hcase : auditBooks p s = if ((fault (srcBook p) (portDetail p 1) s).port p).lnk.link = .active
    then startResync p 2 (fault (srcBook p) (portDetail p 1) s) else fault (srcBook p) (portDetail p 1) s := if_neg (by simp [hbad])
  rw [hcase]
  generalize fault (srcBook p) (portDetail p 1) s = u at hfr hcores ⊢
  obtain ⟨t, ht, hway, hport, -⟩ := startResync_spec p 2 u
  rw [if_pos (by rw [Port.core_lnk hcores]; exact hl), ht, hport]
  exact ⟨(hfr.or hway.fr).mode rfl, rfl⟩

/-! ## The books of the controllers -/

/-- The margin book of a pseudo-channel. -/
def State.margins (q : Nat) (s : State) : PcMig := (s.pc q).mg

theorem Fr.margins {k q : Nat} (h : Fr k s t) (hk : k.testBit 24 = false) : t.margins q = s.margins q := by
  rw [State.margins, State.pc, h.pcs hk, State.margins, State.pc]

theorem State.updPc_margins {f : Pc → Pc} {j : Nat} (hf : ∀ x, (f x).mg = x.mg) (q : Nat) (s : State) : (s.updPc j f).margins q = s.margins q := by
  rw [State.margins, State.updPc_pc]
  split
  · next h => rw [hf, h, State.margins]
  · rfl

/-- A pseudo-channel with nothing left to do. -/
def Pc.idle (x : Pc) : Pc :=
  { x with grants := [], granted := 0, issued := 0, bursts := [], wq := [], slots := [], cols := [], rows := [], gStarts := []
           openRows := [], latches := [], bankFree := [], rf := { x.rf with refRun := [], rfmDue := [] } }

theorem stopMemory_eq (s : State) : stopMemory s = { forN 32 (fun q s => if s.pc q = {} then s else s.updPc q Pc.idle) s with
    mem := [], slices := (forN 32 (fun q s => if s.pc q = {} then s else s.updPc q Pc.idle) s).slices.map
      (fun e => (e.1, { e.2 with inUse := false, selfRefresh := false })) } := rfl

theorem stopMemory_margins (q : Nat) (s : State) : (stopMemory s).margins q = s.margins q := by
  rw [stopMemory_eq]
  have hloop : (forN 32 (fun q s => if s.pc q = {} then s else s.updPc q Pc.idle) s).margins q = s.margins q := by
    refine forN_eq (f := State.margins q) (fun i t => ?_) 32 s
    split
    · rfl
    · exact State.updPc_margins (f := Pc.idle) (fun _ => rfl) q t
  generalize forN 32 _ s = u at hloop ⊢
  exact hloop

theorem State.stopAll_margins (q : Nat) (s : State) : s.stopAll.margins q = s.margins q := by
  unfold State.stopAll
  rw [(stopTest_fr _).margins rfl, (layersOff_fr _).margins rfl, stopMemory_margins, (linksDown_fr _).margins rfl]

theorem enterHold_margins (c q : Nat) (s : State) : (enterHold c s).margins q = s.margins q := by
  by_cases ht : s.mode = .trip
  · rw [enterHold, if_pos (.inl ht)]
  by_cases hh : s.mode = .hold
  · rw [enterHold, if_pos (.inr hh)]
  · rw [enterHold_eq c ht hh]
    exact s.stopAll_margins q

section
variable {α : Type} {g : State → α} (hfr : ∀ {s t : State}, Fr 4605440 s t → g t = g s) (hhold : ∀ c s, g (enterHold c s) = g s)
include hfr hhold

/-! What neither HOLD nor the reactions of a source change, no event changes. -/

theorem setGrave_eq_of_kept (n : Nat) (forced : Bool) (c : Nat) (s : State) : g (setGrave n forced c s) = g s := by
  unfold setGrave
  extract_lets flt u v w x
  have hu : Fr 4605440 s u := Fr.ite (.refl ..) ((Fr.u1024 (.refl ..) rfl : Fr 1024 s _).mono rfl)
  have hv : Fr 4605440 u v := (setAlert_fr ..).mono rfl
  have hx : Fr 4605440 v x := (Fr.forN (fun i t => Fr.iteT (State.updPort_fr ..) (.refl ..)) 16 (.refl ..) : Fr 4194304 v x).mono rfl
  rw [hhold, hfr ((hu.trans hv).trans hx)]

theorem latchGrave_eq_of_kept (n : Nat) (d : EventDetail) (forced : Bool) (c : Nat) (s : State) : g (latchGrave n d forced c s) = g s := by
  rw [latchGrave, setGrave_eq_of_kept hfr hhold]
  split
  · rfl
  · exact hfr ((logRecord_fr ..).mono rfl)

theorem holdReaction_eq_of_kept (n : Nat) (d : EventDetail) (forced : Bool) (s : State) : g (holdReaction n d forced s) = g s := by
  unfold holdReaction
  split
  · rw [setGrave_eq_of_kept hfr hhold, hfr ((logRecord_fr ..).mono rfl), hfr ((State.updSrc_fr ..).mono rfl)]
  · rfl

theorem escalate_eq_of_kept (n : Nat) (d : EventDetail) (forced : Bool) (s : State) : g (escalate n d forced s) = g s := by
  unfold escalate
  extract_lets c raised reacted
  have hreacted : g reacted = g s := (hfr (reactions_fr ..)).trans (hfr ((State.updSrc_fr ..).mono rfl))
  split
  · rw [setGrave_eq_of_kept hfr hhold, hreacted]
  · rw [holdReaction_eq_of_kept hfr hhold, hreacted]

theorem registerEvent_eq_of_kept (n : Nat) (d : EventDetail) (forced : Bool) (s : State) : g (registerEvent n d forced s).1 = g s := by
  have hcounted : g (s.counted n forced) = g s := hfr ((s.counted_fr n forced).mono rfl)
  exact registerEvent_cases (P := fun t => g t = g s) n d forced s (fun _ => rfl) (fun _ => hfr ((State.updSrc_fr ..).mono rfl))
    (fun _ _ => (escalate_eq_of_kept hfr hhold ..).trans hcounted) (fun _ => (latchGrave_eq_of_kept hfr hhold ..).trans hcounted)
    (fun _ => hcounted)

theorem raiseOnly_eq_of_kept (n k : Nat) (d : EventDetail) (c : Nat) (s : State) : g (raiseOnly n k d c s) = g s := by
  unfold raiseOnly
  extract_lets old raised reacted
  have hreacted : g reacted = g s := (hfr (reactions_fr ..)).trans (hfr ((State.updSrc_fr ..).mono rfl))
  split_ifs
  · exact latchGrave_eq_of_kept hfr hhold ..
  · rfl
  · rw [setGrave_eq_of_kept hfr hhold, hreacted]
  · rw [holdReaction_eq_of_kept hfr hhold, hreacted]

variable {n : Nat} {d : EventDetail} (hn : noGlove n) (hper : ∀ u, perEvent n d u = u)
include hn hper

theorem fault_eq_of_kept (s : State) : g (fault n d s) = g s := by
  unfold fault
  split
  · split
    · split <;> exact hfr ((Fr.u1024 (.refl ..) rfl : Fr 1024 s _).mono rfl)
    · rfl
  · dsimp only
    simp only [gloveReaction_of_noGlove hn, hper, ite_self]
    exact registerEvent_eq_of_kept hfr hhold ..

theorem raiseFault_eq_of_kept (c cause : Nat) (s : State) : g (raiseFault n c d cause s) = g s := by
  unfold raiseFault
  split
  · rfl
  split
  · dsimp only
    rw [hper, gloveReaction_of_noGlove hn, raiseOnly_eq_of_kept hfr hhold, hfr ((State.updSrc_fr ..).mono rfl)]
  · dsimp only
    split
    · rw [latchGrave_eq_of_kept hfr hhold, fault_eq_of_kept hfr hhold hn hper]
    · exact fault_eq_of_kept hfr hhold hn hper s

end

theorem registerEvent_margins (n : Nat) (d : EventDetail) (forced : Bool) (q : Nat) (s : State) :
    (registerEvent n d forced s).1.margins q = s.margins q :=
  registerEvent_eq_of_kept (g := State.margins q) (fun h => h.margins rfl) (fun _ _ => enterHold_margins ..) ..

theorem raiseOnly_margins (n k : Nat) (d : EventDetail) (c q : Nat) (s : State) : (raiseOnly n k d c s).margins q = s.margins q :=
  raiseOnly_eq_of_kept (g := State.margins q) (fun h => h.margins rfl) (fun _ _ => enterHold_margins ..) ..

section
variable {n src : Nat} (h : gloveSource n src) (d : EventDetail) (hon : s.collectorOff = false) (hn : (s.chan n).glove = 0)
  (hm : (s.chan (mate n)).glove = 0)
include h hon hn hm

theorem fault_of_pair_margins (q : Nat) : (fault src d s).margins q = s.margins q := by
  have hreg := registerEvent_fr src d false s
  have hkept := registerEvent_margins src d false q s
  rw [fault_of_pair h d hon hn hm]
  generalize (registerEvent src d false s).1 = u at hreg hkept ⊢
  rw [takeover_of_pair (by rw [hreg.chan rfl, hn]) (by rw [hreg.chan rfl, hm]), raiseOnly_margins]
  exact hkept

end

theorem gloveSource_ctrl (q : PcId) : gloveSource (q.val / 2) (84 + 6 * (q.val / 2)) := ⟨by omega, .inr rfl⟩

/-! ## The audits -/

/-- The period's use of a pseudo-channel kept, and its book started anew (R354). -/
def PcMig.nextPeriod (bad : Bool) (m : PcMig) : PcMig :=
  { m with lastCal := satOf 9 m.useCal, lastHbx := satOf 9 m.useHbx, lastMig := satOf 9 m.useMig
           useCal := 0, useHbx := 0, useMig := 0, useActs := [], auditFail := m.auditFail || bad }

/-- The reserve books of q go beyond what R354 allows. -/
def State.overdrawn (s : State) (q : Nat) : Bool :=
  decide ((if s.pcShrunk q then 160 else 320) < (s.pc q).mg.useCal + (s.pc q).mg.useHbx + (s.pc q).mg.useMig) ||
    (s.pc q).mg.useActs.any (fun e => decide (7 < e.2))

theorem exec_reservePeriodAudit (q : PcId) (s : State) : exec (.reservePeriodAudit q) s =
    .next (if s.overdrawn q.val then fault (84 + 6 * (q.val / 2)) { channel := some (Fin.ofNat 16 (q.val / 2)), pc := q.val % 2 = 1 }
        (s.updPc q.val (fun x => { x with mg := x.mg.nextPeriod (s.overdrawn q.val) }))
      else s.updPc q.val (fun x => { x with mg := x.mg.nextPeriod (s.overdrawn q.val) })) := rfl

theorem overdrawn_of_within {q : Nat} (hsh : s.pcShrunk q = false) (hfit : (s.pc q).mg.useCal + (s.pc q).mg.useHbx + (s.pc q).mg.useMig ≤ 320)
    (hacts : ∀ e ∈ (s.pc q).mg.useActs, e.2 ≤ 7) : s.overdrawn q = false := by
  rw [State.overdrawn, hsh, if_neg Bool.false_ne_true, decide_eq_false (by omega), Bool.false_or, List.any_eq_false]
  intro e he
  have := hacts e he
  simpa using this

/-- Settles O38: the window by `windowStarts` and `auditBooks_of_bad`, the audits of the controllers by `fault_of_controller`. -/
theorem booksAreRefilledAndAudited : Obligations.BooksAreRefilledAndAudited := by
  unfold Obligations.BooksAreRefilledAndAudited
  refine ⟨fun p w s hw hok => ?_, fun p w s hw hbad hc hl => ?_, fun q r b n s hn => ?_, fun q s hbal => ?_, fun q s hsh hfit hacts => ?_,
    fun q m s hon hmate hn hm => ⟨fun hbal => ?_, fun hover => ?_⟩⟩
  · rw [exec_budgetWindowBoundary p hw, auditBooks_of_good (s := s.atLeast _) hok]
    obtain ⟨t, ht, heq, hothers, hchanges, a, b, hport, hdue⟩ :=
      windowStarts p.val (s.atLeast (w + (s.port p.val).cfg.windowLen.toNat * 1000))
    have hnow : t.now = max s.now (w + (s.port p.val).cfg.windowLen.toNat * 1000) := by rw [heq]; rfl
    rw [ht]
    have hfacts : (t.port p.val).gnt = ((s.port p.val).refilled t.now s.throttling a b).gnt ∧ (t.port p.val).reqs = (s.port p.val).reqs ∧
        (t.port p.val).cfg = (s.port p.val).cfg := by
      rw [hnow]
      rcases hport with hport | hport <;> rw [hport] <;> exact ⟨rfl, rfl, rfl⟩
    obtain ⟨hgnt, hreqs, hcfg⟩ := hfacts
    refine ⟨t, rfl, ?_, hothers, hchanges, hnow, by rw [hgnt]; rfl, by rw [hgnt]; rfl, by rw [hgnt]; rfl, by rw [hgnt]; rfl, by rw [hgnt]; rfl,
      ?_, hreqs, hcfg, fun h1 h2 h3 => ?_⟩
    · rw [heq]
      rfl
    · rw [hgnt]
      simp [Port.refilled]
    · rw [hdue h1 h2 h3]
      rfl
  · rw [exec_budgetWindowBoundary p hw]
    obtain ⟨hmode, hresync⟩ := auditBooks_of_bad (s := s.atLeast (w + (s.port p.val).cfg.windowLen.toNat * 1000)) p.isLt hbad hc hl
    generalize auditBooks p.val (s.atLeast (w + (s.port p.val).cfg.windowLen.toNat * 1000)) = u at hmode hresync ⊢
    obtain ⟨t, ht, heq, -, -, a, b, hport, -⟩ := windowStarts p.val u
    rw [ht]
    refine ⟨t, rfl, by rw [heq]; exact hmode, ?_, ?_⟩
    · rcases hport with hport | hport <;> rw [hport] <;> exact hresync
    · rcases hport with hport | hport <;> rw [hport] <;> rfl
  · rw [hn]
    rfl
  · exact congrArg Outcome.next (if_pos hbal)
  · rw [exec_reservePeriodAudit, overdrawn_of_within hsh hfit hacts, if_neg Bool.false_ne_true]
    refine congrArg Outcome.next (congrArg (s.updPc q.val) (funext fun x => ?_))
    rw [PcMig.nextPeriod, Bool.or_false]
  · have hm' : m = mate (q.val / 2) := hmate
    rw [hm'] at hm ⊢
    have htaken := fault_takenOver (gloveSource_ctrl q) { channel := some (Fin.ofNat 16 (q.val / 2)), pc := q.val % 2 = 1 } hon hn hm
    exact ⟨_, congrArg Outcome.next (if_neg hbal), htaken.failed.1, htaken.mate.1⟩
  · have hm' : m = mate (q.val / 2) := hmate
    rw [hm'] at hm ⊢
    have hbad : s.overdrawn q.val = true := by
      rw [State.overdrawn, decide_eq_true (by split <;> omega), Bool.true_or]
    rw [exec_reservePeriodAudit, hbad, if_pos rfl]
    have hself := s.updPc_pc q.val q.val (fun x => { x with mg := x.mg.nextPeriod true })
    rw [if_pos rfl] at hself
    have hfr := s.updPc_fr q.val (fun x => { x with mg := x.mg.nextPeriod true })
    generalize s.updPc q.val (fun x => { x with mg := x.mg.nextPeriod true }) = u at hself hfr ⊢
    have hon' : u.collectorOff = false := by rw [State.collectorOff, hfr.pwr rfl, hfr.bist rfl]; exact hon
    have hn' := (congrArg Channel.glove (hfr.chan rfl (q.val / 2))).trans hn
    have hm'' := (congrArg Channel.glove (hfr.chan rfl (mate (q.val / 2)))).trans hm
    have htaken := fault_takenOver (gloveSource_ctrl q) { channel := some (Fin.ofNat 16 (q.val / 2)), pc := q.val % 2 = 1 } hon' hn' hm''
    have hkept := fault_of_pair_margins (gloveSource_ctrl q) { channel := some (Fin.ofNat 16 (q.val / 2)), pc := q.val % 2 = 1 } hon' hn' hm''
      q.val
    refine ⟨_, rfl, htaken.failed.1, htaken.mate.1, (congrArg PcMig.auditFail hkept).trans ?_⟩
    rw [State.margins, hself]
    exact Bool.or_true _

end Sys2Proof.Machine
end

section
/-! SUPPORT. Management requests (R209, R210, R456). -/

namespace Sys2Proof.Machine

open Host

variable {s t u : State} {p : Nat} {x y : Port} {r e : Req}

/-- A port once its management request has left the receive buffer. -/
def mgmtTaken (p : Nat) (b : BitVec 96) (s : State) : State :=
  if (s.port p).tx.rx.any (RxItem.isMgmtReq b) then takeMsg p 0x12 s else s

theorem takeMsg_sublist (p c : Nat) (s : State) : ((takeMsg p c s).port p).tx.rx.Sublist (s.port p).tx.rx := by
  unfold takeMsg
  split
  · rw [State.updPort_port_self]
    exact dropFirst_sublist ..
  · exact .refl _

theorem mgmtArrived (p : Nat) (b : BitVec 96) (s : State) : Arrived p s (requestArrives p (mgmtTaken p b s)) := by
  unfold mgmtTaken
  split
  · obtain ⟨rx, d, hport⟩ := takeMsg_port p 0x12 s
    exact arrives_of (takeMsg_within ..) (by rw [hport]) (takeMsg_sublist ..)
  · exact arrives_of (.refl ..) rfl (.refl _)

/-- What follows the opening of the tag of a management request. -/
def mgmtOpened (p : Nat) (op : Op) (h : ReqHeader) (s : State) : State :=
  if (s.port p).fenced ∧ decide (op = .mattest) then answerMgmt p h.tag.toNat .fenced [] s
  else if !mgmtAllowed op h then answerMgmt p h.tag.toNat .unsupported [] s
  else if s.signing p then answerMgmt p h.tag.toNat .busy [] s
  else if decide (op = .mattest) ∧ (s.port p).cfg.attestPeriod = 0 then answerMgmt p h.tag.toNat .unsupported [] s
  else if decide (op = .mattest) ∧ (s.tooSoon p || s.sup.restarting) then answerMgmt p h.tag.toNat .busy [] s
  else serveMgmt p s

/-- The request that a management header opens. -/
def mgmtReq (op : Op) (h : ReqHeader) (nonce : BitVec 256) (now : Nat) : Req := { newReq op h now with phase := .mgmt, nonce := nonce }

theorem receiveMgmt_eq {op : Op} {h : ReqHeader} {b : BitVec 96} (n : BitVec 256)
    (hb : b = BitVec.ofNat 96 (headerBits op.code h + h.hcheck.toNat * 2 ^ 80)) (hs : (s.port p).inSession = true)
    (hturn : (s.port p).tx.rx.any (RxItem.isMgmtReq b) = true →
      ((s.port p).tx.rx.find? (RxItem.isMsg 0x12)).any (RxItem.isMgmtReq b) = true) :
    receiveMgmt p op h n s = serveOthers p (openTag p op h (mgmtReq op h n s.now) (mgmtOpened p op h) (mgmtTaken p b s)) := by
  have hnow : (mgmtTaken p b s).now = s.now := by
    unfold mgmtTaken
    split
    · exact (takeMsg_within ..).fr.now rfl
    · rfl
  rw [← hnow]
  subst hb
  refine if_neg ?_
  rintro (h | ⟨h, hnot⟩)
  · rw [hs] at h
    exact absurd h (by decide)
  · rw [hturn h] at hnot
    exact absurd hnot (by decide)

/-- A management answer queues its item. -/
theorem answerMgmt_spec (p tag : Nat) (st : Status) (d : List Byte) (s : State) : Within p s (answerMgmt p tag st d s) ∧
    ((answerMgmt p tag st d s).port p).tx = (s.port p).tx ∧
    ((answerMgmt p tag st d s).port p).outq = (s.port p).outq ++ [mgmtItem tag st d] := by
  unfold answerMgmt
  rw [State.updPort_port_self]
  exact ⟨State.updPort_within .., rfl, rfl⟩

/-- The state in which the checks of a management request find it. -/
structure MgmtReady (p : Nat) (op : Op) (h : ReqHeader) (n : BitVec 256) (s v : State) : Prop where
  reqs : (v.port p).reqs = [mgmtReq op h n s.now]
  outq : (v.port p).outq = []
  fenced : (v.port p).fenced = (s.port p).fenced
  period : (v.port p).cfg.attestPeriod = (s.port p).cfg.attestPeriod
  att : v.att = s.att
  sup : v.sup = s.sup
  tooSoon : v.tooSoon p = s.tooSoon p
  rx : Port.plainRx (v.port p).tx.rx

theorem mgmtReady {op : Op} {h : ReqHeader} (n : BitVec 256) (ha : Arrived p s u) (hreqs : (s.port p).reqs = []) (hout : (s.port p).outq = [])
    (hplain : Port.plainRx (s.port p).tx.rx) : MgmtReady p op h n s (u.updPort p (Port.opens (mgmtReq op h n s.now))) := by
  obtain ⟨hfr, -, ⟨xt, xr, xw, xh, xi, hport⟩, hrx⟩ := ha
  have hself := u.updPort_port_self p (Port.opens (mgmtReq op h n s.now))
  have hplain' := hplain.sublist hrx
  have hup := u.updPort_fr p (Port.opens (mgmtReq op h n s.now))
  generalize u.updPort p (Port.opens (mgmtReq op h n s.now)) = v at hself hup ⊢
  rw [hport] at hself hplain'
  refine ⟨?_, by rw [hself]; exact hout, by rw [hself]; rfl, by rw [hself]; rfl, (hup.att rfl).trans (hfr.att rfl),
    (hup.sup rfl).trans (hfr.sup rfl), ?_, by rw [hself]; exact hplain'⟩
  · rw [hself]
    exact congrArg (· ++ _) hreqs
  · rw [State.tooSoon, hself, hup.now rfl, hfr.now rfl]
    rfl

section
variable {op : Op} {h : ReqHeader} {n : BitVec 256} (hv : MgmtReady p op h n s u)
include hv

theorem MgmtReady.answered (tag : Nat) (st : Status) (d : List Byte) : ∃ t, serveOthers p (answerMgmt p tag st d u) = t ∧ Within p u t ∧
    (t.port p).outq = [mgmtItem tag st d] ∧ t.att = s.att := by
  obtain ⟨hway, htx, hout⟩ := answerMgmt_spec p tag st d u
  refine ⟨_, serveOthers_of_plain (by rw [htx]; exact hv.rx), hway, by rw [hout, hv.outq]; rfl, (hway.fr.att rfl).trans hv.att⟩

theorem MgmtReady.serves (hsign : s.signing p = false) : serveMgmt p u = serveOne p (mgmtReq op h n s.now) u := by
  have hidle : ((u.port p).outq.any OutItem.isMgmt || u.signing p) = false := by
    rw [hv.outq, State.signing, hv.att]
    exact hsign
  unfold serveMgmt
  dsimp only
  rw [if_neg (by rw [hidle]; decide), hv.reqs]
  rfl

theorem MgmtReady.mread (hop : op = .mread) (hall : mgmtAllowed op h = true) (hsign : s.signing p = false) :
    mgmtOpened p op h u = serveOne p (mgmtReq op h n s.now) u := by
  have hsign' : u.signing p = false := by rw [State.signing, hv.att]; exact hsign
  unfold mgmtOpened
  subst hop
  rw [if_neg (by simp), if_neg (by simp [hall]), if_neg (by simp [hsign']), if_neg (by simp), if_neg (by simp), hv.serves hsign]

theorem MgmtReady.mattest_fenced (hop : op = .mattest) (hf : (s.port p).fenced = true) :
    mgmtOpened p op h u = answerMgmt p h.tag.toNat .fenced [] u :=
  if_pos ⟨by rw [hv.fenced, hf], decide_eq_true hop⟩

section
variable (hop : op = .mattest) (hf : (s.port p).fenced = false) (hall : mgmtAllowed op h = true) (hsign : s.signing p = false)
include hop hf hall hsign

theorem MgmtReady.mattest_off (hoff : (s.port p).cfg.attestPeriod = 0) :
    mgmtOpened p op h u = answerMgmt p h.tag.toNat .unsupported [] u := by
  have hsign' : u.signing p = false := by rw [State.signing, hv.att]; exact hsign
  unfold mgmtOpened
  rw [if_neg (by simp [hv.fenced, hf]), if_neg (by simp [hall]), if_neg (by simp [hsign']),
    if_pos ⟨decide_eq_true hop, by rw [hv.period, hoff]⟩]

theorem MgmtReady.mattest_busy (hon : (s.port p).cfg.attestPeriod ≠ 0) (hbusy : s.tooSoon p = true ∨ s.sup.restarting = true) :
    mgmtOpened p op h u = answerMgmt p h.tag.toNat .busy [] u := by
  have hsign' : u.signing p = false := by rw [State.signing, hv.att]; exact hsign
  unfold mgmtOpened
  rw [if_neg (by simp [hv.fenced, hf]), if_neg (by simp [hall]), if_neg (by simp [hsign']),
    if_neg (by rintro ⟨-, h0⟩; exact hon (hv.period ▸ h0)), if_pos ⟨decide_eq_true hop, by simpa [hv.tooSoon, hv.sup] using hbusy⟩]

omit hop in
theorem MgmtReady.mattest (hon : (s.port p).cfg.attestPeriod ≠ 0) (hsoon : s.tooSoon p = false) (hsup : s.sup.restarting = false) :
    mgmtOpened p op h u = serveOne p (mgmtReq op h n s.now) u := by
  have hsign' : u.signing p = false := by rw [State.signing, hv.att]; exact hsign
  unfold mgmtOpened
  rw [if_neg (by simp [hv.fenced, hf]), if_neg (by simp [hall]), if_neg (by simp [hsign']),
    if_neg (by rintro ⟨-, h0⟩; exact hon (hv.period ▸ h0)), if_neg (by simp [hv.tooSoon, hv.sup, hsoon, hsup]), hv.serves hsign]

end

end

/-- What an MREAD is answered. -/
theorem serveOne_mread {h : ReqHeader} {n : BitVec 256} {now : Nat} (v : State) : ∃ st d,
    serveOne p (mgmtReq .mread h n now) v = answerMgmt p h.tag.toNat st d v ∧
      (∀ d', h.block.toNat < 65536 → v.mreadPage p h.block.toNat = some d' → st = .ok ∧ d = d') ∧
      ((65536 ≤ h.block.toNat ∨ v.mreadPage p h.block.toNat = none) → st = .unsupported ∧ d = []) := by
  have hone : serveOne p (mgmtReq .mread h n now) v = match (if h.block.toNat < 65536 then v.mreadPage p h.block.toNat else none) with
    | some d => answerMgmt p h.tag.toNat .ok d v
    | none => answerMgmt p h.tag.toNat .unsupported [] v := rfl
  rw [hone]
  by_cases hlt : h.block.toNat < 65536
  · rw [if_pos hlt]
    cases hpage : v.mreadPage p h.block.toNat with
    | some d => exact ⟨.ok, d, rfl, by rintro _ - ⟨⟩; exact ⟨rfl, rfl⟩, fun h => h.elim (by omega) (fun h => by cases h)⟩
    | none => exact ⟨.unsupported, [], rfl, by rintro _ - ⟨⟩, fun _ => ⟨rfl, rfl⟩⟩
  · rw [if_neg hlt]
    exact ⟨.unsupported, [], rfl, fun d h => absurd h hlt, fun _ => ⟨rfl, rfl⟩⟩

/-- A report asked for behind requests that are not to come after it. -/
theorem askReport_queue {a : AttReq} (h : ∀ e ∈ s.att.queue, e.after a = false) : (askReport a s).att.queue = s.att.queue ++ [a] := by
  have htake : s.att.queue.takeWhile (fun e => !e.after a) = s.att.queue := List.takeWhile_eq_self_iff.mpr (by simpa using h)
  have hdrop : s.att.queue.dropWhile (fun e => !e.after a) = [] := List.dropWhile_eq_nil_iff.mpr (by simpa using h)
  change _ ++ a :: _ = _
  rw [htake, hdrop]

/-- Settles O32: the checks of `mgmtOpened`, one theorem for each answer, on the state of `mgmtReady`. -/
theorem managementRequestsAreAnswered : Obligations.ManagementRequestsAreAnswered := by
  unfold Obligations.ManagementRequestsAreAnswered
  intro p op h n b s u hs hop hb hturn hplain hreqs hout hsign hu hlabel hdead hcheck hallowed
  replace hu : u = requestArrives p.val (mgmtTaken p.val b s) := hu
  have harr : Arrived p.val s u := hu ▸ mgmtArrived p.val b s
  have hall : mgmtAllowed op h = true := by simp [mgmtAllowed, hallowed, hlabel, hdead]
  have hureqs : (u.port p.val).reqs = [] := by
    obtain ⟨-, -, ⟨xt, xr, xw, xh, xi, hport⟩, -⟩ := harr
    rw [hport, hreqs]
  have hrun (n : BitVec 256) : receiveMgmt p.val op h n s =
      serveOthers p.val (mgmtOpened p.val op h (u.updPort p.val (Port.opens (mgmtReq op h n s.now)))) := by
    rw [receiveMgmt_eq n hb hs hturn, openTag_of_free hcheck (by rw [← hu, hureqs]; exact fun e he => absurd he (List.not_mem_nil)), ← hu]
  have hup (n : BitVec 256) := u.updPort_within p.val (Port.opens (mgmtReq op h n s.now))
  have hready (n : BitVec 256) := mgmtReady (op := op) (h := h) n harr hreqs hout hplain
  refine ⟨fun hrx hrung hentry => ?_, fun v hmread hvdef => ?_, fun hatt hf => ?_, fun hatt hf hoff => ?_, fun hatt hf hon hbusy => ?_,
    fun hatt hf hon hsoon hsup hlast => ?_⟩
  · have htaken : mgmtTaken p.val b s = s := if_neg (by simp [hrx])
    rw [hu, htaken, requestArrives_of_ready hrung hentry]
  · have hexec : exec (.mread p h) s = .next (receiveMgmt p.val op h 0 s) := by rw [hmread]; rfl
    have hv : u.updPort p.val (Port.opens (mgmtReq op h 0 s.now)) = v := by
      rw [hvdef]
      refine State.updPort_congr ?_
      rw [Port.opens, hureqs, hmread]
      rfl
    rw [hexec, hrun 0, (hready 0).mread hmread hall hsign]
    have hready0 := hready 0
    have hway := hup 0
    rw [hv] at hready0 hway ⊢
    obtain ⟨st, d, hone, hok, hbad⟩ := serveOne_mread (p := p.val) (h := h) (n := 0) (now := s.now) v
    rw [hmread, hone]
    obtain ⟨t, ht, hrest, hq, -⟩ := hready0.answered h.tag.toNat st d
    refine ⟨t, congrArg _ ht, (hway.trans hrest).eq, (hway.trans hrest).others, fun d' hlt hpage => ?_, fun hnone => ?_⟩
    · obtain ⟨rfl, rfl⟩ := hok d' hlt hpage
      exact hq
    · obtain ⟨rfl, rfl⟩ := hbad hnone
      exact hq
  all_goals
    have hexec : exec (.mattest p h n) s = .next (receiveMgmt p.val op h n s) := by rw [hatt]; rfl
    rw [hexec, hrun n]
  · rw [(hready n).mattest_fenced hatt hf]
    obtain ⟨t, ht, -, hq, hatt'⟩ := (hready n).answered h.tag.toNat .fenced []
    exact ⟨t, congrArg _ ht, hq, hatt'⟩
  · rw [(hready n).mattest_off hatt hf hall hsign hoff]
    obtain ⟨t, ht, -, hq, hatt'⟩ := (hready n).answered h.tag.toNat .unsupported []
    exact ⟨t, congrArg _ ht, hq, hatt'⟩
  · rw [(hready n).mattest_busy hatt hf hall hsign hon hbusy]
    obtain ⟨t, ht, -, hq, hatt'⟩ := (hready n).answered h.tag.toNat .busy []
    exact ⟨t, congrArg _ ht, hq, hatt'⟩
  · rw [(hready n).mattest hf hall hsign hon hsoon hsup]
    have hready' := hready n
    generalize u.updPort p.val (Port.opens (mgmtReq op h n s.now)) = v at hready' ⊢
    have hone : serveOne p.val (mgmtReq op h n s.now) v = askReport { port := some p.val, tag := h.tag.toNat, nonce := n, at_ := s.now } v :=
      if_pos hatt
    have hport : (askReport { port := some p.val, tag := h.tag.toNat, nonce := n, at_ := s.now } v).port p.val = v.port p.val := rfl
    rw [hone, serveOthers_of_plain (by rw [hport]; exact hready'.rx)]
    exact ⟨_, rfl, by rw [hport]; exact hready'.outq, by rw [askReport_queue (by rw [hready'.att]; exact hlast), hready'.att]⟩

end Sys2Proof.Machine
end

section
/-! SUPPORT. The test access port (R493, R494) and the scheduler tick (R436). -/

namespace Sys2Proof.Machine

open Host

variable {s t u : State}

/-! ## Instructions of FACTORY -/

theorem tapSelect_of_up (i : TapInstr) (hg : s.pwrgood = true) : tapSelect i s = { s with pins.trstN := true, tap.ir := i } := if_pos hg

theorem tapFactory_of_factory (i : TapInstr) (f : State → State) (hg : s.pwrgood = true) (hm : s.mode = .factory) :
    tapFactory i f s = f { s with pins.trstN := true, tap.ir := i } := by
  unfold tapFactory
  rw [if_neg (by simp [hg]), if_pos hm, tapSelect_of_up i hg]

/-- An instruction refused outside FACTORY: the bypass register, and the count of refusals. -/
def tapRefused (s : State) : State :=
  { s with pins.trstN := true, tap.ir := .bypass, bist.tapRefused := satInc s.bist.tapRefused }

theorem tapFactory_of_other (i : TapInstr) (f : State → State) (hg : s.pwrgood = true) (hm : s.mode ≠ .factory) :
    tapFactory i f s = fault 246 {} (tapRefused s) := by
  unfold tapFactory
  rw [if_neg (by simp [hg]), if_neg hm, tapSelect_of_up .bypass hg]
  rfl

theorem perEvent_tap (d : EventDetail) (s : State) : perEvent 246 d s = s := by
  unfold perEvent
  rw [if_neg (by decide), if_neg (by decide), if_neg (by decide)]

/-- What an instruction of FACTORY does besides its selection touches the test access port alone, and not its instruction. -/
def tapOnly (f : State → State) : Prop := ∀ t, ∃ x, f t = { t with tap := x } ∧ x.ir = t.tap.ir

theorem exec_tap {l : BitVec 18} {w : List (LayerId × Word)} {c : Instr} {i : TapInstr}
    (h : (c, i) = (.samplePreload, .samplePreload) ∨ (c, i) = (.extest, .extest) ∨ (c, i) = (.clamp, .clamp) ∨ (c, i) = (.highz, .highz) ∨
      (c, i) = (.extestPulse, .extestPulse) ∨ (c, i) = (.extestTrain, .extestTrain) ∨ (c, i) = (.dieSelect l, .dieSelect) ∨
      (c, i) = (.dieAccess w, .dieAccess)) (s : State) : ∃ f, tapOnly f ∧ exec c s = .next (tapFactory i f s) := by
  have hid : tapOnly id := fun t => ⟨t.tap, rfl, rfl⟩
  rcases h with h | h | h | h | h | h | h | h <;> obtain ⟨rfl, rfl⟩ := Prod.mk.inj h
  · exact ⟨sampleBalls, fun t => ⟨_, rfl, rfl⟩, rfl⟩
  iterate 5 exact ⟨id, hid, rfl⟩
  · exact ⟨fun s => { s with tap.die := l }, fun t => ⟨_, rfl, rfl⟩, rfl⟩
  · exact ⟨shiftWrappers w, fun t => ⟨_, rfl, rfl⟩, rfl⟩

/-! ## The boundary-scan register -/

theorem scanned_of_ball {p : Signal} (ht : p ≠ .laneTx) (hr : p ≠ .laneRx) (s : State) : s.scanned p = true := by
  simp [State.scanned, ht, hr]

theorem outputBall_of_driven {p : Signal} (hi : s.tap.ir = .extest ∨ s.tap.ir = .clamp) (ho : p.isOut = true) (ht : p ≠ .laneTx) :
    s.outputBall p = s.boundaryCell p := by
  have hr : p ≠ .laneRx := by rintro rfl; exact absurd ho (by decide)
  rcases hi with hi | hi <;> simp [State.outputBall, hi, ho, scanned_of_ball ht hr]

theorem outputBall_of_highz {p : Signal} (hi : s.tap.ir = .highz) (ho : p.isOut = true) (ht : p ≠ .laneTx) : s.outputBall p = .highZ := by
  have hr : p ≠ .laneRx := by rintro rfl; exact absurd ho (by decide)
  simp [State.outputBall, hi, ho, scanned_of_ball ht hr]

/-- The first entry of a signal in a table of signals with their levels. -/
theorem find_cell {l : List Signal} {f : Signal → Drive} {p : Signal} (h : p ∈ l) :
    (l.map (fun q => (q, f q))).find? (fun e => decide (e.1 = p)) = some (p, f p) := by
  induction l with
  | nil => exact absurd h List.not_mem_nil
  | cons q l ih =>
    by_cases hq : q = p
    · simp [hq]
    · simpa [hq] using ih ((List.mem_cons.mp h).resolve_left (Ne.symm hq))

theorem sampled_cell {p : Signal} (ht : p ≠ .laneTx) (hr : p ≠ .laneRx) (s : State) : (sampleBalls s).boundaryCell p = s.drive p := by
  have hall : p ∈ Signal.all.filter s.scanned := List.mem_filter.mpr ⟨by cases p <;> decide, scanned_of_ball ht hr s⟩
  have hcell : (sampleBalls s).tap.boundary.find? (fun e => decide (e.1 = p)) = some (p, s.drive p) := find_cell hall
  unfold State.boundaryCell
  rw [hcell]

/-- The levels driven do not depend on the test access port's registers. -/
theorem drive_of_tap (x : TapState) (p : Signal) (s : State) : ({ s with tap := x } : State).drive p = s.drive p := by
  cases p <;> rfl

theorem drive_of_trst {p : Signal} (h1 : p ≠ .tdo) (h2 : p ≠ .trstN) (b : Bool) (s : State) :
    ({ s with pins.trstN := b } : State).drive p = s.drive p := by
  cases p <;> first | rfl | contradiction

/-! ## Ticks -/

theorem CounterSet.add_cycle (c : CounterSet) (k n : Nat) : (c.add k n).cycle = c.cycle := by
  unfold CounterSet.add
  dsimp only
  split <;> rfl

theorem CounterSet.adds_cycle (l : List (Nat × Nat)) (c : CounterSet) : (l.foldl (fun c a => c.add a.1 a.2) c).cycle = c.cycle := by
  induction l generalizing c with
  | nil => rfl
  | cons a l ih => rw [List.foldl_cons, ih, CounterSet.add_cycle]

theorem CounterSet.advance_cycle (c : CounterSet) : c.advance.cycle = c.cycle + 1 := by
  unfold CounterSet.advance
  dsimp only
  split <;> rfl

theorem tickSet_other {i j : Nat} (h : j ≠ i) (s : State) : (tickSet i s).cset j = s.cset j := by
  unfold tickSet
  split
  · dsimp only
    rw [State.updCset_cset, if_neg h]
  · rfl

theorem tickSet_cycle {i : Nat} (hc : (s.cset i).counts = true) (hp : s.setPresent i = true) :
    ((tickSet i s).cset i).cycle = (s.cset i).cycle + 1 := by
  unfold tickSet
  rw [if_pos (by simp [hc, hp])]
  dsimp only
  rw [State.updCset_cset, if_pos rfl, CounterSet.adds_cycle, CounterSet.advance_cycle]

theorem tickSet_of_still {i : Nat} (h : (s.cset i).counts = false ∨ s.setPresent i = false) : tickSet i s = s :=
  if_neg (by rcases h with h | h <;> simp [h])

theorem ticks_fr (n : Nat) (s : State) : Fr 134217728 s (forN n tickSet s) := Fr.forN tickSet_fr n (.refl ..)

theorem ticks_beyond (n : Nat) {j : Nat} (h : n ≤ j) (s : State) : (forN n tickSet s).cset j = s.cset j := by
  induction n with
  | zero => rfl
  | succ n ih => rw [forN_succ, tickSet_other (by omega), ih (by omega)]

theorem setPresent_ticks (n i : Nat) (s : State) : (forN n tickSet s).setPresent i = s.setPresent i := by
  rw [State.setPresent, (ticks_fr n s).portPresent rfl, State.setPresent]

theorem ticks_still (n : Nat) {j : Nat} (h : (s.cset j).counts = false ∨ s.setPresent j = false) : (forN n tickSet s).cset j = s.cset j := by
  induction n with
  | zero => rfl
  | succ n ih =>
    rw [forN_succ]
    by_cases hj : j = n
    · subst hj
      rw [tickSet_of_still (by rw [ih, setPresent_ticks]; exact h), ih]
    · rw [tickSet_other hj, ih]

/-- Every running set below n has counted one cycle. -/
theorem ticks_cycle (n : Nat) {j : Nat} (hj : j < n) (hc : (s.cset j).counts = true) (hp : s.setPresent j = true) :
    ((forN n tickSet s).cset j).cycle = (s.cset j).cycle + 1 := by
  induction n with
  | zero => exact absurd hj (by omega)
  | succ n ih =>
    rw [forN_succ]
    by_cases h : j = n
    · subst h
      have hsame := ticks_beyond j (Nat.le_refl j) s
      rw [tickSet_cycle (by rw [hsame]; exact hc) (by rw [setPresent_ticks]; exact hp), hsame]
    · rw [tickSet_other h]
      exact ih (by omega)

/-- A tick with the power up: the time, the first steps of BOOT, the counters. -/
theorem exec_schedulerTick (hg : s.pwrgood = true) (hup : s.bist.shutDown = false) (hu : u = bootTick { s with now := s.now + 1 }) :
    Fr 386 s u ∧ exec .schedulerTick s = .next (if s.ticking then forN 32 tickSet u else u) := by
  have hfr : Fr 386 s u := by
    have hnow : Fr 2 s { s with now := s.now + 1 } := Fr.u2 (.refl ..) rfl
    exact hu ▸ (hnow.or (bootTick_fr _)).mono rfl
  have htick : u.ticking = s.ticking := by rw [State.ticking, hfr.mode rfl, hfr.pwr rfl, State.ticking]
  refine ⟨hfr, ?_⟩
  have hrun : exec .schedulerTick s = .next (shutdownAdvance (if u.ticking then forN 32 tickSet u else u)) := by
    rw [hu]
    exact if_neg (by simp [hg])
  rw [hrun, htick, shutdownAdvance_of_up]
  have hup' : u.bist.shutDown = false := by rw [hfr.bist rfl]; exact hup
  split
  · rw [(ticks_fr 32 u).bist rfl, hup']
  · exact hup'

theorem bootTick_step1 (hm : s.mode = .boot) (h : s.boot.step = 1) : bootTick s = { s with boot.step := 2 } := if_pos ⟨hm, h⟩

theorem bootTick_step2 (hm : s.mode = .boot) (h : s.boot.step = 2) :
    bootTick s = { s with boot.step := 3, pins.vid := some 0x18, boot.vcoreWait := !s.pins.vcoreOk } :=
  (if_neg (by rw [h]; exact fun h => absurd h.2 (by decide))).trans (if_pos ⟨hm, h⟩)

theorem bootTick_of_booted (hm : s.mode ≠ .boot) : bootTick s = s := (if_neg (fun h => hm h.1)).trans (if_neg (fun h => hm h.1))

/-- The wrapper registers after one word shifted to layer k. -/
theorem shiftWrappers_wrapper (k : LayerId) (w : Word) (j : Nat) (s : State) : tabGet 0 (shiftWrappers [(k, w)] s).tap.wrapper j =
    if j = k.val ∧ s.tap.die.getLsbD k.val = true ∧ s.fitted k.val = true then w else tabGet 0 s.tap.wrapper j := by
  change tabGet 0 (if s.tap.die.getLsbD k.val ∧ s.fitted k.val then tabSet 0 s.tap.wrapper k.val w else s.tap.wrapper) j = _
  by_cases h : s.tap.die.getLsbD k.val = true ∧ s.fitted k.val = true
  · rw [if_pos h, tabGet_tabSet]
    simp [h]
  · rw [if_neg h, if_neg (fun hj => h hj.2)]

/-- Settles O58: every instruction is one of `tapFactory`, and a tick is `exec_schedulerTick`. -/
theorem testAccessActsInFactoryAndTicksCount : Obligations.TestAccessActsInFactoryAndTicksCount := by
  unfold Obligations.TestAccessActsInFactoryAndTicksCount
  refine ⟨fun s => rfl, fun c i s hc => ⟨fun hg => ?_, fun hg => ?_⟩, fun l w c i s hc hg => ⟨fun hm => ?_, fun hm hq => ?_⟩,
    fun l s hg hm => ⟨⟨_, congrArg Outcome.next (tapFactory_of_factory _ _ hg hm), rfl, rfl⟩, ?sample, fun p ho ht => ⟨?extest, ?clamp, ?highz⟩, fun k w => ?die⟩,
    fun s => ⟨fun hg => if_pos (by simp [hg]), fun hg hup => ?tick⟩⟩
  · rcases hc with h | h <;> obtain ⟨rfl, rfl⟩ := Prod.mk.inj h <;> exact congrArg Outcome.next (tapSelect_of_up _ hg)
  · rcases hc with h | h <;> obtain ⟨rfl, rfl⟩ := Prod.mk.inj h <;> exact congrArg Outcome.next (if_neg (by simp [hg]))
  · obtain ⟨f, hf, hexec⟩ := exec_tap hc s
    rw [tapFactory_of_factory i f hg hm] at hexec
    obtain ⟨x, hx, hir⟩ := hf { s with pins.trstN := true, tap.ir := i }
    rw [hx] at hexec
    exact ⟨_, hexec, hir, rfl, rfl, rfl, rfl, hm, rfl⟩
  · obtain ⟨f, -, hexec⟩ := exec_tap hc s
    have hevent : fault 246 {} (tapRefused s) = (tapRefused s).withEvent 246 := by
      rw [fault_of_quiet (s := tapRefused s) {} (by decide) (by decide) hq, perEvent_tap]
    rw [tapFactory_of_other i f hg hm, hevent] at hexec
    exact ⟨_, hexec, rfl, rfl, by rw [State.withEvent_src_self]; rfl, rfl, rfl, rfl⟩
  case sample =>
    refine ⟨_, congrArg Outcome.next (tapFactory_of_factory _ _ hg hm), fun p ht hr => ⟨?_, fun h1 h2 => ?_⟩⟩
    · rw [sampled_cell ht hr]
      exact (drive_of_tap _ p _).symm
    · exact (drive_of_tap _ p _).trans (drive_of_trst h1 h2 true s)
  case extest => exact ⟨_, congrArg Outcome.next (tapFactory_of_factory _ _ hg hm), rfl, outputBall_of_driven (.inl rfl) ho ht⟩
  case clamp => exact ⟨_, congrArg Outcome.next (tapFactory_of_factory _ _ hg hm), rfl, outputBall_of_driven (.inr rfl) ho ht⟩
  case highz => exact ⟨_, congrArg Outcome.next (tapFactory_of_factory _ _ hg hm), outputBall_of_highz rfl ho ht⟩
  case die =>
    refine ⟨_, congrArg Outcome.next (tapFactory_of_factory _ _ hg hm), ?_, fun j hj => ?_⟩
    · rw [shiftWrappers_wrapper]
      simp only [true_and]
      rfl
    · rw [shiftWrappers_wrapper, if_neg (fun h => hj h.1)]
  case tick =>
    have hnow : (bootTick { s with now := s.now + 1 }).now = s.now + 1 := (bootTick_fr _).now rfl
    have h1 (hm : s.mode = .boot) (h : s.boot.step = 1) : (bootTick { s with now := s.now + 1 }).boot.step = 2 := by
      rw [bootTick_step1 (s := { s with now := s.now + 1 }) hm h]
    have h2 (hm : s.mode = .boot) (h : s.boot.step = 2) : (bootTick { s with now := s.now + 1 }).boot.step = 3 ∧
        (bootTick { s with now := s.now + 1 }).pins.vid = some 0x18 := by
      rw [bootTick_step2 (s := { s with now := s.now + 1 }) hm h]
      exact ⟨rfl, rfl⟩
    have h3 (hm : s.mode ≠ .boot) : (bootTick { s with now := s.now + 1 }).boot = s.boot := by
      rw [bootTick_of_booted (s := { s with now := s.now + 1 }) hm]
    obtain ⟨hfr, hexec⟩ := exec_schedulerTick hg hup rfl
    generalize bootTick { s with now := s.now + 1 } = u at hnow h1 h2 h3 hfr hexec
    have hcount : Fr 134217728 u (if s.ticking then forN 32 tickSet u else u) := Fr.iteT (ticks_fr ..) (.refl ..)
    have hcset (i : Nat) : u.cset i = s.cset i := by rw [State.cset, hfr.pmc rfl, State.cset]
    have hpres (i : Nat) : u.setPresent i = s.setPresent i := by rw [State.setPresent, hfr.portPresent rfl, State.setPresent]
    have hall := hfr.or hcount
    refine ⟨_, hexec, (hcount.now rfl).trans hnow, hall.mode rfl, hall.mem rfl, hall.ports rfl, hall.flt rfl,
      fun ht i hi hc hp => ?_, fun i hi => ?_, fun hm h => by rw [hcount.boot rfl]; exact h1 hm h,
      fun hm h => by rw [hcount.boot rfl, hcount.pins rfl]; exact h2 hm h, fun hm => by rw [hcount.boot rfl]; exact h3 hm⟩
    · rw [if_pos ht, ticks_cycle 32 hi (by rw [hcset]; exact hc) (by rw [hpres]; exact hp), hcset]
    · by_cases ht : s.ticking = true
      · rw [if_pos ht, ticks_still 32 (by rw [hcset, hpres]; exact hi.resolve_left (by simp [ht])), hcset]
      · rw [if_neg ht, hcset]

end Sys2Proof.Machine
end

section
/-! SUPPORT. Committed actions (R25, R470), and the way down the power ladder (R382 to R393). -/

namespace Sys2Proof.Machine

open Host

variable {s t u : State} {p : Nat} {x y : Port}

/-! ## A command that commits -/

/-- The state in which the action of a committed command finds the stack: the pointer of its address set. -/
def State.pointed (c : Instr) (s : State) : State := setPointer (actionAddr c + 4) { s with mb.crc := none }

theorem State.pointed_eq (c : Instr) (s : State) : ∃ m, s.pointed c = { s with mb := m } ∧ m.busy = s.mb.busy ∧ m.transfer = s.mb.transfer := by
  unfold State.pointed setPointer
  split
  · exact ⟨_, rfl, rfl, rfl⟩
  · exact ⟨_, rfl, rfl, rfl⟩

theorem State.commits.idle {c : Instr} (h : s.commits c) : s.mb.busy = none := by
  obtain ⟨hlisten, -⟩ := h
  simp only [State.listens, Bool.and_eq_true] at hlisten
  exact Option.isNone_iff_eq_none.mp hlisten.1.1.2

theorem commit_of_commits {c : Instr} (h : s.commits c) : commit c s = closeTransfer (actionEffect c s.currentView (s.pointed c)) := by
  obtain ⟨hlisten, hfollow, haccept, hview, hsup⟩ := h
  have hpointed : (s.pointed c).accepts c = s.accepts c ∧ (s.pointed c).sup = s.sup := by
    obtain ⟨m, hm, -⟩ := s.pointed_eq c
    rw [hm]
    exact ⟨rfl, rfl⟩
  unfold commit
  rw [if_pos (by rw [hlisten, hfollow]; rfl)]
  change carryOut c s.currentView (s.pointed c) = _
  unfold carryOut
  rw [if_pos (by rw [hpointed.1, haccept, hview]; rfl), if_neg (by rw [hpointed.2, hsup]; simp)]

theorem closeTransfer_of_idle (h : s.mb.busy = none) : closeTransfer s = s := if_neg (by rw [h]; decide)

/-- An action that starts no long operation: it runs, and nothing else happens. -/
theorem commit_of_short {c : Instr} (h : s.commits c) (hkeep : (actionEffect c s.currentView (s.pointed c)).mb = (s.pointed c).mb) :
    commit c s = actionEffect c s.currentView (s.pointed c) := by
  obtain ⟨m, hm, hbusy, -⟩ := s.pointed_eq c
  rw [commit_of_commits h, closeTransfer_of_idle]
  rw [hkeep, hm]
  exact hbusy.trans h.idle

/-! ## Entries that are granted or given up -/

/-- The ladder once an entry has been asked of every block. -/
def PwrState.asked (m now : Nat) (w : PwrState) : PwrState :=
  { w with entry := some { target := m, start := now }, entryTarget := BitVec.ofNat 3 m, retry := none }

theorem startEntry_of_granted {m : Nat} (he : s.pwr.entry = none) (hr : s.refuser m = none) (h5 : m ≠ 5) :
    startEntry m s = { s with pwr := s.pwr.asked m s.now } := by
  unfold startEntry
  rw [if_neg (by simp [he])]
  dsimp only
  have hr' : State.refuser { s with pwr.entry := some { target := m, start := s.now }, pwr.entryTarget := BitVec.ofNat 3 m, pwr.retry := none } m =
    none := hr
  rw [hr']
  exact if_neg h5

/-- The entry to P5: the self-test begins, from P4 with the core voltage raised. -/
theorem startEntry_of_granted5 (he : s.pwr.entry = none) (hr : s.refuser 5 = none) : ∃ t, startEntry 5 s = t ∧ Fr 70272 s t ∧
    t.pwr.entry = some { target := 5, start := s.now } ∧ t.bist.running = true ∧ (s.pwr.rung = 4 → t.sup.running = true) := by
  refine ⟨_, rfl, startEntry_fr .., ?_⟩
  unfold startEntry
  rw [if_neg (by simp [he])]
  dsimp only
  have hr' : State.refuser { s with pwr.entry := some { target := 5, start := s.now }, pwr.entryTarget := BitVec.ofNat 3 5, pwr.retry := none } 5 =
    none := hr
  rw [hr']
  dsimp only
  rw [if_pos rfl]
  have hrun (u : State) : (startSelfTest 3 (List.range 20) u).bist.running = true := by
    have h0 : (0 : Nat) ∈ (List.range 20).filter (fun i => !u.partAbsent i) := List.mem_filter.mpr ⟨by decide, by simp [State.partAbsent]⟩
    change (!((List.range 20).filter (fun i => !u.partAbsent i)).isEmpty) = true
    rw [Bool.not_eq_true', List.isEmpty_eq_false_iff]
    exact List.ne_nil_of_mem h0
  refine ⟨?_, hrun _, fun h4 => ?_⟩
  · split <;> rfl
  · rw [if_pos h4]
    rfl

/-- What an abandoned entry leaves of the ladder. -/
theorem abandonEntry_spec {e : Entry} (result block : Nat) (he : s.pwr.entry = some e) : ∃ t, abandonEntry result block s = t ∧
    Fr 70272 s t ∧ t.pwr.entry = none ∧ t.pwr.hsResult = BitVec.ofNat 3 result ∧ t.pwr.hsBlock = BitVec.ofNat 6 block ∧
    t.pwr.hsRung = BitVec.ofNat 3 e.target ∧ t.pwr.refusals = satInc s.pwr.refusals ∧ t.pwr.rung = s.pwr.rung := by
  refine ⟨_, rfl, abandonEntry_fr .., ?_⟩
  unfold abandonEntry
  rw [he]
  dsimp only
  split_ifs <;> exact ⟨rfl, rfl, rfl, rfl, rfl, rfl⟩

/-! ## The rung of a port -/

/-- A port one rung further down. -/
def Port.descended (n : Nat) (x : Port) : Port :=
  { x with
    rung := BitVec.ofNat 2 n
    wire := if 2 ≤ n ∧ !x.txHush then (x.sendBlocks 0x3FF 1).wire else x.wire
    txHush := decide (2 ≤ n) }

/-- How long a port must be idle for rung n. -/
def LadderTimers.idleWait (n : Nat) (w : LadderTimers) : Nat :=
  if n = 1 then w.idle1.toNat else if n = 2 then w.idle2.toNat * 1000 else w.idle3.toNat * 1000000

theorem exec_portIdleDescent {n : Nat} (i : PortId) (hl : (s.port i.val).lnk.link = .active) (hi : (s.port i.val).idle = true)
    (hn : n = (s.port i.val).rung.toNat + 1) (hd : n ≤ (s.port i.val).deepest) (h3 : n ≤ 3) : exec (.portIdleDescent i) s =
      .next (settleRung ((s.atLeast ((s.port i.val).idleSince + (s.pwr.timersAt (s.port i.val).idleSince).idleWait n)).updPort i.val
        (Port.descended n))) := by
  subst hn
  refine (if_pos ⟨hl, hi, hd, h3⟩).trans ?_
  unfold LadderTimers.idleWait Port.descended
  split
  · next h => rw [h]; rfl
  · next h => rw [h]; rfl
  · next h1 h2 => rw [if_neg h1, if_neg h2]

theorem takeMsg_of_empty (c : Nat) (h : (s.port p).tx.rx = []) : takeMsg p c s = s := if_neg (by rw [h]; exact Bool.false_ne_true)

/-! ## The entry to P4 and P5 -/

/-- A port with its link off and its PLL at rest. -/
def Port.rested (x : Port) : Port := { x.toOff with lnk := { x.toOff.lnk with pll := false } }

theorem restPorts_port (s : State) (p : Nat) :
    (forN 16 (fun p s => if s.port p = {} then s else s.updPort p Port.rested) s).port p =
      if p < 16 ∧ s.port p ≠ {} then (s.port p).rested else s.port p := by
  have hturn (i : Nat) (t : State) : Fr 4194304 t (if t.port i = {} then t else t.updPort i Port.rested) := Fr.ite (Fr.refl ..) (t.updPort_fr ..)
  rw [forN_port (F := fun _ x => if x = {} then x else x.rested) hturn (fun i t _ => ?self) (fun i t j hj => ?other)]
  · by_cases hp : p < 16 <;> by_cases hx : s.port p = {} <;> simp [hp, hx]
  case self =>
    split
    · rfl
    · exact State.updPort_port_self ..
  case other =>
    split
    · rfl
    · rw [State.updPort_port, if_neg hj]

/-- The layers that stay powered at P4 and P5. -/
def restLayers (live : Nat → Bool) (s : State) : State :=
  forN 18 (fun k s => if (s.layer k).powered then s.updLayer k (fun x => { x with powered := live k, band := x.base }) else s) s

/-- The level of SHDN_REQ_N. -/
def State.shdnPin (s : State) : Bool := s.pins.shdnReqN

theorem Fr.shdnPin {k : Nat} (h : Fr k s t) (hk : k.testBit 7 = false) : t.shdnPin = s.shdnPin := by
  rw [State.shdnPin, h.pins hk, State.shdnPin]

theorem enterHold_shdnPin (c : Nat) (s : State) : (enterHold c s).shdnPin = s.shdnPin := by
  by_cases ht : s.mode = .trip
  · rw [enterHold, if_pos (.inl ht)]
  by_cases hh : s.mode = .hold
  · rw [enterHold, if_pos (.inr hh)]
  · rw [State.shdnPin, enterHold_pins c ht hh]
    rfl

theorem perEvent_of_high {n : Nat} (h : 212 ≤ n) (d : EventDetail) (s : State) : perEvent n d s = s :=
  (if_neg (by omega)).trans ((if_neg (by omega)).trans (if_neg (by omega)))

/-- Wear charged to what stands powered at P4. -/
theorem chargeRest_shdnPin (s : State) : (chargeRest s).shdnPin = s.shdnPin := by
  unfold chargeRest chargeAll
  extract_lets n charged
  have hlayers : Fr 67108864 s (if s.pwr.rung = 4 then forN 18 (fun k s => if s.layerKept k then
      chargeLayer k n (degC (bandLimit (s.layer k).band)) s else s) s else s) :=
    Fr.iteT (Fr.forN (fun k t => Fr.iteT (chargeLayer_fr ..) (.refl ..)) 18 (.refl ..)) (.refl ..)
  have hcharged : Fr 67125248 s charged := (hlayers.or (chargeBase_fr ..)).mono rfl
  split
  · rw [raiseFault_eq_of_kept (g := State.shdnPin) (fun h => h.shdnPin rfl) enterHold_shdnPin (noGlove_of_le (by decide))
      (perEvent_of_high (by decide) _), hcharged.shdnPin rfl]
  · exact hcharged.shdnPin rfl

/-- The islands off at P5: links down, contents lost. -/
def restAt5 (s : State) : State :=
  restLayers (fun k => decide (5 = 4) && s.layerKept k)
    (mapSlices (fun q k x => { x with selfRefresh := decide (5 = 4) && s.kept q k, powerDown := false })
      (eraseSlices (fun i => !(decide (5 = 4) && s.kept (i / 18) (i % 18)))
        (forN 16 (fun p s => if s.port p = {} then s else s.updPort p Port.rested) s)))

theorem enterRest5_eq (s : State) : enterRest 5 s =
    { restAt5 (if s.pwr.rung = 4 then chargeRest s else s) with
      pins.vid := some 0x08
      sup.running := false
      pwr := { (restAt5 (if s.pwr.rung = 4 then chargeRest s else s)).pwr with
        rung := 5, restAt := (restAt5 (if s.pwr.rung = 4 then chargeRest s else s)).now
        dwellFrom := (restAt5 (if s.pwr.rung = 4 then chargeRest s else s)).now
        raising := false, lowering := true, corePll := false, fastRc := false, skipDwells := false } } := by
  unfold enterRest restAt5 restLayers Port.rested
  with_reducible rfl

theorem restAt5_spec (s : State) : (restAt5 s).mem = [] ∧ (restAt5 s).shdnPin = s.shdnPin ∧ ∀ p, p < 16 → ((restAt5 s).port p).lnk.link = .off := by
  unfold restAt5
  have hports := restPorts_port s
  have hrest : Fr 4194304 s (forN 16 (fun p s => if s.port p = {} then s else s.updPort p Port.rested) s) :=
    Fr.forN (fun _ t => Fr.ite (.refl ..) (t.updPort_fr ..)) 16 (.refl ..)
  generalize forN 16 (fun p s => if s.port p = {} then s else s.updPort p Port.rested) s = u at hports hrest ⊢
  have hlayers (live : Nat → Bool) (v : State) : Fr 67108864 v (restLayers live v) := Fr.forN (fun k t => Fr.iteT (t.updLayer_fr ..) (.refl ..)) 18 (.refl ..)
  refine ⟨?_, ?_, fun p hp => ?_⟩
  · rw [(hlayers _ _).mem rfl, (mapSlices_fr ..).mem rfl]
    exact List.filter_eq_nil_iff.mpr (by simp)
  · rw [(hlayers _ _).shdnPin rfl, (mapSlices_fr ..).shdnPin rfl, (eraseSlices_fr ..).shdnPin rfl, hrest.shdnPin rfl]
  · rw [(hlayers _ _).port rfl, (mapSlices_fr ..).port rfl, (eraseSlices_fr ..).port rfl, hports]
    split
    · rfl
    · next h => rw [not_and, not_not] at h; rw [h hp]

theorem enterRest5_spec (s : State) : ∃ t, enterRest 5 s = t ∧ t.pwr.rung = 5 ∧ t.mem = [] ∧ t.sup.running = false ∧
    t.pwr.corePll = false ∧ (∀ p, p < 16 → (t.port p).lnk.link = .off) ∧ t.shdnPin = s.shdnPin := by
  obtain ⟨hmem, hpin, hports⟩ := restAt5_spec (if s.pwr.rung = 4 then chargeRest s else s)
  have hcharged : (if s.pwr.rung = 4 then chargeRest s else s).shdnPin = s.shdnPin := by
    split
    · exact chargeRest_shdnPin s
    · rfl
  rw [enterRest5_eq]
  generalize restAt5 (if s.pwr.rung = 4 then chargeRest s else s) = u at hmem hports hpin ⊢
  exact ⟨_, rfl, rfl, hmem, rfl, rfl, hports, hpin.trans hcharged⟩

/-! ## Completed entries -/

/-- The ladder once every block has granted the entry. -/
def PwrState.granted (m : Nat) (w : PwrState) : PwrState :=
  { w with entry := none, entryTarget := 0, hsRung := BitVec.ofNat 3 m, hsResult := 1, hsBlock := 0 }

/-- Slices in use in power-down (R389). -/
theorem mapSlices_inUse {f : Nat → Nat → Slice → Slice} {q k : Nat} (h : (s.slice q k).inUse = true) :
    (mapSlices f s).slice q k = f ((q * 18 + k) / 18) ((q * 18 + k) % 18) (s.slice q k) := by
  have hmap (l : List (Nat × Slice)) (j : Nat) (hj : (tabGet {} l j).inUse = true) :
      tabGet {} (l.map (fun e => (e.1, if e.2.inUse then f (e.1 / 18) (e.1 % 18) e.2 else e.2))) j = f (j / 18) (j % 18) (tabGet {} l j) := by
    induction l with
    | nil => exact absurd hj Bool.false_ne_true
    | cons e l ih =>
      obtain ⟨i, x⟩ := e
      rw [List.map_cons, tabGet, tabGet]
      rw [tabGet] at hj
      split
      · next hi =>
        rw [if_pos hi] at hj
        rw [if_pos hj, hi]
      · next hi =>
        rw [if_neg hi] at hj
        exact ih hj
  exact hmap s.slices (q * 18 + k) h

/-- The slices of pseudo-channel q that go down to power-down. -/
def State.goingDown (s : State) (q : Nat) : Nat :=
  ((List.range 18).filter (fun k => (s.slice q k).inUse && !(s.slice q k).powerDown && !(s.slice q k).selfRefresh)).length

/-- The open rows of a pseudo-channel closed, and its slices counted that go down. -/
def restRow (q : Nat) (s : State) : State :=
  if s.pc q = {} then s else
    (s.updPc q (fun x => { x with openRows := [] })).updChan (chanOf q) (fun c => { c with pdCount := satAdd c.pdCount (s.goingDown q) })

/-- The open rows of every pseudo-channel closed. -/
def restRows (s : State) : State := forN 32 restRow s

theorem restRow_fr (q : Nat) (s : State) : Fr 25165824 s (restRow q s) :=
  Fr.ite (.refl ..) (((s.updPc_fr ..).or (State.updChan_fr ..)).mono rfl)

theorem restRows_fr (s : State) : Fr 25165824 s (restRows s) := Fr.forN restRow_fr 32 (.refl ..)

/-- The stack at P2: slices in power-down. -/
def standAt2 (s : State) : State :=
  mapSlices (fun _ _ x => { x with powerDown := true, pdAt := (restRows s).now }) { restRows s with pwr.rung := 2 }

theorem completeEntry_to2 (s : State) : completeEntry 2 s = standAt2 { s with pwr := s.pwr.granted 2 } := by
  unfold completeEntry
  extract_lets w u
  have hu : ({ s with pwr := s.pwr.granted 2 } : State) = u := rfl
  rw [hu]
  clear_value u
  split
  · unfold standAt2 restRows restRow State.goingDown
    with_reducible rfl
  all_goals contradiction

theorem completeEntry_to6 (s : State) : completeEntry 6 s = retainEntry { s with pwr := s.pwr.granted 6 } := by
  unfold completeEntry
  extract_lets w u
  have hu : ({ s with pwr := s.pwr.granted 6 } : State) = u := rfl
  rw [hu]
  clear_value u
  split
  iterate 2 contradiction
  · rfl
  · contradiction

theorem completeEntry_to5 (s : State) : completeEntry 5 s = enterRest 5 { s with pwr := s.pwr.granted 5 } := by
  unfold completeEntry
  extract_lets w u
  have hu : ({ s with pwr := s.pwr.granted 5 } : State) = u := rfl
  rw [hu]
  clear_value u
  split
  iterate 3 contradiction
  · rfl

theorem completeEntry2_spec (s : State) : ∃ t, completeEntry 2 s = t ∧ Fr 58724352 s t ∧ t.pwr = { s.pwr.granted 2 with rung := 2 } ∧
    ∀ q k, (s.slice q k).inUse = true → (t.slice q k).powerDown = true := by
  rw [completeEntry_to2]
  unfold standAt2
  have hrows := restRows_fr { s with pwr := s.pwr.granted 2 }
  generalize restRows { s with pwr := s.pwr.granted 2 } = u at hrows ⊢
  have hgrant : Fr 4096 s { s with pwr := s.pwr.granted 2 } := Fr.u4096 (.refl ..) rfl
  have hrung : Fr 4096 u { u with pwr.rung := 2 } := Fr.u4096 (.refl ..) rfl
  have hslices := mapSlices_fr (fun _ _ x => { x with powerDown := true, pdAt := u.now }) { u with pwr.rung := 2 }
  refine ⟨_, rfl, (((hgrant.or hrows).or hrung).or hslices).mono rfl, ?_, fun q k hk => ?_⟩
  · rw [hslices.pwr rfl]
    change { u.pwr with rung := 2 } = _
    rw [hrows.pwr rfl]
  · have hsame : State.slice { u with pwr.rung := 2 } q k = s.slice q k := by
      change tabGet {} u.slices _ = _
      rw [hrows.slices rfl]
      rfl
    rw [mapSlices_inUse (by rw [hsame]; exact hk)]

theorem completeEntry6_spec (hm : s.mode = .service) (hskip : s.pwr.skipDwells = false) : completeEntry 6 s = { s with
    mode := .retain
    pwr := { s.pwr.granted 6 with retainPending := false, pendIdle := false, dwellFrom := s.now, rung := 3, skipDwells := false } } := by
  rw [completeEntry_to6]
  unfold retainEntry
  rw [if_neg (by simp [hm])]
  exact if_neg (by rw [show (s.pwr.granted 6).skipDwells = false from hskip]; simp)

/-! ## The move to RETAIN -/

/-- The ladder at a request for RETAIN. -/
def PwrState.movesDown (skip : Bool) (w : PwrState) : PwrState :=
  { w with skipDwells := skip || (w.skipDwells && (w.retainPending || w.entry.any (fun e => decide (e.target = 6)))) }

theorem moveRetain_eq (idle skip : Bool) (hm : s.mode = .service) (hup : s.bist.shutDown = false) : moveRetain idle skip s =
    if s.pwr.rung = 3 then startEntry 6 { s with pwr := s.pwr.movesDown skip }
    else { s with pwr := { s.pwr.movesDown skip with retainPending := true, pendIdle := idle } } :=
  if_neg (by simp [hm, hup])

theorem refuser_of_retain (h : s.migrating = false) : s.refuser 6 = none :=
  (if_neg (by simp [h])).trans (if_neg (by simp))

theorem moveRetain_above (idle skip : Bool) (hm : s.mode = .service) (hup : s.bist.shutDown = false) (hr : s.pwr.rung ≠ 3) :
    moveRetain idle skip s = { s with pwr := { s.pwr.movesDown skip with retainPending := true, pendIdle := idle } } := by
  rw [moveRetain_eq idle skip hm hup, if_neg hr]

theorem moveRetain_at3 (idle skip : Bool) (hm : s.mode = .service) (hup : s.bist.shutDown = false) (he : s.pwr.entry = none)
    (hr : s.pwr.rung = 3) (hmig : s.migrating = false) :
    moveRetain idle skip s = { s with pwr := (s.pwr.movesDown skip).asked 6 s.now } := by
  rw [moveRetain_eq idle skip hm hup, if_pos hr,
    startEntry_of_granted (s := { s with pwr := s.pwr.movesDown skip }) he (refuser_of_retain hmig) (by decide)]

/-- The rung follows the ports down to m, which every block grants. -/
theorem settleRung_to_granted {m : Nat} (hm : s.mode = .service) (hup : s.bist.shutDown = false) (he : s.pwr.entry = none)
    (hretry : s.pwr.retry = none) (hlow : s.lowestRung = m) (hrung : s.pwr.rung < m) (h2 : 2 ≤ m) (hr : s.refuser m = none) :
    settleRung s = { s with pwr := s.pwr.asked m s.now } := by
  have h3 : m ≤ 3 := hlow ▸ lowestRung_le s
  have hdrop : dropRetry m (dropEntry m s) = s := by
    unfold dropEntry
    rw [he]
    dsimp only
    have hsame : s.pwr.retry.filter (fun t => decide (t.1 ≤ m)) = s.pwr.retry := by rw [hretry]; rfl
    unfold dropRetry
    rw [hsame]
  rw [settleRung_eq, if_neg (by simp [hm, hup]), hlow, hdrop]
  unfold followRung
  rw [if_neg (by omega), if_neg (by omega), if_neg (by omega), hretry]
  exact (if_neg Bool.false_ne_true).trans (startEntry_of_granted he hr (by omega))

/-- A committed command of the ladder that starts no long operation. -/
theorem exec_ladder {c : Instr} {f : State → State} (hc : s.commits c) (hexec : exec c s = .next (commit c s))
    (heff : ∀ t, actionEffect c s.currentView t = f t) (hmb : (f (s.pointed c)).mb = (s.pointed c).mb) :
    exec c s = .next (f (s.pointed c)) := by
  rw [hexec, commit_of_short hc (by rw [heff]; exact hmb), heff]

theorem exec_entryComplete {e : Entry} (he : s.pwr.entry = some e) (hr : s.refuser e.target = none) (hd : s.delayer e.target = none)
    (hraise : s.pwr.raising = false) : exec .entryComplete s = .next (pinShutdown (completeEntry e.target s)) := by
  change execEntryComplete s = _
  unfold execEntryComplete
  rw [he]
  dsimp only
  rw [hr]
  exact if_neg (by simp [hd, hraise])

theorem entry_of_dwelling (h : s.dwelling = true) : s.pwr.entry = none := by
  simp only [State.dwelling, Bool.and_eq_true] at h
  exact Option.isNone_iff_eq_none.mp h.1.1.1.2

/-- Settles O51: each event of the ladder by the lemma about the operation that it runs (`settleRung_narrow`, `startEntry_of_granted`,
`abandonEntry_spec`, `completeEntry2_spec`, `enterRest5_spec`). -/
theorem theLadderGoesDownByHandshake : Obligations.TheLadderGoesDownByHandshake := by
  unfold Obligations.TheLadderGoesDownByHandshake
  refine ⟨fun p n s hl hi hn hd h3 => ?descent, fun p s h => ?still, fun p s hl hr hm => ?exit, fun p s hs hrx => ⟨?doze, ?up, fun v h0 h2 h3 hq => ?wrong⟩,
    fun s hm hup he => ⟨fun hw => ?never, fun hw hidle hpend => ⟨fun hr => ?pending, fun hr hmig => ?retain⟩, fun hc hr hmig => ?move,
      fun hc hr => ?down, fun hc => ?back⟩,
    fun e s he => ⟨fun b hb => ?refused, fun hr hd => ?waits, fun b => ?late, fun hr hd hraise hpin => ⟨fun h2 => ?to2, fun h6 hm hskip => ?to6, fun h5 => ?to5⟩⟩,
    fun b s he => ?noEntry, fun m x from_ s hm hup he hretry hlow hrung h2 hr => ?retry, fun s hretry => ?noRetry,
    fun s hdwell => ⟨fun hr hkeep hdeep href => ?p3, fun hr hkeep hdeep href => ?p3to5, fun hr hdeep href => ?p4⟩, fun s hm => ?noDwell⟩
  case descent =>
    rw [exec_portIdleDescent p hl hi hn hd h3]
    obtain ⟨u, hu, hnow⟩ : ∃ u, s.atLeast ((s.port p.val).idleSince + (s.pwr.timersAt (s.port p.val).idleSince).idleWait n) = u ∧
      u.now = max s.now ((s.port p.val).idleSince + (s.pwr.timersAt (s.port p.val).idleSince).idleWait n) := ⟨_, rfl, rfl⟩
    have hat : Fr 2 s u := by rw [← hu]; exact State.atLeast_fr ..
    rw [hu]
    have hup := u.updPort_within p.val (Port.descended n)
    have hself := u.updPort_port_self p.val (Port.descended n)
    generalize u.updPort p.val (Port.descended n) = v at hup hself ⊢
    have hrung := settleRung_narrow v
    have hport : (settleRung v).port p.val = (s.port p.val).descended n := by rw [hrung.port rfl, hself, hat.port rfl]
    have hrest := hup.fr.or hrung
    refine ⟨_, rfl, ?_, by rw [hport]; rfl, by rw [hport]; rfl, ?_, ((hat.or hrest)).mem rfl, (hat.or hrest).flt rfl, ?_⟩
    · rw [hport]
      exact Nat.mod_eq_of_lt (by omega)
    · exact (hat.otherPorts p.val).trans (hup.others.trans (hrung.otherPorts p.val))
    · rw [hrest.now rfl, hnow]
      rfl
  case still =>
    refine if_neg fun hc => ?_
    rcases h with h | h
    · exact h hc.1
    · rw [h] at hc
      exact Bool.false_ne_true hc.2.1
  case exit =>
    obtain ⟨hfr, hothers, hport⟩ := portActive_spec p.val s
    have hexec : exec (.portActivityExit p) s = .next (portActive p.val s) := by
      refine (if_pos ⟨hl, hr⟩).trans (congrArg Outcome.next (if_neg ?_))
      rw [hfr.mode rfl, hm]
      decide
    exact ⟨_, hexec, by rw [hport]; exact if_pos hl, by rw [hport]; rfl, by rw [hport]; rfl, hothers, hfr.mem rfl, hfr.flt rfl⟩
  case doze =>
    have hexec (v : Byte) (hv : v = 2 ∨ v = 3) : exec (.doze p v) s = .next (s.updPort p.val (fun x => { x with doze := BitVec.ofNat 2 v.toNat })) := by
      refine (if_neg (by simp [hs])).trans ?_
      rw [takeMsg_of_empty 0x15 hrx]
      exact if_pos hv
    exact ⟨hexec 2 (.inl rfl), hexec 3 (.inr rfl)⟩
  case up =>
    intro hr
    refine (if_neg (by simp [hs])).trans ?_
    rw [takeMsg_of_empty 0x15 hrx]
    refine (if_neg (by decide)).trans ((if_pos rfl).trans (if_neg ?_))
    rw [State.updPort_port_self]
    change ¬ _ < (s.port p.val).rung.toNat
    rw [hr]
    exact Nat.not_lt_zero _
  case wrong =>
    refine (if_neg (by simp [hs])).trans ?_
    rw [takeMsg_of_empty 0x15 hrx]
    refine (if_neg (not_or.mpr ⟨h2, h3⟩)).trans ((if_neg h0).trans ?_)
    rw [violation_of_quiet 1 p.isLt hq]
    rfl
  case never => exact if_neg (fun hc => hc.2.1 hw)
  case pending =>
    have hexec : exec .retainIdleExpiry s = .next (moveRetain true false (s.atLeast (s.idleFrom + s.retainWait.toNat * 1000000))) :=
      if_pos ⟨hm, hw, hidle, by simp [hpend], by simp [hup]⟩
    rw [moveRetain_above (s := s.atLeast _) true false hm hup hr] at hexec
    exact ⟨_, hexec, rfl, rfl, hm, rfl, rfl⟩
  case retain =>
    have hexec : exec .retainIdleExpiry s = .next (moveRetain true false (s.atLeast (s.idleFrom + s.retainWait.toNat * 1000000))) :=
      if_pos ⟨hm, hw, hidle, by simp [hpend], by simp [hup]⟩
    rw [moveRetain_at3 (s := s.atLeast _) true false hm hup he hr hmig] at hexec
    exact ⟨_, hexec, rfl, hm, rfl, rfl, rfl⟩
  case move =>
    obtain ⟨m, hpoint, -⟩ := s.pointed_eq .moveToRetain
    have hrun := exec_ladder (f := moveRetain false false) hc rfl (fun _ => rfl)
    rw [hpoint, moveRetain_at3 (s := { s with mb := m }) false false hm hup he hr hmig] at hrun
    refine ⟨_, hrun rfl, rfl, ?_, rfl, rfl⟩
    change (false || (s.pwr.skipDwells && (s.pwr.retainPending || s.pwr.entry.any _))) = _
    rw [he, Bool.false_or]
    simp
  case down =>
    obtain ⟨m, hpoint, -⟩ := s.pointed_eq .descendNow
    have hrun := exec_ladder (f := doDescendNow) hc rfl (fun _ => rfl)
    have hdo (u : State) (hu : u.mode = .service) : doDescendNow u = moveRetain false true u := if_pos hu
    rw [hpoint, hdo { s with mb := m } hm, moveRetain_above (s := { s with mb := m }) false true hm hup hr] at hrun
    exact ⟨_, hrun rfl, rfl, rfl, rfl, rfl, rfl⟩
  case back =>
    obtain ⟨m, hpoint, -⟩ := s.pointed_eq .returnToService
    have hrun := exec_ladder (f := fun u => if u.mode = .service ∨ u.mode = .retain then doReturnToService u else u) hc rfl (fun _ => rfl)
    have hdo (u : State) (hu : u.mode = .service) (hnone : u.pwr.entry = none) : doReturnToService u =
        { u with pwr := { u.pwr with retainPending := false, pendIdle := false, skipDwells := false } } := by
      unfold doReturnToService
      rw [if_pos hu]
      dsimp only
      rw [hnone]
    rw [hpoint, if_pos (.inl hm), hdo { s with mb := m } hm he] at hrun
    exact ⟨_, hrun rfl, rfl, hm, rfl, rfl⟩
  case refused =>
    obtain ⟨t, ht, hfr, hentry, hres, hblock, hrung, href, hstay⟩ := abandonEntry_spec 2 b he
    refine ⟨t, ?_, hentry, hres, hblock, hrung, href, hstay, hfr.mode rfl, hfr.mem rfl, hfr.ports rfl⟩
    change execEntryComplete s = _
    unfold execEntryComplete
    rw [he]
    dsimp only
    rw [hb, ← ht]
  case waits =>
    change execEntryComplete s = _
    unfold execEntryComplete
    rw [he]
    dsimp only
    rw [hr]
    exact if_pos hd
  case late =>
    obtain ⟨t, ht, hfr, hentry, hres, hblock, -, -, hstay⟩ := abandonEntry_spec (s := s.atLeast (e.start + entryLimit e.target)) 3 b.val he
    refine ⟨t, ?_, hentry, hres, hblock, hstay, hfr.mode rfl, hfr.mem rfl, hfr.ports rfl, hfr.now rfl⟩
    change execEntryDelayLimit b s = _
    unfold execEntryDelayLimit
    rw [he, ← ht]
  case noEntry =>
    constructor
    · change execEntryComplete s = _
      unfold execEntryComplete
      rw [he]
    · change execEntryDelayLimit b s = _
      unfold execEntryDelayLimit
      rw [he]
  case retry =>
    have hexec : exec .entryRetry s = .next (settleRung { s.atLeast (from_ + 10 * entryLimit x) with pwr.retry := none }) := by
      change execEntryRetry s = _
      unfold execEntryRetry
      rw [hretry]
    rw [hexec]
    generalize hu : ({ s.atLeast (from_ + 10 * entryLimit x) with pwr.retry := none } : State) = u
    have hfacts : u.mode = .service ∧ u.bist.shutDown = false ∧ u.pwr.entry = none ∧ u.pwr.retry = none ∧ u.lowestRung = m ∧
        u.pwr.rung < m ∧ u.refuser m = none ∧ u.now = max s.now (from_ + 10 * entryLimit x) ∧ u.mem = s.mem ∧ u.ports = s.ports := by
      rw [← hu]
      exact ⟨hm, hup, he, rfl, hlow.symm, hrung, hr, rfl, rfl, rfl⟩
    obtain ⟨humode, huup, hue, huretry, hulow, hurung, hur, hunow, humem, huports⟩ := hfacts
    rw [settleRung_to_granted humode huup hue huretry hulow hurung h2 hur]
    exact ⟨_, rfl, rfl, rfl, hunow, humem, huports⟩
  case noRetry =>
    change execEntryRetry s = _
    unfold execEntryRetry
    rw [hretry]
  case noDwell => exact ⟨if_neg (by simp [State.dwelling, hm]), if_neg (by simp [State.dwelling, hm])⟩
  case to2 =>
    obtain ⟨t, ht, hfr, hpwr, hslices⟩ := completeEntry2_spec s
    have hexec := exec_entryComplete he hr hd hraise
    rw [h2, ht, pinShutdown_of_high (by rw [hfr.pins rfl]; exact hpin)] at hexec
    exact ⟨t, hexec, by rw [hpwr]; rfl, by rw [hpwr]; rfl, by rw [hpwr], hfr.mode rfl, hfr.mem rfl, hfr.ports rfl, hslices⟩
  case to6 =>
    have hexec := exec_entryComplete he hr hd hraise
    rw [h6, completeEntry6_spec hm hskip, pinShutdown_of_high (by exact hpin)] at hexec
    exact ⟨_, hexec, rfl, rfl, rfl, rfl, rfl, rfl, rfl⟩
  case to5 =>
    have hexec := exec_entryComplete he hr hd hraise
    obtain ⟨t, ht, hrung, hmem, hsup, hpll, hports, hshdn⟩ := enterRest5_spec { s with pwr := s.pwr.granted 5 }
    rw [h5, completeEntry_to5, ht, pinShutdown_of_high (hshdn.trans hpin)] at hexec
    exact ⟨t, hexec, hrung, hmem, hsup, hpll, hports⟩
  case p3 =>
    have hexec : exec .dwellP3Expiry s =
        .next (startEntry 4 (s.atLeast (s.pwr.dwellFrom + (s.pwr.timersAt s.pwr.dwellFrom).dwell3.toNat * 1000000))) :=
      (if_pos ⟨hdwell, hr, hdeep⟩).trans (if_pos hkeep)
    rw [startEntry_of_granted (s := s.atLeast _) (entry_of_dwelling hdwell) href (by decide)] at hexec
    exact ⟨_, hexec, rfl, rfl, rfl, rfl⟩
  case p3to5 =>
    have hexec : exec .dwellP3Expiry s = .next (startEntry 5 (s.atLeast (s.pwr.dwellFrom +
        ((s.pwr.timersAt s.pwr.dwellFrom).dwell3.toNat + (s.pwr.timersAt s.pwr.dwellFrom).dwell4.toNat) * 1000000))) :=
      (if_pos ⟨hdwell, hr, by omega⟩).trans ((if_neg (by simp [hkeep])).trans (if_pos hdeep))
    rw [hexec]
    generalize hu : s.atLeast _ = u
    have hat : Fr 2 s u := hu ▸ State.atLeast_fr ..
    obtain ⟨t, ht, hfr, hentry, hrun, -⟩ := startEntry_of_granted5 (s := u) (by rw [hat.pwr rfl]; exact entry_of_dwelling hdwell) (by rw [← hu]; exact href)
    exact ⟨t, by rw [ht], by rw [hentry, hfr.now rfl], hrun, (hat.or hfr).mem rfl, (hat.or hfr).ports rfl⟩
  case p4 =>
    have hexec : exec .dwellP4Expiry s =
        .next (startEntry 5 (s.atLeast (s.pwr.dwellFrom + (s.pwr.timersAt s.pwr.dwellFrom).dwell4.toNat * 1000000))) :=
      if_pos ⟨hdwell, hr, hdeep⟩
    rw [hexec]
    have hnow : (s.atLeast (s.pwr.dwellFrom + (s.pwr.timersAt s.pwr.dwellFrom).dwell4.toNat * 1000000)).now =
      max s.now (s.pwr.dwellFrom + (s.pwr.timersAt s.pwr.dwellFrom).dwell4.toNat * 1000000) := rfl
    generalize hu : s.atLeast _ = u at hnow
    have hat : Fr 2 s u := hu ▸ State.atLeast_fr ..
    obtain ⟨t, ht, hfr, hentry, hrun, hsup⟩ := startEntry_of_granted5 (s := u) (by rw [hat.pwr rfl]; exact entry_of_dwelling hdwell)
      (by rw [← hu]; exact href)
    exact ⟨t, by rw [ht], by rw [hentry, hfr.now rfl], hrun, hsup (by rw [hat.pwr rfl]; exact hr), (hfr.now rfl).trans hnow, (hat.or hfr).mem rfl,
      (hat.or hfr).ports rfl⟩

end Sys2Proof.Machine
end

section
/-! SUPPORT. What keeps the interleave key and starts no wake: the collector, the thermal unit, the ladder, the shut-down. -/

namespace Sys2Proof.Machine

open Host

variable {s t u : State}

/-- The interleave key, its generation, whether it is a fallback, and whether a draw is held. -/
def State.keys (s : State) : BitVec 128 × BitVec 16 × Bool × Bool := (s.rep.key, s.rep.keyGen, s.rep.keyFallback, s.rep.keyPending)

/-- The way from s to t keeps the interleave key and starts no wake. -/
structure Rests (s t : State) : Prop where
  keys : t.keys = s.keys
  wake : s.pwr.wake = none → t.pwr.wake = none

theorem Rests.refl (s : State) : Rests s s := ⟨rfl, id⟩

theorem Rests.trans (h : Rests s t) (h' : Rests t u) : Rests s u := ⟨h'.keys.trans h.keys, h'.wake ∘ h.wake⟩

theorem Rests.of_fr {m : Nat} (h : Fr m s t) (hm : m &&& 266240 = 0 := by decide) : Rests s t := by
  have hbit {i : Nat} (hi : (266240 : Nat).testBit i = true) : m.testBit i = false := testBit_of_disjoint hm hi
  exact ⟨by rw [State.keys, h.rep (hbit (by decide)), State.keys], fun hw => by rw [h.pwr (hbit (by decide)), hw]⟩

/-- Where the repair state stays, or the key in it, it is the wake that counts. -/
theorem Rests.of_wake {m : Nat} (h : Fr m s t) (hw : t.pwr.wake = s.pwr.wake ∨ t.pwr.wake = none) (hm : m.testBit 18 = false := by decide) :
    Rests s t := by
  refine ⟨by rw [State.keys, h.rep hm, State.keys], fun h0 => ?_⟩
  rcases hw with hw | hw
  · rw [hw, h0]
  · exact hw

theorem Rests.of_keys {m : Nat} (h : Fr m s t) (hk : t.keys = s.keys) (hm : m.testBit 12 = false := by decide) : Rests s t :=
  ⟨hk, fun hw => by rw [h.pwr hm, hw]⟩

theorem Rests.ite {c : Prop} [Decidable c] (h : Rests s t) (h' : Rests s u) : Rests s (if c then t else u) := by
  split
  · exact h
  · exact h'

theorem Rests.then_ite {c : Prop} [Decidable c] (h : Rests t u) : Rests t (if c then u else t) := .ite h (.refl t)

theorem Rests.forL {α : Type} {f : α → State → State} (h : ∀ a t, Rests t (f a t)) (l : List α) (s : State) : Rests s (forL l f s) := by
  induction l generalizing s with
  | nil => exact .refl s
  | cons a l ih => exact (h a s).trans (ih (f a s))

theorem Rests.forN {f : Nat → State → State} (h : ∀ i t, Rests t (f i t)) (n : Nat) (s : State) : Rests s (forN n f s) :=
  Rests.forL h (List.range n) s

/-! ## The collector -/

theorem enterHold_rests (c : Nat) (s : State) : Rests s (enterHold c s) := by
  by_cases ht : s.mode = .trip
  · rw [enterHold, if_pos (.inl ht)]
    exact .refl s
  by_cases hh : s.mode = .hold
  · rw [enterHold, if_pos (.inr hh)]
    exact .refl s
  · exact .of_wake (enterHold_fr ..) (.inr (congrArg PwrState.wake (enterHold_pwr c ht hh)))

theorem setGrave_rests (n : Nat) (forced : Bool) (c : Nat) (s : State) : Rests s (setGrave n forced c s) := by
  unfold setGrave
  extract_lets flt u v w x
  have hu : Fr 1024 s u := Fr.ite (.refl ..) (Fr.u1024 (.refl ..) rfl)
  have hx : Fr 4194304 v x := Fr.forN (fun i t => Fr.iteT (State.updPort_fr ..) (.refl ..)) 16 (.refl ..)
  exact (((Rests.of_fr hu).trans (.of_fr (setAlert_fr ..))).trans (.of_fr hx)).trans (enterHold_rests ..)

theorem latchGrave_rests (n : Nat) (d : EventDetail) (forced : Bool) (c : Nat) (s : State) : Rests s (latchGrave n d forced c s) :=
  (Rests.ite (.refl s) (.of_fr (logRecord_fr ..))).trans (setGrave_rests ..)

theorem holdReaction_rests (n : Nat) (d : EventDetail) (forced : Bool) (s : State) : Rests s (holdReaction n d forced s) := by
  unfold holdReaction
  exact .then_ite (((Rests.of_fr (s.updSrc_fr ..)).trans (.of_fr (logRecord_fr ..))).trans (setGrave_rests ..))

theorem askRepair_rests (r : RepairReq) (s : State) : Rests s (askRepair r s) := by
  unfold askRepair
  split <;> exact ⟨rfl, id⟩

theorem repairReactions_rests (n : Nat) (d : EventDetail) (s : State) : Rests s (repairReactions n d s) := by
  unfold repairReactions
  extract_lets re banked
  have hbanked : Rests s banked := by
    refine .ite ?_ (.refl s)
    split
    · exact askRepair_rests ..
    · exact .refl s
  split_ifs
  · split
    · exact hbanked.trans (askRepair_rests ..)
    · exact hbanked
  · exact hbanked.trans (askRepair_rests ..)
  · exact hbanked
  · exact hbanked

theorem reactions_rests (n : Nat) (d : EventDetail) (forced : Bool) (record : Nat) (s : State) : Rests s (reactions n d forced record s) := by
  unfold reactions
  extract_lets re cls logged alerted noticed fenced repaired
  have hlogged : Rests s logged := .then_ite (.of_fr (logRecord_fr ..))
  have halerted : Rests logged alerted := .then_ite (.of_fr (setAlert_fr ..))
  have hnoticed : Rests alerted noticed := .then_ite (.of_fr (notices_fr ..))
  have hfenced : Rests noticed fenced := .then_ite (.of_fr (fencePort_fr ..))
  exact ((((hlogged.trans halerted).trans hnoticed).trans hfenced).trans (repairReactions_rests ..)).trans (.then_ite (.of_fr (supRestart_fr _)))

theorem escalate_rests (n : Nat) (d : EventDetail) (forced : Bool) (s : State) : Rests s (escalate n d forced s) := by
  unfold escalate
  extract_lets c raised reacted
  exact ((Rests.of_fr (s.updSrc_fr ..)).trans (reactions_rests ..)).trans (.ite (setGrave_rests ..) (holdReaction_rests ..))

theorem registerEvent_rests (n : Nat) (d : EventDetail) (forced : Bool) (s : State) : Rests s (registerEvent n d forced s).1 := by
  have hcounted : Rests s (s.counted n forced) := .of_fr (s.counted_fr n forced)
  exact registerEvent_cases (P := Rests s) n d forced s (fun _ => .refl s) (fun _ => .of_fr (s.updSrc_fr ..))
    (fun _ _ => hcounted.trans (escalate_rests ..)) (fun _ => hcounted.trans (latchGrave_rests ..)) (fun _ => hcounted)

theorem raiseOnly_rests (n k : Nat) (d : EventDetail) (c : Nat) (s : State) : Rests s (raiseOnly n k d c s) := by
  unfold raiseOnly
  extract_lets old raised reacted
  have hreacted : Rests s reacted := (Rests.of_fr (s.updSrc_fr ..)).trans (reactions_rests ..)
  exact .ite (.then_ite (latchGrave_rests ..)) (hreacted.trans (.ite (setGrave_rests ..) (holdReaction_rests ..)))

theorem setRank_rests (q r : Nat) (e : RankEnt) (s : State) : Rests s (s.setRank q r e) := ⟨rfl, id⟩

theorem stopPc_rests (q : Nat) (s : State) : Rests s (stopPc q s) := by
  unfold stopPc
  extract_lets cleared
  have hcleared : Rests s cleared := .of_fr (s.updPc_fr ..)
  exact hcleared.trans (.forN (fun _ _ => .then_ite (setRank_rests ..)) 16 _)

theorem checkMinimum_rests (s : State) : Rests s (checkMinimum s) := by
  unfold checkMinimum
  exact .ite (.refl s) (.ite (enterHold_rests ..) (.then_ite ((registerEvent_rests ..).trans (latchGrave_rests ..))))

theorem pairLoss_rests (i : Nat) (s : State) : Rests s (pairLoss i s) := by
  unfold pairLoss
  extract_lets a b marked stopped logged first second book counted noticed
  have hmarked : Rests s marked := .of_fr ((s.updChan_fr ..).or (State.updChan_fr ..))
  have hstopped : Rests marked stopped := .forL stopPc_rests _ _
  have hlogged : Rests stopped logged := .forL (fun _ _ => .of_fr (logRecord_fr ..)) _ _
  have hcounted : Rests second counted := ⟨rfl, id⟩
  have hnoticed : Rests counted noticed := .forN (fun _ _ => .then_ite (.of_fr (sendNotice_fr ..))) 16 _
  exact ((((hmarked.trans hstopped).trans hlogged).trans ((registerEvent_rests ..).trans (registerEvent_rests ..))).trans
    (hcounted.trans hnoticed)).trans (checkMinimum_rests _)

theorem takeover_rests (n src : Nat) (s : State) : Rests s (takeover n src s) := by
  unfold takeover
  extract_lets m both shrunk
  have hboth : Rests s both := .of_fr ((s.updChan_fr ..).or (State.updChan_fr ..))
  have hshrunk : Rests both shrunk := ⟨rfl, id⟩
  exact .ite (.refl s) (.ite (pairLoss_rests ..) ((hboth.trans hshrunk).trans (raiseOnly_rests ..)))

theorem gloveReaction_rests (n : Nat) (s : State) : Rests s (gloveReaction n s) := by
  unfold gloveReaction
  exact .then_ite (.then_ite (takeover_rests ..))

theorem noteLayerFault_rests (w : BitVec 24) (s : State) : Rests s { s with rep.layerFault := w } := ⟨rfl, id⟩

theorem layerEntry_rests (k : Nat) (d : EventDetail) (s : State) : Rests s (layerEntry k d s) := by
  unfold layerEntry
  split
  · exact .refl s
  · next n _ =>
    extract_lets row readable book noted
    have hnoted : Rests s noted := noteLayerFault_rests _ s
    split
    iterate 3 exact hnoted.trans (askRepair_rests ..)
    exact hnoted

theorem perEvent_rests (n : Nat) (d : EventDetail) (s : State) : Rests s (perEvent n d s) := by
  unfold perEvent
  refine .ite (.of_fr (supRestart_fr s)) (.ite ?_ (.then_ite (layerEntry_rests ..)))
  dsimp only
  split
  iterate 2 exact .of_fr (s.updPc_fr ..)
  iterate 2 exact takeover_rests ..
  exact .refl s

theorem fault_rests (n : Nat) (d : EventDetail) (s : State) : Rests s (fault n d s) := by
  unfold fault
  refine .ite (.then_ite (.ite ⟨rfl, id⟩ ⟨rfl, id⟩)) ?_
  dsimp only
  have hreacted : Rests s (if (registerEvent n d false s).2 = true then gloveReaction n (registerEvent n d false s).1
      else (registerEvent n d false s).1) :=
    (registerEvent_rests n d false s).trans (.then_ite (gloveReaction_rests ..))
  exact hreacted.trans (.then_ite (perEvent_rests ..))

theorem faultMany_rests (n k : Nat) (d : EventDetail) (s : State) : Rests s (faultMany n k d s) := by
  unfold faultMany
  exact .ite (.refl s) ((fault_rests ..).trans (.of_fr (State.updSrc_fr ..)))

theorem raiseFault_rests (n c : Nat) (d : EventDetail) (cause : Nat) (s : State) : Rests s (raiseFault n c d cause s) := by
  unfold raiseFault
  refine .ite (.refl s) (.ite ?_ ?_)
  · exact (((Rests.of_fr (s.updSrc_fr ..)).trans (raiseOnly_rests ..)).trans (gloveReaction_rests ..)).trans (perEvent_rests ..)
  · exact (fault_rests n d s).trans (.then_ite (latchGrave_rests ..))

/-! ## Wear and temperatures -/

theorem chargeAll_rests {f : State → State} (hf : Rests s (f s)) : Rests s (chargeAll f s) := by
  unfold chargeAll
  exact .ite (hf.trans (raiseFault_rests ..)) hf

theorem chargeRest_rests (s : State) : Rests s (chargeRest s) := by
  unfold chargeRest
  have hlayers (n : Nat) : Rests s (if s.pwr.rung = 4 then forN 18 (fun k s => if s.layerKept k then
      chargeLayer k n (degC (bandLimit (s.layer k).band)) s else s) s else s) :=
    .then_ite (.forN (fun _ _ => .then_ite (.of_fr (chargeLayer_fr ..))) 18 _)
  exact chargeAll_rests ((hlayers _).trans (.of_fr (chargeBase_fr ..)))

theorem thermalEvents_rests (n : Nat) (l : List (Nat × Int)) (s : State) : Rests s (thermalEvents n l s) := by
  unfold thermalEvents
  split
  · exact .refl s
  · exact faultMany_rests ..

theorem markEvents_rests (n : Nat) (l : List (Nat × Int)) (s : State) : Rests s (markEvents n l s) := by
  unfold markEvents
  split
  · exact .refl s
  · exact (raiseFault_rests ..).trans (.of_fr (State.updSrc_fr ..))

theorem tripEvents_rests (boot : Bool) (n : Nat) (l : List (Nat × Int)) (s : State) : Rests s (tripEvents boot n l s) := by
  unfold tripEvents
  split
  · exact .refl s
  · exact .ite (raiseFault_rests ..) (thermalEvents_rests ..)

theorem coverageLost_rests (l : List Nat) (s : State) : Rests s (coverageLost l s) := by
  unfold coverageLost
  split
  · exact .refl s
  · exact raiseFault_rests ..

theorem tripBegin_rests (src basis : Nat) (t : Int) (s : State) : Rests s (tripBegin src basis t s) :=
  .of_wake (tripBegin_fr ..) (.inr rfl)

theorem tripFirst_rests (f : Found) (s : State) : Rests s (tripFirst f s) := by
  unfold tripFirst
  split
  · exact .refl s
  · exact .ite (.of_fr ((queueRecord_fr ..).or (noteTrip_fr ..))) (tripBegin_rests ..)

theorem actRest_rests (f : Found) (base : Int) (boot : Bool) (s : State) : Rests s (actRest f base boot s) := by
  unfold actRest
  extract_lets bl m alerted warned tripped based marked modelled
  have halerted : Rests s alerted := .forN (fun _ _ => .then_ite (.of_fr (setThmAlert_fr ..))) 6 _
  have hwarned : Rests alerted warned := (thermalEvents_rests ..).trans (thermalEvents_rests ..)
  have htripped : Rests warned tripped := tripEvents_rests ..
  have hbased : Rests tripped based := ((thermalEvents_rests ..).trans (thermalEvents_rests ..)).trans (tripEvents_rests ..)
  have hmarked : Rests based marked := (markEvents_rests ..).trans (markEvents_rests ..)
  have hmodelled : Rests marked modelled := .then_ite (markEvents_rests ..)
  exact ((halerted.trans (hwarned.trans htripped)).trans ((hbased.trans hmarked).trans hmodelled)).trans
    (((coverageLost_rests ..).trans (faultMany_rests ..)).trans (.of_fr (tripDown_fr _)))

theorem actOn_rests (f : Found) (s : State) : Rests s (actOn f s) := (tripFirst_rests f s).trans (actRest_rests ..)

theorem Rests.foldl {α : Type} {f : State × Found → α → State × Found} (h : ∀ a x, Rests a.1 (f a x).1) (l : List α) (a : State × Found) :
    Rests a.1 (l.foldl f a).1 := by
  induction l generalizing a with
  | nil => exact .refl _
  | cons x l ih => exact (h a x).trans (ih (f a x))

theorem sample_rests (t : List SensorReading) (s : State) : Rests s (sample t s) := by
  unfold sample
  extract_lets ks is taken based diverged paired modelled layered found acted
  have htaken : Rests s taken.1 := .foldl (fun _ _ => .of_fr (takeReading_fr ..)) t (s, {})
  have hbased : Rests taken.1 based.1 := by
    refine .trans ?_ (.of_fr (judgeBase_fr ..))
    split
    · exact .refl _
    · exact .of_fr (judgeBaseLevel_fr _)
  have hdiverged : Rests based.1 diverged.1 := .forL (fun _ _ => .of_fr (diverge_fr ..)) ks _
  have hpaired : Rests diverged.1 paired.1 := .foldl (fun _ _ => .of_fr (markPair_fr ..)) ks _
  have hmodelled : Rests paired.1 modelled.1 := .of_fr (judgeModel_fr ..)
  have hlayered : Rests modelled.1 layered.1 := .foldl (fun _ _ => .of_fr (judgeLayer_fr ..)) ks _
  have hacted : Rests layered.1 acted := actOn_rests ..
  exact (((((htaken.trans hbased).trans hdiverged).trans hpaired).trans hmodelled).trans (hlayered.trans hacted)).trans
    (.then_ite (.forN (fun _ _ => .ite (.refl _) (.of_fr (calDue_fr ..))) 32 _))

/-! ## The ladder and the shut-down -/

theorem Rests.of_base {m : Nat} (h : Fr m s t) (hb : t.pwr.base = s.pwr.base) (hm : m.testBit 18 = false := by decide) : Rests s t :=
  .of_wake h (.inl (congrArg PwrState.wake hb : t.pwr.base.wake = s.pwr.base.wake)) hm

theorem abandonEntry_rests (result block : Nat) (s : State) : Rests s (abandonEntry result block s) :=
  .of_base (abandonEntry_fr ..) (abandonEntry_base ..)

theorem settleRung_rests (s : State) : Rests s (settleRung s) := .of_base (settleRung_fr s) (settleRung_base s)

/-- An entry under way given up. -/
theorem dropEntry_rests (s : State) : Rests s (match s.pwr.entry with | some _ => abandonEntry 4 0 s | none => s) := by
  split
  · exact abandonEntry_rests ..
  · exact .refl s

theorem backToService_rests (s : State) : Rests s (backToService s) := by
  unfold backToService
  extract_lets dropped ladder served
  have hdropped : Rests s dropped := dropEntry_rests s
  have hserved : Rests dropped served := .of_wake (m := 4112) (Fr.u4112 (.refl ..) rfl) (.inl rfl)
  exact .ite (.refl s) ((hdropped.trans hserved).trans ((Rests.of_fr (queueRecord_fr ..)).trans (settleRung_rests _)))

theorem startShutdown_rests (trigger : Nat) (s : State) : Rests s (startShutdown trigger s) := by
  unfold startShutdown
  refine .ite (.then_ite (.of_fr (m := 65536) (Fr.u65536 (.refl ..) rfl))) ?_
  extract_lets tests testing dropped shut ladder asked
  have hdropped : Rests s dropped := dropEntry_rests s
  have hasked : Rests dropped asked := .of_wake (m := 69632) (Fr.u69632 (.refl ..) rfl) (.inl rfl)
  refine (hdropped.trans hasked).trans (.ite ?_ ?_)
  · exact (Rests.of_fr ((portsOff_fr asked).or (stopMemory_fr _))).trans (.of_fr (m := 65536) (Fr.u65536 (.refl ..) rfl))
  · exact (Rests.of_fr (m := 65536) (Fr.u65536 (.refl ..) rfl)).trans (.of_fr (shutdownAdvance_fr _))

theorem pinShutdown_rests (s : State) : Rests s (pinShutdown s) := .then_ite (startShutdown_rests ..)

end Sys2Proof.Machine
end

section
/-! SUPPORT. Wakes and the exit from P4 and P5 (R225, R394 to R399). -/

namespace Sys2Proof.Machine

open Host

variable {s t u : State} {p : Nat}

/-! ## A wake event -/

/-- At P4 and P5 a wake starts the exit sequence. -/
theorem wakeEvent_at_rest (code : Nat) (service : Bool) (hm : s.mode = .retain) (hup : s.bist.shutDown = false) (hw : s.pwr.wake = none)
    (he : s.pwr.entry = none) (hr : s.pwr.rung = 4 ∨ s.pwr.rung = 5) : wakeEvent code service s = startExit code service s := by
  unfold wakeEvent
  rw [if_neg (by simp [hm, hup]), if_neg (by simp [hw]), if_neg (by omega), he]

/-- In RETAIN at P3 a wake towards SERVICE ends RETAIN. -/
theorem wakeEvent_at_P3 (code : Nat) (hm : s.mode = .retain) (hup : s.bist.shutDown = false) (hw : s.pwr.wake = none)
    (hr : s.pwr.rung = 3) : wakeEvent code true s = backToService (recordWake code true s) := by
  unfold wakeEvent
  rw [if_neg (by simp [hm, hup]), if_neg (by simp [hw]), if_pos hr]
  rfl

theorem wakeEvent_of_other (code : Nat) (service : Bool) (hm : s.mode ≠ .retain) : wakeEvent code service s = s := if_pos (.inl hm)

/-- RETAIN left for SERVICE. -/
theorem backToService_spec (hm : s.mode = .retain) : ∃ t, backToService s = t ∧ t.mode = .service ∧ t.pwr.wakeLast = s.pwr.wakeLast ∧
    t.pwr.serviceAt = s.now ∧ t.mem = s.mem := by
  unfold backToService
  rw [if_neg (by simp [hm])]
  extract_lets dropped ladder served
  have hdropped : Fr 70272 s dropped := by
    unfold dropped
    split
    · exact abandonEntry_fr ..
    · exact .refl ..
  have hbase : dropped.pwr.base = s.pwr.base := by
    unfold dropped
    split
    · exact abandonEntry_base ..
    · rfl
  have hserved : Fr 4112 dropped served := Fr.u4112 (.refl ..) rfl
  have hqueued := queueRecord_fr (ledgerRecord served) served
  have hsettled := settleRung_narrow (queueRecord (ledgerRecord served) served)
  have hsbase : (settleRung (queueRecord (ledgerRecord served) served)).pwr.base = served.pwr.base := by
    rw [settleRung_base, hqueued.pwr rfl]
  have hall := (hdropped.or hserved).or (hqueued.or hsettled)
  have hwake : served.pwr.wakeLast = s.pwr.wakeLast := (congrArg PwrState.wakeLast hbase : dropped.pwr.base.wakeLast = s.pwr.base.wakeLast)
  refine ⟨_, rfl, (hqueued.or hsettled).mode rfl, ?_, ?_, hall.mem rfl⟩
  · exact (congrArg PwrState.wakeLast hsbase : PwrState.wakeLast (PwrState.base _) = served.pwr.base.wakeLast).trans hwake
  · exact (congrArg PwrState.serviceAt hsbase : PwrState.serviceAt (PwrState.base _) = served.pwr.base.serviceAt).trans (hdropped.now rfl)

theorem wakeEvent_to_service (code : Nat) (hm : s.mode = .retain) (hup : s.bist.shutDown = false) (hw : s.pwr.wake = none)
    (hr : s.pwr.rung = 3) : ∃ t, wakeEvent code true s = t ∧ t.mode = .service ∧ t.pwr.wakeLast = BitVec.ofNat 3 code ∧
      t.pwr.serviceAt = s.now ∧ t.mem = s.mem := by
  rw [wakeEvent_at_P3 code hm hup hw hr]
  exact backToService_spec (s := recordWake code true s) hm

/-! ## The exit -/

theorem excludeFailed_rests (s : State) : Rests s (excludeFailed s) := by
  unfold excludeFailed
  extract_lets new tests marked raised
  have hmarked : Rests s marked := .of_fr (m := 65536) (Fr.u65536 (.refl ..) rfl)
  have hraised : Rests marked raised := .forL (fun _ _ => raiseFault_rests ..) _ _
  refine (hmarked.trans hraised).trans (.forL (fun i t => ?_) _ _)
  extract_lets out
  have hout : Rests t out := .forN (fun _ _ => .of_fr (State.updPort_fr ..)) 8 _
  exact hout.trans (raiseFault_rests ..)

theorem registerHeld_rests (s : State) : Rests s (registerHeld s) := by
  unfold registerHeld
  have hcleared : Rests s { s with flt.held := [], flt.heldLost := 0 } := .of_fr (m := 1024) (Fr.u1024 (.refl ..) rfl)
  exact hcleared.trans (.forL (fun _ _ => (Rests.of_fr (State.updSrc_fr ..)).trans (fault_rests ..)) _ _)

/-- The exit ends the wake and keeps the key. -/
theorem standAtP3_rests (w : WakeRun) (l : List SensorReading) (s : State) : (standAtP3 w l s).keys = s.keys ∧
    (standAtP3 w l s).pwr.wake = none := by
  unfold standAtP3
  extract_lets charged powered ladder stood shadow shadowed sampled registered ledger served
  have hpowered : Rests s powered := (chargeRest_rests s).trans (.of_fr (powerLayers_fr ..))
  have hkeys : stood.keys = s.keys := by
    have hfr : Fr 4096 powered stood := Fr.u4096 (.refl ..) rfl
    rw [State.keys, hfr.rep rfl, ← hpowered.keys, State.keys]
  have hwake : stood.pwr.wake = none := rfl
  have hshadowed : Rests stood shadowed :=
    .then_ite ((Rests.of_fr (m := 8192) (Fr.u8192 (.refl ..) rfl)).trans (excludeFailed_rests _))
  have hsampled : Rests shadowed sampled := (sample_rests ..).trans (.of_fr (setModel_fr _))
  have hregistered : Rests sampled registered := registerHeld_rests _
  have hledger : Rests registered ledger := .then_ite (.of_fr (queueRecord_fr ..))
  have hserved : Rests ledger served := .then_ite (backToService_rests _)
  have hend := (checkMinimum_rests served).trans (pinShutdown_rests _)
  have hrest : Rests stood (if w.from_ = 5 ∧ registered.essentialFailed = true then enterHold 4 registered else pinShutdown (checkMinimum served)) :=
    ((hshadowed.trans hsampled).trans hregistered).trans (.ite (enterHold_rests ..) ((hledger.trans hserved).trans hend))
  exact ⟨hrest.keys.trans hkeys, hrest.wake hwake⟩

theorem exec_wakeExitComplete {w : WakeRun} (key : KeyDraw) (l : List SensorReading) (hw : s.pwr.wake = some w) :
    exec (.wakeExitComplete key l) s =
      if s.pwr.raising ∨ !s.sup.running ∨ !s.pwr.corePll then .next s
      else if w.from_ = 5 ∧ w.step < 6 then
        if key.healthy then .next (standAtP3 w l (drawKey key.raw false s))
        else .next { s with rep.keyPending := true, rep.keyAt := if s.rep.keyPending then s.rep.keyAt else s.now }
      else .next (standAtP3 w l s) := by
  change execWakeExitComplete key l s = _
  unfold execWakeExitComplete
  rw [hw]

theorem drawKey_keys (raw : List Byte) (s : State) : (drawKey raw false s).keys =
    (BitVec.ofNat 128 (shake256 raw).toNat, s.rep.keyGen + 1, false, false) := rfl

/-- Settles O52: wakes at P4 and P5 by `wakeEvent_at_rest`, at P3 by `wakeEvent_to_service`, the exit by `standAtP3_rests`. -/
theorem wakesStartTheExitAndAreRecorded : Obligations.WakesStartTheExitAndAreRecorded := by
  unfold Obligations.WakesStartTheExitAndAreRecorded
  refine ⟨fun s hm hup hw he hr => ⟨?pin, fun p hp => ?port, fun ht => ?timer, fun k hr4 hk => ?thermal, fun n hoff hc hheld => ?source,
    fun hr4 => ?hatbox, fun hb => ?bus⟩, fun s hm hup hw hr => ⟨?pin3, fun p hp hl => ?port3, fun hc => ?bus3⟩,
    fun s hm => ?still, fun key l s => ⟨fun hw => ?noWake, fun w hw => ⟨fun hwait => ?waits, fun h1 h2 h3 h5 hstep => ⟨fun hk => ?held, fun hk => ?drawn⟩,
      fun h1 h2 h3 h4 => ?from4⟩⟩, fun s hm hr => ⟨fun h4 he hq => ?done, fun h4 => ?notDone, fun hh => ?handled, fun hh => ?notHandled⟩⟩
  case pin =>
    exact ⟨_, congrArg Outcome.next (wakeEvent_at_rest (s := { s with pins.wakeN := false }) 3 true hm hup hw he hr), rfl, rfl, rfl, rfl, rfl, rfl, rfl, rfl⟩
  case port =>
    have hexec : exec (.portActivityWake p) s = .next (wakeEvent 1 true s) :=
      (if_pos ⟨hp, hm⟩).trans (congrArg (fun u => Outcome.next (wakeEvent 1 true u)) (if_neg (by omega)))
    rw [wakeEvent_at_rest 1 true hm hup hw he hr] at hexec
    exact ⟨_, hexec, rfl, rfl, rfl, rfl, rfl, rfl⟩
  case timer =>
    have hexec : exec .ladderTimerWake s = .next (wakeEvent 4 false (s.atLeast (s.pwr.restAt + s.pwr.ladderTimer.toNat * 1000000000))) :=
      if_pos ⟨by omega, ht⟩
    rw [wakeEvent_at_rest (s := s.atLeast _) 4 false hm hup hw he hr] at hexec
    exact ⟨_, hexec, rfl, rfl, rfl, rfl, rfl, rfl⟩
  case thermal =>
    have hexec : exec (.thermalWake k) s = .next (wakeEvent 5 false { s with pwr.wakeLayer := k.val }) := if_pos ⟨hr4, hk⟩
    rw [wakeEvent_at_rest (s := { s with pwr.wakeLayer := k.val }) 5 false hm hup hw he hr] at hexec
    refine ⟨_, hexec, ?_, rfl, rfl, rfl, rfl⟩
    rw [← hr4]
    rfl
  case source =>
    have hcoll : s.collectorOff = true := by
      rw [State.collectorOff, hoff, decide_eq_true (by omega)]
      rfl
    have hfault : fault n.val {} s = { s with flt.held := s.flt.held ++ [(n.val, s.now)] } :=
      (if_pos hcoll).trans ((if_pos hc).trans (if_neg (by omega)))
    have hexec : exec (.faultWake (some n)) s = .next (wakeEvent 6 false (fault n.val {} s)) := if_pos ⟨by omega, hm⟩
    rw [hfault, wakeEvent_at_rest (s := { s with flt.held := s.flt.held ++ [(n.val, s.now)] }) 6 false hm hup hw he hr] at hexec
    exact ⟨_, hexec, rfl, rfl, rfl, rfl⟩
  case hatbox =>
    have hexec : exec (.faultWake none) s = .next (wakeEvent 6 false s) := (if_pos ⟨by omega, hm⟩).trans (congrArg Outcome.next (if_pos hr4))
    rw [wakeEvent_at_rest 6 false hm hup hw he hr] at hexec
    refine ⟨_, hexec, ?_, rfl, rfl, rfl⟩
    rw [← hr4]
    rfl
  case bus =>
    have hexec : exec .twoWireWake s = .next (wakeEvent 2 false { s with mb.busy := some (6, s.now), mb.transfer := none }) :=
      congrArg Outcome.next (if_pos ⟨by omega, hm, by rw [hb]; rfl⟩)
    rw [wakeEvent_at_rest (s := { s with mb.busy := some (6, s.now), mb.transfer := none }) 2 false hm hup hw he hr] at hexec
    exact ⟨_, hexec, rfl, rfl, rfl, rfl, rfl, rfl⟩
  case pin3 =>
    obtain ⟨t, ht, hmode, hlast, hat, hmem⟩ := wakeEvent_to_service (s := { s with pins.wakeN := false }) 3 hm hup hw hr
    exact ⟨t, congrArg Outcome.next ht, hmode, hlast, hat, hmem⟩
  case port3 =>
    have hexec : exec (.portActivityWake p) s = .next (wakeEvent 1 true s) :=
      (if_pos ⟨hp, hm⟩).trans (congrArg (fun u => Outcome.next (wakeEvent 1 true u)) (if_neg (fun h => hl h.2)))
    obtain ⟨t, ht, hmode, hlast, -, hmem⟩ := wakeEvent_to_service 1 hm hup hw hr
    exact ⟨t, by rw [hexec, ht], hmode, hlast, hmem⟩
  case bus3 =>
    obtain ⟨m, hpoint, -⟩ := s.pointed_eq .returnToService
    have hrun := exec_ladder (f := fun u => if u.mode = .service ∨ u.mode = .retain then doReturnToService u else u) hc rfl (fun _ => rfl)
    have hdo (u : State) (hu : u.mode = .retain) : doReturnToService u = wakeEvent 2 true u := if_neg (by simp [hu])
    rw [hpoint, if_pos (.inr hm), hdo { s with mb := m } hm] at hrun
    obtain ⟨t, ht, hmode, hlast, -, hmem⟩ := wakeEvent_to_service (s := { s with mb := m }) 2 hm hup hw hr
    exact ⟨t, by rw [hrun ((wakeEvent_fr ..).mb rfl), ht], hmode, hlast, hmem⟩
  case still =>
    have hm' : s.mode ≠ .retain := by rcases hm with h | h <;> rw [h] <;> decide
    refine ⟨fun k hr => if_neg (by omega), fun n => if_neg (fun h => hm' h.2), congrArg Outcome.next (if_neg (fun h => hm' h.2.1)),
      fun p => if_neg (fun h => hm' h.2)⟩
  case noWake =>
    change execWakeExitComplete key l s = _
    unfold execWakeExitComplete
    rw [hw]
  case waits =>
    rw [exec_wakeExitComplete key l hw, if_pos]
    rcases hwait with h | h | h <;> simp [h]
  case held =>
    rw [exec_wakeExitComplete key l hw, if_neg (by simp [h1, h2, h3]), if_pos ⟨h5, hstep⟩, if_neg (by simp [hk])]
  case drawn =>
    rw [exec_wakeExitComplete key l hw, if_neg (by simp [h1, h2, h3]), if_pos ⟨h5, hstep⟩, if_pos hk]
    obtain ⟨hkeys, hwake⟩ := standAtP3_rests w l (drawKey key.raw false s)
    rw [drawKey_keys] at hkeys
    exact ⟨_, rfl, hwake, congrArg (·.2.2.2) hkeys, congrArg (·.1) hkeys, congrArg (·.2.1) hkeys, congrArg (·.2.2.1) hkeys⟩
  case from4 =>
    rw [exec_wakeExitComplete key l hw, if_neg (by simp [h1, h2, h3]), if_neg (by omega)]
    obtain ⟨hkeys, hwake⟩ := standAtP3_rests w l s
    refine ⟨_, rfl, hwake, congrArg (·.1) hkeys, congrArg (·.2.1) hkeys⟩
  case done =>
    refine ⟨_, if_pos ⟨hm, hr, h4, by rw [he]; rfl, hq⟩, ?_⟩
    have hbase (m : Nat) (u : State) (hu : u.pwr.cause = 0) : (startEntry m u).pwr.cause = 0 :=
      (congrArg PwrState.cause (startEntry_base m u) : (startEntry m u).pwr.base.cause = u.pwr.base.cause).trans hu
    exact hbase _ _ rfl
  case notDone => exact if_neg (fun h => h4 h.2.2.1)
  case handled => exact ⟨_, congrArg Outcome.next (if_pos ⟨hm, hr, hh⟩), rfl, rfl, rfl, rfl, rfl, hm⟩
  case notHandled => exact congrArg Outcome.next (if_neg (fun h => by rw [hh] at h; exact Bool.false_ne_true h.2.2))

end Sys2Proof.Machine
end

section
/-! SUPPORT. Self-test and shut-down (R486 to R492). -/

namespace Sys2Proof.Machine

open Host

variable {s t u : State} {l : List PartEnd} {e : PartEnd}

/-! ## The shut-down begins -/

theorem abandonEntry_shdnPin (result block : Nat) (s : State) : (abandonEntry result block s).shdnPin = s.shdnPin := by
  unfold abandonEntry
  split
  · rfl
  · dsimp only
    split_ifs <;> rfl

/-- An entry under way given up leaves none. -/
theorem dropEntry_spec (s : State) : ∃ t, (match s.pwr.entry with | some _ => abandonEntry 4 0 s | none => s) = t ∧ Fr 70272 s t ∧
    t.pwr.entry = none ∧ t.shdnPin = s.shdnPin := by
  cases he : s.pwr.entry with
  | none => exact ⟨s, rfl, .refl .., he, rfl⟩
  | some e =>
    obtain ⟨t, ht, hfr, hnone, -⟩ := abandonEntry_spec 4 0 he
    exact ⟨t, ht, hfr, hnone, ht ▸ abandonEntry_shdnPin 4 0 s⟩

/-- The way from s to t keeps the shut-down, its trigger and its start. -/
structure SameShut (s t : State) : Prop where
  on : t.bist.shutDown = s.bist.shutDown
  trigger : t.bist.trigger = s.bist.trigger
  at_ : t.bist.shutAt = s.bist.shutAt

theorem SameShut.of_bist (h : t.bist = s.bist) : SameShut s t := ⟨by rw [h], by rw [h], by rw [h]⟩

theorem SameShut.trans (h : SameShut s t) (h' : SameShut t u) : SameShut s u :=
  ⟨h'.on.trans h.on, h'.trigger.trans h.trigger, h'.at_.trans h.at_⟩

/-- Steps 2 and 3 of a shut-down, where they are due. -/
def advance2 (s : State) : State :=
  if s.bist.shutDown ∧ s.bist.phase = 2 ∧ (s.drained ∨ s.bist.shutAt + 60000 ≤ s.now) then { portsOff s with bist.phase := 3 } else s

/-- Step 4 of a shut-down, where it is due. -/
def advance3 (s : State) : State :=
  if s.bist.shutDown ∧ s.bist.phase = 3 ∧ s.jnl.queue = [] then
    startSelfTest s.bist.trigger.toNat (List.range 20) { stopMemory s with bist.phase := 4 }
  else s

theorem shutdownAdvance_eq (s : State) : shutdownAdvance s = advance3 (advance2 s) := by
  unfold shutdownAdvance advance2 advance3
  with_reducible rfl

theorem SameShut.phase (k : Nat) (s : State) : SameShut s { s with bist.phase := k } := ⟨rfl, rfl, rfl⟩

theorem SameShut.resumed (todo : List Nat) (s : State) :
    SameShut s { s with bist.running := true, bist.todo := todo, bist.phase := 4 } := ⟨rfl, rfl, rfl⟩

theorem SameShut.selfTest (parts : List Nat) (s : State) : SameShut s (startSelfTest s.bist.trigger.toNat parts s) :=
  ⟨rfl, BitVec.ofNat_toNat .., rfl⟩

theorem advance2_shut (s : State) : SameShut s (advance2 s) := by
  unfold advance2
  split
  · exact (SameShut.of_bist ((portsOff_fr s).bist rfl)).trans (.phase ..)
  · exact .of_bist rfl

theorem advance3_shut (s : State) : SameShut s (advance3 s) := by
  unfold advance3
  split
  · have hstop : SameShut s { stopMemory s with bist.phase := 4 } := (SameShut.of_bist ((stopMemory_fr s).bist rfl)).trans (.phase ..)
    have htest := SameShut.selfTest (List.range 20) { stopMemory s with bist.phase := 4 }
    rw [hstop.trigger] at htest
    exact hstop.trans htest
  · exact .of_bist rfl

/-- A shut-down that begins: its trigger, its time, no entry and no move to RETAIN. -/
theorem startShutdown_spec (k : Nat) (hoff : s.bist.shutDown = false) : ∃ t, startShutdown k s = t ∧ Fr 323048064 s t ∧
    t.bist.shutDown = true ∧ t.bist.trigger = BitVec.ofNat 3 k ∧ t.bist.shutAt = s.now ∧ t.pwr.retainPending = false ∧ t.pwr.entry = none ∧
    t.shdnPin = s.shdnPin := by
  obtain ⟨u, hu, hfr, hnone, hpin⟩ := dropEntry_spec s
  refine ⟨_, rfl, startShutdown_fr .., ?_⟩
  unfold startShutdown
  rw [if_neg (by simp [hoff])]
  extract_lets tests testing dropped shut ladder v off test asked
  have hdropped : dropped = u := hu
  have hv' : v.bist.shutDown = true ∧ v.bist.trigger = BitVec.ofNat 3 k ∧ v.bist.shutAt = s.now ∧ v.pwr.retainPending = false ∧
      v.pwr.entry = none ∧ v.shdnPin = s.shdnPin := by
    have hnow : dropped.now = s.now := by rw [hdropped]; exact hfr.now rfl
    have hentry : dropped.pwr.entry = none := by rw [hdropped]; exact hnone
    have hdpin : dropped.shdnPin = s.shdnPin := by rw [hdropped]; exact hpin
    clear_value dropped
    exact ⟨rfl, rfl, hnow, rfl, hentry, hdpin⟩
  clear_value v
  obtain ⟨hon, htrig, hat, hpend, hentry, hvpin⟩ := hv'
  have hend {w : State} (hw : SameShut v w) (hp : w.pwr = v.pwr) (hs : w.shdnPin = v.shdnPin) : w.bist.shutDown = true ∧ w.bist.trigger = BitVec.ofNat 3 k ∧
      w.bist.shutAt = s.now ∧ w.pwr.retainPending = false ∧ w.pwr.entry = none ∧ w.shdnPin = s.shdnPin :=
    ⟨hw.on.trans hon, hw.trigger.trans htrig, hw.at_.trans hat, by rw [hp]; exact hpend, by rw [hp]; exact hentry, hs.trans hvpin⟩
  split
  · have hstop := (portsOff_fr v).or (stopMemory_fr (portsOff v))
    have hkept : SameShut v off := .of_bist (hstop.bist rfl)
    have hpwr : off.pwr = v.pwr := hstop.pwr rfl
    have hspin : off.shdnPin = v.shdnPin := hstop.shdnPin rfl
    clear_value off
    exact hend (hkept.trans (.resumed tests.todo off)) hpwr hspin
  · rw [shutdownAdvance_eq]
    have hadvance := shutdownAdvance_fr { v with bist.phase := 2 }
    rw [shutdownAdvance_eq] at hadvance
    exact hend (((SameShut.phase 2 v).trans (advance2_shut _)).trans (advance3_shut _)) (hadvance.pwr rfl) (hadvance.shdnPin rfl)

/-! ## BIST_CMD -/

theorem doBist_eq (m : BitVec 20) (hshut : s.bist.shutDown = false) (hrun : s.bist.running = false) : doBist m s =
    if m = 0 then (if s.shutdownAllowed then startShutdown 2 { s with mb.busy := some (5, s.now) }
      else { s with bist.refused := true, mb.busy := none, mb.longOp := 5, mb.longOutcome := 1, mb.longDuration := 0 })
    else if s.mode = .hold ∨ s.mode = .factory then
      (if (startSelfTest 4 ((List.range 20).filter (fun i => m.getLsbD i)) { s with mb.busy := some (5, s.now) }).bist.todo = []
        then endTest (startSelfTest 4 ((List.range 20).filter (fun i => m.getLsbD i)) { s with mb.busy := some (5, s.now) })
        else startSelfTest 4 ((List.range 20).filter (fun i => m.getLsbD i)) { s with mb.busy := some (5, s.now) })
    else { s with bist.refused := true, mb.busy := none, mb.longOp := 5, mb.longOutcome := 1, mb.longDuration := 0 } := by
  unfold doBist
  extract_lets refuse
  rw [if_neg (by simp [hshut])]
  simp only [hrun, Bool.not_false, true_and]
  rfl

/-- A committed action's last part, which leaves all but the bus target. -/
theorem closeTransfer_spec (s : State) : closeTransfer s = { s with mb := (closeTransfer s).mb } ∧ (closeTransfer s).mb.busy = s.mb.busy ∧
    (closeTransfer s).mb.longOp = s.mb.longOp := by
  unfold closeTransfer
  split <;> exact ⟨rfl, rfl, rfl⟩

/-! ## The end of a slot -/

/-- What the ends of a slot's partitions leave in the table of results. -/
def slotResults (s : State) (l : List PartEnd) (parts : List (Nat × PartResult)) : List (Nat × PartResult) :=
  l.foldl (fun t e => tabSet {} t e.part.val { status := s.verdict e, duration := e.durationUs, sig := e.signature }) parts

theorem slotResults_other {i : Nat} (h : ∀ e ∈ l, e.part.val ≠ i) (parts : List (Nat × PartResult)) :
    tabGet {} (slotResults s l parts) i = tabGet {} parts i := by
  induction l generalizing parts with
  | nil => rfl
  | cons e l ih =>
    have he := h e List.mem_cons_self
    change tabGet {} (slotResults s l (tabSet {} parts e.part.val _)) i = _
    rw [ih (fun x hx => h x (List.mem_cons_of_mem _ hx)), tabGet_tabSet, if_neg (Ne.symm he)]

theorem slotResults_status {i : Nat} {v : BitVec 3} (hmem : ∃ e ∈ l, e.part.val = i) (h : ∀ e ∈ l, e.part.val = i → s.verdict e = v)
    (parts : List (Nat × PartResult)) : (tabGet {} (slotResults s l parts) i).status = v := by
  induction l generalizing parts with
  | nil => exact absurd hmem (by simp)
  | cons e l ih =>
    change (tabGet {} (slotResults s l (tabSet {} parts e.part.val _)) i).status = _
    by_cases hrest : ∃ x ∈ l, x.part.val = i
    · exact ih hrest (fun x hx => h x (List.mem_cons_of_mem _ hx)) _
    · have he : e.part.val = i := by
        obtain ⟨x, hx, hxi⟩ := hmem
        rcases List.mem_cons.mp hx with rfl | hx
        · exact hxi
        · exact absurd ⟨x, hx, hxi⟩ hrest
      rw [slotResults_other (fun x hx hxi => hrest ⟨x, hx, hxi⟩), tabGet_tabSet, if_pos he.symm]
      exact h e List.mem_cons_self he

/-- The ends of the partitions under test. -/
def State.slotEnds (s : State) (l : List PartEnd) : List PartEnd := l.filter (fun e => s.underTest.contains e.part.val)

/-- The self-test once a slot has ended: its results, what is left to do, the time spent. -/
def slotEnded (l : List PartEnd) (s : State) : State :=
  { s with bist := { s.bist with
      parts := slotResults s (s.slotEnds l) s.bist.parts
      todo := s.bist.todo.filter (fun i => !s.underTest.contains i)
      spent := s.bist.spent + (s.slotEnds l).foldl (fun m e => max m e.durationUs.toNat) 0
      slot := if s.bist.todo.filter (fun i => !s.underTest.contains i) = [] then s.bist.slot else s.bist.slot + 1 } }

/-- The partitions of a slot that failed or have no signature. -/
def State.slotBad (s : State) (l : List PartEnd) : Nat := ((s.slotEnds l).filter (fun e => decide (1 < (s.verdict e).toNat))).length

/-- A slot has ended: its failures counted, and with the last partition the test. -/
def slotDone (l : List PartEnd) (s : State) : State :=
  let v := faultMany 245 (s.slotBad l) {} ((slotEnded l s).atLeast (s.bist.startedAt + 1000 * (slotEnded l s).bist.spent))
  if (slotEnded l s).bist.todo = [] ∧ v.bist.running then endTest v else v

theorem exec_bistSlotEnd (hrun : s.bist.running = true) (hraise : s.pwr.raising = false) (hnow : s.underTest ≠ [])
    (hall : ∀ i ∈ s.underTest, ∃ e ∈ l, e.part.val = i) : exec (.bistSlotEnd l) s = .next (slotDone l s) := by
  have hends : s.underTest.all (fun i => l.any (fun e => decide (e.part.val = i))) = true := by simpa using hall
  change execBistSlotEnd l s = _
  unfold execBistSlotEnd
  extract_lets now
  refine (if_pos ⟨hrun, by simp [hraise], hnow, hends⟩).trans ?_
  · unfold slotDone slotEnded State.slotBad State.slotEnds slotResults
    with_reducible rfl

theorem satAdd_zero {w : Nat} (x : BitVec w) : satAdd x 0 = x := by
  unfold satAdd
  rw [Nat.add_zero, Nat.min_eq_left (by have := x.isLt; omega), BitVec.ofNat_toNat, BitVec.setWidth_eq]

/-- One event of a source that counts and does no more. -/
theorem faultMany_one {n : Nat} (d : EventDetail) (h0 : n ≠ 0) (h9 : n ≠ 9) (hper : ∀ u, perEvent n d u = u) (hq : s.quiet n) :
    faultMany n 1 d s = (s.withEvent n).updSrc n (fun x => { x with total := satAdd x.total 0 }) := by
  have hfault : fault n d s = s.withEvent n := by rw [fault_of_quiet d h0 h9 hq, hper]
  rw [← hfault]
  exact if_neg (by decide)

theorem endTest_spec (s : State) : Fr 81920 s (endTest s) ∧ (endTest s).bist.parts = s.bist.parts ∧ (endTest s).bist.todo = s.bist.todo ∧
    (endTest s).bist.running = false := by
  refine ⟨endTest_fr s, ?_⟩
  unfold endTest
  extract_lets b u b'
  have hb : u.bist = { s with bist.running := false }.bist := (queueResult_fr _).bist rfl
  have hend : u.bist.parts = s.bist.parts ∧ u.bist.todo = s.bist.todo ∧ u.bist.running = false := by rw [hb]; exact ⟨rfl, rfl, rfl⟩
  split
  · exact ⟨hend.1, hend.2.1, hend.2.2⟩
  · exact hend

/-- No layer has power once the tables of layers are switched off. -/
theorem layersOff_powered (k : Nat) (s : State) : ((layersOff s).layer k).powered = false := by
  have hmap (l : List (Nat × Layer)) : (tabGet ({} : Layer) (l.map (fun (e : Nat × Layer) => (e.1, { e.2 with powered := false }))) k).powered = false := by
    induction l with
    | nil => rfl
    | cons e l ih =>
      rw [List.map_cons, tabGet]
      split
      · rfl
      · exact ih
  exact hmap s.layers

theorem verdict_of_expected (h : s.expected e.part.val = some e.signature) : s.verdict e = 1 := by
  unfold State.verdict
  rw [h]
  exact if_pos rfl

theorem verdict_of_wrong (h : s.expected e.part.val ≠ some e.signature) : s.verdict e = if s.expected e.part.val = none then 3 else 2 := by
  unfold State.verdict
  split
  · next hx => rw [if_pos hx]
  · next x hx => rw [if_neg (by rw [hx] at h; exact fun he => h (by rw [he])), hx, if_neg (by simp)]

/-- Settles O55: the shut-down by `startShutdown_spec`, a chosen set by `doBist_eq`, the end of a slot by `slotResults_status`. -/
theorem selfTestsRunAndShutDownCompletes : Obligations.SelfTestsRunAndShutDownCompletes := by
  unfold Obligations.SelfTestsRunAndShutDownCompletes
  refine ⟨fun s => ⟨fun h => ?pinNot, fun hall hup => ?pin⟩, fun s hc hup hrun => ⟨fun hall => ?go, fun hall => ?refused⟩,
    fun m l s hc hup hrun hm hl => ⟨fun hmode hne => ?chosen, fun hmode => ?notHere⟩, fun l s h => ?idle, fun l s hrun hraise hnow hall hgood => ?passed,
    fun e s u hrun hraise hnow hbad hu hq => ?failed, fun s => ⟨fun h => ?noShut, fun hon h2 h6 => ?deadline⟩⟩
  case pinNot =>
    refine congrArg Outcome.next (if_neg ?_)
    rintro ⟨-, hall, hoff⟩
    rcases h with h | ⟨h, -⟩
    · exact Bool.false_ne_true (h.symm.trans hall)
    · simp [h] at hoff
  case pin =>
    have hexec : exec .shdnReqNLow s = .next (startShutdown 1 { s with pins.shdnReqN := false }) :=
      congrArg Outcome.next (if_pos ⟨rfl, hall, by simp [hup]⟩)
    obtain ⟨t, ht, hfr, hon, htrig, hat, hpend, hentry, hpin⟩ := startShutdown_spec (s := { s with pins.shdnReqN := false }) 1 hup
    rw [ht] at hexec
    exact ⟨t, hexec, hon, htrig, hat, hpin, hpend, hentry, hfr.mode rfl, hfr.now rfl⟩
  case go =>
    obtain ⟨m, hpoint, hbusy, -⟩ := s.pointed_eq .bistShutdownGo
    have hdo : doBist 0 { s with mb := m } = startShutdown 2 { s with mb := { m with busy := some (5, s.now) } } := by
      rw [doBist_eq (s := { s with mb := m }) 0 hup hrun, if_pos rfl]
      exact if_pos hall
    obtain ⟨t, ht, hfr, hon, htrig, hat, -⟩ := startShutdown_spec (s := { s with mb := { m with busy := some (5, s.now) } }) 2 hup
    have hexec : exec .bistShutdownGo s = .next (closeTransfer t) := by
      change Outcome.next (commit .bistShutdownGo s) = _
      rw [commit_of_commits hc, hpoint]
      change Outcome.next (closeTransfer (doBist 0 { s with mb := m })) = _
      rw [hdo, ht]
    obtain ⟨hclose, hcbusy, -⟩ := closeTransfer_spec t
    refine ⟨_, hexec, ?_, ?_, ?_, ?_, ?_⟩
    · rw [hclose]; exact hon
    · rw [hclose]; exact htrig
    · rw [hclose]; exact hat
    · rw [hcbusy, hfr.mb rfl]
    · rw [hclose]; exact hfr.mode rfl
  case refused =>
    obtain ⟨m, hpoint, hbusy, -⟩ := s.pointed_eq .bistShutdownGo
    have hexec : exec .bistShutdownGo s = .next { s with bist.refused := true, mb := { m with busy := none, longOp := 5, longOutcome := 1, longDuration := 0 } } := by
      change Outcome.next (commit .bistShutdownGo s) = _
      rw [commit_of_commits hc, hpoint]
      change Outcome.next (closeTransfer (doBist 0 { s with mb := m })) = _
      rw [doBist_eq (s := { s with mb := m }) 0 hup hrun, if_pos rfl,
        if_neg (show ¬ State.shutdownAllowed { s with mb := m } = true by simp [show State.shutdownAllowed { s with mb := m } = false from hall])]
      exact congrArg Outcome.next (closeTransfer_of_idle rfl)
    exact ⟨_, hexec, hup, rfl, rfl, rfl, rfl, rfl⟩
  case chosen =>
    obtain ⟨b, hpoint, hbusy, -⟩ := s.pointed_eq (.bistPartitionGo m)
    generalize hv : startSelfTest 4 ((List.range 20).filter (fun i => m.getLsbD i)) { s with mb := { b with busy := some (5, s.now) } } = v
    have hfacts : v.bist.todo = l ∧ v.bist.running = !l.isEmpty ∧ v.bist.trigger = 4 ∧ v.bist.startedAt = s.now ∧ v.mb.busy = some (5, s.now) ∧
        v.mem = s.mem ∧ v.ports = s.ports := by
      have hrest : ((List.range 20).filter (fun i => m.getLsbD i)).filter (fun i => !s.partAbsent i) = l := by
        rw [hl, List.filter_filter]
        exact List.filter_congr fun i _ => Bool.and_comm ..
      rw [← hv, ← hrest]
      exact ⟨rfl, rfl, rfl, rfl, rfl, rfl, rfl⟩
    obtain ⟨htodo, hvrun, htrig, hstart, hvbusy, hmem, hports⟩ := hfacts
    have hexec : exec (.bistPartitionGo m) s = .next (closeTransfer v) := by
      change Outcome.next (commit (.bistPartitionGo m) s) = _
      rw [commit_of_commits hc, hpoint]
      change Outcome.next (closeTransfer (doBist m { s with mb := b })) = _
      rw [doBist_eq (s := { s with mb := b }) m hup hrun, if_neg hm, if_pos hmode]
      change Outcome.next (closeTransfer (if (startSelfTest 4 _ { s with mb := { b with busy := some (5, s.now) } }).bist.todo = [] then _ else _)) = _
      rw [hv, if_neg (by rw [htodo]; exact hne)]
    obtain ⟨hclose, hcbusy, -⟩ := closeTransfer_spec v
    refine ⟨_, hexec, ?_, ?_, ?_, ?_, ?_, ?_, ?_⟩
    · rw [hclose]
      exact hvrun.trans (by simpa using hne)
    · rw [hclose]; exact htodo
    · rw [hclose]; exact htrig
    · rw [hclose]; exact hstart
    · rw [hcbusy, hvbusy]
    · rw [hclose]; exact hmem
    · rw [hclose]; exact hports
  case notHere =>
    obtain ⟨b, hpoint, hbusy, -⟩ := s.pointed_eq (.bistPartitionGo m)
    have hnot : ¬ (s.mode = .hold ∨ s.mode = .factory) := by rcases hmode with h | h <;> simp [h]
    have hexec : exec (.bistPartitionGo m) s = .next { s with bist.refused := true, mb := { b with busy := none, longOp := 5, longOutcome := 1, longDuration := 0 } } := by
      change Outcome.next (commit (.bistPartitionGo m) s) = _
      rw [commit_of_commits hc, hpoint]
      change Outcome.next (closeTransfer (doBist m { s with mb := b })) = _
      rw [doBist_eq (s := { s with mb := b }) m hup hrun, if_neg hm, if_neg hnot]
      exact congrArg Outcome.next (closeTransfer_of_idle rfl)
    exact ⟨_, hexec, hrun, rfl, rfl, rfl⟩
  case idle => exact if_neg (by rintro ⟨h1, h2, -⟩; rcases h with h | h <;> simp_all)
  case passed =>
    have hbad : s.slotBad l = 0 := by
      unfold State.slotBad State.slotEnds
      rw [List.length_eq_zero_iff, List.filter_eq_nil_iff]
      intro e he
      obtain ⟨hmem, hunder⟩ := List.mem_filter.mp he
      rw [verdict_of_expected (hgood e hmem (by simpa using hunder))]
      decide
    refine ⟨_, exec_bistSlotEnd hrun hraise hnow hall, ?_⟩
    obtain ⟨v, hv⟩ : ∃ v, v = (slotEnded l s).atLeast (s.bist.startedAt + 1000 * (slotEnded l s).bist.spent) := ⟨_, rfl⟩
    have hdone : slotDone l s = if (slotEnded l s).bist.todo = [] ∧ v.bist.running then endTest v else v := by
      unfold slotDone
      rw [hbad, ← hv]
      rfl
    have hparts : v.bist.parts = slotResults s (s.slotEnds l) s.bist.parts := by rw [hv]; rfl
    have hstatus : ∀ i ∈ s.underTest, (tabGet {} v.bist.parts i).status = 1 := by
      intro i hi
      rw [hparts]
      obtain ⟨e, he, rfl⟩ := hall i hi
      refine slotResults_status ⟨e, List.mem_filter.mpr ⟨he, by simpa using hi⟩, rfl⟩ (fun x hx hxi => ?_) _
      obtain ⟨hxl, hxu⟩ := List.mem_filter.mp hx
      exact verdict_of_expected (hgood x hxl (by simpa using hxu))
    have hother : ∀ i, i ∉ s.underTest → tabGet {} v.bist.parts i = s.part_ i := by
      intro i hi
      rw [hparts]
      refine slotResults_other (fun x hx hxi => ?_) _
      obtain ⟨-, hxu⟩ := List.mem_filter.mp hx
      exact hi (by rw [← hxi]; simpa using hxu)
    have htodo : v.bist.todo = s.bist.todo.filter (fun i => !s.underTest.contains i) := by rw [hv]; rfl
    have hvrun : v.bist.running = true := by rw [hv]; exact hrun
    have hflt : v.flt = s.flt := by rw [hv]; rfl
    have hmem : v.mem = s.mem := by rw [hv]; rfl
    have hports : v.ports = s.ports := by rw [hv]; rfl
    have htodo' : (slotEnded l s).bist.todo = v.bist.todo := by rw [hv]; rfl
    rw [hdone, htodo']
    by_cases hlast : v.bist.todo = []
    · rw [if_pos ⟨hlast, hvrun⟩]
      obtain ⟨hfr, hep, het, her⟩ := endTest_spec v
      refine ⟨(hfr.flt rfl).trans hflt, (hfr.mem rfl).trans hmem, (hfr.ports rfl).trans hports, fun i hi => ?_, fun i hi => ?_, het.trans htodo, ?_⟩
      · rw [State.part_, hep]; exact hstatus i hi
      · rw [State.part_, hep]; exact hother i hi
      · simp [her, het, hlast]
    · rw [if_neg (fun h => hlast h.1)]
      exact ⟨hflt, hmem, hports, hstatus, hother, htodo, by simp [hvrun, hlast]⟩
  case failed =>
    have hends : s.slotEnds [e] = [e] := List.filter_eq_self.mpr (by intro x hx; rw [List.mem_singleton.mp hx, hnow]; simp)
    have hverdict := verdict_of_wrong hbad
    have hone : s.slotBad [e] = 1 := by
      unfold State.slotBad
      rw [hends, List.filter_singleton, hverdict]
      split <;> simp_all
    refine ⟨_, exec_bistSlotEnd hrun hraise (by simp [hnow]) (by simp [hnow]), ?_⟩
    have hspent : (slotEnded [e] s).bist.spent = s.bist.spent + e.durationUs.toNat := by
      change s.bist.spent + (s.slotEnds [e]).foldl _ 0 = _
      rw [hends, List.foldl_cons, List.foldl_nil, Nat.zero_max]
    have hparts : (slotEnded [e] s).bist.parts = slotResults s [e] s.bist.parts := by
      change slotResults s (s.slotEnds [e]) s.bist.parts = _
      rw [hends]
    obtain ⟨v, hv⟩ : ∃ v, v = (slotEnded [e] s).atLeast (s.bist.startedAt + 1000 * (slotEnded [e] s).bist.spent) := ⟨_, rfl⟩
    have hvu : v = { u with bist := v.bist } ∧ v.bist.running = u.bist.running ∧ v.bist.parts = slotResults s [e] s.bist.parts := by
      refine ⟨?_, ?_, ?_⟩
      · rw [hv, hu, hspent]
        rfl
      · rw [hv, hu]; rfl
      · rw [hv]; exact hparts
    obtain ⟨hvu, hvrun, hvparts⟩ := hvu
    have hqv : v.quiet 245 := by
      have hoff : State.collectorOff { u with bist := v.bist } = false := by
        have h := hq.1
        rw [State.collectorOff] at h ⊢
        rw [← h]
        exact congrArg (fun b => decide (4 ≤ u.pwr.rung) && !b) hvrun
      rw [hvu]
      exact ⟨hoff, hq.2⟩
    have hsrcs : u.flt = s.flt ∧ u.mem = s.mem ∧ u.ports = s.ports := by rw [hu]; exact ⟨rfl, rfl, rfl⟩
    obtain ⟨huflt, humem, huports⟩ := hsrcs
    obtain ⟨w, hw⟩ : ∃ w, w = faultMany 245 1 {} v := ⟨_, rfl⟩
    have hdone : slotDone [e] s = if (slotEnded [e] s).bist.todo = [] ∧ w.bist.running then endTest w else w := by
      unfold slotDone
      rw [hone, ← hv, ← hw]
    have hweq := hw.trans (faultMany_one {} (by decide) (by decide) (perEvent_of_high (by decide) _) hqv)
    have hwfr : Fr 1024 v w := by
      rw [hweq]
      exact (v.withEvent_fr 245).trans ((v.withEvent 245).updSrc_fr ..)
    have hwtotal : (w.src 245).total = satInc (s.src 245).total := by
      rw [hweq, State.updSrc_src, if_pos rfl, State.withEvent_src_self]
      change satAdd (satInc (v.src 245).total) 0 = _
      rw [satAdd_zero, src_congr (congrArg FltState.sources (show v.flt = s.flt by rw [hvu]; exact huflt))]
    have hstatus : (tabGet {} w.bist.parts e.part.val).status = if s.expected e.part.val = none then 3 else 2 := by
      rw [hwfr.bist rfl, hvparts]
      exact slotResults_status ⟨e, List.mem_singleton_self e, rfl⟩ (fun x hx _ => by rw [List.mem_singleton.mp hx, hverdict]) _
    have hwnow : w.now = u.now := by rw [hwfr.now rfl, hvu]
    have hwmem : w.mem = s.mem := by rw [hwfr.mem rfl, hvu]; exact humem
    have hwports : w.ports = s.ports := by rw [hwfr.ports rfl, hvu]; exact huports
    rw [hdone]
    split
    · obtain ⟨hfr, hep, -, -⟩ := endTest_spec w
      refine ⟨?_, ?_, (hfr.now rfl).trans hwnow, (hfr.mem rfl).trans hwmem, (hfr.ports rfl).trans hwports⟩
      · rw [State.part_, hep]; exact hstatus
      · rw [src_congr (congrArg FltState.sources (hfr.flt rfl))]; exact hwtotal
    · exact ⟨hstatus, hwtotal, hwnow, hwmem, hwports⟩
  case noShut => exact if_neg (by simp [h])
  case deadline =>
    refine ⟨_, if_pos ⟨hon, h2, h6⟩, rfl, rfl, rfl, fun k => ?_, rfl⟩
    exact layersOff_powered k (s.atLeast (s.bist.shutAt + 598000000))

end Sys2Proof.Machine
end

section
/-! SUPPORT. What the collector keeps once the grave latch has put the stack in HOLD: the mode, the first cause, the latch and its source (R36, R424). -/

namespace Sys2Proof.Machine

open Host

variable {s t u : State}

/-- The mode, the hold cause, the three copies of the grave latch and its source. -/
def State.holdFacts (s : State) : Mode × BitVec 8 × Bool × Bool × Bool × BitVec 8 :=
  (s.mode, s.holdCause, s.flt.grave0, s.flt.grave1, s.flt.grave2, s.flt.graveSrc)

/-- The way from s to t keeps a HOLD with the latch set: its mode, its cause, the latch and the latch's source. -/
structure Grips (s t : State) : Prop where
  kept : s.mode = .hold → s.grave = true → t.holdFacts = s.holdFacts

theorem State.holdFacts_eq (h : t.holdFacts = s.holdFacts) : t.mode = s.mode ∧ t.holdCause = s.holdCause ∧ t.grave = s.grave ∧
    t.flt.graveSrc = s.flt.graveSrc := by
  obtain ⟨hmode, hcause, h0, h1, h2, hsrc⟩ : _ ∧ _ ∧ _ ∧ _ ∧ _ ∧ _ := by simpa [State.holdFacts] using h
  exact ⟨hmode, hcause, by rw [State.grave, h0, h1, h2, State.grave], hsrc⟩

theorem Grips.refl (s : State) : Grips s s := ⟨fun _ _ => rfl⟩

theorem Grips.of_facts (h : t.holdFacts = s.holdFacts) : Grips s t := ⟨fun _ _ => h⟩

theorem Grips.trans (h : Grips s t) (h' : Grips t u) : Grips s u := by
  refine ⟨fun hm hg => ?_⟩
  obtain ⟨hmode, -, hgrave, -⟩ := State.holdFacts_eq (h.kept hm hg)
  exact (h'.kept (hmode.trans hm) (hgrave.trans hg)).trans (h.kept hm hg)

theorem Fr.holdFacts {m : Nat} (h : Fr m s t) (hm : m &&& 1072 = 0 := by decide) : t.holdFacts = s.holdFacts := by
  have hbit {i : Nat} (hi : (1072 : Nat).testBit i = true) : m.testBit i = false := testBit_of_disjoint hm hi
  rw [State.holdFacts, h.mode (hbit (by decide)), h.holdCause (hbit (by decide)), h.flt (hbit (by decide)), State.holdFacts]

theorem Grips.of_fr {m : Nat} (h : Fr m s t) (hm : m &&& 1072 = 0 := by decide) : Grips s t := .of_facts (h.holdFacts hm)

theorem Grips.ite {c : Prop} [Decidable c] (h : Grips s t) (h' : Grips s u) : Grips s (if c then t else u) := by
  split
  · exact h
  · exact h'

theorem Grips.then_ite {c : Prop} [Decidable c] (h : Grips t u) : Grips t (if c then u else t) := .ite h (.refl t)

theorem Grips.forL {α : Type} {f : α → State → State} (h : ∀ a t, Grips t (f a t)) (l : List α) (s : State) : Grips s (forL l f s) := by
  induction l generalizing s with
  | nil => exact .refl s
  | cons a l ih => exact (h a s).trans (ih (f a s))

theorem Grips.forN {f : Nat → State → State} (h : ∀ i t, Grips t (f i t)) (n : Nat) (s : State) : Grips s (forN n f s) :=
  Grips.forL h (List.range n) s

/-! ## Alerts, records, notices -/

theorem updSrc_grips (n : Nat) (f : Source → Source) (s : State) : Grips s (s.updSrc n f) := .of_facts rfl

theorem setAlert_grips (m : BitVec 5) (s : State) : Grips s (setAlert m s) := by
  unfold setAlert
  split
  · exact .refl s
  · exact (Grips.of_facts rfl : Grips s { s with flt.alert := s.flt.alert ||| m }).trans (.of_fr (attend_fr _))

theorem logRecord_grips (src cls : Nat) (forced reacted : Bool) (record detail : Nat) (s : State) :
    Grips s (logRecord src cls forced reacted record detail s) := by
  unfold logRecord
  extract_lets w0 w1 w2 w3 old lost f u v bytes
  have hu : Grips s u := .of_facts rfl
  exact (hu.trans (.then_ite (setAlert_grips ..))).trans (.of_fr (queueRecord_fr ..))

theorem sendNotice_grips (p src cls win : Nat) (s : State) : Grips s (sendNotice p src cls win s) := by
  unfold sendNotice
  refine .then_ite ?_
  extract_lets time four sent
  exact (Grips.of_fr (s.updPort_fr ..)).trans (.then_ite (setAlert_grips ..))

theorem notices_grips (src : Nat) (d : EventDetail) (s : State) : Grips s (notices src d s) := by
  unfold notices
  extract_lets cls ranks
  refine .ite (sendNotice_grips ..) (.ite ?_ (.ite ?_ (.forN (fun p t => sendNotice_grips ..) 16 s)))
  · split
    · refine .forN (fun p t => ?_) 16 s
      split
      · exact sendNotice_grips ..
      · exact .refl t
    · exact .forN (fun p t => .then_ite (sendNotice_grips ..)) 16 s
  · refine .forN (fun p t => ?_) 16 s
    split
    · exact sendNotice_grips ..
    · exact .refl t

/-! ## The latch and HOLD -/

theorem enterHold_grips (c : Nat) (s : State) : Grips s (enterHold c s) := by
  exact ⟨fun hm _ => by rw [enterHold_of_hold c hm]⟩

theorem setGrave_grips (n : Nat) (forced : Bool) (c : Nat) (s : State) : Grips s (setGrave n forced c s) := by
  unfold setGrave
  extract_lets flt u v w x
  have hu : Grips s u := ⟨fun _ hg => by rw [show u = s from if_pos hg]⟩
  have hx : Fr 4194304 v x := Fr.forN (fun i t => Fr.iteT (State.updPort_fr ..) (.refl ..)) 16 (.refl ..)
  exact ((hu.trans (setAlert_grips ..)).trans (.of_fr hx)).trans (enterHold_grips ..)

theorem latchGrave_grips (n : Nat) (d : EventDetail) (forced : Bool) (c : Nat) (s : State) : Grips s (latchGrave n d forced c s) :=
  (Grips.ite (.refl s) (logRecord_grips ..)).trans (setGrave_grips ..)

theorem holdReaction_grips (n : Nat) (d : EventDetail) (forced : Bool) (s : State) : Grips s (holdReaction n d forced s) := by
  unfold holdReaction
  exact .then_ite (((updSrc_grips ..).trans (logRecord_grips ..)).trans (setGrave_grips ..))

/-! ## Events and raises -/

theorem reactions_grips (n : Nat) (d : EventDetail) (forced : Bool) (record : Nat) (s : State) : Grips s (reactions n d forced record s) := by
  unfold reactions
  extract_lets re cls logged alerted noticed fenced repaired
  have hlogged : Grips s logged := .then_ite (logRecord_grips ..)
  have halerted : Grips logged alerted := .then_ite (setAlert_grips ..)
  have hnoticed : Grips alerted noticed := .then_ite (notices_grips ..)
  have hfenced : Grips noticed fenced := .then_ite (.of_fr (fencePort_fr ..))
  exact ((((hlogged.trans halerted).trans hnoticed).trans hfenced).trans (.of_fr (repairReactions_fr ..))).trans
    (.then_ite (.of_fr (supRestart_fr _)))

theorem escalate_grips (n : Nat) (d : EventDetail) (forced : Bool) (s : State) : Grips s (escalate n d forced s) := by
  unfold escalate
  extract_lets c raised reacted
  exact ((updSrc_grips ..).trans (reactions_grips ..)).trans (.ite (setGrave_grips ..) (holdReaction_grips ..))

theorem counted_grips (n : Nat) (forced : Bool) (s : State) : Grips s (s.counted n forced) := by
  unfold State.counted
  exact (updSrc_grips ..).trans (.then_ite (setAlert_grips ..))

theorem registerEvent_grips (n : Nat) (d : EventDetail) (forced : Bool) (s : State) : Grips s (registerEvent n d forced s).1 :=
  registerEvent_cases (P := Grips s) n d forced s (fun _ => .refl s) (fun _ => updSrc_grips ..)
    (fun _ _ => (counted_grips ..).trans (escalate_grips ..)) (fun _ => (counted_grips ..).trans (latchGrave_grips ..)) (fun _ => counted_grips ..)

theorem raiseOnly_grips (n k : Nat) (d : EventDetail) (c : Nat) (s : State) : Grips s (raiseOnly n k d c s) := by
  unfold raiseOnly
  extract_lets old raised reacted
  have hreacted : Grips s reacted := (updSrc_grips ..).trans (reactions_grips ..)
  exact .ite (.then_ite (latchGrave_grips ..)) (hreacted.trans (.ite (setGrave_grips ..) (holdReaction_grips ..)))

/-! ## Takeovers and the actions of an event -/

theorem checkMinimum_grips (s : State) : Grips s (checkMinimum s) := by
  unfold checkMinimum
  exact .ite (.refl s) (.ite (enterHold_grips ..) (.then_ite ((registerEvent_grips ..).trans (latchGrave_grips ..))))

theorem pairLoss_grips (i : Nat) (s : State) : Grips s (pairLoss i s) := by
  unfold pairLoss
  extract_lets a b marked stopped logged first second book counted noticed
  have hmarked : Grips s marked := .of_fr ((s.updChan_fr ..).or (State.updChan_fr ..))
  have hstopped : Grips marked stopped := .forL (fun q t => .of_fr (stopPc_fr q t)) _ _
  have hlogged : Grips stopped logged := .forL (fun _ _ => logRecord_grips ..) _ _
  have hcounted : Grips second counted := .of_facts rfl
  have hnoticed : Grips counted noticed := .forN (fun _ _ => .then_ite (sendNotice_grips ..)) 16 _
  exact ((((hmarked.trans hstopped).trans hlogged).trans ((registerEvent_grips ..).trans (registerEvent_grips ..))).trans
    (hcounted.trans hnoticed)).trans (checkMinimum_grips _)

theorem takeover_grips (n src : Nat) (s : State) : Grips s (takeover n src s) := by
  unfold takeover
  extract_lets m both shrunk
  have hboth : Grips s both := .of_fr ((s.updChan_fr ..).or (State.updChan_fr ..))
  have hshrunk : Grips both shrunk := .of_facts rfl
  exact .ite (.refl s) (.ite (pairLoss_grips ..) ((hboth.trans hshrunk).trans (raiseOnly_grips ..)))

theorem gloveReaction_grips (n : Nat) (s : State) : Grips s (gloveReaction n s) := by
  unfold gloveReaction
  exact .then_ite (.then_ite (takeover_grips ..))

theorem perEvent_grips (n : Nat) (d : EventDetail) (s : State) : Grips s (perEvent n d s) := by
  unfold perEvent
  refine .ite (.of_fr (supRestart_fr s)) (.ite ?_ (.then_ite (.of_fr (layerEntry_fr ..))))
  dsimp only
  split
  iterate 2 exact .of_fr (s.updPc_fr ..)
  iterate 2 exact takeover_grips ..
  exact .refl s

/-! ## A source at GRAVE -/

/-- In HOLD with the latch set from s on: its cause, and its source where the latch was clear. -/
structure Latched (n : Nat) (s t : State) : Prop where
  grave : t.grave = true
  mode : t.mode = .hold
  cause : s.mode ≠ .hold → t.holdCause = if s.holdCause ≠ 0 then s.holdCause else if s.mode = .boot then 1 else BitVec.ofNat 8 (graveCause n)
  source : s.grave = false → t.flt.graveSrc = BitVec.ofNat 8 n

theorem Latched.after {n : Nat} (h0 : Fr 4605440 s u) (hg : u.grave = s.grave) (h : Latched n u t) : Latched n s t := by
  obtain ⟨hgrave, hmode, hcause, hsource⟩ := h
  have hm := h0.mode rfl
  exact ⟨hgrave, hmode, fun hh => by rw [hcause (hm ▸ hh), h0.holdCause rfl, hm], fun hs => hsource (hg.trans hs)⟩

theorem Latched.grips {n : Nat} (h : Latched n s t) (hk : Grips t u) : Latched n s u := by
  obtain ⟨hgrave, hmode, hcause, hsource⟩ := h
  obtain ⟨hm, hc, hg, hsrc⟩ := State.holdFacts_eq (hk.kept hmode hgrave)
  exact ⟨hg.trans hgrave, hm.trans hmode, fun hh => hc.trans (hcause hh), fun hs => hsrc.trans (hsource hs)⟩

theorem enterHold_graveSrc (c : Nat) (s : State) : (enterHold c s).flt.graveSrc = s.flt.graveSrc := by
  by_cases ht : s.mode = .trip
  · rw [enterHold_of_trip c ht]
  by_cases hh : s.mode = .hold
  · rw [enterHold_of_hold c hh]
  · rw [enterHold_flt c ht hh]

theorem setAlert_holdFacts (m : BitVec 5) (s : State) : (setAlert m s).holdFacts = s.holdFacts := by
  unfold setAlert
  split
  · rfl
  · exact (attend_fr _).holdFacts

/-- The source of a latch that was clear. -/
theorem setGrave_graveSrc (n : Nat) (forced : Bool) (c : Nat) (hg : s.grave = false) :
    (setGrave n forced c s).flt.graveSrc = BitVec.ofNat 8 n := by
  unfold setGrave
  extract_lets flt u v w x
  have hu : u.flt.graveSrc = BitVec.ofNat 8 n := by rw [show u = _ from if_neg (by rw [hg]; exact Bool.false_ne_true)]
  have hx : Fr 4194304 v x := Fr.forN (fun i t => Fr.iteT (State.updPort_fr ..) (.refl ..)) 16 (.refl ..)
  obtain ⟨-, -, -, hv⟩ := State.holdFacts_eq (setAlert_holdFacts 2 u)
  rw [enterHold_graveSrc, hx.flt rfl]
  exact hv.trans hu

theorem setGrave_latched (n : Nat) (forced : Bool) (ht : s.mode ≠ .trip) : Latched n s (setGrave n forced (graveCause n) s) := by
  obtain ⟨u, hfr, hgrave, -, heq⟩ := setGrave_eq n forced (graveCause n) s
  have hm := hfr.mode rfl
  refine ⟨?_, ?_, fun hh => ?_, setGrave_graveSrc n forced _⟩
  · rw [heq]
    exact (State.grave_eq_of_latches (enterHold_latches _ u)).trans hgrave
  · rw [heq]
    exact enterHold_mode _ (hm ▸ ht)
  · rw [heq, enterHold_holdCause _ (hm ▸ ht) (hm ▸ hh), hfr.holdCause rfl]
    by_cases h0 : s.holdCause = 0
    · rw [if_pos h0, if_neg (not_not_intro h0)]
      split <;> rfl
    · rw [if_neg h0, if_pos h0]

theorem latchGrave_latched (n : Nat) (d : EventDetail) (forced : Bool) (ht : s.mode ≠ .trip) :
    Latched n s (latchGrave n d forced (graveCause n) s) := by
  obtain ⟨u, hfr, hlatches, heq⟩ := latchGrave_eq n d forced (graveCause n) s
  rw [heq]
  exact (setGrave_latched n forced (hfr.mode rfl ▸ ht)).after hfr (State.grave_eq_of_latches hlatches)

theorem State.updSrc_grave (s : State) (n : Nat) (f : Source → Source) : (s.updSrc n f).grave = s.grave := rfl

theorem State.counted_grave (n : Nat) (forced : Bool) (s : State) : (s.counted n forced).grave = s.grave := by
  have halert (u : State) : (if n = 0 ∨ n = 9 then setAlert 16 u else u).grave = u.grave := by
    split
    · exact State.grave_eq_of_latches (setAlert_latches ..)
    · rfl
  exact halert _

/-- An escalation of a source at GRAVE. -/
theorem escalate_latched {n : Nat} (d : EventDetail) (forced : Bool) (ht : s.mode ≠ .trip) (hc : s.srcClass n = 4) :
    Latched n s (escalate n d forced s) := by
  unfold escalate
  extract_lets c raised reacted
  have hfr : Fr 4605440 s reacted := Fr.step (reactions_fr ..) (by decide) ((State.updSrc_fr ..).mono (by decide))
  have hgrave : reacted.grave = s.grave := (State.grave_eq_of_latches (reactions_latches n d _ _ raised)).trans (s.updSrc_grave n _)
  rw [if_pos hc]
  exact (setGrave_latched n forced (hfr.mode rfl ▸ ht)).after hfr hgrave

/-- A raise of GRAVE. -/
theorem raiseOnly_latched (n : Nat) (d : EventDetail) (ht : s.mode ≠ .trip) : Latched n s (raiseOnly n 4 d (graveCause n) s) := by
  unfold raiseOnly
  extract_lets old raised reacted
  split
  · rw [if_pos rfl]
    exact latchGrave_latched n d false ht
  · have hfr : Fr 4605440 s reacted := Fr.step (reactions_fr ..) (by decide) ((State.updSrc_fr ..).mono (by decide))
    have hgrave : reacted.grave = s.grave := (State.grave_eq_of_latches (reactions_latches n d _ _ raised)).trans (s.updSrc_grave n _)
    rw [if_pos rfl]
    exact (setGrave_latched n false (hfr.mode rfl ▸ ht)).after hfr hgrave

/-- The collector enters no TRIP and leaves none. -/
theorem fault_trip {n : Nat} {d : EventDetail} (hn : noGlove n) (hper : ∀ u, perEvent n d u = u) (s : State) :
    decide ((fault n d s).mode = .trip) = decide (s.mode = .trip) := by
  refine fault_eq_of_kept (g := fun u => decide (u.mode = .trip)) (fun h => by rw [h.mode rfl]) (fun c u => ?_) hn hper s
  by_cases ht : u.mode = .trip
  · rw [enterHold_of_trip c ht]
  · rw [enterHold_mode c ht, decide_eq_false ht]
    rfl

end Sys2Proof.Machine
end

section
/-! SUPPORT. Events, windows, self-checks, forced events, CLEAR and the crossbar (R414 to R416, R425, R430, R432; O53). -/

namespace Sys2Proof.Machine

open Host

variable {s t u : State} {n : Nat}

/-! ## Events -/

/-- Sources without an action of their own (R421). -/
theorem perEvent_of_plain (h1 : n ≠ 1) (h : n < 80 ∨ 212 ≤ n) (d : EventDetail) (s : State) : perEvent n d s = s :=
  (if_neg h1).trans ((if_neg (by omega)).trans (if_neg (by omega)))

theorem noGlove_of_plain (h : n < 80 ∨ 212 ≤ n) : noGlove n := fun hg => by omega

theorem counted_of_quiet (d : EventDetail) (hq : s.quiet n) : registerEvent n d false s = (s.counted n false, false) := by
  obtain ⟨-, hcounts, hlast, hnth⟩ := hq
  have hnth' : ¬ ((s.src n).count1 (s.eventTime false)).2 = true := by
    rw [show s.eventTime false = s.now from rfl, hnth]
    decide
  rw [registerEvent_eq, if_neg (by rw [hcounts]; decide), if_neg (show (s.src n).last ≠ some (s.eventTime false) from hlast), if_neg hnth']
  exact if_neg (fun h => Bool.false_ne_true h.1)

/-- An event that is registered and does not escalate, of a source without an action of its own. -/
theorem fault_of_registered {d : EventDetail} (hper : ∀ u, perEvent n d u = u) (hon : s.collectorOff = false)
    (hreg : registerEvent n d false s = (t, false)) : fault n d s = t := by
  unfold fault
  rw [if_neg (by rw [hon]; exact Bool.false_ne_true), hreg]
  simp only [Bool.false_eq_true, if_false, hper, ite_self]

theorem fault_of_quiet_counted (d : EventDetail) (hper : ∀ u, perEvent n d u = u) (hq : s.quiet n) : fault n d s = s.counted n false :=
  fault_of_registered hper hq.1 (counted_of_quiet d hq)

theorem fault_again (d : EventDetail) (hper : ∀ u, perEvent n d u = u) (hon : s.collectorOff = false) (hcounts : s.counts n = true)
    (hlast : (s.src n).last = some s.now) : fault n d s = s.updSrc n (fun x => { x with total := satInc x.total }) := by
  refine fault_of_registered hper hon ?_
  rw [registerEvent_eq, if_neg (by rw [hcounts]; decide)]
  exact if_pos hlast

/-- Several events of a tick that do not escalate. -/
theorem faultMany_counted (d : EventDetail) (hper : ∀ u, perEvent n d u = u) (hq : s.quiet n) :
    faultMany n 1 d s = (s.counted n false).updSrc n (fun x => { x with total := satAdd x.total 0 }) := by
  rw [← fault_of_quiet_counted d hper hq]
  exact if_neg (by decide)

theorem setAlert_checks (m : BitVec 5) (s : State) : (setAlert m s).flt.checks = s.flt.checks := by
  unfold setAlert
  split
  · rfl
  · rw [(attend_fr _).flt rfl]

/-- What one such event leaves: its source's count, and all but the collector and the attention request. -/
theorem faultMany_spec (d : EventDetail) (hper : ∀ u, perEvent n d u = u) (hq : s.quiet n) : ∃ t, faultMany n 1 d s = t ∧ Fr 132096 s t ∧
    t.latches.2 = s.latches.2 ∧ t.flt.checks = s.flt.checks ∧ (t.src n).total = satInc (s.src n).total ∧ (∀ m, m ≠ n → t.src m = s.src m) := by
  refine ⟨_, faultMany_counted d hper hq, (s.counted_fr n false).trans (((s.counted n false).updSrc_fr ..).mono rfl), ?_, ?_, ?_, fun m hm => ?_⟩
  · have halert (u : State) : (if n = 0 ∨ n = 9 then setAlert 16 u else u).latches.2 = u.latches.2 := by
      split
      · rw [setAlert_latches]
      · rfl
    exact halert _
  · have halert (u : State) : (if n = 0 ∨ n = 9 then setAlert 16 u else u).flt.checks = u.flt.checks := by
      split
      · exact setAlert_checks ..
      · rfl
    exact halert _
  · rw [State.updSrc_src, if_pos rfl, State.counted_src, if_pos rfl]
    exact (satAdd_zero _).trans (Source.counted_total ..)
  · rw [State.updSrc_src, if_neg hm, State.counted_src, if_neg hm]

/-- The reaction of a source that logs only. -/
theorem reactions_of_log (d : EventDetail) (forced : Bool) (record : Nat) (h : s.srcReact n = 1) :
    reactions n d forced record s = logRecord n (s.srcClass n) forced true record (detailOf n d) s := by
  have hrepair (u : State) (hu : u.srcReact n = 1) : repairReactions n d u = u := by
    unfold repairReactions
    rw [hu]
    exact if_neg (by decide)
  unfold reactions
  extract_lets re cls logged alerted noticed fenced repaired
  have hre : re = 1 := h
  have hlogged : logged = logRecord n (s.srcClass n) forced true record (detailOf n d) s := by
    have hreacted : (re != 0) = true := by rw [hre]; rfl
    unfold logged
    rw [if_pos (.inl (by rw [hre]; decide)), hreacted]
  have halerted : alerted = logged := if_neg (by rw [hre]; decide)
  have hnoticed : noticed = alerted := if_neg (by rw [hre]; decide)
  have hfenced : fenced = noticed := if_neg (fun h => absurd h.1 (by rw [hre]; decide))
  have hsame : fenced = logged := hfenced.trans (hnoticed.trans halerted)
  have hrepaired : repaired = fenced := by
    refine hrepair fenced ?_
    rw [hsame, hlogged, srcReact_congr (State.src_eq_of_latches (logRecord_latches ..) n)]
    exact h
  rw [if_neg (by rw [hre]; decide), hrepaired, hsame, hlogged]

theorem setAlert_nextSeq (m : BitVec 5) (s : State) : (setAlert m s).flt.nextSeq = s.flt.nextSeq := by
  unfold setAlert
  split
  · rfl
  · rw [(attend_fr _).flt rfl]

theorem logRecord_nextSeq (src cls : Nat) (forced reacted : Bool) (record detail : Nat) (s : State) :
    (logRecord src cls forced reacted record detail s).flt.nextSeq = s.flt.nextSeq + 1 := by
  unfold logRecord
  extract_lets w0 w1 w2 w3 old lost f u v bytes
  have hu : u.flt.nextSeq = s.flt.nextSeq + 1 := rfl
  have hv : v.flt.nextSeq = u.flt.nextSeq := by
    unfold v
    split
    · exact setAlert_nextSeq 4 u
    · rfl
  rw [(queueRecord_fr _ v).flt rfl, hv, hu]

/-! ## The crossbar -/

theorem Pc.dropWrites_serial (x : Pc) (serial : Nat) : ∀ e ∈ (x.dropWrites serial (fun _ => true)).wq, ∀ w ∈ e.writes, w.serial ≠ serial := by
  intro e he w hw
  obtain ⟨e', -, rfl⟩ := List.mem_map.mp (List.mem_filter.mp he).1
  simpa using (List.mem_filter.mp hw).2

/-- What the end of an accepted request's work leaves of a pseudo-channel. -/
def Pc.released (p tag serial : Nat) (x : Pc) : Pc :=
  let mine : Grant → Bool := fun g => decide (g.port = p) && decide (g.tag = tag) && decide (g.serial = serial)
  { x with
    grants := x.grants.filter (fun g => !mine g)
    granted := x.granted - (x.grants.filter mine).length
    bursts := x.bursts.filter (fun b => (b.write || decide (b.serial ≠ serial)) && decide (b.serials ≠ [serial])) }.dropWrites serial (fun _ => true)

theorem dropWork_eq (p tag serial : Nat) (s : State) :
    dropWork p tag serial s = forN 32 (fun q s => if s.pc q = {} then s else s.updPc q (Pc.released p tag serial)) s := rfl

/-- A loop over the pseudo-channels, each turn of which changes its own. -/
theorem forN_pc {g : Nat → State → State} {F : Nat → Pc → Pc} (hself : ∀ i t, (g i t).pc i = F i (t.pc i))
    (hother : ∀ i t j, j ≠ i → (g i t).pc j = t.pc j) (m q : Nat) (s : State) :
    (forN m g s).pc q = if q < m then F q (s.pc q) else s.pc q := by
  induction m with
  | zero => rfl
  | succ m ih =>
    rw [forN_succ]
    by_cases hq : q = m
    · subst hq
      rw [hself, ih, if_neg (Nat.lt_irrefl q), if_pos (Nat.lt_succ_self q)]
    · rw [hother _ _ _ hq, ih]
      by_cases hlt : q < m
      · rw [if_pos hlt, if_pos (Nat.lt_succ_of_lt hlt)]
      · rw [if_neg hlt, if_neg (by omega)]

/-- No queued write of the acceptance is left. -/
theorem dropWork_serial (p tag serial : Nat) (s : State) {q : Nat} (hq : q < 32) :
    ∀ e ∈ ((dropWork p tag serial s).pc q).wq, ∀ w ∈ e.writes, w.serial ≠ serial := by
  rw [dropWork_eq, forN_pc (F := fun _ x => if x = {} then x else x.released p tag serial) (fun i t => ?self) (fun i t j hj => ?other), if_pos hq]
  · split
    · next h =>
      rw [h]
      exact fun e he => absurd he List.not_mem_nil
    · exact Pc.dropWrites_serial _ serial
  case self =>
    split
    · rfl
    · rw [State.updPc_pc, if_pos rfl]
  case other =>
    split
    · rfl
    · rw [State.updPc_pc, if_neg hj]

/-- A second failure of a transfer of the only request of a port: the event, the end of its work, its answer. -/
theorem crossbarFail_of_single {p tag : Nat} {r : Req} (hreqs : (s.port p).reqs = [r]) (htag : r.tag = tag) (hacc : r.accepted = true)
    (hmg : r.op.mgmt = false) (hq : s.quiet 7) :
    crossbarFail p tag s =
      let s := dropWork p tag r.serial (s.withEvent 7)
      if r.op.writes then
        if r.phase = .latched then
          s.updPort p (fun x => { x.updReq tag (fun e => { e with todo := 0, phase := .answered }) with
            outq := x.outq ++ [{ completion r .poison with bound := some r.bound, base := r.base }] })
        else s.updPort p (fun x => { x with outq := x.outq.map (poisonItem tag) })
      else
        let s := if r.phase = .latched ∧ r.todo = r.blocks then deliver p tag r.serial 0 .poison 0 s else s
        if r.op = .rd128 ∧ r.phase = .latched ∧ r.part1.isNone then deliver p tag r.serial 1 .poison 0 s else s := by
  have hfind : (s.port p).reqs.find? (fun r => decide (r.tag = tag) && r.accepted && !r.op.mgmt) = some r := by
    rw [hreqs]
    exact List.find?_cons_of_pos (by simp [htag, hacc, hmg])
  have hfault (d : EventDetail) : fault 7 d s = s.withEvent 7 := by
    rw [fault_of_quiet d (by decide) (by decide) hq, perEvent_of_plain (by decide) (.inl (by decide))]
  unfold crossbarFail
  rw [hfind]
  simp only [hfault]

/-! ## Self-checks -/

theorem found_graveCopy (i : Fin 3) :
    (List.range 6).filter (fun j => [AonItem.graveCopy i].any (fun b => decide (aonCode b = j))) = [i.val] := by
  revert i
  decide

/-- The three copies of the latch rewritten, the faults of the last check noted. -/
def State.rewritten (s : State) (checks : List (Nat × Nat)) : State :=
  { s with flt := { s.flt with grave0 := s.grave, grave1 := s.grave, grave2 := s.grave, checks := checks } }

theorem State.rewritten_grave (s : State) (checks : List (Nat × Nat)) : (s.rewritten checks).grave = s.grave := by
  change (s.grave && s.grave || s.grave && s.grave || s.grave && s.grave) = s.grave
  cases s.grave <;> rfl

theorem exec_aonSelfCheck_copy (i : Fin 3) (hrun : s.sup.running = true) (hre : s.sup.restarting = false) (hrung : s.pwr.rung ≤ 3)
    (ht : s.mode ≠ .trip) : exec (.aonSelfCheck [.graveCopy i]) s =
      .next (if 2 ≤ tabGet 0 s.flt.checks i.val
        then raiseOnly 0 4 {} 1 (faultMany 0 1 {} (s.rewritten [(i.val, tabGet 0 s.flt.checks i.val + 1)]))
        else faultMany 0 1 {} (s.rewritten [(i.val, tabGet 0 s.flt.checks i.val + 1)])) := by
  change execAonSelfCheck [.graveCopy i] s = _
  unfold execAonSelfCheck
  rw [if_pos ⟨hrun, by simp [hre], hrung, ht⟩, found_graveCopy]
  refine congrArg Outcome.next ?_
  by_cases h : 2 ≤ tabGet 0 s.flt.checks i.val
  · rw [if_pos h]
    exact if_pos (by simp; omega)
  · rw [if_neg h]
    exact if_neg (by simp; omega)

theorem exec_faultRegistration {n : SrcId} {d : EventDetail} (h1 : n.val ≠ 1) (h214 : n.val ≠ 214) (h217 : n.val ≠ 217)
    (hgood : s.pwrgood = true) : exec (.faultRegistration n d) s = .next (fault n.val d s) :=
  (if_neg h1).trans ((if_neg h214).trans ((if_neg h217).trans (if_pos hgood)))

/-- The Nth event of a window closes it. -/
theorem Source.count1_of_nth {x : Source} {k : Nat} (h : (x.count1 k).2 = true) :
    (x.count1 k).1.windowOpen = false ∧ (x.count1 k).1.count = 0 ∧ (x.count1 k).1.escalations = x.escalations := by
  unfold Source.count1 at h ⊢
  extract_lets at h ⊢
  split at h
  · next hc =>
    rw [if_pos hc]
    exact ⟨rfl, rfl, rfl⟩
  · exact absurd h Bool.false_ne_true

/-- An escalation below FATAL of a source that logs only. -/
theorem escalate_of_log (d : EventDetail) (forced : Bool) (hc : s.srcClass n ≠ 4) (h : s.srcReact n = 1) :
    Fr 148480 s (escalate n d forced s) ∧ (escalate n d forced s).flt.nextSeq = s.flt.nextSeq + 1 := by
  unfold escalate
  extract_lets c raised reacted
  have hraised : raised.srcReact n = 1 := by
    rw [State.srcReact, State.updSrc_src, if_pos rfl]
    exact h
  have hfr : Fr 1024 s raised := State.updSrc_fr ..
  have hreacted : reacted = logRecord n (raised.srcClass n) forced true 0 (detailOf n d) raised := reactions_of_log d forced 0 hraised
  have hreact : (reacted.srcReact n).testBit 8 = false := by
    rw [hreacted, srcReact_congr (State.src_eq_of_latches (logRecord_latches ..) n), hraised]
    decide
  rw [if_neg hc, holdReaction_of_mild d forced hreact, hreacted]
  exact ⟨(hfr.or (logRecord_fr ..)).mono rfl, logRecord_nextSeq ..⟩

/-- A forced event below GRAVE. -/
theorem registerEvent_of_forced (d : EventDetail) (hcounts : s.counts n = true) (hlast : (s.src n).last ≠ some (s.now + 1))
    (hnth : ((s.src n).count1 (s.now + 1)).2 = false) (hc : s.srcClass n ≠ 4) :
    registerEvent n d true s = (s.counted n true, false) := by
  have htime : s.eventTime true = s.now + 1 := rfl
  rw [registerEvent_eq, if_neg (by rw [hcounts]; decide), if_neg (by rw [htime]; exact hlast), if_neg (by rw [htime, hnth]; decide)]
  exact if_neg (fun h => hc ((s.counted_srcClass n true).symm.trans h.2))

/-- A forced event at GRAVE. -/
theorem registerEvent_latched (d : EventDetail) (hcounts : s.counts n = true) (hlast : (s.src n).last ≠ some (s.now + 1))
    (hc : s.srcClass n = 4) (ht : s.mode ≠ .trip) : Latched n s (registerEvent n d true s).1 := by
  have hcounted := s.counted_otherFr n true
  have hclass := (s.counted_srcClass n true).trans hc
  have hlast' : (s.src n).last ≠ some (s.eventTime true) := hlast
  rw [registerEvent_eq, if_neg (by rw [hcounts]; decide), if_neg hlast']
  split
  · dsimp only
    exact (escalate_latched d true (hcounted.mode rfl ▸ ht) hclass).after hcounted (s.counted_grave ..)
  · rw [if_pos ⟨rfl, hclass⟩]
    dsimp only
    exact (latchGrave_latched n d true (hcounted.mode rfl ▸ ht)).after hcounted (s.counted_grave ..)

/-- An action of the collector that a register asks for: it runs, and the bus target notes its end. -/
theorem exec_collector {c : Instr} {f : State → State} (hc : s.commits c) (hexec : exec c s = .next (commit c s))
    (heff : ∀ u, actionEffect c s.currentView u = f u) : ∃ m t, exec c s = .next t ∧ Fr 131072 (f { s with mb := m }) t := by
  obtain ⟨m, hpoint, -⟩ := s.pointed_eq c
  refine ⟨m, closeTransfer (f { s with mb := m }), ?_, closeTransfer_fr ..⟩
  rw [hexec, commit_of_commits hc, heff, hpoint]

/-- Settles O53: single events by `fault_of_quiet` and `fault_again`, GRAVE by `escalate_latched`, self-checks by `faultMany_spec`, the crossbar by
`crossbarFail_of_single`. -/
theorem faultEventsCountEscalateAndHold : Obligations.FaultEventsCountEscalateAndHold := by
  unfold Obligations.FaultEventsCountEscalateAndHold
  refine ⟨fun n d s hgood h1 h214 h217 => ⟨fun hq h0 h9 hn => ?counts, fun hon hcounts hlast hn => ?again,
      fun hon hcounts hlast hnth => ⟨fun hfix hfixr hreact hcls h0 h9 hn => ?escalates, fun hc hh ht => ?grave⟩⟩,
    fun n d s hgood hsup hth hheld => ?unpowered, fun n s => ⟨fun h => ?closed, fun h hon => ?closes⟩,
    fun s hrun hre hrung ht => ⟨?sound, fun i => ⟨fun h2 hq => ?copy, fun h2 => ?third⟩⟩,
    fun s => ?swept, fun n c s hgood ht hq h9 => ⟨fun h => ?reserved, fun h => ?sweep⟩,
    fun n s hc hlast => ⟨fun hcounts hnth hcls => ?force, fun hcounts hcls ht => ?forceGrave, fun h => ?forceNone⟩,
    fun n s hc => ⟨fun hcls hfix habs => ?clear, fun h => ?kept⟩, fun p g s => ?first,
    fun p g r s hq hph htag hmg hacc hreqs => ⟨fun hw => ?write, fun hop hlen htodo hpart => ?read⟩⟩
  case counts =>
    rw [exec_faultRegistration h1 h214 h217 hgood, fault_of_quiet d h0 h9 hq, perEvent_of_plain h1 hn]
  case again =>
    refine ⟨_, exec_faultRegistration h1 h214 h217 hgood, ?_⟩
    rw [fault_again d (perEvent_of_plain h1 hn d) hon hcounts hlast]
    exact ⟨by rw [State.updSrc_src, if_pos rfl], fun m hm => by rw [State.updSrc_src, if_neg hm], rfl, rfl, rfl⟩
  case escalates =>
    refine ⟨_, exec_faultRegistration h1 h214 h217 hgood, ?_⟩
    have hesc : s.escalates n.val := ⟨hon, hcounts, hlast, hnth⟩
    have hcounted : s.counted n.val false = s.updSrc n.val (·.counted false s.now) := if_neg (by rintro (h | h) <;> contradiction)
    have hplain : noGlove n.val := noGlove_of_plain hn
    have hfault : fault n.val d s = escalate n.val d false (s.counted n.val false) := by
      rw [hesc.fault_eq hplain, perEvent_of_plain h1 hn]
    have hclass := srcClass_of_counts hcounts hfix
    have hreact1 : s.srcReact n.val = 1 := by rw [State.srcReact, hreact, hfixr]; rfl
    have hsrc := hesc.fault_src hplain d (.inr (by rw [hreact1]; decide))
    obtain ⟨hopen, hcount, hesc'⟩ := Source.count1_of_nth hnth
    obtain ⟨hfr, hseq⟩ := escalate_of_log d false (s := s.counted n.val false) (n := n.val)
      (by rw [State.counted_srcClass, hclass]; omega) ((s.counted_srcReact ..).trans hreact1)
    have hall : Fr 148480 s (fault n.val d s) := by
      rw [hfault]
      exact ((s.counted_fr n.val false).mono rfl).trans hfr
    refine ⟨?_, ?_, ?_, ?_, ?_, ?_, ?_, hall.mode rfl, hall.mem rfl, hall.ports rfl⟩
    · rw [hsrc]
      change (if s.srcClass n.val < 3 ∧ (fixedClass n.val).isSome = false then ((s.src n.val).counted false s.now).cls + 1
        else ((s.src n.val).counted false s.now).cls) = _
      rw [if_pos ⟨by rw [hclass]; exact hcls, by rw [hfix]; rfl⟩, Source.counted_cls]
    · rw [hsrc]; rfl
    · rw [hsrc]; exact congrArg satInc hesc'
    · rw [hsrc]; exact hopen
    · rw [hsrc]; exact hcount
    · rw [hsrc]; exact Source.counted_total _ false _
    · rw [hfault, hseq, hcounted]
      rfl
  case grave =>
    refine ⟨_, exec_faultRegistration h1 h214 h217 hgood, ?_⟩
    have hesc : s.escalates n.val := ⟨hon, hcounts, hlast, hnth⟩
    have hcounted := s.counted_otherFr n.val false
    have hlatched : Latched n.val s (fault n.val d s) := by
      unfold fault
      rw [if_neg (by rw [hon]; exact Bool.false_ne_true), registerEvent_of_escalates d hesc]
      have hfirst : Latched n.val s (escalate n.val d false (s.counted n.val false)) :=
        (escalate_latched d false (hcounted.mode rfl ▸ ht) ((s.counted_srcClass n.val false).trans hc)).after hcounted (s.counted_grave ..)
      exact (hfirst.grips (gloveReaction_grips ..)).grips (.then_ite (perEvent_grips ..))
    exact ⟨hlatched.grave, hlatched.mode, hlatched.cause hh, hlatched.source⟩
  case unpowered =>
    have hover (f : Found) : tripOver f s = s := by
      unfold tripOver
      rw [hheld]
    have hoff : ¬ s.thermalRuns = true := by simp [hth]
    by_cases h1 : n.val = 1
    · refine (if_pos h1).trans (congrArg Outcome.next (if_pos (.inl ?_)))
      simp [hsup]
    by_cases h214 : n.val = 214
    · exact (if_neg h1).trans ((if_pos h214).trans (congrArg Outcome.next ((if_neg hoff).trans (hover _))))
    by_cases h217 : n.val = 217
    · exact (if_neg h1).trans ((if_neg h214).trans ((if_pos h217).trans (congrArg Outcome.next ((if_neg hoff).trans (hover _)))))
    · exact (if_neg h1).trans ((if_neg h214).trans ((if_neg h217).trans (if_neg (by simp [hgood]))))
  case closed =>
    exact congrArg Outcome.next (if_neg (fun hx => by simp [h] at hx))
  case closes =>
    refine ⟨_, congrArg Outcome.next (if_pos ⟨h, by simp [hon]⟩), ?_⟩
    exact ⟨by rw [State.updSrc_src, if_pos rfl]; rfl, fun m hm => by rw [State.updSrc_src, if_neg hm]; rfl, rfl, rfl, rfl⟩
  case sound =>
    exact if_pos ⟨hrun, by simp [hre], hrung, ht⟩
  case copy =>
    rw [exec_aonSelfCheck_copy i hrun hre hrung ht, if_neg (by omega)]
    obtain ⟨t, ht', hfr, hlatches, hchecks, htotal, -⟩ :=
      faultMany_spec (s := s.rewritten [(i.val, tabGet 0 s.flt.checks i.val + 1)]) {} (perEvent_of_plain (by decide) (.inl (by decide)) {}) hq
    rw [ht']
    exact ⟨t, rfl, congrArg (·.1) hlatches, congrArg (·.2.1) hlatches, congrArg (·.2.2) hlatches, hfr.mode rfl, hchecks, htotal, hfr.mem rfl,
      hfr.ports rfl⟩
  case third =>
    rw [exec_aonSelfCheck_copy i hrun hre hrung ht, if_pos h2]
    have htrip (u : State) (hu : u.mode ≠ .trip) : (faultMany 0 1 {} u).mode ≠ .trip := by
      have hm := fault_trip (n := 0) (d := {}) (noGlove_of_lt (by decide)) (perEvent_of_plain (by decide) (.inl (by decide)) {}) u
      rw [decide_eq_false hu] at hm
      exact of_decide_eq_false hm
    have hlatched := raiseOnly_latched 0 {} (htrip (s.rewritten [(i.val, tabGet 0 s.flt.checks i.val + 1)]) ht)
    exact ⟨_, rfl, hlatched.grave, hlatched.mode⟩
  case swept =>
    by_cases h : s.pwrgood ∧ !s.collectorOff ∧ s.mode ≠ .trip
    · exact if_pos h
    · exact if_neg h
  case reserved =>
    by_cases hrun : s.pwrgood ∧ !s.collectorOff ∧ s.mode ≠ .trip
    · refine (if_pos hrun).trans (congrArg Outcome.next ?_)
      rw [show [(n, c)].filter (fun b => s.counts b.1.val) = [] from List.filter_cons_of_neg (by simp [h])]
      rfl
    · exact if_neg hrun
  case sweep =>
    generalize hu : s.updSrc n.val (fun x => { x with cls := if x.cls < c ∧ c.toNat ≤ 4 then c else x.cls, windowOpen := false, count := 0 }) = u
    have hexec : exec (.collectorSweep [(n, c)]) s = .next (faultMany 9 1 {} u) := by
      refine (if_pos ⟨hgood, by simp [hq.1], ht⟩).trans (congrArg Outcome.next ?_)
      rw [show [(n, c)].filter (fun b => s.counts b.1.val) = [(n, c)] from List.filter_cons_of_pos h, ← hu]
      rfl
    have hufr : Fr 1024 s u := hu ▸ s.updSrc_fr ..
    have hother (m : Nat) (hm : m ≠ n.val) : u.src m = s.src m := by rw [← hu, State.updSrc_src, if_neg hm]
    have hown : u.src n.val = { s.src n.val with
        cls := if (s.src n.val).cls < c ∧ c.toNat ≤ 4 then c else (s.src n.val).cls, windowOpen := false, count := 0 } := by
      rw [← hu, State.updSrc_src, if_pos rfl]
    have hqu : u.quiet 9 := by
      rw [State.quiet, hufr.collectorOff rfl rfl, hufr.counts rfl, hother 9 (Ne.symm h9), hufr.now rfl]
      exact hq
    obtain ⟨t, ht', hfr, -, -, htotal, hsrc⟩ := faultMany_spec {} (perEvent_of_plain (by decide) (.inl (by decide)) {}) hqu
    rw [hexec, ht']
    rw [hother 9 (Ne.symm h9)] at htotal
    refine ⟨t, rfl, ?_, ?_, ?_, htotal, (hfr.mode rfl).trans (hufr.mode rfl), (hfr.mem rfl).trans (hufr.mem rfl),
      (hfr.ports rfl).trans (hufr.ports rfl)⟩
    iterate 3 rw [hsrc _ h9, hown]
  case force =>
    obtain ⟨m, t, hexec, hfr⟩ := exec_collector (f := doForce n.val) hc rfl (fun _ => rfl)
    have hdo : doForce n.val { s with mb := m } = ({ s with mb := m } : State).counted n.val true := by
      unfold doForce
      rw [registerEvent_of_forced (s := { s with mb := m }) {} hcounts hlast hnth hcls]
      exact if_neg Bool.false_ne_true
    rw [hdo] at hfr
    have hall := ((State.counted_fr n.val true { s with mb := m }).or hfr : Fr _ _ t)
    have hsrc : t.src n.val = (s.src n.val).counted true (s.now + 1) := by
      rw [src_congr (congrArg FltState.sources (hfr.flt rfl)), State.counted_src, if_pos rfl]
      rfl
    refine ⟨t, hexec, ?_, ?_, ?_, ?_, hall.chans rfl, hall.pcs rfl, hall.sup rfl, hall.rep rfl, hall.mode rfl, hall.mem rfl, hall.ports rfl⟩
    · rw [hsrc, Source.counted_total]
    · rw [hsrc]; rfl
    · rw [hsrc]; exact Bool.or_true _
    · rw [hsrc, Source.counted_cls]
  case forceGrave =>
    obtain ⟨m, t, hexec, hfr⟩ := exec_collector (f := doForce n.val) hc rfl (fun _ => rfl)
    have hlatched : Latched n.val { s with mb := m } (doForce n.val { s with mb := m }) := by
      have hfirst := registerEvent_latched (s := { s with mb := m }) {} hcounts hlast hcls ht
      unfold doForce
      exact hfirst.grips (.ite (gloveReaction_grips ..) (.refl _))
    have hend := hlatched.grips (.of_fr hfr)
    exact ⟨t, hexec, hend.grave, hend.mode⟩
  case forceNone =>
    obtain ⟨m, t, hexec, hfr⟩ := exec_collector (f := doForce n.val) hc rfl (fun _ => rfl)
    have hdo : doForce n.val { s with mb := m } = { s with mb := m } := by
      unfold doForce
      rw [registerEvent_eq, if_pos (show State.counts { s with mb := m } n.val = false from h)]
      exact if_neg Bool.false_ne_true
    rw [hdo] at hfr
    exact ⟨t, hexec, hfr.flt rfl, hfr.mode rfl, hfr.mem rfl, hfr.ports rfl⟩
  case clear =>
    obtain ⟨m, t, hexec, hfr⟩ := exec_collector (f := doClear n.val) hc rfl (fun _ => rfl)
    have hdo : doClear n.val { s with mb := m } =
        State.updSrc { s with mb := m } n.val (fun x => { x with cls := x.initCls, windowOpen := false, count := 0 }) :=
      if_neg (by rintro (h | h | h); · exact hcls h
                 · simp [hfix] at h
                 · exact Bool.false_ne_true (habs.symm.trans h))
    rw [hdo] at hfr
    have hsrc (m : Nat) := src_congr (congrArg FltState.sources (hfr.flt rfl)) m
    refine ⟨t, hexec, ?_, fun m hm => ?_, ?_, hfr.mem rfl, hfr.ports rfl⟩
    · rw [hsrc, State.updSrc_src, if_pos rfl]
      rfl
    · rw [hsrc, State.updSrc_src, if_neg hm]
      rfl
    · rw [hfr.flt rfl]
      rfl
  case kept =>
    obtain ⟨m, t, hexec, hfr⟩ := exec_collector (f := doClear n.val) hc rfl (fun _ => rfl)
    have hdo : doClear n.val { s with mb := m } = { s with mb := m } :=
      if_pos (h.elim .inl (fun h => .inr (.inl h)))
    rw [hdo] at hfr
    exact ⟨t, hexec, hfr.flt rfl, hfr.mem rfl, hfr.ports rfl⟩
  case first =>
    rfl
  case write =>
    have hexec : exec (.crossbarParityError p g true) s = .next (crossbarFail p.val g.toNat s) := rfl
    rw [hexec, crossbarFail_of_single hreqs htag hacc hmg hq]
    refine ⟨_, congrArg Outcome.next ((if_pos hw).trans (if_pos hph)), ?_⟩
    have hdrop := (s.withEvent_fr 7).or (dropWork_fr p.val g.toNat r.serial (s.withEvent 7))
    have hserial {q : Nat} := dropWork_serial p.val g.toNat r.serial (s.withEvent 7) (q := q)
    have htotal : ((dropWork p.val g.toNat r.serial (s.withEvent 7)).src 7).total = satInc (s.src 7).total := by
      rw [src_congr (congrArg FltState.sources ((dropWork_fr ..).flt rfl)), State.withEvent_src_self]
    generalize dropWork p.val g.toNat r.serial (s.withEvent 7) = u at hdrop hserial htotal ⊢
    refine ⟨hdrop.mem rfl, ((hdrop.otherPorts p.val).trans (updPort_otherPorts p.val _ u)), ?_, ?_, fun q hq => ?_⟩
    · rw [State.updPort_src]; exact htotal
    · rw [State.updPort_port_self, hdrop.port rfl]
    · exact hserial hq
  case read =>
    have hexec : exec (.crossbarParityError p g true) s = .next (crossbarFail p.val g.toNat s) := rfl
    rw [hexec, crossbarFail_of_single hreqs htag hacc hmg hq]
    have hdrop := (s.withEvent_fr 7).or (dropWork_fr p.val g.toNat r.serial (s.withEvent 7))
    have htotal : ((dropWork p.val g.toNat r.serial (s.withEvent 7)).src 7).total = satInc (s.src 7).total := by
      rw [src_congr (congrArg FltState.sources ((dropWork_fr ..).flt rfl)), State.withEvent_src_self]
    generalize dropWork p.val g.toNat r.serial (s.withEvent 7) = u at hdrop htotal ⊢
    have hpair : r.phase = .latched ∧ r.todo = r.blocks := ⟨hph, by rw [htodo, Req.blocks, hlen]; rfl⟩
    have hnext : (if r.op = .rd128 ∧ r.phase = .latched ∧ r.part1.isNone then
        deliver p.val g.toNat r.serial 1 .poison 0 (if r.phase = .latched ∧ r.todo = r.blocks then deliver p.val g.toNat r.serial 0 .poison 0 u else u)
        else (if r.phase = .latched ∧ r.todo = r.blocks then deliver p.val g.toNat r.serial 0 .poison 0 u else u)) =
        deliver p.val g.toNat r.serial 0 .poison 0 u := by
      rw [if_neg (fun h => by simp [hop] at h), if_pos hpair]
    refine ⟨_, congrArg Outcome.next ((if_neg (by simp [hop, Op.writes])).trans hnext), ?_⟩
    obtain ⟨b, hb⟩ : ∃ b : Burst, b = { write := false, port := p.val, tag := g.toNat, serial := r.serial, part := 0, rank := 0, layer := 0, bank := 0, row := 0, block := 0 } := ⟨_, rfl⟩
    have hread : u.openRead b = some r := by
      rw [State.openRead, hb, hdrop.port rfl, hreqs]
      exact List.find?_cons_of_pos (by simp [htag])
    have hdeliver := deliver_of_openRead .poison 0 hread
    have hb' : deliver b.port b.tag b.serial b.part .poison 0 u = deliver p.val g.toNat r.serial 0 .poison 0 u := by rw [hb]
    have hfr := deliver_fr p.val g.toNat r.serial 0 .poison 0 u
    refine ⟨(hfr.mem rfl).trans (hdrop.mem rfl), fun j hj => ?_, ?_, ?_⟩
    · rw [← hb', hdeliver, State.updPort_port_ne _ _ (by rw [hb]; exact hj), pmcCount_port, hdrop.port rfl]
    · rw [src_congr (congrArg FltState.sources (hfr.flt rfl))]; exact htotal
    · have hp : b.port = p.val := by rw [hb]
      rw [← hb', hdeliver, ← hp, State.updPort_port_self, pmcCount_port, hdrop.port rfl, hb]
      unfold Port.takeBlock
      rw [if_neg (by simp), if_pos rfl, hpart]
      simp only [Burst.answer, hop, true_or, if_true, ← htag]
      rfl

end Sys2Proof.Machine
end

section
/-! SUPPORT. What the collector does to the rest of the state: a relation that its parts, the journal queue and the entry to HOLD keep holds of every
event and raise. -/

namespace Sys2Proof.Machine

open Host

variable {s t u : State}

/-- A relation that what the collector is made of keeps: its own state and what its reactions reach, the queue of the journal, HOLD. -/
structure Collects (R : State → State → Prop) : Prop where
  refl : ∀ s, R s s
  trans : ∀ {s t u}, R s t → R t u → R s u
  parts : ∀ {s t}, Fr 4589056 s t → R s t
  queue : ∀ j s, R s (queueRecord j s)
  hold : ∀ c s, R s (enterHold c s)

namespace Collects

variable {R : State → State → Prop}

theorem either {c : Prop} [Decidable c] (ht : R s t) (hu : R s u) : R s (if c then t else u) := by
  split
  · exact ht
  · exact hu

variable (h : Collects R)
include h

theorem of_fr {m : Nat} (hfr : Fr m s t) (hm : m ||| 4589056 = 4589056 := by decide) : R s t := h.parts (hfr.mono hm)

theorem then_ite {c : Prop} [Decidable c] (ht : R s t) : R s (if c then t else s) := either ht (h.refl s)

theorem logRecord (src cls : Nat) (forced reacted : Bool) (record detail : Nat) (s : State) :
    R s (logRecord src cls forced reacted record detail s) := by
  unfold Machine.logRecord
  extract_lets w0 w1 w2 w3 old lost f u v bytes
  have hu : Fr 1024 s u := Fr.u1024 (.refl ..) rfl
  exact h.trans (h.trans (h.of_fr hu) (h.then_ite (h.of_fr (setAlert_fr ..)))) (h.queue _ v)

theorem setGrave (n : Nat) (forced : Bool) (c : Nat) (s : State) : R s (setGrave n forced c s) := by
  unfold Machine.setGrave
  extract_lets flt u v w x
  have hu : Fr 1024 s u := Fr.ite (.refl ..) (Fr.u1024 (.refl ..) rfl)
  have hx : Fr 4194304 v x := Fr.forN (fun i t => Fr.iteT (State.updPort_fr ..) (.refl ..)) 16 (.refl ..)
  exact h.trans (h.trans (h.trans (h.of_fr hu) (h.of_fr (setAlert_fr ..))) (h.of_fr hx)) (h.hold _ x)

theorem latchGrave (n : Nat) (d : EventDetail) (forced : Bool) (c : Nat) (s : State) : R s (latchGrave n d forced c s) :=
  h.trans (either (h.refl s) (h.logRecord ..)) (h.setGrave ..)

theorem holdReaction (n : Nat) (d : EventDetail) (forced : Bool) (s : State) : R s (holdReaction n d forced s) := by
  unfold Machine.holdReaction
  exact h.then_ite (h.trans (h.trans (h.of_fr (s.updSrc_fr ..)) (h.logRecord ..)) (h.setGrave ..))

theorem reactions (n : Nat) (d : EventDetail) (forced : Bool) (record : Nat) (s : State) : R s (reactions n d forced record s) := by
  unfold Machine.reactions
  extract_lets re cls logged alerted noticed fenced repaired
  have hlogged : R s logged := h.then_ite (h.logRecord ..)
  have halerted : R logged alerted := h.then_ite (h.of_fr (setAlert_fr ..))
  have hnoticed : R alerted noticed := h.then_ite (h.of_fr (notices_fr ..))
  have hfenced : R noticed fenced := h.then_ite (h.of_fr (fencePort_fr ..))
  have hrepaired : R fenced repaired := h.of_fr (repairReactions_fr ..)
  exact h.trans (h.trans (h.trans (h.trans (h.trans hlogged halerted) hnoticed) hfenced) hrepaired) (h.then_ite (h.of_fr (supRestart_fr _)))

theorem escalate (n : Nat) (d : EventDetail) (forced : Bool) (s : State) : R s (escalate n d forced s) := by
  unfold Machine.escalate
  extract_lets c raised reacted
  exact h.trans (h.trans (h.of_fr (s.updSrc_fr ..)) (h.reactions ..)) (either (h.setGrave ..) (h.holdReaction ..))

theorem registerEvent (n : Nat) (d : EventDetail) (forced : Bool) (s : State) : R s (registerEvent n d forced s).1 := by
  have hcounted : R s (s.counted n forced) := h.of_fr (s.counted_fr n forced)
  exact registerEvent_cases (P := R s) n d forced s (fun _ => h.refl s) (fun _ => h.of_fr (s.updSrc_fr ..))
    (fun _ _ => h.trans hcounted (h.escalate ..)) (fun _ => h.trans hcounted (h.latchGrave ..)) (fun _ => hcounted)

theorem raiseOnly (n k : Nat) (d : EventDetail) (c : Nat) (s : State) : R s (raiseOnly n k d c s) := by
  unfold Machine.raiseOnly
  extract_lets old raised reacted
  have hreacted : R s reacted := h.trans (h.of_fr (s.updSrc_fr ..)) (h.reactions ..)
  exact either (h.then_ite (h.latchGrave ..)) (h.trans hreacted (either (h.setGrave ..) (h.holdReaction ..)))

/-! ## Sources that are no channel's and take no action of their own -/

variable {n : Nat} {d : EventDetail} (hn : noGlove n) (hper : ∀ u, perEvent n d u = u)
include hn hper

theorem fault (s : State) : R s (fault n d s) := by
  unfold Machine.fault
  split
  · split
    · split <;> exact h.of_fr (Fr.u1024 (.refl ..) rfl : Fr 1024 s _)
    · exact h.refl s
  · dsimp only
    rw [hper, gloveReaction_of_noGlove hn, ite_self, ite_self]
    exact h.registerEvent ..

theorem raiseFault (c cause : Nat) (s : State) : R s (raiseFault n c d cause s) := by
  unfold Machine.raiseFault
  split
  · exact h.refl s
  split
  · dsimp only
    rw [hper, gloveReaction_of_noGlove hn]
    exact h.trans (h.of_fr (s.updSrc_fr ..)) (h.raiseOnly ..)
  · dsimp only
    split
    · exact h.trans (h.fault hn hper s) (h.latchGrave ..)
    · exact h.fault hn hper s

end Collects

end Sys2Proof.Machine
end

section
/-! SUPPORT. The journal and the wear counters (R149, R151, R155 to R158; O49). -/

namespace Sys2Proof.Machine

open Host

variable {s t u : State}

/-! ## A suspended journal -/

/-- The way from s to t leaves a suspended journal as it is, and the count of failed writes. -/
structure Mute (s t : State) : Prop where
  kept : s.jnl.suspended = true → t.jnl = s.jnl
  fails : t.jnl.failCount = s.jnl.failCount

theorem queueRecord_of_suspended (j : JQueued) (h : s.jnl.suspended = true) : queueRecord j s = s := if_pos h

theorem Mute.of_fr {m : Nat} (h : Fr m s t) (hm : m.testBit 14 = false := by decide) : Mute s t :=
  ⟨fun _ => h.jnl hm, by rw [h.jnl hm]⟩

theorem Mute.trans (h : Mute s t) (h' : Mute t u) : Mute s u := by
  refine ⟨fun hs => ?_, h'.fails.trans h.fails⟩
  have ht := h.kept hs
  exact (h'.kept (ht ▸ hs)).trans ht

theorem mute_queueRecord (j : JQueued) (s : State) : Mute s (queueRecord j s) := by
  refine ⟨fun hs => by rw [queueRecord_of_suspended j hs], ?_⟩
  unfold queueRecord
  split
  · rfl
  · dsimp only
    split <;> rfl

theorem mute_queueResult (s : State) : Mute s (queueResult s) := mute_queueRecord _ s

theorem mute_stopTest (s : State) : Mute s (stopTest s) := by
  unfold stopTest
  split
  · extract_lets parts b
    exact (Mute.of_fr (Fr.u65536 (.refl ..) rfl : Fr 65536 s _)).trans (mute_queueResult _)
  · exact .of_fr (.refl s (m := 0))

theorem mute_stopAll (s : State) : Mute s s.stopAll := by
  unfold State.stopAll
  exact (Mute.of_fr (((linksDown_fr s).or (stopMemory_fr _)).or (layersOff_fr _))).trans (mute_stopTest _)

theorem mute_enterHold (c : Nat) (s : State) : Mute s (enterHold c s) := by
  by_cases ht : s.mode = .trip
  · rw [enterHold_of_trip c ht]
    exact .of_fr (.refl s (m := 0))
  by_cases hh : s.mode = .hold
  · rw [enterHold_of_hold c hh]
    exact .of_fr (.refl s (m := 0))
  · rw [enterHold_eq c ht hh]
    exact ⟨(mute_stopAll s).kept, (mute_stopAll s).fails⟩

theorem mute_collects : Collects Mute where
  refl s := .of_fr (.refl s (m := 0))
  trans := Mute.trans
  parts h := .of_fr h
  queue := mute_queueRecord
  hold := mute_enterHold

theorem mute_portsOff (s : State) : Mute s (portsOff s) := by
  unfold portsOff
  extract_lets off moved
  have hoff : Fr 4194304 s off := Fr.forN (fun i t => Fr.ite (.refl ..) (State.updPort_fr ..)) 16 (.refl ..)
  have hmoved : Fr 16777216 off moved := Fr.forN (fun i t => Fr.ite (.refl ..) (State.updPc_fr ..)) 32 (.refl ..)
  exact (Mute.of_fr (hoff.or hmoved)).trans (mute_queueRecord ..)

theorem mute_shutdownAdvance (s : State) : Mute s (shutdownAdvance s) := by
  rw [shutdownAdvance_eq]
  have h2 (s : State) : Mute s (advance2 s) := by
    unfold advance2
    split
    · have hoff := mute_portsOff s
      generalize portsOff s = u at hoff ⊢
      exact ⟨hoff.kept, hoff.fails⟩
    · exact .of_fr (.refl s (m := 0))
  have hphase (u : State) : Fr 65536 u { u with bist.phase := 4 } := Fr.u65536 (.refl ..) rfl
  have h3 (s : State) : Mute s (advance3 s) := by
    unfold advance3
    split
    · have htest := startSelfTest_fr s.bist.trigger.toNat (List.range 20) { stopMemory s with bist.phase := 4 }
      have hall := ((stopMemory_fr s).or (hphase (stopMemory s))).or htest
      exact .of_fr hall
    · exact .of_fr (.refl s (m := 0))
  exact (h2 s).trans (h3 _)

/-! ## Wear -/

/-- The way from s to t keeps the time and every wear counter. -/
structure Worn (s t : State) : Prop where
  now : t.now = s.now
  base : t.jnl.baseWear = s.jnl.baseWear
  layer : ∀ k, (t.layer k).wear = (s.layer k).wear

theorem Worn.trans (h : Worn s t) (h' : Worn t u) : Worn s u :=
  ⟨h'.now.trans h.now, h'.base.trans h.base, fun k => (h'.layer k).trans (h.layer k)⟩

theorem Worn.of_fr {m : Nat} (h : Fr m s t) (hm : m &&& 67125250 = 0 := by decide) : Worn s t := by
  have hbit {i : Nat} (hi : (67125250 : Nat).testBit i = true) : m.testBit i = false := testBit_of_disjoint hm hi
  exact ⟨h.now (hbit (by decide)), by rw [h.jnl (hbit (by decide))], fun k => by rw [State.layer, h.layers (hbit (by decide)), State.layer]⟩

theorem Worn.queueRecord (j : JQueued) (s : State) : Worn s (queueRecord j s) := by
  refine ⟨(queueRecord_fr j s).now rfl, ?_, fun k => by rw [State.layer, (queueRecord_fr j s).layers rfl, State.layer]⟩
  unfold Machine.queueRecord
  split
  · rfl
  · dsimp only
    split <;> rfl

/-- Switching the layers off keeps their wear. -/
theorem layersOff_wear (k : Nat) (s : State) : ((layersOff s).layer k).wear = (s.layer k).wear := by
  have hmap (l : List (Nat × Layer)) : (tabGet ({} : Layer) (l.map (fun (e : Nat × Layer) => (e.1, { e.2 with powered := false }))) k).wear =
      (tabGet ({} : Layer) l k).wear := by
    induction l with
    | nil => rfl
    | cons e l ih =>
      rw [List.map_cons, tabGet, tabGet]
      split
      · rfl
      · exact ih
  exact hmap s.layers

theorem Worn.stopTest (s : State) : Worn s (stopTest s) := by
  unfold Machine.stopTest
  split
  · extract_lets parts b
    exact (Worn.of_fr (Fr.u65536 (.refl ..) rfl : Fr 65536 s _)).trans (.queueRecord ..)
  · exact .of_fr (.refl s (m := 0))

theorem Worn.stopAll (s : State) : Worn s s.stopAll := by
  unfold State.stopAll
  generalize hu : stopMemory (linksDown s) = u
  have hu' : Worn s u := hu ▸ .of_fr ((linksDown_fr s).or (stopMemory_fr _))
  have hoff : Worn u (layersOff u) := ⟨(layersOff_fr u).now rfl, by rw [(layersOff_fr u).jnl rfl], fun k => layersOff_wear k u⟩
  exact (hu'.trans hoff).trans (.stopTest _)

theorem Worn.enterHold (c : Nat) (s : State) : Worn s (enterHold c s) := by
  by_cases ht : s.mode = .trip
  · rw [enterHold_of_trip c ht]
    exact .of_fr (.refl s (m := 0))
  by_cases hh : s.mode = .hold
  · rw [enterHold_of_hold c hh]
    exact .of_fr (.refl s (m := 0))
  · obtain ⟨hnow, hbase, hlayer⟩ := Worn.stopAll s
    rw [enterHold_eq c ht hh]
    exact ⟨hnow, hbase, hlayer⟩

theorem worn_collects : Collects Worn where
  refl s := .of_fr (.refl s (m := 0))
  trans := Worn.trans
  parts h := .of_fr h
  queue := Worn.queueRecord
  hold := Worn.enterHold

/-- A loop over the layers, each turn of which changes its own and stays within a frame. -/
theorem forN_layer {m : Nat} {g : Nat → State → State} {F : Nat → Layer → Layer} (hfr : ∀ i t, Fr m t (g i t))
    (hself : ∀ i t, Fr m s t → (g i t).layer i = F i (t.layer i)) (hother : ∀ i t j, j ≠ i → (g i t).layer j = t.layer j) (n k : Nat) :
    (forN n g s).layer k = if k < n then F k (s.layer k) else s.layer k := by
  induction n with
  | zero => rfl
  | succ n ih =>
    rw [forN_succ]
    by_cases hk : k = n
    · subst hk
      rw [hself _ _ (Fr.forN hfr k (.refl ..)), ih, if_neg (Nat.lt_irrefl k), if_pos (Nat.lt_succ_self k)]
    · rw [hother _ _ _ hk, ih]
      by_cases hlt : k < n
      · rw [if_pos hlt, if_pos (Nat.lt_succ_of_lt hlt)]
      · rw [if_neg hlt, if_neg (by omega)]

/-- One second of wear of every powered layer and of the base die. -/
def wornSecond (s : State) : State :=
  chargeBase 1 s.thm.baseTemp (forN 18 (fun k s => if (s.layer k).powered then chargeLayer k 1 (s.layer k).temp s else s) s)

theorem wornSecond_spec (s : State) : (wornSecond s).now = s.now ∧ (wornSecond s).jnl.baseWear = s.jnl.baseWear + wearRate s.thm.baseTemp ∧
    ∀ k, k < 18 → ((wornSecond s).layer k).wear =
      if (s.layer k).powered then (s.layer k).wear + wearRate (s.layer k).temp else (s.layer k).wear := by
  have hlayers : Fr 67108864 s (forN 18 (fun k s => if (s.layer k).powered then chargeLayer k 1 (s.layer k).temp s else s) s) :=
    Fr.forN (fun i t => Fr.iteT (chargeLayer_fr ..) (.refl ..)) 18 (.refl ..)
  have hlayer (k : Nat) (hk : k < 18) := forN_layer (g := fun k s => if (s.layer k).powered then chargeLayer k 1 (s.layer k).temp s else s)
    (F := fun _ x => if x.powered then { x with wear := x.wear + 1 * wearRate x.temp } else x) (s := s)
    (fun i t => (Fr.iteT (chargeLayer_fr ..) (.refl ..) : Fr 67108864 t _)) (fun i t _ => ?self) (fun i t j hj => ?other) 18 k
  · unfold wornSecond
    generalize forN 18 _ s = u at hlayers hlayer ⊢
    refine ⟨hlayers.now rfl, ?_, fun k hk => ?_⟩
    · change u.jnl.baseWear + 1 * wearRate s.thm.baseTemp = _
      rw [hlayers.jnl rfl, Nat.one_mul]
    · change (u.layer k).wear = _
      rw [hlayer k hk, if_pos hk, Nat.one_mul]
      split <;> rfl
  case self =>
    split
    · rw [chargeLayer, State.updLayer_layer, if_pos rfl]
    · rfl
  case other =>
    split
    · rw [chargeLayer, State.updLayer_layer, if_neg hj]
    · rfl

/-! ## Records -/

theorem journalHead_of_empty (h : s.jnl.queue = []) : s.journalHead = none := by
  rw [State.journalHead, h]
  rfl

theorem writable_of_read {since : Nat} (h : s.mb.busy = some (4, since)) : s.writable = s.jnl.underWay.filter s.jnl.queue.contains := by
  rw [State.writable, h]
  rfl

theorem writable_of_idle (h : ∀ since, s.mb.busy ≠ some (4, since)) : s.writable = s.journalHead := by
  unfold State.writable
  split
  · next since hb => exact absurd hb (h since)
  · rfl

/-- The record that the journal programs at its write pointer. -/
def State.nextRecord (s : State) (kind inst : Byte) (payload : List Byte) (commit : Byte) : JournalRecord :=
  let r : JournalRecord :=
    { sector := Fin.ofNat 2048 s.jnl.sector, offset := BitVec.ofNat 12 s.jnl.offset, commit := commit, kind := kind, inst := inst,
      seq := s.jnl.seq + 1, boot := s.jnl.bootCount, payload := payload, check := 0 }
  { r with check := recordCheck r }

theorem putRecord_eq (kind inst : Byte) (payload : List Byte) (commit : Byte) (s : State) :
    putRecord kind inst payload commit s = { s with jnl := { s.jnl with
      records := s.jnl.records ++ [s.nextRecord kind inst payload commit]
      seq := if commit = 0x3C then s.jnl.seq + 1 else s.jnl.seq, offset := s.jnl.offset + recordSize payload.length } } := rfl

theorem State.nextRecord_checkOk (kind inst : Byte) (payload : List Byte) (commit : Byte) (s : State) :
    checkOk (s.nextRecord kind inst payload commit) = true := decide_eq_true rfl

/-- In a sector already entered, a record that fits goes to the write pointer. -/
theorem appendRecord_of_fits {m : Nat} {kind inst : Byte} {payload : List Byte} (h0 : s.jnl.offset ≠ 0)
    (hfit : s.jnl.offset + recordSize payload.length ≤ 4096) : appendRecord (m + 1) kind inst payload s = putRecord kind inst payload 0x3C s := by
  rw [appendRecord]
  simp only [if_neg h0]
  exact if_pos hfit

/-- The journal as the end of a write finds it: no erase under way, no write. -/
def State.writeEnded (s : State) : State := { s with jnl := { s.jnl with erasing := false, underWay := none } }

theorem exec_journalRecordWrite_committed {j : JQueued} (hrun : s.journalRuns = true) (hw : s.writable = some j) :
    exec (.journalRecordWrite .committed) s = .next (shutdownAdvance (committed j (appendRecord 4 j.kind j.inst j.payload
      { s with jnl := { s.writeEnded.jnl with queue := dropFirst (fun x => decide (x = j)) s.jnl.queue, failCount := 0 } }))) := by
  change execJournalRecordWrite .committed s = _
  unfold execJournalRecordWrite
  rw [if_neg (by simp [hrun]), hw]
  rfl

/-- A write that has failed: what it may leave at the write pointer, the next sector, one more failure. -/
def State.writeFailed (j : JQueued) (s : State) : State :=
  let s := if s.jnl.offset + recordSize j.payload.length ≤ 4096 then putRecord j.kind j.inst j.payload 0xFF s else s
  { s with jnl.sector := (s.jnl.sector + 1) % 2048, jnl.offset := 0, jnl.failCount := s.jnl.failCount + 1 }

theorem exec_journalRecordWrite_failed {j : JQueued} (hrun : s.journalRuns = true) (hw : s.writable = some j) :
    exec (.journalRecordWrite .failed) s = .next (let s := fault 229 {} (s.writeEnded.writeFailed j)
      if s.jnl.failCount = 8 then shutdownAdvance (raiseFault 229 2 {} 1 { s with jnl.suspended := true, jnl.queue := [] })
      else { s with jnl.erasing := true }) := by
  change execJournalRecordWrite .failed s = _
  unfold execJournalRecordWrite
  rw [if_neg (by simp [hrun]), hw]
  exact (apply_ite Outcome.next _ _ _).symm

theorem writeFailed_spec (j : JQueued) (s : State) : Fr 16384 s (s.writeFailed j) ∧ (s.writeFailed j).jnl.queue = s.jnl.queue ∧
    (s.writeFailed j).jnl.sector = (s.jnl.sector + 1) % 2048 ∧ (s.writeFailed j).jnl.offset = 0 ∧ (s.writeFailed j).jnl.seq = s.jnl.seq ∧
    (s.writeFailed j).jnl.failCount = s.jnl.failCount + 1 ∧ ∀ r ∈ (s.writeFailed j).jnl.records, r ∈ s.jnl.records ∨ exists_ r = false := by
  unfold State.writeFailed
  split
  · rw [putRecord_eq, if_neg (by decide)]
    refine ⟨Fr.u16384 (Fr.u16384 (.refl ..) rfl) rfl, rfl, rfl, rfl, rfl, rfl, fun r hr => ?_⟩
    rcases List.mem_append.mp hr with hr | hr
    · exact .inl hr
    · rw [List.mem_singleton.mp hr]
      exact .inr rfl
  · exact ⟨Fr.u16384 (.refl ..) rfl, rfl, rfl, rfl, rfl, rfl, fun r hr => .inl hr⟩

/-- An operation of the journal that the bus target begins. -/
theorem exec_journalOp {c : Instr} {op : Nat} {f : State → State} (hc : s.commits c) (hexec : exec c s = .next (commit c s))
    (heff : ∀ u, actionEffect c s.currentView u = beginOp op (f u)) (hf : ∀ m, f { s with mb := m } = { f s with mb := m })
    (hnow : (f s).now = s.now) : ∃ t, exec c s = .next t ∧ t.mb.busy = some (op, s.now) ∧ Fr 131072 (f s) t := by
  obtain ⟨m, hpoint, -⟩ := s.pointed_eq c
  have hbegin : Fr 131072 (f s) (beginOp op (f (s.pointed c))) := by
    rw [hpoint, hf m]
    exact Fr.u131072 (Fr.u131072 (.refl ..) rfl) rfl
  obtain ⟨-, hbusy, -⟩ := closeTransfer_spec (beginOp op (f (s.pointed c)))
  refine ⟨_, by rw [hexec, commit_of_commits hc, heff], ?_, hbegin.trans (closeTransfer_fr _)⟩
  rw [hbusy, hpoint, hf m]
  exact congrArg (fun k => some (op, k)) hnow

/-- The eighth failure in a row ends with the journal suspended and its queue empty. -/
theorem suspended_kept (s : State) : (shutdownAdvance (raiseFault 229 2 {} 1 { s with jnl.suspended := true, jnl.queue := [] })).jnl =
    { s.jnl with suspended := true, queue := [] } := by
  have hraise := mute_collects.raiseFault (n := 229) (d := {}) (fun h => by omega) (perEvent_of_high (by decide) _) 2 1
    { s with jnl.suspended := true, jnl.queue := [] }
  exact (hraise.trans (mute_shutdownAdvance _)).kept rfl

/-- Settles O49: a record by `appendRecord_of_fits`, a failure by `writeFailed_spec` and `suspended_kept`, wear by `wornSecond_spec`. -/
theorem journalsRecordInOrder : Obligations.JournalsRecordInOrder := by
  unfold Obligations.JournalsRecordInOrder
  refine ⟨fun j s hrun hw hup => ⟨fun h => ?head, fun hwait h0 hfit => ?written, fun h7 hq => ?failed, fun h7 => ?suspended⟩, fun o s h => ?idle,
    fun s hgood hrung hstep ht => ?wear, fun s => ⟨fun hm hon hlen => ?ledger, fun hm => ?noLedger⟩, fun s => ⟨fun hc => ?flush, fun hc => ?read⟩⟩
  case head => rw [← hw, writable_of_idle h]
  case written =>
    rw [exec_journalRecordWrite_committed hrun hw]
    have happend := appendRecord_of_fits (m := 3) (kind := j.kind) (inst := j.inst) (payload := j.payload)
      (s := { s with jnl := { s.writeEnded.jnl with queue := dropFirst (fun x => decide (x = j)) s.jnl.queue, failCount := 0 } }) h0 hfit
    have hcommitted (u : State) (hu : u.thm.tripWait = false) (hup : u.bist.shutDown = false) :
        ∃ b, committed j u = { u with thm := { u.thm with tripCommitted := b } } := by
      unfold committed
      by_cases h2 : j.kind = 2
      · rw [if_pos h2]
        exact ⟨true, if_neg (by rw [hu]; exact Bool.false_ne_true)⟩
      · rw [if_neg h2, if_neg (fun h => Bool.false_ne_true (hup.symm.trans h.2.1))]
        exact ⟨u.thm.tripCommitted, rfl⟩
    rw [happend, putRecord_eq]
    obtain ⟨b, hb⟩ := hcommitted { s with jnl := { s.writeEnded.jnl with
      queue := dropFirst (fun x => decide (x = j)) s.jnl.queue, failCount := 0
      records := s.jnl.records ++ [s.nextRecord j.kind j.inst j.payload 0x3C]
      seq := s.jnl.seq + 1, offset := s.jnl.offset + recordSize j.payload.length } } hwait hup
    refine ⟨_, s.nextRecord j.kind j.inst j.payload 0x3C, congrArg Outcome.next ((congrArg shutdownAdvance hb).trans (shutdownAdvance_of_up hup)),
      rfl, s.nextRecord_checkOk .., rfl, rfl, rfl, rfl, rfl, rfl, ?_, ?_, rfl, rfl, rfl, rfl, rfl, rfl, rfl, rfl⟩
    · exact Fin.val_ofNat ..
    · exact BitVec.toNat_ofNat ..
  case failed =>
    rw [exec_journalRecordWrite_failed hrun hw]
    obtain ⟨hfr, hqueue, hsector, hoffset, hseq, hfails, hrecords⟩ := writeFailed_spec j s.writeEnded
    have hended : Fr 16384 s s.writeEnded := Fr.u16384 (.refl ..) rfl
    have hall := hended.trans hfr
    have hfault : fault 229 {} (s.writeEnded.writeFailed j) = (s.writeEnded.writeFailed j).withEvent 229 := by
      rw [fault_of_quiet {} (by decide) (by decide) (hall.quiet hq), perEvent_of_high (by decide)]
    have hev := State.withEvent_fr 229 (s.writeEnded.writeFailed j)
    have htotal : (((s.writeEnded.writeFailed j).withEvent 229).src 229).total = satInc (s.src 229).total := by
      rw [State.withEvent_src_self, src_congr (congrArg FltState.sources (hall.flt rfl))]
    rw [hfault]
    generalize (s.writeEnded.writeFailed j).withEvent 229 = u at hev htotal ⊢
    have hjnl := hev.jnl rfl
    refine ⟨_, congrArg Outcome.next (if_neg ?_), rfl, ?_, ?_, ?_, ?_, ?_, htotal, (hev.mem rfl).trans (hall.mem rfl), (hev.ports rfl).trans (hall.ports rfl),
      fun r hr => ?_⟩
    · rw [hjnl, hfails]
      exact fun h => h7 (Nat.succ.inj h)
    · exact (congrArg JnlState.queue hjnl).trans hqueue
    · exact (congrArg JnlState.sector hjnl).trans hsector
    · exact (congrArg JnlState.offset hjnl).trans hoffset
    · exact (congrArg JnlState.seq hjnl).trans hseq
    · exact (congrArg JnlState.failCount hjnl).trans hfails
    · exact hrecords r (hjnl ▸ hr)
  case suspended =>
    rw [exec_journalRecordWrite_failed hrun hw]
    obtain ⟨-, -, -, -, -, hfails, -⟩ := writeFailed_spec j s.writeEnded
    have hkept := (mute_collects.fault (n := 229) (d := {}) (fun h => by omega) (perEvent_of_high (by decide) _) (s.writeEnded.writeFailed j)).fails
    have hnext := suspended_kept (fault 229 {} (s.writeEnded.writeFailed j))
    refine ⟨_, congrArg Outcome.next (if_pos ?_), ?_, ?_⟩
    · rw [hkept, hfails]
      exact congrArg (· + 1) h7
    · exact congrArg JnlState.suspended hnext
    · exact congrArg JnlState.queue hnext
  case idle =>
    by_cases hrun : s.journalRuns = true
    · have hnone : s.writable = none := by
        by_cases hb : ∃ since, s.mb.busy = some (4, since)
        · obtain ⟨since, hb⟩ := hb
          rw [writable_of_read hb]
          rcases h with h | h | ⟨h, -⟩
          · exact absurd (h.symm.trans hrun) Bool.false_ne_true
          · rw [h]
            cases s.jnl.underWay <;> rfl
          · rw [h]
            rfl
        · rw [writable_of_idle (fun since hs => hb ⟨since, hs⟩)]
          rcases h with h | h | ⟨-, h⟩
          · exact absurd (h.symm.trans hrun) Bool.false_ne_true
          · exact journalHead_of_empty h
          · exact absurd h hb
      change execJournalRecordWrite o s = _
      unfold execJournalRecordWrite
      rw [hnone]
      exact ite_self _
    · exact if_pos (by simp [hrun])
  case wear =>
    obtain ⟨hnow, hbase, hlayer⟩ := wornSecond_spec s
    have hworn : Worn (wornSecond s) (chargeAll wornSecond s) := by
      unfold chargeAll
      dsimp only
      split
      · exact worn_collects.raiseFault (fun h => by omega) (perEvent_of_high (by decide) _) ..
      · exact .of_fr (.refl _ (m := 0))
    refine ⟨chargeAll wornSecond s, if_pos ⟨hgood, hrung, hstep, ht⟩, hworn.now.trans hnow, hworn.base.trans hbase, fun k hk => ?_⟩
    rw [hworn.layer, hlayer k hk]
  case ledger =>
    have hordinary : (s.jnl.queue.filter (fun x => !x.kept)).length ≤ s.jnl.queue.length := List.length_filter_le ..
    have hqueue : queueRecord (ledgerRecord s) s = { s with jnl.queue := s.jnl.queue ++ [ledgerRecord s] } := by
      unfold queueRecord
      rw [if_neg (by rw [hon]; exact Bool.false_ne_true)]
      refine if_pos ?_
      simp
      omega
    refine ⟨_, congrArg Outcome.next ((if_pos (.inl hm)).trans hqueue), rfl, rfl, rfl, rfl⟩
  case noLedger =>
    refine congrArg Outcome.next (if_neg ?_)
    rcases hm with h | h | h <;> simp [h]
  case flush =>
    obtain ⟨t, hexec, hbusy, hfr⟩ := exec_journalOp (f := id) hc rfl (fun _ => rfl) (fun _ => rfl) rfl
    exact ⟨t, hexec, hbusy, hfr.jnl rfl, hfr.mem rfl, hfr.ports rfl, hfr.flt rfl⟩
  case read =>
    obtain ⟨t, hexec, hbusy, hfr⟩ := exec_journalOp (f := fun u => { u with jnl.underWay := u.journalHead }) hc rfl (fun _ => rfl) (fun _ => rfl) rfl
    exact ⟨t, hexec, hbusy, hfr.jnl rfl, hfr.mem rfl, hfr.ports rfl, hfr.flt rfl⟩

end Sys2Proof.Machine
end

section
/-! SUPPORT. The attestation unit (R139, R142, R448, R451 to R458; O54). -/

namespace Sys2Proof.Machine

open Host

variable {s t u : State}

/-! ## The LEAF counter (R139) -/

/-- What one row of the LEAF counter counts up to. -/
def leafMark (e : Nat × BitVec 64) : Nat :=
  if 102 ≤ e.1 ∧ e.1 < 134 ∧ e.2 ≠ 0 then 32 * (e.1 - 102) + Nat.log2 e.2.toNat / 2 + 1 else 0

theorem foldl_leafMark (l : List (Nat × BitVec 64)) (m : Nat) :
    l.foldl (fun m e => if 102 ≤ e.1 ∧ e.1 < 134 ∧ e.2 ≠ 0 then max m (32 * (e.1 - 102) + Nat.log2 e.2.toNat / 2 + 1) else m) m =
      l.foldl (fun m e => max m (leafMark e)) m := by
  induction l generalizing m with
  | nil => rfl
  | cons e l ih =>
    have hstep : (if 102 ≤ e.1 ∧ e.1 < 134 ∧ e.2 ≠ 0 then max m (32 * (e.1 - 102) + Nat.log2 e.2.toNat / 2 + 1) else m) = max m (leafMark e) := by
      unfold leafMark
      split
      · rfl
      · exact (Nat.max_zero m).symm
    rw [List.foldl_cons, List.foldl_cons, hstep, ih]

theorem foldl_max_le {l : List (Nat × BitVec 64)} {m n : Nat} :
    l.foldl (fun m e => max m (leafMark e)) m ≤ n ↔ m ≤ n ∧ ∀ e ∈ l, leafMark e ≤ n := by
  induction l generalizing m with
  | nil => simp
  | cons e l ih =>
    rw [List.foldl_cons, ih, List.forall_mem_cons, Nat.max_le, and_assoc]

theorem leafCount_le {n : Nat} : s.leafCount ≤ n ↔ ∀ e ∈ s.otp.rows, leafMark e ≤ n := by
  rw [State.leafCount, foldl_leafMark, foldl_max_le]
  exact and_iff_right (Nat.zero_le n)

theorem leafMark_le_leafCount {e : Nat × BitVec 64} (he : e ∈ s.otp.rows) : leafMark e ≤ s.leafCount :=
  leafCount_le.mp (Nat.le_refl _) e he

/-- A row that reads other than its default stands in the table. -/
theorem mem_of_tabGet {α : Type} {d : α} {l : List (Nat × α)} {k : Nat} (h : tabGet d l k ≠ d) : (k, tabGet d l k) ∈ l := by
  induction l with
  | nil => exact absurd rfl h
  | cons e l ih =>
    rw [tabGet] at h ⊢
    split at h
    · next hk =>
      rw [if_pos hk, ← hk]
      exact List.mem_cons_self
    · next hk =>
      rw [if_neg hk]
      exact List.mem_cons_of_mem _ (ih h)

/-- A pair blown above all that is blown is the highest of its row. -/
theorem log2_pair {x k : Nat} (hx : x = 0 ∨ Nat.log2 x / 2 + 1 ≤ k) : Nat.log2 (x ||| 3 * 4 ^ k) = 2 * k + 1 := by
  have hpow : 4 ^ k = 2 ^ (2 * k) := by rw [Nat.pow_mul]
  have hlt : x < 2 ^ (2 * k) := by
    rcases hx with rfl | hx
    · exact Nat.two_pow_pos _
    · by_cases h0 : x = 0
      · rw [h0]
        exact Nat.two_pow_pos _
      · exact (Nat.log2_lt h0).mp (by omega)
  have h1 : 2 ^ (2 * k + 1) = 2 * 4 ^ k := by rw [Nat.pow_succ, hpow, Nat.mul_comm]
  have h2 : 2 ^ (2 * k + 1 + 1) = 4 * 4 ^ k := by rw [Nat.pow_succ, h1]; omega
  have hle : 3 * 4 ^ k ≤ x ||| 3 * 4 ^ k := Nat.right_le_or
  have hor : x ||| 3 * 4 ^ k < 2 ^ (2 * k + 1 + 1) := Nat.or_lt_two_pow (by omega) (by omega)
  have hpos : 0 < 4 ^ k := Nat.pow_pos (by decide)
  exact (Nat.log2_eq_iff (by omega)).mpr ⟨by omega, hor⟩

/-- Both bits of pair k of a row. -/
def pairBits (k : Nat) : BitVec 64 := BitVec.ofNat 64 (3 * 4 ^ k)

theorem pairBits_toNat {k : Nat} (hk : k < 32) : (pairBits k).toNat = 3 * 4 ^ k := by
  have hpow : 4 ^ k ≤ 4 ^ 31 := Nat.pow_le_pow_right (by decide) (by omega)
  exact Nat.mod_eq_of_lt (by omega)

theorem leafMark_pair {row k : Nat} {v : BitVec 64} (hk : k < 32) (hrow : 102 ≤ row) (hlast : row < 134)
    (hv : leafMark (row, v) ≤ 32 * (row - 102) + k) : leafMark (row, v ||| pairBits k) = 32 * (row - 102) + k + 1 := by
  have hlog : Nat.log2 (v ||| pairBits k).toNat = 2 * k + 1 := by
    rw [BitVec.toNat_or, pairBits_toNat hk]
    refine log2_pair ?_
    by_cases h0 : v = 0
    · exact .inl (by rw [h0]; rfl)
    · rw [leafMark, if_pos ⟨hrow, hlast, h0⟩] at hv
      exact .inr (by dsimp only at hv; omega)
  have hne : v ||| pairBits k ≠ 0 := by
    intro h
    rw [h] at hlog
    simp at hlog
  rw [leafMark, if_pos ⟨hrow, hlast, hne⟩]
  simp only [hlog]
  omega

/-! ## A block is entered (R139, R142) -/

/-- The state with the pair of block b blown and its row's shadow overridden. -/
def blockEntered (b : Nat) (s : State) : State :=
  let s := blowRow (102 + b / 32) (pairBits (b % 32)) s
  { override (102 + b / 32) (leafShadow s (102 + b / 32)) s with att.burnWait := false }

theorem enterBlock_of_low {b : Nat} (hb : b < 1008) : enterBlock b s = blockEntered b s := if_neg (by omega)

theorem blockEntered_fuseRow (b j : Nat) (s : State) : (blockEntered b s).fuseRow j =
    if j = 102 + b / 32 then s.fuseRow j ||| pairBits (b % 32) else s.fuseRow j := by
  have hrow : (blockEntered b s).fuseRow j = tabGet 0 (tabSet 0 s.otp.rows (102 + b / 32) (s.fuseRow (102 + b / 32) ||| pairBits (b % 32))) j := rfl
  rw [hrow, tabGet_tabSet]
  split
  · next h => rw [h]
  · rfl

theorem blockEntered_shadow (b j : Nat) (s : State) : (blockEntered b s).shadow j =
    if j = 102 + b / 32 then ((blockEntered b s).fuseRow j).extractLsb' 0 56 else s.shadow j := by
  have hrow : (blockEntered b s).shadow j =
      tabGet 0 (tabSet 0 s.otp.shadow (102 + b / 32) (((blockEntered b s).fuseRow (102 + b / 32)).extractLsb' 0 56)) j := rfl
  rw [hrow, tabGet_tabSet]
  split
  · next h => rw [h]
  · rfl

theorem blockEntered_overridden (b : Nat) (s : State) : 102 + b / 32 ∈ (blockEntered b s).otp.overridden := by
  change 102 + b / 32 ∈ (if s.otp.overridden.contains (102 + b / 32) then s.otp.overridden else s.otp.overridden ++ [102 + b / 32])
  split
  · next h => simpa using h
  · exact List.mem_append_right _ List.mem_cons_self

theorem blockEntered_leafCount {b : Nat} (hb : b < 1024) (hle : s.leafCount ≤ b) : (blockEntered b s).leafCount = b + 1 := by
  obtain ⟨row, hrow⟩ : ∃ row, row = 102 + b / 32 := ⟨_, rfl⟩
  have hpair : leafMark (row, s.fuseRow row ||| pairBits (b % 32)) = b + 1 := by
    have hsum : 32 * (row - 102) + b % 32 = b := by omega
    rw [leafMark_pair (Nat.mod_lt _ (by decide)) (by omega) (by omega), hsum]
    rw [hsum]
    by_cases h0 : s.fuseRow row = 0
    · rw [h0]
      simp [leafMark]
    · exact (leafMark_le_leafCount (mem_of_tabGet h0)).trans hle
  have hne : s.fuseRow row ||| pairBits (b % 32) ≠ 0 := by
    intro h
    rw [h] at hpair
    simp [leafMark] at hpair
  have hrows : (blockEntered b s).otp.rows = tabPut (tabErase s.otp.rows row) row (s.fuseRow row ||| pairBits (b % 32)) := by
    rw [hrow] at hne ⊢
    exact if_neg hne
  refine Nat.le_antisymm (leafCount_le.mpr fun e he => ?_) ?_
  · rw [hrows, mem_tabPut] at he
    rcases he with rfl | he
    · exact Nat.le_of_eq hpair
    · exact ((leafMark_le_leafCount (mem_tabErase.mp he).1).trans hle).trans (Nat.le_succ b)
  · rw [← hpair]
    exact leafMark_le_leafCount (by rw [hrows]; exact mem_tabPut.mpr (.inl rfl))

/-! ## A report is signed (R448, R453 to R457) -/

/-- The unit once leaf number n has signed. -/
def leafUsed (s : State) : State :=
  queueRecord (leafRecord s.att.next)
    { s with att := { s.att with next := s.att.next + 1, allowance := s.att.allowance - 1, reports := satInc s.att.reports,
                                 exhausted := decide (s.att.next + 1 = 1048576) } }

/-- The report sent to its requester. -/
def answered (r : AttReq) (report : List Byte) (s : State) : State :=
  match r.port with
  | some p => sendReport p r.tag report s
  | none => { s with att.result := 1, att.report := report }

theorem signReport_eq (r : AttReq) (s : State) : signReport r s =
    if s.att.next + 1 = 1048576 then raiseFault 233 2 {} 1 (answered r (s.report (r.port.getD 0xFF) r.nonce s.att.next) (leafUsed s))
    else answered r (s.report (r.port.getD 0xFF) r.nonce s.att.next) (leafUsed s) := by
  unfold signReport
  extract_lets leaf last report used record sent
  by_cases h : s.att.next + 1 = 1048576
  · rw [if_pos h]
    exact if_pos (decide_eq_true h)
  · rw [if_neg h]
    exact if_neg (by rw [show last = false from decide_eq_false h]; exact Bool.false_ne_true)

theorem leafUsed_att (s : State) : (leafUsed s).att = { s.att with next := s.att.next + 1, allowance := s.att.allowance - 1, reports := satInc s.att.reports, exhausted := decide (s.att.next + 1 = 1048576) } :=
  (queueRecord_fr ..).att rfl

theorem leafUsed_fr (s : State) : Fr 49152 s (leafUsed s) :=
  (Fr.u32768 (.refl 49152 s) rfl : Fr 49152 s _).trans ((queueRecord_fr ..).mono rfl)

theorem answered_of_port {r : AttReq} {p : Nat} (hp : r.port = some p) (report : List Byte) (s : State) :
    answered r report s = sendReport p r.tag report s := by
  rw [answered, hp]

theorem answered_of_none {r : AttReq} (hp : r.port = none) (report : List Byte) (s : State) :
    answered r report s = { s with att.result := 1, att.report := report } := by
  rw [answered, hp]

/-- The way from s to t keeps the unit but for its result and its report. -/
structure SameUnit (s t : State) : Prop where
  next : t.att.next = s.att.next
  queue : t.att.queue = s.att.queue
  reports : t.att.reports = s.att.reports
  allowance : t.att.allowance = s.att.allowance
  burnWait : t.att.burnWait = s.att.burnWait

theorem SameUnit.of_att (h : t.att = s.att) : SameUnit s t := ⟨by rw [h], by rw [h], by rw [h], by rw [h], by rw [h]⟩

theorem answered_unit (r : AttReq) (report : List Byte) (s : State) : SameUnit s (answered r report s) := by
  cases hp : r.port with
  | some p =>
    rw [answered_of_port hp]
    exact .of_att ((sendReport_fr ..).att rfl)
  | none =>
    rw [answered_of_none hp]
    exact ⟨rfl, rfl, rfl, rfl, rfl⟩

/-- A request refused leaves the unit but for the result, and a management request has its result. -/
theorem refuseReport_unit (r : AttReq) (st : Status) (k : Nat) (s : State) : SameUnit s (refuseReport r st k s) := by
  unfold refuseReport
  split
  · exact .of_att ((answerMgmt_fr ..).att rfl)
  · exact ⟨rfl, rfl, rfl, rfl, rfl⟩

theorem refuseReport_result {r : AttReq} (hp : r.port = none) (st : Status) (k : Nat) (s : State) :
    (refuseReport r st k s).att.result = BitVec.ofNat 3 k := by
  rw [refuseReport, hp]

theorem answered_fr (r : AttReq) (report : List Byte) (s : State) : Fr 4227072 s (answered r report s) := by
  unfold answered
  split
  · exact (sendReport_fr ..).mono rfl
  · exact Fr.u32768 (.refl ..) rfl

/-- The unit's state after a signature. -/
theorem signReport_spec (r : AttReq) (s : State) (hlast : s.att.next + 1 < 1048576) : ∃ u, signReport r s = u ∧ Fr 4243456 s u ∧
    u.att.next = s.att.next + 1 ∧ u.att.queue = s.att.queue ∧ u.att.reports = satInc s.att.reports ∧ u.att.allowance = s.att.allowance - 1 ∧
    u.att.burnWait = s.att.burnWait := by
  obtain ⟨hnext, hqueue, hreports, hallowance, hwait⟩ := answered_unit r (s.report (r.port.getD 0xFF) r.nonce s.att.next) (leafUsed s)
  rw [leafUsed_att] at hnext hqueue hreports hallowance hwait
  refine ⟨_, (signReport_eq r s).trans (if_neg (by omega)), ((leafUsed_fr s).or (answered_fr ..)).mono rfl, hnext, hqueue, hreports, hallowance, hwait⟩

theorem signReport_next (r : AttReq) (s : State) : (signReport r s).att.next = s.att.next + 1 := by
  have hnext := (answered_unit r (s.report (r.port.getD 0xFF) r.nonce s.att.next) (leafUsed s)).next
  rw [leafUsed_att] at hnext
  rw [signReport_eq]
  split
  · rw [(raiseFault_fr ..).att rfl, hnext]
  · exact hnext

/-- What a port's report leaves of its port. -/
theorem sendReport_port (p tag : Nat) (report : List Byte) (s : State) : ∃ l, (sendReport p tag report s).port p =
    { (s.port p).updReq tag (fun r => { r with phase := .answered }) with
      outq := (s.port p).outq ++ l, attReports := satInc (s.port p).attReports, attLast := some s.now } ∧
    l.length = 49 ∧ (∀ o ∈ l.take 48, o.closes = none) ∧ ∀ o ∈ l.drop 48, o.closes = some tag := by
  refine ⟨(List.range 49).map (fun k =>
    { slot := .ctrl (.mgmtResp tag .ok (decide (k = 48)) k (segmentOf report k))
      closes := if k = 48 then some tag else none }), State.updPort_port_self .., ?_, ?_, ?_⟩
  · rw [List.length_map, List.length_range]
  · intro o ho
    rw [← List.map_take] at ho
    obtain ⟨k, hk, rfl⟩ := List.mem_map.mp ho
    have hne : k ≠ 48 := by
      rw [List.take_range] at hk
      have := List.mem_range.mp hk
      omega
    exact if_neg hne
  · intro o ho
    rw [← List.map_drop] at ho
    obtain ⟨k, hk, rfl⟩ := List.mem_map.mp ho
    have heq : k = 48 := by
      rw [show (List.range 49).drop 48 = [48] from by decide] at hk
      exact List.mem_singleton.mp hk
    exact if_pos heq

/-! ## Requests of the unit's queue -/

theorem exec_reportSigned {tr : BurnTry} {r : AttReq} {rest : List AttReq} (hq : s.att.queue = r :: rest) (hask : s.stillAsked r = true)
    (hrun : s.attRuns = true) (hex : s.att.exhausted = false) (hready : s.att.ready = true) : exec (.reportSigned tr) s =
      if s.att.allowance = 0 then .next (refuseReport r .busy 3 { s with att.queue := rest })
      else if s.leafCount ≤ s.att.next / 1024 then
        if !s.supBurn tr then .next (refuseReport r .busy 4 { s with att.queue := rest, att.burnWait := true })
        else match tr.pulses with
          | some _ => .next (signReport r (enterBlock (s.att.next / 1024) { s with att.queue := rest }))
          | none =>
            if s.att.next / 1024 + 1 = 1024 then
              .next (raiseFault 233 2 {} 1 (fault 233 {} (refuseReport r .unsupported 5
                { s with att.queue := rest, att.next := 1048576, att.exhausted := true })))
            else .next (fault 233 {} { s with att.next := 1024 * (s.att.next / 1024 + 1) })
      else .next (signReport r { s with att.queue := rest }) := by
  change execReportSigned tr s = _
  unfold execReportSigned
  rw [hq]
  dsimp only
  rw [if_neg (by simp [hask]), if_neg (by simp [hrun]), if_neg (by simp [hex]), if_neg (by simp [hready])] <;> rfl

theorem enterBlock_next (b : Nat) (s : State) : (enterBlock b s).att.next = s.att.next := by
  unfold enterBlock
  extract_lets row blown entered
  have hentered : entered.att.next = s.att.next := rfl
  split
  · rw [(fault_fr ..).att rfl, hentered]
  · exact hentered

/-- An action that is answered in every view, in a view that may not write it. -/
theorem commit_of_answers {c : Instr} (hlisten : s.listens = true) (hfollow : s.following = true) (haccept : s.accepts c = true)
    (hanswer : answersPort c = true) (hsup : s.sup.restarting = false) :
    commit c s = closeTransfer (actionEffect c s.currentView (s.pointed c)) := by
  have hpointed : (s.pointed c).accepts c = s.accepts c ∧ (s.pointed c).sup = s.sup := by
    obtain ⟨m, hm, -⟩ := s.pointed_eq c
    rw [hm]
    exact ⟨rfl, rfl⟩
  unfold commit
  rw [if_pos (by rw [hlisten, hfollow]; rfl)]
  change carryOut c s.currentView (s.pointed c) = _
  unfold carryOut
  rw [if_pos (by rw [hpointed.1, haccept, hanswer, Bool.or_true]; rfl), if_neg (by rw [hpointed.2, hsup]; simp)]

/-- An outcome whose state does not take the next leaf back behind leaf n. -/
structure Ahead (n : Nat) (o : Outcome State Fault Refusal) : Prop where
  le : ∀ u, o = .next u → n ≤ u.att.next

theorem Ahead.next {n : Nat} (h : n ≤ u.att.next) : Ahead n (.next u) := ⟨fun _ hu => Outcome.next.inj hu ▸ h⟩

theorem Ahead.ite {n : Nat} {c : Prop} [Decidable c] {o o' : Outcome State Fault Refusal} (h : c → Ahead n o) (h' : ¬ c → Ahead n o') :
    Ahead n (if c then o else o') := by
  split
  · next hc => exact h hc
  · next hc => exact h' hc

/-- A signature, a refusal and a lost pair never take the next leaf back. -/
theorem execReportSigned_ahead (tr : BurnTry) (s : State) : Ahead s.att.next (execReportSigned tr s) := by
  have hrefuse {r : AttReq} {st : Status} {k : Nat} {v : State} (hv : v.att.next = s.att.next) : s.att.next ≤ (refuseReport r st k v).att.next := by
    rw [(refuseReport_unit r st k v).next, hv]
  have hsign {r : AttReq} {v : State} (hv : v.att.next = s.att.next) : s.att.next ≤ (signReport r v).att.next := by
    rw [signReport_next, hv]
    exact Nat.le_succ _
  unfold execReportSigned
  split
  · exact .next (Nat.le_refl _)
  · next r rest _ =>
    extract_lets book done book' n
    have hdone : done.att.next = s.att.next := rfl
    have hwait : { done with att.burnWait := true }.att.next = s.att.next := rfl
    have hlost : { done with att.next := 1048576, att.exhausted := true }.att.next = 1048576 := rfl
    clear_value done
    refine .ite (fun _ => .next (Nat.le_of_eq hdone.symm)) fun _ => .ite (fun _ => .next (hrefuse hdone)) fun _ => ?_
    refine .ite (fun _ => .next (hrefuse hdone)) fun _ => .ite (fun _ => .next (hrefuse hdone)) fun _ => ?_
    refine .ite (fun _ => .next (hrefuse hdone)) fun _ => .ite (fun _ => ?_) fun _ => .next (hsign hdone)
    refine .ite (fun _ => .next (hrefuse hwait)) fun _ => ?_
    split
    · exact .next (hsign ((enterBlock_next ..).trans hdone))
    · refine .ite (fun hn => .next ?_) fun _ => .next ?_
      · rw [(raiseFault_fr ..).att rfl, (fault_fr ..).att rfl, (refuseReport_unit ..).next, hlost]
        omega
      · rw [(fault_fr ..).att rfl]
        change s.att.next ≤ 1024 * n
        omega

/-- Settles O54: the LEAF counter by `blockEntered_leafCount`, a signature by `signReport_spec`, a port's segments by `sendReport_port`. -/
theorem reportsUseEachLeafOnce : Obligations.ReportsUseEachLeafOnce := by
  unfold Obligations.ReportsUseEachLeafOnce
  refine ⟨fun ok s => ⟨fun h => ?built, fun hready hex hrun => ⟨fun h => ?ready, fun hre hok => ?rebuild⟩⟩, fun s => ⟨fun h => ?gain, fun h => ?noGain⟩,
    fun tr s h => ?empty, fun tr s u h => ?never, fun tr r rest s hq hask hrun hex hready => ⟨fun h0 => ?spent, fun h0 hlast =>
      ⟨fun hleaf => ?signed, fun hleaf hburn hpulses hlow => ?entered, fun hleaf hburn => ?waits⟩⟩,
    fun s hc hview => ⟨fun h => ?closed, fun hrun hex hready h0 hports => ?asked⟩, fun p s hlisten hfollow hview hsup hacts => ?port⟩
  case built => exact if_pos (by rcases h with h | h <;> simp [h])
  case ready => exact (if_neg (by simp [hready, hex, hrun])).trans (if_pos h)
  case rebuild => exact (if_neg (by simp [hready, hex, hrun])).trans (if_neg (by simp [hre, hok]))
  case gain => exact if_pos h
  case noGain => exact if_neg (by rcases h with h | h | h <;> simp [h])
  case empty =>
    change execReportSigned tr s = _
    unfold execReportSigned
    rw [h]
  case never =>
    exact (execReportSigned_ahead tr s).le u h
  case spent =>
    have hunit := refuseReport_unit r .busy 3 { s with att.queue := rest }
    refine ⟨_, (exec_reportSigned hq hask hrun hex hready).trans (if_pos h0), hunit.next, hunit.queue, hunit.reports,
      fun hp => refuseReport_result hp ..⟩
  case signed =>
    obtain ⟨u, hu, hfr, hnext, hqueue, hreports, hallowance, -⟩ := signReport_spec r { s with att.queue := rest } hlast
    have hexec : exec (.reportSigned tr) s = .next (signReport r { s with att.queue := rest }) :=
      (exec_reportSigned hq hask hrun hex hready).trans ((if_neg h0).trans (if_neg (Nat.not_le_of_lt hleaf)))
    have hsign : signReport r { s with att.queue := rest } = answered r _ (leafUsed { s with att.queue := rest }) :=
      (signReport_eq ..).trans (if_neg (Nat.ne_of_lt hlast))
    have hused := leafUsed_fr { s with att.queue := rest }
    refine ⟨u, by rw [hexec, hu], hnext, hallowance, hqueue, hreports, hfr.otp rfl, hfr.mem rfl, hfr.flt rfl, fun hp => ?_, fun p hp => ?_⟩
    · rw [hsign, answered_of_none hp] at hu
      rw [← hu, hp]
      exact ⟨rfl, rfl, hused.ports rfl⟩
    · rw [hsign, answered_of_port hp] at hu
      obtain ⟨l, hl, hlen, htake, hdrop⟩ := sendReport_port p r.tag (State.report { s with att.queue := rest } (r.port.getD 0xFF) r.nonce s.att.next)
        (leafUsed { s with att.queue := rest })
      rw [hu] at hl
      have hport (j : Nat) : (leafUsed { s with att.queue := rest }).port j = s.port j := hused.port rfl j
      rw [hport, hused.now rfl] at hl
      refine ⟨fun j hj => ?_, by rw [hl], by rw [hl], l, by rw [hl], hlen, htake, hdrop⟩
      rw [← hu, sendReport, State.updPort_port_ne _ _ hj, hport]
  case entered =>
    obtain ⟨k, hk⟩ := Option.isSome_iff_exists.mp hpulses
    have hexec : exec (.reportSigned tr) s = .next (signReport r (blockEntered (s.att.next / 1024) { s with att.queue := rest })) := by
      rw [exec_reportSigned hq hask hrun hex hready, if_neg h0, if_pos hleaf, if_neg (by simp [hburn]), hk]
      exact congrArg (fun v => Outcome.next (signReport r v)) (enterBlock_of_low hlow)
    have hcount := blockEntered_leafCount (s := { s with att.queue := rest }) (b := s.att.next / 1024) (by omega) hleaf
    have hrow (j : Nat) := blockEntered_fuseRow (s.att.next / 1024) j { s with att.queue := rest }
    have hshadow (j : Nat) := blockEntered_shadow (s.att.next / 1024) j { s with att.queue := rest }
    have hover := blockEntered_overridden (s.att.next / 1024) { s with att.queue := rest }
    have hsum : 102 + s.att.next / 1024 / 32 = 102 + s.att.next / 32768 := by rw [Nat.div_div_eq_div_mul]
    rw [hsum] at hover
    simp only [hsum] at hrow hshadow
    have hfacts : (blockEntered (s.att.next / 1024) { s with att.queue := rest }).att = { s.att with queue := rest, burnWait := false } ∧
        (blockEntered (s.att.next / 1024) { s with att.queue := rest }).mem = s.mem ∧
        (blockEntered (s.att.next / 1024) { s with att.queue := rest }).flt = s.flt := ⟨rfl, rfl, rfl⟩
    generalize blockEntered (s.att.next / 1024) { s with att.queue := rest } = v at hexec hcount hrow hshadow hover hfacts
    obtain ⟨hatt, hmem, hflt⟩ := hfacts
    obtain ⟨u, hu, hfr, hnext, hqueue, hreports, hallowance, hwait⟩ := signReport_spec r v (by rw [hatt]; exact hlast)
    rw [hatt] at hnext hreports hwait
    have hotp := hfr.otp rfl
    have hfuse (j : Nat) : u.fuseRow j = v.fuseRow j := by rw [State.fuseRow, hotp, State.fuseRow]
    have hshad (j : Nat) : u.shadow j = v.shadow j := by rw [State.shadow, hotp, State.shadow]
    refine ⟨u, by rw [hexec, hu], hnext, hwait, ?_, ?_, fun i hi => ⟨?_, ?_⟩, ?_, by rw [hotp]; exact hover, hreports, (hfr.mem rfl).trans hmem, (hfr.flt rfl).trans hflt⟩
    · rw [State.leafCount, hotp]
      exact hcount
    · rw [hfuse, hrow, if_pos rfl]
      rfl
    · rw [hfuse, hrow, if_neg hi]
      rfl
    · rw [hshad, hshadow, if_neg hi]
      rfl
    · rw [hshad, hshadow, if_pos rfl, hfuse]
  case waits =>
    have hunit := refuseReport_unit r .busy 4 { s with att.queue := rest, att.burnWait := true }
    have hexec := (exec_reportSigned (tr := tr) hq hask hrun hex hready).trans
      ((if_neg h0).trans ((if_pos hleaf).trans (if_pos (show (!s.supBurn tr) = true by simp [hburn]))))
    exact ⟨_, hexec, hunit.next, hunit.burnWait, (refuseReport_fr ..).otp rfl, hunit.reports, fun hp => refuseReport_result hp ..⟩
  case closed =>
    obtain ⟨m, hpoint, -⟩ := s.pointed_eq .attReportRequest
    have hrun : exec .attReportRequest s = .next (closeTransfer (doReport .whole { s with mb := m })) := by
      change Outcome.next (commit .attReportRequest s) = _
      rw [commit_of_commits hc, hpoint, hview]
      rfl
    have hdo : doReport .whole { s with mb := m } = { s with
        att := { s.att with result := 7, report := [] }, mb := { m with busy := none, longOp := 2, longOutcome := 1, longDuration := 0 } } :=
      if_pos (show (!s.attRuns) = true by simp [h])
    rw [hdo, closeTransfer_of_idle rfl] at hrun
    exact ⟨_, hrun, rfl, rfl, rfl, rfl, rfl, rfl⟩
  case asked =>
    obtain ⟨m, hpoint, -⟩ := s.pointed_eq .attReportRequest
    have hrun' : exec .attReportRequest s = .next (closeTransfer (doReport .whole { s with mb := m })) := by
      change Outcome.next (commit .attReportRequest s) = _
      rw [commit_of_commits hc, hpoint, hview]
      rfl
    have hdo : doReport .whole { s with mb := m } = beginOp 2 (askReport { port := none, tag := 0, nonce := s.att.nonce, at_ := s.now }
        { s with att := { s.att with result := 0, report := [] }, mb := m }) :=
      (if_neg (show ¬ (!s.attRuns) = true by simp [hrun])).trans ((if_neg (show ¬ s.att.exhausted = true by simp [hex])).trans
        ((if_neg (show ¬ (!s.att.ready) = true by simp [hready])).trans (if_neg h0)))
    have hafter : ∀ a ∈ s.att.queue, a.after { port := none, tag := 0, nonce := s.att.nonce, at_ := s.now } = false := by
      intro a ha
      have hle : a.port.getD 16 ≤ 16 := by
        cases hp : a.port with
        | none => exact Nat.le_refl _
        | some p => exact Nat.le_of_lt (hports a ha p hp)
      unfold AttReq.after
      simp [hle]
    have hqueue := askReport_queue (s := { s with att := { s.att with result := 0, report := [] }, mb := m }) hafter
    have hfr := askReport_fr { port := none, tag := 0, nonce := s.att.nonce, at_ := s.now } { s with att := { s.att with result := 0, report := [] }, mb := m }
    have hsame : (askReport { port := none, tag := 0, nonce := s.att.nonce, at_ := s.now }
        { s with att := { s.att with result := 0, report := [] }, mb := m }).att.result = 0 ∧
        (askReport { port := none, tag := 0, nonce := s.att.nonce, at_ := s.now }
        { s with att := { s.att with result := 0, report := [] }, mb := m }).att.report = [] := ⟨rfl, rfl⟩
    rw [hdo] at hrun'
    generalize askReport _ _ = v at hqueue hfr hsame hrun'
    obtain ⟨hclose, hbusy, -⟩ := closeTransfer_spec (beginOp 2 v)
    refine ⟨_, hrun', ?_, ?_, ?_, ?_, ?_, ?_⟩
    · rw [hclose]; exact hqueue
    · rw [hclose]; exact hsame.1
    · rw [hclose]; exact hsame.2
    · rw [hbusy]; exact congrArg (fun k => some (2, k)) (hfr.now rfl)
    · rw [hclose]; exact hfr.mem rfl
    · rw [hclose]; exact hfr.ports rfl
  case port =>
    obtain ⟨m, hpoint, -⟩ := s.pointed_eq .attReportRequest
    have hrun : exec .attReportRequest s = .next (closeTransfer (doReport (.port p) { s with mb := m })) := by
      change Outcome.next (commit .attReportRequest s) = _
      rw [commit_of_answers hlisten hfollow (show s.accepts .attReportRequest = true from hacts) rfl hsup, hpoint, hview]
      rfl
    rw [show closeTransfer (doReport (.port p) { s with mb := m }) = doReport (.port p) { s with mb := m } from closeTransfer_of_idle rfl] at hrun
    exact ⟨_, hrun, rfl, rfl, rfl⟩

end Sys2Proof.Machine
end

section
/-! SUPPORT. What a sample leaves of a sensor's reading, and what follows a trip (R364, R365, R371, R374 to R377). -/

namespace Sys2Proof.Machine

open Host

variable {s t u : State} {k : Nat}

/-! ## A reading stays -/

/-- The way from s to t keeps the time and sensor A of layer k: its reading, its failures, and that it is suspect. -/
structure Sensed (k : Nat) (s t : State) : Prop where
  now : t.now = s.now
  reading : (t.layer k).sensA = (s.layer k).sensA
  fails : (t.layer k).failA = (s.layer k).failA
  suspect : (s.layer k).suspectA = true → (t.layer k).suspectA = true

theorem Sensed.refl (k : Nat) (s : State) : Sensed k s s := ⟨rfl, rfl, rfl, id⟩

theorem Sensed.trans (h : Sensed k s t) (h' : Sensed k t u) : Sensed k s u :=
  ⟨h'.now.trans h.now, h'.reading.trans h.reading, h'.fails.trans h.fails, h'.suspect ∘ h.suspect⟩

theorem Sensed.of_fr {m : Nat} (h : Fr m s t) (hm : m &&& 67108866 = 0 := by decide) : Sensed k s t := by
  have hbit {i : Nat} (hi : (67108866 : Nat).testBit i = true) : m.testBit i = false := testBit_of_disjoint hm hi
  have hlayer : t.layer k = s.layer k := by rw [State.layer, h.layers (hbit (by decide)), State.layer]
  exact ⟨h.now (hbit (by decide)), by rw [hlayer], by rw [hlayer], by rw [hlayer]; exact id⟩

theorem Sensed.ite {c : Prop} [Decidable c] (h : Sensed k s t) (h' : Sensed k s u) : Sensed k s (if c then t else u) := by
  split
  · exact h
  · exact h'

/-- A change of a layer that is none of its sensor A. -/
theorem Sensed.updLayer {f : Layer → Layer} (hread : ∀ x, (f x).sensA = x.sensA) (hfail : ∀ x, (f x).failA = x.failA)
    (hsusp : ∀ x, x.suspectA = true → (f x).suspectA = true) (j : Nat) (s : State) : Sensed k s (s.updLayer j f) := by
  have hlayer : (s.updLayer j f).layer k = if k = j then f (s.layer j) else s.layer k := State.updLayer_layer ..
  refine ⟨rfl, ?_, ?_, fun h => ?_⟩
  · rw [hlayer]
    split
    · next hk => rw [hread, hk]
    · rfl
  · rw [hlayer]
    split
    · next hk => rw [hfail, hk]
    · rfl
  · rw [hlayer]
    split
    · next hk => exact hsusp _ (hk ▸ h)
    · exact h

/-- A change of the layers one by one that is none of their sensor A. -/
theorem sensed_map {f : Layer → Layer} (hread : ∀ x, (f x).sensA = x.sensA) (hfail : ∀ x, (f x).failA = x.failA)
    (hsusp : ∀ x, (f x).suspectA = x.suspectA) (k : Nat) (s : State) :
    Sensed k s { s with layers := s.layers.map (fun e => (e.1, f e.2)) } := by
  have hmap (l : List (Nat × Layer)) : (tabGet ({} : Layer) (l.map (fun e => (e.1, f e.2))) k = f (tabGet ({} : Layer) l k)) ∨
      (tabGet ({} : Layer) (l.map (fun e => (e.1, f e.2))) k = tabGet ({} : Layer) l k) := by
    induction l with
    | nil => exact .inr rfl
    | cons e l ih =>
      rw [List.map_cons, tabGet, tabGet]
      split
      · exact .inl rfl
      · exact ih
  have hlayer : State.layer { s with layers := s.layers.map (fun e => (e.1, f e.2)) } k = f (s.layer k) ∨
      State.layer { s with layers := s.layers.map (fun e => (e.1, f e.2)) } k = s.layer k := hmap s.layers
  rcases hlayer with h | h
  · exact ⟨rfl, by rw [h, hread], by rw [h, hfail], fun hs => by rw [h, hsusp]; exact hs⟩
  · exact ⟨rfl, by rw [h], by rw [h], fun hs => by rw [h]; exact hs⟩

theorem layersOff_sensed (k : Nat) (s : State) : Sensed k s (layersOff s) := 
  sensed_map (f := fun x => { x with powered := false }) (fun _ => rfl) (fun _ => rfl) (fun _ => rfl) k s

theorem enterHold_sensed (c : Nat) (s : State) : Sensed k s (enterHold c s) := by
  by_cases ht : s.mode = .trip
  · rw [enterHold_of_trip c ht]
    exact .refl k s
  by_cases hh : s.mode = .hold
  · rw [enterHold_of_hold c hh]
    exact .refl k s
  · have hstop : Sensed k s s.stopAll := by
      unfold State.stopAll
      generalize hu : stopMemory (linksDown s) = u
      have hu' : Sensed k s u := hu ▸ .of_fr ((linksDown_fr s).or (stopMemory_fr _))
      exact (hu'.trans (layersOff_sensed k u)).trans (.of_fr (stopTest_fr _))
    obtain ⟨hnow, hread, hfail, hsusp⟩ := hstop
    rw [enterHold_eq c ht hh]
    exact ⟨hnow, hread, hfail, hsusp⟩

theorem sensed_collects (k : Nat) : Collects (Sensed k) where
  refl := Sensed.refl k
  trans := Sensed.trans
  parts h := .of_fr h
  queue j s := .of_fr (queueRecord_fr j s)
  hold := enterHold_sensed

/-! ## What has tripped stays so -/

/-- The mode, the hold cause and what THM_TRIP shows. -/
def State.tripFacts (s : State) : Mode × BitVec 8 × Bool × BitVec 6 × Bool :=
  (s.mode, s.holdCause, s.thm.tripValid, s.thm.tripSrc, s.thm.tripWait)

/-- The way from s to t keeps TRIP, the hold cause and the trip record. -/
structure Tripped (s t : State) : Prop where
  kept : s.mode = .trip → t.tripFacts = s.tripFacts

theorem State.tripFacts_mode (h : t.tripFacts = s.tripFacts) : t.mode = s.mode := congrArg (·.1) h

theorem Tripped.trans (h : Tripped s t) (h' : Tripped t u) : Tripped s u := by
  refine ⟨fun hm => ?_⟩
  have ht := h.kept hm
  exact (h'.kept ((State.tripFacts_mode ht).trans hm)).trans ht

theorem Tripped.of_fr {m : Nat} (h : Fr m s t) (hm : m &&& 2096 = 0 := by decide) : Tripped s t := by
  have hbit {i : Nat} (hi : (2096 : Nat).testBit i = true) : m.testBit i = false := testBit_of_disjoint hm hi
  exact ⟨fun _ => by rw [State.tripFacts, h.mode (hbit (by decide)), h.holdCause (hbit (by decide)), h.thm (hbit (by decide)), State.tripFacts]⟩

theorem tripped_collects : Collects Tripped where
  refl s := ⟨fun _ => rfl⟩
  trans := Tripped.trans
  parts h := .of_fr h
  queue j s := .of_fr (queueRecord_fr j s)
  hold c s := ⟨fun hm => by rw [enterHold_of_trip c hm]⟩

/-! ## What follows a sample's trips -/

/-- The alerts and events of a sample. -/
def actEvents (f : Found) (base : Int) (boot : Bool) (s : State) : State :=
  let bl : Nat → List (Nat × Int) := fun l => if f.baseLevels.contains l then [(0x20, base)] else []
  let m := (if f.warn ≠ [] ∨ f.baseLevels.contains 1 then 1 else 0) + (if f.throttle ≠ [] ∨ f.baseLevels.contains 2 then 2 else 0)
    + (if f.layerMarks ≠ [] ∨ f.baseMarks ≠ [] then 4 else 0) + (if f.model then 8 else 0) + (if f.conv = 0 then 0 else 32)
  let s := forN 6 (fun i s => if m.testBit i then setThmAlert (BitVec.ofNat 6 (2 ^ i)) s else s) s
  let s := thermalEvents 213 f.throttle (thermalEvents 212 f.warn s)
  let s := tripEvents boot 214 (f.trip.map (fun x => (x.1, x.2.1))) s
  let s := tripEvents boot 217 (bl 3) (thermalEvents 216 (bl 2) (thermalEvents 215 (bl 1) s))
  let s := markEvents 219 f.baseMarks (markEvents 218 f.layerMarks s)
  let s := if f.model then markEvents 220 [(0, 0)] s else s
  faultMany 223 f.conv {} (coverageLost f.lost s)

theorem actRest_eq (f : Found) (base : Int) (boot : Bool) (s : State) : actRest f base boot s = tripDown (actEvents f base boot s) := rfl

section actRest

variable {R : State → State → Prop} (h : Collects R) (halert : ∀ m s, R s (setThmAlert m s))
include h

theorem collects_thermalEvents {n : Nat} (hn : 212 ≤ n) (l : List (Nat × Int)) (s : State) : R s (thermalEvents n l s) := by
  unfold thermalEvents faultMany
  split
  · exact h.refl s
  · refine Collects.either (h.refl s) (h.trans (h.fault (fun hg => by omega) (perEvent_of_high hn _) s) (h.of_fr (State.updSrc_fr ..)))

theorem collects_markEvents {n : Nat} (hn : 212 ≤ n) (l : List (Nat × Int)) (s : State) : R s (markEvents n l s) := by
  unfold markEvents
  split
  · exact h.refl s
  · exact h.trans (h.raiseFault (fun hg => by omega) (perEvent_of_high hn _) 2 1 s) (h.of_fr (State.updSrc_fr ..))

theorem collects_tripEvents {n : Nat} (hn : 212 ≤ n) (boot : Bool) (l : List (Nat × Int)) (s : State) : R s (tripEvents boot n l s) := by
  unfold tripEvents
  split
  · exact h.refl s
  · exact Collects.either (h.raiseFault (fun hg => by omega) (perEvent_of_high hn _) 4 1 s) (collects_thermalEvents h hn _ s)

theorem collects_coverageLost (l : List Nat) (s : State) : R s (coverageLost l s) := by
  unfold coverageLost
  split
  · exact h.refl s
  · exact h.raiseFault (fun hg => by omega) (perEvent_of_high (by decide) _) 4 3 s

include halert

theorem collects_actEvents (f : Found) (base : Int) (boot : Bool) (s : State) : R s (actEvents f base boot s) := by
  unfold actEvents
  extract_lets bl m alerted warned tripped based marked modelled
  have hloop (n : Nat) : R s (forN n (fun i s => if m.testBit i then setThmAlert (BitVec.ofNat 6 (2 ^ i)) s else s) s) := by
    induction n with
    | zero => exact h.refl s
    | succ n ih =>
      rw [forN_succ]
      exact h.trans ih (Collects.either (halert ..) (h.refl _))
  have hwarned : R alerted warned := h.trans (collects_thermalEvents h (by decide) ..) (collects_thermalEvents h (by decide) ..)
  have htripped : R warned tripped := collects_tripEvents h (by decide) ..
  have hbased : R tripped based := h.trans (h.trans (collects_thermalEvents h (by decide) ..) (collects_thermalEvents h (by decide) ..))
    (collects_tripEvents h (by decide) ..)
  have hmarked : R based marked := h.trans (collects_markEvents h (by decide) ..) (collects_markEvents h (by decide) ..)
  have hmodelled : R marked modelled := h.then_ite (collects_markEvents h (by decide) ..)
  have hmany (u : State) : R u (faultMany 223 f.conv {} u) := by
    unfold faultMany
    exact Collects.either (h.refl u) (h.trans (h.fault (fun hg => by omega) (perEvent_of_high (by decide) _) u) (h.of_fr (State.updSrc_fr ..)))
  exact h.trans (h.trans (h.trans (h.trans (hloop 6) hwarned) htripped) (h.trans hbased hmarked))
    (h.trans hmodelled (h.trans (collects_coverageLost h ..) (hmany _)))

end actRest


/-- Links, memory and layers down after a trip. -/
theorem tripDown_of_trip (hm : s.mode = .trip) : tripDown s = layersOff (stopMemory (linksDown s)) := if_pos hm

theorem tripDown_mem (hm : s.mode = .trip) : (tripDown s).mem = [] := by
  rw [tripDown_of_trip hm]
  exact (layersOff_fr _).mem rfl

theorem tripDown_link (hm : s.mode = .trip) {p : Nat} (hp : p < 16) : ((tripDown s).port p).lnk.link = .off := by
  rw [tripDown_of_trip hm, (layersOff_fr _).port rfl, (stopMemory_fr _).port rfl, linksDown_port]
  split
  · exact Port.down_link _
  · next h => rw [not_and, not_not] at h; rw [h hp]

theorem tripDown_powered (hm : s.mode = .trip) (j : Nat) : ((tripDown s).layer j).powered = false := by
  rw [tripDown_of_trip hm]
  exact layersOff_powered j _

/-- What a sample that found a trip leaves, outside BOOT. -/
theorem actOn_of_trip {f : Found} {e : Nat × Int × Nat} {l : List (Nat × Int × Nat)} (hf : f.trips s.thm.baseTemp = e :: l) (hb : s.mode ≠ .boot) :
    (actOn f s).tripFacts = (.trip, s.holdCause, true, BitVec.ofNat 6 e.1, true) ∧ (actOn f s).mem = [] ∧
      (∀ p, p < 16 → ((actOn f s).port p).lnk.link = .off) ∧ ∀ j, ((actOn f s).layer j).powered = false := by
  have hfirst : tripFirst f s = tripBegin e.1 e.2.2 e.2.1 s := by
    unfold tripFirst
    rw [hf]
    exact if_neg hb
  have hbegun : (tripFirst f s).tripFacts = (.trip, s.holdCause, true, BitVec.ofNat 6 e.1, true) := by
    rw [hfirst, State.tripFacts, (tripBegin_fr ..).holdCause rfl]
    rfl
  have hmode : (tripFirst f s).mode = .trip := congrArg (·.1) hbegun
  have hevents := (collects_actEvents tripped_collects (fun m s => ?alert) f s.thm.baseTemp (decide (s.mode = .boot)) (tripFirst f s)).kept hmode
  rw [hbegun] at hevents
  · unfold actOn
    rw [actRest_eq]
    generalize actEvents f s.thm.baseTemp (decide (s.mode = .boot)) (tripFirst f s) = u at hevents
    have hu : u.mode = .trip := congrArg (·.1) hevents
    refine ⟨?_, tripDown_mem hu, fun p hp => tripDown_link hu hp, fun j => tripDown_powered hu j⟩
    rw [((Tripped.of_fr (tripDown_fr u)).kept hu), hevents]
  case alert =>
    refine ⟨fun _ => ?_⟩
    unfold setThmAlert
    split
    · rfl
    · rw [((Tripped.of_fr (attend_fr _)).kept ‹_›)]
      rfl

end Sys2Proof.Machine
end

section
/-! SUPPORT. Samples, trips, the model and the calibration rounds (R35, R364 to R378, R409; O50). -/

namespace Sys2Proof.Machine

open Host

variable {s t u : State} {k : Nat}

/-! ## The judging of a sample keeps its readings -/

theorem Sensed.foldl {α : Type} {f : State × Found → α → State × Found} (h : ∀ a x, Sensed k a.1 (f a x).1) (l : List α) (a : State × Found) :
    Sensed k a.1 (l.foldl f a).1 := by
  induction l generalizing a with
  | nil => exact .refl ..
  | cons x l ih => exact (h a x).trans (ih (f a x))

theorem Sensed.forL {α : Type} {f : α → State → State} (h : ∀ a t, Sensed k t (f a t)) (l : List α) (s : State) : Sensed k s (forL l f s) := by
  induction l generalizing s with
  | nil => exact .refl ..
  | cons a l ih => exact (h a s).trans (ih (f a s))

theorem diverge_sensed (j : Nat) (s : State) : Sensed k s (diverge j s) := by
  unfold diverge
  extract_lets x run site far both
  exact .updLayer (by intro; rfl) (by intro; rfl) (by intro x hx; exact hx) j s

theorem markLayer_sensed (j : Nat) (b : Bool) (a : State × Found) : Sensed k a.1 (markLayer j b a).1 := by
  unfold markLayer
  dsimp only
  by_cases h : (if b = true then (a.1.layer j).suspectB else (a.1.layer j).suspectA) = true
  · rw [if_pos h]
    exact .refl ..
  rw [if_neg h]
  have hmark : Sensed k a.1 (a.1.updLayer j (fun x => if b then { x with suspectB := true, divB := none, divAB := none }
      else { x with suspectA := true, divA := none, divAB := none })) := by
    cases b
    · exact .updLayer (by intro; rfl) (by intro; rfl) (by intro x _; rfl) j a.1
    · exact .updLayer (by intro; rfl) (by intro; rfl) (by intro x hx; exact hx) j a.1
  exact hmark

theorem markPair_sensed (j : Nat) (a : State × Found) : Sensed k a.1 (markPair j a).1 := by
  unfold markPair
  extract_lets s x u v du dv
  split
  · split
    · exact markLayer_sensed ..
    · exact markLayer_sensed ..
  · exact .refl ..

theorem judgeModel_sensed (ks : List Nat) (a : State × Found) : Sensed k a.1 (judgeModel ks a).1 := by
  unfold judgeModel
  extract_lets s meets agree old all book noted
  have hnoted : Sensed k a.1 noted := .of_fr (m := 2048) (Fr.u2048 (.refl ..) rfl)
  split
  · have hbooked : Sensed k noted { noted with thm.modelSuspect := true, thm.modelDiv := [] } := .of_fr (m := 2048) (Fr.u2048 (.refl ..) rfl)
    exact (hnoted.trans hbooked).trans
      (sensed_map (f := fun x => { x with divA := none, divB := none }) (fun _ => rfl) (fun _ => rfl) (fun _ => rfl) k _)
  · refine hnoted.trans (.foldl (fun a j => ?_) meets (noted, a.2))
    extract_lets x once
    have honce : Sensed k a.1 once.1 := by
      unfold once
      split
      · exact markLayer_sensed ..
      · exact .refl ..
    split
    · exact honce.trans (markLayer_sensed ..)
    · exact honce

theorem setBase_sensed (j code : Nat) (s : State) : Sensed k s (setBase j code s) := by
  unfold setBase
  extract_lets shorter based
  have hbased : Sensed k s based := .updLayer (by intro; rfl) (by intro; rfl) (by intro x hx; exact hx) j s
  split
  · refine hbased.trans (.forL (fun q t => .ite ?_ (.refl ..)) (List.range 32) based)
    extract_lets moved
    have hmoved : Fr 16777216 t moved := t.updPc_fr ..
    exact .of_fr ((hmoved.or (State.updSlice_fr ..)).or (markCatchUp_fr ..))
  · exact hbased

theorem judgeLayer_sensed (j : Nat) (a : State × Found) : Sensed k a.1 (judgeLayer j a).1 := by
  unfold judgeLayer
  extract_lets s cur t lvl judged self based f warned throttled tripped
  have hjudged : Sensed k a.1 judged := .updLayer (by intro; rfl) (by intro; rfl) (by intro x hx; exact hx) j s
  exact hjudged.trans (.ite (.refl ..) (setBase_sensed ..))

/-- All that follows the readings of a sample. -/
def judged (ks is : List Nat) (a : State × Found) : State × Found :=
  let a := judgeBase is (if is = [] then a else judgeBaseLevel a)
  let a := (forL ks diverge a.1, a.2)
  let a := ks.foldl (fun a k => markPair k a) a
  let a := judgeModel ks a
  ks.foldl (fun a k => judgeLayer k a) a

theorem judged_sensed (ks is : List Nat) (a : State × Found) : Sensed k a.1 (judged ks is a).1 := by
  unfold judged
  extract_lets based diverged paired modelled
  have hbased : Sensed k a.1 based.1 := by
    refine .trans ?_ (.of_fr (judgeBase_fr ..))
    split
    · exact .refl ..
    · exact .of_fr (judgeBaseLevel_fr _)
  have hdiverged : Sensed k based.1 diverged.1 := .forL diverge_sensed ks _
  have hpaired : Sensed k diverged.1 paired.1 := .foldl (fun a j => markPair_sensed j a) ks _
  have hmodelled : Sensed k paired.1 modelled.1 := judgeModel_sensed ..
  exact (((hbased.trans hdiverged).trans hpaired).trans hmodelled).trans (.foldl (fun a j => judgeLayer_sensed j a) ks _)

/-- The layers of a sample. -/
def State.sampledLayers (s : State) (t : List SensorReading) : List Nat :=
  (List.range 18).filter (fun k => (s.layer k).powered && t.any (fun r =>
    match r.sensor with | .layerA j => decide (j.val = k) | .layerB j => decide (j.val = k) | .base _ => false))

/-- The base-die sensors of a sample. -/
def sampledBase (t : List SensorReading) : List Nat :=
  (List.range 16).filter (fun i => t.any (fun r => match r.sensor with | .base j => decide (j.val = i) | _ => false))

/-- What a sample found is acted on, and calibrations fall due. -/
def sampleActed (a : State × Found) : State :=
  let s := actOn { a.2 with lost := a.1.uncovered } a.1
  if s.mode = .service ∨ s.mode = .retain then forN 32 (fun q s => if s.pc q = {} then s else calDue q s) s else s

theorem sample_eq (l : List SensorReading) (s : State) :
    sample l s = sampleActed (judged (s.sampledLayers l) (sampledBase l) (l.foldl takeReading (s, {}))) := by
  unfold sample sampleActed judged State.sampledLayers sampledBase
  rfl

theorem setThmAlert_sensed (m : BitVec 6) (s : State) : Sensed k s (setThmAlert m s) := .of_fr (setThmAlert_fr ..)

theorem actOn_sensed (f : Found) (s : State) : Sensed k s (actOn f s) := by
  unfold actOn
  rw [actRest_eq]
  have hfirst : Sensed k s (tripFirst f s) := .of_fr (tripFirst_fr f s)
  have hevents := collects_actEvents (sensed_collects k) setThmAlert_sensed f s.thm.baseTemp (decide (s.mode = .boot)) (tripFirst f s)
  generalize actEvents f s.thm.baseTemp (decide (s.mode = .boot)) (tripFirst f s) = u at hevents
  refine (hfirst.trans hevents).trans ?_
  unfold tripDown
  refine .ite ?_ (.refl ..)
  generalize hv : stopMemory (linksDown u) = v
  have hv' : Sensed k u v := hv ▸ .of_fr ((linksDown_fr u).or (stopMemory_fr _))
  exact hv'.trans (layersOff_sensed k v)

theorem sampleActed_sensed (a : State × Found) : Sensed k a.1 (sampleActed a) := by
  unfold sampleActed
  refine (actOn_sensed _ _).trans (.ite ?_ (.refl ..))
  exact .of_fr (Fr.forN (fun q t => Fr.ite (.refl ..) (calDue_fr ..)) 32 (.refl 16777216 _))

theorem sample_sensed (l : List SensorReading) (s : State) : Sensed k (l.foldl takeReading (s, {})).1 (sample l s) := by
  rw [sample_eq]
  exact (judged_sensed ..).trans (sampleActed_sensed _)

end Sys2Proof.Machine
end

section
/-! SUPPORT. A sensor at Trip, the model's update, the calibration rounds (R35, R364, R366, R371, R374, R376, R409; O50). -/

namespace Sys2Proof.Machine

open Host

variable {s t u : State} {k : Nat}

/-! ## A layer at Trip -/

/-- Sensor A of layer k, in use, reads w; no divergence has begun, no trip is found yet. -/
structure Hot (k : Nat) (w : Int) (a : State × Found) : Prop where
  reading : (a.1.layer k).sensA = some w
  trusted : (a.1.layer k).suspectA = false
  below : (a.1.layer k).level < 3
  calm : a.2.trip = []

/-- None of the divergences of layer k has held for 50 ms. -/
def fresh (k : Nat) (s : State) : Prop :=
  held50 (s.layer k).divA s.now = false ∧ held50 (s.layer k).divB s.now = false ∧ held50 (s.layer k).divAB s.now = false

theorem held50_since_none (yes : Bool) (now : Nat) : held50 (since yes none now) now = false := by
  unfold held50 since
  cases yes
  · rw [if_neg Bool.false_ne_true, Option.any_none]
  · have hlt (k : Nat) : ¬ now + (k + 1) ≤ now := by omega
    rw [if_pos rfl, Option.getD_none, Option.any_some]
    exact decide_eq_false (hlt 49999999)

/-- A divergence that begins with this sample has not held for 50 ms. -/
theorem diverge_fresh (hA : (s.layer k).divA = none) (hB : (s.layer k).divB = none) (hAB : (s.layer k).divAB = none) : fresh k (diverge k s) := by
  unfold diverge
  extract_lets x run site far both
  have hlayer (f : Layer → Layer) : (s.updLayer k f).layer k = f (s.layer k) := by rw [State.updLayer_layer, if_pos rfl]
  refine ⟨?_, ?_, ?_⟩
  · rw [hlayer]
    change held50 (since _ (s.layer k).divA s.now) s.now = false
    rw [hA, held50_since_none]
  · rw [hlayer]
    change held50 (since _ (s.layer k).divB s.now) s.now = false
    rw [hB, held50_since_none]
  · rw [hlayer]
    change held50 (since _ (s.layer k).divAB s.now) s.now = false
    rw [hAB, held50_since_none]

theorem diverge_hot {w : Int} {f : Found} (h : Hot k w (s, f)) : Hot k w (diverge k s, f) := by
  obtain ⟨hread, htrust, hlevel, hcalm⟩ := h
  unfold diverge
  extract_lets x run site far both
  have hlayer (f : Layer → Layer) : (s.updLayer k f).layer k = f (s.layer k) := by rw [State.updLayer_layer, if_pos rfl]
  exact ⟨by rw [hlayer]; exact hread, by rw [hlayer]; exact htrust, by rw [hlayer]; exact hlevel, hcalm⟩

/-- With nothing that has held for 50 ms the model judges no sensor of the layer. -/
theorem judgeModel_hot {w : Int} {a : State × Found} (h : Hot k w a) (hfresh : fresh k a.1) : Hot k w (judgeModel [k] a) := by
  obtain ⟨hread, htrust, hlevel, hcalm⟩ := h
  obtain ⟨hA, hB, -⟩ := hfresh
  unfold judgeModel
  extract_lets s meets agree old all book noted
  have hmeets : meets = [] := List.filter_eq_nil_iff.mpr (by intro j hj; rw [List.mem_singleton.mp hj, hA, hB]; decide)
  split
  · have hmap (l : List (Nat × Layer)) : ∃ x, tabGet ({} : Layer) (l.map (fun (e : Nat × Layer) => (e.1, { e.2 with divA := none, divB := none }))) k = x ∧
        x.sensA = (tabGet ({} : Layer) l k).sensA ∧ x.suspectA = (tabGet ({} : Layer) l k).suspectA ∧ x.level = (tabGet ({} : Layer) l k).level := by
      induction l with
      | nil => exact ⟨_, rfl, rfl, rfl, rfl⟩
      | cons e l ih =>
        rw [List.map_cons, tabGet, tabGet]
        split
        · exact ⟨_, rfl, rfl, rfl, rfl⟩
        · exact ih
    obtain ⟨x, hx, hxr, hxt, hxl⟩ := hmap a.1.layers
    exact ⟨(congrArg Layer.sensA hx).trans (hxr.trans hread), (congrArg Layer.suspectA hx).trans (hxt.trans htrust),
      Nat.lt_of_le_of_lt (Nat.le_of_eq ((congrArg Layer.level hx).trans hxl)) hlevel, hcalm⟩
  · rw [hmeets]
    exact ⟨hread, htrust, hlevel, hcalm⟩

/-- The temperature in use is no lower than a trusted reading. -/
theorem le_tempInUse {w : Int} (hread : (s.layer k).sensA = some w) (htrust : (s.layer k).suspectA = false) : w ≤ (s.tempInUse k).1 := by
  unfold State.tempInUse
  extract_lets x a b best
  have hbest : ∃ v site, best = some (v, site) ∧ w ≤ v := by
    have ha : a = some w := by
      unfold a
      rw [if_neg (by rw [show x.suspectA = false from htrust]; exact Bool.false_ne_true)]
      exact hread
    unfold best
    rw [ha]
    cases b with
    | none => exact ⟨w, false, rfl, Int.le_refl w⟩
    | some v =>
      by_cases hlt : w < v
      · exact ⟨v, true, congrArg some (if_pos hlt), Int.le_of_lt hlt⟩
      · exact ⟨w, false, congrArg some (if_neg hlt), Int.le_refl w⟩
  obtain ⟨v, site, hv, hle⟩ := hbest
  rw [hv]
  cases s.thm.modelSuspect with
  | true => exact hle
  | false => exact hle.trans (Int.le_add_of_nonneg_right (Int.le_max_left ..))

theorem nextLevel_trip {cur : Nat} {v : Int} (hcur : cur < 3) (hv : degC 105 ≤ v) : nextLevel 85 95 105 cur v = 3 := by
  unfold nextLevel
  extract_lets up down
  have hup : up = 3 := if_pos hv
  rw [if_neg (by omega), hup, if_pos hcur]

theorem judgeLayer_trip {w : Int} {a : State × Found} (h : Hot k w a) (hw : degC 105 ≤ w) :
    ∃ e : Int × Nat, (judgeLayer k a).2.trip = [(k, e)] := by
  obtain ⟨hread, htrust, hlevel, hcalm⟩ := h
  have hlvl := nextLevel_trip hlevel (hw.trans (le_tempInUse hread htrust))
  unfold judgeLayer
  extract_lets s cur t lvl judged self based f warned throttled tripped
  have hwarned : warned.trip = [] := by
    unfold warned
    split <;> exact hcalm
  have hthrottled : throttled.trip = [] := by
    unfold throttled
    split <;> exact hwarned
  have htripped : tripped.trip = throttled.trip ++ [(k, t.1, t.2)] := by
    unfold tripped
    rw [if_pos ⟨hlevel, Nat.le_of_eq hlvl.symm⟩]
  exact ⟨t, by rw [htripped, hthrottled]; rfl⟩

theorem markPair_of_fresh {a : State × Found} (h : fresh k a.1) : markPair k a = a := by
  obtain ⟨-, -, hAB⟩ := h
  exact if_neg (by rw [hAB]; exact Bool.false_ne_true)

/-- A sample of one hot sensor finds one trip. -/
theorem judged_trip {w : Int} {f : Found} (h : Hot k w (s, f)) (hw : degC 105 ≤ w) (hA : (s.layer k).divA = none) (hB : (s.layer k).divB = none)
    (hAB : (s.layer k).divAB = none) : ∃ e : Int × Nat, (judged [k] [] (s, f)).2.trip = [(k, e)] := by
  have hfresh := diverge_fresh hA hB hAB
  have hmodel := judgeModel_hot (diverge_hot h) hfresh
  have heq : judged [k] [] (s, f) = judgeLayer k (judgeModel [k] (markPair k (diverge k s, f))) := by
    unfold judged judgeBase forL
    simp only [if_true, List.foldl_cons, List.foldl_nil]
  rw [heq, markPair_of_fresh hfresh]
  exact judgeLayer_trip hmodel hw

theorem judged_fr (ks is : List Nat) (a : State × Found) : Fr 117450752 a.1 (judged ks is a).1 := by
  unfold judged
  extract_lets based diverged paired modelled
  have hfold {α : Type} {g : State × Found → α → State × Found} (h : ∀ a x, Fr 117450752 a.1 (g a x).1) (l : List α) (a : State × Found) :
      Fr 117450752 a.1 (l.foldl g a).1 := by
    induction l generalizing a with
    | nil => exact .refl ..
    | cons x l ih => exact (h a x).trans (ih (g a x))
  have hbased : Fr 117450752 a.1 based.1 := by
    refine .trans ?_ ((judgeBase_fr ..).mono rfl)
    split
    · exact .refl ..
    · exact (judgeBaseLevel_fr _).mono rfl
  have hdiverged : Fr 117450752 based.1 diverged.1 := Fr.forL (fun j t => (diverge_fr j t).mono rfl) ks (.refl ..)
  have hpaired : Fr 117450752 diverged.1 paired.1 := hfold (fun a j => (markPair_fr j a).mono rfl) ks _
  have hmodelled : Fr 117450752 paired.1 modelled.1 := (judgeModel_fr ..).mono rfl
  exact (((hbased.trans hdiverged).trans hpaired).trans hmodelled).trans (hfold (fun a j => (judgeLayer_fr j a).mono rfl) ks _)

/-! ## A reading of one sensor -/

theorem sampledLayers_single {k : LayerId} (x : Option Temp) (hp : (s.layer k.val).powered = true) :
    s.sampledLayers [{ sensor := .layerA k, value := x }] = [k.val] := by
  have hone : ∀ k : LayerId, (List.range 18).filter (fun j => decide (k.val = j)) = [k.val] := by decide
  unfold State.sampledLayers
  rw [← hone k]
  refine List.filter_congr fun j _ => ?_
  simp only [List.any_cons, List.any_nil, Bool.or_false]
  by_cases hj : k.val = j
  · rw [← hj, hp, Bool.true_and]
  · rw [decide_eq_false hj, Bool.and_false]

theorem takeReading_value {k : LayerId} {v : Temp} (hp : (s.layer k.val).powered = true) (hv : s.thm.vrefBad = false) :
    [({ sensor := .layerA k, value := some v } : SensorReading)].foldl takeReading (s, {}) =
      (s.updLayer k.val (fun x => { x with sensA := some v.val, failA := 0 }), {}) := by
  rw [List.foldl_cons, List.foldl_nil]
  unfold takeReading
  dsimp only
  rw [if_pos hp, hv]
  simp

/-- A sensor marked is suspect. -/
theorem markLayer_suspectA (j : Nat) (a : State × Found) : ((markLayer j false a).1.layer j).suspectA = true := by
  unfold markLayer
  simp only [Bool.false_eq_true, if_false]
  split
  · next h => exact h
  · rw [State.updLayer_layer, if_pos rfl]

/-- The third failed conversion in a row. -/
theorem takeReading_third {k : LayerId} (hp : (s.layer k.val).powered = true) (h2 : (s.layer k.val).failA = 2) :
    (([({ sensor := .layerA k, value := none } : SensorReading)].foldl takeReading (s, {})).1.layer k.val).suspectA = true := by
  rw [List.foldl_cons, List.foldl_nil]
  unfold takeReading
  dsimp only
  rw [if_neg (by rw [hp]; exact Bool.false_ne_true)]
  have hfail : ((s.updLayer k.val (fun x => { x with failA := x.failA + 1 })).layer k.val).failA = 3 := by
    rw [State.updLayer_layer, if_pos rfl]
    exact congrArg (· + 1) h2
  rw [if_pos (by rw [hfail])]
  exact markLayer_suspectA ..

/-! ## The model's update (R366) -/

/-- The layers' nodes and the base-die readings that the model starts from. -/
def State.modelInput (s : State) : List Int × List Int :=
  ((List.range 18).flatMap s.nodeList, (List.range 16).map (fun i => ((s.baseSensor i).reading).getD 0))

/-- Layer k with its nodes brought up to date. -/
def modelled (s : State) (k : Nat) (x : Layer) : Layer :=
  { x with nodes := (List.range 16).foldl (fun l i => tabSet 0 l i
      (Config.thermalNode k i s.thm.work s.modelInput.1 s.modelInput.2 (s.modelInput.2.drop 8))) x.nodes }

/-- The base-die node i brought up to date. -/
def baseModelled (s : State) (i : Nat) (t : State) : State :=
  { t with thm.sensors := tabSet {} t.thm.sensors i { t.baseSensor i with
      node := Config.baseNode i s.thm.work s.modelInput.1 s.modelInput.2 (s.modelInput.2.drop 8) } }

/-- A table set at each of the first n keys. -/
theorem tabGet_foldl_tabSet (f : Nat → Int) (n i : Nat) (l : List (Nat × Int)) :
    tabGet 0 ((List.range n).foldl (fun l i => tabSet 0 l i (f i)) l) i = if i < n then f i else tabGet 0 l i := by
  induction n with
  | zero => rfl
  | succ n ih =>
    rw [List.range_succ, List.foldl_append, List.foldl_cons, List.foldl_nil, tabGet_tabSet, ih]
    by_cases hi : i = n
    · rw [if_pos hi, hi, if_pos (Nat.lt_succ_self n)]
    · by_cases hlt : i < n
      · rw [if_neg hi, if_pos hlt, if_pos (Nat.lt_succ_of_lt hlt)]
      · rw [if_neg hi, if_neg hlt, if_neg (by omega)]

/-- Settles O50: readings by `sample_sensed`, a trip by `judged_trip` and `actOn_of_trip`, the model's nodes by `tabGet_foldl_tabSet`. -/
theorem temperaturesAreHeldAndTripTheStack : Obligations.TemperaturesAreHeldAndTripTheStack := by
  unfold Obligations.TemperaturesAreHeldAndTripTheStack
  refine ⟨fun t v s h => ⟨fun hheld => ?noTrip, ?noModel, ?noRound⟩, fun k v m s hheld htrust hv => ?late, fun k v s hrun hp hvref => ?reading,
    fun k s hrun hp h2 => ?suspect, fun k v s hm hr hp hvref htrust hlevel hv hA hB hAB => ?trip,
    fun s => ⟨fun h => ?noWait, fun h => ?record⟩, fun s hrun => ?model, fun v s hrun => ⟨fun hlo hhi => ?round, fun hout hq => ?skipped⟩,
    fun z s hr hm => ⟨fun hlo hhi => ?zq, fun hout hq => ?zqBad⟩⟩
  case noTrip =>
    refine congrArg Outcome.next ((if_neg (by rw [h]; exact Bool.false_ne_true)).trans ?_)
    unfold tripOver
    rw [hheld]
  case noModel => exact if_neg (by rw [h]; exact Bool.false_ne_true)
  case noRound => exact congrArg Outcome.next (if_neg (by rw [h]; exact Bool.false_ne_true))
  case late =>
    have hhot : degC 105 ≤ v.val + (if s.thm.vrefBad then 8 else 0) := by
      split <;> omega
    have htrips : (s.lateTrips [{ sensor := .layerA k, value := some v }]).trips s.thm.baseTemp =
        [(k.val, v.val + (if s.thm.vrefBad then 8 else 0), 0)] := by
      unfold State.lateTrips Found.trips
      simp [htrust, hhot]
    obtain ⟨hmode, hstay⟩ : s.mode = .hold ∧ m ≠ .boot := by
      unfold State.heldNow at hheld
      split at hheld
      · split at hheld
        · next h => exact ⟨h.1, Option.some.inj hheld ▸ h.2.2⟩
        · cases hheld
      · cases hheld
    have hoff : ¬ s.thermalRuns = true := by simp [State.thermalRuns, hmode]
    have hexec : exec (.thermalSample [{ sensor := .layerA k, value := some v }]) s =
        .next (actOn (s.lateTrips [{ sensor := .layerA k, value := some v }]) { s with mode := m, holdCause := 0, flt.holdAt := none }) := by
      refine congrArg Outcome.next ((if_neg hoff).trans ?_)
      unfold tripOver
      rw [hheld]
      exact if_neg (by rw [htrips]; simp)
    obtain ⟨hfacts, hmem, hlinks, -⟩ := actOn_of_trip (s := { s with mode := m, holdCause := 0, flt.holdAt := none }) htrips hstay
    have hkeeps := actOn_keeps (s.lateTrips [{ sensor := .layerA k, value := some v }]) { s with mode := m, holdCause := 0, flt.holdAt := none }
    refine ⟨_, hexec, congrArg (·.1) hfacts, congrArg (·.2.2.1) hfacts, congrArg (·.2.2.2.1) hfacts, congrArg (·.2.2.2.2) hfacts,
      congrArg (·.2.1) hfacts, hkeeps.grave, hmem, hlinks⟩
  case reading =>
    have hsens := sample_sensed (k := k.val) [{ sensor := .layerA k, value := some v }] s
    rw [takeReading_value hp hvref] at hsens
    obtain ⟨hnow, hread, hfail, -⟩ := hsens
    refine ⟨_, congrArg Outcome.next (if_pos hrun), ?_, ?_, hnow⟩
    · rw [hread, State.updLayer_layer, if_pos rfl]
    · rw [hfail, State.updLayer_layer, if_pos rfl]
  case suspect =>
    exact ⟨_, congrArg Outcome.next (if_pos hrun), (sample_sensed (k := k.val) _ s).suspect (takeReading_third hp h2)⟩
  case trip =>
    have hrun : s.thermalRuns = true := by simp [State.thermalRuns, hm, hr]
    have hlayer : (s.updLayer k.val (fun x => { x with sensA := some v.val, failA := 0 })).layer k.val =
        { s.layer k.val with sensA := some v.val, failA := 0 } := by rw [State.updLayer_layer, if_pos rfl]
    have hhot : Hot k.val v.val (s.updLayer k.val (fun x => { x with sensA := some v.val, failA := 0 }), {}) :=
      ⟨by rw [hlayer], by rw [hlayer]; exact htrust, by rw [hlayer]; exact hlevel, rfl⟩
    obtain ⟨e, he⟩ := judged_trip hhot hv (by rw [hlayer]; exact hA) (by rw [hlayer]; exact hB) (by rw [hlayer]; exact hAB)
    have hfr := judged_fr [k.val] [] (s.updLayer k.val (fun x => { x with sensA := some v.val, failA := 0 }), {})
    have hsample : sample [{ sensor := .layerA k, value := some v }] s =
        sampleActed (judged [k.val] [] (s.updLayer k.val (fun x => { x with sensA := some v.val, failA := 0 }), {})) := by
      rw [sample_eq, takeReading_value hp hvref, sampledLayers_single _ hp]
      rfl
    generalize judged [k.val] [] (s.updLayer k.val (fun x => { x with sensA := some v.val, failA := 0 }), {}) = a at he hfr hsample
    have hmode : a.1.mode = .service := (hfr.mode rfl).trans hm
    obtain ⟨hfacts, hmem, hlinks, hpower⟩ := actOn_of_trip (s := a.1) (f := { a.2 with lost := a.1.uncovered }) (e := (k.val, e))
      (congrArg (· ++ _) he) (by rw [hmode]; decide)
    have hacted : sampleActed a = actOn { a.2 with lost := a.1.uncovered } a.1 := by
      have htrip : (actOn { a.2 with lost := a.1.uncovered } a.1).mode = .trip := congrArg (·.1) hfacts
      exact if_neg (by rw [htrip]; decide)
    refine ⟨_, congrArg Outcome.next (if_pos hrun), ?_⟩
    rw [hsample, hacted]
    exact ⟨congrArg (·.1) hfacts, congrArg (·.2.2.1) hfacts, congrArg (·.2.2.2.1) hfacts, congrArg (·.2.2.2.2) hfacts, hmem, hlinks, hpower⟩
  case noWait => exact congrArg Outcome.next (if_neg (by rw [h]; exact Bool.false_ne_true))
  case record => exact ⟨_, congrArg Outcome.next (if_pos h), rfl, rfl, rfl, rfl, rfl, rfl, rfl⟩
  case model =>
    obtain ⟨u, hu⟩ : ∃ u, u = forN 18 (fun k t => if t.fitted k then t.updLayer k (modelled s k) else t) s := ⟨_, rfl⟩
    have hufr : Fr 67108864 s u := hu ▸ Fr.forN (fun k t => Fr.iteT (State.updLayer_fr ..) (.refl ..)) 18 (.refl ..)
    obtain ⟨w, hw⟩ : ∃ w, w = forN 16 (fun i t => baseModelled s i t) u := ⟨_, rfl⟩
    have hwfr : Fr 2048 u w := hw ▸ Fr.forN (fun i t => Fr.u2048 (.refl ..) rfl) 16 (.refl ..)
    have hexec : exec .modelUpdate s = .next { w with thm := { w.thm with work := [], history := s.thm.work :: w.thm.history.take 999 } } := by
      rw [hw, hu]
      exact if_pos hrun
    have hhistory : w.thm.history = s.thm.history := by
      rw [hw]
      exact (forN_eq (f := fun t : State => t.thm.history) (g := baseModelled s) (fun i t => rfl) 16 u).trans (congrArg ThmState.history (hufr.thm rfl))
    refine ⟨_, hexec, rfl, congrArg (fun l => s.thm.work :: l.take 999) hhistory, (hwfr.mem rfl).trans (hufr.mem rfl),
      (hwfr.ports rfl).trans (hufr.ports rfl), (hwfr.flt rfl).trans (hufr.flt rfl), (hwfr.mode rfl).trans (hufr.mode rfl),
      fun k i hk hi hfit => ?_⟩
    have hlayer : w.layer k = modelled s k (s.layer k) := by
      rw [State.layer, hwfr.layers rfl, ← State.layer, hu, forN_layer (m := 67108864) (F := fun k x => if s.fitted k then modelled s k x else x)
        (fun k t => Fr.iteT (State.updLayer_fr ..) (.refl ..)) (fun j t ht => ?self) (fun j t i hj => ?other), if_pos hk, if_pos hfit]
      case self =>
        rw [ht.fitted rfl]
        split
        · rw [State.updLayer_layer, if_pos rfl]
        · rfl
      case other =>
        split
        · rw [State.updLayer_layer, if_neg hj]
        · rfl
    change tabGet 0 (w.layer k).nodes i = _
    rw [hlayer, modelled, tabGet_foldl_tabSet, if_pos hi]
    rfl
  case round => exact ⟨_, congrArg Outcome.next ((if_pos hrun).trans (if_pos ⟨hlo, hhi⟩)), rfl, rfl, rfl, rfl, rfl, rfl⟩
  case skipped =>
    generalize hu : setThmAlert 16 { s with thm := { s.thm with vref := v, vrefBad := true } } = u
    have hexec : exec (.sensorCalibration v) s = .next (fault 221 {} u) := by
      rw [← hu]
      exact congrArg Outcome.next ((if_pos hrun).trans (if_neg (by omega)))
    have hufr : Fr 133120 s u := hu ▸ (Fr.u2048 (.refl 133120 s) rfl : Fr 133120 s _).trans (setThmAlert_fr ..)
    have hfacts : u.thm = { s.thm with vref := v, vrefBad := true, alert := s.thm.alert ||| 16 } := by
      rw [← hu]
      unfold setThmAlert
      split
      · next h => exact congrArg (fun w => { s.thm with vref := v, vrefBad := true, alert := w }) (Eq.symm h)
      · exact (attend_fr _).thm rfl
    have hfault : fault 221 {} u = u.withEvent 221 := by
      rw [fault_of_quiet {} (by decide) (by decide) (hufr.quiet hq), perEvent_of_high (by decide)]
    have hev := u.withEvent_fr 221
    refine ⟨u.withEvent 221, by rw [hexec, hfault], ?_, ?_, ?_, ?_, ?_, (hev.mem rfl).trans (hufr.mem rfl), (hev.ports rfl).trans (hufr.ports rfl)⟩
    iterate 4 rw [hev.thm rfl, hfacts]
    rw [State.withEvent_src_self, src_congr (congrArg FltState.sources (hufr.flt rfl))]
  case zq =>
    have hexec : exec (.zqCalibration z) s = .next { s with pwr := { s.pwr with
        zqTx := oneStep s.pwr.zqTx z.tx, zqRx := oneStep s.pwr.zqRx z.rx, zqBad := false, zqAt := some s.now } } :=
      congrArg Outcome.next ((if_pos ⟨hr, .inl hm⟩).trans (if_pos ⟨hlo, hhi⟩))
    exact ⟨_, hexec, rfl, rfl, rfl, rfl, rfl, rfl, rfl⟩
  case zqBad =>
    generalize hu : ({ s with pwr.zqBad := true } : State) = u
    have hufr : Fr 4096 s u := hu ▸ Fr.u4096 (.refl ..) rfl
    have hpwr : u.pwr = { s.pwr with zqBad := true } := by rw [← hu]
    have hsrc (n : Nat) : u.src n = s.src n := src_congr (congrArg FltState.sources (hufr.flt rfl)) n
    have hqu : u.quiet 6 := by
      rw [← hu]
      exact hq
    have hexec : exec (.zqCalibration z) s = .next (u.withEvent 6) := by
      rw [← perEvent_of_plain (n := 6) (by decide) (.inl (by decide)) {} (u.withEvent 6), ← fault_of_quiet {} (by decide) (by decide) hqu, ← hu]
      exact congrArg Outcome.next ((if_pos ⟨hr, .inl hm⟩).trans (if_neg (by omega)))
    have hev := u.withEvent_fr 6
    refine ⟨_, hexec, ?_, ?_, ?_, ?_, (hev.mem rfl).trans (hufr.mem rfl), (hev.ports rfl).trans (hufr.ports rfl)⟩
    iterate 3 rw [hev.pwr rfl, hpwr]
    rw [State.withEvent_src_self, hsrc]

end Sys2Proof.Machine
end

section
/-! SUPPORT. The two-wire target: address bytes, pointers, a word written and read, the ends of transfers and of long operations, attention requests, hang-ups (R399, R462 to R482; O56). -/

namespace Sys2Proof.Machine

open Host

variable {s t u : State} {x : Transfer}

/-! ## Address bytes -/

theorem addressByte_spec {a : BitVec 7} {rd : Bool} (hup : s.targetUp = true) (hbusy : s.mb.busy = none)
    (hrung : ¬ (s.mode = .retain ∧ 4 ≤ s.pwr.rung)) :
    ∃ m, addressByte a rd s = { s with mb := m } ∧ m.deaf = false ∧ m.pointers = s.mb.pointers ∧ m.attnNow = s.mb.attention ∧
      m.transfer = (s.viewAt a.toNat).map (fun v => { addr := a, view := v, read := rd, pec := s.mb.pec }) ∧
      m.crc = (if s.viewAt a.toNat = none then some 0 else s.mb.crc.map (fun c => crc8 c (BitVec.ofNat 8 (2 * a.toNat + b2n rd)))) := by
  have hview : State.viewAt { s with mb.deaf := false, mb.transfer := none, mb.attnNow := s.mb.attention } a.toNat = s.viewAt a.toNat := rfl
  unfold addressByte
  rw [if_neg (by simp [hup])]
  dsimp only
  rw [if_neg (by simp [hbusy]), hview]
  cases hv : s.viewAt a.toNat with
  | none => exact ⟨_, rfl, rfl, rfl, rfl, rfl, rfl⟩
  | some v =>
    dsimp only
    rw [if_neg hrung]
    exact ⟨_, rfl, rfl, rfl, rfl, rfl, rfl⟩

/-! ## The transfer in progress -/

theorem live_parts (h : s.liveTransfer = some x) : s.listens = true ∧ s.mb.transfer = some x ∧ x.ignore = false := by
  unfold State.liveTransfer at h
  split at h
  · next hl =>
    obtain ⟨hx, hi⟩ := Option.filter_eq_some_iff.mp h
    exact ⟨hl, hx, by simpa using hi⟩
  · exact absurd h (by simp)

theorem live_none_of_busy (h : s.mb.busy.isSome = true) : s.liveTransfer = none := by
  have : s.listens = false := by simp [State.listens, Option.ne_none_iff_isSome.mpr h]
  exact if_neg (by simp [this])

theorem busy_of_listens (h : s.listens = true) : s.mb.busy = none := by
  simp only [State.listens, Bool.and_eq_true] at h
  exact Option.isNone_iff_eq_none.mp h.1.1.2

theorem setPointer_of_transfer (h : s.mb.transfer = some x) (a : Nat) :
    setPointer a s = { s with mb.pointers := tabSet 0 s.mb.pointers x.addr.toNat (a % 2 ^ 24) } := by
  unfold setPointer
  rw [h]

theorem pointer_setPointer (h : s.mb.transfer = some x) (a : Nat) : (setPointer a s).pointer x.addr = a % 2 ^ 24 := by
  rw [setPointer_of_transfer h, State.pointer]
  exact (tabGet_tabSet ..).trans (if_pos rfl)

theorem live_ignoreRest (s : State) : (ignoreRest s).liveTransfer = none := by
  unfold State.liveTransfer
  split
  · unfold ignoreRest
    cases s.mb.transfer <;> rfl
  · rfl

/-! ## Register addresses -/

theorem registerAddress_aligned (h : s.liveTransfer = some x) (hw : x.read = false) {a : Nat} (ha : a % 4 = 0) :
    registerAddress a s = setPointer a (passBytes (leBytes 3 a).reverse s) := by
  unfold registerAddress
  rw [h]
  exact (if_neg (by simp [hw])).trans (if_pos ha)

theorem registerAddress_unaligned (h : s.liveTransfer = some x) (hw : x.read = false) {a : Nat} (ha : a % 4 ≠ 0) :
    registerAddress a s = ignoreRest s := by
  unfold registerAddress
  rw [h]
  exact (if_neg (by simp [hw])).trans (if_neg ha)

/-! ## A word written -/

/-- One event of a source of the collector's own, that has no action per event. -/
theorem fault_of_quiet_high {n : Nat} (h : 212 ≤ n) (hq : s.quiet n) : fault n {} s = s.withEvent n := by
  rw [fault_of_quiet {} (by omega) (by omega) hq, perEvent_of_high h]

theorem registerWrite_mismatch {d : Word} {pec c : Byte} (h : s.liveTransfer = some x) (hw : x.read = false) (hp : x.pec = true)
    (hc : s.mb.crc = some c) (hne : pec ≠ (leBytes 4 d.toNat).foldl crc8 c) (hq : s.quiet 244) :
    registerWrite d pec s =
      (ignoreRest { s with mb.status := s.mb.status ||| 8, mb.pecErrors := satInc s.mb.pecErrors }).withEvent 244 := by
  have hany : (s.pecAfter d).any (· ≠ pec) = true := by
    simp [State.pecAfter, hc, Ne.symm hne]
  unfold registerWrite
  rw [h]
  exact ((if_neg (by simp [hw])).trans (if_pos ⟨hp, hany⟩)).trans (fault_of_quiet_high (by decide) hq)

/-- The state in which the actions of a word written find the stack. -/
def State.written (x : Transfer) (d : Word) (pec : Byte) (s : State) : State :=
  let u := passBytes (leBytes 4 d.toNat ++ if x.pec then [pec] else []) s
  setPointer (s.pointer x.addr + 4) (u.writeReg x.view (s.pointer x.addr) d)

theorem registerWrite_good {d : Word} {pec : Byte} (h : s.liveTransfer = some x) (hw : x.read = false)
    (hp : x.pec = false ∨ s.pecAfter d = some pec) :
    registerWrite d pec s = writeActions x.view (s.pointer x.addr) d (s.written x d pec) := by
  have hok : ¬ (x.pec ∧ (s.pecAfter d).any (· ≠ pec)) := by
    rintro ⟨h1, h2⟩
    rcases hp with hp | hp
    · exact absurd (hp.symm.trans h1) (by decide)
    · rw [hp] at h2
      simp at h2
  unfold registerWrite
  rw [h]
  exact (if_neg (by simp [hw])).trans (if_neg hok)

theorem MbState.written_transfer (m : MbState) (off v : Nat) (mask : Bool) : (m.written off v mask).transfer = m.transfer := by
  unfold MbState.written
  dsimp only
  split
  · split <;> rfl
  · split <;> rfl

theorem maskWrite_transfer {m : MbState} (h : m.transfer = s.mb.transfer) (views : List Nat) :
    (if s.maskOk m views then { s with mb := m } else s).mb.transfer = s.mb.transfer := by
  split
  · exact h
  · rfl

theorem writeBlock0C_transfer (off v : Nat) (act lock : Bool) (s : State) :
    (writeBlock0C off v act lock s).mb.transfer = s.mb.transfer := by
  unfold writeBlock0C
  split
  · split <;> rfl
  · split
    · exact maskWrite_transfer (MbState.written_transfer ..) _
    · rfl

theorem writeReg_transfer (v : View) (a : Nat) (d : Word) (s : State) : (s.writeReg v a d).mb.transfer = s.mb.transfer := by
  unfold State.writeReg
  dsimp only
  split
  · rfl
  · split
    · rw [(writeBlock01_fr ..).mb rfl]
    · rw [(writeBlock02_fr ..).mb rfl]
    · rw [(writeBlock03_fr ..).mb rfl]
    · rw [(writeBlock04_fr ..).mb rfl]
    · rw [(writePort_fr ..).mb rfl]
    · rw [(writeChan_fr ..).mb rfl]
    · split
      · rw [(writeBlock07_fr ..).mb rfl]
      · rfl
    · rw [(writeBlock08_fr ..).mb rfl]
    · split <;> rfl
    · split <;> rfl
    · split <;> rfl
    · exact writeBlock0C_transfer ..
    · rw [(writeBlock0D_fr ..).mb rfl]
    · rfl

theorem written_fr (x : Transfer) (d : Word) (pec : Byte) (s : State) : Fr 164625408 s (s.written x d pec) :=
  Fr.step (setPointer_fr ..) (by decide) (Fr.step (State.writeReg_fr ..) (by decide) (Fr.step (passBytes_fr ..) (by decide) (Fr.refl ..)))

theorem written_pointer (h : s.mb.transfer = some x) (d : Word) (pec : Byte) :
    (s.written x d pec).pointer x.addr = (s.pointer x.addr + 4) % 2 ^ 24 :=
  pointer_setPointer (s := State.writeReg (passBytes _ s) ..) ((writeReg_transfer ..).trans h) _

/-- Where the register's own fields take nothing, pointer and CRC go on and nothing else. -/
theorem written_inert (hlive : s.mb.transfer = some x) {d : Word} {pec : Byte}
    (h : ∀ m, State.writeReg { s with mb := m } x.view (s.pointer x.addr) d = { s with mb := m }) :
    ∃ m, s.written x d pec = { s with mb := m } ∧ m.transfer = s.mb.transfer ∧ m.busy = s.mb.busy ∧
      m = { s.mb with pointers := m.pointers, crc := m.crc } := by
  refine ⟨{ s.mb with pointers := tabSet 0 s.mb.pointers x.addr.toNat ((s.pointer x.addr + 4) % 2 ^ 24)
                      crc := s.mb.crc.map (fun c => (leBytes 4 d.toNat ++ if x.pec then [pec] else []).foldl crc8 c) },
    ?_, rfl, rfl, rfl⟩
  change setPointer _ (State.writeReg { s with mb := { s.mb with crc := s.mb.crc.map _ } } x.view _ d) = _
  rw [h]
  exact setPointer_of_transfer (s := { s with mb := { s.mb with crc := s.mb.crc.map _ } }) hlive _

theorem writeActions_none {v : View} {a : Nat} {d : Word} (h : writtenActions a d.toNat s.choice = []) : writeActions v a d s = s := by
  unfold writeActions
  rw [h]
  rfl

theorem writeActions_one {v : View} {a : Nat} {d : Word} {c : Instr} (h : writtenActions a d.toNat s.choice = [c])
    (hc : drawsAction c = false) : writeActions v a d s = carryOut c v s := by
  unfold writeActions
  rw [h]
  exact congrArg (carryOut c v) (if_neg (by simp [hc]))

/-! ## Registers in SERVICE -/

theorem modeWrites_service (hm : s.mode = .service) {a : Nat} (ha : a / 0x10000 ≠ 0x0F) : s.modeWrites a = true := by
  simp [State.modeWrites, hm, ha]

theorem modeReads_service (hm : s.mode = .service) {a : Nat} (ha : a / 0x10000 ≠ 0x0F) : s.modeReads a = true := by
  simp [State.modeReads, hm, ha]

theorem carryOut_free {c : Instr} (hm : s.mode = .service) (ha : actionAddr c / 0x10000 ≠ 0x0F)
    (hsup : needsSup c = true → s.sup.restarting = false) : carryOut c .whole s = closeTransfer (actionEffect c .whole s) := by
  have haccept : s.accepts c = true := by
    simp [State.accepts, State.actsNow, modeWrites_service hm ha, hm]
  unfold carryOut
  rw [if_pos (by rw [haccept]; rfl), if_neg (by cases hn : needsSup c <;> simp_all)]

/-- RETAIN_IDLE's register written in SERVICE. -/
theorem writeReg_retainIdle (hm : s.mode = .service) (d : Word) : s.writeReg .whole 0x010020 d =
    { s with pwr := { s.pwr with
      retainIdle := d, past := (if s.sup.restarting then none else some s.now, s.pwr.timers) :: s.pwr.past } } := by
  unfold State.writeReg
  rw [if_neg (by rw [modeWrites_service hm (by decide)]; decide)]
  change writeBlock01 0x20 d.toNat _ _ s = _
  unfold writeBlock01
  simp only [BitVec.ofNat_toNat, BitVec.setWidth_eq]

/-- The register of the ladder's commands holds no field of its own. -/
theorem writeReg_ladder (v : View) (d : Word) (s : State) : s.writeReg v 0x010008 d = s := by
  unfold State.writeReg
  dsimp only
  split
  · rfl
  · rfl

/-- FLT_SRC_CTRL holds no field of its own. -/
theorem writeReg_srcCtrl (v : View) (n : SrcId) (d : Word) (s : State) : s.writeReg v (0x03000C + 16 * n.val) d = s := by
  have hn := n.isLt
  have hblock : (0x03000C + 16 * n.val) / 0x10000 = 3 := by omega
  have hoff : (0x03000C + 16 * n.val) % 0x10000 = 12 + 16 * n.val := by omega
  have hfield : (12 + 16 * n.val) % 16 = 12 := by omega
  have hown (act lock : Bool) : writeBlock03 (12 + 16 * n.val) d.toNat act lock s = s := by
    unfold writeBlock03
    rw [if_neg (by omega), if_neg (by omega), if_pos (by omega)]
    dsimp only
    rw [hfield]
    exact ite_self _
  unfold State.writeReg
  dsimp only
  rw [hblock, hoff]
  split
  · rfl
  · exact hown ..

theorem writtenActions_ladder (k : Nat) : writtenActions 0x010008 1 k = [.moveToRetain] := by
  unfold writtenActions
  rfl
theorem writtenActions_retainIdle (v k : Nat) : writtenActions 0x010020 v k = [] := by
  unfold writtenActions
  rfl

theorem writtenActions_srcCtrl (n : SrcId) (k : Nat) : writtenActions (0x03000C + 16 * n.val) 2 k = [.fltClear n] := by
  have hn := n.isLt
  have hidx : indexIn (0x03000C + 16 * n.val) 0x03000C 16 256 = some n.val := by
    unfold indexIn
    rw [if_pos ⟨by omega, by omega, by omega⟩]
    exact congrArg some (by omega)
  unfold writtenActions
  split
  iterate 9 next h => exact absurd h (by omega)
  dsimp only
  rw [if_neg (by omega), if_neg (by omega), hidx]
  dsimp only
  rw [Fin.ofNat_val_eq_self]
  rfl

theorem doClear_raised {n : Nat} (hc : s.srcClass n ≠ 4) (hf : fixedClass n = none) (ha : s.srcAbsent n = false) :
    doClear n s = s.updSrc n (fun x => { x with cls := x.initCls, windowOpen := false, count := 0 }) :=
  if_neg (by simp [hc, hf, ha])

/-! ## A register read -/

theorem setPointer_eq (a : Nat) (s : State) : ∃ l, setPointer a s = { s with mb.pointers := l } ∧
    ∀ x, s.mb.transfer = some x → tabGet 0 l x.addr.toNat = a % 2 ^ 24 := by
  cases h : s.mb.transfer with
  | none => exact ⟨s.mb.pointers, by unfold setPointer; rw [h], fun x hx => absurd hx (by simp)⟩
  | some x =>
    refine ⟨_, setPointer_of_transfer h a, fun y hy => ?_⟩
    obtain rfl := Option.some.inj hy
    exact (tabGet_tabSet ..).trans (if_pos rfl)

theorem clearRc_facts (s : State) (a : Nat) :
    (s.clearRc a).mb.transfer = s.mb.transfer ∧ (s.clearRc a).pwr.rung = s.pwr.rung := by
  unfold State.clearRc
  dsimp only
  split
  · split <;> exact ⟨rfl, rfl⟩
  · split
    · split <;> exact ⟨rfl, rfl⟩
    · exact ⟨rfl, rfl⟩
  · exact ⟨rfl, rfl⟩
  · exact ⟨rfl, rfl⟩
  · split <;> exact ⟨rfl, rfl⟩
  · split <;> exact ⟨rfl, rfl⟩
  · split <;> exact ⟨rfl, rfl⟩
  · split <;> exact ⟨rfl, rfl⟩
  · exact ⟨rfl, rfl⟩

/-- What the last byte of a register read leaves in the register. -/
def State.readOff (a : Nat) (s : State) : State :=
  match cycleLoSet a with
  | some i => if s.setPresent i then s.updCset i (fun c => { c with hiLatch := c.cycle.extractLsb' 32 32 }) else s
  | none => s.clearRc a

theorem readAt_seen {v : View} {a : Nat} (h : s.modeReads a = true) (hv : viewReads v a = true) :
    s.readAt v a = ({ s.readOff a with choice := if drawsChoice a then (s.readOff a).choice + 1 else (s.readOff a).choice },
      s.readReg v a) :=
  if_pos (by rw [h, hv]; rfl)

theorem readOff_facts (a : Nat) (s : State) : (s.readOff a).mb.transfer = s.mb.transfer ∧ (s.readOff a).pwr.rung = s.pwr.rung := by
  unfold State.readOff
  split
  · split <;> exact ⟨rfl, rfl⟩
  · exact clearRc_facts ..

theorem readAt_facts (v : View) (a : Nat) (s : State) :
    (s.readAt v a).1.mb.transfer = s.mb.transfer ∧ (s.readAt v a).1.pwr.rung = s.pwr.rung ∧ (s.readAt v a).2 = s.readReg v a := by
  cases h : s.modeReads a && viewReads v a with
  | false => rw [show s.readAt v a = (s, s.readReg v a) from if_neg (by simp [h])]; exact ⟨rfl, rfl, rfl⟩
  | true =>
    obtain ⟨h1, h2⟩ := Bool.and_eq_true_iff.mp h
    rw [readAt_seen h1 h2]
    exact ⟨(readOff_facts a s).1, (readOff_facts a s).2, rfl⟩

theorem readOut_spec (v : View) (a : Nat) (s : State) : ∃ m, readOut v a s = { (s.readAt v a).1 with mb := m } ∧
    m.rdata = s.readReg v a ∧ m.rpec = (if s.mb.transfer.any (·.pec) then s.pecAfter (s.readReg v a) else none) ∧
    ∀ x, s.mb.transfer = some x → tabGet 0 m.pointers x.addr.toNat = (a + 4) % 2 ^ 24 := by
  obtain ⟨htransfer, -, hword⟩ := readAt_facts v a s
  unfold readOut
  extract_lets r pec
  obtain ⟨l, hl, hpointer⟩ := setPointer_eq (a + 4) { r.1 with mb.rdata := r.2, mb.rpec := pec }
  rw [hl]
  exact ⟨_, rfl, hword, congrArg (fun w => if s.mb.transfer.any (·.pec) then s.pecAfter w else none) hword,
    fun x hx => hpointer x (htransfer.trans hx)⟩

theorem readOff_poison (p : PortId) (s : State) :
    s.readOff (0x050080 + 0x1000 * p.val) = s.updPort p.val (fun x => { x with poisonNever := 0, poisonData := 0 }) := by
  have hp := p.isLt
  have hnone : cycleLoSet (0x050080 + 0x1000 * p.val) = none := if_neg (by omega)
  unfold State.readOff
  rw [hnone]
  unfold State.clearRc
  dsimp only
  rw [show (0x050080 + 0x1000 * p.val) / 0x10000 = 5 by omega, show (0x050080 + 0x1000 * p.val) % 0x10000 = 0x80 + 0x1000 * p.val by omega,
    show (0x80 + 0x1000 * p.val) / 0x1000 = p.val by omega, show (0x80 + 0x1000 * p.val) % 0x1000 = 0x80 by omega]
  rfl

theorem viewReads_poison {v : View} {p : PortId} (h : v = .whole ∨ v = .port p) : viewReads v (0x050080 + 0x1000 * p.val) = true := by
  have hp := p.isLt
  rcases h with rfl | rfl
  · rfl
  · have : within (0x050080 + 0x1000 * p.val) (0x050000 + 0x1000 * p.val) 0x1000 = true := by
      unfold within
      rw [decide_eq_true (by omega), decide_eq_true (by omega)]
      rfl
    simp [viewReads, portReads, this]

theorem cycleLoSet_self (i : Fin 32) : cycleLoSet (0x040040 + 0x400 * i.val) = some i.val := by
  have hi := i.isLt
  exact (if_pos ⟨by omega, by omega, by omega⟩).trans (congrArg some (by omega))

theorem regWord_cycleLo (i : Fin 32) (hset : s.setPresent i.val = true) :
    s.regWord (0x040040 + 0x400 * i.val) = (s.cset i.val).cycle.extractLsb' 0 32 := by
  have hi := i.isLt
  have hset' : s.setWord i.val 0x40 (s.cset i.val).hiLatch.toNat = (s.cset i.val).cycle.toNat := by
    unfold State.setWord
    exact if_neg (by simp [hset])
  unfold State.regWord
  rw [show (0x040040 + 0x400 * i.val) / 0x10000 = 4 by omega, show (0x040040 + 0x400 * i.val) % 0x10000 = 0x40 + 0x400 * i.val by omega]
  dsimp only
  unfold State.block04
  rw [if_pos (by omega), show (0x40 + 0x400 * i.val) / 0x400 = i.val by omega, show (0x40 + 0x400 * i.val) % 0x400 = 0x40 by omega, hset']
  exact BitVec.eq_of_toNat_eq (by simp [BitVec.extractLsb'_toNat])

end Sys2Proof.Machine
end

section
/-! SUPPORT. The ends of transfers and of long operations, attention requests, hang-ups (R399, R471, R474 to R482; O56). -/

namespace Sys2Proof.Machine

open Host

variable {s t u : State} {x : Transfer}

/-! ## The end of a transfer -/

/-- The target after the end of a transfer, before what it says of a line held low. -/
def MbState.ended (inside start : Bool) (m : MbState) : MbState :=
  { m with transfer := none, crc := if start then m.crc else some 0, aborts := if inside then satInc m.aborts else m.aborts
           status := m.status ||| (if inside then 16 else 0) }

theorem transferEnd_none (inside sending start : Bool) (h : s.mb.transfer = none) :
    transferEnd inside sending start s = if start then s else { s with mb := { s.mb with crc := some 0 } } := by
  unfold transferEnd
  rw [h]

theorem dwellRestarts_kept (c : Prop) [Decidable c] (s : State) :
    (if c then { s with pwr.dwellFrom := s.now } else s).mb = s.mb ∧ (if c then { s with pwr.dwellFrom := s.now } else s).mem = s.mem ∧
      (if c then { s with pwr.dwellFrom := s.now } else s).ports = s.ports := by
  split <;> exact ⟨rfl, rfl, rfl⟩

theorem busClear_spec {m : MbState} (sending : Bool) (hq : sending = true → s.quiet 244) :
    ∃ t, (if sending then fault 244 {} { s with mb := { m with status := m.status ||| 4 } } else { s with mb := m }) = t ∧
      t.mb = { m with status := m.status ||| (if sending then 4 else 0) } ∧ t.mem = s.mem ∧ t.ports = s.ports := by
  cases sending with
  | false => exact ⟨_, rfl, by simp, rfl, rfl⟩
  | true =>
    refine ⟨_, fault_of_quiet_high (s := { s with mb := { m with status := m.status ||| 4 } }) (by decide) (hq rfl), ?_, ?_, ?_⟩
    · exact (State.withEvent_fr ..).mb rfl
    · exact (State.withEvent_fr ..).mem rfl
    · exact (State.withEvent_fr ..).ports rfl

/-- A transfer that ends: what of it the registers keep. -/
theorem transferEnd_spec (inside sending start : Bool) (h : s.mb.transfer = some x) (hq : sending = true → s.quiet 244) :
    ∃ t, transferEnd inside sending start s = t ∧ t.mem = s.mem ∧ t.ports = s.ports ∧
      t.mb = { s.mb.ended inside start with status := (s.mb.ended inside start).status ||| (if sending then 4 else 0) } := by
  obtain ⟨u, hu, hmb, hmem, hports⟩ := busClear_spec (s := s) (m := s.mb.ended inside start) sending hq
  have hended : (if inside then
      { s with mb := { s.mb with transfer := none, crc := if start then s.mb.crc else some 0, status := s.mb.status ||| 16, aborts := satInc s.mb.aborts } }
      else { s with mb := { s.mb with transfer := none, crc := if start then s.mb.crc else some 0 } }) =
      { s with mb := s.mb.ended inside start } := by
    cases inside
    · simp [MbState.ended]
    · rfl
  obtain ⟨hmb', hmem', hports'⟩ := dwellRestarts_kept (!start ∧ u.mode = .retain ∧ u.pwr.rung = 3 ∧ u.pwr.wakeLast = 2) u
  unfold transferEnd
  rw [h]
  dsimp only at hended ⊢
  rw [hended, hu]
  exact ⟨_, rfl, hmem'.trans hmem, hports'.trans hports, hmb'.trans hmb⟩

/-! ## Long operations -/

theorem longOpEnd_done {op u : Nat} (hb : s.mb.busy = some (op, u)) (hd : s.opDone op = true) :
    exec .longOpEnd s = .next (recordOp op u 1 (if op = 4 then readJournal s else s)) := by
  change execLongOpEnd s = _
  unfold execLongOpEnd
  rw [hb]
  exact congrArg _ (if_pos hd)

theorem longOpEnd_waits {op u : Nat} (hb : s.mb.busy = some (op, u)) (hd : s.opDone op = false) : exec .longOpEnd s = .next s := by
  change execLongOpEnd s = _
  unfold execLongOpEnd
  rw [hb]
  exact congrArg _ (if_neg (by simp [hd]))

theorem longOpBound_journal {op u : Nat} (hb : s.mb.busy = some (op, u)) (ho : op = 3 ∨ op = 4) :
    exec .longOpBound s = .next (recordOp op u 2 (dropOp op (s.atLeast (u + 40000000)))) := by
  change execLongOpBound s = _
  unfold execLongOpBound
  rw [hb]
  exact congrArg _ (if_pos ho)

theorem longOpBound_other {op u : Nat} (hb : s.mb.busy = some (op, u)) (ho : ¬ (op = 3 ∨ op = 4)) : exec .longOpBound s = .next s := by
  change execLongOpBound s = _
  unfold execLongOpBound
  rw [hb]
  exact congrArg _ (if_neg ho)

theorem longOp_idle (hb : s.mb.busy = none) : exec .longOpEnd s = .next s ∧ exec .longOpBound s = .next s := by
  constructor
  · change execLongOpEnd s = _
    unfold execLongOpEnd
    rw [hb]
  · change execLongOpBound s = _
    unfold execLongOpBound
    rw [hb]

/-! ## Attention requests -/

theorem attentionSclFall_idle (a b c : Bool) (h : s.mb.attnPull = false) : exec (.attentionSclFall a b c) s = .next s :=
  if_pos (by simp [h])

theorem attentionSclFall_eq (a b c : Bool) (h : s.mb.attnPull = true) : exec (.attentionSclFall a b c) s =
    .next (if !a ∨ !b then { s with mb.attnPull := false }
      else if c then { s with mb := { s.mb with attnPull := false, attnPending := false, attnServed := satInc s.mb.attnServed } }
      else { s with mb := { s.mb with attnPull := false, attnAfter := s.now + 1000000 } }) :=
  if_neg (by simp [h])

theorem attentionUnserved_pulled (h : s.mb.attnPull = true) : exec .attentionUnserved s =
    .next { s.atLeast (s.mb.attnAt + 100000) with mb := { s.mb with
      attnPull := false, status := s.mb.status ||| 32, attnAfter := max s.now (s.mb.attnAt + 100000) + 10000000 } } :=
  if_pos h

/-! ## Hang-ups -/

/-- The target after a hang-up. -/
def MbState.hung (flag : BitVec 6) (m : MbState) : MbState :=
  { m with status := m.status ||| flag, timeouts := satInc m.timeouts, transfer := none, attnPull := false, deaf := true, crc := some 0 }

theorem hangUp_spec (flag : BitVec 6) (hup : s.targetUp = true) (hq : s.quiet 244) :
    ∃ t, hangUp flag s = t ∧ t.mb = s.mb.hung flag ∧ (t.src 244).total = satInc (s.src 244).total ∧ t.mem = s.mem ∧
      t.ports = s.ports := by
  have hfault : hangUp flag s = State.withEvent 244 { s with mb := s.mb.hung flag } :=
    (if_pos hup).trans (fault_of_quiet_high (s := { s with mb := s.mb.hung flag }) (by decide) hq)
  exact ⟨_, hfault, (State.withEvent_fr ..).mb rfl, congrArg Source.total (State.withEvent_src_self ..), (State.withEvent_fr ..).mem rfl,
    (State.withEvent_fr ..).ports rfl⟩

/-! ## The obligation, by its parts -/

theorem addressBytes_followed (a : BitVec 7) (rd : Bool) (s : State) :
    (s.targetUp = false → exec (.mbAddressByte a rd) s = .next s) ∧
    (s.targetUp = true → s.mb.busy = none → ¬ (s.mode = .retain ∧ 4 ≤ s.pwr.rung) →
      ∃ t, exec (.mbAddressByte a rd) s = .next t ∧ t = { s with mb := t.mb } ∧ t.mb.deaf = false ∧
        t.mb.pointers = s.mb.pointers ∧ t.mb.transfer = (s.viewAt a.toNat).map (fun v =>
          { addr := a, view := v, read := rd, pec := s.mb.pec }) ∧
        t.mb.attnNow = s.mb.attention ∧
        t.mb.crc = (if s.viewAt a.toNat = none then some 0
          else s.mb.crc.map (fun c => crc8 c (BitVec.ofNat 8 (2 * a.toNat + b2n rd))))) ∧
    (a.toNat = 0x58 + s.pins.maddr.toNat → s.viewAt a.toNat = some .whole) := by
  refine ⟨fun h => congrArg Host.Outcome.next (if_pos (by simp [h])), fun hup hbusy hrung => ?_, fun h => if_pos h⟩
  obtain ⟨m, hm, hdeaf, hpointers, hnow, htransfer, hcrc⟩ := addressByte_spec (a := a) (rd := rd) hup hbusy hrung
  exact ⟨{ s with mb := m }, congrArg Host.Outcome.next hm, rfl, hdeaf, hpointers, htransfer, hnow, hcrc⟩

theorem registerAddress_followed (h : s.liveTransfer = some x) (hw : x.read = false) (a : BitVec 24) :
    (a.toNat % 4 = 0 → ∃ t, exec (.mbRegisterAddress a) s = .next t ∧ t.pointer x.addr = a.toNat ∧
        t.mb.transfer = some x ∧ t.mem = s.mem ∧ t.ports = s.ports) ∧
    (a.toNat % 4 ≠ 0 → ∃ t, exec (.mbRegisterAddress a) s = .next t ∧ t.mb.pointers = s.mb.pointers ∧ t.liveTransfer = none ∧
        t.mem = s.mem ∧ t.ports = s.ports) := by
  obtain ⟨-, htransfer, -⟩ := live_parts h
  have hpassed : (passBytes (leBytes 3 a.toNat).reverse s).mb.transfer = some x := htransfer
  constructor
  · intro ha
    refine ⟨_, congrArg Host.Outcome.next (registerAddress_aligned h hw ha), ?_, ?_, (setPointer_fr ..).mem rfl, (setPointer_fr ..).ports rfl⟩
    · rw [pointer_setPointer hpassed]
      exact Nat.mod_eq_of_lt a.isLt
    · rw [setPointer_of_transfer hpassed]
      exact htransfer
  · intro ha
    exact ⟨_, congrArg Host.Outcome.next (registerAddress_unaligned h hw ha), rfl, live_ignoreRest s, rfl, rfl⟩

theorem pecMismatch_followed {d : Word} {pec c : Byte} (h : s.liveTransfer = some x) (hw : x.read = false) (hp : x.pec = true)
    (hc : s.mb.crc = some c) (hne : pec ≠ (leBytes 4 d.toNat).foldl crc8 c) (hq : s.quiet 244) :
    ∃ t, exec (.registerWrite d pec) s = .next t ∧ t.mb.pointers = s.mb.pointers ∧
      t.liveTransfer = none ∧ t.mb.status = s.mb.status ||| 8 ∧ t.mb.pecErrors = satInc s.mb.pecErrors ∧ t.thm = s.thm ∧
      t.pwr = s.pwr ∧ t.rep = s.rep ∧ t.otp = s.otp ∧ t.ports = s.ports ∧ t.chans = s.chans ∧ t.pmc = s.pmc ∧ t.mem = s.mem ∧
      (t.src 244).total = satInc (s.src 244).total :=
  ⟨_, congrArg Host.Outcome.next (registerWrite_mismatch h hw hp hc hne hq), rfl,
    live_ignoreRest { s with mb.status := s.mb.status ||| 8, mb.pecErrors := satInc s.mb.pecErrors }, rfl, rfl, rfl, rfl, rfl, rfl, rfl,
    rfl, rfl, rfl, congrArg Source.total (State.withEvent_src_self ..)⟩

/-- A word written whose PEC, where there is one, is right. -/
structure WriteTaken (x : Transfer) (d : Word) (pec : Byte) (s : State) : Prop where
  live : s.liveTransfer = some x
  writes : x.read = false
  pecOk : x.pec = false ∨ s.pecAfter d = some pec

theorem WriteTaken.exec_eq {d : Word} {pec : Byte} (h : WriteTaken x d pec s) :
    exec (.registerWrite d pec) s = .next (writeActions x.view (s.pointer x.addr) d (s.written x d pec)) :=
  congrArg Host.Outcome.next (registerWrite_good h.live h.writes h.pecOk)

theorem WriteTaken.fields {d : Word} {pec : Byte} (h : WriteTaken x d pec s)
    (hnone : writtenActions (s.pointer x.addr) d.toNat s.choice = []) : exec (.registerWrite d pec) s = .next (s.written x d pec) := by
  rw [h.exec_eq, writeActions_none (by rw [(written_fr ..).choice rfl]; exact hnone)]

theorem WriteTaken.plain {d : Word} {pec : Byte} (h : WriteTaken x d pec s)
    (hnone : writtenActions (s.pointer x.addr) d.toNat s.choice = []) :
    (∃ t, exec (.registerWrite d pec) s = .next t ∧ t.pointer x.addr = (s.pointer x.addr + 4) % 2 ^ 24 ∧ t.mem = s.mem ∧
      t.now = s.now ∧ t.mode = s.mode) ∧
    ((s.modeWrites (s.pointer x.addr) && viewWrites x.view (s.pointer x.addr)) = false →
      ∃ t, exec (.registerWrite d pec) s = .next t ∧ t = { s with mb := { s.mb with pointers := t.mb.pointers, crc := t.mb.crc } }) := by
  obtain ⟨-, htransfer, -⟩ := live_parts h.live
  refine ⟨⟨_, h.fields hnone, written_pointer htransfer d pec, (written_fr ..).mem rfl, (written_fr ..).now rfl,
    (written_fr ..).mode rfl⟩, fun hclosed => ?_⟩
  have hwritten (m : MbState) : State.writeReg { s with mb := m } x.view (s.pointer x.addr) d = { s with mb := m } :=
    if_pos (by change (!(s.modeWrites (s.pointer x.addr) && viewWrites x.view (s.pointer x.addr))) = true; rw [hclosed]; rfl)
  obtain ⟨m, hm, -, -, hrest⟩ := written_inert (pec := pec) htransfer hwritten
  exact ⟨{ s with mb := m }, (h.fields hnone).trans (congrArg Host.Outcome.next hm), congrArg (fun k => { s with mb := k }) hrest⟩

theorem WriteTaken.retainIdle {d : Word} {pec : Byte} (h : WriteTaken x d pec s) (ha : s.pointer x.addr = 0x010020)
    (hm : s.mode = .service) (hv : x.view = .whole) :
    ∃ t, exec (.registerWrite d pec) s = .next t ∧ t.flt = s.flt ∧ t.ports = s.ports ∧ t.pwr = { s.pwr with
      retainIdle := d, past := (if s.sup.restarting then none else some s.now, s.pwr.timers) :: s.pwr.past } := by
  obtain ⟨-, htransfer, -⟩ := live_parts h.live
  have hrun := h.fields (by rw [ha]; exact writtenActions_retainIdle ..)
  unfold State.written at hrun
  extract_lets u at hrun
  rw [ha, hv, writeReg_retainIdle (s := u) hm] at hrun
  exact ⟨_, hrun, (setPointer_fr ..).flt rfl, (setPointer_fr ..).ports rfl, (setPointer_fr ..).pwr rfl⟩

/-- A register whose own fields take nothing and whose word asks for one action. -/
theorem WriteTaken.action {d : Word} {pec : Byte} {c : Instr} (h : WriteTaken x d pec s) (hm : s.mode = .service)
    (hv : x.view = .whole) (hown : ∀ u : State, u.writeReg .whole (s.pointer x.addr) d = u)
    (hc : ∀ k, writtenActions (s.pointer x.addr) d.toNat k = [c]) (hplain : drawsAction c = false)
    (ha : actionAddr c / 0x10000 ≠ 0x0F) (hsup : needsSup c = true → s.sup.restarting = false) :
    ∃ m, m.busy = none ∧ exec (.registerWrite d pec) s = .next (closeTransfer (actionEffect c .whole { s with mb := m })) := by
  obtain ⟨hlisten, htransfer, -⟩ := live_parts h.live
  obtain ⟨m, hmw, -, hbusy, -⟩ := written_inert (pec := pec) htransfer (fun m => by rw [hv]; exact hown { s with mb := m })
  refine ⟨m, hbusy.trans (busy_of_listens hlisten), ?_⟩
  rw [h.exec_eq, hmw, hv, writeActions_one (s := { s with mb := m }) (hc _) hplain, carryOut_free (s := { s with mb := m }) hm ha hsup]

theorem WriteTaken.moveToRetain {d : Word} {pec : Byte} (h : WriteTaken x d pec s) (ha : s.pointer x.addr = 0x010008) (hd : d = 1)
    (hm : s.mode = .service) (hv : x.view = .whole) (hsup : s.sup.restarting = false) (hup : s.bist.shutDown = false)
    (he : s.pwr.entry = none) (hr : s.pwr.rung = 3) (hmig : s.migrating = false) :
    ∃ t, exec (.registerWrite d pec) s = .next t ∧ t.pwr.entry = some { target := 6, start := s.now } ∧ t.mem = s.mem ∧
      t.ports = s.ports ∧ t.flt = s.flt := by
  subst hd
  obtain ⟨m, hbusy, hrun⟩ := h.action (c := .moveToRetain) hm hv (fun u => by rw [ha]; exact writeReg_ladder ..)
    (fun k => by rw [ha]; exact writtenActions_ladder k) rfl (by decide) (fun _ => hsup)
  have hmoved := moveRetain_at3 (s := { s with mb := m }) false false hm hup he hr hmig
  change exec _ s = .next (closeTransfer (moveRetain false false { s with mb := m })) at hrun
  rw [hmoved, closeTransfer_of_idle hbusy] at hrun
  exact ⟨_, hrun, rfl, rfl, rfl, rfl⟩

theorem WriteTaken.clears {d : Word} {pec : Byte} (h : WriteTaken x d pec s) (n : SrcId)
    (ha : s.pointer x.addr = 0x03000C + 16 * n.val) (hd : d = 2) (hm : s.mode = .service) (hv : x.view = .whole)
    (hc : s.srcClass n.val ≠ 4) (hf : fixedClass n.val = none) (habsent : s.srcAbsent n.val = false) :
    ∃ t, exec (.registerWrite d pec) s = .next t ∧
      t.src n.val = { s.src n.val with cls := (s.src n.val).initCls, windowOpen := false, count := 0 } ∧
      (∀ m, m ≠ n.val → t.src m = s.src m) ∧ t.mem = s.mem ∧ t.ports = s.ports := by
  subst hd
  have hn := n.isLt
  obtain ⟨m, hbusy, hrun⟩ := h.action (c := .fltClear n) hm hv (fun u => by rw [ha]; exact writeReg_srcCtrl ..)
    (fun k => by rw [ha]; exact writtenActions_srcCtrl n k) rfl (by change (0x03000C + 16 * n.val) / 0x10000 ≠ 0x0F; omega)
    (fun hn => Bool.noConfusion hn)
  change exec _ s = .next (closeTransfer (doClear n.val { s with mb := m })) at hrun
  rw [doClear_raised (s := { s with mb := m }) hc hf habsent, closeTransfer_of_idle hbusy] at hrun
  refine ⟨_, hrun, ?_, fun k hk => ?_, rfl, rfl⟩
  · rw [State.updSrc_src, if_pos rfl]
    rfl
  · rw [State.updSrc_src, if_neg hk]
    rfl

theorem readClear_followed (h : s.liveTransfer = some x) (hread : x.read = true) :
    exec .readClear s = .next (readOut x.view (s.pointer x.addr) s) := by
  change execReadClear s = _
  unfold execReadClear
  rw [h]
  exact congrArg _ (if_pos hread)

theorem reads_followed (h : s.liveTransfer = some x) (hread : x.read = true) :
    (∃ t, exec .readClear s = .next t ∧ t.mb.rdata = s.readReg x.view (s.pointer x.addr) ∧
      t.mb.rpec = (if x.pec then s.pecAfter (s.readReg x.view (s.pointer x.addr)) else none) ∧
      t.pointer x.addr = (s.pointer x.addr + 4) % 2 ^ 24 ∧ t.mem = s.mem ∧ t.pwr.rung = s.pwr.rung ∧ t.mode = s.mode) ∧
    (∀ p : PortId, s.pointer x.addr = 0x050080 + 0x1000 * p.val → s.mode = .service → x.view = .whole ∨ x.view = .port p →
      ∃ t, exec .readClear s = .next t ∧ (t.port p.val).poisonNever = 0 ∧ (t.port p.val).poisonData = 0 ∧ otherPorts p.val s t) := by
  obtain ⟨-, htransfer, -⟩ := live_parts h
  obtain ⟨m, hout, hdata, hpec, hpointer⟩ := readOut_spec x.view (s.pointer x.addr) s
  have hrun := (readClear_followed h hread).trans (congrArg Host.Outcome.next hout)
  rw [htransfer] at hpec
  constructor
  · exact ⟨_, hrun, hdata, hpec, hpointer x htransfer, (State.readAt_fr ..).mem rfl, (readAt_facts ..).2.1, (State.readAt_fr ..).mode rfl⟩
  · intro p ha hm hv
    have hp := p.isLt
    rw [ha, readAt_seen (modeReads_service hm (by omega)) (viewReads_poison hv), readOff_poison] at hrun
    have hself := State.updPort_port_self (s := s) p.val (fun x => { x with poisonNever := 0, poisonData := 0 })
    have hothers := updPort_otherPorts p.val (fun x => { x with poisonNever := 0, poisonData := 0 }) s
    exact ⟨_, hrun, congrArg Port.poisonNever hself, congrArg Port.poisonData hself, hothers⟩

theorem cycleLo_followed (i : Fin 32) (hlisten : s.listens = true) (hfollow : s.following = true) (hset : s.setPresent i.val = true)
    (hmode : s.modeReads (0x040040 + 0x400 * i.val) = true) (hview : viewReads s.currentView (0x040040 + 0x400 * i.val) = true) :
    ∃ t, exec (.pmcCycleLoRead i) s = .next t ∧ (t.cset i.val).hiLatch = (s.cset i.val).cycle.extractLsb' 32 32 ∧
      t.mb.rdata = (s.cset i.val).cycle.extractLsb' 0 32 ∧ (t.cset i.val).cycle = (s.cset i.val).cycle ∧ t.mem = s.mem ∧
      t.ports = s.ports := by
  obtain ⟨m, hout, hdata, -⟩ := readOut_spec s.currentView (0x040040 + 0x400 * i.val) s
  have hread : s.readReg s.currentView (0x040040 + 0x400 * i.val) = s.regWord (0x040040 + 0x400 * i.val) :=
    if_pos (by rw [hmode, hview]; rfl)
  have hoff : s.readOff (0x040040 + 0x400 * i.val) =
      s.updCset i.val (fun c => { c with hiLatch := c.cycle.extractLsb' 32 32 }) := by
    unfold State.readOff
    rw [cycleLoSet_self]
    exact if_pos hset
  have hrun : exec (.pmcCycleLoRead i) s = .next (readOut s.currentView (0x040040 + 0x400 * i.val) s) :=
    congrArg Host.Outcome.next (if_pos (by rw [hlisten, hfollow]; rfl))
  rw [hout, readAt_seen hmode hview, hoff] at hrun
  have hcset : (s.updCset i.val (fun c => { c with hiLatch := c.cycle.extractLsb' 32 32 })).cset i.val =
      { s.cset i.val with hiLatch := (s.cset i.val).cycle.extractLsb' 32 32 } := by rw [State.updCset_cset, if_pos rfl]
  have hlatch := congrArg CounterSet.hiLatch hcset
  have hcycle := congrArg CounterSet.cycle hcset
  exact ⟨_, hrun, hlatch, hdata.trans (hread.trans (regWord_cycleLo i hset)), hcycle, rfl, rfl⟩

theorem longOps_followed {op u : Nat} (hb : s.mb.busy = some (op, u)) :
    (s.opDone op = false → exec .longOpEnd s = .next s) ∧
    (s.opDone op = true → ∃ t, exec .longOpEnd s = .next t ∧ t.mb.busy = none ∧ t.mb.longOp = BitVec.ofNat 3 op ∧
      t.mb.longOutcome = 1 ∧ t.mb.longDuration = satOf 27 ((s.now - u) / 1000) ∧ t.jnl.records = s.jnl.records ∧
      (op = 4 → t.jnl.readBuf.length = 64) ∧ (op ≠ 4 → t.jnl = s.jnl) ∧ t.mem = s.mem ∧ t.ports = s.ports ∧ t.flt = s.flt) ∧
    (op = 3 ∨ op = 4 → ∃ t, exec .longOpBound s = .next t ∧ t.mb.busy = none ∧ t.mb.longOp = BitVec.ofNat 3 op ∧
      t.mb.longOutcome = 2 ∧ t.jnl = s.jnl ∧ t.now = max s.now (u + 40000000) ∧ t.mem = s.mem ∧ t.ports = s.ports) ∧
    (op ≠ 3 → op ≠ 4 → exec .longOpBound s = .next s) := by
  refine ⟨longOpEnd_waits hb, fun hd => ?_, fun ho => ?_, fun h3 h4 => longOpBound_other hb (by omega)⟩
  · by_cases h4 : op = 4
    · have hrun := longOpEnd_done hb hd
      rw [if_pos h4] at hrun
      exact ⟨_, hrun, rfl, rfl, rfl, rfl, rfl, fun _ => by simp [recordOp, readJournal], fun h => absurd h4 h, rfl, rfl, rfl⟩
    · have hrun := longOpEnd_done hb hd
      rw [if_neg h4] at hrun
      exact ⟨_, hrun, rfl, rfl, rfl, rfl, rfl, fun h => absurd h h4, fun _ => rfl, rfl, rfl, rfl⟩
  · exact ⟨_, longOpBound_journal hb ho, rfl, rfl, rfl, rfl, rfl, rfl, rfl⟩

theorem attention_followed (b c d : Bool) (s : State) :
    (s.mayAttend = true → exec (.attentionRequest true) s = .next { s with mb := { s.mb with attnPull := true, attnAt := s.now } }) ∧
    (s.mayAttend = false ∨ b = false → exec (.attentionRequest b) s = .next s) ∧
    (s.mb.attnPull = false → exec (.attentionSclFall b c d) s = .next s ∧ exec .attentionUnserved s = .next s) ∧
    (s.mb.attnPull = true →
      exec (.attentionSclFall true true true) s = .next { s with mb := { s.mb with
        attnPull := false, attnPending := false, attnServed := satInc s.mb.attnServed } } ∧
      exec (.attentionSclFall true true false) s = .next { s with mb := { s.mb with
        attnPull := false, attnAfter := s.now + 1000000 } } ∧
      (b = false ∨ c = false → exec (.attentionSclFall b c d) s = .next { s with mb := { s.mb with attnPull := false } }) ∧
      ∃ t, exec .attentionUnserved s = .next t ∧ t.mb.attnPull = false ∧ t.mb.attnPending = s.mb.attnPending ∧
        t.mb.status = s.mb.status ||| 32 ∧ t.now = max s.now (s.mb.attnAt + 100000) ∧ t.mb.attnAfter = t.now + 10000000 ∧
        t.mem = s.mem ∧ t.ports = s.ports ∧ t.flt = s.flt) := by
  refine ⟨fun h => congrArg Host.Outcome.next (if_pos ⟨h, rfl⟩), fun h => congrArg Host.Outcome.next (if_neg ?_),
    fun h => ⟨attentionSclFall_idle _ _ _ h, if_neg (by simp [h])⟩, fun h => ⟨?_, ?_, fun hbc => ?_, ?_⟩⟩
  · rcases h with h | h <;> simp [h]
  · exact attentionSclFall_eq _ _ _ h
  · exact attentionSclFall_eq _ _ _ h
  · rw [attentionSclFall_eq _ _ _ h, if_pos (by rcases hbc with rfl | rfl <;> simp)]
  · exact ⟨_, attentionUnserved_pulled h, rfl, rfl, rfl, rfl, rfl, rfl, rfl, rfl⟩

/-- Settles O56: the target's operations one by one, each by what its own lemma says. -/
theorem theTwoWireTargetFollowsItsTransfers : Obligations.TheTwoWireTargetFollowsItsTransfers := by
  refine ⟨addressBytes_followed, fun a d pec s hb => ?_, fun x s h hw => ⟨registerAddress_followed h hw,
      fun d pec c hp hc hne hq => pecMismatch_followed h hw hp hc hne hq, fun d pec hp => ?_⟩, fun x s h hr => reads_followed h hr,
    fun i s => cycleLo_followed i, fun inside sending start s => ⟨fun h => ?_, fun x h hq => ?_⟩,
    fun s => ⟨longOp_idle, fun op u hb => longOps_followed hb⟩, attention_followed, fun s hup hq => ⟨?_, ?_⟩⟩
  · have hnone := live_none_of_busy hb
    refine ⟨congrArg Host.Outcome.next ?_, congrArg Host.Outcome.next ?_, congrArg Host.Outcome.next ?_⟩
    · unfold registerAddress
      rw [hnone]
    · unfold registerWrite
      rw [hnone]
    · rw [hnone]
  · have hwrite : WriteTaken x d pec s := ⟨h, hw, hp⟩
    exact ⟨hwrite.plain, hwrite.retainIdle, hwrite.moveToRetain, hwrite.clears⟩
  · exact congrArg Host.Outcome.next (transferEnd_none inside sending start h)
  · obtain ⟨t, ht, hmem, hports, hmb⟩ := transferEnd_spec inside sending start h hq
    exact ⟨t, congrArg Host.Outcome.next ht, by rw [hmb]; rfl, by rw [hmb]; rfl, hmem, hports, by rw [hmb]; rfl, by rw [hmb]; rfl,
      by rw [hmb]; rfl⟩
  · obtain ⟨t, ht, hmb, htotal, hmem, hports⟩ := hangUp_spec 1 hup hq
    exact ⟨t, congrArg Host.Outcome.next ht, by rw [hmb]; rfl, by rw [hmb]; rfl, by rw [hmb]; rfl, by rw [hmb]; rfl, by rw [hmb]; rfl,
      by rw [hmb]; rfl, htotal, hmem, hports⟩
  · obtain ⟨t, ht, hmb, htotal, hmem, hports⟩ := hangUp_spec 2 hup hq
    exact ⟨t, congrArg Host.Outcome.next ht, by rw [hmb]; rfl, by rw [hmb]; rfl, by rw [hmb]; rfl, by rw [hmb]; rfl, htotal, hmem, hports⟩

end Sys2Proof.Machine
end

section
/-! SUPPORT. The actions of registers: each by what its write does once committed (R25, R177, R178, R212, R213, R227, R287, R292, R335, R362, R443; O57). -/

namespace Sys2Proof.Machine

open Host

variable {s t u : State} {p : Nat}

/-! ## The frame of a committed action -/

/-- A committed action that starts no long operation runs, with the target's pointer set. -/
theorem exec_short {c : Instr} {f : State → State} (hc : s.commits c) (hexec : exec c s = .next (commit c s))
    (heff : ∀ m, actionEffect c s.currentView { s with mb := m } = f { s with mb := m }) (hbusy : ∀ u, (f u).mb.busy = u.mb.busy) :
    ∃ m, exec c s = .next (f { s with mb := m }) := by
  obtain ⟨m, hpoint, hm, -⟩ := s.pointed_eq c
  refine ⟨m, ?_⟩
  rw [hexec, commit_of_commits hc, hpoint, heff, closeTransfer_of_idle]
  rw [hbusy]
  exact hm.trans hc.idle

theorem busy_of_fr {m : Nat} {f : State → State} (hm : m.testBit 17 = false) (h : ∀ u, Fr m u (f u)) (u : State) :
    (f u).mb.busy = u.mb.busy := by rw [(h u).mb hm]

theorem updPort_busy (p : Nat) (f : State → Port → Port) (u : State) : (u.updPort p (f u)).mb.busy = u.mb.busy := rfl

theorem commit_unfollowed {c : Instr} (h : s.listens = false ∨ s.following = false) : commit c s = s :=
  if_neg (by rcases h with h | h <;> simp [h])

/-! ## Ports -/

theorem doRetrain_active (hl : (s.port p).lnk.link = .active) : doRetrain p s =
    if (s.port p).lnk.widthReq.isSome then s.updPort p (fun x => { x with lnk := { x.lnk with retrainNext := true } })
    else startRetrain p 2 false false s := by
  unfold doRetrain
  dsimp only
  rw [hl]

/-- DOWN set. -/
theorem doDown_set (p : Nat) (s : State) : ∃ t, doDown p true s = t ∧ Fr 54530048 s t ∧ otherPorts p s t ∧
    t.port p = { (s.port p).toOff with lnk.down := true } := by
  have hup := s.updPort_within p (fun x => { x.toOff with lnk.down := true })
  have hrung := settleRung_narrow (s.updPort p (fun x => { x.toOff with lnk.down := true }))
  have hdown : doDown p true s = settleRung (s.updPort p (fun x => { x.toOff with lnk.down := true })) := by
    unfold doDown
    exact if_pos rfl
  refine ⟨_, hdown, (hup.fr.or hrung).mono rfl, hup.others.trans (hrung.otherPorts p), ?_⟩
  exact (hrung.port rfl p).trans (State.updPort_port_self ..)

theorem doDown_clear (hd : (s.port p).lnk.down = true) : doDown p false s = s.updPort p (fun x => { x with lnk := { x.lnk with
    down := false, mgmtStart := true, since := s.now,
    link := if x.lnk.link = .off ∧ s.portUp p ∧ s.portsRun then .detect else x.lnk.link } }) := by
  unfold doDown
  exact (if_neg Bool.false_ne_true).trans (if_pos hd)

theorem foldl_answer (st : Status) (l : List Req) (x : Port) :
    (l.foldl (fun x r => x.answer r st) x).outq = x.outq ++ l.map (fun r => completion r st) ∧
    (l.foldl (fun x r => x.answer r st) x).lnk = x.lnk ∧
    ∀ r ∈ (l.foldl (fun x r => x.answer r st) x).reqs, r.held = true → r ∈ x.reqs ∧ ∀ y ∈ l, y.tag ≠ r.tag := by
  induction l generalizing x with
  | nil => exact ⟨(List.append_nil _).symm, rfl, fun r hr _ => ⟨hr, fun y hy => absurd hy (List.not_mem_nil)⟩⟩
  | cons a l ih =>
    obtain ⟨hout, hlnk, hreqs⟩ := ih (x.answer a st)
    refine ⟨?_, hlnk, fun r hr hh => ?_⟩
    · rw [List.foldl_cons, hout, List.map_cons]
      exact (List.append_assoc ..)
    · obtain ⟨hin, hne⟩ := hreqs r hr hh
      obtain ⟨z, hz, hzr⟩ := List.mem_map.mp hin
      split at hzr
      · subst hzr
        exact absurd hh (by simp [Req.held])
      · next htag =>
        subst hzr
        exact ⟨hz, fun y hy => by
          rcases List.mem_cons.mp hy with rfl | hy
          · exact fun h => htag h.symm
          · exact hne y hy⟩

/-- A port fenced: no request is held any more. -/
theorem fencePort_spec (p : Nat) (s : State) : ∃ t, fencePort p s = t ∧ Within p s t ∧ (t.port p).fenced = true ∧ (t.port p).fencedAt = s.now ∧
    (∀ r ∈ (t.port p).reqs, r.held = false) ∧ (t.port p).lnk = (s.port p).lnk ∧
    (t.port p).outq = (s.port p).outq ++ ((s.port p).reqs.filter Req.held).map (fun r => completion r .fenced) := by
  obtain ⟨hout, hlnk, hreqs⟩ := foldl_answer .fenced ((s.port p).reqs.filter Req.held) (s.port p)
  refine ⟨_, rfl, s.updPort_within .., ?_⟩
  rw [fencePort, State.updPort_port_self]
  refine ⟨rfl, rfl, fun r hr => ?_, hlnk, hout⟩
  by_contra hheld
  have hh : r.held = true := by simpa using hheld
  obtain ⟨hin, hne⟩ := hreqs r hr hh
  exact hne r (List.mem_filter.mpr ⟨hin, hh⟩) rfl

/-! ## Channels -/

theorem calNext_of_one {q k : Nat} (hcal : (s.pc q).cal = none) (hq : (s.pc q).calQueue = [k]) : calNext q s =
    (s.updPc q (fun x => { x with cal := some (k, 0), calQueue := x.calQueue.filter (fun j => decide (j ≠ k))
                                  calForced := x.calForced.filter (fun j => decide (j ≠ k)) })).updSlice q k
      (fun y => { y with calTemp := some (BitVec.ofInt 11 (s.layer k).temp), restTemp := none }) := by
  unfold calNext
  extract_lets x
  rw [if_neg (by simp [x, hcal]), show x.calQueue = [k] from hq]
  rfl

/-- A recalibration asked for where none runs and none waits. -/
theorem doRecal_spec {q k : Nat} (hk : k < 18) (hfit : s.fitted k = true) (hpow : (s.layer k).powered = true)
    (huse : (s.slice q k).inUse = true) (hcal : (s.pc q).cal = none) (hqueue : (s.pc q).calQueue = []) :
    ∃ t, doRecal q k s = t ∧ Fr 50331648 s t ∧ (t.pc q).cal = some (k, 0) ∧
      (t.slice q k).calTemp = some (BitVec.ofInt 11 (s.layer k).temp) := by
  have hself : (s.updPc q (fun x => if x.calQueue.contains k then x
      else { x with calQueue := x.calQueue ++ [k], calForced := x.calForced ++ [k] })).pc q =
      { s.pc q with calQueue := [k], calForced := (s.pc q).calForced ++ [k] } := by
    rw [State.updPc_pc, if_pos rfl, if_neg (by simp [hqueue]), hqueue]
    rfl
  have hrun : doRecal q k s = _ := (if_pos ⟨hk, hfit, hpow, huse⟩).trans
    (calNext_of_one ((congrArg Pc.cal hself).trans hcal) (congrArg Pc.calQueue hself))
  refine ⟨_, hrun, ?_, ?_, ?_⟩
  · exact Fr.step (State.updSlice_fr ..) (by decide) (Fr.step (State.updPc_fr ..) (by decide) (Fr.step (State.updPc_fr ..) (by decide) (Fr.refl ..)))
  · rw [State.updSlice_pc, State.updPc_pc, if_pos rfl]
  · rw [State.updSlice_slice, if_pos rfl]
    rfl

/-! ## Repairs and translations -/

theorem repCmd_whole {r : RepairReq} {f : State → Nat} (hsup : s.sup.restarting = false) :
    repCmd .whole f r s = { s with rep := { s.rep with
      result := BitVec.ofNat 3 (f s), confirm := false, todo := s.rep.todo ++ (if f s = 1 then [r] else []) } } := by
  unfold repCmd askRepair
  dsimp only
  split
  · rw [if_neg (by simp [hsup])]
  · simp

theorem xlate_device (hd : bitsOf s.rep.xInHi.toNat 13 12 = 0) :
    doXlate .whole s = xlateDevice (s.rep.xInLo.toNat + 2 ^ 32 * (s.rep.xInHi.toNat % 256)) 0 s := by
  unfold doXlate
  dsimp only
  rw [hd] <;> rfl

/-! ## The obligation, by its parts -/

theorem nearEnd_commits {p : PortId} {c : Instr} {k : Nat} {b : Bool} {l : BitVec 4} {e : List Nat} (hc : s.commits c)
    (hexec : exec c s = .next (commit c s)) (hk : k ≠ 3)
    (heff : ∀ m, actionEffect c s.currentView { s with mb := m } = doLoop p.val k b l e { s with mb := m })
    (hoff : (s.port p.val).lnk.link = .off) :
    ∃ t, exec c s = .next t ∧
      (t.port p.val).lnk.loopMode = BitVec.ofNat 2 k ∧ (t.port p.val).lnk.loopPattern = b ∧ (t.port p.val).lnk.loopLanes = l ∧
      (t.port p.val).lnk.link = .off ∧ otherPorts p.val s t ∧ t.mem = s.mem ∧
      ∀ i, i < 4 → ((t.port p.val).lane i).prbsErr =
        if l.getLsbD i then satAdd ((s.port p.val).lane i).prbsErr (e.getD i 0) else ((s.port p.val).lane i).prbsErr := by
  obtain ⟨m, hrun⟩ := exec_short (f := doLoop p.val k b l e) hc hexec heff (busy_of_fr rfl (doLoop_fr p.val k b l e))
  have hself := State.updPort_port_self (s := { s with mb := m }) p.val
    (fun x => { x with lnk := { x.lnk with loopMode := BitVec.ofNat 2 k, loopPattern := b, loopLanes := l } })
  have hset := ({ s with mb := m } : State).updPort_within p.val
    (fun x => { x with lnk := { x.lnk with loopMode := BitVec.ofNat 2 k, loopPattern := b, loopLanes := l } })
  have hloop : doLoop p.val k b l e { s with mb := m } = countPrbs p.val l e (State.updPort { s with mb := m } p.val
      (fun x => { x with lnk := { x.lnk with loopMode := BitVec.ofNat 2 k, loopPattern := b, loopLanes := l } })) := by
    unfold doLoop
    rw [if_pos (.inr hoff)]
    exact if_neg hk
  rw [hloop] at hrun
  generalize State.updPort { s with mb := m } p.val _ = u at hself hset hrun
  obtain ⟨hw, hport, hlanes⟩ := countPrbs_spec p.val l e u
  rw [hself] at hport
  refine ⟨_, hrun, by rw [hport], by rw [hport], by rw [hport], by rw [hport]; exact hoff, hset.others.trans hw.others,
    (hset.trans hw).fr.mem rfl, fun i hi => ?_⟩
  rw [hlanes i hi, hself]
  rfl

section
variable {p : PortId} (hp : s.portPresent p.val = true)
include hp

theorem retrain_commits (hc : s.commits (.retrain p)) (hl : (s.port p.val).lnk.link = .active) :
    ((s.port p.val).lnk.widthReq = none → ∃ t, exec (.retrain p) s = .next t ∧ (t.port p.val).lnk.link = .train ∧ (t.port p.val).lnk.cause = 2 ∧
      (t.port p.val).lnk.cRetrains = satInc (s.port p.val).lnk.cRetrains ∧ (t.port p.val).tx.session = (s.port p.val).tx.session ∧
      (t.port p.val).reqs = (s.port p.val).reqs ∧ otherPorts p.val s t ∧ t.mem = s.mem ∧ t.flt = s.flt) ∧
    ((s.port p.val).lnk.widthReq.isSome = true →
      ∃ t, exec (.retrain p) s = .next t ∧ (t.port p.val).lnk = { (s.port p.val).lnk with retrainNext := true } ∧
        otherPorts p.val s t ∧ t.mem = s.mem) := by
  obtain ⟨m, hrun⟩ := exec_short (f := doRetrain p.val) hc rfl (fun m => if_pos hp) (busy_of_fr rfl (doRetrain_fr p.val))
  rw [doRetrain_active (s := { s with mb := m }) hl] at hrun
  constructor
  · intro hw
    obtain ⟨t, ht, hfr, hothers, hport, hbooks, -⟩ := startRetrain_spec p.val 2 false false { s with mb := m }
    rw [if_neg (by change ¬ (s.port p.val).lnk.widthReq.isSome = true; simp [hw]), ht] at hrun
    refine ⟨t, hrun, by rw [hport]; rfl, by rw [hport]; rfl, by rw [hport]; rfl, ?_, by rw [hport]; rfl, hothers, hfr.mem rfl, hfr.flt rfl⟩
    rw [sameBooks] at hbooks
    rw [hbooks]
    rfl
  · intro hw
    rw [if_pos (show (State.port { s with mb := m } p.val).lnk.widthReq.isSome = true from hw)] at hrun
    have hself := State.updPort_port_self (s := { s with mb := m }) p.val (fun x => { x with lnk := { x.lnk with retrainNext := true } })
    exact ⟨_, hrun, congrArg Port.lnk hself, updPort_otherPorts p.val (fun x => { x with lnk := { x.lnk with retrainNext := true } }) { s with mb := m }, rfl⟩

theorem down_commits :
    (s.commits (.down p true) → ∃ t, exec (.down p true) s = .next t ∧ (t.port p.val).lnk.link = .off ∧
      (t.port p.val).lnk.down = true ∧ (t.port p.val).reqs = [] ∧ (t.port p.val).tx.session = false ∧ otherPorts p.val s t ∧
      t.mem = s.mem ∧ t.flt = s.flt) ∧
    (s.commits (.down p false) → (s.port p.val).lnk.down = true → ∃ t, exec (.down p false) s = .next t ∧
      (t.port p.val).lnk.down = false ∧ (t.port p.val).lnk.mgmtStart = true ∧ otherPorts p.val s t ∧ t.mem = s.mem ∧
      ((s.port p.val).lnk.link = .off → s.portUp p.val = true → s.portsRun = true → (t.port p.val).lnk.link = .detect)) := by
  constructor
  · intro hc
    obtain ⟨m, hrun⟩ := exec_short (f := doDown p.val true) hc rfl (fun m => if_pos hp) (busy_of_fr rfl (doDown_fr p.val true))
    obtain ⟨t, ht, hfr, hothers, hport⟩ := doDown_set p.val { s with mb := m }
    rw [ht] at hrun
    exact ⟨t, hrun, by rw [hport]; rfl, by rw [hport], by rw [hport]; rfl, by rw [hport]; rfl, hothers, hfr.mem rfl, hfr.flt rfl⟩
  · intro hc hd
    obtain ⟨m, hrun⟩ := exec_short (f := doDown p.val false) hc rfl (fun m => if_pos hp) (busy_of_fr rfl (doDown_fr p.val false))
    rw [doDown_clear (s := { s with mb := m }) hd] at hrun
    refine ⟨_, hrun, ?_, ?_, fun j hj => State.updPort_port_ne (s := { s with mb := m }) _ hj, rfl, fun hoff hup hall => ?_⟩
    · rw [State.updPort_port_self]
    · rw [State.updPort_port_self]
    · rw [State.updPort_port_self]
      exact if_pos ⟨hoff, hup, hall⟩

theorem farEnd_commits {b : Bool} {l : BitVec 4} (hc : s.commits (.farEndLoop p b l)) : ∃ t, exec (.farEndLoop p b l) s = .next t ∧
    (t.port p.val).lnk = { (s.port p.val).lnk with loopMode := 3, loopPattern := b, loopLanes := l } ∧ otherPorts p.val s t ∧
    t.mem = s.mem := by
  obtain ⟨m, hrun⟩ := exec_short (f := doLoop p.val 3 b l []) hc rfl (fun m => if_pos hp) (busy_of_fr rfl (doLoop_fr p.val 3 b l []))
  have hloop : doLoop p.val 3 b l [] { s with mb := m } = State.updPort { s with mb := m } p.val
      (fun x => { x with lnk := { x.lnk with loopMode := BitVec.ofNat 2 3, loopPattern := b, loopLanes := l } }) := by
    unfold doLoop
    rw [if_pos (.inl rfl)]
    exact if_pos rfl
  rw [hloop] at hrun
  refine ⟨_, hrun, ?_, fun j hj => State.updPort_port_ne (s := { s with mb := m }) _ hj, rfl⟩
  rw [State.updPort_port_self]
  rfl

theorem fences_commit :
    (s.commits (.fenceLift p) → ∃ t, exec (.fenceLift p) s = .next t ∧ t.port p.val = { s.port p.val with fenced := false } ∧
      otherPorts p.val s t ∧ t.mem = s.mem ∧ t.flt = s.flt) ∧
    (s.commits (.portFence p) → ∃ t, exec (.portFence p) s = .next t ∧ (t.port p.val).fenced = true ∧
      (t.port p.val).fencedAt = s.now ∧ (∀ r ∈ (t.port p.val).reqs, r.held = false) ∧
      (t.port p.val).outq = (s.port p.val).outq ++ ((s.port p.val).reqs.filter Req.held).map (fun r => completion r .fenced) ∧
      (t.port p.val).lnk = (s.port p.val).lnk ∧ otherPorts p.val s t ∧ t.mem = s.mem ∧ t.flt = s.flt) := by
  constructor
  · intro hc
    obtain ⟨m, hrun⟩ := exec_short (f := liftFence p.val) hc rfl (fun m => if_pos hp) (fun _ => rfl)
    have hself := State.updPort_port_self (s := { s with mb := m }) p.val (fun x => { x with fenced := false })
    exact ⟨_, hrun, hself, fun j hj => State.updPort_port_ne (s := { s with mb := m }) _ hj, rfl, rfl⟩
  · intro hc
    obtain ⟨m, hrun⟩ := exec_short (f := fencePort p.val) hc rfl (fun m => if_pos hp) (fun _ => rfl)
    obtain ⟨t, ht, hw, hfenced, hat, hreqs, hlnk, hout⟩ := fencePort_spec p.val { s with mb := m }
    rw [ht] at hrun
    exact ⟨t, hrun, hfenced, hat, hreqs, hout, hlnk, hw.others, hw.fr.mem rfl, hw.fr.flt rfl⟩

end

theorem xlate_commits {g : Seg} {addr : Nat} (hc : s.commits .xlate) (hv : s.currentView = .whole)
    (hd : bitsOf s.rep.xInHi.toNat 13 12 = 0) (haddr : addr = s.rep.xInLo.toNat + 2 ^ 32 * (s.rep.xInHi.toNat % 256))
    (hg : g = segOf s.rep.key (addr / 64)) :
    ∃ t, exec .xlate s = .next t ∧ t.rep.xDone = true ∧ t.mem = s.mem ∧ t.ports = s.ports ∧ t.flt = s.flt ∧
      (2 ^ s.devBits ≤ addr → t.rep.xResult = 2 ∧ t.rep.xPhys = 0 ∧ t.rep.xDevLo = 0 ∧ t.rep.xDevHi = 0) ∧
      (addr < 2 ^ s.devBits → t.rep.xResult = 0 ∧ t.rep.xDevLo = BitVec.ofNat 32 addr ∧
        t.rep.xPhys = packW [(g.q / 2, 4), (g.q % 2, 1), (g.bank, 4), (g.row, 14), (g.block, 4), (s.layerShown g, 5)]) := by
  obtain ⟨m, hrun⟩ := exec_short (f := doXlate .whole) hc rfl (fun m => by rw [hv]; rfl) (busy_of_fr rfl (doXlate_fr .whole))
  rw [xlate_device (s := { s with mb := m }) hd] at hrun
  change exec _ s = .next (xlateDevice (s.rep.xInLo.toNat + 2 ^ 32 * (s.rep.xInHi.toNat % 256)) 0 { s with mb := m }) at hrun
  rw [← haddr] at hrun
  subst hg
  by_cases hout : 2 ^ s.devBits ≤ addr
  · rw [show xlateDevice addr 0 { s with mb := m } = xlateDone 2 { s with mb := m } from if_pos hout] at hrun
    exact ⟨_, hrun, rfl, rfl, rfl, rfl, fun _ => ⟨rfl, rfl, rfl, rfl⟩, fun h => absurd hout (by omega)⟩
  · rw [show xlateDevice addr 0 { s with mb := m } = xlateOut (segOf s.rep.key (addr / 64)) addr 0 { s with mb := m } from if_neg hout] at hrun
    exact ⟨_, hrun, rfl, rfl, rfl, rfl, fun h => absurd h hout, fun _ => ⟨rfl, rfl, rfl⟩⟩

/-- A repair command in the whole-stack view, by its RESULT. -/
theorem repair_commits {c : Instr} {r : RepairReq} {f : State → Nat} (hc : s.commits c) (hexec : exec c s = .next (commit c s))
    (heff : ∀ m, actionEffect c s.currentView { s with mb := m } = repCmd .whole f r { s with mb := m })
    (hf : ∀ m, f { s with mb := m } = f s) :
    ∃ t, exec c s = .next t ∧ t.rep.confirm = false ∧ t.rep.result = BitVec.ofNat 3 (f s) ∧
      t.rep.todo = s.rep.todo ++ (if f s = 1 then [r] else []) ∧ t.mem = s.mem ∧ t.ports = s.ports ∧ t.flt = s.flt := by
  obtain ⟨m, hrun⟩ := exec_short (f := repCmd .whole f r) hc hexec heff (busy_of_fr rfl (repCmd_fr .whole f r))
  obtain ⟨-, -, -, -, hsup⟩ := hc
  rw [repCmd_whole (s := { s with mb := m }) hsup, hf m] at hrun
  exact ⟨_, hrun, rfl, rfl, rfl, rfl, rfl, rfl⟩

/-- A repair command or a translation in a port's view is refused by its RESULT. -/
theorem refused_in_port {c : Instr} {f : State → State} {i : PortId} (hexec : exec c s = .next (commit c s))
    (hanswer : answersPort c = true) (hfield : storesField c = false) (hlisten : s.listens = true) (hfollow : s.following = true)
    (hact : s.actsNow (actionAddr c) = true) (hsup : s.sup.restarting = false) (hv : s.currentView = .port i)
    (heff : ∀ u, actionEffect c (.port i) u = f u) (hbusy : ∀ u, (f u).mb.busy = u.mb.busy) : ∃ m, exec c s = .next (f { s with mb := m }) := by
  obtain ⟨m, hpoint, hm, -⟩ := s.pointed_eq c
  have haccept : s.accepts c = true := (if_neg (by simp [hfield])).trans hact
  refine ⟨m, ?_⟩
  rw [hexec, commit_of_answers hlisten hfollow haccept hanswer hsup, hpoint, hv, heff, closeTransfer_of_idle]
  rw [hbusy]
  exact hm.trans (busy_of_listens hlisten)

/-- Settles O57: each action by `exec_short` and the lemma about what it does. -/
theorem registerActionsTakeEffectAtCommit : Obligations.RegisterActionsTakeEffectAtCommit := by
  refine ⟨fun p s hp => ⟨fun hc hl => (retrain_commits hp hc hl).1, fun hc hl => (retrain_commits hp hc hl).2, (down_commits hp).1,
      (down_commits hp).2, fun b l e hoff c m hcm hc => ?near, fun b l hc => farEnd_commits hp hc, (fences_commit hp).1, (fences_commit hp).2⟩,
    fun i s hc hset => ?clear, fun n b k q s hq hc hk hfit hpow huse hcal hqueue => ?recal, fun n s hc => ?pred,
    fun g addr s hc hv hd haddr hg => xlate_commits hc hv hd haddr hg, fun n b k x q s hq hv => ⟨fun hc => ?mapOut, fun hc => ?rank, fun hc => ?layer⟩,
    fun c p s hcases hlisten hfollow hv hact hsup => ?port, fun p s h => ?unfollowed, fun s hlisten hfollow hv hact hsup => ?waits⟩
  case near =>
    rcases hcm with h | h
    · obtain ⟨rfl, rfl⟩ := Prod.mk.inj h
      exact nearEnd_commits hc rfl (by decide) (fun m => if_pos hp) hoff
    · obtain ⟨rfl, rfl⟩ := Prod.mk.inj h
      exact nearEnd_commits hc rfl (by decide) (fun m => if_pos hp) hoff
  case clear =>
    obtain ⟨m, hrun⟩ := exec_short (f := fun u => u.updCset i.val (fun c => { c with cycle := 0, hiLatch := 0, ovf := 0, cnt := [] }))
      hc rfl (fun m => if_pos hset) (fun _ => rfl)
    refine ⟨_, hrun, ?_, fun j hj => ?_, rfl, rfl, rfl⟩
    · rw [State.updCset_cset, if_pos rfl]
      rfl
    · rw [State.updCset_cset, if_neg hj]
      rfl
  case recal =>
    subst hq
    obtain ⟨m, hrun⟩ := exec_short (f := doRecal (2 * n.val + b2n b) k.toNat) hc rfl (fun m => rfl) (busy_of_fr rfl (doRecal_fr _ _))
    obtain ⟨t, ht, hfr, hcalled, htemp⟩ := doRecal_spec (s := { s with mb := m }) hk hfit hpow huse hcal hqueue
    rw [ht] at hrun
    exact ⟨t, hrun, hcalled, htemp, hfr.mem rfl, hfr.ports rfl, hfr.flt rfl⟩
  case pred =>
    obtain ⟨m, hrun⟩ := exec_short (f := doPredReset n.val) hc rfl (fun m => rfl) (fun _ => rfl)
    refine ⟨_, hrun, ?_, ?_, fun q h0 h1 => ?_, rfl, rfl, rfl⟩
    · rw [doPredReset, State.updPc_pc, if_neg (by omega), State.updPc_pc, if_pos rfl]
    · rw [doPredReset, State.updPc_pc, if_pos rfl]
    · rw [doPredReset, State.updPc_pc, if_neg h1, State.updPc_pc, if_neg h0]
      rfl
  case mapOut =>
    subst hq
    exact repair_commits (f := fun u => u.mapOutResult _ _ _) hc rfl (fun m => by rw [hv]; rfl) (fun m => rfl)
  case rank => exact repair_commits (f := fun u => u.retireRankResult _ _) hc rfl (fun m => by rw [hv]; rfl) (fun m => rfl)
  case layer => exact repair_commits (f := fun u => u.retireLayerResult _) hc rfl (fun m => by rw [hv]; rfl) (fun m => rfl)
  case port =>
    rcases hcases with rfl | ⟨n, b, k, x, rfl⟩ | ⟨n, k, rfl⟩ | ⟨k, rfl⟩
    · obtain ⟨m, hrun⟩ := refused_in_port (f := xlateDone 5) rfl rfl rfl hlisten hfollow hact hsup hv (fun u => rfl) (fun _ => rfl)
      exact ⟨_, hrun, fun _ => rfl, fun h => absurd rfl h, rfl⟩
    all_goals
      obtain ⟨m, hrun⟩ := refused_in_port (f := fun u => { u with rep.result := 5, rep.confirm := false }) rfl rfl rfl hlisten hfollow hact hsup hv
        (fun u => rfl) (fun _ => rfl)
      exact ⟨_, hrun, fun h => Instr.noConfusion h, fun _ => rfl, rfl⟩
  case unfollowed =>
    exact ⟨congrArg Host.Outcome.next (commit_unfollowed h), congrArg Host.Outcome.next (commit_unfollowed h),
      congrArg Host.Outcome.next (commit_unfollowed h), congrArg Host.Outcome.next (commit_unfollowed h)⟩
  case waits =>
    obtain ⟨m, hpoint, -⟩ := s.pointed_eq .journalFlush
    have hrun : exec .journalFlush s = .next (carryOut .journalFlush s.currentView (s.pointed .journalFlush)) :=
      congrArg Host.Outcome.next (if_pos (by rw [hlisten, hfollow]; rfl))
    have hcarry : carryOut .journalFlush .whole { s with mb := m } = closeTransfer { beginOp 3 { s with mb := m } with
        sup.queue := s.sup.queue ++ [.command .journalFlush .whole] } := by
      have haccept : ({ s with mb := m } : State).accepts .journalFlush = true := (if_neg (by simp [storesField])).trans hact
      unfold carryOut
      rw [if_pos (by rw [haccept]; rfl), if_pos (by change (true && s.sup.restarting) = true; rw [hsup]; rfl)]
      rfl
    rw [hpoint, hv, hcarry] at hrun
    exact ⟨_, hrun, rfl, rfl, rfl⟩

end Sys2Proof.Machine
end

section
/-! SUPPORT. Lanes whose corrections and markers are in order, slots received, and an accepted flit (R172, R174, R175, R189 to R191, R197; O24). -/

namespace Sys2Proof.Machine

open Host

variable {s t u : State} {p : Nat} {x y : Port}

/-! ## Lanes in order -/

/-- No lane has failed by corrections or by missed markers (R174, R175). -/
def Port.sound (x : Port) : Prop := ∀ l, l < 4 → (x.lane l).missed < 2 ∧ (x.lane l).noisy = false

theorem Port.receiver_lt {j : Nat} (x : Port) (hj : j < 4) : x.receiver j < 4 := by
  unfold Port.receiver
  cases h : (List.range 4).find? (fun l => x.lnk.lanesLocked.getLsbD l && decide ((x.lane l).laneId.toNat = j)) with
  | none => exact hj
  | some l => exact List.mem_range.mp (List.mem_of_find?_eq_some h)

theorem lt_of_mem_lanesOf {m : BitVec 4} {j : Nat} (h : j ∈ lanesOf m) : j < 4 := List.mem_range.mp (List.mem_of_mem_filter h)

/-- Lanes in order fail none. -/
theorem failNoisy_of_sound (h : (s.port p).sound) : failNoisy p s = s := by
  refine if_pos (List.filter_eq_nil_iff.mpr fun j hj => ?_)
  obtain ⟨hmissed, hquiet⟩ := h _ ((s.port p).receiver_lt (lt_of_mem_lanesOf hj))
  simp [hquiet]
  omega

theorem Port.sound_congr (h : y.lnk.lanes = x.lnk.lanes) (hx : x.sound) : y.sound := fun l hl => by
  rw [Port.lane, h]
  exact hx l hl

/-! ## Symbols corrected -/

/-- What a reception with these corrections makes of lane l. -/
def Lane.corrected (cs : List Nat) (now l : Nat) (y : Lane) : Lane := if cs.getD l 0 = 0 then y else y.correct now (cs.getD l 0)

theorem countCorrected_eq (p : Nat) (cs : List Nat) (s : State) (n : Nat) :
    forN n (fun l s => if cs.getD l 0 = 0 then s else s.updPort p (·.updLane l (fun y => y.correct s.now (cs.getD l 0)))) s =
    forN n (fun l t => if (!decide (cs.getD l 0 = 0)) = true then t.updPort p (·.updLane l (fun y => y.correct s.now (cs.getD l 0))) else t) s := by
  induction n with
  | zero => rfl
  | succ n ih =>
    have hnow := ((forN_updLane (p := p) (c := fun l => !decide (cs.getD l 0 = 0)) (f := fun l y => y.correct s.now (cs.getD l 0))
      (fun _ _ => rfl) n s).1.fr.now rfl)
    rw [forN_succ, forN_succ, ih, hnow]
    by_cases hc : cs.getD n 0 = 0
    · rw [if_pos hc, if_neg (by rw [decide_eq_true hc]; decide)]
    · rw [if_neg hc, if_pos (by rw [decide_eq_false hc]; rfl)]

theorem countCorrected_spec (p : Nat) (cs : List Nat) (s : State) : Within p s (countCorrected p cs s) ∧
    (countCorrected p cs s).port p = { s.port p with lnk := { (s.port p).lnk with lanes := ((countCorrected p cs s).port p).lnk.lanes } } ∧
    ∀ l, l < 4 → ((countCorrected p cs s).port p).lane l = ((s.port p).lane l).corrected cs s.now l := by
  obtain ⟨hw, hp, hl⟩ := forN_updLane (p := p) (c := fun l => !decide (cs.getD l 0 = 0)) (f := fun l y => y.correct s.now (cs.getD l 0))
    (fun _ _ => rfl) 4 s
  rw [← countCorrected_eq] at hw hp hl
  refine ⟨hw, hp, fun l hlt => (hl l).trans ?_⟩
  unfold Lane.corrected
  by_cases hc : cs.getD l 0 = 0
  · rw [if_neg (by rw [decide_eq_true hc]; exact fun h => Bool.false_ne_true h.2), if_pos hc]
  · rw [if_pos ⟨hlt, by rw [decide_eq_false hc]; rfl⟩, if_neg hc]

theorem countCorrected_none {cs : List Nat} (h : ∀ l, l < 4 → cs.getD l 0 = 0) (p : Nat) (s : State) : countCorrected p cs s = s := by
  have hall (n : Nat) (hn : n ≤ 4) : forN n (fun l s => if cs.getD l 0 = 0 then s
      else s.updPort p (·.updLane l (fun y => y.correct s.now (cs.getD l 0)))) s = s := by
    induction n with
    | zero => rfl
    | succ n ih => rw [forN_succ, ih (by omega), if_pos (h n (by omega))]
  exact hall 4 le_rfl

theorem Lane.corrected_missed (cs : List Nat) (now l : Nat) (y : Lane) : (y.corrected cs now l).missed = y.missed := by
  unfold Lane.corrected
  split <;> rfl

theorem Port.lanesGood.sound {now : Nat} {cs : List Nat} (h : x.lanesGood now cs) (hy : ∀ l, l < 4 → y.lane l = (x.lane l).corrected cs now l) :
    y.sound := fun l hl => by
  rw [hy l hl, Lane.corrected_missed]
  exact h l hl

/-! ## Slots received -/

/-- A slot takes a credit of VC v. -/
def slotTakes (f : BitVec 608) (v : Nat) : Nat := b2n (decide (bitsOf f.toNat 1 0 ≠ 3) && decide (slotVc (bitsOf f.toNat 1 0) = v))

theorem flitSlots_eq (f : BitVec 1280) (v : Nat) : flitSlots f v = slotTakes (flitSlot f 0) v + slotTakes (flitSlot f 1) v := by
  unfold flitSlots slotTakes b2n
  simp only [List.filter_cons, List.filter_nil]
  split <;> split <;> simp_all

/-- The books after a slot with these items. -/
def PortTx.takesSlot (f : BitVec 608) (l : List RxItem) (y : PortTx) : PortTx :=
  { y with rx := y.rx ++ l, peer0 := y.peer0 - slotTakes f 0, peer1 := y.peer1 - slotTakes f 1, peer2 := y.peer2 - slotTakes f 2 }

theorem receiveSlot_idle {f : BitVec 608} (h3 : bitsOf f.toNat 1 0 = 3) {l : List RxItem} (hl : slotItems f = some l) :
    receiveSlot p f s = s ∧ l = [] := by
  constructor
  · unfold receiveSlot
    dsimp only
    rw [if_pos h3, hl]
    rfl
  · unfold slotItems at hl
    rw [h3] at hl
    change (if f = idleSlot then some [] else none) = some l at hl
    split at hl
    · exact (Option.some.inj hl).symm
    · exact absurd hl (by simp)

/-- The books of a slot that takes a credit of VC v. -/
def Port.spendsSlot (v k : Nat) (y : Port) : Port :=
  let y := (match v with
    | 0 => { y with tx.peer0 := y.tx.peer0 - 1, aud.rcvd0 := y.aud.rcvd0 + 1 }
    | 1 => { y with tx.peer1 := y.tx.peer1 - 1, aud.rcvd1 := y.aud.rcvd1 + 1 }
    | _ => { y with tx.peer2 := y.tx.peer2 - 1, aud.rcvd2 := y.aud.rcvd2 + 1 })
  { y with aud.tagOpenCnt := y.aud.tagOpenCnt + BitVec.ofNat 16 k }

theorem receiveSlot_eq {f : BitVec 608} {l : List RxItem} (hl : slotItems f = some l) (h3 : bitsOf f.toNat 1 0 ≠ 3)
    (hpeer : (s.port p).peer (slotVc (bitsOf f.toNat 1 0)) ≠ 0) :
    receiveSlot p f s = (s.updPort p (Port.spendsSlot (slotVc (bitsOf f.toNat 1 0)) (slotHeaders f))).updPort p
      (fun y => { y with tx.rx := y.tx.rx ++ l }) := by
  unfold receiveSlot
  dsimp only
  rw [if_neg h3, if_neg hpeer, hl] <;> rfl

theorem slotVc_cases (typ : Nat) : slotVc typ = 0 ∨ slotVc typ = 1 ∨ slotVc typ = 2 := by
  unfold slotVc
  split <;> simp

theorem slotTakes_of_typed {f : BitVec 608} (h3 : bitsOf f.toNat 1 0 ≠ 3) (v : Nat) :
    slotTakes f v = if slotVc (bitsOf f.toNat 1 0) = v then 1 else 0 := by
  simp [slotTakes, h3, b2n]

theorem spendsSlot_spec {f : BitVec 608} (h3 : bitsOf f.toNat 1 0 ≠ 3) (k : Nat) (l : List RxItem) (y : Port) :
    ∃ a, { y.spendsSlot (slotVc (bitsOf f.toNat 1 0)) k with tx.rx := (y.spendsSlot (slotVc (bitsOf f.toNat 1 0)) k).tx.rx ++ l } =
      { y with tx := y.tx.takesSlot f l, aud := a } ∧ a.seqSinceAudit = y.aud.seqSinceAudit := by
  unfold PortTx.takesSlot
  rw [slotTakes_of_typed h3, slotTakes_of_typed h3, slotTakes_of_typed h3]
  rcases slotVc_cases (bitsOf f.toNat 1 0) with h | h | h <;> rw [h] <;> exact ⟨_, rfl, rfl⟩

/-- A good slot for which a credit is left. -/
theorem receiveSlot_good {f : BitVec 608} {l : List RxItem} (hl : slotItems f = some l) (hpeer : ∀ v, v < 3 → slotTakes f v ≤ (s.port p).peer v) :
    ∃ t a, receiveSlot p f s = t ∧ Within p s t ∧
      t.port p = { s.port p with tx := (s.port p).tx.takesSlot f l, aud := a } ∧ a.seqSinceAudit = (s.port p).aud.seqSinceAudit := by
  by_cases h3 : bitsOf f.toNat 1 0 = 3
  · obtain ⟨hslot, rfl⟩ := receiveSlot_idle (p := p) (s := s) h3 hl
    refine ⟨s, (s.port p).aud, hslot, .refl .., ?_, rfl⟩
    have hnone (v : Nat) : slotTakes f v = 0 := by simp [slotTakes, h3, b2n]
    simp [PortTx.takesSlot, hnone]
  · have hvc : slotVc (bitsOf f.toNat 1 0) < 3 := by rcases slotVc_cases (bitsOf f.toNat 1 0) with h | h | h <;> omega
    have hleft := hpeer _ hvc
    rw [slotTakes_of_typed h3, if_pos rfl] at hleft
    obtain ⟨a, ha, haudit⟩ := spendsSlot_spec h3 (slotHeaders f) l (s.port p)
    refine ⟨_, a, receiveSlot_eq hl h3 (by omega), (State.updPort_within ..).trans (State.updPort_within ..), ?_, haudit⟩
    rw [State.updPort_port_self, State.updPort_port_self]
    exact ha

/-! ## An accepted flit -/

/-- The port as an accepted SEQ flit finds it. -/
def Port.accepting (f : BitVec 1280) (x : Port) : Port :=
  { x with
    tx.expect := x.tx.expect + 1, tx.ackOut := x.tx.expect, tx.discarding := false, aud.seqSinceAudit := true
    aud.snap := if carriesAudit (flitSlot f 0) ∨ carriesAudit (flitSlot f 1) then
        some ({ v0 := x.aud.rcvd0, v1 := x.aud.rcvd1, v2 := x.aud.rcvd2, tags := x.aud.tagOpenCnt }, x.aud.atAck) else x.aud.snap
    lnk := if x.lnk.rxNext.any (fun e => decide (e.2 = x.tx.expect + 1)) then
        { x.lnk with rxLanes := (x.lnk.rxNext.getD (0, 0)).1, rxNext := none } else x.lnk }

theorem acceptSeq_eq (p : Nat) (f : BitVec 1280) (s : State) : acceptSeq p f s =
    let a := (pmcCount p 0x01 1 s).updPort p (Port.accepting f)
    let b := if bitsOf (f.toNat % 2 ^ 32) 31 30 = 3 then a
      else creditReturn p (bitsOf (f.toNat % 2 ^ 32) 31 30) (bitsOf (f.toNat % 2 ^ 32) 29 26 + 1) a
    serveOthers p (receiveSlot p (flitSlot f 1) (receiveSlot p (flitSlot f 0) b)) := by
  unfold acceptSeq Port.accepting
  with_reducible rfl

theorem Port.accepting_lanes (f : BitVec 1280) (x : Port) : (x.accepting f).lnk.lanes = x.lnk.lanes := by
  unfold Port.accepting
  dsimp only
  split <;> rfl

/-- An accepted flit whose slots are good, and for which credits are left. -/
theorem acceptSeq_good {f : BitVec 1280} {a b : List RxItem} (h3 : bitsOf (f.toNat % 2 ^ 32) 31 30 = 3)
    (ha : slotItems (flitSlot f 0) = some a) (hb : slotItems (flitSlot f 1) = some b)
    (hpeer : ∀ v, v < 3 → flitSlots f v ≤ (s.port p).peer v) (hplain : Port.plainRx ((s.port p).tx.rx ++ a ++ b)) :
    ∃ t, acceptSeq p f s = t ∧ Linked p s t ∧ (t.port p).tx = (((s.port p).accepting f).tx.takesSlot (flitSlot f 0) a).takesSlot (flitSlot f 1) b ∧
      (t.port p).reqs = (s.port p).reqs ∧ (t.port p).outq = (s.port p).outq ∧ (t.port p).aud.seqSinceAudit = true ∧
      (t.port p).lnk.lanes = (s.port p).lnk.lanes := by
  have hfound := (pmcCount_linked p p 0x01 1 s).trans ((pmcCount p 0x01 1 s).updPort_within p (Port.accepting f)).linked
  have hport : ((pmcCount p 0x01 1 s).updPort p (Port.accepting f)).port p = (s.port p).accepting f := by
    rw [State.updPort_port_self, pmcCount_port]
  rw [acceptSeq_eq]
  dsimp only
  rw [if_pos h3]
  generalize (pmcCount p 0x01 1 s).updPort p (Port.accepting f) = c at hfound hport ⊢
  have hleft (v : Nat) (hv : v < 3) : slotTakes (flitSlot f 0) v + slotTakes (flitSlot f 1) v ≤ (c.port p).peer v := by
    rw [← flitSlots_eq, hport]
    exact hpeer v hv
  obtain ⟨d, a0, hd, hdw, hdp, hd0⟩ := receiveSlot_good (p := p) (s := c) ha (fun v hv => (Nat.le_add_right ..).trans (hleft v hv))
  have hleft' (v : Nat) (hv : v < 3) : slotTakes (flitSlot f 1) v ≤ (d.port p).peer v := by
    have := hleft v hv
    rw [hdp]
    obtain rfl | rfl | rfl : v = 0 ∨ v = 1 ∨ v = 2 := by omega
    · change _ ≤ (c.port p).tx.peer0 - _
      change _ ≤ (c.port p).tx.peer0 at this
      omega
    · change _ ≤ (c.port p).tx.peer1 - _
      change _ ≤ (c.port p).tx.peer1 at this
      omega
    · change _ ≤ (c.port p).tx.peer2 - _
      change _ ≤ (c.port p).tx.peer2 at this
      omega
  obtain ⟨e, a1, he, hew, hep, he1⟩ := receiveSlot_good hb hleft'
  have hrx : (e.port p).tx.rx = (s.port p).tx.rx ++ a ++ b := by rw [hep, hdp, hport]; rfl
  rw [hd, he, serveOthers_of_plain (hrx ▸ hplain)]
  refine ⟨e, rfl, hfound.trans (hdw.trans hew).linked, by rw [hep, hdp, hport], by rw [hep, hdp, hport]; rfl, by rw [hep, hdp, hport]; rfl, ?_, ?_⟩
  · rw [hep]
    exact he1.trans (by rw [hdp]; exact hd0.trans (by rw [hport]; rfl))
  · rw [hep, hdp, hport]
    exact Port.accepting_lanes f _

end Sys2Proof.Machine
end

section
/-! SUPPORT. Flits received: acknowledged, accepted, asked for again, dropped; codewords that cannot be corrected; markers; what lanes deliver (R172, R174, R180, R198; O24). -/

namespace Sys2Proof.Machine

open Host

variable {s t u : State} {p : Nat} {x y : Port}

/-! ## Acknowledgement -/

/-- The replay buffer without the d + 1 oldest flits. -/
def Port.acked (d : Nat) (x : Port) : Port :=
  { x with
    tx.replay := x.tx.replay.drop (d + 1), tx.expiries := 0
    aud.atAck := (match x.tx.replay[d]? with | some f => f.point | none => x.aud.atAck) }

theorem processAck_known {a : BitVec 12} {d : Nat} (hd : d = (a - (s.port p).oldest).toNat) (h : d < (s.port p).tx.replay.length) :
    ∃ t, processAck p a s = t ∧ Within p s t ∧ t.port p = { (s.port p).acked d with tx := (t.port p).tx } ∧
      sameBooks ((s.port p).acked d).tx (t.port p).tx := by
  have hrun : processAck p a s = noteHeld p (s.updPort p (Port.acked d)) := by
    subst hd
    unfold processAck Port.acked
    exact if_pos h
  obtain ⟨t, ht, hw, hp, hbooks⟩ := noteHeld_spec p (s.updPort p (Port.acked d))
  rw [State.updPort_port_self] at hp hbooks
  exact ⟨t, hrun.trans ht, (State.updPort_within ..).trans hw, hp, hbooks⟩

/-! ## A flit with IDLE slots that returns credits of VC 1 -/

theorem idleSlot_type : bitsOf idleSlot.toNat 1 0 = 3 := by
  have hlt : 3 < 2 ^ 608 := lt_of_lt_of_le (by decide : 3 < 2 ^ 2) (Nat.pow_le_pow_right (by decide) (by decide))
  have hnat : idleSlot.toNat = 3 := by
    unfold idleSlot
    rw [BitVec.ofNat_eq_ofNat, BitVec.toNat_ofNat, Nat.mod_eq_of_lt hlt]
  rw [hnat]
  rfl

theorem slotItems_idle : slotItems idleSlot = some [] := by
  unfold slotItems
  rw [idleSlot_type]
  exact if_pos rfl

theorem receiveSlot_idleSlot (p : Nat) (s : State) : receiveSlot p idleSlot s = s :=
  (receiveSlot_idle idleSlot_type slotItems_idle).1

theorem acceptSeq_credit {f : BitVec 1280} (h1 : bitsOf (f.toNat % 2 ^ 32) 31 30 = 1)
    (hroom : (s.port p).tx.held1 + bitsOf (f.toNat % 2 ^ 32) 29 26 + 1 ≤ (s.port p).tx.grant1)
    (h0 : flitSlot f 0 = idleSlot) (hi : flitSlot f 1 = idleSlot) (hplain : Port.plainRx (s.port p).tx.rx) :
    ∃ t, acceptSeq p f s = t ∧ Linked p s t ∧ (t.port p).lnk.lanes = (s.port p).lnk.lanes ∧
      sameBooks { (s.port p).tx with
        expect := (s.port p).tx.expect + 1, ackOut := (s.port p).tx.expect, discarding := false
        held1 := (s.port p).tx.held1 + (bitsOf (f.toNat % 2 ^ 32) 29 26 + 1) } (t.port p).tx := by
  have hfound := (pmcCount_linked p p 0x01 1 s).trans ((pmcCount p 0x01 1 s).updPort_within p (Port.accepting f)).linked
  have hport : ((pmcCount p 0x01 1 s).updPort p (Port.accepting f)).port p = (s.port p).accepting f := by
    rw [State.updPort_port_self, pmcCount_port]
  rw [acceptSeq_eq]
  dsimp only
  rw [if_neg (by omega), h1, h0, hi]
  generalize (pmcCount p 0x01 1 s).updPort p (Port.accepting f) = c at hfound hport ⊢
  have hleft : bitsOf (f.toNat % 2 ^ 32) 29 26 + 1 ≤ (c.port p).room 1 := by
    rw [hport]
    change _ ≤ (s.port p).tx.grant1 - (s.port p).tx.held1
    omega
  obtain ⟨d, hd, hdw, hdp, hbooks⟩ := creditReturn_within hleft
  have hrx : (d.port p).tx.rx = (s.port p).tx.rx := by rw [hbooks, hport]; rfl
  rw [hd, receiveSlot_idleSlot, receiveSlot_idleSlot, serveOthers_of_plain (hrx ▸ hplain)]
  refine ⟨d, rfl, hfound.trans hdw.linked, ?_, ?_⟩
  · rw [hdp, hport]
    exact Port.accepting_lanes f _
  · rw [hport] at hbooks
    exact hbooks

/-! ## Flits lost -/

/-- The port that asks for a replay of what it expects. -/
def Port.asksAgain (now : Nat) (x : Port) : Port :=
  { x with
    wire := x.wire ++ x.sent [x.linkFlit (.retryReq x.tx.expect.toNat)]
    tx := { x.tx with discarding := true, retryAt := now, cRetrySent := satInc x.tx.cRetrySent } }

theorem lostFlit_first (hs : (s.port p).inSession = true) (hd : (s.port p).tx.discarding = false) :
    lostFlit p s = s.updPort p (Port.asksAgain s.now) := by
  unfold lostFlit
  rw [if_neg (by simp [hs, hd])]
  dsimp only
  rw [sendLink_eq, State.updPort_updPort]
  refine State.updPort_congr ?_
  rw [State.updPort_port_self]
  rfl

/-- A lost flit leaves the port discarding, whatever it did before. -/
theorem lostFlit_spec (hs : (s.port p).inSession = true) : Within p s (lostFlit p s) ∧ ((lostFlit p s).port p).tx.discarding = true ∧
    ((lostFlit p s).port p).tx.expect = (s.port p).tx.expect ∧ ((lostFlit p s).port p).lnk = (s.port p).lnk := by
  cases hd : (s.port p).tx.discarding with
  | true =>
    rw [show lostFlit p s = s from if_pos (.inr hd)]
    exact ⟨.refl .., hd, rfl, rfl⟩
  | false =>
    rw [lostFlit_first hs hd]
    refine ⟨State.updPort_within .., ?_⟩
    rw [State.updPort_port_self]
    exact ⟨rfl, rfl, rfl⟩

theorem faultMany_of_quiet_port {n k : Nat} (h : 16 ≤ n ∧ n < 80) (hk : k ≠ 0) (d : EventDetail) (hq : s.quiet n) :
    faultMany n k d s = (s.withEvent n).updSrc n (fun x => { x with total := satAdd x.total (k - 1) }) := by
  rw [← fault_of_quiet_port h d hq]
  exact if_neg hk

theorem faultMany_total {n k : Nat} (h : 16 ≤ n ∧ n < 80) (hk : k ≠ 0) (d : EventDetail) (hq : s.quiet n) :
    ∃ t, faultMany n k d s = t ∧ Fr 1024 s t ∧ (t.src n).total = satAdd (satInc (s.src n).total) (k - 1) := by
  refine ⟨_, faultMany_of_quiet_port h hk d hq, (s.withEvent_fr n).trans ((s.withEvent n).updSrc_fr ..), ?_⟩
  rw [State.updSrc_src, if_pos rfl, State.withEvent_src_self]

/-! ## The course of a flit -/

/-- The port's receiver awake. -/
def State.rxAwake (p : Nat) (s : State) : State := s.updPort p (fun x => { x with rxHush := false })

theorem active_of_inSession (h : x.inSession = true) : x.lnk.link = .active := by
  simp only [Port.inSession, Bool.and_eq_true, decide_eq_true_eq] at h
  exact h.1.1.1

/-- A flit finds the port awake and its corrections counted. -/
structure Counted (p : Nat) (cs : List Nat) (s t : State) : Prop where
  within : Within p s t
  port : t.port p = { s.port p with rxHush := false, lnk := { (s.port p).lnk with lanes := (t.port p).lnk.lanes } }
  lanes : ∀ l, l < 4 → (t.port p).lane l = ((s.port p).lane l).corrected cs s.now l

theorem counted_of (p : Nat) (cs : List Nat) (s : State) : Counted p cs s (countCorrected p cs (s.rxAwake p)) := by
  obtain ⟨hw, hp, hl⟩ := countCorrected_spec p cs (s.rxAwake p)
  have hself : (s.rxAwake p).port p = { s.port p with rxHush := false } := State.updPort_port_self ..
  rw [hself] at hp hl
  exact ⟨(State.updPort_within ..).trans hw, hp, hl⟩

theorem Counted.inSession {cs : List Nat} (h : Counted p cs s t) : (t.port p).inSession = (s.port p).inSession := by
  rw [h.port]
  rfl

theorem Counted.tx {cs : List Nat} (h : Counted p cs s t) : (t.port p).tx = (s.port p).tx := by rw [h.port]

theorem Counted.oldest {cs : List Nat} (h : Counted p cs s t) : (t.port p).oldest = (s.port p).oldest := by
  unfold Port.oldest
  rw [h.tx]

theorem exec_flit (i : PortId) {f : BitVec 1280} (cs : List Nat) (hl : (s.port i.val).lnk.link = .active) (hcrc : flitCrcOk f = true)
    (hr : (s.port i.val).rung = 0) : exec (.flitReceived i (.flit f cs)) s =
      .next (failNoisy i.val (goodFlit i.val f (countCorrected i.val cs (s.rxAwake i.val)))) := by
  have hrung : ((countCorrected i.val cs (s.rxAwake i.val)).port i.val).rung = 0 := by rw [(counted_of i.val cs s).port]; exact hr
  change execFlitReceived i (.flit f cs) s = _
  unfold execFlitReceived
  rw [if_neg (not_not.mpr hl)]
  change Outcome.next (failNoisy i.val (if flitCrcOk f then takeFlit i.val f (countCorrected i.val cs (s.rxAwake i.val)) else _)) = _
  rw [if_pos hcrc]
  unfold takeFlit
  rw [if_neg (fun h => h.2 hrung)]

theorem goodFlit_seq {f : BitVec 1280} (h0 : f.toNat % 4 = 0) (hs : (s.port p).inSession = true) : goodFlit p f s =
    let t := processAck p (BitVec.ofNat 12 (f.toNat % 2 ^ 32 / 2 ^ 14)) s
    if BitVec.ofNat 12 (f.toNat % 2 ^ 32 / 4) - (s.port p).tx.expect = 0 then acceptSeq p f t
    else if (BitVec.ofNat 12 (f.toNat % 2 ^ 32 / 4) - (s.port p).tx.expect).toNat < 2048 then lostFlit p t else t := by
  have hkind : f.toNat % 2 ^ 32 % 4 = 0 := by omega
  unfold goodFlit
  dsimp only
  rw [hkind]
  exact if_neg (by simp [hs])

/-! ## The obligation, by its parts -/

section
variable {i : PortId} {cs : List Nat} {f : BitVec 1280} (hs : (s.port i.val).inSession = true) (hr : (s.port i.val).rung = 0)
  (hlen : (s.port i.val).tx.replay.length ≤ 256) (hgood : (s.port i.val).lanesGood s.now cs)
include hs hr hgood

/-- A SEQ flit with a good CRC, by what is made of it once it is counted. -/
theorem exec_seqFlit (hcrc : flitCrcOk f = true) (h0 : f.toNat % 4 = 0) {v : State}
    (hv : (let c := countCorrected i.val cs (s.rxAwake i.val)
      let t := processAck i.val (BitVec.ofNat 12 (f.toNat % 2 ^ 32 / 2 ^ 14)) c
      if BitVec.ofNat 12 (f.toNat % 2 ^ 32 / 4) - (s.port i.val).tx.expect = 0 then acceptSeq i.val f t
      else if (BitVec.ofNat 12 (f.toNat % 2 ^ 32 / 4) - (s.port i.val).tx.expect).toNat < 2048 then lostFlit i.val t else t) = v)
    (hlanes : (v.port i.val).lnk.lanes = ((countCorrected i.val cs (s.rxAwake i.val)).port i.val).lnk.lanes) :
    exec (.flitReceived i (.flit f cs)) s = .next v := by
  have hc := counted_of i.val cs s
  rw [exec_flit i cs (active_of_inSession hs) hcrc hr, goodFlit_seq h0 (hc.inSession.trans hs), hc.tx]
  dsimp only at hv ⊢
  rw [hv, failNoisy_of_sound (Port.sound_congr hlanes (hgood.sound hc.lanes))]

include hlen

theorem seqFlit_accepted {a b : List RxItem} (hcrc : flitCrcOk f = true) (h0 : f.toNat % 4 = 0)
    (hseq : BitVec.ofNat 12 (f.toNat % 2 ^ 32 / 4) = (s.port i.val).tx.expect)
    (hack : 2048 ≤ (BitVec.ofNat 12 (f.toNat % 2 ^ 32 / 2 ^ 14) - (s.port i.val).oldest).toNat) (h3 : bitsOf (f.toNat % 2 ^ 32) 31 30 = 3)
    (ha : slotItems (flitSlot f 0) = some a) (hb : slotItems (flitSlot f 1) = some b)
    (hpeer : ∀ v, v < 3 → flitSlots f v ≤ (s.port i.val).peer v) (hplain : Port.plainRx ((s.port i.val).tx.rx ++ a ++ b)) :
    ∃ t, exec (.flitReceived i (.flit f cs)) s = .next t ∧ t = { s with ports := t.ports, pmc := t.pmc } ∧
      otherPorts i.val s t ∧ (t.port i.val).tx = { (s.port i.val).tx with
        expect := (s.port i.val).tx.expect + 1, ackOut := (s.port i.val).tx.expect, discarding := false
        rx := (s.port i.val).tx.rx ++ a ++ b, peer0 := (s.port i.val).tx.peer0 - flitSlots f 0
        peer1 := (s.port i.val).tx.peer1 - flitSlots f 1, peer2 := (s.port i.val).tx.peer2 - flitSlots f 2 } ∧
      (t.port i.val).reqs = (s.port i.val).reqs ∧ (t.port i.val).outq = (s.port i.val).outq ∧
      (t.port i.val).aud.seqSinceAudit = true ∧
      ∀ l, l < 4 → ((t.port i.val).lane l).fecCorr =
        (if cs.getD l 0 = 0 then ((s.port i.val).lane l).fecCorr else satAdd ((s.port i.val).lane l).fecCorr (cs.getD l 0)) := by
  have hc := counted_of i.val cs s
  have hpeer' (v : Nat) (hv : v < 3) : flitSlots f v ≤ ((countCorrected i.val cs (s.rxAwake i.val)).port i.val).peer v := by
    unfold Port.peer
    rw [hc.tx]
    exact hpeer v hv
  obtain ⟨t, ht, hw, htx, hreqs, hout, haud, hlanes⟩ := acceptSeq_good h3 ha hb hpeer' (by rw [hc.tx]; exact hplain)
  have hacc : (if BitVec.ofNat 12 (f.toNat % 2 ^ 32 / 4) - (s.port i.val).tx.expect = 0 then
      acceptSeq i.val f (processAck i.val (BitVec.ofNat 12 (f.toNat % 2 ^ 32 / 2 ^ 14)) (countCorrected i.val cs (s.rxAwake i.val)))
      else if (BitVec.ofNat 12 (f.toNat % 2 ^ 32 / 4) - (s.port i.val).tx.expect).toNat < 2048 then
        lostFlit i.val (processAck i.val (BitVec.ofNat 12 (f.toNat % 2 ^ 32 / 2 ^ 14)) (countCorrected i.val cs (s.rxAwake i.val)))
      else processAck i.val (BitVec.ofNat 12 (f.toNat % 2 ^ 32 / 2 ^ 14)) (countCorrected i.val cs (s.rxAwake i.val))) = t := by
    rw [if_pos (by rw [hseq]; exact BitVec.sub_self _), processAck_of_behind (by rw [hc.oldest]; exact hack) (by rw [hc.tx]; exact hlen), ht]
  have hall := hc.within.linked.trans hw
  refine ⟨t, exec_seqFlit hs hr hgood hcrc h0 hacc hlanes, hall.eq, hall.others, ?_, ?_, ?_, haud, fun l hl => ?_⟩
  · have hacctx : (((countCorrected i.val cs (s.rxAwake i.val)).port i.val).accepting f).tx = { (s.port i.val).tx with
        expect := (s.port i.val).tx.expect + 1, ackOut := (s.port i.val).tx.expect, discarding := false } := by
      rw [← hc.tx]
      rfl
    rw [htx, hacctx, flitSlots_eq, flitSlots_eq, flitSlots_eq]
    simp only [PortTx.takesSlot, Nat.sub_sub]
  · rw [hreqs, hc.port]
  · rw [hout, hc.port]
  · have hlane : (t.port i.val).lane l = ((s.port i.val).lane l).corrected cs s.now l := by
      rw [Port.lane, hlanes]
      exact hc.lanes l hl
    rw [hlane]
    unfold Lane.corrected
    split <;> rfl

omit hlen in
theorem seqFlit_credits {d : Nat} (hcrc : flitCrcOk f = true) (h0 : f.toNat % 4 = 0)
    (hseq : BitVec.ofNat 12 (f.toNat % 2 ^ 32 / 4) = (s.port i.val).tx.expect) (hplain : Port.plainRx (s.port i.val).tx.rx)
    (hd : d = (BitVec.ofNat 12 (f.toNat % 2 ^ 32 / 2 ^ 14) - (s.port i.val).oldest).toNat) (hlt : d < (s.port i.val).tx.replay.length)
    (h1 : bitsOf (f.toNat % 2 ^ 32) 31 30 = 1)
    (hroom : (s.port i.val).tx.held1 + bitsOf (f.toNat % 2 ^ 32) 29 26 + 1 ≤ (s.port i.val).tx.grant1)
    (hslot0 : flitSlot f 0 = idleSlot) (hslot1 : flitSlot f 1 = idleSlot) :
    ∃ t, exec (.flitReceived i (.flit f cs)) s = .next t ∧ t = { s with ports := t.ports, pmc := t.pmc } ∧ otherPorts i.val s t ∧
      sameBooks { (s.port i.val).tx with
        expect := (s.port i.val).tx.expect + 1, ackOut := (s.port i.val).tx.expect, discarding := false, expiries := 0
        replay := (s.port i.val).tx.replay.drop (d + 1)
        held1 := (s.port i.val).tx.held1 + bitsOf (f.toNat % 2 ^ 32) 29 26 + 1 } (t.port i.val).tx := by
  have hc := counted_of i.val cs s
  obtain ⟨a, ha, haw, hap, habooks⟩ := processAck_known (s := countCorrected i.val cs (s.rxAwake i.val)) (p := i.val)
    (a := BitVec.ofNat 12 (f.toNat % 2 ^ 32 / 2 ^ 14)) (d := d) (by rw [hc.oldest]; exact hd) (by rw [hc.tx]; exact hlt)
  have hacked : (((countCorrected i.val cs (s.rxAwake i.val)).port i.val).acked d).tx =
      { (s.port i.val).tx with replay := (s.port i.val).tx.replay.drop (d + 1), expiries := 0 } := by
    rw [← hc.tx]
    rfl
  rw [hacked] at habooks
  obtain ⟨t, ht, hw, hlanes, hbooks⟩ := acceptSeq_credit (s := a) (p := i.val) h1 (by rw [habooks]; exact hroom) hslot0 hslot1
    (by rw [habooks]; exact hplain)
  have hacc : (if BitVec.ofNat 12 (f.toNat % 2 ^ 32 / 4) - (s.port i.val).tx.expect = 0 then
      acceptSeq i.val f (processAck i.val (BitVec.ofNat 12 (f.toNat % 2 ^ 32 / 2 ^ 14)) (countCorrected i.val cs (s.rxAwake i.val)))
      else if (BitVec.ofNat 12 (f.toNat % 2 ^ 32 / 4) - (s.port i.val).tx.expect).toNat < 2048 then
        lostFlit i.val (processAck i.val (BitVec.ofNat 12 (f.toNat % 2 ^ 32 / 2 ^ 14)) (countCorrected i.val cs (s.rxAwake i.val)))
      else processAck i.val (BitVec.ofNat 12 (f.toNat % 2 ^ 32 / 2 ^ 14)) (countCorrected i.val cs (s.rxAwake i.val))) = t := by
    rw [if_pos (by rw [hseq]; exact BitVec.sub_self _), ha, ht]
  have hall := (hc.within.trans haw).linked.trans hw
  refine ⟨t, exec_seqFlit hs hr hgood hcrc h0 hacc ?_, hall.eq, hall.others, ?_⟩
  · rw [hlanes, hap]
    rfl
  · rw [hbooks, habooks]
    rfl

theorem seqFlit_ahead (hcs : ∀ l, l < 4 → cs.getD l 0 = 0) (hcrc : flitCrcOk f = true) (h0 : f.toNat % 4 = 0)
    (hd : (s.port i.val).tx.discarding = false) (hne : BitVec.ofNat 12 (f.toNat % 2 ^ 32 / 4) - (s.port i.val).tx.expect ≠ 0)
    (hlt : (BitVec.ofNat 12 (f.toNat % 2 ^ 32 / 4) - (s.port i.val).tx.expect).toNat < 2048)
    (hack : 2048 ≤ (BitVec.ofNat 12 (f.toNat % 2 ^ 32 / 2 ^ 14) - (s.port i.val).oldest).toNat) :
    exec (.flitReceived i (.flit f cs)) s = .next ((s.rxAwake i.val).updPort i.val (Port.asksAgain s.now)) := by
  have hself : (s.rxAwake i.val).port i.val = { s.port i.val with rxHush := false } := State.updPort_port_self ..
  refine exec_seqFlit hs hr hgood hcrc h0 ?_ ?_
  · dsimp only
    rw [countCorrected_none hcs, if_neg hne, if_pos hlt, processAck_of_behind (by rw [hself]; exact hack) (by rw [hself]; exact hlen)]
    exact lostFlit_first (by rw [hself]; exact hs) (by rw [hself]; exact hd)
  · rw [countCorrected_none hcs, State.updPort_port_self]
    rfl

theorem seqFlit_behind (hcs : ∀ l, l < 4 → cs.getD l 0 = 0) (hcrc : flitCrcOk f = true) (h0 : f.toNat % 4 = 0)
    (hge : 2048 ≤ (BitVec.ofNat 12 (f.toNat % 2 ^ 32 / 4) - (s.port i.val).tx.expect).toNat)
    (hack : 2048 ≤ (BitVec.ofNat 12 (f.toNat % 2 ^ 32 / 2 ^ 14) - (s.port i.val).oldest).toNat) :
    exec (.flitReceived i (.flit f cs)) s = .next (s.rxAwake i.val) := by
  have hself : (s.rxAwake i.val).port i.val = { s.port i.val with rxHush := false } := State.updPort_port_self ..
  refine exec_seqFlit hs hr hgood hcrc h0 ?_ ?_
  · dsimp only
    rw [countCorrected_none hcs, if_neg (fun h => by rw [h] at hge; exact absurd hge (by decide)), if_neg (by omega)]
    exact processAck_of_behind (by rw [hself]; exact hack) (by rw [hself]; exact hlen)
  · rw [countCorrected_none hcs]

end

/-! ## Codewords that cannot be corrected -/

/-- The port with one more codeword lost. -/
def Port.uncorrected (x : Port) : Port := { x with lnk := { x.lnk with fecUncorr := satInc x.lnk.fecUncorr } }

/-- A lost codeword asks for its flits where it may have carried some. -/
theorem lostWord_spec (b : Bool) (hs : (s.port p).inSession = true) :
    Within p s (if b then lostFlit p s else s) ∧
    ((if b then lostFlit p s else s).port p).tx.discarding = ((s.port p).tx.discarding || b) ∧
    ((if b then lostFlit p s else s).port p).tx.expect = (s.port p).tx.expect ∧
    ((if b then lostFlit p s else s).port p).lnk = (s.port p).lnk := by
  cases b with
  | true =>
    obtain ⟨hw, hd, he, hl⟩ := lostFlit_spec hs
    exact ⟨hw, hd.trans (Bool.or_true _).symm, he, hl⟩
  | false => exact ⟨.refl .., (Bool.or_false _).symm, rfl, rfl⟩

theorem uncorrectable_counted {i : PortId} (hs : (s.port i.val).inSession = true) {n : Nat} (b : Bool) (hn : n ≠ 0)
    (hq : s.quiet (srcLink i.val)) :
    ∃ t, exec (.flitReceived i (.uncorrectable n b)) s = .next t ∧ otherPorts i.val s t ∧
      (t.port i.val).lnk.fecUncorr = satInc (s.port i.val).lnk.fecUncorr ∧
      (t.port i.val).tx.discarding = ((s.port i.val).tx.discarding || b) ∧ (t.port i.val).tx.expect = (s.port i.val).tx.expect ∧
      (t.src (srcLink i.val)).total = satAdd (satInc (s.src (srcLink i.val)).total) (n - 1) ∧ t.mem = s.mem := by
  have hu : Within i.val s ((s.rxAwake i.val).updPort i.val Port.uncorrected) := (State.updPort_within ..).trans (State.updPort_within ..)
  have hport : ((s.rxAwake i.val).updPort i.val Port.uncorrected).port i.val = ({ s.port i.val with rxHush := false } : Port).uncorrected := by
    rw [State.updPort_port_self]
    exact congrArg Port.uncorrected (State.updPort_port_self ..)
  have hrun : exec (.flitReceived i (.uncorrectable n b)) s = .next (
      let u := (s.rxAwake i.val).updPort i.val Port.uncorrected
      let v := faultMany (srcLink i.val) n (portDetail i.val (u.port i.val).lnk.cause.toNat) u
      if b then lostFlit i.val v else v) := by
    change execFlitReceived i (.uncorrectable n b) s = _
    unfold execFlitReceived
    rw [if_neg (not_not.mpr (active_of_inSession hs))]
    rfl
  dsimp only at hrun
  generalize (s.rxAwake i.val).updPort i.val Port.uncorrected = u at hu hport hrun
  obtain ⟨v, hv, hvfr, hvtotal⟩ := faultMany_total (srcLink_port i.isLt) hn (portDetail i.val (u.port i.val).lnk.cause.toNat) (hu.fr.quiet hq)
  rw [hv] at hrun
  have hvport : v.port i.val = ({ s.port i.val with rxHush := false } : Port).uncorrected := (hvfr.port rfl _).trans hport
  obtain ⟨hw, hdisc, hexp, hlnk⟩ := lostWord_spec (s := v) b (by rw [hvport]; exact hs)
  refine ⟨_, hrun, (hu.others.trans (hvfr.otherPorts _)).trans hw.others, ?_, ?_, ?_, ?_, ?_⟩
  · rw [hlnk, hvport]
    rfl
  · rw [hdisc, hvport]
    rfl
  · rw [hexp, hvport]
    rfl
  · rw [hw.fr.src rfl, hvtotal, hu.fr.src rfl]
  · rw [hw.fr.mem rfl, hvfr.mem rfl, hu.fr.mem rfl]

/-! ## Markers -/

/-- A list of lanes of one port, all changed alike. -/
theorem forL_lanes_alike {k : Nat → Nat} {f : Lane → Lane} (hf : ∀ y, f (f y) = f y) (l : List Nat) (s : State) :
    Within p s (forL l (fun a s => s.updPort p (·.updLane (k a) f)) s) ∧
    (forL l (fun a s => s.updPort p (·.updLane (k a) f)) s).port p = { s.port p with lnk := { (s.port p).lnk with
      lanes := ((forL l (fun a s => s.updPort p (·.updLane (k a) f)) s).port p).lnk.lanes } } ∧
    ∀ j, ((forL l (fun a s => s.updPort p (·.updLane (k a) f)) s).port p).lane j =
      if j ∈ l.map k then f ((s.port p).lane j) else (s.port p).lane j := by
  induction l generalizing s with
  | nil => exact ⟨.refl p s, rfl, fun j => (if_neg List.not_mem_nil).symm⟩
  | cons a l ih =>
    obtain ⟨hw, hp, hl⟩ := ih (s.updPort p (·.updLane (k a) f))
    rw [State.updPort_port_self] at hp hl
    rw [forL_cons]
    refine ⟨(State.updPort_within ..).trans hw, hp, fun j => ?_⟩
    rw [hl j, Port.lane_updLane]
    by_cases ha : j = k a
    · subst ha
      rw [if_pos rfl, hf, ite_self, List.map_cons, if_pos (List.mem_cons_self ..)]
    · rw [if_neg ha]
      simp [ha]

/-- The markers on the receivers of every lane in use. -/
def Port.marked (blocks : List (BitVec 640)) (x : Port) : Prop :=
  ∀ j ∈ lanesOf x.lnk.rxLanes, ∃ n, blockHead (blocks.getD (x.receiver j) 0).toNat 0 = some (j, n)

/-- The count that lane j's marker brings. -/
def Port.markerOf (blocks : List (BitVec 640)) (x : Port) (j : Nat) : Option Nat :=
  match blockHead (blocks.getD (x.receiver j) 0).toNat 0 with | some (l, n) => if l = j then some n else none | none => none

theorem takeMarker_eq (p : Nat) (blocks : List (BitVec 640)) (s : State) : takeMarker p blocks s =
    let a := forL (lanesOf (s.port p).lnk.rxLanes) (fun j t => t.updPort p (·.updLane ((s.port p).receiver j) (fun y =>
      { y with missed := if ((s.port p).markerOf blocks j).isSome then 0 else y.missed + 1 }))) s
    failNoisy p (match (lanesOf (s.port p).lnk.rxLanes).findSome? ((s.port p).markerOf blocks) with
      | some n => a.updPort p (fun x => { x with lnk := { x.lnk with rxMarker := BitVec.ofNat 10 n } })
      | none => a) := rfl

theorem forL_congr_mem {α : Type} {f g : α → State → State} {l : List α} (h : ∀ a ∈ l, ∀ t, f a t = g a t) (s : State) :
    forL l f s = forL l g s := by
  induction l generalizing s with
  | nil => rfl
  | cons a l ih =>
    rw [forL_cons, forL_cons, h a (List.mem_cons_self ..)]
    exact ih (fun b hb => h b (List.mem_cons_of_mem _ hb)) _

theorem Port.markerOf_of_marked {blocks : List (BitVec 640)} {j : Nat} (h : x.marked blocks) (hj : j ∈ lanesOf x.lnk.rxLanes) :
    (x.markerOf blocks j).isSome = true := by
  obtain ⟨n, hn⟩ := h j hj
  unfold Port.markerOf
  rw [hn]
  exact congrArg Option.isSome (if_pos rfl)

theorem takeMarker_marked {blocks : List (BitVec 640)} (hm : (s.port p).marked blocks)
    (hquiet : ∀ l, l < 4 → ((s.port p).lane l).missed < 2 ∧ ((s.port p).lane l).noisy = false) :
    ∃ t, takeMarker p blocks s = t ∧ Within p s t ∧ (t.port p).tx = (s.port p).tx ∧ (t.port p).lnk.link = (s.port p).lnk.link ∧
      ∀ j ∈ lanesOf (s.port p).lnk.rxLanes, ((t.port p).lane ((s.port p).receiver j)).missed = 0 := by
  have hloop := forL_congr_mem (l := lanesOf (s.port p).lnk.rxLanes)
    (f := fun j t => t.updPort p (·.updLane ((s.port p).receiver j) (fun y =>
      { y with missed := if ((s.port p).markerOf blocks j).isSome then 0 else y.missed + 1 })))
    (g := fun j t => t.updPort p (·.updLane ((s.port p).receiver j) (fun y => { y with missed := 0 })))
    (fun j hj t => by simp only [Port.markerOf_of_marked hm hj, if_true]) s
  obtain ⟨hw, hp, hl⟩ := forL_lanes_alike (p := p) (k := (s.port p).receiver) (f := fun y => { y with missed := 0 }) (fun _ => rfl)
    (lanesOf (s.port p).lnk.rxLanes) s
  rw [takeMarker_eq]
  dsimp only
  rw [hloop]
  generalize forL _ _ s = a at hw hp hl ⊢
  have hlanes : ∀ l, l < 4 → ((a.port p).lane l).missed < 2 ∧ ((a.port p).lane l).noisy = false := fun l hlt => by
    rw [hl l]
    split
    · exact ⟨Nat.zero_lt_two, (hquiet l hlt).2⟩
    · exact hquiet l hlt
  have hzero (j : Nat) (hj : j ∈ lanesOf (s.port p).lnk.rxLanes) : ((a.port p).lane ((s.port p).receiver j)).missed = 0 := by
    rw [hl, if_pos (List.mem_map_of_mem hj)]
  split
  · next n hn =>
    have hself := State.updPort_port_self (s := a) p (fun x => { x with lnk := { x.lnk with rxMarker := BitVec.ofNat 10 n } })
    refine ⟨_, failNoisy_of_sound ?_, hw.trans (State.updPort_within ..), ?_, ?_, fun j hj => ?_⟩
    · rw [hself]
      exact hlanes
    · rw [hself, hp]
    · rw [hself, hp]
    · rw [hself]
      exact hzero j hj
  · exact ⟨_, failNoisy_of_sound hlanes, hw, by rw [hp], by rw [hp], hzero⟩

theorem marker_taken {i : PortId} {cs : List Nat} {blocks : List (BitVec 640)} (hs : (s.port i.val).inSession = true)
    (hgood : (s.port i.val).lanesGood s.now cs) (hrl1 : (s.port i.val).lnk.rl1 = true) (hcs : ∀ l, l < 4 → cs.getD l 0 = 0)
    (hm : (s.port i.val).marked blocks) :
    ∃ t, exec (.flitReceived i (.marker blocks)) s = .next t ∧ t = { s with ports := t.ports } ∧ otherPorts i.val s t ∧
      (t.port i.val).tx = (s.port i.val).tx ∧ (t.port i.val).lnk.link = .active ∧
      ∀ j ∈ lanesOf (s.port i.val).lnk.rxLanes, ((t.port i.val).lane ((s.port i.val).receiver j)).missed = 0 := by
  have hself : (s.rxAwake i.val).port i.val = { s.port i.val with rxHush := false } := State.updPort_port_self ..
  have hquiet : ∀ l, l < 4 → (((s.rxAwake i.val).port i.val).lane l).missed < 2 ∧ (((s.rxAwake i.val).port i.val).lane l).noisy = false := by
    intro l hl
    obtain ⟨hmissed, hnoisy⟩ := hgood l hl
    rw [if_pos (hcs l hl)] at hnoisy
    rw [hself]
    exact ⟨hmissed, hnoisy⟩
  obtain ⟨t, ht, hw, htx, hlink, hmissed⟩ := takeMarker_marked (s := s.rxAwake i.val) (p := i.val) (blocks := blocks) (by rw [hself]; exact hm) hquiet
  have hrun : exec (.flitReceived i (.marker blocks)) s = .next t := by
    change execFlitReceived i (.marker blocks) s = _
    unfold execFlitReceived
    rw [if_neg (not_not.mpr (active_of_inSession hs))]
    change Outcome.next (if ((s.rxAwake i.val).port i.val).lnk.rl1 then takeMarker i.val blocks (s.rxAwake i.val) else s.rxAwake i.val) = _
    rw [if_pos (by rw [hself]; exact hrl1), ht]
  rw [hself] at htx hlink hmissed
  have hall : Within i.val s t := (State.updPort_within ..).trans hw
  exact ⟨t, hrun, hall.eq, hall.others, htx, hlink.trans (active_of_inSession hs), hmissed⟩

/-! ## What the lanes deliver -/

theorem exec_lanes {i : PortId} (l : List (List (BitVec 10))) (b : Bool) (hl : (s.port i.val).lnk.link = .active)
    (hnext : (s.port i.val).lnk.rxNext = none) (hone : (s.port i.val).codewords = 1) :
    exec (.flitReceived i (.lanes l b)) s =
      .next (let r := (s.port i.val).decodeWord ((s.port i.val).gather l 0)
        let t := takeWord i.val b r (s.rxAwake i.val)
        failNoisy i.val (faultMany (srcLink i.val) (lostIn (s.port i.val).flitsPerWord [r])
          (portDetail i.val (t.port i.val).lnk.cause.toNat) t)) := by
  have hself : (s.rxAwake i.val).port i.val = { s.port i.val with rxHush := false } := State.updPort_port_self ..
  have hfind : (s.rxAwake i.val).updPort i.val (·.findSwitch l) = s.rxAwake i.val := by
    rw [State.rxAwake, State.updPort_updPort]
    refine State.updPort_congr ?_
    dsimp only [Port.findSwitch]
    rw [hnext]
  change execFlitReceived i (.lanes l b) s = _
  unfold execFlitReceived
  rw [if_neg (not_not.mpr hl)]
  have hfound : (s.updPort i.val (fun x => { x with rxHush := false })).updPort i.val (·.findSwitch l) = s.rxAwake i.val := hfind
  dsimp only
  rw [hfound]
  rw [hself, show ({ s.port i.val with rxHush := false } : Port).codewords = 1 from hone]
  rfl

theorem lanes_decoded {i : PortId} {l : List (List (BitVec 10))} {b : Bool} {f : BitVec 1280} {c : List Nat}
    (hs : (s.port i.val).inSession = true) (hr : (s.port i.val).rung = 0) (hnext : (s.port i.val).lnk.rxNext = none)
    (hone : (s.port i.val).codewords = 1) (hdec : (s.port i.val).decodeWord ((s.port i.val).gather l 0) = some ([f], c))
    (hcrc : flitCrcOk f = true) : exec (.flitReceived i (.lanes l b)) s = exec (.flitReceived i (.flit f c)) s := by
  have hc := counted_of i.val c s
  have hactive : ((countCorrected i.val c (s.rxAwake i.val)).port i.val).lnk.link = .active := by
    rw [hc.port]
    exact active_of_inSession hs
  have hrung : ((countCorrected i.val c (s.rxAwake i.val)).port i.val).rung = 0 := by
    rw [hc.port]
    exact hr
  have hword : takeWord i.val b (some ([f], c)) (s.rxAwake i.val) = goodFlit i.val f (countCorrected i.val c (s.rxAwake i.val)) := by
    change (if ((countCorrected i.val c (s.rxAwake i.val)).port i.val).lnk.link ≠ .active then _ else
      if flitCrcOk f then takeFlit i.val f (countCorrected i.val c (s.rxAwake i.val)) else _) = _
    rw [if_neg (not_not.mpr hactive), if_pos hcrc]
    unfold takeFlit
    rw [if_neg (fun h => h.2 hrung)]
  have hnone (n : Nat) : lostIn n [some ([f], c)] = 0 := by simp [lostIn, hcrc]
  rw [exec_lanes l b (active_of_inSession hs) hnext hone, hdec]
  dsimp only
  rw [hnone, hword, exec_flit i c (active_of_inSession hs) hcrc hr]
  rfl

theorem lanes_lost {i : PortId} {cs : List Nat} (l : List (List (BitVec 10))) (b : Bool) (hs : (s.port i.val).inSession = true)
    (hgood : (s.port i.val).lanesGood s.now cs) (hcs : ∀ i, i < 4 → cs.getD i 0 = 0) (hnext : (s.port i.val).lnk.rxNext = none)
    (hone : (s.port i.val).codewords = 1) (hdec : (s.port i.val).decodeWord ((s.port i.val).gather l 0) = none)
    (hq : s.quiet (srcLink i.val)) :
    ∃ t, exec (.flitReceived i (.lanes l b)) s = .next t ∧ otherPorts i.val s t ∧
      (t.port i.val).lnk.fecUncorr = satInc (s.port i.val).lnk.fecUncorr ∧
      (t.port i.val).tx.discarding = ((s.port i.val).tx.discarding || b) ∧
      (t.src (srcLink i.val)).total = satAdd (satInc (s.src (srcLink i.val)).total) ((s.port i.val).flitsPerWord - 1) ∧ t.mem = s.mem := by
  have hu : Within i.val s ((s.rxAwake i.val).updPort i.val Port.uncorrected) := (State.updPort_within ..).trans (State.updPort_within ..)
  have hport : ((s.rxAwake i.val).updPort i.val Port.uncorrected).port i.val = ({ s.port i.val with rxHush := false } : Port).uncorrected := by
    rw [State.updPort_port_self]
    exact congrArg Port.uncorrected (State.updPort_port_self ..)
  have hper : (s.port i.val).flitsPerWord ≠ 0 := by
    unfold Port.flitsPerWord
    split <;> decide
  have hcount : lostIn (s.port i.val).flitsPerWord [none] = (s.port i.val).flitsPerWord := by simp [lostIn]
  have hrun := exec_lanes l b (active_of_inSession hs) hnext hone
  rw [hdec] at hrun
  dsimp only at hrun
  rw [hcount, show takeWord i.val b none (s.rxAwake i.val) = (if b then lostFlit i.val ((s.rxAwake i.val).updPort i.val Port.uncorrected)
    else (s.rxAwake i.val).updPort i.val Port.uncorrected) from rfl] at hrun
  generalize (s.rxAwake i.val).updPort i.val Port.uncorrected = u at hu hport hrun
  obtain ⟨hw, hdisc, hexp, hlnk⟩ := lostWord_spec (s := u) b (by rw [hport]; exact hs)
  generalize (if b then lostFlit i.val u else u) = v at hw hdisc hexp hlnk hrun
  obtain ⟨t, ht, hfr, htotal⟩ := faultMany_total (srcLink_port i.isLt) hper (portDetail i.val (v.port i.val).lnk.cause.toNat)
    ((hu.trans hw).fr.quiet hq)
  have hsound : (t.port i.val).sound := by
    rw [hfr.port rfl]
    refine Port.sound_congr (x := s.port i.val) (by rw [hlnk, hport]; rfl) fun j hj => ?_
    obtain ⟨hmissed, hnoisy⟩ := hgood j hj
    rw [if_pos (hcs j hj)] at hnoisy
    exact ⟨hmissed, hnoisy⟩
  rw [ht, failNoisy_of_sound hsound] at hrun
  refine ⟨t, hrun, (hu.trans hw).others.trans (hfr.otherPorts _), ?_, ?_, ?_, ?_⟩
  · rw [hfr.port rfl, hlnk, hport]
    rfl
  · rw [hfr.port rfl, hdisc, hport]
    rfl
  · rw [htotal, (hu.trans hw).fr.src rfl]
  · rw [hfr.mem rfl, (hu.trans hw).fr.mem rfl]

/-- Settles O24: a flit by `exec_seqFlit`, a lost codeword by `lostWord_spec`, markers by `takeMarker_marked`, lanes by `exec_lanes`. -/
theorem flitsAreTakenInSequence : Obligations.FlitsAreTakenInSequence := by
  intro p cs s u hs hr hlen hgood hu
  subst hu
  exact ⟨fun f a b hcrc h0 hseq hack h3 ha hb hpeer hplain => seqFlit_accepted hs hr hlen hgood hcrc h0 hseq hack h3 ha hb hpeer hplain,
    fun f d hcrc h0 hseq hplain hd hlt h1 hroom hi0 hi1 => seqFlit_credits hs hr hgood hcrc h0 hseq hplain hd hlt h1 hroom hi0 hi1,
    fun f hcs hcrc h0 hd hne hlt hack => seqFlit_ahead hs hr hlen hgood hcs hcrc h0 hd hne hlt hack,
    fun f hcs hcrc h0 hge hack => seqFlit_behind hs hr hlen hgood hcs hcrc h0 hge hack,
    fun n b hn hq => uncorrectable_counted hs b hn hq,
    fun blocks hrl1 hcs hm => marker_taken hs hgood hrl1 hcs hm,
    fun hnext => ⟨fun l b f c hone hdec hcrc => lanes_decoded hs hr hnext hone hdec hcrc,
      fun l b hone hdec hq hcs => lanes_lost l b hs hgood hcs hnext hone hdec hq⟩⟩

end Sys2Proof.Machine
end

section
/-! SUPPORT. How a read ends: the burst sent again, the transfer counted, the bytes lost, the landing, the CHK (R280, R283, R284, R303 to R305; O41). -/

namespace Sys2Proof.Machine

open Host

variable {s t v : State} {q : PcId} {x : BurstXfer} {b : Burst} {rest : List Burst} {r : Req} {u : State × Burst}

/-! ## The burst sent again -/

theorem Pc.clearSlot_wq (y : Pc) (n : Nat) : (y.clearSlot n).wq = y.wq := by
  unfold Pc.clearSlot
  split <;> rfl

theorem Pc.resend_wq (y : Pc) (b : Burst) (n : Nat) : (y.resend b n).1.wq = y.wq := Pc.clearSlot_wq y _

theorem Pc.resend_burst (y : Pc) (b : Burst) (n : Nat) : ∃ k, n ≤ k ∧ (y.resend b n).2 = { b with start := k } := by
  refine ⟨_, ?_, rfl⟩
  cases (List.range 64).find? (fun d => !y.slots.contains (n + d, true)) with
  | none => exact le_rfl
  | some d => exact Nat.le_add_right n d

theorem readResent_retried_start (b : Burst) (s : State) : b.start + 5 ≤ (readResent q.val .retried b s).2.start := by
  obtain ⟨k, hk, hb⟩ := Pc.resend_burst (s.pc q.val) b (b.start + 5)
  change _ ≤ ((s.pc q.val).resend b (b.start + 5)).2.start
  rw [hb]
  exact hk

theorem readResent_wq (x : BurstXfer) (b : Burst) (s : State) : ((readResent q.val x b s).1.pc q.val).wq = (s.pc q.val).wq := by
  cases x with
  | clean => rfl
  | retried | failed =>
    simp only [readResent, chanEvent_pc, State.updPc_pc, if_true]
    exact Pc.resend_wq ..

/-! ## The transfer -/

theorem countTransfer_wq (h : quietTransfer q.val x s) : ((countTransfer q.val x s).pc q.val).wq = (s.pc q.val).wq := by
  cases x with
  | clean => rfl
  | retried => rfl
  | failed m =>
    rw [countTransfer_failed_of_quiet q m h.quiet, State.updPc_pc, if_pos rfl]
    rfl

/-- The bytes lost hang on the writes queued under the burst. -/
theorem lostBytes_congr {k : Nat} (h : (t.pc q.val).wq = (s.pc q.val).wq) :
    t.lostBytes q.val x { b with start := k } = s.lostBytes q.val x b := by
  unfold State.lostBytes
  dsimp only
  rw [h]
  rfl

/-- A read burst whose transfer is over, its event quiet: what stands where it lands. -/
structure Landed (q : PcId) (x : BurstXfer) (b : Burst) (u : State × Burst) (s v : State) : Prop where
  fr : Fr 159384578 s v
  bursts : (v.pc q.val).bursts = (u.1.pc q.val).bursts
  exec_eq : exec (.readBurstReturn q x) s = .next (readLanded q.val u.2 (s.lostBytes q.val x b) v)
  flt : x = .clean ∨ x = .retried → v.flt = s.flt

theorem landed_of (htake : takeFirst (fun b => !b.write && !b.chk) (s.pc q.val).bursts = some (b, rest))
    (hctl : s.noController (chanOf q.val) = false)
    (hu : u = readResent q.val x b (s.updPc q.val (fun y => { y with bursts := rest })))
    (hquiet : quietTransfer q.val x (u.1.atLeast (u.2.start + 8))) :
    Landed q x b u s (countTransfer q.val x (u.1.atLeast (u.2.start + 8))) := by
  have hexec := exec_readBurstReturn htake hctl hu rfl
  obtain ⟨k, hk⟩ : ∃ k, u.2 = { b with start := k } := hu ▸ readResent_burst ..
  have hsent : Fr 150994944 s u.1 := hu ▸ Fr.step (readResent_fr ..) (by decide) (Fr.step (State.updPc_fr ..) (by decide) (Fr.refl ..))
  have hmax : Fr 2 u.1 (u.1.atLeast (u.2.start + 8)) := State.atLeast_fr ..
  have hwq : ((countTransfer q.val x (u.1.atLeast (u.2.start + 8))).pc q.val).wq = (s.pc q.val).wq := by
    rw [countTransfer_wq hquiet, State.atLeast_pc, hu, readResent_wq, State.updPc_pc, if_pos rfl]
  have hlost (v : State) (hv : (v.pc q.val).wq = (s.pc q.val).wq) : v.lostBytes q.val x u.2 = s.lostBytes q.val x b := by
    rw [hk]
    exact lostBytes_congr hv
  rw [hlost _ hwq] at hexec
  exact ⟨(((hsent.or hmax).or (countTransfer_fr_of_quiet q hquiet)).mono rfl), countTransfer_bursts_of_quiet q hquiet, hexec,
    fun hx => (countTransfer_flt q.val hx _).trans ((State.atLeast_flt ..).trans (hsent.flt rfl))⟩

/-! ## The landing -/

theorem readLanded_clean (hn : b.never = false) (hf : b.flags = 0) (s : State) :
    readLanded q.val b 0 s = deliver b.port b.tag b.serial b.part .ok b.data s := by
  have hnone : b.flags &&& ~~~ (0 : BitVec 64) = 0 := by
    rw [hf]
    exact BitVec.zero_and
  unfold readLanded
  simp only [if_true, hn, Bool.false_eq_true, if_false, hnone]

theorem readLanded_lost {w : BitVec 64} (hn : b.never = false) (hw : w ≠ 0) (hf : b.flags &&& ~~~ w = 0) (s : State) :
    ∃ d, readLanded q.val b w s = deliver b.port b.tag b.serial b.part .poison d { s with choice := s.choice + 1 } ∧
      ∀ j, j < 64 → w.getLsbD j = false → byteOf d j = byteOf b.data j := by
  refine ⟨blockOf (fun j => if w.getLsbD j then byteOf (Config.strayBlock s.choice) j else byteOf b.data j), ?_, fun j hj hwj => ?_⟩
  · unfold readLanded
    simp only [if_neg hw, hn, Bool.false_eq_true, if_false, hf, if_true]
  · rw [byteOf_blockOf _ hj, hwj]
    rfl

/-- A burst with flags waits for its CHK, in the next slot with no G burst from two ticks on. -/
theorem readLanded_flagged (hn : b.never = false) (hf : b.flags ≠ 0) (s : State) :
    ∃ t k, readLanded q.val b 0 s = t ∧ Fr 150996992 s t ∧ b.start + 10 ≤ k ∧
      (t.pc q.val).bursts.length = (s.pc q.val).bursts.length + 1 ∧ { b with chk := true, xfer := 0, start := k } ∈ (t.pc q.val).bursts := by
  obtain ⟨k, hk, hb⟩ := Pc.resend_burst (s.pc q.val) { b with chk := true, xfer := 0 } (b.start + 10)
  have hrun : readLanded q.val b 0 s = chanEvent q.val 0x46 1 (addWork q.val b.layer .chk 1 (s.updPc q.val (fun y =>
      { (y.resend { b with chk := true, xfer := 0 } (b.start + 10)).1 with
        bursts := (y.resend { b with chk := true, xfer := 0 } (b.start + 10)).1.bursts ++
          [(y.resend { b with chk := true, xfer := 0 } (b.start + 10)).2] }))) := by
    have hsome : ¬ b.flags &&& ~~~ (0 : BitVec 64) = 0 := by
      rw [show ~~~ (0 : BitVec 64) = BitVec.allOnes 64 by decide, BitVec.and_allOnes]
      exact hf
    unfold readLanded
    simp only [if_true, hn, Bool.false_eq_true, if_false, if_neg hsome]
  have hport : ((readLanded q.val b 0 s).pc q.val).bursts =
      ((s.pc q.val).resend { b with chk := true, xfer := 0 } (b.start + 10)).1.bursts ++ [{ b with chk := true, xfer := 0, start := k }] := by
    rw [hrun, chanEvent_pc, (addWork_fr ..).pc rfl, State.updPc_pc, if_pos rfl]
    dsimp only
    rw [hb]
  refine ⟨_, k, rfl, ?_, hk, ?_, ?_⟩
  · rw [hrun]
    exact Fr.step (chanEvent_fr ..) (by decide) (Fr.step (addWork_fr ..) (by decide) (Fr.step (State.updPc_fr ..) (by decide) (Fr.refl ..)))
  · rw [hport, List.length_append, Pc.resend_bursts_length]
    rfl
  · rw [hport]
    exact List.mem_append_right _ (List.mem_singleton_self _)

/-! ## The response -/

/-- A block delivered: what `delivered` says, and what stands. -/
theorem deliver_spec (st : Status) (d : Block) (h : s.openRead b = some r) :
    ∃ t, deliver b.port b.tag b.serial b.part st d s = t ∧ delivered b r st d s t ∧ Fr 138412032 s t ∧
      (t.port b.port).poisonData = (s.port b.port).poisonData := by
  refine ⟨_, rfl, delivered_deliver st d h, deliver_fr .., ?_⟩
  rw [deliver_of_openRead _ _ h, State.updPort_port_self, Port.takeBlock_frame, pmcCount_port]

theorem openRead_congr (h : ∀ j, t.port j = s.port j) (hr : s.openRead b = some r) : t.openRead b = some r :=
  (openRead_of_reqs (by rw [h])).trans hr

theorem delivered.of_ports {st : Status} {d : Block} (h : delivered b r st d v t) (hp : ∀ j, v.port j = s.port j) :
    delivered b r st d s t := h.of_outq (fun j _ => hp j) (by rw [hp])

theorem countLost_lostAccess (h : (s.pc q.val).excluded = false) : (countLost q.val s).rep.lostAccess = satInc s.rep.lostAccess := by
  unfold countLost
  rw [if_neg (by simp [h])]

/-- A read in flight of a pair with no controller left. -/
theorem lost_answered (h : s.openRead b = some r) (hr : v = s.updPc q.val (fun y => { y with bursts := rest })) :
    ∃ t, deliver b.port b.tag b.serial b.part .poison 0 (countLost q.val v) = t ∧ delivered b r .poison 0 s t ∧
      (t.pc q.val).bursts = rest ∧ t.mem = s.mem ∧ t.flt = s.flt ∧
      ((s.pc q.val).excluded = false → t.rep.lostAccess = satInc s.rep.lostAccess) := by
  have hv : Fr 16777216 s v := hr ▸ State.updPc_fr ..
  have hw : Fr 17039360 s (countLost q.val v) := (hv.or (countLost_fr ..)).mono rfl
  obtain ⟨t, ht, hdel, hfr, -⟩ := deliver_spec (b := b) .poison 0 (openRead_congr (hw.port rfl) h)
  refine ⟨t, ht, hdel.of_ports (hw.port rfl), ?_, (hfr.mem rfl).trans (hw.mem rfl), (hfr.flt rfl).trans (hw.flt rfl), fun hex => ?_⟩
  · rw [hfr.pc rfl, (countLost_fr ..).pc rfl, hr, State.updPc_pc, if_pos rfl]
  · have hex' : (v.pc q.val).excluded = false := by
      rw [hr, State.updPc_pc, if_pos rfl]
      exact hex
    rw [hfr.rep rfl, countLost_lostAccess hex', hv.rep rfl]

/-! ## The CHK -/

/-- What a CHK counts: an unresolved byte, bytes that the transfer lost, or bytes corrected (R303 to R305). -/
def chkCounted (q : Nat) (b : Burst) (d : EventDetail) (s : State) : State :=
  let n := chanOf q
  if b.flags &&& ~~~ b.xfer &&& b.unres ≠ 0 then
    let s := s.updPort b.port (fun p => { p with poisonData := satInc p.poisonData })
    let s := lastUe q b.layer b.bank b.row b.block (s.updChan n (fun c => { c with poisoned := satInc c.poisoned }))
    fault (srcUncorr n) d (blockRecord (srcUncorr n) d s)
  else if decide (b.flags &&& ~~~ b.xfer &&& b.unres ≠ 0) || decide (b.xfer ≠ 0) then s
  else
    let s := s.updChan n (fun c => { c with corrReads := satInc c.corrReads, corrRow := if b.rowPath then satInc c.corrRow else c.corrRow })
    fault (srcCorr n) d (if b.noCorr then pmcCount b.port 0x10 1 s else s)

/-- The bytes of a burst, with the corrections of its CHK. -/
def Burst.fixedData (b : Burst) : Block :=
  blockOf (fun j => if (b.flags &&& ~~~ b.xfer &&& ~~~ b.unres).getLsbD j then byteOf b.data j ^^^ byteOf b.corr j else byteOf b.data j)

/-- The status of a burst after its CHK. -/
def Burst.chkStatus (b : Burst) : Status :=
  if decide (b.flags &&& ~~~ b.xfer &&& b.unres ≠ 0) || decide (b.xfer ≠ 0) then .poison else if b.noCorr then .ok else .okCorrected

theorem unpoisoned (hbad : b.flags &&& ~~~ b.xfer &&& b.unres = 0) (hx : b.xfer = 0) :
    ¬ (decide (b.flags &&& ~~~ b.xfer &&& b.unres ≠ 0) || decide (b.xfer ≠ 0)) = true := by
  rw [decide_eq_false (not_not.mpr hbad), decide_eq_false (not_not.mpr hx)]
  decide

theorem poisoned_of_bad (hbad : b.flags &&& ~~~ b.xfer &&& b.unres ≠ 0) :
    (decide (b.flags &&& ~~~ b.xfer &&& b.unres ≠ 0) || decide (b.xfer ≠ 0)) = true := by
  rw [decide_eq_true hbad, Bool.true_or]

theorem poisoned_of_xfer (hx : b.xfer ≠ 0) :
    (decide (b.flags &&& ~~~ b.xfer &&& b.unres ≠ 0) || decide (b.xfer ≠ 0)) = true := by
  rw [decide_eq_true hx, Bool.or_true]

/-- The state in which a CHK finds its burst's pseudo-channel. -/
def State.chkTaken (q : Nat) (b : Burst) (rest : List Burst) (s : State) : State :=
  (s.atLeast (b.start + 8)).updPc q (fun y => { y with bursts := rest })

theorem exec_chk_lost (htake : takeFirst (fun b => !b.write && b.chk) (s.pc q.val).bursts = some (b, rest))
    (hctl : s.noController (chanOf q.val) = true) :
    exec (.chkResult q) s = .next (deliver b.port b.tag b.serial b.part .poison 0 (countLost q.val (s.chkTaken q.val b rest))) := by
  change execChkResult q s = _
  unfold execChkResult
  rw [htake]
  exact if_pos hctl

theorem exec_chk (htake : takeFirst (fun b => !b.write && b.chk) (s.pc q.val).bursts = some (b, rest))
    (hctl : s.noController (chanOf q.val) = false) :
    ∃ e d, exec (.chkResult q) s = .next (deliver b.port b.tag b.serial b.part b.chkStatus b.fixedData
      (chkCounted q.val b d (postHat q.val b.layer e (s.chkTaken q.val b rest)))) := by
  change ∃ e d, execChkResult q s = _
  have hctl' : ¬ (s.chkTaken q.val b rest).noController (chanOf q.val) = true := by
    change ¬ s.noController (chanOf q.val) = true
    simp [hctl]
  unfold execChkResult
  rw [htake]
  exact ⟨_, _, if_neg hctl'⟩

theorem quiet_of_sources {m n : Nat} (h : Fr m s t) (hs : t.flt.sources = s.flt.sources) (hq : s.quiet n)
    (hm : m &&& 77826 = 0 := by decide) : t.quiet n := by
  have hbit {i : Nat} (hi : (77826 : Nat).testBit i = true) : m.testBit i = false := testBit_of_disjoint hm hi
  obtain ⟨hoff, hcounts, hlast, hcount⟩ := hq
  have hsrc : t.src n = s.src n := src_congr hs n
  have hnow := h.now (hbit (by decide))
  exact ⟨(h.collectorOff (hbit (by decide)) (hbit (by decide))).trans hoff, (h.counts (hbit (by decide)) n).trans hcounts,
    by rwa [hsrc, hnow], by rwa [hsrc, hnow]⟩

/-- An event of a channel's corrected or uncorrectable source takes no action of its own. -/
theorem fault_of_quiet_bytes {n k : Nat} (hn : n < 16) (hk : k = srcCorr n ∨ k = srcUncorr n) (d : EventDetail) (hq : s.quiet k) :
    fault k d s = s.withEvent k := by
  have hrange : 80 ≤ k ∧ k < 176 := by unfold srcCorr srcUncorr at hk; omega
  have hkind : (k - 80) % 6 = 0 ∨ (k - 80) % 6 = 1 := by unfold srcCorr srcUncorr at hk; omega
  rw [fault_of_quiet d (by omega) (by omega) hq]
  unfold perEvent
  rw [if_neg (by omega), if_pos hrange]
  dsimp only
  rcases hkind with h | h <;> rw [h] <;> rfl

theorem postHat_counts (k : Nat) (e : HatEntry) (s : State) (n : Nat) :
    ((postHat q.val k e s).chan n).corrReads = (s.chan n).corrReads ∧ ((postHat q.val k e s).chan n).poisoned = (s.chan n).poisoned := by
  unfold postHat
  dsimp only
  split
  · rw [State.updChan_chan]
    split
    · next h => subst h; exact ⟨rfl, rfl⟩
    · exact ⟨rfl, rfl⟩
  · exact ⟨rfl, rfl⟩

theorem chkCounted_corrected {d : EventDetail} (hbad : b.flags &&& ~~~ b.xfer &&& b.unres = 0) (hx : b.xfer = 0)
    (hq : s.quiet (srcCorr (chanOf q.val))) :
    ∃ t, chkCounted q.val b d s = t ∧ Fr 142607360 s t ∧ (t.chan (chanOf q.val)).corrReads = satInc (s.chan (chanOf q.val)).corrReads ∧
      (t.src (srcCorr (chanOf q.val))).total = satInc (s.src (srcCorr (chanOf q.val))).total := by
  have hn : chanOf q.val < 16 := by have := q.isLt; unfold chanOf; omega
  have hchan : Fr 8388608 s (s.updChan (chanOf q.val) (fun c => { c with
    corrReads := satInc c.corrReads, corrRow := if b.rowPath then satInc c.corrRow else c.corrRow })) := State.updChan_fr ..
  have hself : ((s.updChan (chanOf q.val) (fun c => { c with
      corrReads := satInc c.corrReads, corrRow := if b.rowPath then satInc c.corrRow else c.corrRow })).chan (chanOf q.val)).corrReads =
      satInc (s.chan (chanOf q.val)).corrReads := by
    rw [State.updChan_chan, if_pos rfl]
  unfold chkCounted
  dsimp only
  rw [if_neg (not_not.mpr hbad), if_neg (unpoisoned hbad hx)]
  generalize s.updChan (chanOf q.val) _ = u at hchan hself ⊢
  have hcount : Fr 134217728 u (if b.noCorr then pmcCount b.port 0x10 1 u else u) := Fr.iteT (pmcCount_fr ..) (Fr.refl ..)
  generalize (if b.noCorr then pmcCount b.port 0x10 1 u else u) = v at hcount ⊢
  have hall := hchan.or hcount
  rw [fault_of_quiet_bytes hn (.inl rfl) d (hall.quiet hq)]
  refine ⟨_, rfl, (hall.or (State.withEvent_fr ..)).mono rfl, ?_, ?_⟩
  · rw [← hself, State.chan, (State.withEvent_fr ..).chans rfl, hcount.chans rfl, State.chan]
  · rw [State.withEvent_src_self, hall.src rfl]

theorem chkCounted_lost {d : EventDetail} (hbad : b.flags &&& ~~~ b.xfer &&& b.unres = 0) (hx : b.xfer ≠ 0) :
    chkCounted q.val b d s = s :=
  (if_neg (not_not.mpr hbad)).trans (if_pos (poisoned_of_xfer hx))

theorem chkCounted_uncorrectable {d : EventDetail} (hbad : b.flags &&& ~~~ b.xfer &&& b.unres ≠ 0)
    (hq : s.quiet (srcUncorr (chanOf q.val))) :
    ∃ t, chkCounted q.val b d s = t ∧ Fr 12731392 s t ∧ otherPorts b.port s t ∧
      t.port b.port = { s.port b.port with poisonData := satInc (s.port b.port).poisonData } ∧
      (t.chan (chanOf q.val)).poisoned = satInc (s.chan (chanOf q.val)).poisoned ∧
      (t.src (srcUncorr (chanOf q.val))).total = satInc (s.src (srcUncorr (chanOf q.val))).total ∧ t.flt.nextSeq = s.flt.nextSeq + 1 := by
  have hn : chanOf q.val < 16 := by have := q.isLt; unfold chanOf; omega
  have hcounted : Fr 12582912 s (lastUe q.val b.layer b.bank b.row b.block ((s.updPort b.port (fun p =>
      { p with poisonData := satInc p.poisonData })).updChan (chanOf q.val) (fun c => { c with poisoned := satInc c.poisoned }))) :=
    Fr.step (lastUe_fr ..) (by decide) (Fr.step (State.updChan_fr ..) (by decide) (Fr.step (State.updPort_fr ..) (by decide) (Fr.refl ..)))
  have hport (j : Nat) : (lastUe q.val b.layer b.bank b.row b.block ((s.updPort b.port (fun p =>
      { p with poisonData := satInc p.poisonData })).updChan (chanOf q.val) (fun c => { c with poisoned := satInc c.poisoned }))).port j =
      (s.updPort b.port (fun p => { p with poisonData := satInc p.poisonData })).port j := rfl
  have hchan : ((lastUe q.val b.layer b.bank b.row b.block ((s.updPort b.port (fun p =>
      { p with poisonData := satInc p.poisonData })).updChan (chanOf q.val) (fun c => { c with poisoned := satInc c.poisoned }))).chan
      (chanOf q.val)).poisoned = satInc (s.chan (chanOf q.val)).poisoned := by
    rw [lastUe, State.updChan_chan, if_pos rfl, State.updChan_chan, if_pos rfl]
    rfl
  unfold chkCounted
  dsimp only
  rw [if_pos hbad]
  generalize lastUe q.val b.layer b.bank b.row b.block _ = u at hcounted hport hchan ⊢
  have hlog : Fr 148480 u (blockRecord (srcUncorr (chanOf q.val)) d u) := blockRecord_fr ..
  have hsrc : (blockRecord (srcUncorr (chanOf q.val)) d u).flt.sources = u.flt.sources :=
    State.sources_of_latches (logRecord_latches ..)
  have hseq : (blockRecord (srcUncorr (chanOf q.val)) d u).flt.nextSeq = u.flt.nextSeq + 1 := logRecord_nextSeq ..
  generalize blockRecord (srcUncorr (chanOf q.val)) d u = v at hlog hsrc hseq ⊢
  have hall := hcounted.or hlog
  have hquiet : v.quiet (srcUncorr (chanOf q.val)) := quiet_of_sources hlog hsrc (hcounted.quiet hq)
  rw [fault_of_quiet_bytes hn (.inr rfl) d hquiet]
  have hev := v.withEvent_fr (srcUncorr (chanOf q.val))
  refine ⟨_, rfl, (hall.or hev).mono rfl, fun j hj => ?_, ?_, ?_, ?_, ?_⟩
  · rw [hev.port rfl, hlog.port rfl, hport, State.updPort_port_ne _ _ hj]
  · rw [hev.port rfl, hlog.port rfl, hport, State.updPort_port_self]
  · rw [← hchan, State.chan, hev.chans rfl, hlog.chans rfl, State.chan]
  · rw [State.withEvent_src_self, src_congr hsrc, hcounted.src rfl]
  · exact hseq.trans (congrArg (fun f => f.nextSeq + 1) (hcounted.flt rfl))

/-! ## The obligation, by its parts -/

theorem readBurst_lost (htake : takeFirst (fun b => !b.write && !b.chk) (s.pc q.val).bursts = some (b, rest))
    (hctl : s.noController (chanOf q.val) = true) :
    exec (.readBurstReturn q x) s =
      .next (deliver b.port b.tag b.serial b.part .poison 0 (countLost q.val (s.updPc q.val (fun y => { y with bursts := rest })))) := by
  change execReadBurstReturn q x s = _
  unfold execReadBurstReturn
  rw [htake]
  exact if_pos hctl

section
variable (htake : takeFirst (fun b => !b.write && !b.chk) (s.pc q.val).bursts = some (b, rest)) (hread : s.openRead b = some r)
  (hu : u = readResent q.val x b (s.updPc q.val (fun y => { y with bursts := rest })))
  (hctl : s.noController (chanOf q.val) = false) (hnever : b.never = false)
include htake hread hu hctl hnever

/-- A transfer that failed once at most loses no byte. -/
theorem readBurst_good (hx : x = .clean ∨ x = .retried) :
    (x = .retried → b.start + 5 ≤ u.2.start ∧ ∃ t, exec (.readBurstReturn q x) s = .next t ∧
      (t.chan (chanOf q.val)).rtRead = satInc (s.chan (chanOf q.val)).rtRead) ∧
    (b.flags = 0 → ∃ t, exec (.readBurstReturn q x) s = .next t ∧ delivered b r .ok b.data s t ∧
      (t.pc q.val).bursts = (u.1.pc q.val).bursts ∧ (x = .clean → (t.pc q.val).bursts = rest) ∧ t.mem = s.mem ∧ t.flt = s.flt) ∧
    (b.flags ≠ 0 → ∃ t y, exec (.readBurstReturn q x) s = .next t ∧ t.ports = s.ports ∧ t.mem = s.mem ∧ t.flt = s.flt ∧
      (t.pc q.val).bursts.length = rest.length + 1 ∧ y ∈ (t.pc q.val).bursts ∧ u.2.start + 10 ≤ y.start ∧
      y = { b with chk := true, xfer := 0, start := y.start }) := by
  obtain ⟨k, hk⟩ : ∃ k, u.2 = { b with start := k } := hu ▸ readResent_burst ..
  have hland := landed_of htake hctl hu (hx.elim .inl (fun h => .inr (.inl h)))
  have hnone : s.lostBytes q.val x b = 0 := by rcases hx with rfl | rfl <;> rfl
  have hrt : x = .retried → ((countTransfer q.val x (u.1.atLeast (u.2.start + 8))).chan (chanOf q.val)).rtRead =
      satInc (s.chan (chanOf q.val)).rtRead := by
    rintro rfl
    have hsent : Fr 150994944 s u.1 := hu ▸ Fr.step (readResent_fr ..) (by decide) (Fr.step (State.updPc_fr ..) (by decide) (Fr.refl ..))
    change ((State.updChan _ _ _).chan (chanOf q.val)).rtRead = _
    rw [State.updChan_chan, if_pos rfl, State.chan, (State.atLeast_fr ..).chans rfl, hsent.chans rfl, State.chan]
  have hclean : x = .clean → (u.1.pc q.val).bursts = rest := by
    rintro rfl
    rw [hu]
    change ((s.updPc q.val _).pc q.val).bursts = rest
    rw [State.updPc_pc, if_pos rfl]
  have hlength : (u.1.pc q.val).bursts.length = rest.length := by rw [hu, readResent_bursts_length, State.updPc_pc, if_pos rfl]
  obtain ⟨hfr, hbursts, hexec, hflt⟩ := hland
  generalize countTransfer q.val x (u.1.atLeast (u.2.start + 8)) = v at hfr hbursts hexec hflt hrt
  rw [hnone, hk] at hexec
  have hopen : v.openRead b = some r := openRead_congr (hfr.port rfl) hread
  refine ⟨fun hret => ⟨?_, ?_⟩, fun hf => ?_, fun hf => ?_⟩
  · subst hret
    rw [hu]
    exact readResent_retried_start b _
  · refine ⟨_, hexec, ?_⟩
    rw [State.chan, (readLanded_fr ..).chans rfl, ← State.chan]
    exact hrt hret
  · obtain ⟨t, ht, hdel, htfr, -⟩ := deliver_spec (b := b) .ok b.data hopen
    rw [show readLanded q.val { b with start := k } 0 v = t from (readLanded_clean (b := { b with start := k }) hnever hf v).trans ht] at hexec
    refine ⟨t, hexec, hdel.of_ports (hfr.port rfl), ?_, fun hc => ?_, (htfr.mem rfl).trans (hfr.mem rfl), (htfr.flt rfl).trans (hflt hx)⟩
    · rw [htfr.pc rfl, hbursts]
    · rw [htfr.pc rfl, hbursts, hclean hc]
  · obtain ⟨t, j, ht, htfr, hj, hlen, hmem⟩ := readLanded_flagged (q := q) (b := { b with start := k }) hnever hf v
    rw [ht] at hexec
    refine ⟨t, { b with chk := true, xfer := 0, start := j }, hexec, (htfr.ports rfl).trans (hfr.ports rfl),
      (htfr.mem rfl).trans (hfr.mem rfl), (htfr.flt rfl).trans (hflt hx), ?_, hmem, ?_, rfl⟩
    · rw [hlen, hbursts, hlength]
    · rw [hk]
      exact hj

/-- A transfer that failed twice: the event, the isolation of the lane, the bytes that no queued write replaces. -/
theorem readBurst_failed {m w : BitVec 64} (hx : x = .failed m) (hw : w = s.lostBytes q.val x b)
    (hquiet : (u.1.atLeast (u.2.start + 8)).quiet (srcTsv (chanOf q.val))) :
    (w ≠ 0 → b.flags &&& ~~~ w = 0 →
      ∃ t d, exec (.readBurstReturn q x) s = .next t ∧ delivered b r .poison d s t ∧
        (∀ j, j < 64 → w.getLsbD j = false → byteOf d j = byteOf b.data j) ∧
        (t.pc q.val).bursts = (u.1.pc q.val).bursts ∧ t.mem = s.mem ∧ (t.pc q.val).isolating = true ∧
        (t.chan (chanOf q.val)).rfBeat = satInc (s.chan (chanOf q.val)).rfBeat ∧
        (t.src (srcTsv (chanOf q.val))).total = satInc (s.src (srcTsv (chanOf q.val))).total) ∧
    (w = 0 → b.flags = 0 →
      ∃ t, exec (.readBurstReturn q x) s = .next t ∧ delivered b r .ok b.data s t ∧ t.mem = s.mem ∧
        (t.src (srcTsv (chanOf q.val))).total = satInc (s.src (srcTsv (chanOf q.val))).total) := by
  obtain ⟨k, hk⟩ : ∃ k, u.2 = { b with start := k } := hu ▸ readResent_burst ..
  subst hx
  have hland := landed_of htake hctl hu (.inr (.inr hquiet))
  have hsent : Fr 150994944 s u.1 := hu ▸ Fr.step (readResent_fr ..) (by decide) (Fr.step (State.updPc_fr ..) (by decide) (Fr.refl ..))
  have hcounted := countTransfer_failed_of_quiet q m hquiet
  have hisolate : ((countTransfer q.val (.failed m) (u.1.atLeast (u.2.start + 8))).pc q.val).isolating = true := by
    rw [hcounted, State.updPc_pc, if_pos rfl]
  have hbeat : ((countTransfer q.val (.failed m) (u.1.atLeast (u.2.start + 8))).chan (chanOf q.val)).rfBeat =
      satInc (s.chan (chanOf q.val)).rfBeat := by
    rw [hcounted, State.chan, (State.updPc_fr ..).chans rfl, (State.withEvent_fr ..).chans rfl, ← State.chan, State.updChan_chan,
      if_pos rfl, State.chan, (State.atLeast_fr ..).chans rfl, hsent.chans rfl, State.chan]
  have htotal : ((countTransfer q.val (.failed m) (u.1.atLeast (u.2.start + 8))).src (srcTsv (chanOf q.val))).total =
      satInc (s.src (srcTsv (chanOf q.val))).total := by
    rw [hcounted, State.updPc_src, State.withEvent_src_self, State.updChan_src, State.atLeast_src, hsent.src rfl]
  obtain ⟨hfr, hbursts, hexec, -⟩ := hland
  generalize countTransfer q.val (.failed m) (u.1.atLeast (u.2.start + 8)) = v at hfr hbursts hexec hisolate hbeat htotal
  rw [← hw, hk] at hexec
  have hopen : v.openRead b = some r := openRead_congr (hfr.port rfl) hread
  refine ⟨fun hsome hf => ?_, fun hnone hf => ?_⟩
  · obtain ⟨d, hd, hbytes⟩ := readLanded_lost (q := q) (b := { b with start := k }) hnever hsome hf v
    obtain ⟨t, ht, hdel, htfr, -⟩ := deliver_spec (b := b) (s := { v with choice := v.choice + 1 }) .poison d hopen
    rw [show readLanded q.val { b with start := k } w v = t from hd.trans ht] at hexec
    refine ⟨t, d, hexec, hdel.of_ports (hfr.port rfl), hbytes, ?_, (htfr.mem rfl).trans (hfr.mem rfl), ?_, ?_, ?_⟩
    · rw [htfr.pc rfl]
      exact hbursts
    · rw [htfr.pc rfl]
      exact hisolate
    · rw [State.chan, htfr.chans rfl]
      exact hbeat
    · rw [htfr.src rfl]
      exact htotal
  · subst hnone
    obtain ⟨t, ht, hdel, htfr, -⟩ := deliver_spec (b := b) .ok b.data hopen
    rw [show readLanded q.val { b with start := k } 0 v = t from (readLanded_clean (b := { b with start := k }) hnever hf v).trans ht] at hexec
    exact ⟨t, hexec, hdel.of_ports (hfr.port rfl), (htfr.mem rfl).trans (hfr.mem rfl), by rw [htfr.src rfl]; exact htotal⟩

end

/-- A CHK of a pair with a controller, by what it counts. -/
theorem chk_answered {st : Status} {m : Nat} (htake : takeFirst (fun b => !b.write && b.chk) (s.pc q.val).bursts = some (b, rest))
    (hread : s.openRead b = some r) (hctl : s.noController (chanOf q.val) = false) (hst : b.chkStatus = st)
    {P : State → State → Prop} (hm : m.testBit 24 = false) (hmem : m.testBit 28 = false)
    (hcount : ∀ d a, Fr 58720258 s a → (∀ n, (a.chan n).corrReads = (s.chan n).corrReads ∧ (a.chan n).poisoned = (s.chan n).poisoned) →
      (∀ n, (s.atLeast (b.start + 8)).quiet n → a.quiet n) →
      ∃ w, chkCounted q.val b d a = w ∧ Fr m a w ∧ P a w ∧ otherPorts b.port a w ∧ (w.port b.port).reqs = (a.port b.port).reqs ∧
        (w.port b.port).outq = (a.port b.port).outq) :
    ∃ a w t, exec (.chkResult q) s = .next t ∧ delivered b r st b.fixedData s t ∧ (t.pc q.val).bursts = rest ∧ t.mem = s.mem ∧
      Fr 58720258 s a ∧ (∀ n, (a.chan n).corrReads = (s.chan n).corrReads ∧ (a.chan n).poisoned = (s.chan n).poisoned) ∧ P a w ∧
      Fr 138412032 w t ∧ (t.port b.port).poisonData = (w.port b.port).poisonData := by
  obtain ⟨e, d, hexec⟩ := exec_chk htake hctl
  have htaken : Fr 16777218 s (s.chkTaken q.val b rest) := ((State.atLeast_fr ..).or (State.updPc_fr ..)).mono rfl
  have hpost : Fr 41943040 (s.chkTaken q.val b rest) (postHat q.val b.layer e (s.chkTaken q.val b rest)) := postHat_fr ..
  have hcounts := postHat_counts (q := q) b.layer e (s.chkTaken q.val b rest)
  have hbursts : ((postHat q.val b.layer e (s.chkTaken q.val b rest)).pc q.val).bursts = rest := by
    rw [hpost.pc rfl, State.chkTaken, State.updPc_pc, if_pos rfl]
  have hquiet (n : Nat) (hq : (s.atLeast (b.start + 8)).quiet n) : (postHat q.val b.layer e (s.chkTaken q.val b rest)).quiet n :=
    hpost.quiet ((State.updPc_fr (s.atLeast (b.start + 8)) q.val (fun y => { y with bursts := rest })).quiet hq)
  have hchan (n : Nat) : (s.chkTaken q.val b rest).chan n = s.chan n := rfl
  generalize postHat q.val b.layer e (s.chkTaken q.val b rest) = a at hexec hpost hcounts hbursts hquiet
  have hfr := htaken.or hpost
  simp only [hchan] at hcounts
  obtain ⟨w, hw, hwfr, hP, hothers, hreqs, hout⟩ := hcount d a hfr hcounts hquiet
  have hopen : w.openRead b = some r := (openRead_of_reqs hreqs).trans (openRead_congr (hfr.port rfl) hread)
  obtain ⟨t, ht, hdel, htfr, hdata⟩ := deliver_spec (b := b) st b.fixedData hopen
  rw [hw, hst, ht] at hexec
  refine ⟨a, w, t, hexec, (hdel.of_outq hothers hout).of_ports (hfr.port rfl), ?_, ?_, hfr, hcounts, hP, htfr, hdata⟩
  · rw [htfr.pc rfl, hwfr.pc hm, hbursts]
  · rw [htfr.mem rfl, hwfr.mem hmem, hfr.mem rfl]

/-- Settles O41: bursts by `landed_of` and the lemmas about `readLanded`, CHKs by `chk_answered` and the lemmas about `chkCounted`. -/
theorem readsEndByTheirFlags : Obligations.ReadsEndByTheirFlags := by
  refine ⟨fun q x b rest r s u htake hread hu => ⟨fun hctl => ?_, fun hctl hnever => ⟨fun hx => ?_, fun m w hx hw hquiet => ?_⟩⟩,
    fun q b rest r d n s htake hread hn hd => ?_⟩
  · obtain ⟨t, ht, h⟩ := lost_answered (q := q) (rest := rest) hread rfl
    exact ⟨t, (readBurst_lost htake hctl).trans (congrArg _ ht), h⟩
  · exact readBurst_good htake hread hu hctl hnever hx
  · exact readBurst_failed htake hread hu hctl hnever hx hw hquiet
  · subst hn hd
    refine ⟨fun hctl => ?lost, fun hctl => ⟨fun hbad hx hquiet => ?corrected, fun hbad hquiet => ?uncorrectable, fun hbad hx => ?transfer⟩⟩
    case lost =>
      obtain ⟨t, ht, hdel, hbursts, hmem, hflt, -⟩ := lost_answered (q := q) (rest := rest) (s := s.atLeast (b.start + 8)) hread rfl
      exact ⟨t, (exec_chk_lost htake hctl).trans (congrArg _ ht), hdel, hbursts, hmem, hflt⟩
    case corrected =>
      have hst : b.chkStatus = if b.noCorr then .ok else .okCorrected := if_neg (unpoisoned hbad hx)
      obtain ⟨a, w, t, hexec, hdel, hbursts, hmem, hfr, hcounts, ⟨hreads, htotal⟩, htfr, -⟩ := chk_answered htake hread hctl hst (m := 142607360)
        (P := fun a w => (w.chan (chanOf q.val)).corrReads = satInc (a.chan (chanOf q.val)).corrReads ∧
          (w.src (srcCorr (chanOf q.val))).total = satInc (a.src (srcCorr (chanOf q.val))).total) rfl rfl
        (fun d a hfr hcounts hq => by
          obtain ⟨w, hw, hwfr, hreads, htotal⟩ := chkCounted_corrected (d := d) hbad hx (hq _ hquiet)
          exact ⟨w, hw, hwfr, ⟨hreads, htotal⟩, hwfr.otherPorts _, by rw [hwfr.port rfl], by rw [hwfr.port rfl]⟩)
      refine ⟨t, hexec, hdel, hbursts, hmem, ?_, ?_⟩
      · rw [State.chan, htfr.chans rfl, ← State.chan, hreads, (hcounts _).1]
      · rw [htfr.src rfl, htotal, hfr.src rfl]
    case uncorrectable =>
      have hst : b.chkStatus = .poison := if_pos (poisoned_of_bad hbad)
      obtain ⟨a, w, t, hexec, hdel, hbursts, hmem, hfr, hcounts, ⟨hport, hpoisoned, htotal, hseq⟩, htfr, hdata⟩ :=
        chk_answered htake hread hctl hst (m := 12731392)
        (P := fun a w => w.port b.port = { a.port b.port with poisonData := satInc (a.port b.port).poisonData } ∧
          (w.chan (chanOf q.val)).poisoned = satInc (a.chan (chanOf q.val)).poisoned ∧
          (w.src (srcUncorr (chanOf q.val))).total = satInc (a.src (srcUncorr (chanOf q.val))).total ∧ w.flt.nextSeq = a.flt.nextSeq + 1) rfl rfl
        (fun d a hfr hcounts hq => by
          obtain ⟨w, hw, hwfr, hothers, hport, hrest⟩ := chkCounted_uncorrectable (d := d) hbad (hq _ hquiet)
          exact ⟨w, hw, hwfr, ⟨hport, hrest⟩, hothers, by rw [hport], by rw [hport]⟩)
      refine ⟨t, hexec, hdel, hbursts, hmem, ?_, ?_, ?_, ?_⟩
      · rw [State.chan, htfr.chans rfl, ← State.chan, hpoisoned, (hcounts _).2]
      · rw [hdata, hport, hfr.port rfl]
      · rw [htfr.src rfl, htotal, hfr.src rfl]
      · rw [htfr.flt rfl, hseq, hfr.flt rfl]
    case transfer =>
      have hst : b.chkStatus = .poison := if_pos (poisoned_of_xfer hx)
      obtain ⟨a, w, t, hexec, hdel, hbursts, hmem, hfr, -, hw, htfr, -⟩ := chk_answered htake hread hctl hst (m := 0)
        (P := fun a w => w = a) rfl rfl
        (fun d a _ _ _ => ⟨a, chkCounted_lost hbad hx, .refl .., rfl, otherPorts_refl _ _, rfl, rfl⟩)
      subst hw
      exact ⟨t, hexec, hdel, hbursts, hmem, (htfr.flt rfl).trans (hfr.flt rfl)⟩

end Sys2Proof.Machine
end

section
/-! SUPPORT. Reads of the stored bytes after writes: one byte, several bytes, a block of a row with its check bits and its cuff word (R293, R298; O42). -/

namespace Sys2Proof.Machine

open Host

variable {s t : State}

/-! ## Bytes -/

theorem State.readByte_writeByte_self (s : State) (a : Nat) (v : Byte) : (s.writeByte a v).readByte a = v :=
  (tabGet_tabSet ..).trans (if_pos rfl)

theorem State.readByte_writeByte_other {a j : Nat} (h : j ≠ a) (v : Byte) (s : State) : (s.writeByte a v).readByte j = s.readByte j := by
  change tabGet (memDefault j) (tabSet (memDefault a) s.mem a v) j = _
  unfold tabSet
  split
  · exact tabGet_tabErase_other _ _ h
  · rw [tabGet_tabPut_other _ _ _ h]
    exact tabGet_tabErase_other _ _ h

theorem State.readByte_writeBytes_out {a j n : Nat} (h : ¬ (a ≤ j ∧ j < a + n)) (v : Nat) (s : State) :
    (s.writeBytes n a v).readByte j = s.readByte j := by
  induction n generalizing s a v with
  | zero => rfl
  | succ n ih =>
    rw [State.writeBytes, ih (by omega), State.readByte_writeByte_other (by omega)]

theorem State.readBytes_congr {a n : Nat} (h : ∀ j, a ≤ j → j < a + n → t.readByte j = s.readByte j) : t.readBytes n a = s.readBytes n a := by
  induction n generalizing a with
  | zero => rfl
  | succ n ih =>
    rw [State.readBytes, State.readBytes, h a le_rfl (by omega), ih (fun j hj hlt => h j (by omega) (by omega))]

/-- What was stored is read. -/
theorem State.readBytes_writeBytes (n a v : Nat) (s : State) : (s.writeBytes n a v).readBytes n a = v % 256 ^ n := by
  induction n generalizing a v s with
  | zero => rw [pow_zero, Nat.mod_one]; rfl
  | succ n ih =>
    rw [State.writeBytes, State.readBytes, ih, State.readByte_writeBytes_out (by omega), State.readByte_writeByte_self, BitVec.toNat_ofNat,
      show 256 ^ (n + 1) = 256 * 256 ^ n from pow_succ' 256 n, Nat.mod_mul]

/-- Bytes written elsewhere leave the bytes of a range. -/
theorem State.readBytes_writeBytes_out {a n b m : Nat} (h : a + n ≤ b ∨ b + m ≤ a) (v : Nat) (s : State) :
    (s.writeBytes m b v).readBytes n a = s.readBytes n a :=
  State.readBytes_congr fun j _ _ => State.readByte_writeBytes_out (by omega) v s

/-! ## Blocks of a row -/

theorem readRow_block {b : Nat} (hb : b < 16) (key : Nat) (s : State) : (s.readRow key).block b =
    (BitVec.ofNat 512 (s.readBytes 64 (key * rowBytes + 64 * b)), BitVec.ofNat 64 (s.readBytes 8 (key * rowBytes + 1024 + 8 * b))) := by
  simp [State.readRow, Row.block, hb]

theorem readRow_cuff (key : Nat) (s : State) : (s.readRow key).cuff = BitVec.ofNat 512 (s.readBytes 64 (key * rowBytes + 1152)) := rfl

theorem ofNat_stored {w n : Nat} (hw : w = 8 * n) (x : BitVec w) : BitVec.ofNat w (x.toNat % 256 ^ n) = x := by
  have hpow : 256 ^ n = 2 ^ w := by rw [hw, pow_mul]; rfl
  rw [hpow, Nat.mod_eq_of_lt x.isLt, BitVec.ofNat_toNat, BitVec.setWidth_eq]

variable {key b : Nat} (hb : b < 16) (x : (Block × BitVec 64) × Block × BitVec 64)
include hb

theorem putBlock_block (s : State) : ((s.putBlock key b x).readRow key).block b = x.1 := by
  rw [readRow_block hb]
  unfold State.putBlock State.storeCuff State.storeBlock
  rw [State.readBytes_writeBytes_out (by unfold rowBytes; omega), State.readBytes_writeBytes_out (by unfold rowBytes; omega),
    State.readBytes_writeBytes, State.readBytes_writeBytes_out (by unfold rowBytes; omega), State.readBytes_writeBytes,
    ofNat_stored (w := 512) rfl, ofNat_stored (w := 64) rfl]

omit hb in
theorem putBlock_cuff (s : State) : ((s.putBlock key b x).readRow key).cuff = x.2.1 := by
  rw [readRow_cuff]
  unfold State.putBlock State.storeCuff
  rw [State.readBytes_writeBytes, ofNat_stored (w := 512) rfl]

omit hb in
theorem putBlock_readByte (s : State) {a : Nat} (hd : ¬ (key * rowBytes + 64 * b ≤ a ∧ a < key * rowBytes + 64 * b + 64))
    (hc : ¬ (key * rowBytes + 1024 + 8 * b ≤ a ∧ a < key * rowBytes + 1024 + 8 * b + 8))
    (hw : ¬ (key * rowBytes + 1152 ≤ a ∧ a < key * rowBytes + 1216)) : (s.putBlock key b x).readByte a = s.readByte a := by
  unfold State.putBlock State.storeCuff State.storeBlock
  rw [State.readByte_writeBytes_out (by omega), State.readByte_writeBytes_out hc, State.readByte_writeBytes_out hd]

/-! ## The stored bytes alone count -/

omit hb in
theorem readByte_congr (h : t.mem = s.mem) (a : Nat) : t.readByte a = s.readByte a := congrArg (fun m => tabGet (memDefault a) m a) h

omit hb in
theorem writeBytes_congr (h : t.mem = s.mem) (n a v : Nat) : (t.writeBytes n a v).mem = (s.writeBytes n a v).mem := by
  induction n generalizing s t a v with
  | zero => exact h
  | succ n ih => exact ih (congrArg (fun m => tabSet (memDefault a) m a (BitVec.ofNat 8 v)) h) ..

omit hb in
theorem readRow_congr (h : t.mem = s.mem) (key : Nat) : t.readRow key = s.readRow key := by
  have hbytes (n a : Nat) : t.readBytes n a = s.readBytes n a := State.readBytes_congr fun j _ _ => readByte_congr h j
  unfold State.readRow
  simp only [hbytes]

omit hb in
theorem putBlock_congr (h : t.mem = s.mem) (key b : Nat) (x : (Block × BitVec 64) × Block × BitVec 64) :
    (t.putBlock key b x).mem = (s.putBlock key b x).mem := by
  unfold State.putBlock State.storeCuff State.storeBlock
  exact writeBytes_congr (writeBytes_congr (writeBytes_congr h ..) ..) ..

omit hb in
theorem writeBlock_congr (h : t.mem = s.mem) (key b : Nat) (mask : BitVec 64) (d : Block) :
    (t.writeBlock key b mask d).1.mem = (s.writeBlock key b mask d).1.mem := by
  unfold State.writeBlock
  split
  · exact h
  · rw [readRow_congr h]
    exact putBlock_congr h ..

end Sys2Proof.Machine
end

section
/-! SUPPORT. Writes that drain or are in error, and commands in error on their parity (R278, R280, R283, R284, R298, R299; O42). -/

namespace Sys2Proof.Machine

open Host

variable {s t v : State} {q : PcId} {b : Burst}

/-! ## Drains -/

theorem keepEarly_pc (b : Burst) (s : State) : ∃ g, (keepEarly q.val b s).pc q.val = { s.pc q.val with grants := g } := by
  unfold keepEarly
  extract_lets newest keep
  exact ⟨(s.pc q.val).grants.map keep, by rw [State.updPc_pc, if_pos rfl]⟩

/-- A drain that is not a write's retry: what it stores, and what stands. -/
theorem drain_spec {key : Nat} (hl : (s.pc q.val).drainOf = [b]) (hkey : key = rowKey q.val b.layer b.bank b.row) (hup : s.bist.shutDown = false)
    (hfirst : (s.pc q.val).wq.any (fun e => e.drainedBy b && e.retry) = false) :
    ∃ t, exec (.writeDrainComplete q) s = .next t ∧ t.now = max s.now (b.start + 4) ∧ t.ports = s.ports ∧ t.flt = s.flt ∧
      (t.pc q.val).bursts = dropFirst (fun y => decide (y = b)) (s.pc q.val).bursts ∧
      (t.pc q.val).wq = ((s.pc q.val).drained b).wq ∧ t.gnt.changes = s.gnt.changes + 1 ∧
      t.mem = (s.writeBlock key b.block b.flags b.data).1.mem := by
  have hkept : Fr 16777218 s (keepEarly q.val b (s.atLeast (b.start + 4))) := ((State.atLeast_fr ..).or (keepEarly_fr ..)).mono rfl
  obtain ⟨g, hg⟩ := keepEarly_pc (q := q) b (s.atLeast (b.start + 4))
  have hrun : exec (.writeDrainComplete q) s = .next (shutdownAdvance (touch (
      let u := (keepEarly q.val b (s.atLeast (b.start + 4))).updPc q.val (·.drained b)
      let w := u.writeBlock (rowKey q.val b.layer b.bank b.row) b.block b.flags b.data
      postOverwrite q.val b.layer b.bank b.row w.2 w.1))) := by
    change execWriteDrainComplete q s = _
    unfold execWriteDrainComplete
    dsimp only
    rw [hl, forL_cons, State.atLeast_pc, hfirst, if_neg Bool.false_ne_true]
    rfl
  dsimp only at hrun
  rw [← hkey] at hrun
  have hu : Fr 16777218 s ((keepEarly q.val b (s.atLeast (b.start + 4))).updPc q.val (·.drained b)) := (hkept.or (State.updPc_fr ..)).mono rfl
  have hpc : ((keepEarly q.val b (s.atLeast (b.start + 4))).updPc q.val (·.drained b)).pc q.val = { (s.pc q.val).drained b with grants := g } := by
    rw [State.updPc_pc, if_pos rfl, hg]
    rfl
  have hnow : ((keepEarly q.val b (s.atLeast (b.start + 4))).updPc q.val (·.drained b)).now = max s.now (b.start + 4) :=
    (((keepEarly_fr ..).or (State.updPc_fr ..)).now rfl).trans rfl
  generalize (keepEarly q.val b (s.atLeast (b.start + 4))).updPc q.val (·.drained b) = u at hrun hu hpc hnow
  have hstored : Fr 268435456 u (u.writeBlock key b.block b.flags b.data).1 := State.writeBlock_fr ..
  have hmem : (u.writeBlock key b.block b.flags b.data).1.mem = (s.writeBlock key b.block b.flags b.data).1.mem := writeBlock_congr (hu.mem rfl) ..
  generalize u.writeBlock key b.block b.flags b.data = w at hrun hstored hmem
  have hpost : Fr 42467328 w.1 (touch (postOverwrite q.val b.layer b.bank b.row w.2 w.1)) := ((postOverwrite_fr ..).or (touch_fr ..)).mono rfl
  have hchanges : (touch (postOverwrite q.val b.layer b.bank b.row w.2 w.1)).gnt.changes = w.1.gnt.changes + 1 :=
    congrArg (fun x => x.changes + 1) ((postOverwrite_fr ..).gnt rfl)
  generalize touch (postOverwrite q.val b.layer b.bank b.row w.2 w.1) = t at hrun hpost hchanges
  have hall := hstored.or hpost
  rw [shutdownAdvance_of_up (by rw [hall.bist rfl, hu.bist rfl]; exact hup)] at hrun
  refine ⟨t, hrun, (hall.now rfl).trans hnow, (hall.ports rfl).trans (hu.ports rfl), (hall.flt rfl).trans (hu.flt rfl), ?_, ?_, ?_, ?_⟩
  · rw [hall.pc rfl, hpc]
    rfl
  · rw [hall.pc rfl, hpc]
  · rw [hchanges, hstored.gnt rfl, hu.gnt rfl]
  · rw [hpost.mem rfl, hmem]

/-- What a drain that is not a retry stores: no flagged byte, nothing; else the block with fresh codes, and its row's cuff word. -/
theorem drain_stores {key : Nat} {x : (Block × BitVec 64) × Block × BitVec 64} (hx : x = writeRow (s.readRow key) b.block b.flags b.data)
    (hb : b.block < 16) (hmem : t.mem = (s.writeBlock key b.block b.flags b.data).1.mem) :
    (b.flags = 0 → t.mem = s.mem) ∧
    (b.flags ≠ 0 → (t.readRow key).block b.block = x.1 ∧ (t.readRow key).cuff = x.2.1) ∧
    (∀ a, ¬ (key * rowBytes + 64 * b.block ≤ a ∧ a < key * rowBytes + 64 * b.block + 64) →
      ¬ (key * rowBytes + 1024 + 8 * b.block ≤ a ∧ a < key * rowBytes + 1024 + 8 * b.block + 8) →
      ¬ (key * rowBytes + 1152 ≤ a ∧ a < key * rowBytes + 1216) → t.readByte a = s.readByte a) := by
  have hnone (hf : b.flags = 0) : t.mem = s.mem := by
    rw [hmem, State.writeBlock, if_pos hf]
  have hsome (hf : b.flags ≠ 0) : t.mem = (s.putBlock key b.block x).mem := by
    rw [hmem, State.writeBlock, if_neg hf, hx]
  refine ⟨hnone, fun hf => ?_, fun a hd hc hw => ?_⟩
  · rw [readRow_congr (hsome hf)]
    exact ⟨putBlock_block hb x s, putBlock_cuff x s⟩
  · by_cases hf : b.flags = 0
    · exact readByte_congr (hnone hf) a
    · rw [readByte_congr (hsome hf)]
      exact putBlock_readByte x s hd hc hw

/-! ## A write in error -/

theorem chanOf_lt (q : PcId) : chanOf q.val < 16 := by have := q.isLt; unfold chanOf; omega

/-- A write that failed for the first time is discarded, and no more. -/
theorem writeError_first (hl : (s.pc q.val).drainOf = [b]) (hfirst : (s.pc q.val).wq.any (fun e => e.drainedBy b && e.retry) = false) :
    exec (.writeErrorReport q) s = .next ((s.atLeast (b.start + 4)).updPc q.val (·.discarded b)) := by
  have hany : ¬ [b].any (fun b => (s.pc q.val).wq.any (fun e => e.drainedBy b && e.retry)) = true := by simp [hfirst]
  change execWriteErrorReport q s = _
  unfold execWriteErrorReport
  rw [hl]
  exact (if_neg (by simp)).trans (if_neg hany)

/-- A retry that failed counts, with an event of the TSVs. -/
theorem writeError_again (hl : (s.pc q.val).drainOf = [b]) (hagain : (s.pc q.val).wq.any (fun e => e.drainedBy b && e.retry) = true) :
    exec (.writeErrorReport q) s = .next (fault (srcTsv (chanOf q.val)) (pcDetail q.val) (chanEvent q.val 0x48 1
      (((s.atLeast (b.start + 4)).updPc q.val (·.discarded b)).updChan (chanOf q.val) (fun c => { c with rfBeat := satInc c.rfBeat })))) := by
  have hany : [b].any (fun b => (s.pc q.val).wq.any (fun e => e.drainedBy b && e.retry)) = true := by simp [hagain]
  change execWriteErrorReport q s = _
  unfold execWriteErrorReport
  rw [hl]
  exact (if_neg (by simp)).trans (if_pos hany)

theorem writeErrorReport_first (hl : (s.pc q.val).drainOf = [b])
    (hfirst : (s.pc q.val).wq.any (fun e => e.drainedBy b && e.retry) = false) :
    ∃ t, exec (.writeErrorReport q) s = .next t ∧ t.mem = s.mem ∧ t.ports = s.ports ∧ t.flt = s.flt ∧
      (t.pc q.val).bursts = dropFirst (fun y => decide (y = b)) (s.pc q.val).bursts ∧
      (t.pc q.val).wq = (s.pc q.val).wq.map (fun e => if e.drainedBy b then { e with busy := false, retry := true } else e) := by
  have hpc : ((s.atLeast (b.start + 4)).updPc q.val (·.discarded b)).pc q.val = (s.pc q.val).discarded b :=
    (State.updPc_pc ..).trans (if_pos rfl)
  refine ⟨_, writeError_first hl hfirst, rfl, rfl, rfl, ?_, ?_⟩ <;> rw [hpc, Pc.discarded]

theorem writeErrorReport_again (hl : (s.pc q.val).drainOf = [b])
    (hagain : (s.pc q.val).wq.any (fun e => e.drainedBy b && e.retry) = true)
    (hq : (s.atLeast (b.start + 4)).quiet (srcTsv (chanOf q.val))) :
    ∃ t, exec (.writeErrorReport q) s = .next t ∧ t.mem = s.mem ∧ t.ports = s.ports ∧
      (t.chan (chanOf q.val)).rfBeat = satInc (s.chan (chanOf q.val)).rfBeat ∧
      (t.src (srcTsv (chanOf q.val))).total = satInc (s.src (srcTsv (chanOf q.val))).total ∧ (t.pc q.val).isolating = true := by
  have hrun := writeError_again hl hagain
  have hkept : Fr 16777216 (s.atLeast (b.start + 4)) ((s.atLeast (b.start + 4)).updPc q.val (·.discarded b)) := State.updPc_fr ..
  generalize (s.atLeast (b.start + 4)).updPc q.val (·.discarded b) = u at hrun hkept
  have hcount : Fr 142606336 u (chanEvent q.val 0x48 1 (u.updChan (chanOf q.val) (fun c => { c with rfBeat := satInc c.rfBeat }))) :=
    ((State.updChan_fr ..).or (chanEvent_fr ..)).mono rfl
  have hchan : ((chanEvent q.val 0x48 1 (u.updChan (chanOf q.val) (fun c => { c with rfBeat := satInc c.rfBeat }))).chan
      (chanOf q.val)).rfBeat = satInc (u.chan (chanOf q.val)).rfBeat := by
    rw [State.chan, (chanEvent_fr ..).chans rfl, ← State.chan, State.updChan_chan, if_pos rfl]
  generalize chanEvent q.val 0x48 1 (u.updChan (chanOf q.val) (fun c => { c with rfBeat := satInc c.rfBeat })) = v at hrun hcount hchan
  have hall := hkept.or hcount
  have h0 : srcTsv (chanOf q.val) ≠ 0 := by simp only [srcTsv]; omega
  have h9 : srcTsv (chanOf q.val) ≠ 9 := by simp only [srcTsv]; omega
  rw [fault_of_quiet _ h0 h9 (hall.quiet hq), perEvent_srcTsv] at hrun
  have hev := v.withEvent_fr (srcTsv (chanOf q.val))
  refine ⟨_, hrun, (hev.mem rfl).trans (hall.mem rfl), (hev.ports rfl).trans (hall.ports rfl), ?_, ?_, ?_⟩
  · rw [State.updPc_chan, State.chan, hev.chans rfl, ← State.chan, hchan, State.chan, hkept.chans rfl]
    rfl
  · rw [State.updPc_src, State.withEvent_src_self, hall.src rfl]
    rfl
  · rw [State.updPc_pc, if_pos rfl]

/-! ## A command in error -/

/-- An event of a channel's command parity starts the isolation of the lane on the pseudo-channel that it names. -/
theorem perEvent_srcParity (q : PcId) (s : State) :
    perEvent (srcParity (chanOf q.val)) (pcDetail q.val) s = s.updPc q.val (fun x => { x with isolating := true }) := by
  have hq : q.val < 32 := q.isLt
  have h1 : srcParity (chanOf q.val) ≠ 1 := by simp only [srcParity]; omega
  have hrange : 80 ≤ srcParity (chanOf q.val) ∧ srcParity (chanOf q.val) < 176 := by simp only [srcParity, chanOf]; omega
  have hkind : (srcParity (chanOf q.val) - 80) % 6 = 3 := by simp only [srcParity]; omega
  have hpc : 2 * ((srcParity (chanOf q.val) - 80) / 6) + b2n (pcDetail q.val).pc = q.val := by
    simp only [srcParity, chanOf, pcDetail, b2n, decide_eq_true_eq]
    split <;> omega
  simp only [perEvent, if_neg h1, if_pos hrange, hkind, hpc]

/-- What the report of a command that failed at most once before counts, the pseudo-channel but for its isolation as it was. -/
structure Reissued (q : PcId) (col : Bool) (before : Nat) (s t : State) : Prop where
  fr : Fr 159384576 s t
  pc : ∃ i, t.pc q.val = { s.pc q.val with isolating := i }
  flt : before = 0 → t.flt = s.flt
  rtColumn : (t.chan (chanOf q.val)).rtColumn = (if col then satInc (s.chan (chanOf q.val)).rtColumn else (s.chan (chanOf q.val)).rtColumn)
  rtRow : (t.chan (chanOf q.val)).rtRow = (if col then (s.chan (chanOf q.val)).rtRow else satInc (s.chan (chanOf q.val)).rtRow)
  rfThird : (t.chan (chanOf q.val)).rfThird = (s.chan (chanOf q.val)).rfThird
  second : before = 1 → (t.pc q.val).isolating = true ∧ (t.chan (chanOf q.val)).rfCommand = satInc (s.chan (chanOf q.val)).rfCommand ∧
    (t.src (srcParity (chanOf q.val))).total = satInc (s.src (srcParity (chanOf q.val))).total

theorem reissue_chan (n : Nat) (col : Bool) (s : State) : (reissue n col s).chan n =
    if col then { s.chan n with rtColumn := satInc (s.chan n).rtColumn } else { s.chan n with rtRow := satInc (s.chan n).rtRow } := by
  unfold reissue
  rw [State.chan, (pmcCount_fr ..).chans rfl, ← State.chan, State.updChan_chan, if_pos rfl]

theorem parityReport_second (col : Bool) (hq : s.quiet (srcParity (chanOf q.val))) : parityReport q.val col 1 s =
    ((reissue (chanOf q.val) col (s.updChan (chanOf q.val) (fun c => { c with rfCommand := satInc c.rfCommand }))).withEvent
      (srcParity (chanOf q.val))).updPc q.val (fun x => { x with isolating := true }) := by
  have h0 : srcParity (chanOf q.val) ≠ 0 := by simp only [srcParity]; omega
  have h9 : srcParity (chanOf q.val) ≠ 9 := by simp only [srcParity]; omega
  have hcount : Fr 142606336 s (reissue (chanOf q.val) col (s.updChan (chanOf q.val) (fun c => { c with rfCommand := satInc c.rfCommand }))) :=
    ((State.updChan_fr ..).or (reissue_fr ..)).mono rfl
  exact (fault_of_quiet _ h0 h9 (hcount.quiet hq)).trans (perEvent_srcParity q _)

theorem reissued_first (col : Bool) (s : State) : Reissued q col 0 s (parityReport q.val col 0 s) := by
  have hpar : parityReport q.val col 0 s = reissue (chanOf q.val) col s := rfl
  have hfr : Fr 142606336 s (reissue (chanOf q.val) col s) := reissue_fr ..
  have hchan := reissue_chan (chanOf q.val) col s
  rw [hpar]
  refine ⟨hfr.mono rfl, ⟨_, hfr.pc rfl q.val⟩, fun _ => hfr.flt rfl, ?_, ?_, ?_, by simp⟩ <;> rw [hchan] <;> cases col <;> rfl

theorem reissued_second (col : Bool) (hq : s.quiet (srcParity (chanOf q.val))) : Reissued q col 1 s (parityReport q.val col 1 s) := by
  rw [parityReport_second col hq]
  have hcount : Fr 8388608 s (s.updChan (chanOf q.val) (fun c => { c with rfCommand := satInc c.rfCommand })) := State.updChan_fr ..
  have hself : (s.updChan (chanOf q.val) (fun c => { c with rfCommand := satInc c.rfCommand })).chan (chanOf q.val) =
      { s.chan (chanOf q.val) with rfCommand := satInc (s.chan (chanOf q.val)).rfCommand } := (State.updChan_chan ..).trans (if_pos rfl)
  generalize s.updChan (chanOf q.val) (fun c => { c with rfCommand := satInc c.rfCommand }) = u at hcount hself ⊢
  have hre : Fr 142606336 u (reissue (chanOf q.val) col u) := reissue_fr ..
  have hchan := reissue_chan (chanOf q.val) col u
  generalize reissue (chanOf q.val) col u = v at hre hchan ⊢
  have hev := v.withEvent_fr (srcParity (chanOf q.val))
  have hall := hcount.or hre
  have hpc : ((v.withEvent (srcParity (chanOf q.val))).updPc q.val (fun x => { x with isolating := true })).pc q.val =
      { s.pc q.val with isolating := true } := by
    rw [State.updPc_pc, if_pos rfl, hev.pc rfl, hall.pc rfl]
  have hchan' : ((v.withEvent (srcParity (chanOf q.val))).updPc q.val (fun x => { x with isolating := true })).chan (chanOf q.val) =
      v.chan (chanOf q.val) := by
    rw [State.updPc_chan, State.chan, hev.chans rfl, State.chan]
  rw [hself] at hchan
  refine ⟨((hall.or hev).or (State.updPc_fr ..)).mono rfl, ⟨_, hpc⟩, by simp, ?_, ?_, ?_, fun _ => ⟨by rw [hpc], ?_, ?_⟩⟩
  · rw [hchan', hchan]
    cases col <;> rfl
  · rw [hchan', hchan]
    cases col <;> rfl
  · rw [hchan', hchan]
    cases col <;> rfl
  · rw [hchan', hchan]
    cases col <;> rfl
  · rw [State.updPc_src, State.withEvent_src_self, hall.src rfl]

theorem reissued {before : Nat} (col : Bool) (hle : before ≤ 1) (hq : before = 1 → s.quiet (srcParity (chanOf q.val))) :
    Reissued q col before s (parityReport q.val col before s) := by
  rcases Nat.le_one_iff_eq_zero_or_eq_one.mp hle with rfl | rfl
  · exact reissued_first col s
  · exact reissued_second col (hq rfl)

theorem parityReport_third {before : Nat} (col : Bool) (h : 2 ≤ before) (s : State) :
    parityReport q.val col before s = s.updChan (chanOf q.val) (fun c => { c with rfThird := satInc c.rfThird }) := by
  obtain ⟨n, rfl⟩ := Nat.exists_eq_add_of_le' h
  rfl

/-- A command moved: its pseudo-channel alone, which has as many bursts and isolates as before. -/
structure Shifted (q : PcId) (s t : State) : Prop where
  fr : Fr 16777216 s t
  length : (t.pc q.val).bursts.length = (s.pc q.val).bursts.length
  isolating : (t.pc q.val).isolating = (s.pc q.val).isolating

theorem Shifted.refl (s : State) : Shifted q s s := ⟨Fr.refl .., rfl, rfl⟩

theorem Shifted.trans (h : Shifted q s t) (h' : Shifted q t v) : Shifted q s v :=
  ⟨(h.fr.or h'.fr).mono rfl, h'.length.trans h.length, h'.isolating.trans h.isolating⟩

theorem Shifted.of_updPc {f : Pc → Pc} (hl : (f (s.pc q.val)).bursts.length = (s.pc q.val).bursts.length)
    (hi : (f (s.pc q.val)).isolating = (s.pc q.val).isolating) : Shifted q s (s.updPc q.val f) :=
  ⟨State.updPc_fr .., by rw [State.updPc_pc, if_pos rfl, hl], by rw [State.updPc_pc, if_pos rfl, hi]⟩

theorem Pc.clearSlot_isolating (y : Pc) (n : Nat) : (y.clearSlot n).isolating = y.isolating := by
  unfold Pc.clearSlot
  split <;> rfl

theorem laterBurst_shifted (b : Burst) (s : State) : Shifted q s (laterBurst q.val b s) :=
  Shifted.of_updPc ((List.length_map ..).trans (Pc.resend_bursts_length ..)) (Pc.clearSlot_isolating ..)

theorem forL_laterBurst_shifted (l : List Burst) (s : State) : Shifted q s (forL l (laterBurst q.val) s) := by
  induction l generalizing s with
  | nil => exact Shifted.refl s
  | cons b l ih =>
    rw [forL_cons]
    exact (laterBurst_shifted b s).trans (ih _)

/-- The command that a parity report names, by whether it goes over the column bus and how often it failed before. -/
def commandNames (c : CmdRef) (col : Bool) (failed : Nat) (x : Pc) : Prop :=
  (∃ b rest, x.bursts = b :: rest ∧
      ((c = .column ∧ col = true ∧ failed = b.cmdErrors) ∨ (c = .row ∧ col = false ∧ failed = b.actErrors))) ∨
    (∃ k b e, c = .refresh k b ∧ col = false ∧ x.rf.refRun.find? (fun e => decide (e.1 = bankKey k.val b.val)) = some e ∧
      failed = e.2.errors) ∨
    (c = .engine ∧ col = false ∧ failed = x.engErrors)

section
variable {c : CmdRef} {col : Bool} {failed : Nat} {rest : List Burst}

theorem column_again (hb : (s.pc q.val).bursts = b :: rest) (h : ¬ 2 ≤ b.cmdErrors) : exec (.commandParityReport q .column) s =
    .next (laterBurst q.val { b with cmdErrors := b.cmdErrors + 1 } ((parityReport q.val true b.cmdErrors s).updPc q.val (fun x =>
      { x with bursts := x.bursts.map (fun y => if y = b then { b with cmdErrors := b.cmdErrors + 1 } else y) }))) := by
  change execCommandParityReport q .column s = _
  unfold execCommandParityReport
  dsimp only
  rw [hb]
  exact if_neg h

theorem column_over (hb : (s.pc q.val).bursts = b :: rest) (h : 2 ≤ b.cmdErrors) : exec (.commandParityReport q .column) s =
    .next (dropBurst q.val b (parityReport q.val true b.cmdErrors s)) := by
  change execCommandParityReport q .column s = _
  unfold execCommandParityReport
  dsimp only
  rw [hb]
  exact if_pos h

/-- The bursts of one activation. -/
def Burst.sameAct (b y : Burst) : Bool :=
  decide (y.rank = b.rank) && decide (y.bank = b.bank) && decide (y.row = b.row) && decide (y.act = b.act)

/-- The pseudo-channel whose ACT is issued again: its bank a tick later, one failure more on each burst of the activation. -/
def Pc.actAgain (b : Burst) (x : Pc) : Pc :=
  { x with
    bankFree := tabSet 0 x.bankFree (calKey b.rank b.bank) (tabGet 0 x.bankFree (calKey b.rank b.bank) + 1)
    bursts := x.bursts.map (fun y => if b.sameAct y then { y with actErrors := y.actErrors + 1 } else y) }

theorem row_again (hb : (s.pc q.val).bursts = b :: rest) (h : ¬ 2 ≤ b.actErrors) : ∃ l, exec (.commandParityReport q .row) s =
    .next (forL l (laterBurst q.val) ((parityReport q.val false b.actErrors s).updPc q.val (Pc.actAgain b))) := by
  change ∃ l, execCommandParityReport q .row s = _
  unfold execCommandParityReport
  dsimp only
  rw [hb]
  exact ⟨_, if_neg h⟩

theorem row_over (hb : (s.pc q.val).bursts = b :: rest) (h : 2 ≤ b.actErrors) : exec (.commandParityReport q .row) s =
    .next (forL (((parityReport q.val false b.actErrors s).pc q.val).bursts.filter b.sameAct) (dropBurst q.val)
      (parityReport q.val false b.actErrors s)) := by
  change execCommandParityReport q .row s = _
  unfold execCommandParityReport
  dsimp only
  rw [hb]
  exact if_pos h

/-- The refresh run of a key after its REFPB failed. -/
def refreshFailed (r : RefRun) (key : Nat) (l : List (Nat × RefRun)) : List (Nat × RefRun) :=
  if 2 ≤ r.errors then tabErase l key else tabPut (tabErase l key) key { r with start := r.start + 1, errors := r.errors + 1 }

theorem refresh_report {k : LayerId} {b : BankId} {e : Nat × RefRun}
    (he : (s.pc q.val).rf.refRun.find? (fun e => decide (e.1 = bankKey k.val b.val)) = some e) :
    exec (.commandParityReport q (.refresh k b)) s = .next ((parityReport q.val false e.2.errors s).updPc q.val (fun x =>
      { x with rf.refRun := refreshFailed e.2 (bankKey k.val b.val) x.rf.refRun })) := by
  change execCommandParityReport q (.refresh k b) s = _
  unfold execCommandParityReport
  dsimp only
  rw [he] <;> rfl

/-- A command that failed at most once before is issued again. -/
theorem command_again (hc : commandNames c col failed (s.pc q.val)) (hle : failed ≤ 1) :
    ∃ t, exec (.commandParityReport q c) s = .next t ∧ Shifted q (parityReport q.val col failed s) t := by
  rcases hc with ⟨b, rest, hb, ⟨rfl, rfl, rfl⟩ | ⟨rfl, rfl, rfl⟩⟩ | ⟨k, b, e, rfl, rfl, he, rfl⟩ | ⟨rfl, rfl, rfl⟩
  · exact ⟨_, column_again hb (by omega), (Shifted.of_updPc (List.length_map ..) rfl).trans (laterBurst_shifted ..)⟩
  · obtain ⟨l, hl⟩ := row_again hb (by omega)
    exact ⟨_, hl, (Shifted.of_updPc (List.length_map ..) rfl).trans (forL_laterBurst_shifted ..)⟩
  · exact ⟨_, refresh_report he, Shifted.of_updPc rfl rfl⟩
  · exact ⟨_, rfl, Shifted.of_updPc rfl rfl⟩

theorem forL_dropBurst_fr (l : List Burst) (s : State) : Fr 155189252 s (forL l (dropBurst q.val) s) :=
  Fr.forL (fun _ _ => dropBurst_fr ..) l (Fr.refl ..)

/-- A command that failed twice before is not issued again. -/
theorem command_over (hc : commandNames c col failed (s.pc q.val)) (h : 2 ≤ failed) :
    ∃ t, exec (.commandParityReport q c) s = .next t ∧ Fr 155189252 (parityReport q.val col failed s) t := by
  rcases hc with ⟨b, rest, hb, ⟨rfl, rfl, rfl⟩ | ⟨rfl, rfl, rfl⟩⟩ | ⟨k, b, e, rfl, rfl, he, rfl⟩ | ⟨rfl, rfl, rfl⟩
  · exact ⟨_, column_over hb h, dropBurst_fr ..⟩
  · exact ⟨_, row_over hb h, forL_dropBurst_fr ..⟩
  · exact ⟨_, refresh_report he, (State.updPc_fr ..).mono rfl⟩
  · exact ⟨_, rfl, (State.updPc_fr ..).mono rfl⟩

theorem parity_again (hc : commandNames c col failed (s.pc q.val)) (hle : failed ≤ 1) (hq : failed = 1 → s.quiet (srcParity (chanOf q.val))) :
    ∃ t, exec (.commandParityReport q c) s = .next t ∧ t.mem = s.mem ∧ t.ports = s.ports ∧ (failed = 0 → t.flt = s.flt) ∧
      (t.chan (chanOf q.val)).rtColumn = (if col then satInc (s.chan (chanOf q.val)).rtColumn else (s.chan (chanOf q.val)).rtColumn) ∧
      (t.chan (chanOf q.val)).rtRow = (if col then (s.chan (chanOf q.val)).rtRow else satInc (s.chan (chanOf q.val)).rtRow) ∧
      (t.chan (chanOf q.val)).rfThird = (s.chan (chanOf q.val)).rfThird ∧ (t.pc q.val).bursts.length = (s.pc q.val).bursts.length ∧
      (failed = 1 → (t.pc q.val).isolating = true ∧ (t.chan (chanOf q.val)).rfCommand = satInc (s.chan (chanOf q.val)).rfCommand ∧
        (t.src (srcParity (chanOf q.val))).total = satInc (s.src (srcParity (chanOf q.val))).total) := by
  obtain ⟨t, ht, hshift⟩ := command_again hc hle
  have hre := reissued (s := s) col hle hq
  have hfr := hshift.fr
  have hchan : t.chan (chanOf q.val) = (parityReport q.val col failed s).chan (chanOf q.val) := by
    rw [State.chan, hfr.chans rfl, State.chan]
  obtain ⟨i, hi⟩ := hre.pc
  refine ⟨t, ht, (hfr.mem rfl).trans (hre.fr.mem rfl), (hfr.ports rfl).trans (hre.fr.ports rfl),
    fun h => (hfr.flt rfl).trans (hre.flt h), ?_, ?_, ?_, ?_, fun h => ⟨?_, ?_, ?_⟩⟩
  · rw [hchan, hre.rtColumn]
  · rw [hchan, hre.rtRow]
  · rw [hchan, hre.rfThird]
  · rw [hshift.length, hi]
  · rw [hshift.isolating, (hre.second h).1]
  · rw [hchan, (hre.second h).2.1]
  · rw [hfr.src rfl, (hre.second h).2.2]

theorem parity_over (hc : commandNames c col failed (s.pc q.val)) (h : 2 ≤ failed) :
    ∃ t, exec (.commandParityReport q c) s = .next t ∧ t.mem = s.mem ∧ t.flt = s.flt ∧
      (t.chan (chanOf q.val)).rfThird = satInc (s.chan (chanOf q.val)).rfThird ∧
      (t.chan (chanOf q.val)).rtColumn = (s.chan (chanOf q.val)).rtColumn ∧
      (t.chan (chanOf q.val)).rtRow = (s.chan (chanOf q.val)).rtRow := by
  obtain ⟨t, ht, hfr⟩ := command_over hc h
  rw [parityReport_third col h] at hfr
  have hchan : t.chan (chanOf q.val) = { s.chan (chanOf q.val) with rfThird := satInc (s.chan (chanOf q.val)).rfThird } := by
    rw [State.chan, hfr.chans rfl, ← State.chan, State.updChan_chan, if_pos rfl]
  refine ⟨t, ht, hfr.mem rfl, hfr.flt rfl, ?_, ?_, ?_⟩ <;> rw [hchan]

/-! ## The column command -/

theorem Pc.clearSlot_keeps {y : Pc} {n : Nat} (hb : b ∈ y.bursts) (hs : b.start ≠ n) : b ∈ (y.clearSlot n).bursts := by
  unfold Pc.clearSlot
  split
  · refine List.mem_map.mpr ⟨b, hb, ?_⟩
    rw [if_neg (by simp [hs])]
  · exact hb

theorem Pc.resend_keeps {y : Pc} (hb : b ∈ y.bursts) : b ∈ (y.resend b (b.start + 1)).1.bursts := by
  obtain ⟨k, hk, hstart⟩ := Pc.resend_burst y b (b.start + 1)
  have hu : (y.resend b (b.start + 1)).2.start = k := by rw [hstart]
  refine Pc.clearSlot_keeps hb ?_
  change b.start ≠ (y.resend b (b.start + 1)).2.start
  omega

/-- The burst that is moved stands in the pseudo-channel at its later start. -/
theorem laterBurst_mem (hb : b ∈ (s.pc q.val).bursts) :
    ∃ k, b.start + 1 ≤ k ∧ { b with start := k } ∈ ((laterBurst q.val b s).pc q.val).bursts := by
  obtain ⟨k, hk, hstart⟩ := Pc.resend_burst (s.pc q.val) b (b.start + 1)
  refine ⟨k, hk, ?_⟩
  unfold laterBurst
  rw [State.updPc_pc, if_pos rfl]
  refine List.mem_map.mpr ⟨b, Pc.resend_keeps hb, ?_⟩
  rw [if_pos rfl, hstart]

theorem column_moves (hb : (s.pc q.val).bursts = b :: rest) (hle : b.cmdErrors ≤ 1)
    (hq : b.cmdErrors = 1 → s.quiet (srcParity (chanOf q.val))) :
    ∃ t y, exec (.commandParityReport q .column) s = .next t ∧ y ∈ (t.pc q.val).bursts ∧ b.start + 1 ≤ y.start ∧
      y = { b with cmdErrors := b.cmdErrors + 1, start := y.start } := by
  obtain ⟨i, hi⟩ := (reissued (s := s) true hle hq).pc
  have hmem : { b with cmdErrors := b.cmdErrors + 1 } ∈ (((parityReport q.val true b.cmdErrors s).updPc q.val (fun x =>
      { x with bursts := x.bursts.map (fun y => if y = b then { b with cmdErrors := b.cmdErrors + 1 } else y) })).pc q.val).bursts := by
    rw [State.updPc_pc, if_pos rfl, hi]
    dsimp only
    rw [hb]
    refine List.mem_map.mpr ⟨b, List.mem_cons_self .., if_pos rfl⟩
  obtain ⟨k, hk, hin⟩ := laterBurst_mem hmem
  exact ⟨_, _, column_again hb (by omega), hin, hk, rfl⟩

theorem column_discards (hb : (s.pc q.val).bursts = b :: rest) (h : 2 ≤ b.cmdErrors) (hw : b.write = true) :
    ∃ t, exec (.commandParityReport q .column) s = .next t ∧ t.mem = s.mem ∧ t.ports = s.ports ∧
      (t.pc q.val).bursts = rest ∧ (t.pc q.val).wq.length = (s.pc q.val).wq.length := by
  have hrun := column_over hb h
  rw [parityReport_third true h, dropBurst, if_pos hw] at hrun
  refine ⟨_, hrun, rfl, rfl, ?_, ?_⟩
  · rw [State.updPc_pc, if_pos rfl, Pc.discarded, State.updChan_pc, hb]
    simp [dropFirst]
  · rw [State.updPc_pc, if_pos rfl, Pc.discarded, State.updChan_pc]
    exact List.length_map ..

theorem column_poisons {r : Req} (hb : (s.pc q.val).bursts = b :: rest) (h : 2 ≤ b.cmdErrors) (hw : b.write = false)
    (hr : s.openRead b = some r) :
    ∃ t d, exec (.commandParityReport q .column) s = .next t ∧ delivered b r .poison d s t ∧ (t.pc q.val).bursts = rest := by
  have hrun := column_over hb h
  rw [parityReport_third true h] at hrun
  unfold dropBurst at hrun
  dsimp only at hrun
  rw [if_neg (by simp [hw])] at hrun
  have hpc : ((s.updChan (chanOf q.val) (fun c => { c with rfThird := satInc c.rfThird })).updPc q.val (·.discarded b)).pc q.val =
      (s.pc q.val).discarded b := by
    rw [State.updPc_pc, if_pos rfl, State.updChan_pc]
  have hport (j : Nat) : ((s.updChan (chanOf q.val) (fun c => { c with rfThird := satInc c.rfThird })).updPc q.val
      (·.discarded b)).port j = s.port j := rfl
  generalize (s.updChan (chanOf q.val) (fun c => { c with rfThird := satInc c.rfThird })).updPc q.val (·.discarded b) = u at hrun hpc hport
  obtain ⟨t, ht, hdel, hfr, -⟩ := deliver_spec (b := b) (r := r) (s := { u with choice := u.choice + 1 }) .poison
    (Config.strayBlock u.choice) (openRead_congr hport hr)
  rw [ht] at hrun
  refine ⟨t, _, hrun, hdel.of_ports hport, ?_⟩
  rw [hfr.pc rfl]
  change (u.pc q.val).bursts = rest
  rw [hpc, Pc.discarded, hb]
  simp [dropFirst]

/-! ## The ACT that failed a third time -/

theorem dropBurst_bursts (b : Burst) (s : State) :
    ((dropBurst q.val b s).pc q.val).bursts = dropFirst (fun y => decide (y = b)) (s.pc q.val).bursts := by
  have hpc : (s.updPc q.val (·.discarded b)).pc q.val = (s.pc q.val).discarded b := (State.updPc_pc ..).trans (if_pos rfl)
  unfold dropBurst
  dsimp only
  split
  · rw [hpc, Pc.discarded]
  · rw [(deliver_fr ..).pc rfl]
    change ((s.updPc q.val (·.discarded b)).pc q.val).bursts = _
    rw [hpc, Pc.discarded]

theorem forL_dropBurst_bursts (l : List Burst) (s : State) : ((forL l (dropBurst q.val) s).pc q.val).bursts =
    l.foldl (fun acc b => dropFirst (fun y => decide (y = b)) acc) (s.pc q.val).bursts := by
  induction l generalizing s with
  | nil => rfl
  | cons b l ih => rw [forL_cons, ih, dropBurst_bursts, List.foldl_cons]

theorem foldl_dropFirst_cons {a : Burst} {l : List Burst} (h : ∀ b ∈ l, a ≠ b) (acc : List Burst) :
    l.foldl (fun acc b => dropFirst (fun y => decide (y = b)) acc) (a :: acc) =
      a :: l.foldl (fun acc b => dropFirst (fun y => decide (y = b)) acc) acc := by
  induction l generalizing acc with
  | nil => rfl
  | cons b l ih =>
    have hab : a ≠ b := h b (List.mem_cons_self ..)
    rw [List.foldl_cons, List.foldl_cons, dropFirst, decide_eq_false hab, if_neg Bool.false_ne_true,
      ih (fun b hb => h b (List.mem_cons_of_mem _ hb))]

/-- Every burst of a kind dropped, the others stay. -/
theorem foldl_dropFirst_filter (p : Burst → Bool) (l : List Burst) :
    (l.filter p).foldl (fun acc b => dropFirst (fun y => decide (y = b)) acc) l = l.filter (fun y => !p y) := by
  induction l with
  | nil => rfl
  | cons a l ih =>
    cases hp : p a with
    | true =>
      rw [List.filter_cons_of_pos hp, List.foldl_cons, dropFirst, decide_eq_true rfl, if_pos rfl, ih, List.filter_cons_of_neg (by simp [hp])]
    | false =>
      have hne : ∀ b ∈ l.filter p, a ≠ b := by
        rintro b hb rfl
        rw [List.mem_filter, hp] at hb
        exact Bool.false_ne_true hb.2
      rw [List.filter_cons_of_neg (by simp [hp]), foldl_dropFirst_cons hne, ih, List.filter_cons_of_pos (by simp [hp])]

theorem row_ends (hb : (s.pc q.val).bursts = b :: rest) (h : 2 ≤ b.actErrors) :
    ∃ t, exec (.commandParityReport q .row) s = .next t ∧ ∀ y ∈ (t.pc q.val).bursts,
      y ∈ (s.pc q.val).bursts ∧ ¬ (y.rank = b.rank ∧ y.bank = b.bank ∧ y.row = b.row ∧ y.act = b.act) := by
  refine ⟨_, row_over hb h, fun y hy => ?_⟩
  rw [parityReport_third false h, forL_dropBurst_bursts, State.updChan_pc, foldl_dropFirst_filter, List.mem_filter] at hy
  obtain ⟨hin, hother⟩ := hy
  simp only [Burst.sameAct, Bool.not_eq_true', Bool.and_eq_false_iff, decide_eq_false_iff_not] at hother
  exact ⟨hin, by tauto⟩

/-! ## The REFPB -/

theorem refresh_moves {k : LayerId} {b : BankId} {e : Nat × RefRun}
    (he : (s.pc q.val).rf.refRun.find? (fun e => decide (e.1 = bankKey k.val b.val)) = some e) (h : e.2.errors = 0) :
    ∃ t, exec (.commandParityReport q (.refresh k b)) s = .next t ∧
      (t.pc q.val).rf.refRun = tabPut (tabErase (s.pc q.val).rf.refRun (bankKey k.val b.val)) (bankKey k.val b.val)
        { e.2 with start := e.2.start + 1, errors := 1 } := by
  obtain ⟨i, hi⟩ := (reissued_first (q := q) false s).pc
  have hrun := refresh_report he
  rw [h] at hrun
  refine ⟨_, hrun, ?_⟩
  rw [State.updPc_pc, if_pos rfl, hi, refreshFailed, if_neg (by omega), h]

theorem refresh_ends {k : LayerId} {b : BankId} {e : Nat × RefRun}
    (he : (s.pc q.val).rf.refRun.find? (fun e => decide (e.1 = bankKey k.val b.val)) = some e) (h : 2 ≤ e.2.errors) :
    ∃ t, exec (.commandParityReport q (.refresh k b)) s = .next t ∧
      (t.pc q.val).rf.refRun = tabErase (s.pc q.val).rf.refRun (bankKey k.val b.val) ∧
      (t.pc q.val).rf.refDone = (s.pc q.val).rf.refDone := by
  have hrun := refresh_report he
  rw [parityReport_third false h] at hrun
  refine ⟨_, hrun, ?_, ?_⟩
  · rw [State.updPc_pc, if_pos rfl, refreshFailed, if_pos h, State.updChan_pc]
  · rw [State.updPc_pc, if_pos rfl, State.updChan_pc]

end

/-- Settles O42: a drain by what one block stores (`drain_spec`, `drain_stores`), a report of a write by its first time and its
retry, a command in error by its report and by how its kind is issued again or ended. -/
theorem writesDrainOrStayQueued : Obligations.WritesDrainOrStayQueued := by
  unfold Obligations.WritesDrainOrStayQueued
  rintro q n s rfl
  refine ⟨fun b key x hl hkey hx hblock => ⟨fun hup hfirst => ?_, writeErrorReport_first hl, writeErrorReport_again hl⟩,
    fun c col failed hc => ⟨parity_again hc, parity_over hc⟩,
    fun b rest hb => ⟨column_moves hb, column_discards hb, fun r h hw hr => column_poisons hb h hw hr, row_ends hb⟩,
    fun k b e he => ⟨refresh_moves he, refresh_ends he⟩⟩
  obtain ⟨t, hrun, hnow, hports, hflt, hbursts, hwq, hchanges, hmem⟩ := drain_spec hl hkey hup hfirst
  exact ⟨t, hrun, hnow, hports, hflt, hbursts, hwq, hchanges, drain_stores hx hblock hmem⟩

end Sys2Proof.Machine
end

section
/-! SUPPORT. Hatboxes read, their entries taken and served, spare rows assigned (R308 to R312, R325, R339, R340; O46). -/

namespace Sys2Proof.Machine

open Host

variable {s t v : State} {q k : Nat} {e : HatEntry}

theorem Fr.slice {m : Nat} (h : Fr m s t) (hm : m.testBit 25 = false) (q k : Nat) : t.slice q k = s.slice q k := by
  rw [State.slice, h.slices hm, State.slice]

/-! ## What taking an entry leaves of the slices -/

/-- Two slices of equal use and hatbox. -/
structure SameHat (x y : Slice) : Prop where
  inUse : y.inUse = x.inUse
  hatbox : y.hatbox = x.hatbox
  hatPending : y.hatPending = x.hatPending
  unread : y.unread = x.unread

theorem SameHat.refl (x : Slice) : SameHat x x := ⟨rfl, rfl, rfl, rfl⟩

theorem SameHat.trans {x y z : Slice} (h : SameHat x y) (h' : SameHat y z) : SameHat x z :=
  ⟨h'.inUse.trans h.inUse, h'.hatbox.trans h.hatbox, h'.hatPending.trans h.hatPending, h'.unread.trans h.unread⟩

/-- Channels, pseudo-channels, counters and the fuses that wait changed at most, and of the slices nothing of their hatboxes. -/
structure HatsKept (s t : State) : Prop where
  fr : Fr 192946176 s t
  slice : ∀ q k, SameHat (s.slice q k) (t.slice q k)

theorem HatsKept.trans (h : HatsKept s t) (h' : HatsKept t v) : HatsKept s v :=
  ⟨(h.fr.or h'.fr).mono rfl, fun q k => (h.slice q k).trans (h'.slice q k)⟩

theorem HatsKept.of_fr {m : Nat} (h : Fr m s t) (hs : m.testBit 25 = false := by decide) (hm : m ||| 192946176 = 192946176 := by decide) :
    HatsKept s t :=
  ⟨h.mono hm, fun q k => by rw [h.slice hs]; exact SameHat.refl _⟩

theorem HatsKept.refl (s : State) : HatsKept s s := HatsKept.of_fr (Fr.refl 0 s)

theorem HatsKept.updSlice {f : Slice → Slice} (q k : Nat) (h : SameHat (s.slice q k) (f (s.slice q k))) : HatsKept s (s.updSlice q k f) := by
  refine ⟨(State.updSlice_fr ..).mono rfl, fun i j => ?_⟩
  rw [State.updSlice_slice]
  split
  · next hij => rw [State.slice, hij]; exact h
  · exact SameHat.refl _

theorem markCatchUp_hats (q k : Nat) (s : State) : HatsKept s (markCatchUp q k s) := by
  unfold markCatchUp
  split
  · exact HatsKept.updSlice q k ⟨rfl, rfl, rfl, rfl⟩
  · exact HatsKept.refl s

/-- The slice of a subarray promoted. -/
theorem promote_hats (q k b sub : Nat) (s : State) : HatsKept s (promote q k b sub s) := by
  unfold promote
  extract_lets bin s1 burn otp s2 s3
  have h1 : HatsKept s s1 := HatsKept.updSlice q k ⟨rfl, rfl, rfl, rfl⟩
  have h2 : HatsKept s1 s2 := HatsKept.of_fr (Fr.u8192 (Fr.refl 8192 s1) rfl)
  have h3 : HatsKept s2 s3 := HatsKept.of_fr (State.updChan_fr ..)
  exact ((h1.trans h2).trans h3).trans (markCatchUp_hats ..)

theorem judgeEntry_hats (q k : Nat) (e : HatEntry) (s : State) : HatsKept s (judgeEntry q k e s).1 := by
  unfold judgeEntry
  split
  · exact HatsKept.refl s
  · split
    · exact HatsKept.refl s
    · extract_lets n sub u before
      have hu : HatsKept s u := HatsKept.of_fr (State.updChan_fr ..)
      split
      · split
        · exact hu
        · exact hu.trans (promote_hats ..)
      · dsimp only
        exact hu.trans (HatsKept.of_fr (State.updChan_fr ..))

/-- Above P3 a taken entry counts nothing yet. -/
theorem takeEntry_hats (h : s.pwr.rung ≤ 2) (q k : Nat) (e : HatEntry) : HatsKept s (takeEntry q k e s) := by
  unfold takeEntry
  extract_lets n u key rest j w
  have hu : Fr 8388608 s u := State.updChan_fr ..
  have hrest : rest = false := decide_eq_false (by rw [hu.pwr rfl]; omega)
  have hw : HatsKept u w := by
    have : w = j.1 := if_neg (by simp [hrest])
    rw [this]
    exact judgeEntry_hats ..
  split
  · exact HatsKept.of_fr (hu.or (State.updPc_fr ..))
  · split
    · exact (HatsKept.of_fr hu).trans hw
    · exact ((HatsKept.of_fr hu).trans hw).trans (HatsKept.of_fr (State.updChan_fr ..))

theorem forL_takeEntry_hats (l : List HatEntry) (h : s.pwr.rung ≤ 2) : HatsKept s (forL l (takeEntry q k) s) := by
  induction l generalizing s with
  | nil => exact HatsKept.refl s
  | cons e l ih =>
    have hhead := takeEntry_hats h q k e
    rw [forL_cons]
    exact hhead.trans (ih (by rw [hhead.fr.pwr rfl]; exact h))

/-! ## The hatboxes of a channel read -/

/-- A slice with nothing in its hatbox and nothing to come. -/
structure Slice.Emptied (x : Slice) : Prop where
  hatPending : x.hatPending = []
  hatbox : x.hatbox = []
  unread : x.unread = 0

theorem SameHat.emptied {x y : Slice} (h : SameHat x y) (hx : x.Emptied) : y.Emptied :=
  ⟨h.hatPending.trans hx.hatPending, h.hatbox.trans hx.hatbox, h.unread.trans hx.unread⟩

/-- Hatboxes read: what is in use stays, what was emptied stays empty. -/
structure HatsRead (s t : State) : Prop where
  fr : Fr 192946176 s t
  inUse : ∀ q k, (t.slice q k).inUse = (s.slice q k).inUse
  pending : ∀ q k, (s.slice q k).hatPending = [] → (t.slice q k).hatPending = []
  emptied : ∀ q k, (s.slice q k).Emptied → (t.slice q k).Emptied

theorem HatsRead.trans (h : HatsRead s t) (h' : HatsRead t v) : HatsRead s v :=
  ⟨(h.fr.or h'.fr).mono rfl, fun q k => (h'.inUse q k).trans (h.inUse q k), fun q k hp => h'.pending q k (h.pending q k hp),
    fun q k he => h'.emptied q k (h.emptied q k he)⟩

theorem HatsKept.read (h : HatsKept s t) : HatsRead s t :=
  ⟨h.fr, fun q k => (h.slice q k).inUse, fun q k hp => (h.slice q k).hatPending.trans hp, fun q k he => (h.slice q k).emptied he⟩

/-- A slice whose entries are taken. -/
def Slice.hatTaken (x : Slice) : Slice :=
  { x with hatbox := (x.hatPending.take 16).map (fun e => ({ kind := 4, bank := e.1, row := e.2 } : HatEntry)), hatPending := x.hatPending.drop 16,
           unread := 0 }

theorem Slice.hatTaken_emptied {x : Slice} (h : x.hatPending = []) : x.hatTaken.Emptied := by
  refine ⟨?_, ?_, rfl⟩ <;> simp [Slice.hatTaken, h]

theorem hbx_eq (q k : Nat) (s : State) : hbx q k s = forL (s.slice q k).hatbox (takeEntry q k) (chanEvent q 0x4A 1
    ((s.updSlice q k Slice.hatTaken).updPc q (fun x => { x with mg.useHbx := x.mg.useHbx + 1 }))) := rfl

theorem updSlice_hatTaken_read (q k : Nat) (s : State) : HatsRead s (s.updSlice q k Slice.hatTaken) := by
  have hslice (i j : Nat) : ((s.updSlice q k Slice.hatTaken).slice i j) = (s.slice i j).hatTaken ∨
      ((s.updSlice q k Slice.hatTaken).slice i j) = s.slice i j := by
    rw [State.updSlice_slice]
    split
    · next h => exact .inl (by rw [State.slice, State.slice, h])
    · exact .inr rfl
  refine ⟨(State.updSlice_fr ..).mono rfl, fun i j => ?_, fun i j hp => ?_, fun i j he => ?_⟩
  · rcases hslice i j with h | h <;> rw [h] <;> rfl
  · rcases hslice i j with h | h <;> rw [h]
    · exact (Slice.hatTaken_emptied hp).hatPending
    · exact hp
  · rcases hslice i j with h | h <;> rw [h]
    · exact Slice.hatTaken_emptied he.hatPending
    · exact he

/-- One hatbox read: its own slice, with nothing pending, is emptied. -/
theorem hbx_read (h : s.pwr.rung ≤ 2) (q k : Nat) :
    HatsRead s (hbx q k s) ∧ ((s.slice q k).hatPending = [] → ((hbx q k s).slice q k).Emptied) := by
  rw [hbx_eq]
  have htaken := updSlice_hatTaken_read q k s
  have hself : (s.updSlice q k Slice.hatTaken).slice q k = (s.slice q k).hatTaken := (State.updSlice_slice ..).trans (if_pos rfl)
  generalize s.updSlice q k Slice.hatTaken = u at htaken hself
  have hbook : HatsKept u (chanEvent q 0x4A 1 (u.updPc q (fun x => { x with mg.useHbx := x.mg.useHbx + 1 }))) :=
    HatsKept.of_fr ((State.updPc_fr ..).or (chanEvent_fr ..))
  have hrest := hbook.trans (forL_takeEntry_hats (q := q) (k := k) (s.slice q k).hatbox (by
    rw [hbook.fr.pwr rfl, htaken.fr.pwr rfl]
    exact h))
  refine ⟨htaken.trans hrest.read, fun hp => (hrest.slice q k).emptied ?_⟩
  rw [hself]
  exact Slice.hatTaken_emptied hp

theorem forL_hbx_read (q : Nat) (l : List Nat) (h : s.pwr.rung ≤ 2) :
    HatsRead s (forL l (hbx q) s) ∧ ∀ k ∈ l, (s.slice q k).hatPending = [] → ((forL l (hbx q) s).slice q k).Emptied := by
  induction l generalizing s with
  | nil => exact ⟨(HatsKept.refl s).read, by simp⟩
  | cons a l ih =>
    obtain ⟨hhead, hself⟩ := hbx_read h q a
    obtain ⟨htail, hlist⟩ := ih (s := hbx q a s) (by rw [hhead.fr.pwr rfl]; exact h)
    rw [forL_cons]
    refine ⟨hhead.trans htail, fun k hk hp => ?_⟩
    rcases List.mem_cons.mp hk with rfl | hk
    · exact htail.emptied _ _ (hself hp)
    · exact hlist k hk (hhead.pending _ _ hp)

/-- Every hatbox of a pseudo-channel that can be read. -/
theorem readHatboxes_all (q : Nat) (s : State) : readHatboxes q [] s = forL (s.slicesOf q) (hbx q) s := by
  unfold readHatboxes
  extract_lets l good
  have hgood : good = l := List.filter_eq_self.mpr fun a _ => rfl
  rw [hgood]
  refine forL_congr_mem (fun a ha t => if_pos ?_) s
  exact List.contains_iff_mem.mpr ha

theorem readHatboxes_read (q : Nat) (h : s.pwr.rung ≤ 2) : HatsRead s (readHatboxes q [] s) ∧
    ∀ k, k < 18 → (s.slice q k).inUse = true → (s.slice q k).hatPending = [] → ((readHatboxes q [] s).slice q k).Emptied := by
  rw [readHatboxes_all]
  obtain ⟨hread, hlist⟩ := forL_hbx_read q (s.slicesOf q) h
  exact ⟨hread, fun k hk huse => hlist k (List.mem_filter.mpr ⟨List.mem_range.mpr hk, huse⟩)⟩

theorem hatboxRead_spec {n : ChanId} (h : s.pwr.rung ≤ 2) (hrun : s.channelsRun = true) (hctl : s.noController n.val = false) :
    ∃ t, exec (.hatboxRead n []) s = .next t ∧ t.mem = s.mem ∧ t.ports = s.ports ∧ t.flt = s.flt ∧ t.now = s.now ∧
      ∀ q k, q = 2 * n.val ∨ q = 2 * n.val + 1 → k < 18 → (s.slice q k).inUse = true → (s.slice q k).hatPending = [] →
        (t.slice q k).hatbox = [] ∧ (t.slice q k).unread = 0 := by
  have hexec : exec (.hatboxRead n []) s = .next (readHatboxes (2 * n.val + 1) [] (readHatboxes (2 * n.val) [] s)) :=
    congrArg Outcome.next (if_pos ⟨hrun, by rw [hctl]; rfl⟩)
  obtain ⟨heven, hevens⟩ := readHatboxes_read (2 * n.val) h
  obtain ⟨hodd, hodds⟩ := readHatboxes_read (s := readHatboxes (2 * n.val) [] s) (2 * n.val + 1) (by rw [heven.fr.pwr rfl]; exact h)
  have hall := heven.trans hodd
  refine ⟨_, hexec, hall.fr.mem rfl, hall.fr.ports rfl, hall.fr.flt rfl, hall.fr.now rfl, fun q k hq hk huse hp => ?_⟩
  have hdone : ((readHatboxes (2 * n.val + 1) [] (readHatboxes (2 * n.val) [] s)).slice q k).Emptied := by
    rcases hq with rfl | rfl
    · exact hodd.emptied _ _ (hevens k hk huse hp)
    · exact hodds k hk ((heven.inUse ..).trans huse) (heven.pending _ _ hp)
  exact ⟨hdone.hatbox, hdone.unread⟩

/-! ## An entry of a row activated often -/

theorem rfmRequest_spec {q : PcId} {k : LayerId} (huse : (s.slice q.val k.val).inUse = true) (hbox : (s.slice q.val k.val).hatbox = [e])
    (hrun : s.channelsRun = true) (hctl : s.noController (chanOf q.val) = false) (hp : (s.slice q.val k.val).hatPending = []) (he : e.kind = 4) :
    ∃ t, exec (.rfmRequestReport q k) s = .next t ∧ t.mem = s.mem ∧ t.ports = s.ports ∧ t.flt = s.flt ∧ t.now = s.now ∧
      (t.slice q.val k.val).hatbox = [] ∧ (t.chan (chanOf q.val)).hatTaken = satInc (s.chan (chanOf q.val)).hatTaken ∧
      (t.pc q.val).rf.rfmDue = (s.pc q.val).rf.rfmDue ++ [(bankKey k.val e.bank, e.row, .lower), (bankKey k.val e.bank, e.row, .upper)] := by
  have hexec : exec (.rfmRequestReport q k) s = .next (hbx q.val k.val s) := congrArg Outcome.next (if_pos ⟨huse, hrun, by rw [hctl]; rfl⟩)
  rw [hbx_eq, hbox, forL_cons, forL_nil] at hexec
  have hfr : Fr 184549376 s (chanEvent q.val 0x4A 1 ((s.updSlice q.val k.val Slice.hatTaken).updPc q.val
      (fun x => { x with mg.useHbx := x.mg.useHbx + 1 }))) := (((State.updSlice_fr ..).or (State.updPc_fr ..)).or (chanEvent_fr ..)).mono rfl
  have hslice : (chanEvent q.val 0x4A 1 ((s.updSlice q.val k.val Slice.hatTaken).updPc q.val
      (fun x => { x with mg.useHbx := x.mg.useHbx + 1 }))).slice q.val k.val = (s.slice q.val k.val).hatTaken := by
    rw [(chanEvent_fr ..).slice rfl, State.updPc_slice, State.updSlice_slice, if_pos rfl]
  have hdue : ((chanEvent q.val 0x4A 1 ((s.updSlice q.val k.val Slice.hatTaken).updPc q.val
      (fun x => { x with mg.useHbx := x.mg.useHbx + 1 }))).pc q.val).rf.rfmDue = (s.pc q.val).rf.rfmDue := by
    rw [chanEvent_pc, State.updPc_pc, if_pos rfl]
    rfl
  generalize chanEvent q.val 0x4A 1 _ = u at hexec hfr hslice hdue
  unfold takeEntry at hexec
  dsimp only at hexec
  rw [if_pos he] at hexec
  refine ⟨_, hexec, hfr.mem rfl, hfr.ports rfl, hfr.flt rfl, hfr.now rfl, ?_, ?_, ?_⟩
  · rw [State.updPc_slice, State.updChan_slice, hslice]
    exact (Slice.hatTaken_emptied hp).hatbox
  · rw [State.updPc_chan, State.updChan_chan, if_pos rfl, hfr.chan rfl]
  · rw [State.updPc_pc, if_pos rfl]
    dsimp only
    rw [State.updChan_pc, hdue]

/-! ## The repair reserve -/

theorem Slice.post_spares (x : Slice) (e : HatEntry) : (x.post e).1.spares = x.spares := by
  unfold Slice.post
  split
  · rfl
  · split
    · dsimp only
      split <;> rfl
    · rfl

theorem postHat_chan (q k : Nat) (e : HatEntry) (s : State) (n : Nat) : ∃ d, (postHat q k e s).chan n = { s.chan n with rfmDef := d } := by
  unfold postHat
  dsimp only
  split
  · rw [State.updChan_chan]
    split
    · next h => exact ⟨_, by rw [h]; rfl⟩
    · exact ⟨_, rfl⟩
  · exact ⟨_, rfl⟩

theorem postHat_spares (q k : Nat) (e : HatEntry) (s : State) (i j : Nat) : ((postHat q k e s).slice i j).spares = (s.slice i j).spares := by
  have hslice : (postHat q k e s).slice i j = (s.updSlice q k (fun _ => ((s.slice q k).post e).1)).slice i j := by
    unfold postHat
    dsimp only
    split <;> rfl
  rw [hslice, State.updSlice_slice]
  split
  · next h => rw [Slice.post_spares, State.slice, State.slice, h]
  · rfl

/-- A row activated on its own: clocks, counters and latches move; spare rows, what the engine has taken and the spared rows
counted stay. -/
structure Reserved (s t : State) : Prop where
  fr : Fr 192940034 s t
  now : s.now ≤ t.now
  chan : ∀ n, ∃ d, t.chan n = { s.chan n with rfmDef := d }
  spares : ∀ q k, (t.slice q k).spares = (s.slice q k).spares
  spared : ∀ q, (t.pc q).spared = (s.pc q).spared

theorem Reserved.trans (h : Reserved s t) (h' : Reserved t v) : Reserved s v := by
  refine ⟨(h.fr.or h'.fr).mono rfl, h.now.trans h'.now, fun n => ?_, fun q k => (h'.spares q k).trans (h.spares q k),
    fun q => (h'.spared q).trans (h.spared q)⟩
  obtain ⟨d, hd⟩ := h.chan n
  obtain ⟨d', hd'⟩ := h'.chan n
  exact ⟨d', by rw [hd', hd]⟩

theorem Reserved.of_fr {m : Nat} (h : Fr m s t) (hm : m ||| 134219776 = 134219776 := by decide) : Reserved s t := by
  have h' := h.mono hm
  exact ⟨h'.mono rfl, (h'.now rfl).ge, fun n => ⟨_, h'.chan rfl n⟩, fun q k => by rw [h'.slice rfl], fun q => by rw [h'.pc rfl]⟩

theorem Reserved.refl (s : State) : Reserved s s := Reserved.of_fr (Fr.refl 0 s)

theorem Reserved.atLeast (n : Nat) (s : State) : Reserved s (s.atLeast n) :=
  ⟨(State.atLeast_fr ..).mono rfl, le_max_left .., fun _ => ⟨_, rfl⟩, fun _ _ => rfl, fun _ => rfl⟩

theorem Reserved.updPc {f : Pc → Pc} (q : Nat) (h : (f (s.pc q)).spared = (s.pc q).spared) : Reserved s (s.updPc q f) := by
  refine ⟨(State.updPc_fr ..).mono rfl, le_rfl, fun _ => ⟨_, rfl⟩, fun _ _ => rfl, fun i => ?_⟩
  rw [State.updPc_pc]
  split
  · next hi => rw [hi]; exact h
  · rfl

theorem Reserved.updSlice {f : Slice → Slice} (q k : Nat) (h : (f (s.slice q k)).spares = (s.slice q k).spares) :
    Reserved s (s.updSlice q k f) := by
  refine ⟨(State.updSlice_fr ..).mono rfl, le_rfl, fun _ => ⟨_, rfl⟩, fun i j => ?_, fun _ => rfl⟩
  rw [State.updSlice_slice]
  split
  · next hij => rw [h, State.slice, State.slice, hij]
  · rfl

theorem Reserved.postHat (q k : Nat) (e : HatEntry) (s : State) : Reserved s (postHat q k e s) :=
  ⟨(postHat_fr ..).mono rfl, ((postHat_fr ..).now rfl).ge, postHat_chan q k e s, postHat_spares q k e s,
    fun _ => by rw [(postHat_fr ..).pc rfl]⟩

theorem activate_reserved (q k b row : Nat) (s : State) : Reserved s (activate q k b row s) := by
  unfold activate
  extract_lets key rk n copy u v w
  have hu : Reserved s u := Reserved.updPc q rfl
  have hv : Reserved u v := Reserved.updSlice q k rfl
  have hw : Reserved v w := by
    unfold w
    split
    · exact Reserved.postHat ..
    · exact Reserved.refl v
  exact ((hu.trans hv).trans hw).trans (Reserved.of_fr ((addWork_fr ..).or (chanEvent_fr ..)))

theorem bankBusy_reserved (q k b n : Nat) (s : State) : Reserved s (bankBusy q k b n s) := by
  unfold bankBusy
  extract_lets keys
  exact Reserved.updPc q rfl

theorem reserveRow_reserved (q k b row : Nat) (s : State) : Reserved s (reserveRow q k b row s) := by
  unfold reserveRow
  extract_lets n u
  have hu : Reserved s u := ((Reserved.atLeast n s).trans (activate_reserved ..)).trans (bankBusy_reserved ..)
  exact hu.trans (Reserved.updPc q rfl)

theorem reserveAct_reserved (q k : Nat) (e : HatEntry) (n : Nat) (s : State) : Reserved s (reserveAct q k e n s) := by
  unfold reserveAct
  have hrow := reserveRow_reserved q k e.bank e.row s
  generalize reserveRow q k e.bank e.row s = w at hrow ⊢
  extract_lets key u v
  have hu : Reserved s u := hrow.trans (Reserved.updPc q rfl)
  have hv : Reserved u v := Reserved.of_fr ((addWork_fr ..).or (addWork_fr ..))
  exact (hu.trans hv).trans (Reserved.of_fr (((chanEvent_fr ..).or (chanEvent_fr ..)).or (chanEvent_fr ..)))

/-! ## An entry served -/

/-- What a block of a row holds is stored within the row. -/
theorem writeBlock_readByte {key blk a : Nat} (hb : blk < 16) (mask : BitVec 64) (d : Block) (h : a / rowBytes ≠ key) (s : State) :
    (s.writeBlock key blk mask d).1.readByte a = s.readByte a := by
  unfold State.writeBlock
  split
  · rfl
  · unfold rowBytes at h
    exact putBlock_readByte _ s (by unfold rowBytes; omega) (by unfold rowBytes; omega) (by unfold rowBytes; omega)

theorem rewriteBlock_readByte {blk a : Nat} (hb : blk < 16) (h : a / rowBytes ≠ rowKey q k e.bank e.row) (s : State) :
    (rewriteBlock q k e blk s).readByte a = s.readByte a := by
  unfold rewriteBlock
  extract_lets key row free fixes
  split
  · rfl
  · rw [readByte_congr (((addWork_fr ..).or (chanEvent_fr ..)).mem rfl)]
    exact writeBlock_readByte hb _ _ h s

theorem forL_rewriteBlock_readByte {l : List Nat} (hl : ∀ b ∈ l, b < 16) {a : Nat} (h : a / rowBytes ≠ rowKey q k e.bank e.row) (s : State) :
    (forL l (rewriteBlock q k e) s).readByte a = s.readByte a := by
  induction l generalizing s with
  | nil => rfl
  | cons b l ih =>
    rw [forL_cons, ih (fun b hb => hl b (List.mem_cons_of_mem _ hb)), rewriteBlock_readByte (hl b (List.mem_cons_self ..)) h]

/-- Service of a latent error that a read has counted already: its row alone is rewritten. -/
theorem serveEntry_latent {x : Taken} (hk : x.e.kind = 1) (hsrc : x.e.src = true) (s : State) :
    ∃ t, serveEntry x s = t ∧ Fr 461375490 s t ∧ s.now ≤ t.now ∧ (∀ n, (t.chan n).taken = (s.chan n).taken) ∧
      ∀ a, a / rowBytes ≠ rowKey x.q x.k x.e.bank x.e.row → t.readByte a = s.readByte a := by
  have hcount : (if x.waiting then s else countEntry x.q x.k x.e s) = s := by
    unfold countEntry
    rw [hk]
    simp [hsrc]
  unfold serveEntry
  dsimp only
  rw [hcount, hk]
  split
  · exact ⟨s, rfl, Fr.refl .., le_rfl, fun _ => rfl, fun _ _ => rfl⟩
  · have hl : ∀ b ∈ (List.range 16).filter (fun b => ((s.readRow (rowKey x.q x.k x.e.bank x.e.row)).errors.map (fun x => x.2.1)).contains b), b < 16 :=
      fun b hb => List.mem_range.mp (List.mem_filter.mp hb).1
    have hact := reserveAct_reserved x.q x.k x.e ((List.range 16).filter (fun b =>
      ((s.readRow (rowKey x.q x.k x.e.bank x.e.row)).errors.map (fun x => x.2.1)).contains b)).length s
    have hloop (u : State) : Fr 402655232 u (forL ((List.range 16).filter (fun b =>
        ((s.readRow (rowKey x.q x.k x.e.bank x.e.row)).errors.map (fun x => x.2.1)).contains b)) (rewriteBlock x.q x.k x.e) u) :=
      Fr.forL (fun _ _ => rewriteBlock_fr ..) _ (Fr.refl ..)
    refine ⟨_, rfl, (hact.fr.or (hloop _)).mono rfl, hact.now.trans ((hloop _).now rfl).ge, fun n => ?_, fun a ha => ?_⟩
    · obtain ⟨d, hd⟩ := hact.chan n
      exact (congrArg Channel.taken ((hloop _).chan rfl n)).trans (by rw [hd])
    · exact (forL_rewriteBlock_readByte hl ha _).trans (readByte_congr (hact.fr.mem rfl) a)

theorem hatboxService_latent {n : ChanId} {x : Taken} {rest : List Taken} (hrun : s.channelsRun = true) (hctl : s.noController n.val = false)
    (hrows : s.servesRows = true) (htake : takeFirst (fun t => !t.spare) (s.chan n.val).taken = some (x, rest)) (hk : x.e.kind = 1)
    (hsrc : x.e.src = true) :
    ∃ t, exec (.hatboxEntryService n) s = .next t ∧ t.ports = s.ports ∧ t.flt = s.flt ∧ s.now ≤ t.now ∧
      (t.chan n.val).taken = rest ∧ ∀ a, a / rowBytes ≠ rowKey x.q x.k x.e.bank x.e.row → t.readByte a = s.readByte a := by
  have hexec : exec (.hatboxEntryService n) s = .next (serveEntry x (s.updChan n.val (fun c => { c with taken := rest }))) := by
    change execHatboxEntryService n s = _
    unfold execHatboxEntryService
    rw [if_neg (by simp [hrun, hctl, hrows]), htake]
  have hself : ((s.updChan n.val (fun c => { c with taken := rest })).chan n.val).taken = rest := by rw [State.updChan_chan, if_pos rfl]
  have hchan : Fr 8388608 s (s.updChan n.val (fun c => { c with taken := rest })) := State.updChan_fr ..
  generalize s.updChan n.val (fun c => { c with taken := rest }) = u at hexec hself hchan
  obtain ⟨t, ht, hfr, hnow, htaken, hbytes⟩ := serveEntry_latent hk hsrc u
  rw [ht] at hexec
  exact ⟨t, hexec, (hfr.ports rfl).trans (hchan.ports rfl), (hfr.flt rfl).trans (hchan.flt rfl), (hchan.now rfl).ge.trans hnow,
    (htaken _).trans hself, fun a ha => (hbytes a ha).trans (readByte_congr (hchan.mem rfl) a)⟩

theorem hatbox_unserved {n : ChanId} (h : (s.chan n.val).taken = [] ∨ s.channelsRun = false ∨ s.servesRows = false) :
    exec (.hatboxEntryService n) s = .next s ∧ exec (.spareRowAssign n) s = .next s := by
  have hservice : exec (.hatboxEntryService n) s = execHatboxEntryService n s := rfl
  have hspare : exec (.spareRowAssign n) s = execSpareRowAssign n s := rfl
  rw [hservice, hspare]
  unfold execHatboxEntryService execSpareRowAssign
  by_cases hstop : !s.channelsRun ∨ s.noController n.val ∨ !s.servesRows
  · exact ⟨if_pos hstop, if_pos hstop⟩
  · rw [if_neg hstop, if_neg hstop]
    rcases h with h | h | h
    · rw [h]
      exact ⟨rfl, rfl⟩
    · exact absurd (.inl (by rw [h]; rfl)) hstop
    · exact absurd (.inr (.inr (by rw [h]; rfl))) hstop

/-! ## Spare rows -/

/-- The entry that waited for its spare row waits no more. -/
def State.spareTaken (s : State) (n : Nat) (x : Taken) : State :=
  s.updChan n (fun c => { c with taken :=
    (c.taken.takeWhile (fun y => !y.spare)) ++ ({ x with spare := false } :: (c.taken.dropWhile (fun y => !y.spare)).drop 1) })

/-- The pseudo-channel of a row that a spare has taken. -/
def Pc.withSpared (x : Taken) (y : Pc) : Pc :=
  { y with
    spared := satInc y.spared
    rf := { y.rf with actCount := tabErase y.rf.actCount (pcRowKey x.k x.e.bank x.e.row) }
    mg := { y.mg with useActs := tabSet 0 y.mg.useActs (bankKey x.k x.e.bank) (tabGet 0 y.mg.useActs (bankKey x.k x.e.bank) + 1) } }

/-- A spare row in use, and its burn queued. -/
def sparedAt (x : Taken) (i : Nat) (s : State) : State :=
  let s := s.updSlice x.q x.k (fun y => { y with spares := { bank := x.e.bank, index := i, row := x.e.row } :: y.spares })
  { s with otp.afQueue := s.otp.afQueue ++ [{ layer := x.k, q := x.q, bank := x.e.bank, spare := true, x := x.e.row, y := i }] }

theorem sparedAt_fr (x : Taken) (i : Nat) (s : State) : Fr 33562624 s (sparedAt x i s) :=
  Fr.u8192 (Fr.step (State.updSlice_fr ..) (by decide) (Fr.refl ..)) (by decide)

theorem sparedAt_spares (x : Taken) (i : Nat) (s : State) : ((sparedAt x i s).slice x.q x.k).spares =
    { bank := x.e.bank, index := i, row := x.e.row } :: (s.slice x.q x.k).spares := by
  have hslices : (sparedAt x i s).slices = (s.updSlice x.q x.k (fun y =>
      { y with spares := { bank := x.e.bank, index := i, row := x.e.row } :: y.spares })).slices := rfl
  rw [State.slice, hslices, ← State.slice, State.updSlice_slice, if_pos rfl]

/-- The lowest free spare is taken: the lower ones are in use. -/
theorem freeSpare_lowest {y : Slice} {b i : Nat} (h : y.freeSpare b = some i) : ∀ j, j < i → ∃ sp ∈ y.spares, sp.bank = b ∧ sp.index = j := by
  obtain ⟨-, -, hlower⟩ := List.find?_range_eq_some.mp h
  intro j hj
  have hused := hlower j hj
  simp only [Bool.not_eq_true', List.all_eq_false, Bool.or_eq_true, decide_eq_true_eq, not_or, not_not] at hused
  exact hused

section
variable {n : ChanId} {x : Taken} (hfind : (s.chan n.val).taken.find? (·.spare) = some x) (hrun : s.channelsRun = true)
  (hctl : s.noController n.val = false) (hrows : s.servesRows = true)
include hfind hrun hctl hrows

theorem exec_spareRowAssign {o : Option Nat} (ho : (s.slice x.q x.k).freeSpare x.e.bank = o) : exec (.spareRowAssign n) s = .next (match o with
    | none => askRepair (.bank x.q x.k x.e.bank true) (s.spareTaken n.val x)
    | some i => sparedAt x i ((reserveRow x.q x.k x.e.bank x.e.row (s.spareTaken n.val x)).updPc x.q (Pc.withSpared x))) := by
  change execSpareRowAssign n s = _
  unfold execSpareRowAssign
  rw [if_neg (by simp [hrun, hctl, hrows]), hfind]
  dsimp only
  split
  · next h =>
    have hnone : o = none := ho.symm.trans h
    subst hnone
    rfl
  · next i h =>
    have hsome : o = some i := ho.symm.trans h
    subst hsome
    rfl

theorem spareRow_assigned {i : Nat} (hi : (s.slice x.q x.k).freeSpare x.e.bank = some i) :
    ∃ t, exec (.spareRowAssign n) s = .next t ∧ t.mem = s.mem ∧ t.ports = s.ports ∧ t.flt = s.flt ∧
      (t.slice x.q x.k).spares = { bank := x.e.bank, index := i, row := x.e.row } :: (s.slice x.q x.k).spares ∧
      (t.pc x.q).spared = satInc (s.pc x.q).spared ∧
      tabGet 0 (t.pc x.q).rf.actCount (pcRowKey x.k x.e.bank x.e.row) = 0 ∧
      t.otp.afQueue = s.otp.afQueue ++ [{ layer := x.k, q := x.q, bank := x.e.bank, spare := true, x := x.e.row, y := i }] := by
  have hexec := exec_spareRowAssign hfind hrun hctl hrows hi
  have htaken : Fr 8388608 s (s.spareTaken n.val x) := State.updChan_fr ..
  have hrow := reserveRow_reserved x.q x.k x.e.bank x.e.row (s.spareTaken n.val x)
  dsimp only at hexec
  generalize reserveRow x.q x.k x.e.bank x.e.row (s.spareTaken n.val x) = u at hexec hrow
  have hfr := htaken.or hrow.fr
  have hpc : (u.updPc x.q (Pc.withSpared x)).pc x.q = (u.pc x.q).withSpared x := (State.updPc_pc ..).trans (if_pos rfl)
  have hpcs : Fr 16777216 u (u.updPc x.q (Pc.withSpared x)) := State.updPc_fr ..
  generalize u.updPc x.q (Pc.withSpared x) = v at hexec hpc hpcs
  have hspare := sparedAt_fr x i v
  have hall := (hfr.or hpcs).or hspare
  refine ⟨_, hexec, hall.mem rfl, hall.ports rfl, hall.flt rfl, ?_, ?_, ?_, ?_⟩
  · rw [sparedAt_spares, hpcs.slice rfl, hrow.spares, htaken.slice rfl]
  · rw [hspare.pc rfl, hpc, Pc.withSpared, hrow.spared, htaken.pc rfl]
  · rw [hspare.pc rfl, hpc]
    exact tabGet_tabErase_self ..
  · change v.otp.afQueue ++ _ = _
    rw [hpcs.otp rfl, hfr.otp rfl]

theorem spareRow_none (hi : (s.slice x.q x.k).freeSpare x.e.bank = none) (hsup : s.sup.restarting = false) :
    ∃ t, exec (.spareRowAssign n) s = .next t ∧ t.mem = s.mem ∧ t.ports = s.ports ∧ t.flt = s.flt ∧
      t.rep.todo = s.rep.todo ++ [.bank x.q x.k x.e.bank true] := by
  have hexec := exec_spareRowAssign hfind hrun hctl hrows hi
  have hsup' : ¬ (s.spareTaken n.val x).sup.restarting = true := by
    change ¬ s.sup.restarting = true
    simp [hsup]
  dsimp only at hexec
  rw [askRepair, if_neg hsup'] at hexec
  exact ⟨_, hexec, rfl, rfl, rfl, rfl⟩

end

/-- Settles O46: the entry of an activated row by `takeEntry`, hatboxes read by what each read leaves emptied, service by the row
it rewrites, spare rows by the lowest that is free. -/
theorem hatboxEntriesAreTakenAndServed : Obligations.HatboxEntriesAreTakenAndServed :=
  ⟨fun _ _ _ _ huse hbox hrun hctl hp he => rfmRequest_spec huse hbox hrun hctl hp he,
    fun _ _ h hrun hctl => hatboxRead_spec h hrun hctl,
    fun _ _ _ _ hrun hctl hrows htake hk hsrc => hatboxService_latent hrun hctl hrows htake hk hsrc,
    fun _ _ h => hatbox_unserved h,
    fun _ _ _ hfind hrun hctl hrows => ⟨fun _ hi => ⟨freeSpare_lowest hi, spareRow_assigned hfind hrun hctl hrows hi⟩,
      fun hi hsup => spareRow_none hfind hrun hctl hrows hi hsup⟩⟩

end Sys2Proof.Machine
end

section
/-! SUPPORT. What events of layers leave of the repair books: the rank and bank maps, the losses counted, the layers retired (R335, R358; O47). -/

namespace Sys2Proof.Machine

open Host

variable {s t u : State}

/-! ## The repair books -/

/-- The repair state but for what waits and the fault register of a layer. -/
def State.books (s : State) : RepState := { s.rep with todo := [], layerFault := 0 }

/-- The repair books and the layers retired stand. -/
structure Settled (s t : State) : Prop where
  books : t.books = s.books
  retired : ∀ k, (t.layer k).retired = (s.layer k).retired

theorem Settled.refl (s : State) : Settled s s := ⟨rfl, fun _ => rfl⟩

theorem Settled.trans (h : Settled s t) (h' : Settled t u) : Settled s u :=
  ⟨h'.books.trans h.books, fun k => (h'.retired k).trans (h.retired k)⟩

theorem Settled.of_fr {m : Nat} (h : Fr m s t) (hm : m &&& 67371008 = 0 := by decide) : Settled s t := by
  have hbit {i : Nat} (hi : (67371008 : Nat).testBit i = true) : m.testBit i = false := testBit_of_disjoint hm hi
  exact ⟨by rw [State.books, h.rep (hbit (by decide)), State.books], fun k => by rw [State.layer, h.layers (hbit (by decide)), State.layer]⟩

theorem Settled.of_books {m : Nat} (h : Fr m s t) (hb : t.books = s.books) (hm : m.testBit 26 = false := by decide) : Settled s t :=
  ⟨hb, fun k => by rw [State.layer, h.layers hm, State.layer]⟩

theorem Settled.ite {c : Prop} [Decidable c] (h : Settled s t) (h' : Settled s u) : Settled s (if c then t else u) := by
  split
  · exact h
  · exact h'

theorem Settled.then_ite {c : Prop} [Decidable c] (h : Settled t u) : Settled t (if c then u else t) := .ite h (.refl t)

theorem Settled.lossBanks (h : Settled s t) : t.rep.lossBanks = s.rep.lossBanks :=
  (rfl : t.rep.lossBanks = t.books.lossBanks).trans ((congrArg RepState.lossBanks h.books).trans rfl)

theorem Settled.layersRetired (h : Settled s t) : t.rep.layersRetired = s.rep.layersRetired :=
  (rfl : t.rep.layersRetired = t.books.layersRetired).trans ((congrArg RepState.layersRetired h.books).trans rfl)

theorem Settled.rankMap (h : Settled s t) : t.rep.rankMap = s.rep.rankMap :=
  (rfl : t.rep.rankMap = t.books.rankMap).trans ((congrArg RepState.rankMap h.books).trans rfl)

theorem Settled.bankMap (h : Settled s t) : t.rep.bankMap = s.rep.bankMap :=
  (rfl : t.rep.bankMap = t.books.bankMap).trans ((congrArg RepState.bankMap h.books).trans rfl)

/-! ## The collector -/

theorem layersOff_retired (k : Nat) (s : State) : ((layersOff s).layer k).retired = (s.layer k).retired := by
  have hmap (l : List (Nat × Layer)) : (tabGet ({} : Layer) (l.map (fun (e : Nat × Layer) => (e.1, { e.2 with powered := false }))) k).retired =
      (tabGet {} l k).retired := by
    induction l with
    | nil => rfl
    | cons e l ih =>
      rw [List.map_cons, tabGet, tabGet]
      split
      · rfl
      · exact ih
  exact hmap s.layers

theorem layersOff_settled (s : State) : Settled s (layersOff s) := ⟨rfl, fun k => layersOff_retired k s⟩

theorem enterHold_settled (c : Nat) (s : State) : Settled s (enterHold c s) := by
  unfold enterHold
  refine .ite (.refl s) ?_
  extract_lets stopped
  have hstopped : Settled s stopped := by
    have hdown : Settled s (stopMemory (linksDown s)) := .of_fr ((linksDown_fr s).or (stopMemory_fr _))
    exact (hdown.trans (layersOff_settled _)).trans (.of_fr (stopTest_fr _))
  clear_value stopped
  exact ⟨hstopped.books, hstopped.retired⟩

theorem setGrave_settled (n : Nat) (forced : Bool) (c : Nat) (s : State) : Settled s (setGrave n forced c s) := by
  unfold setGrave
  extract_lets flt u v w x
  have hu : Fr 1024 s u := Fr.ite (.refl ..) (Fr.u1024 (.refl ..) rfl)
  have hx : Fr 4194304 v x := Fr.forN (fun i t => Fr.iteT (State.updPort_fr ..) (.refl ..)) 16 (.refl ..)
  exact (((Settled.of_fr hu).trans (.of_fr (setAlert_fr ..))).trans (.of_fr hx)).trans (enterHold_settled ..)

theorem latchGrave_settled (n : Nat) (d : EventDetail) (forced : Bool) (c : Nat) (s : State) : Settled s (latchGrave n d forced c s) :=
  (Settled.ite (.refl s) (.of_fr (logRecord_fr ..))).trans (setGrave_settled ..)

theorem holdReaction_settled (n : Nat) (d : EventDetail) (forced : Bool) (s : State) : Settled s (holdReaction n d forced s) := by
  unfold holdReaction
  exact .then_ite (((Settled.of_fr (s.updSrc_fr ..)).trans (.of_fr (logRecord_fr ..))).trans (setGrave_settled ..))

theorem askRepair_settled (r : RepairReq) (s : State) : Settled s (askRepair r s) := by
  unfold askRepair
  exact .ite ⟨rfl, fun _ => rfl⟩ ⟨rfl, fun _ => rfl⟩

theorem repairReactions_settled (n : Nat) (d : EventDetail) (s : State) : Settled s (repairReactions n d s) := by
  unfold repairReactions
  extract_lets re banked
  have hbanked : Settled s banked := by
    refine .then_ite ?_
    split
    · exact askRepair_settled ..
    · exact .refl s
  refine .ite (.ite ?_ (.ite (hbanked.trans (askRepair_settled ..)) hbanked)) hbanked
  split
  · exact hbanked.trans (askRepair_settled ..)
  · exact hbanked

theorem reactions_settled (n : Nat) (d : EventDetail) (forced : Bool) (record : Nat) (s : State) :
    Settled s (reactions n d forced record s) := by
  unfold reactions
  extract_lets re cls logged alerted noticed fenced repaired
  have hlogged : Settled s logged := .then_ite (.of_fr (logRecord_fr ..))
  have halerted : Settled logged alerted := .then_ite (.of_fr (setAlert_fr ..))
  have hnoticed : Settled alerted noticed := .then_ite (.of_fr (notices_fr ..))
  have hfenced : Settled noticed fenced := .then_ite (.of_fr (fencePort_fr ..))
  exact ((((hlogged.trans halerted).trans hnoticed).trans hfenced).trans (repairReactions_settled ..)).trans (.then_ite (.of_fr (supRestart_fr _)))

theorem escalate_settled (n : Nat) (d : EventDetail) (forced : Bool) (s : State) : Settled s (escalate n d forced s) := by
  unfold escalate
  extract_lets c raised reacted
  exact ((Settled.of_fr (s.updSrc_fr ..)).trans (reactions_settled ..)).trans (.ite (setGrave_settled ..) (holdReaction_settled ..))

theorem registerEvent_settled (n : Nat) (d : EventDetail) (forced : Bool) (s : State) : Settled s (registerEvent n d forced s).1 := by
  have hcounted : Settled s (s.counted n forced) := .of_fr (s.counted_fr n forced)
  exact registerEvent_cases (P := Settled s) n d forced s (fun _ => .refl s) (fun _ => .of_fr (s.updSrc_fr ..))
    (fun _ _ => hcounted.trans (escalate_settled ..)) (fun _ => hcounted.trans (latchGrave_settled ..)) (fun _ => hcounted)

theorem raiseOnly_settled (n k : Nat) (d : EventDetail) (c : Nat) (s : State) : Settled s (raiseOnly n k d c s) := by
  unfold raiseOnly
  extract_lets old raised reacted
  have hreacted : Settled s reacted := (Settled.of_fr (s.updSrc_fr ..)).trans (reactions_settled ..)
  exact .ite (.then_ite (latchGrave_settled ..)) (hreacted.trans (.ite (setGrave_settled ..) (holdReaction_settled ..)))

theorem checkMinimum_settled (s : State) : Settled s (checkMinimum s) := by
  unfold checkMinimum
  exact .ite (.refl s) (.ite (enterHold_settled ..) (.then_ite ((registerEvent_settled ..).trans (latchGrave_settled ..))))

/-! ## Events of a layer -/

/-- An event that names a layer alone takes no action of its own. -/
theorem perEvent_layer (k : Nat) (d : EventDetail) (hd : d.channel = none) (s : State) : perEvent (srcLayer k) d s = s := by
  have h1 : srcLayer k ≠ 1 := by unfold srcLayer; omega
  have hglove : ¬ (80 ≤ srcLayer k ∧ srcLayer k < 176) := by unfold srcLayer; omega
  unfold perEvent
  rw [if_neg h1, if_neg hglove]
  split
  · unfold layerEntry
    rw [hd]
  · rfl

theorem noGlove_srcLayer (k : Nat) : noGlove (srcLayer k) := noGlove_of_le (by unfold srcLayer; omega)

theorem fault_layer_settled (k : Nat) (d : EventDetail) (hd : d.channel = none) (s : State) : Settled s (fault (srcLayer k) d s) := by
  unfold fault
  refine .ite (.then_ite (.ite (.of_fr (Fr.u1024 (.refl ..) rfl : Fr 1024 s _)) (.of_fr (Fr.u1024 (.refl ..) rfl : Fr 1024 s _)))) ?_
  dsimp only
  rw [perEvent_layer k d hd, gloveReaction_of_noGlove (noGlove_srcLayer k), ite_self, ite_self]
  exact registerEvent_settled ..

theorem raiseFault_layer (k c cause : Nat) (d : EventDetail) (hd : d.channel = none) (hcounts : s.counts (srcLayer k) = true)
    (hcls : s.srcClass (srcLayer k) < c) : raiseFault (srcLayer k) c d cause s = raiseOnly (srcLayer k) c d cause
      (s.updSrc (srcLayer k) (fun x => { x with total := satInc x.total, pending := true, last := some s.now })) := by
  unfold raiseFault
  rw [if_neg (by simp [hcounts]), if_pos hcls]
  dsimp only
  rw [perEvent_layer k d hd, gloveReaction_of_noGlove (noGlove_srcLayer k)]

theorem raiseFault_layer_settled (k c cause : Nat) (d : EventDetail) (hd : d.channel = none) (s : State) :
    Settled s (raiseFault (srcLayer k) c d cause s) := by
  unfold raiseFault
  refine .ite (.refl s) (.ite ?_ ?_)
  · dsimp only
    rw [perEvent_layer k d hd, gloveReaction_of_noGlove (noGlove_srcLayer k)]
    exact (Settled.of_fr (s.updSrc_fr ..)).trans (raiseOnly_settled ..)
  · exact (fault_layer_settled k d hd s).trans (.then_ite (latchGrave_settled ..))

/-! ## Losses reported (R358) -/

/-- The rank and bank maps, the count of layers retired and the layers retired stand. -/
structure Mapped (s t : State) : Prop where
  rankMap : t.rep.rankMap = s.rep.rankMap
  bankMap : t.rep.bankMap = s.rep.bankMap
  layersRetired : t.rep.layersRetired = s.rep.layersRetired
  retired : ∀ k, (t.layer k).retired = (s.layer k).retired

theorem Settled.mapped (h : Settled s t) : Mapped s t := ⟨h.rankMap, h.bankMap, h.layersRetired, h.retired⟩

theorem Mapped.trans (h : Mapped s t) (h' : Mapped t u) : Mapped s u :=
  ⟨h'.rankMap.trans h.rankMap, h'.bankMap.trans h.bankMap, h'.layersRetired.trans h.layersRetired, fun k => (h'.retired k).trans (h.retired k)⟩

theorem reportLoss_nil (k : Nat) (s : State) : reportLoss k [] s = s := if_pos rfl

/-- Losses reported count; the maps and the retirements stand. -/
theorem reportLoss_spec (k : Nat) (l : List Loss) (s : State) : Mapped s (reportLoss k l s) ∧
    (l ≠ [] → (reportLoss k l s).rep.lossBanks = satAdd s.rep.lossBanks (l.filter (fun x => decide (x.unit = 1))).length) := by
  by_cases hl : l = []
  · rw [hl, reportLoss_nil]
    exact ⟨(Settled.refl s).mapped, fun h => absurd rfl h⟩
  · have hlogged : Settled s (forL l (fun x s => logRecord (srcLayer k) (s.srcClass (srcLayer k)) false false 3
        (lossDetail x.unit (chanOf x.q) (decide (x.q % 2 = 1)) x.k x.bank x.rank x.rows) s) s) :=
      .of_fr (Fr.forL (fun x t => logRecord_fr ..) l (.refl ..))
    unfold reportLoss
    rw [if_neg hl]
    extract_lets src logged faulted book counted noticed
    have hfaulted : Settled s faulted := hlogged.trans (fault_layer_settled k _ rfl logged)
    have hcounted : Mapped faulted counted := ⟨rfl, rfl, rfl, fun _ => rfl⟩
    have hnoticed : Settled counted noticed := by
      refine .of_fr (Fr.forN (m := 4326400) (fun p t => ?_) 16 (.refl ..))
      split
      · exact sendNotice_fr ..
      · exact .refl ..
    have hend := hnoticed.trans (checkMinimum_settled noticed)
    refine ⟨(hfaulted.mapped.trans hcounted).trans hend.mapped, fun _ => ?_⟩
    rw [hend.lossBanks, ← hfaulted.lossBanks]

end Sys2Proof.Machine
end

section
/-! SUPPORT. Banks, ranks and layers moved to their liner or retired: what the repair functions leave, what they note (R335, R344, R348, R355, R360; O47). -/

namespace Sys2Proof.Machine

open Host

variable {s t u : State} {q k b r l : Nat}

/-! ## The layers retired stand while units move -/

/-- The layers retired and their count stand. -/
structure Retires (s t : State) : Prop where
  layersRetired : t.rep.layersRetired = s.rep.layersRetired
  retired : ∀ k, (t.layer k).retired = (s.layer k).retired

theorem Mapped.retires (h : Mapped s t) : Retires s t := ⟨h.layersRetired, h.retired⟩

theorem Retires.refl (s : State) : Retires s s := ⟨rfl, fun _ => rfl⟩

theorem Retires.trans (h : Retires s t) (h' : Retires t u) : Retires s u :=
  ⟨h'.layersRetired.trans h.layersRetired, fun k => (h'.retired k).trans (h.retired k)⟩

theorem Retires.of_fr {m : Nat} (h : Fr m s t) (hm : m &&& 67371008 = 0 := by decide) : Retires s t := (Settled.of_fr h hm).mapped.retires

theorem Retires.ite {c : Prop} [Decidable c] (h : Retires s t) (h' : Retires s u) : Retires s (if c then t else u) := by
  split
  · exact h
  · exact h'

theorem Retires.then_ite {c : Prop} [Decidable c] (h : Retires t u) : Retires t (if c then u else t) := .ite h (.refl t)

theorem Retires.forL {α : Type} {f : α → State → State} (h : ∀ a t, Retires t (f a t)) (l : List α) (s : State) : Retires s (forL l f s) := by
  induction l generalizing s with
  | nil => exact .refl s
  | cons a l ih => exact (h a s).trans (ih (f a s))

theorem Retires.forN {f : Nat → State → State} (h : ∀ i t, Retires t (f i t)) (n : Nat) (s : State) : Retires s (forN n f s) :=
  Retires.forL h (List.range n) s

/-- A loop that gathers losses. -/
theorem Retires.foldl {α : Type} {f : State × List Loss → α → State × List Loss} (h : ∀ x a, Retires x.1 (f x a).1) (l : List α)
    (x : State × List Loss) : Retires x.1 (l.foldl f x).1 := by
  induction l generalizing x with
  | nil => exact .refl _
  | cons a l ih => exact (h x a).trans (ih (f x a))

theorem setBank_retires (q r b : Nat) (e : BankEnt) (s : State) : Retires s (s.setBank q r b e) := ⟨rfl, fun _ => rfl⟩

theorem setRank_retires (q r : Nat) (e : RankEnt) (s : State) : Retires s (s.setRank q r e) := ⟨rfl, fun _ => rfl⟩

theorem logRepair_mapped (e : RepairEntry) (now : Bool) (s : State) : Mapped s (logRepair e now s) := by
  unfold logRepair
  dsimp only
  split <;> exact ⟨rfl, rfl, rfl, fun _ => rfl⟩

theorem powerOffIdle_retires (k : Nat) (s : State) : Retires s (powerOffIdle k s) := by
  unfold powerOffIdle
  refine .ite (.refl s) ⟨rfl, fun j => ?_⟩
  rw [State.updLayer_layer]
  split
  · next h => rw [h]
  · rfl

theorem releaseSlice_retires (q k : Nat) (s : State) : Retires s (releaseSlice q k s) := by
  unfold releaseSlice
  exact .ite (.refl s) ((Retires.of_fr (State.updSlice_fr ..)).trans (powerOffIdle_retires ..))

theorem startLane_retires (q : Nat) (s : State) : Retires s (startLane q s) := by
  unfold startLane
  refine .ite (.refl s) ?_
  split
  · exact .of_fr (State.updPc_fr ..)
  · exact .ite (.of_fr (State.updPc_fr ..)) ((Retires.of_fr (State.updPc_fr ..)).trans (logRepair_mapped ..).retires)

theorem addUnit_retires (q : Nat) (x : MigUnit) (s : State) : Retires s (addUnit q x s) :=
  (Retires.of_fr (State.updPc_fr ..)).trans (startLane_retires ..)

theorem writeLog_retires (s : State) : Retires s (writeLog s) := .of_fr (writeLog_fr s)

theorem standIn_retires (q r : Nat) (bank : Option Nat) (k l : Nat) (s : State) : Retires s (standIn q r bank k l s) := by
  unfold standIn
  extract_lets placed set logged
  have hplaced : Retires s placed := by
    unfold placed
    cases bank
    · exact setRank_retires ..
    · exact setBank_retires ..
  have hset : Retires placed set := .of_fr (State.updSlice_fr ..)
  exact ((hplaced.trans hset).trans (logRepair_mapped ..).retires).trans ((releaseSlice_retires ..).trans (addUnit_retires ..))

theorem commitUnit_retires (q : Nat) (s : State) : Retires s (commitUnit q s) := by
  unfold commitUnit
  refine .ite (.refl s) ?_
  extract_lets x ranked placed idle book burnt released n started
  have hplaced : Retires s placed := by
    unfold placed
    split
    · exact setBank_retires ..
    · exact (setRank_retires ..).trans (.forN (fun i t => .then_ite (setBank_retires ..)) 16 ranked)
  have hidle : Retires placed idle := .of_fr (State.updPc_fr ..)
  have hburnt : Retires idle burnt := .then_ite ⟨rfl, fun _ => rfl⟩
  have hreleased : Retires burnt released := .forL (fun k t => releaseSlice_retires ..) _ _
  have hstarted : Retires released started := startLane_retires ..
  exact (((hplaced.trans hidle).trans hburnt).trans hreleased).trans (hstarted.trans (.ite (.refl _) (writeLog_retires _)))

theorem abortSource_retires (q : Nat) (s : State) : Retires s (abortSource q s).1 := by
  unfold abortSource
  extract_lets m x banks loss idle
  split <;> dsimp only
  · exact (Retires.of_fr (State.updPc_fr ..)).trans (commitUnit_retires ..)
  · exact (Retires.of_fr (State.updPc_fr ..)).trans (standIn_retires ..)

theorem abandonDst_retires (q : Nat) (s : State) : Retires s (abandonDst q s) := by
  unfold abandonDst
  extract_lets m x idle
  split
  · exact ((Retires.of_fr (State.updPc_fr ..)).trans (logRepair_mapped ..).retires).trans (writeLog_retires _)
  · exact (Retires.of_fr (State.updPc_fr ..)).trans (raiseFault_layer_settled _ _ _ _ rfl _).mapped.retires

theorem moveBank_retires (q k b r : Nat) (readable : Bool) (s : State) : Retires s (moveBank q k b r readable s).1 := by
  unfold moveBank
  split
  · split
    · exact abortSource_retires ..
    · exact .refl s
  · extract_lets loss
    split
    · split <;> dsimp only
      · exact addUnit_retires ..
      · exact standIn_retires ..
    · dsimp only
      exact ((setBank_retires ..).trans (logRepair_mapped ..).retires).trans (releaseSlice_retires ..)

theorem retireSlice_retires (q k r : Nat) (readable : Bool) (s : State) : Retires s (retireSlice q k r readable s).1 := by
  unfold retireSlice
  split
  · split
    · exact abortSource_retires ..
    · exact .refl s
  · extract_lets a w rows loss
    have hw : Retires s w := by
      unfold w a
      split
      · exact abortSource_retires ..
      · exact .refl s
    split
    · split <;> dsimp only
      · exact hw.trans (addUnit_retires ..)
      · exact hw.trans (standIn_retires ..)
    · dsimp only
      exact hw.trans (((setRank_retires ..).trans (logRepair_mapped ..).retires).trans (releaseSlice_retires ..))

theorem clearLayerIn_retires (k : Nat) (readable : Bool) (q : Nat) (a : State × List Loss) : Retires a.1 (clearLayerIn k readable q a).1 := by
  unfold clearLayerIn
  extract_lets w ranks
  have hw : Retires a.1 w := .then_ite (abandonDst_retires ..)
  have hranks : Retires w ranks.1 := by
    refine .foldl (fun x r => ?_) _ (w, a.2)
    dsimp only
    split
    · exact retireSlice_retires ..
    · exact .refl _
  refine (hw.trans hranks).trans (.foldl (fun x r => .foldl (fun y b => ?_) _ x) _ ranks)
  dsimp only
  split
  · exact moveBank_retires ..
  · exact .refl _

/-! ## Idle copy lanes -/

theorem units_nil (h : s.units q = []) : (s.pc q).mg.mig = .idle ∧ (s.pc q).mg.migQueue = [] := by
  rw [State.units, List.append_eq_nil_iff] at h
  obtain ⟨hunit, hqueue⟩ := h
  refine ⟨?_, hqueue⟩
  by_contra hne
  rw [if_neg hne] at hunit
  exact List.cons_ne_nil _ _ hunit

theorem copyingTo_of_units (h : s.units q = []) (k : Nat) : s.copyingTo q k = false := by
  simp [State.copyingTo, (units_nil h).1]

theorem copyingFrom_of_units (h : s.units q = []) (k : Nat) : s.copyingFrom q k = false := by
  simp [State.copyingFrom, (units_nil h).1]

theorem Fr.units {m : Nat} (h : Fr m s t) (hm : m.testBit 24 = false) (q : Nat) : t.units q = s.units q := by
  rw [State.units, h.pc hm, State.units]

theorem bankEnt_setBank (q r b : Nat) (e : BankEnt) (s : State) : (s.setBank q r b e).bankEnt q r b = e := (tabGet_tabSet ..).trans (if_pos rfl)

theorem leastBy_mem {α : Type} {f : α → Nat} {l : List α} {a : α} (h : leastBy f l = some a) : a ∈ l := by
  induction l generalizing a with
  | nil => exact absurd h (by simp [leastBy])
  | cons c l ih =>
    unfold leastBy at h
    split at h
    · next => exact Option.some.inj h ▸ List.mem_cons_self ..
    · next d hd =>
      split at h
      · exact Option.some.inj h ▸ List.mem_cons_self ..
      · exact List.mem_cons_of_mem _ (Option.some.inj h ▸ ih hd)

/-- A liner for a unit is none of the layers left out. -/
theorem linerFor_ne {bank : Option Nat} (h : s.linerFor q r bank [k] = some l) : l ≠ k := by
  unfold State.linerFor at h
  split at h
  · exact absurd h (by simp)
  · have hmem := List.mem_filter.mp (leastBy_mem h)
    rintro rfl
    simp at hmem

theorem linerFor_none {bank : Option Nat} {bad : List Nat} (h : s.capMigration = false) : s.linerFor q r bank bad = none :=
  if_pos (by rw [h]; rfl)

theorem logRepair_log (e : RepairEntry) (now : Bool) (s : State) : e ∈ (logRepair e now s).rep.log := by
  have hlog : e ∈ (if s.rep.log.contains e then s.rep.log else s.rep.log ++ [e]) := by
    split
    · next h => exact List.contains_iff_mem.mp h
    · exact List.mem_append_right _ (List.mem_singleton_self e)
  unfold logRepair
  dsimp only
  split <;> exact hlog

theorem logRepair_todo (e : RepairEntry) (now : Bool) (s : State) : (logRepair e now s).rep.todo = s.rep.todo := by
  unfold logRepair
  dsimp only
  split <;> rfl

theorem logRepair_lossBanks (e : RepairEntry) (now : Bool) (s : State) : (logRepair e now s).rep.lossBanks = s.rep.lossBanks := by
  unfold logRepair
  dsimp only
  split <;> rfl

/-! ## A bank mapped out -/

/-- The unit that moves a bank. -/
def bankUnit (r b k l : Nat) : MigUnit := { rank := r, bank := some b, src := k, dst := l }

theorem bankOwner_valid (h : s.bankOwner q k b = some r) (l : Nat) : s.unitValid q (bankUnit r b k l) = true := by
  have hfound := List.find?_some h
  exact hfound

/-- A valid unit put into an idle lane is prepared. -/
theorem addUnit_prepares {x : MigUnit} (hunits : s.units q = []) (hvalid : s.unitValid q x = true) (hne : x.src ≠ x.dst) :
    ∃ v, addUnit q x s = logRepair (x.entry q) false v ∧ Fr 16777216 s v ∧ (v.pc q).mg.mig = .prepare ∧ (v.pc q).mg.unit = x := by
  obtain ⟨hidle, hqueue⟩ := units_nil hunits
  have hpc : (s.updPc q (fun y => { y with mg := { y.mg with migQueue := y.mg.migQueue ++ [x] } })).pc q =
      { s.pc q with mg := { (s.pc q).mg with migQueue := [x] } } := by
    rw [State.updPc_pc, if_pos rfl, hqueue]
    rfl
  have hfr : Fr 16777216 s (s.updPc q (fun y => { y with mg := { y.mg with migQueue := y.mg.migQueue ++ [x] } })) := State.updPc_fr ..
  have hadd : addUnit q x s = startLane q (s.updPc q (fun y => { y with mg := { y.mg with migQueue := y.mg.migQueue ++ [x] } })) := rfl
  have hkept : (s.updPc q (fun y => { y with mg := { y.mg with migQueue := y.mg.migQueue ++ [x] } })).unitValid q x = true := hvalid
  rw [hadd]
  generalize s.updPc q (fun y => { y with mg := { y.mg with migQueue := y.mg.migQueue ++ [x] } }) = u at hpc hfr hkept ⊢
  have hhead : (u.pc q).mg.migQueue.dropWhile (fun x => !u.unitValid q x) = [x] := by
    rw [hpc]
    exact List.dropWhile_cons_of_neg (by rw [hkept]; decide)
  unfold startLane
  rw [if_neg (by rw [hpc]; exact not_not.mpr hidle), hhead]
  refine ⟨_, if_neg hne, (hfr.or (State.updPc_fr ..)).mono rfl, ?_, ?_⟩ <;> rw [State.updPc_pc, if_pos rfl]

section
variable (hunits : s.units q = []) (howner : s.bankOwner q k b = some r)
include hunits

theorem moveBank_liner (hl : s.linerFor q r (some b) [k] = some l) : moveBank q k b r true s = (addUnit q (bankUnit r b k l) s, []) := by
  unfold moveBank
  rw [hunits, if_neg (by simp)]
  dsimp only
  rw [hl]
  exact if_pos rfl

/-- A bank without a liner is retired in place. -/
theorem moveBank_none (readable : Bool) (hl : s.linerFor q r (some b) [k] = none) : moveBank q k b r readable s =
    (releaseSlice q k (logRepair (repairEntry 2 q k b 0) true (s.setBank q r b .retired)),
      [{ unit := 1, q := q, k := k, bank := b, rank := r, rows := 16384 }]) := by
  unfold moveBank
  rw [hunits, if_neg (by simp)]
  dsimp only
  rw [hl]

include howner

/-- A bank whose slice keeps its rank is moved, or retired, on its own. -/
theorem mapOutBank_moves (readable : Bool)
    (hfew : ¬ ((s.rank q r).layer = k ∧ 3 ≤ ((List.range 16).filter (fun c => decide (s.bankEnt q r c ≠ .own))).length)) :
    mapOutBank q k b readable s = reportLoss k (moveBank q k b r readable s).2 (writeLog (moveBank q k b r readable s).1) := by
  have hout (c : Nat) : (decide (s.bankEnt q r c ≠ .own) || (s.units q).any (fun x => decide (x.rank = r) && decide (x.src = k) &&
      decide (x.bank = some c))) = decide (s.bankEnt q r c ≠ .own) := by
    rw [hunits]
    exact Bool.or_false _
  unfold mapOutBank
  rw [copyingTo_of_units hunits, if_neg (by simp), howner]
  dsimp only
  simp only [hout]
  exact if_neg fun h => hfew ⟨h.1, h.2.2⟩

end

/-- What a repair leaves when it is taken from the queue. -/
def State.begun (s : State) (rest : List RepairReq) : State := { s with rep.todo := rest }

section
variable {rest : List RepairReq} (hsup : s.sup.restarting = false)
include hsup

theorem exec_bankMapOut {readable : Bool} (htodo : s.rep.todo = .bank q k b readable :: rest) :
    exec .bankMapOut s = .next (mapOutBank q k b readable (s.begun rest)) := by
  change execBankMapOut s = _
  unfold execBankMapOut takeRepair
  rw [hsup, if_neg Bool.false_ne_true, htodo] <;> rfl

theorem exec_rankRetirement {n : Nat} {readable : Bool} (htodo : s.rep.todo = .rank n k readable :: rest) :
    exec .rankRetirement s = .next (retireRank n k readable (s.begun rest)) := by
  change execRankRetirement s = _
  unfold execRankRetirement takeRepair
  rw [hsup, if_neg Bool.false_ne_true, htodo] <;> rfl

theorem exec_layerRetirement {readable : Bool} (htodo : s.rep.todo = .layer k readable :: rest) :
    exec .layerRetirement s = .next (retireLayer k readable (s.begun rest)) := by
  change execLayerRetirement s = _
  unfold execLayerRetirement takeRepair
  rw [hsup, if_neg Bool.false_ne_true, htodo] <;> rfl

end

theorem takeRepair_none (f : RepairReq → Bool) (h : s.rep.todo = [] ∨ s.sup.restarting = true) : takeRepair f s = none := by
  unfold takeRepair
  rcases h with h | h
  · rw [h]
    split <;> rfl
  · exact if_pos h

theorem repairs_wait (h : s.rep.todo = [] ∨ s.sup.restarting = true) :
    exec .bankMapOut s = .next s ∧ exec .rankRetirement s = .next s ∧ exec .layerRetirement s = .next s := by
  refine ⟨?_, ?_, ?_⟩
  · change execBankMapOut s = _
    rw [execBankMapOut, takeRepair_none _ h]
  · change execRankRetirement s = _
    rw [execRankRetirement, takeRepair_none _ h]
  · change execLayerRetirement s = _
    rw [execLayerRetirement, takeRepair_none _ h]

section
variable {rest : List RepairReq} (htodo : s.rep.todo = .bank q k b true :: rest) (hsup : s.sup.restarting = false) (hunits : s.units q = [])
  (howner : s.bankOwner q k b = some r)
  (hfew : ¬ ((s.rank q r).layer = k ∧ 3 ≤ ((List.range 16).filter (fun c => decide (s.bankEnt q r c ≠ .own))).length))
include htodo hsup hunits howner hfew

theorem bankMapOut_eq : exec .bankMapOut s = .next (reportLoss k (moveBank q k b r true (s.begun rest)).2
    (writeLog (moveBank q k b r true (s.begun rest)).1)) :=
  (exec_bankMapOut hsup htodo).trans (congrArg Outcome.next (mapOutBank_moves (s := s.begun rest) hunits howner true hfew))

theorem bankMapOut_liner (hl : s.linerFor q r (some b) [k] = some l) :
    ∃ t, exec .bankMapOut s = .next t ∧ t.rep.todo = rest ∧ t.mem = s.mem ∧ t.ports = s.ports ∧ t.flt = s.flt ∧
      (t.pc q).mg.mig = .prepare ∧ (t.pc q).mg.unit = { rank := r, bank := some b, src := k, dst := l } ∧ repairEntry 2 q k b 0 ∈ t.rep.log := by
  obtain ⟨v, hadd, hfr, hmig, hunit⟩ := addUnit_prepares (s := s.begun rest) (x := bankUnit r b k l) hunits
    (bankOwner_valid (s := s.begun rest) howner l) (linerFor_ne hl).symm
  have hrun := bankMapOut_eq htodo hsup hunits howner hfew
  rw [moveBank_liner (s := s.begun rest) hunits hl, hadd, reportLoss_nil] at hrun
  have hlog : Fr 262144 v (logRepair ((bankUnit r b k l).entry q) false v) := logRepair_fr ..
  have hnoted := logRepair_log ((bankUnit r b k l).entry q) false v
  have htodo' := logRepair_todo ((bankUnit r b k l).entry q) false v
  generalize logRepair ((bankUnit r b k l).entry q) false v = w at hrun hlog hnoted htodo'
  have hwrite := writeLog_fr w
  have hall := (hfr.or hlog).or hwrite
  refine ⟨_, hrun, ?_, hall.mem rfl, hall.ports rfl, hall.flt rfl, ?_, ?_, ?_⟩
  · rw [hwrite.rep rfl, htodo', hfr.rep rfl]
    rfl
  · rw [hwrite.pc rfl, hlog.pc rfl, hmig]
  · rw [hwrite.pc rfl, hlog.pc rfl, hunit, bankUnit]
  · rw [hwrite.rep rfl]
    exact hnoted

theorem bankMapOut_retires (hl : s.linerFor q r (some b) [k] = none) :
    ∃ t, exec .bankMapOut s = .next t ∧ t.bankEnt q r b = .retired ∧ t.rep.lossBanks = satAdd s.rep.lossBanks 1 := by
  have hrun := bankMapOut_eq htodo hsup hunits howner hfew
  rw [moveBank_none (s := s.begun rest) hunits true hl] at hrun
  have hent := bankEnt_setBank q r b .retired (s.begun rest)
  have hloss : ((s.begun rest).setBank q r b .retired).rep.lossBanks = s.rep.lossBanks := rfl
  generalize (s.begun rest).setBank q r b .retired = v at hrun hent hloss
  have hmapped := logRepair_mapped (repairEntry 2 q k b 0) true v
  have hbanks := logRepair_lossBanks (repairEntry 2 q k b 0) true v
  generalize logRepair (repairEntry 2 q k b 0) true v = w at hrun hmapped hbanks
  have hfr : Fr 100679680 w (writeLog (releaseSlice q k w)) := ((releaseSlice_fr q k w).or (writeLog_fr _)).mono rfl
  dsimp only at hrun
  generalize writeLog (releaseSlice q k w) = y at hrun hfr
  obtain ⟨hkept, hcount⟩ := reportLoss_spec k [{ unit := 1, q := q, k := k, bank := b, rank := r, rows := 16384 }] y
  refine ⟨_, hrun, ?_, ?_⟩
  · rw [State.bankEnt, hkept.bankMap, hfr.rep rfl, hmapped.bankMap]
    exact hent
  · rw [hcount (List.cons_ne_nil _ _), hfr.rep rfl, hbanks, hloss]
    rfl

end

/-! ## A rank retired without a liner -/

/-- Ranks struck: each keeps its layer, and a retired one stays so. -/
structure Struck (s t : State) : Prop where
  fr : Fr 100925440 s t
  layer : ∀ q r, (t.rank q r).layer = (s.rank q r).layer
  state : ∀ q r, (s.rank q r).state = 3 → (t.rank q r).state = 3

theorem Struck.refl (s : State) : Struck s s := ⟨Fr.refl .., fun _ _ => rfl, fun _ _ => id⟩

theorem Struck.trans (h : Struck s t) (h' : Struck t u) : Struck s u :=
  ⟨(h.fr.or h'.fr).mono rfl, fun q r => (h'.layer q r).trans (h.layer q r), fun q r hs => h'.state q r (h.state q r hs)⟩

theorem Struck.of_rankMap (h : Fr 100925440 s t) (hmap : t.rep.rankMap = s.rep.rankMap) : Struck s t := by
  have hrank (q r : Nat) : t.rank q r = s.rank q r := by rw [State.rank, hmap, State.rank]
  exact ⟨h, fun q r => by rw [hrank], fun q r hs => by rw [hrank, hs]⟩

theorem rank_setRank (q r : Nat) (e : RankEnt) (s : State) (i j : Nat) :
    (s.setRank q r e).rank i j = if 16 * i + j = 16 * q + r then e else s.rank i j := tabGet_tabSet ..

theorem setRank_struck (q r : Nat) (s : State) : Struck s (s.setRank q r { s.rank q r with state := 3 }) := by
  have hsame (i j : Nat) (h : 16 * i + j = 16 * q + r) : s.rank q r = s.rank i j := by rw [State.rank, State.rank, h]
  refine ⟨(State.setRank_fr ..).mono rfl, fun i j => ?_, fun i j hs => ?_⟩
  · rw [rank_setRank]
    split
    · next h => rw [hsame i j h]
    · rfl
  · rw [rank_setRank]
    split
    · rfl
    · exact hs

theorem logRepair_struck (e : RepairEntry) (now : Bool) (s : State) : Struck s (logRepair e now s) :=
  .of_rankMap ((logRepair_fr ..).mono rfl) (logRepair_mapped ..).rankMap

theorem releaseSlice_struck (q k : Nat) (s : State) : Struck s (releaseSlice q k s) :=
  .of_rankMap ((releaseSlice_fr ..).mono rfl) (congrArg RepState.rankMap ((releaseSlice_fr q k s).rep rfl))

/-- No liner and no unit under way: what retires the units of a pseudo-channel in place. -/
structure Unserved (q : Nat) (s : State) : Prop where
  cap : s.capMigration = false
  units : s.units q = []

theorem Struck.unserved (h : Struck s t) (hs : Unserved q s) : Unserved q t :=
  ⟨by rw [State.capMigration, h.fr.part rfl]; exact hs.cap, (h.fr.units rfl q).trans hs.units⟩

theorem retireSlice_struck (h : Unserved q s) (k r : Nat) (readable : Bool) :
    Struck s (retireSlice q k r readable s).1 ∧ ((retireSlice q k r readable s).1.rank q r).state = 3 := by
  have hrank : ((s.setRank q r { s.rank q r with state := 3 }).rank q r).state = 3 := by rw [rank_setRank, if_pos rfl]
  have hstruck := setRank_struck q r s
  unfold retireSlice
  rw [h.units, if_neg (by simp), copyingFrom_of_units h.units, if_neg (by simp)]
  dsimp only
  rw [linerFor_none h.cap]
  dsimp only
  have hlater := (logRepair_struck { repairEntry 4 q k 0 0 with pc := false } true
    (s.setRank q r { s.rank q r with state := 3 })).trans (releaseSlice_struck q k _)
  exact ⟨hstruck.trans hlater, hlater.state q r hrank⟩

theorem moveBank_struck (h : Unserved q s) (k b r : Nat) (readable : Bool) : Struck s (moveBank q k b r readable s).1 := by
  rw [moveBank_none h.units readable (linerFor_none h.cap)]
  have hset : Struck s (s.setBank q r b .retired) := .of_rankMap ((State.setBank_fr ..).mono rfl) rfl
  exact hset.trans ((logRepair_struck ..).trans (releaseSlice_struck ..))

theorem Struck.foldl {α : Type} {f : State × List Loss → α → State × List Loss} (hf : ∀ x a, Unserved q x.1 → Struck x.1 (f x a).1)
    (l : List α) (x : State × List Loss) (h : Unserved q x.1) : Struck x.1 (l.foldl f x).1 := by
  induction l generalizing x with
  | nil => exact .refl _
  | cons a l ih => exact (hf x a h).trans (ih (f x a) ((hf x a h).unserved h))

/-- One rank of a pseudo-channel struck where it lies on the layer. -/
def strikeRank (q k : Nat) (readable : Bool) (a : State × List Loss) (r : Nat) : State × List Loss :=
  if (a.1.rank q r).layer = k ∧ (a.1.rank q r).state ≠ 3 then
    let x := retireSlice q k r readable a.1
    (x.1, a.2 ++ x.2)
  else a

theorem strikeRank_struck (k : Nat) (readable : Bool) (a : State × List Loss) (r : Nat) (h : Unserved q a.1) :
    Struck a.1 (strikeRank q k readable a r).1 ∧ ((a.1.rank q r).layer = k → ((strikeRank q k readable a r).1.rank q r).state = 3) := by
  unfold strikeRank
  split
  · obtain ⟨hstruck, hstate⟩ := retireSlice_struck h k r readable
    exact ⟨hstruck, fun _ => hstate⟩
  · next hc => exact ⟨.refl _, fun hl => by_contra fun hs => hc ⟨hl, hs⟩⟩

theorem foldl_strikeRank (k : Nat) (readable : Bool) (l : List Nat) (a : State × List Loss) (h : Unserved q a.1) :
    Struck a.1 (l.foldl (strikeRank q k readable) a).1 ∧
      ∀ r ∈ l, (a.1.rank q r).layer = k → ((l.foldl (strikeRank q k readable) a).1.rank q r).state = 3 := by
  induction l generalizing a with
  | nil => exact ⟨.refl _, by simp⟩
  | cons r l ih =>
    obtain ⟨hhead, hself⟩ := strikeRank_struck k readable a r h
    obtain ⟨htail, hlist⟩ := ih (strikeRank q k readable a r) (hhead.unserved h)
    refine ⟨hhead.trans htail, fun j hj hl => ?_⟩
    rcases List.mem_cons.mp hj with rfl | hj
    · exact htail.state _ _ (hself hl)
    · exact hlist j hj ((hhead.layer q j).trans hl)

/-- One bank of a pseudo-channel moved where it is mapped to the layer. -/
def clearBank (q k r : Nat) (readable : Bool) (a : State × List Loss) (b : Nat) : State × List Loss :=
  if a.1.bankEnt q r b = .mapped k then
    let x := moveBank q k b r readable a.1
    (x.1, a.2 ++ x.2)
  else a

theorem clearBank_struck (k r : Nat) (readable : Bool) (a : State × List Loss) (b : Nat) (h : Unserved q a.1) :
    Struck a.1 (clearBank q k r readable a b).1 := by
  unfold clearBank
  split
  · exact moveBank_struck h k b r readable
  · exact .refl _

theorem clearLayerIn_eq (k : Nat) (readable : Bool) (losses : List Loss) (h : Unserved q s) : clearLayerIn k readable q (s, losses) =
    (List.range s.serviceLayers).foldl
      (fun x r => (List.range 16).foldl (clearBank q k r readable) x) ((List.range s.serviceLayers).foldl (strikeRank q k readable) (s, losses)) := by
  unfold clearLayerIn
  dsimp only
  rw [copyingTo_of_units h.units, if_neg Bool.false_ne_true]
  rfl

theorem clearLayerIn_struck (k : Nat) (readable : Bool) (a : State × List Loss) (h : Unserved q a.1) :
    Struck a.1 (clearLayerIn k readable q a).1 ∧
      ∀ r, r < a.1.serviceLayers → (a.1.rank q r).layer = k → ((clearLayerIn k readable q a).1.rank q r).state = 3 := by
  obtain ⟨s, losses⟩ := a
  obtain ⟨hranks, hstates⟩ := foldl_strikeRank k readable (List.range s.serviceLayers) (s, losses) h
  have hbanks := Struck.foldl (q := q) (f := fun x r => (List.range 16).foldl (clearBank q k r readable) x)
    (fun x r hx => Struck.foldl (fun y b hy => clearBank_struck k r readable y b hy) _ x hx)
    (List.range s.serviceLayers) _ (hranks.unserved h)
  rw [clearLayerIn_eq k readable losses h]
  exact ⟨hranks.trans hbanks, fun r hr hl => hbanks.state q r (hstates r (List.mem_range.mpr hr) hl)⟩

/-- Every rank of a channel on a layer is retired. -/
theorem retireRank_retires {n : Nat} (readable : Bool) (heven : Unserved (2 * n) s) (hodd : Unserved (2 * n + 1) s)
    (hfew : ((s.retiredChannels k).filter (fun m => decide (m ≠ n))).length < 3) {q r : Nat} (hq : q = 2 * n ∨ q = 2 * n + 1)
    (hr : r < s.serviceLayers) (hl : (s.rank q r).layer = k) :
    ((retireRank n k readable s).rank q r).layer = k ∧ ((retireRank n k readable s).rank q r).state = 3 := by
  unfold retireRank
  extract_lets here a
  split
  · next hnone =>
    refine ⟨hl, by_contra fun hs => ?_⟩
    have hhere : here q = true := by
      refine Bool.or_eq_true_iff.mpr (.inr (List.any_eq_true.mpr ⟨r, List.mem_range.mpr hr, ?_⟩))
      simp [hl, hs]
    rcases hq with rfl | rfl <;> simp [hhere] at hnone
  · rw [if_neg (by omega)]
    obtain ⟨hfirst, hfirsts⟩ := clearLayerIn_struck k readable (s, []) heven
    obtain ⟨hsecond, hseconds⟩ := clearLayerIn_struck k readable (clearLayerIn k readable (2 * n) (s, [])) (hfirst.unserved hodd)
    have hstruck := hfirst.trans hsecond
    have hstate : (a.1.rank q r).state = 3 := by
      rcases hq with rfl | rfl
      · exact hsecond.state _ _ (hfirsts r hr hl)
      · refine hseconds r ?_ ((hfirst.layer ..).trans hl)
        rw [State.serviceLayers, hfirst.fr.otp rfl]
        exact hr
    have hrank : (reportLoss k a.2 (writeLog a.1)).rank q r = a.1.rank q r := by
      rw [State.rank, (reportLoss_spec k a.2 (writeLog a.1)).1.rankMap, (writeLog_fr a.1).rep rfl, State.rank]
    rw [hrank]
    exact ⟨(hstruck.layer q r).trans hl, hstate⟩

/-! ## A layer retired -/

theorem retireLayer_retires (readable : Bool) (hlive : (s.layer k).retired = false) (hpolicy : s.refuse = false) :
    ((retireLayer k readable s).layer k).retired = true ∧ (retireLayer k readable s).rep.layersRetired = satInc s.rep.layersRetired := by
  unfold retireLayer
  rw [hlive, if_neg Bool.false_ne_true, hpolicy, if_neg Bool.false_ne_true]
  extract_lets marked book counted logged a
  have hmarked : (marked.layer k).retired = true := by
    unfold marked
    rw [State.updLayer_layer, if_pos rfl]
  have hcounted : (counted.layer k).retired = true ∧ counted.rep.layersRetired = satInc s.rep.layersRetired := ⟨hmarked, rfl⟩
  have hlogged : Retires counted logged := (logRepair_mapped ..).retires
  have ha : Retires logged a.1 := Retires.foldl (fun x q => clearLayerIn_retires k readable q x) _ (logged, [])
  have hall : Retires counted (reportLoss k a.2 (writeLog a.1)) :=
    (hlogged.trans ha).trans ((writeLog_retires a.1).trans (reportLoss_spec k a.2 (writeLog a.1)).1.retires)
  exact ⟨(hall.retired k).trans hcounted.1, hall.layersRetired.trans hcounted.2⟩

/-- Under the refuse policy the layer stays, and the stack enters HOLD. -/
theorem retireLayer_refused (readable : Bool) (hlive : (s.layer k).retired = false) (hpolicy : s.refuse = true)
    (hcounts : s.counts (srcLayer k) = true) (hcls : s.srcClass (srcLayer k) < 4) (hmode : s.mode = .service) (hcause : s.holdCause = 0) :
    (retireLayer k readable s).mode = .hold ∧ (retireLayer k readable s).holdCause = 5 ∧ ((retireLayer k readable s).layer k).retired = false := by
  have hboot : ¬ s.mode = .boot := by rw [hmode]; decide
  have hrun : retireLayer k readable s = raiseFault (srcLayer k) 4 { layer := some (Fin.ofNat 18 k) } 5 s := by
    unfold retireLayer
    rw [hlive, if_neg Bool.false_ne_true, hpolicy, if_pos rfl, if_neg hboot]
  have hsettled := raiseFault_layer_settled k 4 5 { layer := some (Fin.ofNat 18 k) } rfl s
  have hfr := s.registered_otherFr (srcLayer k)
  have htrip : s.mode ≠ .trip := by rw [hmode]; decide
  have hhold : s.mode ≠ .hold := by rw [hmode]; decide
  have hheld : Held 5 s (raiseFault (srcLayer k) 4 { layer := some (Fin.ofNat 18 k) } 5 s) := by
    rw [raiseFault_layer k 4 5 _ rfl hcounts hcls]
    exact (raiseOnly_grave (s := s.registered (srcLayer k)) htrip hhold (by rwa [s.registered_srcClass])).after hfr
  rw [hrun]
  refine ⟨hheld.mode, ?_, (hsettled.retired k).trans hlive⟩
  rw [hheld.cause_of_none hcause, if_neg hboot]
  rfl

end Sys2Proof.Machine
end

section
/-! SUPPORT. Steered TSVs, pseudo-channels excluded, liner slices brought into use, rows copied (R327, R337, R338, R345 to R348; O47). -/

namespace Sys2Proof.Machine

open Host

variable {s t u : State} {q : PcId}

/-! ## Rows stored and erased -/

/-- A block of the row that was stored reads back. -/
theorem storeBlock_block {b : Nat} (hb : b < 16) (key : Nat) (d : Block) (c : BitVec 64) (s : State) :
    ((s.storeBlock key b d c).readRow key).block b = (d, c) := by
  rw [readRow_block hb]
  unfold State.storeBlock
  rw [State.readBytes_writeBytes_out (by unfold rowBytes; omega), State.readBytes_writeBytes, State.readBytes_writeBytes,
    ofNat_stored (w := 512) rfl, ofNat_stored (w := 64) rfl]

/-- The other blocks of the row stand. -/
theorem storeBlock_block_other {b j : Nat} (hb : b < 16) (hj : j < 16) (hne : j ≠ b) (key : Nat) (d : Block) (c : BitVec 64) (s : State) :
    ((s.storeBlock key b d c).readRow key).block j = (s.readRow key).block j := by
  rw [readRow_block hj, readRow_block hj]
  unfold State.storeBlock
  rw [State.readBytes_writeBytes_out (by unfold rowBytes; omega), State.readBytes_writeBytes_out (by unfold rowBytes; omega),
    State.readBytes_writeBytes_out (by unfold rowBytes; omega), State.readBytes_writeBytes_out (by unfold rowBytes; omega)]

/-- The first blocks of a row stored. -/
def storeBlocks (key : Nat) (r : Row) (b : Nat) (s : State) : State :=
  s.storeBlock key b (r.blocks.getD b (0, 0)).1 (r.blocks.getD b (0, 0)).2

theorem storeRow_eq (key : Nat) (r : Row) (s : State) : s.storeRow key r = (forN 16 (storeBlocks key r) s).storeCuff key r.cuff := rfl

theorem forN_storeBlocks {n : Nat} (hn : n ≤ 16) (key : Nat) (r : Row) (s : State) {j : Nat} (hj : j < n) :
    ((forN n (storeBlocks key r) s).readRow key).block j = r.block j := by
  induction n with
  | zero => omega
  | succ n ih =>
    rw [forN_succ]
    by_cases h : j = n
    · subst h
      exact storeBlock_block (by omega) ..
    · exact (storeBlock_block_other (by omega) (by omega) h ..).trans (ih (by omega) (by omega))

theorem storeCuff_block {j : Nat} (hj : j < 16) (key : Nat) (c : Block) (s : State) :
    ((s.storeCuff key c).readRow key).block j = (s.readRow key).block j := by
  rw [readRow_block hj, readRow_block hj]
  unfold State.storeCuff
  rw [State.readBytes_writeBytes_out (by unfold rowBytes; omega), State.readBytes_writeBytes_out (by unfold rowBytes; omega)]

theorem storeCuff_cuff (key : Nat) (c : Block) (s : State) : ((s.storeCuff key c).readRow key).cuff = c := by
  rw [readRow_cuff]
  unfold State.storeCuff
  rw [State.readBytes_writeBytes, ofNat_stored (w := 512) rfl]

/-- Two rows of 16 blocks with the same blocks and the same cuff word. -/
theorem row_ext {r r' : Row} (hl : r.blocks.length = 16) (hl' : r'.blocks.length = 16) (hb : ∀ j, j < 16 → r.block j = r'.block j)
    (hc : r.cuff = r'.cuff) : r = r' := by
  have hblocks : r.blocks = r'.blocks := by
    refine List.ext_getElem (hl.trans hl'.symm) fun j hj hj' => ?_
    have hblock := hb j (by omega)
    rwa [Row.block, Row.block, List.getD_eq_getElem _ _ hj, List.getD_eq_getElem _ _ hj'] at hblock
  cases r
  cases r'
  simp_all

theorem storeRow_readRow {r : Row} (hl : r.blocks.length = 16) (key : Nat) (s : State) : (s.storeRow key r).readRow key = r := by
  refine row_ext (by rfl) hl (fun j hj => ?_) ?_ <;> rw [storeRow_eq]
  · rw [storeCuff_block hj, forN_storeBlocks le_rfl key r s hj]
  · exact storeCuff_cuff ..

theorem storeRow_readByte {key a : Nat} (h : a / rowBytes ≠ key) (r : Row) (s : State) : (s.storeRow key r).readByte a = s.readByte a := by
  unfold rowBytes at h
  have hblocks (n : Nat) (hn : n ≤ 16) : (forN n (storeBlocks key r) s).readByte a = s.readByte a := by
    induction n with
    | zero => rfl
    | succ n ih =>
      rw [forN_succ, storeBlocks, State.storeBlock, State.readByte_writeBytes_out (by unfold rowBytes; omega),
        State.readByte_writeBytes_out (by unfold rowBytes; omega), ih (by omega)]
  rw [storeRow_eq, State.storeCuff, State.readByte_writeBytes_out (by unfold rowBytes; omega), hblocks 16 le_rfl]

theorem eraseSlices_readByte (f : Nat → Bool) (s : State) (a : Nat) :
    (eraseSlices f s).readByte a = if f (a / (rowBytes * 262144)) then memDefault a else s.readByte a := by
  have htab (d : Byte) (l : List Cell) : tabGet d (l.filter (fun c => !f (c.1 / (rowBytes * 262144)))) a =
      if f (a / (rowBytes * 262144)) then d else tabGet d l a := by
    induction l with
    | nil => exact (ite_self _).symm
    | cons c l ih =>
      by_cases hc : f (c.1 / (rowBytes * 262144)) = true
      · rw [List.filter_cons_of_neg (by simp [hc]), ih, tabGet]
        by_cases hca : c.1 = a
        · rw [if_pos (hca ▸ hc), if_pos (hca ▸ hc)]
        · rw [if_neg hca]
      · rw [List.filter_cons_of_pos (by simp [hc]), tabGet, tabGet, ih]
        by_cases hca : c.1 = a
        · rw [if_pos hca, if_pos hca, if_neg (hca ▸ hc)]
        · rw [if_neg hca, if_neg hca]
  exact htab (memDefault a) s.mem

theorem rowKey_slice {q k b row i : Nat} (hb : b < 16) (hrow : row < 16384) (hi : i < rowBytes) :
    (rowKey q k b row * rowBytes + i) / (rowBytes * 262144) = q * 18 + k := by
  have hkey : (rowKey q k b row * rowBytes + i) / rowBytes = rowKey q k b row := by
    rw [Nat.mul_comm, Nat.mul_add_div (by decide), Nat.div_eq_of_lt hi, Nat.add_zero]
  rw [← Nat.div_div_eq_div_mul, hkey]
  unfold rowKey
  omega

/-! ## TSVs steered (R337, R338) -/

theorem tabPut_find {α : Type} {l : List (Nat × α)} {i : Nat} (h : l.find? (fun e => decide (e.1 = i)) = none) (x : α) :
    (tabPut l i x).find? (fun e => decide (e.1 = i)) = some (i, x) := by
  induction l with
  | nil => simp [tabPut]
  | cons e l ih =>
    have hhead : ¬ decide (e.1 = i) = true := List.find?_eq_none.mp h e (List.mem_cons_self ..)
    rw [List.find?_cons_of_neg (p := fun e : Nat × α => decide (e.1 = i)) hhead] at h
    unfold tabPut
    split
    · exact List.find?_cons_of_pos (decide_eq_true rfl)
    · rw [List.find?_cons_of_neg (p := fun e : Nat × α => decide (e.1 = i)) hhead, ih h]

theorem steerMap_find (f : Steer → Steer) (l : List (Nat × Steer)) (i : Nat) :
    ((l.map (fun e => (e.1, f e.2))).find? (fun e => decide (e.1 = i))).isNone = (l.find? (fun e => decide (e.1 = i))).isNone := by
  rw [List.find?_map]
  simp

/-- A TSV that failed again on its spare is marked. -/
def Steer.failing (x : TsvRef) (y : Steer) : Steer :=
  if decide (y.group = x.group) && decide (y.lane = x.lane) && !y.failed then { y with failed := true } else y

/-- The steering of a pseudo-channel in which a TSV fails. -/
def Pc.tsvFails (x : TsvRef) (y : Pc) : Pc := { y with steer := y.steer.map (fun e => (e.1, Steer.failing x e.2)) }

/-- The pseudo-channel whose lane isolation has ended. -/
def Pc.isolated (y : Pc) : Pc := { y with isolating := false, mg := { y.mg with useCal := y.mg.useCal + 1 } }

/-- The steering that takes a TSV to its spare. -/
def steerFor (x : TsvRef) : Steer := { group := x.group, lane := x.lane, layer := BitVec.ofNat 5 x.layer.val }

section
variable (x : TsvRef)

theorem freeTsv_failing (s : State) (q : Nat) : (s.updPc q (Pc.tsvFails x)).freeTsv q = s.freeTsv q := by
  have hnone (i : Nat) : ((s.updPc q (Pc.tsvFails x)).steer q i).isNone = (s.steer q i).isNone := by
    rw [State.steer, State.steer, Option.isNone_map, Option.isNone_map, State.updPc_pc, if_pos rfl]
    exact steerMap_find (Steer.failing x) _ i
  unfold State.freeTsv
  simp only [hnone]

theorem steerTsv_some (s : State) {q i : Nat} (h : s.freeTsv q = some i) : steerTsv q x s =
    (writeLog (logRepair (repairEntry 1 q x.layer.val 0 (pack [(i, 2), (x.group.toNat, 2), (x.lane.toNat, 6)])) true
      ((s.updPc q (Pc.tsvFails x)).updPc q (fun y => { y with steer := tabPut y.steer i (steerFor x) }))), true) := by
  have hfree := freeTsv_failing x s q
  rw [h] at hfree
  change (match (s.updPc q (Pc.tsvFails x)).freeTsv q with
    | none => (s.updPc q (Pc.tsvFails x), false)
    | some i => _) = _
  rw [hfree] <;> rfl

theorem steerTsv_none (s : State) {q : Nat} (h : s.freeTsv q = none) : steerTsv q x s = (s.updPc q (Pc.tsvFails x), false) := by
  have hfree := freeTsv_failing x s q
  rw [h] at hfree
  change (match (s.updPc q (Pc.tsvFails x)).freeTsv q with
    | none => (s.updPc q (Pc.tsvFails x), false)
    | some i => _) = _
  rw [hfree] <;> rfl

end

section
variable (hiso : (s.pc q.val).isolating = true) (hin : (s.pc q.val).excluded = false)
include hiso hin

theorem tsvSteering_none : exec (.tsvSteering q none) s = .next (s.updPc q.val Pc.isolated) := by
  change execTsvSteering q none s = _
  unfold execTsvSteering
  rw [if_pos ⟨hiso, by rw [hin]; rfl⟩] <;> rfl

theorem tsvSteering_found (x : TsvRef) : exec (.tsvSteering q (some x)) s = .next (
    let r := steerTsv q.val x (s.updPc q.val Pc.isolated)
    if r.2 then r.1
    else checkMinimum ((fault (srcTsv (chanOf q.val)) (pcDetail q.val) (excludePc q.val r.1)).updPc q.val
      (fun y => { y with isolating := false }))) := by
  change execTsvSteering q (some x) s = _
  unfold execTsvSteering
  rw [if_pos ⟨hiso, by rw [hin]; rfl⟩]
  change (if (steerTsv q.val x (s.updPc q.val Pc.isolated)).2 then Outcome.next _ else Outcome.next _) = _
  split
  · next h => exact congrArg Outcome.next (if_pos h).symm
  · next h => exact congrArg Outcome.next (if_neg h).symm

theorem tsv_isolated : ∃ t, exec (.tsvSteering q none) s = .next t ∧ (t.pc q.val).isolating = false ∧
    (t.pc q.val).steer = (s.pc q.val).steer ∧ t.mem = s.mem ∧ t.ports = s.ports ∧ t.flt = s.flt := by
  have hpc : (s.updPc q.val Pc.isolated).pc q.val = (s.pc q.val).isolated := (State.updPc_pc ..).trans (if_pos rfl)
  refine ⟨_, tsvSteering_none hiso hin, ?_, ?_, rfl, rfl, rfl⟩ <;> rw [hpc] <;> rfl

theorem tsv_steered (x : TsvRef) {i : Nat} (hfree : s.freeTsv q.val = some i) :
    ∃ t st, exec (.tsvSteering q (some x)) s = .next t ∧ t.steer q.val i = some st ∧ st.group = x.group ∧ st.lane = x.lane ∧
      st.burnt = false ∧ st.failed = false ∧ t.mem = s.mem ∧ t.ports = s.ports ∧ t.flt = s.flt ∧ (t.pc q.val).excluded = false ∧
      repairEntry 1 q.val x.layer.val 0 (pack [(i, 2), (x.group.toNat, 2), (x.lane.toNat, 6)]) ∈ t.rep.log := by
  have hrun := tsvSteering_found hiso hin x
  have hfree' : (s.updPc q.val Pc.isolated).freeTsv q.val = some i := by
    rw [← hfree, State.freeTsv, State.freeTsv]
    simp only [State.steer, State.updPc_pc, if_true]
    rfl
  rw [steerTsv_some x _ hfree'] at hrun
  dsimp only at hrun
  rw [if_pos rfl] at hrun
  have hin' : (((s.updPc q.val Pc.isolated).updPc q.val (Pc.tsvFails x)).pc q.val).excluded = false := by
    rw [State.updPc_pc, if_pos rfl, State.updPc_pc, if_pos rfl]
    exact hin
  have hnone : ((s.updPc q.val Pc.isolated).updPc q.val (Pc.tsvFails x)).steer q.val i = none := by
    have hfound := List.find?_some ((freeTsv_failing x (s.updPc q.val Pc.isolated) q.val).trans hfree')
    exact Option.isNone_iff_eq_none.mp hfound
  have hfr : Fr 16777216 s ((s.updPc q.val Pc.isolated).updPc q.val (Pc.tsvFails x)) := ((State.updPc_fr ..).or (State.updPc_fr ..)).mono rfl
  generalize (s.updPc q.val Pc.isolated).updPc q.val (Pc.tsvFails x) = v at hrun hin' hnone hfr
  have hsteer : (v.updPc q.val (fun y => { y with steer := tabPut y.steer i (steerFor x) })).steer q.val i = some (steerFor x) := by
    rw [State.steer, Option.map_eq_none_iff] at hnone
    rw [State.steer, State.updPc_pc, if_pos rfl]
    dsimp only
    rw [tabPut_find hnone]
    rfl
  have hex : ((v.updPc q.val (fun y => { y with steer := tabPut y.steer i (steerFor x) })).pc q.val).excluded = false := by
    rw [State.updPc_pc, if_pos rfl]
    exact hin'
  have hput : Fr 16777216 v (v.updPc q.val (fun y => { y with steer := tabPut y.steer i (steerFor x) })) := State.updPc_fr ..
  generalize v.updPc q.val (fun y => { y with steer := tabPut y.steer i (steerFor x) }) = w at hrun hsteer hex hput
  have hlog := logRepair_log (repairEntry 1 q.val x.layer.val 0 (pack [(i, 2), (x.group.toNat, 2), (x.lane.toNat, 6)])) true w
  have hnoted : Fr 262144 w _ := logRepair_fr (repairEntry 1 q.val x.layer.val 0 (pack [(i, 2), (x.group.toNat, 2), (x.lane.toNat, 6)])) true w
  generalize logRepair (repairEntry 1 q.val x.layer.val 0 (pack [(i, 2), (x.group.toNat, 2), (x.lane.toNat, 6)])) true w = y at hrun hlog hnoted
  have hend := hnoted.or (writeLog_fr y)
  have hall := (hfr.or hput).or hend
  refine ⟨_, steerFor x, hrun, ?_, rfl, rfl, rfl, rfl, hall.mem rfl, hall.ports rfl, hall.flt rfl, ?_, ?_⟩
  · rw [State.steer, hend.pc rfl]
    exact hsteer
  · rw [hend.pc rfl]
    exact hex
  · rw [(writeLog_fr y).rep rfl]
    exact hlog

end

/-! ## A pseudo-channel excluded (R338) -/

/-- What an entry to HOLD leaves: which pseudo-channels are excluded; the bytes stored stay or are gone. -/
structure Closed (s t : State) : Prop where
  excluded : ∀ q, (t.pc q).excluded = (s.pc q).excluded
  mem : t.mem = s.mem ∨ t.mem = []

theorem Closed.of_fr {m : Nat} (h : Fr m s t) (hm : m &&& 285212672 = 0 := by decide) : Closed s t := by
  have hbit {i : Nat} (hi : (285212672 : Nat).testBit i = true) : m.testBit i = false := testBit_of_disjoint hm hi
  exact ⟨fun q => by rw [h.pc (hbit (by decide))], .inl (h.mem (hbit (by decide)))⟩

theorem Closed.trans (h : Closed s t) (h' : Closed t u) : Closed s u := by
  refine ⟨fun q => (h'.excluded q).trans (h.excluded q), ?_⟩
  rcases h'.mem with hm | hm
  · rw [hm]
    exact h.mem
  · exact .inr hm

theorem stopMemory_excluded (q : Nat) (s : State) : ((stopMemory s).pc q).excluded = (s.pc q).excluded := by
  have hloop : ((forN 32 (fun q s => if s.pc q = {} then s else s.updPc q Pc.idle) s).pc q).excluded = (s.pc q).excluded := by
    refine forN_eq (f := fun t => (t.pc q).excluded) (fun i t => ?_) 32 s
    split
    · rfl
    · rw [State.updPc_pc]
      split
      · next h => rw [h]; rfl
      · rfl
  have hpcs : (stopMemory s).pcs = (forN 32 (fun q s => if s.pc q = {} then s else s.updPc q Pc.idle) s).pcs := by
    rw [stopMemory_eq]
  rw [State.pc, hpcs, ← State.pc]
  exact hloop

theorem State.stopAll_excluded (q : Nat) (s : State) : (s.stopAll.pc q).excluded = (s.pc q).excluded := by
  unfold State.stopAll
  rw [(stopTest_fr _).pc rfl, (layersOff_fr _).pc rfl, stopMemory_excluded, (linksDown_fr _).pc rfl]

theorem enterHold_closed (c : Nat) (s : State) : Closed s (enterHold c s) := by
  by_cases ht : s.mode = .trip
  · rw [enterHold_of_trip c ht]
    exact .of_fr (Fr.refl 0 s)
  by_cases hh : s.mode = .hold
  · rw [enterHold_of_hold c hh]
    exact .of_fr (Fr.refl 0 s)
  refine ⟨fun q => ?_, .inr (enterHold_mem c ht hh)⟩
  rw [enterHold_eq c ht hh]
  exact s.stopAll_excluded q

theorem collects_closed : Collects Closed where
  refl s := .of_fr (Fr.refl 0 s)
  trans := Closed.trans
  parts h := .of_fr h
  queue j s := .of_fr (queueRecord_fr j s)
  hold := enterHold_closed

theorem checkMinimum_closed (s : State) : Closed s (checkMinimum s) := by
  unfold checkMinimum
  split
  · exact collects_closed.refl s
  split
  · exact enterHold_closed ..
  split
  · exact (collects_closed.registerEvent ..).trans (collects_closed.latchGrave ..)
  · exact collects_closed.refl s

/-- A pseudo-channel taken out: it is lost, counted, and its rows read as never written. -/
theorem excludePc_spec (q : Nat) (s : State) : Fr 289817600 s (excludePc q s) ∧ (excludePc q s).flt.sources = s.flt.sources ∧
    ((excludePc q s).pc q).excluded = true ∧ (excludePc q s).lossPcs = satAdd s.lossPcs 1 ∧
    ∀ a, a / (rowBytes * 262144) / 18 = q → (excludePc q s).readByte a = memDefault a := by
  refine ⟨excludePc_fr q s, ?_⟩
  unfold excludePc
  extract_lets src rows stopped logged book counted noticed
  have hmarked : Fr 16777216 s (s.updPc q (fun x => { x with excluded := true })) := State.updPc_fr ..
  have hex : ((s.updPc q (fun x => { x with excluded := true })).pc q).excluded = true := by rw [State.updPc_pc, if_pos rfl]
  have hstopped : Fr 17039360 (s.updPc q (fun x => { x with excluded := true })) stopped := stopPc_fr ..
  have hstopex : (stopped.pc q).excluded = true := by
    unfold stopped stopPc
    extract_lets cleared
    have hcleared : (cleared.pc q).excluded = true := by
      unfold cleared
      rw [State.updPc_pc, if_pos rfl]
      exact hex
    have hranks : Fr 262144 cleared _ := Fr.forN (m := 262144) (f := fun r s => if (s.rank q r).state = 2 then
      s.setRank q r { s.rank q r with state := if s.liners.contains (s.rank q r).layer then 1 else 0 } else s)
      (fun r t => Fr.iteT (State.setRank_fr ..) (.refl ..)) 16 (.refl ..)
    exact (congrArg Pc.excluded (hranks.pc rfl q)).trans hcleared
  have hlogged : Fr 148480 stopped logged := logRecord_fr ..
  have hcounted : Fr 262144 logged counted := Fr.u262144 (.refl ..) rfl
  have hnoticed : Fr 4326400 counted noticed := Fr.forN (fun p t => Fr.iteT (sendNotice_fr ..) (.refl ..)) 16 (.refl ..)
  have herased : Fr 268435456 noticed (eraseSlices (fun i => decide (i / 18 = q)) noticed) := eraseSlices_fr ..
  have htail := (hlogged.or hcounted).or (hnoticed.or herased)
  refine ⟨?_, ?_, ?_, fun a ha => ?_⟩
  · have hnoted : noticed.latches = counted.latches := by
      refine forN_eq (f := State.latches) (fun p t => ?_) 16 counted
      split
      · exact sendNotice_latches ..
      · rfl
    rw [herased.flt rfl, State.sources_of_latches hnoted, hcounted.flt rfl, State.sources_of_latches (logRecord_latches ..), hstopped.flt rfl,
      hmarked.flt rfl]
  · rw [htail.pc rfl, hstopex]
  · have hcount : counted.lossPcs = satAdd logged.lossPcs 1 := rfl
    rw [herased.lossPcs rfl, hnoticed.lossPcs rfl, hcount, hlogged.lossPcs rfl, stopPc_lossPcs, hmarked.lossPcs rfl]
  · rw [eraseSlices_readByte, if_pos (decide_eq_true ha)]

theorem quiet_after_exclusion (n : Nat) (h : s.quiet n) (hs : Fr 16777216 s t) : (excludePc q.val t).quiet n := by
  obtain ⟨hfr, hsources, -⟩ := excludePc_spec q.val t
  exact quiet_of_sources hfr hsources (hs.quiet h)

theorem tsv_excludes (hiso : (s.pc q.val).isolating = true) (hin : (s.pc q.val).excluded = false) (x : TsvRef)
    (hfree : s.freeTsv q.val = none) (hq : s.quiet (srcTsv (chanOf q.val))) :
    ∃ t, exec (.tsvSteering q (some x)) s = .next t ∧ (t.pc q.val).excluded = true ∧ t.rep.lossPcs = satAdd s.rep.lossPcs 1 ∧
      ∀ k b row i, k < 18 → b < 16 → row < 16384 → i < rowBytes →
        t.readByte (rowKey q.val k b row * rowBytes + i) = memDefault (rowKey q.val k b row * rowBytes + i) := by
  have hrun := tsvSteering_found hiso hin x
  have hfree' : (s.updPc q.val Pc.isolated).freeTsv q.val = none := by
    rw [← hfree, State.freeTsv, State.freeTsv]
    simp only [State.steer, State.updPc_pc, if_true]
    rfl
  rw [steerTsv_none x _ hfree'] at hrun
  dsimp only at hrun
  rw [if_neg Bool.false_ne_true] at hrun
  have hfr : Fr 16777216 s ((s.updPc q.val Pc.isolated).updPc q.val (Pc.tsvFails x)) := ((State.updPc_fr ..).or (State.updPc_fr ..)).mono rfl
  generalize (s.updPc q.val Pc.isolated).updPc q.val (Pc.tsvFails x) = v at hrun hfr
  have hquiet := quiet_after_exclusion (q := q) _ hq hfr
  obtain ⟨-, -, hex, hloss, hbytes⟩ := excludePc_spec q.val v
  have h0 : srcTsv (chanOf q.val) ≠ 0 := by simp only [srcTsv]; omega
  have h9 : srcTsv (chanOf q.val) ≠ 9 := by simp only [srcTsv]; omega
  rw [fault_of_quiet _ h0 h9 hquiet, perEvent_srcTsv] at hrun
  have hevent := (excludePc q.val v).withEvent_fr (srcTsv (chanOf q.val))
  generalize excludePc q.val v = w at hrun hex hloss hbytes hevent
  have hpcs : Fr 16777216 (w.withEvent (srcTsv (chanOf q.val))) (((w.withEvent (srcTsv (chanOf q.val))).updPc q.val
      (fun y => { y with isolating := true })).updPc q.val (fun y => { y with isolating := false })) :=
    ((State.updPc_fr ..).or (State.updPc_fr ..)).mono rfl
  have hexcluded : ((((w.withEvent (srcTsv (chanOf q.val))).updPc q.val (fun y => { y with isolating := true })).updPc q.val
      (fun y => { y with isolating := false })).pc q.val).excluded = true := by
    rw [State.updPc_pc, if_pos rfl, State.updPc_pc, if_pos rfl, hevent.pc rfl]
    exact hex
  generalize ((w.withEvent (srcTsv (chanOf q.val))).updPc q.val (fun y => { y with isolating := true })).updPc q.val
    (fun y => { y with isolating := false }) = y at hrun hpcs hexcluded
  have hall := hevent.or hpcs
  obtain ⟨hclosed, hmem⟩ := checkMinimum_closed y
  refine ⟨_, hrun, (hclosed q.val).trans hexcluded, ?_, fun k b row i hk hb hrow hi => ?_⟩
  · change (checkMinimum y).lossPcs = satAdd s.lossPcs 1
    rw [checkMinimum_lossPcs, hall.lossPcs rfl, hloss, hfr.lossPcs rfl]
  · rcases hmem with hm | hm
    · rw [readByte_congr (hm.trans (hall.mem rfl))]
      refine hbytes _ ?_
      rw [rowKey_slice hb hrow hi]
      omega
    · exact congrArg (fun m => tabGet (memDefault (rowKey q.val k b row * rowBytes + i)) m (rowKey q.val k b row * rowBytes + i)) hm

end Sys2Proof.Machine
end

section
/-! SUPPORT. Liner slices brought into use and rows copied (R313, R327, R345 to R348); with them the obligation on repairs (O47). -/

namespace Sys2Proof.Machine

open Host

variable {s t u : State} {q : PcId}

/-! ## A liner slice brought into use (R327) -/

/-- Fuses that all read clear count nothing. -/
theorem countAf_clear {fuses : List AfRead} {k : Nat} (h : ∀ e ∈ s.afReads fuses k, e.2 = .clear) : countAf fuses k s = s := by
  have hnone (x : AfSound) (hx : x ≠ .clear) : ((s.afReads fuses k).filter (fun e => decide (e.2 = x))).length = 0 := by
    rw [List.length_eq_zero_iff, List.filter_eq_nil_iff]
    intro e he
    rw [h e he]
    exact fun hc => hx (of_decide_eq_true hc).symm
  unfold countAf
  extract_lets n
  have hmarginal : n .marginal = 0 := hnone _ (by decide)
  have hfails : n .fails = 0 := hnone _ (by decide)
  rw [hmarginal, hfails]
  rfl

/-- An array set: refresh begins in the slice, whose bytes read as never written; the copy lane stands. -/
theorem arraySet_spec (q k : Nat) (s : State) : Fr 318767104 s (arraySet q k s) ∧ ((arraySet q k s).slice q k).inUse = true ∧
    ((arraySet q k s).pc q).mg = (s.pc q).mg ∧ ∀ a, (arraySet q k s).readByte a =
      if a / (rowBytes * 262144) = q * 18 + k then memDefault a else s.readByte a := by
  refine ⟨arraySet_fr .., ?_, ?_, fun a => ?_⟩
  · unfold arraySet beginRefresh
    rw [State.updSlice_slice, if_pos rfl, State.updSlice_slice, if_pos rfl]
  · unfold arraySet beginRefresh
    rw [State.updSlice_pc, State.updSlice_pc, State.updPc_pc, if_pos rfl]
    rfl
  · have hmem : (arraySet q k s).mem = (eraseSlices (fun i => decide (i = q * 18 + k)) s).mem :=
      ((State.updSlice_fr ..).mem rfl).trans ((beginRefresh_fr ..).mem rfl)
    rw [readByte_congr hmem, eraseSlices_readByte]
    simp only [decide_eq_true_eq]

/-- A slice in use. -/
structure InUse (q k : Nat) (s t : State) : Prop where
  fr : Fr 385875972 s t
  inUse : (t.slice q k).inUse = true
  mg : (t.pc q).mg = (s.pc q).mg
  other : ∀ a, a / (rowBytes * 262144) ≠ q * 18 + k → t.readByte a = s.readByte a
  fresh : (s.slice q k).inUse = false → (t.layer k).powered = true ∧
    ∀ a, a / (rowBytes * 262144) = q * 18 + k → t.readByte a = memDefault a

theorem inUse_of_fr {k m : Nat} (h : InUse q.val k s t) (hfr : Fr m t u) (hu : (u.slice q.val k).inUse = true)
    (hm : m ||| 33554436 = 33554436 := by decide) : InUse q.val k s u := by
  have hfr' := hfr.mono hm
  refine ⟨(h.fr.or hfr').mono rfl, hu, by rw [hfr'.pc rfl]; exact h.mg, fun a ha => (readByte_congr (hfr'.mem rfl) a).trans (h.other a ha),
    fun hs => ?_⟩
  obtain ⟨hpow, hbytes⟩ := h.fresh hs
  exact ⟨by rw [State.layer, hfr'.layers rfl]; exact hpow, fun a ha => (readByte_congr (hfr'.mem rfl) a).trans (hbytes a ha)⟩

theorem calibrated_inUse (q k : Nat) (s : State) : ((calibrated q k s).slice q k).inUse = (s.slice q k).inUse := by
  unfold calibrated
  extract_lets n set
  change (set.slice q k).inUse = _
  unfold set
  rw [State.updSlice_slice, if_pos rfl]

theorem intoUse_spec {k : Nat} (bins : List (Nat × BitVec 2)) (map : List MadeSpare) {fuses : List AfRead}
    (h : ∀ e ∈ s.afReads fuses k, e.2 = .clear) : InUse q.val k s (intoUse q.val k bins map fuses s) := by
  unfold intoUse
  split
  · next huse => exact ⟨Fr.refl .., huse, rfl, fun _ _ => rfl, fun hs => absurd (hs.symm.trans huse) Bool.false_ne_true⟩
  · next huse =>
    extract_lets powered l binned set
    have hpower : Fr 67108864 s powered ∧ (powered.layer k).powered = true := by
      unfold powered
      split
      · next hp => exact ⟨Fr.refl .., hp⟩
      · exact ⟨State.updLayer_fr .., by rw [State.updLayer_layer, if_pos rfl]⟩
    obtain ⟨hpow, hpowered⟩ := hpower
    have hcount : countAf fuses k powered = powered := by
      refine countAf_clear fun e he => h e ?_
      rwa [State.afReads, hpow.otp rfl] at he
    have hbinned : Fr 33554432 powered (applyAntifuse l q.val k binned) := by
      unfold binned
      rw [hcount]
      exact ((State.updSlice_fr ..).or (applyAntifuse_fr ..)).mono rfl
    clear_value binned
    generalize hv : applyAntifuse l q.val k binned = v at hbinned
    have hset : InUse q.val k s set := by
      unfold set
      rw [hv]
      obtain ⟨hfr, huse', hmg, hbytes⟩ := arraySet_spec q.val k v
      have hin : InUse q.val k s (arraySet q.val k v) := by
        have hbefore := hpow.or hbinned
        refine ⟨(hbefore.or hfr).mono rfl, huse', ?_, fun a ha => ?_, fun _ => ⟨?_, fun a ha => ?_⟩⟩
        · rw [hmg, hbefore.pc rfl]
        · rw [hbytes, if_neg ha, readByte_congr (hbefore.mem rfl)]
        · rw [State.layer, hfr.layers rfl, hbinned.layers rfl]
          exact hpowered
        · rw [hbytes, if_pos ha]
      refine inUse_of_fr hin (State.updSlice_fr ..) ?_
      rw [State.updSlice_slice, if_pos rfl]
      exact huse'
    clear_value set
    exact inUse_of_fr hset (calibrated_fr ..) ((calibrated_inUse ..).trans hset.inUse)

section
variable {read : LinerRead} {x : MigUnit} (hmig : (s.pc q.val).mg.mig = .prepare) (hunit : (s.pc q.val).mg.unit = x)
include hmig hunit

omit hmig hunit in
theorem linerIntoUse_waits (h : s.sup.restarting = true) : exec (.linerIntoUse q read) s = .next s := by
  change execLinerIntoUse q read s = _
  unfold execLinerIntoUse
  exact if_neg (by simp [h])

/-- The liner slice as its unit needs it. -/
def State.linerUsed (q : Nat) (read : LinerRead) (x : MigUnit) (s : State) : State :=
  intoUse q x.dst (read.bins.map (fun e => (e.1.val * 32 + e.2.1.val, e.2.2))) read.map read.fuses s

theorem exec_linerIntoUse (hne : x.src ≠ x.dst) (h : s.sup.restarting = false) (hmode : s.mode = .service ∨ s.mode = .retain) :
    exec (.linerIntoUse q read) s = .next (
      let v := (s.linerUsed q.val read x).updPc q.val (fun y => { y with mg := { y.mg with mig := .copy } })
      if x.bank.isNone then v.setRank q.val x.rank { v.rank q.val x.rank with state := 2 } else v) := by
  change execLinerIntoUse q read s = _
  unfold execLinerIntoUse
  dsimp only
  rw [if_pos ⟨hmig, by rw [h]; rfl, hmode⟩, hunit, if_neg hne] <;> rfl

theorem linerIntoUse_spec (hne : x.src ≠ x.dst) (h : s.sup.restarting = false) (hmode : s.mode = .service ∨ s.mode = .retain)
    (hfuses : ∀ e ∈ s.afReads read.fuses x.dst, e.2 = .clear) :
    ∃ t, exec (.linerIntoUse q read) s = .next t ∧ (t.pc q.val).mg.mig = .copy ∧ (t.pc q.val).mg.unit = x ∧ t.ports = s.ports ∧
      t.flt = s.flt ∧ (t.slice q.val x.dst).inUse = true ∧
      (∀ a, a / (rowBytes * 262144) ≠ q.val * 18 + x.dst → t.readByte a = s.readByte a) ∧
      ((s.slice q.val x.dst).inUse = false → (t.layer x.dst).powered = true ∧
        ∀ a, a / (rowBytes * 262144) = q.val * 18 + x.dst → t.readByte a = memDefault a) ∧
      (x.bank = none → (t.rank q.val x.rank).state = 2 ∧ (t.rank q.val x.rank).layer = (s.rank q.val x.rank).layer) := by
  have hrun := exec_linerIntoUse (read := read) hmig hunit hne h hmode
  have hused : InUse q.val x.dst s (s.linerUsed q.val read x) := intoUse_spec _ _ hfuses
  dsimp only at hrun
  generalize s.linerUsed q.val read x = v at hrun hused
  have hpc : (v.updPc q.val (fun y => { y with mg := { y.mg with mig := .copy } })).pc q.val =
      { v.pc q.val with mg := { (v.pc q.val).mg with mig := .copy } } := (State.updPc_pc ..).trans (if_pos rfl)
  have hcopy : Fr 16777216 v (v.updPc q.val (fun y => { y with mg := { y.mg with mig := .copy } })) := State.updPc_fr ..
  generalize v.updPc q.val (fun y => { y with mg := { y.mg with mig := .copy } }) = w at hrun hpc hcopy
  have hrank : Fr 262144 w (if x.bank.isNone then w.setRank q.val x.rank { w.rank q.val x.rank with state := 2 } else w) :=
    Fr.iteT (State.setRank_fr ..) (.refl ..)
  have hmigrating (hb : x.bank = none) : (if x.bank.isNone then w.setRank q.val x.rank { w.rank q.val x.rank with state := 2 } else w).rank q.val
      x.rank = { w.rank q.val x.rank with state := 2 } := by
    rw [hb, if_pos (by rfl), rank_setRank, if_pos rfl]
  generalize (if x.bank.isNone then w.setRank q.val x.rank { w.rank q.val x.rank with state := 2 } else w) = t at hrun hrank hmigrating
  have hall := hcopy.or hrank
  have hstart := hused.fr.or hall
  refine ⟨t, hrun, ?_, ?_, hstart.ports rfl, hstart.flt rfl, ?_, fun a ha => (readByte_congr (hall.mem rfl) a).trans (hused.other a ha),
    fun hs => ?_, fun hb => ?_⟩
  · rw [hrank.pc rfl, hpc]
  · rw [hrank.pc rfl, hpc]
    dsimp only
    rw [hused.mg, hunit]
  · rw [hall.slice rfl]
    exact hused.inUse
  · obtain ⟨hpow, hbytes⟩ := hused.fresh hs
    exact ⟨by rw [State.layer, hall.layers rfl]; exact hpow, fun a ha => (readByte_congr (hall.mem rfl) a).trans (hbytes a ha)⟩
  · have hsame : w.rank q.val x.rank = s.rank q.val x.rank := by rw [State.rank, hcopy.rep rfl, hused.fr.rep rfl, State.rank]
    rw [hmigrating hb, hsame]
    exact ⟨rfl, rfl⟩

end

/-! ## A row copied (R346) -/

theorem copiedRow_length (r : Row) : (copiedRow r).blocks.length = 16 := by
  simp [copiedRow]

/-- A row copied to its place, with what the copy costs. -/
def rowCopied (q : Nat) (x : MigUnit) (b row : Nat) (s : State) : State :=
  let s := s.storeRow (rowKey q x.dst b row) (copiedRow (s.readRow (rowKey q x.src b row)))
  let s := reserveRow q x.src b row s
  let s := addWork q x.dst .act 3 (addWork q x.dst .burst 17 (addWork q x.src .rdrow 1 (addWork q x.src .chk 1 s)))
  let ks := bankKey x.src b
  let kd := bankKey x.dst b
  let s := s.updPc q (fun y =>
    let a := tabSet 0 y.mg.useActs ks (tabGet 0 y.mg.useActs ks + 1)
    { y with mg := { y.mg with useMig := y.mg.useMig + 34, useActs := tabSet 0 a kd (tabGet 0 a kd + 3) } })
  chanEvent q 0x4A 34 (chanEvent q 0x40 3 s)

/-- The copy: its row at the place it is copied to, every other row as it was. -/
theorem rowCopied_spec (q : Nat) (x : MigUnit) (b row : Nat) (s : State) : Fr 461375490 s (rowCopied q x b row s) ∧
    (rowCopied q x b row s).readRow (rowKey q x.dst b row) = copiedRow (s.readRow (rowKey q x.src b row)) ∧
    ∀ a, a / rowBytes ≠ rowKey q x.dst b row → (rowCopied q x b row s).readByte a = s.readByte a := by
  unfold rowCopied
  extract_lets stored reserved worked ks kd used
  have hstored : Fr 268435456 s stored := State.storeRow_fr ..
  have hreserved : Reserved stored reserved := reserveRow_reserved ..
  have hworked : Fr 2048 reserved worked := ((((addWork_fr ..).or (addWork_fr ..)).or (addWork_fr ..)).or (addWork_fr ..)).mono rfl
  clear_value worked
  have hused : Reserved worked used := Reserved.updPc q rfl
  have hend : Reserved used _ := Reserved.of_fr ((chanEvent_fr q 0x40 3 used).or (chanEvent_fr q 0x4A 34 _))
  have hlater := ((hreserved.trans (Reserved.of_fr hworked)).trans hused).trans hend
  refine ⟨(hstored.or hlater.fr).mono rfl, ?_, fun a ha => ?_⟩
  · rw [readRow_congr (hlater.fr.mem rfl)]
    exact storeRow_readRow (copiedRow_length _) ..
  · exact (readByte_congr (hlater.fr.mem rfl) a).trans (storeRow_readByte ha ..)

section
variable {x : MigUnit} {b row : Nat} (hmig : (s.pc q.val).mg.mig = .copy) (hunit : (s.pc q.val).mg.unit = x) (hbank : x.bank = some b)
  (hmoved : x.moved = []) (hin : (s.pc q.val).excluded = false) (hctl : s.noController (chanOf q.val) = false) (hphase : s.bist.phase < 3)
  (hmode : s.mode = .service ∨ s.mode = .retain) (hb : b < 16) (hmark : (s.pc q.val).mg.mark = 16 * row + b) (hrow : row + 1 < 16384)
include hmig hunit hbank hmoved hin hctl hphase hmode hb hmark hrow

theorem exec_rowCopy : exec (.rowCopy q) s = .next ((rowCopied q.val x b row s).updPc q.val (fun y =>
    { y with mg := { y.mg with mark := 16 * (row + 1) + b, mig := .copy } })) := by
  have hmod : (16 * row + b) % 16 = b := by omega
  have hdiv : (16 * row + b) / 16 = row := by omega
  have hnext (t : State) : t.nextMark q.val x (16 * row + b) = 16 * (row + 1) + b := by
    unfold State.nextMark
    rw [hbank]
    dsimp only
    omega
  have hskip : ¬ (x.bank.isNone && decide (s.bankEnt q.val x.rank b ≠ .own)) = true := by simp [hbank]
  change execRowCopy q s = _
  unfold execRowCopy
  dsimp only
  rw [if_pos ⟨hmig, by rw [hin]; rfl, by rw [hctl]; rfl, hphase, hmode⟩, hunit, hmark, hmod, hdiv, hmoved, if_neg hskip]
  change Outcome.next (commitUnit q.val ((rowCopied q.val x b row s).updPc q.val (fun y => { y with mg := { y.mg with
    mark := min ((rowCopied q.val x b row s).nextMark q.val x (16 * row + b)) 262144
    mig := if 262144 ≤ (rowCopied q.val x b row s).nextMark q.val x (16 * row + b) then .switch else .copy } }))) = _
  generalize rowCopied q.val x b row s = v
  rw [hnext, Nat.min_eq_left (by omega), if_neg (by omega)]
  have hcopying : ((v.updPc q.val (fun y => { y with mg := { y.mg with mark := 16 * (row + 1) + b, mig := .copy } })).pc q.val).mg.mig ≠ .switch := by
    rw [State.updPc_pc, if_pos rfl]
    exact MigState.noConfusion
  exact congrArg Outcome.next (if_pos (.inl hcopying))

theorem rowCopy_spec : ∃ t, exec (.rowCopy q) s = .next t ∧ t.ports = s.ports ∧ t.flt = s.flt ∧ (t.pc q.val).mg.mig = .copy ∧
    (t.pc q.val).mg.mark = 16 * (row + 1) + b ∧
    t.readRow (rowKey q.val x.dst b row) = copiedRow (s.readRow (rowKey q.val x.src b row)) ∧
    ∀ a, a / rowBytes ≠ rowKey q.val x.dst b row → t.readByte a = s.readByte a := by
  have hrun := exec_rowCopy hmig hunit hbank hmoved hin hctl hphase hmode hb hmark hrow
  obtain ⟨hfr, hcopied, hbytes⟩ := rowCopied_spec q.val x b row s
  generalize rowCopied q.val x b row s = v at hrun hfr hcopied hbytes
  refine ⟨_, hrun, hfr.ports rfl, hfr.flt rfl, ?_, ?_, ?_, fun a ha => ?_⟩
  · rw [State.updPc_pc, if_pos rfl]
  · rw [State.updPc_pc, if_pos rfl]
  · rw [readRow_congr ((State.updPc_fr ..).mem rfl), hcopied]
  · rw [readByte_congr ((State.updPc_fr ..).mem rfl), hbytes a ha]

end

/-- Settles O47: TSVs by `tsv_isolated`, `tsv_steered` and `tsv_excludes`; banks, ranks and layers by what moves or retires
each, while events leave the maps as they are (`reportLoss_spec`); liner slices by `linerIntoUse_spec`, rows by `rowCopy_spec`. -/
theorem repairsMoveOrRetireTheirUnit : Obligations.RepairsMoveOrRetireTheirUnit := by
  unfold Obligations.RepairsMoveOrRetireTheirUnit
  refine ⟨fun q s hiso hin => ⟨tsv_isolated hiso hin, fun x i hfree => tsv_steered hiso hin x hfree,
      fun x hfree hq => tsv_excludes hiso hin x hfree hq⟩, fun s h => repairs_wait h,
    fun q k b r rest s htodo hsup hunits howner hfew => ⟨fun l hl => bankMapOut_liner htodo hsup hunits howner hfew hl,
      fun hl => bankMapOut_retires htodo hsup hunits howner hfew hl⟩,
    fun n k readable rest s htodo hsup hcap heven hodd hfew => ?rank, fun k readable rest s htodo hsup hlive => ?layer,
    fun q read x s hmig hunit hne => ⟨linerIntoUse_waits, fun hsup hmode hfuses => linerIntoUse_spec hmig hunit hne hsup hmode hfuses⟩,
    fun q x b row s hmig hunit hbank hmoved hin hctl hphase hmode hb hmark hrow =>
      rowCopy_spec hmig hunit hbank hmoved hin hctl hphase hmode hb hmark hrow⟩
  case rank =>
    exact ⟨_, exec_rankRetirement hsup htodo, fun q r hq hr hl =>
      retireRank_retires (s := s.begun rest) readable ⟨hcap, heven⟩ ⟨hcap, hodd⟩ hfew hq hr hl⟩
  case layer =>
    refine ⟨fun hpolicy => ⟨_, exec_layerRetirement hsup htodo, retireLayer_retires (s := s.begun rest) readable hlive hpolicy⟩,
      fun hpolicy hcounts hcls hmode hcause => ⟨_, exec_layerRetirement hsup htodo,
        retireLayer_refused (s := s.begun rest) readable hlive hpolicy hcounts hcls hmode hcause⟩⟩

end Sys2Proof.Machine
end

section
/-! SUPPORT. Refreshes issued, paused and completed, base intervals in self-refresh, array sets (R281, R307, R313, R317, R319, R329; O45). -/

namespace Sys2Proof.Machine

open Host

variable {s t u : State} {q : PcId} {k : LayerId} {b : BankId}

/-! ## A REFPB issued (R281, R319, R325) -/

/-- The neighbour refreshes owed and the schedule allow a REFPB of the kind. -/
def State.refreshFits (s : State) (q k b row : Nat) (kind : RefKind) : Bool :=
  let owed := (s.pc q).rf.rfmDue.find? (fun e => decide (e.1 = bankKey k b))
  match kind with
  | .normal => owed.isNone && ((s.slice q k).selfRefresh || s.earliestDue q k b row)
  | _ => decide (owed = some (bankKey k b, row, kind))

/-- A REFPB is protected (R282). -/
def State.protects (s : State) (q k b row : Nat) (kind : RefKind) : Bool :=
  decide (kind ≠ .normal) || decide (2 ≤ tabGet 0 (s.pc q).rf.pauses (pcRowKey k b row))

/-- The REFPB as it runs. -/
def State.runOf (s : State) (q k b row : Nat) (kind : RefKind) : RefRun :=
  { row := row, kind := kind, protect := s.protects q k b row kind, start := s.refreshStart q k b }

/-- The pseudo-channel whose engine has started a REFPB. -/
def Pc.refreshing (key row : Nat) (kind : RefKind) (r : RefRun) (x : Pc) : Pc :=
  { x with
    rf := { x.rf with
      refRun := tabPut x.rf.refRun key r
      rfmDue := if kind = .normal then x.rf.rfmDue else dropFirst (fun e => decide (e = (key, row, kind))) x.rf.rfmDue }
    openRows := tabErase x.openRows key
    rows := x.rows ++ [(r.start, none)]
    latches := tabSet [] x.latches key (none :: (tabGet [] x.latches key).take 1) }

section
variable {row : RowId} {kind : RefKind} (href : s.refreshes q.val k.val = true) (hbank : s.bankRefreshed q.val k.val b.val = true)
  (hidle : ∀ e ∈ (s.pc q.val).rf.refRun, e.1 ≠ bankKey k.val b.val)
include href hbank hidle

theorem exec_refreshIssue (hfits : s.refreshFits q.val k.val b.val row.val kind = true) : exec (.refreshIssue q k b row kind) s = .next (
    let v := ((s.atLeast (s.refreshStart q.val k.val b.val)).updPc q.val
      (Pc.refreshing (bankKey k.val b.val) row.val kind (s.runOf q.val k.val b.val row.val kind))).updSlice q.val k.val
        (fun x => { x with powerDown := false, lastCmd := s.refreshStart q.val k.val b.val })
    if s.protects q.val k.val b.val row.val kind then v.updChan (chanOf q.val) (fun c => { c with protected_ := satInc c.protected_ }) else v) := by
  have hrun : (s.pc q.val).rf.refRun.all (fun e => decide (e.1 ≠ bankKey k.val b.val)) = true :=
    List.all_eq_true.mpr fun e he => decide_eq_true (hidle e he)
  change execRefreshIssue q k b row kind s = _
  unfold execRefreshIssue
  exact if_pos ⟨href, hbank, hrun, hfits⟩

theorem refreshIssue_spec (hfits : s.refreshFits q.val k.val b.val row.val kind = true) :
    ∃ t r, exec (.refreshIssue q k b row kind) s = .next t ∧ t.now = max s.now (s.refreshStart q.val k.val b.val) ∧ t.mem = s.mem ∧
      t.ports = s.ports ∧ t.flt = s.flt ∧ (t.pc q.val).rf.refRun.find? (fun e => decide (e.1 = bankKey k.val b.val)) = some (bankKey k.val b.val, r) ∧
      r.row = row.val ∧ r.kind = kind ∧ r.start = s.refreshStart q.val k.val b.val ∧
      (r.protect = true ↔ kind ≠ .normal ∨ 2 ≤ tabGet 0 (s.pc q.val).rf.pauses (pcRowKey k.val b.val row.val)) ∧
      (t.chan (chanOf q.val)).protected_ = (if r.protect then satInc (s.chan (chanOf q.val)).protected_
        else (s.chan (chanOf q.val)).protected_) ∧
      (kind ≠ .normal → (t.pc q.val).rf.rfmDue = dropFirst (fun e => decide (e = (bankKey k.val b.val, row.val, kind))) (s.pc q.val).rf.rfmDue) := by
  have hrun := exec_refreshIssue href hbank hidle hfits
  dsimp only at hrun
  have hpc : (((s.atLeast (s.refreshStart q.val k.val b.val)).updPc q.val
      (Pc.refreshing (bankKey k.val b.val) row.val kind (s.runOf q.val k.val b.val row.val kind))).updSlice q.val k.val
        (fun x => { x with powerDown := false, lastCmd := s.refreshStart q.val k.val b.val })).pc q.val =
      (s.pc q.val).refreshing (bankKey k.val b.val) row.val kind (s.runOf q.val k.val b.val row.val kind) := by
    rw [State.updSlice_pc, State.updPc_pc, if_pos rfl, State.atLeast_pc]
  have hfr : Fr 50331648 (s.atLeast (s.refreshStart q.val k.val b.val)) (((s.atLeast (s.refreshStart q.val k.val b.val)).updPc q.val
      (Pc.refreshing (bankKey k.val b.val) row.val kind (s.runOf q.val k.val b.val row.val kind))).updSlice q.val k.val
        (fun x => { x with powerDown := false, lastCmd := s.refreshStart q.val k.val b.val })) :=
    ((State.updPc_fr ..).or (State.updSlice_fr ..)).mono rfl
  generalize ((s.atLeast (s.refreshStart q.val k.val b.val)).updPc q.val _).updSlice q.val k.val _ = v at hrun hpc hfr
  have hcount : Fr 8388608 v (if s.protects q.val k.val b.val row.val kind then
      v.updChan (chanOf q.val) (fun c => { c with protected_ := satInc c.protected_ }) else v) := Fr.iteT (State.updChan_fr ..) (.refl ..)
  have hchan : ((if s.protects q.val k.val b.val row.val kind then
      v.updChan (chanOf q.val) (fun c => { c with protected_ := satInc c.protected_ }) else v).chan (chanOf q.val)).protected_ =
      (if s.protects q.val k.val b.val row.val kind then satInc (s.chan (chanOf q.val)).protected_ else (s.chan (chanOf q.val)).protected_) := by
    have hsame : v.chan (chanOf q.val) = s.chan (chanOf q.val) := hfr.chan rfl _
    split
    · rw [State.updChan_chan, if_pos rfl, hsame]
    · rw [hsame]
  generalize (if s.protects q.val k.val b.val row.val kind then
    v.updChan (chanOf q.val) (fun c => { c with protected_ := satInc c.protected_ }) else v) = t at hrun hcount hchan
  have hall := hfr.or hcount
  have hnone : (s.pc q.val).rf.refRun.find? (fun e => decide (e.1 = bankKey k.val b.val)) = none :=
    List.find?_eq_none.mpr fun e he => by simp [hidle e he]
  refine ⟨t, s.runOf q.val k.val b.val row.val kind, hrun, hall.now rfl, hall.mem rfl, hall.ports rfl, hall.flt rfl, ?_, rfl, rfl, rfl, ?_, hchan,
    fun hk => ?_⟩
  · rw [hcount.pc rfl, hpc]
    exact tabPut_find hnone _
  · simp [State.runOf, State.protects]
  · rw [hcount.pc rfl, hpc, Pc.refreshing, if_neg hk]

end

theorem refreshIssue_none {row : RowId} {kind : RefKind} (h : s.refreshes q.val k.val = false) : exec (.refreshIssue q k b row kind) s = .next s := by
  change execRefreshIssue q k b row kind s = _
  unfold execRefreshIssue
  exact if_neg fun hc => Bool.false_ne_true (h.symm.trans hc.1)

theorem refreshFits_of {row : RowId} {kind : RefKind}
    (h : (kind = .normal ∧ (∀ e ∈ (s.pc q.val).rf.rfmDue, e.1 ≠ bankKey k.val b.val) ∧
        ((s.slice q.val k.val).selfRefresh = true ∨ s.earliestDue q.val k.val b.val row.val = true)) ∨
      (kind ≠ .normal ∧ (s.pc q.val).rf.rfmDue.find? (fun e => decide (e.1 = bankKey k.val b.val)) = some (bankKey k.val b.val, row.val, kind))) :
    s.refreshFits q.val k.val b.val row.val kind = true := by
  rcases h with ⟨rfl, hnone, hdue⟩ | ⟨hk, howed⟩
  · have hfree : (s.pc q.val).rf.rfmDue.find? (fun e => decide (e.1 = bankKey k.val b.val)) = none :=
      List.find?_eq_none.mpr fun e he => by simp [hnone e he]
    unfold State.refreshFits
    dsimp only
    rw [hfree]
    simpa using hdue
  · unfold State.refreshFits
    dsimp only
    rw [howed]
    cases kind
    · exact absurd rfl hk
    all_goals exact decide_eq_true rfl

/-! ## What a posted entry leaves of its slice -/

theorem Slice.post_keeps (x : Slice) (e : HatEntry) : ∃ h d p, (x.post e).1 = { x with hatbox := h, hatDropped := d, hatPending := p } := by
  unfold Slice.post
  split
  · exact ⟨_, _, _, rfl⟩
  · split
    · dsimp only
      split <;> exact ⟨_, _, _, rfl⟩
    · exact ⟨_, _, _, rfl⟩

theorem Slice.post_room {x : Slice} (h : x.hatbox.length < 16) (e : HatEntry) : (x.post e).1.hatbox = x.hatbox ++ [{ e with ovf := x.hatDropped }] := by
  rw [Slice.post, if_pos h]

theorem postHat_slice (q k : Nat) (e : HatEntry) (s : State) : (postHat q k e s).slice q k = ((s.slice q k).post e).1 := by
  have hslice : (postHat q k e s).slice q k = (s.updSlice q k (fun _ => ((s.slice q k).post e).1)).slice q k := by
    unfold postHat
    dsimp only
    split <;> rfl
  rw [hslice, State.updSlice_slice, if_pos rfl]

/-- The due time of a row hangs on the row's last refresh and on its slice, not on the hatbox. -/
theorem rowDue_congr {q k : Nat} (hdone : (t.pc q).rf.refDone = (s.pc q).rf.refDone)
    (hslice : ∃ h d p, t.slice q k = { s.slice q k with hatbox := h, hatDropped := d, hatPending := p }) (b row : Nat) :
    t.rowDue q k b row = s.rowDue q k b row := by
  obtain ⟨h, d, p, hslice⟩ := hslice
  have hbin : t.rowBin q k b row = s.rowBin q k b row := by
    simp only [State.rowBin, State.spareAt, hslice]
    rfl
  unfold State.rowDue
  rw [hdone, hbin, hslice]

theorem setCells_congr (h : t.mem = s.mem) (key : Nat) (l : List CellChange) : (t.setCells key l).mem = (s.setCells key l).mem := by
  induction l generalizing s t with
  | nil => exact h
  | cons c l ih =>
    refine ih (s := s.setCell key c) (t := t.setCell key c) ?_
    unfold State.setCell
    dsimp only
    rw [readByte_congr h]
    exact congrArg (fun m => tabSet _ m _ _) h

/-! ## A REFPB completed (R281, R307, R319) -/

/-- The entry that a finding of the refresh check posts. -/
def findingEntry (b row : Nat) (f : RowFinding) : HatEntry :=
  { kind := BitVec.ofNat 3 f.kind, bank := b, row := row, block := f.block, count := f.count, ret := f.ret }

/-- The refresh check of a row: channels, slices and memory alone; the slice but for its hatbox; the finding posted, its cuff word repaired. -/
theorem refreshCheck_spec (q k b row : Nat) (s : State) : Fr 310378496 s (refreshCheck q k b row s) ∧
    (∃ h d p, (refreshCheck q k b row s).slice q k = { s.slice q k with hatbox := h, hatDropped := d, hatPending := p }) ∧
    ((s.readRow (rowKey q k b row)).check = none → (refreshCheck q k b row s).mem = s.mem) ∧
    ∀ f, (s.readRow (rowKey q k b row)).check = some f →
      ((s.slice q k).hatbox.length < 16 → ((refreshCheck q k b row s).slice q k).hatbox =
        (s.slice q k).hatbox ++ [{ findingEntry b row f with ovf := (s.slice q k).hatDropped }]) ∧
      (f.kind = 3 → ((refreshCheck q k b row s).readRow (rowKey q k b row)).cuff = f.cuff) ∧
      (f.kind ≠ 3 → (refreshCheck q k b row s).mem = s.mem) := by
  refine ⟨refreshCheck_fr .., ?_⟩
  unfold refreshCheck
  dsimp only
  cases hcheck : (s.readRow (rowKey q k b row)).check with
  | none => exact ⟨⟨_, _, _, rfl⟩, fun _ => rfl, fun f hf => nomatch hf⟩
  | some f =>
    dsimp only
    have hcuff : Fr 268435456 s (if f.kind = 3 then s.storeCuff (rowKey q k b row) f.cuff else s) := Fr.iteT (State.storeCuff_fr ..) (.refl ..)
    have hrepaired (h : f.kind = 3) : ((if f.kind = 3 then s.storeCuff (rowKey q k b row) f.cuff else s).readRow (rowKey q k b row)).cuff = f.cuff := by
      rw [if_pos h]
      exact storeCuff_cuff ..
    have hsame (h : f.kind ≠ 3) : (if f.kind = 3 then s.storeCuff (rowKey q k b row) f.cuff else s).mem = s.mem := by rw [if_neg h]
    generalize (if f.kind = 3 then s.storeCuff (rowKey q k b row) f.cuff else s) = v at hcuff hrepaired hsame
    have hpost := postHat_slice q k (findingEntry b row f) v
    have hmem : (postHat q k (findingEntry b row f) v).mem = v.mem := (postHat_fr ..).mem rfl
    rw [hcuff.slice rfl] at hpost
    change (∃ h d p, (postHat q k (findingEntry b row f) v).slice q k = _) ∧ _
    refine ⟨?_, fun h => (nomatch h), fun g hg => ?_⟩
    · rw [hpost]
      exact Slice.post_keeps ..
    · obtain rfl := Option.some.inj hg
      refine ⟨fun hroom => ?_, fun h3 => ?_, fun h3 => hmem.trans (hsame h3)⟩
      · exact (congrArg Slice.hatbox hpost).trans (Slice.post_room hroom _)
      · exact (congrArg Row.cuff (readRow_congr hmem _)).trans (hrepaired h3)

/-- A REFPB of the schedule in time: the row's next due time; the channel's slack. -/
theorem refreshed_onTime {q k b row : Nat} (hself : (s.slice q k).selfRefresh = false) (hdue : s.now ≤ s.rowDue q k b row) :
    ∃ t c, refreshed q k b row s = t ∧ Fr 58720256 s t ∧ t.slice q k = { s.slice q k with catchUp := c } ∧
      (t.pc q).rf = { (s.pc q).rf with
        refDone := tabSet 0 (s.pc q).rf.refDone (pcRowKey k b row) (4 * s.now + (s.layer k).base)
        pauses := tabErase (s.pc q).rf.pauses (pcRowKey k b row) } := by
  unfold refreshed
  extract_lets n due late noted caught
  have hlate : late = false := decide_eq_false (Nat.not_lt.mpr hdue)
  have hnoted : Fr 16777216 s noted := State.updPc_fr ..
  have hcaught : ∃ c, Fr 33554432 noted caught ∧ caught.slice q k = { s.slice q k with catchUp := c } := by
    unfold caught
    split
    · refine ⟨false, State.updSlice_fr .., ?_⟩
      rw [State.updSlice_slice, if_pos rfl, hnoted.slice rfl]
    · exact ⟨_, Fr.refl .., hnoted.slice rfl q k⟩
  obtain ⟨c, hfr, hslice⟩ := hcaught
  have hselfAfter : ¬ (caught.slice q k).selfRefresh = true := by
    rw [hslice]
    simp [hself]
  rw [if_neg hselfAfter, hlate]
  simp only [Bool.false_eq_true, if_false]
  refine ⟨_, c, rfl, ((hnoted.or hfr).or (State.updChan_fr ..)).mono rfl, ?_, ?_⟩
  · rw [State.updChan_slice, hslice]
  · rw [State.updChan_pc, hfr.pc rfl, State.updPc_pc, if_pos rfl]

/-- The state in which a whole REFPB is checked. -/
def State.refreshEnds (s : State) (q key : Nat) (r : RefRun) : State :=
  (s.atLeast (r.start + 44)).updPc q (fun x => { x with rf.refRun := tabErase x.rf.refRun key })

/-- A checked REFPB outside self-refresh, counted. -/
def refreshCounted (q k : Nat) (s : State) : State := chanEvent q 0x44 1 (addWork q k .refpb 1 s)

section
variable {l : List CellChange} {r : RefRun} {n : Nat}

theorem exec_refreshComplete (hfind : (s.pc q.val).rf.refRun.find? (fun e => decide (e.1 = bankKey k.val b.val)) = some (n, r))
    (hkind : r.kind = .normal) (hself : (s.slice q.val k.val).selfRefresh = false)
    (hahead : r.protect = true ∨ s.gAhead q.val k.val b.val (fun t => decide (t < r.start + 44)) = false) :
    exec (.refreshComplete q k b l) s = .next (refreshed q.val k.val b.val r.row (refreshCounted q.val k.val (refreshCheck q.val k.val b.val r.row
      ((s.refreshEnds q.val (bankKey k.val b.val) r).setCells (rowKey q.val k.val b.val r.row) l)))) := by
  have hgo : ¬ (!r.protect ∧ s.gAhead q.val k.val b.val (fun t => decide (t < r.start + 44)) = true) := by
    rintro ⟨hp, hg⟩
    rcases hahead with h | h
    · rw [h] at hp
      exact absurd hp (by decide)
    · exact Bool.false_ne_true (h.symm.trans hg)
  obtain ⟨-, ⟨h, d, p, hslice⟩, -⟩ := refreshCheck_spec q.val k.val b.val r.row
    ((s.refreshEnds q.val (bankKey k.val b.val) r).setCells (rowKey q.val k.val b.val r.row) l)
  have hcells : Fr 285212674 s ((s.refreshEnds q.val (bankKey k.val b.val) r).setCells (rowKey q.val k.val b.val r.row) l) :=
    (((State.atLeast_fr ..).or (State.updPc_fr ..)).or (State.setCells_fr ..)).mono rfl
  have hselfAfter : ¬ ((refreshCheck q.val k.val b.val r.row ((s.refreshEnds q.val (bankKey k.val b.val) r).setCells
      (rowKey q.val k.val b.val r.row) l)).slice q.val k.val).selfRefresh = true := by
    rw [hslice, hcells.slice rfl]
    simp [hself]
  change execRefreshComplete q k b l s = _
  unfold execRefreshComplete
  dsimp only
  rw [hfind]
  dsimp only
  rw [if_neg hgo, hkind]
  dsimp only
  rw [if_pos (rfl : RefKind.normal = .normal), if_neg (show ¬ RefKind.normal = .upper by decide)]
  exact congrArg (fun v => Outcome.next (refreshed q.val k.val b.val r.row v)) (if_neg hselfAfter)

theorem refreshComplete_spec {key u : Nat} (hfind : (s.pc q.val).rf.refRun.find? (fun e => decide (e.1 = bankKey k.val b.val)) = some (n, r))
    (hkind : r.kind = .normal) (hself : (s.slice q.val k.val).selfRefresh = false) (hkey : key = rowKey q.val k.val b.val r.row)
    (hu : u = max s.now (r.start + 44)) (hdue : u ≤ s.rowDue q.val k.val b.val r.row)
    (hahead : r.protect = true ∨ s.gAhead q.val k.val b.val (fun t => decide (t < r.start + 44)) = false) :
    ∃ t, exec (.refreshComplete q k b l) s = .next t ∧ t.now = u ∧ t.ports = s.ports ∧ t.flt = s.flt ∧
      tabGet 0 (t.pc q.val).rf.refDone (pcRowKey k.val b.val r.row) = 4 * u + (s.layer k.val).base ∧
      tabGet 0 (t.pc q.val).rf.pauses (pcRowKey k.val b.val r.row) = 0 ∧
      (t.pc q.val).rf.actCount = (s.pc q.val).rf.actCount ∧
      (((s.setCells key l).readRow key).check = none → t.mem = (s.setCells key l).mem) ∧
      (∀ f, ((s.setCells key l).readRow key).check = some f → (s.slice q.val k.val).hatbox.length < 16 →
        (∃ h, (t.slice q.val k.val).hatbox = (s.slice q.val k.val).hatbox ++ [h] ∧ h.kind = BitVec.ofNat 3 f.kind ∧ h.src = false ∧
          h.bank = b.val ∧ h.row = r.row ∧ h.block = f.block ∧ h.count = f.count ∧ h.ret = f.ret) ∧
        (f.kind = 3 → (t.readRow key).cuff = f.cuff) ∧ (f.kind ≠ 3 → t.mem = (s.setCells key l).mem)) := by
  have hrun := exec_refreshComplete (l := l) hfind hkind hself hahead
  have hends : Fr 16777218 s (s.refreshEnds q.val (bankKey k.val b.val) r) := ((State.atLeast_fr ..).or (State.updPc_fr ..)).mono rfl
  have hnow : (s.refreshEnds q.val (bankKey k.val b.val) r).now = u := hu.symm
  have hrf : ((s.refreshEnds q.val (bankKey k.val b.val) r).pc q.val).rf =
      { (s.pc q.val).rf with refRun := tabErase (s.pc q.val).rf.refRun (bankKey k.val b.val) } := by
    unfold State.refreshEnds
    rw [State.updPc_pc, if_pos rfl, State.atLeast_pc]
  rw [← hkey] at hrun
  have hcells : Fr 268435456 _ ((s.refreshEnds q.val (bankKey k.val b.val) r).setCells key l) := State.setCells_fr ..
  have hmem : ((s.refreshEnds q.val (bankKey k.val b.val) r).setCells key l).mem = (s.setCells key l).mem := setCells_congr (hends.mem rfl) key l
  generalize (s.refreshEnds q.val (bankKey k.val b.val) r).setCells key l = v at hrun hcells hmem
  have hbefore := hends.or hcells
  obtain ⟨hcheckFr, hslice, hclean, hfound⟩ := refreshCheck_spec q.val k.val b.val r.row v
  rw [← hkey, readRow_congr hmem] at hclean hfound
  generalize refreshCheck q.val k.val b.val r.row v = w at hrun hcheckFr hslice hclean hfound
  have hcounted : Fr 134219776 w (refreshCounted q.val k.val w) := ((addWork_fr ..).or (chanEvent_fr ..)).mono rfl
  generalize refreshCounted q.val k.val w = y at hrun hcounted
  have hlater := hcheckFr.or hcounted
  rw [hbefore.slice rfl] at hslice hfound
  rw [← hcounted.slice rfl] at hslice
  have hrfAfter : (y.pc q.val).rf = { (s.pc q.val).rf with refRun := tabErase (s.pc q.val).rf.refRun (bankKey k.val b.val) } := by
    rw [hlater.pc rfl, hcells.pc rfl, hrf]
  have hnowAfter : y.now = u := by rw [hlater.now rfl, hcells.now rfl, hnow]
  have hselfAfter : (y.slice q.val k.val).selfRefresh = false := by
    obtain ⟨h, d, p, hs⟩ := hslice
    rw [hs]
    exact hself
  have hdueAfter : y.now ≤ y.rowDue q.val k.val b.val r.row := by
    rw [hnowAfter, rowDue_congr (s := s) (by rw [hrfAfter]) hslice]
    exact hdue
  obtain ⟨t, c, ht, hfr, hslice', hrf'⟩ := refreshed_onTime hselfAfter hdueAfter
  rw [ht] at hrun
  have hall := hlater.or hfr
  have hstart := hbefore.or hall
  have hbase : y.layer k.val = s.layer k.val := by rw [State.layer, (hbefore.or hlater).layers rfl, State.layer]
  have hmemAfter : t.mem = w.mem := (hcounted.or hfr).mem rfl
  refine ⟨t, hrun, (hfr.now rfl).trans hnowAfter, hstart.ports rfl, hstart.flt rfl, ?_, ?_, ?_, fun hc => ?_, fun f hf hroom => ?_⟩
  · rw [hrf', hnowAfter, hbase]
    exact (tabGet_tabSet ..).trans (if_pos rfl)
  · rw [hrf']
    exact tabGet_tabErase_self ..
  · rw [hrf', hrfAfter]
  · rw [hmemAfter, hclean hc, hmem]
  · obtain ⟨hposted, hcuff, hother⟩ := hfound f hf
    refine ⟨⟨{ findingEntry b.val r.row f with ovf := (s.slice q.val k.val).hatDropped }, ?_, rfl, rfl, rfl, rfl, rfl, rfl, rfl⟩, fun h3 => ?_, fun h3 => ?_⟩
    · rw [hslice']
      dsimp only
      rw [hcounted.slice rfl, hposted hroom]
    · rw [readRow_congr hmemAfter]
      exact hcuff h3
    · rw [hmemAfter, hother h3, hmem]

end

/-! ## A REFPB paused (R281) -/

theorem pauseRefresh_rf {r : RefRun} {n : Nat} (hfind : (s.pc q.val).rf.refRun.find? (fun e => decide (e.1 = bankKey k.val b.val)) = some (n, r))
    (hp : r.protect = false) : ((pauseRefresh q.val k.val b.val s).pc q.val).rf = { (s.pc q.val).rf with
      refRun := tabErase (s.pc q.val).rf.refRun (bankKey k.val b.val)
      pauses := tabSet 0 (s.pc q.val).rf.pauses (pcRowKey k.val b.val r.row) (tabGet 0 (s.pc q.val).rf.pauses (pcRowKey k.val b.val r.row) + 1) } := by
  unfold pauseRefresh
  dsimp only
  rw [hfind]
  dsimp only
  rw [hp, if_neg Bool.false_ne_true]
  unfold bankBusy
  dsimp only
  rw [State.updPc_pc, if_pos rfl, chanEvent_pc, State.updChan_pc, State.updPc_pc, if_pos rfl]

theorem refreshComplete_paused {l : List CellChange} {r : RefRun} {n : Nat}
    (hfind : (s.pc q.val).rf.refRun.find? (fun e => decide (e.1 = bankKey k.val b.val)) = some (n, r)) (hp : r.protect = false)
    (hahead : s.gAhead q.val k.val b.val (fun t => decide (t < r.start + 44)) = true) :
    ∃ t, exec (.refreshComplete q k b l) s = .next t ∧ t.mem = s.mem ∧ t.flt = s.flt ∧
      (t.pc q.val).rf.refRun = tabErase (s.pc q.val).rf.refRun (bankKey k.val b.val) ∧
      (t.pc q.val).rf.refDone = (s.pc q.val).rf.refDone ∧
      tabGet 0 (t.pc q.val).rf.pauses (pcRowKey k.val b.val r.row) = tabGet 0 (s.pc q.val).rf.pauses (pcRowKey k.val b.val r.row) + 1 := by
  have hrun : exec (.refreshComplete q k b l) s = .next (pauseRefresh q.val k.val b.val s) := by
    change execRefreshComplete q k b l s = _
    unfold execRefreshComplete
    dsimp only
    rw [hfind]
    exact if_pos ⟨by rw [hp]; rfl, hahead⟩
  have hrf := pauseRefresh_rf hfind hp
  have hfr := pauseRefresh_fr q.val k.val b.val s
  refine ⟨_, hrun, hfr.mem rfl, hfr.flt rfl, ?_, ?_, ?_⟩ <;> rw [hrf]
  rw [tabGet_tabSet, if_pos rfl]

/-! ## Base intervals (R317, R329) -/

theorem setBase_spec (k code : Nat) (s : State) : Fr 117440512 s (setBase k code s) ∧
    ((setBase k code s).layer k).base = code ∧ ((setBase k code s).layer k).band = (s.layer k).band := by
  refine ⟨setBase_fr .., ?_⟩
  unfold setBase
  extract_lets shorter v
  have hv : (v.layer k).base = code ∧ (v.layer k).band = (s.layer k).band := by
    unfold v
    rw [State.updLayer_layer, if_pos rfl]
    exact ⟨rfl, rfl⟩
  clear_value v
  split
  · have hloop : Fr 50331648 v (forN 32 (fun q s =>
        if (s.slice q k).inUse then
          let s := s.updPc q (fun x => { x with rf.refDone := x.rf.refDone.map (fun e =>
            if e.1 / 262144 = k then (e.1, e.2 / 4 * 4 + max (e.2 % 4) code) else e) })
          markCatchUp q k (s.updSlice q k (fun x => { x with firstBase := max x.firstBase code }))
        else s) v) :=
      Fr.forN (fun q t => Fr.iteT (Fr.step (markCatchUp_fr ..) (by decide) (Fr.step (State.updSlice_fr ..) (by decide)
        (Fr.step (State.updPc_fr ..) (by decide) (.refl ..)))) (.refl ..)) 32 (.refl ..)
    rw [State.layer, hloop.layers rfl]
    exact hv
  · exact hv

theorem selfRefresh_spec {a c : Temp} (hsusp : ((s.layer k.val).suspectA = true ∧ (s.layer k.val).suspectB = true) ∨
      ((s.layer k.val).suspectA = false ∧ (s.layer k.val).suspectB = false)) (hself : ∃ q, q < 32 ∧ (s.slice q k.val).selfRefresh = true) :
    ∃ t, exec (.selfRefreshSensorRead k (some a) (some c)) s = .next t ∧ t.mem = s.mem ∧ t.ports = s.ports ∧ t.now = s.now ∧
      (t.layer k.val).base = (if (s.layer k.val).suspectA then 3 else nextBase (s.layer k.val).base (max a.val c.val)) ∧
      (s.layer k.val).band ≤ (t.layer k.val).band ∧ (t.layer k.val).base ≤ (t.layer k.val).band := by
  have hany : (List.range 32).any (fun q => (s.slice q k.val).selfRefresh) = true := by
    obtain ⟨q, hq, h⟩ := hself
    exact List.any_eq_true.mpr ⟨q, List.mem_range.mpr hq, h⟩
  obtain ⟨code, hcode, hrun⟩ : ∃ code, code = (if (s.layer k.val).suspectA then 3 else nextBase (s.layer k.val).base (max a.val c.val)) ∧
      exec (.selfRefreshSensorRead k (some a) (some c)) s =
        .next ((setBase k.val code s).updLayer k.val (fun y => { y with band := max y.band code })) := by
    refine ⟨_, rfl, ?_⟩
    change execSelfRefreshSensorRead k (some a) (some c) s = _
    unfold execSelfRefreshSensorRead
    rw [if_pos hany]
    dsimp only
    rcases hsusp with ⟨ha, hb⟩ | ⟨ha, hb⟩ <;> rw [ha, hb] <;> rfl
  obtain ⟨hfr, hbase, hband⟩ := setBase_spec k.val code s
  have hlayer : ((setBase k.val code s).updLayer k.val (fun y => { y with band := max y.band code })).layer k.val =
      { (setBase k.val code s).layer k.val with band := max ((setBase k.val code s).layer k.val).band code } :=
    (State.updLayer_layer ..).trans (if_pos rfl)
  refine ⟨_, hrun, hfr.mem rfl, hfr.ports rfl, hfr.now rfl, ?_, ?_, ?_⟩ <;> rw [hlayer]
  · exact hbase.trans hcode
  · exact hband.ge.trans (le_max_left ..)
  · exact hbase.le.trans (le_max_right ..)

/-! ## Array sets done (R313) -/

/-- A layer whose array set runs. -/
def State.setting (s : State) (k : Nat) : Bool := (List.range 32).any (fun q => (s.slice q k).arraySet)

/-- The layers whose array sets are complete. -/
def State.doneGroup (s : State) : List Nat := ((List.range 18).filter s.setting).take 4

theorem tabGet_mapValues {α : Type} (d : α) (f : Nat → α → α) (l : List (Nat × α)) (i : Nat) :
    tabGet d (l.map (fun e => (e.1, f e.1 e.2))) i = if (l.any (fun e => decide (e.1 = i))) then f i (tabGet d l i) else d := by
  induction l with
  | nil => rfl
  | cons e l ih =>
    rw [List.map_cons, tabGet, tabGet, List.any_cons]
    by_cases h : e.1 = i
    · rw [if_pos h, if_pos h, decide_eq_true h, Bool.true_or, if_pos rfl, h]
    · rw [if_neg h, if_neg h, decide_eq_false h, Bool.false_or, ih]

theorem tabGet_absent {α : Type} (d : α) {l : List (Nat × α)} {i : Nat} (h : l.any (fun e => decide (e.1 = i)) = false) : tabGet d l i = d := by
  induction l with
  | nil => rfl
  | cons e l ih =>
    rw [List.any_cons, Bool.or_eq_false_iff] at h
    rw [tabGet, if_neg (of_decide_eq_false h.1), ih h.2]

/-- A slice whose layer is done has no array set left. -/
def setDone (group : List Nat) (i : Nat) (x : Slice) : Slice := if group.contains (i % 18) then { x with arraySet := false } else x

theorem arraySetDone_slice (q k : Nat) (s : State) :
    tabGet {} (s.slices.map (fun e => (e.1, setDone s.doneGroup e.1 e.2))) (q * 18 + k) = setDone s.doneGroup (q * 18 + k) (s.slice q k) := by
  rw [tabGet_mapValues {} (setDone s.doneGroup)]
  split
  · rfl
  · next h =>
    rw [State.slice, tabGet_absent {} (Bool.eq_false_of_not_eq_true h), setDone]
    split <;> rfl

/-- The lowest layer with an array set is in the group. -/
theorem lowest_in_group {j : Nat} (hj : j < 18) (hset : s.setting j = true) (hlow : ∀ i, i < j → s.setting i = false) : j ∈ s.doneGroup := by
  have hhead : ((List.range 18).filter s.setting).head? = some j := by
    rw [List.head?_filter, List.find?_range_eq_some]
    exact ⟨hset, List.mem_range.mpr hj, fun i hi => by rw [hlow i hi]; rfl⟩
  unfold State.doneGroup
  cases hl : (List.range 18).filter s.setting with
  | nil => rw [hl] at hhead; exact absurd hhead (by simp)
  | cons i l =>
    rw [hl] at hhead
    obtain rfl := Option.some.inj hhead
    exact List.mem_cons_self ..

theorem arraySetDone_spec (s : State) : ∃ t, exec .arraySetDone s = .next t ∧ t.mem = s.mem ∧ t.ports = s.ports ∧
    (∀ q k, ∃ a, t.slice q k = { s.slice q k with arraySet := a }) ∧
    ∀ k, k < 18 → (∀ j q, j < k → q < 32 → (s.slice q j).arraySet = false) → ∀ q, q < 32 → (t.slice q k).arraySet = false := by
  refine ⟨{ s with slices := s.slices.map (fun e => (e.1, setDone s.doneGroup e.1 e.2)) }, rfl, rfl, rfl, fun q k => ?_, fun k hk hlow q hq => ?_⟩
  · rw [State.slice]
    dsimp only
    rw [arraySetDone_slice, setDone]
    split
    · exact ⟨false, rfl⟩
    · exact ⟨_, rfl⟩
  · rw [State.slice]
    dsimp only
    rw [arraySetDone_slice, setDone]
    split
    · rfl
    · next hout =>
      refine Bool.eq_false_of_not_eq_true fun hset => hout ?_
      have hlayer : (q * 18 + k) % 18 = k := by omega
      rw [hlayer]
      refine List.contains_iff_mem.mpr (lowest_in_group hk (List.any_eq_true.mpr ⟨q, List.mem_range.mpr hq, hset⟩) fun i hi => ?_)
      exact List.any_eq_false.mpr fun j hj => by rw [hlow i j hi (List.mem_range.mp hj)]; decide

/-- Settles O45: a REFPB issued, completed in time or paused; the base interval of a layer in self-refresh; array sets done. -/
theorem refreshesKeepTheirSchedule : Obligations.RefreshesKeepTheirSchedule := by
  unfold Obligations.RefreshesKeepTheirSchedule
  refine ⟨?issue, fun q k b row kind s h => refreshIssue_none h, ?complete, ?paused, fun k a c s hsusp hself => selfRefresh_spec hsusp hself,
    arraySetDone_spec⟩
  case issue =>
    rintro q k b row kind key s rfl href hbank hidle hfits
    exact refreshIssue_spec href hbank hidle (refreshFits_of hfits)
  case complete =>
    rintro q k b l ⟨n, r⟩ key u s hfind hkind hself hkey hu hdue hahead
    exact refreshComplete_spec hfind hkind hself hkey hu hdue hahead
  case paused =>
    rintro q k b l ⟨n, r⟩ s hfind hp hahead
    exact refreshComplete_paused hfind hp hahead

end Sys2Proof.Machine
end

section
/-! SUPPORT. What the work of a channel controller leaves of its pseudo-channel (R249, R268, R270, R274, R275, R279; O44). -/

namespace Sys2Proof.Machine

open Host

variable {s t u v : State} {q k : Nat}

/-! ## Cells of a row that the physics changed -/

theorem cellGroup_lt {g : Nat} (h : g < 152) (h16 : (cellGroup g).1 ≠ 16) : (cellGroup g).1 < 16 := by
  unfold cellGroup at h16 ⊢
  split_ifs at h16 ⊢ <;> dsimp only at h16 ⊢ <;> omega

theorem cellAddr_row (key : Nat) (c : Fin 9728) : (cellAddr key c.val).1 / rowBytes = key := by
  have hg : c.val / 64 < 152 := by omega
  have hlt := cellGroup_lt hg
  unfold cellAddr
  simp only [rowBytes]
  split_ifs with h16 h8
  · dsimp only
    omega
  · have := hlt h16
    dsimp only
    omega
  · have := hlt h16
    dsimp only
    omega

theorem setCells_readByte {a key : Nat} (h : a / rowBytes ≠ key) (l : List CellChange) (s : State) :
    (s.setCells key l).readByte a = s.readByte a := by
  induction l generalizing s with
  | nil => rfl
  | cons c l ih =>
    refine (ih (s.setCell key c)).trans (State.readByte_writeByte_other ?_ _ s)
    rintro rfl
    exact h (cellAddr_row key c.cell)

theorem layerAt_congr (hrep : t.rep = s.rep) (hmg : (t.pc q).mg = (s.pc q).mg) (r b row : Nat) : t.layerAt q r b row = s.layerAt q r b row := by
  unfold State.layerAt State.bankEnt State.rank
  rw [hrep, hmg]

/-! ## Grants that leave the waiting ones are issued -/

/-- From a pseudo-channel to a later one every grant is issued or still waits, and the bursts that waited do still. -/
structure Pc.Leads (x y : Pc) : Prop where
  count : y.issued + y.grants.length = x.issued + x.grants.length
  issued : x.issued ≤ y.issued
  grants : ∀ g ∈ y.grants, g ∈ x.grants
  bursts : ∀ b ∈ x.bursts, b ∈ y.bursts

theorem Pc.Leads.refl (x : Pc) : x.Leads x := ⟨rfl, le_rfl, fun _ h => h, fun _ h => h⟩

theorem Pc.Leads.trans {x y z : Pc} (h : x.Leads y) (h' : y.Leads z) : x.Leads z :=
  ⟨h'.count.trans h.count, h.issued.trans h'.issued, fun g hg => h.grants g (h'.grants g hg), fun b hb => h'.bursts b (h.bursts b hb)⟩

/-- What the column commands of an access leave besides: the refresh state of the rows and the time from which each bank is free. -/
structure Pc.Sends (x y : Pc) : Prop extends Pc.Leads x y where
  rf : y.rf = x.rf
  free : y.bankFree = x.bankFree

theorem Pc.Sends.refl (x : Pc) : x.Sends x := ⟨.refl x, rfl, rfl⟩

theorem Pc.Sends.trans {x y z : Pc} (h : x.Sends y) (h' : y.Sends z) : x.Sends z :=
  ⟨h.toLeads.trans h'.toLeads, h'.rf.trans h.rf, h'.free.trans h.free⟩

/-- The pseudo-channel after an operation on state, where it speaks of the state alone. -/
theorem Pc.Sends.of_fr {m : Nat} (h : Fr m s t) (hm : m.testBit 24 = false) (q : Nat) : (s.pc q).Sends (t.pc q) := by
  rw [h.pc hm]
  exact .refl _

theorem Pc.Sends.updPc {f : Pc → Pc} (h : (s.pc q).Sends (f (s.pc q))) : (s.pc q).Sends ((s.updPc q f).pc q) := by
  rw [State.updPc_pc, if_pos rfl]
  exact h

theorem Pc.unbook_keeps (x : Pc) (g : Grant) : ∃ a b c d, x.unbook g = { x with slots := a, cols := b, rows := c, gStarts := d } := by
  unfold Pc.unbook
  split <;> exact ⟨_, _, _, _, rfl⟩

theorem Pc.foldl_unbook_keeps (x : Pc) (l : List Grant) :
    ∃ a b c d, l.foldl Pc.unbook x = { x with slots := a, cols := b, rows := c, gStarts := d } := by
  induction l generalizing x with
  | nil => exact ⟨_, _, _, _, rfl⟩
  | cons g l ih =>
    obtain ⟨a, b, c, d, h⟩ := x.unbook_keeps g
    obtain ⟨a', b', c', d', h'⟩ := ih (x.unbook g)
    refine ⟨a', b', c', d', h'.trans ?_⟩
    rw [h]

theorem Pc.release_sends (x : Pc) : x.Sends x.release := by
  unfold Pc.release
  extract_lets idle l y
  obtain ⟨a, b, c, d, h⟩ := x.foldl_unbook_keeps l
  have hy : y = _ := h
  clear_value y
  subst hy
  have hlen : (x.grants.filter (fun g => !idle g)).length + l.length = x.grants.length := by
    rw [Nat.add_comm]
    exact (List.length_eq_length_filter_add idle).symm
  refine ⟨⟨?_, Nat.le_add_right .., fun g hg => List.mem_of_mem_filter hg, fun _ h => h⟩, rfl, rfl⟩
  dsimp only
  omega

theorem Pc.book_sends (x : Pc) (g : Bool) (cols : List (Bool × Nat)) (act : Option (Nat × Option Nat)) : x.Sends (x.book g cols act) :=
  ⟨⟨rfl, le_rfl, fun _ h => h, fun _ h => h⟩, rfl, rfl⟩

theorem Pc.prune_sends (x : Pc) (n : Nat) : x.Sends (x.prune n) :=
  ⟨⟨rfl, le_rfl, fun _ h => h, fun _ h => h⟩, rfl, rfl⟩

theorem Pc.addBursts_sends (x : Pc) (wq : List WqEntry) (l : List Burst) : x.Sends { x with wq := wq, bursts := x.bursts ++ l } :=
  ⟨⟨rfl, le_rfl, fun _ h => h, fun _ h => List.mem_append_left _ h⟩, rfl, rfl⟩

theorem Pc.dropWrites_sends (x : Pc) (n : Nat) (f : WqEntry → Bool) : x.Sends (x.dropWrites n f) :=
  ⟨⟨rfl, le_rfl, fun _ h => h, fun _ h => h⟩, rfl, rfl⟩

theorem dropFirst_mem_length {g : Grant} {l : List Grant} (h : g ∈ l) : (dropFirst (fun y => decide (y = g)) l).length + 1 = l.length := by
  induction l with
  | nil => cases h
  | cons a l ih =>
    unfold dropFirst
    by_cases hag : a = g
    · rw [if_pos (decide_eq_true hag)]
      rfl
    · rw [if_neg (by simpa using hag)]
      have := ih ((List.mem_cons.mp h).resolve_left (Ne.symm hag))
      simpa using this

/-! ## The column commands of an access (R270, R279) -/

theorem startDrain_sends (q k : Nat) (e : WqEntry) (f : QWrite → Bool) (g : Bool) (act start : Nat) (s : State) :
    (s.pc q).Sends ((startDrain q k e f g act start s).pc q) := by
  unfold startDrain
  extract_lets l o b v
  have hv : (s.pc q).Sends (v.pc q) := .updPc (Pc.addBursts_sends ..)
  exact hv.trans (.of_fr ((addWork_fr ..).or (chanEvent_fr ..)) rfl q)

theorem foldl_sends {α : Type} {f : State → α → State} (h : ∀ (t : State) a, (t.pc q).Sends ((f t a).pc q)) (l : List α) (s : State) :
    (s.pc q).Sends ((l.foldl f s).pc q) := by
  induction l generalizing s with
  | nil => exact .refl _
  | cons a l ih => exact (h s a).trans (ih (f s a))

/-- The burst of a read of one block, as its start is 14 ns, or behind promoted writes 18 ns, after the first column command. -/
def Burst.Reads (x : Burst) (k : Nat) (g : Grant) (c : Nat) : Prop :=
  x.write = false ∧ x.tag = g.tag ∧ x.serial = g.serial ∧ x.layer = k ∧ x.row = g.row ∧ x.block = g.block ∧ (x.start = c + 14 ∨ x.start = c + 18)

theorem columns_spec (q k : Nat) (g : Grant) (act c : Nat) (s : State) : (s.pc q).Sends ((columns q k g act c s).pc q) ∧
    (g.op = .rd64 → g.early = [] → ∃ b ∈ ((columns q k g act c s).pc q).bursts, b.Reads k g c) := by
  unfold columns
  extract_lets booked step isG sent n older hz late reads s1 s2 s3 s4 es s5
  have hsent (l : List (Bool × Nat)) (s : State) : (s.pc q).Sends ((sent l s).pc q) := by
    unfold sent
    extract_lets w
    have hw : (s.pc q).Sends (w.pc q) := by
      unfold w
      split
      · exact .refl _
      · exact .updPc (Pc.book_sends ..)
    exact hw.trans (.of_fr (State.updSlice_fr ..) rfl q)
  clear_value sent
  split
  · have h1 : (s.pc q).Sends (s1.pc q) := foldl_sends (fun t e => startDrain_sends ..) _ s
    have h2 : (s.pc q).Sends (s2.pc q) := h1.trans (hsent _ _)
    have hpc : s3.pc q = Pc.release { s2.pc q with bursts := (s2.pc q).bursts ++ reads } := by
      unfold s3
      rw [State.updPc_pc, if_pos rfl]
    have hrel := Pc.release_sends { s2.pc q with bursts := (s2.pc q).bursts ++ reads }
    have h3 : (s.pc q).Sends (s3.pc q) := by
      rw [hpc]
      exact (h2.trans (Pc.addBursts_sends _ (s2.pc q).wq reads)).trans hrel
    have hread (b : Burst) (hb : b ∈ reads) : b ∈ (s3.pc q).bursts := by
      rw [hpc]
      exact hrel.bursts b (List.mem_append_right _ hb)
    clear_value s3
    have hafter : Fr 134219776 s3 (chanEvent q 0x41 n (addWork q k .burst n s4)) := by
      have h4 : Fr 134217728 s3 s4 := by
        unfold s4
        split
        · exact .refl ..
        · exact chanEvent_fr ..
      exact ((h4.or (addWork_fr ..)).or (chanEvent_fr ..)).mono rfl
    rw [hafter.pc rfl]
    refine ⟨h3, fun hop hearly => ?_⟩
    have hn : n = 1 := by
      unfold n
      rw [hop]
      rfl
    obtain ⟨d, hd, hb⟩ : ∃ d, (d = c + 14 ∨ d = c + 18) ∧ readBurst q k g 0 act d s ∈ reads := by
      refine ⟨c + (if late then 18 else 14) + step * 0, ?_, ?_⟩
      · split <;> simp
      · unfold reads
        rw [hn, hearly]
        exact List.mem_map.mpr ⟨0, List.mem_range.mpr Nat.one_pos, rfl⟩
    exact ⟨_, hread _ hb, rfl, rfl, rfl, rfl, rfl, rfl, hd⟩
  · next hreads =>
    refine ⟨?_, fun hop => absurd (by rw [hop]; rfl) hreads⟩
    have h5 : (s.pc q).Sends (s5.pc q) := foldl_sends (fun t e => startDrain_sends ..) _ s
    have h6 : (s.pc q).Sends ((if es = [] then s5 else sent (columnOffsets false 1 0 step) s5).pc q) := by
      split
      · exact h5
      · exact h5.trans (hsent _ _)
    exact h6.trans (.updPc (Pc.release_sends _))

theorem predict_sends (q k b row opened : Nat) (s : State) : (s.pc q).Sends ((predict q k b row opened s).pc q) := by
  unfold predict
  exact .updPc ⟨⟨rfl, le_rfl, fun _ h => h, fun _ h => h⟩, rfl, rfl⟩

/-! ## An activation (R268, R281, R323) -/

theorem pauseRefresh_pc (q k b : Nat) (s : State) :
    ∃ r f, (pauseRefresh q k b s).pc q = { s.pc q with rf := r, bankFree := f } ∧ r.actCount = (s.pc q).rf.actCount := by
  unfold pauseRefresh
  dsimp only
  split
  · split
    · exact ⟨_, _, rfl, rfl⟩
    · unfold bankBusy
      dsimp only
      rw [State.updPc_pc, if_pos rfl, chanEvent_pc, State.updChan_pc, State.updPc_pc, if_pos rfl]
      exact ⟨_, _, rfl, rfl⟩
  · exact ⟨_, _, rfl, rfl⟩

/-- The count of activations of a row after one more: at 2,560 it begins anew. -/
def actNext (n : Nat) : Nat := if n + 1 = 2560 then 0 else n + 1

theorem activate_pc (q k b row : Nat) (s : State) : ∃ l, (activate q k b row s).pc q = { s.pc q with
    latches := l
    rf := { (s.pc q).rf with actCount := tabSet 0 (s.pc q).rf.actCount (pcRowKey k b row) (actNext (tabGet 0 (s.pc q).rf.actCount (pcRowKey k b row))) } } := by
  unfold activate
  extract_lets key rk n copy u v w
  have hu : ∃ l, u.pc q = { s.pc q with
      latches := l
      rf := { (s.pc q).rf with actCount := tabSet 0 (s.pc q).rf.actCount rk (actNext (tabGet 0 (s.pc q).rf.actCount rk)) } } := by
    unfold u
    rw [State.updPc_pc, if_pos rfl]
    exact ⟨_, rfl⟩
  clear_value u
  have hw : Fr 41943040 v w := by
    unfold w
    split
    · exact postHat_fr ..
    · exact .refl ..
  have hlater : Fr 176162816 u (chanEvent q 0x40 1 (addWork q k .act 1 w)) :=
    ((((State.updSlice_fr ..).or hw).or (addWork_fr ..)).or (chanEvent_fr ..)).mono rfl
  rw [hlater.pc rfl]
  exact hu

theorem openRow_none {q k b : Nat} (h : (s.pc q).openRows.find? (fun e => decide (e.1 = bankKey k b)) = none) (t : Nat) : s.openRow q k b t = none := by
  unfold State.openRow
  dsimp only
  rw [h]

/-- The bank of a pseudo-channel that takes an ACT of its own. -/
def Pc.acts (g : Grant) (k t : Nat) (x : Pc) : Pc :=
  { (if g.start.isSome then x else x.book false [] (some (t, some k))) with
    bankFree := tabSet 0 x.bankFree (calKey g.rank g.bank) (t + 44) }

theorem Pc.acts_leads (g : Grant) (k t : Nat) (x : Pc) : x.Leads (x.acts g k t) := by
  unfold Pc.acts
  split <;> exact ⟨rfl, le_rfl, fun _ h => h, fun _ h => h⟩

theorem Pc.acts_rf (g : Grant) (k t : Nat) (x : Pc) : (x.acts g k t).rf = x.rf := by
  unfold Pc.acts
  split <;> rfl

/-! ## An access (R268, R270, R275) -/

/-- What an access leaves of the memory. -/
def CellsKept (key : Nat) (l : List CellChange) (s t : State) : Prop :=
  (l = [] → t.mem = s.mem) ∧ ∀ a, a / rowBytes ≠ key → t.readByte a = s.readByte a

theorem CellsKept.of_mem {key : Nat} {l : List CellChange} (h : t.mem = s.mem) : CellsKept key l s t :=
  ⟨fun _ => h, fun _ _ => readByte_congr h _⟩

theorem CellsKept.trans {key : Nat} {l : List CellChange} (h : CellsKept key l s t) (h' : CellsKept key l t u) : CellsKept key l s u :=
  ⟨fun hl => (h'.1 hl).trans (h.1 hl), fun a ha => (h'.2 a ha).trans (h.2 a ha)⟩

theorem setCells_kept (key : Nat) (l : List CellChange) (s : State) : CellsKept key l s (s.setCells key l) :=
  ⟨fun hl => by rw [hl]; rfl, fun _ ha => setCells_readByte ha l s⟩

theorem access_spec (q k : Nat) (g : Grant) (n : Nat) (l : List CellChange) (s : State) :
    (access q k g n l s).now = max s.now n ∧ (s.pc q).Leads ((access q k g n l s).pc q) ∧ CellsKept (rowKey q k g.bank g.row) l s (access q k g n l s) ∧
    ((s.pc q).openRows.find? (fun e => decide (e.1 = bankKey k g.bank)) = none →
      tabGet 0 ((access q k g n l s).pc q).rf.actCount (pcRowKey k g.bank g.row) =
        actNext (tabGet 0 (s.pc q).rf.actCount (pcRowKey k g.bank g.row)) ∧
      tabGet 0 ((access q k g n l s).pc q).bankFree (calKey g.rank g.bank) = n + 44 ∧
      (g.op = .rd64 → g.early = [] → ∃ b ∈ ((access q k g n l s).pc q).bursts, b.Reads k g (n + 14))) := by
  unfold access
  extract_lets u v c free served w x
  have hv : (∃ r f, v.pc q = { s.pc q with rf := r, bankFree := f } ∧ r.actCount = (s.pc q).rf.actCount) ∧ v.mem = s.mem ∧
      v.now = max s.now n := by
    unfold v
    split
    · exact ⟨pauseRefresh_pc .., (pauseRefresh_fr ..).mem rfl, (pauseRefresh_fr ..).now rfl⟩
    · exact ⟨⟨_, _, rfl, rfl⟩, rfl, rfl⟩
  obtain ⟨⟨r, f, hpc, hcount⟩, hmem, hnow⟩ := hv
  clear_value v
  have hstart : (s.pc q).Leads (v.pc q) := by
    rw [hpc]
    exact ⟨rfl, le_rfl, fun _ h => h, fun _ h => h⟩
  have hopened (h : (s.pc q).openRows.find? (fun e => decide (e.1 = bankKey k g.bank)) = none) : v.openRow q k g.bank n = none :=
    openRow_none (by rw [hpc]; exact h) n
  split
  · next e row opened hfound =>
    have hserved : Fr 150994944 v served := ((chanEvent_fr ..).or (State.updPc_fr ..)).mono rfl
    have hlater := (hserved.or (predict_fr q k g.bank g.row opened served)).or (columns_fr q k g opened c _)
    refine ⟨(hlater.now rfl).trans hnow, ?_, .of_mem ((hlater.mem rfl).trans hmem), fun h => ?_⟩
    · have hw : (v.pc q).Leads (served.pc q) := by
        unfold served
        rw [State.updPc_pc, if_pos rfl, chanEvent_pc]
        exact ⟨rfl, le_rfl, fun _ h => h, fun _ h => h⟩
      exact ((hstart.trans hw).trans (predict_sends ..).toLeads).trans (columns_spec ..).1.toLeads
    · rw [hopened h] at hfound
      exact nomatch hfound
  · have hw : w.pc q = (v.pc q).acts g k n := by
      unfold w
      rw [State.updPc_pc, if_pos rfl]
      rfl
    have hwmem : w.mem = s.mem := (State.updPc_mem ..).trans hmem
    have hwnow : w.now = max s.now n := hnow
    clear_value w
    have hcells : Fr 268435456 w (w.setCells (rowKey q k g.bank g.row) l) := State.setCells_fr ..
    obtain ⟨la, hx⟩ := activate_pc q k g.bank g.row (w.setCells (rowKey q k g.bank g.row) l)
    have hxkept : CellsKept (rowKey q k g.bank g.row) l s x :=
      ((CellsKept.of_mem hwmem).trans (setCells_kept ..)).trans (.of_mem ((activate_fr ..).mem rfl))
    rw [hcells.pc rfl, hw, Pc.acts_rf, hpc] at hx
    have hxnow : x.now = max s.now n := ((hcells.or (activate_fr ..)).now rfl).trans hwnow
    change x.pc q = _ at hx
    clear_value x
    have hxleads : (v.pc q).Leads (x.pc q) := by
      refine (Pc.acts_leads g k n (v.pc q)).trans ?_
      rw [hx, hpc]
      exact ⟨rfl, le_rfl, fun _ h => h, fun _ h => h⟩
    have hpredict := predict_sends q k g.bank g.row n x
    obtain ⟨hcolumns, hread⟩ := columns_spec q k g n (n + 14) (predict q k g.bank g.row n x)
    have hsends := hpredict.trans hcolumns
    have hlater := (predict_fr q k g.bank g.row n x).or (columns_fr q k g n (n + 14) (predict q k g.bank g.row n x))
    refine ⟨(hlater.now rfl).trans hxnow, (hstart.trans hxleads).trans hsends.toLeads, hxkept.trans (.of_mem (hlater.mem rfl)),
      fun _ => ⟨?_, ?_, hread⟩⟩
    · rw [hsends.rf, hx]
      dsimp only
      rw [tabGet_tabSet, if_pos rfl, hcount]
    · rw [hsends.free, hx]
      unfold Pc.acts
      dsimp only
      rw [tabGet_tabSet, if_pos rfl]

end Sys2Proof.Machine
end

section
/-! SUPPORT. Activations, pauses, row closes, power-down and recalibration (R249, R270, R273, R275, R281, R286; O44). -/

namespace Sys2Proof.Machine

open Host

variable {s t u : State} {q : PcId} {k : LayerId} {b : BankId}

/-! ## A grant issued (R249, R270) -/

theorem answerLost_sends (g : Grant) (q : Nat) (s : State) : (s.pc q).Sends ((answerLost g q s).pc q) := by
  unfold answerLost
  split
  · extract_lets n
    exact .of_fr ((countLost_fr q s).or (Fr.forN (fun i t => deliver_fr ..) n (.refl ..))) rfl q
  · split
    · exact .updPc (Pc.dropWrites_sends ..)
    · extract_lets v
      have hv : (s.pc q).Sends (v.pc q) := .of_fr (countLost_fr ..) rfl q
      clear_value v
      refine hv.trans ?_
      split
      · exact .refl _
      · split
        all_goals exact .of_fr (State.updPort_fr ..) rfl q

/-- What the issue of a grant does at once: the grant leaves those that wait, and the floors see its start. -/
def State.granted (s : State) (q : Nat) (g : Grant) (n : Nat) : State :=
  touch ((s.atLeast n).updPc q (fun x => { x with
    grants := dropFirst (fun y => decide (y = g)) x.grants, issued := x.issued + 1
    lastFloor := match g.cls with
      | .g => x.lastFloor
      | .p => tabSet 0 x.lastFloor (2 * calKey g.rank g.bank) n
      | .b => tabSet 0 x.lastFloor (2 * calKey g.rank g.bank + 1) n }))

theorem State.granted_fr (s : State) (q : Nat) (g : Grant) (n : Nat) : Fr 17301506 s (s.granted q g n) :=
  (((State.atLeast_fr ..).or (State.updPc_fr ..)).or (touch_fr ..)).mono rfl

theorem State.granted_pc (s : State) (q : Nat) (g : Grant) (n : Nat) : ∃ f, (s.granted q g n).pc q = { s.pc q with
    grants := dropFirst (fun y => decide (y = g)) (s.pc q).grants, issued := (s.pc q).issued + 1, lastFloor := f } := by
  unfold State.granted
  rw [(touch_fr ..).pc rfl, State.updPc_pc, if_pos rfl]
  exact ⟨_, rfl⟩

theorem State.granted_layerAt (s : State) (q : Nat) (g : Grant) (n r b row : Nat) : (s.granted q g n).layerAt q r b row = s.layerAt q r b row := by
  obtain ⟨f, hpc⟩ := s.granted_pc q g n
  exact layerAt_congr ((s.granted_fr q g n).rep rfl) (by rw [hpc]) ..

section
variable {q k : Nat} {g : Grant} {n m : Nat} {l : List CellChange} (hm : m = max n s.now)
include hm

theorem issueGrant_lost (h : s.layerAt q g.rank g.bank g.row = none ∨ (s.pc q).excluded = true ∨ s.noController (chanOf q) = true) :
    issueGrant q g n l s = answerLost g q (s.granted q g m) := by
  subst hm
  obtain ⟨f, hpc⟩ := s.granted_pc q g (max n s.now)
  have hctl : (s.granted q g (max n s.now)).noController (chanOf q) = s.noController (chanOf q) := by
    rw [State.noController, (s.granted_fr ..).chan rfl, ← State.noController]
  have hexcluded : ((s.granted q g (max n s.now)).pc q).excluded = (s.pc q).excluded := by rw [hpc]
  have hlayer := s.granted_layerAt q g (max n s.now) g.rank g.bank g.row
  unfold issueGrant
  extract_lets i key v
  change (if (v.pc q).excluded || v.noController (chanOf q) then _ else _) = answerLost g q v
  change (v.pc q).excluded = _ at hexcluded
  change v.noController _ = _ at hctl
  change v.layerAt _ _ _ _ = _ at hlayer
  split
  · rfl
  · next hfree =>
    rw [hexcluded, hctl] at hfree
    rcases h with h | h | h
    · rw [hlayer, h]
    · simp [h] at hfree
    · simp [h] at hfree

theorem issueGrant_served (h : s.layerAt q g.rank g.bank g.row = some k) (hx : (s.pc q).excluded = false)
    (hc : s.noController (chanOf q) = false) :
    issueGrant q g n l s = (access q k g m l (s.granted q g m)).updPc q (·.prune (s.granted q g m).now) := by
  subst hm
  obtain ⟨f, hpc⟩ := s.granted_pc q g (max n s.now)
  have hctl : (s.granted q g (max n s.now)).noController (chanOf q) = s.noController (chanOf q) := by
    rw [State.noController, (s.granted_fr ..).chan rfl, ← State.noController]
  have hexcluded : ((s.granted q g (max n s.now)).pc q).excluded = (s.pc q).excluded := by rw [hpc]
  have hlayer := s.granted_layerAt q g (max n s.now) g.rank g.bank g.row
  unfold issueGrant
  extract_lets i key v
  change _ = (access q k g i l v).updPc q (·.prune v.now)
  change (v.pc q).excluded = _ at hexcluded
  change v.noController _ = _ at hctl
  change v.layerAt _ _ _ _ = _ at hlayer
  rw [hexcluded, hctl, hx, hc, hlayer, h]
  rfl

end

/-- A grant issued has left those that wait. -/
def Pc.Issued (x y : Pc) : Prop :=
  x.issued + 1 ≤ y.issued ∧ y.issued + y.grants.length = x.issued + x.grants.length ∧ ∀ g ∈ y.grants, g ∈ x.grants

theorem State.granted_issued {q : Nat} {g : Grant} (hg : g ∈ (s.pc q).grants) {n : Nat} {y : Pc} (h : ((s.granted q g n).pc q).Leads y) :
    (s.pc q).Issued y := by
  obtain ⟨f, hpc⟩ := s.granted_pc q g n
  rw [hpc] at h
  obtain ⟨hcount, hissued, hgrants, -⟩ := h
  have hlen := dropFirst_mem_length hg
  dsimp only at hcount hissued hgrants
  exact ⟨hissued, by omega, fun y hy => (dropFirst_sublist _ _).subset (hgrants y hy)⟩

/-- The state in which the next work, a grant, has been done. -/
theorem issueGrant_spec {q : Nat} {g : Grant} (hg : g ∈ (s.pc q).grants) (n : Nat) (l : List CellChange) {m : Nat} (hm : m = max n s.now) :
    (s.pc q).Issued ((issueGrant q g n l s).pc q) ∧ (l = [] → (issueGrant q g n l s).mem = s.mem) ∧ (issueGrant q g n l s).now = m ∧
    (∀ k, s.layerAt q g.rank g.bank g.row = some k → (s.pc q).excluded = false → s.noController (chanOf q) = false →
      CellsKept (rowKey q k g.bank g.row) l s (issueGrant q g n l s) ∧
      ((s.pc q).openRows.find? (fun e => decide (e.1 = bankKey k g.bank)) = none →
        tabGet 0 ((issueGrant q g n l s).pc q).rf.actCount (pcRowKey k g.bank g.row) =
          actNext (tabGet 0 (s.pc q).rf.actCount (pcRowKey k g.bank g.row)) ∧
        tabGet 0 ((issueGrant q g n l s).pc q).bankFree (calKey g.rank g.bank) = m + 44 ∧
        (g.op = .rd64 → g.early = [] → ∃ b ∈ ((issueGrant q g n l s).pc q).bursts, b.Reads k g (m + 14)))) := by
  obtain ⟨f, hpc⟩ := s.granted_pc q g m
  have hfr := s.granted_fr q g m
  have hnow : (s.granted q g m).now = m := by
    change max s.now m = m
    omega
  by_cases hlost : s.layerAt q g.rank g.bank g.row = none ∨ (s.pc q).excluded = true ∨ s.noController (chanOf q) = true
  · rw [issueGrant_lost hm hlost]
    have hans := answerLost_fr g q (s.granted q g m)
    refine ⟨s.granted_issued hg (answerLost_sends ..).toLeads, fun _ => (hfr.or hans).mem rfl, (hans.now rfl).trans hnow, fun k hk hx hc => ?_⟩
    rcases hlost with h | h | h
    · exact nomatch hk.symm.trans h
    · exact absurd (hx.symm.trans h) Bool.false_ne_true
    · exact absurd (hc.symm.trans h) Bool.false_ne_true
  · push Not at hlost
    obtain ⟨hlayer, hx, hc⟩ := hlost
    obtain ⟨k, hk⟩ := Option.ne_none_iff_exists'.mp hlayer
    rw [issueGrant_served hm hk (by simpa using hx) (by simpa using hc)]
    obtain ⟨hnow', hleads, hkept, hclosed⟩ := access_spec q k g m l (s.granted q g m)
    have hprune := Pc.Sends.updPc (f := (·.prune (s.granted q g m).now)) (Pc.prune_sends ((access q k g m l (s.granted q g m)).pc q) (s.granted q g m).now)
    have hlast : Fr 16777216 (access q k g m l (s.granted q g m))
      ((access q k g m l (s.granted q g m)).updPc q (·.prune (s.granted q g m).now)) := State.updPc_fr ..
    generalize access q k g m l (s.granted q g m) = v at hnow' hleads hkept hclosed hprune hlast
    generalize v.updPc q _ = w at hprune hlast
    have hall : CellsKept (rowKey q k g.bank g.row) l s w :=
      ((CellsKept.of_mem (hfr.mem rfl)).trans hkept).trans (.of_mem (hlast.mem rfl))
    refine ⟨s.granted_issued hg (hleads.trans hprune.toLeads), hall.1, ?_, fun j hj _ _ => ?_⟩
    · rw [hlast.now rfl, hnow', hnow, max_self]
    · obtain rfl : k = j := Option.some.inj (hk.symm.trans hj)
      refine ⟨hall, fun hopen => ?_⟩
      rw [hpc] at hclosed
      obtain ⟨hcount, hfree, hread⟩ := hclosed hopen
      rw [hprune.rf, hprune.free]
      refine ⟨hcount, hfree, fun hop hearly => ?_⟩
      obtain ⟨b, hb, h⟩ := hread hop hearly
      exact ⟨b, hprune.bursts b hb, h⟩

theorem activationIssue_none (l : List CellChange) (h : s.nextWork q.val = .none) : exec (.activationIssue q l) s = .next s := by
  change execActivationIssue q l s = _
  unfold execActivationIssue
  rw [h]

theorem activationIssue_grant {l : List CellChange} {g : Grant} {n : Nat} (h : s.nextWork q.val = .grant g n) (hdown : s.bist.shutDown = false) :
    exec (.activationIssue q l) s = .next (issueGrant q.val g n l s) := by
  have hup : (issueGrant q.val g n l s).bist.shutDown = false := by rw [(issueGrant_fr ..).bist rfl, hdown]
  change execActivationIssue q l s = _
  unfold execActivationIssue
  rw [h]
  dsimp only
  rw [shutdownAdvance_of_up hup]

/-! ## A REFPB paused ahead of a G activation (R281) -/

section
variable {r : RefRun} {n : Nat} (hfind : (s.pc q.val).rf.refRun.find? (fun e => decide (e.1 = bankKey k.val b.val)) = some (n, r))
include hfind

theorem exec_pause : exec (.pause q k b) s =
    .next (if s.gAhead q.val k.val b.val (fun t => decide (s.now + 10 ≤ t) && decide (t < r.start + 44)) then pauseRefresh q.val k.val b.val s else s) := by
  change execPause q k b s = _
  unfold execPause
  rw [hfind]

theorem pause_protected (hp : r.protect = true) : exec (.pause q k b) s = .next s := by
  have hsame : pauseRefresh q.val k.val b.val s = s := by
    unfold pauseRefresh
    dsimp only
    rw [hfind]
    exact if_pos hp
  rw [exec_pause hfind, hsame, ite_self]

theorem pause_noG (h : ∀ g ∈ (s.pc q.val).grants, g.cls ≠ .g) : exec (.pause q k b) s = .next s := by
  have hnone (f : Nat → Bool) : s.gAhead q.val k.val b.val f = false :=
    List.any_eq_false.mpr fun g hg => by simp [h g hg]
  rw [exec_pause hfind, hnone, if_neg Bool.false_ne_true]

theorem pause_ahead (hp : r.protect = false) (h : ∃ g ∈ (s.pc q.val).grants, g.cls = .g ∧ g.bank = b.val ∧
      s.layerAt q.val g.rank g.bank g.row = some k.val ∧ ∃ u, g.start = some u ∧ s.now + 10 ≤ u ∧ u < r.start + 44) :
    ∃ t, exec (.pause q k b) s = .next t ∧ t.mem = s.mem ∧ t.ports = s.ports ∧ t.flt = s.flt ∧ t.now = s.now ∧
      (t.pc q.val).rf.refRun = tabErase (s.pc q.val).rf.refRun (bankKey k.val b.val) ∧ (t.pc q.val).rf.refDone = (s.pc q.val).rf.refDone ∧
      tabGet 0 (t.pc q.val).rf.pauses (pcRowKey k.val b.val r.row) = tabGet 0 (s.pc q.val).rf.pauses (pcRowKey k.val b.val r.row) + 1 := by
  obtain ⟨g, hg, hcls, hbank, hlayer, u, hstart, hfrom, hto⟩ := h
  have hahead : s.gAhead q.val k.val b.val (fun t => decide (s.now + 10 ≤ t) && decide (t < r.start + 44)) = true :=
    List.any_eq_true.mpr ⟨g, hg, by simp [hcls, hbank, ← hlayer, hstart, hfrom, hto]⟩
  have hfr := pauseRefresh_fr q.val k.val b.val s
  have hrf := pauseRefresh_rf hfind hp
  refine ⟨_, (exec_pause hfind).trans (by rw [if_pos hahead]), hfr.mem rfl, hfr.ports rfl, hfr.flt rfl, hfr.now rfl, ?_, ?_, ?_⟩ <;> rw [hrf]
  rw [tabGet_tabSet, if_pos rfl]

end

/-! ## Rows closed, slices powered down (R273, R275) -/

theorem exec_rowCloseTimeout {e : Nat × Nat × Nat} (hfind : (s.pc q.val).openRows.find? (fun e => decide (e.1 = bankKey k.val b.val)) = some e) :
    exec (.rowCloseTimeout q k b) s = .next ((s.atLeast (e.2.2 + 1000)).updPc q.val (fun x => { x with
      openRows := tabErase x.openRows (bankKey k.val b.val) })) := by
  change execRowCloseTimeout q k b s = _
  unfold execRowCloseTimeout
  dsimp only
  rw [hfind]

theorem slicePowerDown_idle (hrows : (s.pc q.val).openRows = []) (hgrants : (s.pc q.val).grants = [])
    (huse : (s.slice q.val k.val).inUse = true) (hup : (s.slice q.val k.val).powerDown = false)
    (hself : (s.slice q.val k.val).selfRefresh = false) {n : Nat}
    (hn : n = max s.now ((s.slice q.val k.val).lastCmd + (s.pwr.timersAt (s.slice q.val k.val).lastCmd).rankPd.toNat)) :
    ∃ t, exec (.slicePowerDown q k) s = .next t ∧ (t.slice q.val k.val).powerDown = true ∧ t.mem = s.mem ∧ t.ports = s.ports ∧ t.now = n ∧
      (t.chan (chanOf q.val)).pdCount = satInc (s.chan (chanOf q.val)).pdCount := by
  have hclosed : (List.range 16).any (fun b => (s.openRow q.val k.val b n).isSome) = false :=
    List.any_eq_false.mpr fun b _ => by simp [openRow_none (s := s) (q := q.val) (k := k.val) (b := b) (by rw [hrows]; rfl) n]
  have hfree : (s.pc q.val).grants.any (fun g => decide (s.layerAt q.val g.rank g.bank g.row = some k.val)
      && g.start.any (fun u => decide (u < n + 16))) = false := by rw [hgrants]; rfl
  have hrun : exec (.slicePowerDown q k) s = .next (((s.atLeast n).updSlice q.val k.val (fun x => { x with powerDown := true, pdAt := n })).updChan
      (chanOf q.val) (fun c => { c with pdCount := satInc c.pdCount })) := by
    subst hn
    change execSlicePowerDown q k s = _
    unfold execSlicePowerDown
    dsimp only
    rw [hclosed, hfree, huse, hup, hself]
    rfl
  refine ⟨_, hrun, ?_, rfl, rfl, ?_, ?_⟩
  · rw [State.updChan_slice, State.updSlice_slice, if_pos rfl]
  · change max s.now n = n
    omega
  · rw [State.updChan_chan, if_pos rfl]
    rfl

end Sys2Proof.Machine
end

section
/-! SUPPORT. Recalibration by micro-steps (R286, R287, R289; O44). -/

namespace Sys2Proof.Machine

open Host

variable {s t u v : State} {q : PcId} {r : CalStep} {k i : Nat}

theorem Pc.clearSlot_calQueue (x : Pc) (n : Nat) : (x.clearSlot n).calQueue = x.calQueue := by
  unfold Pc.clearSlot
  split <;> rfl

theorem Pc.foldl_clearSlot_calQueue (n : Nat) (l : List Nat) (x : Pc) : (l.foldl (fun x d => x.clearSlot (n + d)) x).calQueue = x.calQueue := by
  induction l generalizing x with
  | nil => rfl
  | cons d l ih => exact (ih _).trans (Pc.clearSlot_calQueue ..)

/-- The pseudo-channel in which a micro-step takes 8 slots from a start. -/
def Pc.calSlots (n : Nat) (x : Pc) : Pc :=
  let x := (List.range 8).foldl (fun x d => x.clearSlot (n + d)) x
  { x with slots := x.slots ++ (List.range 8).map (fun d => (n + d, false)), rows := x.rows ++ [(n, none)]
           calLast := some n, engErrors := 0 }

theorem Pc.calSlots_calQueue (n : Nat) (x : Pc) : (x.calSlots n).calQueue = x.calQueue := by
  have h := Pc.foldl_clearSlot_calQueue n (List.range 8) x
  unfold Pc.calSlots
  generalize (List.range 8).foldl (fun x d => x.clearSlot (n + d)) x = y at h ⊢
  exact h

theorem Pc.calSlots_calLast (n : Nat) (x : Pc) : (x.calSlots n).calLast = some n := rfl

/-- The state in which a micro-step has set its receivers. -/
def State.calibrated (s : State) (q k i : Nat) (r : CalStep) : State :=
  let v := (s.atLeast (s.calStart q)).updPc q (Pc.calSlots (s.calStart q))
  chanEvent q 0x49 1 (v.updSlice q k (fun x => { x with
    settings := (receivers i).foldl (fun t j => tabSet 0 t j r.setting) x.settings, powerDown := false, lastCmd := v.now }))

/-- What a micro-step leaves of the state besides its eye. -/
structure Calibrated (s t : State) (q k i : Nat) (r : CalStep) : Prop where
  fr : Fr 184549376 (s.atLeast (s.calStart q)) t
  last : (t.pc q).calLast = some (s.calStart q)
  queue : (t.pc q).calQueue = (s.pc q).calQueue
  slice : ∃ n, t.slice q k = { s.slice q k with
    settings := (receivers i).foldl (fun t j => tabSet 0 t j r.setting) (s.slice q k).settings, powerDown := false, lastCmd := n }

theorem calibrated_spec (s : State) (q k i : Nat) (r : CalStep) : Calibrated s (s.calibrated q k i r) q k i r := by
  unfold State.calibrated
  extract_lets v
  have hv : Fr 16777216 (s.atLeast (s.calStart q)) v := State.updPc_fr ..
  have hpc : v.pc q = (s.pc q).calSlots (s.calStart q) := (State.updPc_pc ..).trans (if_pos rfl)
  clear_value v
  refine ⟨((hv.or (State.updSlice_fr ..)).or (chanEvent_fr ..)).mono rfl, ?_, ?_, v.now, ?_⟩
  · rw [chanEvent_pc, State.updSlice_pc, hpc, Pc.calSlots_calLast]
  · rw [chanEvent_pc, State.updSlice_pc, hpc, Pc.calSlots_calQueue]
  · rw [(chanEvent_fr ..).slice rfl, State.updSlice_slice, if_pos rfl, hv.slice rfl, State.atLeast_slice]

/-- A micro-step that is not the last of its slice. -/
theorem exec_calMicroStep (hrun : s.channelsRun = true) (hx : (s.pc q.val).excluded = false) (hc : s.noController (chanOf q.val) = false)
    (hnext : calNext q.val s = v) (hcal : (v.pc q.val).cal = some (k, i)) (hi : i < 79) : exec (.calMicroStep q r) s =
      .next ((if r.eye then v.calibrated q.val k i r else fault (srcTsv (chanOf q.val)) (pcDetail q.val) (v.calibrated q.val k i r)).updPc q.val
        (fun x => { x with cal := some (k, i + 1) })) := by
  change execCalMicroStep q r s = _
  unfold execCalMicroStep
  rw [if_neg (by simp [hrun, hx, hc])]
  dsimp only
  rw [hnext, hcal]
  dsimp only
  rw [if_pos hi]
  rfl

theorem tabGet_foldl_const {α : Type} [DecidableEq α] (d : α) (l : List Nat) (x : List (Nat × α)) (a : α) (j : Nat) :
    tabGet d (l.foldl (fun t j => tabSet d t j a) x) j = if j ∈ l then a else tabGet d x j := by
  induction l generalizing x with
  | nil => rfl
  | cons b l ih =>
    rw [List.foldl_cons, ih, tabGet_tabSet]
    by_cases hb : j = b <;> by_cases hl : j ∈ l <;> simp [hb, hl]

theorem calMicroStep_goes (hrun : s.channelsRun = true) (hx : (s.pc q.val).excluded = false) (hc : s.noController (chanOf q.val) = false)
    (hcal : (s.pc q.val).cal = some (k, i)) (hi : i < 79)
    (heye : r.eye = true ∨ (s.atLeast (s.calStart q.val)).quiet (srcTsv (chanOf q.val))) :
    ∃ t, exec (.calMicroStep q r) s = .next t ∧ t.mem = s.mem ∧ t.ports = s.ports ∧ (t.pc q.val).cal = some (k, i + 1) ∧
      t.now = max s.now (s.calStart q.val) ∧ (t.pc q.val).calLast = some (s.calStart q.val) ∧
      (∀ j ∈ receivers i, tabGet 0 (t.slice q.val k).settings j = r.setting) ∧
      (∀ j, j ∉ receivers i → tabGet 0 (t.slice q.val k).settings j = tabGet 0 (s.slice q.val k).settings j) ∧
      (r.eye = true → t.flt = s.flt) ∧ (r.eye = false → (t.pc q.val).isolating = true) := by
  have hnext : calNext q.val s = s := by
    unfold calNext
    dsimp only
    rw [hcal]
    rfl
  have hexec := exec_calMicroStep (r := r) hrun hx hc hnext hcal hi
  obtain ⟨hfr, hlast, -, n, hslice⟩ := calibrated_spec s q.val k i r
  generalize s.calibrated q.val k i r = v at hexec hfr hlast hslice
  obtain ⟨w, hw, hwfr, hwslice, hwlast, hwflt, hwiso⟩ : ∃ w, (if r.eye then v else fault (srcTsv (chanOf q.val)) (pcDetail q.val) v) = w ∧
      Fr 184550400 (s.atLeast (s.calStart q.val)) w ∧ w.slice q.val k = v.slice q.val k ∧ (w.pc q.val).calLast = (v.pc q.val).calLast ∧
      (r.eye = true → w.flt = s.flt) ∧ (r.eye = false → (w.pc q.val).isolating = true) := by
    cases hr : r.eye with
    | true => exact ⟨v, rfl, hfr.mono rfl, rfl, rfl, fun _ => hfr.flt rfl, fun h => nomatch h⟩
    | false =>
      have hq := hfr.quiet (heye.resolve_left (by simp [hr]))
      have h0 : srcTsv (chanOf q.val) ≠ 0 := by simp only [srcTsv]; omega
      have h9 : srcTsv (chanOf q.val) ≠ 9 := by simp only [srcTsv]; omega
      have hev := v.withEvent_fr (srcTsv (chanOf q.val))
      refine ⟨_, (fault_of_quiet _ h0 h9 hq).trans (perEvent_srcTsv q _), (((hfr.or hev).or (State.updPc_fr ..)).mono rfl), ?_, ?_, fun h => absurd h Bool.false_ne_true,
        fun _ => ?_⟩
      · rw [State.updPc_slice, hev.slice rfl]
      · rw [State.updPc_pc, if_pos rfl, hev.pc rfl]
      · rw [State.updPc_pc, if_pos rfl]
  rw [hw] at hexec
  refine ⟨_, hexec, hwfr.mem rfl, hwfr.ports rfl, ?_, ?_, ?_, fun j hj => ?_, fun j hj => ?_, hwflt, fun h => ?_⟩
  · rw [State.updPc_pc, if_pos rfl]
  · exact hwfr.now rfl
  · rw [State.updPc_pc, if_pos rfl]
    exact hwlast.trans hlast
  · rw [State.updPc_slice, hwslice, hslice]
    dsimp only
    rw [tabGet_foldl_const, if_pos hj]
  · rw [State.updPc_slice, hwslice, hslice]
    dsimp only
    rw [tabGet_foldl_const, if_neg hj]
  · rw [State.updPc_pc, if_pos rfl]
    exact hwiso h

theorem calMicroStep_first (hrun : s.channelsRun = true) (hx : (s.pc q.val).excluded = false) (hc : s.noController (chanOf q.val) = false)
    (hcal : (s.pc q.val).cal = none) (hqueue : (s.pc q.val).calQueue = [k]) (heye : r.eye = true) :
    ∃ t, exec (.calMicroStep q r) s = .next t ∧ (t.pc q.val).cal = some (k, 1) ∧ (t.pc q.val).calQueue = [] ∧
      (t.slice q.val k).calTemp = some (BitVec.ofInt 11 (s.layer k).temp) ∧ (t.slice q.val k).restTemp = none := by
  obtain ⟨v, hnext, hvcal, hvqueue, hvslice⟩ : ∃ v, calNext q.val s = v ∧ (v.pc q.val).cal = some (k, 0) ∧ (v.pc q.val).calQueue = [] ∧
      v.slice q.val k = { s.slice q.val k with calTemp := some (BitVec.ofInt 11 (s.layer k).temp), restTemp := none } := by
    refine ⟨_, calNext_of_one hcal hqueue, ?_, ?_, ?_⟩
    · rw [State.updSlice_pc, State.updPc_pc, if_pos rfl]
    · rw [State.updSlice_pc, State.updPc_pc, if_pos rfl, hqueue]
      simp
    · rw [State.updSlice_slice, if_pos rfl, State.updPc_slice]
  have hexec := exec_calMicroStep (r := r) hrun hx hc hnext hvcal (by decide)
  rw [heye, if_pos rfl] at hexec
  obtain ⟨-, -, hq, n, hslice⟩ := calibrated_spec v q.val k 0 r
  refine ⟨_, hexec, ?_, ?_, ?_, ?_⟩
  · rw [State.updPc_pc, if_pos rfl]
  · rw [State.updPc_pc, if_pos rfl]
    exact hq.trans hvqueue
  · rw [State.updPc_slice, hslice, hvslice]
  · rw [State.updPc_slice, hslice, hvslice]

/-- Settles O44: a grant by `issueGrant_spec`, a pause by `pauseRefresh_rf`, a micro-step by `calibrated_spec`. -/
theorem channelCommandsFollowTheSchedule : Obligations.ChannelCommandsFollowTheSchedule := by
  unfold Obligations.ChannelCommandsFollowTheSchedule
  intro q s
  refine ⟨fun l h => activationIssue_none l h, fun l g n u hwork hg hdown hu => ?_, fun k b e hfind => ⟨pause_protected hfind, pause_noG hfind,
    pause_ahead hfind⟩, fun k b e hfind => exec_rowCloseTimeout hfind,
    fun k hrows hgrants huse hup hself => slicePowerDown_idle hrows hgrants huse hup hself rfl,
    fun hrun hx hc => ⟨fun k i r hcal hi heye => calMicroStep_goes hrun hx hc hcal hi heye,
      fun k r hcal hq heye => calMicroStep_first hrun hx hc hcal hq heye⟩⟩
  obtain ⟨⟨hissued, hcount, hgrants⟩, hmem, hnow, hserved⟩ := issueGrant_spec hg n l (m := u) (by omega)
  refine ⟨_, activationIssue_grant hwork hdown, hnow, (issueGrant_fr ..).flt rfl, hissued, hcount, hgrants, hmem, fun k hk hx hc => ?_⟩
  obtain ⟨hkept, hclosed⟩ := hserved k hk hx hc
  refine ⟨hkept.2, fun hopen => ?_⟩
  obtain ⟨hact, hfree, hread⟩ := hclosed hopen
  refine ⟨hact, hfree, fun hop hearly => ?_⟩
  obtain ⟨b, hb, hwrite, htag, hserial, hlayer, hrow, hblock, hstart⟩ := hread hop hearly
  exact ⟨b, hb, hwrite, htag, hserial, hlayer, hrow, hblock, by omega⟩

end Sys2Proof.Machine
end

section
/-! SUPPORT. Burns by the supervisor: layer antifuses and field frames (R63, R129, R136, R143 to R148; O48). -/

namespace Sys2Proof.Machine

open Host

variable {s t u : State} {b : BurnTry} {temp : Temp} {key : Nat} {e : AfEntry}

/-! ## Layer antifuses (R143, R147, R148) -/

theorem State.afMay_of_not (h : vppOk b = false ∨ s.mode ≠ .service ∨ s.sup.restarting = true ∨ degC 85 ≤ temp.val) : s.afMay b temp = false := by
  unfold State.afMay
  rcases h with h | h | h | h
  · simp [h]
  · simp [h]
  · simp [h]
  · have hheld : ¬ temp.val < degC (if s.otp.afHeld then 82 else 85) := by
      simp only [degC] at h ⊢
      split <;> omega
    simp [hheld]

theorem exec_antifuse {l : List (BitVec 41)} (h : s.nextAf = some (key, e, l)) : exec (.layerAntifuseBurn b temp) s =
    if s.afMay b temp then .next (afStep b key e l { s with otp.afHeld := false })
    else .next { s with otp.afHeld := s.otp.afHeld || (s.otp.afJob.isSome && decide (degC 85 ≤ temp.val)) } := by
  change execLayerAntifuseBurn b temp s = _
  unfold execLayerAntifuseBurn
  rw [h]

theorem nextAf_of_job {l : List (BitVec 41)} (h : s.otp.afJob = some (key, e, l)) : s.nextAf = some (key, e, l) := by
  unfold State.nextAf
  rw [h]

theorem nextAf_of_entry {rest : List AfEntry} {i : Nat} (hjob : s.otp.afJob = none) (hopen : s.afOpen = none) (hq : s.otp.afQueue = e :: rest)
    (hspare : ∀ x ∈ s.afEntries e.layer, ¬ (x.spare = true ∧ x.q = e.q ∧ x.bank = e.bank ∧ x.y = e.y)) (hfree : s.afFree e.layer = some i) :
    s.nextAf = some (i, e, e.burns) := by
  have hused : (s.afEntries e.layer).any (fun x => x.spare && decide (x.q = e.q) && decide (x.bank = e.bank) && decide (x.y = e.y)) = false :=
    List.any_eq_false.mpr fun x hx => by simpa [and_assoc] using hspare x hx
  unfold State.nextAf
  rw [hjob, hopen, hq]
  dsimp only
  rw [hused, Bool.and_false, if_neg Bool.false_ne_true, hfree]

theorem afPlace_of_free {k i : Nat} (h : s.afFree k = some i) : s.afPlace i = 0 :=
  of_decide_eq_true (List.find?_some (p := fun i => decide (s.afPlace i = 0)) h)

/-- A burn that succeeds blows its bits in its place, no other place. -/
theorem afStep_done {v : BitVec 41} {rest : List (BitVec 41)} (hp : b.pulses.isSome = true) :
    Fr 8192 s (afStep b key e (v :: rest) s) ∧ (afStep b key e (v :: rest) s).afPlace key = s.afPlace key ||| v ∧
    (∀ j, j ≠ key → (afStep b key e (v :: rest) s).afPlace j = s.afPlace j) ∧
    (afStep b key e (v :: rest) s).otp = { s.otp with
      antifuse := tabSet 0 s.otp.antifuse key (s.afPlace key ||| v), afQueue := s.otp.afQueue.filter (fun x => decide (x ≠ e))
      afJob := if rest = [] then none else some (key, e, rest) } := by
  obtain ⟨n, hn⟩ := Option.isSome_iff_exists.mp hp
  unfold afStep
  rw [hn]
  refine ⟨Fr.u8192 (Fr.u8192 (.refl ..) rfl) rfl, ?_, fun j hj => ?_, rfl⟩
  · exact (tabGet_tabSet ..).trans (if_pos rfl)
  · exact (tabGet_tabSet ..).trans (if_neg hj)

/-- A burn that fails leaves its place torn, its entry waiting for another. -/
theorem afStep_failed {v : BitVec 41} {rest : List (BitVec 41)} (hp : b.pulses = none) (hrest : rest ≠ []) (hq : e ∉ s.otp.afQueue)
    (hmode : s.mode = .service) (hcalm : s.calm) : (afStep b key e (v :: rest) s).mem = s.mem ∧
    (afStep b key e (v :: rest) s).otp = { s.otp with
      antifuse := tabSet 0 s.otp.antifuse key (s.afPlace key ||| v), afQueue := s.otp.afQueue ++ [e], afJob := none } := by
  have hwait : ¬ (rest = [] ∨ s.otp.afQueue.contains e = true) := by simp [hrest, hq]
  unfold afStep
  rw [hp]
  dsimp only
  rw [if_neg hwait, if_neg hrest]
  generalize hv : { s with otp := { s.otp with
    antifuse := tabSet 0 s.otp.antifuse key (s.afPlace key ||| v), afQueue := s.otp.afQueue ++ [e], afJob := none } } = v'
  have hmild : v'.mild 228 := by
    have hcalm' : v'.calm := by
      rw [← hv]
      exact hcalm
    exact (hcalm'.at 228).mild (by decide)
  have hfr : Fr 4605440 v' (raiseFault 228 2 {} 1 v') :=
    raiseFault_mild (fun h => by omega) {} 1 (by rw [← hv]; simp [hmode]) (by rw [← hv]; simp [hmode]) (by decide) hmild
  refine ⟨(hfr.mem rfl).trans (by rw [← hv]), (hfr.otp rfl).trans (by rw [← hv])⟩

theorem State.mode_of_afMay (h : s.afMay b temp = true) : s.mode = .service := by
  simp only [State.afMay, Bool.and_eq_true, decide_eq_true_eq] at h
  exact h.1.1.1

/-- The first burn of the entry that waits longest, in its lowest blank place. -/
theorem antifuse_first {rest : List AfEntry} {i : Nat} (hjob : s.otp.afJob = none) (hopen : s.afOpen = none) (hq : s.otp.afQueue = e :: rest)
    (hspare : ∀ x ∈ s.afEntries e.layer, ¬ (x.spare = true ∧ x.q = e.q ∧ x.bank = e.bank ∧ x.y = e.y)) (hfree : s.afFree e.layer = some i)
    (hmay : s.afMay b temp = true) (hp : b.pulses.isSome = true) :
    s.afPlace i = 0 ∧ ∃ u, exec (.layerAntifuseBurn b temp) s = .next u ∧ u.afPlace i = BitVec.ofNat 41 e.word ∧
      (∀ j, j ≠ i → u.afPlace j = s.afPlace j) ∧ u.otp.afJob = some (i, e, [BitVec.ofNat 41 (0x5A * 2 ^ 32), BitVec.ofNat 41 (2 ^ 40)]) ∧
      u.otp.afQueue = rest.filter (fun x => decide (x ≠ e)) ∧ u.mem = s.mem ∧ u.ports = s.ports ∧ u.flt = s.flt ∧
      u.otp.rows = s.otp.rows := by
  have hblank := afPlace_of_free hfree
  have hrun := (exec_antifuse (b := b) (temp := temp) (nextAf_of_entry hjob hopen hq hspare hfree)).trans (if_pos hmay)
  have hheld : Fr 8192 s { s with otp := { s.otp with afHeld := false } } := Fr.u8192 (.refl ..) rfl
  obtain ⟨hfr, hself, hother, hotp⟩ := afStep_done (b := b) (s := { s with otp := { s.otp with afHeld := false } }) (key := i) (e := e)
    (v := BitVec.ofNat 41 e.word) (rest := [BitVec.ofNat 41 (0x5A * 2 ^ 32), BitVec.ofNat 41 (2 ^ 40)]) hp
  have hall := hheld.or hfr
  refine ⟨hblank, _, hrun, ?_, hother, by rw [AfEntry.burns, hotp]; rfl, ?_, hall.mem rfl, hall.ports rfl, hall.flt rfl, by rw [AfEntry.burns, hotp]⟩
  · refine hself.trans ?_
    change s.afPlace i ||| _ = _
    rw [hblank]
    exact BitVec.zero_or
  · rw [AfEntry.burns, hotp]
    dsimp only
    rw [hq, List.filter_cons_of_neg (by simp)]

section
variable {v : BitVec 41} {rest : List (BitVec 41)} (hjob : s.otp.afJob = some (key, e, v :: rest))
include hjob

theorem antifuse_next (hmay : s.afMay b temp = true) (hp : b.pulses.isSome = true) :
    ∃ u, exec (.layerAntifuseBurn b temp) s = .next u ∧ u.afPlace key = s.afPlace key ||| v ∧ u.otp.afHeld = false ∧
      (∀ j, j ≠ key → u.afPlace j = s.afPlace j) ∧ u.otp.afJob = (if rest = [] then none else some (key, e, rest)) ∧
      u.otp.rows = s.otp.rows ∧ u.mem = s.mem ∧ u.ports = s.ports ∧ u.flt = s.flt := by
  have hrun := (exec_antifuse (b := b) (temp := temp) (nextAf_of_job hjob)).trans (if_pos hmay)
  have hheld : Fr 8192 s { s with otp := { s.otp with afHeld := false } } := Fr.u8192 (.refl ..) rfl
  obtain ⟨hfr, hself, hother, hotp⟩ := afStep_done (b := b) (s := { s with otp := { s.otp with afHeld := false } }) (key := key) (e := e)
    (v := v) (rest := rest) hp
  have hall := hheld.or hfr
  exact ⟨_, hrun, hself, by rw [hotp], hother, by rw [hotp], by rw [hotp], hall.mem rfl, hall.ports rfl, hall.flt rfl⟩

theorem antifuse_failed (hmay : s.afMay b temp = true) (hp : b.pulses = none) (hrest : rest ≠ []) (hq : e ∉ s.otp.afQueue) (hcalm : s.calm) :
    ∃ u, exec (.layerAntifuseBurn b temp) s = .next u ∧ u.otp.afJob = none ∧ u.otp.afQueue = s.otp.afQueue ++ [e] ∧
      (∀ j, j ≠ key → u.afPlace j = s.afPlace j) ∧ u.otp.rows = s.otp.rows ∧ u.mem = s.mem := by
  have hrun := (exec_antifuse (b := b) (temp := temp) (nextAf_of_job hjob)).trans (if_pos hmay)
  obtain ⟨hmem, hotp⟩ := afStep_failed (b := b) (s := { s with otp := { s.otp with afHeld := false } }) (key := key) (e := e)
    (v := v) hp hrest hq (State.mode_of_afMay (s := s) hmay) hcalm
  refine ⟨_, hrun, by rw [hotp], by rw [hotp], fun j hj => ?_, by rw [hotp], hmem⟩
  rw [State.afPlace, hotp]
  exact (tabGet_tabSet ..).trans (if_neg hj)

theorem antifuse_waits (hmay : s.afMay b temp = false) : exec (.layerAntifuseBurn b temp) s =
    .next { s with otp.afHeld := s.otp.afHeld || decide (degC 85 ≤ temp.val) } := by
  rw [exec_antifuse (nextAf_of_job hjob), if_neg (by rw [hmay]; exact Bool.false_ne_true), hjob]
  rfl

end

end Sys2Proof.Machine
end

section
/-! SUPPORT. Burns of field frames: rows, redirection fields, commit rows and spare rows (R129, R132, R136, R142 to R146; O48). -/

namespace Sys2Proof.Machine

open Host

variable {s t u : State} {b : BurnTry} {key f : Nat} {v : BitVec 56}

/-! ## A row and its check bits (R129) -/

theorem syndrome_rowBits {code : List (BitVec 8)} {row : Nat} (h : ¬ (102 ≤ row ∧ row < 134)) (v : BitVec 56) : syndrome code (rowBits code row v) = 0 := by
  have hlow : (checkBits code v ++ v).extractLsb' 0 56 = v := BitVec.extractLsb'_append_eq_right
  have hhigh : (checkBits code v ++ v).extractLsb' 56 8 = checkBits code v := BitVec.extractLsb'_append_eq_left
  rw [rowBits, if_neg h]
  unfold syndrome
  rw [hlow, hhigh, BitVec.xor_self]
  rfl

/-! ## A key blown (R129, R130) -/

/-- The row whose bits a key's burn blows. -/
def keyRow (key : Nat) : Nat := if key < 512 then key else 496 + (key - 512) / 4

theorem blowRow_row (row : Nat) (v : BitVec 64) (s : State) (r : Nat) :
    (blowRow row v s).fuseRow r = if r = row then s.fuseRow row ||| v else s.fuseRow r := tabGet_tabSet ..

/-- What a burn, the end of its step and its shadow leave of the block: rows, fields and frames alone change in what follows. -/
structure Burnt (r : Nat) (s t : State) : Prop where
  fr : Fr 8192 s t
  rows : ∀ i, i ≠ r → t.fuseRow i = s.fuseRow i

theorem Burnt.trans {r : Nat} (h : Burnt r s t) (h' : Burnt r t u) : Burnt r s u :=
  ⟨(h.fr.or h'.fr).mono rfl, fun i hi => (h'.rows i hi).trans (h.rows i hi)⟩

theorem blow_burnt (key : Nat) (v : BitVec 56) (s : State) : Burnt (keyRow key) s (blow key v s) := by
  refine ⟨blow_fr .., fun i hi => ?_⟩
  unfold blow
  by_cases h : key < 512
  · rw [keyRow, if_pos h] at hi
    rw [if_pos h, blowRow_row, if_neg hi]
  · rw [keyRow, if_neg h] at hi
    rw [if_neg h]
    exact (blowRow_row ..).trans (if_neg hi)

theorem blow_frame (key : Nat) (v : BitVec 56) (s : State) (g : Nat) : (blow key v s).frame g = s.frame g := by
  unfold blow
  split <;> rfl

theorem blow_row (h : key < 512) (v : BitVec 56) (s : State) :
    (blow key v s).fuseRow key = s.fuseRow key ||| rowBits s.otp.rom.code key v ∧ (blow key v s).otp.fields = s.otp.fields := by
  unfold blow
  rw [if_pos h]
  exact ⟨(blowRow_row ..).trans (if_pos rfl), rfl⟩

theorem frameStep_rows (f key : Nat) (v : BitVec 56) (s : State) :
    (frameStep f key v s).otp.rows = s.otp.rows ∧ (frameStep f key v s).otp.fields = s.otp.fields := by
  unfold frameStep
  split_ifs <;> exact ⟨rfl, rfl⟩

theorem setFrame_frame (f : Nat) (x : FrameState) (s : State) (g : Nat) :
    State.frame { s with otp := { s.otp with frames := tabSet .free s.otp.frames f x } } g = if g = f then x else s.frame g :=
  tabGet_tabSet FrameState.free s.otp.frames f g x

theorem frameStep_other {g : Nat} (h : g ≠ f) (key : Nat) (v : BitVec 56) (s : State) : (frameStep f key v s).frame g = s.frame g := by
  unfold frameStep
  split
  · exact (setFrame_frame ..).trans (if_neg h)
  · split
    · exact (setFrame_frame ..).trans (if_neg h)
    · rfl

theorem frameStep_commits (h : servedRow key v = 136 + 8 * f + 7) (s : State) : (frameStep f key v s).frame f = .validOpen := by
  unfold frameStep
  rw [if_pos h]
  exact (setFrame_frame ..).trans (if_pos rfl)

theorem showBurnt_otp (key : Nat) (v : BitVec 56) (s : State) : (showBurnt key v s).otp.rows = s.otp.rows ∧
    (showBurnt key v s).otp.fields = s.otp.fields ∧ (showBurnt key v s).otp.frames = s.otp.frames := by
  unfold showBurnt
  dsimp only
  split <;> exact ⟨rfl, rfl, rfl⟩

/-! ## One step of a job (R143 to R145) -/

theorem exec_fieldFrameBurn (hmay : s.supBurn b = true) (hheld : s.otp.burnHeld = false) {j : Nat × List (Nat × BitVec 56)} (hjob : s.otp.job = some j) :
    exec (.fieldFrameBurn b) s = .next (burnStep b s) := by
  change execFieldFrameBurn b s = _
  unfold execFieldFrameBurn
  rw [if_neg (by simp [hmay, hheld]), hjob]

theorem fieldFrameBurn_off (h : s.supBurn b = false ∨ s.otp.burnHeld = true) : exec (.fieldFrameBurn b) s = .next s := by
  change execFieldFrameBurn b s = _
  unfold execFieldFrameBurn
  exact if_pos (h.imp (fun h => by rw [h]; rfl) id)

section
variable {rest : List (Nat × BitVec 56)} (hjob : s.otp.job = some (f, (key, v) :: rest))
include hjob

theorem burnStep_of_used (hblank : s.keyBlank key = false) : burnStep b s = s := by
  unfold burnStep
  rw [hjob]
  exact if_pos (by rw [hblank]; rfl)

theorem burnStep_done (hblank : s.keyBlank key = true) (hp : b.pulses.isSome = true) (hrest : rest ≠ []) :
    burnStep b s = { showBurnt key v (frameStep f key v (blow key v s)) with
      otp := { (showBurnt key v (frameStep f key v (blow key v s))).otp with job := some (f, rest) } } := by
  obtain ⟨n, hn⟩ := Option.isSome_iff_exists.mp hp
  unfold burnStep
  rw [hjob]
  dsimp only
  rw [hblank, hn, if_neg (by decide)]
  exact if_neg hrest

theorem burnStep_failed (hblank : s.keyBlank key = true) (hp : b.pulses = none) {k : Nat} {l : List Nat} (hkey : key < 480)
    (hfree : s.freeSpares = k :: l) : burnStep b s = { s with otp := { s.otp with
      sparesUsed := s.otp.sparesUsed ++ [k]
      job := some (f, (480 + k, v) :: (fieldKey k, BitVec.ofNat 56 (fieldBits (BitVec.ofNat 10 (512 + key))).toNat) :: rest) } } := by
  unfold burnStep
  rw [hjob]
  dsimp only
  rw [hblank, hp, if_neg (by decide)]
  dsimp only
  unfold burnFailed
  dsimp only
  rw [if_pos hkey, hfree]

theorem fieldFrameBurn_done (hmay : s.supBurn b = true) (hheld : s.otp.burnHeld = false) (hblank : s.keyBlank key = true)
    (hp : b.pulses.isSome = true) (hrest : rest ≠ []) :
    ∃ u, exec (.fieldFrameBurn b) s = .next u ∧ u.otp.job = some (f, rest) ∧ u.mem = s.mem ∧ u.ports = s.ports ∧ u.flt = s.flt ∧
      (key < 512 → u.fuseRow key = rowBits s.otp.rom.code key v ∧ u.otp.fields = s.otp.fields ∧
        (¬ (102 ≤ key ∧ key < 134) → syndrome s.otp.rom.code (u.fuseRow key) = 0)) ∧
      (∀ r, r ≠ (if key < 512 then key else 496 + (key - 512) / 4) → u.fuseRow r = s.fuseRow r) ∧
      (servedRow key v = 136 + 8 * f + 7 → u.frame f = .validOpen) ∧ ∀ g, g ≠ f → u.frame g = s.frame g := by
  have hrun := (exec_fieldFrameBurn hmay hheld hjob).trans (congrArg Outcome.next (burnStep_done hjob hblank hp hrest))
  have hblow := blow_burnt key v s
  have hblowFrame := blow_frame key v s
  have hblowRow (h : key < 512) := blow_row h v s
  generalize blow key v s = x at hrun hblow hblowFrame hblowRow
  obtain ⟨hsrows, hsfields⟩ := frameStep_rows f key v x
  have hsfr := frameStep_fr f key v x
  have hsother (g : Nat) (h : g ≠ f) := frameStep_other h key v x
  have hscommit (h : servedRow key v = 136 + 8 * f + 7) := frameStep_commits h x
  generalize frameStep f key v x = y at hrun hsrows hsfields hsfr hsother hscommit
  obtain ⟨hrows, hfields, hframes⟩ := showBurnt_otp key v y
  have hfr := showBurnt_fr key v y
  generalize showBurnt key v y = z at hrun hrows hfields hframes hfr
  have hall := (hblow.fr.or hsfr).or hfr
  have hrow (r : Nat) : tabGet 0 z.otp.rows r = x.fuseRow r := by rw [hrows, hsrows, State.fuseRow]
  have hframe (g : Nat) : tabGet .free z.otp.frames g = y.frame g := by rw [hframes, State.frame]
  refine ⟨_, hrun, rfl, hall.mem rfl, hall.ports rfl, hall.flt rfl, fun h => ?_, fun r hr => (hrow r).trans (hblow.rows r hr),
    fun h => (hframe f).trans (hscommit h), fun g hg => (hframe g).trans ((hsother g hg).trans (hblowFrame g))⟩
  obtain ⟨hself, hself'⟩ := hblowRow h
  have hzero : s.fuseRow key = 0 := by
    rw [State.keyBlank, if_pos h] at hblank
    exact eq_of_beq hblank
  have hbits : tabGet 0 z.otp.rows key = rowBits s.otp.rom.code key v := by
    rw [hrow, hself, hzero]
    exact BitVec.zero_or
  refine ⟨hbits, hfields.trans (hsfields.trans hself'), fun hleaf => ?_⟩
  exact (congrArg _ hbits).trans (syndrome_rowBits hleaf v)

theorem fieldFrameBurn_failed (hmay : s.supBurn b = true) (hheld : s.otp.burnHeld = false) (hblank : s.keyBlank key = true)
    (hp : b.pulses = none) {k : Nat} {l : List Nat} (hkey : key < 480) (hfree : s.freeSpares = k :: l) :
    ∃ u w, exec (.fieldFrameBurn b) s = .next u ∧ u.otp.job = some (f, (480 + k, v) :: w :: rest) ∧ w.1 = fieldKey k ∧ u.otp.rows = s.otp.rows ∧
      u.otp.fields = s.otp.fields ∧ u.otp.sparesUsed = s.otp.sparesUsed ++ [k] ∧ u.mem = s.mem ∧ u.ports = s.ports :=
  ⟨_, _, (exec_fieldFrameBurn hmay hheld hjob).trans (congrArg Outcome.next (burnStep_failed hjob hblank hp hkey hfree)), rfl, rfl, rfl, rfl,
    rfl, rfl, rfl⟩

end

end Sys2Proof.Machine
end

section
/-! SUPPORT. Shadows, overrides and burns by management (R129, R135, R141 to R144, R146; O48). -/

namespace Sys2Proof.Machine

open Host

variable {s t u : State} {b : BurnTry}

/-! ## Burns resumed (R146) -/

theorem burnResume_cool (hheld : s.otp.burnHeld = true) (hcool : s.baseBelow 92 = true) :
    exec .burnResume s = .next { s with otp := { s.otp with burnHeld := false } } :=
  congrArg Outcome.next (if_pos ⟨hheld, hcool⟩)

theorem burnResume_warm (h : s.baseBelow 92 = false) : exec .burnResume s = .next s :=
  congrArg Outcome.next (if_neg fun hc => Bool.false_ne_true (h.symm.trans hc.2))

/-! ## The mode through faults and raises: it stays, or HOLD is entered (R424) -/

/-- The mode is as it was, or HOLD. -/
def HoldsAtMost (s t : State) : Prop := t.mode = s.mode ∨ t.mode = .hold

theorem HoldsAtMost.of_fr {m : Nat} (h : Fr m s t) (hm : m.testBit 4 = false) : HoldsAtMost s t := .inl (h.mode hm)

theorem HoldsAtMost.refl (s : State) : HoldsAtMost s s := .inl rfl

theorem HoldsAtMost.trans (h : HoldsAtMost s t) (h' : HoldsAtMost t u) : HoldsAtMost s u := by
  rcases h' with h' | h'
  · exact h.imp h'.trans h'.trans
  · exact .inr h'

theorem enterHold_holdsAtMost (c : Nat) (s : State) : HoldsAtMost s (enterHold c s) := by
  by_cases h : s.mode = .trip
  · rw [enterHold_of_trip c h]
    exact .refl s
  · exact .inr (enterHold_mode c h)

theorem holdsAtMost_collects : Collects HoldsAtMost where
  refl := .refl
  trans := HoldsAtMost.trans
  parts h := .of_fr h rfl
  queue j s := .of_fr (queueRecord_fr j s) rfl
  hold := enterHold_holdsAtMost

/-! ## Shadows that fail their parity (R141) -/

theorem perEvent_otp (d : EventDetail) (s : State) : perEvent 228 d s = s := perEvent_of_plain (by decide) (by decide) d s

theorem raiseFault_otp_grave (h : s.mode ≠ .trip) : (raiseFault 228 4 {} 1 s).mode = .hold := by
  by_cases hh : s.mode = .hold
  · rcases holdsAtMost_collects.raiseFault (n := 228) (d := {}) (fun h => by omega) (perEvent_otp {}) 4 1 s with hm | hm
    · exact hm.trans hh
    · exact hm
  · have hcounts : s.counts 228 = true := by simp [State.counts, State.srcAbsent, reservedSource]
    exact (raiseFault_grave (n := 228) (fun h => by omega) {} h hh hcounts).mode

/-- A value in the shadow of a row. -/
def State.shows (s : State) (row : Nat) (v : BitVec 56) : State := { s with otp := { s.otp with shadow := tabSet 0 s.otp.shadow row v } }

theorem State.shows_shadow (s : State) (row : Nat) (v : BitVec 56) (r : Nat) : (s.shows row v).shadow r = if r = row then v else s.shadow r :=
  tabGet_tabSet ..

theorem shadow_congr (h : t.otp = s.otp) (r : Nat) : t.shadow r = s.shadow r := by rw [State.shadow, h, State.shadow]

section
variable (row : Fin 480)

theorem shadowParity_restored (hq : s.quiet 228) : ∃ u, exec (.shadowParityError row false) s = .next u ∧
    u.shadow row.val = tabGet 0 s.otp.retShadow row.val ∧ (∀ r, r ≠ row.val → u.shadow r = s.shadow r) ∧
    (u.src 228).total = satInc (s.src 228).total ∧ u.mem = s.mem ∧ u.ports = s.ports := by
  have hrun : exec (.shadowParityError row false) s = .next (fault 228 {} (s.shows row.val (tabGet 0 s.otp.retShadow row.val))) := rfl
  have hq' : (s.shows row.val (tabGet 0 s.otp.retShadow row.val)).quiet 228 := hq
  rw [fault_of_quiet {} (by decide) (by decide) hq', perEvent_otp] at hrun
  have hfr := (s.shows row.val (tabGet 0 s.otp.retShadow row.val)).withEvent_fr 228
  refine ⟨_, hrun, ?_, fun r hr => ?_, ?_, hfr.mem rfl, hfr.ports rfl⟩
  · rw [shadow_congr (hfr.otp rfl), State.shows_shadow, if_pos rfl]
  · rw [shadow_congr (hfr.otp rfl), State.shows_shadow, if_neg hr]
  · rw [State.withEvent_src_self]
    rfl

theorem shadowParity_grave (hrow : row.val < 48) (hm : s.mode ≠ .trip) : ∃ u, exec (.shadowParityError row true) s = .next u ∧ u.mode = .hold := by
  have hrun : exec (.shadowParityError row true) s = .next (raiseFault 228 4 {} 1 (fault 8 {} s)) := if_pos hrow
  refine ⟨_, hrun, raiseFault_otp_grave ?_⟩
  rcases holdsAtMost_collects.fault (n := 8) (d := {}) (fun h => by omega) (perEvent_of_plain (by decide) (by decide) {}) s with h | h <;> rw [h]
  · exact hm
  · decide

theorem shadowParity_lost (hrow : 48 ≤ row.val) : ∃ u, exec (.shadowParityError row true) s = .next u ∧ u.shadow row.val = 0 ∧
    ∀ r, r ≠ row.val → u.shadow r = s.shadow r := by
  have hrun : exec (.shadowParityError row true) s = .next (raiseFault 228 2 {} 1 ((fault 8 {} s).shows row.val 0)) :=
    if_neg (Nat.not_lt.mpr hrow)
  have hfault : (fault 8 {} s).otp = s.otp := (fault_fr ..).otp rfl
  have hraise : (raiseFault 228 2 {} 1 ((fault 8 {} s).shows row.val 0)).otp = ((fault 8 {} s).shows row.val 0).otp := (raiseFault_fr ..).otp rfl
  refine ⟨_, hrun, ?_, fun r hr => ?_⟩ <;> rw [shadow_congr hraise, State.shows_shadow]
  · exact if_pos rfl
  · rw [if_neg hr]
    exact shadow_congr hfault r

end

/-! ## Burns by management (R135, R143, R144) -/

/-- The result code of a management burn, with its pulses. -/
def State.burnResult (s : State) (code pulses : Nat) : State :=
  { s with otp := { s.otp with burnCode := BitVec.ofNat 4 code, burnPulses := BitVec.ofNat 3 pulses } }

/-- The burn asked for names a row that may be burnt, or a field. -/
def State.burnNames (s : State) : Prop := s.otp.burnField = true ∨ s.otp.burnRow.toNat < 496

theorem burnNames_iff : (!s.otp.burnField && decide (496 ≤ s.otp.burnRow.toNat)) = false ↔ s.burnNames := by
  unfold State.burnNames
  cases s.otp.burnField <;> simp

theorem doBurn_unnamed (hf : s.otp.burnField = false) (hrow : 496 ≤ s.otp.burnRow.toNat) : doBurn b s = s := by
  unfold doBurn
  exact if_pos (by simp [hf, hrow])

theorem doBurn_elsewhere (h : s.burnNames) (hm : s.mode ≠ .factory) : doBurn b s = s.burnResult 7 0 := by
  unfold doBurn
  rw [burnNames_iff.mpr h, if_neg Bool.false_ne_true, if_pos hm]
  rfl

theorem doBurn_noVpp (h : s.burnNames) (hm : s.mode = .factory) (hv : vppOk b = false) : doBurn b s = s.burnResult 2 0 := by
  unfold doBurn
  rw [burnNames_iff.mpr h, if_neg Bool.false_ne_true, if_neg (by simp [hm]), if_pos (by rw [hv]; rfl)]
  rfl

/-- The data bits of a management burn of a row. -/
def State.burnBits (s : State) : BitVec 56 := BitVec.ofNat 56 (s.otp.burnLo.toNat + 2 ^ 32 * s.otp.burnHi.toNat)

theorem doBurn_row {n : Fin 4} (hm : s.mode = .factory) (hv : vppOk b = true) (ht : s.baseBelow 95 = true) (hf : s.otp.burnField = false)
    (hrow : s.otp.burnRow.toNat < 496) (hp : b.pulses = some n) (hc : isCommitRow s.otp.burnRow.toNat = false)
    (hzero : s.fuseRow s.otp.burnRow.toNat = 0) (hleaf : ¬ (102 ≤ s.otp.burnRow.toNat ∧ s.otp.burnRow.toNat < 134)) :
    doBurn b s = blow s.otp.burnRow.toNat s.burnBits (s.burnResult 1 (n.val + 1)) := by
  have htarget : s.burnTarget = (s.otp.burnRow.toNat, s.burnBits) := by
    unfold State.burnTarget
    rw [hf]
    rfl
  have hblank : s.targetBlank s.otp.burnRow.toNat s.burnBits = true := by
    unfold State.targetBlank State.keyBlank
    rw [if_neg hleaf, if_pos (by omega), hzero]
    rfl
  unfold doBurn
  rw [burnNames_iff.mpr (.inr hrow), htarget]
  dsimp only
  rw [if_neg Bool.false_ne_true, if_neg (fun h => h hm), if_neg (by simp [hv]), if_neg (by simp [ht]), if_neg (by simp [hc]), if_neg (by simp [hblank]), hp]
  rfl

theorem blow_result (key : Nat) (v : BitVec 56) (s : State) :
    (blow key v s).otp.burnCode = s.otp.burnCode ∧ (blow key v s).otp.burnPulses = s.otp.burnPulses := by
  unfold blow
  split <;> exact ⟨rfl, rfl⟩

theorem otpBurn_commits (hc : s.commits (.otpBurn b)) : ∃ m u, exec (.otpBurn b) s = .next u ∧ Fr 131072 (doBurn b { s with mb := m }) u ∧
    u.mb.busy = some (1, s.now) := by
  obtain ⟨m, hpoint, -⟩ := s.pointed_eq (.otpBurn b)
  have hrun : exec (.otpBurn b) s = .next (closeTransfer (beginOp 1 (doBurn b { s with mb := m }))) := by
    rw [← hpoint]
    exact congrArg Outcome.next (commit_of_commits hc)
  have hnow : (doBurn b { s with mb := m }).now = s.now := (doBurn_fr ..).now rfl
  obtain ⟨-, hbusy, -⟩ := closeTransfer_spec (beginOp 1 (doBurn b { s with mb := m }))
  refine ⟨m, _, hrun, (beginOp_fr ..).or (closeTransfer_fr _), hbusy.trans ?_⟩
  exact congrArg (fun n => some (1, n)) hnow

theorem otpBurn_spec (b : BurnTry) (s : State) (hc : s.commits (.otpBurn b)) :
    (s.otp.burnField = false → 496 ≤ s.otp.burnRow.toNat → ∃ u, exec (.otpBurn b) s = .next u ∧ u.otp = s.otp) ∧
    (s.burnNames → s.mode ≠ .factory → ∃ u, exec (.otpBurn b) s = .next u ∧ u.otp = { s.otp with burnCode := 7, burnPulses := 0 } ∧
      u.mb.busy = some (1, s.now) ∧ u.mem = s.mem ∧ u.ports = s.ports) ∧
    (s.burnNames → s.mode = .factory → vppOk b = false → ∃ u, exec (.otpBurn b) s = .next u ∧
      u.otp = { s.otp with burnCode := 2, burnPulses := 0 } ∧ u.mb.busy = some (1, s.now)) ∧
    (∀ n, s.mode = .factory → vppOk b = true → s.baseBelow 95 = true → s.otp.burnField = false → s.otp.burnRow.toNat < 496 →
      b.pulses = some n → isCommitRow s.otp.burnRow.toNat = false → s.fuseRow s.otp.burnRow.toNat = 0 →
      ¬ (102 ≤ s.otp.burnRow.toNat ∧ s.otp.burnRow.toNat < 134) →
      ∃ u, exec (.otpBurn b) s = .next u ∧ u.otp.burnCode = 1 ∧ u.otp.burnPulses.toNat = (n.val + 1) % 8 ∧
        u.fuseRow s.otp.burnRow.toNat = rowBits s.otp.rom.code s.otp.burnRow.toNat s.burnBits ∧
        (∀ r, r ≠ s.otp.burnRow.toNat → u.fuseRow r = s.fuseRow r) ∧ u.otp.fields = s.otp.fields ∧ u.mem = s.mem) := by
  obtain ⟨m, u, hrun, hfr, hbusy⟩ := otpBurn_commits hc
  have hkept : Fr 8192 { s with mb := m } (doBurn b { s with mb := m }) := doBurn_fr ..
  have hotp : u.otp = (doBurn b { s with mb := m }).otp := hfr.otp rfl
  have hmem : u.mem = s.mem := (hkept.or hfr).mem rfl
  refine ⟨fun hf hrow => ⟨u, hrun, ?_⟩, fun hn hm => ⟨u, hrun, ?_, hbusy, hmem, (hkept.or hfr).ports rfl⟩, fun hn hm hv => ⟨u, hrun, ?_, hbusy⟩,
    fun n hm hv ht hf hrow hp hcommit hzero hleaf => ?_⟩
  · rw [hotp, doBurn_unnamed (s := { s with mb := m }) hf hrow]
  · rw [hotp, doBurn_elsewhere (s := { s with mb := m }) hn hm]
    rfl
  · rw [hotp, doBurn_noVpp (s := { s with mb := m }) hn hm hv]
    rfl
  · rw [doBurn_row (s := { s with mb := m }) hm hv ht hf hrow hp hcommit hzero hleaf] at hotp
    obtain ⟨hcode, hpulses⟩ := blow_result s.otp.burnRow.toNat s.burnBits (State.burnResult { s with mb := m } 1 (n.val + 1))
    obtain ⟨hself, hfields⟩ := blow_row (show s.otp.burnRow.toNat < 512 by omega) s.burnBits (State.burnResult { s with mb := m } 1 (n.val + 1))
    have hother := (blow_burnt s.otp.burnRow.toNat s.burnBits (State.burnResult { s with mb := m } 1 (n.val + 1))).rows
    rw [keyRow, if_pos (by omega)] at hother
    have hrows (r : Nat) : u.fuseRow r = (blow s.otp.burnRow.toNat s.burnBits (State.burnResult { s with mb := m } 1 (n.val + 1))).fuseRow r :=
      congrArg (fun o : OtpState => tabGet 0 o.rows r) hotp
    refine ⟨u, hrun, ?_, ?_, ?_, fun r hr => (hrows r).trans (hother r hr), (congrArg OtpState.fields hotp).trans hfields, hmem⟩
    · exact (congrArg OtpState.burnCode hotp).trans hcode
    · rw [hotp]
      exact (congrArg BitVec.toNat hpulses).trans (BitVec.toNat_ofNat ..)
    · refine (hrows _).trans (hself.trans ?_)
      change s.fuseRow s.otp.burnRow.toNat ||| _ = _
      rw [hzero]
      exact BitVec.zero_or

/-! ## Overrides (R142) -/

theorem override_spec (row : Nat) (v : BitVec 56) (s : State) : (override row v s).shadow row = v ∧ row ∈ (override row v s).otp.overridden ∧
    (∀ r, r ≠ row → (override row v s).shadow r = s.shadow r) ∧ (override row v s).otp.rows = s.otp.rows := by
  have hshadow (r : Nat) : (override row v s).shadow r = if r = row then v else s.shadow r := tabGet_tabSet 0 s.otp.shadow row r v
  refine ⟨(hshadow row).trans (if_pos rfl), ?_, fun r hr => (hshadow r).trans (if_neg hr), rfl⟩
  unfold override
  dsimp only
  split
  · next h => exact List.contains_iff_mem.mp h
  · exact List.mem_append_right _ (List.mem_singleton_self row)

theorem tabGet_foldl_resolved (l : List Nat) (f : Nat → BitVec 56) (x : List (Nat × BitVec 56)) (r : Nat) :
    tabGet 0 (l.foldl (fun x r => tabSet 0 x r (f r)) x) r = if r ∈ l then f r else tabGet 0 x r := by
  induction l generalizing x with
  | nil => rfl
  | cons a l ih =>
    rw [List.foldl_cons, ih, tabGet_tabSet]
    by_cases ha : r = a <;> by_cases hl : r ∈ l <;> simp [ha, hl]

theorem applyOverride_commits (hm : s.mode = .factory) (hc : s.commits .applyOverride) (hrow : s.otp.ovrRow.toNat < 480) :
    ∃ u, exec .applyOverride s = .next u ∧ u.mem = s.mem ∧ u.ports = s.ports ∧
      u.shadow s.otp.ovrRow.toNat = BitVec.ofNat 56 (s.otp.ovrLo.toNat + 2 ^ 32 * s.otp.ovrHi.toNat) ∧
      s.otp.ovrRow.toNat ∈ u.otp.overridden ∧ (∀ r, r ≠ s.otp.ovrRow.toNat → u.shadow r = s.shadow r) ∧ u.otp.rows = s.otp.rows := by
  obtain ⟨m, hrun⟩ := exec_short (f := doOverride) hc rfl (fun _ => rfl) (busy_of_fr rfl doOverride_fr)
  have hfr := doOverride_fr { s with mb := m }
  have hdo : doOverride { s with mb := m } = override s.otp.ovrRow.toNat
      (BitVec.ofNat 56 (s.otp.ovrLo.toNat + 2 ^ 32 * s.otp.ovrHi.toNat)) { s with mb := m } := if_pos ⟨hm, hrow⟩
  obtain ⟨hself, hmem, hother, hrows⟩ := override_spec s.otp.ovrRow.toNat (BitVec.ofNat 56 (s.otp.ovrLo.toNat + 2 ^ 32 * s.otp.ovrHi.toNat))
    { s with mb := m }
  rw [← hdo] at hself hmem hother hrows
  exact ⟨_, hrun, hfr.mem rfl, hfr.ports rfl, hself, hmem, hother, hrows⟩

theorem clearOverrides_commits (hm : s.mode = .factory) (hc : s.commits .clearOverrides) :
    ∃ u, exec .clearOverrides s = .next u ∧ u.mem = s.mem ∧ u.ports = s.ports ∧ u.otp.overridden = [] ∧
      (∀ r ∈ s.otp.overridden, u.shadow r = tabGet 0 s.otp.resolved r) ∧ ∀ r, r ∉ s.otp.overridden → u.shadow r = s.shadow r := by
  obtain ⟨m, hrun⟩ := exec_short (f := doClearOverrides) hc rfl (fun _ => rfl) (busy_of_fr rfl doClearOverrides_fr)
  have hfr := doClearOverrides_fr { s with mb := m }
  have hshadow (r : Nat) : (doClearOverrides { s with mb := m }).shadow r =
      if r ∈ s.otp.overridden then tabGet 0 s.otp.resolved r else s.shadow r := by
    unfold doClearOverrides
    rw [if_pos hm]
    exact tabGet_foldl_resolved s.otp.overridden (tabGet 0 s.otp.resolved) s.otp.shadow r
  have hnone : (doClearOverrides { s with mb := m }).otp.overridden = [] := by
    unfold doClearOverrides
    rw [if_pos hm]
  exact ⟨_, hrun, hfr.mem rfl, hfr.ports rfl, hnone, fun r hr => (hshadow r).trans (if_pos hr), fun r hr => (hshadow r).trans (if_neg hr)⟩

/-- Settles O48: antifuses by `afStep_done`, frames by `burnStep_done`, shadows by `shows_shadow`, burns by management by `otpBurn_spec`. -/
theorem burnsBlowOnlyPermittedRows : Obligations.BurnsBlowOnlyPermittedRows := by
  unfold Obligations.BurnsBlowOnlyPermittedRows
  exact ⟨fun t temp e rest i s hjob hopen hq hspare hfree hmay hp => antifuse_first hjob hopen hq hspare hfree hmay hp,
    fun t temp key e v rest s hjob => ⟨antifuse_next hjob, antifuse_failed hjob, antifuse_waits hjob⟩,
    fun t temp s h => State.afMay_of_not h, fun t s h => fieldFrameBurn_off h,
    fun t f key v rest s hmay hheld hjob => ⟨fun hused => (exec_fieldFrameBurn hmay hheld hjob).trans
        (congrArg Outcome.next (burnStep_of_used hjob hused)), fieldFrameBurn_done hjob hmay hheld,
      fun k l hblank hp hkey hfree => fieldFrameBurn_failed hjob hmay hheld hblank hp hkey hfree⟩,
    fun s => ⟨burnResume_cool, burnResume_warm⟩,
    fun row s => ⟨shadowParity_restored row, shadowParity_grave row, shadowParity_lost row⟩, otpBurn_spec,
    fun s hm => ⟨applyOverride_commits hm, clearOverrides_commits hm⟩⟩

end Sys2Proof.Machine
end
